-- ==== Sys2Proof/Word.lean ====
section
/-!
DEFINITION. The word types of the model and its sparse tables (the plainest data the rest is built from).
-/
namespace Sys2Proof

/-- One byte. -/
abbrev Byte := BitVec 8
/-- One 32-bit register word of BAR0 (14 R504). -/
abbrev Word := BitVec 32
/-- A sparse table: keys strictly rising, absent keys not listed. -/
abbrev Tab (α : Type) := List (Nat × α)

end Sys2Proof
end

