-- ==== Sys2Proof/Syntax.lean ====
section
/-!
DEFINITION. The commands of the block: one constructor per row of spec/opcode_table.json, and the operand types they carry.
-/
namespace Sys2Proof

/-- A command as the device reads it from the slots of a mailbox (14 R516): the operand of every opcode command. -/
structure Cmd where
  /-- mailbox that carried it, 0 to 15 -/
  mbx : Nat := 0
  /-- first slot, 0 to 63 -/
  slot : Nat := 0
  /-- TAG, bytes 4 and 5 -/
  tag : BitVec 16 := 0
  /-- LENGTH, bytes 2 and 3 -/
  len : BitVec 16 := 0
  /-- FLAGS, byte 6: EXTRA in [1:0], FENCE in [2] -/
  flags : Byte := 0
  /-- reserved byte 7 -/
  byte7 : Byte := 0
  /-- the parameter area, from parameter byte 0 -/
  params : List Byte := []
  deriving DecidableEq, Repr

/-- The correlators of a channel beside the pilot's prompt (03 R113): early and late on the pilot; early, prompt and late on the data component; the
very-early and very-late pair of E1 and B1C. In-phase and quadrature. -/
structure Taps where
  early : Int × Int := (0, 0)
  late : Int × Int := (0, 0)
  dataEarly : Int × Int := (0, 0)
  dataPrompt : Int × Int := (0, 0)
  dataLate : Int × Int := (0, 0)
  veryEarly : Int × Int := (0, 0)
  veryLate : Int × Int := (0, 0)
  deriving DecidableEq, Repr

/-- What NAV has after a coherent interval of a channel (03 R113, R115, R116, R118): the NCO phases and rates it wrote back and the
detectors it read. -/
structure ChanUpdate where
  /-- code phase within the primary code, LSB 2^-16 chip, and code rate relative to nominal, LSB 2^-16 chip/s -/
  codePhase : Nat := 0
  codeRate : Int := 0
  /-- accumulated carrier phase, LSB 2^-16 cycle, and rate relative to the nominal carrier, LSB 2^-10 Hz -/
  carrPhase : Int := 0
  carrRate : Int := 0
  /-- C/N0, LSB 2^-8 dB-Hz -/
  cn0 : Nat := 0
  /-- prompt correlation -/
  promptI : Int := 0
  promptQ : Int := 0
  /-- the other correlators -/
  taps : Taps := {}
  /-- carrier lock indicator, normalised cos 2 phi, LSB 0.001 -/
  lock : Int := 0
  /-- bit or secondary-code sync, frame sync, half-cycle ambiguity unresolved, FLL settled -/
  bitSync : Bool := false
  frameSync : Bool := false
  halfCycle : Bool := false
  fllSettled : Bool := false
  deriving DecidableEq, Repr
/-- A standalone code solution (03 R123): the least squares that the manual leaves to NAV. -/
structure Standalone where
  /-- ECEF position, LSB 0.1 mm, and the standard deviation of each axis in mm -/
  xyz : Int × Int × Int := (0, 0, 0)
  sigma : Nat := 0
  /-- receiver clock offset against GPS time, Device Time less GPS time, LSB 2^-16 ns, and its standard deviation in ns -/
  clock : Int := 0
  uncert : Nat := 0
  /-- offsets of Galileo, GLONASS and BeiDou from GPS, LSB 0.25 ns -/
  isb : List Int := [0, 0, 0]
  /-- the systems whose satellites contribute to the clock: bit 0 GPS, 1 Galileo, 2 GLONASS, 3 BeiDou -/
  used : Nat := 1
  /-- solved length of the vector between the antennas in mm, where it is solved (04 R166) -/
  vec : Option Nat := none
  deriving DecidableEq, Repr
/-- What a navigation unit completes when it passes its check (03 R125). -/
inductive NavYield where
  /-- nothing complete -/
  | nothing
  /-- a unit that may belong to an ephemeris and clock set: the issue of data that it carries -/
  | ephemeris (iod : Nat)
  /-- a broadcast offset of a system (1 Galileo, 2 GLONASS, 3 BeiDou) from GPS, LSB 0.25 ns -/
  | interSystem (system : Nat) (v : Int)
  /-- TAI - UTC in seconds -/
  | taiUtc (v : Nat)
  /-- a leap announcement: new TAI - UTC and the Device Time second at which it applies -/
  | leap (v sec : Nat)
  deriving DecidableEq, Repr

/-- What the filters of the RTK and pose engine give (04 R141, R147, R151, whose arithmetic the manual leaves to the engine): the
navigation state of the vehicle reference point and its standard deviations. -/
structure Nav where
  /-- latitude, longitude (LSB 10^-12 degree), ellipsoidal height (2^-8 mm) (04 R154) -/
  lat : Int := 0
  lon : Int := 0
  height : Int := 0
  /-- velocity east, north, up, LSB 2^-10 mm/s -/
  ve : Int := 0
  vn : Int := 0
  vu : Int := 0
  /-- acceleration east, north, up, LSB 2^-10 mm/s^2 -/
  ae : Int := 0
  an : Int := 0
  au : Int := 0
  /-- heading (unsigned), pitch, roll, LSB 2^-32 turn -/
  heading : Nat := 0
  pitch : Int := 0
  roll : Int := 0
  /-- their rates, LSB 2^-32 turn/s -/
  headingRate : Int := 0
  pitchRate : Int := 0
  rollRate : Int := 0
  /-- standard deviations: horizontal semi-major axis and up in 2^-8 mm, heading in 2^-32 turn (04 R158) -/
  sigH : Nat := 0
  sigU : Nat := 0
  sigPsi : Nat := 0
  /-- gyro and accelerometer biases in body axes, LSB 10^-9 rad/s and m/s^2 (04 R151) -/
  gyroBias : Int × Int × Int := (0, 0, 0)
  accBias : Int × Int × Int := (0, 0, 0)
  deriving DecidableEq, Repr
/-- What the float filter's update gives for its states (04 R141). -/
structure FloatPost where
  /-- ARP of antenna 0, ECEF, LSB 0.1 mm, and its velocity, LSB 0.1 mm/s -/
  pos : Int × Int × Int := (0, 0, 0)
  vel : Int × Int × Int := (0, 0, 0)
  /-- double-difference ambiguities: SIGNAL, SV, value LSB 2^-16 cycle, variance LSB 10^-6 cycle^2 -/
  ambs : List (Nat × Nat × Int × Nat) := []
  /-- double-difference ionospheric delays: system, SV, delay LSB 0.1 mm, variance -/
  iono : List (Nat × Nat × Int × Nat) := []
  deriving DecidableEq, Repr
/-- The integer least-squares search over one set of ambiguities (04 R144): ratio x 100, bootstrapped success rate (LSB 10^-9), and the integers
in the order of the set. -/
structure SearchRes where
  ratio : Nat := 0
  success : Nat := 0
  ints : List Int := []
  deriving DecidableEq, Repr
/-- The outcome of a measurement epoch in the RTK engine (04 R132 to R148). -/
structure EpochSol where
  /-- epoch t_k, 2^-16 ns -/
  t : Nat
  /-- the state after the update at t_k, propagated to the present -/
  nav : Nav := {}
  /-- what can be formed: 0 nothing, 1 SINGLE, 2 DGNSS, 3 FLOAT (04 R146) -/
  avail : Nat := 1
  /-- attitude is aligned (04 R151) -/
  aligned : Bool := true
  /-- signals (SIGNAL, SV) whose code residual was the worst outlier, in order, and the epoch still fails after two exclusions (04 R159) -/
  excl : List (Nat × Nat) := []
  faulty : Bool := false
  /-- the float filter's states after the update (04 R141) -/
  flt : FloatPost := {}
  /-- the integer search over the full set, then over the sets that drop one satellite more each (04 R144) -/
  search : List SearchRes := []
  /-- sum of the squared normalised carrier residuals of the fixed ambiguities, LSB 0.01 (04 R145) -/
  resid : Nat := 0
  /-- dual-antenna vector: east, north, up in mm, and ratio x 100; none where it is not solved (04 R147) -/
  vec : Option ((Int × Int × Int) × Nat) := none
  /-- speed in mm/s, and the machine moves in reverse (04 R148) -/
  speed : Nat := 0
  reverse : Bool := false
  /-- standard deviation of the velocity, mm/s (04 R148) -/
  sigV : Nat := 0
  deriving DecidableEq, Repr

/-- What a node has sensed on a channel since its last status (08 R304, R305, R319). -/
structure ChanSense where
  /-- the channel -/
  ch : Nat
  /-- pin voltage in mV, filtered over an off-interval of at least 50 us; none without such an interval -/
  offMv : Option Nat := none
  /-- current in mA at the end of the last on-time of at least t_DIAG_MIN; none without one -/
  onMa : Option Nat := none
  /-- pulses of at least 10 us in which both strings fired, and their red and near-infrared integrals -/
  light : Option (Nat × Nat × Nat) := none
  /-- the neighbour-pin test found the channel's neighbour above 0.5 V (08 R315) -/
  neighbour : Bool := false
  deriving DecidableEq, Repr

/-- What a node finds as a command frame passes it (07 R266, R267, R271, R274). -/
structure NodeSense where
  /-- what reached the node from the frame start to the end of its slot, where the wire disturbed it: the low time before the frame, and the high and the low time
  of each symbol of the slot, in ns (07 R258); none where all arrived as it was sent -/
  wire : Option (Nat × List (Nat × Nat)) := none
  /-- arrival of COMMIT less the arrival predicted, ns -/
  phase : Int := 0
  /-- node temperature in degC and supply in 0.1 V -/
  temp : Int := 25
  supply : Nat := 0
  chans : List ChanSense := []
  deriving DecidableEq, Repr

/-- A radio frame as the modem hands it over, its whitening removed (11 R400, R401). -/
structure RadFrame where
  /-- slot and half in which it was received (11 R405) -/
  slot : Nat
  half : Nat := 0
  /-- CRC and TAG as received (11 R400, R403) -/
  crc : Nat := 0
  tag : List Byte := []
  /-- SRC, DST -/
  src : Nat := 0
  dst : Nat := 0xFE
  /-- ACK_REQ, RETX -/
  ackReq : Bool := false
  retx : Bool := false
  /-- SEQ, ACK_SEQ, ACK_MAP -/
  seq : Nat := 0
  ackSeq : Nat := 0
  ackMap : Nat := 0
  /-- PAYLOAD -/
  payload : List Byte := []
  /-- Device Time at which the end of SYNC is captured, 2^-16 ns, RX_DELAY still included (11 R398, R414) -/
  capture : Nat := 0
  /-- received level in dBm -/
  rssi : Int := 0
  deriving DecidableEq, Repr

/-- A Vexlink message as a receiver reassembles it (13 R472): header fields and body. -/
structure VxMsg where
  /-- TYPE (13 R473) -/
  type : Nat
  /-- HOPS as received -/
  hops : Nat := 0
  /-- ORIGIN -/
  origin : Nat
  /-- SEQ -/
  seq : Nat := 0
  /-- ACK_REQ -/
  ackReq : Bool := false
  /-- body bytes; LENGTH is their number -/
  body : List Byte := []
  deriving DecidableEq, Repr
/-- The fields of an IEEE 1588 message that the instance uses (13 R491, R492). -/
structure PtpMsg where
  /-- messageType: 0 Sync, 1 Delay_Req, 2 Pdelay_Req, 3 Pdelay_Resp, 8 Follow_Up, 9 Delay_Resp, 10 Pdelay_Resp_Follow_Up, 11 Announce -/
  type : Nat
  /-- twoStepFlag -/
  twoStep : Bool := false
  /-- sequenceId -/
  seq : Nat := 0
  /-- domainNumber and sdoId -/
  domain : Nat := 0
  sdoId : Nat := 0
  /-- origin, receive or response timestamp, 2^-16 ns -/
  time : Nat := 0
  /-- correctionField, 2^-16 ns -/
  correction : Int := 0
  /-- clockAccuracy of an Announce -/
  accuracy : Nat := 0xFE
  deriving DecidableEq, Repr

/-- What start-up finds outside the state of the device (17 R615): the strap, the PUF, the retained memory's check, the journal. -/
structure Boot where
  /-- HQSPI_SEL at the release of RESET_N: false low, quad-SPI (14 R500) -/
  hqspiHigh : Bool := true
  /-- REF_IN is present and the PLL locks (17 R615 step 2) -/
  refIn : Bool := true
  /-- the reconstructed root matches ROOT_CHECK; else the worst block's errors (15 R539) -/
  pufOk : Bool := true
  pufErrors : Nat := 0
  /-- 255-bit blocks of the reconstruction in which more than 10 % of the bits were corrected (15 R540) -/
  pufBlocks : Nat := 0
  /-- a tamper sensor stands in alarm as SEC reads the tamper state: its code (15 R558) -/
  tamper : Option Nat := none
  /-- regions of retained SRAM whose ECC check fails, one bit per row of 17 R614 -/
  eccFail : Nat := 0
  /-- SEQs of the records of the event ring that are not sound, where the ring fails its check and is rebuilt (17 R630); none where it
  passes -/
  ringBad : Option (List Nat) := none
  /-- the journal mirror is ECC-clean (16 R599) -/
  mirrorClean : Bool := true
  /-- records of the journal whose TAG fails or that are cut short, by SEQ and cause (16 R593) -/
  badRecords : List (Nat × Nat) := []
  /-- duration of the journal scan in ms, where one is made (16 R599) -/
  scanMs : Nat := 0
  /-- bank A and bank B as verified at boot: the cause of 16 R579 where the flash fails the bundle that was written, none where it reads
  back sound -/
  bankA : Option Nat := none
  bankB : Option Nat := none
  /-- the burn of the anti-rollback counter reads back (16 R587) -/
  burnOk : Bool := true
  /-- what the RTC has counted since the restart, 2^-16 ns, as Device Time is loaded from it (02 R60, 17 R614) -/
  rtcRun : Nat := 0
  /-- DRAM fitted, GiB: 0 none, 2 or 4 (06 R232) -/
  dramGiB : Nat := 0
  /-- duration of start-up in ms -/
  ms : Nat := 380
  deriving DecidableEq, Repr

/-- A MANAGE frame's passage: its loop, and whether its checks hold where it is taken (07 R277). -/
structure MgmtPass where
  loop : Nat
  intact : Bool := true
  deriving DecidableEq, Repr
/-- A tamper sensor in alarm: its code as in SEC_TAMPER (0 to 3 mesh loop, 4 shield, 5 VDD_AON, 6 VDD_CORE, 7 temperature, 8 oscillator), and VDD_CORE in mV where the sensor is
its monitor (15 R556, R570, 17 R613). -/
structure TamperSense where
  sensor : Nat
  mv : Nat := 0
  deriving DecidableEq, Repr

/-- The commands of the block: one constructor per row of spec/opcode_table.json, in its order. -/
inductive Instr where
  /-- `TIDE_BOUNDARY` (R83). At each tide boundary the generator signals the cell engine, SAFE, the loops, axes, metering and radio, and the rotating pointers advance. -/
  | tideBoundary
  /-- `COMMIT_DEADLINE` (R172). t_CD: the pace count of the tide and firmware's estimates of capacity at the present VDD_CORE and at 10 mV less -/
  | commitDeadline (pace capacity less : Nat)
  /-- `VDD_AON_RISE` (R636). VDD_AON enters its range after `offMs` ms below its threshold, and the rails follow; `resetHigh`: RESET_N is high when the sequencer releases the rails. -/
  | vddAonRise (offMs : Nat) (resetHigh : Bool)
  /-- `VDD_AON_LOSS` (R606). VDD_AON falls below its power-on threshold and the device goes to OFF. -/
  | vddAonLoss
  /-- `RESET_N` (R644). A low pulse of `lowUs` us; from 1 to 10 us the outside says whether it restarts the device. -/
  | resetN (lowUs : Nat) (taken : Bool)
  /-- `START_UP` (R615). What start-up finds outside the state: see Boot. -/
  | startUp (b : Boot)
  /-- `REF_LOST` (R53). REF_IN is declared lost; cause 0 missing edges, 1 frequency. -/
  | refLost (cause : Nat)
  /-- `REF_RESTORED` (R53). REF_IN has been locked for 100 ms; `lockUs` is the lock time in us. -/
  | refRestored (lockUs : Nat)
  /-- `PPS_IN_CAPTURE` (R76). An edge at PPS_IN_`pin`, `frac` 1/64 ns into the present cycle. -/
  | ppsInCapture (pin : Nat) (falling : Bool) (frac : Nat)
  /-- `SOURCE_TIMEOUT` (R60). The timeout of domain 0 A or 1 B. -/
  | sourceTimeout (dom : Nat)
  /-- `DOMAIN_A_LOCK_HOLD` (R62). In AUTO, domain A has been LOCKED for 10 s and the output returns to it. -/
  | domainALockHold
  /-- `TQ_TEST` (R70). The TQ_LIMIT condition is tested at least once every 1 ms of Device Time. -/
  | tqTest
  /-- `RTC_WRITE` (R61). The RTC is written from Device Time every second once TIME_UNSET is clear. -/
  | rtcWrite
  /-- `PPS_OUT_ARM` (R75). At S - 1 ms the island arms the next PPS output pulse from the counter. -/
  | ppsOutArm (pin : Nat)
  /-- `PPS_OUT_ACTIVE_EDGE` (R72). The PPS output active edge is released at the whole second plus offset. -/
  | ppsOutActiveEdge (pin : Nat)
  /-- `PPS_OUT_INACTIVE_EDGE` (R72). The PPS output returns to inactive after its width. -/
  | ppsOutInactiveEdge (pin : Nat)
  /-- `PPS_IN_MISSING` (R77). No PPS_IN pulse was accepted for 1.5 s. -/
  | ppsInMissing (pin : Nat)
  /-- `CAPTURE_EDGE` (R84). An edge at an input: 0 to 15 GPIO_n, 16 PFW_N; `frac` 1/64 ns into the present cycle. -/
  | captureEdge (input : Nat) (falling : Bool) (frac : Nat)
  /-- `COMPARE_RELEASE` (R85). A compare unit's target falls due and its action is released on the GPIO. -/
  | compareRelease (cu : Nat)
  /-- `COMPARE_PULSE_END` (R85). A compare pulse ends after its width. -/
  | comparePulseEnd (cu : Nat)
  /-- `DELAY_LIST_DELIVERY` (R87). A delay list entry falls due and is delivered to its consumer. -/
  | delayListDelivery (list : Nat)
  /-- `FULL_TARGET_ARM` (R50). The held target of a compare unit, or of a host alarm, comes within 500 ms. -/
  | fullTargetArm (alarm : Bool) (index : Nat)
  /-- `TIDE_PERIOD_CHANGE` (R80). An accepted new tide period takes effect at the next whole second. -/
  | tidePeriodChange
  /-- `TIME_GET` (R91). Returns Device Time, TQ, states and flags sampled in one cycle. -/
  | timeGet (c : Cmd)
  /-- `TIME_DOMAIN_CONFIG` (R90). Configures a time domain's source and servo parameters. -/
  | timeDomainConfig (c : Cmd)
  /-- `TIME_SELECT` (R62). Sets MANUAL or AUTO domain selection. -/
  | timeSelect (c : Cmd)
  /-- `TIME_MEASURE` (R89). Supplies a host offset measurement to a domain with source HOST. -/
  | timeMeasure (c : Cmd)
  /-- `TIME_SET` (R89). Steps both domains and Device Time to a given value while the engine is idle. -/
  | timeSet (c : Cmd)
  /-- `TIME_PPS_OUT_CONFIG` (R72). Configures a PPS output. -/
  | timePpsOutConfig (c : Cmd)
  /-- `TIME_PPS_IN_CONFIG` (R76). Configures a PPS input's edge, cable delay and window. -/
  | timePpsInConfig (c : Cmd)
  /-- `TIME_TIDE_CONFIG` (R80). Requests a new tide period. -/
  | timeTideConfig (c : Cmd)
  /-- `TIME_EPOCH_SET` (R81). Sets the job epoch. -/
  | timeEpochSet (c : Cmd)
  /-- `TIME_HOLDOVER_CONFIG` (R89). Sets step threshold, slew, learn window, ageing bound and TQ limit. -/
  | timeHoldoverConfig (c : Cmd)
  /-- `TIME_CAPTURE_CONFIG` (R89). Assigns an input and edge to a host capture unit. -/
  | timeCaptureConfig (c : Cmd)
  /-- `TIME_CAPTURE_READ` (R89). Reads up to two capture entries of a unit. -/
  | timeCaptureRead (c : Cmd)
  /-- `TIME_COMPARE_ARM` (R92). Arms a compare unit with target, action, width, period and repeat. -/
  | timeCompareArm (c : Cmd)
  /-- `TIME_COMPARE_CANCEL` (R89). Cancels a compare unit and drives its output inactive. -/
  | timeCompareCancel (c : Cmd)
  /-- `TIME_ALARM_SET` (R88). Sets a host alarm at a Device Time target. -/
  | timeAlarmSet (c : Cmd)
  /-- `IF_FRAME_MARKER` (R99). A frame marker on an IF stream at a Device Time (2^-16 ns). -/
  | ifFrameMarker (stream t : Nat)
  /-- `GNSS_IF_LINK_LOST` (R99). Three markers are missing (0), or the code error rate is too high (1). -/
  | gnssIfLinkLost (stream cause : Nat)
  /-- `IF_CLOCK_FAULT` (R99). The marker rate measured over 1 s, as an offset from 1 kHz with the followed domain's rate removed. -/
  | ifClockFault (stream : Nat) (ppb : Int)
  /-- `SPECTRAL_AVERAGE` (R104). A 16 ms average completes: centres (Hz from the LO) and levels over the median (LSB 0.25 dB) of its bins. -/
  | spectralAverage (stream : Nat) (peaks : List (Int × Nat))
  /-- `NOTCH_RELEASE` (R105). An ADAPTIVE notch's bins have stayed low for 1 s. -/
  | notchRelease (stream slot : Nat)
  /-- `NOISE_PROBE_READING` (R107). The noise probe's next reading. -/
  | noiseProbeReading (stream n0 : Nat)
  /-- `JAM_CLEAR` (R108). JI stayed below JAM_WARN - 2 dB for 1 s. -/
  | jamClear (stream : Nat)
  /-- `ACQ_SEARCH_DONE` (R111). An acquisition search ends: peak over the mean in dB, and verification dwells passed of 3. -/
  | acqSearchDone (signal sv ant gloK codePhase : Nat) (carrRate : Int) (peak dwells : Nat)
  /-- `DETECTION_DISCARD` (R111). A queued detection has waited 1 s without a free channel and is discarded. -/
  | detectionDiscard
  /-- `COHERENT_INTERVAL_END` (R113). NAV has closed the loops of a channel. -/
  | coherentIntervalEnd (ch : Nat) (u : ChanUpdate)
  /-- `PULL_IN_TIMEOUT` (R115). A channel has not reached TRACK within 500 ms and passes to REACQ. -/
  | pullInTimeout (ch : Nat)
  /-- `GNSS_SAT_LOST` (R115). A channel was not found within REACQ_WINDOW and returns to IDLE. -/
  | gnssSatLost (ch : Nat)
  /-- `MEASUREMENT_EPOCH` (R120). At each 10 ms epoch the island latches every channel's NCO phases. -/
  | measurementEpoch
  /-- `MEASUREMENT_RECORD` (R120). NAV completes the record: per channel whose time is decoded, the instant, as Device Time in 2^-16 ns, at which
  the satellite sent the start of the code period latched at the epoch; at every 10th epoch a standalone solution. -/
  | measurementRecord (raw : List (Nat × Nat)) (sol : Option Standalone)
  /-- `NAV_UNIT_DECODED` (R124). A navigation unit is decoded: whether forward error correction, where the message has it, succeeded; its bits are then checked. -/
  | navUnitDecoded (ch unitType : Nat) (fecOk : Bool) (firstBit bits : Nat) (payload : List Byte) (y : NavYield)
  /-- `BURST_START` (R127). In NEAP, PD_NAV powers up for a tracking burst. -/
  | burstStart
  /-- `BURST_END` (R127). BURST_ON has passed: the burst is extended once, or ends with its record and standalone solution. -/
  | burstEnd (raw : List (Nat × Nat)) (sol : Option Standalone)
  /-- `GNSS_CONFIG` (R129). Sets systems, signals, antennas and masks for automatic allocation. -/
  | gnssConfig (c : Cmd)
  /-- `GNSS_STATUS` (R129). Returns stream states, JI, channel counts and notch modes. -/
  | gnssStatus (c : Cmd)
  /-- `GNSS_FRONTEND_SET` (R103). Sets an antenna's cable delay and optionally its front-end block. -/
  | gnssFrontendSet (c : Cmd)
  /-- `GNSS_ASSIST` (R129). `iod` is the issue of data that a unit of kind 3 carries where its system's interface specification puts it. -/
  | gnssAssist (c : Cmd) (iod : Nat)
  /-- `GNSS_CHANNEL_REQUEST` (R119). Assigns a free channel to a host-named signal. -/
  | gnssChannelRequest (c : Cmd)
  /-- `GNSS_CHANNEL_RELEASE` (R129). Releases a host-held channel. -/
  | gnssChannelRelease (c : Cmd)
  /-- `GNSS_MEAS_SUBSCRIBE` (R121). Subscribes to measurement records at a decimation. -/
  | gnssMeasSubscribe (c : Cmd)
  /-- `GNSS_NAV_SUBSCRIBE` (R126). Subscribes to navigation records. -/
  | gnssNavSubscribe (c : Cmd)
  /-- `GNSS_NOTCH_CONFIG` (R105). Sets a notch slot's mode, centre and bandwidth. -/
  | gnssNotchConfig (c : Cmd)
  /-- `GNSS_LOOP_CONFIG` (R114). Sets the tracking loop parameters for a signal. -/
  | gnssLoopConfig (c : Cmd)
  /-- `GNSS_RESTART` (R129). Restarts the receiver cold, warm or hot. -/
  | gnssRestart (c : Cmd)
  /-- `GNSS_BURST_CONFIG` (R127). Sets NEAP burst period and length. -/
  | gnssBurstConfig (c : Cmd)
  /-- `GNSS_ACQ_CONFIG` (R129). Sets acquisition threshold, REF_UNC, REACQ_WINDOW and jamming thresholds. -/
  | gnssAcqConfig (c : Cmd)
  /-- `RTK_EPOCH_SOLUTION` (R132). The engine's outcome for a measurement epoch reaches the pose state. -/
  | rtkEpochSolution (sol : EpochSol)
  /-- `POSE_EPOCH_LATE` (R133). A measurement epoch (2^-16 ns) whose solution is not applied by t_k + 5 ms. -/
  | poseEpochLate (epoch : Nat)
  /-- `RTCM_FRAME` (R138). The engine takes the next RTCM 3 frame: from S_0 (host) or from the fleet radio. -/
  | rtcmFrame (host : Bool)
  /-- `CORR_STALE` (R140). Corrections age beyond CORR_AGE_LIMIT and the solution falls to SINGLE. -/
  | corrStale
  /-- `IMU_SAMPLE` (R150). An IMU_DRDY edge: the bytes read by all transactions, and the state that the filter propagates to. -/
  | imuSample (read : List Byte) (nav : Nav)
  /-- `IMU_LOST` (R150). No IMU sample arrived for 3 nominal periods. -/
  | imuLost
  /-- `POSE_DR_START` (R161). No epoch applied for 30 ms and the solution passes to DR. -/
  | poseDrStart
  /-- `POSE_DR_LIMIT` (R161). DR time exceeds DR_LIMIT and INTEGRITY_OK clears. -/
  | poseDrLimit
  /-- `BASE_SURVEY_FAILED` (R165). 24 h passed in SURVEYING without meeting SURVEY_ACC. -/
  | baseSurveyFailed
  /-- `CORRECTION_INTERVAL` (R167). A correction interval begins. `hdr`: what RTCM leaves to the receiver in an MSM header: IODS in bits 8 to 10, clock steering in 6 and 7, external clock in 4 and 5,
  smoothing in 0 to 3. -/
  | correctionInterval (hdr : Nat)
  /-- `STATION_INTERVAL` (R167). The station interval has passed; the body of message 1230 after its station ID. -/
  | stationIntervalDue (biases : List Byte)
  /-- `POSE_INSTALL_SET` (R136). Sets antenna and IMU lever arms, rotations and presence. -/
  | poseInstallSet (c : Cmd)
  /-- `POSE_FILTER_CONFIG` (R168). Sets fix validation and baseline parameters. -/
  | poseFilterConfig (c : Cmd)
  /-- `POSE_INTEGRITY_CONFIG` (R168). Sets protection and integrity limits. -/
  | poseIntegrityConfig (c : Cmd)
  /-- `POSE_IMU_CONFIG` (R149). Configures the IMU interface, scaling, axes and noise model. -/
  | poseImuConfig (c : Cmd)
  /-- `POSE_IMU_READ_SET` (R149). Sets one IMU read transaction. -/
  | poseImuReadSet (c : Cmd)
  /-- `POSE_CORR_CONFIG` (R139). Sets the correction source, age limit and station. -/
  | poseCorrConfig (c : Cmd)
  /-- `POSE_STATUS` (R168). Returns solution, integrity and correction status. -/
  | poseStatus (c : Cmd)
  /-- `POSE_SUBSCRIBE` (R153). Subscribes to pose records. -/
  | poseSubscribe (c : Cmd)
  /-- `POSE_AT` (R155). Returns the extrapolated pose of a lever arm at an instant. -/
  | poseAt (c : Cmd)
  /-- `POSE_RESET` (R168). Resets ambiguities, or the whole fused state and alignment. -/
  | poseReset (c : Cmd)
  /-- `POSE_PCV_LOAD` (R136). Loads a phase-centre variation table. -/
  | posePcvLoad (c : Cmd)
  /-- `BASE_REF_SET` (R164). Writes the base ARP coordinates and enters SET. -/
  | baseRefSet (c : Cmd)
  /-- `BASE_SURVEY_START` (R165). Starts a survey of the base reference. -/
  | baseSurveyStart (c : Cmd)
  /-- `BASE_CORR_CONFIG` (R167). Sets correction and station intervals and the monitor limit. -/
  | baseCorrConfig (c : Cmd)
  /-- `POSE_CORR_SUBSCRIBE` (R168). Copies emitted or accepted RTCM frames to S_1. -/
  | poseCorrSubscribe (c : Cmd)
  /-- `POSE_NMEA_SUBSCRIBE` (R168). Subscribes to NMEA 0183 sentences. -/
  | poseNmeaSubscribe (c : Cmd)
  /-- `POSE_BATCH` (R202). A pose extrapolation batch for one instant completes. -/
  | poseBatch (instant : Nat)
  /-- `CELL_EVAL` (R187). The cells of one node are evaluated; errors: layer, TX, TY, word of uncorrectable errors met in the tile cache -/
  | cellEval (loop pos : Nat) (errors : List (Nat × Int × Int × Nat))
  /-- `FRAME_PACK` (R202). A loop's frame is packed from its CELL_EVAL results. -/
  | framePack (loop : Nat)
  /-- `COMMIT_GATE` (R202). Every frame of the tide is packed and the commit gate completes. -/
  | commitGate
  /-- `WRITEBACK` (R248). A write-back task credits coverage to one tile for a committed tide. -/
  | writeback (tx ty : Int)
  /-- `CELL_MANUAL_END` (R201). A CELL_MANUAL's duration ends and its channel returns to OFF. -/
  | cellManualEnd (cell : Nat)
  /-- `CELL_ADD` (R176). Allocates the lowest free cell entry. -/
  | cellAdd (c : Cmd)
  /-- `CELL_WRITE` (R180). Rewrites a cell entry. -/
  | cellWrite (c : Cmd)
  /-- `CELL_READ` (R176). Returns a cell entry. -/
  | cellRead (c : Cmd)
  /-- `CELL_REMOVE` (R180). Removes a cell. -/
  | cellRemove (c : Cmd)
  /-- `CELL_ENGINE_CONFIG` (R216). Sets V_MIN, corridor check, slack and VDD limits. -/
  | cellEngineConfig (c : Cmd)
  /-- `CELL_SPOT` (R198). Places a spot interval on a cell. -/
  | cellSpot (c : Cmd)
  /-- `CELL_SPOT_CANCEL` (R215). Cancels a pending spot by token. -/
  | cellSpotCancel (c : Cmd)
  /-- `CELL_MANUAL` (R201). Drives one cell's channel in a mode for a duration without a job. -/
  | cellManual (c : Cmd)
  /-- `CELL_STATS` (R215). Returns engine statistics. -/
  | cellStats (c : Cmd)
  /-- `CELL_TRACE_SUBSCRIBE` (R204). Subscribes to trace records every k-th tide. -/
  | cellTraceSubscribe (c : Cmd)
  /-- `CELL_FAULT_CLEAR` (R212). Ends CELL_LATE_RUN if the last 64 tides were on time in shadow. -/
  | cellFaultClear (c : Cmd)
  /-- `RASTER_JOB_CLOSED` (R220). A CLOSING job's last frame, write-back and flush complete and it returns to DEFINED. -/
  | rasterJobClosed
  /-- `TILE_PACKET` (R236). A TILE packet on S_0 is checked and its plane installed in DRAM. -/
  | tilePacket
  /-- `PLANE_LOAD_APPLY` (R236). An installed plane takes effect in an open job at the first boundary after installation. -/
  | planeLoadApply
  /-- `SNAPSHOT_SEND` (R239). A save or export takes a plane's snapshot once S_1 has room and sends its packets. -/
  | snapshotSend
  /-- `WANT_TEST` (R241). Every 100 ms the device tests for absent planes near the vehicle and sends WANT records. -/
  | wantTest
  /-- `TILE_FILL` (R246). A fill of a plane from DRAM completes, for a task or as prefetch; an 8-byte word of the DRAM copy in which an uncorrectable error was found. -/
  | tileFill (layer : Nat) (tx ty : Int) (byTask : Bool) (waitNs : Nat) (bad : Option Nat)
  /-- `FLUSH_INTERVAL` (R247). A dirty plane reaches FLUSH_INTERVAL and is written to DRAM. -/
  | flushInterval
  /-- `DELTA_APPLY` (R250). A received coverage delta is applied at the first boundary after receipt. -/
  | deltaApply
  /-- `TILE_DROP_APPLY` (R242). A drop in an open job takes effect at the next boundary. -/
  | tileDropApply
  /-- `RASTER_JOB_DEFINE` (R221). Defines a job. -/
  | rasterJobDefine (c : Cmd)
  /-- `RASTER_JOB_OPEN` (R222). Arms a defined job with the epoch and period in force. -/
  | rasterJobOpen (c : Cmd)
  /-- `RASTER_JOB_CLOSE` (R223). Starts closing an open job. -/
  | rasterJobClose (c : Cmd)
  /-- `RASTER_JOB_DISCARD` (R224). Frees every plane of a defined job. -/
  | rasterJobDiscard (c : Cmd)
  /-- `RASTER_JOB_STATUS` (R254). Returns the job status. -/
  | rasterJobStatus (c : Cmd)
  /-- `RASTER_TILE_SAVE` (R239). Starts a save of chosen planes. -/
  | rasterTileSave (c : Cmd)
  /-- `RASTER_EXPORT` (R240). Starts an export of planes. -/
  | rasterExport (c : Cmd)
  /-- `RASTER_TILE_DROP` (R242). Frees chosen planes of a rectangle. -/
  | rasterTileDrop (c : Cmd)
  /-- `RASTER_LOAD_STATUS` (R252). Returns load counts and the last rejection. -/
  | rasterLoadStatus (c : Cmd)
  /-- `RASTER_CACHE_STATUS` (R252). Returns tile cache status. -/
  | rasterCacheStatus (c : Cmd)
  /-- `RASTER_QUERY` (R252). Returns a layer value at a point. -/
  | rasterQuery (c : Cmd)
  /-- `RASTER_WANT_SUBSCRIBE` (R241). Turns WANT records on or off. -/
  | rasterWantSubscribe (c : Cmd)
  /-- `COMMAND_FRAME_SEND` (R264). A loop's command frame is sent so that its COMMIT ends on the boundary. -/
  | commandFrameSend (loop : Nat)
  /-- `RETURNED_FRAME` (R286). A loop's returned frame arrives at KR_n: the transit of its COMMIT in ns and, by position, the bits of statuses that the wire inverted -/
  | returnedFrame (loop transit : Nat) (noise : List (Nat × Nat))
  /-- `KNANI_RETURN_MISSING` (R286). The returned frame is missing or malformed; silent: nothing at KR_n -/
  | knaniReturnMissing (loop : Nat) (silent : Bool)
  /-- `BREAK_FRAME` (R286). A BREAK frame arrives and the loop becomes BROKEN. -/
  | breakFrame (loop : Nat)
  /-- `MANAGE_FRAME` (R277). A MANAGE frame returns at KR_n with its result; `p`: its loop, and whether its DATA_CRC holds -/
  | manageFrame (p : MgmtPass)
  /-- `SEGMENT_REMEASURE` (R275). A segment, or every segment, is measured again: the round trip of its echo in ns -/
  | segmentRemeasure (loop : Nat) (rts : List Nat)
  /-- `ENUMERATE_RETURN` (R276). ENUMERATE returns: round trips of the segments' echoes and transit in ns, findings of the neighbour-pin tests by position -/
  | enumerateReturn (loop : Nat) (rts : List Nat) (transit : Nat) (masks : List Nat)
  /-- `ENUM_TIMEOUT` (R276). No ENUMERATE within 1 ms, or (returned) not complete within 10 s -/
  | enumTimeout (loop : Nat) (returned : Bool)
  /-- `WATCHDOG_PERIOD_RESTORE` (R279). One second after a new period, WATCHDOG_PERIOD is written equal to PERIOD. -/
  | watchdogPeriodRestore (loop : Nat)
  /-- `ID_BUS_TRANSACTION` (R284). The transaction under way on an identity bus ends: the memory's answer (DATA, or RESULT of a WRITE), none within 1 ms; the CRC-16 that follows DATA -/
  | idBusTransaction (bus : Nat) (answer : Option (List Byte)) (crc : Nat)
  /-- `NODE_COMMAND_FRAME` (R266). A node takes its slot from a command frame and returns its status in its place. -/
  | nodeCommandFrame (loop pos : Nat) (x : NodeSense)
  /-- `NODE_LATCH` (R273). A node latches its commands so its pins change on the boundary. -/
  | nodeLatch (loop pos : Nat)
  /-- `FAILSAFE_COMMIT` (R269). A node sees no COMMIT within its watchdog and turns every channel OFF. -/
  | failsafeCommit (loop pos : Nat)
  /-- `NODE_BREAK_ORIGINATE` (R285). A node whose input stayed low for 100 us originates a BREAK frame. -/
  | nodeBreakOriginate (loop pos : Nat)
  /-- `LIFE_COUNT_CHECK` (R324). Every second the device reads life counts and saves life areas that advanced enough. -/
  | lifeCountCheck
  /-- `MODULE_HEADER_READ` (R327). A module's header is read: its memory, none where it gives no answer -/
  | moduleHeaderRead (loop pos chan : Nat) (record : Option (List Byte))
  /-- `KNANI_LOOP_START` (R276). Enumerates a loop. -/
  | knaniLoopStart (c : Cmd)
  /-- `KNANI_LOOP_STOP` (R290). Holds a loop in wire reset. -/
  | knaniLoopStop (c : Cmd)
  /-- `KNANI_LOOP_RESTORE` (R288). Re-enumerates a BROKEN loop. -/
  | knaniLoopRestore (c : Cmd)
  /-- `KNANI_LOOP_STATUS` (R291). Returns loop status. -/
  | knaniLoopStatus (c : Cmd)
  /-- `KNANI_NODE_STATUS` (R290). Returns a node's last status and timing. -/
  | knaniNodeStatus (c : Cmd)
  /-- `KNANI_ID_READ` (R290). Reads an identity memory. -/
  | knaniIdRead (c : Cmd)
  /-- `KNANI_ID_WRITE` (R283). Writes the user area of an identity memory. -/
  | knaniIdWrite (c : Cmd)
  /-- `KNANI_TIMING_MEASURE` (R290). Starts a full loop re-measurement. -/
  | knaniTimingMeasure (c : Cmd)
  /-- `KNANI_NODE_RESUME` (R270). Returns a failsafe node to service. -/
  | knaniNodeResume (c : Cmd)
  /-- `CHANNEL_CONFIG` (R299). Writes a channel's configuration. -/
  | channelConfig (c : Cmd)
  /-- `CHANNEL_STATUS` (R330). Returns a channel's record. -/
  | channelStatus (c : Cmd)
  /-- `CHANNEL_FAULT_CLEAR` (R306). Clears a latched channel fault. -/
  | channelFaultClear (c : Cmd)
  /-- `CHANNEL_NEIGHBOUR_TEST` (R315). Starts a neighbour-pin short test. -/
  | channelNeighbourTest (c : Cmd)
  /-- `CHANNEL_EXPOSURE_SET` (R314). Sets a camera exposure window. -/
  | channelExposureSet (c : Cmd)
  /-- `CHANNEL_DIAG_CONFIG` (R329). Sets DIAG_STALE_TIDES and EOL_POLICY. -/
  | channelDiagConfig (c : Cmd)
  /-- `CHANNEL_LIFE_READ` (R329). Returns a channel module's life data. -/
  | channelLifeRead (c : Cmd)
  /-- `MOVE_START` (R341). A move or re-plan takes effect at its START instant. -/
  | moveStart (axis : Nat)
  /-- `SET_POINT_RELEASE` (R339). The axis generator releases its next set-point, `off` ns from its instant, at most 50 either way. -/
  | setPointRelease (axis : Nat) (off : Int)
  /-- `AXIS_PLAN_STARVED` (R338). The stop tail begins before a plan extension and the axis stops with cause STARVED. -/
  | axisPlanStarved (axis : Nat)
  /-- `CHOPPER_CYCLE` (R347). SNS in mV at the end of blanking, and when the current reaches the reference, ns into the on-phase, if it does. -/
  | chopperCycle (axis : Nat) (windingB : Bool) (snsMv : Nat) (reach : Option Nat)
  /-- `STANDSTILL_TIMER` (R349). T_STANDSTILL expires and I_SET ramps to I_HOLD. -/
  | standstillTimer (axis : Nat)
  /-- `LIMIT_DEBOUNCED_EDGE` (R352). Input LIM_HI or LIM_LO has held a level for 2 ms; `raw`: Device Time of the raw transition, 2^-16 ns. -/
  | limitDebouncedEdge (axis : Nat) (hi high : Bool) (raw : Nat)
  /-- `REVERSE_DWELL` (R341). The reversal dwell ends and the axis starts the opposite way. -/
  | reverseDwell (axis : Nat)
  /-- `HOME_TIMEOUT` (R357). HOME_TIMEOUT expires and homing ends with HOMING_FAIL. -/
  | homeTimeout (axis : Nat)
  /-- `AXIS_CONFIG` (R360). Sets an axis's profile parameters. -/
  | axisConfig (c : Cmd)
  /-- `AXIS_DRIVE_CONFIG` (R361). Sets an axis's drive and chopper parameters. -/
  | axisDriveConfig (c : Cmd)
  /-- `AXIS_LIMIT_CONFIG` (R352). Sets the limit inputs. -/
  | axisLimitConfig (c : Cmd)
  /-- `AXIS_MOVE` (R340). Commands a move or re-plan. -/
  | axisMove (c : Cmd)
  /-- `AXIS_STOP` (R343). Stops an axis at D. -/
  | axisStop (c : Cmd)
  /-- `AXIS_RESUME` (R344). Resumes a stopped axis to its kept target. -/
  | axisResume (c : Cmd)
  /-- `AXIS_HOME` (R355). Starts a homing sequence. -/
  | axisHome (c : Cmd)
  /-- `AXIS_ENABLE` (R350). Enables or disables an axis. -/
  | axisEnable (c : Cmd)
  /-- `AXIS_SET_POSITION` (R358). Sets POSITION and optionally HOMED. -/
  | axisSetPosition (c : Cmd)
  /-- `AXIS_STATUS` (R362). Returns axis status. -/
  | axisStatus (c : Cmd)
  /-- `AXIS_FAULT_CLEAR` (R354). Clears an axis FAULT. -/
  | axisFaultClear (c : Cmd)
  /-- `CONVERSION_FRAME` (R366). A frame of conversions: the raw samples of sources 0 to 19 -/
  | conversionFrame (raws : List Int)
  /-- `ALIGNED_SAMPLE` (R367). The aligned samples of an instant: source and interpolated sample (raw LSB; for SUP_SNS_n 2^-8 mV at the pin) -/
  | alignedSample (instant : Nat) (vals : List (Nat × Int))
  /-- `SUPPLY_VALUE` (R375). A supply window or half-cycle ends; rising: at a positive-going crossing -/
  | supplyValue (source start stop : Nat) (rising : Bool)
  /-- `INTERVAL_LATCH` (R378). A latch instant closes a source's interval and its record is formed. -/
  | intervalLatch (source : Nat)
  /-- `SYNTHETIC_CROSSING` (R377). A LINE schedule latches at a synthetic crossing after LINE_REF stops crossing. -/
  | syntheticCrossing (lineRef : Nat)
  /-- `RECORD_RING_SEND` (R382). Held interval records are sent once S_1 has room. -/
  | recordRingSend
  /-- `METER_SAVE` (R386). Every SAVE_INTERVAL a METER_SAVE record is journalled. -/
  | meterSave
  /-- `METER_SAVE_LATE` (R386). A save not complete within 100 ms is abandoned. -/
  | meterSaveLate
  /-- `METER_CHANNEL_CONFIG` (R393). Configures a MET channel. -/
  | meterChannelConfig (c : Cmd)
  /-- `METER_SUPPLY_CONFIG` (R394). Configures a supply input. -/
  | meterSupplyConfig (c : Cmd)
  /-- `METER_LATCH_CONFIG` (R392). Sets N_T, N_L and LINE_REF. -/
  | meterLatchConfig (c : Cmd)
  /-- `METER_READ` (R392). Returns a source's totals. -/
  | meterRead (c : Cmd)
  /-- `METER_SUBSCRIBE` (R382). Subscribes to interval records. -/
  | meterSubscribe (c : Cmd)
  /-- `METER_BILL_OPEN` (R383). Opens a billing period. -/
  | meterBillOpen (c : Cmd)
  /-- `METER_BILL_CLOSE` (R383). Closes the billing period at each source's next latch. -/
  | meterBillClose (c : Cmd)
  /-- `METER_SAVE_CONFIG` (R392). Sets SAVE_INTERVAL and HOLDUP_MAX. -/
  | meterSaveConfig (c : Cmd)
  /-- `METER_SAMPLE` (R392). Streams corrected samples of a source. -/
  | meterSample (c : Cmd)
  /-- `SLOT_START` (R405). A radio slot or half-slot starts and the device transmits, listens or retunes. -/
  | slotStart (slot half : Nat)
  /-- `BEACON` (R408). A rover receives an authenticated beacon and updates radio time, stop, map and corridor decisions. -/
  | beacon (f : RadFrame)
  /-- `CORR_FRAME` (R411). A rover receives a CORR fragment and reassembles RTCM frames. -/
  | corrFrame (f : RadFrame)
  /-- `STOP_FRAME` (R412). A rover receives an authenticated STOP frame, a stop source. -/
  | stopFrame (f : RadFrame)
  /-- `DATA` (R421). A rover receives a DATA frame carrying a message fragment. -/
  | data (f : RadFrame)
  /-- `ACK_FRAME` (R422). A rover receives an ACK frame acknowledging its fragments. -/
  | ackFrame (f : RadFrame)
  /-- `UPLINK` (R421). The base receives a rover's UPLINK with status and fragment. -/
  | uplink (f : RadFrame)
  /-- `JOIN_REQ` (R418). The base receives a JOIN_REQ and assigns or refuses an address. -/
  | joinReq (f : RadFrame)
  /-- `JOIN_RESP` (R417). A rover receives a JOIN_RESP matching its nonce. -/
  | joinResp (f : RadFrame)
  /-- `SERVICE_REQ` (R426). The base receives a SERVICE_REQ and answers STATUS or passes HOST to its host. -/
  | serviceReq (f : RadFrame)
  /-- `SERVICE_RESP` (R426). A requester receives a SERVICE_RESP matched by token. -/
  | serviceResp (f : RadFrame)
  /-- `FLEET_BEACON_MISSED` (R424). The end of slot 0 of the next superframe without a valid beacon; cause 0 nothing, 1 CRC, 2 tag, 3 outside window. -/
  | fleetBeaconMissed (cause : Nat)
  /-- `JOIN_RETRY` (R417). The join back-off expires and the rover sends another JOIN_REQ. -/
  | joinRetry
  /-- `SUP_TIMEOUT` (R419). No uplink from a rover for SUP_TIMEOUT superframes and its address is released. -/
  | supTimeout (address : Nat)
  /-- `MESSAGE_REASSEMBLY_TIMEOUT` (R421). A message not complete within 16 superframes is discarded. -/
  | messageReassemblyTimeout (peer port msgId : Nat)
  /-- `FLEET_SERVICE_TIMEOUT` (R426). No service reply within 6 superframes. -/
  | fleetServiceTimeout
  /-- `SEARCH_CHANNEL_TIMEOUT` (R416). A searching rover moves to the next channel after m + 1 superframes. -/
  | searchChannelTimeout
  /-- `RADIO_MSG_PACKET` (R421). A RADIO_MSG packet from the host is queued for its peer. -/
  | radioMsgPacket
  /-- `FLEET_RADIO_CONFIG` (R430). Configures the radio. -/
  | fleetRadioConfig (c : Cmd)
  /-- `FLEET_XCVR_SCRIPT` (R399). Loads a transceiver script. -/
  | fleetXcvrScript (c : Cmd)
  /-- `FLEET_BASE_START` (R429). Starts beaconing at the base. -/
  | fleetBaseStart (c : Cmd)
  /-- `FLEET_BASE_STOP` (R429). Stops the base's fleet service. -/
  | fleetBaseStop (c : Cmd)
  /-- `FLEET_BASE_SET` (R429). Changes base fleet settings. -/
  | fleetBaseSet (c : Cmd)
  /-- `FLEET_CHANNEL_MAP` (R409). Starts a channel map change countdown. -/
  | fleetChannelMap (c : Cmd)
  /-- `FLEET_ROVER_RELEASE` (R419). Releases a rover address. -/
  | fleetRoverRelease (c : Cmd)
  /-- `FLEET_ROVER_INFO` (R429). Returns a joined rover's data. -/
  | fleetRoverInfo (c : Cmd)
  /-- `FLEET_JOIN` (R416). Starts the rover's join by search. -/
  | fleetJoin (c : Cmd)
  /-- `FLEET_LEAVE` (R420). Leaves the fleet. -/
  | fleetLeave (c : Cmd)
  /-- `FLEET_RECOVER` (R425). Recovers from FLEET_LOST. -/
  | fleetRecover (c : Cmd)
  /-- `FLEET_STATUS` (R429). Returns radio status. -/
  | fleetStatus (c : Cmd)
  /-- `FLEET_SERVICE_SEND` (R426). Sends a service request. -/
  | fleetServiceSend (c : Cmd)
  /-- `FLEET_SERVICE_REPLY` (R426). Sends the host's reply to a service request. -/
  | fleetServiceReply (c : Cmd)
  /-- `CORRIDOR_BATCH` (R440). The base decides the superframe's corridor requests, releases, blocks and revocations. -/
  | corridorBatch
  /-- `REQ` (R439). A REQ message (with its TYPE byte) of a rover is complete at the base. -/
  | req (address : Nat) (body : List Byte)
  /-- `RELEASE` (R439). A RELEASE message (with its TYPE byte) of a rover is complete at the base. -/
  | release (address : Nat) (body : List Byte)
  /-- `FRAME` (R439). A FRAME message (with its TYPE byte) is complete at a rover. -/
  | frame (body : List Byte)
  /-- `REQ_TIMEOUT` (R447). A PENDING entry has no decision within REQ_TIMEOUT and is freed. -/
  | reqTimeout (index : Nat)
  /-- `CORRIDOR_REQUEST` (R447). Requests a corridor from the base. -/
  | corridorRequest (c : Cmd)
  /-- `CORRIDOR_RELEASE` (R460). Frees a rover entry and releases a grant. -/
  | corridorRelease (c : Cmd)
  /-- `CORRIDOR_LOCAL_SET` (R447). Writes a local corridor. -/
  | corridorLocalSet (c : Cmd)
  /-- `CORRIDOR_CONFIG` (R460). Sets R_IMPL, WARN_TIME and REQ_TIMEOUT. -/
  | corridorConfig (c : Cmd)
  /-- `CORRIDOR_READ` (R436). Returns a corridor entry. -/
  | corridorRead (c : Cmd)
  /-- `CORRIDOR_SERVICE_CONFIG` (R438). Enables the base corridor service and sets the fleet origin. -/
  | corridorServiceConfig (c : Cmd)
  /-- `CORRIDOR_RANK_SET` (R441). Sets a rover's rank. -/
  | corridorRankSet (c : Cmd)
  /-- `CORRIDOR_BLOCK` (R443). Places a keep-out block at the next batch. -/
  | corridorBlock (c : Cmd)
  /-- `CORRIDOR_REVOKE` (R443). Revokes an entry at the next batch. -/
  | corridorRevoke (c : Cmd)
  /-- `CORRIDOR_STATUS` (R460). Returns corridor status. -/
  | corridorStatus (c : Cmd)
  /-- `STOP_IN_REGISTER` (R452). The inputs that have been low for 10 us. -/
  | stopInRegister (aLow bLow : Bool)
  /-- `STOP_IN_RELEASE` (R452). Both STOP_IN inputs high for 20 ms end source 0. -/
  | stopInRelease
  /-- `STOP_DISCREPANCY` (R452). `b`: STOP_IN_B is the low one. -/
  | stopDiscrepancy (b : Bool)
  /-- `VEXLINK_STOP_TIMEOUT` (R452). Three tides pass without a stop message and source 3 ends. -/
  | vexlinkStopTimeout
  /-- `STOP_STATUS` (R463). Returns the stop state. -/
  | stopStatus (c : Cmd)
  /-- `STOP_CLEAR` (R453). Clears a LATCHED stop. -/
  | stopClear (c : Cmd)
  /-- `STOP_CONFIG` (R463). Sets ACCEPT and FORWARD ports. -/
  | stopConfig (c : Cmd)
  /-- `SYMBOL_LOCK` (R468). A Vexlink receiver holds symbol lock for 1 ms and the port enters MEASURING. -/
  | symbolLock (port : Nat)
  /-- `VX_LINK_DOWN` (R468). cause 0 no valid block or idle set for 2 us, 1 code errors. -/
  | vxLinkDown (port cause : Nat)
  /-- `STOP_MESSAGE` (R456). A STOP message is received, forwarded once and activates source 3 on a new epoch. -/
  | stopMessage (port : Nat) (m : VxMsg)
  /-- `POSE_MESSAGE` (R480). A follower receives the pose reference and commit alignment and arms its tide. -/
  | poseMessage (port : Nat) (m : VxMsg)
  /-- `TIME_MESSAGE` (R478). `frac` 1/64 ns into the present cycle. -/
  | timeMessage (port : Nat) (m : VxMsg) (frac : Nat)
  /-- `DELAY_REQ` (R477). A neighbour's DELAY_REQ is answered with DELAY_RESP. -/
  | delayReq (port : Nat) (origin : Nat) (frac : Nat)
  /-- `DELAY_RESP` (R477). A DELAY_RESP yields a link delay value. -/
  | delayResp (port : Nat) (m : VxMsg) (frac : Nat)
  /-- `ACK_MESSAGE` (R476). A Vexlink ACK acknowledges reliable messages on a link. -/
  | ackMessage (port : Nat) (m : VxMsg)
  /-- `COVERAGE_DELTA` (R250). A coverage delta from a peer is received for application. -/
  | coverageDelta (port : Nat) (m : VxMsg)
  /-- `HOST_MSG` (R473). A host message is received, delivered and forwarded. -/
  | hostMsg (port : Nat) (m : VxMsg)
  /-- `CORR_MESSAGE` (R473). A Vexlink CORR message is delivered to the host. -/
  | corrMessage (port : Nat) (m : VxMsg)
  /-- `DELAY_REQ_TIMER` (R477). Every 100 ms a port sends a DELAY_REQ. -/
  | delayReqTimer (port : Nat)
  /-- `TIME_SEND_TIMER` (R478). Every 10 ms a ROOT or MEMBER sends TIME messages. -/
  | timeSendTimer
  /-- `RELIABLE_RETRY` (R476). The `index`-th unacknowledged message of a port. -/
  | reliableRetry (port index : Nat)
  /-- `VX_MSG_LOST` (R476). A SEQ gap open for 16 tides is declared lost. -/
  | vxMsgLost (origin type : Nat)
  /-- `VX_MSG_PACKET` (R473). A VX_MSG packet from the host is originated as HOST_MSG. -/
  | vxMsgPacket
  /-- `ETH_FRAME_RX` (R489). A received frame, its FCS the last 4 bytes. -/
  | ethFrameRx (port : Nat) (frame : List Byte) (frac : Nat)
  /-- `ETH_PACKET` (R490). An ETH packet from the host is queued for transmission. -/
  | ethPacket
  /-- `ETH_FRAME_TX` (R488). A queued frame is transmitted when its gate window allows. -/
  | ethFrameTx (port : Nat)
  /-- `ETH_GATE_CYCLE` (R487). A gate control list entry interval ends and the gate states change. -/
  | ethGateCycle (port : Nat)
  /-- `ETH_COLLISION` (R486). A collision on ETH_1 after `bits` bits of the frame. -/
  | ethCollision (bits : Nat)
  /-- `ETH_BACKOFF_EXPIRY` (R486). An ETH_1 back-off ends and the frame is attempted again. -/
  | ethBackoffExpiry
  /-- `ETH_LINK` (R499). The PHY link changes state. -/
  | ethLink (port : Nat) (up : Bool) (speed : Nat)
  /-- `PTP_MESSAGE` (R492). A PTP message is consumed and a TIME_RECEIVER forms an offset measurement. -/
  | ptpMessage (port : Nat) (m : PtpMsg) (frac : Nat)
  /-- `PTP_ANNOUNCE_TIMEOUT` (R492). No Announce for 3 intervals and measurements stop. -/
  | ptpAnnounceTimeout (port : Nat)
  /-- `PTP_SYNC_SEND` (R493). A TIME_TRANSMITTER sends Sync, Follow_Up and Announce at its intervals. -/
  | ptpSyncSend (port : Nat)
  /-- `CAN_FRAME_RX` (R495). A CAN frame passes the filters, is timestamped and queued. -/
  | canFrameRx (ctl : Nat) (ide fd rtr : Bool) (id : Nat) (data : List Byte)
  /-- `CAN_PACKET` (R495). A CAN packet from the host is placed in a transmit buffer. -/
  | canPacket
  /-- `CAN_FRAME_TX` (R495). A CAN frame is transmitted and its SOF time optionally returned. -/
  | canFrameTx (ctl : Nat)
  /-- `CAN_BUS_ERROR` (R496). An error as transmitter or receiver; `severe`: a receive error that counts 8. -/
  | canBusError (ctl : Nat) (transmitting severe : Bool)
  /-- `CAN_AUTO_RECOVERY` (R496). With AUTO_RECOVER, a bus-off controller recovers after 128 idle sequences. -/
  | canAutoRecovery (ctl : Nat)
  /-- `NET_VX_CONFIG` (R474). Sets Vexlink ports and group role. -/
  | netVxConfig (c : Cmd)
  /-- `NET_VX_STATUS` (R497). Returns Vexlink status. -/
  | netVxStatus (c : Cmd)
  /-- `NET_ETH_CONFIG` (R497). Configures an Ethernet port. -/
  | netEthConfig (c : Cmd)
  /-- `NET_ETH_HASH_SET` (R489). Sets the multicast hash table. -/
  | netEthHashSet (c : Cmd)
  /-- `NET_ETH_GATE_LOAD` (R487). Loads gate control list entries. -/
  | netEthGateLoad (c : Cmd)
  /-- `NET_ETH_GATE_COMMIT` (R487). Commits a gate control list. -/
  | netEthGateCommit (c : Cmd)
  /-- `NET_PTP_CONFIG` (R491). Configures a PTP instance. -/
  | netPtpConfig (c : Cmd)
  /-- `NET_CAN_CONFIG` (R494). Configures a CAN controller. -/
  | netCanConfig (c : Cmd)
  /-- `NET_CAN_FILTER_SET` (R495). Sets a CAN acceptance filter. -/
  | netCanFilterSet (c : Cmd)
  /-- `NET_CAN_RECOVER` (R496). Recovers a bus-off controller. -/
  | netCanRecover (c : Cmd)
  /-- `NET_MDIO` (R485). `reply`: what the PHY drives, none where it does not answer. -/
  | netMdio (c : Cmd) (reply : Option Nat)
  /-- `NET_STATUS` (R497). Returns network status. -/
  | netStatus (c : Cmd)
  /-- `PCIE_LINK_CHANGE` (R502). The link comes up, with its rate in GT/s and its lanes, or goes down, or a hot reset or function-level reset arrives. -/
  | pcieLinkChange (up : Bool) (rate lanes : Nat)
  /-- `MBX_DOORBELL` (R518). A write of MBX_DOORBELL_n; in PCIe mode `read` is what the bus-master read of the mailbox area from the slot on returns, none where it fails. -/
  | mbxDoorbell (n slot : Nat) (read : Option (List Byte))
  /-- `MBX_ACK` (R532). The host acknowledges completions and an MSI may be re-sent. -/
  | mbxAck (n : Nat) (v : Word)
  /-- `EVT_ACK` (R532). The host acknowledges event records and an MSI may be re-sent. -/
  | evtAck (v : Word)
  /-- `MBX_CFG_WRITE` (R514). A write of MBX_CFG_n enables or disables a mailbox and applies base and size. -/
  | mbxCfgWrite (n : Nat) (v : Word)
  /-- `S_DATA_0` (R525). A word written to the S_0 aperture is pushed into the stream. -/
  | sData0 (v : Word)
  /-- `S_END_0` (R525). The host ends an S_0 packet and it is handed to its consumer or discarded. -/
  | sEnd0 (v : Word)
  /-- `S_DATA_1` (R526). A word read from the S_1 aperture is taken from the stream. -/
  | sData1
  /-- `CLEAR` (R528). Writing CLEAR discards every packet of a disabled stream. -/
  | clear (stream : Nat)
  /-- `ABORT` (R528). Writing ABORT discards the S_0 packet being written. -/
  | abort
  /-- `DROP` (R526). Writing DROP discards the unread rest of the S_1 packet. -/
  | drop
  /-- `PACKET_AGE` (R527). A complete S_1 packet has waited S_AGE_1 and FC_RDY_1 asserts. -/
  | packetAge
  /-- `IND_DATA_READ` (R508). A read of IND_DATA returns the indirect word, latching a 64-byte block, with auto-increment. -/
  | indDataRead
  /-- `IND_DATA_WRITE` (R508). A write of IND_DATA writes a writable indirect location, with auto-increment. -/
  | indDataWrite (v : Word)
  /-- `PAIR_VALUE_WRITE` (R506). A write of the value address `off` of a protected pair. -/
  | pairValueWrite (off : Nat) (v : Word)
  /-- `PAIR_TIMEOUT` (R506). A pending protected value waits 1 ms without its complement and is discarded. -/
  | pairTimeout
  /-- `ROLE_NEXT` (R507). The complement word of ROLE_NEXT is written. -/
  | roleNext (x : Word)
  /-- `RESET_REQ_IDLE` (R507). The complement word of RESET_REQ is written, its pending value being 1. -/
  | resetReqIdle (x : Word)
  /-- `RESET_REQ_ALL_OFF` (R507). The complement word of RESET_REQ is written, its pending value being 2. -/
  | resetReqAllOff (x : Word)
  /-- `RESET_REQ_CANCEL` (R507). The complement word of RESET_REQ is written, its pending value being 0. -/
  | resetReqCancel (x : Word)
  /-- `DOMAIN_EN` (R605). The complement word of DOMAIN_EN is written. -/
  | domainEn (x : Word)
  /-- `SYS_RESTART` (R507). A pending restart request's conditions hold and the device restarts. -/
  | sysRestart
  /-- `DOMAIN_EN_APPLY` (R605). An accepted DOMAIN_EN takes effect at the next tide boundary. -/
  | domainEnApply
  /-- `REGISTER_WRITE` (R15). A write to a BAR0 register with no behaviour of its own sets or ignores the value per its access code. -/
  | registerWrite (off : Nat) (v : Word)
  /-- `SYS_INFO` (R533). Returns image versions, bank, role and life-cycle. -/
  | sysInfo (c : Cmd)
  /-- `SYS_NOP` (R533). Completes after a delay. -/
  | sysNop (c : Cmd)
  /-- `SYS_ECHO` (R533). Returns its parameters. -/
  | sysEcho (c : Cmd)
  /-- `SYS_STREAM_STATUS` (R533). Returns stream counts. -/
  | sysStreamStatus (c : Cmd)
  /-- `SYS_VOTE_STATUS` (R533). Returns vote correction counts. -/
  | sysVoteStatus (c : Cmd)
  /-- `TAMPER_ALARM` (R558). A tamper sensor in alarm. -/
  | tamperAlarm (x : TamperSense)
  /-- `TAMPER_SAFE_ENTRY` (R558). At standstill or 2 s after an alarm, memories are wiped and the device enters SAFE. -/
  | tamperSafeEntry
  /-- `PUF_HEALTH_CHECK` (R540). Outcome of the reconstruction: the root compares equal, bits corrected in the worst 255-bit block, blocks above 10 %. -/
  | pufHealthCheck (pass : Bool) (errors blocks : Nat)
  /-- `VAULT_INTEGRITY_CHECK` (R551). Slots whose check value differs. -/
  | vaultIntegrityCheck (bad : List Nat)
  /-- `ENTROPY_TEST_FAIL` (R550). 0 repetition count, 1 adaptive proportion. -/
  | entropyTestFail (test : Nat)
  /-- `ENTROPY_RETEST` (R550). Consecutive good samples, and the test that failed again. -/
  | entropyRetest (good : Nat) (failed : Option Nat)
  /-- `SESSION_TIMEOUT` (R552). A crypto session with no step for 10 s is discarded. -/
  | sessionTimeout (session : Nat)
  /-- `UNLOCK_ACK_TIMEOUT` (R563). SEC_UNLOCK_ACK does not arrive within 60 s and the challenge lapses. -/
  | unlockAckTimeout
  /-- `DEBUG_REQUEST` (R566). Kinds asked for (bit 0 TRACE, 1 CORE, 2 SECURE, 3 BSCAN); key under which the signature over the challenge verifies: 4 DEBUG_PUB, 5 VENDOR_PUB, 0 none. -/
  | debugRequest (kinds signer : Nat)
  /-- `DBG_TRST_N` (R567). DBG_TRST_N ends the debug session. -/
  | dbgTrstN
  /-- `SEC_STATUS` (R568). Returns security status. -/
  | secStatus (c : Cmd)
  /-- `SEC_KEY_INFO` (R543). Returns a slot's attributes. -/
  | secKeyInfo (c : Cmd)
  /-- `SEC_KEY_GENERATE` (R546). Generates a key in a slot. -/
  | secKeyGenerate (c : Cmd)
  /-- `SEC_KEY_IMPORT` (R546). Imports a public or wrapped key. -/
  | secKeyImport (c : Cmd)
  /-- `SEC_KEY_DERIVE` (R545). Derives a child key. -/
  | secKeyDerive (c : Cmd)
  /-- `SEC_KEY_REVOKE` (R547). Revokes a slot and its descendants. -/
  | secKeyRevoke (c : Cmd)
  /-- `SEC_KEY_DELETE` (R547). Wipes a slot and revokes its descendants. -/
  | secKeyDelete (c : Cmd)
  /-- `SEC_KEY_EXPORT` (R546). Exports a public part or wrapped secret. -/
  | secKeyExport (c : Cmd)
  /-- `SEC_CIPHER` (R552). Performs an AES cipher step. -/
  | secCipher (c : Cmd)
  /-- `SEC_MAC` (R552). Performs a MAC step. -/
  | secMac (c : Cmd)
  /-- `SEC_HASH` (R552). Performs a hash step. -/
  | secHash (c : Cmd)
  /-- `SEC_SIGN` (R568). Signs a digest. -/
  | secSign (c : Cmd)
  /-- `SEC_VERIFY` (R568). Verifies a signature. -/
  | secVerify (c : Cmd)
  /-- `SEC_ECDH` (R568). Agrees a shared secret into a slot. -/
  | secEcdh (c : Cmd)
  /-- `SEC_RANDOM` (R568). Returns random bytes. -/
  | secRandom (c : Cmd)
  /-- `SEC_LIFECYCLE` (R554). Requests a life-cycle transition, burnt and followed by a restart. -/
  | secLifecycle (c : Cmd)
  /-- `SEC_CHALLENGE` (R563). Returns an unlock challenge. -/
  | secChallenge (c : Cmd)
  /-- `SEC_UNLOCK` (R563). Unlocks SAFE with a signed challenge. -/
  | secUnlock (c : Cmd)
  /-- `SEC_UNLOCK_ACK` (R563). Confirms a FIELD unlock from world N. -/
  | secUnlockAck (c : Cmd)
  /-- `SEC_TAMPER_LOG` (R568). Returns the tamper log. -/
  | secTamperLog (c : Cmd)
  /-- `SEC_ATTEST` (R568). Returns a signed attestation. -/
  | secAttest (c : Cmd)
  /-- `SEC_PUF_CHECK` (R540). Starts a PUF health check. -/
  | secPufCheck (c : Cmd)
  /-- `SEC_WORLD_MAP` (R536). Programs WORLD_MAP once in PROVISION. -/
  | secWorldMap (c : Cmd)
  /-- `SEC_KEY_INSTALL` (R542). Installs UNLOCK_PUB or DEBUG_PUB in PROVISION. -/
  | secKeyInstall (c : Cmd)
  /-- `IMAGE` (R577). The update takes the oldest IMAGE packet of S_0. -/
  | image
  /-- `VERIFICATION_DONE` (R579). The verification of the inactive bank ends; `readFail` is the cause where the flash no longer reads back the bundle that was written. -/
  | verificationDone (readFail : Option Nat)
  /-- `MIGRATED` (R581). Settings migration ends; `fail` names the KEY whose record could not be translated and its schema. -/
  | migrated (fail : Option (Nat × Nat))
  /-- `PREPARING_TIMEOUT` (R581). PREPARING lasts more than 30 s and the update is abandoned. -/
  | preparingTimeout
  /-- `HANDOVER_SWITCH` (R583). `accepts`: the new image takes its snapshot and passes its start check; `busy`: commands in execution have not completed 20 ms before a CTRL switch. -/
  | handoverSwitch (accepts busy : Bool)
  /-- `HANDOVER_REVERSAL` (R586). Switched processors return to their old images one per boundary. -/
  | handoverReversal
  /-- `CONFIRM_WINDOW` (R588). CONFIRM_WINDOW expires in TRIAL and the device reverts. -/
  | confirmWindow
  /-- `UPDATE_RESTART` (R580). A cold activation or revert restarts at the first idle boundary with no job. -/
  | updateRestart
  /-- `COMPACTION` (R597). The erase, and the programming of the copies, read back. -/
  | compaction (eraseOk progOk : Bool)
  /-- `UPDATE_BEGIN` (R577). Begins a download to the inactive bank. -/
  | updateBegin (c : Cmd)
  /-- `UPDATE_VERIFY` (R579). Starts verification. -/
  | updateVerify (c : Cmd)
  /-- `UPDATE_ACTIVATE` (R580). Activates the verified bundle. -/
  | updateActivate (c : Cmd)
  /-- `UPDATE_CONFIRM` (R587). The burn of the anti-rollback counter reads back. -/
  | updateConfirm (burnOk : Bool) (c : Cmd)
  /-- `UPDATE_REVERT` (R588). Reverts the trial bundle. -/
  | updateRevert (c : Cmd)
  /-- `UPDATE_ABORT` (R601). Aborts a download or verified bundle. -/
  | updateAbort (c : Cmd)
  /-- `UPDATE_STATUS` (R601). Returns update status. -/
  | updateStatus (c : Cmd)
  /-- `JOURNAL_STATUS` (R601). Returns journal status. -/
  | journalStatus (c : Cmd)
  /-- `JOURNAL_COMPACT` (R597). Requests compaction. -/
  | journalCompact (c : Cmd)
  /-- `NEAP_ENTRY` (R607). Entry to NEAP runs at the next tide boundary with saves and domain power-down. -/
  | neapEntry
  /-- `WAKE_RTC_ALARM` (R608). The RTC alarm wakes the device to SPRING. -/
  | wakeRtcAlarm
  /-- `WAKE_GPIO` (R608). An edge on GPIO_0 to GPIO_3 wakes the device to SPRING. -/
  | wakeGpio (pin : Nat) (falling : Bool)
  /-- `POWER_PFW` (R611). PFW_N falls; METER_FINAL commits `finalUs` us after the edge. -/
  | powerPfw (finalUs : Nat)
  /-- `POWER_PFW_END` (R611). PFW_N rose `lowUs` us after it fell, and has been high for 10 ms. -/
  | powerPfwEnd (lowUs : Nat)
  /-- `PMBUS_READBACK` (R612). A read of READ_VOUT: acknowledge, PEC, value in mV. -/
  | pmbusReadback (ack pecOk : Bool) (mv : Nat)
  /-- `PMB_ALERT` (R612). PMB_ALERT_N low makes the device read STATUS_WORD. -/
  | pmbAlert (status : Nat)
  /-- `LOCKSTEP_DISAGREEMENT` (R610). The SAFE cores disagree and the device enters SAFE. -/
  | lockstepDisagreement
  /-- `SAFE_HEARTBEAT_MISS` (R610). The SAFE heartbeat misses 3 boundaries, a fatal fault. -/
  | safeHeartbeatMiss
  /-- `PROCESSOR_HEARTBEAT` (R616). The heartbeats of CTRL, NAV, RAD, SEC, their memory errors, and whether the resident image of a restarted one is intact. -/
  | processorHeartbeat (alive : List Bool) (ecc : List Bool) (hashOk : Bool)
  /-- `PATROL_SCRUB` (R618). Patrol scrub meets a word in error in a memory (coded as POWER_ECC_CORRECTED codes it), or ends a pass; `part` is the processor (master code), the retained region (row of R614) or the layer, and `tx`, `ty` the tile, that the word belongs to. -/
  | patrolScrub (memory part address : Nat) (correctable passEnd : Bool) (tx ty : Int)
  /-- `SOUNDING` (R619). A sounding with the die temperature in 0.1 C, the estimated draw in mW and the mean pace count. -/
  | sounding (temp : Int) (estMw pace : Nat)
  /-- `RECORDER_LOSS` (R622). At the end of a second with no drop, the drop counts are written as one record. -/
  | recorderLoss
  /-- `POWER_STATUS` (R627). Returns power status. -/
  | powerStatus (c : Cmd)
  /-- `POWER_SET_STATE` (R607). Requests a power state. -/
  | powerSetState (c : Cmd)
  /-- `POWER_WAKE_CONFIG` (R608). Sets the wake sources. -/
  | powerWakeConfig (c : Cmd)
  /-- `POWER_SOUNDING_CONFIG` (R619). Sets the sounding period and subscription. -/
  | powerSoundingConfig (c : Cmd)
  /-- `POWER_SOUNDING_READ` (R627). Returns the newest soundings. -/
  | powerSoundingRead (c : Cmd)
  /-- `POWER_UNDERTOW_STATUS` (R627). Returns undertow pass ages. -/
  | powerUndertowStatus (c : Cmd)
  /-- `RECORDER_READ` (R629). Returns event records from the ring or journal. -/
  | recorderRead (c : Cmd)
  /-- `RECORDER_SUBSCRIBE` (R624). Subscribes to event records. -/
  | recorderSubscribe (c : Cmd)
  /-- `RECORDER_CONFIG` (R629). Sets RATE and MIRROR_MIN. -/
  | recorderConfig (c : Cmd)
  /-- `RECORDER_STATUS` (R629). Returns recorder status. -/
  | recorderStatus (c : Cmd)
  /-- `NODE_WIRE_RESET` (R269). A node whose input has stayed low for longer than 40 us takes a wire reset, turns every channel OFF at once and forgets its position and configuration. -/
  | nodeWireReset (loop pos : Nat)
  /-- `CHANNEL_EDGE` (R268). At B + OFFSET x U the node releases the channel's new command at the pin, starting PWM, pull-in or a fade, or turning it off. -/
  | channelEdge (loop pos chan : Nat)
  /-- `ENUMERATE_AT_NODE` (R276). A node receives ENUMERATE: its identity memory and those of its channels' modules -/
  | enumerateAtNode (loop : Nat) (idRec : List Byte) (mods : List (Option (List Byte)))
  /-- `MANAGE_AT_NODE` (R277). The node addressed by the MANAGE frame performs it; `p`: its loop, and whether HDR_CRC and DATA_CRC hold there; `echo`: round trip of its output segment, ns -/
  | manageAtNode (p : MgmtPass) (echo : Nat)
  /-- `NODE_BREAK_FORWARD` (R285). A node receiving a BREAK frame forwards it with HOPS increased by 1, whatever its state. -/
  | nodeBreakForward (loop pos : Nat)
  /-- `SHORT_LOAD` (R305). During an on-time the current exceeds I_SHORT and the node switches the output off within 2 us and latches SHORT_LOAD. -/
  | shortLoad (loop pos chan mA : Nat)
  /-- `NODE_OVERTEMPERATURE` (R317). The node temperature reaches T_SHUT and every channel turns off, or falls to T_SHUT - 10 C and the channels resume. -/
  | nodeOvertemperature (loop pos : Nat) (temp : Int)
  /-- `VEXLINK_BLOCK` (R470). The 32 bytes of a block. -/
  | vexlinkBlock (port : Nat) (block : List Byte)
  /-- `VDD_CORE_LOSS` (R611). VDD_CORE is lost while VDD_AON holds, and PD_AON records T_loss in retained SRAM. -/
  | vddCoreLoss
  /-- `PTP_DELAY_REQ_SEND` (R492). A TIME_RECEIVER port sends Delay_Req, or Pdelay_Req for P2P, at its logMinDelayReqInterval. -/
  | ptpDelayReqSend (port : Nat)
  /-- `SYS_NOP_DELAY` (R533). The delay of the SYS_NOP of a slot expires. -/
  | sysNopDelay (mbx slot : Nat)
  /-- `SELF_TEST_PASSED` (R587). Every new image reports that its self-test has passed, after which UPDATE_CONFIRM is accepted rather than refused with UPDATE_NOT_READY. -/
  | selfTestPassed
  deriving DecidableEq, Repr

end Sys2Proof
end

