-- ==== Sys2Proof/Decode.lean ====
section
/-!
DEFINITION. The command that a word spells by the bits of spec/opcode_table.json.
-/
namespace Sys2Proof

/-- No row of the table gives bits: the block takes register accesses, commands in mailboxes and events on pins, not instruction words. So no
word spells a command. -/
def decodeTableWord (_nbits _w : Nat) : Option Instr := none

end Sys2Proof
end

