-- ==== Sys2Proof/Config.lean ====
section
/-!
DEFINITION. What one chip or one implementation fixes and the manual leaves open: free values (opaque constants with no
body, so that no proof can see what they are).
-/
namespace Sys2Proof.Config

/-- A fresh unconstrained value: applied to the free counter of the state, the manual's random choices
(contention slots, back-off, DRBG output; 11 R417, 13 R486, 15 R550). Log entry 2. -/
opaque freeValue : Nat → Nat
/-- The 128-bit value ID_UNIQUE_0 to ID_UNIQUE_3 of this device (00 R4), least significant word first. Log entry 3. -/
opaque uniqueId : Nat → Nat
/-- The manifest field at a byte offset of the bundle that the device was shipped with in bank A (16 R572): its versions and interface
version. Log entry 3. -/
opaque shipped : Nat → Nat

/-! The functions of the crypto engines (15 R549), whose standards the manual names and does not restate: opaque functions of their
operands. Log entry 23. -/

/-- AES-CMAC of a message under a key. -/
opaque cmac : List Byte → List Byte → List Byte
/-- HMAC-SHA-256 (0) or HMAC-SHA-384 (1) of a message under a key. -/
opaque hmac : Nat → List Byte → List Byte → List Byte
/-- SHA-256 (0) or SHA-384 (1). -/
opaque sha : Nat → List Byte → List Byte
/-- AES in mode 0 ECB, 1 CBC, 2 CTR, 3 the CTR of GCM; decrypt; key, IV or counter, data. -/
opaque cipher : Nat → Bool → List Byte → List Byte → List Byte → List Byte
/-- The 16-byte tag of AES-GCM: key, IV, AAD, ciphertext. -/
opaque gcmTag : List Byte → List Byte → List Byte → List Byte → List Byte
/-- ECDSA r then s of a digest: key type (5 P-256, 6 P-384), private key, digest, nonce. -/
opaque ecSign : Nat → List Byte → List Byte → Nat → List Byte
/-- ECDSA verification: key type (7 P-256, 8 P-384), public key, digest, signature. -/
opaque ecVerify : Nat → List Byte → List Byte → List Byte → Bool
/-- ECDH: private key and peer public key to the shared secret. -/
opaque ecdh : List Byte → List Byte → List Byte
/-- The public key of a private key of a pair type (5, 6). -/
opaque ecPub : Nat → List Byte → List Byte
/-- The KDF of 15 R545: parent key, label, context, length of the result. -/
opaque kdf : List Byte → List Byte → List Byte → Nat → List Byte
/-- K_ROOT (15 R539). -/
opaque kRoot : List Byte
/-- The public keys of slots 2 FW_VERIFY and 5 VENDOR_PUB, whose hashes OTP holds (15 R542). -/
opaque vendorKey : Nat → List Byte
/-- The NMEA 0183 sentence of kind 0 GGA, 1 RMC, 2 VTG, 3 HDT, 4 GST for a pose record (04 R168): the manual names the standard and
does not restate it. Log entry 14. -/
opaque nmea : Nat → List Byte → List Byte

/-- Azimuth clockwise from north and elevation, LSB 2^-32 turn, of a satellite with these ephemeris or almanac data, seen from a place at an instant: the
orbit models of the systems' interface specifications, which the manual names and does not restate. Log entry 61. -/
opaque sky : List Byte → List Byte → Nat → Int × Int
/-- Range rate in mm/s of the same satellite (03 R109: the predicted Doppler). Log entry 61. -/
opaque rangeRate : List Byte → List Byte → Nat → Int

end Sys2Proof.Config
end

