-- ==== Sys2Proof/Machine/State.lean ====
section
/-!
DEFINITION. The state of the block: everything the manual gives the device, plain data, with its values at reset as the
defaults of the fields. State.reset is time zero of the start-up sequence (17 R615) after power-on (18 R636 step 6): log entry 4.
Each field's docstring says [width; file and rule of spec/ that names it; value at reset].
-/
namespace Sys2Proof.Machine

/-- Reasons for which the machine stops with a fault. -/
inductive Fault where
  /-- Raised by no meaning: the manual gives every row of the table an effect. Kept so that the type is inhabited; safe. -/
  | unreachable
  deriving DecidableEq, Repr

/-- Reasons for which a command is refused. -/
inductive Refusal where
  /-- Raised by an arm of `exec` whose command has no meaning yet; safe. -/
  | notModelled (mnemonic : String)
  deriving DecidableEq, Repr

/-- Kinds of what leaves the device (the model's own outbox; the manual names each path in its chapter). -/
inductive OutKind where
  /-- an MSI message; index = vector (14 R532) -/
  | msi
  /-- a bus-master write into a mailbox area in host memory; index = mailbox (14 R515, R517) -/
  | hostMem
  /-- a PMBus request; index = command code (17 R612) -/
  | pmbus
  /-- a frame or segment sent at KW_n; index = loop (07 R264) -/
  | knani
  /-- a bit-level exchange on an identity bus; index = bus (07 R284) -/
  | idBus
  /-- the symbols of a radio frame, quarters of the symbol rate; index = its frequency in Hz (11 R397, R400, R407) -/
  | radio
  /-- transceiver script or SPI words (11 R399) -/
  | rfSpi
  /-- a message sent on VX_n; index = port (13 R473) -/
  | vexlink
  /-- an Ethernet frame; index = port (13 R488) -/
  | ethernet
  /-- a CAN frame; index = port (13 R495) -/
  | can
  /-- an MDIO access (13 R485) -/
  | mdio
  /-- a transaction on the IMU bus (04 R149) -/
  | imuSpi
  /-- an axis phase set-point; index = axis (09 R339) -/
  | axis
  /-- a level taken by a pin; index = pin group and number as the emitting meaning says -/
  | pin
  deriving DecidableEq, Repr
/-- One thing that left the device. -/
structure Out where
  /-- what it is -/
  kind : OutKind
  /-- which instance -/
  index : Nat
  /-- Device Time of its release where it is timed, 2^-16 ns; 0 where untimed (01 R36) -/
  rel : Nat := 0
  /-- its bytes -/
  data : List Byte
  deriving DecidableEq, Repr
/-- The state of a time domain (02 R60). -/
inductive DState where | freerun | acquire | locked | holdover
  deriving DecidableEq, Repr
/-- Power states (17 R606). -/
inductive Power where | off | slack | neap | spring | safe
  deriving DecidableEq, Repr
/-- A triplicated critical field with SAFE's fourth copy (14 R505). -/
structure Voted where
  /-- copy 0 [w 16; 14 R505; reset as the field] -/
  c0 : Nat := 0
  /-- copy 1 [w 16; 14 R505; reset as the field] -/
  c1 : Nat := 0
  /-- copy 2 [w 16; 14 R505; reset as the field] -/
  c2 : Nat := 0
  /-- SAFE's fourth copy, outside the vote [w 16; 14 R505; reset as the field] -/
  safe : Nat := 0
  /-- corrections since start-up [w 32; 14 R533; 0] -/
  corrections : Nat := 0
  deriving DecidableEq, Repr
/-- The five triplicated fields (14 R505), in the order of SYS_VOTE_STATUS. -/
structure VoteSt where
  /-- running role: 0 rover, 1 base [w 16; 00 R1, 14 R513; 0 rover (no role setting in an empty journal)] -/
  role : Voted := {}
  /-- life-cycle mirror: 0 BLANK, 1 PROVISION, 2 FIELD, 3 RETURN, 4 SCRAP [w 16; 14 R511; 0 BLANK] -/
  lifeCycle : Voted := {}
  /-- stop configuration: ACCEPT in bits 2 to 0, FORWARD in bits 5 to 3 [w 16; 14 R505, 12 R463; 0b111 each] -/
  stopCfg : Voted := { c0 := 0x3F, c1 := 0x3F, c2 := 0x3F, safe := 0x3F }
  /-- domain enables in force [w 16; 14 R507; 0x0FFF] -/
  domains : Voted := { c0 := 0xFFF, c1 := 0xFFF, c2 := 0xFFF, safe := 0xFFF }
  /-- tide period code [w 16; 02 R78, R80; 2 (1 ms)] -/
  tide : Voted := { c0 := 2, c1 := 2, c2 := 2, safe := 2 }
  /-- a field whose three copies all differed: GFAULT.VOTE_FAILED [w 1; 14 R505, R512; 0] -/
  failed : Bool := false
  deriving DecidableEq, Repr
/-- One-time-programmable memory that the manual names outside the vault (15, 16). -/
structure OtpSt where
  /-- anti-rollback counter: number of burnt bits [w 128 bits, value 0 to 128; 16 R574; 0 burnt] -/
  counter : Nat := 0
  /-- PMB_ADDR [w 7; 17 R612; 0x40 while unprogrammed] -/
  pmbAddr : Nat := 0x40
  /-- WORLD_MAP once programmed [w 16; 15 R536; unprogrammed] -/
  worldMap : Option Nat := none
  /-- life-cycle, three copies voted when read [w 3; 15 R553; 0 BLANK] -/
  lifeCycle : Nat := 0
  /-- helper data and ROOT_CHECK have been written; helper data burnt to all ones [w 1 each; 15 R540, R555; false] -/
  enrolled : Bool := false
  helperBurnt : Bool := false
  /-- the installed keys of slots 3 and 4 whose SHA-384 is burnt [w 384 each; 15 R542, R568; unburnt] -/
  hash3 : Option (List Byte) := none
  hash4 : Option (List Byte) := none
  /-- mesh loops 0 to 3 enabled [w 4; 15 R556; 0] -/
  mesh : Nat := 0
  /-- TAMPER_EPOCH: number of burnt bits [w 64; 15 R559, R561; 0 burnt] -/
  tamperEpoch : Nat := 0
  deriving DecidableEq, Repr

/-- One time domain, A or B (R55 to R71). Defaults are the state before any TIME_DOMAIN_CONFIG. -/
structure Domain where
  /-- accumulator, LSB 2^-39 ns: the 96-bit Device Time of the domain with the sub-LSB part that an increment of resolution 2^-40 needs [w 96+23; 02 R45,R47,R52; 0 (R61: no journal record)] -/
  acc : Nat := 0
  /-- fractional frequency correction y, LSB 2^-40, two's complement [02 R52,R56; DESIGN CHOICE 0] -/
  y : Int := 0
  /-- source code of R55 [w 8; 02 R55,R90; DESIGN CHOICE 0 NONE] -/
  source : Nat := 0
  /-- KP, LSB 2^-24 per s [w 32; 02 R59; DESIGN CHOICE 0 (no source)] -/
  kp : Nat := 0
  /-- KI, LSB 2^-24 per s^2 [w 32; 02 R59; DESIGN CHOICE 0 (no source)] -/
  ki : Nat := 0
  /-- GATE in ns [w 32; 02 R59; 1000] -/
  gateNs : Nat := 1000
  /-- SOURCE_TIMEOUT in ms [w 32; 02 R59; 3000] -/
  timeoutMs : Nat := 3000
  /-- SOURCE_DELAY, LSB 1/64 ns [w 32 signed; 02 R90; DESIGN CHOICE 0] -/
  delay : Int := 0
  /-- UNCERTAINTY_FLOOR in ns [w 32; 02 R90; DESIGN CHOICE 0] -/
  floorNs : Nat := 0
  /-- ALIGN_THRESHOLD in ns [w 32; 02 R59; 100] -/
  alignNs : Nat := 100
  /-- LOCK_LIMIT in ns [w 16; 02 R59; 50] -/
  lockNs : Nat := 50
  /-- domain state [w 2; 02 R60; FREERUN] -/
  st : DState := .freerun
  /-- integral state I, unit (2^-16 ns)^2 [02 R56; DESIGN CHOICE 0] -/
  integ : Int := 0
  /-- domain time t_{k-1} of the previous measurement, 2^-16 ns [02 R56; none] -/
  lastT : Option Nat := none
  /-- island cycle of the last valid measurement [02 R60; 0] -/
  lastCyc : Nat := 0
  /-- consecutive measurements within LOCK_LIMIT [02 R60; 0] -/
  inLimit : Nat := 0
  /-- consecutive rejections [02 R57; 0] -/
  rejects : Nat := 0
  /-- the next valid measurement may align the phase (just entered ACQUIRE) [02 R58; false] -/
  mayAlign : Bool := false
  /-- a measurement has been accepted since the last TIME_SET [02 R67; true] -/
  measured : Bool := true
  /-- |theta| of the last accepted measurement, 2^-16 ns [02 R67; 0] -/
  theta : Nat := 0
  /-- source uncertainty in ns, none unknown [02 R67; none] -/
  uncert : Option Nat := none
  /-- aligned at least once since start-up [02 R69; false] -/
  aligned : Bool := false
  /-- cycle at which the present run of LOCKED began [02 R62,R68; none] -/
  lockedFrom : Option Nat := none
  /-- cycles spent LOCKED since start-up [02 R68; 0] -/
  lockedCyc : Nat := 0
  /-- integral terms (locked-cycle count, -KI x I in LSB 2^-40) of LOCKED operation, newest first, within LEARN_WINDOW [02 R68; empty] -/
  learn : List (Nat × Int) := []
  /-- TQ at entry to HOLDOVER or FREERUN, none unknown [02 R69; none] -/
  tq0 : Option Nat := none
  /-- cycle of that entry [02 R69; 0] -/
  tqFrom : Nat := 0
  deriving DecidableEq, Repr
/-- One segment of the increment history kept for TIME_MEASURE (R89): from this cycle the counters advanced at these increments. -/
structure Seg where
  /-- first cycle of the segment [02 R89; -] -/
  cyc : Nat
  /-- output, A and B accumulators at that cycle [02 R89; -] -/
  out : Nat
  a : Nat
  b : Nat
  /-- increments per cycle [02 R89; -] -/
  incOut : Nat
  incA : Nat
  incB : Nat
  deriving DecidableEq, Repr
/-- PPS output n (R72 to R75). -/
structure PpsOut where
  /-- time followed: 0 Device Time, 1 domain A, 2 domain B [w 8; 02 R72; 0] -/
  time : Nat := 0
  /-- active low [w 1; 02 R72; false] -/
  activeLow : Bool := false
  /-- width coding [w 1; 02 R72; false] -/
  coding : Bool := false
  /-- quiet in FREERUN [w 1; 02 R72; true] -/
  quiet : Bool := true
  /-- width in us [w 32; 02 R72; 100000] -/
  widthUs : Nat := 100000
  /-- offset, LSB 1/64 ns [w 32 signed; 02 R72; 0] -/
  offset : Int := 0
  /-- pulse armed: second S and its width in us [02 R75; none] -/
  armed : Option (Nat × Nat) := none
  /-- output at its active level [w 1; 02 R72; false] -/
  active : Bool := false
  /-- instant of the inactive edge of the running pulse, 2^-16 ns of the followed time [02 R72; none] -/
  offAt : Option Nat := none
  /-- island cycle of the previous pulse [02 R75; none] -/
  lastCyc : Option Nat := none
  deriving DecidableEq, Repr
/-- PPS input n (R76, R77). -/
structure PpsIn where
  /-- edge: 0 rising, 1 falling, 2 both [w 8; 02 R76; 0] -/
  edge : Nat := 0
  /-- cable delay, LSB 1/64 ns [w 32 signed; 02 R76; DESIGN CHOICE 0] -/
  delay : Int := 0
  /-- WINDOW in us [w 32; 02 R76; 100] -/
  windowUs : Nat := 100
  /-- Device Time of the previously accepted pulse, 2^-16 ns [02 R76; none] -/
  lastAcc : Option Nat := none
  /-- island cycle of that pulse, or of the start of supervision [02 R77; 0]  -/
  lastCyc : Nat := 0
  /-- PPS_IN_MISSING already raised for this run [02 R77; false] -/
  missing : Bool := false
  deriving DecidableEq, Repr
/-- One capture queue entry (R84). -/
structure CapEntry where
  /-- captured Device Time, 2^-16 ns, FRACTION bits [9:0] zero [w 96; 02 R54,R84] -/
  dt : Nat
  /-- edge: 0 rising, 1 falling [w 8; 02 R84] -/
  edge : Nat
  /-- sequence number [w 16; 02 R84] -/
  seq : Nat
  deriving DecidableEq, Repr
/-- One capture unit (R84). -/
structure CapUnit where
  /-- input: 0-15 GPIO, 16 PFW_N, 255 off, firmware units 0-3 as R84 assigns [w 8; 02 R84; off] -/
  input : Nat := 255
  /-- edges watched: 0 rising, 1 falling, 2 both [w 8; 02 R84; 0] -/
  edge : Nat := 0
  /-- queue, oldest first, at most 16 [02 R84; empty] -/
  queue : List CapEntry := []
  /-- next sequence number [w 16; 02 R84; DESIGN CHOICE 0] -/
  seq : Nat := 0
  /-- captures dropped [w 32; 02 R84; 0] -/
  dropped : Nat := 0
  deriving DecidableEq, Repr
/-- One compare unit (R85, R86). -/
structure CmpUnit where
  /-- armed [w 1; 02 R85; false] -/
  armed : Bool := false
  /-- action 0 set, 1 clear, 2 toggle, 3 pulse [w 8; 02 R85; 0] -/
  action : Nat := 0
  /-- GPIO driven [w 8; 02 R92; 0] -/
  gpio : Nat := 0
  /-- STOP_QUIET [w 1; 02 R86; true] -/
  stopQuiet : Bool := true
  /-- active low [w 1; 02 R92; false] -/
  activeLow : Bool := false
  /-- next target, Device Time, 2^-16 ns [w 96; 02 R85; 0] -/
  target : Nat := 0
  /-- the Short Time comparison is armed (target within 500 ms) [w 1; 02 R50; false] -/
  shortArmed : Bool := false
  /-- width in ns [w 32; 02 R85; 0] -/
  widthNs : Nat := 0
  /-- period in ns [w 64; 02 R85; 0] -/
  periodNs : Nat := 0
  /-- instants left; none = until cancelled [w 32; 02 R85; none] -/
  left : Option Nat := none
  /-- end of the running pulse, 2^-16 ns [02 R85; none] -/
  pulseEnd : Option Nat := none
  /-- the unit drives its GPIO: from its arming until another unit is armed on that GPIO [w 1; 02 R85, R86; false] -/
  drives : Bool := false
  deriving DecidableEq, Repr
/-- One delay list entry (R87). -/
structure DlEntry where
  /-- Short Time target [w 32; 02 R87] -/
  target : Nat
  /-- the Device Time that the target stands for, which a step leaves as it is, 2^-16 ns [w 96; 02 R65, R88] -/
  full : Nat
  /-- consumer named by the payload: 0 the host (TIME_ALARM), others firmware [w 32 with token; 02 R87] -/
  consumer : Nat
  /-- token [02 R87] -/
  token : Nat
  /-- LATE: the target was past at the insertion [w 1; 02 R87; false] -/
  late : Bool := false
  deriving DecidableEq, Repr
/-- The timebase island (file 02). -/
structure TimeSt where
  /-- free-running count of 2 ns cycles since time zero of start-up [02 R52; 0] -/
  cyc : Nat := 0
  /-- output accumulator (Device Time), LSB 2^-39 ns [w 96+23; 02 R45,R47; 0 (R61)] -/
  out : Nat := 0
  /-- domain A [02 R55; reset above] -/
  a : Domain := {}
  /-- domain B [02 R55; reset above] -/
  b : Domain := {}
  /-- the output follows domain B [w 1; 02 R62; false (A)] -/
  followB : Bool := false
  /-- selection is AUTO [w 1; 02 R62; true] -/
  auto : Bool := true
  /-- STEP_PENDING [w 1; 02 R64; false] -/
  stepPending : Bool := false
  /-- STEP_THRESHOLD in us [w 32; 02 R64; 1000] -/
  stepThreshUs : Nat := 1000
  /-- SLEW_MAX in ppm [w 8; 02 R63; 50] -/
  slewMaxPpm : Nat := 50
  /-- LEARN_WINDOW in s [w 32; 02 R68; 600] -/
  learnWindowS : Nat := 600
  /-- AGEING_BOUND, LSB 2^-64 per s [w 32; 02 R69; 213982 (1.16e-14)] -/
  ageing : Nat := 213982
  /-- TQ_LIMIT in ns [w 32; 02 R70; 1000] -/
  tqLimit : Nat := 1000
  /-- the TIME_TQ_LIMIT condition is active [w 1; 02 R70; true (TQ unknown)] -/
  tqActive : Bool := true
  /-- TQ given by TIME_SET and the cycle of its acceptance, until the followed domain accepts a measurement [02 R67; none] -/
  tqSet : Option (Option Nat × Nat) := none
  /-- TIME_UNSET [w 1; 02 R61; true (start with cause POR)] -/
  timeUnset : Bool := true
  /-- TAI - UTC in s [w 8; 02 R47; DESIGN CHOICE 0] -/
  taiUtc : Nat := 0
  /-- leap-pending flag [w 1; 02 R47; false] -/
  leapPending : Bool := false
  /-- leap announcement already reported (Device Time second) [02/03 R125; none] -/
  leapAnnounced : Option Nat := none
  /-- REF_IN declared lost [w 1; 02 R53; false] -/
  refLost : Bool := false
  /-- cycle since which REF_IN is present and the PLL locked [02 R53; none] -/
  refFrom : Option Nat := none
  /-- RTC in PD_AON: Device Time, 2^-16 ns; none = holds no time [02 R60,R61; none (cause POR)] -/
  rtc : Option Nat := none
  /-- accepted new tide period and the second at which it takes effect [02 R80; none] -/
  newPeriod : Option (Nat × Nat) := none
  /-- job epoch set with TIME_EPOCH_SET, in seconds [w 48; 02 R81; none] -/
  epoch : Option Nat := none
  /-- Device Time of the boundary last issued, 2^-16 ns [02 R66,R78; none] -/
  lastBoundary : Option Nat := none
  /-- tide number now running [w 32; 02 R81; 0] -/
  tideNo : Nat := 0
  /-- rotating pointers of the shared resources, in the order of R38 (9) and of the 16 mailboxes (R519) [02/01 R37; DESIGN CHOICE 0] -/
  pointers : List Nat := List.replicate 10 0
  /-- capture units CAP_0 to CAP_15 [02 R84; below] -/
  caps : List CapUnit := List.replicate 16 {}
  /-- compare units CMP_0 to CMP_15 [02 R85; below] -/
  cmps : List CmpUnit := List.replicate 16 {}
  /-- delay lists DL_0 to DL_7, each in order of target, at most 1,024 [02 R87; empty] -/
  dls : List (List DlEntry) := List.replicate 8 []
  /-- host alarms not yet inserted: full target (2^-16 ns) and token [02 R88; empty] -/
  alarms : List (Nat × Nat) := []
  /-- PPS_OUT_0 and PPS_OUT_1 [02 R72; below] -/
  ppsOut : List PpsOut := List.replicate 2 {}
  /-- PPS_IN_0 and PPS_IN_1 [02 R76; below] -/
  ppsIn : List PpsIn := List.replicate 2 {}
  /-- level each compare unit's assignment holds on GPIO_0 to GPIO_15; none: the device does not drive the pin [w 1 each; 02 R85, 18 R640; none (input)] -/
  gpio : List (Option Bool) := List.replicate 16 none
  /-- increment history of the last 2 s, newest first [02 R89; empty] -/
  hist : List Seg := []
  deriving DecidableEq, Repr

/-- Channel states (03 R115). -/
inductive ChSt where | idle | pullIn | track | reacq
  deriving DecidableEq, Repr
/-- One observation of a measurement record (03 R121), as the RTK engine takes it. -/
structure Obs where
  /-- SIGNAL, SV, antenna, GLONASS k + 7, OBS_FLAGS [w 8, 8, 4, 4, 8; 03 R121] -/
  signal : Nat
  sv : Nat
  ant : Nat := 0
  gloK : Nat := 0
  flags : Nat := 0
  /-- PSEUDORANGE (LSB 2^-16 m), CARRIER (LSB 2^-16 cycle), DOPPLER (LSB 2^-10 Hz) [w 64, 64, 32; 03 R121] -/
  range : Nat := 0
  carr : Int := 0
  dopp : Int := 0
  /-- CN0 (LSB 2^-8 dB-Hz), LOCK_TIME (ms), CHANNEL [w 16, 32, 16; 03 R121] -/
  cn0 : Nat := 0
  lockMs : Nat := 0
  chan : Nat := 0
  deriving DecidableEq, Repr
/-- An ephemeris and clock set of a satellite (03 R125). -/
structure EphSet where
  /-- system, SV, issue of data [03 R125] -/
  sys : Nat
  sv : Nat
  iod : Nat
  /-- GLONASS k + 7 of the channel that received it [03 R95] -/
  gloK : Nat := 0
  /-- the bits of its units, in the order of their numbers [03 R125] -/
  data : List Byte := []
  deriving DecidableEq, Repr
/-- A unit of an ephemeris set that has passed its check and waits for the others (03 R125). -/
structure EphPart where
  /-- SIGNAL, SV, UNIT_TYPE, issue of data [03 R125, R126] -/
  signal : Nat
  sv : Nat
  unit : Nat
  iod : Nat
  /-- payload [03 R126] -/
  data : List Byte := []
  deriving DecidableEq, Repr
/-- What an acquisition engine searches for (03 R109, R112): SIGNAL, SV (for GLONASS k + 7), antenna, and the island cycle at which it began. -/
structure Search where
  /-- SIGNAL [w 4; 03 R109, R117] -/
  sig : Nat
  /-- SV, or k + 7 for GLONASS [w 8; 03 R110, R112] -/
  sv : Nat
  /-- antenna [w 1; 03 R112] -/
  ant : Nat
  /-- island cycle at which the search began [03 R110] -/
  start : Nat
  deriving DecidableEq, Repr

/-- One allocated tracking channel (03 R113 to R118): NCO and lock state as NAV last wrote it, and the registers latched at the last
measurement epoch. -/
structure GChan where
  /-- state [w 3; 03 R115, R118; IDLE] -/
  st : ChSt := .idle
  /-- SIGNAL code, SV, antenna, GLONASS k + 7, HOST_HELD [w 4, 8, 1, 4, 1; 03 R117, R118; 0] -/
  signal : Nat := 0
  sv : Nat := 0
  ant : Nat := 0
  gloK : Nat := 0
  hostHeld : Bool := false
  /-- island cycle of entry to the present state [03 R115; 0] -/
  since : Nat := 0
  /-- code NCO phase (LSB 2^-16 chip) and carrier NCO phase (LSB 2^-16 cycle), at the island cycle `phaseAt`, and their rates
  (LSB 2^-16 chip/s and 2^-10 Hz, relative to nominal); the phases of the two NCOs are the low 48 bits [w 48 each NCO; 03 R113, R116; 0] -/
  codePhase : Nat := 0
  carrPhase : Int := 0
  phaseAt : Nat := 0
  codeRate : Int := 0
  carrRate : Int := 0
  /-- C/N0 LSB 2^-8 dB-Hz, prompt I and Q, lock indicator LSB 0.001 [w 16 each; 03 R116, R118; 0] -/
  cn0 : Nat := 0
  promptI : Int := 0
  promptQ : Int := 0
  lock : Int := 0
  /-- the other correlators at the end of the last coherent interval [03 R113; 0] -/
  taps : Taps := {}
  /-- BIT_SYNC, FRAME_SYNC, HALF_CYCLE [w 1 each; 03 R118; 0] -/
  bitSync : Bool := false
  frameSync : Bool := false
  halfCycle : Bool := false
  /-- exits from TRACK since assignment [w 32; 03 R116; 0] -/
  slips : Nat := 0
  /-- SLIP and NOTCH_IN_BAND of the present epoch [w 1 each; 03 R106; false] -/
  slip : Bool := false
  notchIn : Bool := false
  /-- island cycles since which C/N0 is below 20 dB-Hz, the lock indicator below 0.5, above 0.8 [03 R115; none] -/
  lowCn0From : Option Nat := none
  lowLockFrom : Option Nat := none
  goodLockFrom : Option Nat := none
  /-- loop parameters in use (PLL, FLL, DLL, spacing, coherent), taken at the last coherent interval [03 R114, R129; those configured] -/
  loop : List Nat := []
  /-- consecutive bursts in which the channel was not found [03 R127; 0] -/
  burstMiss : Nat := 0
  /-- island cycle of the last NAV_CHECK_FAIL, those of the failures in the last second [03 R131; none, empty] -/
  failSec : Option Nat := none
  fails : List Nat := []
  /-- lock time latched at the last epoch, and pseudorange epoch data: the channel was in TRACK at that epoch [w 32, 1; 03 R116, R120; 0, false] -/
  trackAtEpoch : Bool := false
  /-- the 11 registers CH_CFG to CH_SLIPS as latched at the last epoch [w 32 each; 03 R116; 0] -/
  latched : List Nat := List.replicate 11 0
  /-- accumulated carrier phase, and code phase, latched at the last epoch [w 64, 48; 03 R116, R120; 0] -/
  carrLatched : Int := 0
  codeLatched : Nat := 0
  deriving DecidableEq, Repr
/-- One notch slot (03 R105). -/
structure Notch where
  /-- 0 OFF, 1 STATIC, 2 ADAPTIVE [w 2; 03 R105; DESIGN CHOICE 2 ADAPTIVE, as the file's example runs] -/
  mode : Nat := 2
  /-- the notch inserted: centre in Hz from the LO and bandwidth in Hz [w 32 each; 03 R105; none] -/
  active : Option (Int × Nat) := none
  /-- a setting that waits for the next frame marker: mode, centre, bandwidth [03 R105, R129; none] -/
  next : Option (Nat × Int × Nat) := none
  /-- bandwidth of an ADAPTIVE notch, Hz [w 32; 03 R105; 100000] -/
  bw : Nat := 100000
  /-- the centre of the candidate when the ADAPTIVE notch was assigned, Hz from the LO [w 32; 03 R105; 0] -/
  home : Int := 0
  /-- island cycle since which the covered bins are below NOTCH_THRESH - 3 dB [03 R105; none] -/
  lowFrom : Option Nat := none
  deriving DecidableEq, Repr
/-- One IF stream (03 R97 to R108). -/
structure IfStream where
  /-- 0 DOWN, 1 UP, 2 IF_CLOCK_FAULT [w 2; 03 R99, R129; 0] -/
  st : Nat := 0
  /-- consecutive markers at the expected spacing; Device Time of the last marker, 2^-16 ns [03 R99; 0, none] -/
  good : Nat := 0
  lastMarker : Option Nat := none
  /-- island cycle since which the marker rate is within 0.5 ppm, after IF_CLOCK_FAULT [03 R99; none] -/
  rateOkFrom : Option Nat := none
  /-- the four notch slots [03 R105; OFF as Notch] -/
  notches : List Notch := List.replicate 4 {}
  /-- centres of notches inserted, moved by more than their bandwidth or removed in the present epoch [03 R106; empty] -/
  notchMoves : List Int := []
  /-- NOTCH_THRESH in dB [w 8; 03 R104; 15] -/
  thresh : Nat := 15
  /-- bins above the threshold in the last average, by number from the LO, and in how many consecutive averages [03 R104; empty] -/
  bins : List (Int × Nat) := []
  /-- peaks above the threshold in the last average: centre Hz, level LSB 0.25 dB, the greatest count of the bins that it covers [03 R104; empty] -/
  candidates : List (Int × Nat × Nat) := []
  /-- NOTCH_OVERFLOW has been raised for the present run [03 R105; false] -/
  overflow : Bool := false
  /-- jamming indicator, LSB 0.25 dB, 0xFF unknown [w 8; 03 R107; 0xFF] -/
  ji : Nat := 255
  /-- N0_FLOOR learned for the stream [03 R107; none (no journal record)] -/
  floor : Option Nat := none
  /-- learning run: island cycle of its start, sum and number of readings [03 R107; none, 0, 0] -/
  learnFrom : Option Nat := none
  learnSum : Nat := 0
  learnN : Nat := 0
  /-- island cycle at which JAM_WARN was crossed; JI has stayed below JAM_WARN - 2 dB since [03 R108; none] -/
  jamFrom : Option Nat := none
  belowFrom : Option Nat := none
  deriving DecidableEq, Repr
/-- One antenna (03 R97, R101 to R103). -/
structure AntSt where
  /-- cable delay, LSB 1/64 ns [w 32 signed; 03 R103; 0] -/
  cable : Int := 0
  /-- the 68-byte block in force; none while the antenna is uncalibrated [03 R101, R102; none] -/
  block : Option (List Byte) := none
  /-- the block in force was supplied by the host [w 1; 03 R102; false] -/
  hostBlock : Bool := false
  /-- SERIAL of the module whose identity memory was read [w 64; 03 R107, 16 R596; zero] -/
  serial : List Byte := List.replicate 8 0
  deriving DecidableEq, Repr
/-- A confirmed detection that waits for a channel (03 R111). -/
structure Detection where
  /-- signal, SV, antenna, k + 7, code phase, carrier rate [03 R111] -/
  signal : Nat
  sv : Nat
  ant : Nat
  gloK : Nat
  codePhase : Nat
  carrRate : Int
  /-- island cycle of its entry [03 R111] -/
  at_ : Nat
  deriving DecidableEq, Repr
/-- The satellite baseband (file 03). -/
structure GnssSt where
  /-- IF streams 0 to 7 [03 R97; below] -/
  streams : List IfStream := List.replicate 8 {}
  /-- tracking channels 0 to 383 that are allocated [03 R113, R119; none allocated] -/
  chans : Tab GChan := []
  /-- antennas 0 and 1 [03 R97; below] -/
  ants : List AntSt := List.replicate 2 {}
  /-- detection queue, at most 32, oldest first; detections discarded [w 32; 03 R111; empty, 0] -/
  queue : List Detection := []
  discarded : Nat := 0
  /-- GNSS_CONFIG: systems, signal mask, antennas [w 4, 11, 2; 03 R129; DESIGN CHOICE all enabled] -/
  systems : Nat := 15
  signals : Nat := 0x7FF
  antennas : Nat := 3
  /-- elevation mask in degrees, C/N0 mask in dB-Hz [w 8 each; 03 R112, R129; 10, DESIGN CHOICE 0] -/
  elMask : Nat := 10
  cn0Mask : Nat := 0
  /-- channels of removed signals are released at the next epoch [03 R129; false] -/
  relPending : Bool := false
  /-- loop parameters per SIGNAL: PLL, FLL, DLL bandwidths (LSB 2^-8 Hz), spacing (1/64 chip), coherent interval (ms) [w 32, 32, 32, 8, 8; 03 R114; 3840, 2560, 256, 6 (0.1 chip; 13 for G1 and G2), 20 data-only (L1 C/A, G1, G2, B2b) or 10 with a pilot] -/
  loops : List (List Nat) := (List.range 11).map (fun k => [3840, 2560, 256, if k == 6 || k == 7 then 13 else 6, if k == 0 || k == 6 || k == 7 || k == 10 then 20 else 10])
  /-- ACQ_THRESH in dB [w 8; 03 R111; 13] -/
  acqThresh : Nat := 13
  /-- REF_UNC, LSB 0.01 ppm [w 32; 03 R109; 50] -/
  refUnc : Nat := 50
  /-- REACQ_WINDOW in ms [w 32; 03 R115; 2000] -/
  reacqMs : Nat := 2000
  /-- JAM_WARN and JAM_SEVERE, LSB 0.25 dB [w 8 each; 03 R108; 24, 60] -/
  jamWarn : Nat := 24
  jamSevere : Nat := 60
  /-- BURST_PERIOD and BURST_ON in ms [w 32 each; 03 R127; 1000, 100] -/
  burstPeriod : Nat := 1000
  burstOn : Nat := 100
  /-- NEAP: island cycle of the start of the running burst, whether it has been extended, start of the last burst [03 R127; none, false, none] -/
  burstAt : Option Nat := none
  burstExt : Bool := false
  lastBurst : Option Nat := none
  /-- GNSS_MEAS_SUBSCRIBE decimation and the epochs counted; GNSS_NAV_SUBSCRIBE systems and failed units [w 8, 8, 4, 1; 03 R129; 0] -/
  measSub : Nat := 0
  measCount : Nat := 0
  navSub : Nat := 0
  navFailed : Bool := false
  /-- stored ephemeris sets, those accepted since the last epoch, and the units of sets that are not complete [03 R125; empty] -/
  eph : List EphSet := []
  ephNext : List EphSet := []
  ephParts : List EphPart := []
  /-- what the 32 acquisition engines search for, and the signals (SIGNAL, SV, antenna) whose search in the present round has ended [03 R109, R112; idle, none] -/
  engines : List (Option Search) := List.replicate 32 none
  round : List (Nat × Nat × Nat) := []
  /-- position of the last standalone solution, ECEF, LSB 0.1 mm [03 R109, R123; none] -/
  fixPos : Option (Int × Int × Int) := none
  /-- the channel registers as latched at the last epoch, by channel; a channel that is not listed reads zero [w 32 each; 03 R116; empty] -/
  latches : Tab (List Nat) := []
  /-- the observations of the last measurement record, the Device Time of its epoch, and its CLOCK_STEP [03 R120, R121; none] -/
  obs : List Obs := []
  obsAt : Option Nat := none
  obsStep : Bool := false
  /-- assistance: almanac units, ephemeris units, position, time as supplied [03 R129; none] -/
  almanac : List (List Byte) := []
  ephUnits : List (List Byte) := []
  assistPos : Option (List Byte) := none
  assistTime : Option (List Byte) := none
  /-- Device Time of the last measurement epoch (2^-16 ns), epochs counted, a record of it is due [03 R120, R123; none, 0, false] -/
  epoch : Option Nat := none
  epochNo : Nat := 0
  recordDue : Bool := false
  /-- CLOCK_BIAS and ISB of the latest standalone solution, LSB 0.25 ns [w 32 each; 03 R121; 0] -/
  clockBias : Int := 0
  isb : List Int := [0, 0, 0]
  /-- island cycles of the last updates of the three offsets [03 R123; none] -/
  isbAt : List (Option Nat) := [none, none, none]
  /-- Device Time was stepped since the last epoch; flag of the record that is due [w 1 each; 03 R121, R122; false] -/
  clockStep : Bool := false
  stepFlag : Bool := false
  deriving DecidableEq, Repr

/-- A base observation (04 R138, R140). -/
structure BaseObs where
  /-- SIGNAL, SV [03 R117] -/
  signal : Nat
  sv : Nat
  /-- epoch, Device Time, 2^-16 ns [04 R140] -/
  at_ : Nat
  /-- pseudorange and phase range, LSB 2^-16 m; the carrier's half-cycle ambiguity stands [04 R138] -/
  code : Int
  phase : Option Int
  half : Bool := false
  /-- phase-range rate, LSB 10^-4 m/s, of MSM5 and MSM7; epoch and phase range before the present, for MSM4 and MSM6 [04 R140; none] -/
  rate : Option Int := none
  prev : Option (Nat × Int) := none
  deriving DecidableEq, Repr
/-- A double-difference observation (04 R141). -/
structure DD where
  /-- SIGNAL, SV, SV of the system's reference satellite [04 R141] -/
  signal : Nat
  sv : Nat
  ref : Nat
  /-- code, and carrier where it is used, LSB 2^-16 m [04 R141, R142] -/
  code : Int
  carr : Option Int
  /-- standard deviations, LSB 0.01 mm [04 R140 to R142] -/
  sigCode : Nat
  sigCarr : Nat
  /-- elevation of the satellite, LSB 2^-32 turn; JAMMED, SLIP [04 R141, R142] -/
  el : Int
  jam : Bool := false
  slip : Bool := false
  /-- GLONASS k + 7 of the satellite [03 R95] -/
  gloK : Nat := 0
  deriving DecidableEq, Repr
/-- A double-difference ambiguity (04 R141, R144). -/
structure Amb where
  /-- SIGNAL, SV, SV of the reference satellite [04 R141] -/
  signal : Nat
  sv : Nat
  ref : Nat
  /-- float value LSB 2^-16 cycle, variance LSB 10^-6 cycle^2 [04 R141, R142; 0, 10^10] -/
  value : Int := 0
  var : Nat := 10000000000
  /-- the integer it is fixed to [04 R144, R145; none] -/
  fixed : Option Int := none
  deriving DecidableEq, Repr
/-- The states of the float filter (04 R141). -/
structure FloatSt where
  /-- ARP of antenna 0, ECEF, LSB 0.1 mm, and its velocity, LSB 0.1 mm/s [04 R141; none, 0] -/
  pos : Option (Int × Int × Int) := none
  vel : Int × Int × Int := (0, 0, 0)
  /-- ambiguities [04 R141; empty] -/
  ambs : List Amb := []
  /-- ionospheric delay of each satellite (system, SV, delay LSB 0.1 mm, variance), where R143 calls for it [04 R141, R143; empty] -/
  iono : List (Nat × Nat × Int × Nat) := []
  deriving DecidableEq, Repr

/-- The pose reference: bytes 0 to 95 of the pose record (04 R153, R154). -/
structure PoseRec where
  /-- T_REF, Device Time, 2^-16 ns [w 96; 04 R154] -/
  tRef : Nat := 0
  /-- TIDE [w 32; 04 R154] -/
  tide : Nat := 0
  /-- SOLUTION [w 8; 04 R146] -/
  solution : Nat := 0
  /-- HEADING_SRC [w 8; 04 R148] -/
  headingSrc : Nat := 0
  /-- FLAGS [w 8; 04 R154] -/
  flags : Nat := 2
  /-- SATS [w 8; 04 R154] -/
  sats : Nat := 0
  /-- E, N, U of the vehicle reference point, mm [w 32 each; 04 R154] -/
  e : Int := 0
  n : Int := 0
  u : Int := 0
  /-- velocity, LSB 2^-10 mm/s [w 32 each; 04 R154] -/
  ve : Int := 0
  vn : Int := 0
  vu : Int := 0
  /-- acceleration, LSB 2^-10 mm/s^2 [w 32 each; 04 R154] -/
  ae : Int := 0
  an : Int := 0
  au : Int := 0
  /-- heading (unsigned), pitch, roll, LSB 2^-32 turn [w 32 each; 04 R154] -/
  heading : Nat := 0
  pitch : Int := 0
  roll : Int := 0
  /-- their rates, LSB 2^-32 turn/s [w 32 each; 04 R154] -/
  headingRate : Int := 0
  pitchRate : Int := 0
  rollRate : Int := 0
  /-- HPL and VPL in mm, HEAD_PL in 2^-32 turn, AGE in us [w 32 each; 04 R154] -/
  hpl : Nat := 0xFFFFFFFF
  vpl : Nat := 0xFFFFFFFF
  headPl : Nat := 0xFFFFFFFF
  age : Nat := 0xFFFFFFFF
  deriving DecidableEq, Repr
/-- RTK, heading and pose (file 04). -/
structure PoseSt where
  /-- the float filter's states [04 R141; none formed] -/
  flt : FloatSt := {}
  /-- double differences of the last epoch: antenna 0 against the base, antenna 1 against antenna 0 [04 R141, R147; empty] -/
  dds : List DD := []
  ddVec : List DD := []
  /-- the ambiguities of the last epoch whose search passed, with the integers found [04 R144; empty] -/
  holdInts : List Amb := []
  /-- heading and pitch that the fixed vector gave the fusion filter at the last epoch, LSB 2^-32 turn [04 R147; none] -/
  vecAim : Option (Nat × Int) := none
  /-- standard deviations when the last epoch was applied, as Nav holds them: horizontal, up, heading [04 R158; 0] -/
  drSig : Nat × Nat × Nat := (0, 0, 0)
  /-- base observations of the station locked to, and its GLONASS code-phase biases of G1 and G2, LSB 0.02 m [04 R138, R140; empty, 0] -/
  baseObs : List BaseObs := []
  gloBias : Int × Int := (0, 0)
  /-- fused state; none before the first alignment and after a full POSE_RESET [04 R151, R168; none] -/
  nav : Option Nav := none
  /-- Device Time of the fused state, 2^-16 ns [04 R151; 0] -/
  navAt : Nat := 0
  /-- fused states before the present one, newest first, each with its Device Time, as far back as a pose reference may need them [01 R32; empty] -/
  navHist : List (Nat × Nav) := []
  /-- SOLUTION of the engine [w 8; 04 R146; 0 NONE] -/
  solution : Nat := 0
  /-- HEADING_SRC of the engine [w 8; 04 R148; 0 NONE] -/
  headingSrc : Nat := 0
  /-- the integers are fixed; consecutive epochs that passed with the same integers; residual tests failed in a row [04 R144, R145; false, 0, 0] -/
  fixed : Bool := false
  hold : Nat := 0
  residFails : Nat := 0
  /-- satellites used, UNCALIBRATED antennas used, JAMMED, CLOCK_STEP of the last epoch [04 R154, R158; 0] -/
  sats : Nat := 0
  uncal : Nat := 0
  jammed : Bool := false
  clockStep : Bool := false
  /-- epoch t_k of the last applied epoch, 2^-16 ns [04 R161; none] -/
  lastEpoch : Option Nat := none
  /-- POSE_DR_LIMIT has been raised in this DR episode [04 R161; false] -/
  drLimited : Bool := false
  /-- late epochs, excluded signals, RTCM frames discarded, RTCM messages ignored [w 32 each; 04 R138, R168; 0] -/
  lateEpochs : Nat := 0
  excluded : Nat := 0
  rtcmDiscarded : Nat := 0
  rtcmIgnored : Nat := 0
  /-- lever arms of ARP 0, ARP 1 and the IMU origin (9 values, mm) [w 32 each; 04 R136; none] -/
  install : Option (List Int) := none
  /-- rotations, antenna 1 present, IMU present [w 4, 1, 1; 04 R136; none installed] -/
  rotations : Nat := 0
  ant1 : Bool := false
  imuPresent : Bool := false
  /-- RATIO_MIN and HEAD_RATIO_MIN, LSB 0.01 [w 16 each; 04 R144, R147; 300, 250] -/
  ratioMin : Nat := 300
  headRatioMin : Nat := 250
  /-- SUCCESS_MIN, LSB 10^-9 [w 32; 04 R144; 999900000] -/
  successMin : Nat := 999900000
  /-- FIX_MIN_AMB, FIX_HOLD [w 8 each; 04 R144; 8, 3] -/
  fixMinAmb : Nat := 8
  fixHold : Nat := 3
  /-- HEAD_TOL in mm, BASELINE_FIX_LIMIT in km [w 16 each; 04 R147, R143; 20, 40] -/
  headTol : Nat := 20
  baselineKm : Nat := 40
  /-- PL_LIMIT in mm [w 32; 04 R160; 100] -/
  plLimit : Nat := 100
  /-- HEAD_PL_LIMIT, LSB 2^-32 turn [w 32; 04 R160; 5965232 (0.5 degree)] -/
  headPlLimit : Nat := 5965232
  /-- DR_LIMIT and INTEGRITY_HOLD in ms [w 32, 16; 04 R160; 2000, 200] -/
  drLimitMs : Nat := 2000
  holdMs : Nat := 200
  /-- K_PL, LSB 0.01 [w 16; 04 R158; 533] -/
  kPl : Nat := 533
  /-- EXTRAP_PL_RATE in mm/s, COG_MIN_SPEED in mm/s [w 16 each; 04 R156, R160; 20, 1000] -/
  extrapRate : Nat := 20
  cogMin : Nat := 1000
  /-- INTEGRITY_OK, and its value at the boundary that opened the present tide [w 1 each; 04 R160; false] -/
  integrity : Bool := false
  tideInt : Bool := false
  /-- island cycle since which the conditions of R160 hold without interruption [04 R160; none] -/
  condFrom : Option Nat := none
  /-- the 44 parameter bytes of POSE_IMU_CONFIG; none until it is accepted [04 R149, R150; none] -/
  imuCfg : Option (List Byte) := none
  /-- the four read transactions: command bytes and read length [04 R149; DESIGN CHOICE none set] -/
  imuReads : List (List Byte × Nat) := List.replicate 4 ([], 0)
  /-- last sample: rates and specific forces in body axes after scaling, LSB 10^-9 SI [04 R149; 0] -/
  imuSample : List Int := [0, 0, 0, 0, 0, 0]
  /-- Device Time of the last sample (2^-16 ns), island cycle of it or of the acceptance of the configuration [04 R150; none, 0] -/
  imuAt : Option Nat := none
  imuCyc : Nat := 0
  /-- consecutive samples at the nominal rate; the IMU is lost; IMU_SATURATED of the last sample [04 R150; 0, false, false] -/
  imuRun : Nat := 0
  imuLost : Bool := false
  imuSat : Bool := false
  /-- correction source: 0 RADIO, 1 HOST, 2 AUTO [w 8; 04 R139; 2] -/
  corrSource : Nat := 2
  /-- CORR_AGE_LIMIT in ms, station required (0xFFFF any) [w 32, 16; 04 R140, R168; 5000, 0xFFFF] -/
  corrAgeMs : Nat := 5000
  corrStation : Nat := 0xFFFF
  /-- station IDs that have delivered a station message, an MSM [04 R139; none] -/
  seenStation : List Nat := []
  seenMsm : List Nat := []
  /-- station last locked to, its ARP (LSB 0.1 mm) and height, and whether the lock stands [04 R139; none, none, false] -/
  station : Option Nat := none
  arp : Option (Int × Int × Int × Nat) := none
  locked : Bool := false
  /-- coordinates of stations not locked [04 R139; empty] -/
  arps : Tab (Int × Int × Int × Nat) := []
  /-- epoch of the newest base observations, 2^-16 ns [04 R140; none] -/
  corrAt : Option Nat := none
  /-- CORR_STALE [w 1; 04 R140; false] -/
  corrStale : Bool := false
  /-- Device Time of the last complete frame from the radio [11 R411; none] -/
  radioAt : Option Nat := none
  /-- complete frames from the radio that the engine has not taken [11 R411; empty] -/
  rtcmIn : List (List Byte) := []
  /-- POSE_SUBSCRIBE decimation and its count; POSE_CORR_SUBSCRIBE; NMEA mask and rate [w 8 each; 04 R168; 0] -/
  poseSub : Nat := 0
  poseCount : Nat := 0
  corrSub : Bool := false
  nmeaMask : Nat := 0
  nmeaRate : Nat := 1
  /-- phase-centre tables: PCV_MODEL, group, 19 values; at most 4 [04 R136, R168; empty] -/
  pcv : List (Nat × Nat × List Int) := []
  /-- POSE_RESET waiting for the next measurement epoch [04 R168; none] -/
  resetPending : Option Nat := none
  /-- the pose reference held, and whether it is that of the present tide [04 R153, R157; none, false] -/
  ref : Option PoseRec := none
  refNow : Bool := false
  /-- follower: a reference was received in each of the last 8 tides, newest first, the present tide being the first [01 R23; none] -/
  refTides : List Bool := []
  /-- base reference position: 0 UNSET, 1 SURVEYING, 2 SET, 3 SUSPECT [w 8; 04 R164; 0 (no journal record)] -/
  baseSt : Nat := 0
  /-- ARP ECEF (LSB 0.1 mm), ARP height (LSB 0.1 mm), station ID [w 64 each, 16, 12; 04 R164; DESIGN CHOICE 0] -/
  baseXyz : Int × Int × Int := (0, 0, 0)
  baseHeight : Nat := 0
  baseStation : Nat := 0
  /-- SURVEY_TIME in s and SURVEY_ACC in mm [w 32 each; 04 R165; 600, 2000] -/
  surveyTime : Nat := 600
  surveyAcc : Nat := 2000
  /-- island cycle at which the survey began; sum of weights (10^12 / sigma^2, mm) and of weighted positions [04 R165; 0] -/
  surveyFrom : Nat := 0
  surveyW : Nat := 0
  surveySum : Int × Int × Int := (0, 0, 0)
  /-- CORR_INTERVAL, STATION_INTERVAL in s, REF_MON_LIMIT in m [w 8 each; 04 R166, R167; 1, 10, 10] -/
  corrInterval : Nat := 1
  stationInterval : Nat := 10
  refMonM : Nat := 10
  /-- standalone solutions beyond the limit in a row; island cycle since which the vector disagrees [04 R166; 0, none] -/
  monCount : Nat := 0
  vecFrom : Option Nat := none
  /-- the present standalone solution, ECEF, LSB 0.1 mm [04 R166, R168; none] -/
  standalone : Option (Int × Int × Int) := none
  /-- number of correction intervals, superframe of the last one, Device Time of the last station messages [04 R167; 0, none, none] -/
  corrSet : Nat := 0
  corrSf : Option Nat := none
  stationAt : Option Nat := none
  /-- station frames that join the next correction set [11 R410; empty] -/
  stationOut : List Byte := []
  /-- whole cycles (SIGNAL, SV, cycles) that the phase ranges emitted hold since each signal's last slip [04 R167; empty] -/
  msmAlign : List (Nat × Nat × Int) := []
  deriving DecidableEq, Repr

/-- One entry of the cell table (05 R176, R177). -/
structure Cell where
  /-- KIND, FLAGS, CHANNEL [w 8, 8, 16; 05 R176; as CELL_ADD gives them] -/
  kind : Nat
  flags : Nat
  channel : Nat
  /-- LEVER_X, LEVER_Y, LEVER_Z in mm [w 32 each; 05 R176] -/
  lx : Int
  ly : Int
  lz : Int
  /-- WIDTH, LENGTH in mm; LAT_ON, LAT_OFF in us [w 16 each; 05 R176] -/
  width : Nat
  length : Nat
  latOn : Nat
  latOff : Nat
  /-- OVERLAP_THRESH, HYST, RX_LAYER, BOUNDARY_MASK, RX_CONST [w 8 each; 05 R176] -/
  thresh : Nat
  hyst : Nat
  rxLayer : Nat
  bmask : Nat
  rxConst : Nat
  /-- RX_BIAS, RX_GAIN, DUTY_MIN, DUTY_MAX, FADE_ON, FADE_OFF [w 16, 32, 16, 16, 16, 16; 05 R176] -/
  rxBias : Int
  rxGain : Nat
  dutyMin : Nat
  dutyMax : Nat
  fadeOn : Nat
  fadeOff : Nat
  /-- MODE_NOW: mode in the last committed command, a run is open [w 2, 1; 05 R176; 0] -/
  modeNow : Nat := 0
  runOpen : Bool := false
  /-- LAST_OFF_STEP, DUTY_NOW, TIDES_ON [w 8, 16, 32; 05 R176; 0] -/
  lastOff : Nat := 0
  dutyNow : Nat := 0
  tidesOn : Nat := 0
  /-- RUN_START and SEG_END, held as Device Time in 2^-16 ns [w 32 each as ST; 05 R176; 0] -/
  runStart : Nat := 0
  segEnd : Nat := 0
  /-- the last command was a spot of one tide: OFF at offset 0 follows [05 R200, 08 R297; false] -/
  pulse : Bool := false
  /-- the present run is a spot that credits nothing [05 R217; false] -/
  noCredit : Bool := false
  /-- island cycle of the last CELL_RATE_CLAMPED [05 R192; none]; clampings counted [05 R192; 0] -/
  clampAt : Option Nat := none
  clamps : Nat := 0
  deriving DecidableEq, Repr
/-- A pending spot (05 R198, R199, R217). -/
structure Spot where
  /-- cell, IGNORE_COVERAGE, NO_CREDIT_COVERAGE, MODE [05 R217] -/
  cell : Nat
  ignoreCov : Bool
  noCredit : Bool
  mode : Nat
  /-- TIDE, OFFSET, DUTY, DURATION, TOKEN [w 32, 16, 16, 32, 32; 05 R217] -/
  tide : Nat
  offset : Nat
  duty : Nat
  duration : Nat
  token : Nat
  /-- B(T) + o x U and the end of the interval at the ground, 2^-16 ns [05 R198] -/
  g0 : Nat
  g1 : Nat
  /-- CELL_SPOT_SUPPRESSED has been raised for it [05 R198; false] -/
  told : Bool := false
  deriving DecidableEq, Repr
/-- CELL_MANUAL in progress (05 R201). -/
structure Manual where
  /-- cell, mode, duty, duration in ms [05 R201] -/
  cell : Nat
  mode : Nat
  duty : Nat
  ms : Nat
  /-- island cycle of the boundary at which it latched [05 R201; none] -/
  at_ : Option Nat := none
  deriving DecidableEq, Repr
/-- What CELL_EVAL gives for a cell in the tide (05 R187 to R197). -/
structure CellRes where
  /-- cell, its CHANNEL, command word [w 12, 16, 24; 05 R195] -/
  cell : Nat
  channel : Nat
  word : Nat
  /-- mode after the command, edge placed: offset and whether it turns on [05 R193] -/
  mode : Nat
  edge : Option (Nat × Bool) := none
  duty : Nat
  /-- step that turned it off, 0 none [05 R187] -/
  step : Nat := 0
  /-- one-tide spot; its off edge (offset) [05 R200] -/
  pulse : Option Nat := none
  /-- the run credits nothing [05 R217] -/
  noCredit : Bool := false
  /-- grid cells of the segment, G [05 R185, R205] -/
  grid : Nat := 0
  /-- the cell is on at some instant of the tide [05 R196] -/
  onAny : Bool := false
  deriving DecidableEq, Repr
/-- The cell engine (file 05). -/
structure CellSt where
  /-- cell table: entries allocated of 0 to 4,095 [05 R176; none allocated] -/
  cells : Tab Cell := []
  /-- V_MIN (mm/s), CORRIDOR_CHECK, SLACK_LOW and SLACK_HIGH (%), VDD_FLOOR and VDD_CEIL (mV) [w 16, 8, 8, 8, 16, 16; 05 R216; 300, 1, 10, 35, 650, 950] -/
  vMin : Nat := 300
  corridorCheck : Bool := true
  slackLow : Nat := 10
  slackHigh : Nat := 35
  vddFloor : Nat := 650
  vddCeil : Nat := 950
  /-- CELL_ENGINE_CONFIG that takes effect from the next tide: the same six [05 R215; none] -/
  cfgNext : Option (List Nat) := none
  /-- pending spots, at most 1,024 and 8 per cell [05 R199; empty] -/
  spots : List Spot := []
  /-- CELL_MANUAL in progress [05 R201; empty] -/
  manuals : List Manual := []
  /-- FRAME_LEAD in ns, and its value from the next tide [05 R171, R213; 10000 (no loop carries a cell)] -/
  lead : Nat := 10000
  leadNext : Option Nat := none
  /-- the graph of the present tide is armed [05 R202; false] -/
  armed : Bool := false
  /-- the entries as the evaluation of the present tide takes them, and the channels held OFF in it [05 R180, R270, R287, R307; empty] -/
  snap : Tab Cell := []
  held : List Nat := []
  /-- instants whose POSE_BATCH has completed, 2^-16 ns [05 R183, R202; empty] -/
  batches : List Nat := []
  /-- nodes (64 x loop + position) whose CELL_EVAL has completed, their results, loops packed with their frames' words by CHANNEL [05 R202; empty] -/
  evaled : List Nat := []
  results : List CellRes := []
  packed : List (Nat × Tab Nat) := []
  /-- Device Time at which COMMIT_GATE completed, 2^-16 ns [05 R202, R210; none] -/
  gateAt : Option Nat := none
  /-- the commit decision of the present tide has been taken [05 R172; false] -/
  decided : Bool := false
  /-- the frame last committed: word by CHANNEL; the all-off frame is an empty table [05 R210; empty] -/
  frame : Tab Nat := []
  /-- write-backs pending, in tide order: TX, TY, tide, grid cells to credit (256 x j + i) [05 R197, R202, R203; empty] -/
  writes : List (Int × Int × Nat × List Nat) := []
  /-- consecutive late tides, tides evaluated (CELL_STATS gives its low 32 bits), late tides [w 8, 32, 32; 05 R210, R215; 0] -/
  lateRunLen : Nat := 0
  tides : Nat := 0
  lateTides : Nat := 0
  /-- CELL_LATE_RUN; consecutive on-time tides in shadow [w 1; 05 R211, R212; false, 0] -/
  lateRun : Bool := false
  shadow : Nat := 0
  /-- slacks that may still be the least of a window of 10,000 tides: tide count and slack in ns, slack rising [05 R208; empty] -/
  slacks : List (Nat × Int) := []
  /-- tide count at which this history began [05 R208; 0] -/
  slackFrom : Nat := 0
  /-- the least slack of the last 1,000 tides was below SLACK_LOW of the window at the last test [05 R208; false] -/
  slackWasLow : Bool := false
  /-- estimate of capacity at the present VDD_CORE (reference cells per tide), mean pace count per us [05 R208, R215; 0] -/
  capacity : Nat := 0
  pace : Nat := 0
  /-- workload W of the last tide, LSB 1/64 reference cell; cells on in the last committed frame [05 R205, R215; 0] -/
  work : Nat := 0
  cellsOn : Nat := 0
  /-- CELL_TRACE_SUBSCRIBE k and the tides counted [w 16; 05 R204; 0] -/
  traceK : Nat := 0
  traceN : Nat := 0
  /-- every cell has been OFF since the last commit; some cell is on in the frame decided for the next one [02 R64; true, false] -/
  allOff : Bool := true
  nextOn : Bool := false
  deriving DecidableEq, Repr

/-- The values of one plane: one value for all grid cells and those that differ, by 256 x j + i (06 R230, R231). -/
structure PData where
  /-- value of every grid cell not listed [w 8; 06 R229, R231] -/
  fill : Nat := 0
  /-- grid cells that differ, keys rising [06 R230; empty] -/
  cells : Tab Nat := []
  deriving DecidableEq, Repr
/-- A plane that is not ABSENT (06 R229 to R232). -/
structure Plane where
  /-- layer, TX, TY [w 3, 16, 16; 06 R227, R229] -/
  layer : Nat
  tx : Int
  ty : Int
  /-- 1 VALID, 2 PARTIAL, 3 UNREADABLE [w 3; 06 R231] -/
  st : Nat := 1
  /-- the copy in DRAM [06 R232] -/
  dram : PData := {}
  /-- the copy in the tile cache [06 R243; none] -/
  cache : Option PData := none
  /-- island cycle of the first change of the cached copy since its last write to DRAM [06 R247; none: clean] -/
  dirtyFrom : Option Nat := none
  /-- dirty since its last export [w 1; 06 R224, R239; false] -/
  dirtyExp : Bool := false
  /-- LAST_CREDIT_TIDE [w 32; 06 R234, R248; 0] -/
  lastCredit : Nat := 0
  deriving DecidableEq, Repr
/-- A job as RASTER_JOB_DEFINE defined it (06 R253). -/
structure JobDef where
  /-- JOB_ID, grid code, LAYERS [w 32, 8, 8; 06 R253] -/
  id : Nat
  grid : Nat
  layers : Nat
  /-- UNKNOWN_COVERAGE is uncovered [w 1; 06 R253] -/
  uncovered : Bool
  /-- origin: latitude, longitude (LSB 10^-12 degree), height (mm) [w 64, 64, 32; 06 R226, R253] -/
  lat : Int
  lon : Int
  height : Int
  /-- extent [w 16 each; 06 R228, R253] -/
  tx0 : Int
  ty0 : Int
  tx1 : Int
  ty1 : Int
  /-- fallback values of L_2 to L_7 [w 8 each; 06 R253] -/
  fallback : List Nat
  /-- T_PF in ms, FLUSH_INTERVAL in ms, HORIZON in m [w 16 each; 06 R253] -/
  tpf : Nat
  flush : Nat
  horizon : Nat
  deriving DecidableEq, Repr
/-- A plane received on S_0 (06 R234 to R237): its place, mode and values. -/
structure LoadJob where
  /-- layer, TX, TY, MODE [06 R234] -/
  layer : Nat
  tx : Int
  ty : Int
  mode : Nat
  /-- values [06 R234] -/
  data : PData
  deriving DecidableEq, Repr
/-- A save or export that runs (06 R239, R240). -/
structure SaveJob where
  /-- an export rather than a save [06 R239] -/
  isExport : Bool
  /-- planes not yet sent: layer, TX, TY [06 R240] -/
  queue : List (Nat × Int × Int)
  /-- planes sent [06 R234] -/
  sent : Nat := 0
  /-- tide at which it started, zero while no job was OPEN or CLOSING [06 R234] -/
  tide : Nat
  deriving DecidableEq, Repr
/-- Field rasters and coverage (file 06). -/
structure RasterSt where
  /-- DRAM fitted, GiB, as start-up finds it; 0 none or out of service [06 R232, 17 R615; 0] -/
  dramGiB : Nat := 0
  /-- GFAULT bit 7: DRAM is out of service [w 1; 14 R512; false] -/
  dramOut : Bool := false
  /-- job state: 0 NONE, 1 DEFINED, 2 ARMED, 3 OPEN, 4 CLOSING [w 8; 06 R220; 0 NONE] -/
  job : Nat := 0
  /-- the job defined [06 R221, R253; none] -/
  jdef : Option JobDef := none
  /-- epoch (s) and period code bound to the job; first and last tide numbers [w 48, 8, 32, 32; 06 R222; 0] -/
  epoch : Nat := 0
  period : Nat := 0
  firstTide : Nat := 0
  lastTide : Nat := 0
  /-- every cell is evaluated as OFF (RASTER_JOB_CLOSE with FORCE) [w 1; 06 R223; false] -/
  forceOff : Bool := false
  /-- planes that are not ABSENT [06 R231, R232; none] -/
  planes : List Plane := []
  /-- planes installed in an open job that take effect at a boundary; whether one has passed since [06 R236; empty] -/
  loads : List (LoadJob × Bool) := []
  /-- planes installed, rejected, cause of the last rejection, its TX and TY [w 32, 32, 32, 16, 16; 06 R252; 0] -/
  installed : Nat := 0
  rejected : Nat := 0
  lastCause : Nat := 0
  lastTx : Int := 0
  lastTy : Int := 0
  /-- an 8-bit plane whose parts are arriving: header of part 0, next part, bytes so far [06 R235; none] -/
  parts : Option (List Byte × Nat × List Byte) := none
  /-- drops in an open job that wait for a boundary: layer mask, rectangle; whether one has passed since [06 R242; empty] -/
  drops : List (Nat × (Int × Int × Int × Int) × Bool) := []
  /-- coverage deltas received: origin and body, oldest first; whether a boundary has passed since [06 R250; empty] -/
  deltas : List (Nat × List Byte × Bool) := []
  /-- the save or export that runs [06 R239; none] -/
  save : Option SaveJob := none
  /-- RASTER_WANT_SUBSCRIBE; island cycle of the last test; tiles asked for and when [06 R241; false, none, empty] -/
  want : Bool := false
  wantAt : Option Nat := none
  wanted : List (Int × Int × Nat) := []
  /-- refusals of the present run of pool refusals [06 R233; 0] -/
  poolRun : Nat := 0
  /-- credits dropped since definition; since the last event: outside the extent, pool full; island cycle of the last event [w 32; 06 R248, R254; 0, 0, 0, none] -/
  dropped : Nat := 0
  dropOut : Nat := 0
  dropPool : Nat := 0
  dropAt : Option Nat := none
  /-- task-driven fills of the last second: island cycle and wait in ns; island cycle of the last RASTER_CACHE_MISS [06 R246; empty, none] -/
  fills : List (Nat × Nat) := []
  missAt : Option Nat := none
  /-- residency set, slots it needs, RASTER_WORKING_SET raised for the present run [06 R244, R246; empty, 0, false] -/
  residency : List (Int × Int) := []
  slotsNeeded : Nat := 0
  workingRun : Bool := false
  /-- uncorrectable errors since the job opened [w 32; 06 R252; 0] -/
  errors : Nat := 0
  /-- RASTER_PEER_MISMATCH raised for the present run [06 R250; false] -/
  mismatchRun : Bool := false
  deriving DecidableEq, Repr

/-- A channel of a physical node (08 R295 to R320). -/
structure NChan where
  /-- present command: MODE and DUTY [w 2, 12; 08 R295; OFF] -/
  mode : Nat := 0
  duty : Nat := 0
  /-- word latched at the previous boundary [w 24; 08 R310; 0] -/
  lastWord : Nat := 0
  /-- word latched and not yet at its edge: word and edge instant, 2^-16 ns [07 R268; none] -/
  next : Option (Nat × Nat) := none
  /-- start of the first PWM period, of pull-in, or of the hold, 2^-16 ns [08 R296 to R298; 0] -/
  phase : Nat := 0
  /-- a fade: duty at its start, target duty, start (2^-16 ns), periods of the fade [08 R301; none] -/
  fade : Option (Nat × Nat × Nat × Nat) := none
  /-- a probe pulse: start (2^-16 ns) and width in us [08 R310; none] -/
  probe : Option (Nat × Nat) := none
  /-- latched fault: 0 none, 3 SHORT_LOAD, 4 SHORT_SUPPLY, 6 NEIGHBOUR [08 R303, R306; 0] -/
  fault : Nat := 0
  /-- OPEN found at the last test [08 R304, R305; false] -/
  openLoad : Bool := false
  /-- consecutive pulses below t_DIAG_MIN [08 R305; 0] -/
  short : Nat := 0
  /-- pulses have been counted up to this instant, 2^-16 ns [08 R323; 0] -/
  counted : Nat := 0
  /-- drive current last sensed in an on-time, mA; time above threshold not yet counted, 2^-16 ns [08 R305, R323; 0] -/
  amps : Nat := 0
  above : Nat := 0
  /-- colour feedback: sums of the red and near-infrared integrals, pulses summed, consecutive updates at a clamp, last ratio [08 R319; 0] -/
  pdRed : Nat := 0
  pdNir : Nat := 0
  pdN : Nat := 0
  clamped : Nat := 0
  ratio : Nat := 0
  /-- pin voltage last sensed while low, mV [08 R304; 0]; OPEN was found in the on state [08 R305, R332; false] -/
  pinMv : Nat := 0
  openOn : Bool := false
  /-- the output stays low until the next edge that is not identical [08 R328; false] -/
  low : Bool := false
  deriving DecidableEq, Repr
/-- A physical node of a loop (07 R258 to R289): it is listed once it has received an ENUMERATE frame. -/
structure NodeDev where
  /-- identity memory, and the memories of the modules of its channels [07 R277, R280; as found] -/
  idRec : List Byte := []
  mods : List (Option (List Byte)) := []
  /-- position [w 6; 07 R276; none] -/
  pos : Option Nat := none
  /-- node configuration MEM 0, bytes 0x000 to 0x19F: the control bytes and eight channel configurations of 48 bytes [07 R278, 08 R299; 0, channel defaults of R299] -/
  cfg : List Byte := []
  /-- 0 RUN, 1 WAIT_PHASE, 2 FAILSAFE_COMMIT, 3 FAILSAFE_RX [w 2; 07 R271; 1] -/
  st : Nat := 1
  /-- ADV in force, ns [w 24; 07 R278; 0] -/
  adv : Nat := 0
  /-- RX_ERR, MGMT_READY [w 1 each; 07 R271; 0] -/
  rxErr : Bool := false
  ready : Bool := false
  /-- consecutive command frames whose slot was discarded [07 R269; 0] -/
  discards : Nat := 0
  /-- slot accepted and not yet latched: words of its channels [07 R267; none]; boundary that its COMMIT closed, 2^-16 ns -/
  slot : Option (List Nat) := none
  boundary : Option Nat := none
  /-- arrival of the last COMMIT in RUN, 2^-16 ns [07 R269, R273; none] -/
  commitAt : Option Nat := none
  /-- boundary of the latch scheduled, 2^-16 ns [07 R273; none] -/
  latchAt : Option Nat := none
  /-- PHASE_ERR (LSB 10 ns), TEMP (degC), SUPPLY (LSB 0.1 V) [w 6, 8, 8; 07 R271; 0] -/
  phaseErr : Int := 0
  temp : Int := 0
  supply : Nat := 0
  /-- off at T_SHUT and not yet at T_SHUT - 10 degC [08 R317; false] -/
  hot : Bool := false
  /-- 128-byte buffer of LOAD and WRITE [07 R277; zero] -/
  buf : List Byte := []
  /-- the eight channels [08 R294; OFF] -/
  chans : List NChan := List.replicate 8 {}
  deriving DecidableEq, Repr
/-- The device's record of a channel (08 R307 to R312, R324 to R330). -/
structure ChanView where
  /-- last reported CH_DIAG code [w 3; 08 R303; 0] -/
  diag : Nat := 0
  /-- held until cleared (latched code), held for WORN [w 1 each; 08 R307, R326; false] -/
  latched : Bool := false
  wornHold : Bool := false
  /-- CHANNEL_FAULT_CLEAR has been written and waits for the node's confirmation: the code cleared [08 R306; none] -/
  clearing : Option Nat := none
  /-- consecutive tides reported NOT_VERIFIED; tides tried for a probe; a probe is pending [w 32; 08 R309, R311; 0, 0, false] -/
  nv : Nat := 0
  tried : Nat := 0
  probe : Bool := false
  /-- PROBE_UNAVAILABLE, CONSUMABLE_MISSING have been raised [08 R312, R327; false] -/
  noProbe : Bool := false
  missing : Bool := false
  /-- probes sent since RUN [w 32; 08 R313; 0] -/
  probes : Nat := 0
  /-- LIFE_0 at the last save [08 R324; 0]; LIFE_0, LIFE_1 as read in the last second [w 64, 32; 08 R330; 0] -/
  saved : Nat := 0
  life0 : Nat := 0
  life1 : Nat := 0
  /-- island cycles of the last events of this channel by code [08 R332; none] -/
  told : Tab Nat := []
  deriving DecidableEq, Repr
/-- The device's record of a node (07 R271, R276, R282, R290). -/
structure NodeView where
  /-- SERIAL and TYPE found at enumeration [w 64, 16; 07 R270, R280] -/
  serial : Nat := 0
  type : Nat := 0
  /-- identity record and block are sound; CHANNELS, STROBE_MASK, FEATURES, T_REP, T_OUT, I_MAX of the block [07 R282] -/
  sound : Bool := false
  channels : Nat := 0
  strobe : Nat := 0
  features : Nat := 0
  tRep : Nat := 0
  tOut : Nat := 0
  iMax : Nat := 0
  /-- it has a slot [07 R265] -/
  slotted : Bool := false
  /-- segment delay c_k before it, forward delay d_k, ADV, in ns [w 32 each; 07 R272, R273, R290; 0] -/
  c : Nat := 0
  d : Nat := 0
  adv : Nat := 0
  /-- last status [w 64; 07 R271; none]; discarded slots, missing statuses [w 32 each; 07 R290; 0]; consecutive RX_ERR [07 R293; 0] -/
  status : Option Nat := none
  discarded : Nat := 0
  missing : Nat := 0
  rxRun : Nat := 0
  /-- in failsafe; KNANI_NODE_RESUME under way [w 1 each; 07 R270; false] -/
  failsafe : Bool := false
  resuming : Bool := false
  /-- a neighbour-pin test runs [w 1; 08 R315; false] -/
  testing : Bool := false
  /-- the eight channels [08 R330] -/
  chans : List ChanView := List.replicate 8 {}
  deriving DecidableEq, Repr
/-- What a MANAGE transaction is for (07 R277). -/
inductive Mgmt where
  /-- the last frame of a KNANI_ID_READ or KNANI_ID_WRITE: completed to its host command; a frame before it -/
  | host
  | part
  /-- CHANNEL_CONFIG, completed to its host command -/
  | config
  /-- CH_CLEAR for a channel -/
  | clear (ch : Nat)
  /-- NEIGHBOUR_TEST, with the mask of channels tested -/
  | neighbour
  /-- LIFE_SAVE for a channel: cause 0 periodic, 1 stop, 2 PFW_N -/
  | save (ch cause : Nat)
  /-- resumption: 0 header read, 1 echo, 2 configuration and RUN = 1 -/
  | resume (step : Nat)
  /-- WATCHDOG_PERIOD, PERIOD, SLOT_OFFSET or ADV written by the device itself -/
  | own
  deriving DecidableEq, Repr
/-- A MANAGE transaction (07 R277). -/
structure Manage where
  /-- TARGET, MEM, OP, ADDRESS, LENGTH, DATA [07 R277] -/
  pos : Nat
  mem : Nat
  op : Nat
  addr : Nat
  len : Nat
  data : List Byte := []
  /-- purpose, and the host command that waits: mailbox, slot, opcode, TAG -/
  why : Mgmt := .own
  cmd : Option (Nat × Nat × Nat × Nat) := none
  /-- data that the frames before this one have read for its command [07 R277; none] -/
  got : List Byte := []
  /-- RESULT written by the target; 0 not answered [w 8; 07 R277; 0] -/
  result : Nat := 0
  deriving DecidableEq, Repr
/-- A command frame under way on a loop (07 R261, R262, R266). -/
structure Flight where
  /-- tide whose boundary its COMMIT closes, that boundary (2^-16 ns) [07 R264] -/
  tide : Nat
  boundary : Nat
  /-- slots by position: the command words sent -/
  slots : Tab (List Nat)
  /-- statuses that nodes have put in their slots' place, by position [w 64; 07 R266] -/
  status : Tab Nat := []
  deriving DecidableEq, Repr
/-- A Knani loop (07 R276 to R291). -/
structure Loop where
  /-- 0 OFF, 1 ENUM, 2 RUN, 3 BROKEN [w 8; 07 R291; 0] -/
  st : Nat := 0
  /-- CAUSE of OFF [w 8; 07 R291; 0 commanded] -/
  cause : Nat := 0
  /-- ALL_OFF rather than CONTINUE; ACCEPT_NEW of the running enumeration [w 1 each; 07 R287, R288; false] -/
  allOff : Bool := false
  acceptNew : Bool := false
  /-- the enumeration is a restore: its cells are held [w 1; 07 R288; false] -/
  restoring : Bool := false
  /-- SERIAL and TYPE by position before the restore [07 R288; empty] -/
  before : List (Nat × Nat) := []
  /-- KNANI_LOOP_MISMATCH: only KNANI_LOOP_START with ACCEPT_NEW confirms the population [07 R288; false] -/
  mismatch : Bool := false
  /-- COUNT of the ENUMERATE frame under way; island cycle at which it was sent [w 8; 07 R276; none, 0] -/
  enum : Option Nat := none
  enumAt : Nat := 0
  /-- N of the last enumeration [w 8; 07 R291; 0] -/
  count : Nat := 0
  /-- the device's records of positions 0 to N - 1 [07 R276; empty] -/
  nodes : List NodeView := []
  /-- delay of the last segment, measured and predicted transits, transit of the last full measurement, ns [w 32 each; 07 R272, R275; 0] -/
  cLast : Nat := 0
  transit : Nat := 0
  predicted : Nat := 0
  transitFull : Nat := 0
  /-- next segment to re-measure, its instant, a full measurement is pending [07 R275; 0, 0, false] -/
  segNext : Nat := 0
  segAt : Nat := 0
  full : Bool := false
  /-- the command frame under way [07 R264; none] -/
  flight : Option Flight := none
  /-- consecutive missing returns, tide of the first, total, island cycle of the last event [07 R286; 0, 0, 0, none]; consecutive tides with nothing at KR_n [0] -/
  missRun : Nat := 0
  missTide : Nat := 0
  missTotal : Nat := 0
  missAt : Option Nat := none
  silent : Nat := 0
  /-- break position j and BREAK_TIDE [w 8, 32; 07 R286; none, 0] -/
  breakPos : Option Nat := none
  breakTide : Nat := 0
  /-- HOPS of a BREAK frame under way [w 8; 07 R285; none] -/
  hops : Option Nat := none
  /-- MANAGE transactions, the one under way first [07 R277; empty] -/
  manage : List Manage := []
  /-- physical nodes in order from KW_n [07; none seen] -/
  phys : List NodeDev := []
  /-- WATCHDOG_PERIOD is to be restored at this island cycle [07 R279; none] -/
  dogAt : Option Nat := none
  /-- KNANI_LOOP_START that waits for the population: mailbox, slot, opcode, TAG [07 R289; none] -/
  startCmd : Option (Nat × Nat × Nat × Nat) := none
  deriving DecidableEq, Repr
/-- A module's entry in the shadow table in retained SRAM (08 R325, R326). -/
structure Shadow where
  /-- SERIAL, TYPE, COUNT_0, COUNT_1 [w 64, 16, 64, 32; 08 R325] -/
  serial : Nat
  type : Nat
  c0 : Nat := 0
  c1 : Nat := 0
  /-- rating (COUNT_0 units), rated hours, NEAR_END and WORN raised [08 R321, R322, R326] -/
  rating : Nat := 0
  hours : Nat := 0
  near : Bool := false
  worn : Bool := false
  deriving DecidableEq, Repr
/-- An identity bus transaction that waits (07 R284). -/
structure IdTrans where
  /-- OP, ADDRESS, LENGTH, data [07 R284] -/
  op : Nat
  addr : Nat
  len : Nat
  data : List Byte := []
  /-- the host command that waits: mailbox, slot, opcode, TAG; none for the device's own read of the record -/
  cmd : Option (Nat × Nat × Nat × Nat) := none
  deriving DecidableEq, Repr
/-- Knani wire and channels (files 07 and 08). -/
structure KnaniSt where
  /-- loops 0 to 15 [07 R257; OFF, held in wire reset] -/
  loops : List Loop := List.replicate 16 {}
  /-- exposure windows: start (2^-16 ns), width and period in us [08 R314; none] -/
  windows : List (Option (Nat × Nat × Nat)) := List.replicate 8 none
  /-- DIAG_STALE_TIDES [w 32; 08 R309; 5000] -/
  stale : Nat := 5000
  /-- EOL_POLICY is HOLD_OFF [w 8; 08 R326; 0 WARN] -/
  eolHold : Bool := false
  /-- shadow table by CHANNEL in retained SRAM, at most 4,096 entries [08 R325; empty] -/
  shadow : Tab Shadow := []
  /-- identity records read on ID_0 to ID_3 [07 R284; none] -/
  idRecs : List (Option (List Byte)) := List.replicate 4 none
  /-- bytes of the record that the device's own reading of ID_0 to ID_3 has so far [07 R284; none] -/
  idPart : List (List Byte) := List.replicate 4 []
  /-- transactions on ID_0 to ID_3 that wait for their answer, oldest first [07 R284; empty] -/
  idQ : List (List IdTrans) := List.replicate 4 []
  deriving DecidableEq, Repr

/-- States of an axis (09 R336). -/
inductive AxSt where | disabled | idle | moving | stopping | stopped | homing | fault
  deriving DecidableEq, Repr
/-- A move that waits for its START (09 R340), with the command that asked for it. -/
structure AxMove where
  /-- START, 2^-16 ns; target [w 96, 32; 09 R340] -/
  start : Nat
  target : Int
  /-- opcode, mailbox, slot and tag of the command [09 R358] -/
  opcode : Nat
  mbx : Nat
  slot : Nat
  tag : Nat
  deriving DecidableEq, Repr
/-- Phases of a homing sequence (09 R355, R356). -/
inductive HomePh where | away | seek | slow | park
  deriving DecidableEq, Repr
/-- A homing sequence (09 R355 to R357). -/
structure Homing where
  /-- method: 0 LIM_LO, 1 LIM_HI, 2 cliff negative, 3 cliff positive [w 8; 09 R359] -/
  method : Nat
  /-- HOME_SPEED, HOME_OFFSET, HOME_PARK, HOME_MAX_DIST, HOME_TIMEOUT in s [w 32, 32, 32, 32, 16; 09 R359] -/
  speed : Nat
  offset : Int
  park : Int
  maxDist : Nat
  timeout : Nat
  /-- phase, Device Time of its start, position at the start of the seek [09 R355, R357] -/
  ph : HomePh
  startAt : Nat
  org : Int
  /-- distance travelled in the seek [09 R364] -/
  dist : Nat := 0
  /-- cliff: full steps at constant speed, sum of F over the baseline steps, full steps stalled in a row, position at the start of the first [09 R356] -/
  steps : Nat := 0
  sum : Nat := 0
  stalls : Nat := 0
  stallPos : Int := 0
  deriving DecidableEq, Repr
/-- One motion axis (09 R333 to R364). -/
structure Axis where
  /-- state [w 3; 09 R336; DISABLED] -/
  st : AxSt := .disabled
  /-- POSITION (retained), TARGET in usteps [w 32 signed each; 09 R335, R344; 0] -/
  pos : Int := 0
  target : Int := 0
  /-- square of the speed in (usteps/s)^2, positive direction, speed limit of the present profile [09 R337; 0, true, 0] -/
  v2 : Nat := 0
  up : Bool := true
  vTop : Nat := 0
  /-- deceleration to standstill in force, and whether a reversal follows [09 R341, R343; none, false] -/
  brake : Option Nat := none
  turn : Bool := false
  /-- end of the reversal dwell, 2^-16 ns [09 R341; none] -/
  dwell : Option Nat := none
  /-- Device Time of the last set-point, and the recent set-points (time, position) [09 R339, R352; 0, empty] -/
  spAt : Nat := 0
  hist : List (Nat × Int) := []
  /-- log2 of the resolution r [w 4; 09 R346; 8] -/
  res : Nat := 8
  /-- moves that wait for START, earliest first [09 R340, R341; empty] -/
  moves : List AxMove := []
  /-- Device Time that the queue of planned segments reaches, where its stop tail begins, 2^-16 ns [09 R338; 0] -/
  planTo : Nat := 0
  /-- stop or fault cause, side of the switch of cause 4 (true HI) [w 8, 1; 09 R343, R362; 0, false] -/
  cause : Nat := 0
  side : Bool := false
  /-- HOMED, last OVERSHOOT, last F [w 1, 32, 16; 09 R350, R362; false, 0, 0] -/
  homed : Bool := false
  overshoot : Nat := 0
  frac : Nat := 0
  /-- homing sequence that runs [09 R355; none] -/
  home : Option Homing := none
  /-- AX_n_EN [w 1; 09 R333; low] -/
  en : Bool := false
  /-- velocity has been zero since (2^-16 ns); ramp of I_SET: start (2^-16 ns) and value in mA it starts from [09 R349, R350; none] -/
  still : Option Nat := none
  ramp : Option (Nat × Nat) := none
  /-- on-phase time of both windings in the full step that runs, and Device Time of its start, 2^-16 ns [09 R356, R362; 0] -/
  onAcc : Nat := 0
  stepAt : Nat := 0
  /-- chopper cycles in a row that did not reach the reference, windings A and B [09 R348; 0] -/
  openA : Nat := 0
  openB : Nat := 0
  /-- invert direction, DISABLE_ON_STOP, CLEAR_HOMED_ON_DISABLE [w 1 each; 09 R360; DESIGN CHOICE false] -/
  invert : Bool := false
  disOnStop : Bool := false
  clearHomed : Bool := false
  /-- V_MAX, A, D, D_STOP, V_START, V_STOP [w 32 each; 09 R360; 256,000, 1,280,000, 1,280,000, 2,560,000, 0, 0] -/
  vMax : Nat := 256000
  acc : Nat := 1280000
  dec : Nat := 1280000
  decStop : Nat := 2560000
  vStart : Nat := 0
  vStop : Nat := 0
  /-- SOFT_LO, SOFT_HI [w 32 signed each; 09 R360; -2^31 + 1, 2^31 - 1] -/
  softLo : Int := -2147483647
  softHi : Int := 2147483647
  /-- REVERSE_DWELL in ms, MS_RATE in kHz [w 16, 8; 09 R360; 0, 32] -/
  dwellMs : Nat := 0
  msRate : Nat := 32
  /-- SENSE_SCALE in mA/V, I_RUN, I_HOLD, I_HOME, I_OC in mA [w 32, 16 each; 09 R361; DESIGN CHOICE 1,000, 0, 0, 0, 0] -/
  scale : Nat := 1000
  iRun : Nat := 0
  iHold : Nat := 0
  iHome : Nat := 0
  iOc : Nat := 0
  /-- T_OFF in us, T_BLANK in 0.1 us, T_ON_MAX in us, FAST_FRAC_RISE, FAST_FRAC_FALL [w 8 each; 09 R347; 12, 10, 100, 0, 128] -/
  tOff : Nat := 12
  tBlank : Nat := 10
  tOnMax : Nat := 100
  fastRise : Nat := 0
  fastFall : Nat := 128
  /-- T_STANDSTILL, T_RAMP in ms [w 16 each; 09 R349; 500, 100] -/
  tStand : Nat := 500
  tRamp : Nat := 100
  /-- STALL_RATIO, STALL_STEPS [w 8 each; 09 R356; 154, 1] -/
  stallRatio : Nat := 154
  stallSteps : Nat := 1
  /-- limit inputs LO and HI: enabled, active high [w 1 each; 09 R352; DESIGN CHOICE false] -/
  loEn : Bool := false
  hiEn : Bool := false
  loHigh : Bool := false
  hiHigh : Bool := false
  /-- debounced levels of the pins LIM_LO and LIM_HI [w 1 each; 09 R352, 18 R639; true, the pull-ups] -/
  loLvl : Bool := true
  hiLvl : Bool := true
  /-- Device Times of the debounced edges of LO and HI within the last 100 ms [09 R354; empty] -/
  loEdges : List Nat := []
  hiEdges : List Nat := []
  deriving DecidableEq, Repr

/-- A metering source (10 R365 to R379, R393, R394): its configuration, totals and running interval. -/
structure MSource where
  /-- KIND: 0 none, 1 FLOW_QUAD, 2 FLOW_PULSE, 3 ENERGY, 4 CHARGE, 5 SUPPLY, 6 RAW [w 8; 10 R368, R380; 0] -/
  kind : Nat := 0
  /-- RANGE, AUTO_TRIM, LINE schedule [w 8, 1, 1; 10 R393; DESIGN CHOICE 0, false, false] -/
  range : Nat := 0
  autoTrim : Bool := false
  line : Bool := false
  /-- OFFSET, GAIN_TRIM, DELAY, REV_HYST, THRESH [w 16, 16, 16, 8, 8; 10 R393; DESIGN CHOICE 0, 32768, 0, 4, 32] -/
  offset : Int := 0
  gain : Nat := 32768
  delay : Int := 0
  hyst : Nat := 4
  thresh : Nat := 32
  /-- K_FACTOR, FULL_SCALE, VREF, MAX_RATE [w 32, 32, 8, 32; 10 R393; DESIGN CHOICE 0, 0, 0xFF, 0] -/
  kFactor : Nat := 0
  fullScale : Nat := 0
  vref : Nat := 0xFF
  maxRate : Nat := 0
  /-- supply: AC, FREQ, DIVIDER, NOMINAL, SWELL, SAG, INTERRUPT, HYST [w 1, 16, 32, 32, 8 each; 10 R394; DESIGN CHOICE false, 0, 0, 0, 110, 90, 10, 2] -/
  ac : Bool := false
  freq : Nat := 0
  divider : Nat := 0
  nominal : Nat := 0
  swell : Nat := 110
  sag : Nat := 90
  interrupt : Nat := 10
  shyst : Nat := 2
  /-- FORWARD and REVERSE as accumulated: 2^-16 cycle, or the unit of the power or charge product [10 R370, R374; 0] -/
  fwd : Nat := 0
  rev : Nat := 0
  /-- direction state D is REV; running position and reference, 2^-16 cycle; last angle [w 1; 10 R369, R370; FWD, 0, 0, none] -/
  dRev : Bool := false
  theta : Int := 0
  thetaC : Int := 0
  phi : Option Nat := none
  /-- FLOW_PULSE: re-armed below -THRESH [10 R372; false] -/
  armed : Bool := false
  /-- instant of the latest aligned sample and its value [10 R367, R392; 0] -/
  sampleAt : Nat := 0
  value : Int := 0
  /-- 10 ms window: its number and the total at its start; highest rate since the save; a run above MAX_RATE [10 R374, R386; 0, 0, 0, false] -/
  win : Nat := 0
  winBase : Nat := 0
  rateMax : Nat := 0
  exceeded : Bool := false
  /-- SENSOR_FAULT; its condition has held since (instant, cause); paused time of the present fault, us [10 R373; false, none, 0] -/
  fault : Bool := false
  badFrom : Option (Nat × Nat) := none
  paused : Nat := 0
  /-- extremes of A and B over 16 cycles, position at their start, learned amplitude [10 R369, R373; none, 0, none] -/
  ext : Option (Int × Int × Int × Int) := none
  extFrom : Int := 0
  amp : Option Nat := none
  /-- FLOW_PULSE: instants and corrected samples of the last 1 ms since the last crossing, newest first [10 R373; empty] -/
  recent : List (Nat × Int) := []
  /-- FLOW_PULSE: instant of the last crossing, or of the first sample [10 R373; none] -/
  crossed : Option Nat := none
  /-- latch schedule in force: N_T, N_L, LINE_REF [w 16, 16, 8; 10 R377, R392; DESIGN CHOICE 100, 50, 16] -/
  nT : Nat := 100
  nL : Nat := 50
  lineRef : Nat := 16
  /-- running interval: opened, TIDE, totals at its start in units, FLAGS, FIRST_REV, REV_COUNT, paused us, PEAK [10 R378, R380; none, 0] -/
  start : Option Nat := none
  tide : Nat := 0
  base : Int × Int := (0, 0)
  flags : Nat := 0
  firstRev : Nat := 0
  revCount : Nat := 0
  faultUs : Nat := 0
  peak : Nat := 0
  /-- no latch before this instant [10 R379; 0]; crossings of LINE_REF counted and the latch they make due [10 R377; 0, none] -/
  after : Nat := 0
  crossings : Nat := 0
  lineDue : Option Nat := none
  /-- SEQ [w 16; 10 R380; 0] -/
  seq : Nat := 0
  /-- island cycle of the last METER_REVERSAL [10 R396; none]; a METER_SAVE exists since the source was configured [10 R388; false] -/
  revAt : Option Nat := none
  saved : Bool := false
  /-- supply: sums of the running window (sum, squares, count) [10 R375; 0] -/
  sum : Int := 0
  squares : Nat := 0
  count : Nat := 0
  /-- supply: values of the interval: minimum, maximum, sum, count [10 R381; 0] -/
  vMin : Nat := 0
  vMax : Nat := 0
  vSum : Nat := 0
  vCount : Nat := 0
  /-- supply: sags, swells, interruptions and longest excursion ended in the interval [10 R381; 0] -/
  sags : Nat := 0
  swells : Nat := 0
  ints : Nat := 0
  longest : Nat := 0
  /-- excursion under way: high, start, extreme in mV [10 R376; none] -/
  exc : Option (Bool × Nat × Nat) := none
  /-- AC supply: last real crossing, last crossing real or synthetic, METER_LINE_LOST raised [10 R377; none, none, false] -/
  crossAt : Option Nat := none
  synthAt : Option Nat := none
  lineLost : Bool := false
  deriving DecidableEq, Repr
/-- A source of the open billing period (10 R383 to R385). -/
structure BillEntry where
  /-- source; opening latch and totals FORWARD, REVERSE there [10 R384; none until it opens] -/
  source : Nat
  opened : Option (Nat × Int × Int) := none
  /-- closing latch and totals there [10 R383; none] -/
  closed : Option (Nat × Int × Int) := none
  /-- FLAGS and REV_COUNT over the period; GAP_BOUND, none unbounded [10 R385; 0] -/
  flags : Nat := 0
  revCount : Nat := 0
  gap : Option Nat := some 0
  deriving DecidableEq, Repr
/-- The open billing period (10 R383 to R385). -/
structure Bill where
  /-- BILL_ID, key slot, JOB_ID, FIRST_TIDE, LAST_TIDE [w 32, 8, 32, 32, 32; 10 R385] -/
  id : Nat
  slot : Nat
  job : Nat
  firstTide : Nat := 0
  lastTide : Nat := 0
  entries : List BillEntry
  /-- key slot with which it closes [10 R383; none] -/
  closing : Option Nat := none
  /-- a GAP record lies inside, records were lost [10 R385; false] -/
  gapIn : Bool := false
  lost : Bool := false
  deriving DecidableEq, Repr
/-- Metering (file 10). -/
structure MeterSt where
  /-- sources 0 to 19 [10 R365; OFF] -/
  src : List MSource := List.replicate 20 {}
  /-- METER_LATCH_CONFIG that each source takes at its next latch: N_T, N_L, LINE_REF [w 16, 16, 8; 10 R377, R392; DESIGN CHOICE 100, 50, 16] -/
  nT : Nat := 100
  nL : Nat := 50
  lineRef : Nat := 16
  /-- raw conversions of the last frame and its number [w 16 each; 10 R366; DESIGN CHOICE 0] -/
  raws : List Int := List.replicate 20 0
  frame : Nat := 0
  /-- METER_SUBSCRIBE mask [w 32; 10 R382; 0] -/
  mask : Nat := 0
  /-- interval records held, at most 512, in retained SRAM [64 bytes each; 10 R382; empty]; records overwritten in the present run [0] -/
  ring : List (List Byte) := []
  lost : Nat := 0
  /-- billing period [10 R383; none]; billing records since manufacture [w 32; 10 R385; 0] -/
  bill : Option Bill := none
  billSeq : Nat := 0
  /-- SAVE_INTERVAL in s, HOLDUP_MAX in ms [w 32 each; 10 R386, R388; 10, 20] -/
  saveEvery : Nat := 10
  holdup : Nat := 20
  /-- island cycle of the last METER_SAVE, or since when it runs [10 R386; 0] -/
  saveAt : Nat := 0
  /-- METER_SAMPLE under way: source, count, Device Time of the first, samples [10 R392; empty] -/
  jobs : List (Nat × Nat × Nat × List Int) := []
  /-- sequence of GAP records [16 R594; 0]; instant of entry to NEAP or SLACK [10 R390; none] -/
  gapSeq : Nat := 0
  leftAt : Option Nat := none
  deriving DecidableEq, Repr

/-- States of the radio (11 R416, R429). -/
inductive RadSt where | off | search | connecting | joined | lost | beaconing
  deriving DecidableEq, Repr
/-- A message fragment that has been sent with ACK_REQ and is not acknowledged (11 R422). -/
structure FragOut where
  /-- SEQ of the frame [w 16; 11 R421] -/
  seq : Nat
  /-- the fragment bytes [11 R421] -/
  bytes : List Byte
  /-- retransmissions so far, superframe of the last sending [11 R422] -/
  tries : Nat := 0
  sf : Nat
  /-- the peer's acknowledgement opportunity has passed without covering it [11 R422; false] -/
  again : Bool := false
  /-- MSG_ID, TOKEN, and the last fragment of its message [11 R421, R422] -/
  msgId : Nat
  token : Nat
  last : Bool
  deriving DecidableEq, Repr
/-- A radio message waiting to be sent (11 R421). -/
structure RadMsg where
  /-- PORT, RELIABLE, TOKEN, MSG_ID [w 8, 1, 32, 16; 11 R421] -/
  port : Nat
  reliable : Bool
  token : Nat := 0
  msgId : Nat
  /-- bytes not yet sent, index of the next fragment [11 R421] -/
  data : List Byte
  frag : Nat := 0
  deriving DecidableEq, Repr
/-- A radio message being reassembled (11 R421). -/
structure RadAsm where
  /-- PORT, MSG_ID [w 8, 16; 11 R421] -/
  port : Nat
  msgId : Nat
  /-- fragments that have arrived, by index, and the index of the last [11 R421] -/
  frags : List (Nat × List Byte) := []
  last : Option Nat := none
  /-- superframe of the first fragment [w 32; 11 R421] -/
  sf : Nat
  deriving DecidableEq, Repr
/-- The link of a device with one peer (11 R421 to R423). -/
structure Peer where
  /-- last SEQ sent, last MSG_ID [w 16 each; 11 R423, R421; 0] -/
  seq : Nat := 0
  msgId : Nat := 0
  /-- highest SEQ accepted and the map of the 32 before it [w 16, 32; 11 R423; 0] -/
  top : Nat := 0
  map : Nat := 0
  /-- a frame with ACK_REQ arrived in the present or previous superframe: its superframe [11 R422; none] -/
  owed : Option Nat := none
  /-- messages waiting, at most 8 [11 R421; empty] -/
  queue : List RadMsg := []
  /-- fragments sent and not acknowledged [11 R422; empty] -/
  unacked : List FragOut := []
  /-- messages being reassembled [11 R421; empty] -/
  asm : List RadAsm := []
  deriving DecidableEq, Repr
/-- A rover that the base has joined (11 R417 to R421). -/
structure Rover where
  /-- unique ID [16 bytes; 11 R417] -/
  uid : List Byte
  /-- START_SF [w 32; 11 R417] -/
  startSf : Nat
  /-- superframe of the last authenticated uplink, START_SF - 1 before the first [w 32; 11 R419] -/
  lastSf : Nat
  /-- RSSI in dBm, uplink offset in ns, last status [w 8, 32, 8 bytes; 11 R429] -/
  rssi : Int := 0
  offset : Int := 0
  status : List Byte := [0, 0, 0, 0, 0, 0, 0, 0]
  /-- the link with the rover [11 R421] -/
  peer : Peer := {}
  deriving DecidableEq, Repr
/-- Fleet radio (11 R397 to R432). -/
structure FleetSt where
  /-- FLEET_RADIO_CONFIG has been accepted [w 1; 11 R429; false] -/
  configured : Bool := false
  /-- MODE, SF in ms, NET_ID, NET_KEY, SERVICE_KEY [w 8, 16, 32, 8, 8; 11 R430; DESIGN CHOICE 0, 100 ms, 0, 0, 0xFF] -/
  mode : Nat := 0
  sfMs : Nat := 100
  netId : Nat := 0
  netKey : Nat := 0
  svcKey : Nat := 0xFF
  /-- XCVR_SETTLE in us, TX_DELAY and RX_DELAY in ns, F0 in kHz, SPACING in Hz, MAP [w 16, 16, 16, 32, 32, 40; 11 R430; DESIGN CHOICE 0] -/
  settle : Nat := 0
  txDelay : Nat := 0
  rxDelay : Nat := 0
  f0 : Nat := 0
  spacing : Nat := 0
  cfgMap : Nat := 0
  /-- transceiver scripts: 0 IDLE, 1 RX, 2 TX, 8 + i channel i [1 to 16 bytes; 11 R399; empty] -/
  scripts : List (Nat × List Byte) := []
  /-- state of the radio [w 3; 11 R416; OFF] -/
  st : RadSt := .off
  /-- authentication failures since start-up, those of the present second with TYPE and SRC of the last, second of the last report [w 32; 11 R403, R429; 0] -/
  authFails : Nat := 0
  authRun : Nat := 0
  authSec : Option Nat := none
  /-- frames discarded for their TYPE or slot, duplicates, correction bytes sent or received [w 32 each; 11 R402, R429; 0] -/
  discarded : Nat := 0
  duplicates : Nat := 0
  corrBytes : Nat := 0
  /-- frames received too old for the window [11 R423; 0] -/
  tooOld : Nat := 0
  /-- channel map in force; the pending map and the superframe from which it holds [w 40 each; 11 R409; 0, none] -/
  map : Nat := 0
  pending : Option (Nat × Nat) := none
  /-- last superframe and slot served by SLOT_START [11 R405; none] -/
  slotAt : Option (Nat × Nat) := none
  /-- SEQ of broadcast frames sent [w 16; 11 R423; 0] -/
  bcastSeq : Nat := 0
  /-- base: MAX_ROVERS, JOIN_OPEN, SUP_TIMEOUT, WAKE [w 8, 1, 8, 1; 11 R429; 64, false, 10, false] -/
  maxRovers : Nat := 64
  joinOpen : Bool := false
  supTimeout : Nat := 10
  wake : Bool := false
  /-- base: joined rovers by address, 1 to 64 [11 R418; empty] -/
  rovers : List (Nat × Rover) := []
  /-- base: addresses released and the superframe of their release [11 R418; empty] -/
  released : List (Nat × Nat) := []
  /-- base: the set that is being sent: CORR_SET, next FRAG, bytes left; run of overflow [11 R410; none, false] -/
  corrOut : Option (Nat × Nat × List Byte) := none
  overRun : Bool := false
  /-- base: JOIN_RESP and SERVICE_RESP payloads that wait [11 R417, R426; empty] -/
  joinOut : List (List Byte) := []
  svcOut : List (List Byte) := []
  /-- base: superframe to whose end the stop burst runs, and the Device Time from which slots carry it [11 R412; none] -/
  burst : Option (Nat × Nat) := none
  /-- rover: its address and START_SF [w 8, 32; 11 R417; 0] -/
  address : Nat := 0
  startSf : Nat := 0
  /-- rover: its link with the base, and the window of the base's broadcasts [11 R423; above] -/
  peer : Peer := {}
  bcastTop : Nat := 0
  bcastMap : Nat := 0
  /-- rover: NONCE and superframe of the outstanding JOIN_REQ, attempts [w 32, 32; 11 R417; none, 0] -/
  nonce : Option (Nat × Nat) := none
  attempts : Nat := 0
  /-- rover: JOIN_RESP has given address and START_SF, which is still to come [w 1; 11 R416; false] -/
  granted : Bool := false
  /-- superframe and contention slot drawn for it, and superframe of the last contention frame sent [11 R417, R426; none] -/
  contSlot : Option (Nat × Nat) := none
  contSf : Option Nat := none
  /-- rover: a refusal holds the next attempt until a beacon shows FULL clear [11 R418; false] -/
  refused : Bool := false
  /-- rover: FLEET_RECOVER or FLEET_JOIN runs the join procedure after FLEET_LOST: the re-entry raises FLEET_RECOVERED [11 R425; false] -/
  rejoin : Bool := false
  /-- rover: index in the search map and superframe since which it listens there [11 R416; 0, 0] -/
  searchIx : Nat := 0
  searchSf : Nat := 0
  /-- rover: O in 2^-16 ns, y in LSB 10^-12 [11 R414; 0] -/
  offO : Int := 0
  driftY : Int := 0
  /-- rover: Device Time and superframe of the last beacon, none before the first after SEARCH [11 R414, R424; none] -/
  beaconAt : Option Nat := none
  beaconSf : Nat := 0
  /-- rover: the last beacon's FLAGS, JOINED and JOINED_MAP, FRAME_REV [11 R408; 0] -/
  beaconFlags : Nat := 0
  beaconJoined : Nat := 0
  joinedMap : Nat := 0
  beaconRev : Nat := 0
  /-- rover: consecutive misses, superframe of the last beacon tested [w 8, 32; 11 R424; 0] -/
  misses : Nat := 0
  testedSf : Option Nat := none
  /-- rover: run of FLEET_TIME_DIVERGED [11 R414; false] -/
  divergedRun : Bool := false
  /-- rover: UPLINK frames with LEAVING still to send [11 R420; none] -/
  leaving : Option Nat := none
  /-- rover: CORR_SET, next FRAG and bytes of the RTCM stream not yet complete [11 R411; 0, 0, empty] -/
  rxSet : Nat := 0
  rxFrag : Nat := 0
  rxBytes : List Byte := []
  /-- service requests: TOKEN, SERVICE, payload, superframe of the sending (none before it) [11 R426; empty] -/
  svcReq : List (Nat × Nat × List Byte × Option Nat) := []
  deriving DecidableEq, Repr

/-- States of the stop (12 R453). -/
inductive StopCond where | clear | inForce | latched
  deriving DecidableEq, Repr
/-- Breakwater (12 R452 to R456). -/
structure StopSt where
  /-- state of the stop [w 2; 12 R453; LATCHED] -/
  st : StopCond := .latched
  /-- per source 0 to 5 the island cycle of its activation while active [12 R452; source 5 active, the others not] -/
  active : List (Option Nat) := [none, none, none, none, none, some 0]
  /-- sources active at any time in the present episode, bit s for source s [w 6; 12 R453; 0x20] -/
  episode : Nat := 0x20
  /-- FLEET_RECOVER completed with OK in this episode [w 1; 12 R453; false] -/
  recovered : Bool := false
  /-- island cycle at which the stop was last CLEAR [12 R465; 0] -/
  clearAt : Nat := 0
  /-- own stop EPOCH [w 4; 12 R455; 0] -/
  epoch : Nat := 0
  /-- source whose activation brought about the present or last entry to IN_FORCE; 5 before the first [w 3; 12 R455; 5] -/
  entry : Nat := 5
  /-- ST of the last registration [w 32; 12 R463; 0] -/
  regSt : Nat := 0
  /-- STOP_WORD last received by radio [w 16; 12 R463; none] -/
  lastWord : Option Nat := none
  /-- STOP_IN_A and STOP_IN_B are low [w 1 each; 12 R463; low: both carry a pull-down (DESIGN CHOICE)] -/
  aLow : Bool := true
  bLow : Bool := true
  /-- island cycle since which the inputs disagree [12 R452; none] -/
  disagree : Option Nat := none
  /-- STOP_DISCREPANCY holds; the inputs have been low together since [w 1 each; 12 R452; false] -/
  discrep : Bool := false
  together : Bool := false
  /-- Device Time of the last stop message [12 R452; 0] -/
  vexAt : Nat := 0
  /-- EPOCH last seen per ORIGIN while source 3 is active [12 R456; empty] -/
  epochs : List (Nat × Nat) := []
  deriving DecidableEq, Repr
/-- What a corridor entry is (12 R436): the base's codes, then the rover's. -/
inductive CorSt where | granted | block | hold | pending | grant | loc
  deriving DecidableEq, Repr
/-- An occupied entry of a corridor table (12 R436). -/
structure CorEntry where
  /-- STATE [w 8; 12 R436] -/
  st : CorSt
  /-- OWNER, RANK at the base; at a rover both hold the base entry index [w 8 each; 12 R436] -/
  owner : Nat := 0
  rank : Nat := 0
  /-- OPEN_END, REVOKED [w 1 each; 12 R436] -/
  openEnd : Bool := false
  revoked : Bool := false
  /-- T_START, T_END [w 32 each; 12 R436] -/
  t0 : Nat
  t1 : Nat
  /-- E0, N0, E1, N1 in mm [w 32 signed each; 12 R436] -/
  e0 : Int
  n0 : Int
  e1 : Int
  n1 : Int
  /-- HALF_WIDTH [w 16; 12 R436] -/
  hw : Nat
  /-- REQ_ID [w 16; 12 R436] -/
  req : Nat := 0
  /-- superframe of the batch that placed it in HOLD; at a rover the superframe of the request [w 32; 12 R444, R447] -/
  since : Nat := 0
  deriving DecidableEq, Repr
/-- A message that waits for the base's next batch (12 R440). -/
structure CorMsg where
  /-- requester [w 8; 12 R441] -/
  addr : Nat
  /-- a REQ with its geometry; else a RELEASE of `index` [12 R439] -/
  isReq : Bool
  req : Nat
  index : Nat := 0
  geo : List Byte := []
  deriving DecidableEq, Repr
/-- A block or revocation that waits for the next batch, with the command to complete (12 R443). -/
structure CorHost where
  /-- CORRIDOR_BLOCK (else CORRIDOR_REVOKE of `index`) [12 R443] -/
  isBlock : Bool
  geo : List Byte := []
  force : Bool := false
  openEnd : Bool := false
  index : Nat := 0
  /-- mailbox, slot and tag of the command [12 R460] -/
  mbx : Nat
  slot : Nat
  tag : Nat
  deriving DecidableEq, Repr
/-- A decision record of the base (12 R445, R446). -/
structure CorRec where
  /-- ENTRY, ADDRESS, DECISION, REQ_ID, OTHER [12 R445] -/
  entry : Nat
  addr : Nat
  decision : Nat
  req : Nat
  other : Nat
  /-- times carried, and the superframe of its batch [12 R446] -/
  carried : Nat := 0
  sf : Nat
  deriving DecidableEq, Repr
/-- Corridors (12 R433 to R451). -/
structure CorSvc where
  /-- occupied entries of the table: 4,096 at the base, 64 at a rover [32 bytes each; 12 R436; all FREE] -/
  table : List (Nat × CorEntry) := []
  /-- the service is enabled [w 1; 12 R438; false] -/
  enabled : Bool := false
  /-- origin of the fleet frame: latitude, longitude (LSB 10^-12 degree), height (mm) [w 64, 64, 32; 12 R433, R439; DESIGN CHOICE 0] -/
  lat : Int := 0
  lon : Int := 0
  height : Int := 0
  /-- SEPARATION in mm, TIME_GUARD, MAX_DURATION in superframes [w 16, 8, 32; 12 R460; 2,000, 1, 36,000] -/
  separation : Nat := 2000
  guard : Nat := 1
  maxDuration : Nat := 36000
  /-- FRAME_REV [w 4; 12 R438; 0] -/
  frameRev : Nat := 0
  /-- ranks of the rovers where not 128 [w 8; 12 R441; 128] -/
  ranks : List (Nat × Nat) := []
  /-- messages and host decisions that wait for the next batch [12 R440; empty] -/
  msgs : List CorMsg := []
  hosts : List CorHost := []
  /-- rovers whose address was released since the last batch [12 R444; empty] -/
  gone : List Nat := []
  /-- decision records not yet carried three times [12 R446; empty] -/
  recs : List CorRec := []
  /-- superframe of the last batch [w 32; 12 R440; none] -/
  batchSf : Option Nat := none
  /-- refusals since start-up [w 32; 12 R460; 0] -/
  refusals : Nat := 0
  /-- RELEASE messages that matched nothing [12 R444; 0] -/
  badReleases : Nat := 0
  /-- the runs of CORRIDOR_TABLE_FULL and CORRIDOR_BACKLOG [12 R442, R446; false] -/
  fullRun : Bool := false
  backlogRun : Bool := false
  /-- rover: a FRAME has been received since the join [w 1; 12 R461; false] -/
  frameSeen : Bool := false
  /-- R_IMPL in mm, WARN_TIME in ms, REQ_TIMEOUT in superframes [w 16, 16, 8; 12 R460; DESIGN CHOICE 0, 5,000, 20] -/
  rImpl : Nat := 0
  warnMs : Nat := 5000
  reqTimeout : Nat := 20
  /-- last REQ_ID assigned [w 16; 12 R447; 0] -/
  reqId : Nat := 0
  /-- decision records already applied: entry, decision, REQ_ID, superframe [12 R447; empty] -/
  applied : List (Nat × Nat × Nat × Nat) := []
  /-- SAFE's check passes; runs of CORRIDOR_EXIT, CORRIDOR_END_WARN and CORRIDOR_FRAME_MISMATCH [w 1 each; 12 R449, R450, R448; true, false, false, false] -/
  checkOk : Bool := true
  exitRun : Bool := false
  warnRun : Bool := false
  mismatchRun : Bool := false
  deriving DecidableEq, Repr

/-- State of a Vexlink port (13 R468). -/
inductive VxSt where | off | training | measuring | up
  deriving DecidableEq, Repr
/-- A message being reassembled at one priority (13 R470). -/
structure VxRx where
  /-- bytes received so far [13 R470] -/
  bytes : List Byte
  /-- its blocks are being forwarded as they come [13 R470] -/
  fwd : Bool
  deriving DecidableEq, Repr
/-- One Vexlink port (13 R466 to R479). -/
structure VxPort where
  /-- state [w 2; 13 R468; OFF] -/
  st : VxSt := .off
  /-- neighbour's ORIGIN, from its delay answers [w 32; 13 R497; none] -/
  neighbour : Option Nat := none
  /-- the last 8 delay values, newest first, 2^-16 ns [13 R477; empty] -/
  delays : List Int := []
  /-- delay exchanges since MEASURING was entered [13 R468; 0] -/
  exchanges : Nat := 0
  /-- values excluded [13 R477; 0] -/
  excluded : Nat := 0
  /-- send instant t1 of the outstanding DELAY_REQ, 2^-16 ns [13 R477; none] -/
  t1 : Option Nat := none
  /-- island cycle of the last DELAY_REQ [13 R477; 0] -/
  reqCyc : Nat := 0
  /-- blocks discarded, messages of unknown type discarded [w 32; 13 R470, R473, R497; 0] -/
  discarded : Nat := 0
  /-- messages abandoned or lost on the port [w 32; 13 R476, R497; 0] -/
  lost : Nat := 0
  /-- reassembly at priorities 1 to 5 [13 R470; none] -/
  rx : List (Option VxRx) := [none, none, none, none, none]
  /-- departure of the previous TIME on this port, 2^-16 ns [13 R478; 0] -/
  timeDep : Nat := 0
  /-- domain times of A and B at the arrival of the previous TIME, 2^-16 ns [13 R478; none] -/
  timeArr : Option (Nat × Nat) := none
  /-- HOPS_TO_ROOT of the last TIME that names the root [13 R479; none] -/
  hops : Option Nat := none
  deriving DecidableEq, Repr
/-- The duplicate window of R423 (11) for one sender. -/
structure Win where
  /-- ORIGIN or sender, TYPE, ACK_REQ [13 R475] -/
  origin : Nat
  type : Nat
  ack : Bool := false
  /-- highest SEQ accepted H and the map of H - 1 to H - 32 [w 16, 32; 11 R423] -/
  top : Nat
  map : Nat := 0
  deriving DecidableEq, Repr
/-- A reliable message waiting for its acknowledgement on a link (13 R476). -/
structure RelOut where
  port : Nat
  msg : VxMsg
  /-- repeats sent, and island cycle of the last sending [13 R476] -/
  tries : Nat := 0
  cyc : Nat
  deriving DecidableEq, Repr
/-- Delivery of the reliable messages of one origin and type in SEQ order (13 R476). -/
structure RelIn where
  origin : Nat
  type : Nat
  /-- next SEQ to deliver [13 R476] -/
  next : Nat
  /-- messages beyond a gap [13 R476] -/
  held : List VxMsg := []
  /-- island cycle since which the gap is open [13 R476; none] -/
  gapFrom : Option Nat := none
  deriving DecidableEq, Repr
/-- A frame in a transmit queue. -/
structure EthFrame where
  /-- the frame without its FCS [13 R490] -/
  bytes : List Byte
  /-- token of a frame that asks for its timestamp [13 R490] -/
  token : Option Nat := none
  deriving DecidableEq, Repr
/-- A gate control list (13 R487). -/
structure GateList where
  /-- entries: gate state and interval in ns [13 R487] -/
  entries : List (Nat × Nat)
  /-- BASE_TIME, 2^-16 ns [13 R487] -/
  base : Nat
  deriving DecidableEq, Repr
/-- One Ethernet port (13 R485 to R490). -/
structure EthPort where
  /-- enable, BROADCAST, PROMISCUOUS [w 1 each; 13 R497; false] -/
  enabled : Bool := false
  broadcast : Bool := false
  promisc : Bool := false
  /-- speed code 0 10, 1 100, 2 1,000 Mbit/s [w 8; 13 R497; DESIGN CHOICE 0] -/
  speed : Nat := 0
  /-- unicast address [6 bytes; 13 R497; DESIGN CHOICE zero] -/
  mac : List Byte := [0, 0, 0, 0, 0, 0]
  /-- PHY transmit and receive latency in ns [w 16 each; 13 R497; DESIGN CHOICE 0] -/
  txLat : Nat := 0
  rxLat : Nat := 0
  /-- hash table [w 64; 13 R489; DESIGN CHOICE 0] -/
  hash : Nat := 0
  /-- PHY link [w 1; 13 R499; false] -/
  link : Bool := false
  /-- loaded gate entries, 64 of (state, interval ns) [13 R497; DESIGN CHOICE 0] -/
  loaded : List (Nat × Nat) := List.replicate 64 (0, 0)
  /-- gate list in force, the list that waits for a cycle start, the entry running and its end (2^-16 ns) [13 R487; none] -/
  gates : Option GateList := none
  nextGates : Option GateList := none
  gateIx : Nat := 0
  gateEnd : Option Nat := none
  /-- transmit queues, one per traffic class [13 R487; empty] -/
  queues : List (List EthFrame) := List.replicate 8 []
  /-- collisions of the frame being sent, and the end of its back-off in island cycles [13 R486; 0, none] -/
  attempts : Nat := 0
  backoff : Option Nat := none
  /-- frames sent, received, dropped by gate, collisions, filter rejects, over length, excessive and late collisions [w 32 each; 13 R497, R485, R486; 0] -/
  sent : Nat := 0
  received : Nat := 0
  gateDrops : Nat := 0
  collisions : Nat := 0
  rejects : Nat := 0
  tooLong : Nat := 0
  excessive : Nat := 0
  late : Nat := 0
  /-- collision drops not yet reported and the second of the last ETH_COLLISIONS [13 R486; 0, none] -/
  dropRun : Nat := 0
  dropSec : Option Nat := none
  /-- cause of the last drop: 0 excessive, 1 late [13 R499; 0] -/
  dropCause : Nat := 0
  /-- island cycle at which the last frame sent and its inter-frame gap end [13 R488; 0] -/
  txEnd : Nat := 0
  deriving DecidableEq, Repr
/-- One PTP instance (13 R491 to R493). -/
structure PtpPort where
  /-- configured since start-up [13 R491; false] -/
  configured : Bool := false
  /-- 0 DISABLED, 1 TIME_RECEIVER, 2 TIME_TRANSMITTER [w 8; 13 R491; 0] -/
  st : Nat := 0
  /-- peer-to-peer [w 1; 13 R491; false] -/
  p2p : Bool := false
  /-- domainNumber, sdoId [w 7, 12; 13 R491; DESIGN CHOICE 0] -/
  domain : Nat := 0
  sdoId : Nat := 0
  /-- logSyncInterval, logMinDelayReqInterval, logAnnounceInterval [w 8 signed; 13 R491; DESIGN CHOICE 0, 0, 1] -/
  logSync : Int := 0
  logDelay : Int := 0
  logAnn : Int := 1
  /-- PTP_LINK_BOUND in ns [w 32; 13 R492; 50] -/
  linkBound : Nat := 50
  /-- meanPathDelay, 2^-16 ns [13 R492; 0] -/
  mpd : Int := 0
  /-- a two-step Sync waiting for its Follow_Up: sequence, domain times of A and B at arrival, correction [13 R492; none] -/
  sync : Option (Nat × Nat × Nat × Int) := none
  /-- t2 - t1 - correction of the last Sync, 2^-16 ns [13 R492; none] -/
  toUs : Option Int := none
  /-- send instant and sequence of the outstanding Delay_Req or Pdelay_Req [13 R492; none] -/
  req : Option (Nat × Nat) := none
  /-- t4 and t2 of a two-step Pdelay_Resp, and its correction [13 R492; none] -/
  pdelay : Option (Nat × Nat × Int) := none
  /-- clockAccuracy of the last Announce, its island cycle, and whether it stands [13 R492; 0xFE, 0, false] -/
  accuracy : Nat := 0xFE
  annCyc : Nat := 0
  annOk : Bool := false
  /-- sequence numbers sent and instants (Device Time) of the last Sync, Announce, Delay_Req [13 R491, R493; 0] -/
  seq : Nat := 0
  syncAt : Nat := 0
  annAt : Nat := 0
  reqAt : Nat := 0
  deriving DecidableEq, Repr
/-- A CAN frame. -/
structure CanFrame where
  /-- identifier, IDE, FD, remote, data [13 R494] -/
  id : Nat
  ide : Bool := false
  fd : Bool := false
  rtr : Bool := false
  data : List Byte := []
  /-- Device Time of the SOF, 2^-16 ns [13 R495] -/
  dt : Nat := 0
  /-- token of a frame that asks for its SOF time [13 R495] -/
  token : Option Nat := none
  deriving DecidableEq, Repr
/-- One CAN FD controller (13 R494 to R496). -/
structure CanPort where
  /-- enable, FD, listen-only, AUTO_RECOVER [w 1 each; 13 R496, R497; false] -/
  enabled : Bool := false
  fd : Bool := false
  listen : Bool := false
  auto : Bool := false
  /-- nominal and data prescaler, TSEG1, TSEG2, SJW, and compensation offset [w 8 each; 13 R497; DESIGN CHOICE 0] -/
  timing : List Byte := List.replicate 9 0
  /-- acceptance filters: IDE, enable, identifier, mask [13 R495; disabled] -/
  filters : List (Bool × Bool × Nat × Nat) := List.replicate 32 (false, false, 0, 0)
  /-- receive FIFO, oldest first, at most 64 [13 R495; empty] -/
  fifo : List CanFrame := []
  /-- transmit buffers in order of submission, at most 16 [13 R495; empty] -/
  tx : List CanFrame := []
  /-- error counters [w 9, 8; 13 R496; 0] -/
  tec : Nat := 0
  recv : Nat := 0
  /-- 0 error active, 1 error passive, 2 bus-off [13 R496; 0] -/
  st : Nat := 0
  /-- frames dropped by overflow, those not yet reported, second of the last report [13 R495; 0, 0, none] -/
  overflows : Nat := 0
  ovrRun : Nat := 0
  ovrSec : Option Nat := none
  deriving DecidableEq, Repr
/-- Vexlink and the networks (file 13). -/
structure NetSt where
  /-- ports VX_0 to VX_2 [13 R466; above] -/
  vx : List VxPort := List.replicate 3 {}
  /-- group role: 0 NONE, 1 ROOT, 2 MEMBER [w 8; 13 R474; 0 (no journal record)] -/
  group : Nat := 0
  /-- root unique ID [16 bytes; 13 R474; zero] -/
  root : List Byte := List.replicate 16 0
  /-- RETRY_MAX [w 4; 13 R476; 4] -/
  retryMax : Nat := 4
  /-- last SEQ originated per TYPE (HOST_MSG without ACK_REQ under 0x108) [w 16; 13 R472; none] -/
  seqs : List (Nat × Nat) := []
  /-- duplicate windows [13 R475; empty] -/
  wins : List Win := []
  /-- reliable messages out and in [13 R476; empty] -/
  relOut : List RelOut := []
  relIn : List RelIn := []
  /-- messages reassembled from blocks and already forwarded: port and bytes [13 R470; empty] -/
  ready : List (Nat × List Byte) := []
  /-- upstream port [13 R479; none] -/
  upstream : Option Nat := none
  /-- Device Time of the last sending of TIME messages, 2^-16 ns [13 R478; none] -/
  timeAt : Option Nat := none
  /-- POSE messages and TIME messages discarded [w 32; 13 R481; 0] -/
  poseDiscarded : Nat := 0
  timeDiscarded : Nat := 0
  /-- messages discarded for a TYPE that R473 does not list [13 R473; 0] -/
  typeDiscarded : Nat := 0
  /-- a run of root conflict, of depth exceeded, has been reported [13 R481, R482; false] -/
  conflictRun : Bool := false
  depthRun : Bool := false
  /-- per-die asymmetry calibration of the three ports, 2^-16 ns, in OTP [13 R477; DESIGN CHOICE 0] -/
  asym : List Int := [0, 0, 0]
  /-- Ethernet ports [13 R485; above] -/
  eth : List EthPort := List.replicate 2 {}
  /-- PTP instances [13 R491; above] -/
  ptp : List PtpPort := List.replicate 2 {}
  /-- CAN controllers [13 R494; above] -/
  can : List CanPort := List.replicate 2 {}
  deriving DecidableEq, Repr

/-- A completion (R517). -/
structure Completion where
  opcode : Nat
  status : Nat
  tag : Nat
  slot : Nat
  result : List Byte
  deriving DecidableEq, Repr
/-- One command that a mailbox holds, from its doorbell to the release of its completion (R518, R520). -/
structure Held where
  /-- first slot [w 6; 14 R518] -/
  slot : Nat
  /-- slots held: 1 + EXTRA, or 1 when refused for its extra slots [14 R518] -/
  slots : Nat := 1
  /-- it holds a credit (a NO_CREDIT refusal does not) [14 R518] -/
  credit : Bool := true
  /-- OPCODE, TAG, FENCE as read [14 R516] -/
  opcode : Nat := 0
  tag : Nat := 0
  fence : Bool := false
  /-- the completion, once the command has finished [14 R520] -/
  done : Option Completion := none
  /-- its extra slots pass the mailbox or overlap a held slot: BAD_LENGTH [14 R516, R518; false] -/
  badLen : Bool := false
  /-- completions discarded (link-down R502, write failure R522) [14 R502] -/
  discard : Bool := false
  deriving DecidableEq, Repr
/-- One mailbox (R510, R514). -/
structure Mbx where
  /-- MBX_BASE_LO_n [w 32; 14 R510; 0 (PCIe)] -/
  baseLo : BitVec 32 := 0
  /-- MBX_BASE_HI_n [w 32; 14 R510; 0] -/
  baseHi : BitVec 32 := 0
  /-- MBX_CFG_n as written, reserved bits zero [w 32; 14 R514; 0x0000_0006] -/
  cfg : BitVec 32 := 6
  /-- base address and slot count in effect since EN last rose [14 R514; 0, 64] -/
  base : Nat := 0
  slots : Nat := 64
  /-- FAULTED [w 1; 14 R514; false] -/
  faulted : Bool := false
  /-- RELEASED [w 16; 14 R514; 0] -/
  released : Nat := 0
  /-- MBX_ACK_n [w 16; 14 R510; 0] -/
  ack : Nat := 0
  /-- commands held and refusals not yet released, in submission order [14 R518,R520; empty] -/
  held : List Held := []
  /-- whole second of the last SYS_PROTOCOL [14 R534; none] -/
  protoSec : Option Nat := none
  deriving DecidableEq, Repr
/-- A packet in a stream (R524): TYPE, FLAGS, SEQ and payload. -/
structure Packet where
  type : Nat
  flags : Nat := 0
  seq : Nat := 0
  payload : List Byte
  deriving DecidableEq, Repr
/-- One bank of a stream (R523): its bytes in use. -/
structure Stream0 where
  /-- complete packets not yet taken by their consumers, oldest first, with the bank (0 Ebb, 1 Flood) and the bytes each takes there [14 R523; empty] -/
  packets : List (Nat × Nat × Packet) := []
  /-- filling bank [w 1; 14 R523; DESIGN CHOICE 0 Ebb] -/
  filling : Nat := 0
  /-- bytes used in Ebb and in Flood since each was last empty [14 R523; 0] -/
  usedEbb : Nat := 0
  usedFlood : Nat := 0
  /-- words written since the previous packet, length slot first [14 R525; empty] -/
  words : List (BitVec 32) := []
  /-- the packet being written has exceeded FREE [14 R525 cause 0; false] -/
  overrun : Bool := false
  /-- EN [w 1; 14 R528; true] -/
  en : Bool := true
  /-- S_WM_0 [w 32; 14 R527; 0x0102_0080] -/
  wm : BitVec 32 := 0x01020080
  /-- FC_RDY_0 level [w 1; 14 R527; DESIGN CHOICE true (FREE is above HIGH at reset)] -/
  rdy : Bool := true
  /-- S_DROPS_0 [w 32; 14 R510; 0] -/
  drops : Nat := 0
  /-- packets accepted since start-up [w 32; 14 R533; 0] -/
  accepted : Nat := 0
  /-- packets discarded by Harbour or by a consumer [w 32; 14 R533; 0] -/
  discarded : Nat := 0
  /-- second of the last SYS_STREAM_OVERRUN and packets discarded since [14 R534; none, 0] -/
  ovrSec : Option Nat := none
  ovrCount : Nat := 0
  deriving DecidableEq, Repr
/-- The producer state of one S_1 packet type (R524, R530). -/
structure TypeSt where
  /-- packet TYPE [14 R529] -/
  type : Nat
  /-- SEQ of the next packet [w 16; 14 R524; DESIGN CHOICE 0] -/
  seq : Nat := 0
  /-- packets dropped in the present run [14 R530; 0] -/
  run : Nat := 0
  deriving DecidableEq, Repr
structure Stream1 where
  /-- complete packets, oldest first, with bank and Device Time of completion (2^-16 ns) [14 R523,R527; empty] -/
  packets : List (Nat × Nat × Packet) := []
  /-- filling bank [w 1; 14 R523; DESIGN CHOICE 0] -/
  filling : Nat := 0
  usedEbb : Nat := 0
  usedFlood : Nat := 0
  /-- words of the oldest packet already read, its length word included [14 R526; 0] -/
  readWords : Nat := 0
  /-- EN [w 1; 14 R528; true] -/
  en : Bool := true
  /-- S_WM_1 [w 32; 14 R527; 0x0010_0001] -/
  wm : BitVec 32 := 0x00100001
  /-- S_AGE_1 in us [w 32; 14 R510; 1000] -/
  ageUs : Nat := 1000
  /-- FC_RDY_1 level [w 1; 14 R527; false] -/
  rdy : Bool := false
  /-- S_DROPS_1 [w 32; 14 R510; 0] -/
  drops : Nat := 0
  /-- packets dropped since start-up [w 32; 14 R533; 0] -/
  dropped : Nat := 0
  /-- packets sent [w 32; 14 R533; 0] -/
  sent : Nat := 0
  /-- per type SEQ and drop run [14 R524,R530; empty] -/
  types : List TypeSt := []
  deriving DecidableEq, Repr
/-- Harbour (file 14). -/
structure HarbourSt where
  /-- quad-SPI host port chosen (HQSPI_SEL low at reset release) [w 1; 14 R500; false PCIe (pull-up)] -/
  quadSpi : Bool := false
  /-- PCIe link up; rate GT/s; lanes [14 R502; DESIGN CHOICE false,0,0] -/
  linkUp : Bool := false
  linkRate : Nat := 0
  linkLanes : Nat := 0
  /-- MSI vectors the host enabled (PCIe configuration space) [14 R532; DESIGN CHOICE 1] -/
  msiVectors : Nat := 1
  /-- READY [w 1; 14 R511; false] -/
  ready : Bool := false
  /-- INT_MASK [w 32; 14 R510; 0xFFFF_FFFF] -/
  intMask : BitVec 32 := 0xFFFFFFFF
  /-- INT_ROUTE_0 to 3 [w 32 each; 14 R510; 0xFFFF_FFFF, 0, 0, 0] -/
  intRoute : List (BitVec 32) := [0xFFFFFFFF, 0, 0, 0]
  /-- INT_CAUSE_k AND NOT INT_MASK as last sampled, for the edges of R532 [w 32 each; 14 R532; 0] -/
  cause : List (BitVec 32) := [0, 0, 0, 0]
  /-- EVT_ACK [w 16; 14 R510,R620; 0] -/
  evtAck : Nat := 0
  /-- mailboxes MBX_0 to MBX_15 [14 R514; above] -/
  mbxs : List Mbx := List.replicate 16 {}
  /-- free credits, MBX_CREDIT [w 7; 14 R510; 64] -/
  credit : Nat := 64
  /-- MBX_REFUSED [w 32; 14 R510; 0] -/
  refused : Nat := 0
  /-- refusals of R518 since start-up [w 32; 14 R533; 0] -/
  refusedTotal : Nat := 0
  /-- S_0 [14 R523] -/
  s0 : Stream0 := {}
  /-- S_1 [14 R523] -/
  s1 : Stream1 := {}
  /-- IND_ADDR [w 32; 14 R510; 0] -/
  indAddr : BitVec 32 := 0
  /-- IND_CTRL AUTO_INC [w 1; 14 R510; true] -/
  autoInc : Bool := true
  /-- latched 64-byte block of the indirect window: base and 16 words [14 R508; none] -/
  indLatch : Option (Nat × List (BitVec 32)) := none
  /-- data of the last register read returned to the host [14 R504; 0] -/
  readData : BitVec 32 := 0
  /-- pending protected value: offset, value, island cycle of its write [14 R506; none] -/
  pairPending : Option (Nat × BitVec 32 × Nat) := none
  /-- pending restart request (RESET_REQ) 0,1,2 [w 32; 14 R507; 0] -/
  resetReq : Nat := 0
  /-- tide boundary (2^-16 ns) at which the all-off frame of RESET_REQ 2 has latched [14 R507; none] -/
  resetLatchAt : Option Nat := none
  /-- DOMAIN_EN accepted and waiting for the next boundary [w 12; 14 R507, 17 R605; none] -/
  domainNext : Option Nat := none
  /-- SYS_NOP commands running: mailbox, slot, end (island cycle), tag [14 R533; empty] -/
  nops : List (Nat × Nat × Nat × Nat) := []
  deriving DecidableEq, Repr

/-- A record of the Shingle journal (16 R592). -/
structure JRec where
  /-- TYPE [w 16; 16 R594] -/
  type : Nat
  /-- KEY [w 32; 16 R592] -/
  key : Nat
  /-- SCHEMA, zero for other types than SETTING [w 16; 16 R592] -/
  schema : Nat := 0
  /-- SEQ [w 32; 16 R592] -/
  seq : Nat
  /-- PAYLOAD before padding [at most 8,192 bytes; 16 R592] -/
  payload : List Byte
  /-- life-cycle whose JMAC made the TAG; 0 BLANK is the zero TAG [16 R593] -/
  tagLc : Nat := 0
  /-- flash priority with which it was written [16 R594, 01 R38] -/
  prio : Nat := 5
  deriving DecidableEq, Repr
/-- A journal segment that holds records (16 R591). -/
structure JSeg where
  /-- place in the region, 0 to 255 [16 R571, R591] -/
  idx : Nat
  /-- ERASE_COUNT [w 32; 16 R591] -/
  erases : Nat
  /-- SEGMENT_SEQ [w 32; 16 R591] -/
  segSeq : Nat
  /-- bytes used, header included [16 R591] -/
  used : Nat := 64
  /-- committed records, oldest first [16 R592] -/
  recs : List JRec := []
  deriving DecidableEq, Repr
/-- The Shingle journal (16 R591 to R600). -/
structure JournalSt where
  /-- segments in log order, oldest first; the last is the head [16 R591; none: a blank flash (DESIGN CHOICE)] -/
  segs : List JSeg := []
  /-- erased segments: place and ERASE_COUNT [16 R591, R598; all 256, count 0 (DESIGN CHOICE)] -/
  erased : List (Nat × Nat) := (List.range 256).map (fun i => (i, 0))
  /-- next SEQ [w 32; 16 R592; 1] -/
  nextSeq : Nat := 1
  /-- next SEGMENT_SEQ [w 32; 16 R591; DESIGN CHOICE 1] -/
  nextSegSeq : Nat := 1
  /-- writes of priorities 5 to 7 are being refused, or a program or erase failed its read-back [w 1; 16 R600; false] -/
  refusing : Bool := false
  /-- the last program or erase failed its read-back [w 1; 16 R600; false] -/
  progFault : Bool := false
  /-- records discarded since start-up [w 32; 16 R601; 0] -/
  discarded : Nat := 0
  /-- compaction runs, started by JOURNAL_COMPACT [w 1; 16 R597; false] -/
  compacting : Bool := false
  /-- the mirror in retained SRAM is usable [w 1; 16 R599; false (POR)] -/
  mirrorOk : Bool := false
  deriving DecidableEq, Repr
/-- States of an update (16 R576). -/
inductive UpdSt where | idle | loading | loaded | verifying | verified | preparing | handover | trial
  deriving DecidableEq, Repr
/-- What a bank of the flash holds (16 R571, R572). -/
structure Bank where
  /-- the bundle the device was shipped with: it passes verification, its manifest numbers are free values of Config [16 R571; see UpdateSt] -/
  factory : Bool := false
  /-- bytes programmed from offset 0 on, erased beyond them [16 R577; none] -/
  bytes : List Byte := []
  deriving DecidableEq, Repr
/-- Firmware update (16 R571 to R590). -/
structure UpdateSt where
  /-- update state [w 3; 16 R576; IDLE] -/
  st : UpdSt := .idle
  /-- running bank: 0 A, 1 B [w 1; 16 R571, R575; 0 (no update records)] -/
  bank : Nat := 0
  /-- the contents of bank A and bank B [16 R571; bank A the shipped bundle, bank B erased (DESIGN CHOICE)] -/
  bankA : Bank := { factory := true }
  bankB : Bank := {}
  /-- the bank was confirmed or running before, A then B [16 R575; true, false] -/
  proven : List Bool := [true, false]
  /-- length declared by UPDATE_BEGIN [w 32; 16 R577; 0] -/
  length : Nat := 0
  /-- BUNDLE_VERSION declared by UPDATE_BEGIN [w 32; 16 R577; 0] -/
  declared : Nat := 0
  /-- bytes received [w 32; 16 R601; 0] -/
  received : Nat := 0
  /-- island cycle of the last UPDATE_PACKET_REJECTED with cause 4 [16 R578; none] -/
  rejAt : Option Nat := none
  /-- last cause: of FAILED, ABANDONED or REVERTED [w 8; 16 R601; DESIGN CHOICE 0] -/
  cause : Nat := 0
  /-- mode of the activation: true cold [16 R580; false] -/
  cold : Bool := false
  /-- CONFIRM_WINDOW in s [w 32; 16 R581; 600] -/
  window : Nat := 600
  /-- island cycle at which PREPARING or TRIAL was entered [16 R581, R588; 0] -/
  since : Nat := 0
  /-- MIGRATED has been written [16 R581; false] -/
  migrated : Bool := false
  /-- Device Time at which MIGRATED was written, 2^-16 ns [16 R583; 0] -/
  migratedAt : Nat := 0
  /-- processors switched by the present handover, 0 to 6 in the order of R583; counting down in a reversal or revert [16 R583; 0] -/
  switched : Nat := 0
  /-- Device Time of the latest switch, 2^-16 ns [16 R583; 0] -/
  switchAt : Nat := 0
  /-- Device Time of the first switch of the handover, 2^-16 ns [16 R603; 0] -/
  handFrom : Nat := 0
  /-- the handover runs backwards: cause 3 handover, 4 quiesce, 0 window, 2 command [16 R586, R588; none] -/
  reversing : Option Nat := none
  /-- times the CTRL switch has moved [w 8; 16 R584, R586; 0] -/
  ctrlMoves : Nat := 0
  /-- new images that have reported their self-test passed, IDs 0 to 5 [16 R587; none] -/
  selfTest : List Bool := [false, false, false, false, false, false]
  /-- a migration has failed in this update [16 R587; false] -/
  migFailed : Bool := false
  /-- a restart waits for the conditions of R580, with the cause of a revert or none for the activation [16 R580, R588; none] -/
  restartWait : Option (Option Nat) := none
  /-- settings schema presently in force [w 16; 16 R579, R582; DESIGN CHOICE 0] -/
  schema : Nat := 0
  /-- SCHEMA_READ_MIN of the running bundle [w 16; 16 R572, R582; DESIGN CHOICE 0] -/
  schemaMin : Nat := 0
  deriving DecidableEq, Repr

/-- An event record (17 R620). -/
structure EvRec where
  /-- CODE [w 16; 17 R620] -/
  code : Nat
  /-- severity [w 3; 17 R620, 00 R21] -/
  sev : Nat
  /-- source master [w 5; 17 R620, 15 R535] -/
  src : Nat
  /-- REPEAT [w 8; 17 R620] -/
  rep : Nat := 0
  /-- FIRST, Device Time in 2^-16 ns [w 96; 17 R620] -/
  first : Nat
  /-- PARAM_0 to PARAM_2 [w 32 each; 17 R620] -/
  p0 : Nat
  p1 : Nat
  p2 : Nat
  /-- SEQ [w 16; 17 R620] -/
  seq : Nat
  /-- Device Time of the last copy journalled or sent again for a repeat [17 R623, R624; none] -/
  againAt : Option Nat := none
  /-- REPEAT has risen since that copy [17 R623, R624; false] -/
  due : Bool := false
  deriving DecidableEq, Repr
/-- The event recorder (17 R620 to R630). -/
structure RecorderSt where
  /-- event ring in retained SRAM, oldest first, at most 1,024 [17 R620; empty (POR)] -/
  ring : List EvRec := []
  /-- EVT_SEQ: SEQ of the newest record created [w 16; 17 R620; 0] -/
  seq : Nat := 0
  /-- RATE for every code, and per-code overrides [w 8; 17 R622; 16, none] -/
  rate : Nat := 16
  rates : List (Nat × Nat) := []
  /-- records created in the present whole second per code [17 R622; empty] -/
  made : List (Nat × Nat) := []
  /-- the whole second these counts belong to [17 R622; 0] -/
  sec : Nat := 0
  /-- drops per severity since start-up (8) [w 32 each; 17 R629; 0] -/
  drops : List Nat := List.replicate 8 0
  /-- drops per severity since the previous RECORDER_LOSS (8) [17 R622; 0] -/
  lossDrops : List Nat := List.replicate 8 0
  /-- Device Time of the first drop since then, and second of the last drop [17 R622; none] -/
  firstDrop : Option Nat := none
  lastDropSec : Nat := 0
  /-- MIRROR_MIN [w 3; 17 R623; 3 WARNING] -/
  mirrorMin : Nat := 3
  /-- lowest severity sent on S_1; none stopped [17 R629; none] -/
  subscribe : Option Nat := none
  /-- records raised before Device Time was loaded (start-up steps 1 to 8), with elapsed cycles [17 R615; empty] -/
  early : List (Nat × EvRec) := []
  /-- Device Time has been loaded (step 9 of start-up): records are written at once [w 1; 17 R615; false] -/
  loaded : Bool := false
  deriving DecidableEq, Repr
/-- What the rails and RESET_N allow (18 R636, R644). -/
inductive Rails where
  /-- VDD_AON is below its power-on threshold -/
  | aonLost
  /-- the sequencer has finished after POR and RESET_N is low: time zero waits for its release -/
  | resetHeld
  /-- the rails are released: START_UP may run, or has run -/
  | released
  /-- VDD_CORE is lost while VDD_AON holds -/
  | coreLost
  deriving DecidableEq, Repr
/-- Power, supervision and undertow (17 R604 to R619). -/
structure PowerSt where
  /-- power state [17 R606; DESIGN CHOICE OFF: State.reset is the device before VDD_AON rises] -/
  st : Power := .off
  /-- rails and RESET_N [18 R636; released: State.reset is time zero of R615] -/
  rails : Rails := .released
  /-- restart ordered by the command in execution, with its cause; taken as the command ends [w 3; the model's own; none] -/
  restartNow : Option Nat := none
  /-- last start cause (R614) [w 8; 17 R614; 0] -/
  cause : Nat := 0
  /-- entry to NEAP/SLACK requested: target state [17 R607; none] -/
  entering : Option Power := none
  /-- wake kept during entry: (source, pin) [17 R608; none] -/
  wakeKept : Option (Nat × Nat) := none
  /-- POWER_WAKE_CONFIG: GPIO mask, edges, RTC alarm second (0 none) [w 4,8,64; 17 R627; 0] -/
  wakeMask : Nat := 0
  wakeEdges : Nat := 0
  wakeAlarm : Nat := 0
  /-- fatal cause in force [17 R610; none] -/
  fatal : Option Nat := none
  /-- fatal cause 3 or 4 whose axes still stop, and the island cycle of the fault: SAFE follows [17 R610; none] -/
  fatalNext : Option (Nat × Nat) := none
  /-- SAFE after a tamper alarm [15 R558; false] -/
  tamperSafe : Bool := false
  /-- PFW_N low: its edge (Device Time) [17 R611; none] -/
  pfwAt : Option Nat := none
  /-- VDD_CORE request in mV, last read-back, in flight since cycle, target before [17 R612; DESIGN CHOICE 950, none, none] -/
  vddReq : Nat := 950
  vddRead : Option Nat := none
  vddFlight : Option (Nat × Nat) := none
  /-- the tamper window of VDD_CORE is wide since cycle, target before [17 R613; none] -/
  vddWide : Option (Nat × Nat) := none
  /-- outputs PWR_EN_0 to PWR_EN_3: released [18 R635; released: State.reset is time zero of R615] -/
  pwrEn : List Bool := [true, true, true, true]
  /-- GFAULT.PMBUS [w 1; 14 R512; false] -/
  pmbusFault : Bool := false
  /-- STATUS_WORD last read [w 16; 17 R612; DESIGN CHOICE 0] -/
  statusWord : Nat := 0
  /-- T_loss recorded by PD_AON in retained SRAM [17 R611; none] -/
  tLoss : Option Nat := none
  /-- processor restarts: (master, cycle) in the last 60 s, and total [17 R616; empty, 0] -/
  restarts : List (Nat × Nat) := []
  restartTotal : Nat := 0
  /-- consecutive heartbeats missed by CTRL, NAV, RAD, SEC [17 R616; 0] -/
  missed : List Nat := [0, 0, 0, 0]
  /-- undertow: per activity of R617 (12) the cycle of its last completed pass, and LATE raised [17 R617; 0,false] -/
  passAt : List Nat := List.replicate 12 0
  passLate : List Bool := List.replicate 12 false
  /-- corrected errors per memory (6), uncorrectable total, cycle of last ECC_CORRECTED per memory [17 R618,R619; 0] -/
  eccCorr : List Nat := List.replicate 6 0
  eccFatal : Nat := 0
  eccAt : List (Option Nat) := List.replicate 6 none
  eccHour : List Nat := List.replicate 6 0
  /-- SOUNDING_PERIOD in s, subscription, sequence, ring of the newest 64 (retained), last [17 R619; 60,false,0,empty] -/
  soundPeriod : Nat := 60
  soundSub : Bool := false
  soundSeq : Nat := 0
  soundings : List (List Byte) := []
  soundAt : Nat := 0
  /-- unavailable tides (this year of operation, since start-up) [w 32; 17 R625; 0] -/
  unavailYear : Nat := 0
  /-- island cycle at which the present year of operation began; below 0 where that was before the last start [17 R627; 0] -/
  yearAt : Int := 0
  unavail : Nat := 0
  /-- address of the last corrected error per memory [w 32; 17 R628; 0] -/
  eccAddr : List Nat := List.replicate 6 0
  deriving DecidableEq, Repr

/-- A slot of the key vault that is not EMPTY (15 R543). -/
structure KeySlot where
  /-- STATE is REVOKED; else ACTIVE [w 8; 15 R543] -/
  revoked : Bool := false
  /-- TYPE, USES, MASTERS, WORLD, LC, FLAGS [w 8, 16, 8, 8, 8, 8; 15 R543] -/
  type : Nat
  uses : Nat
  masters : Nat
  world : Nat
  lc : Nat
  flags : Nat
  /-- PARENT, DEPTH, GENERATION, USE_COUNT [w 8, 8, 16, 32; 15 R543] -/
  parent : Nat := 0xFF
  depth : Nat := 0
  gen : Nat
  uses0 : Nat := 0
  /-- key material, readable by the vault alone [15 R542] -/
  key : List Byte
  deriving DecidableEq, Repr
/-- A multi-step crypto session (15 R552). -/
structure SecSession where
  /-- SESSION, mailbox that opened it, 0 cipher 1 MAC 2 hash [w 3; 15 R552] -/
  id : Nat
  mbx : Nat
  kind : Nat
  /-- slot, mode or algorithm, decrypt or verify, IV, AAD or expected MAC [15 R568] -/
  slot : Nat
  mode : Nat
  flag : Bool
  iv : List Byte
  aux : List Byte
  /-- data of the steps so far [15 R552] -/
  data : List Byte
  /-- island cycle of the last step [15 R552] -/
  cyc : Nat
  deriving DecidableEq, Repr
/-- The security island (15). -/
structure SecSt where
  /-- slots of the vault that are not EMPTY, 0 to 63 [15 R542; all EMPTY before start-up] -/
  keys : List (Nat × KeySlot) := []
  /-- GENERATION last given per slot [w 16; 15 R543; 0] -/
  gens : List (Nat × Nat) := []
  /-- host slots whose keys without PERSISTENT the last restart lost, not yet reported [15 R544; none] -/
  lostVolatile : List Nat := []
  /-- the DRBG runs [w 1; 15 R550; true] -/
  drbg : Bool := true
  /-- open sessions [15 R552; none] -/
  sessions : List SecSession := []
  /-- outstanding challenge of R563 [64 bytes; 15 R563; none] -/
  challenge : Option (List Byte) := none
  /-- island cycle at which SEC_UNLOCK was accepted in FIELD [15 R563; none] -/
  ackFrom : Option Nat := none
  /-- tamper log in retained SRAM, oldest first, at most 16 [16 x 32 bytes; 15 R557; empty] -/
  log : List EvRec := []
  /-- an alarm in PROVISION, FIELD or RETURN since the last start; the log is not journalled yet [w 1 each; 15 R557, R559; false] -/
  alarmed : Bool := false
  logDirty : Bool := false
  /-- island cycle of an alarm whose entry to SAFE is still to come [15 R558; none] -/
  alarmAt : Option Nat := none
  /-- retained SRAM was wiped by an alarm in SLACK or NEAP [w 1; 15 R558; false] -/
  wiped : Bool := false
  /-- the SAFE session began with a full power cycle [w 1; 15 R562; false] -/
  cold : Bool := false
  /-- debug kinds open: bit 0 TRACE, 1 CORE, 2 SECURE, 3 BSCAN; key that opened them [w 4, 8; 15 R565; 0, 0] -/
  debug : Nat := 0
  debugKey : Nat := 0
  /-- worst PUF block, per cent [w 8; 15 R568; 0] -/
  pufWorst : Nat := 0
  /-- a PUF check was asked for; island cycles of the last health check, vault check and retest [15 R540, R551, R550; false, 0] -/
  pufAsked : Bool := false
  pufAt : Nat := 0
  vaultAt : Nat := 0
  retestAt : Nat := 0
  deriving DecidableEq, Repr

/-- The state of the block. -/
structure State where
  /-- commands waiting, first in, first out [the model's own; empty] -/
  pending : List Instr := []
  /-- what has left the device, newest first [the model's own; empty] -/
  out : List Out := []
  /-- counter of free values drawn (DESIGN CHOICE 0; no statement rests on it) [the model's own; 0] -/
  freeCtr : Nat := 0
  /-- device memory of the mailbox areas in quad-SPI mode: (indirect address, byte), addresses rising, no zero byte; what is not listed reads zero [w 8 per cell; 14 R509, R515; empty (DESIGN CHOICE zero)] -/
  mem : List Host.Cell := []
  /-- triplicated fields [14 R505; below] -/
  votes : VoteSt := {}
  /-- one-time-programmable fields [15, 16 R574; below] -/
  otp : OtpSt := {}
  /-- timebase island [02; below] -/
  time : TimeSt := {}
  /-- Harbour [14; below] -/
  harbour : HarbourSt := {}
  /-- satellite baseband [03; below] -/
  gnss : GnssSt := {}
  /-- RTK, heading and pose [04; below] -/
  pose : PoseSt := {}
  /-- cell engine [05; below] -/
  cell : CellSt := {}
  /-- field rasters and coverage [06; below] -/
  raster : RasterSt := {}
  /-- Knani wire and channels [07, 08; below] -/
  knani : KnaniSt := {}
  /-- motion axes 0 to 7 [09 R333; below] -/
  axes : List Axis := List.replicate 8 {}
  /-- metering [10; below] -/
  meter : MeterSt := {}
  /-- fleet radio [11; below] -/
  fleet : FleetSt := {}
  /-- corridors [12; below] -/
  cor : CorSvc := {}
  /-- Breakwater [12; below] -/
  stop : StopSt := {}
  /-- Vexlink and networks [13; below] -/
  net : NetSt := {}
  /-- security island [15; below] -/
  sec : SecSt := {}
  /-- firmware update [16; below] -/
  update : UpdateSt := {}
  /-- Shingle journal [16; below] -/
  journal : JournalSt := {}
  /-- power and supervision [17; below] -/
  power : PowerSt := {}
  /-- event recorder [17; below] -/
  recorder : RecorderSt := {}
  deriving DecidableEq, Repr

/-- The machine right after reset: time zero of the start-up sequence (17 R615). -/
def State.reset : State := {}

end Sys2Proof.Machine
end

