-- ==== Sys2Proof/Machine/Bytes.lean ====
section
/-!
DEFINITION. Byte order, signed fields, sparse tables, check sums and Device Time layouts that every chapter shares.
-/
namespace Sys2Proof.Machine

/-! ## Little-endian fields (00 R11, R12) -/

/-- `n` little-endian bytes of `v` (00 R11). -/
def le : Nat → Nat → List Byte
  | 0, _ => []
  | n + 1, v => BitVec.ofNat 8 v :: le n (v / 256)

/-- A signed value in `n` bytes, two's complement (00 R12). -/
def leI (n : Nat) (v : Int) : List Byte := le n (v % (2 ^ (8 * n) : Nat)).toNat

/-- The number that little-endian bytes spell (00 R11). -/
def natOf : List Byte → Nat
  | [] => 0
  | b :: r => b.toNat + 256 * natOf r

/-- Two's complement value of `bits` bits (00 R12). -/
def signed (bits v : Nat) : Int := if v < 2 ^ (bits - 1) then v else (v : Int) - (2 ^ bits : Nat)

/-- Unsigned field of `n` bytes at byte `off`; bytes that are not there read as zero. -/
def uAt (p : List Byte) (off n : Nat) : Nat := natOf ((p.drop off).take n)

/-- Signed field of `n` bytes at byte `off`. -/
def iAt (p : List Byte) (off n : Nat) : Int := signed (8 * n) (uAt p off n)

/-- Every byte from `off` on for `n` bytes is zero (reserved fields, 00 R17). -/
def zeros (p : List Byte) (off n : Nat) : Bool := ((p.drop off).take n).all (· == 0)

/-- A value as a 32-bit event parameter: the low 32 bits. -/
def w32 (v : Int) : Nat := (v % (2 ^ 32 : Nat)).toNat

/-- Bit `k` of a number. -/
def bit (v k : Nat) : Bool := v / 2 ^ k % 2 == 1

/-- 1 for true. -/
def b1 (b : Bool) : Nat := if b then 1 else 0

/-- A number with bit `k` set where `b` holds. -/
def bitIf (b : Bool) (k : Nat) : Nat := if b then 2 ^ k else 0

/-- Signed difference of two `n`-bit counters (02 R49, 01 R34, 17 R620). -/
def diffN (bits a b : Nat) : Int := signed bits (((a : Int) - b) % (2 ^ bits : Nat)).toNat

/-- A signed value held to `n` bits, saturating. -/
def satI (bits : Nat) (v : Int) : Int := max (-(2 ^ (bits - 1) : Nat)) (min v ((2 ^ (bits - 1) : Nat) - 1))

/-- An unsigned value held to `max`, saturating. -/
def satN (top v : Nat) : Nat := min top v

/-- Length padded to a multiple of `k`. -/
def padTo (k n : Nat) : Nat := (n + k - 1) / k * k

/-! ## Sparse tables and lists -/

/-- The entry at a key. -/
def tget {α : Type} : Tab α → Nat → Option α
  | [], _ => none
  | (k, v) :: r, j => if k == j then some v else tget r j

/-- The table with an entry at a key. -/
def tset {α : Type} : Tab α → Nat → α → Tab α
  | [], j, x => [(j, x)]
  | (k, v) :: r, j, x => if j < k then (j, x) :: (k, v) :: r else if j == k then (j, x) :: r else (k, v) :: tset r j x

/-- The table without the entry at a key. -/
def tdel {α : Type} (t : Tab α) (j : Nat) : Tab α := t.filter (fun e => e.1 != j)

/-- The table with one entry changed where it is listed. -/
def tmod {α : Type} (t : Tab α) (j : Nat) (f : α → α) : Tab α := t.map (fun e => if e.1 == j then (e.1, f e.2) else e)

/-- A list with one element changed. -/
def lmod {α : Type} (l : List α) (j : Nat) (f : α → α) : List α := l.modify j f

/-- The lowest number below `n` that a table does not list. -/
def firstFree {α : Type} (n : Nat) (t : Tab α) : Option Nat := (List.range n).find? (fun k => (tget t k).isNone)

/-! ## Check sums -/

/-- One byte into a CRC of `width` bits, most significant bit first. -/
def crcByteMsb (width poly : Nat) (c : Nat) (b : Byte) : Nat :=
  (List.range 8).foldl (fun c _ => if bit c (width - 1) then (c * 2 % 2 ^ width) ^^^ poly else c * 2 % 2 ^ width)
    (c ^^^ (b.toNat * 2 ^ (width - 8)))

/-- CRC-16, polynomial 0x1021, initial value 0xFFFF (17 R619, R620). -/
def crc16 (p : List Byte) : Nat := p.foldl (crcByteMsb 16 0x1021) 0xFFFF

/-- One byte into a reflected CRC-32. -/
def crc32Byte (c : Nat) (b : Byte) : Nat :=
  (List.range 8).foldl (fun c _ => if c % 2 == 1 then (c / 2) ^^^ 0xEDB88320 else c / 2) (c ^^^ b.toNat)

/-- CRC-32 as 06 R234 defines it. -/
def crc32 (p : List Byte) : Nat := (p.foldl crc32Byte 0xFFFFFFFF) ^^^ 0xFFFFFFFF

/-! ## Device Time (02 R45 to R49); a time is held as a count of 2^-16 ns -/

/-- One nanosecond in units of 2^-16 ns. -/
def ns1 : Nat := 65536
/-- One microsecond. -/
def us1 : Nat := 65536 * 1000
/-- One millisecond. -/
def ms1 : Nat := 65536 * 1000000
/-- One second. -/
def sec1 : Nat := 65536 * 1000000000

/-- The 12 bytes of a Device Time (02 R45). -/
def dtBytes (t : Nat) : List Byte := le 2 (t % ns1) ++ le 4 (t / ns1 % 1000000000) ++ le 6 (t / sec1)

/-- NANOSECONDS of a Device Time field is below 10^9 (02 R46). -/
def dtOk (p : List Byte) (off : Nat) : Bool := uAt p (off + 2) 4 < 1000000000

/-- The time that a Device Time field states (02 R45). -/
def dtAt (p : List Byte) (off : Nat) : Nat := uAt p off 2 + ns1 * uAt p (off + 2) 4 + sec1 * uAt p (off + 6) 6

/-- Short Time (02 R48). -/
def stOf (t : Nat) : Nat := t / 2 ^ 14 % 2 ^ 32

/-- Device Time now (02 R47): the output counter. -/
def dtNow (s : State) : Nat := s.time.out / 2 ^ 23

/-- Island cycles in a number of microseconds (02 R52). -/
def cycUs (n : Nat) : Nat := 500 * n
/-- Island cycles in a number of milliseconds (02 R52). -/
def cycMs (n : Nat) : Nat := 500000 * n

/-- The value in force of a voted field: the majority of its copies, SAFE's fourth copy where all differ (14 R505). -/
def Voted.value (v : Voted) : Nat := if v.c0 == v.c1 || v.c0 == v.c2 then v.c0 else if v.c1 == v.c2 then v.c1 else v.safe

/-- A voted field written through its own path: all copies (14 R505). -/
def Voted.write (v : Voted) (x : Nat) : Voted := { v with c0 := x, c1 := x, c2 := x, safe := x }

/-- The running role: 0 rover, 1 base (00 R3). -/
def roleOf (s : State) : Nat := s.votes.role.value
/-- The life-cycle (14 R511). -/
def lifeCycle (s : State) : Nat := s.votes.lifeCycle.value
/-- The tide period in 2^-16 ns (02 R78). -/
def periodOf (code : Nat) : Nat := us1 * ([250, 500, 1000, 2000, 2500, 4000, 5000, 8000, 10000].getD code 1000)
/-- The tide period in force, 2^-16 ns (02 R78, R80). -/
def tideP (s : State) : Nat := periodOf s.votes.tide.value

end Sys2Proof.Machine
end

