-- ==== Sys2Proof/Machine/Ops.lean ====
section
/-!
DEFINITION. The operations that every meaning shares: device memory, the outbox, the journal, the event recorder, packets on
S_1, mailbox completions, and the settling of interrupt lines after a command.
-/
namespace Sys2Proof.Machine

/-! ## Device memory of the mailbox areas (14 R509, R515) -/

/-- The canonical form: addresses strictly rising from `lo`, no zero byte listed. -/
def memWfFrom : Nat → List Host.Cell → Bool
  | _, [] => true
  | lo, (a, v) :: r => decide (lo ≤ a) && v != 0 && memWfFrom (a + 1) r

/-- Device memory is in canonical form. -/
def memWf (m : List Host.Cell) : Bool := memWfFrom 0 m

/-- One byte of device memory; what is not listed reads zero. -/
def memGet : List Host.Cell → Nat → Byte
  | [], _ => 0
  | (a, v) :: r, x => if a == x then v else memGet r x

/-- Device memory with one byte written, in canonical form. -/
def memPut : List Host.Cell → Nat → Byte → List Host.Cell
  | [], x, v => if v == 0 then [] else [(x, v)]
  | (a, w) :: r, x, v =>
    if x < a then (if v == 0 then (a, w) :: r else (x, v) :: (a, w) :: r)
    else if x == a then (if v == 0 then r else (x, v) :: r)
    else (a, w) :: memPut r x v

/-- Device memory with consecutive bytes written. -/
def memPuts : List Host.Cell → Nat → List Byte → List Host.Cell
  | m, _, [] => m
  | m, x, b :: r => memPuts (memPut m x b) (x + 1) r

/-- `n` consecutive bytes of device memory. -/
def memGets (m : List Host.Cell) (x n : Nat) : List Byte := (List.range n).map (fun k => memGet m (x + k))

/-! ## Outbox and free values -/

/-- Something leaves the device. -/
def emit (k : OutKind) (index rel : Nat) (data : List Byte) (s : State) : State :=
  { s with out := { kind := k, index := index, rel := rel, data := data } :: s.out }

/-- A free value of the model, and the state with the counter advanced. -/
def draw (s : State) : Nat × State := (Config.freeValue s.freeCtr, { s with freeCtr := s.freeCtr + 1 })

/-! ## Undertow (17 R617) -/

/-- An undertow activity completes a pass (17 R617, R627): activities by row of R617 from 0. -/
def passDone (k : Nat) (s : State) : State := { s with power := { s.power with passAt := lmod s.power.passAt k (fun _ => s.time.cyc) } }

/-! ## Events (00 R18, R21, 17 R620 to R624) -/

/-- An event as its chapter raises it: CODE, severity, source master (15 R535), three parameters. No event table names an event's source master (00 R21, 17 R620): which one each
event carries, CTRL where its row says nothing else, is the model's choice (DESIGN CHOICE, log entry 78). -/
structure Ev where
  code : Nat
  sev : Nat
  src : Nat := 1
  p0 : Nat := 0
  p1 : Nat := 0
  p2 : Nat := 0
  /-- FIRST, where it is not the time at which the record is created (17 R622) -/
  first : Option Nat := none
  deriving DecidableEq, Repr

/-- The 32 bytes of an event record (17 R620). -/
def evBytes (r : EvRec) : List Byte :=
  let b := le 2 r.code ++ le 1 (r.sev * 32 + r.src) ++ le 1 r.rep ++ dtBytes r.first ++ le 4 r.p0 ++ le 4 r.p1 ++ le 4 r.p2 ++
    le 2 r.seq
  b ++ le 2 (crc16 b)

/-! ### The journal (16 R591 to R600) -/

/-- A record to be written. -/
structure JWrite where
  type : Nat
  key : Nat
  payload : List Byte
  prio : Nat
  schema : Nat := 0
  /-- exempt from R600: a copy of compaction, or a DELETE that the host issues -/
  exempt : Bool := false
  deriving DecidableEq, Repr

/-- Bytes that a record takes in its segment (16 R592). -/
def recSize (n : Nat) : Nat := 16 + padTo 16 n + 32

/-- The erased segment with the lowest ERASE_COUNT (16 R598). -/
def leastErased : List (Nat × Nat) → Option (Nat × Nat)
  | [] => none
  | e :: r => match leastErased r with
    | none => some e
    | some f => some (if f.2 < e.2 then f else e)

/-- A record appended at the head of the log, in a new segment where it does not fit; none where no segment is left. -/
def jAppend (r : JRec) (j : JournalSt) : Option JournalSt :=
  let n := recSize r.payload.length
  match j.segs.getLast? with
  | some h =>
    if h.used + n ≤ 65536 then
      some { j with segs := j.segs.dropLast ++ [{ h with used := h.used + n, recs := h.recs ++ [r] }], nextSeq := j.nextSeq + 1 }
    else match leastErased j.erased with
      | none => none
      | some (ix, ec) => some { j with
          segs := j.segs ++ [{ idx := ix, erases := ec, segSeq := j.nextSegSeq, used := 64 + n, recs := [r] }]
          erased := j.erased.filter (fun e => e.1 != ix), nextSegSeq := j.nextSegSeq + 1, nextSeq := j.nextSeq + 1 }
  | none => match leastErased j.erased with
      | none => none
      | some (ix, ec) => some { j with
          segs := [{ idx := ix, erases := ec, segSeq := j.nextSegSeq, used := 64 + n, recs := [r] }]
          erased := j.erased.filter (fun e => e.1 != ix), nextSegSeq := j.nextSegSeq + 1, nextSeq := j.nextSeq + 1 }

/-- The journal with its refusing condition brought up to date, and JOURNAL_WRITE_FAIL on entry to it (16 R600). -/
def jCondition (prio : Nat) (j : JournalSt) : JournalSt × List Ev :=
  let now := decide (j.erased.length ≤ 2) || j.progFault
  let seg := match j.segs.getLast? with | some h => h.idx | none => 0
  ({ j with refusing := now },
   if now && !j.refusing then
     [{ code := 0x0F10, sev := 4, p0 := b1 j.progFault, p1 := seg, p2 := if prio < 5 then 5 else prio }] else [])

/-- A record written to the journal (16 R592, R593, R600; during a power failure nothing below priority 2 starts, 17 R611).
Answers the journal, whether the record was written, and the events. -/
def jWrite (lc : Nat) (pfw : Bool) (w : JWrite) (j : JournalSt) : JournalSt × Bool × List Ev :=
  if pfw && decide (2 < w.prio) then (j, false, [])
  else if (decide (j.erased.length ≤ 2) || j.progFault) && decide (5 ≤ w.prio) && !w.exempt then
    let (j', evs) := jCondition w.prio j
    (j', false, evs)
  else
    match jAppend { type := w.type, key := w.key, schema := w.schema, seq := j.nextSeq, payload := w.payload, tagLc := lc,
                    prio := w.prio } j with
    | none => let (j', evs) := jCondition w.prio j; (j', false, evs)
    | some j1 => let (j', evs) := jCondition 5 j1; (j', true, evs)

/-- Every committed record of the journal, oldest first. -/
def jRecs (j : JournalSt) : List JRec := (j.segs.map (·.recs)).flatten

/-- The newest record of a TYPE and KEY whose TAG verifies under the present life-cycle (16 R593). -/
def jNewest (lc : Nat) (j : JournalSt) (type key : Nat) : Option JRec :=
  (jRecs j).reverse.find? (fun r => r.type == type && r.key == key && r.tagLc == lc)

/-- The newest record of a SETTING that the running bundle reads: its schema lies between SCHEMA_READ_MIN and SCHEMA (16 R582, R596). -/
def setting (s : State) (key : Nat) : Option JRec :=
  (jRecs s.journal).reverse.find? (fun r => r.type == 1 && r.key == key && r.tagLc == lifeCycle s &&
    decide (s.update.schemaMin ≤ r.schema) && decide (r.schema ≤ s.update.schema))

/-! ### Packets on S_1 (14 R523, R524, R530) -/

/-- Bytes a packet takes in its bank: length word, header, payload, padding. -/
def pktSize (payload : List Byte) : Nat := 4 + padTo 4 (4 + payload.length)

/-- A bank (0 Ebb, 1 Flood) of S_1 holds no packet. -/
def s1BankClear (x : Stream1) (b : Nat) : Bool := x.packets.all (fun p => p.1 != b)

/-- The bank that a packet of `n` bytes may enter on S_1, with the bytes used there before it (14 R523). -/
def s1Place (x : Stream1) (n : Nat) : Option (Nat × Nat) :=
  let used := if x.filling == 0 then x.usedEbb else x.usedFlood
  if !x.en || decide (65536 < n) then none
  else if used + n ≤ 65536 then some (x.filling, used)
  else if s1BankClear x (1 - x.filling) then some (1 - x.filling, 0)
  else none

/-- The record of a packet TYPE on S_1. -/
def s1Type (x : Stream1) (ty : Nat) : TypeSt := (x.types.find? (fun t => t.type == ty)).getD { type := ty }

/-- The records of the types with one replaced. -/
def s1SetType (x : Stream1) (t : TypeSt) : List TypeSt := t :: x.types.filter (fun y => y.type != t.type)

/-- A producer's packet: it enters S_1, or it is dropped under R530; with the SYS_STREAM_LOSS events of that rule. -/
def pushS1 (now ty : Nat) (payload : List Byte) (x : Stream1) : Stream1 × List Ev :=
  let t := s1Type x ty
  let n := pktSize payload
  match s1Place x n with
  | none =>
    ({ x with drops := (x.drops + 1) % 2 ^ 32, dropped := (x.dropped + 1) % 2 ^ 32, types := s1SetType x { t with seq := (t.seq + 1) % 65536, run := t.run + 1 } },
     if t.run == 0 then [{ code := 0x0108, sev := 3, p0 := ty, p1 := 1, p2 := 0 }] else [])
  | some (b, used) =>
    ({ x with
        packets := x.packets ++ [(b, now, { type := ty, flags := if t.run == 0 then 0 else 1, seq := t.seq, payload := payload })]
        filling := b
        usedEbb := if b == 0 then used + n else x.usedEbb
        usedFlood := if b == 0 then x.usedFlood else used + n
        sent := (x.sent + 1) % 2 ^ 32
        types := s1SetType x { t with seq := (t.seq + 1) % 65536, run := 0 } },
     if t.run == 0 then [] else [{ code := 0x0108, sev := 3, p0 := ty, p1 := t.run, p2 := 1 }])

/-! ### The recorder -/

/-- The newest record of a CODE in the ring. -/
def newestOf (code : Nat) (ring : List EvRec) : Option EvRec := ring.reverse.find? (fun r => r.code == code)

/-- The record whose REPEAT an occurrence raises (17 R621). -/
def repeats (ack : Nat) (e : Ev) (r : RecorderSt) : Option EvRec :=
  match newestOf e.code r.ring with
  | none => none
  | some x => if x.src == e.src && x.p0 == e.p0 && x.p1 == e.p1 && x.p2 == e.p2 && decide (0 < diffN 16 x.seq ack) &&
      decide (x.rep < 255) then some x else none

/-- RATE for a CODE (17 R622). -/
def rateOf (r : RecorderSt) (code : Nat) : Nat := (tget r.rates code).getD r.rate

/-- A drop counted under its severity (17 R622). -/
def countDrop (now sev : Nat) (r : RecorderSt) : RecorderSt :=
  { r with drops := lmod r.drops sev (· + 1), lossDrops := lmod r.lossDrops sev (· + 1)
           firstDrop := some (r.firstDrop.getD now), lastDropSec := now / sec1 }

/-- The ring without the oldest record that a record of this severity may overwrite (17 R623): none where there is none. -/
def overwrite (sev : Nat) : List EvRec → Option (List EvRec)
  | [] => none
  | x :: r => if x.sev ≤ sev && x.sev != 7 then some r else (overwrite sev r).map (x :: ·)

/-- The recorder with the per-second counts of the present whole second (17 R622). -/
def rollSec (now : Nat) (r : RecorderSt) : RecorderSt :=
  if now / sec1 == r.sec then r else { r with sec := now / sec1, made := [] }

/-- A record created, or the occurrence dropped (17 R620, R622, R623): the recorder and the record created. -/
def createRec (now : Nat) (e : Ev) (r0 : RecorderSt) : RecorderSt × Option EvRec :=
  let r := rollSec now r0
  let made := (tget r.made e.code).getD 0
  if e.sev != 7 && decide (rateOf r e.code ≤ made) then (countDrop now e.sev r, none)
  else
    let x : EvRec := { code := e.code, sev := e.sev, src := e.src, first := e.first.getD now, p0 := e.p0, p1 := e.p1, p2 := e.p2,
                       seq := (r.seq + 1) % 65536 }
    let r1 := { r with made := tset r.made e.code (made + 1), seq := x.seq }
    if r.ring.length < 1024 then ({ r1 with ring := r.ring ++ [x] }, some x)
    else match overwrite e.sev r.ring with
      | some ring => ({ r1 with ring := ring ++ [x] }, some x)
      | none => if e.sev == 7 then (countDrop now e.sev r1, some x) else (countDrop now e.sev r, none)

/-- The journal priority with which a record is mirrored, none where it is not (17 R623). -/
def mirrorPrio (r : RecorderSt) (x : EvRec) : Option Nat :=
  if x.sev == 7 then some 2 else if x.code == 0x1101 then some 6 else if r.mirrorMin ≤ x.sev then some 6 else none

/-- A record is sent on S_1 under RECORDER_SUBSCRIBE (17 R624). -/
def wanted (r : RecorderSt) (x : EvRec) : Bool := match r.subscribe with | none => false | some m => decide (m ≤ x.sev)

/-- A copy of a record to the journal and to S_1, as its severity and the subscription ask (17 R623, R624). -/
def copyRec (now : Nat) (x : EvRec) (s : State) : State × List Ev :=
  let (j, e1) := match mirrorPrio s.recorder x with
    | none => (s.journal, [])
    | some p => let r := jWrite (lifeCycle s) s.power.pfwAt.isSome { type := 0x30, key := x.seq, payload := evBytes x, prio := p } s.journal
                (r.1, r.2.2)
  let (q, e2) := if wanted s.recorder x then pushS1 now 0x1A (evBytes x) s.harbour.s1 else (s.harbour.s1, [])
  ({ s with journal := j, harbour := { s.harbour with s1 := q } }, e1 ++ e2)

/-- One occurrence of an event at a Device Time: it raises REPEAT, creates a record or is dropped; with the events this causes. -/
def raiseOnce (now : Nat) (e : Ev) (s : State) : State × List Ev :=
  if !s.recorder.loaded then
    ({ s with recorder := { s.recorder with early := s.recorder.early ++ [(s.time.cyc,
        { code := e.code, sev := e.sev, src := e.src, first := 0, p0 := e.p0, p1 := e.p1, p2 := e.p2, seq := 0 })] } }, [])
  else match repeats s.harbour.evtAck e s.recorder with
    | some x =>
      let again := match x.againAt with | none => true | some a => decide (a + sec1 ≤ now)
      let y := { x with rep := x.rep + 1, againAt := if again then some now else x.againAt, due := !again }
      let s1 := { s with recorder := { s.recorder with ring := s.recorder.ring.map (fun z => if z.seq == x.seq && z.code == x.code then y else z) } }
      if again then copyRec now y s1 else (s1, [])
    | none =>
      let (r, x) := createRec now e s.recorder
      match x with
      | none => ({ s with recorder := r }, [])
      | some x => copyRec now x { s with recorder := r }

/-- Events raised in order, each followed by the events it causes, at most `fuel` in all. -/
def raiseList : Nat → Nat → List Ev → State → State
  | 0, _, _, s => s
  | _ + 1, _, [], s => s
  | n + 1, now, e :: r, s => let (s1, more) := raiseOnce now e s; raiseList n now (more ++ r) s1

/-- Events raised at the present Device Time. -/
def raises (es : List Ev) (s : State) : State := raiseList (es.length + 8) (dtNow s) es s

/-- One event raised at the present Device Time (17 R620). -/
def raise (e : Ev) (s : State) : State := raises [e] s

/-- One event raised where a condition holds. -/
def raiseIf (b : Bool) (e : Ev) (s : State) : State := if b then raise e s else s

/-- An undertow activity, by row of R617 from 0, that was due at a cycle and is not done yet (17 R617): POWER_UNDERTOW_LATE with the overrun in s and the
domain's bit, once for each run. -/
def undertowLate (k dom due : Nat) (s : State) : State :=
  let late := decide (due < s.time.cyc)
  let told := s.power.passLate.getD k false
  if late == told then s
  else raiseIf late { code := 0x100A, sev := 3, src := 1, p0 := k, p1 := (s.time.cyc - due) / cycMs 1000, p2 := 2 ^ dom }
    { s with power := { s.power with passLate := lmod s.power.passLate k (fun _ => late) } }

/-- Copies of records whose REPEAT rose within the last second and whose second is over (17 R623, R624). -/
def copyDue (s : State) : State :=
  let now := dtNow s
  let ready := fun (x : EvRec) => x.due && (match x.againAt with | none => true | some a => decide (a + sec1 ≤ now))
  let due := s.recorder.ring.filter ready
  let s1 := { s with recorder := { s.recorder with ring := s.recorder.ring.map (fun x => if ready x then { x with due := false, againAt := some now } else x) } }
  due.foldl (fun st x => let (st1, es) := copyRec now x st; raises es st1) s1

/-- A packet handed to S_1 by a producer that never waits (14 R530). -/
def sendS1 (ty : Nat) (payload : List Byte) (s : State) : State :=
  let (q, es) := pushS1 (dtNow s) ty payload s.harbour.s1
  raises es { s with harbour := { s.harbour with s1 := q } }

/-- A packet of this payload has room in S_1 (for the producers that wait, 14 R530). -/
def s1Room (payload : List Byte) (s : State) : Bool := (s1Place s.harbour.s1 (pktSize payload)).isSome

/-- A journal write by a meaning: whether it was made, and the state with its events raised. -/
def journalPut (w : JWrite) (s : State) : Bool × State :=
  let (j, ok, es) := jWrite (lifeCycle s) s.power.pfwAt.isSome w s.journal
  (ok, raises es { s with journal := j })

/-- A journal write whose refusal nothing waits for. -/
def journalLog (w : JWrite) (s : State) : State := (journalPut w s).2

/-! ## Mailboxes (14 R514 to R522) -/

/-- A mailbox. -/
def mbxOf (s : State) (m : Nat) : Mbx := s.harbour.mbxs.getD m {}

/-- A mailbox changed. -/
def setMbx (m : Nat) (f : Mbx → Mbx) (s : State) : State :=
  { s with harbour := { s.harbour with mbxs := lmod s.harbour.mbxs m f } }

/-- A mailbox's world is S (15 R536). -/
def worldS (s : State) (m : Nat) : Bool := match s.otp.worldMap with | none => m == 0 | some w => bit w m

/-- Bytes written into a mailbox area: device memory in quad-SPI mode, a bus-master write in PCIe mode (14 R515). -/
def areaWrite (m off : Nat) (data : List Byte) (s : State) : State :=
  if s.harbour.quadSpi then { s with mem := memPuts s.mem (0x01000000 + 0x2000 * m + off) data }
  else emit .hostMem m 0 (le 8 ((mbxOf s m).base + off) ++ data) s

/-- A completion written (14 R517): the result into the parameter area, then the 16 bytes. -/
def writeCompletion (m seq : Nat) (k : Completion) (s : State) : State :=
  let n := k.result.length
  let small := if n ≤ 4 then (k.result ++ List.replicate (4 - n) 0) else [0, 0, 0, 0]
  let s1 := if n ≤ 4 then s else areaWrite m (64 * k.slot + 8) k.result s
  areaWrite m (64 * (mbxOf s m).slots + 16 * k.slot)
    (le 2 k.opcode ++ le 2 k.status ++ le 2 k.tag ++ [1] ++ le 1 k.slot ++ le 2 n ++ le 2 seq ++ small) s1

/-- The finished commands at the front of a mailbox's queue, and the rest (14 R520). -/
def finished : List Held → List Held × List Held
  | [] => ([], [])
  | h :: r => if h.done.isSome then let (a, b) := finished r; (h :: a, b) else ([], h :: r)

/-- One command released: its credit returns, RELEASED rises, its completion is written unless it is discarded (14 R518, R520). -/
def releaseOne (m : Nat) (h : Held) (s : State) : State :=
  let mb := mbxOf s m
  let silent := h.discard
  let rel := if silent then mb.released else (mb.released + 1) % 65536
  let s0 := setMbx m (fun b => { b with released := rel }) s
  let s1 := { s0 with harbour := { s0.harbour with credit := if h.credit then min 64 (s.harbour.credit + 1) else s.harbour.credit } }
  match h.done with
  | none => s1
  | some k => if silent then s1 else writeCompletion m rel k s1

/-- Every finished command at the front of a mailbox released, in submission order (14 R520). -/
def releaseAll (m : Nat) (s : State) : State :=
  let (go, rest) := finished (mbxOf s m).held
  let s1 := setMbx m (fun b => { b with held := rest }) s
  go.foldl (fun st h => releaseOne m h st) s1

/-- The command of a slot that has not finished. -/
def heldIx (s : State) (m slot : Nat) : Option Nat := (mbxOf s m).held.findIdx? (fun h => h.slot == slot && h.done.isNone)

/-- A command finishes (14 R517, R520): its completion waits for the commands before it. A command that no doorbell brought
completes as if it held a slot of its own (log entry 5). -/
def complete (m slot opcode tag status : Nat) (result : List Byte) (s : State) : State :=
  let k : Completion := { opcode := opcode, status := status, tag := tag, slot := slot, result := result }
  match heldIx s m slot with
  | some ix =>
    releaseAll m (setMbx m (fun b => { b with held := lmod b.held ix (fun h => { h with done := some k }) }) s)
  | none => releaseOne m { slot := slot, credit := false, done := some k } s

/-! ## Registers that follow their causes -/

/-- HIGH of a watermark, in bytes (14 R527). -/
def hiWm (w : Word) : Nat := (w.toNat / 65536 % 4096) * 64
/-- LOW of a watermark; a LOW above HIGH acts as HIGH (14 R527). -/
def loWm (w : Word) : Nat := min ((w.toNat % 4096) * 64) (hiWm w)

/-- Bytes of complete packets on S_1 not yet read (14 R528). -/
def s1Avail (x : Stream1) : Nat := (x.packets.map (fun p => pktSize p.2.2.payload)).sum - 4 * x.readWords

/-- A bank of S_0 holds no packet. -/
def s0BankClear (x : Stream0) (b : Nat) : Bool := x.packets.all (fun p => p.1 != b)

/-- FREE of S_0 (14 R528). -/
def s0Free (x : Stream0) : Nat :=
  (if s0BankClear x (1 - x.filling) then 65536 else 65536 - (if x.filling == 0 then x.usedEbb else x.usedFlood)) - 4 * x.words.length

end Sys2Proof.Machine
end

