-- ==== Sys2Proof/Machine/Status.lean ====
section
/-!
DEFINITION. Conditions of the whole device that several chapters ask for.
-/
namespace Sys2Proof.Machine
/-- The stop is in force: IN_FORCE or LATCHED (12 R453). -/
def stopInForce (s : State) : Bool := s.stop.st != StopCond.clear
/-- An axis is MOVING, STOPPING or HOMING (09 R336). -/
def axisMoves (a : Axis) : Bool := a.st == .moving || a.st == .stopping || a.st == .homing
/-- Some axis moves (09 R336). -/
def axesMoving (s : State) : Bool := s.axes.any axisMoves
/-- GFAULT.AXIS_FAULT: an axis is in FAULT (14 R512). -/
def axisFault (s : State) : Bool := s.axes.any (fun a => a.st == AxSt.fault)
/-- GFAULT.FLEET_LOST (14 R512, 11 R424). -/
def fleetLost (s : State) : Bool := s.fleet.st == RadSt.lost
/-- INTEGRITY_OK (04 R160). -/
def integrityOk (s : State) : Bool := s.pose.integrity
/-- REF_IN is not lost and the PLL has been locked for 100 ms (02 R53, 04 R160). -/
def refGood (s : State) : Bool :=
  !s.time.refLost && (match s.time.refFrom with | some c => decide (c + cycMs 100 ≤ s.time.cyc) | none => false)
/-- A follower: a rover in group role MEMBER (01 R23, 13 R474). -/
def isFollower (s : State) : Bool := roleOf s == 0 && s.net.group == 2
/-- A power domain of 17 R604 is powered: by the power state, and in SPRING by DOMAIN_EN in force (17 R604, R605); PD_CELL and PD_RAST are held powered down in
base role (01 R25). -/
def domainUp (s : State) (k : Nat) : Bool :=
  match s.power.st with
  | .spring => (bit s.votes.domains.value k && !(roleOf s == 1 && (k == 5 || k == 6))) || k == 0 || k == 1 || k == 2 || k == 11
  | .neap => k == 0 || k == 1 || k == 2 || k == 11 || (k == 3 && s.gnss.burstAt.isSome)
  | .slack => k == 0
  | .safe => k == 0 || k == 1 || k == 2 || k == 11
  | .off => false
/-- The identifiers of the installed antennas' phase-centre models, those that are not 0 (03 R101). -/
def pcvModels (s : State) : List Nat :=
  (s.gnss.ants.filterMap (fun a => a.block.map (fun b => uAt b 64 4))).filter (· != 0)
/-- A system is enabled under GNSS_CONFIG: 0 GPS, 1 GLONASS, 2 Galileo, 3 BeiDou (03 R129). -/
def systemOn (s : State) (k : Nat) : Bool := bit s.gnss.systems (if k == 1 then 2 else if k == 2 then 1 else k)
/-- A job is ARMED, OPEN or CLOSING (06 R225). -/
def jobBusy (s : State) : Bool := decide (2 ≤ s.raster.job)
/-- The job is OPEN or CLOSING: NO_JOB is clear (06 R220). -/
def jobOpen (s : State) : Bool := decide (3 ≤ s.raster.job)
/-- JOB_ID of the open job, 0 with NO_JOB (06 R220). -/
def jobId (s : State) : Nat := if jobOpen s then (s.raster.jdef.map (·.id)).getD 0 else 0
/-- Origin of the open job: latitude, longitude (LSB 10^-12 degree), height (2^-8 mm) (06 R226). -/
def jobOrigin (s : State) : Option (Int × Int × Int) := if jobOpen s then s.raster.jdef.map (fun d => (d.lat, d.lon, 256 * d.height)) else none
/-- A cell is on in the last committed command (05 R176). -/
def anyCellOn (s : State) : Bool := s.cell.cells.any (fun e => e.2.modeNow != 0)
/-- A CELL_MANUAL runs (05 R201). -/
def manualRuns (s : State) : Bool := !s.cell.manuals.isEmpty
/-- Group role MEMBER (13 R474). -/
def isMember (s : State) : Bool := s.net.group == 2
/-- GFAULT.LOOP: a loop is BROKEN (14 R512, 07 R286). -/
def loopBroken (s : State) : Bool := s.knani.loops.any (fun l => l.st == 3)
/-- GFAULT.CELL_LATE_RUN (14 R512, 05 R211). -/
def cellLateRun (s : State) : Bool := s.cell.lateRun
/-- GFAULT.DRAM: DRAM is out of service (14 R512). -/
def dramOut (s : State) : Bool := s.raster.dramOut
/-- CORRIDOR_CHECK (05 R216). -/
def corridorCheckOn (s : State) : Bool := s.cell.corridorCheck

/-- Loop, position and channel that a CHANNEL names (05 R178). -/
def chLoop (c : Nat) : Nat := c / 512 % 16
/-- Position. -/
def chPos (c : Nat) : Nat := c / 8 % 64
/-- Channel of the node. -/
def chNo (c : Nat) : Nat := c % 8
/-- A loop. -/
def loopOf (s : State) (n : Nat) : Loop := s.knani.loops.getD n {}
/-- A position lies beyond the break of its loop (07 R286). -/
def nodeLost (l : Loop) (pos : Nat) : Bool := match l.breakPos with | some j => l.st == 3 && decide (j ≤ pos + 1) | none => false
/-- The cell of a channel is held OFF: restore, break, failsafe, resumption, test, or a channel condition (07 R270, R287, R288, 08 R307,
R315, R326). -/
def chanHeld (s : State) (c : Nat) : Bool :=
  let l := loopOf s (chLoop c)
  l.restoring || nodeLost l (chPos c) || (l.st == 3 && l.allOff) ||
  (match l.nodes[chPos c]? with
    | none => false
    | some n => n.failsafe || n.resuming || n.testing ||
      (match n.chans[chNo c]? with
        | none => false
        | some x => x.latched || x.wornHold || x.diag == 7 || x.diag == 2))
/-- The graph of the tide is armed: the entries and the holds that its evaluation takes (05 R180, R202). -/
def armCells (s : State) : State :=
  if roleOf s != 0 then s
  else { s with cell := { s.cell with
    armed := true, snap := s.cell.cells
    held := (s.cell.cells.filter (fun e => chanHeld s e.2.channel)).map (·.2.channel) } }
/-- A CORE, SECURE or BSCAN session is open (15 R567); under SECURE in RETURN nothing is left to hold. -/
def debugHold (s : State) : Bool := decide (2 ≤ s.sec.debug) && !(lifeCycle s == 3 && bit s.sec.debug 2)
/-- No job, move, manual operation or spot may start: a new tide period is pending, or a debug session is open (02 R80, 15 R567). -/
def startsHeld (s : State) : Bool := s.time.newPeriod.isSome || debugHold s
/-- RETURN gives no tide service: loops stay in wire reset, axes DISABLED, the radio OFF (15 R555). -/
def noService (s : State) : Bool := lifeCycle s == 3
/-- The engine is idle (02 R64): every cell has been OFF since the last commit and no axis moves; a base with joined rovers
counts as not idle (11 R415). -/
def engineIdle (s : State) : Bool := s.cell.allOff && !anyCellOn s && !manualRuns s && !axesMoving s && !(s.fleet.st == RadSt.beaconing && !s.fleet.rovers.isEmpty)
end Sys2Proof.Machine
end

