-- ==== Sys2Proof/Machine/Flags.lean ====
section
/-!
DEFINITION. Every flag and live register of BAR0 that follows its causes (14 R511 to R514, R527, R528, R531), and the settling
of the ready pins and interrupt messages after a command (14 R527, R532).
-/
namespace Sys2Proof.Machine

/-- The time domain that the output follows. -/
def followed (s : State) : Domain := if s.time.followB then s.time.b else s.time.a

/-- GSTAT (14 R511). -/
def gstat (s : State) : Nat :=
  bitIf (s.harbour.resetReq != 0) 23 +
  bitIf (s.update.st == .preparing || s.update.st == .handover || s.update.st == .trial) 22 +
  bitIf ((followed s).st == .holdover || (followed s).st == .freerun) 21 +
  bitIf (roleOf s == 0 && integrityOk s) 20 + bitIf (jobBusy s) 19 + bitIf (stopInForce s) 18 + bitIf s.harbour.quadSpi 17 +
  bitIf s.harbour.ready 16 + 256 * (lifeCycle s % 8) +
  (match s.power.st with | .off => 0 | .slack => 1 | .neap => 2 | .spring => 3 | .safe => 4)

/-- GFAULT (14 R512). -/
def gfault (s : State) : Nat :=
  bitIf (axisFault s) 9 + bitIf (loopBroken s) 8 + bitIf (dramOut s) 7 +
  bitIf (s.journal.refusing || decide (s.journal.erased.length ≤ 2)) 6 + bitIf s.power.pmbusFault 5 + bitIf s.votes.failed 4 +
  bitIf s.power.tamperSafe 3 + bitIf (fleetLost s) 2 + bitIf s.time.refLost 1 + bitIf (cellLateRun s) 0

/-- INT_PEND (14 R531). -/
def intPend (s : State) : Nat :=
  ((List.range 16).map (fun n => bitIf ((mbxOf s n).released != (mbxOf s n).ack) (16 + n))).sum +
  bitIf (stopInForce s) 4 + bitIf (gfault s != 0) 3 + bitIf s.harbour.s1.rdy 2 + bitIf s.harbour.s0.rdy 1 +
  bitIf (s.recorder.seq != s.harbour.evtAck) 0

/-- INT_CAUSE_k AND NOT INT_MASK (14 R510, R532). -/
def maskedCause (s : State) (k : Nat) : Word :=
  BitVec.ofNat 32 (intPend s) &&& s.harbour.intRoute.getD k 0 &&& ~~~ s.harbour.intMask

/-- IRQ_N is low (14 R532). -/
def irqLow (s : State) : Bool := (BitVec.ofNat 32 (intPend s) &&& ~~~ s.harbour.intMask) != 0

/-- MBX_STATUS_n (14 R514). -/
def mbxStatus (s : State) (n : Nat) : Nat :=
  bitIf (mbxOf s n).faulted 25 + bitIf (worldS s n) 24 +
  65536 * (((mbxOf s n).held.filter (·.credit)).length % 128) + (mbxOf s n).released

/-- S_LEVEL_1 (14 R528). -/
def sLevel1 (s : State) : Nat := 2 ^ 20 * satN 4095 s.harbour.s1.packets.length + s1Avail s.harbour.s1

/-- FC_RDY_0 and FC_RDY_1 brought to their levels at a Device Time (14 R527). -/
def readyPins (now : Nat) (h : HarbourSt) : HarbourSt :=
  let free := s0Free h.s0
  let avail := s1Avail h.s1
  let aged := h.s1.packets.any (fun p => decide (p.2.1 + us1 * h.s1.ageUs ≤ now))
  let r0 := if decide (hiWm h.s0.wm ≤ free) then true else if decide (free < loWm h.s0.wm) then false else h.s0.rdy
  let r1 := if decide (hiWm h.s1.wm ≤ avail) || aged then true else if decide (avail < loWm h.s1.wm) then false else h.s1.rdy
  { h with s0 := { h.s0 with rdy := r0 }, s1 := { h.s1 with rdy := r1 } }

/-- The vector as sent: those beyond the number enabled are sent as vector 0 (14 R532). -/
def msiVector (s : State) (k : Nat) : Nat := if k < s.harbour.msiVectors then k else 0

/-- MSI messages for vectors (14 R532); none in quad-SPI mode (14 R503). -/
def sendMsi (ks : List Nat) (s : State) : State :=
  if s.harbour.quadSpi then s
  else { s with out := (ks.map (fun k => ({ kind := .msi, index := msiVector s k, data := [] } : Out))).reverse ++ s.out }

/-- After a command: the ready pins take their levels, and every bit of INT_CAUSE_k AND NOT INT_MASK that rose sends its
vector (14 R527, R532). -/
def settle (s : State) : State :=
  let s1 := { s with harbour := readyPins (dtNow s) s.harbour }
  let now := (List.range 4).map (maskedCause s1)
  let rose := (List.range 4).filter (fun k => now.getD k 0 &&& ~~~ s.harbour.cause.getD k 0 != 0)
  let s2 := sendMsi rose s1
  { s2 with harbour := { s2.harbour with cause := now } }

/-- The outcome of a meaning: the next state, settled. -/
def done (s : State) : Host.Outcome State Fault Refusal := .next (settle s)

end Sys2Proof.Machine
end

