-- ==== Sys2Proof/Machine/Operands.lean ====
section
/-!
DEFINITION. The operand form of every opcode command: the checks of 14 R653 in their order, the fields of its parameters, and
the completion of its outcome.
-/
namespace Sys2Proof.Machine

/-! ## Status codes (00 R19) -/
/-- OK -/
def stOk : Nat := 0x0000
/-- ACCEPTED -/
def stAccepted : Nat := 0x0001
/-- BAD_OPCODE -/
def stBadOpcode : Nat := 0x0101
/-- BAD_LENGTH -/
def stBadLength : Nat := 0x0102
/-- BAD_PARAM -/
def stBadParam : Nat := 0x0103
/-- BAD_STATE -/
def stBadState : Nat := 0x0104
/-- NO_RESOURCE -/
def stNoResource : Nat := 0x0105
/-- TABLE_FULL -/
def stTableFull : Nat := 0x0106
/-- NOT_PERMITTED -/
def stNotPermitted : Nat := 0x0107
/-- KEY_REVOKED -/
def stKeyRevoked : Nat := 0x0108
/-- TIMEOUT -/
def stTimeout : Nat := 0x0109
/-- ABORTED -/
def stAborted : Nat := 0x010A
/-- STALE -/
def stStale : Nat := 0x010B
/-- VERIFY_FAIL -/
def stVerifyFail : Nat := 0x010C
/-- VERSION_REJECTED -/
def stVersionRejected : Nat := 0x010D
/-- MIGRATION_FAIL -/
def stMigrationFail : Nat := 0x010E
/-- TAMPER_LOCKED -/
def stTamperLocked : Nat := 0x010F
/-- NO_CREDIT -/
def stNoCredit : Nat := 0x0110
/-- JOIN_FULL -/
def stJoinFull : Nat := 0x0111

/-- What a command answers: a completion now, or a completion that comes later. -/
inductive Reply where
  /-- it completes with a status and a result -/
  | now (status : Nat) (result : List Byte)
  /-- it is still running: a later step completes it -/
  | later
  deriving DecidableEq, Repr

/-- Completion OK without a result. -/
def ok (s : State) : Reply × State := (.now stOk [], s)
/-- Completion OK with a result. -/
def okWith (r : List Byte) (s : State) : Reply × State := (.now stOk r, s)
/-- Completion ACCEPTED. -/
def accepted (s : State) : Reply × State := (.now stAccepted [], s)
/-- Completion with another status and no effect. -/
def refuse (status : Nat) (s : State) : Reply × State := (.now status [], s)

/-- EXTRA (14 R516). -/
def extraOf (c : Cmd) : Nat := c.flags.toNat % 4
/-- FENCE (14 R516). -/
def fenceOf (c : Cmd) : Bool := bit c.flags.toNat 2
/-- Bytes of the parameter area (14 R516). -/
def areaOf (c : Cmd) : Nat := 56 + 64 * extraOf c
/-- The parameter bytes that count: those below LENGTH (14 R516). -/
def prmOf (c : Cmd) : List Byte := c.params.take c.len.toNat

/-- Opcodes that need world S (15 R538, 16 R601). -/
def needsWorldS (op : Nat) : Bool :=
  [0x0E03, 0x0E04, 0x0E05, 0x0E06, 0x0E07, 0x0E10, 0x0E12, 0x0E17, 0x0F03, 0x0F04, 0x0F05].contains op

/-- Opcodes that need world N (15 R538). -/
def needsWorldN (op : Nat) : Bool := op == 0x0E13

/-- Commands served in SAFE after a tamper alarm (15 R560); SEC_LIFECYCLE only to SCRAP, as its own meaning checks. -/
def servedTamper (op : Nat) : Bool :=
  [0x0101, 0x0E01, 0x0E14, 0x0E11, 0x0E12, 0x0E13, 0x0E10, 0x1101, 0x1104].contains op

/-- Commands served in SAFE after a fatal fault (17 R610). -/
def servedFatal (op : Nat) : Bool :=
  [0x0101, 0x1001, 0x1101, 0x1102, 0x1103, 0x1104, 0x0E01, 0x0E14].contains op

/-- The whole reserved bytes that lie inside an opcode's parameter layout, as runs of first byte and length (00 R17); SEC_LIFECYCLE, whose layout
ends at byte 0 for some targets, checks its own. -/
def reservedRuns (op : Nat) : List (Nat × Nat) :=
  match op with
  | 0x0202 => [(2, 2), (34, 2)]
  | 0x0204 => [(1, 3)]
  | 0x0206 => [(3, 1)]
  | 0x0207 => [(2, 2)]
  | 0x020A => [(5, 3)]
  | 0x0301 => [(1, 1)]
  | 0x0303 => [(1, 3), (9, 3)]
  | 0x0309 => [(3, 1)]
  | 0x030A => [(1, 3)]
  | 0x030D => [(1, 3)]
  | 0x0404 => [(6, 2), (30, 2)]
  | 0x0406 => [(1, 3)]
  | 0x040B => [(5, 1)]
  | 0x0501 => [(29, 1), (44, 4)]
  | 0x0502 => [(2, 2), (33, 1), (48, 4)]
  | 0x0505 => [(5, 1), (10, 2)]
  | 0x0508 => [(3, 1), (6, 2)]
  | 0x0601 => [(7, 1), (42, 2), (50, 2)]
  | 0x0606 => [(1, 3)]
  | 0x0608 => [(2, 2)]
  | 0x060B => [(1, 3)]
  | 0x0706 => [(3, 1)]
  | 0x0707 => [(3, 1), (7, 1)]
  | 0x0709 => [(2, 2), (23, 1)]
  | 0x070D => [(1, 3)]
  | 0x0801 => [(2, 2), (39, 1)]
  | 0x0802 => [(1, 3), (21, 1)]
  | 0x0804 => [(2, 2)]
  | 0x0806 => [(1, 7)]
  | 0x0807 => [(2, 2)]
  | 0x0809 => [(2, 2)]
  | 0x0901 => [(21, 3)]
  | 0x0902 => [(17, 3)]
  | 0x0906 => [(5, 3)]
  | 0x0909 => [(1, 3)]
  | 0x0A01 => [(1, 1), (29, 3)]
  | 0x0A02 => [(2, 2)]
  | 0x0A0D => [(1, 3), (9, 3)]
  | 0x0A0E => [(18, 2)]
  | 0x0B06 => [(1, 3), (27, 1)]
  | 0x0D01 => [(3, 1)]
  | 0x0D03 => [(3, 1), (10, 2)]
  | 0x0D04 => [(1, 3)]
  | 0x0D05 => [(3, 1)]
  | 0x0D06 => [(2, 2)]
  | 0x0D07 => [(9, 3)]
  | 0x0D08 => [(2, 2)]
  | 0x0D09 => [(3, 1)]
  | 0x0D0B => [(3, 1)]
  | 0x0E03 => [(1, 3)]
  | 0x0E04 => [(3, 1)]
  | 0x0E05 => [(2, 2), (21, 3)]
  | 0x0E09 => [(7, 1)]
  | 0x0E0A => [(6, 2)]
  | 0x0E0B => [(1, 2), (6, 2)]
  | 0x0E0C => [(1, 7)]
  | 0x0E0D => [(1, 7)]
  | 0x0E0E => [(2, 2)]
  | 0x0E18 => [(1, 3)]
  | 0x0F03 => [(1, 3)]
  | 0x1003 => [(2, 2)]
  | _ => []

/-- A reserved parameter byte below LENGTH is not zero (00 R17). -/
def reservedSet (op : Nat) (p : List Byte) : Bool := (reservedRuns op).any (fun r => !zeros p r.1 r.2)

/-- Checks 2 to 6 of 14 R653: LENGTH and EXTRA, reserved bits, world, SAFE, role; then the first of check 7, the reserved parameter bytes (00 R17). -/
def checkCmd (op minLen maxRes : Nat) (role : Option Nat) (c : Cmd) (s : State) : Option Nat :=
  let held := (heldIx s c.mbx c.slot).bind (fun ix => (mbxOf s c.mbx).held[ix]?)
  let overlap := match held with | some h => h.badLen | none => decide ((mbxOf s c.mbx).slots < c.slot + 1 + extraOf c)
  if decide (areaOf c < c.len.toNat) || decide (c.len.toNat < minLen) || overlap || decide (areaOf c < maxRes) then some stBadLength
  else if decide (8 ≤ c.flags.toNat) || c.byte7 != 0 then some stBadParam
  else if (needsWorldS op && !worldS s c.mbx) || (needsWorldN op && worldS s c.mbx) then some stNotPermitted
  else if s.power.tamperSafe && !servedTamper op then some stTamperLocked
  else if s.power.fatal.isSome && !servedFatal op then some stBadState
  else if (match role with | some r => roleOf s != r | none => false) then some stBadState
  else if reservedSet op (prmOf c) then some stBadParam
  else none

/-- A FENCE command is not yet at the front of its mailbox: it has not started (14 R520). -/
def fenceWaits (c : Cmd) (s : State) : Bool :=
  fenceOf c && (match heldIx s c.mbx c.slot with | some ix => ix != 0 | none => false)

/-- A command of an opcode whose body sees the whole command: nothing while READY is clear or a FENCE holds it back; else the
checks of R653, its own body, and its completion (14 R517, R520, R653). -/
def commandC (op minLen maxRes : Nat) (role : Option Nat) (body : Cmd → List Byte → State → Reply × State) (c : Cmd) (s : State) : State :=
  if !s.harbour.ready || fenceWaits c s then s
  else match checkCmd op minLen maxRes role c s with
    | some st => complete c.mbx c.slot op c.tag.toNat st [] s
    | none => match body c (prmOf c) s with
      | (.now st r, s1) => complete c.mbx c.slot op c.tag.toNat st r s1
      | (.later, s1) => s1

/-- A command of an opcode whose body sees its parameters alone. -/
def command (op minLen maxRes : Nat) (role : Option Nat) (body : List Byte → State → Reply × State) (c : Cmd) (s : State) : State :=
  commandC op minLen maxRes role (fun _ p s => body p s) c s

end Sys2Proof.Machine
end

