-- ==== Sys2Proof/Machine/Clock.lean ====
section
/-!
DEFINITION. The timebase island: how the three counters advance, the domain servos and states, the followed domain, time
quality, and the steps of Device Time (02 R45 to R71).
-/
namespace Sys2Proof.Machine

/-! ## The counters -/

/-- SLEW_MAX as the greatest slew of one cycle, LSB 2^-39 ns (02 R63). -/
def slewPerCycle (t : TimeSt) : Nat := 2 ^ 40 * t.slewMaxPpm / 1000000

/-- The increment of a domain per cycle: 2 ns x (1 + y), LSB 2^-39 ns (02 R52). -/
def incOf (d : Domain) : Nat := ((2 ^ 40 : Nat) + d.y).toNat

/-- The accumulator that the output follows. -/
def followedAcc (t : TimeSt) : Nat := if t.followB then t.b.acc else t.a.acc

/-- The difference output less followed domain, LSB 2^-39 ns (02 R63). -/
def deltaAcc (t : TimeSt) : Int := (t.out : Int) - followedAcc t

/-- The difference after `n` cycles of slewing towards zero (02 R63). -/
def slewed (m n : Nat) (d : Int) : Int :=
  if 0 ≤ d then max 0 (d - (n * m : Nat)) else min 0 (d + (n * m : Nat))

/-- The history of increments that reaches 2 s back: the segment in force 2 s ago is the oldest kept (02 R89). -/
def keepHist (now : Nat) : List Seg → List Seg
  | [] => []
  | g :: r => if decide (g.cyc + cycMs 2001 ≤ now) then [g] else g :: keepHist now r

/-- The counters after `n` cycles in which no increment changes (02 R52, R63). -/
def advanceSeg (n : Nat) (t : TimeSt) : TimeSt :=
  let a := { t.a with acc := t.a.acc + n * incOf t.a }
  let b := { t.b with acc := t.b.acc + n * incOf t.b }
  let d := slewed (slewPerCycle t) n (deltaAcc t)
  let f := if t.followB then b.acc else a.acc
  let out := ((f : Int) + d).toNat
  let seg : Seg := { cyc := t.cyc, out := t.out, a := t.a.acc, b := t.b.acc, incOut := (out - t.out) / max n 1,
                     incA := incOf t.a, incB := incOf t.b }
  { t with cyc := t.cyc + n, a := a, b := b, out := out
           hist := if n == 0 then t.hist else keepHist (t.cyc + n) (seg :: t.hist) }

/-- The counters after `n` cycles of 2 ns (02 R52, R63): where the slew ends on the way, the cycles of the full slew, the cycle of its rest and
the cycles without it are segments of their own, so that the history of R89 is exact. -/
def advanceTime (n : Nat) (t : TimeSt) : TimeSt :=
  let k := (deltaAcc t).natAbs / max (slewPerCycle t) 1
  if deltaAcc t == 0 || decide (n ≤ k) then advanceSeg n t else advanceSeg (n - k - 1) (advanceSeg 1 (advanceSeg k t))

/-- The device after `n` cycles of 2 ns: only the counters of the island move (02 R52). -/
def advance (n : Nat) (s : State) : State := { s with time := advanceTime n s.time }

/-- Cycles until the output reaches a Device Time (2^-16 ns), slewing as R63 states. -/
def cyclesTo (t : TimeSt) (target : Nat) : Nat :=
  let tgt := 2 ^ 23 * target
  if tgt ≤ t.out then 0
  else
    let inc := incOf (if t.followB then t.b else t.a)
    let m := slewPerCycle t
    let d := deltaAcc t
    let rate := if d == 0 then inc else if 0 < d then inc - m else inc + m
    let n1 := (tgt - t.out + rate - 1) / max rate 1
    let k := if m == 0 then n1 else d.natAbs / m
    if d == 0 || n1 ≤ k then n1
    else max k ((tgt - followedAcc t + inc - 1) / max inc 1)

/-- Time runs to an instant of Device Time where that lies ahead (log entry 6). -/
def runTo (target : Nat) (s : State) : State := advance (cyclesTo s.time target) s

/-- Time runs to an island cycle where that lies ahead (log entry 6). -/
def runToCyc (c : Nat) (s : State) : State := advance (c - s.time.cyc) s

/-! ## Domains -/

/-- Domain 0 A or 1 B. -/
def domOf (t : TimeSt) (k : Nat) : Domain := if k == 0 then t.a else t.b
/-- A domain replaced. -/
def setDom (k : Nat) (d : Domain) (s : State) : State :=
  { s with time := if k == 0 then { s.time with a := d } else { s.time with b := d } }
/-- A domain's time, 2^-16 ns. -/
def domNow (d : Domain) : Nat := d.acc / 2 ^ 23

/-- Integer square root (below 2^64). -/
def isqrt (n : Nat) : Nat :=
  ((List.range 48).reverse).foldl (fun r k => if (r + 2 ^ k) * (r + 2 ^ k) ≤ n then r + 2 ^ k else r) 0

/-- Cycles that a domain has been LOCKED since start-up (02 R68). -/
def lockedTotal (t : TimeSt) (d : Domain) : Nat :=
  d.lockedCyc + (match d.lockedFrom with | some c => t.cyc - c | none => 0)

/-- The learned drift, LSB 2^-40: the mean of the integral term over the last LEARN_WINDOW of LOCKED operation; none below 60 s
of LOCKED operation (02 R68). -/
def learned (t : TimeSt) (d : Domain) : Option Int :=
  if lockedTotal t d < cycMs 60000 || d.learn.isEmpty then none
  else some ((d.learn.map (·.2)).sum / (d.learn.length : Int))

/-- U, LSB 2^-40: three standard deviations of the integral term over the window, at least 10^-9 (02 R68). -/
def driftU (d : Domain) : Nat :=
  let n := d.learn.length
  if n == 0 then 1100
  else
    let mean := (d.learn.map (·.2)).sum / (n : Int)
    let var := ((d.learn.map (fun e => (e.2 - mean) * (e.2 - mean))).sum / (n : Int)).toNat
    max 1100 (3 * isqrt var)

/-- Nanoseconds, rounded up, of an amount in 2^-16 ns. -/
def nsUp (v : Nat) : Nat := (v + 65535) / 65536

/-- TQ in ns, none unknown (02 R67, R69). -/
def tqOf (s : State) : Option Nat :=
  let t := s.time
  let d := followed s
  let delta := ((deltaAcc t).natAbs + 2 ^ 39 - 1) / 2 ^ 39
  match t.tqSet, d.measured with
  | some (q, c), false => q.map (fun q => q + (t.cyc - c) / 50000 + delta)
  | _, _ =>
    match d.st with
    | .locked | .acquire => d.uncert.map (fun x => x + nsUp d.theta + delta)
    | .holdover => d.tq0.map (fun q =>
        let c := t.cyc - d.tqFrom
        -- U x t: LSB 2^-40 x 2 ns per cycle; AGEING_BOUND x t^2 / 2: LSB 2^-64 per s, t in cycles of 2 ns
        q + driftU d * c * 2 / 2 ^ 40 + t.ageing * c * c * 2 / (2 ^ 64 * 1000000000))
    | .freerun => if d.aligned then d.tq0.map (fun q => q + (t.cyc - d.tqFrom) / 50000) else none

/-- TQ as the 32-bit figure (02 R67). -/
def tq32 (s : State) : Nat := match tqOf s with | none => 0xFFFFFFFF | some q => min q 0xFFFFFFFE

/-- TIME_TQ_LIMIT's condition holds (02 R70). -/
def tqBad (s : State) : Bool := match tqOf s with | none => true | some q => decide (s.time.tqLimit < q)

/-- DState as TIME_GET codes it (02 R91). -/
def dsCode : DState → Nat
  | .freerun => 0
  | .acquire => 1
  | .locked => 2
  | .holdover => 3

/-- The test of TIME_TQ_LIMIT (02 R70): the event is raised at each entry into the condition. -/
def tqTest (s : State) : State :=
  let bad := tqBad s
  raiseIf (bad && !s.time.tqActive) { code := 0x020E, sev := 3, p0 := tq32 s, p1 := s.time.tqLimit, p2 := dsCode (followed s).st }
    { s with time := { s.time with tqActive := bad } }

/-- A difference in whole ns, rounded towards zero. -/
def nsOf (acc : Int) : Int := acc.tdiv (2 ^ 39 : Nat)

/-- A required step that the engine is not idle for is pending (02 R64). -/
def stepNeeded (t : TimeSt) : Bool := decide ((2 ^ 39 * 1000 * t.stepThreshUs : Nat) < (deltaAcc t).natAbs)

/-- STEP_PENDING follows the need for a step while the engine is not idle (02 R64). -/
def deferStep (s : State) : State :=
  let need := stepNeeded s.time && !engineIdle s
  let d := nsOf (deltaAcc s.time)
  raiseIf (need && !s.time.stepPending) { code := 0x0206, sev := 1, p0 := w32 d, p1 := w32 (d / (2 ^ 32 : Nat)) }
    { s with time := { s.time with stepPending := need } }

/-! ## What a PPS output does as its time changes (02 R65, R72 to R75) -/

/-- A PPS output takes a level: its pin, pin number 0 or 1 (02 R72). -/
def ppsDrive (pin : Nat) (active : Bool) (rel : Nat) (s : State) : State :=
  match s.time.ppsOut[pin]? with
  | none => s
  | some p => emit .pin pin rel [BitVec.ofNat 8 (b1 (active != p.activeLow))] s

/-- The state of the time that a PPS output follows: Device Time has that of the followed domain (02 R72, R73). -/
def ppsState (p : PpsOut) (s : State) : DState :=
  if p.time == 1 then s.time.a.st else if p.time == 2 then s.time.b.st else (followed s).st

/-- A pin that is quiet in FREERUN goes to its inactive level as its time enters FREERUN: a pulse in progress ends (02 R74). -/
def ppsQuietOne (pin : Nat) (s : State) : State :=
  match s.time.ppsOut[pin]? with
  | none => s
  | some p =>
    if p.quiet && ppsState p s == .freerun && p.active then
      ppsDrive pin false 0 { s with time := { s.time with ppsOut := lmod s.time.ppsOut pin (fun q => { q with active := false, offAt := none, armed := none }) } }
    else s

/-- Both PPS outputs under R74. -/
def ppsQuiet (s : State) : State := ppsQuietOne 1 (ppsQuietOne 0 s)

/-- The active edge of an armed pulse as an instant of the followed time (02 R72). -/
def ppsAt (p : PpsOut) (sec : Nat) : Nat := (((sec1 * sec : Nat) : Int) + 1024 * p.offset).toNat

/-- A full target lies between the old and the new time: it is passed by a forward step (02 R65). -/
def passed (old new target : Nat) : Bool := decide (old < target) && decide (target < new)

/-- A PPS output after a step of the time that it follows (0 Device Time, 1 domain A, 2 domain B): a pulse armed for a second that a forward step
passes is cancelled, one armed before a backward step is armed again when its second comes; the pulse in progress keeps its width in elapsed time
(02 R65, R72, R75). -/
def ppsStep (which old new : Nat) (p : PpsOut) : PpsOut :=
  if p.time != which then p
  else
    let p1 := { p with offAt := p.offAt.map (fun t => ((t : Int) + ((new : Int) - old)).toNat) }
    match p.armed with
    | some (sec, _) => if decide (new < old) || passed old new (ppsAt p sec) then { p1 with armed := none } else p1
    | none => p1

/-- The outputs whose armed pulse a step of the time they follow passes (02 R65). -/
def ppsHit (which old new : Nat) (t : TimeSt) : List Nat :=
  (List.range 2).filter (fun k => match t.ppsOut[k]? with
    | some p => p.time == which && (match p.armed with | some (sec, _) => passed old new (ppsAt p sec) | none => false)
    | none => false)

/-- TIME_ACTION_SKIPPED for PPS outputs (02 R94). -/
def ppsSkipped (ks : List Nat) : List Ev := ks.map (fun k => { code := 0x020D, sev := 3, p0 := 2, p1 := k })

/-- A domain's time was stepped: the PPS outputs that follow it (02 R65, R75; log entry 57). -/
def ppsDomainStep (k old new : Nat) (s : State) : State :=
  raises (ppsSkipped (ppsHit (k + 1) old new s.time)) { s with time := { s.time with ppsOut := s.time.ppsOut.map (ppsStep (k + 1) old new) } }

/-- The output follows the other domain (02 R62); the difference may then ask for a step (R64), and the new time may be in FREERUN (R74). -/
def follow (b : Bool) (s : State) : State :=
  if s.time.followB == b then s
  else
    let s1 := { s with time := { s.time with followB := b } }
    ppsQuiet (deferStep (raise { code := 0x0204, sev := 2, p0 := b1 s.time.followB, p1 := b1 b, p2 := w32 (nsOf (deltaAcc s1.time)) } s1))

/-- AUTO selection after a change of state of a domain: domain B while A is not LOCKED and B is (02 R62). -/
def reselect (s : State) : State :=
  if s.time.auto && !s.time.followB && s.time.a.st != DState.locked && s.time.b.st == DState.locked then follow true s else s

/-- A domain leaves LOCKED: its LOCKED time is added up (02 R68). -/
def unlockDom (t : TimeSt) (d : Domain) : Domain := { d with lockedCyc := lockedTotal t d, lockedFrom := none, inLimit := 0, rejects := 0 }

/-- A domain enters FREERUN, with its cause (02 R60, R94): TQ_0 is the figure at entry, unknown where REF_IN is lost (02 R53). -/
def enterFreerun (k cause : Nat) (s : State) : State :=
  let d := domOf s.time k
  if d.st == .freerun then
    if cause == 1 then setDom k { d with tq0 := none } s else s
  else
    let q := if cause == 1 then none else tqOf s
    let s1 := setDom k { unlockDom s.time d with st := .freerun, tq0 := q, tqFrom := s.time.cyc } s
    ppsQuiet (reselect (raise { code := 0x0203, sev := 4, p0 := k, p1 := cause } s1))

/-- A domain enters HOLDOVER on its learned drift (02 R60, R69). -/
def enterHoldover (k : Nat) (drift : Int) (s : State) : State :=
  let d := domOf s.time k
  let q := tqOf s
  let s1 := setDom k { unlockDom s.time d with st := .holdover, y := drift, tq0 := q, tqFrom := s.time.cyc } s
  reselect (raise { code := 0x0202, sev := 3, p0 := k, p1 := 1000000000000 * driftU d / 2 ^ 40,
                    p2 := (match q with | some q => min q 0xFFFFFFFF | none => 0xFFFFFFFF) } s1)

/-- A source stops giving measurements: HOLDOVER where a learned drift exists, else FREERUN (02 R60). -/
def loseSource (k cause : Nat) (s : State) : State :=
  match learned s.time (domOf s.time k) with
  | some y => enterHoldover k y s
  | none => enterFreerun k cause s

/-- The clamp of y: 200 ppm, LSB 2^-40 (02 R56). -/
def yClamp : Int := 219902325

/-- The servo of R56 on one accepted measurement: theta in 2^-16 ns, t the domain's time, 2^-16 ns. -/
def servo (theta : Int) (t : Nat) (d : Domain) : Domain :=
  let tau := match d.lastT with | some x => (t : Int) - x | none => 0
  let i' := d.integ + theta * tau
  let y' := -((65536000000000 * (d.kp : Int) * theta + d.ki * i') / (65536 * 1000000000000000000))
  let clamped := decide (yClamp < y') || decide (y' < -yClamp)
  { d with integ := if clamped then d.integ else i', y := max (-yClamp) (min yClamp y'), lastT := some t }

/-- The integral term, -KI x I, LSB 2^-40 (02 R56). -/
def integralTerm (d : Domain) : Int := -((d.ki * d.integ) / (65536 * 1000000000000000000))

/-- Sources whose alignment clears TIME_UNSET (02 R61). -/
def setsTime (src : Nat) : Bool := [1, 4, 5, 6, 7].contains src

/-- A source serves this device (02 R55, R93): GNSS not a rover in group role MEMBER, VEXLINK nobody else. -/
def sourceServes (src : Nat) (s : State) : Bool :=
  if src == 1 then !(roleOf s == 0 && isMember s) else if src == 6 then isMember s else true

/-- One measurement of a domain's source (02 R56 to R60, R67): theta in 2^-16 ns after the source delay has been removed, the
domain's time of it, and the source's uncertainty in ns. The third rejection in a row counts as the start of the wait for SOURCE_TIMEOUT in ACQUIRE,
and the phase is aligned by the next measurement, not by the rejected one (log entry 57). -/
def measure (k : Nat) (theta : Int) (t : Nat) (uncert : Option Nat) (s : State) : State :=
  let d := domOf s.time k
  if s.time.refLost then s
  else if d.st == .locked && decide ((65536 * d.gateNs : Nat) < theta.natAbs) then
    let n := d.rejects + 1
    let s1 := raise { code := 0x020B, sev := 1, p0 := k, p1 := w32 (theta.tdiv 65536), p2 := n } s
    if n < 3 then setDom k { d with rejects := n } s1
    else reselect (setDom k { unlockDom s.time d with st := .acquire, mayAlign := true, lastCyc := s.time.cyc } s1)
  else
    let entering := d.st == .freerun || d.st == .holdover || d.mayAlign
    let d1 := { d with rejects := 0, lastCyc := s.time.cyc, uncert := uncert, mayAlign := false, measured := true
                       aligned := d.aligned || entering
                       st := if d.st == DState.locked then DState.locked else DState.acquire }
    let s0 := if entering && setsTime d.source then { s with time := { s.time with timeUnset := false } } else s
    if entering && decide ((65536 * d.alignNs : Nat) < theta.natAbs) then
      let acc := (d.acc - theta * (2 ^ 23 : Nat)).toNat
      tqTest (ppsDomainStep k (domNow d) (acc / 2 ^ 23) (deferStep (reselect (setDom k { d1 with
        acc := acc, theta := 0, inLimit := 0, lastT := some ((t : Int) - theta).toNat } s0))))
    else
      let d2 := servo theta t { d1 with theta := theta.natAbs }
      let n := if theta.natAbs < 65536 * d.lockNs then d.inLimit + 1 else 0
      let d3 := { d2 with inLimit := n }
      if d3.st == .acquire && decide (10 ≤ n) then
        let d4 := { d3 with st := .locked, lockedFrom := some s.time.cyc }
        tqTest (reselect (raise { code := 0x0201, sev := 2, p0 := k, p1 := d.source, p2 := theta.natAbs / 65536 } (setDom k d4 s0)))
      else if d3.st == .locked then
        let now := lockedTotal s.time d
        let l := ((now, integralTerm d3) :: d.learn).takeWhile (fun e => decide (now ≤ e.1 + cycMs (1000 * s.time.learnWindowS)))
        tqTest (setDom k { d3 with learn := l } s0)
      else tqTest (setDom k d3 s0)

/-- The domain that takes its measurements from a source (02 R55). -/
def domFrom (s : State) (src : Nat) : Option Nat :=
  if s.time.a.source == src then some 0 else if s.time.b.source == src then some 1 else none

/-! ## Tides (02 R78 to R83) -/

/-- Tide number of the tide open at an instant, none before the epoch or without one (02 R81). -/
def tideAt (s : State) (t : Nat) : Option Nat :=
  match s.time.epoch with
  | none => none
  | some e => if t < sec1 * e then none else some ((t - sec1 * e) / tideP s % 2 ^ 32)

/-- The next tide boundary to be issued: the first after the one last issued that Device Time has not passed by more than a
tide (02 R66, R78); a step of Device Time leaves in `lastBoundary` the boundary before the next one to come. -/
def nextBoundary (s : State) : Nat :=
  let p := tideP s
  let now := dtNow s
  match s.time.lastBoundary with
  | none => padTo p now
  | some b => if b + p ≤ now then now / p * p else (b / p + 1) * p

/-! ## Steps of Device Time (02 R64 to R66) -/

/-- A periodic or single compare after a forward step: its passed instants are cancelled (02 R65). -/
def skipCompare (new : Nat) (c : CmpUnit) : CmpUnit :=
  if c.periodNs == 0 then { c with armed := false }
  else
    let n := (new - c.target + ns1 * c.periodNs - 1) / (ns1 * c.periodNs)
    match c.left with
    | none => { c with target := c.target + ns1 * n * c.periodNs, shortArmed := false }
    | some k => if k ≤ n then { c with armed := false } else { c with target := c.target + ns1 * n * c.periodNs, left := some (k - n), shortArmed := false }

/-- An entry of a delay list whose target the step passes (02 R65). -/
def dlPassed (old new : Nat) (e : DlEntry) : Bool := passed old new e.full

/-- The boundary that counts as the last one issued after a step (02 R66, R78): forward, the one before the first boundary at or after the new time;
backward in an open job, the one last issued; backward without one, none, so that boundaries fall on multiples of the period. -/
def stepBoundary (old new : Nat) (s : State) : Option Nat :=
  if decide (old < new) then s.time.lastBoundary.map (fun _ => padTo (tideP s) new - tideP s)
  else if jobOpen s then s.time.lastBoundary
  else none

/-- A step of the rover's own Device Time adds the step to O at once (11 R414). -/
def radStep (d : Int) (f : FleetSt) : FleetSt :=
  if f.beaconAt.isNone then f else { f with offO := f.offO + d, beaconAt := f.beaconAt.map (fun b => ((b : Int) + d).toNat) }

/-- An instant moved with a step of Device Time. -/
def movedBy (d : Int) (t : Nat) : Nat := ((t : Int) + d).toNat

/-- A step of Device Time moves the instants of what the pose engine holds: the state and the fix are kept (04 R142, R163). -/
def poseStep (d : Int) (p : PoseSt) : PoseSt :=
  { p with
    navAt := movedBy d p.navAt, navHist := p.navHist.map (fun h => (movedBy d h.1, h.2)), lastEpoch := p.lastEpoch.map (movedBy d)
    imuAt := p.imuAt.map (movedBy d), radioAt := p.radioAt.map (movedBy d), ref := p.ref.map (fun r => { r with tRef := movedBy d r.tRef }) }

/-- A step of Device Time moves the instants of the frame markers, which the sample clock spaces; the next epoch carries CLOCK_STEP (03 R99, R122). -/
def gnssStep (d : Int) (g : GnssSt) : GnssSt :=
  { g with clockStep := true, streams := g.streams.map (fun x => { x with lastMarker := x.lastMarker.map (movedBy d) }) }

/-- A step of Device Time moves the instants of what an axis at standstill holds: its timers and its recent edges count on (09 R349, R354). -/
def axStep (d : Int) (a : Axis) : Axis :=
  { a with still := a.still.map (movedBy d), ramp := a.ramp.map (fun x => (movedBy d x.1, x.2)), spAt := movedBy d a.spAt, stepAt := movedBy d a.stepAt
           hist := a.hist.map (fun x => (movedBy d x.1, x.2)), loEdges := a.loEdges.map (movedBy d), hiEdges := a.hiEdges.map (movedBy d) }

/-- A step of Device Time moves the instants of what a metering source holds, and its running record carries CLOCK_STEP (10 R379). -/
def srcStep (d : Int) (new : Nat) (c : MSource) : MSource :=
  { c with
    flags := if c.start.isSome then c.flags / 32 * 32 + 16 + c.flags % 16 else c.flags, after := if c.start.isSome then new else c.after
    sampleAt := movedBy d c.sampleAt, win := movedBy d (c.win * (10 * ms1)) / (10 * ms1), badFrom := c.badFrom.map (fun x => (movedBy d x.1, x.2))
    recent := c.recent.map (fun x => (movedBy d x.1, x.2)), crossed := c.crossed.map (movedBy d), crossAt := c.crossAt.map (movedBy d)
    synthAt := c.synthAt.map (movedBy d), lineDue := c.lineDue.map (movedBy d), exc := c.exc.map (fun x => (x.1, movedBy d x.2.1, x.2.2)) }

/-- Length of a cycle of a gate list in ns (13 R487). -/
def cycleNs (l : List (Nat × Nat)) : Nat := (l.map (·.2)).sum

/-- The first cycle start of a list at or after an instant (13 R487). -/
def cycleStart (g : GateList) (t : Nat) : Nat :=
  let c := ns1 * cycleNs g.entries
  if t ≤ g.base then g.base else g.base + ((t - g.base + c - 1) / max c 1) * c

/-- After a step of Device Time a gate list's cycle restarts at its next cycle start; until then every gate is open (13 R488; log entry 30). -/
def gateStep (new : Nat) (p : EthPort) : EthPort :=
  match p.gates with
  | none => p
  | some g => { p with gateIx := g.entries.length, gateEnd := some (cycleStart g new) }

/-- A step of Device Time moves the instants from which a PTP instance spaces its messages (13 R491). -/
def ptpStep (d : Int) (p : PtpPort) : PtpPort := { p with syncAt := movedBy d p.syncAt, annAt := movedBy d p.annAt, reqAt := movedBy d p.reqAt }

/-- FLEET_TIME_DIVERGED where a step takes O beyond 100 us (11 R414). -/
def stepDiverged (s : State) : State :=
  if s.fleet.beaconAt.isSome && decide (100 * us1 < s.fleet.offO.natAbs) && !s.fleet.divergedRun then
    raise { code := 0x0A0C, sev := 3, src := 3, p0 := w32 (s.fleet.offO.tdiv 65536), p1 := w32 s.fleet.driftY } { s with fleet := { s.fleet with divergedRun := true } }
  else s

/-- Device Time is stepped to a value, 2^-16 ns: armed actions that a forward step passes are cancelled (02 R64, R65). -/
def stepOut (new : Nat) (s : State) : State :=
  let old := dtNow s
  let oldTide := (tideAt s old).getD 0
  let t := s.time
  let fwd := decide (old < new)
  let cmpHit := (List.range 16).filter (fun k => match t.cmps[k]? with | some c => c.armed && passed old new c.target | none => false)
  let dlHit := (List.range 8).map (fun k => ((t.dls.getD k []).filter (dlPassed old new)).map (fun e => (k, e.token)))
  let alHit := t.alarms.filter (fun a => passed old new a.1)
  let cmps := (List.range 16).map (fun k => let c := t.cmps.getD k {}; if cmpHit.contains k then skipCompare new c else { c with shortArmed := false })
  let t0 : TimeSt := { t with
    out := 2 ^ 23 * new
    stepPending := false
    ppsOut := t.ppsOut.map (ppsStep 0 old new)
    -- the next whole second of the new time (R80)
    newPeriod := t.newPeriod.map (fun q => (q.1, (new + sec1 - 1) / sec1))
    lastBoundary := stepBoundary old new s }
  let t1 : TimeSt := { t0 with
    cmps := cmps
    dls := t.dls.map (fun l => l.filter (fun e => !dlPassed old new e))
    alarms := t.alarms.filter (fun a => !passed old new a.1)
    tideNo := (tideAt s new).getD 0 }
  let delta := ((new : Int) - old).tdiv 65536
  let t2 : TimeSt := if fwd then t1 else { t0 with cmps := t.cmps.map (fun c => { c with shortArmed := false }) }
  let evs := if fwd then
      cmpHit.map (fun k => ({ code := 0x020D, sev := 3, p0 := 0, p1 := k } : Ev)) ++
      dlHit.flatten.map (fun e => ({ code := 0x020D, sev := 3, p0 := 1, p1 := e.1, p2 := e.2 } : Ev)) ++
      alHit.map (fun a => ({ code := 0x020D, sev := 3, p0 := 1, p1 := 6, p2 := a.2 } : Ev)) ++
      ppsSkipped (ppsHit 0 old new t)
    else []
  stepDiverged <| raises (({ code := 0x0205, sev := 3, p0 := w32 delta, p1 := w32 (delta / (2 ^ 32 : Nat)), p2 := oldTide } : Ev) :: evs)
    { s with time := t2, fleet := radStep ((new : Int) - old) s.fleet, pose := poseStep ((new : Int) - old) s.pose, gnss := gnssStep ((new : Int) - old) s.gnss, axes := s.axes.map (axStep ((new : Int) - old))
             net := { s.net with eth := s.net.eth.map (gateStep new), ptp := s.net.ptp.map (ptpStep ((new : Int) - old)) }
             stop := { s.stop with vexAt := movedBy ((new : Int) - old) s.stop.vexAt }
             meter := { s.meter with src := s.meter.src.map (srcStep ((new : Int) - old) new) } }

/-- At a tide boundary: the step to the followed domain where R64 asks for one and the engine is idle. -/
def stepAtBoundary (s : State) : State :=
  if stepNeeded s.time then
    if engineIdle s then stepOut (followedAcc s.time / 2 ^ 23) s else deferStep s
  else { s with time := { s.time with stepPending := false } }

end Sys2Proof.Machine
end

