-- ==== Sys2Proof/Machine/Axes.lean ====
section
/-!
DEFINITION. Motion axes (09 R333 to R364): profiles, set-points, stops, homing, limits, chopper, and the AXIS commands.
-/
namespace Sys2Proof.Machine

/-! ## Accessors -/

/-- An axis. -/
def axOf (s : State) (n : Nat) : Axis := s.axes.getD n {}
/-- An axis changed. -/
def setAx (n : Nat) (f : Axis → Axis) (s : State) : State := { s with axes := lmod s.axes n f }

/-! ## Microstepping (09 R345, R346) -/

/-- T(k) = round(1,023 x sin(pi x k / 512)) for k from 0 to 256 (09 R345). -/
def sineTable : List Nat :=
  [0, 6, 13, 19, 25, 31, 38, 44, 50, 56, 63, 69, 75, 82, 88, 94, 100, 107, 113, 119, 125, 131, 138, 144, 150, 156, 163, 169, 175, 181, 187, 193] ++
  [200, 206, 212, 218, 224, 230, 236, 242, 249, 255, 261, 267, 273, 279, 285, 291, 297, 303, 309, 315, 321, 327, 333, 339, 345, 351, 356, 362, 368, 374, 380, 386] ++
  [391, 397, 403, 409, 415, 420, 426, 432, 437, 443, 449, 454, 460, 466, 471, 477, 482, 488, 493, 499, 504, 510, 515, 521, 526, 531, 537, 542, 547, 553, 558, 563] ++
  [568, 574, 579, 584, 589, 594, 599, 604, 609, 614, 619, 624, 629, 634, 639, 644, 649, 654, 659, 663, 668, 673, 678, 682, 687, 692, 696, 701, 705, 710, 714, 719] ++
  [723, 728, 732, 737, 741, 745, 750, 754, 758, 762, 766, 771, 775, 779, 783, 787, 791, 795, 799, 803, 806, 810, 814, 818, 822, 825, 829, 833, 836, 840, 844, 847] ++
  [851, 854, 858, 861, 864, 868, 871, 874, 877, 881, 884, 887, 890, 893, 896, 899, 902, 905, 908, 911, 914, 917, 919, 922, 925, 927, 930, 933, 935, 938, 940, 943] ++
  [945, 948, 950, 952, 954, 957, 959, 961, 963, 965, 967, 969, 971, 973, 975, 977, 979, 981, 983, 984, 986, 988, 989, 991, 992, 994, 995, 997, 998, 999, 1001, 1002] ++
  [1003, 1005, 1006, 1007, 1008, 1009, 1010, 1011, 1012, 1013, 1014, 1015, 1015, 1016, 1017, 1017, 1018, 1019, 1019, 1020, 1020, 1021, 1021, 1021, 1022, 1022, 1022, 1023, 1023, 1023, 1023, 1023] ++
  [1023]

/-- s(e) (09 R345). -/
def sineAt (e : Nat) : Int :=
  if e ≤ 256 then sineTable.getD e 0 else if e ≤ 512 then sineTable.getD (512 - e) 0
  else if e ≤ 768 then -(sineTable.getD (e - 512) 0 : Int) else -(sineTable.getD (1024 - e) 0 : Int)

/-- The electrical index of a position: mod 1,024, of the opposite sign where the direction is inverted. -/
def elAt (a : Axis) (p : Int) : Nat := ((if a.invert then -p else p) % 1024).toNat
/-- The electrical index of an axis (09 R345). -/
def elIndex (a : Axis) : Nat := elAt a a.pos
/-- s(e) of a winding at a position: A leads B by 256 (09 R345). -/
def sineOf (wb : Bool) (e : Nat) : Int := if wb then sineAt e else sineAt ((e + 256) % 1024)

/-- The resolution after a change of speed (09 R346): coarser as soon as v x r exceeds MS_RATE, finer below 0.9 of it. -/
def resAt (v rate res : Nat) : Nat :=
  let top := 256000 * rate
  let down := (List.range 9).foldl (fun k _ => if 0 < k && decide (top < v * 2 ^ k) then k - 1 else k) res
  (List.range 9).foldl (fun k _ => if k < 8 && decide (10 * (v * 2 ^ (k + 1)) ≤ 9 * top) then k + 1 else k) down

/-- The next position at which the phase set-point is updated (09 R346). -/
def nextSp (res : Nat) (up : Bool) (p : Int) : Int :=
  let k : Int := (2 ^ (8 - res) : Nat)
  let o : Int := if res == 0 then 128 else 0
  if up then ((p - o) / k + 1) * k + o else -((-(p - o)) / k + 1) * k + o

/-! ## Currents (09 R334, R349) -/

/-- I_SET in mA at a Device Time. -/
def iSet (now : Nat) (a : Axis) : Nat :=
  match a.st with
  | .moving | .stopping => a.iRun
  | .homing => a.iHome
  | _ =>
    if !a.en then 0
    else match a.ramp with
      | none => a.iRun
      | some (t0, i0) =>
        let t := min ((now - t0) / ms1) a.tRamp
        (((i0 : Int) + ((a.iHold : Int) - i0) * t / (max a.tRamp 1 : Nat))).toNat

/-- The standstill ramp has ended: the axis holds with I_HOLD. -/
def holding (now : Nat) (a : Axis) : Bool :=
  a.en && (match a.ramp with | some (t0, _) => decide (t0 + ms1 * a.tRamp ≤ now) | none => false)

/-- The current references of windings A and B in mA (09 R345). -/
def refs (now : Nat) (a : Axis) : Int × Int :=
  let e := elIndex a
  let i : Int := iSet now a
  ((i * sineAt ((e + 256) % 1024)).tdiv 1023, (i * sineAt e).tdiv 1023)

/-- A phase set-point leaves the generator at its instant (09 R339, R345). -/
def emitSp (n t : Nat) (s : State) : State :=
  let a := axOf s n
  let r := refs t a
  emit .axis n t (leI 4 a.pos ++ leI 2 r.1 ++ leI 2 r.2) s

/-- AX_n_EN takes a level (09 R333). -/
def setEn (n : Nat) (b : Bool) (s : State) : State :=
  if (axOf s n).en == b then s
  else emit .pin (64 + n) 0 [BitVec.ofNat 8 (b1 b)] (setAx n (fun a => { a with en := b }) s)

/-! ## Moves and stops (09 R340 to R344) -/

/-- REMAIN (09 R336). -/
def remain (a : Axis) : Int := a.target - a.pos
/-- The direction of a goal. -/
def towards (goal : Int) (a : Axis) : Bool := decide (a.pos < goal)
/-- The limit switch in a direction is enabled and active (09 R352, R353). -/
def limitIn (up : Bool) (a : Axis) : Bool := if up then a.hiEn && a.hiLvl == a.hiHigh else a.loEn && a.loLvl == a.loHigh

/-- Moves that wait for START are discarded and their commands complete with ABORTED (09 R358). -/
def abortMoves (n : Nat) (s : State) : State :=
  (axOf s n).moves.foldl (fun st m => complete m.mbx m.slot m.opcode m.tag stAborted [] st) (setAx n (fun a => { a with moves := [] }) s)

/-- AXIS_STOPPED (09 R364). -/
def evStopped (n : Nat) (a : Axis) : Ev := { code := 0x0803, sev := 2, p0 := 256 * n + a.cause, p1 := w32 a.pos, p2 := w32 (remain a) }

/-- A stopping axis reaches standstill (09 R343, R344, R354): STOPPED, or FAULT after chatter. -/
def standstill (n t : Nat) (s : State) : State :=
  let s1 := setAx n (fun a => { a with st := if a.cause == 6 then .fault else .stopped, v2 := 0, brake := none, turn := false
                                       dwell := none, home := none, still := some t, ramp := none }) s
  let a := axOf s1 n
  raise (evStopped n a) (if a.cause == 6 || a.disOnStop then setEn n false s1 else s1)

/-- HOMING_ABORT's cause for a stop cause (09 R364). -/
def abortCause (cause : Nat) : Nat := if cause == 4 then 0 else if cause == 6 then 2 else 1

/-- A stop source acts on an axis (09 R343, R344, R357): deceleration, cause; the steeper deceleration and the first cause stay. -/
def haltAxis (n cause decel : Nat) (s0 : State) : State :=
  let s := abortMoves n s0
  let a := axOf s n
  match a.st with
  | .moving =>
    let s1 := setAx n (fun a => { a with st := .stopping, cause := cause, turn := false, brake := some decel, homed := a.homed && cause != 6 }) s
    if a.dwell.isSome then standstill n (dtNow s) s1 else s1
  | .stopping =>
    setAx n (fun a => { a with cause := if cause == 6 then 6 else a.cause, brake := some (max decel (a.brake.getD 0))
                               homed := a.homed && cause != 6 }) s
  | .homing =>
    let s1 := setAx n (fun a => { a with st := .stopping, cause := if cause == 6 then 6 else 7, homed := false, home := none, turn := false
                                         brake := some decel }) s
    let s2 := raise { code := 0x0805, sev := 3, p0 := n, p1 := abortCause cause, p2 := w32 a.pos } s1
    if a.dwell.isSome then standstill n (dtNow s) s2 else s2
  | .fault => s
  | _ => if cause == 6 then setEn n false (setAx n (fun a => { a with st := .fault, cause := 6, homed := false }) s) else s

/-- A stop source acts on every axis at D_STOP (09 R343). -/
def haltAxes (cause : Nat) (s : State) : State :=
  (List.range 8).foldl (fun st n => haltAxis n cause (axOf st n).decStop st) s

/-- An axis is disabled, its position kept (09 R350). -/
def disableAxis (n : Nat) (s0 : State) : State :=
  let s := abortMoves n s0
  match (axOf s n).st with
  | .fault => s
  | _ => setEn n false (setAx n (fun a => { a with st := .disabled, v2 := 0, brake := none, turn := false, dwell := none, home := none
                                                   homed := a.homed && !a.clearHomed, still := none, ramp := none }) s)

/-- Every axis is disabled (09 R351). -/
def disableAxes (s : State) : State := (List.range 8).foldl (fun st n => disableAxis n st) s

/-- A drive fault: EN low, FAULT, the target and HOMED lost (09 R348, R350). -/
def driveFault (n cause : Nat) (s0 : State) : State :=
  let s := abortMoves n s0
  setEn n false (setAx n (fun a => { a with
    st := .fault, cause := cause, homed := false, home := none, v2 := 0, brake := none, turn := false, dwell := none
    target := (match a.st with | .moving | .stopping | .homing => a.pos | _ => a.target) }) s)

/-- Motion starts from standstill towards a goal at V_START (09 R337). -/
def launch (t : Nat) (goal : Int) (top : Nat) (a : Axis) : Axis :=
  { a with target := goal, up := decide (a.pos < goal), vTop := top, v2 := a.vStart * a.vStart, brake := none, turn := false
           dwell := none, spAt := t, stepAt := t, onAcc := 0, still := none, ramp := none }

/-- The overshoot of a re-plan from the present motion (09 R341, R342): none from standstill, or where the target is reachable slowing at D. -/
def overshootOf (goal : Int) (a : Axis) : Nat :=
  if a.dwell.isSome then 0 else
  let r : Int := if a.up then goal - a.pos else a.pos - goal
  let need := a.v2 / (2 * max a.dec 1)
  let end2 := a.vStop * a.vStop
  if 0 < r && decide (((a.v2 - end2 : Nat) : Int) ≤ 2 * (a.dec : Int) * r) then 0 else ((need : Int) - r).toNat

/-- A move or re-plan takes effect at its START (09 R340 to R342), and the command completes. -/
def doMoveStart (n : Nat) (s0 : State) : State :=
  match (axOf s0 n).moves with
  | [] => s0
  | m :: rest =>
    let s1 := runTo m.start s0
    let s := setAx n (fun a => { a with moves := rest }) s1
    let a := axOf s n
    let fin := complete m.mbx m.slot m.opcode m.tag stOk []
    let drop := complete m.mbx m.slot m.opcode m.tag stAborted [] s
    match a.st with
    | .idle | .stopped =>
      if a.pos == m.target then
        fin (raise { code := 0x0801, sev := 1, p0 := n, p1 := w32 a.pos } (setAx n (fun a => { a with st := .idle, target := m.target }) (setEn n true s)))
      else fin (setAx n (fun a => { launch m.start m.target a.vMax a with st := .moving, planTo := m.start + 2 * tideP s }) (setEn n true s))
    | .moving =>
      let o := overshootOf m.target a
      let ahead := o == 0 && (a.up == towards m.target a) && a.pos != m.target
      let s2 := setAx n (fun a => { a with target := m.target, overshoot := o
                                           brake := if ahead || a.dwell.isSome then none else some a.dec
                                           turn := !ahead && a.dwell.isNone }) s
      fin (raise { code := 0x0802, sev := 1, p0 := n, p1 := o, p2 := w32 (m.target - a.pos) } s2)
    | _ => drop

/-- MOVE_START (09 R340, R341). -/
def execMoveStart (axis : Nat) (s : State) : Host.Outcome State Fault Refusal := done (doMoveStart axis s)

/-! ## Homing (09 R355 to R357) -/

/-- Homing ends in success: HOMED, IDLE at the present position. -/
def homeDone (n t : Nat) (h : Homing) (s : State) : State :=
  raise { code := 0x0804, sev := 2, p0 := n, p1 := h.method, p2 := h.dist }
    (setAx n (fun a => { a with st := .idle, homed := true, home := none, target := a.pos, v2 := 0, brake := none, turn := false
                                still := some t, ramp := none }) s)

/-- Step 4 of R355: to HOME_PARK, or stay; a reversal waits REVERSE_DWELL (R341). -/
def homePark (n t : Nat) (h : Homing) (s : State) : State :=
  let a := axOf s n
  if h.park == -2147483648 || h.park == a.pos then homeDone n t h s
  else if decide (a.pos < h.park) != a.up && a.dwellMs != 0 then
    setAx n (fun a => { a with home := some { h with ph := .park }, v2 := 0, brake := none, turn := false, dwell := some (t + ms1 * a.dwellMs) }) s
  else setAx n (fun a => { launch t h.park a.vMax a with home := some { h with ph := .park } }) s

/-- Homing fails: the axis decelerates at D to STOPPED with cause 7 (09 R357). -/
def homeFail (n cause : Nat) (s : State) : State :=
  let a := axOf s n
  raise { code := 0x0806, sev := 4, p0 := n, p1 := cause, p2 := w32 a.pos }
    (setAx n (fun a => { a with st := .stopping, cause := 7, homed := false, home := none, turn := false, brake := some a.dec }) s)

/-- The goal of a seek: HOME_MAX_DIST away in the direction of the method. -/
def seekUp (method : Nat) : Bool := method == 1 || method == 3

/-- The seek starts at standstill (09 R355 step 2, R356). -/
def startSeek (n t : Nat) (h : Homing) (s : State) : State :=
  setAx n (fun a => { launch t (if seekUp h.method then a.pos + h.maxDist else a.pos - h.maxDist) h.speed a with
                      home := some { h with ph := .seek, org := a.pos, steps := 0, sum := 0, stalls := 0 } }) s

/-- A full step of cliff homing has ended with on-fraction F (09 R356): the baseline, the stall, and what follows from it. Before F_0 is formed a stall is judged by
the mean so far (log entry 69). -/
def cliffStep (n t frac : Nat) (h : Homing) (s : State) : State :=
  let a := axOf s n
  if a.v2 != h.speed * h.speed then s
  else
    let k := h.steps + 1
    let base := if 8 < k && k ≤ 24 then h.sum + frac else h.sum
    let low := decide (8 < h.steps) && decide (256 * frac * (min (h.steps - 8) 16) < a.stallRatio * h.sum)
    let b : Int := if a.up then 256 * (a.pos / 256) else -256 * ((-a.pos) / 256)
    let start := if a.up then b - 256 else b + 256
    let h1 := { h with steps := k, sum := base, stalls := if low then h.stalls + 1 else 0
                       stallPos := if low && h.stalls != 0 then h.stallPos else start }
    let s1 := setAx n (fun a => { a with frac := frac, home := some h1 }) s
    if !low || decide (h1.stalls < a.stallSteps) then s1
    else if k ≤ 24 then homeFail n 2 s1
    else
      let dist := (h1.stallPos - h.org).natAbs
      let s2 := emitSp n t (setAx n (fun a => { a with pos := h1.stallPos }) s1)
      homePark n t { h1 with dist := dist } (setAx n (fun a => { a with pos := h.offset, v2 := 0, brake := none, hist := [] }) s2)

/-! ## Set-points (09 R337, R339, R346) -/

/-- Where the motion comes to rest on its present deceleration, or at its goal. -/
def goalOf (a : Axis) : Int :=
  match a.brake with
  | some d => let r : Int := a.v2 / (2 * max d 1); if a.up then a.pos + r else a.pos - r
  | none => a.target

/-- The homing phases that run at constant speed with no end in view. -/
def seeking (a : Axis) : Bool := match a.home with | some h => h.ph == HomePh.away || h.ph == HomePh.seek | none => false

/-- A speed in 2^-16 usteps/s from its square. -/
def speed16 (v2 : Nat) : Nat := isqrt (v2 * 2 ^ 32)
/-- Time over a distance from one speed to another, 2^-16 ns, by the profile of R337: at A up to the top speed or the peak, a cruise where one is left, at D down
(09 R337). -/
def profileTime (acc dec top2 v0 v1 d : Nat) : Nat :=
  let peak := min top2 ((2 * acc * dec * d + dec * v0 + acc * v1) / (acc + dec))
  if peak ≤ max v0 v1 then 2 * d * sec1 * 2 ^ 16 / max (speed16 v0 + speed16 v1) 1
  else
    let vp := speed16 peak
    sec1 * (vp - speed16 v0) / (acc * 2 ^ 16) + sec1 * (vp - speed16 v1) / (dec * 2 ^ 16) +
      sec1 * 2 ^ 16 * (2 * acc * dec * d - dec * (peak - v0) - acc * (peak - v1)) / (2 * acc * dec * vp)

/-- The next set-point: its position, the square of the speed there, and the time to it in 2^-16 ns (09 R337, R339). -/
def nextPoint (a : Axis) : Int × Nat × Nat :=
  let goal := goalOf a
  let free := seeking a && a.brake.isNone
  let left := if free then 2 ^ 40 else (goal - a.pos).natAbs
  let p := nextSp a.res a.up a.pos
  let d0 := (p - a.pos).natAbs
  let d := min d0 left
  let pos := if a.up then a.pos + d else a.pos - d
  let top := a.vTop * a.vTop
  let up2 := min (max top (a.v2 - 2 * a.dec * d)) (a.v2 + 2 * a.acc * d)
  let v2 := match a.brake with
    | some dd => a.v2 - 2 * dd * d
    | none => if free then up2 else min up2 (a.vStop * a.vStop + 2 * a.dec * (left - d))
  let t := match a.brake with
    | some dd => if d == left then sec1 * speed16 a.v2 / (max dd 1 * 2 ^ 16) else 2 * d * sec1 * 2 ^ 16 / max (speed16 a.v2 + speed16 v2) 1
    | none => profileTime (max a.acc 1) (max a.dec 1) top a.v2 v2 d
  (pos, if d == left && a.brake.isSome then 0 else v2, t)

/-- A position crosses a full-step boundary. -/
def fullStep (p q : Int) (up : Bool) : Bool := if up then p / 256 != q / 256 else (-p) / 256 != (-q) / 256

/-- On-fraction F of the full step that ends: the on-phases of both windings over twice its duration, LSB 1/1,024 (09 R356, R362). -/
def fracOf (t : Nat) (a : Axis) : Nat := min 65535 (1024 * a.onAcc / max (2 * (t - a.stepAt)) 1)

/-- A phase set-point is released at its instant, to within 50 ns (09 R339): `off` in ns is how far from it; at the end of the profile the axis takes its next state. A switch stops motion towards it that does not
already decelerate (R353; log entry 69). -/
def doSetPointRelease (n : Nat) (off : Int) (s0 : State) : State :=
  let a0 := axOf s0 n
  if !(a0.st == .moving || a0.st == .stopping || a0.st == .homing) || a0.dwell.isSome then s0
  else if limitIn a0.up a0 && !seeking a0 && a0.brake.isNone then
    haltAxis n 4 a0.decStop (raise { code := 0x0807, sev := 3, p0 := n, p1 := b1 a0.up, p2 := w32 a0.pos }
      (setAx n (fun a => { a with side := a0.up }) s0))
  else
    let (pos, v2, dt) := nextPoint a0
    let s1 := runTo (a0.spAt + dt) s0
    let t := max (a0.spAt + dt) (dtNow s0)
    let full := fullStep a0.pos pos a0.up
    let frac := fracOf t a0
    let s2 := setAx n (fun a => { a with
      frac := if full then frac else a.frac, onAcc := if full then 0 else a.onAcc, stepAt := if full then t else a.stepAt
      pos := pos, v2 := v2, spAt := t, res := resAt (isqrt v2) a.msRate a.res
      hist := (t, pos) :: a.hist.takeWhile (fun e => decide (t ≤ e.1 + 3 * ms1)) }) s1
    let s3 := emitSp n ((t : Int) + ns1 * max (-50) (min 50 off)).toNat s2
    let a := axOf s3 n
    match a0.brake with
    | some _ =>
      if v2 != 0 then s3
      else match a0.st, a0.home with
        | .stopping, _ => standstill n t s3
        | .homing, some h =>
          if h.ph == HomePh.away then
            if a.dwellMs == 0 then startSeek n t h s3 else setAx n (fun a => { a with brake := none, turn := false, dwell := some (t + ms1 * a.dwellMs) }) s3
          else homePark n t h s3
        | _, _ =>
          if a.pos == a.target then raise { code := 0x0801, sev := 1, p0 := n, p1 := w32 a.pos }
              (setAx n (fun a => { a with st := .idle, brake := none, turn := false, still := some t, ramp := none }) s3)
          else if a.dwellMs == 0 then setAx n (fun a => launch t a.target a.vMax a) s3
          else setAx n (fun a => { a with brake := none, turn := false, dwell := some (t + ms1 * a.dwellMs) }) s3
    | none =>
      match a.home with
      | some h =>
        if h.ph == HomePh.park then (if pos == a.target then homeDone n t h s3 else s3)
        else if h.ph == HomePh.seek then
          let s4 := if decide (2 ≤ h.method) && full then cliffStep n t frac h s3 else s3
          match (axOf s4 n).home with
          | some h4 => if h4.ph == HomePh.seek && decide (h4.maxDist ≤ ((axOf s4 n).pos - h4.org).natAbs) then homeFail n 0 s4 else s4
          | none => s4
        else s3
      | none =>
        if pos == a.target then
          raise { code := 0x0801, sev := 1, p0 := n, p1 := w32 pos }
            (setAx n (fun a => { a with st := .idle, v2 := 0, still := some t, ramp := none }) s3)
        else s3

/-- SET_POINT_RELEASE (09 R339). -/
def execSetPointRelease (axis : Nat) (off : Int) (s : State) : Host.Outcome State Fault Refusal := done (doSetPointRelease axis off s)

/-- Firmware extends the plan of every axis in motion to the boundary after the next (09 R338). -/
def extendPlans (t : Nat) (s : State) : State :=
  { s with axes := s.axes.map (fun a => match a.st with
      | .moving | .homing => { a with planTo := max a.planTo (t + 2 * tideP s) }
      | _ => a) }

/-- The stop tail begins before a further extension of the plan arrives (09 R338). -/
def doAxisPlanStarved (n : Nat) (s0 : State) : State :=
  let a := axOf s0 n
  if !(a.st == .moving || a.st == .homing) then s0
  else
    let s := runTo a.planTo s0
    let v : Int := if a.up then (isqrt a.v2 : Int) else -(isqrt a.v2 : Int)
    haltAxis n 5 a.decStop (raise { code := 0x0809, sev := 4, p0 := n, p1 := w32 v, p2 := w32 (remain a) } s)

/-- AXIS_PLAN_STARVED (09 R338). -/
def execAxisPlanStarved (axis : Nat) (s : State) : Host.Outcome State Fault Refusal := done (doAxisPlanStarved axis s)

/-- The reversal dwell ends and the axis starts the opposite way (09 R341). -/
def doReverseDwell (n : Nat) (s : State) : State :=
  let a := axOf s n
  match a.dwell with
  | none => s
  | some t =>
    let s1 := runTo t s
    match a.home with
    | some h => if h.ph == HomePh.park then setAx n (fun a => { launch t h.park a.vMax a with home := some h }) s1 else startSeek n t h (setAx n (fun a => { a with dwell := none }) s1)
    | none => setAx n (fun a => launch t a.target a.vMax a) s1

/-- REVERSE_DWELL (09 R341). -/
def execReverseDwell (axis : Nat) (s : State) : Host.Outcome State Fault Refusal := done (doReverseDwell axis s)

/-- HOME_TIMEOUT expires (09 R357). -/
def doHomeTimeout (n : Nat) (s : State) : State :=
  match (axOf s n).home with
  | none => s
  | some h =>
    let s1 := homeFail n 1 (runTo (h.startAt + sec1 * h.timeout) s)
    if (axOf s n).dwell.isSome then standstill n (dtNow s1) s1 else s1

/-- HOME_TIMEOUT (09 R357). -/
def execHomeTimeout (axis : Nat) (s : State) : Host.Outcome State Fault Refusal := done (doHomeTimeout axis s)

/-- T_STANDSTILL expires and I_SET ramps to I_HOLD (09 R349). -/
def doStandstillTimer (n : Nat) (s : State) : State :=
  let a := axOf s n
  match a.still, a.ramp with
  | some t, none =>
    let s1 := runTo (t + ms1 * a.tStand) s
    if !a.en then s1 else setAx n (fun a => { a with ramp := some (t + ms1 * a.tStand, a.iRun) }) s1
  | _, _ => s

/-- STANDSTILL_TIMER (09 R349). -/
def execStandstillTimer (axis : Nat) (s : State) : Host.Outcome State Fault Refusal := done (doStandstillTimer axis s)

/-! ## Chopper (09 R347, R348) -/

/-- Threshold of a current: 10 bits over 0 to 1.2 V of SNS (09 R334). -/
def senseCode (scale i : Nat) : Nat := min 1023 (1000 * 1023 * i / (1200 * max scale 1))
/-- SNS in mV exceeds the threshold of I_OC (09 R334, R348). -/
def overCurrent (a : Axis) (snsMv : Nat) : Bool := decide (1200 * senseCode a.scale a.iOc < 1023 * snsMv)
/-- The magnitude of a winding's reference falls from this set-point to the next in the direction of travel (09 R347). -/
def refFalls (a : Axis) (wb : Bool) : Bool :=
  (a.st == .moving || a.st == .stopping || a.st == .homing) && a.dwell.isNone &&
  decide ((sineOf wb (elAt a (nextSp a.res a.up a.pos))).natAbs < (sineOf wb (elIndex a)).natAbs)
/-- The on-phase of a chopper cycle, ns: the current is compared after T_BLANK, and the phase ends when it reaches the reference, or after T_ON_MAX (09 R347). -/
def onPhase (a : Axis) (reach : Option Nat) : Nat :=
  match reach with
  | some t => min (1000 * a.tOnMax) (max (100 * a.tBlank) t)
  | none => 1000 * a.tOnMax
/-- The fast decay of the off-phase, ns: F x T_OFF (09 R347). -/
def fastPhase (a : Axis) (wb : Bool) : Nat := 1000 * a.tOff * (if refFalls a wb then a.fastFall else a.fastRise) / 256
/-- PH of a winding through a chopper cycle: its polarity, the on-phase, the fast decay in the opposite polarity, the slow decay released, in ns (09 R333, R347). -/
def phBytes (a : Axis) (wb forward : Bool) (reach : Option Nat) : List Byte :=
  le 1 (b1 forward) ++ le 4 (onPhase a reach) ++ le 4 (fastPhase a wb) ++ le 4 (1000 * a.tOff - fastPhase a wb)

/-- A chopper cycle of a winding (09 R347, R348): OVERCURRENT at the end of blanking, OPEN_WINDING after 16 cycles short of a reference of at
least 25 % of I_RUN; `reach`: when the current reaches the reference, ns into the on-phase. A reference of zero releases PH: no cycle. -/
def doChopperCycle (n : Nat) (wb : Bool) (snsMv : Nat) (reach : Option Nat) (s : State) : State :=
  let a := axOf s n
  let r := refs (dtNow s) a
  let ref := (if wb then r.2 else r.1).natAbs
  if !a.en || ref == 0 then s
  else if overCurrent a snsMv then
    raise { code := 0x080A, sev := 5, p0 := n, p1 := b1 wb, p2 := snsMv } (driveFault n 8 s)
  else
    let reached := match reach with | some t => decide (t ≤ 1000 * a.tOnMax) | none => false
    let cnt := if reached || decide (ref * 4 < a.iRun) then 0 else (if wb then a.openB else a.openA) + 1
    let on := { a with onAcc := a.onAcc + ns1 * onPhase a reach }
    let s1 := emit .pin (80 + 2 * n + b1 wb) (dtNow s) (phBytes a wb (decide (0 < (if wb then r.2 else r.1))) reach)
      (setAx n (fun _ => if wb then { on with openB := cnt } else { on with openA := cnt }) s)
    if 16 ≤ cnt then
      raise { code := 0x080B, sev := 4, p0 := n, p1 := b1 wb, p2 := ref } (driveFault n 9 (setAx n (fun a => { a with openA := 0, openB := 0 }) s1))
    else s1

/-- CHOPPER_CYCLE (09 R347, R348). -/
def execChopperCycle (axis : Nat) (windingB : Bool) (snsMv : Nat) (reach : Option Nat) (s : State) : Host.Outcome State Fault Refusal :=
  done (doChopperCycle axis windingB snsMv reach s)

/-! ## Limit switches (09 R352 to R355, R357) -/

/-- Edges that still count at a Device Time. -/
def recentEdges (now : Nat) (l : List Nat) : List Nat := l.filter (fun t => decide (now < t + 100 * ms1))

/-- The position at a past Device Time. -/
def posAt (t : Nat) (a : Axis) : Int :=
  match a.hist.find? (fun e => decide (e.1 ≤ t)) with
  | some e => e.2
  | none => match a.hist.getLast? with | some e => e.2 | none => a.pos

/-- An active edge or the release of a switch acts on a homing sequence (09 R355, R357). -/
def homingEdge (n : Nat) (hi act : Bool) (raw : Nat) (h : Homing) (s : State) : State :=
  let a := axOf s n
  let own := decide (h.method < 2) && hi == seekUp h.method
  if own && (h.ph == .slow || (h.ph == .away && act) || (h.ph == .seek && !act)) then s
  else if own && h.ph != .park then
    match h.ph, act with
    | .away, false => setAx n (fun a => { a with brake := some a.dec, turn := true }) s
    | .seek, true =>
      let shift := h.offset - posAt raw a
      let dist := (posAt raw a - h.org).natAbs
      setAx n (fun a => { a with pos := a.pos + shift, hist := a.hist.map (fun e => (e.1, e.2 + shift)), brake := some a.dec
                                 home := some { h with ph := .slow, dist := dist } }) s
    | _, _ => s
  else if !act then s
  else if decide (2 ≤ h.method) || (a.up == hi && a.dwell.isNone) then
    haltAxis n 4 a.decStop (raise { code := 0x0807, sev := 3, p0 := n, p1 := b1 hi, p2 := w32 (posAt raw a) } (setAx n (fun a => { a with side := hi }) s))
  else s

/-- A limit input has held a new level for 2 ms (09 R352 to R354). -/
def doLimitDebouncedEdge (n : Nat) (hi high : Bool) (raw : Nat) (s0 : State) : State :=
  let a0 := axOf s0 n
  let act := high == (if hi then a0.hiHigh else a0.loHigh)
  if high == (if hi then a0.hiLvl else a0.loLvl) then s0
  else if !(if hi then a0.hiEn else a0.loEn) then setAx n (fun a => if hi then { a with hiLvl := high } else { a with loLvl := high }) (runTo (raw + 2 * ms1) s0)
  else
    let s1 := runTo (raw + 2 * ms1) s0
    let now := dtNow s1
    let edges := now :: recentEdges now (if hi then a0.hiEdges else a0.loEdges)
    let s := setAx n (fun a => if hi then { a with hiLvl := high, hiEdges := edges } else { a with loLvl := high, loEdges := edges }) s1
    let a := axOf s n
    if 8 < edges.length && a.st != .fault then
      haltAxis n 6 a.decStop (raise { code := 0x0808, sev := 4, p0 := n, p1 := b1 hi, p2 := edges.length } s)
    else match a.st, a.home with
      | .homing, some h => homingEdge n hi act raw h s
      | .moving, _ =>
        if act && a.up == hi && a.dwell.isNone then
          haltAxis n 4 a.decStop (raise { code := 0x0807, sev := 3, p0 := n, p1 := b1 hi, p2 := w32 (posAt raw a) } (setAx n (fun a => { a with side := hi }) s))
        else s
      | _, _ => s

/-- LIMIT_DEBOUNCED_EDGE (09 R352). -/
def execLimitDebouncedEdge (axis : Nat) (hi high : Bool) (raw : Nat) (s : State) : Host.Outcome State Fault Refusal :=
  done (doLimitDebouncedEdge axis hi high raw s)

/-! ## Commands (09 R359 to R362) -/

/-- Configuration may change: IDLE, STOPPED or DISABLED (09 R359). -/
def axQuiet (a : Axis) : Bool := a.st == .idle || a.st == .stopped || a.st == .disabled

/-- AXIS_CONFIG's parameters are as R360 states. -/
def axisConfigOk (p : List Byte) : Bool :=
  decide (uAt p 0 1 < 8) && decide (uAt p 1 1 < 8) && zeros p 2 2 && zeros p 39 1 &&
  decide (1 ≤ uAt p 4 4) && decide (uAt p 4 4 ≤ 5120000) &&
  decide (1 ≤ uAt p 8 4) && decide (uAt p 8 4 < 2 ^ 31) && decide (1 ≤ uAt p 12 4) && decide (uAt p 12 4 < 2 ^ 31) &&
  decide (1 ≤ uAt p 16 4) && decide (uAt p 16 4 < 2 ^ 31) && decide (uAt p 12 4 ≤ uAt p 16 4) &&
  decide (uAt p 20 4 ≤ uAt p 4 4) && decide (uAt p 24 4 ≤ uAt p 4 4) && decide (iAt p 28 4 < iAt p 32 4) &&
  decide (uAt p 36 2 ≤ 1000) && decide (8 ≤ uAt p 38 1) && decide (uAt p 38 1 ≤ 128)

/-- AXIS_CONFIG. -/
def axisConfig (p : List Byte) (s : State) : Reply × State :=
  let n := uAt p 0 1
  if !axisConfigOk p then refuse stBadParam s
  else if !axQuiet (axOf s n) then refuse stBadState s
  else ok (setAx n (fun a => { a with
    invert := bit (uAt p 1 1) 0, disOnStop := bit (uAt p 1 1) 1, clearHomed := bit (uAt p 1 1) 2, vMax := uAt p 4 4, acc := uAt p 8 4
    dec := uAt p 12 4, decStop := uAt p 16 4, vStart := uAt p 20 4, vStop := uAt p 24 4, softLo := iAt p 28 4, softHi := iAt p 32 4
    dwellMs := uAt p 36 2, msRate := uAt p 38 1 }) s)

/-- AXIS_CONFIG (09 R360). -/
def execAxisConfig (c : Cmd) (s : State) : Host.Outcome State Fault Refusal := done (command 0x0801 40 0 none axisConfig c s)

/-- A current needs a threshold above 1.2 V (09 R334). -/
def overScale (i scale : Nat) : Bool := decide (1200 * scale < 1000 * i)

/-- AXIS_DRIVE_CONFIG. -/
def axisDriveConfig (p : List Byte) (s : State) : Reply × State :=
  let n := uAt p 0 1
  let sc := uAt p 4 4
  let run := uAt p 8 2
  let home := if uAt p 12 2 == 0 then run / 2 else uAt p 12 2
  let oc := if uAt p 14 2 == 0 then run * 3 / 2 else uAt p 14 2
  let okp := decide (n < 8) && zeros p 1 3 && zeros p 21 1 && decide (1 ≤ sc) && decide (sc ≤ 100000) && decide (uAt p 10 2 ≤ run) &&
    !overScale run sc && !overScale home sc && !overScale oc sc && decide (2 ≤ uAt p 16 1) && decide (uAt p 16 1 ≤ 40) &&
    decide (5 ≤ uAt p 17 1) && decide (uAt p 17 1 ≤ 40) && decide (2 ≤ uAt p 18 1) && decide (uAt p 18 1 ≤ 200) &&
    decide (uAt p 22 2 ≤ 10000) && decide (1 ≤ uAt p 24 2) && decide (uAt p 24 2 ≤ 1000) && decide (77 ≤ uAt p 26 1) &&
    decide (uAt p 26 1 ≤ 230) && decide (1 ≤ uAt p 27 1) && decide (uAt p 27 1 ≤ 2)
  if !okp then refuse stBadParam s
  else if !axQuiet (axOf s n) then refuse stBadState s
  else ok (setAx n (fun a => { a with
    scale := sc, iRun := run, iHold := uAt p 10 2, iHome := home, iOc := oc, tOff := uAt p 16 1, tBlank := uAt p 17 1, tOnMax := uAt p 18 1
    fastRise := uAt p 19 1, fastFall := uAt p 20 1, tStand := uAt p 22 2, tRamp := uAt p 24 2, stallRatio := uAt p 26 1
    stallSteps := uAt p 27 1 }) s)

/-- AXIS_DRIVE_CONFIG (09 R361). -/
def execAxisDriveConfig (c : Cmd) (s : State) : Host.Outcome State Fault Refusal := done (command 0x0802 28 0 none axisDriveConfig c s)

/-- AXIS_LIMIT_CONFIG. -/
def axisLimitConfig (p : List Byte) (s : State) : Reply × State :=
  let n := uAt p 0 1
  let f := uAt p 1 1
  if decide (8 ≤ n) || decide (16 ≤ f) then refuse stBadParam s
  else if !axQuiet (axOf s n) then refuse stBadState s
  else ok (setAx n (fun a => { a with
    loEn := bit f 0, hiEn := bit f 1, loHigh := bit f 2, hiHigh := bit f 3 }) s)

/-- AXIS_LIMIT_CONFIG (09 R352, R359). -/
def execAxisLimitConfig (c : Cmd) (s : State) : Host.Outcome State Fault Refusal := done (command 0x0803 2 0 none axisLimitConfig c s)

/-- START of a move (09 R340): none where it is STALE. -/
def startOf (p : List Byte) (s : State) : Option Nat :=
  let now := dtNow s
  if zeros p 8 12 then some (padTo (tideP s) (now + tideP s))
  else if dtAt p 8 < now + tideP s then none else some (dtAt p 8)

/-- A move entered in the order of START (09 R340). -/
def insertMove (m : AxMove) : List AxMove → List AxMove
  | [] => [m]
  | x :: r => if m.start < x.start then m :: x :: r else x :: insertMove m r

/-- The checks that AXIS_MOVE and AXIS_RESUME share, and the move entered (09 R335, R340, R353). -/
def planMove (n op : Nat) (goal : Int) (c : Cmd) (p : List Byte) (s : State) : Reply × State :=
  let a := axOf s n
  if goal < -2147483647 || 2147483647 < goal then refuse stBadParam s
  else if a.homed && (decide (goal < a.softLo) || decide (a.softHi < goal)) then refuse 0x0883 s
  else match startOf p s with
    | none => refuse stStale s
    | some t =>
      if goal != a.pos && limitIn (towards goal a) a then refuse 0x0882 s
      else (.later, setAx n (fun a => { a with moves := insertMove { start := t, target := goal, opcode := op, mbx := c.mbx, slot := c.slot, tag := c.tag.toNat } a.moves }) s)

/-- AXIS_MOVE; a distance counts from POSITION as the command executes (log entry 69). -/
def axisMove (c : Cmd) (p : List Byte) (s : State) : Reply × State :=
  let n := uAt p 0 1
  let a := axOf s n
  let rel := uAt p 1 1
  let goal := if rel == 1 then a.pos + iAt p 4 4 else iAt p 4 4
  if decide (8 ≤ n) || decide (2 ≤ rel) || !dtOk p 8 || decide (goal < -2147483647) || decide (2147483647 < goal) then refuse stBadParam s
  else if startsHeld s || stopInForce s then refuse stBadState s
  else match a.st with
    | .disabled => refuse 0x0880 s
    | .fault => refuse 0x0881 s
    | .stopping | .homing => refuse stBadState s
    | _ => planMove n 0x0804 goal c p s

/-- AXIS_MOVE (09 R340, R341): it completes when it takes effect at START. -/
def execAxisMove (c : Cmd) (s : State) : Host.Outcome State Fault Refusal := done (commandC 0x0804 20 0 none axisMove c s)

/-- AXIS_STOP. -/
def axisStop (p : List Byte) (s : State) : Reply × State :=
  let n := uAt p 0 1
  if n == 0xFF then ok ((List.range 8).foldl (fun st k => haltAxis k 0 (axOf st k).dec st) s)
  else if 8 ≤ n then refuse stBadParam s
  else ok (haltAxis n 0 (axOf s n).dec s)

/-- AXIS_STOP (09 R343). -/
def execAxisStop (c : Cmd) (s : State) : Host.Outcome State Fault Refusal := done (command 0x0805 1 0 none axisStop c s)

/-- The cause of a stop is still present (09 R343, R344). -/
def causePresent (a : Axis) (s : State) : Bool :=
  match a.cause with
  | 1 => stopInForce s || s.power.pfwAt.isSome
  | 2 => !s.cor.checkOk
  | 3 => s.time.refLost
  | _ => false

/-- A STOPPED axis may be resumed towards its target (09 R343, R344). -/
def resumable (a : Axis) : Bool :=
  a.st == .stopped && a.cause != 7 && a.cause != 6 && !(a.cause == 4 && a.pos != a.target && towards a.target a == a.side)

/-- AXIS_RESUME. -/
def axisResume (c : Cmd) (p : List Byte) (s : State) : Reply × State :=
  let n := uAt p 0 1
  let a := axOf s n
  if decide (8 ≤ n) || !dtOk p 8 then refuse stBadParam s
  else if startsHeld s then refuse stBadState s
  else if !resumable a then refuse 0x0884 s
  else if causePresent a s || stopInForce s then refuse stBadState s
  else planMove n 0x0806 a.target c p s

/-- AXIS_RESUME (09 R344). -/
def execAxisResume (c : Cmd) (s : State) : Host.Outcome State Fault Refusal := done (commandC 0x0806 20 0 none axisResume c s)

/-- AXIS_HOME. -/
def axisHome (p : List Byte) (s : State) : Reply × State :=
  let n := uAt p 0 1
  let m := uAt p 1 1
  let v := uAt p 4 4
  let a := axOf s n
  let cliff := decide (2 ≤ m)
  if decide (8 ≤ n) || decide (4 ≤ m) || decide (v == 0) || decide (a.vMax < v) || (cliff && (decide (v < 12800) || decide (256000 < v))) ||
      decide (uAt p 20 2 == 0) || decide (600 < uAt p 20 2) then refuse stBadParam s
  else if startsHeld s || stopInForce s || !(a.st == .idle || a.st == .stopped) then refuse stBadState s
  else
    if (limitIn false a && limitIn true a && !cliff) || (cliff && limitIn (seekUp m) a) then refuse 0x0882 s
    else
      let now := dtNow s
      let h : Homing := { method := m, speed := v, offset := iAt p 8 4, park := iAt p 12 4, maxDist := uAt p 16 4, timeout := uAt p 20 2
                          ph := .seek, startAt := now, org := a.pos }
      let s1 := setEn n true (setAx n (fun a => { a with st := .homing, home := some h, planTo := now + 2 * tideP s }) (abortMoves n s))
      if !cliff && limitIn (seekUp m) a then
        accepted (setAx n (fun a => { launch now (if seekUp m then a.pos - 1 else a.pos + 1) v a with home := some { h with ph := .away } }) s1)
      else accepted (startSeek n now h s1)

/-- AXIS_HOME (09 R355, R356). -/
def execAxisHome (c : Cmd) (s : State) : Host.Outcome State Fault Refusal := done (command 0x0807 22 0 none axisHome c s)

/-- AXIS_ENABLE. -/
def axisEnable (p : List Byte) (s : State) : Reply × State :=
  let n := uAt p 0 1
  let v := uAt p 1 1
  let a := axOf s n
  if decide (8 ≤ n) || decide (2 ≤ v) then refuse stBadParam s
  else match a.st with
    | .fault => refuse 0x0881 s
    | .disabled =>
      if v == 0 then ok s
      else if debugHold s || noService s then refuse stBadState s
      else
        let s1 := setEn n true (setAx n (fun a => { a with st := .idle, target := a.pos, ramp := some (dtNow s, 0), still := some (dtNow s) }) s)
        ok (emitSp n (dtNow s) s1)
    | .idle | .stopped =>
      if v == 0 then ok (disableAxis n s)
      else if a.en then ok s
      else if debugHold s || noService s then refuse stBadState s
      else ok (emitSp n (dtNow s) (setEn n true (setAx n (fun a => { a with ramp := some (dtNow s, 0) }) s)))
    | _ => if v == 0 then refuse stBadState s else ok s

/-- AXIS_ENABLE (09 R350, R359). -/
def execAxisEnable (c : Cmd) (s : State) : Host.Outcome State Fault Refusal := done (command 0x0808 2 0 none axisEnable c s)

/-- AXIS_SET_POSITION. -/
def axisSetPosition (p : List Byte) (s : State) : Reply × State :=
  let n := uAt p 0 1
  if decide (8 ≤ n) || decide (2 ≤ uAt p 1 1) then refuse stBadParam s
  else if !axQuiet (axOf s n) then refuse stBadState s
  else ok (setAx n (fun a => { a with
    pos := iAt p 4 4, hist := [], homed := a.homed || bit (uAt p 1 1) 0
    target := if a.st == .stopped then a.target else iAt p 4 4 }) s)

/-- AXIS_SET_POSITION (09 R358, R359). -/
def execAxisSetPosition (c : Cmd) (s : State) : Host.Outcome State Fault Refusal := done (command 0x0809 8 0 none axisSetPosition c s)

/-- STATE of AXIS_STATUS (09 R362). -/
def axCode : AxSt → Nat
  | .disabled => 0
  | .idle => 1
  | .moving => 2
  | .stopping => 3
  | .stopped => 4
  | .homing => 5
  | .fault => 6

/-- The result of AXIS_STATUS (09 R362). -/
def axisStatusBytes (n : Nat) (s : State) : List Byte :=
  let a := axOf s n
  let now := dtNow s
  let v : Int := if a.up then (isqrt a.v2 : Int) else -(isqrt a.v2 : Int)
  le 1 (axCode a.st) ++
  le 1 (bitIf a.homed 0 + bitIf (limitIn false a) 1 + bitIf (limitIn true a) 2 + bitIf (holding now a) 3 + bitIf (resumable a) 4) ++
  le 1 a.cause ++ le 1 a.res ++ leI 4 a.pos ++ leI 4 a.target ++ leI 4 (remain a) ++ leI 4 v ++ le 4 a.overshoot ++ le 2 (iSet now a) ++
  le 1 (satN 255 (recentEdges now a.loEdges).length) ++ le 1 (satN 255 (recentEdges now a.hiEdges).length) ++ le 2 a.frac ++ [0, 0]

/-- AXIS_STATUS. -/
def axisStatus (p : List Byte) (s : State) : Reply × State :=
  if 8 ≤ uAt p 0 1 then refuse stBadParam s else okWith (axisStatusBytes (uAt p 0 1) s) s

/-- AXIS_STATUS (09 R362). -/
def execAxisStatus (c : Cmd) (s : State) : Host.Outcome State Fault Refusal := done (command 0x080A 1 32 none axisStatus c s)

/-- AXIS_FAULT_CLEAR. -/
def axisFaultClear (p : List Byte) (s : State) : Reply × State :=
  let n := uAt p 0 1
  let a := axOf s n
  let now := dtNow s
  if 8 ≤ n then refuse stBadParam s
  else if a.st != .fault then refuse stBadState s
  else if a.cause == 6 && (decide (8 < (recentEdges now a.loEdges).length) || decide (8 < (recentEdges now a.hiEdges).length)) then refuse 0x0881 s
  else ok (raise { code := 0x080C, sev := 2, p0 := n, p1 := a.cause } (setAx n (fun a => { a with st := .disabled, still := none, ramp := none, openA := 0, openB := 0 }) s))

/-- AXIS_FAULT_CLEAR (09 R354, R359). -/
def execAxisFaultClear (c : Cmd) (s : State) : Host.Outcome State Fault Refusal := done (command 0x080B 1 0 none axisFaultClear c s)

end Sys2Proof.Machine
end

