-- ==== Sys2Proof/Machine/Time.lean ====
section
/-!
DEFINITION. Tide and time (file 02): the events of the timebase island and the TIME commands. TIDE_BOUNDARY and REF_LOST, which
act on every subsystem, stand in Tide.lean.
-/
namespace Sys2Proof.Machine

/-! ## Events of the island -/

/-- REF_IN is present again and the PLL has been locked for 100 ms (02 R53). -/
def doRefRestored (lockUs : Nat) (s : State) : State :=
  if !s.time.refLost then s
  else raise { code := 0x0208, sev := 2, p0 := lockUs % 2 ^ 32 } { s with time := { s.time with refLost := false, refFrom := some (s.time.cyc - cycMs 100) } }

/-- REF_RESTORED (02 R53). -/
def execRefRestored (lockUs : Nat) (s : State) : Host.Outcome State Fault Refusal := done (doRefRestored lockUs s)

/-- The whole second of a time (2^-16 ns) that lies nearest, in seconds (02 R77). -/
def nearestSec (t : Nat) : Nat := (t + sec1 / 2) / sec1

/-- An accepted PPS pulse as a phase measurement of the domain that uses the pin (02 R56, R61, R77). -/
def ppsMeasure (pin : Nat) (sub : Int) (s : State) : State :=
  match domFrom s (2 + pin) with
  | none => s
  | some k =>
    if s.time.timeUnset then s
    else
      let d := domOf s.time k
      let at_ := ((domNow d : Int) + sub).toNat
      measure k ((at_ : Int) - (sec1 * nearestSec at_ : Nat) - 1024 * d.delay) at_ (some d.floorNs) s

/-- One capture unit takes an edge: its entry joins the queue, or is dropped and counted where 16 are held (02 R84). A dropped capture takes no
sequence number (log entry 57). -/
def captureOn (k : Nat) (falling : Bool) (dt : Nat) (s : State) : State :=
  match s.time.caps[k]? with
  | none => s
  | some q =>
    if q.queue.length < 16 then
      { s with time := { s.time with caps := lmod s.time.caps k (fun q =>
        { q with queue := q.queue ++ [{ dt := dt, edge := b1 falling, seq := q.seq }], seq := (q.seq + 1) % 65536 }) } }
    else
      raise { code := 0x020C, sev := 3, p0 := k, p1 := (q.dropped + 1) % 2 ^ 32 }
        { s with time := { s.time with caps := lmod s.time.caps k (fun q => { q with dropped := (q.dropped + 1) % 2 ^ 32 }) } }

/-- Device Time of a capture, `frac` 1/64 ns into the present cycle: FRACTION bits [9:0] are zero (02 R54). -/
def capTime (frac : Nat) (s : State) : Nat := 1024 * (dtNow s / 1024 + frac % 128)

/-- A capture on one of firmware's units CAP_0 to CAP_3 (02 R84): the entry joins its queue, and firmware takes what the queue holds in the same
row, so that its queue never fills (log entry 57). -/
def firmwareCapture (k : Nat) (falling : Bool) (dt : Nat) (s : State) : State :=
  let s1 := captureOn k falling dt s
  { s1 with time := { s1.time with caps := lmod s1.time.caps k (fun q => { q with queue := [] }) } }

/-- A PPS_IN edge, `frac` 1/64 ns into the present cycle (02 R76, R77, R54): CAP_0 or CAP_1 stamps it (R84). -/
def doPpsInCapture (pin : Nat) (falling : Bool) (frac : Nat) (s0 : State) : State :=
  match s0.time.ppsIn[pin]? with
  | none => s0
  | some p =>
    if p.edge == b1 (!falling) then s0
    else
      let s := firmwareCapture pin falling (capTime frac s0) s0
      let dt := (capTime frac s : Int) - 1024 * p.delay
      let sub := (1024 * (frac % 128) : Int) - 1024 * p.delay
      let usedLocked := match domFrom s (2 + pin) with
        | some k => if (domOf s.time k).st == .locked then some k else none
        | none => none
      let tooSoon := p.lastAcc.isSome && decide (s.time.cyc < p.lastCyc + cycMs 500)
      let off : Int := match usedLocked with
        | some k => let t := ((domNow (domOf s.time k) : Int) + sub).toNat; (t : Int) - (sec1 * nearestSec t : Nat)
        | none => dt - (sec1 * nearestSec dt.toNat : Nat)
      if tooSoon then raise { code := 0x020A, sev := 3, p0 := pin, p1 := w32 (off.tdiv 65536), p2 := 0 } s
      else if usedLocked.isSome && decide ((us1 * p.windowUs : Nat) < off.natAbs) then
        raise { code := 0x020A, sev := 3, p0 := pin, p1 := w32 (off.tdiv 65536), p2 := 1 } s
      else
        ppsMeasure pin sub { s with time := { s.time with
          ppsIn := lmod s.time.ppsIn pin (fun q => { q with lastAcc := some dt.toNat, lastCyc := s.time.cyc, missing := false }) } }

/-- PPS_IN_CAPTURE (02 R76). -/
def execPpsInCapture (pin : Nat) (falling : Bool) (frac : Nat) (s : State) : Host.Outcome State Fault Refusal :=
  done (doPpsInCapture pin falling frac s)

/-- No valid measurement for SOURCE_TIMEOUT in ACQUIRE or LOCKED (02 R60). -/
def doSourceTimeout (dom : Nat) (s : State) : State :=
  let d := domOf s.time dom
  if decide (1 < dom) || !(d.st == .acquire || d.st == .locked) then s
  else loseSource dom 0 (runToCyc (d.lastCyc + cycMs d.timeoutMs) s)

/-- SOURCE_TIMEOUT (02 R60). -/
def execSourceTimeout (dom : Nat) (s : State) : Host.Outcome State Fault Refusal := done (doSourceTimeout dom s)

/-- In AUTO, domain A has been LOCKED for 10 s without interruption while the output follows B (02 R62). -/
def doDomainALockHold (s : State) : State :=
  match s.time.a.lockedFrom with
  | some c => if s.time.auto && s.time.followB && s.time.a.st == .locked then follow false (runToCyc (c + cycMs 10000) s) else s
  | none => s

/-- DOMAIN_A_LOCK_HOLD (02 R62). -/
def execDomainALockHold (s : State) : Host.Outcome State Fault Refusal := done (doDomainALockHold s)

/-- TQ_TEST (02 R70). -/
def execTqTest (s : State) : Host.Outcome State Fault Refusal := done (tqTest s)

/-- The RTC takes Device Time once TIME_UNSET is clear, and every second after that (02 R61). -/
def doRtcWrite (s : State) : State := if s.time.timeUnset then s else { s with time := { s.time with rtc := some (dtNow s) } }

/-- RTC_WRITE (02 R61). -/
def execRtcWrite (s : State) : Host.Outcome State Fault Refusal := done (doRtcWrite s)

/-- The time that a PPS output follows, 2^-16 ns, and its state (02 R72, R73): code 0 Device Time, 1 domain A, 2 domain B (log entry 57). -/
def ppsTime (p : PpsOut) (s : State) : Nat × DState :=
  (if p.time == 1 then domNow s.time.a else if p.time == 2 then domNow s.time.b else dtNow s, ppsState p s)

/-- Time runs until the time a PPS output follows reaches an instant. -/
def runPps (p : PpsOut) (target : Nat) (s : State) : State :=
  let d := if p.time == 1 then s.time.a else s.time.b
  if p.time == 1 || p.time == 2 then advance ((2 ^ 23 * target - d.acc + incOf d - 1) / max (incOf d) 1) s else runTo target s

/-- Width of the pulse to be armed, us (02 R72, R73). -/
def ppsWidth (p : PpsOut) (st : DState) : Nat :=
  if !p.coding then p.widthUs
  else match st with | .locked => 100000 | .acquire => 100000 | .holdover => 300000 | .freerun => 500000

/-- The second of the next pulse: the next whole second at least 500 ms of elapsed time after the previous pulse (02 R75). -/
def ppsNextSec (p : PpsOut) (s : State) : Nat :=
  let now := (ppsTime p s).1
  let next := if decide (now ≤ ppsAt p (now / sec1 + 1)) then now / sec1 + 1 else now / sec1 + 2
  match p.lastCyc with
  | none => next
  | some c => if cycMs 500 ≤ (s.time.cyc - c) + (ppsAt p next - now) / (2 * ns1) then next else next + 1

/-- 1 ms before the second the island arms the pulse (02 R75); quiet in FREERUN it does not (02 R74). -/
def doPpsOutArm (pin : Nat) (s : State) : State :=
  match s.time.ppsOut[pin]? with
  | none => s
  | some p =>
    if p.armed.isSome then s
    else
      let sec := ppsNextSec p s
      let s1 := runPps p (sec1 * sec - ms1) s
      let st := (ppsTime p s1).2
      if p.quiet && st == .freerun then s1
      else { s1 with time := { s1.time with ppsOut := lmod s1.time.ppsOut pin (fun q => { q with armed := some (sec, ppsWidth p st) }) } }

/-- PPS_OUT_ARM (02 R75). -/
def execPpsOutArm (pin : Nat) (s : State) : Host.Outcome State Fault Refusal := done (doPpsOutArm pin s)

/-- The active edge of an armed pulse, at the second plus the offset (02 R72, R75). -/
def doPpsOutActiveEdge (pin : Nat) (s : State) : State :=
  match s.time.ppsOut[pin]? with
  | none => s
  | some p => match p.armed with
    | none => s
    | some (sec, w) =>
      let at_ := ppsAt p sec
      let s1 := runPps p at_ s
      let quiet := p.quiet && (ppsTime p s1).2 == .freerun
      let s2 := { s1 with time := { s1.time with ppsOut := lmod s1.time.ppsOut pin (fun q =>
        if quiet then { q with armed := none }
        else { q with armed := none, active := true, offAt := some (at_ + us1 * w), lastCyc := some s1.time.cyc }) } }
      if quiet then s2 else ppsDrive pin true at_ s2

/-- PPS_OUT_ACTIVE_EDGE (02 R72). -/
def execPpsOutActiveEdge (pin : Nat) (s : State) : Host.Outcome State Fault Refusal := done (doPpsOutActiveEdge pin s)

/-- The inactive edge, one width after the active edge (02 R72). -/
def doPpsOutInactiveEdge (pin : Nat) (s : State) : State :=
  match s.time.ppsOut[pin]? with
  | none => s
  | some p => match p.offAt with
    | none => s
    | some t =>
      let s1 := runPps p t s
      ppsDrive pin false t { s1 with time := { s1.time with ppsOut := lmod s1.time.ppsOut pin (fun q => { q with active := false, offAt := none }) } }

/-- PPS_OUT_INACTIVE_EDGE (02 R72). -/
def execPpsOutInactiveEdge (pin : Nat) (s : State) : Host.Outcome State Fault Refusal := done (doPpsOutInactiveEdge pin s)

/-- No pulse has been accepted for 1.5 s: reported once for each run (02 R77). -/
def doPpsInMissing (pin : Nat) (s : State) : State :=
  match s.time.ppsIn[pin]? with
  | none => s
  | some p =>
    if p.missing then s
    else
      let s1 := runToCyc (p.lastCyc + cycMs 1500) s
      raise { code := 0x0209, sev := 3, p0 := pin } { s1 with time := { s1.time with ppsIn := lmod s1.time.ppsIn pin (fun q => { q with missing := true }) } }

/-- PPS_IN_MISSING (02 R77). -/
def execPpsInMissing (pin : Nat) (s : State) : Host.Outcome State Fault Refusal := done (doPpsInMissing pin s)

/-- A host-assignable capture unit watches an edge of an input (02 R84): 0 rising, 1 falling, 2 both (log entry 57). -/
def capTakes (s : State) (input : Nat) (falling : Bool) (k : Nat) : Bool :=
  decide (4 ≤ k) && (match s.time.caps[k]? with
    | some q => q.input == input && (q.edge == 2 || q.edge == b1 falling)
    | none => false)

/-- An edge on a capture input (02 R84): every host-assignable unit that watches it takes it. -/
def doCaptureEdge (input : Nat) (falling : Bool) (frac : Nat) (s : State) : State :=
  let dt := capTime frac s
  ((List.range 16).filter (capTakes s input falling)).foldl (fun st k => captureOn k falling dt st) s

/-- CAPTURE_EDGE (02 R84). -/
def execCaptureEdge (input : Nat) (falling : Bool) (frac : Nat) (s : State) : Host.Outcome State Fault Refusal :=
  done (doCaptureEdge input falling frac s)

/-- The level of a GPIO under a compare unit: active is high unless the unit is active low (02 R92). -/
def gpioDrive (c : CmpUnit) (active : Bool) (rel : Nat) (s : State) : State :=
  let lvl := active != c.activeLow
  emit .pin (16 + c.gpio) rel [BitVec.ofNat 8 (b1 lvl)] { s with time := { s.time with gpio := s.time.gpio.set c.gpio (some lvl) } }

/-- The GPIO of a unit is at its active level. -/
def gpioActive (c : CmpUnit) (s : State) : Bool := s.time.gpio.getD c.gpio none == some (!c.activeLow)

/-- A unit after one of its instants: the next instant, or disarmed (02 R85). A repeat count of n means n instants in all (log entry 57). -/
def nextInstant (c : CmpUnit) : CmpUnit :=
  match c.left with
  | none => if c.periodNs == 0 then { c with armed := false } else { c with target := c.target + ns1 * c.periodNs, shortArmed := false }
  | some n => if c.periodNs == 0 || decide (n ≤ 1) then { c with armed := false, left := some 0 }
              else { c with target := c.target + ns1 * c.periodNs, left := some (n - 1), shortArmed := false }

/-- A compare unit's target falls due (02 R49, R85, R86): its action is released at the target; under a stop a STOP_QUIET unit's
instant passes unreleased. -/
def doCompareRelease (cu : Nat) (s : State) : State :=
  match s.time.cmps[cu]? with
  | none => s
  | some c =>
    if !c.armed then s
    else
      let s1 := runTo c.target s
      let n := nextInstant c
      let s2 := { s1 with time := { s1.time with cmps := lmod s1.time.cmps cu (fun q =>
        { n with pulseEnd := if c.action == 3 && !(c.stopQuiet && stopInForce s1) then some (c.target + ns1 * c.widthNs) else q.pulseEnd }) } }
      if c.stopQuiet && stopInForce s1 then s2
      else match c.action with
        | 0 => gpioDrive c true c.target s2
        | 1 => gpioDrive c false c.target s2
        | 2 => gpioDrive c (!gpioActive c s1) c.target s2
        | _ => gpioDrive c true c.target s2

/-- COMPARE_RELEASE (02 R85). -/
def execCompareRelease (cu : Nat) (s : State) : Host.Outcome State Fault Refusal := done (doCompareRelease cu s)

/-- The end of a compare pulse (02 R85). -/
def doComparePulseEnd (cu : Nat) (s : State) : State :=
  match s.time.cmps[cu]? with
  | none => s
  | some c => match c.pulseEnd with
    | none => s
    | some t =>
      let s1 := runTo t s
      gpioDrive c false t { s1 with time := { s1.time with cmps := lmod s1.time.cmps cu (fun q => { q with pulseEnd := none }) } }

/-- COMPARE_PULSE_END (02 R85). -/
def execComparePulseEnd (cu : Nat) (s : State) : Host.Outcome State Fault Refusal := done (doComparePulseEnd cu s)

/-- Every STOP_QUIET unit takes the GPIO that it drives to the inactive level at the registration of a stop, cutting a pulse short (02 R86). -/
def quietCompares (s : State) : State :=
  (List.range 16).foldl (fun st k => match st.time.cmps[k]? with
    | some c => if c.stopQuiet && c.drives && (st.time.gpio.getD c.gpio none).isSome then
        gpioDrive c false 0 { st with time := { st.time with cmps := lmod st.time.cmps k (fun q => { q with pulseEnd := none }) } }
      else st
    | none => st) s

/-- Insertion of an entry into a delay list, in order of target relative to the present time (02 R87). -/
def dlInsert (now : Nat) (e : DlEntry) : List DlEntry → List DlEntry
  | [] => [e]
  | x :: r => if diffN 32 e.target now < diffN 32 x.target now then e :: x :: r else x :: dlInsert now e r

/-- An entry handed to a delay list (02 R87): TABLE_FULL where it holds 1,024, BAD_PARAM for a target more than 2^31 - 1 LSB ahead; one already past is
inserted as LATE, due at once. The lists of firmware, DL_0 to DL_5, take entries through the same operation; no rule names one that firmware inserts
(log entry 57). -/
def dlPut (k full consumer token : Nat) (s : State) : Option Nat × State :=
  let now := dtNow s
  if 1024 ≤ (s.time.dls.getD k []).length then (some stTableFull, s)
  else if now + 2 ^ 14 * (2 ^ 31 - 1) < full then (some stBadParam, s)
  else
    let e : DlEntry := { target := stOf full, full := full, consumer := consumer, token := token, late := decide (full < now) }
    (none, { s with time := { s.time with dls := lmod s.time.dls k (dlInsert (stOf now) e) } })

/-- An alarm enters DL_6 or DL_7, whichever has room, DL_6 first (02 R88). -/
def alarmInsert (target token : Nat) (s : State) : State :=
  (dlPut (if (s.time.dls.getD 6 []).length < 1024 then 6 else 7) target 0 token s).2

/-- The first entry of a delay list falls due at its Device Time and goes to its consumer; a host alarm is raised (02 R65, R87, R88). -/
def doDelayListDelivery (list : Nat) (s : State) : State :=
  match s.time.dls.getD list [] with
  | [] => s
  | e :: r =>
    let s1 := runTo e.full s
    let s2 := { s1 with time := { s1.time with dls := lmod s1.time.dls list (fun _ => r) } }
    if list == 6 || list == 7 then raise { code := 0x020F, sev := 1, p0 := e.token, p1 := stOf (dtNow s1) } s2 else s2

/-- DELAY_LIST_DELIVERY (02 R87). -/
def execDelayListDelivery (list : Nat) (s : State) : Host.Outcome State Fault Refusal := done (doDelayListDelivery list s)

/-- A held full target comes within 500 ms: the Short Time comparison is armed, or the alarm inserted (02 R50, R88). -/
def doFullTargetArm (alarm : Bool) (index : Nat) (s : State) : State :=
  if alarm then
    match s.time.alarms[index]? with
    | none => s
    | some (t, token) =>
      let s1 := runTo (t - 500 * ms1) s
      if decide (2048 ≤ (s1.time.dls.getD 6 []).length + (s1.time.dls.getD 7 []).length) || decide (dtNow s1 + 500 * ms1 < t) then s1
      else alarmInsert t token { s1 with time := { s1.time with alarms := s1.time.alarms.eraseIdx index } }
  else
    match s.time.cmps[index]? with
    | none => s
    | some c =>
      if !c.armed || c.shortArmed then s
      else
        let s1 := runTo (c.target - 500 * ms1) s
        { s1 with time := { s1.time with cmps := lmod s1.time.cmps index (fun q => { q with shortArmed := true }) } }

/-- FULL_TARGET_ARM (02 R50). -/
def execFullTargetArm (alarm : Bool) (index : Nat) (s : State) : Host.Outcome State Fault Refusal := done (doFullTargetArm alarm index s)

/-! ## Commands -/

/-- The result of TIME_GET (02 R91). -/
def timeGetResult (s : State) : List Byte :=
  let t := s.time
  let other := if t.followB then t.a else t.b
  dtBytes (dtNow s) ++ le 4 (tq32 s) ++ le 1 (dsCode (followed s).st) ++
  le 1 (b1 t.followB + bitIf t.auto 1 + dsCode other.st * 4) ++
  le 1 (bitIf (deltaAcc t != 0) 0 + bitIf t.stepPending 1 + bitIf (!t.refLost) 2 + bitIf t.leapPending 3 + bitIf (!jobOpen s) 4 +
        bitIf (tqBad s) 5 + bitIf t.timeUnset 6) ++
  le 1 t.taiUtc ++ leI 4 (satI 32 ((deltaAcc t).tdiv (2 ^ 37 : Nat))) ++
  le 4 (if jobOpen s then t.tideNo else 0) ++ le 1 s.votes.tide.value ++ [0, 0, 0]

/-- TIME_GET (02 R91). -/
def execTimeGet (c : Cmd) (s : State) : Host.Outcome State Fault Refusal :=
  done (command 0x0201 0 32 none (fun _ s => okWith (timeGetResult s) s) c s)

/-- KP default of a source, LSB 2^-24 per s (02 R59). -/
def kpDefault (src : Nat) : Nat := [0, 4747952, 1186149, 1186149, 2365587, 2365587, 23722983, 1186149].getD src 0
/-- KI default of a source, LSB 2^-24 per s^2 (02 R59). -/
def kiDefault (src : Nat) : Nat := [0, 671089, 41943, 41943, 167772, 167772, 16777216, 41943].getD src 0
/-- SOURCE_TIMEOUT default of a source, ms (02 R59). -/
def timeoutDefault (src : Nat) : Nat := if src == 2 || src == 3 then 3500 else 3000

/-- KP x tau exceeds 0.5 for the source's nominal interval (02 R59): tau as (log2 of the interval in s) for PTP. -/
def kpTooHigh (src kp : Nat) (ptpLog : Int) : Bool :=
  let limit := 2 ^ 23  -- 0.5 with LSB 2^-24
  if src == 1 then decide (limit * 10 < kp)
  else if src == 6 then decide (100 * limit < kp)
  else if src == 4 || src == 5 then
    (if ptpLog < 0 then decide (limit * 2 ^ ptpLog.natAbs < kp) else decide (limit < kp * 2 ^ ptpLog.toNat))
  else if src == 0 then false
  else decide (limit < kp)

/-- A field where zero selects the default: none where another value lies outside its range (02 R90). -/
def orDefault (v lo hi dflt : Nat) : Option Nat := if v == 0 then some dflt else if decide (lo ≤ v) && decide (v ≤ hi) then some v else none

/-- A domain whose SOURCE is set to NONE (02 R60): without a learned drift it enters FREERUN; with one it leaves ACQUIRE and LOCKED for HOLDOVER and
stays where it is in FREERUN and HOLDOVER. -/
def noSource (k : Nat) (s : State) : State :=
  let d := domOf s.time k
  if (learned s.time d).isNone || d.st == .acquire || d.st == .locked then loseSource k 2 s else s

/-- The body of TIME_DOMAIN_CONFIG (02 R55, R59, R60, R90, R93). Both domains may name NONE, and a domain that is given another source keeps its state
until a measurement or SOURCE_TIMEOUT moves it (log entry 57). -/
def timeDomainConfig (p : List Byte) (s : State) : Reply × State :=
  let k := uAt p 0 1
  let src := uAt p 1 1
  let kp := if uAt p 4 4 == 0 then kpDefault src else uAt p 4 4
  let ki := if uAt p 8 4 == 0 then kiDefault src else uAt p 8 4
  let d := domOf s.time k
  let ptpLog := match s.net.ptp[src - 4]? with | some q => (if q.configured then q.logSync else 0) | none => 0
  match orDefault (uAt p 12 4) 10 1000000 1000, orDefault (uAt p 16 4) 100 60000 (timeoutDefault src),
        orDefault (uAt p 28 4) 10 1000000 100, orDefault (uAt p 32 2) 1 10000 50 with
  | some gate, some tmo, some align, some lock =>
    if decide (1 < k) || decide (7 < src) || !zeros p 2 2 || !zeros p 34 2 || decide (255 * 2 ^ 24 < kp) || decide (255 * 2 ^ 24 < ki) ||
       (src != 0 && (domOf s.time (1 - k)).source == src) || kpTooHigh src kp ptpLog then refuse stBadParam s
    else if !sourceServes src s then refuse 0x0281 s
    else if (k == b1 s.time.followB) && !engineIdle s then refuse stBadState s
    else
      let same := src == d.source
      let d1 := { d with source := src, kp := kp, ki := ki, gateNs := gate, timeoutMs := tmo, delay := iAt p 20 4, floorNs := uAt p 24 4,
                         alignNs := align, lockNs := lock, inLimit := if same then d.inLimit else 0,
                         rejects := if same then d.rejects else 0, lastT := if same then d.lastT else none }
      let s1 := setDom k d1 s
      ok (if src == 0 then noSource k s1 else s1)
  | _, _, _, _ => refuse stBadParam s

/-- TIME_DOMAIN_CONFIG (02 R90). -/
def execTimeDomainConfig (c : Cmd) (s : State) : Host.Outcome State Fault Refusal :=
  done (command 0x0202 36 0 none timeDomainConfig c s)

/-- The body of TIME_SELECT (02 R62, R89). -/
def timeSelect (p : List Byte) (s : State) : Reply × State :=
  let mode := uAt p 0 1
  let d := uAt p 1 1
  if decide (1 < mode) || decide (1 < d) then refuse stBadParam s
  else if mode == 0 then ok (follow (d == 1) { s with time := { s.time with auto := false } })
  else ok (reselect { s with time := { s.time with auto := true } })

/-- TIME_SELECT (02 R62). -/
def execTimeSelect (c : Cmd) (s : State) : Host.Outcome State Fault Refusal := done (command 0x0203 2 0 none timeSelect c s)

/-- The segment of the increment history in which the output passed an instant (02 R89). -/
def histSeg (t : TimeSt) (acc : Nat) : Option Seg := t.hist.find? (fun g => decide (g.out ≤ acc))

/-- A domain's time at a past instant of Device Time, exactly from the increments kept (02 R89); the device clock of an instant
before the segment's end. -/
def domAtInstant (t : TimeSt) (k inst : Nat) : Option Nat :=
  let acc := 2 ^ 23 * inst
  if acc == t.out || (t.out / 2 ^ 23 == inst) then some (domNow (domOf t k))
  else (histSeg t acc).map (fun g =>
    let base := if k == 0 then g.a else g.b
    let inc := if k == 0 then g.incA else g.incB
    (base + (acc - g.out) * inc / max g.incOut 1) / 2 ^ 23)

/-- The body of TIME_MEASURE (02 R89). -/
def timeMeasure (p : List Byte) (s : State) : Reply × State :=
  let k := uAt p 0 1
  let inst := dtAt p 16
  if decide (1 < k) || !zeros p 1 3 || !dtOk p 4 || !dtOk p 16 then refuse stBadParam s
  else if (domOf s.time k).source != 7 then refuse stBadState s
  else if decide (dtNow s < inst) || decide (inst + 2 * sec1 < dtNow s) then refuse stStale s
  else match domAtInstant s.time k inst with
    | none => refuse stStale s
    | some dom => ok (measure k ((dom : Int) - dtAt p 4 - 1024 * (domOf s.time k).delay) dom (some (domOf s.time k).floorNs) s)

/-- TIME_MEASURE (02 R89). -/
def execTimeMeasure (c : Cmd) (s : State) : Host.Outcome State Fault Refusal := done (command 0x0204 28 0 none timeMeasure c s)

/-- A domain re-enters ACQUIRE after TIME_SET where it has a source (02 R89); while REF_IN is lost no domain leaves FREERUN (R53). -/
def afterSet (t : TimeSt) (v : Nat) (d : Domain) : Domain :=
  let d1 := { unlockDom t d with acc := 2 ^ 23 * v, lastT := none, measured := false, lastCyc := t.cyc }
  if d.source == 0 || t.refLost then { d1 with st := d.st } else { d1 with st := .acquire, mayAlign := true }

/-- The body of TIME_SET (02 R64, R67, R89). -/
def timeSet (p : List Byte) (s : State) : Reply × State :=
  if !dtOk p 0 then refuse stBadParam s
  else if !engineIdle s then refuse 0x0280 s
  else
    let v := dtAt p 0
    let tq := uAt p 12 4
    let s0 := ppsDomainStep 1 (domNow s.time.b) v (ppsDomainStep 0 (domNow s.time.a) v s)
    let s1 := stepOut v s0
    let t := s1.time
    ok (tqTest { s1 with time := { t with a := afterSet t v t.a, b := afterSet t v t.b, timeUnset := false
                                          tqSet := some (if tq == 0xFFFFFFFF then none else some tq, t.cyc) } })

/-- TIME_SET (02 R89). -/
def execTimeSet (c : Cmd) (s : State) : Host.Outcome State Fault Refusal := done (command 0x0205 16 0 none timeSet c s)

/-- The body of TIME_PPS_OUT_CONFIG (02 R72, R89). -/
def timePpsOutConfig (p : List Byte) (s : State) : Reply × State :=
  let pin := uAt p 0 1
  let fl := uAt p 2 1
  let w := uAt p 4 4
  let off := iAt p 8 4
  if decide (1 < pin) || decide (2 < uAt p 1 1) || decide (7 < fl) || !zeros p 3 1 || w == 0 || decide (500000 < w) ||
     decide (64000000 < off.natAbs) then refuse stBadParam s
  else
    let s1 := { s with time := { s.time with ppsOut := lmod s.time.ppsOut pin (fun q =>
      { q with time := uAt p 1 1, activeLow := bit fl 0, coding := bit fl 1, quiet := bit fl 2, widthUs := w, offset := off, armed := none }) } }
    ok (if (s.time.ppsOut.getD pin {}).activeLow != bit fl 0 then ppsDrive pin (s.time.ppsOut.getD pin {}).active 0 s1 else s1)

/-- TIME_PPS_OUT_CONFIG (02 R72). -/
def execTimePpsOutConfig (c : Cmd) (s : State) : Host.Outcome State Fault Refusal := done (command 0x0206 12 0 none timePpsOutConfig c s)

/-- The body of TIME_PPS_IN_CONFIG (02 R76, R89). -/
def timePpsInConfig (p : List Byte) (s : State) : Reply × State :=
  let pin := uAt p 0 1
  let w := uAt p 8 4
  if decide (1 < pin) || decide (1 < uAt p 1 1) || !zeros p 2 2 || w == 0 || decide (100000 < w) then refuse stBadParam s
  else ok { s with time := { s.time with ppsIn := lmod s.time.ppsIn pin (fun q => { q with edge := uAt p 1 1, delay := iAt p 4 4, windowUs := w }) } }

/-- TIME_PPS_IN_CONFIG (02 R76). -/
def execTimePpsInConfig (c : Cmd) (s : State) : Host.Outcome State Fault Refusal := done (command 0x0207 12 0 none timePpsInConfig c s)

/-- The body of TIME_EPOCH_SET (02 R46, R81, 06 R222). -/
def timeEpochSet (p : List Byte) (s : State) : Reply × State :=
  let e := uAt p 6 6
  if !zeros p 0 6 || decide (sec1 * e + 2 ^ 32 * tideP s < dtNow s) then refuse stBadParam s
  else if jobBusy s then refuse stBadState s
  else
    let s1 := { s with time := { s.time with epoch := some e } }
    ok (raise { code := 0x0210, sev := 1, p0 := s.votes.tide.value, p1 := (tideAt s1 (dtNow s1)).getD 0, p2 := 1 } s1)

/-- TIME_EPOCH_SET (02 R81). -/
def execTimeEpochSet (c : Cmd) (s : State) : Host.Outcome State Fault Refusal := done (command 0x0209 12 0 none timeEpochSet c s)

/-- The body of TIME_HOLDOVER_CONFIG (02 R63, R64, R68 to R70, R89). -/
def timeHoldoverConfig (p : List Byte) (s : State) : Reply × State :=
  match orDefault (uAt p 0 4) 10 10000000 1000, orDefault (uAt p 4 1) 1 50 50, orDefault (uAt p 8 4) 60 86400 600,
        orDefault (uAt p 16 4) 100 1000000000 1000 with
  | some st, some sl, some lw, some tq =>
    -- AGEING_BOUND at most 10^-12 per s, LSB 2^-64
    if !zeros p 5 3 || decide (18446744 < uAt p 12 4) then refuse stBadParam s
    else ok (tqTest (deferStep { s with time := { s.time with stepThreshUs := st, slewMaxPpm := sl, learnWindowS := lw, ageing := uAt p 12 4, tqLimit := tq } }))
  | _, _, _, _ => refuse stBadParam s

/-- TIME_HOLDOVER_CONFIG (02 R89). -/
def execTimeHoldoverConfig (c : Cmd) (s : State) : Host.Outcome State Fault Refusal := done (command 0x020A 20 0 none timeHoldoverConfig c s)

/-- The body of TIME_CAPTURE_CONFIG (02 R84, R89). -/
def timeCaptureConfig (p : List Byte) (s : State) : Reply × State :=
  let k := uAt p 0 1
  let inp := uAt p 1 1
  if decide (k < 4) || decide (15 < k) || (decide (16 < inp) && inp != 255) || decide (2 < uAt p 2 1) then refuse stBadParam s
  else ok { s with time := { s.time with caps := lmod s.time.caps k (fun q => { q with input := inp, edge := uAt p 2 1 }) } }

/-- TIME_CAPTURE_CONFIG (02 R84). -/
def execTimeCaptureConfig (c : Cmd) (s : State) : Host.Outcome State Fault Refusal := done (command 0x020B 3 0 none timeCaptureConfig c s)

/-- The 16 bytes of a capture entry (02 R89). -/
def capBytes (k : Nat) (e : CapEntry) : List Byte := dtBytes e.dt ++ le 1 k ++ le 1 e.edge ++ le 2 e.seq

/-- The body of TIME_CAPTURE_READ: up to two entries leave the queue (02 R89). -/
def timeCaptureRead (p : List Byte) (s : State) : Reply × State :=
  let k := uAt p 0 1
  match s.time.caps[k]? with
  | none => refuse stBadParam s
  | some q => okWith ((q.queue.take 2).map (capBytes k)).flatten
      { s with time := { s.time with caps := lmod s.time.caps k (fun q => { q with queue := q.queue.drop 2 }) } }

/-- TIME_CAPTURE_READ (02 R89). -/
def execTimeCaptureRead (c : Cmd) (s : State) : Host.Outcome State Fault Refusal := done (command 0x020C 1 32 none timeCaptureRead c s)

/-- A unit is armed: an instant of it lies ahead, or its pulse runs (02 R85). -/
def cmpArmed (c : CmpUnit) : Bool := c.armed || c.pulseEnd.isSome

/-- Another compare unit is armed on a GPIO (02 R92). -/
def gpioTaken (s : State) (k g : Nat) : Bool :=
  (List.range 16).any (fun j => j != k && (match s.time.cmps[j]? with | some c => cmpArmed c && c.gpio == g | none => false))

/-- The units as one of them is armed on a GPIO: it alone drives that GPIO from then on. -/
def cmpTakes (k : Nat) (c : CmpUnit) (l : List CmpUnit) : List CmpUnit :=
  (l.map (fun (q : CmpUnit) => if q.gpio == c.gpio then { q with drives := false } else q)).set k { c with drives := true }

/-- The body of TIME_COMPARE_ARM (02 R51, R85, R86, R92). The GPIO goes to its inactive level at its first arming and, under a stop, where STOP_QUIET is
set; else it keeps its level (log entry 57). -/
def timeCompareArm (p : List Byte) (s : State) : Reply × State :=
  let k := uAt p 0 1
  let act := uAt p 1 1
  let fl := uAt p 2 1
  let g := uAt p 3 1
  let target := dtAt p 4
  let w := uAt p 16 4
  let per := uAt p 20 8
  let rep := uAt p 28 4
  if decide (15 < k) || decide (3 < act) || decide (3 < fl) || decide (15 < g) || !dtOk p 4 ||
     (per != 0 && (decide (per < 1000) || decide (10000000000 < per))) ||
     (act == 3 && (decide (w < 10) || decide (1000000000 < w) || (per != 0 && decide (per ≤ w)))) then refuse stBadParam s
  else
    if cmpArmed (s.time.cmps.getD k {}) || gpioTaken s k g then refuse stBadState s
    else if decide (target < dtNow s) then refuse stStale s
    else
      let c : CmpUnit := { armed := true, action := act, gpio := g, stopQuiet := bit fl 0, activeLow := bit fl 1, target := target,
                           shortArmed := decide (target ≤ dtNow s + 500 * ms1), widthNs := w, periodNs := per,
                           left := if rep == 0 then none else some rep }
      let s1 := { s with time := { s.time with cmps := cmpTakes k c s.time.cmps } }
      ok (if (s.time.gpio.getD g none).isNone || (c.stopQuiet && stopInForce s) then gpioDrive c false 0 s1 else s1)

/-- TIME_COMPARE_ARM (02 R92). -/
def execTimeCompareArm (c : Cmd) (s : State) : Host.Outcome State Fault Refusal := done (command 0x020D 32 0 none timeCompareArm c s)

/-- The body of TIME_COMPARE_CANCEL: the output goes to its inactive level at once (02 R89). -/
def timeCompareCancel (p : List Byte) (s : State) : Reply × State :=
  let k := uAt p 0 1
  match s.time.cmps[k]? with
  | none => refuse stBadParam s
  | some c =>
    let s1 := { s with time := { s.time with cmps := lmod s.time.cmps k (fun q => { q with armed := false, pulseEnd := none, shortArmed := false }) } }
    ok (if c.drives && (s.time.gpio.getD c.gpio none).isSome then gpioDrive c false 0 s1 else s1)

/-- TIME_COMPARE_CANCEL (02 R89). -/
def execTimeCompareCancel (c : Cmd) (s : State) : Host.Outcome State Fault Refusal := done (command 0x020E 1 0 none timeCompareCancel c s)

/-- Host alarms pending in all (02 R88). -/
def alarmsPending (s : State) : Nat := s.time.alarms.length + (s.time.dls.getD 6 []).length + (s.time.dls.getD 7 []).length

/-- The body of TIME_ALARM_SET (02 R51, R88): inserted at once within 500 ms where a list has room, else held. -/
def timeAlarmSet (p : List Byte) (s : State) : Reply × State :=
  let target := dtAt p 0
  let token := uAt p 12 4
  if !dtOk p 0 then refuse stBadParam s
  else if decide (target < dtNow s) then refuse stStale s
  else if 2048 ≤ alarmsPending s then refuse stTableFull s
  else if decide (target ≤ dtNow s + 500 * ms1) then ok (alarmInsert target token s)
  else ok { s with time := { s.time with alarms := s.time.alarms ++ [(target, token)] } }

/-- TIME_ALARM_SET (02 R88). -/
def execTimeAlarmSet (c : Cmd) (s : State) : Host.Outcome State Fault Refusal := done (command 0x020F 16 0 none timeAlarmSet c s)

end Sys2Proof.Machine
end

