-- ==== Sys2Proof/Machine/Harbour.lean ====
section
/-!
DEFINITION. Harbour (file 14): doorbells, streams, registers, protected pairs and the SYS commands. The rows that reach into
other chapters' objects (the indirect window, RESET_REQ, DOMAIN_EN, SYS_INFO) stand in HostLate.lean.
-/
namespace Sys2Proof.Machine

/-! ## Protected pairs and BAR0 writes (14 R501, R504, R506) -/

/-- SYS_PAIR_MISMATCH (14 R534). -/
def pairMismatch (off cause : Nat) (s : State) : State := raise { code := 0x0101, sev := 3, src := 0, p0 := off, p1 := cause } s

/-- Another BAR0 write arrives: a pending protected value is discarded (14 R506). -/
def pairBreak (s : State) : State :=
  match s.harbour.pairPending with
  | none => s
  | some (off, _, _) => pairMismatch off 4 { s with harbour := { s.harbour with pairPending := none } }

/-- A BAR0 write outside the protected pairs: it breaks a pending pair, and is ignored before READY (14 R501, R506). -/
def barWrite (f : State → State) (s : State) : State :=
  let s1 := pairBreak s
  if s1.harbour.ready then f s1 else s1

/-- The value address of a protected pair is written (14 R506). -/
def doPairValueWrite (off : Nat) (v : Word) (s : State) : State :=
  if !([0x2000, 0x2008, 0x2010].contains off) then s
  else
    let s1 := match s.harbour.pairPending with
      | none => s
      | some (o, _, _) => pairMismatch o (if o == off then 2 else 4) s
    { s1 with harbour := { s1.harbour with pairPending := some (off, v, s.time.cyc) } }

/-- PAIR_VALUE_WRITE (14 R506). -/
def execPairValueWrite (off : Nat) (v : Word) (s : State) : Host.Outcome State Fault Refusal := done (doPairValueWrite off v s)

/-- A pending value waits 1 ms without its complement (14 R506). -/
def doPairTimeout (s : State) : State :=
  match s.harbour.pairPending with
  | none => s
  | some (off, _, c) =>
    let s1 := runToCyc (c + cycMs 1) s
    pairMismatch off 3 { s1 with harbour := { s1.harbour with pairPending := none } }

/-- PAIR_TIMEOUT (14 R506). -/
def execPairTimeout (s : State) : Host.Outcome State Fault Refusal := done (doPairTimeout s)

/-- The complement address of a pair is written: the value where the pair matches, else the mismatch is logged (14 R506). -/
def pairComplement (off : Nat) (x : Word) (s : State) : Option Word × State :=
  match s.harbour.pairPending with
  | none => (none, pairMismatch off 1 s)
  | some (o, v, c) =>
    let s1 := { s with harbour := { s.harbour with pairPending := none } }
    if o != off then (none, pairMismatch off 1 (pairMismatch o 4 s1))
    else if decide (c + cycMs 1 < s.time.cyc) then (none, pairMismatch off 1 (pairMismatch off 3 s1))
    else if x == ~~~ v then (some v, s1)
    else (none, pairMismatch off 0 s1)

/-- The journal KEY of a SETTING item and instance (16 R594, R596). -/
def settingKey (item inst : Nat) : Nat := 65536 * item + inst

/-- A matched ROLE_NEXT pair writes the role setting to the journal (14 R507, 16 R596). -/
def doRoleNext (x : Word) (s : State) : State :=
  match pairComplement 0x2000 x s with
  | (none, s1) => s1
  | (some v, s1) =>
    let r := v.toNat % 4
    if 2 ≤ r then pairMismatch 0x2000 4 s1
    else match journalPut { type := 1, key := settingKey 1 0, payload := le 1 r, prio := 5, schema := s1.update.schema } s1 with
      | (true, s2) => s2
      | (false, s2) => pairMismatch 0x2000 4 s2

/-- ROLE_NEXT (14 R507). -/
def execRoleNext (x : Word) (s : State) : Host.Outcome State Fault Refusal := done (doRoleNext x s)

/-! ## Mailboxes -/

/-- Opcodes that the manual defines for the host (00 R18, R19): the highest number of each subsystem. -/
def opcodeTop (sub : Nat) : Nat :=
  [0, 0x05, 0x0F, 0x0D, 0x10, 0x0B, 0x0C, 0x10, 0x0B, 0x09, 0x0E, 0x0A, 0x03, 0x0C, 0x18, 0x09, 0x06, 0x04].getD sub 0

/-- The opcode is defined. -/
def opcodeDefined (op : Nat) : Bool := decide (1 ≤ op % 256) && decide (op % 256 ≤ opcodeTop (op / 256))

/-- SYS_PROTOCOL, at most once per mailbox per second (14 R518, R534). -/
def protocolError (n cause slot : Nat) (s : State) : State :=
  let now := dtNow s / sec1
  if (mbxOf s n).protoSec == some now then s
  else raise { code := 0x0106, sev := 3, src := 0, p0 := n, p1 := cause, p2 := slot } (setMbx n (fun b => { b with protoSec := some now }) s)

/-- The mailbox holds a slot, as a command slot, an extra slot or a completion slot (14 R518). -/
def holdsSlot (b : Mbx) (k : Nat) : Bool := b.held.any (fun h => decide (h.slot ≤ k) && decide (k < h.slot + h.slots))

/-- Credits the mailbox holds (14 R514). -/
def heldCredits (b : Mbx) : Nat := (b.held.filter (·.credit)).length

/-- CREDIT_MAX; 0 means 64 (14 R514). -/
def creditMax (b : Mbx) : Nat := let m := b.cfg.toNat / 65536 % 128; if m == 0 then 64 else m

/-- A command held from its doorbell on (14 R516, R518): undefined opcodes complete at once. -/
def holdCommand (b : Mbx) (slot : Nat) (p : List Byte) : Held :=
  let op := uAt p 0 2
  let extra := uAt p 6 1 % 4
  let bad := decide (b.slots < slot + 1 + extra) || (List.range extra).any (fun k => holdsSlot b (slot + 1 + k))
  { slot := slot, slots := if bad then 1 else 1 + extra, opcode := op, tag := uAt p 4 2, fence := bit (uAt p 6 1) 2, badLen := bad
    done := if opcodeDefined op then none else some { opcode := op, status := stBadOpcode, tag := uAt p 4 2, slot := slot, result := [] } }

/-- A doorbell (14 R518). -/
def doMbxDoorbell (n slot : Nat) (read : Option (List Byte)) (s0 : State) : State :=
  let s := pairBreak s0
  let b := mbxOf s n
  let k := slot % 64
  if decide (15 < n) then s
  else if !s.harbour.ready then protocolError n 0 k s
  else if !bit b.cfg.toNat 31 || b.faulted then protocolError n 1 k s
  else if b.slots ≤ k then protocolError n 2 k s
  else if holdsSlot b k then protocolError n 3 k s
  else if s.harbour.credit == 0 || decide (creditMax b ≤ heldCredits b) then
    let h : Held := { slot := k, credit := false, done := some { opcode := 0, status := stNoCredit, tag := 0, slot := k, result := [] } }
    let s1 := setMbx n (fun b => { b with held := b.held ++ [h] }) s
    releaseAll n { s1 with harbour := { s1.harbour with refused := (s1.harbour.refused + 1) % 2 ^ 32, refusedTotal := (s1.harbour.refusedTotal + 1) % 2 ^ 32 } }
  else
    let bytes := if s.harbour.quadSpi then some (memGets s.mem (0x01000000 + 0x2000 * n + 64 * k) 64) else read
    match bytes with
    | none => raise { code := 0x0105, sev := 4, p0 := n, p1 := 0, p2 := k } (setMbx n (fun b => { b with faulted := true }) s)
    | some p =>
      let s1 := setMbx n (fun b => { b with held := b.held ++ [holdCommand b k p] }) s
      releaseAll n { s1 with harbour := { s1.harbour with credit := s1.harbour.credit - 1 } }

/-- MBX_DOORBELL (14 R518). -/
def execMbxDoorbell (n slot : Nat) (read : Option (List Byte)) (s : State) : Host.Outcome State Fault Refusal :=
  done (doMbxDoorbell n slot read s)

/-- MSI messages for an acknowledgement while a bit it concerns remains set (14 R532). -/
def resend (bitNo : Nat) (was : State) (s : State) : State :=
  sendMsi ((List.range 4).filter (fun k => bit (maskedCause was k).toNat bitNo && bit (maskedCause s k).toNat bitNo)) s

/-- The host acknowledges completions (14 R510, R532). -/
def doMbxAck (n : Nat) (v : Word) (s : State) : State :=
  barWrite (fun s => resend (16 + n) s (setMbx n (fun b => { b with ack := v.toNat % 65536 }) s)) s

/-- MBX_ACK (14 R532). -/
def execMbxAck (n : Nat) (v : Word) (s : State) : Host.Outcome State Fault Refusal := done (doMbxAck n v s)

/-- The host acknowledges event records (14 R510, R532, 17 R624). -/
def doEvtAck (v : Word) (s : State) : State :=
  barWrite (fun s => resend 0 s { s with harbour := { s.harbour with evtAck := v.toNat % 65536 } }) s

/-- EVT_ACK (14 R532). -/
def execEvtAck (v : Word) (s : State) : Host.Outcome State Fault Refusal := done (doEvtAck v s)

/-- MBX_CFG_n written: base and size take effect when EN rises, which also ends FAULTED (14 R514). -/
def mbxCfg (n : Nat) (v : Word) (quad : Bool) (b : Mbx) : Mbx :=
  let w := v &&& 0x807F0007
  if bit v.toNat 31 && !bit b.cfg.toNat 31 then
    { b with cfg := w, faulted := false, slots := 2 ^ min 6 (v.toNat % 8)
             base := if quad then 0x01000000 + 0x2000 * n else 2 ^ 32 * b.baseHi.toNat + b.baseLo.toNat / 64 * 64 }
  else { b with cfg := w }

/-- A write of MBX_CFG_n (14 R514). -/
def doMbxCfgWrite (n : Nat) (v : Word) (s : State) : State := barWrite (fun s => setMbx n (mbxCfg n v s.harbour.quadSpi) s) s

/-- MBX_CFG_WRITE (14 R514). -/
def execMbxCfgWrite (n : Nat) (v : Word) (s : State) : Host.Outcome State Fault Refusal := done (doMbxCfgWrite n v s)

/-! ## Streams -/

/-- An S_0 packet discarded by Harbour: S_DROPS_0 and the count of discarded packets rise, SYS_STREAM_OVERRUN at most once per
second (14 R525, R533, R534). -/
def s0Discard (cause : Nat) (s : State) : State :=
  let x := s.harbour.s0
  let now := dtNow s / sec1
  let n := x.ovrCount + 1
  let due := x.ovrSec != some now
  raiseIf due { code := 0x0107, sev := 3, src := 0, p0 := cause, p1 := n } { s with harbour := { s.harbour with s0 := { x with
    words := [], drops := (x.drops + 1) % 2 ^ 32, discarded := (x.discarded + 1) % 2 ^ 32
    ovrSec := if due then some now else x.ovrSec, ovrCount := if due then 0 else n } } }

/-- A word written to S_DATA_0 (14 R525, R528). -/
def s0Word (v : Word) (s : State) : State :=
  let x := s.harbour.s0
  if !x.en || x.overrun then s
  else if s0Free x < 4 then
    let s1 := s0Discard 0 s
    { s1 with harbour := { s1.harbour with s0 := { s1.harbour.s0 with overrun := true } } }
  else { s with harbour := { s.harbour with s0 := { x with words := x.words ++ [v] } } }

/-- S_DATA_0 (14 R525). -/
def execSData0 (v : Word) (s : State) : Host.Outcome State Fault Refusal := done (barWrite (s0Word v) s)

/-- The types that S_0 carries (14 R529). -/
def s0Types : List Nat := [0x01, 0x02, 0x03, 0x05, 0x06, 0x08, 0x1C]

/-- A complete packet stored in a bank of S_0 (14 R523). -/
def s0Store (p : Packet) (x : Stream0) : Stream0 :=
  let n := pktSize p.payload
  let used := if x.filling == 0 then x.usedEbb else x.usedFlood
  let b := if used + n ≤ 65536 then x.filling else 1 - x.filling
  let before := if b == x.filling then used else 0
  { x with packets := x.packets ++ [(b, n, p)], filling := b, usedEbb := if b == 0 then before + n else x.usedEbb
           usedFlood := if b == 0 then x.usedFlood else before + n, words := [], accepted := (x.accepted + 1) % 2 ^ 32 }

/-- S_END_0 written: the packet goes to its consumer's queue, or is discarded with its cause (14 R525). -/
def s0End (v : Word) (s : State) : State :=
  let x := s.harbour.s0
  let len := v.toNat % 2 ^ 24
  if !x.en then s
  else if x.overrun then { s with harbour := { s.harbour with s0 := { x with overrun := false, words := [] } } }
  else if x.words.isEmpty || decide (len < 4) || x.words.length - 1 != (len + 3) / 4 then s0Discard 1 s
  else
    let bytes := ((x.words.drop 1).map (fun w => le 4 w.toNat)).flatten.take len
    let ty := uAt bytes 0 1
    if !s0Types.contains ty then s0Discard 3 s
    else { s with harbour := { s.harbour with s0 := s0Store { type := ty, flags := uAt bytes 1 1, seq := uAt bytes 2 2, payload := bytes.drop 4 } x } }

/-- S_END_0 (14 R525). -/
def execSEnd0 (v : Word) (s : State) : Host.Outcome State Fault Refusal := done (barWrite (s0End v) s)

/-- The oldest packet of a TYPE leaves S_0 for its consumer (14 R523). -/
def takeS0 (ty : Nat) (s : State) : Option (Packet × State) :=
  let x := s.harbour.s0
  match x.packets.findIdx? (fun p => p.2.2.type == ty) with
  | none => none
  | some ix => match x.packets[ix]? with
    | none => none
    | some (_, _, p) => some (p, { s with harbour := { s.harbour with s0 := { x with packets := x.packets.eraseIdx ix } } })

/-- A consumer rejects a packet: it is counted among the S_0 packets discarded (14 R525, R533). -/
def s0Reject (s : State) : State :=
  { s with harbour := { s.harbour with s0 := { s.harbour.s0 with discarded := (s.harbour.s0.discarded + 1) % 2 ^ 32 } } }

/-- The bytes of a packet as S_1 carries them: length word, header, payload, padding (14 R524). -/
def pktBytes (p : Packet) : List Byte :=
  let body := le 1 p.type ++ le 1 p.flags ++ le 2 p.seq ++ p.payload
  le 4 body.length ++ body ++ List.replicate (padTo 4 body.length - body.length) 0

/-- A word read from S_DATA_1 (14 R526). -/
def s1Read (s : State) : State :=
  let x := s.harbour.s1
  match x.packets with
  | [] => { s with harbour := { s.harbour with readData := 0 } }
  | (_, _, p) :: r =>
    let w := BitVec.ofNat 32 (uAt (pktBytes p) (4 * x.readWords) 4)
    let last := decide (pktSize p.payload ≤ 4 * (x.readWords + 1))
    { s with harbour := { s.harbour with
      readData := w
      s1 := { x with packets := if last then r else x.packets, readWords := if last then 0 else x.readWords + 1 } } }

/-- S_DATA_1 (14 R526). -/
def execSData1 (s : State) : Host.Outcome State Fault Refusal := done (s1Read s)

/-- Every packet of a disabled stream is discarded (14 R528). -/
def streamClear (stream : Nat) (s : State) : State :=
  if stream == 0 then
    if s.harbour.s0.en then s
    else { s with harbour := { s.harbour with s0 := { s.harbour.s0 with packets := [], words := [], usedEbb := 0, usedFlood := 0, overrun := false } } }
  else
    if s.harbour.s1.en then s
    else { s with harbour := { s.harbour with s1 := { s.harbour.s1 with packets := [], readWords := 0, usedEbb := 0, usedFlood := 0 } } }

/-- CLEAR (14 R528). -/
def execClear (stream : Nat) (s : State) : Host.Outcome State Fault Refusal := done (barWrite (streamClear stream) s)

/-- The packet being written to S_0 is discarded (14 R525, R528). -/
def streamAbort (s : State) : State :=
  let s1 := if s.harbour.s0.words.isEmpty then s else s0Discard 2 s
  { s1 with harbour := { s1.harbour with s0 := { s1.harbour.s0 with overrun := false } } }

/-- ABORT (14 R528). -/
def execAbort (s : State) : Host.Outcome State Fault Refusal := done (barWrite streamAbort s)

/-- The unread remainder of the S_1 packet being read is discarded (14 R526). -/
def streamDrop (s : State) : State :=
  if s.harbour.s1.readWords == 0 then s
  else { s with harbour := { s.harbour with s1 := { s.harbour.s1 with packets := s.harbour.s1.packets.drop 1, readWords := 0 } } }

/-- DROP (14 R526). -/
def execDrop (s : State) : Host.Outcome State Fault Refusal := done (barWrite streamDrop s)

/-- The oldest complete packet has waited S_AGE_1: FC_RDY_1 asserts as the command settles (14 R527). -/
def doPacketAge (s : State) : State :=
  match s.harbour.s1.packets with
  | [] => s
  | (_, t, _) :: _ => runTo (t + us1 * s.harbour.s1.ageUs) s

/-- PACKET_AGE (14 R527). -/
def execPacketAge (s : State) : Host.Outcome State Fault Refusal := done (doPacketAge s)

/-! ## Registers (00 R15, R17, 14 R510) -/

/-- A register without behaviour of its own takes a value, or ignores it (00 R15, 14 R510, R527, R528). -/
def regWrite (off : Nat) (v : Word) (s : State) : State :=
  let h := s.harbour
  if off == 0x0204 then { s with harbour := { h with intMask := v } }
  else if off == 0x0220 || off == 0x0224 || off == 0x0228 || off == 0x022C then
    { s with harbour := { h with intRoute := h.intRoute.set ((off - 0x0220) / 4) v } }
  else if off == 0x0234 then resend 0 s { s with harbour := { h with evtAck := v.toNat % 65536 } }
  else if decide (0x0500 ≤ off) && decide (off < 0x0600) && off % 4 == 0 then
    let n := (off - 0x0500) / 16
    if off % 16 == 0 then (if h.quadSpi then s else setMbx n (fun b => { b with baseLo := v &&& 0xFFFFFFC0 }) s)
    else if off % 16 == 4 then (if h.quadSpi then s else setMbx n (fun b => { b with baseHi := v }) s)
    else if off % 16 == 8 then setMbx n (mbxCfg n v h.quadSpi) s
    else s
  else if decide (0x0600 ≤ off) && decide (off < 0x0640) && off % 4 == 0 then
    let n := (off - 0x0600) / 4
    resend (16 + n) s (setMbx n (fun b => { b with ack := v.toNat % 65536 }) s)
  else if off == 0x0800 then
    let s1 := { s with harbour := { h with s0 := { h.s0 with en := bit v.toNat 0 } } }
    let s2 := if bit v.toNat 10 then streamClear 0 s1 else s1
    if bit v.toNat 9 then streamAbort s2 else s2
  else if off == 0x0804 then
    let s1 := { s with harbour := { h with s1 := { h.s1 with en := bit v.toNat 0 } } }
    let s2 := if bit v.toNat 10 then streamClear 1 s1 else s1
    if bit v.toNat 8 then streamDrop s2 else s2
  else if off == 0x0810 then { s with harbour := { h with s0 := { h.s0 with wm := v &&& 0x0FFF0FFF } } }
  else if off == 0x0814 then { s with harbour := { h with s1 := { h.s1 with wm := v &&& 0x0FFF0FFF } } }
  else if off == 0x0818 then
    if decide (1 ≤ v.toNat) && decide (v.toNat ≤ 1000000) then { s with harbour := { h with s1 := { h.s1 with ageUs := v.toNat } } } else s
  else if off == 0x081C then s0End v s
  else if decide (0x0C00 ≤ off) && decide (off < 0x0E00) then s0Word v s
  else if off == 0x1000 then { s with harbour := { h with indAddr := v } }
  else if off == 0x1008 then { s with harbour := { h with autoInc := bit v.toNat 0 } }
  else s

/-- REGISTER_WRITE (00 R15). -/
def execRegisterWrite (off : Nat) (v : Word) (s : State) : Host.Outcome State Fault Refusal := done (barWrite (regWrite off v) s)

/-- NEXT of GROLE: the role setting in the journal (14 R513). -/
def roleSetting (s : State) : Nat :=
  match setting s (settingKey 1 0) with | some r => uAt r.payload 0 1 % 4 | none => 3

/-- What a read of a BAR0 register returns (00 R15 to R17, 14 R510); the stream aperture and IND_DATA have rows of their own. -/
def regRead (off : Nat) (s : State) : Nat :=
  let h := s.harbour
  if off == 0x0000 then 0x4096
  else if off == 0x0004 then 2
  else if decide (0x0008 ≤ off) && decide (off ≤ 0x0014) then Config.uniqueId ((off - 8) / 4) % 2 ^ 32
  else if off == 0x0100 then gstat s
  else if off == 0x0104 then gfault s
  else if off == 0x0108 then 256 * roleSetting s + roleOf s % 4
  else if off == 0x0200 then intPend s
  else if off == 0x0204 then h.intMask.toNat
  else if decide (0x0210 ≤ off) && decide (off ≤ 0x021C) then (BitVec.ofNat 32 (intPend s) &&& h.intRoute.getD ((off - 0x210) / 4) 0).toNat
  else if decide (0x0220 ≤ off) && decide (off ≤ 0x022C) then (h.intRoute.getD ((off - 0x220) / 4) 0).toNat
  else if off == 0x0230 then s.recorder.seq
  else if off == 0x0234 then h.evtAck
  else if off == 0x0440 then h.credit
  else if off == 0x0444 then h.refused
  else if decide (0x0500 ≤ off) && decide (off < 0x0600) then
    let n := (off - 0x0500) / 16
    let b := mbxOf s n
    if off % 16 == 0 then (if h.quadSpi then 0x01000000 + 0x2000 * n else b.baseLo.toNat)
    else if off % 16 == 4 then (if h.quadSpi then 0 else b.baseHi.toNat)
    else if off % 16 == 8 then b.cfg.toNat
    else mbxStatus s n
  else if decide (0x0600 ≤ off) && decide (off < 0x0640) then (mbxOf s ((off - 0x600) / 4)).ack
  else if off == 0x0800 then b1 h.s0.en
  else if off == 0x0804 then b1 h.s1.en
  else if off == 0x0808 then s0Free h.s0
  else if off == 0x080C then sLevel1 s
  else if off == 0x0810 then h.s0.wm.toNat
  else if off == 0x0814 then h.s1.wm.toNat
  else if off == 0x0818 then h.s1.ageUs
  else if off == 0x0820 then h.s0.drops
  else if off == 0x0824 then h.s1.drops
  else if off == 0x1000 then h.indAddr.toNat
  else if off == 0x1008 then b1 h.autoInc
  else if off == 0x2000 then roleSetting s % 4
  else if off == 0x2004 then 0xFFFFFFFF - roleSetting s % 4
  else if off == 0x2008 then h.resetReq
  else if off == 0x200C then 0xFFFFFFFF - h.resetReq
  else if off == 0x2010 then s.votes.domains.value
  else if off == 0x2014 then 0xFFFFFFFF - s.votes.domains.value
  else 0

/-- The reset value of a BAR0 register (14 R507, R510), which a read returns before READY is set (14 R501). -/
def regReset (off : Nat) (s : State) : Nat :=
  if decide (off ≤ 0x0014) || off == 0x2000 || off == 0x2004 then regRead off s
  else if off == 0x0204 || off == 0x0220 || off == 0x200C then 0xFFFFFFFF
  else if off == 0x0108 then 256 * roleSetting s + roleOf s % 4
  else if off == 0x0230 || off == 0x0234 then regRead off s
  else if off == 0x0440 then 0x40
  else if decide (0x0500 ≤ off) && decide (off < 0x0600) then
    (if off % 16 == 8 then 6 else if off % 16 == 0 && s.harbour.quadSpi then 0x01000000 + 0x2000 * ((off - 0x0500) / 16) else 0)
  else if off == 0x0800 || off == 0x0804 || off == 0x1008 then 1
  else if off == 0x0808 then 0x10000
  else if off == 0x0810 then 0x01020080
  else if off == 0x0814 then 0x00100001
  else if off == 0x0818 then 0x3E8
  else if off == 0x2010 then 0xFFF
  else if off == 0x2014 then 0xFFFFF000
  else 0

/-- A read of a BAR0 register (14 R501, R504). -/
def barRead (off : Nat) (s : State) : Nat := if s.harbour.ready then regRead off s else regReset off s

/-! ## The PCIe link (14 R502) -/

/-- The mailbox, stream and interrupt blocks at their reset values; commands already accepted run on, their completions are
discarded, complete packets are kept (14 R502). -/
def linkReset (ring : List EvRec) (h : HarbourSt) : HarbourSt :=
  { h with
    intMask := 0xFFFFFFFF, intRoute := [0xFFFFFFFF, 0, 0, 0]
    evtAck := (match ring with | x :: _ => (x.seq + 65535) % 65536 | [] => 0)
    mbxs := h.mbxs.map (fun b => { ({} : Mbx) with held := b.held.map (fun k => { k with discard := true }) })
    refused := 0
    s0 := { h.s0 with words := [], overrun := false, en := true, wm := 0x01020080, drops := 0 }
    s1 := { h.s1 with readWords := 0, en := true, wm := 0x00100001, ageUs := 1000, drops := 0 } }

/-- A change of the PCIe link (14 R502): nothing happens to a port that is not chosen (14 R500). -/
def doPcieLinkChange (up : Bool) (rate lanes : Nat) (s : State) : State :=
  if s.harbour.quadSpi then s
  else
    let h := if up then s.harbour else linkReset s.recorder.ring s.harbour
    let s1 := { s with harbour := { h with linkUp := up, linkRate := rate, linkLanes := lanes } }
    raise { code := 0x0104, sev := 2, p0 := b1 up, p1 := rate % 2 ^ 32, p2 := lanes % 2 ^ 32 } s1

/-- PCIE_LINK_CHANGE (14 R502). -/
def execPcieLinkChange (up : Bool) (rate lanes : Nat) (s : State) : Host.Outcome State Fault Refusal :=
  done (doPcieLinkChange up rate lanes s)

/-! ## SYS commands (14 R533) -/

/-- The body of SYS_NOP. -/
def sysNop (c : Cmd) (p : List Byte) (s : State) : Reply × State :=
  let d := uAt p 0 4
  if decide (1000000 < d) then refuse stBadParam s
  else if d == 0 then ok s
  else (.later, { s with harbour := { s.harbour with nops := s.harbour.nops ++ [(c.mbx, c.slot, s.time.cyc + cycUs d, c.tag.toNat)] } })

/-- SYS_NOP (14 R533). -/
def execSysNop (c : Cmd) (s : State) : Host.Outcome State Fault Refusal := done (commandC 0x0102 4 0 none sysNop c s)

/-- The delay of a SYS_NOP expires (14 R533). -/
def doSysNopDelay (mbx slot : Nat) (s : State) : State :=
  match s.harbour.nops.find? (fun e => e.1 == mbx && e.2.1 == slot) with
  | none => s
  | some (_, _, t, tag) =>
    let s1 := runToCyc t s
    complete mbx slot 0x0102 tag stOk []
      { s1 with harbour := { s1.harbour with nops := s1.harbour.nops.filter (fun e => !(e.1 == mbx && e.2.1 == slot)) } }

/-- SYS_NOP_DELAY (14 R533). -/
def execSysNopDelay (mbx slot : Nat) (s : State) : Host.Outcome State Fault Refusal := done (doSysNopDelay mbx slot s)

/-- SYS_ECHO (14 R533). -/
def execSysEcho (c : Cmd) (s : State) : Host.Outcome State Fault Refusal :=
  done (command 0x0103 0 0 none (fun p s => okWith p s) c s)

/-- SYS_STREAM_STATUS (14 R533). -/
def execSysStreamStatus (c : Cmd) (s : State) : Host.Outcome State Fault Refusal :=
  done (command 0x0104 0 20 none (fun _ s => okWith (le 4 s.harbour.s0.accepted ++ le 4 s.harbour.s0.discarded ++
    le 4 s.harbour.s1.sent ++ le 4 s.harbour.s1.dropped ++ le 4 s.harbour.refusedTotal) s) c s)

/-- SYS_VOTE_STATUS (14 R533). -/
def execSysVoteStatus (c : Cmd) (s : State) : Host.Outcome State Fault Refusal :=
  done (command 0x0105 0 20 none (fun _ s => okWith (le 4 s.votes.role.corrections ++ le 4 s.votes.lifeCycle.corrections ++
    le 4 s.votes.stopCfg.corrections ++ le 4 s.votes.domains.corrections ++ le 4 s.votes.tide.corrections) s) c s)

end Sys2Proof.Machine
end

