-- ==== Sys2Proof/Machine/Vexlink.lean ====
section
/-!
DEFINITION. Vexlink (13 R466 to R484): ports, blocks, floods, reliable messages, delay and time. STOP, POSE and COVERAGE_DELTA
messages act on other chapters' objects and stand in Stop.lean, PoseLink.lean and Raster.lean.
-/
namespace Sys2Proof.Machine

/-- The device's own ORIGIN: the low 32 bits of its unique ID (13 R472). -/
def ownOrigin : Nat := Config.uniqueId 0 % 2 ^ 32

/-- A port. -/
def vxOf (s : State) (n : Nat) : VxPort := s.net.vx.getD n {}
/-- A port changed. -/
def setVx (n : Nat) (f : VxPort → VxPort) (s : State) : State := { s with net := { s.net with vx := lmod s.net.vx n f } }
/-- Ports that are UP. -/
def vxUp (s : State) : List Nat := (List.range 3).filter (fun n => (vxOf s n).st == .up)

/-- The bytes of a message: header and body (13 R472). -/
def vxBytes (m : VxMsg) : List Byte :=
  le 1 m.type ++ le 1 m.hops ++ le 2 m.body.length ++ le 4 m.origin ++ le 2 m.seq ++ le 1 (b1 m.ackReq) ++ [0] ++ m.body

/-- The priority of a message, by its TYPE and, for HOST_MSG, ACK_REQ (01 R38, 13 R473). -/
def vxPrio (m : VxMsg) : Nat :=
  if m.type == 1 then 1 else if m.type == 2 then 2 else if decide (m.type ≤ 5) then 3
  else if m.type == 6 || m.type == 7 || (m.type == 8 && m.ackReq) then 4 else 5

/-- One block: CTRL, COUNT, 28 data bytes, CRC (13 R469). -/
def vxBlock (prio : Nat) (first last : Bool) (d : List Byte) : List Byte :=
  let b := le 1 (32 * prio + bitIf first 4 + bitIf last 3) ++ le 1 d.length ++ d ++ List.replicate (28 - d.length) 0
  b ++ le 2 (crc16 b)

/-- The blocks of a message, one after another (13 R469, R470). -/
def vxBlocks (prio : Nat) : Nat → Bool → List Byte → List Byte
  | 0, _, _ => []
  | k + 1, first, d =>
    let rest := d.drop 28
    vxBlock prio first rest.isEmpty (d.take 28) ++ (if rest.isEmpty then [] else vxBlocks prio k false rest)

/-- A message leaves a port as its consecutive blocks (13 R469, R470). Every command that sends sends messages of one priority at an instant, a stop before
the pose reference, so that the order of 01 R38 is the order of the commands (log entry 73). -/
def vxSend (n : Nat) (m : VxMsg) (s : State) : State := emit .vexlink n 0 (vxBlocks (vxPrio m) ((vxBytes m).length) true (vxBytes m)) s

/-! ## Floods (13 R472, R475, 11 R423) -/

/-- The window's answer to a sequence number: whether it is delivered, and the window after it (11 R423). -/
def winStep (seq : Nat) (w : Win) : Bool × Win :=
  let d := diffN 16 seq w.top
  if 0 < d then
    let k := d.toNat
    (true, { w with top := seq, map := if 32 ≤ k then (if k == 32 then 2 ^ 31 else 0) else (w.map * 2 ^ k + 2 ^ (k - 1)) % 2 ^ 32 })
  else if d == 0 then (false, w)
  else
    let k := (-d).toNat
    if 32 < k then (false, w) else if bit w.map (k - 1) then (false, w) else (true, { w with map := w.map + 2 ^ (k - 1) })

/-- A sequence number presented to the window of a sender and type: new or duplicate (13 R475). -/
def winCheck (origin type seq : Nat) (ack : Bool) (s : State) : Bool × State :=
  match s.net.wins.find? (fun w => w.origin == origin && w.type == type && w.ack == ack) with
  | none => (true, { s with net := { s.net with wins := { origin := origin, type := type, ack := ack, top := seq } :: s.net.wins } })
  | some w =>
    let (new, w1) := winStep seq w
    (new, { s with net := { s.net with wins := s.net.wins.map (fun x => if x.origin == origin && x.type == type && x.ack == ack then w1 else x) } })

/-- The key under which the device counts its own messages of a type (13 R472). -/
def seqKey (type : Nat) (ack : Bool) : Nat := if type == 8 && !ack then 0x108 else type

/-- Last SEQ originated for a type. -/
def lastSeq (s : State) (key : Nat) : Nat := (tget s.net.seqs key).getD 0

/-- A reliable message is kept until its link acknowledges it (13 R476). -/
def keepReliable (n : Nat) (m : VxMsg) (s : State) : State :=
  if m.ackReq then { s with net := { s.net with relOut := s.net.relOut ++ [{ port := n, msg := m, cyc := s.time.cyc }] } } else s

/-- Ports in the order in which the rotating pointer over the three ports serves them (01 R37, R38). -/
def portOrder (s : State) (ports : List Nat) : List Nat :=
  let p := s.time.pointers.getD 6 0
  ([0, 1, 2].map (fun k => (p + k) % 3)).filter ports.contains

/-- A message sent on ports, in the pointer's order, kept where it is reliable. -/
def vxSendOn (ports : List Nat) (m : VxMsg) (s : State) : State := (portOrder s ports).foldl (fun st n => keepReliable n m (vxSend n m st)) s

/-- A flood message originated on ports (13 R472, R475). -/
def vxOriginate (ports : List Nat) (type : Nat) (ack : Bool) (body : List Byte) (s : State) : State :=
  let key := seqKey type ack
  let q := (lastSeq s key + 1) % 65536
  vxSendOn ports { type := type, origin := ownOrigin, seq := q, ackReq := ack, body := body }
    { s with net := { s.net with seqs := tset s.net.seqs key q } }

/-- The blocks of this message have already been forwarded by VEXLINK_BLOCK (13 R470). -/
def alreadyForwarded (n : Nat) (m : VxMsg) (s : State) : Bool := s.net.ready.any (fun r => r.1 == n && r.2.drop 2 == (vxBytes m).drop 2)

/-- A flood message received on an UP port: not its own, new under the window, acknowledged where reliable, and forwarded on the
other ports of `fwd` unless HOPS has reached 255 (13 R474 to R476). Answers whether it is to be delivered. -/
def vxFlood (n : Nat) (m : VxMsg) (fwd : List Nat) (s : State) : Bool × State :=
  if (vxOf s n).st != .up then (false, s)
  else
    let ackd := if m.ackReq then vxSend n { type := 6, origin := ownOrigin, body := le 4 m.origin ++ le 1 m.type ++ [0] ++ le 2 m.seq } s else s
    if m.origin == ownOrigin then
      if 0 < diffN 16 m.seq (lastSeq s (seqKey m.type m.ackReq)) then
        (false, raise { code := 0x0D07, sev := 4, p0 := m.origin, p1 := n } ackd)
      else (false, ackd)
    else
      let (new, s1) := winCheck m.origin m.type m.seq m.ackReq ackd
      let done := alreadyForwarded n m s1
      let s2 := { s1 with net := { s1.net with ready := s1.net.ready.filter (fun r => !(r.1 == n && r.2.drop 2 == (vxBytes m).drop 2)) } }
      if !new then (false, s2)
      else if done || decide (255 ≤ m.hops) then (true, s2)
      else (true, vxSendOn (fwd.filter (fun k => k != n && (vxOf s2 k).st == .up)) { m with hops := m.hops + 1 } s2)

/-- Messages held beyond a gap that follow on from a SEQ. -/
def relRun : Nat → Nat → List VxMsg → List VxMsg × Nat
  | 0, next, _ => ([], next)
  | k + 1, next, held => match held.find? (fun m => m.seq == next) with
    | none => ([], next)
    | some m => let (r, e) := relRun k ((next + 1) % 65536) held; (m :: r, e)

/-- A new reliable message: what is now delivered of its origin and type, in SEQ order (13 R476). -/
def relAccept (m : VxMsg) (s : State) : List VxMsg × State :=
  match s.net.relIn.find? (fun r => r.origin == m.origin && r.type == m.type) with
  | none => ([m], { s with net := { s.net with relIn := { origin := m.origin, type := m.type, next := (m.seq + 1) % 65536 } :: s.net.relIn } })
  | some r =>
    let d := diffN 16 m.seq r.next
    if d < 0 then ([], s)
    else
      let held := m :: r.held
      let (run, next) := relRun held.length r.next held
      let rest := held.filter (fun x => decide (0 ≤ diffN 16 x.seq next))
      let r1 := { r with next := next, held := rest, gapFrom := if rest.isEmpty then none else if run.isEmpty then some (r.gapFrom.getD s.time.cyc) else some s.time.cyc }
      (run, { s with net := { s.net with relIn := s.net.relIn.map (fun x => if x.origin == m.origin && x.type == m.type then r1 else x) } })

/-! ## Ports (13 R468) -/

/-- Symbol lock held for 1 ms: TRAINING ends (13 R468). -/
def doSymbolLock (n : Nat) (s : State) : State :=
  if (vxOf s n).st != .training then s else setVx n (fun p => { p with st := .measuring, exchanges := 0, delays := [] }) s

/-- SYMBOL_LOCK (13 R468). -/
def execSymbolLock (port : Nat) (s : State) : Host.Outcome State Fault Refusal := done (doSymbolLock port s)

/-- The upstream port: the UP port whose TIME names the root with the lowest HOPS_TO_ROOT, ties to the lower number (13 R479). -/
def bestUpstream (s : State) : Option Nat :=
  (vxUp s).foldl (fun best n => match (vxOf s n).hops, best with
    | none, _ => best
    | some _, none => some n
    | some h, some k => if h < ((vxOf s k).hops.getD 256) then some n else best) none

/-- The upstream port chosen again; a change is reported, 0xFF where there is none (13 R479, R497). -/
def reparent (s : State) : State :=
  let b := bestUpstream s
  if b == s.net.upstream then s
  else raise { code := 0x0D03, sev := 3, p0 := s.net.upstream.getD 0xFF, p1 := b.getD 0xFF,
               p2 := (match b with | some n => (vxOf s n).hops.getD 0 + 1 | none => 0) } { s with net := { s.net with upstream := b } }

/-- A port in MEASURING or UP returns to TRAINING (13 R468). -/
def doVxLinkDown (n cause : Nat) (s : State) : State :=
  let p := vxOf s n
  if p.st != .measuring && p.st != .up then s
  else
    let s1 := setVx n (fun p => { p with st := .training, exchanges := 0, t1 := none, timeArr := none, hops := none,
                                         rx := [none, none, none, none, none] }) s
    reparent (raise { code := 0x0D02, sev := 3, p0 := n, p1 := cause, p2 := (tideAt s (dtNow s)).getD 0 } s1)

/-- VX_LINK_DOWN (13 R468). -/
def execVxLinkDown (port cause : Nat) (s : State) : Host.Outcome State Fault Refusal := done (doVxLinkDown port cause s)

/-! ## Blocks (13 R469, R470) -/

/-- CTRL, COUNT and zero bytes of a block are as R469 states, and its CRC is right. -/
def blockOk (b : List Byte) : Bool :=
  b.length == 32 && uAt b 30 2 == crc16 (b.take 30) && uAt b 0 1 % 8 == 0 && decide (1 ≤ uAt b 0 1 / 32) && decide (uAt b 0 1 / 32 ≤ 5) &&
  decide (1 ≤ uAt b 1 1) && decide (uAt b 1 1 ≤ 28)

/-- A block forwarded, with HOPS raised in the first block of a message (13 R470, R472). -/
def blockForward (b : List Byte) : List Byte :=
  let d := if bit (uAt b 0 1) 4 then b.set 3 (BitVec.ofNat 8 (uAt b 3 1 + 1)) else b
  d.take 30 ++ le 2 (crc16 (d.take 30))

/-- A block arrives (13 R470). A failing block discards the message being reassembled at its priority. -/
def doVexlinkBlock (n : Nat) (b : List Byte) (s : State) : State :=
  let p := vxOf s n
  if p.st != .up then s
  else
    let pr := uAt b 0 1 / 32
    if !blockOk b then setVx n (fun p => { p with discarded := (p.discarded + 1) % 2 ^ 32, rx := if pr == 0 then p.rx else p.rx.set (pr - 1) none }) s
    -- the rest of a message that has been discarded
    else if !bit (uAt b 0 1) 4 && (p.rx.getD (pr - 1) none).isNone then s
    else
      let data := (b.drop 2).take (uAt b 1 1)
      let first := bit (uAt b 0 1) 4
      let last := bit (uAt b 0 1) 3
      let prev := (p.rx.getD (pr - 1) none).getD { bytes := [], fwd := false }
      let fwd := if first then
          decide (pr ≤ 2) && decide (uAt data 0 1 ≤ 2) && uAt data 4 4 != ownOrigin && decide (uAt data 1 1 < 255) &&
          !(s.net.wins.any (fun w => w.origin == uAt data 4 4 && w.type == uAt data 0 1 && !(winStep (uAt data 8 2) w).1))
        else prev.fwd
      let bytes := if first then data else prev.bytes ++ data
      let ports := (vxUp s).filter (fun k => k != n && (uAt bytes 0 1 != 1 || (bit s.votes.stopCfg.value n && bit (s.votes.stopCfg.value / 8) k)))
      let s1 := if fwd then ports.foldl (fun st k => emit .vexlink k 0 (blockForward b) st) s else s
      let s2 := setVx n (fun p => { p with rx := p.rx.set (pr - 1) (if last then none else some { bytes := bytes, fwd := fwd }) }) s1
      -- a message of any other TYPE is discarded and counted (13 R473)
      let s3 := if last && !(decide (1 ≤ uAt bytes 0 1) && decide (uAt bytes 0 1 ≤ 9)) then { s2 with net := { s2.net with typeDiscarded := s2.net.typeDiscarded + 1 } } else s2
      if last && fwd then { s3 with net := { s3.net with ready := s3.net.ready ++ [(n, bytes)] } } else s3

/-- VEXLINK_BLOCK (13 R470). -/
def execVexlinkBlock (port : Nat) (block : List Byte) (s : State) : Host.Outcome State Fault Refusal := done (doVexlinkBlock port block s)

/-! ## Delay (13 R477) -/

/-- The capture instant, `frac` 1/64 ns into the present cycle (02 R54). -/
def captureAt (frac : Nat) (s : State) : Nat := 1024 * (dtNow s / 1024 + frac % 128)

/-- A message of a link type that carries the device's own ORIGIN: VX_ID_CLASH, and it is discarded (13 R474). -/
def idClash (n : Nat) (s : State) : State := raise { code := 0x0D07, sev := 4, p0 := ownOrigin, p1 := n } s

/-- Every 100 ms each port that is not OFF sends a DELAY_REQ (13 R477). -/
def doDelayReqTimer (n : Nat) (s : State) : State :=
  if (vxOf s n).st == .off then s
  else
    let s1 := runToCyc ((vxOf s n).reqCyc + cycMs 100) s
    vxSend n { type := 4, origin := ownOrigin } (setVx n (fun p => { p with t1 := some (captureAt 0 s1), reqCyc := s1.time.cyc }) s1)

/-- DELAY_REQ_TIMER (13 R477). -/
def execDelayReqTimer (port : Nat) (s : State) : Host.Outcome State Fault Refusal := done (doDelayReqTimer port s)

/-- A neighbour's DELAY_REQ is answered with its arrival t2 and the answer's departure t3 (13 R477). -/
def doDelayReq (n origin frac : Nat) (s : State) : State :=
  if (vxOf s n).st == .off then s
  else if origin == ownOrigin then idClash n s
  else
    let t := captureAt frac s
    vxSend n { type := 5, origin := ownOrigin, body := dtBytes t ++ dtBytes t } (setVx n (fun p => { p with neighbour := some origin }) s)

/-- DELAY_REQ (13 R477). -/
def execDelayReq (port origin frac : Nat) (s : State) : Host.Outcome State Fault Refusal := done (doDelayReq port origin frac s)

/-- Insertion into an ascending list. -/
def insertAsc (x : Int) : List Int → List Int
  | [] => [x]
  | y :: r => if x ≤ y then x :: y :: r else y :: insertAsc x r

/-- The median of the values held: the mean of the middle two for an even number (13 R477). -/
def median (l : List Int) : Int :=
  let q := l.foldr insertAsc []
  let n := q.length
  if n == 0 then 0 else if n % 2 == 1 then q.getD (n / 2) 0 else (q.getD (n / 2 - 1) 0 + q.getD (n / 2) 0) / 2

/-- A DELAY_RESP yields a delay value; after 8 exchanges a port in MEASURING enters UP (13 R468, R477). -/
def doDelayResp (n : Nat) (m : VxMsg) (frac : Nat) (s : State) : State :=
  let p := vxOf s n
  match p.t1 with
  | none => s
  | some t1 =>
    if p.st == .off then s
    else if m.origin == ownOrigin then idClash n s
    else
      let t4 : Int := captureAt frac s
      let v := ((t4 - t1) - ((dtAt m.body 12 : Int) - dtAt m.body 0)) / 2 - s.net.asym.getD n 0
      let far := (p.st == .measuring || p.st == .up) && !p.delays.isEmpty && decide (10 * 65536 < (v - median p.delays).natAbs)
      let p1 := { p with neighbour := some m.origin, t1 := none, excluded := if far then p.excluded + 1 else p.excluded
                         delays := if far then p.delays else (v :: p.delays).take 8
                         exchanges := p.exchanges + 1 }
      if p.st == .measuring && decide (8 ≤ p1.exchanges) then
        raise { code := 0x0D01, sev := 2, p0 := n, p1 := m.origin, p2 := w32 ((median p1.delays) / 65536) } (setVx n (fun _ => { p1 with st := .up }) s)
      else setVx n (fun _ => p1) s

/-- DELAY_RESP (13 R477). -/
def execDelayResp (port : Nat) (m : VxMsg) (frac : Nat) (s : State) : Host.Outcome State Fault Refusal := done (doDelayResp port m frac s)

/-! ## Time (13 R478, R479, R481, R482) -/

/-- HOPS_TO_ROOT of this device: 0 at the root. -/
def hopsToRoot (s : State) : Nat :=
  if s.net.group == 1 then 0 else match s.net.upstream with | some n => (vxOf s n).hops.getD 0 + 1 | none => 0

/-- The low 32 bits of the root's unique ID. -/
def rootId (s : State) : Nat := if s.net.group == 1 then ownOrigin else uAt s.net.root 0 4

/-- The body of a TIME message for a port (13 R478). -/
def timeBody (n : Nat) (s : State) : List Byte :=
  dtBytes (vxOf s n).timeDep ++ le 4 (match tqOf s with | none => 0xFFFFFFFF | some q => min (q + 2) 0xFFFFFFFE) ++ le 4 (rootId s) ++
  le 1 (hopsToRoot s) ++ le 1 (dsCode (followed s).st) ++ le 1 s.time.taiUtc ++ le 1 (b1 s.time.leapPending)

/-- The next multiple of 10 ms: the present instant, where it is one and TIME has not been sent at it (13 R478). -/
def timeSendAt (s : State) : Nat :=
  let q := 10 * ms1
  let k := dtNow s / q * q
  if decide (dtNow s < k + 2 * ns1) && s.net.timeAt != some k then k else k + q

/-- At each multiple of 10 ms a ROOT sends TIME on every UP port, a MEMBER on every one but its upstream port once its followed
domain takes its source from Vexlink (13 R478). -/
def doTimeSendTimer (s : State) : State :=
  let s0 := runTo (timeSendAt s) s
  let s1 := if s0.net.group == 0 then s0 else { s0 with net := { s0.net with timeAt := some (dtNow s0 / (10 * ms1) * (10 * ms1)) } }
  let ports := if s1.net.group == 1 then vxUp s1
    else if s1.net.group == 2 && (followed s1).source == 6 then (vxUp s1).filter (fun n => some n != s1.net.upstream) else []
  ports.foldl (fun st n => setVx n (fun p => { p with timeDep := captureAt 0 s1 }) (vxSend n { type := 3, origin := ownOrigin, body := timeBody n st } st)) s1

/-- TIME_SEND_TIMER (13 R478). -/
def execTimeSendTimer (s : State) : Host.Outcome State Fault Refusal := done (doTimeSendTimer s)

/-- D_max for the tide period in force (01 R26). -/
def dMax (s : State) : Nat := tideP s / (8 * us1)

/-- A run of root conflict is reported once (13 R481). -/
def rootConflict (origin type n : Nat) (s : State) : State :=
  raiseIf (!s.net.conflictRun) { code := 0x0D04, sev := 4, p0 := origin, p1 := type, p2 := n } { s with net := { s.net with conflictRun := true } }

/-- HOPS_TO_ROOT beyond D_max is reported once for each run (13 R482). -/
def depthCheck (s : State) : State :=
  let excess := decide (dMax s < hopsToRoot s)
  raiseIf (excess && !s.net.depthRun) { code := 0x0D06, sev := 4, p0 := hopsToRoot s, p1 := dMax s, p2 := s.votes.tide.value }
    { s with net := { s.net with depthRun := excess } }

/-- A TIME message: the offset of the previous message's arrival goes to the domain whose source is VEXLINK (13 R478 to R482). -/
def doTimeMessage (n : Nat) (m : VxMsg) (frac : Nat) (s : State) : State :=
  let b := m.body
  let cap := fun (d : Domain) => 1024 * (domNow d / 1024 + frac % 128)
  let drop := fun (x : State) => { x with net := { x.net with timeDiscarded := x.net.timeDiscarded + 1 } }
  if (vxOf s n).st != .up then s
  else if m.origin == ownOrigin then idClash n s
  else if s.net.group == 1 then
    if uAt b 16 4 != ownOrigin then rootConflict (uAt b 16 4) 3 n (drop s) else s
  else if s.net.group != 2 then drop s
  -- the port's TIME no longer carries the root (R479)
  else if uAt b 16 4 != rootId s then reparent (drop (setVx n (fun p => { p with hops := none, timeArr := none }) s))
  else
    let prev := (vxOf s n).timeArr
    let s1 := setVx n (fun p => { p with hops := some (uAt b 20 1), timeArr := some (cap s.time.a, cap s.time.b) }) s
    let s2 := depthCheck (reparent s1)
    if s2.net.upstream != some n then s2
    else
      let s3 := { s2 with time := { s2.time with taiUtc := uAt b 22 1, leapPending := bit (uAt b 23 1) 0 } }
      match prev, domFrom s3 6 with
      | some (ta, tb), some k =>
        let d := domOf s3.time k
        let t2 : Int := if k == 0 then ta else tb
        if uAt b 0 12 == 0 then s3
        else measure k (t2 - median (vxOf s3 n).delays - dtAt b 0 - 1024 * d.delay) (domNow d)
          (if uAt b 12 4 == 0xFFFFFFFF then none else some (uAt b 12 4)) s3
      | _, _ => s3

/-- TIME_MESSAGE (13 R478). -/
def execTimeMessage (port : Nat) (m : VxMsg) (frac : Nat) (s : State) : Host.Outcome State Fault Refusal := done (doTimeMessage port m frac s)

/-! ## Reliable messages, host messages and corrections (13 R473, R476) -/

/-- An ACK ends the waiting of the messages it names on its link (13 R476). -/
def doAckMessage (n : Nat) (m : VxMsg) (s : State) : State :=
  if m.origin == ownOrigin then idClash n s
  else
  let names := (List.range (m.body.length / 8)).map (fun k => (uAt m.body (8 * k) 4, uAt m.body (8 * k + 4) 1, uAt m.body (8 * k + 6) 2))
  { s with net := { s.net with relOut := s.net.relOut.filter (fun r => !(r.port == n && names.contains (r.msg.origin, r.msg.type, r.msg.seq))) } }

/-- ACK_MESSAGE (13 R476). -/
def execAckMessage (port : Nat) (m : VxMsg) (s : State) : Host.Outcome State Fault Refusal := done (doAckMessage port m s)

/-- After 2 tides without an acknowledgement a message is sent again, up to RETRY_MAX times, and then abandoned (13 R476). -/
def doReliableRetry (port index : Nat) (s : State) : State :=
  match (s.net.relOut.filter (fun r => r.port == port))[index]? with
  | none => s
  | some r =>
    let s1 := runToCyc (r.cyc + 2 * (tideP s / (2 * ns1))) s
    if r.tries < s1.net.retryMax then
      -- a port that is not UP carries only DELAY_REQ and DELAY_RESP (R468): the repeat counts and is not sent
      (if (vxOf s1 port).st == .up then vxSend port r.msg else id) { s1 with net := { s1.net with relOut := s1.net.relOut.map (fun x => if x == r then { r with tries := r.tries + 1, cyc := s1.time.cyc } else x) } }
    else setVx port (fun p => { p with lost := (p.lost + 1) % 2 ^ 32 }) { s1 with net := { s1.net with relOut := s1.net.relOut.filter (fun x => x != r) } }

/-- RELIABLE_RETRY (13 R476). -/
def execReliableRetry (port index : Nat) (s : State) : Host.Outcome State Fault Refusal := done (doReliableRetry port index s)

/-- A host message goes to the host as a VX_MSG packet: ORIGIN, ACK_REQ, three zero bytes, then the message body (log entry 12). -/
def deliverHost (m : VxMsg) (s : State) : State := sendS1 0x05 (le 4 m.origin ++ le 1 (b1 m.ackReq) ++ [0, 0, 0] ++ m.body) s

/-- A HOST_MSG is received: forwarded, and delivered, in SEQ order where it is reliable (13 R473, R475, R476). -/
def doHostMsg (n : Nat) (m : VxMsg) (s : State) : State :=
  let (new, s1) := vxFlood n m (vxUp s) s
  if !new then s1
  else if m.ackReq then let (ms, s2) := relAccept m s1; ms.foldl (fun st x => deliverHost x st) s2
  else deliverHost m s1

/-- HOST_MSG (13 R473). -/
def execHostMsg (port : Nat) (m : VxMsg) (s : State) : Host.Outcome State Fault Refusal := done (doHostMsg port m s)

/-- A CORR message goes to the host as an RTCM packet and is never fed into the device's own RTK engine (13 R473). -/
def doCorrMessage (n : Nat) (m : VxMsg) (s : State) : State :=
  let (new, s1) := vxFlood n m (vxUp s) s
  if new then sendS1 0x02 m.body s1 else s1

/-- CORR_MESSAGE (13 R473). -/
def execCorrMessage (port : Nat) (m : VxMsg) (s : State) : Host.Outcome State Fault Refusal := done (doCorrMessage port m s)

/-- A VX_MSG packet of the host is originated as HOST_MSG: byte 0 ACK_REQ, three zero bytes, then the body (13 R473, log entry 12). -/
def doVxMsgPacket (s : State) : State :=
  match takeS0 5 s with
  | none => s
  | some (p, s1) =>
    let body := p.payload.drop 4
    let portNo := uAt body 0 1
    if decide (1 < uAt p.payload 0 1) || !zeros p.payload 1 3 || decide (portNo < 2) || decide (0x7F < portNo) || !zeros body 1 3 ||
       decide (body.length < 5) || decide (1028 < body.length) then s0Reject s1
    else vxOriginate (vxUp s1) 8 (uAt p.payload 0 1 == 1) body s1

/-- VX_MSG_PACKET (13 R473). -/
def execVxMsgPacket (s : State) : Host.Outcome State Fault Refusal := done (doVxMsgPacket s)

/-! ## Commands -/

/-- The body of NET_VX_CONFIG (13 R474, R497, 16 R596). -/
def netVxConfig (p : List Byte) (s : State) : Reply × State :=
  let ports := uAt p 0 1
  let role := uAt p 1 1
  if decide (7 < ports) || decide (2 < role) || decide (15 < uAt p 2 1) || !zeros p 3 1 || (role != 2 && !zeros p 4 16) then refuse stBadParam s
  else if jobBusy s then refuse stBadState s
  else match journalPut { type := 1, key := settingKey 3 0, payload := (p.drop 1).take 19, prio := 5, schema := s.update.schema } s with
    | (false, s1) => (.now stNoResource [], s1)
    | (true, s1) =>
      let vx := (List.range 3).map (fun n => let q := vxOf s1 n
        if bit ports n then (if q.st == .off then { ({} : VxPort) with st := .training, reqCyc := s1.time.cyc } else q) else ({} : VxPort))
      ok { s1 with net := { s1.net with vx := vx, group := role, retryMax := uAt p 2 1, root := (p.drop 4).take 16, upstream := none,
                                        conflictRun := false, depthRun := false } }

/-- NET_VX_CONFIG (13 R474). -/
def execNetVxConfig (c : Cmd) (s : State) : Host.Outcome State Fault Refusal := done (command 0x0D01 20 0 none netVxConfig c s)

/-- VxSt as NET_VX_STATUS codes it: in the order of 13 R468. -/
def vxCode : VxSt → Nat
  | .off => 0
  | .training => 1
  | .measuring => 2
  | .up => 3

/-- The result of NET_VX_STATUS (13 R497; the places inside the 16 bytes are the model's, log entry 13). -/
def netVxStatusBytes (s : State) : List Byte :=
  ((List.range 3).map (fun n => let p := vxOf s n
    le 1 (vxCode p.st) ++ [0] ++ leI 2 (satI 16 ((median p.delays) / 65536)) ++ le 4 (p.neighbour.getD 0) ++ le 4 p.discarded ++ le 4 p.lost)).flatten ++
  le 1 (s.net.upstream.getD 0xFF) ++ le 1 (hopsToRoot s) ++ [0, 0] ++ le 4 s.net.poseDiscarded

/-- NET_VX_STATUS (13 R497). -/
def execNetVxStatus (c : Cmd) (s : State) : Host.Outcome State Fault Refusal :=
  done (command 0x0D02 0 56 none (fun _ s => okWith (netVxStatusBytes s) s) c s)

end Sys2Proof.Machine
end

