-- ==== Sys2Proof/Machine/Stop.lean ====
section
/-!
DEFINITION. Breakwater (12 R452 to R465, 01 R39): stop sources, the three states of the stop, STOP_WORD, stop messages on
Vexlink, and the STOP commands.
-/
namespace Sys2Proof.Machine

/-! ## The state of the stop (12 R452, R453, R455) -/

/-- A source is active. -/
def stopActive (s : State) (src : Nat) : Bool := (s.stop.active.getD src none).isSome
/-- Sources active, bit s for source s (12 R463). -/
def stopSources (s : State) : Nat := ((List.range 6).map (fun k => bitIf (stopActive s k) k)).sum
/-- CAUSE of STOP_WORD (12 R455). -/
def stopCause (s : State) : Nat :=
  match s.stop.entry with
  | 0 => if s.stop.discrep then 3 else 1
  | 1 | 2 => 4
  | 3 => 2
  | 4 => 5
  | _ => 0
/-- The device's own STOP_WORD (12 R455). -/
def stopWord (s : State) : Nat := bitIf (stopInForce s) 15 + 4096 * stopCause s + s.stop.epoch
/-- STOP_OUT_A and STOP_OUT_B are low: a stop is in force, the device is in SAFE, or SAFE does not run (12 R454, 17 R609, R610). -/
def stopOutLow (s : State) : Bool :=
  stopInForce s || s.power.st == .safe || s.power.st == .off || s.power.st == .slack || s.power.tamperSafe || s.power.fatal.isSome || s.sec.alarmAt.isSome || s.sec.wiped ||
  bit s.sec.debug 3
/-- ACCEPT and FORWARD: a port's bits of the stop configuration (12 R463). -/
def stopAccept (s : State) (n : Nat) : Bool := bit s.votes.stopCfg.value n
/-- FORWARD ports. -/
def stopForward (s : State) : List Nat := (List.range 3).filter (fun n => bit s.votes.stopCfg.value (3 + n))

/-- A stop message is originated on the FORWARD ports that are UP (12 R456). -/
def stopOriginate (s : State) : State :=
  vxOriginate ((stopForward s).filter (fun n => (vxOf s n).st == .up)) 1 false (le 1 s.stop.epoch ++ le 1 (stopCause s)) s

/-- At each tide boundary while a source other than source 3 is active (12 R456). -/
def stopTide (s : State) : State :=
  if (List.range 6).any (fun k => k != 3 && stopActive s k) then stopOriginate s else s

/-- Milliseconds since an island cycle. -/
def msSince (c : Nat) (s : State) : Nat := (s.time.cyc - c) / cycMs 1

/-- The superframe number at a Device Time (11 R404, 12 R447: 100 ms while the radio is unconfigured). -/
def sfAt (s : State) (t : Nat) : Nat := t / (ms1 * (if s.fleet.configured then s.fleet.sfMs else 100)) % 2 ^ 32

/-- A stop burst at a serving base: the rest of this superframe and the whole of the next (11 R412). -/
def startBurst (s : State) : State :=
  if s.fleet.st == .beaconing then
    { s with fleet := { s.fleet with burst := some ((sfAt s (dtNow s) + 1) % 2 ^ 32, dtNow s + 20 * us1) } }
  else s

/-- A source becomes active (12 R452, R453): the state, the episode, EPOCH and CAUSE. -/
def stopEnter (src : Nat) (s : State) : State :=
  let q := s.stop
  let enters := q.st != .inForce
  { s with stop := { q with
      st := .inForce, active := q.active.set src (some s.time.cyc)
      episode := if q.st == .clear then 2 ^ src else q.episode ||| 2 ^ src
      recovered := if q.st == .clear then false else q.recovered
      clearAt := if q.st == .clear then s.time.cyc else q.clearAt
      epoch := if enters then (q.epoch + 1) % 16 else q.epoch
      entry := if enters then src else q.entry
      regSt := stOf (dtNow s) } }

/-- A stop source is registered (12 R452, 01 R39): STOP_OUT is asserted by the state entered, every axis stops at D_STOP, STOP_QUIET
outputs go inactive, the base sends its burst, Vexlink carries the stop at once (R456), and STOP_REGISTERED is raised. -/
def stopRegister (src : Nat) (s : State) : State :=
  let s1 := stopEnter src s
  let s2 := raise { code := 0x0C01, sev := 7, src := 4, p0 := src, p1 := stopWord s1, p2 := s1.stop.regSt } s1
  let s3 := startBurst (quietCompares (haltAxes 1 s2))
  if src == 3 then s3 else stopOriginate s3

/-- A source that is not yet active is registered. -/
def stopSource (src : Nat) (s : State) : State := if stopActive s src then s else stopRegister src s

/-- The stop becomes CLEAR (12 R453, R465). -/
def stopToClear (cause : Nat) (s : State) : State :=
  raise { code := 0x0C03, sev := 2, src := 4, p0 := s.stop.epoch, p1 := msSince s.stop.clearAt s, p2 := cause }
    { s with stop := { s.stop with st := .clear } }

/-- A source ends (12 R452, R453): when none but source 5 is left, LATCHED, or CLEAR after FLEET_RECOVER in an episode of source 4. -/
def stopEnd (src : Nat) (s : State) : State :=
  match s.stop.active.getD src none with
  | none => s
  | some c =>
    let s1 := raise { code := 0x0C02, sev := 2, src := 4, p0 := src, p1 := msSince c s }
      { s with stop := { s.stop with active := s.stop.active.set src none } }
    if s1.stop.st == .inForce && stopSources s1 % 32 == 0 then
      if s1.stop.episode == 16 && s1.stop.recovered then stopToClear 1 s1
      else { s1 with stop := { s1.stop with st := .latched } }
    else s1

/-! ## STOP_IN (12 R452) -/

/-- An input has been low for 10 us: the levels of STOP_IN_A and STOP_IN_B, and source 0. -/
def doStopInRegister (aLow bLow : Bool) (s : State) : State :=
  if !aLow && !bLow then s
  else
    let q := s.stop
    let s1 := { s with stop := { q with
      aLow := aLow, bLow := bLow, together := q.together || (aLow && bLow)
      disagree := if aLow == bLow then none else some (q.disagree.getD (s.time.cyc - cycUs 10)) } }
    let edge := fun (was now : Bool) (x : State) => if now && !was then firmwareCapture 3 true (capTime 0 s - 10 * us1) x else x
    stopSource 0 (edge q.bLow bLow (edge q.aLow aLow s1))

/-- STOP_IN_REGISTER (12 R452). -/
def execStopInRegister (aLow bLow : Bool) (s : State) : Host.Outcome State Fault Refusal := done (doStopInRegister aLow bLow s)

/-- Both inputs have been high for 20 ms: source 0 ends, after a discrepancy only once both have been low together. -/
def doStopInRelease (s : State) : State :=
  let edge := fun (was : Bool) (x : State) => if was then firmwareCapture 3 false (capTime 0 s - 20 * ms1) x else x
  let s1 := edge s.stop.bLow (edge s.stop.aLow { s with stop := { s.stop with aLow := false, bLow := false, disagree := none } })
  if s.stop.discrep && !s.stop.together then s1
  else stopEnd 0 { s1 with stop := { s1.stop with discrep := false, together := false } }

/-- STOP_IN_RELEASE (12 R452). -/
def execStopInRelease (s : State) : Host.Outcome State Fault Refusal := done (doStopInRelease s)

/-- The inputs have disagreed for more than 1 ms: `b`, STOP_IN_B is the one that is low. -/
def doStopDiscrepancy (b : Bool) (s : State) : State :=
  let s1 := match s.stop.disagree with | some c => runToCyc (c + cycMs 1) s | none => s
  let ms := match s1.stop.disagree with | some c => max 1 (msSince c s1) | none => 1
  if s1.stop.discrep && s1.stop.disagree.isSome && !s1.stop.together then s1
  else
    let s2 := { s1 with stop := { s1.stop with discrep := true, together := false, aLow := !b, bLow := b
                                               disagree := some (s1.stop.disagree.getD (s1.time.cyc - cycMs 1)) } }
    stopSource 0 (raise { code := 0x0C04, sev := 7, src := 4, p0 := b1 b, p1 := ms } s2)

/-- STOP_DISCREPANCY (12 R452). -/
def execStopDiscrepancy (b : Bool) (s : State) : Host.Outcome State Fault Refusal := done (doStopDiscrepancy b s)

/-! ## Vexlink (12 R456) -/

/-- A STOP message arrives: accepted on an ACCEPT port, forwarded once on the other FORWARD ports; a new EPOCH of an ORIGIN is a
new activation of source 3. -/
def doStopMessage (n : Nat) (m : VxMsg) (s : State) : State :=
  if !stopAccept s n then s
  else
    let (new, s1) := vxFlood n m (stopForward s) s
    if !new then s1
    else
      let ep := uAt m.body 0 1 % 16
      let known := tget s1.stop.epochs m.origin == some ep
      let fresh := !stopActive s1 3 || !known
      let s2 := { s1 with stop := { s1.stop with vexAt := dtNow s1, epochs := tset s1.stop.epochs m.origin ep } }
      if fresh then stopRegister 3 s2 else s2

/-- STOP_MESSAGE (12 R456). -/
def execStopMessage (port : Nat) (m : VxMsg) (s : State) : Host.Outcome State Fault Refusal := done (doStopMessage port m s)

/-- Three tides pass without a stop message: source 3 ends (12 R452). -/
def doVexlinkStopTimeout (s : State) : State :=
  if !stopActive s 3 then s
  else
    let s1 := runTo (s.stop.vexAt + 3 * tideP s) s
    stopEnd 3 { s1 with stop := { s1.stop with epochs := [] } }

/-- VEXLINK_STOP_TIMEOUT (12 R452). -/
def execVexlinkStopTimeout (s : State) : Host.Outcome State Fault Refusal := done (doVexlinkStopTimeout s)

/-! ## Commands (12 R463) -/

/-- State of the stop as STOP_STATUS codes it. -/
def stopCode : StopCond → Nat
  | .clear => 0
  | .inForce => 1
  | .latched => 2

/-- The result of STOP_STATUS (12 R463): a rover that has received a STOP_WORD reports it, else the device's own. -/
def stopStatusBytes (s : State) : List Byte :=
  le 1 (stopCode s.stop.st) ++ le 1 (stopSources s) ++
  le 2 (if roleOf s == 0 then s.stop.lastWord.getD (stopWord s) else stopWord s) ++ le 4 s.stop.regSt ++
  le 1 (bitIf (!s.stop.aLow) 0 + bitIf (!s.stop.bLow) 1) ++ le 1 (s.votes.stopCfg.value % 8) ++ le 1 (s.votes.stopCfg.value / 8 % 8)

/-- STOP_STATUS (12 R463). -/
def execStopStatus (c : Cmd) (s : State) : Host.Outcome State Fault Refusal :=
  done (command 0x0C01 0 11 none (fun _ s => okWith (stopStatusBytes s) s) c s)

/-- STOP_CLEAR (12 R453). -/
def stopClear (_ : List Byte) (s : State) : Reply × State :=
  match s.stop.st with
  | .inForce =>
    if stopSources s == 1 && s.stop.discrep && !s.stop.together && !s.stop.aLow && !s.stop.bLow then refuse 0x0C81 s
    else refuse 0x0C80 s
  | .latched => ok (stopToClear 0 (stopEnd 5 s))
  | .clear => ok s

/-- STOP_CLEAR (12 R453). -/
def execStopClear (c : Cmd) (s : State) : Host.Outcome State Fault Refusal := done (command 0x0C02 0 0 none stopClear c s)

/-- STOP_CONFIG: ACCEPT and FORWARD through the field's own path (12 R463, 14 R505). -/
def stopConfig (p : List Byte) (s : State) : Reply × State :=
  if decide (8 ≤ uAt p 0 1) || decide (8 ≤ uAt p 1 1) then refuse stBadParam s
  else if !stopInForce s then refuse stBadState s
  else ok { s with votes := { s.votes with stopCfg := s.votes.stopCfg.write (uAt p 0 1 + 8 * uAt p 1 1) } }

/-- STOP_CONFIG (12 R463). -/
def execStopConfig (c : Cmd) (s : State) : Host.Outcome State Fault Refusal := done (command 0x0C03 2 0 none stopConfig c s)

end Sys2Proof.Machine
end

