-- ==== Sys2Proof/Machine/Crypto.lean ====
section
/-!
DEFINITION. The functions of the crypto engines (15 R549) with the lengths that their standards give their results; what the bytes are is open (log entry 23).
-/
namespace Sys2Proof.Machine

/-- Exactly `n` bytes of a list: cut short, or filled up with zeros. -/
def sized (n : Nat) (b : List Byte) : List Byte := (b ++ List.replicate n 0).take n

/-- AES over data: as many bytes come out as go in. -/
def aesOf (mode : Nat) (dec : Bool) (key iv data : List Byte) : List Byte := sized data.length (Config.cipher mode dec key iv data)
/-- AES-CMAC: 16 bytes. -/
def cmacOf (key msg : List Byte) : List Byte := sized 16 (Config.cmac key msg)
/-- SHA-256 (0): 32 bytes; SHA-384 (1): 48. -/
def hashOf (a : Nat) (msg : List Byte) : List Byte := sized (if a == 0 then 32 else 48) (Config.sha a msg)
/-- HMAC of the hash: 32 or 48 bytes. -/
def hmacOf (a : Nat) (key msg : List Byte) : List Byte := sized (if a == 0 then 32 else 48) (Config.hmac a key msg)
/-- The tag of AES-GCM: 16 bytes. -/
def gcmTagOf (key iv aad ct : List Byte) : List Byte := sized 16 (Config.gcmTag key iv aad ct)
/-- An ECDSA signature r then s: 64 bytes on P-256 (key type 5), 96 on P-384. -/
def signOf (ty : Nat) (key digest : List Byte) (k : Nat) : List Byte := sized (if ty == 5 then 64 else 96) (Config.ecSign ty key digest k)
/-- The ECDH secret: as long as the private key. -/
def sharedOf (key peer : List Byte) : List Byte := sized key.length (Config.ecdh key peer)
/-- The uncompressed public key of a pair: 65 bytes on P-256, 97 on P-384. -/
def publicOf (ty : Nat) (key : List Byte) : List Byte := sized (if ty == 5 then 65 else 97) (Config.ecPub ty key)
/-- The KDF of 15 R545: the bytes asked for. -/
def kdfOf (key label ctx : List Byte) (n : Nat) : List Byte := sized n (Config.kdf key label ctx n)

end Sys2Proof.Machine
end

