-- ==== Sys2Proof/Machine/Vault.lean ====
section
/-!
DEFINITION. The key vault (15 R542 to R548): permitted uses, slots written, revoked and wiped, blobs in the journal.
-/
namespace Sys2Proof.Machine

/-- The 16 bytes ID_UNIQUE_0 to ID_UNIQUE_3 (00 R4). -/
def uidBytes : List Byte := (List.range 4).flatMap (fun k => le 4 (Config.uniqueId k))

/-- A slot's entry. -/
def slotOf (s : State) (n : Nat) : Option KeySlot := tget s.sec.keys n

/-- The LC bit of the present life-cycle (15 R543). -/
def lcBit (s : State) (k : KeySlot) : Bool := (lifeCycle s == 1 && bit k.lc 0) || (lifeCycle s == 2 && bit k.lc 1)

/-- A use by a master: `some status` refuses it (15 R543). `bitNo` is the USES bit; `none` where no USES bit is needed. -/
def useCheck (s : State) (n : Nat) (bitNo : Option Nat) (master : Nat) (worldOfS : Bool) : Option Nat :=
  match slotOf s n with
  | none => some 0x0E81
  | some k =>
    if k.revoked then some stKeyRevoked
    else if (match bitNo with | some b => bit k.uses b | none => true) && bit k.masters master &&
        (master != 0 || bit k.world (b1 worldOfS)) && lcBit s k then none
    else some stNotPermitted

/-- An operation on a slot completes: USE_COUNT (15 R543). -/
def countUse (n : Nat) (s : State) : State :=
  { s with sec := { s.sec with keys := tmod s.sec.keys n (fun k => { k with uses0 := satN 0xFFFFFFFF (k.uses0 + 1) }) } }

/-- The key material of a slot that RAD may use with a USES bit (11 R403, 15 R535). -/
def radUse (s : State) (n bitNo : Nat) : Option (List Byte) :=
  if (useCheck s n (some bitNo) 3 true).isNone then (slotOf s n).map (·.key) else none

/-- The key with which RAD tags frames. -/
def radKey (s : State) (n : Nat) : Option (List Byte) := radUse s n 2

/-- The 16 bytes of attributes (15 R543). -/
def slotAttrs (st : Nat) (k : KeySlot) : List Byte :=
  le 1 st ++ le 1 k.type ++ le 2 k.uses ++ le 1 k.masters ++ le 1 k.world ++ le 1 k.lc ++ le 1 k.flags ++ le 1 k.parent ++ le 1 k.depth ++
  le 2 k.gen ++ le 4 k.uses0

/-- Bytes of key material of a TYPE (15 R543; public keys uncompressed). -/
def keyLen (ty : Nat) : Nat := [0, 16, 32, 32, 48, 32, 48, 65, 97, 32].getD ty 0

/-- Free bytes from the DRBG (15 R549). -/
def drawBytes (n : Nat) (s : State) : List Byte × State := let (v, s1) := draw s; (le n v, s1)

/-- STORE, the key that wraps blobs (15 R541, R544). -/
def storeKey (s : State) : List Byte := match slotOf s 1 with | some k => k.key | none => []

/-- A secret wrapped under a key: IV, ciphertext, tag (15 R544, R546; its layout is log entry 24). -/
def wrapKey (kek iv aad secret : List Byte) : List Byte :=
  let ct := aesOf 3 false kek iv secret
  iv ++ ct ++ gcmTagOf kek iv aad ct

/-- A blob unwrapped: none where its tag fails. -/
def unwrapKey (kek aad blob : List Byte) (n : Nat) : Option (List Byte) :=
  let iv := blob.take 12
  let ct := (blob.drop 12).take n
  if gcmTagOf kek iv aad ct == (blob.drop (12 + n)).take 16 then some (aesOf 3 true kek iv ct) else none

/-- The blob record of a PERSISTENT slot (15 R544, 16 R594). -/
def blobWrite (n : Nat) (k : KeySlot) (iv : List Byte) (s : State) : JWrite :=
  let a := slotAttrs (if k.revoked then 2 else 1) k
  { type := 0x10, key := n, payload := a ++ wrapKey (storeKey s) iv (le 1 n ++ a) k.key, prio := 5 }

/-- A key enters a slot (15 R543, R544): its GENERATION advances; a PERSISTENT key is journalled first, and where the journal
refuses the record nothing is written. -/
def writeSlot (n : Nat) (k0 : KeySlot) (s : State) : Bool × State :=
  let g := ((tget s.sec.gens n).getD 0 + 1) % 65536
  let k := { k0 with gen := g }
  let put := fun (st : State) => { st with sec := { st.sec with keys := tset st.sec.keys n k, gens := tset st.sec.gens n g } }
  if bit k.flags 0 then
    let (iv, s1) := drawBytes 12 s
    let (okd, s2) := journalPut (blobWrite n k iv s1) s1
    if okd then (true, put s2) else (false, s2)
  else (true, put s)

/-- The slots that descend from a set of slots (15 R547). -/
def descend (keys : List (Nat × KeySlot)) : Nat → List Nat → List Nat
  | 0, _ => []
  | f + 1, from0 =>
    let kids := (keys.filter (fun e => from0.contains e.2.parent)).map (·.1)
    if kids.isEmpty then [] else kids ++ descend keys f kids

/-- The descendants of a slot that are not yet REVOKED. -/
def descendants (s : State) (n : Nat) : List Nat :=
  (descend s.sec.keys 8 [n]).filter (fun k => match slotOf s k with | some x => !x.revoked | none => false)

/-- Slots marked REVOKED in one vault cycle (15 R547); PERSISTENT ones are journalled again as REVOKED. -/
def revokeSlots (ns : List Nat) (s : State) : State :=
  ns.foldl (fun st n =>
    let st1 := { st with sec := { st.sec with keys := tmod st.sec.keys n (fun k => { k with revoked := true }) } }
    match slotOf st1 n with
    | some k => if bit k.flags 0 then let (iv, s2) := drawBytes 12 st1; journalLog (blobWrite n k iv s2) s2 else st1
    | none => st1) s

/-- A DELETE record (16 R594), exempt from R600. -/
def journalDelete (type key : Nat) (s : State) : State :=
  journalLog { type := 2, key := 65536 * type + key % 65536, payload := [], prio := 5, exempt := true } s

/-- A slot is wiped and EMPTY, its blob deleted, its descendants REVOKED (15 R547). -/
def wipeSlot (n : Nat) (s : State) : State :=
  let d := descendants s n
  let blob := match slotOf s n with | some k => bit k.flags 0 | none => false
  let s1 := { s with sec := { s.sec with keys := tdel s.sec.keys n } }
  let s2 := if blob then journalDelete 0x10 n s1 else s1
  revokeSlots d s2

/-- The whole vault is wiped (15 R558). -/
def wipeVault (s : State) : State := { s with sec := { s.sec with keys := [], sessions := [] } }

end Sys2Proof.Machine
end

