-- ==== Sys2Proof/Machine/FleetOps.lean ====
section
/-!
DEFINITION. Fleet radio: superframes and slots, frames on air, links with acknowledgements, and radio messages
(11 R397 to R407, R421 to R423).
-/
namespace Sys2Proof.Machine

/-! ## Modes, superframes and slots (11 R397, R404 to R407) -/

/-- Bit rate of a mode in kbit/s (11 R397). -/
def bitRate (mode : Nat) : Nat := [1000, 1000, 500, 500, 500, 250, 100].getD mode 100
/-- Minimum superframe of a mode in ms (11 R397). -/
def minSf (mode : Nat) : Nat := [50, 50, 80, 80, 80, 150, 360].getD mode 360
/-- The superframe, 2^-16 ns. -/
def sfLen (f : FleetSt) : Nat := ms1 * f.sfMs
/-- T_slot, 2^-16 ns (11 R405). -/
def slotLen (f : FleetSt) : Nat := ns1 * 12500 * f.sfMs
/-- The duration of a number of bits, 2^-16 ns. -/
def bitsLen (f : FleetSt) (n : Nat) : Nat := ns1 * 1000000 * n / bitRate f.mode
/-- Payload bytes of a frame of duration `ns` nanoseconds (11 R406). -/
def payloadOf (ns rate : Nat) : Nat := min 239 ((ns - 60000) * rate / 8000000 - 27)
/-- Payload of a full slot. -/
def fullPayload (f : FleetSt) : Nat := payloadOf (12500 * f.sfMs) (bitRate f.mode)
/-- Payload of a half-slot. -/
def halfPayload (f : FleetSt) : Nat := payloadOf (6250 * f.sfMs) (bitRate f.mode)

/-- Slots that the base owns (11 R405). -/
def baseSlot (k : Nat) : Bool := decide (k < 79) && (k % 4 == 0 || [65, 66, 67, 69, 70, 71, 73, 74, 75, 77, 78].contains k)
/-- Contention slots. -/
def contSlotOk (k : Nat) : Bool := k % 4 == 3 && decide (k ≤ 63)
/-- Rover slots. -/
def roverSlot (k : Nat) : Bool := (k % 4 == 1 || k % 4 == 2) && decide (k ≤ 62)
/-- Slot and half of a rover address (11 R405). -/
def addrSlot (a : Nat) : Nat × Nat := (4 * ((a - 1) / 4) + 1 + (a - 1) % 4 / 2, (a - 1) % 2)
/-- A frame TYPE may appear in a slot (11 R402). -/
def typeSlotOk (ty slot : Nat) : Bool :=
  if ty == 0 then slot == 0
  else if ty == 1 || ty == 2 || ty == 3 || ty == 4 || ty == 7 || ty == 9 then baseSlot slot && slot != 0
  else if ty == 5 then roverSlot slot
  else if ty == 6 || ty == 8 then contSlotOk slot
  else false

/-- Channels of a map in ascending order (11 R407). -/
def mapChannels (m : Nat) : List Nat := (List.range 40).filter (fun i => bit m i)
/-- The channel of a superframe (11 R407). -/
def channelOf (netId sf m : Nat) : Nat :=
  let c := mapChannels m
  let n := c.length
  c.getD ((netId + sf * (if n % 7 == 0 then 11 else 7)) % max n 1) 0
/-- NET_ID has from 12 to 20 ones and no run of more than 6 equal bits (11 R400). -/
def netIdOk (v : Nat) : Bool :=
  let b := (List.range 32).map (bit v)
  let ones := (b.filter id).length
  let run := b.foldl (fun (st : Option Bool × Nat × Nat) x =>
    let k := if st.1 == some x then st.2.1 + 1 else 1
    (some x, k, max st.2.2 k)) (none, 0, 0)
  decide (12 ≤ ones) && decide (ones ≤ 20) && decide (run.2.2 ≤ 6)

/-- The offset of a rover's slots at a Device Time: O + y x t (11 R414); zero at a base. -/
def radOff (f : FleetSt) (t : Nat) : Int :=
  match f.beaconAt with
  | none => 0
  | some b => f.offO + f.driftY * ((t : Int) - b) / 1000000000000

/-- The superframe that runs at a Device Time in radio time, not reduced (log entry 21). -/
def sfFull (s : State) (t : Nat) : Nat := ((t : Int) - radOff s.fleet t).toNat / sfLen s.fleet
/-- Device Time at which a slot or half-slot of a superframe starts. -/
def slotStart (s : State) (k slot half : Nat) : Nat :=
  let b := k * sfLen s.fleet + slot * slotLen s.fleet + half * (slotLen s.fleet / 2)
  ((b : Int) + radOff s.fleet b).toNat
/-- SF_NUMBER now (11 R404). -/
def sfNow (s : State) : Nat := sfFull s (dtNow s) % 2 ^ 32

/-! ## Frames on air (11 R400 to R403) -/

/-- The MAC header (11 R401). -/
def macHeader (ty src dst : Nat) (ackReq retx : Bool) (seq ackSeq ackMap : Nat) : List Byte :=
  le 1 (ty * 16 + bitIf ackReq 0 + bitIf retx 1) ++ le 1 src ++ le 1 dst ++ le 2 seq ++ le 2 ackSeq ++ le 1 ackMap

/-- TAG: the first 8 bytes of AES-CMAC over the prefix, HEADER and PAYLOAD (11 R403). -/
def radTag (key : List Byte) (netId sf slot half : Nat) (hdr payload : List Byte) : List Byte :=
  (cmacOf key (le 4 netId ++ le 4 sf ++ le 1 slot ++ le 1 half ++ hdr ++ payload)).take 8

/-- One whitened bit: the register of x^7 + x^4 + 1 and the output (11 R400; its form PRESUMED, log entry 22). -/
def whitenBit (st : Nat × List Bool) (b : Bool) : Nat × List Bool :=
  let o := bit st.1 6
  ((st.1 * 2 % 128) ^^^ (if o then 0x11 else 0), (xor b o) :: st.2)

/-- Bytes whitened for a channel (11 R400). -/
def whiten (chan : Nat) (p : List Byte) : List Byte :=
  let bits := (p.map (fun b => (List.range 8).map (bit b.toNat))).flatten
  let out := (bits.foldl whitenBit (0x40 ||| chan, [])).2.reverse
  (List.range p.length).map (fun i => BitVec.ofNat 8 (((out.drop (8 * i)).take 8).foldr (fun b a => b1 b + 2 * a) 0))

/-- The whole frame as it goes on air (11 R400). -/
def airFrame (chan netId : Nat) (hdr payload tag : List Byte) : List Byte :=
  let body := le 1 (8 + payload.length + 8) ++ hdr ++ payload ++ tag
  [0x55, 0x55, 0x55, 0x55] ++ le 4 netId ++ whiten chan (body ++ le 2 (crc16 body))

/-- The symbols of bytes on air, least significant bit first, in quarters of the symbol rate: the dibits of 4-GFSK are Gray-mapped, the first bit sent the more
significant; the sign of 2-GFSK is the family's (11 R397, R400; log entry 71). -/
def airSymbols (mode : Nat) (p : List Byte) : List Int :=
  let bits := (p.map (fun b => (List.range 8).map (bit b.toNat))).flatten
  let rec dibits : List Bool → List Int
    | a :: b :: r => (if a then (if b then -1 else -3) else if b then 1 else 3) :: dibits r
    | _ => []
  if mode == 1 || mode == 4 then dibits bits else bits.map (fun b => if b then 1 else -1)

/-- The frequency of a channel in Hz (11 R407). -/
def channelHz (f : FleetSt) (i : Nat) : Nat := if f.mode < 3 then 2402000000 + 2000000 * i else 1000 * f.f0 + f.spacing * i

/-- The key slot of a frame TYPE (11 R403). -/
def keySlotOf (f : FleetSt) (ty : Nat) : Nat := if ty == 8 || ty == 9 then f.svcKey else f.netKey

/-- A frame is sent in a slot that starts at a Device Time: RF_TXEN, the frame 30 us later at the antenna, its symbols launched TX_DELAY early, RF_TXEN down 2 us after
the last bit (11 R398, R399, R403). Nothing is sent without a usable key (11 R428). -/
def radioSend (k slot half start ty dst : Nat) (ackReq retx : Bool) (seq ackSeq ackMap : Nat) (payload : List Byte) (s : State) : State :=
  match radKey s (keySlotOf s.fleet ty) with
  | none => s
  | some key =>
    let src := if roleOf s == 1 then 0 else if ty == 5 then s.fleet.address else if s.fleet.st == .joined then s.fleet.address else 0xFF
    let hdr := macHeader ty src dst ackReq retx seq ackSeq ackMap
    let chan := channelOf s.fleet.netId (k % 2 ^ 32) s.fleet.map
    let fr := airFrame chan s.fleet.netId hdr payload (radTag key s.fleet.netId (k % 2 ^ 32) slot half hdr payload)
    let t1 := start + 30 * us1
    emit .pin 72 (t1 + bitsLen s.fleet (8 * fr.length) + 2 * us1) [0]
      (emit .radio (channelHz s.fleet chan) (t1 - ns1 * s.fleet.txDelay) ((airSymbols s.fleet.mode fr).flatMap (leI 1)) (emit .pin 72 start [1] s))

/-! ## Links (11 R421 to R423) -/

/-- The link with a peer: a rover's address at the base, 0 at a rover. -/
def peerOf (s : State) (a : Nat) : Peer :=
  if roleOf s == 1 then (match tget s.fleet.rovers a with | some r => r.peer | none => {}) else s.fleet.peer
/-- A link changed. -/
def setPeer (a : Nat) (f : Peer → Peer) (s : State) : State :=
  if roleOf s == 1 then { s with fleet := { s.fleet with rovers := tmod s.fleet.rovers a (fun r => { r with peer := f r.peer }) } }
  else { s with fleet := { s.fleet with peer := f s.fleet.peer } }

/-- The 8 bits of ACK_MAP from a window (11 R401). -/
def ackMapOf (p : Peer) : Nat := ((List.range 8).map (fun i => bitIf (bit p.map (31 - i)) i)).sum

/-- FLEET_MSG_FAILED (11 R432). -/
def msgFailed (token a cause : Nat) (s : State) : State := raise { code := 0x0A0A, sev := 3, src := 3, p0 := token, p1 := a, p2 := cause } s

/-- A message queued for a peer (11 R421): a ninth fails with cause 1. -/
def queueMsg (a port : Nat) (rel : Bool) (token : Nat) (data : List Byte) (s : State) : State :=
  let p := peerOf s a
  if 8 ≤ p.queue.length then msgFailed token a 1 s
  else
    let id := (p.msgId + 1) % 65536
    setPeer a (fun p => { p with msgId := id, queue := p.queue ++ [{ port := port, reliable := rel, token := token, msgId := id, data := data }] }) s

/-- RETRY_MAX of the radio (11 R422). -/
def radRetryMax : Nat := 4

/-- The fragment that a peer's frame carries next, with `room` bytes (11 R421, R422): a retransmission first. Answers the
fragment, its SEQ where it is a retransmission, and whether it asks for an acknowledgement. -/
def takeFrag (a sf room : Nat) (s : State) : Option (List Byte × Option Nat × Bool) × State :=
  let p := peerOf s a
  match p.unacked.find? (fun u => u.again && decide (u.bytes.length ≤ room)) with
  | some u =>
    (some (u.bytes, some u.seq, true),
     setPeer a (fun p => { p with unacked := p.unacked.map (fun x => if x.seq == u.seq then { x with again := false, sf := sf, tries := x.tries + 1 } else x) }) s)
  | none =>
    match p.queue with
    | [] => (none, s)
    | m :: r =>
      if room < 5 then (none, s)
      else
        let n := room - 4
        let last := decide (m.data.length ≤ n)
        let b := le 1 m.port ++ le 1 (m.frag + bitIf last 7) ++ le 2 m.msgId ++ m.data.take n
        let seq := (p.seq + 1) % 65536
        let u : FragOut := { seq := seq, bytes := b, sf := sf, msgId := m.msgId, token := if m.token == 0 then m.msgId else m.token, last := last }
        (some (b, none, m.reliable),
         setPeer a (fun p => { p with
           queue := if last then r else { m with data := m.data.drop n, frag := m.frag + 1 } :: r
           unacked := if m.reliable then p.unacked ++ [u] else p.unacked }) s)

/-- An acknowledgement covers a SEQ (11 R401). -/
def covers (ackSeq ackMap seq : Nat) : Bool :=
  let d := (ackSeq + 65536 - seq) % 65536
  d == 0 || (decide (1 ≤ d) && decide (d ≤ 8) && bit ackMap (d - 1))

/-- The retransmissions of a peer are decided: fragments not covered go again, or their message fails (11 R422). -/
def resolve (a : Nat) (late : FragOut → Bool) (count : Bool) (s : State) : State :=
  let p := peerOf s a
  let lost := p.unacked.filter (fun u => late u && !u.again && count && decide (radRetryMax ≤ u.tries))
  let ids := lost.map (·.msgId)
  let s1 := setPeer a (fun p => { p with
    unacked := (p.unacked.filter (fun u => !ids.contains u.msgId)).map (fun u => if late u then { u with again := true, tries := if count then u.tries else u.tries - 1 } else u)
    queue := p.queue.filter (fun m => !ids.contains m.msgId) }) s
  (lost.map (fun u => (u.msgId, u.token))).eraseDups.foldl (fun st u => msgFailed u.2 a 0 st) s1

/-- An acknowledgement from a peer (11 R422): what it covers is done, what it had the opportunity to cover goes again. -/
def ackPeer (a ackSeq ackMap sf : Nat) (count : Bool) (s : State) : State :=
  let s1 := setPeer a (fun p => { p with unacked := p.unacked.filter (fun u => !covers ackSeq ackMap u.seq) }) s
  resolve a (fun u => u.sf != sf || roleOf s == 1) count s1

/-- A SEQ presented to a peer's window (11 R423): whether it is new, and the duplicates and the too old counted. -/
def peerWin (a seq : Nat) (s : State) : Bool × State :=
  let p := peerOf s a
  let (new, w) := winStep seq { origin := 0, type := 0, top := p.top, map := p.map }
  let s1 := setPeer a (fun p => { p with top := w.top, map := w.map }) s
  let old := decide (diffN 16 seq p.top < -32)
  if new then (true, s1)
  else (false, { s1 with fleet := { s1.fleet with duplicates := s1.fleet.duplicates + b1 (!old), tooOld := s1.fleet.tooOld + b1 old } })

/-- A fragment joins its message (11 R421): the complete message where this was the last that was missing. -/
def addFrag (a sf : Nat) (b : List Byte) (s : State) : Option (Nat × Nat × List Byte) × State :=
  let port := uAt b 0 1
  let ix := uAt b 1 1 % 128
  let id := uAt b 2 2
  let p := peerOf s a
  let m := (p.asm.find? (fun x => x.port == port && x.msgId == id)).getD { port := port, msgId := id, sf := sf }
  let m1 := { m with frags := tset m.frags ix (b.drop 4), last := if bit (uAt b 1 1) 7 then some ix else m.last }
  let rest := p.asm.filter (fun x => !(x.port == port && x.msgId == id))
  let full := match m1.last with | some l => (List.range (l + 1)).all (fun i => (tget m1.frags i).isSome) | none => false
  if full then (some (port, id, (m1.frags.map (·.2)).flatten), setPeer a (fun p => { p with asm := rest }) s)
  else (none, setPeer a (fun p => { p with asm := rest ++ [m1] }) s)

/-- A host message delivered on S_1 as a RADIO_MSG packet (11 R421). -/
def radioMsgUp (port a : Nat) (rel : Bool) (id sf : Nat) (data : List Byte) (s : State) : State :=
  sendS1 0x03 (le 1 port ++ le 1 a ++ le 1 (b1 rel) ++ [0] ++ le 2 id ++ le 2 sf ++ data) s

/-! ## Corrections and join state shared with other chapters -/

/-- A correction set is complete at the base (11 R410): what is unsent of the previous one is discarded. -/
def corrSetReady (set : Nat) (bytes : List Byte) (s : State) : State :=
  if s.fleet.st != .beaconing then s
  else
    let cap := fullPayload s.fleet - 2
    let left := match s.fleet.corrOut with | some (_, _, b) => (b.length + cap - 1) / max cap 1 | none => 0
    let old := match s.fleet.corrOut with | some (n, _, _) => n | none => 0
    raiseIf (left != 0 && !s.fleet.overRun) { code := 0x0A0E, sev := 3, src := 3, p0 := old, p1 := left }
      { s with fleet := { s.fleet with corrOut := some (set % 256, 0, bytes), overRun := left != 0 } }

end Sys2Proof.Machine
end

