-- ==== Sys2Proof/Machine/Geo.lean ====
section
/-!
DEFINITION. Geometry: sines and cosines in fixed point, the lever-arm transform (04 R135), the GRS80 ellipsoid and the field frame
(06 R226), and distances.
-/
namespace Sys2Proof.Machine

/-- The unit of fixed point: 2^80. -/
def fx : Int := 2 ^ 80
/-- pi in fixed point. -/
def fxPi : Int := 3797952473636338580787993

/-- Quotient rounded up, of non-negative numbers. -/
def ceilDiv (a b : Nat) : Nat := (a + b - 1) / b

/-- Integer square root below 2^128. -/
def bigSqrt (n : Nat) : Nat :=
  ((List.range 128).reverse).foldl (fun r k => if (r + 2 ^ k) * (r + 2 ^ k) ≤ n then r + 2 ^ k else r) 0

/-- Terms of the sine and cosine series of an angle `x` in fixed point: the running sums and the term. -/
def series (x2 : Int) : Nat → Nat → Int → Int → Int
  | 0, _, _, sum => sum
  | n + 1, k, term, sum => let t := -(term * x2 / fx) / (k * (k + 1) : Nat); series x2 n (k + 2) t (sum + t)

/-- Sine of an angle in fixed point radians, within half a turn. -/
def fxSin (x : Int) : Int := series (x * x / fx) 20 2 x x
/-- Cosine of an angle in fixed point radians, within half a turn. -/
def fxCos (x : Int) : Int := series (x * x / fx) 20 1 fx fx

/-- Radians of an angle in 2^-32 turn, brought within half a turn. -/
def radTurn (a : Int) : Int :=
  let r := a % (2 ^ 32 : Nat)
  (if (2 ^ 31 : Nat) < r then r - (2 ^ 32 : Nat) else r) * 2 * fxPi / (2 ^ 32 : Nat)
/-- Sine of an angle in 2^-32 turn, exact at the quarter turns. -/
def sinTurn (a : Int) : Int :=
  let r := a % (2 ^ 32 : Nat)
  if r == 0 || r == 2 ^ 31 then 0 else if r == 2 ^ 30 then fx else if r == 3 * 2 ^ 30 then -fx else fxSin (radTurn a)
/-- Cosine of an angle in 2^-32 turn, exact at the quarter turns. -/
def cosTurn (a : Int) : Int :=
  let r := a % (2 ^ 32 : Nat)
  if r == 0 then fx else if r == 2 ^ 31 then -fx else if r == 2 ^ 30 || r == 3 * 2 ^ 30 then 0 else fxCos (radTurn a)
/-- Radians of an angle in 10^-12 degree. -/
def radDeg (a : Int) : Int := a * fxPi / 180000000000000

/-- The lever-arm transform of 04 R135: an offset in any length unit, angles heading, pitch, roll in 2^-32 turn. -/
def leverArm (x y z : Int) (psi theta phi : Int) : Int × Int × Int :=
  let sp := sinTurn phi; let cp := cosTurn phi
  let st := sinTurn theta; let ct := cosTurn theta
  let sh := sinTurn psi; let ch := cosTurn psi
  let y1 := y * cp - z * sp
  let z1 := (y * sp + z * cp) / fx
  let x2 := x * ct - z1 * st
  let z2 := x * st + z1 * ct
  (((x2 / fx) * sh - (y1 / fx) * ch) / fx, ((x2 / fx) * ch + (y1 / fx) * sh) / fx, z2 / fx)

/-- The semi-major axis of GRS80 in 2^-8 mm. -/
def grsA : Int := 6378137000 * 256
/-- The first eccentricity squared of GRS80 in fixed point: f x (2 - f) with f = 10^9 / 298,257,222,101. -/
def grsE2 : Int := fx * (2 * 1000000000 * 298257222101 - 1000000000000000000) / (298257222101 * 298257222101)

/-- The prime vertical radius at a latitude, 2^-8 mm. -/
def grsN (sinLat : Int) : Int :=
  let w := fx - grsE2 * (sinLat * sinLat / fx) / fx
  grsA * fx / (bigSqrt (w * fx).toNat : Int)

/-- Earth-centred earth-fixed position of a point: latitude, longitude (10^-12 degree), height; in 2^-8 mm. -/
def ecefOf (lat lon h : Int) : Int × Int × Int :=
  let sl := fxSin (radDeg lat); let cl := fxCos (radDeg lat)
  let so := fxSin (radDeg lon); let co := fxCos (radDeg lon)
  let n := grsN sl
  ((n + h) * cl / fx * co / fx, (n + h) * cl / fx * so / fx, (n * (fx - grsE2) / fx + h) * sl / fx)

/-- An earth-fixed difference as east, north, up at a latitude and longitude (06 R226). -/
def enuOf (lat lon : Int) (d : Int × Int × Int) : Int × Int × Int :=
  let sl := fxSin (radDeg lat); let cl := fxCos (radDeg lat)
  let so := fxSin (radDeg lon); let co := fxCos (radDeg lon)
  ((-(so * d.1) + co * d.2.1) / fx,
   (-(sl * co / fx * d.1) - sl * so / fx * d.2.1 + cl * d.2.2) / fx,
   (cl * co / fx * d.1 + cl * so / fx * d.2.1 + sl * d.2.2) / fx)

/-- A point in the plane of an origin (06 R226): east, north, up in 2^-8 mm. -/
def fieldPoint (lat lon h lat0 lon0 h0 : Int) : Int × Int × Int :=
  let p := ecefOf lat lon h
  let o := ecefOf lat0 lon0 h0
  enuOf lat0 lon0 (p.1 - o.1, p.2.1 - o.2.1, p.2.2 - o.2.2)

/-- A point moved by small east and north offsets (2^-8 mm): its latitude and longitude. -/
def moveGeo (lat lon h de dn : Int) : Int × Int :=
  let sl := fxSin (radDeg lat); let cl := fxCos (radDeg lat)
  let n := grsN sl
  let w := fx - grsE2 * (sl * sl / fx) / fx
  let m := n * (fx - grsE2) / w
  (lat + 180000000000000 * (dn * fx / (m + h)) / fxPi, lon + 180000000000000 * (de * fx / max 1 ((n + h) * cl / fx)) / fxPi)

/-- An east, north, up difference at a latitude and longitude as an earth-fixed one: the transpose of `enuOf` (06 R226). -/
def ecefVec (lat lon : Int) (d : Int × Int × Int) : Int × Int × Int :=
  let sl := fxSin (radDeg lat); let cl := fxCos (radDeg lat)
  let so := fxSin (radDeg lon); let co := fxCos (radDeg lon)
  ((-(so * d.1) - sl * co / fx * d.2.1 + cl * co / fx * d.2.2) / fx,
   (co * d.1 - sl * so / fx * d.2.1 + cl * so / fx * d.2.2) / fx,
   (cl * d.2.1 + sl * d.2.2) / fx)

/-- A vector in the axes at one place, in the axes of the plane tangent at another (04 R137, 06 R226). -/
def turnFrame (lat lon lat0 lon0 : Int) (d : Int × Int × Int) : Int × Int × Int := enuOf lat0 lon0 (ecefVec lat lon d)

/-- One step towards the latitude, longitude and height of an earth-fixed position from a place near it. -/
def geoStep (x : Int × Int × Int) (g : Int × Int × Int) : Int × Int × Int :=
  let p := ecefOf g.1 g.2.1 g.2.2
  let e := enuOf g.1 g.2.1 (x.1 - p.1, x.2.1 - p.2.1, x.2.2 - p.2.2)
  let m := moveGeo g.1 g.2.1 g.2.2 e.1 e.2.1
  (m.1, m.2, g.2.2 + e.2.2)

/-- Latitude, longitude and height of a point in the plane of an origin: the inverse of `fieldPoint` (06 R226). Each step leaves the square of the error
before it over the earth's radius, so that five steps from the origin end below the LSB anywhere in a field. -/
def geoOf (lat0 lon0 h0 : Int) (d : Int × Int × Int) : Int × Int × Int :=
  let o := ecefOf lat0 lon0 h0
  let v := ecefVec lat0 lon0 d
  let x := (o.1 + v.1, o.2.1 + v.2.1, o.2.2 + v.2.2)
  (List.range 5).foldl (fun g _ => geoStep x g) (lat0, lon0, h0)

/-- The heading of a horizontal direction (east, north), found from a heading near it by steps of the sine of what is left, 2^-32 turn. -/
def headingOf (near : Int) (e n : Int) : Int :=
  let len : Int := max 1 (bigSqrt (e * e + n * n).toNat)
  (List.range 8).foldl (fun a _ => (a + (e * cosTurn a - n * sinTurn a) / len * (2 ^ 32 : Nat) / (2 * fxPi)) % (2 ^ 32 : Nat)) near

/-- Length of a vector, rounded down. -/
def vecLen (v : Int × Int × Int) : Nat := bigSqrt (v.1 * v.1 + v.2.1 * v.2.1 + v.2.2 * v.2.2).toNat

/-- Length of a plane vector, rounded down. -/
def planeLen (x y : Int) : Nat := bigSqrt (x * x + y * y).toNat

/-- A value in 2^-8 mm rounded to the nearest millimetre. -/
def toMm (v : Int) : Int := (v + 128) / 256

end Sys2Proof.Machine
end

