-- ==== Sys2Proof/Machine/Signals.lean ====
section
/-!
DEFINITION. The satellite signals (03 R95 to R98), the checks of their navigation units (03 R124, R125), and where satellites stand (03 R112,
04 R141).
-/
namespace Sys2Proof.Machine

/-! ## Signals (03 R95 to R98) -/

/-- SYSTEM of a SIGNAL: 0 GPS, 1 Galileo, 2 GLONASS, 3 BeiDou (03 R117). -/
def gSystem (sig : Nat) : Nat := [0, 0, 0, 1, 1, 1, 2, 2, 3, 3, 3].getD sig 0
/-- Band group of a SIGNAL (03 R95). -/
def gGroup (sig : Nat) : Nat := [0, 1, 2, 0, 2, 3, 0, 1, 0, 2, 3].getD sig 0
/-- Carrier of a SIGNAL in Hz, with GLONASS k + 7 (03 R95). -/
def gCarrier (sig gloK : Nat) : Int :=
  if sig == 6 then 1602000000 + 562500 * ((gloK : Int) - 7)
  else if sig == 7 then 1246000000 + 437500 * ((gloK : Int) - 7)
  else [1575420000, 1227600000, 1176450000, 1575420000, 1176450000, 1207140000, 0, 0, 1575420000, 1176450000, 1207140000].getD sig 0
/-- Chips of the primary code that the channel tracks and its length in ms (03 R95): L2C on its pilot CL. -/
def gCode (sig : Nat) : Nat × Nat :=
  [(1023, 1), (767250, 1500), (10230, 1), (4092, 4), (10230, 1), (10230, 1), (511, 1), (511, 1), (10230, 10), (10230, 1), (10230, 1)].getD sig (1023, 1)
/-- The code phase that CH_CODE_PHASE states (03 R116), whose 32 bits hold no phase of CL: that within the code CM, of which CL is a whole
multiple (log entry 48). -/
def gShown (sig codePhase : Nat) : Nat := if sig == 1 then codePhase % (65536 * 10230) else codePhase
/-- The signals with a pilot, which is tracked, the data component being correlated beside it (03 R95, R113): L2C, L5, E1, E5a, E5b, B1C, B2a. -/
def gPilot (sig : Nat) : Bool := [1, 2, 3, 4, 5, 8, 9].contains sig
/-- The BOC signals, which have a very-early and very-late pair (03 R113). -/
def gBoc (sig : Nat) : Bool := sig == 3 || sig == 8
/-- Chip rate in chip/s (03 R95). -/
def gChipRate (sig : Nat) : Nat := 1000 * (gCode sig).1 / (gCode sig).2
/-- Half of the main lobe in Hz (03 R106). -/
def gLobe (sig : Nat) : Nat := if gBoc sig then 1023000 + gChipRate sig else gChipRate sig
/-- The signals that an engine searches, in the order of 03 R112. -/
def gSearched : List Nat := [0, 6, 3, 2, 4, 9, 8]
/-- The signals that handover starts (03 R95). -/
def gHandover : List Nat := [1, 2, 4, 5, 7, 9, 10]
/-- The satellites of a system: SBAS and the regional systems that share the codes of L1 C/A and L5 lie outside (03 R95; the numbers are PRESUMED, log
entry 62). -/
def gSvOk (sys sv : Nat) : Bool := decide (1 ≤ sv) && decide (sv ≤ [63, 36, 24, 63].getD sys 0)
/-- Nominal local oscillator of a band group, Hz (03 R101). -/
def loNominal (g : Nat) : Int := [1586000000, 1236000000, 1176450000, 1207140000].getD g 0
/-- The velocity of light in m/s (03 R120). -/
def lightSpeed : Nat := 299792458

/-- An antenna. -/
def antOf (s : State) (a : Nat) : AntSt := s.gnss.ants.getD a {}
/-- A stream. -/
def streamOf (s : State) (n : Nat) : IfStream := s.gnss.streams.getD n {}
/-- A stream changed. -/
def setStream (n : Nat) (f : IfStream → IfStream) (s : State) : State := { s with gnss := { s.gnss with streams := lmod s.gnss.streams n f } }
/-- The stream of a signal on an antenna (03 R97). -/
def gStream (sig ant : Nat) : Nat := 4 * ant + gGroup sig
/-- The local oscillator of a group on an antenna, Hz (03 R101). -/
def loOf (s : State) (ant g : Nat) : Int := match (antOf s ant).block with | some b => (uAt b (4 + 4 * g) 4 : Int) | none => loNominal g
/-- A band group of an antenna is present and valid (03 R101, R102). -/
def groupOk (s : State) (ant g : Nat) : Bool := match (antOf s ant).block with
  | some b => bit (uAt b 2 1) g && decide (((uAt b (4 + 4 * g) 4 : Int) - loNominal g).natAbs ≤ 2000000)
  | none => true
/-- The stream of a signal is UP and its group valid. -/
def signalUp (s : State) (sig ant : Nat) : Bool := (streamOf s (gStream sig ant)).st == 1 && groupOk s ant (gGroup sig)
/-- GNSS_CONFIG enables a signal on an antenna (03 R129). -/
def signalOn (s : State) (sig ant : Nat) : Bool := bit s.gnss.systems (gSystem sig) && bit s.gnss.signals sig && bit s.gnss.antennas ant
/-- PD_NAV is powered (17 R604). -/
def navUp (s : State) : Bool := domainUp s 3
/-- The channels of the same signal of the same satellite on the same antenna. -/
def sameSignal (sig sv ant : Nat) (c : GChan) : Bool := c.signal == sig && c.sv == sv && c.ant == ant

/-- The code and carrier phases of a channel at an island cycle (03 R113). -/
def phasesAt (c : GChan) (cyc : Nat) : Nat × Int :=
  let dt : Int := (cyc : Int) - c.phaseAt
  let code := (c.codePhase : Int) + dt * ((65536 * gChipRate c.signal : Nat) + c.codeRate) / 500000000
  ((code % (65536 * (gCode c.signal).1 : Nat)).toNat, c.carrPhase + dt * c.carrRate * 64 / 500000000)

/-! ## Navigation units (03 R124, R125) -/

/-- The navigation messages of 03 R95. -/
inductive NavMsg where
  | lnav
  | cnav
  | inav
  | fnav
  | strings
  | bcnav1
  | bcnav2
  | bcnav3
  deriving DecidableEq, Repr

/-- The message of a SIGNAL (03 R95). -/
def gMessage (sig : Nat) : NavMsg := [.lnav, .cnav, .cnav, .inav, .fnav, .inav, .strings, .strings, .bcnav1, .bcnav2, .bcnav3].getD sig .lnav

/-- Forward error correction of a message (03 R124). -/
inductive Fec where
  | none
  | viterbi
  | ldpc
  deriving DecidableEq, Repr

/-- Viterbi decoding for I/NAV, F/NAV, CNAV and B-CNAV3, LDPC decoding for B-CNAV1 and B-CNAV2 (03 R124). -/
def fecOf : NavMsg → Fec
  | .inav | .fnav | .cnav | .bcnav3 => .viterbi
  | .bcnav1 | .bcnav2 => .ldpc
  | .lnav | .strings => .none

/-- A field of `n` bits, most significant first, at bit `off`. -/
def bitsAt (p : List Byte) (off n : Nat) : Nat :=
  (List.range n).foldl (fun a i => 2 * a + b1 (bit (p.getD ((off + i) / 8) 0).toNat (7 - (off + i) % 8))) 0

/-- CRC-24Q of bytes (04 R138). -/
def crc24q (p : List Byte) : Nat := p.foldl (crcByteMsb 24 0x864CFB) 0

/-- CRC-24Q of the first `n` bits; zero where the last 24 of them are the CRC of those before (03 R124). -/
def crc24Bits (p : List Byte) (n : Nat) : Nat :=
  (List.range n).foldl (fun c i =>
    let top := bit c 23 != (bitsAt p i 1 == 1)
    if top then (c * 2 % 2 ^ 24) ^^^ 0x864CFB else c * 2 % 2 ^ 24) 0

/-- The data bits that each parity bit D25 to D30 of an LNAV word sums, D29 or D30 of the word before first (GPS interface specification; PRESUMED,
log entry 62). -/
def lnavParity : List (Nat × List Nat) :=
  [(29, [1, 2, 3, 5, 6, 10, 11, 12, 13, 14, 17, 18, 20, 23]), (30, [2, 3, 4, 6, 7, 11, 12, 13, 14, 15, 18, 19, 21, 24]),
   (29, [1, 3, 4, 5, 7, 8, 12, 13, 14, 15, 16, 19, 20, 22]), (30, [2, 4, 5, 6, 8, 9, 13, 14, 15, 16, 17, 20, 21, 23]),
   (30, [1, 3, 5, 6, 7, 9, 10, 14, 15, 16, 17, 18, 21, 22, 24]), (29, [3, 5, 6, 8, 9, 10, 11, 13, 15, 19, 22, 23, 24])]

/-- Hamming (32,26) of a 30-bit LNAV word at bit `off`, after the bits 29 and 30 of the word before it (03 R124). -/
def lnavWordOk (p : List Byte) (off d29 d30 : Nat) : Bool :=
  (List.range 6).all (fun k =>
    let e := lnavParity.getD k (29, [])
    let sum := (e.2.map (fun i => bitsAt p (off + i - 1) 1 + d30)).sum + (if e.1 == 29 then d29 else d30)
    sum % 2 == bitsAt p (off + 24 + k) 1)

/-- Every 30-bit word of an LNAV unit passes. The last word of the subframe before ends in two zeros. -/
def lnavOk (p : List Byte) (bits : Nat) : Bool :=
  (List.range (bits / 30)).all (fun w =>
    lnavWordOk p (30 * w) (if w == 0 then 0 else bitsAt p (30 * w - 2) 1) (if w == 0 then 0 else bitsAt p (30 * w - 1) 1))

/-- The places of the Hamming code of a GLONASS string: data bits 9 to 85 take the places that are no power of two, from 3 on; check bit k takes 2^(k-1),
for k 1 to 7 (GLONASS interface specification; PRESUMED, log entry 62). -/
def gloPlace (b : Nat) : Nat :=
  if b ≤ 7 then 2 ^ (b - 1) else ((List.range 128).filter (fun n => !([0, 1, 2, 4, 8, 16, 32, 64].contains n))).getD (b - 9) 0

/-- Hamming of a GLONASS string: its 85 bits are sent from bit 85 down; the sum of the places of the ones is empty, and so is the sum of all bits
(03 R124). -/
def stringOk (p : List Byte) : Bool :=
  let ones := ((List.range 85).filter (fun i => bitsAt p i 1 == 1)).map (fun i => 85 - i)
  (ones.filter (· != 8)).foldl (fun a b => a ^^^ gloPlace b) 0 == 0 && ones.length % 2 == 0

/-- The bits of a unit that its CRC closes: an I/NAV page has 8 bits more (PRESUMED, log entry 62). -/
def crcSpan (m : NavMsg) (bits : Nat) : Nat := if m == .inav then bits - 8 else bits

/-- A unit passes the check of its message (03 R124). -/
def unitPasses (m : NavMsg) (bits : Nat) (p : List Byte) : Bool :=
  match m with
  | .lnav => lnavOk p bits
  | .strings => stringOk p
  | .cnav | .inav | .fnav | .bcnav1 | .bcnav2 | .bcnav3 => crc24Bits p (crcSpan m bits) == 0

/-- CHECK of a unit: 0 passed, 1 failed, 2 FEC uncorrectable (03 R124, R126). -/
def unitCheck (m : NavMsg) (fecOk : Bool) (bits : Nat) (p : List Byte) : Nat :=
  if fecOf m != .none && !fecOk then 2 else if unitPasses m bits p then 0 else 1

/-- The units that make a set of ephemeris and clock data, by UNIT_TYPE (interface specifications of the systems; PRESUMED, log entry 62). -/
def ephUnitsOf : NavMsg → List Nat
  | .lnav => [1, 2, 3]
  | .cnav | .bcnav2 => [10, 11, 30]
  | .inav | .fnav | .strings => [1, 2, 3, 4]
  | .bcnav1 => [2]
  | .bcnav3 => [10, 30]

/-- The stored ephemeris set of a satellite. -/
def ephOf (s : State) (sys sv : Nat) : Option EphSet := s.gnss.eph.find? (fun e => e.sys == sys && e.sv == sv)
/-- A stored ephemeris of a satellite. -/
def hasEph (s : State) (sys sv : Nat) : Bool := (ephOf s sys sv).isSome

/-- A passed unit with the issue of data that it carries joins the units of its set: those of its signal and satellite whose issue of data agrees. A set whose units are
all there is accepted, and waits for the next epoch (03 R125). -/
def ephUnit (sig sv gloK unit iod : Nat) (data : List Byte) (s : State) : State :=
  let m := gMessage sig
  let sys := gSystem sig
  if !(ephUnitsOf m).contains unit || (s.gnss.eph ++ s.gnss.ephNext).any (fun e => e.sys == sys && e.sv == sv && e.iod == iod) then s
  else
    let parts := s.gnss.ephParts.filter (fun x => !(x.signal == sig && x.sv == sv && x.unit == unit)) ++ [{ signal := sig, sv := sv, unit := unit, iod := iod, data := data }]
    let got := (ephUnitsOf m).map (fun u => parts.find? (fun x => x.signal == sig && x.sv == sv && x.unit == u && x.iod == iod))
    if got.any (·.isNone) then { s with gnss := { s.gnss with ephParts := parts } }
    else { s with gnss := { s.gnss with
      ephParts := parts.filter (fun x => !(x.signal == sig && x.sv == sv))
      ephNext := s.gnss.ephNext.filter (fun e => !(e.sys == sys && e.sv == sv)) ++
        [{ sys := sys, sv := sv, iod := iod, gloK := gloK, data := (got.filterMap (fun o => o.map (·.data))).flatten }] } }

/-! ## Where satellites stand (03 R109, R112, 04 R141) -/

/-- The data that place a satellite: its stored ephemeris, else its almanac unit supplied by the host (03 R112, R129). -/
def orbitOf (s : State) (sys sv : Nat) : Option (List Byte) :=
  match ephOf s sys sv with
  | some e => some e.data
  | none => (s.gnss.almanac.find? (fun u => gSystem (uAt u 0 1) == sys && uAt u 1 1 == sv)).map (fun u => u.drop 20)

/-- Where the device is, as its searches know it: the last standalone solution, else the position supplied by the host (03 R109, R129). -/
def placeOf (s : State) : Option (List Byte) :=
  match s.gnss.fixPos with
  | some p => some (leI 8 p.1 ++ leI 8 p.2.1 ++ leI 8 p.2.2)
  | none => s.gnss.assistPos

/-- Time is known within 1 s: supplied by the host, or by the time domain (03 R109). -/
def timeKnown (s : State) : Bool := s.gnss.assistTime.isSome || (match tqOf s with | some q => decide (q ≤ 1000000000) | none => false)

/-- Azimuth and elevation of a satellite, LSB 2^-32 turn, where stored data and the place are known (03 R112, 04 R141). -/
def skyAt (s : State) (sys sv t : Nat) : Option (Int × Int) :=
  match orbitOf s sys sv, placeOf s with
  | some o, some p => some (Config.sky o p t)
  | _, _ => none

/-- An elevation of whole degrees, LSB 2^-32 turn. -/
def degTurn (d : Nat) : Int := (d * 2 ^ 32 / 360 : Nat)

end Sys2Proof.Machine
end

