-- ==== Sys2Proof/Machine/Rtcm.lean ====
section
/-!
DEFINITION. RTCM 3: the transport layer, the station messages, the observations of MSM4 to MSM7 and the building of MSM7 (04 R138, R140, R167). The spec
names RTCM 10403 and does not restate it: the layouts are PRESUMED (log entry 14).
-/
namespace Sys2Proof.Machine

/-! ## Transport (04 R138) -/

/-- Big-endian bytes. -/
def beBytes (n v : Nat) : List Byte := (le n v).reverse

/-- An RTCM 3 frame around a payload (04 R138). -/
def rtcmWrap (p : List Byte) : List Byte :=
  let b := [0xD3] ++ beBytes 2 (p.length % 1024) ++ p
  b ++ beBytes 3 (crc24q b)

/-- Bit fields, most significant first, as whole bytes. -/
def packBits (fs : List (Nat × Int)) : List Byte :=
  let n := (fs.map (·.1)).sum
  let v := fs.foldl (fun (a : Nat) (f : Nat × Int) => a * 2 ^ f.1 + (f.2 % (2 ^ f.1 : Nat)).toNat) 0
  beBytes ((n + 7) / 8) (v * 2 ^ ((8 - n % 8) % 8))

/-- A signed field of `n` bits at bit `off`. -/
def sbitsAt (p : List Byte) (off n : Nat) : Int := signed n (bitsAt p off n)

/-- The payload of an RTCM 3 frame whose preamble, length and CRC are right (04 R138). -/
def rtcmPayload (f : List Byte) : Option (List Byte) :=
  let n := bitsAt f 14 10
  if uAt f 0 1 != 0xD3 || f.length != n + 6 then none
  else if crc24q (f.take (n + 3)) != bitsAt f (8 * (n + 3)) 24 then none
  else some ((f.drop 3).take n)

/-- Message number of a payload. -/
def rtcmNo (p : List Byte) : Nat := bitsAt p 0 12
/-- Station ID of a payload. -/
def rtcmStation (p : List Byte) : Nat := bitsAt p 12 12

/-- MSM4 to MSM7 of the four systems (04 R138). -/
def isMsm (no : Nat) : Bool := [1074, 1075, 1076, 1077, 1084, 1085, 1086, 1087, 1094, 1095, 1096, 1097, 1124, 1125, 1126, 1127].contains no

/-- ARP coordinates (LSB 0.1 mm) and height of a station message. -/
def stationArp (p : List Byte) : Int × Int × Int × Nat :=
  (sbitsAt p 34 38, sbitsAt p 74 38, sbitsAt p 114 38, if rtcmNo p == 1006 then bitsAt p 152 16 else 0)

/-! ## Epochs (04 R140, 02 R47) -/

/-- The instant nearest to `now` that falls at `phase` of a period. -/
def nearestPhase (now phase period : Nat) : Nat :=
  let base := (now + period + period / 2 - phase % period) / period * period + phase % period
  base - period

/-- One week and one day, 2^-16 ns. -/
def week1 : Nat := 604800 * sec1
/-- One day. -/
def day1 : Nat := 86400 * sec1
/-- The first Sunday of Device Time, 1970-01-04. -/
def sunday1 : Nat := 3 * day1
/-- TAI less the time of a SYSTEM other than GLONASS, s (02 R47). -/
def systemLag (sys : Nat) : Nat := if sys == 3 then 33 else 19

/-- The SYSTEM of an MSM (03 R117). -/
def msmSystem (no : Nat) : Nat := if no < 1080 then 0 else if no < 1090 then 2 else if no < 1100 then 1 else 3

/-- The epoch of an MSM as Device Time: its time of week or day brought to TAI by the offsets of 02 R47 and to the nearest instant
(04 R140). -/
def msmEpoch (s : State) (p : List Byte) : Nat :=
  let sys := msmSystem (rtcmNo p)
  if sys == 2 then nearestPhase (dtNow s) (2 * day1 + ms1 * bitsAt p 27 27 + sec1 * s.time.taiUtc - 3 * 3600 * sec1) day1
  else nearestPhase (dtNow s) (sunday1 + ms1 * bitsAt p 24 30 + sec1 * systemLag sys) week1

/-- The epoch field of an MSM: time of week in ms; for GLONASS the day of the week and the time of day, at UTC + 3 h. -/
def msmTime (s : State) (sys t : Nat) : List (Nat × Int) :=
  if sys == 2 then
    let g := t + 3 * 3600 * sec1 - sec1 * s.time.taiUtc
    [(3, ((g + week1 - sunday1) % week1 / day1 : Nat)), (27, (g % day1 / ms1 : Nat))]
  else [(30, ((t + week1 - sunday1 - sec1 * systemLag sys) % week1 / ms1 : Nat))]

/-! ## The observations of an MSM (04 R138, R140) -/

/-- The SIGNAL of a signal number of an MSM; none for one that is absent from 03 R95 (04 R138). -/
def msmSignal (sys id : Nat) : Option Nat :=
  match sys with
  | 0 => if id == 2 then some 0 else if 15 ≤ id && id ≤ 17 then some 1 else if 22 ≤ id && id ≤ 24 then some 2 else none
  | 1 => if id == 2 || id == 4 || id == 5 then some 3 else if 14 ≤ id && id ≤ 16 then some 5 else if 22 ≤ id && id ≤ 24 then some 4 else none
  | 2 => if id == 2 then some 6 else if id == 8 then some 7 else none
  | _ => if 30 ≤ id && id ≤ 32 then some 8 else if 22 ≤ id && id ≤ 24 then some 9 else if id == 25 then some 10 else none

/-- The signal number under which a SIGNAL is emitted: the component that is tracked (03 R95, 04 R167). -/
def msmId (sig : Nat) : Nat := [2, 16, 23, 5, 23, 15, 2, 8, 31, 23, 25].getD sig 0

/-- The numbers, from 1, of the bits that are set in a mask. -/
def maskBits (p : List Byte) (off n : Nat) : List Nat := ((List.range n).filter (fun i => bitsAt p (off + i) 1 == 1)).map (· + 1)

/-- Light time in 2^-31 ms as a range, LSB 2^-16 m. -/
def rangeOfMs (u : Int) : Int := u * lightSpeed / (1000 * 32768)

/-- The observations of an MSM4 to MSM7 whose signals are in 03 R95 (04 R138). -/
def msmObs (t : Nat) (p : List Byte) : List BaseObs :=
  let no := rtcmNo p
  let sys := msmSystem no
  let full := no % 2 == 1
  let fine := decide (6 ≤ no % 10)
  let sats := maskBits p 73 64
  let sigs := maskBits p 137 32
  let ns := sats.length
  let ng := sigs.length
  let cells := (List.range (ns * ng)).filter (fun k => bitsAt p (169 + k) 1 == 1)
  let nc := cells.length
  let sat := 169 + ns * ng
  let mod := sat + (if full then 12 else 8) * ns
  let cell := mod + (if full then 24 else 10) * ns
  let wc := if fine then 20 else 15
  let wp := if fine then 24 else 22
  let half := cell + (wc + wp + (if fine then 10 else 4)) * nc
  let rates := half + (1 + (if fine then 10 else 6)) * nc
  (List.range nc).filterMap (fun j =>
    let k := cells.getD j 0
    let i := k / ng
    let ms := bitsAt p (sat + 8 * i) 8
    let rough : Int := (ms * 2 ^ 31 + bitsAt p (mod + 10 * i) 10 * 2 ^ 21 : Nat)
    let c := sbitsAt p (cell + wc * j) wc
    let ph := sbitsAt p (cell + wc * nc + wp * j) wp
    let whole := sbitsAt p (mod + 10 * ns + 14 * i) 14
    let part := sbitsAt p (rates + 15 * j) 15
    match msmSignal sys (sigs.getD (k % ng) 0) with
    | none => none
    | some sig =>
      if ms == 255 || c == -(2 ^ (wc - 1) : Nat) then none
      else some
        { signal := sig, sv := sats.getD i 0, at_ := t
          code := rangeOfMs (rough + c * (if fine then 4 else 128))
          phase := if ph == -(2 ^ (wp - 1) : Nat) then none else some (rangeOfMs (rough + ph * (if fine then 1 else 4)))
          half := bitsAt p (half + j) 1 == 1
          rate := if !full || whole == -8192 || part == -16384 then none else some (10000 * whole + part) })

/-- Observations of an MSM take the place of those of the same signals, whose epoch and phase range stand by for the rate of MSM4 and MSM6 (04 R140). -/
def joinObs (new : List BaseObs) (old : List BaseObs) : List BaseObs :=
  let same := fun (a b : BaseObs) => a.signal == b.signal && a.sv == b.sv
  old.filter (fun o => !new.any (same o)) ++
  new.map (fun o =>
    match old.find? (same o) with
    | none => o
    | some b => { o with prev := if b.at_ < o.at_ then b.phase.map (fun ph => (b.at_, ph)) else b.prev })

/-- The GLONASS code-phase biases of a 1230 for G1 and G2, LSB 0.02 m; zero where it has none. -/
def gloBiases (p : List Byte) : Int × Int :=
  let at_ := fun (k : Nat) => if bitsAt p (28 + k) 1 == 1 then sbitsAt p (32 + 16 * ((List.range k).filter (fun i => bitsAt p (28 + i) 1 == 1)).length) 16 else 0
  (at_ 0, at_ 2)

/-! ## Building MSM7 (04 R167) -/

/-- The lock time indicator of a lock time in ms. -/
def lockIndicator (ms : Nat) : Nat :=
  if ms < 64 then ms
  else if 67108864 ≤ ms then 704
  else let k := Nat.log2 ms - 5; (ms + k * 2 ^ (k + 5)) / 2 ^ k

/-- Carrier wavelength of a signal: cycles (2^-16) as a length in 2^-16 m. -/
def cyclesToLen (sig gloK : Nat) (c : Int) : Int := c * lightSpeed / gCarrier sig gloK

/-- Phase range of an observation without its whole cycles, LSB 2^-16 m: CARRIER grows as the satellite approaches. -/
def phaseRange (o : Obs) : Int := -cyclesToLen o.signal o.gloK o.carr

/-- Whole cycles that bring the phase range of an observation nearest to its pseudorange. -/
def alignCycles (o : Obs) : Int :=
  let wave := cyclesToLen o.signal o.gloK 65536
  ((o.range : Int) - phaseRange o + wave / 2) / max 1 wave

/-- The whole cycles of each signal (SIGNAL, SV, cycles) that the phase ranges of a base have had since its last slip (04 R167). -/
def alignAll (old : List (Nat × Nat × Int)) (os : List Obs) : List (Nat × Nat × Int) :=
  os.map (fun o =>
    match old.find? (fun e => e.1 == o.signal && e.2.1 == o.sv) with
    | some e => if bit o.flags 0 || decide (65536 * 1000 < ((o.range : Int) - phaseRange o - cyclesToLen o.signal o.gloK (65536 * e.2.2)).natAbs)
        then (o.signal, o.sv, alignCycles o) else e
    | none => (o.signal, o.sv, alignCycles o))

/-- Rate of a range, LSB 10^-4 m/s: the Doppler is that of an approach. -/
def obsRate (o : Obs) : Int := -(o.dopp * lightSpeed * 10000) / (1024 * gCarrier o.signal o.gloK)

/-- Light time of a range in 2^-31 ms. -/
def msOfRange (r : Int) : Int := r * (1000 * 32768) / lightSpeed

/-- The fields of the satellites and cells of one MSM7 (04 R167). -/
def msmFields (align : List (Nat × Nat × Int)) (os : List Obs) : List (Nat × Int) :=
  let sats := ((List.range 64).map (· + 1)).filter (fun v => os.any (fun o => o.sv == v))
  let ids := ((List.range 32).map (· + 1)).filter (fun d => os.any (fun o => msmId o.signal == d))
  let find := fun (v d : Nat) => os.find? (fun o => o.sv == v && msmId o.signal == d)
  let first := fun (v : Nat) => (os.find? (fun o => o.sv == v)).getD { signal := 0, sv := v }
  let rough := fun (v : Nat) => (msOfRange (first v).range + 2 ^ 20) / 2 ^ 21
  let rate := fun (v : Nat) => (obsRate (first v) + 5000) / 10000
  let cells := (sats.map (fun v => ids.filterMap (find v))).flatten
  let whole := fun (o : Obs) => ((align.find? (fun e => e.1 == o.signal && e.2.1 == o.sv)).map (·.2.2)).getD (alignCycles o)
  let left := fun (o : Obs) (r : Int) => msOfRange r - rough o.sv * 2 ^ 21
  (List.range 64).map (fun i => (1, (b1 (sats.contains (i + 1)) : Int))) ++
  (List.range 32).map (fun i => (1, (b1 (ids.contains (i + 1)) : Int))) ++
  (sats.map (fun v => ids.map (fun d => (1, (b1 (find v d).isSome : Int))))).flatten ++
  sats.map (fun v => (8, rough v / 1024)) ++ sats.map (fun v => (4, ((first v).gloK : Int))) ++
  sats.map (fun v => (10, rough v % 1024)) ++ sats.map (fun v => (14, rate v)) ++
  cells.map (fun o => (20, satI 20 ((left o o.range + 2) / 4))) ++
  cells.map (fun o => (24, satI 24 (left o (phaseRange o + cyclesToLen o.signal o.gloK (65536 * whole o))))) ++
  cells.map (fun o => (10, (lockIndicator o.lockMs : Int))) ++ cells.map (fun o => (1, (b1 (bit o.flags 1) : Int))) ++
  cells.map (fun o => (10, (min 1023 (o.cn0 / 16) : Int))) ++ cells.map (fun o => (15, satI 15 (obsRate o - 10000 * rate o.sv)))

/-- A list in pieces of at most `n`, `k` of them. -/
def pieces {α : Type} (n : Nat) : Nat → List α → List (List α)
  | 0, _ => []
  | k + 1, l => if l.isEmpty then [] else l.take n :: pieces n k (l.drop n)

/-- The header of an MSM from the multiple message bit to the smoothing interval: IODS, clock steering, external clock and smoothing, which RTCM leaves to the receiver, as given. -/
def msmHead (more : Bool) (hdr : Nat) : List (Nat × Int) :=
  [(1, (b1 more : Int)), (3, (hdr / 256 % 8 : Nat)), (7, 0), (2, (hdr / 64 % 4 : Nat)), (2, (hdr / 16 % 4 : Nat)), (4, (hdr % 16 : Nat))]

/-- The MSM7 messages of a system for an epoch: as many as its satellites need, at most 64 cells each; all but the last announce another (04 R167). -/
def msm7Of (s : State) (station sys t hdr : Nat) (align : List (Nat × Nat × Int)) (os : List Obs) : List (List Byte) :=
  let mine := os.filter (fun o => gSystem o.signal == sys && o.ant == 0)
  let sigs := (mine.map (·.signal)).eraseDups
  let groups := pieces (64 / max 1 sigs.length) 64 (((List.range 64).map (· + 1)).filter (fun v => mine.any (fun o => o.sv == v)))
  let no := [1077, 1097, 1087, 1127].getD sys 0
  (List.range groups.length).map (fun k =>
    let vs := groups.getD k []
    packBits ([(12, (no : Int)), (12, (station : Int))] ++ msmTime s sys t ++ msmHead (decide (k + 1 < groups.length)) hdr ++
      msmFields align (mine.filter (fun o => vs.contains o.sv))))

end Sys2Proof.Machine
end

