-- ==== Sys2Proof/Machine/Float.lean ====
section
/-!
DEFINITION. The float filter's states and observations, the sets of the integer search and the tests on fixed integers (04 R136, R140 to R145, R147). The
update of the filter and the search itself are operands (log entry 19).
-/
namespace Sys2Proof.Machine

/-! ## Phase centres (03 R101, 04 R136) -/

/-- Phase-centre offset of a group of an antenna in body axes, 0.1 mm: north, east, up of its module, turned by the antenna's mounting (04 R136). -/
def pcoBody (s : State) (ant g : Nat) : Int × Int × Int :=
  match (antOf s ant).block with
  | none => (0, 0, 0)
  | some b =>
    let n := iAt b (40 + 6 * g) 2
    let e := iAt b (42 + 6 * g) 2
    let u := iAt b (44 + 6 * g) 2
    match s.pose.rotations / 4 ^ ant % 4 with
    | 0 => (n, -e, u)
    | 1 => (-e, -n, u)
    | 2 => (-n, e, u)
    | _ => (e, n, u)

/-- A phase-centre variation at an elevation, 0.1 mm: between the two values nearest to it (04 R136, R168; log entry 65). -/
def pcvAt (v : List Int) (el : Int) : Int :=
  let x := max 0 (min el (2 ^ 30)) * 18
  let k := (x / 2 ^ 30).toNat
  v.getD k 0 + (v.getD (k + 1) 0 - v.getD k 0) * (x % 2 ^ 30) / 2 ^ 30

/-- The phase-centre variations of a group of an antenna: those of a loaded table whose identifier is the module's PCV_MODEL, else none (04 R136). -/
def pcvOf (s : State) (ant g : Nat) (el : Int) : Int :=
  match (antOf s ant).block with
  | none => 0
  | some b => match s.pose.pcv.find? (fun t => t.1 == uAt b 64 4 && t.2.1 == g) with
    | some t => pcvAt t.2.2 el
    | none => 0

/-- Azimuth and elevation of a satellite; of one whose place is not known, zero (log entry 65). -/
def skyOf (s : State) (sys sv t : Nat) : Int × Int := (skyAt s sys sv t).getD (0, 0)

/-- What brings a range from the phase centre of an antenna to its ARP, LSB 2^-16 m: the offset along the line of sight, less the variation (04 R136). -/
def arpShift (s : State) (ant g t sys sv : Nat) : Int :=
  let a := skyOf s sys sv t
  let pco := pcoBody s ant g
  let att := match s.pose.nav with | some v => ((v.heading : Int), v.pitch, v.roll) | none => (0, 0, 0)
  let d := leverArm (65536 * pco.1) (65536 * pco.2.1) (65536 * pco.2.2) att.1 att.2.1 att.2.2
  let ce := cosTurn a.2
  let los := (ce * sinTurn a.1 / fx * d.1 + ce * cosTurn a.1 / fx * d.2.1 + sinTurn a.2 * d.2.2) / fx
  (los - 65536 * pcvOf s ant g a.2) / 10000

/-! ## Observations of one satellite at two antennas (04 R140, R141) -/

/-- A single difference: an antenna against the base, or antenna 1 against antenna 0. -/
structure Single where
  signal : Nat
  sv : Nat
  gloK : Nat
  /-- code, and carrier where it can be used, LSB 2^-16 m -/
  code : Int
  carr : Option Int
  /-- SLIP, NOTCH_IN_BAND and JAMMED of either end -/
  slip : Bool
  notch : Bool
  jam : Bool
  /-- elevation, LSB 2^-32 turn; what R140 adds to the deviation of the carrier, LSB 0.01 mm -/
  el : Int
  extra : Nat
  deriving DecidableEq, Repr

/-- Rate of a base's ranges, LSB 2^-16 m/s: its own of MSM5 and MSM7, else that of its last two epochs (04 R140). -/
def baseRate (b : BaseObs) : Option Int :=
  match b.rate with
  | some r => some (r * 65536 / 10000)
  | none => match b.phase, b.prev with
    | some p, some (t, q) => if t < b.at_ then some ((p - q) * (sec1 : Int) / ((b.at_ : Int) - t)) else none
    | _, _ => none

/-- Age of a base observation at a rover epoch, 2^-16 ns. -/
def baseAge (t : Nat) (b : BaseObs) : Nat := ((t : Int) - b.at_).natAbs

/-- A base observation brought to a rover epoch; none where no rate brings it there, or where it is older than CORR_AGE_LIMIT (04 R140). -/
def moveBase (limitMs t : Nat) (b : BaseObs) : Option BaseObs :=
  if t == b.at_ then some b
  else if ms1 * limitMs < baseAge t b then none
  else (baseRate b).map (fun r =>
    let d := r * ((t : Int) - b.at_) / (sec1 : Int)
    { b with code := b.code + d, phase := b.phase.map (· + d) })

/-- The phase range of a base with its GLONASS code-phase bias, LSB 0.02 m (04 R138). -/
def biased (p : PoseSt) (b : BaseObs) : Option Int :=
  b.phase.map (fun x => x + (if b.signal == 6 then p.gloBias.1 else if b.signal == 7 then p.gloBias.2 else 0) * 65536 / 50)

/-- The observations of an antenna that may be used: with ephemeris (04 R142), and not excluded by fault detection (04 R159). -/
def usable (excl : List (Nat × Nat)) (ant : Nat) (s : State) : List Obs :=
  s.gnss.obs.filter (fun o => o.ant == ant && !bit o.flags 5 && !excl.contains (o.signal, o.sv))

/-- Antenna 0 against the base at a rover epoch (04 R140, R141). -/
def againstBase (excl : List (Nat × Nat)) (t : Nat) (s : State) : List Single :=
  (usable excl 0 s).filterMap (fun o =>
    let sys := gSystem o.signal
    ((s.pose.baseObs.find? (fun b => b.signal == o.signal && b.sv == o.sv)).bind (fun b => (moveBase s.pose.corrAgeMs t b).map (fun m => (b, m)))).map (fun bm =>
      let shift := arpShift s 0 (gGroup o.signal) t sys o.sv
      { signal := o.signal, sv := o.sv, gloK := o.gloK
        code := (o.range : Int) + shift - bm.2.code
        carr := if bit o.flags 1 || bm.1.half then none else (biased s.pose bm.2).map (fun p => phaseRange o + shift - p)
        slip := bit o.flags 0, notch := bit o.flags 2, jam := bit o.flags 3
        el := (skyOf s sys o.sv t).2, extra := 200 * baseAge t bm.1 / sec1 }))

/-- Antenna 1 against antenna 0 at an epoch (04 R147). -/
def againstAnt0 (excl : List (Nat × Nat)) (t : Nat) (s : State) : List Single :=
  (usable excl 1 s).filterMap (fun o =>
    let sys := gSystem o.signal
    ((usable excl 0 s).find? (fun b => b.signal == o.signal && b.sv == o.sv)).map (fun b =>
      let shift := arpShift s 1 (gGroup o.signal) t sys o.sv - arpShift s 0 (gGroup o.signal) t sys o.sv
      { signal := o.signal, sv := o.sv, gloK := o.gloK
        code := (o.range : Int) - b.range + shift
        carr := if bit o.flags 1 || bit b.flags 1 then none else some (phaseRange o - phaseRange b + shift)
        slip := bit o.flags 0 || bit b.flags 0, notch := bit o.flags 2 || bit b.flags 2, jam := bit o.flags 3 || bit b.flags 3
        el := (skyOf s sys o.sv t).2, extra := 0 }))

/-! ## Double differences (04 R141, R142) -/

/-- The floor of the elevation in a weight: 5 degrees (04 R141). -/
def elFloor : Int := degTurn 5

/-- A standard deviation over the sine of the elevation (04 R141), rounded up. -/
def overSine (sigma : Nat) (el : Int) : Nat := ceilDiv (sigma * fx.toNat) (max 1 (sinTurn (max el elFloor)).toNat)

/-- Standard deviation of a code observation, LSB 0.01 mm: 0.30 m in groups 0 and 1, 0.15 m in groups 2 and 3, times 4 under NOTCH_IN_BAND (04 R141, R142). -/
def codeSigma (x : Single) : Nat := (if x.notch then 4 else 1) * overSine (if gGroup x.signal < 2 then 30000 else 15000) x.el

/-- Standard deviation of a carrier observation, LSB 0.01 mm: 3 mm, and R140's (04 R141). -/
def carrSigma (x : Single) : Nat := overSine 300 x.el + x.extra

/-- How good a reference satellite is: its signals, then its elevation (log entry 65). -/
def refRank (xs : List Single) (sys sv : Nat) : Nat × Int :=
  let mine := xs.filter (fun x => gSystem x.signal == sys && x.sv == sv)
  (mine.length, (mine.map (·.el)).head?.getD 0)

/-- The reference satellite of a system (04 R141): that with the most signals, of these the highest, of these the lowest number (log entry 65). -/
def refSat (xs : List Single) (sys : Nat) : Option Nat :=
  ((List.range 64).filter (fun v => xs.any (fun x => gSystem x.signal == sys && x.sv == v))).foldl (fun best v =>
    match best with
    | none => some v
    | some w =>
      let a := refRank xs sys v
      let b := refRank xs sys w
      if b.1 < a.1 || (b.1 == a.1 && b.2 < a.2) then some v else some w) none

/-- The double differences: each signal of each satellite against that system's reference satellite (04 R141). -/
def ddOf (xs : List Single) : List DD :=
  xs.filterMap (fun x =>
    match refSat xs (gSystem x.signal) with
    | none => none
    | some r =>
      if r == x.sv then none
      else (xs.find? (fun y => y.signal == x.signal && y.sv == r)).map (fun y =>
        { signal := x.signal, sv := x.sv, ref := r, code := x.code - y.code
          carr := match x.carr, y.carr with | some a, some b => some (a - b) | _, _ => none
          sigCode := codeSigma { x with notch := x.notch || y.notch }, sigCarr := carrSigma x
          el := x.el, jam := x.jam || y.jam, slip := x.slip || y.slip, gloK := x.gloK }))

/-! ## Ambiguities (04 R141, R142, R144) -/

/-- Variance of an ambiguity that has been reset: 10^4 cycle^2 (04 R142, R168). -/
def resetVar : Nat := 10000000000

/-- The ambiguity of a double difference as its code gives it: a float one with the reset variance. -/
def freshAmb (d : DD) : Amb :=
  { signal := d.signal, sv := d.sv, ref := d.ref
    value := (d.carr.getD d.code - d.code) * 65536 / max 1 (cyclesToLen d.signal d.gloK 65536), var := resetVar }

/-- An ambiguity against the reference satellite of a double difference, from those held: the same one, or the difference of two held against another
reference satellite. -/
def carryAmb (old : List Amb) (d : DD) : Option Amb :=
  let get := fun (v : Nat) => old.find? (fun a => a.signal == d.signal && a.sv == v)
  match get d.sv, get d.ref with
  | some a, none => if a.ref == d.ref then some a else none
  | none, some b => if b.ref == d.sv then some { b with sv := d.sv, ref := d.ref, value := -b.value, fixed := b.fixed.map (- ·) } else none
  | some a, some b =>
    if a.ref == b.ref then some { a with ref := d.ref, value := a.value - b.value, var := a.var + b.var
                                         fixed := match a.fixed, b.fixed with | some x, some y => some (x - y) | _, _ => none }
    else none
  | none, none => none

/-- The ambiguities before the update of an epoch: those held, reset by SLIP (04 R142), and new ones. -/
def ambsFor (old : List Amb) (ds : List DD) : List Amb :=
  ds.map (fun d => if d.slip then freshAmb d else (carryAmb old d).getD (freshAmb d))

/-- Every ambiguity is reset: float, with the reset variance (04 R139, R168). -/
def resetAmbs (f : FloatSt) : FloatSt := { f with ambs := f.ambs.map (fun a => { a with var := resetVar, fixed := none }) }

/-- Every fixed integer is released (04 R145). -/
def floatAmbs (f : FloatSt) : FloatSt := { f with ambs := f.ambs.map (fun a => { a with fixed := none }) }

/-- The ambiguities after the update of the float filter (04 R141). -/
def postAmbs (post : FloatPost) (l : List Amb) : List Amb :=
  l.map (fun a => match post.ambs.find? (fun x => x.1 == a.signal && x.2.1 == a.sv) with
    | some x => { a with value := x.2.2.1, var := x.2.2.2 }
    | none => a)

/-- 1 km in 0.1 mm. -/
def km1 : Nat := 10000000

/-- Baseline length from the ARP of antenna 0 to the base's ARP, 0.1 mm (04 R143). -/
def baseline (p : PoseSt) (f : FloatSt) : Nat :=
  match f.pos, p.arp with
  | some x, some b => vecLen (x.1 - b.1, x.2.1 - b.2.1, x.2.2 - b.2.2.1)
  | _, _ => 0

/-- The float filter's states after an epoch: the ambiguities of its double differences, and the ionospheric delays beyond 10 km, where R143 calls for
them (04 R141, R143). -/
def floatStep (post : FloatPost) (ds : List DD) (p : PoseSt) : FloatSt :=
  let f : FloatSt := { pos := some post.pos, vel := post.vel, ambs := postAmbs post (ambsFor p.flt.ambs ds) }
  { f with iono := if 10 * km1 < baseline p f then post.iono.filter (fun x => ds.any (fun d => gSystem d.signal == x.1 && d.sv == x.2.1)) else [] }

/-! ## Integer search and tests (04 R143 to R145) -/

/-- The double difference of an ambiguity. -/
def ddOfAmb (ds : List DD) (a : Amb) : Option DD := ds.find? (fun d => d.signal == a.signal && d.sv == a.sv)

/-- An ambiguity is eligible: its carrier is in the filter and not JAMMED (04 R142, R144). -/
def eligible (ds : List DD) (a : Amb) : Bool := match ddOfAmb ds a with | some d => d.carr.isSome && !d.jam | none => false

/-- A satellite with its elevation among others, the lowest first. -/
def insertEl (x : Nat × Nat × Int) : List (Nat × Nat × Int) → List (Nat × Nat × Int)
  | [] => [x]
  | y :: r => if x.2.2 ≤ y.2.2 then x :: y :: r else y :: insertEl x r

/-- The satellites of ambiguities with their elevation, the lowest first. -/
def satsByEl (ds : List DD) (l : List Amb) : List (Nat × Nat × Int) :=
  ((l.map (fun a => (gSystem a.signal, a.sv, ((ddOfAmb ds a).map (·.el)).getD 0))).eraseDups).foldr insertEl []

/-- The set of the integer search that is left when the `k` lowest satellites have been dropped (04 R144). -/
def searchSet (ds : List DD) (l : List Amb) (k : Nat) : List Amb :=
  let full := l.filter (eligible ds)
  let gone := (satsByEl ds full).take k
  full.filter (fun a => !gone.any (fun g => g.1 == gSystem a.signal && g.2.1 == a.sv))

/-- Satellites of a set. -/
def setSats (l : List Amb) : Nat := ((l.map (fun a => (gSystem a.signal, a.sv))).eraseDups).length

/-- The tests of R144 on one set, FIX_HOLD apart. -/
def setPasses (p : PoseSt) (set : List Amb) (r : SearchRes) : Bool :=
  r.ints.length == set.length && decide (p.ratioMin ≤ r.ratio) && decide (p.successMin ≤ r.success) && decide (p.fixMinAmb ≤ set.length) && decide (5 ≤ setSats set)

/-- The first set that passes, with its integers, its ratio and its satellites; sets below FIX_MIN_AMB are not searched (04 R144). -/
def searchPick (res : List SearchRes) (ds : List DD) (l : List Amb) (p : PoseSt) : Option (List Amb × Nat) :=
  ((List.range res.length).find? (fun k => setPasses p (searchSet ds l k) (res.getD k {}))).map (fun k =>
    let r := res.getD k {}
    ((List.zip (searchSet ds l k) r.ints).map (fun x => { x.1 with fixed := some x.2 }), r.ratio))

/-- Two sets hold the same integers: they share ambiguities, and agree on all that they share (04 R144; log entry 65). -/
def sameInts (ds : List DD) (old new : List Amb) : Bool :=
  let pairs := new.filterMap (fun a => (ddOfAmb ds a).bind (fun d => (carryAmb old d).bind (fun o => o.fixed.map (fun x => (some x, a.fixed)))))
  !pairs.isEmpty && pairs.all (fun x => x.1 == x.2)

/-- The integers found are put into the ambiguities. -/
def putFixed (found l : List Amb) : List Amb :=
  l.map (fun a => { a with fixed := (found.find? (fun x => x.signal == a.signal && x.sv == a.sv)).bind (·.fixed) })

/-- A newly eligible ambiguity is fixed when its float value lies within 0.15 cycle of an integer with a standard deviation below 0.05 cycle (04 R145); one that is
not eligible keeps no integer. -/
def fixNew (ds : List DD) (l : List Amb) : List Amb :=
  l.map (fun a =>
    if !eligible ds a then { a with fixed := none }
    else if a.fixed.isSome then a
    else
      let n := (a.value + 32768) / 65536
      if decide ((a.value - n * 65536).natAbs ≤ 9830) && decide (a.var < 2500) then { a with fixed := some n } else a)

/-- Ambiguities that are fixed. -/
def fixedCount (l : List Amb) : Nat := (l.filter (fun a => a.fixed.isSome)).length

/-- Limits for 1 to 48 degrees of freedom. -/
def chiPart0 : List Nat :=
  [1951, 2303, 2590, 2847, 3086, 3311, 3526, 3733, 3934, 4130, 4321, 4508, 4691, 4872, 5049, 5224,
   5397, 5568, 5737, 5904, 6070, 6234, 6397, 6558, 6718, 6877, 7035, 7192, 7347, 7502, 7656, 7809,
   7962, 8113, 8264, 8414, 8564, 8712, 8860, 9008, 9155, 9301, 9447, 9592, 9737, 9881, 10025, 10169]
/-- Limits for 49 to 96 degrees of freedom. -/
def chiPart1 : List Nat :=
  [10312, 10454, 10596, 10738, 10879, 11020, 11161, 11301, 11441, 11580, 11719, 11858, 11997, 12135, 12273, 12410,
   12548, 12685, 12821, 12958, 13094, 13230, 13366, 13501, 13636, 13771, 13906, 14041, 14175, 14309, 14443, 14576,
   14710, 14843, 14976, 15109, 15241, 15374, 15506, 15638, 15770, 15902, 16033, 16165, 16296, 16427, 16558, 16689]
/-- Limits for 97 to 144 degrees of freedom. -/
def chiPart2 : List Nat :=
  [16819, 16950, 17080, 17210, 17340, 17470, 17599, 17729, 17858, 17987, 18116, 18245, 18374, 18503, 18632, 18760,
   18888, 19016, 19145, 19273, 19400, 19528, 19656, 19783, 19910, 20038, 20165, 20292, 20419, 20546, 20672, 20799,
   20925, 21052, 21178, 21304, 21430, 21556, 21682, 21808, 21934, 22060, 22185, 22311, 22436, 22561, 22686, 22811]
/-- Limits for 145 to 192 degrees of freedom. -/
def chiPart3 : List Nat :=
  [22936, 23061, 23186, 23311, 23436, 23560, 23685, 23809, 23933, 24058, 24182, 24306, 24430, 24554, 24678, 24802,
   24925, 25049, 25173, 25296, 25420, 25543, 25666, 25790, 25913, 26036, 26159, 26282, 26405, 26527, 26650, 26773,
   26896, 27018, 27141, 27263, 27385, 27508, 27630, 27752, 27874, 27997, 28119, 28240, 28362, 28484, 28606, 28728]
/-- Limits for 193 to 240 degrees of freedom. -/
def chiPart4 : List Nat :=
  [28849, 28971, 29093, 29214, 29336, 29457, 29578, 29700, 29821, 29942, 30063, 30184, 30305, 30426, 30547, 30668,
   30789, 30910, 31031, 31151, 31272, 31392, 31513, 31633, 31754, 31874, 31995, 32115, 32235, 32355, 32476, 32596,
   32716, 32836, 32956, 33076, 33196, 33316, 33435, 33555, 33675, 33795, 33914, 34034, 34153, 34273, 34392, 34512]
/-- Limits for 241 to 288 degrees of freedom. -/
def chiPart5 : List Nat :=
  [34631, 34751, 34870, 34989, 35109, 35228, 35347, 35466, 35585, 35704, 35823, 35942, 36061, 36180, 36299, 36418,
   36537, 36655, 36774, 36893, 37011, 37130, 37248, 37367, 37486, 37604, 37722, 37841, 37959, 38078, 38196, 38314,
   38432, 38551, 38669, 38787, 38905, 39023, 39141, 39259, 39377, 39495, 39613, 39731, 39849, 39966, 40084, 40202]
/-- Limits for 289 to 336 degrees of freedom. -/
def chiPart6 : List Nat :=
  [40320, 40437, 40555, 40673, 40790, 40908, 41025, 41143, 41260, 41378, 41495, 41613, 41730, 41847, 41965, 42082,
   42199, 42316, 42434, 42551, 42668, 42785, 42902, 43019, 43136, 43253, 43370, 43487, 43604, 43721, 43838, 43955,
   44072, 44188, 44305, 44422, 44539, 44655, 44772, 44889, 45005, 45122, 45238, 45355, 45471, 45588, 45704, 45821]
/-- Limits for 337 to 384 degrees of freedom. -/
def chiPart7 : List Nat :=
  [45937, 46054, 46170, 46286, 46403, 46519, 46635, 46751, 46868, 46984, 47100, 47216, 47332, 47448, 47564, 47680,
   47797, 47913, 48029, 48145, 48260, 48376, 48492, 48608, 48724, 48840, 48956, 49071, 49187, 49303, 49419, 49534,
   49650, 49766, 49881, 49997, 50113, 50228, 50344, 50459, 50575, 50690, 50806, 50921, 51037, 51152, 51268, 51383]

/-- The greatest sum of squared normalised residuals, LSB 0.01, at a false-alarm probability of 10^-5, for 1 degree of freedom and more (04 R145). -/
def chiLimits : List Nat := chiPart0 ++ chiPart1 ++ chiPart2 ++ chiPart3 ++ chiPart4 ++ chiPart5 ++ chiPart6 ++ chiPart7

/-- The chi-square test on the normalised carrier residuals of the fixed ambiguities, three coordinates being estimated from them (04 R145; log entry 65). -/
def residOk (resid fixed : Nat) : Bool := decide (fixed ≤ 3) || decide (resid ≤ chiLimits.getD (min 383 (fixed - 4)) 0)

/-! ## The dual-antenna vector (04 R147) -/

/-- The direction of a horizontal vector, clockwise from north, LSB 2^-32 turn. -/
def azimuth (e n : Int) : Int := headingOf (if n < 0 then 2 ^ 31 else 0) e n

/-- Heading and pitch of the body from the solved vector (east, north, up) and the installed one (body x, y, z), with the roll of the fusion filter, by R135; a vector
that lies across the body says nothing of pitch, which is then the filter's (04 R147). -/
def aimOf (v : Int × Int × Int) (b : Int × Int × Int) (pitch roll : Int) : Nat × Int :=
  let k : Int := 256
  let y1 := (k * b.2.1 * cosTurn roll - k * b.2.2 * sinTurn roll) / fx
  let z1 := (k * b.2.1 * sinTurn roll + k * b.2.2 * cosTurn roll) / fx
  let x := k * b.1
  let r2 := x * x + z1 * z1
  let u := max (-(bigSqrt r2.toNat : Int)) (min (k * v.2.2) (bigSqrt r2.toNat : Int))
  let up := if r2 == 0 then pitch else azimuth u (if x < 0 then -(bigSqrt (r2 - u * u).toNat : Int) else (bigSqrt (r2 - u * u).toNat : Int)) - azimuth z1 x
  let th := signed 32 (up % (2 ^ 32 : Nat)).toNat
  let x2 := (x * cosTurn th - z1 * sinTurn th) / fx
  (((azimuth v.1 v.2.1 - azimuth (-y1) x2) % (2 ^ 32 : Nat)).toNat, th)

end Sys2Proof.Machine
end

