-- ==== Sys2Proof/Machine/Pose.lean ====
section
/-!
DEFINITION. RTK, heading and pose (file 04), and the pose reference on Vexlink (13 R480 to R482). The filters' arithmetic, which the
manual leaves to the engine, arrives as operands; every test, state and level that the manual states is computed here.
-/
namespace Sys2Proof.Machine

/-! ## The pose record (04 R154) -/

/-- The unknown level or age: 0xFFFF_FFFF. -/
def all1 : Nat := 0xFFFFFFFF

/-- Bytes 0 to 95 of the pose record (04 R154). -/
def refBytes (r : PoseRec) : List Byte :=
  dtBytes r.tRef ++ le 4 r.tide ++ le 1 r.solution ++ le 1 r.headingSrc ++ le 1 r.flags ++ le 1 (satN 255 r.sats) ++
  ([r.e, r.n, r.u, r.ve, r.vn, r.vu, r.ae, r.an, r.au].map (fun v => leI 4 (satI 32 v))).flatten ++ le 4 r.heading ++
  ([r.pitch, r.roll, r.headingRate, r.pitchRate, r.rollRate].map (fun v => leI 4 (satI 32 v))).flatten ++
  le 4 r.hpl ++ le 4 r.vpl ++ le 4 r.headPl ++ le 4 r.age

/-- The pose reference that a message carries (04 R154, 13 R480). -/
def refOf (b : List Byte) : PoseRec :=
  { tRef := dtAt b 0, tide := uAt b 12 4, solution := uAt b 16 1, headingSrc := uAt b 17 1, flags := uAt b 18 1, sats := uAt b 19 1
    e := iAt b 20 4, n := iAt b 24 4, u := iAt b 28 4, ve := iAt b 32 4, vn := iAt b 36 4, vu := iAt b 40 4
    ae := iAt b 44 4, an := iAt b 48 4, au := iAt b 52 4, heading := uAt b 56 4, pitch := iAt b 60 4, roll := iAt b 64 4
    headingRate := iAt b 68 4, pitchRate := iAt b 72 4, rollRate := iAt b 76 4
    hpl := uAt b 80 4, vpl := uAt b 84 4, headPl := uAt b 88 4, age := uAt b 92 4 }

/-- V x dt + A x dt^2 / 2 in 2^-8 mm, V and A in 2^-10 mm/s and mm/s^2, dt in 2^-16 ns (04 R155). -/
def travel (v a dt : Int) : Int := v * dt / (4 * sec1 : Nat) + a * dt * dt / (sec1 * 8 * sec1 : Nat)

/-- East, north and up of the reference point at an instant, 2^-8 mm (04 R155). -/
def vrpAt (r : PoseRec) (t : Nat) : Int × Int × Int :=
  let dt : Int := (t : Int) - r.tRef
  (256 * r.e + travel r.ve r.ae dt, 256 * r.n + travel r.vn r.an dt, 256 * r.u + travel r.vu r.au dt)

/-- Heading, pitch and roll at an instant (04 R155). -/
def anglesAt (r : PoseRec) (t : Nat) : Int × Int × Int :=
  let dt : Int := (t : Int) - r.tRef
  (((r.heading : Int) + r.headingRate * dt / (sec1 : Nat)) % (2 ^ 32 : Nat), r.pitch + r.pitchRate * dt / (sec1 : Nat), r.roll + r.rollRate * dt / (sec1 : Nat))

/-- A point with a lever arm in mm at an instant: east, north, up in 2^-8 mm (04 R135, R155). -/
def pointAt (r : PoseRec) (t : Nat) (x y z : Int) : Int × Int × Int :=
  let p := vrpAt r t
  let a := anglesAt r t
  let d := leverArm (256 * x) (256 * y) (256 * z) a.1 a.2.1 a.2.2
  (p.1 + d.1, p.2.1 + d.2.1, p.2.2 + d.2.2)

/-- The horizon of extrapolation: -100 ms to +200 ms (04 R155). -/
def inHorizon (r : PoseRec) (t : Nat) : Bool := decide (r.tRef ≤ t + 100 * ms1) && decide (t ≤ r.tRef + 200 * ms1)

/-- HPL(t), rounded up to the next millimetre (04 R156). -/
def hplAt (r : PoseRec) (rate t : Nat) : Nat :=
  if r.hpl == all1 then all1 else min all1 (r.hpl + ceilDiv (rate * ((t : Int) - r.tRef).natAbs) sec1)

/-! ## The engine's own state -/

/-- The IMU delivers samples (04 R150). -/
def imuOk (p : PoseSt) : Bool := p.imuPresent && p.imuCfg.isSome && !p.imuLost && p.imuAt.isSome

/-- SOLUTION as reported: NONE while no pose is issued (04 R146, R151). -/
def solNow (p : PoseSt) : Nat := if p.nav.isNone then 0 else p.solution
/-- HEADING_SRC as reported. -/
def headNow (p : PoseSt) : Nat := if p.nav.isNone then 0 else p.headingSrc
/-- In DR without an IMU: HPL and HEAD_PL are unknown (04 R158). -/
def drNoImu (p : PoseSt) : Bool := p.solution == 5 && !imuOk p

/-- HPL = K_PL x sigma_H + B_H, rounded up (04 R158). -/
def hplNow (p : PoseSt) : Nat := match p.nav with
  | none => all1
  | some v => if drNoImu p then all1 else min 0xFFFFFFFE (ceilDiv (p.kPl * v.sigH) 25600 + 30 * p.uncal)
/-- VPL = K_PL x sigma_U + B_H (04 R158). -/
def vplNow (p : PoseSt) : Nat := match p.nav with
  | none => all1
  | some v => min 0xFFFFFFFE (ceilDiv (p.kPl * v.sigU) 25600 + 30 * p.uncal)
/-- HEAD_PL = K_PL x sigma_psi; unknown without a heading source (04 R148, R158). -/
def headPlNow (p : PoseSt) : Nat := match p.nav with
  | none => all1
  | some v => if drNoImu p || p.headingSrc == 0 then all1 else min 0xFFFFFFFE (ceilDiv (p.kPl * v.sigPsi) 100)

/-- The antennas of the installation: antenna 0, and antenna 1 where it is present (04 R136). -/
def antsInstalled (p : PoseSt) : List Nat := if p.ant1 then [0, 1] else [0]

/-- A phase-centre table is loaded for an antenna: its identifier is the PCV_MODEL of the antenna's module (03 R101, 04 R136). -/
def pcvLoaded (s : State) (a : Nat) : Bool :=
  match (s.gnss.ants.getD a {}).block with
  | some b => s.pose.pcv.any (fun t => t.1 == uAt b 64 4)
  | none => false

/-- PCV_ABSENT: some installed antenna has no phase-centre variations applied (04 R136). -/
def pcvAbsent (s : State) : Bool := (antsInstalled s.pose).any (fun a => !pcvLoaded s a)

/-- Microseconds since the last applied epoch (04 R154). -/
def ageUs (p : PoseSt) (t : Nat) : Nat := match p.lastEpoch with | none => all1 | some e => min 0xFFFFFFFE ((t - e) / us1)

/-- CORR_AGE in ms, none with no corrections (04 R154). -/
def corrAgeMs (s : State) : Nat := match s.pose.corrAt with | none => all1 | some c => min 0xFFFFFFFE ((dtNow s - c) / ms1)

/-- FLAGS of the pose record (04 R154). -/
def poseFlags (s : State) : Nat :=
  let p := s.pose
  bitIf p.integrity 0 + bitIf (jobId s == 0) 1 + bitIf (p.uncal != 0) 2 + bitIf p.corrStale 3 + bitIf p.jammed 4 + bitIf p.clockStep 5 +
    bitIf (imuOk p) 6 + bitIf (pcvAbsent s) 7

/-- The fused state propagated to an instant: latitude, longitude, height, and east, north, up velocities (04 R152, R153). -/
def navTo (p : PoseSt) (v : Nav) (t : Nat) : Nav :=
  let dt : Int := (t : Int) - p.navAt
  let g := moveGeo v.lat v.lon v.height (travel v.ve v.ae dt) (travel v.vn v.an dt)
  { v with
    lat := g.1, lon := g.2, height := v.height + travel v.vu v.au dt
    ve := v.ve + v.ae * dt / (sec1 : Nat), vn := v.vn + v.an * dt / (sec1 : Nat), vu := v.vu + v.au * dt / (sec1 : Nat)
    heading := (((v.heading : Int) + v.headingRate * dt / (sec1 : Nat)) % (2 ^ 32 : Nat)).toNat
    pitch := v.pitch + v.pitchRate * dt / (sec1 : Nat), roll := v.roll + v.rollRate * dt / (sec1 : Nat) }

/-- The pose state as it was fused at an instant: without what reached the filter after it (01 R32 step 1). -/
def asOf (t : Nat) (p : PoseSt) : PoseSt :=
  if p.navAt ≤ t || p.nav.isNone then p
  else match p.navHist.find? (fun h => decide (h.1 ≤ t)) with
    | some (a, v) => { p with nav := some v, navAt := a }
    | none => p

/-- A new fused state, of the present instant; the one before it is kept for the next pose reference. -/
def setNav (v : Nav) (now : Nat) (p : PoseSt) : PoseSt :=
  { p with nav := some v, navAt := now, navHist := match p.nav with | some w => ((p.navAt, w) :: p.navHist).take 8 | none => [] }

/-- Heading at a place as heading against the north axis of the field frame of an origin (04 R134, 06 R226): body x is turned into that frame. -/
def fieldHeading (v : Nav) (lat0 lon0 : Int) : Nat :=
  let st := sinTurn v.pitch; let ct := cosTurn v.pitch
  let d := turnFrame v.lat v.lon lat0 lon0 (ct * sinTurn v.heading / fx, ct * cosTurn v.heading / fx, st)
  (headingOf v.heading d.1 d.2.1).toNat

/-- The pose record of a pose master at an instant (04 R137, R153, R154, R168). Its field-frame fields are zero with NO_JOB; HEADING, which R134 counts from
the north axis of the field frame, is taken to be one of them (log entry 59). -/
def recAt (s : State) (t : Nat) : PoseRec :=
  let p := s.pose
  let head : PoseRec :=
    { tRef := t, tide := if jobId s == 0 then 0 else (tideAt s t).getD 0, solution := solNow p, headingSrc := headNow p
      flags := poseFlags s, sats := p.sats, hpl := hplNow p, vpl := vplNow p, headPl := headPlNow p, age := ageUs p t }
  match p.nav with
  | none => head
  | some v0 =>
    let v := navTo p v0 t
    let h := { head with pitch := v.pitch, roll := v.roll, headingRate := v.headingRate, pitchRate := v.pitchRate, rollRate := v.rollRate }
    match jobOrigin s with
    | none => h
    | some (la, lo, hh) =>
      let f := fieldPoint v.lat v.lon v.height la lo hh
      let w := turnFrame v.lat v.lon la lo (v.ve, v.vn, v.vu)
      let a := turnFrame v.lat v.lon la lo (v.ae, v.an, v.au)
      { h with e := toMm f.1, n := toMm f.2.1, u := toMm f.2.2, ve := w.1, vn := w.2.1, vu := w.2.2, ae := a.1, an := a.2.1, au := a.2.2
               heading := fieldHeading v la lo }

/-- Latitude, longitude (10^-12 degree) and height (2^-8 mm) of the vehicle reference point at an instant: a pose master's own state;
a follower's, its reference in the frame of its job. -/
def geoAt (s : State) (t : Nat) : Int × Int × Int :=
  if isFollower s then
    match s.pose.ref, jobOrigin s with
    | some r, some (la, lo, hh) => geoOf la lo hh (vrpAt r t)
    | _, _ => (0, 0, 0)
  else match s.pose.nav with
    | none => (0, 0, 0)
    | some v => let w := navTo s.pose v t; (w.lat, w.lon, w.height)

/-- The pose that a device has now: the pose master's state at this instant, the follower's reference (04 R153, R157). -/
def poseNow (s : State) : PoseRec := if isFollower s then s.pose.ref.getD {} else recAt s (dtNow s)

/-- The whole pose record of 128 bytes (04 R154). -/
def poseRecBytes (s : State) : List Byte :=
  let g := geoAt s (dtNow s)
  refBytes (poseNow s) ++ leI 8 g.1 ++ leI 8 g.2.1 ++ leI 4 (satI 32 (toMm g.2.2)) ++ le 4 (corrAgeMs s) ++ le 2 (s.pose.station.getD 0) ++ List.replicate 6 0

/-! ## Integrity (04 R160, R161) -/

/-- INTEGRITY_OK takes a value; each change raises its event (04 R160). -/
def setIntegrity (ok : Bool) (cause : Nat) (r : PoseRec) (s : State) : State :=
  let s1 := { s with pose := { s.pose with integrity := ok } }
  if ok == s.pose.integrity then s1
  else if ok then raise { code := 0x0408, sev := 2, src := 2, p0 := r.hpl, p1 := r.headPl } s1
  else raise { code := 0x0407, sev := 4, src := 2, p0 := cause, p1 := r.hpl, p2 := r.headPl } s1

/-- DR permits INTEGRITY_OK (04 R161). -/
def drPermits (p : PoseSt) (t : Nat) : Bool :=
  p.solution != 5 || (imuOk p && decide (t - p.lastEpoch.getD 0 ≤ ms1 * p.drLimitMs))

/-- The first condition of R160 that fails at a boundary, in its order; none where all hold. -/
def intCause (r : PoseRec) (t : Nat) (s : State) : Option Nat :=
  if r.solution == 0 then some 4
  else if !refGood s then some 3
  else if !drPermits s.pose t then some 2
  else if decide (s.pose.plLimit < r.hpl) then some 0
  else if decide (s.pose.headPlLimit < r.headPl) then some 1
  else none

/-- The body of a POSE message (13 R480). -/
def poseBody (r : PoseRec) (s : State) : List Byte :=
  refBytes r ++ le 4 (if jobId s == 0 then 0 else s.time.tideNo) ++ le 1 s.votes.tide.value ++ le 1 (b1 (jobId s == 0)) ++ [0, 0] ++ le 4 (jobId s) ++ [0, 0, 0, 0]

/-- At a tide boundary of a pose master, from its fused state at 30 us before it (01 R32): the conditions of R160, the pose reference, and its POSE message (04 R153, R160, 13 R480). -/
def masterBoundary (t : Nat) (s : State) : State :=
  let r := recAt { s with pose := asOf (t - 30 * us1) s.pose } t
  let cause := intCause r t s
  let since := match cause with | some _ => none | none => some (s.pose.condFrom.getD s.time.cyc)
  let held := match since with | some c => decide (c + cycMs s.pose.holdMs ≤ s.time.cyc) | none => false
  let s1 := setIntegrity held (cause.getD 2) r { s with pose := { s.pose with condFrom := since } }
  let r1 := { r with flags := poseFlags s1 }
  let s2 := { s1 with pose := { s1.pose with ref := some r1, refNow := true, tideInt := s1.pose.integrity } }
  if s2.net.group == 1 then vxOriginate (vxUp s2) 2 false (poseBody r1 s2) s2 else s2

/-- A follower's pose source is valid: a reference in at least one of the last 8 tides (01 R23). -/
def sourceValid (p : PoseSt) : Bool := ((p.refTides.drop 1).take 8).any id

/-- At a tide boundary of a follower: the reference of the new tide is not yet held; its source and REF_IN are judged (01 R23, 04 R160). -/
def followerBoundary (s : State) : State :=
  let s0 := { s with pose := { s.pose with refNow := false, refTides := (false :: s.pose.refTides).take 9 } }
  let r := s0.pose.ref.getD {}
  let s1 := if !sourceValid s0.pose then setIntegrity false 4 r s0 else if !refGood s0 then setIntegrity false 3 r s0 else s0
  { s1 with pose := { s1.pose with tideInt := s1.pose.integrity } }

/-- What the pose engine does at a tide boundary (04 R153, R160); nothing in base role. -/
def poseBoundary (t : Nat) (s : State) : State :=
  if roleOf s != 0 then s else if isFollower s then followerBoundary s else masterBoundary t s

/-- The cause a follower reports when the reference it holds carries INTEGRITY_OK clear (04 R160). -/
def followerCause (r : PoseRec) (s : State) : Nat :=
  if r.solution == 0 then 5 else if !refGood s then 3
  else if r.solution == 5 && (!bit r.flags 6 || decide (1000 * s.pose.drLimitMs < r.age)) then 2 else if s.pose.plLimit < r.hpl then 0
  else if s.pose.headPlLimit < r.headPl then 1 else 3

/-- A POSE message (13 R475, R480, R481; 05 R214): a follower arms its tide with the reference. -/
def doPoseMessage (n : Nat) (m : VxMsg) (s : State) : State :=
  let (deliver, s1) := vxFlood n m [0, 1, 2] s
  let count := fun (x : State) => { x with net := { x.net with poseDiscarded := x.net.poseDiscarded + 1 } }
  if !deliver then s1
  else if s1.net.group == 1 then rootConflict m.origin 2 n (count s1)
  else if !isFollower s1 || m.origin != rootId s1 || m.body.length != 112 then count s1
  else
    let b := m.body
    let s2 := { s1 with pose := { s1.pose with refTides := true :: s1.pose.refTides.drop 1 } }
    let own := if jobId s2 == 0 then 0 else s2.time.tideNo
    match s2.time.lastBoundary with
    | none => s2
    | some t0 =>
      if s2.pose.refNow || decide (t0 + tideP s2 / 10 < dtNow s2) then s2
      else if uAt b 96 4 != own || uAt b 100 1 != s2.votes.tide.value || uAt b 104 4 != jobId s2 then
        raise { code := 0x0509, sev := 4, p0 := own, p1 := uAt b 96 4 } s2
      else
        let r := refOf b
        let ok := bit r.flags 0 && refGood s2
        let s3 := setIntegrity ok (followerCause r s2) r s2
        armCells { s3 with pose := { s3.pose with ref := some { r with flags := r.flags / 2 * 2 + b1 ok }, refNow := true, tideInt := ok } }

/-- POSE_MESSAGE (13 R480). -/
def execPoseMessage (port : Nat) (m : VxMsg) (s : State) : Host.Outcome State Fault Refusal := done (doPoseMessage port m s)

/-! ## Measurement epochs (04 R132 to R148, R161, R162) -/

/-- An epoch whose solution is not applied by t_k + 5 ms is discarded whole (04 R133). -/
def doEpochLate (t : Nat) (s : State) : State :=
  let s1 := runTo (t + 5 * ms1) s
  raise { code := 0x0409, sev := 3, src := 2, p0 := stOf t, p1 := (dtNow s1 - (t + 5 * ms1)) / us1 % 2 ^ 32 }
    { s1 with pose := { s1.pose with lateEpochs := (s1.pose.lateEpochs + 1) % 2 ^ 32 } }

/-- An epoch belongs to R120's grid, its measurement record is the last that reached the engine, and it is not older than the last applied one. -/
def epochOk (t : Nat) (s : State) : Bool :=
  roleOf s == 0 && !isFollower s && t % (10 * ms1) == 0 && s.gnss.obsAt == some t && decide (t ≤ dtNow s) && (match s.pose.lastEpoch with | some e => decide (e < t) | none => true)

/-- POSE_EPOCH_LATE (04 R133). -/
def execPoseEpochLate (epoch : Nat) (s : State) : Host.Outcome State Fault Refusal :=
  done (if epochOk epoch s then doEpochLate epoch s else s)

/-- Dual-antenna heading is lost, where it was fixed (04 R170). -/
def headingLost (src : Nat) (s : State) : State :=
  raiseIf (s.pose.headingSrc == 1) { code := 0x0404, sev := 3, src := 2, p0 := src } { s with pose := { s.pose with headingSrc := src } }

/-- The fixed integers are released (04 R145, R168); only an applied epoch ends DR (04 R162). -/
def releaseFix (cause : Nat) (s : State) : State :=
  raiseIf s.pose.fixed { code := 0x0402, sev := 3, src := 2, p0 := cause }
    { s with pose := { s.pose with flt := floatAmbs s.pose.flt, fixed := false, hold := 0, residFails := 0, solution := if s.pose.solution == 5 then 5 else min s.pose.solution 3 } }

/-- Where heading comes from without a fixed vector (04 R148, R152, R168). -/
def fallbackHead (held : Bool) (speed : Nat) (reverse : Bool) (p : PoseSt) : Nat :=
  if imuOk p && held then 2 else if decide (p.cogMin ≤ speed) && !reverse then 3 else 0

/-- A pending POSE_RESET takes effect at a measurement epoch (04 R168). -/
def applyReset (sol : EpochSol) (s : State) : State :=
  match s.pose.resetPending with
  | none => s
  | some mode =>
    let held := s.pose.headingSrc != 0 && mode == 0
    let src := fallbackHead held sol.speed sol.reverse s.pose
    let s1 := raises [{ code := 0x0402, sev := 3, src := 2, p0 := 4 }, { code := 0x0404, sev := 3, src := 2, p0 := if mode == 1 then 0 else src }]
      { s with pose := { s.pose with resetPending := none, flt := resetAmbs s.pose.flt, fixed := false, hold := 0, residFails := 0, headingSrc := src,
                                                solution := if s.pose.solution == 5 then 5 else min s.pose.solution 3 } }
    if mode == 1 then { s1 with pose := { s1.pose with nav := none, navHist := [], headingSrc := 0, solution := 0 } } else s1

/-- Corrections are usable: an installation is set and the base observations are within CORR_AGE_LIMIT (04 R136, R140). -/
def corrUsable (s : State) : Bool :=
  s.pose.install.isSome && s.pose.locked && !s.pose.corrStale &&
    (match s.pose.corrAt with | some c => decide (dtNow s ≤ c + ms1 * s.pose.corrAgeMs) | none => false)

/-- The double differences of an epoch of antenna 0 against the base (04 R141); none without usable corrections. -/
def epochDds (sol : EpochSol) (s : State) : List DD := if corrUsable s then ddOf (againstBase sol.excl sol.t s) else []

/-- The best solution that an epoch can form, and that its filter forms: FLOAT with carrier, DGNSS without, SINGLE without a double difference (04 R146). -/
def formed (sol : EpochSol) (ds : List DD) : Nat := min sol.avail (if ds.any (·.carr.isSome) then 3 else if ds.isEmpty then 1 else 2)

/-- The baseline is longer than BASELINE_FIX_LIMIT (04 R143). -/
def beyondLimit (p : PoseSt) : Bool := decide (km1 * p.baselineKm < baseline p p.flt)

/-- While FIXED: the ambiguities newly fixed, the residual test and the number that is left (04 R145, R162). -/
def holdFix (resid : Nat) (ds : List DD) (s : State) : State :=
  let p := s.pose
  let ambs := fixNew ds p.flt.ambs
  let n := fixedCount ambs
  let good := residOk resid n
  let fails := if good then 0 else p.residFails + 1
  let few := decide (n < p.fixMinAmb)
  let s1 := { s with pose := { p with flt := { p.flt with ambs := ambs } } }
  if p.solution == 5 && (few || !good) then releaseFix 3 { s1 with pose := { s1.pose with solution := 3 } }
  else if decide (2 ≤ fails) || few then releaseFix (if 2 ≤ fails then 0 else 1) { s1 with pose := { s1.pose with solution := 3 } }
  else { s1 with pose := { s1.pose with residFails := fails, solution := 4 } }

/-- While not FIXED: the integer search, and the fix after FIX_HOLD epochs with the same integers (04 R144). -/
def searchFix (res : List SearchRes) (ds : List DD) (s : State) : State :=
  let p := s.pose
  match searchPick res ds p.flt.ambs p with
  | none => { s with pose := { p with hold := 0, holdInts := [], solution := 3 } }
  | some (found, ratio) =>
    let n := if sameInts ds p.holdInts found then p.hold + 1 else 1
    if decide (p.fixHold ≤ n) then
      raise { code := 0x0401, sev := 2, src := 2, p0 := found.length, p1 := ratio, p2 := setSats found }
        { s with pose := { p with flt := { p.flt with ambs := putFixed found p.flt.ambs }, holdInts := [], fixed := true, hold := 0, residFails := 0, solution := 4 } }
    else { s with pose := { p with hold := n, holdInts := found, solution := 3 } }

/-- The integer search and the fix hold of an epoch whose float filter has carrier (04 R143 to R145, R162). Beyond BASELINE_FIX_LIMIT the solution stays FLOAT:
a fix held as the limit is passed is lost, with the cause "too few ambiguities" (log entry 60). -/
def fixStep (sol : EpochSol) (ds : List DD) (s : State) : State :=
  if beyondLimit s.pose then
    let s1 := { s with pose := { s.pose with hold := 0, holdInts := [], solution := 3 } }
    if s.pose.fixed then releaseFix 1 s1 else s1
  else if s.pose.fixed then holdFix sol.resid ds s
  else searchFix sol.search ds s

/-- An epoch whose float filter has no carrier: DGNSS or SINGLE (04 R146). Integers that no carrier bears out are too few, or do not survive DR (04 R145, R162). -/
def noCarrier (avail : Nat) (s : State) : State :=
  let few := decide (fixedCount s.pose.flt.ambs < s.pose.fixMinAmb)
  let s1 := if s.pose.fixed && (s.pose.solution == 5 || few) then releaseFix (if s.pose.solution == 5 then 3 else 1) s else s
  { s1 with pose := { s1.pose with hold := 0, holdInts := [], solution := avail } }

/-- The observations of an epoch that its solution uses: of antenna 0 those in a double difference, or all without corrections; of antenna 1 those of the vector
(04 R147, R154, R158). -/
def usedObs (sol : EpochSol) (ds dv : List DD) (s : State) : List Obs :=
  let in_ := fun (l : List DD) (o : Obs) => l.any (fun d => d.signal == o.signal && (d.sv == o.sv || d.ref == o.sv))
  (usable sol.excl 0 s).filter (fun o => ds.isEmpty || in_ ds o) ++ (if sol.vec.isSome then (usable sol.excl 1 s).filter (in_ dv) else [])

/-- SATS, UNCALIBRATED, JAMMED and CLOCK_STEP of an epoch (04 R154, R158). -/
def epochMarks (used : List Obs) (s : State) : State :=
  { s with pose := { s.pose with
    sats := ((used.filter (fun o => o.ant == 0)).map (fun o => (gSystem o.signal, o.sv))).eraseDups.length
    uncal := ((used.filter (fun o => bit o.flags 4)).map (·.ant)).eraseDups.length
    jammed := used.any (fun o => bit o.flags 3), clockStep := s.gnss.obsStep } }

/-- The installed vector from ARP 0 to ARP 1, mm (04 R147). -/
def vecOf (l : List Int) : Int × Int × Int := (l.getD 3 0 - l.getD 0 0, l.getD 4 0 - l.getD 1 0, l.getD 5 0 - l.getD 2 0)
/-- The installed vector's length in mm, rounded down (04 R147). -/
def vecLength (l : List Int) : Nat := vecLen (vecOf l)
/-- The installed vector is at least 300 mm and at most 10,000 mm long (04 R147). -/
def vecAllowed (l : List Int) : Bool :=
  let v := vecOf l
  let q := v.1 * v.1 + v.2.1 * v.2.1 + v.2.2 * v.2.2
  decide (90000 ≤ q) && decide (q ≤ 100000000)

/-- The length of a vector lies within HEAD_TOL of the installed one's, both to 2^-8 mm (04 R147). -/
def lengthOk (v w : Int × Int × Int) (tol : Nat) : Bool :=
  decide (((vecLen (256 * v.1, 256 * v.2.1, 256 * v.2.2) : Int) - vecLen (256 * w.1, 256 * w.2.1, 256 * w.2.2)).natAbs ≤ 256 * tol)

/-- The dual-antenna vector is fixed at an epoch: solved from double differences between the antennas, past HEAD_RATIO_MIN, and of the installed length (04 R147). -/
def vecFixed (sol : EpochSol) (p : PoseSt) : Bool :=
  match p.install, sol.vec with
  | some l, some (v, ratio) => p.ant1 && p.ddVec.any (·.carr.isSome) && decide (p.headRatioMin ≤ ratio) && lengthOk v (vecOf l) p.headTol
  | _, _ => false

/-- Heading and pitch that a fixed vector gives (04 R147). -/
def vecAimOf (sol : EpochSol) (p : PoseSt) : Option (Nat × Int) :=
  if vecFixed sol p then
    match p.install, sol.vec with
    | some l, some (v, _) => some (aimOf v (vecOf l) ((p.nav.map (·.pitch)).getD 0) ((p.nav.map (·.roll)).getD 0))
    | _, _ => none
  else none

/-- The heading of an epoch (04 R147, R148). -/
def headStep (sol : EpochSol) (s : State) : State :=
  if vecFixed sol s.pose then
    let (v, ratio) := sol.vec.getD ((0, 0, 0), 0)
    let len := vecLen v
    raiseIf (s.pose.headingSrc != 1) { code := 0x0403, sev := 2, src := 2, p0 := len, p1 := ratio } { s with pose := { s.pose with headingSrc := 1 } }
  else headingLost (fallbackHead (s.pose.headingSrc != 0) sol.speed sol.reverse s.pose) s

/-- Standard deviation of a course over ground: that of the velocity over the speed, LSB 2^-32 turn, rounded up (04 R148). -/
def courseSigma (sol : EpochSol) : Nat := ceilDiv (sol.sigV * 2 ^ 32 * 1000000) (max 1 (6283185 * sol.speed))

/-- The fusion filter takes an epoch: the state after it, where attitude is aligned (04 R132, R148, R151). -/
def fuse (sol : EpochSol) (s : State) : State :=
  let p := s.pose
  let v := if p.headingSrc == 3 then { sol.nav with sigPsi := courseSigma sol } else sol.nav
  { s with pose :=
      if p.nav.isSome || (sol.aligned && p.headingSrc != 0) then { setNav v (dtNow s) p with drSig := (v.sigH, v.sigU, v.sigPsi) }
      else { p with nav := none, navAt := dtNow s, navHist := [] } }

/-- An epoch that has passed fault detection is applied: the float filter and its integers, the heading, the fused state (04 R132, R141 to R148). -/
def applyEpoch (sol : EpochSol) (s : State) : State :=
  let ds := epochDds sol s
  let dv := if s.pose.ant1 then ddOf (againstAnt0 sol.excl sol.t s) else []
  let avail := formed sol ds
  let s1 := { s with pose := { s.pose with dds := ds, ddVec := dv } }
  let s2 := if avail == 3 then fixStep sol ds { s1 with pose := { s1.pose with flt := floatStep sol.flt ds s1.pose } } else noCarrier avail s1
  let s3 := headStep sol { s2 with pose := { s2.pose with vecAim := vecAimOf sol s2.pose } }
  let s4 := epochMarks (usedObs sol ds dv s) (fuse sol s3)
  { s4 with pose := { s4.pose with lastEpoch := some sol.t, drLimited := false } }

/-- The solution of a measurement epoch reaches the pose state (04 R132 to R148, R158 to R162). -/
def doEpoch (sol : EpochSol) (s : State) : State :=
  if !epochOk sol.t s || s.time.refLost then s
  else if decide (sol.t + 5 * ms1 < dtNow s) then doEpochLate sol.t s
  else
    let s0 := applyReset sol s
    let s1 := { s0 with pose := { s0.pose with excluded := (s0.pose.excluded + min 2 sol.excl.length) % 2 ^ 32 } }
    if sol.faulty || decide (2 < sol.excl.length) || sol.avail == 0 then s1 else applyEpoch sol s1

/-- RTK_EPOCH_SOLUTION (04 R132). -/
def execRtkEpochSolution (sol : EpochSol) (s : State) : Host.Outcome State Fault Refusal := done (doEpoch sol s)

/-- No epoch has been applied for 30 ms: the solution passes to DR (04 R161), and heading is held by the IMU where there is one (04 R148, R152). -/
def doDrStart (s : State) : State :=
  match s.pose.lastEpoch with
  | none => s
  | some e =>
    if roleOf s != 0 || isFollower s || s.pose.nav.isNone || s.pose.solution == 5 || s.pose.solution == 0 then s
    else
      let s1 := runTo (e + 30 * ms1) s
      let s' := headingLost (if s1.pose.headingSrc == 0 then 0 else if imuOk s1.pose then 2 else 0)
        (raise { code := 0x0405, sev := 3, src := 2, p0 := stOf e } { s1 with pose := { s1.pose with solution := 5, drLimited := false } })
      let s2 := s'
      if imuOk s2.pose then s2 else setIntegrity false 2 (recAt s2 (dtNow s2)) { s2 with pose := { s2.pose with condFrom := none } }

/-- POSE_DR_START (04 R161). -/
def execPoseDrStart (s : State) : Host.Outcome State Fault Refusal := done (doDrStart s)

/-- DR time exceeds DR_LIMIT; INTEGRITY_OK clears at the next boundary under R160 (04 R161). -/
def doDrLimit (s : State) : State :=
  match s.pose.lastEpoch with
  | none => s
  | some e =>
    if s.pose.solution != 5 || s.pose.drLimited then s
    else
      let s1 := runTo (e + ms1 * s.pose.drLimitMs + 1) s
      raise { code := 0x0406, sev := 4, src := 2, p0 := (dtNow s1 - e) / ms1, p1 := hplNow s1.pose } { s1 with pose := { s1.pose with drLimited := true } }

/-- POSE_DR_LIMIT (04 R161). -/
def execPoseDrLimit (s : State) : Host.Outcome State Fault Refusal := done (doDrLimit s)

/-- At each 10 ms epoch: the pose record and the NMEA sentences of the subscriptions (04 R153, R168). -/
def poseEpochTick (t : Nat) (s : State) : State :=
  let p := s.pose
  let n := p.poseCount + 1
  let hit := p.poseSub != 0 && decide (p.poseSub ≤ n)
  let s1 := { s with pose := { p with poseCount := if hit || p.poseSub == 0 then 0 else n } }
  let s2 := if hit then sendS1 0x12 (poseRecBytes s1) s1 else s1
  if p.nmeaMask == 0 || t * p.nmeaRate / sec1 == (t - 10 * ms1) * p.nmeaRate / sec1 then s2
  else ((List.range 5).filter (bit p.nmeaMask)).foldl (fun st k => sendS1 0x13 (Config.nmea k (poseRecBytes st)) st) s2

/-! ## Corrections (04 R138 to R140) -/

/-- A change of station, or of its coordinates: every ambiguity is reset (04 R139). -/
def baseChanged (old new : Nat) (s : State) : State :=
  let s1 := releaseFix 2 s
  raise { code := 0x040B, sev := 2, src := 2, p0 := old, p1 := new } { s1 with pose := { s1.pose with hold := 0, holdInts := [], flt := resetAmbs s1.pose.flt } }

/-- A difference of ARP coordinates of more than 1 mm (LSB 0.1 mm). -/
def arpMoved (a b : Int × Int × Int × Nat) : Bool :=
  decide (100 < (a.1 - b.1) * (a.1 - b.1) + (a.2.1 - b.2.1) * (a.2.1 - b.2.1) + (a.2.2.1 - b.2.2.1) * (a.2.2.1 - b.2.2.1))

/-- The engine locks to a station that has delivered both a station message and an MSM, where no lock stands and the station is
allowed (04 R139). -/
def tryLock (id : Nat) (s : State) : State :=
  let p := s.pose
  if p.locked || !p.seenStation.contains id || !p.seenMsm.contains id || !(p.corrStation == 0xFFFF || p.corrStation == id) then s
  else
    let arp := tget p.arps id
    let s1 := { s with pose := { p with locked := true, station := some id, arp := arp, baseObs := [], gloBias := (0, 0) } }
    let moved := match p.arp, arp with | some a, some b => arpMoved a b | _, _ => false
    match p.station with
    | none => s1
    | some old => if old == id && !moved then s1 else baseChanged old id s1

/-- A payload of an accepted message reaches the engine (04 R138 to R140). -/
def feedRtcm (p : List Byte) (s : State) : State :=
  let no := rtcmNo p
  let id := rtcmStation p
  if no == 1005 || no == 1006 then
    let a := stationArp p
    let s1 := { s with pose := { s.pose with seenStation := if s.pose.seenStation.contains id then s.pose.seenStation else id :: s.pose.seenStation
                                             arps := tset s.pose.arps id a } }
    let s2 := if s1.pose.locked && s1.pose.station == some id then
        let moved := match s1.pose.arp with | some b => arpMoved a b | none => false
        let s' := { s1 with pose := { s1.pose with arp := some a } }
        if moved then baseChanged id id s' else s'
      else s1
    tryLock id s2
  else if isMsm no then
    let s1 := tryLock id { s with pose := { s.pose with seenMsm := if s.pose.seenMsm.contains id then s.pose.seenMsm else id :: s.pose.seenMsm } }
    if s1.pose.locked && s1.pose.station == some id then
      let e := msmEpoch s1 p
      let newer := match s1.pose.corrAt with | some c => decide (c < e) | none => true
      let usable := decide (dtNow s1 ≤ e + ms1 * s1.pose.corrAgeMs)
      let s2 := if usable then { s1 with pose := { s1.pose with baseObs := joinObs (msmObs e p) s1.pose.baseObs } } else s1
      if newer && usable then { s2 with pose := { s2.pose with corrAt := some e, corrStale := false } } else s2
    else s1
  else if no == 1230 && s.pose.locked && s.pose.station == some id then { s with pose := { s.pose with gloBias := gloBiases p } }
  else s

/-- The selected correction source takes frames of a path (04 R139). -/
def sourceTakes (host : Bool) (s : State) : Bool :=
  let fresh := match s.pose.radioAt with | some t => decide (dtNow s ≤ t + ms1 * s.pose.corrAgeMs) | none => false
  match s.pose.corrSource with
  | 0 => !host
  | 1 => host
  | _ => if host then !fresh else true

/-- One frame taken by the engine: checked, counted, copied to the subscriber, fed (04 R138, R168). -/
def rtcmTake (host : Bool) (f : List Byte) (s : State) : State :=
  if !sourceTakes host s then s
  else match rtcmPayload f with
    | none => { s with pose := { s.pose with rtcmDiscarded := (s.pose.rtcmDiscarded + 1) % 2 ^ 32 } }
    | some p =>
      let no := rtcmNo p
      if !(isMsm no || no == 1005 || no == 1006 || no == 1230) then { s with pose := { s.pose with rtcmIgnored := (s.pose.rtcmIgnored + 1) % 2 ^ 32 } }
      else feedRtcm p (if s.pose.corrSub then sendS1 0x02 f s else s)

/-- The next RTCM frame: from S_0, or from the fleet radio (04 R138, R139, 11 R411). -/
def doRtcmFrame (host : Bool) (s : State) : State :=
  if roleOf s != 0 then s
  else if host then match takeS0 2 s with
    | none => s
    | some (p, s1) => rtcmTake true p.payload s1
  else match s.pose.rtcmIn with
    | [] => s
    | f :: r => rtcmTake false f { s with pose := { s.pose with rtcmIn := r } }

/-- RTCM_FRAME (04 R138). -/
def execRtcmFrame (host : Bool) (s : State) : Host.Outcome State Fault Refusal := done (doRtcmFrame host s)

/-- Corrections age beyond CORR_AGE_LIMIT: the solution falls to SINGLE, and the integers, for which nothing stands any more, must be searched again (04 R140,
R144). R170 lists no cause of POSE_FIX_LOST for it, so none is raised (log entry 60). -/
def doCorrStale (s : State) : State :=
  match s.pose.corrAt with
  | none => s
  | some c =>
    if s.pose.corrStale || roleOf s != 0 then s
    else
      let s1 := runTo (c + ms1 * s.pose.corrAgeMs + 1) s
      raise { code := 0x040A, sev := 3, src := 2, p0 := (dtNow s1 - c) / ms1, p1 := s1.pose.station.getD 0 }
        { s1 with pose := { s1.pose with corrStale := true, locked := false, seenStation := [], seenMsm := [], baseObs := []
                                         flt := floatAmbs s1.pose.flt, holdInts := []
                                         fixed := false, hold := 0, residFails := 0
                                         solution := if s1.pose.solution == 5 then 5 else min 1 s1.pose.solution } }

/-- CORR_STALE (04 R140). -/
def execCorrStale (s : State) : Host.Outcome State Fault Refusal := done (doCorrStale s)

/-! ## The IMU (04 R149, R150) -/

/-- The nominal period in cycles of 2 ns (04 R150). -/
def imuPeriod (c : List Byte) : Nat := 500000000 / max 1 (uAt c 4 2)

/-- Bytes of one raw value. -/
def imuWidth (c : List Byte) : Nat := uAt c 18 1 + 2

/-- A raw value at a byte offset of the concatenated read data, in the configured width and byte order (04 R149). -/
def imuRaw (c d : List Byte) (k : Nat) : Int :=
  let w := imuWidth c
  let b := (List.range w).map (fun i => d.getD (uAt c (12 + k) 1 + i) 0)
  signed (8 * w) (natOf (if uAt c 19 1 == 1 then b.reverse else b))

/-- A raw value is at full scale (04 R150). -/
def fullScale (c : List Byte) (v : Int) : Bool :=
  let w := imuWidth c
  v == (2 ^ (8 * w - 1) : Nat) - 1 || v == -(2 ^ (8 * w - 1) : Nat)

/-- Rates and specific forces in body axes after scale, axis map and sign (04 R149). -/
def imuBody (c d : List Byte) : List Int :=
  (List.range 6).map (fun k =>
    let axis := k % 3
    let src := uAt c 28 1 / 4 ^ axis % 4
    let v := imuRaw c d (src + (if k < 3 then 0 else 3)) * (uAt c (if k < 3 then 20 else 24) 4 : Int)
    if bit (uAt c 29 1) axis then -v else v)

/-- The read transactions of one DRDY edge on the IMU bus (04 R149). -/
def imuTransactions (c : List Byte) (s : State) : State :=
  (List.range (uAt c 3 1)).foldl (fun st k => let r := st.pose.imuReads.getD k ([], 0); emit .imuSpi k 0 (r.1 ++ le 1 r.2) st) s

/-- A noise parameter of the IMU, LSB 10^-9 SI: 0 angle random walk, 1 velocity random walk, 2 bias instability (04 R151, R168). -/
def imuNoise (p : PoseSt) (k : Nat) : Nat := match p.imuCfg with | some c => uAt c (32 + 4 * k) 4 | none => 0

/-- The least heading deviation after a time of DR in us, LSB 2^-32 turn: sigma^2 + ARW^2 x T + (BI x T)^2 (04 R148, R158; log entry 66). -/
def drSigPsi (p : PoseSt) (us : Nat) : Nat :=
  let nrad := (imuNoise p 0) ^ 2 * us / 1000000 + (imuNoise p 2 * us / 1000000) ^ 2
  bigSqrt (p.drSig.2.2 ^ 2 + nrad * 467262 / 1000000)

/-- The least position deviation after a time of DR in us, 2^-8 mm: sigma^2 + VRW^2 x T^3 / 3 (04 R158; log entry 66). -/
def drSigPos (p : PoseSt) (sigma us : Nat) : Nat :=
  bigSqrt (sigma ^ 2 + (imuNoise p 1) ^ 2 * us ^ 3 / (3 * 10 ^ 18) * 65536 / 10 ^ 12)

/-- The state that the filter holds after a sample: heading taken from course keeps its deviation (04 R148), and in DR the covariances grow on the IMU noise model (04 R158). -/
def imuNav (old new : Nav) (t : Nat) (p : PoseSt) : Nav :=
  let v := if p.headingSrc == 3 then { new with sigPsi := old.sigPsi } else new
  let us := (t - p.lastEpoch.getD t) / us1
  if p.solution == 5 then
    { v with sigH := max (max old.sigH v.sigH) (drSigPos p p.drSig.1 us), sigU := max (max old.sigU v.sigU) (drSigPos p p.drSig.2.1 us)
             sigPsi := max (max old.sigPsi v.sigPsi) (drSigPsi p us) }
  else v

/-- One IMU sample: read, stamped at its DRDY capture less the group delay, tested, and given to the filter (04 R149 to R151). -/
def doImuSample (d : List Byte) (nav : Nav) (s : State) : State :=
  match s.pose.imuCfg with
  | none => s
  | some c =>
    let s1 := firmwareCapture 2 false (capTime 0 s) (imuTransactions c s)
    let t := ((capTime 0 s : Int) - ns1 * iAt c 8 4).toNat
    let sat := (List.range 6).any (fun k => fullScale c (imuRaw c d k))
    let nominal := decide (s1.time.cyc - s1.pose.imuCyc < 2 * imuPeriod c)
    let run := if nominal && s1.pose.imuAt.isSome then s1.pose.imuRun + 1 else 1
    let back := s1.pose.imuLost && decide (100 ≤ run)
    let s2 := { s1 with pose := { s1.pose with
      imuSample := imuBody c d, imuAt := some t, imuCyc := s1.time.cyc, imuRun := min run 100, imuSat := sat
      imuLost := s1.pose.imuLost && !back } }
    let s3 := match s1.pose.nav with
      | some v => if sat || s1.pose.imuLost then s2 else { s2 with pose := setNav (imuNav v nav (dtNow s1) s1.pose) (dtNow s1) s2.pose }
      | none => s2
    raiseIf back { code := 0x040D, sev := 2, src := 2, p0 := uAt c 4 2 } s3

/-- IMU_SAMPLE (04 R150). -/
def execImuSample (read : List Byte) (nav : Nav) (s : State) : Host.Outcome State Fault Refusal := done (doImuSample read nav s)

/-- No sample for 3 nominal periods (04 R150): the filter runs on without the IMU (R152). -/
def doImuLost (s : State) : State :=
  match s.pose.imuCfg with
  | none => s
  | some c =>
    if s.pose.imuLost then s
    else
      let s1 := runToCyc (s.pose.imuCyc + 3 * imuPeriod c) s
      raise { code := 0x040C, sev := 4, src := 2, p0 := (s1.time.cyc - s1.pose.imuCyc) / max 1 (imuPeriod c) }
        { s1 with pose := { s1.pose with imuLost := true, imuRun := 0, headingSrc := if s1.pose.headingSrc == 2 then 0 else s1.pose.headingSrc } }

/-- IMU_LOST (04 R150). -/
def execImuLost (s : State) : Host.Outcome State Fault Refusal := done (doImuLost s)

/-! ## Base role (04 R164 to R167) -/

/-- Distance between two ECEF points, LSB 0.1 mm. -/
def ecefDist (a b : Int × Int × Int) : Nat := vecLen (a.1 - b.1, a.2.1 - b.2.1, a.2.2 - b.2.2)

/-- SET passes to SUSPECT (04 R166). -/
def baseSuspect (cause dMm : Nat) (s : State) : State :=
  raise { code := 0x0410, sev := 5, src := 2, p0 := cause, p1 := dMm } { s with pose := { s.pose with baseSt := 3, monCount := 0, vecFrom := none } }

/-- Three times the standard deviation of the survey's mean, mm: 3 x 10^6 / sqrt(W) (04 R165). -/
def survey3Sigma (p : PoseSt) : Nat := if p.surveyW == 0 then all1 else 3000000 / max 1 (bigSqrt p.surveyW)

/-- The journal record of the base reference (16 R596). -/
def baseRefPayload (xyz : Int × Int × Int) (h st : Nat) : List Byte := leI 8 xyz.1 ++ leI 8 xyz.2.1 ++ leI 8 xyz.2.2 ++ le 2 h ++ le 2 st

/-- A survey is evaluated after a standalone solution (04 R165). -/
def surveyStep (s : State) : State :=
  let p := s.pose
  let secs := (s.time.cyc - p.surveyFrom) / 500000000
  if decide (p.surveyTime ≤ secs) && decide (survey3Sigma p < p.surveyAcc) then
    let w : Int := max 1 p.surveyW
    let m := (p.surveySum.1 / w, p.surveySum.2.1 / w, p.surveySum.2.2 / w)
    let s1 := journalLog { type := 1, key := settingKey 2 0, payload := baseRefPayload m 0 p.baseStation, prio := 5, schema := s.update.schema } s
    raise { code := 0x040E, sev := 2, src := 2, p0 := survey3Sigma p, p1 := secs }
      { s1 with pose := { s1.pose with baseSt := 2, baseXyz := m, baseHeight := 0, monCount := 0, vecFrom := none, stationAt := none } }
  else s

/-- A standalone solution at a base: position (ECEF, LSB 0.1 mm), standard deviation in mm, and the solved length of the vector
between the antennas in mm where it is solved (04 R165, R166). -/
def baseStandalone (xyz : Int × Int × Int) (sigma : Nat) (vec : Option Nat) (s : State) : State :=
  if roleOf s != 1 then s
  else
    let s0 := { s with pose := { s.pose with standalone := some xyz } }
    let p := s0.pose
    if p.baseSt == 1 then
      let w := 1000000000000 / max 1 (sigma * sigma)
      surveyStep { s0 with pose := { p with surveyW := p.surveyW + w, surveySum := (p.surveySum.1 + w * xyz.1, p.surveySum.2.1 + w * xyz.2.1, p.surveySum.2.2 + w * xyz.2.2) } }
    else if p.baseSt != 2 then s0
    else
      let d := ecefDist xyz p.baseXyz
      let n := if 10000 * p.refMonM < d then p.monCount + 1 else 0
      let dv := match p.install, vec with
        | some l, some len => if p.ant1 then ((len : Int) - vecLength l).natAbs else 0
        | _, _ => 0
      let from' := if p.headTol < dv then some (p.vecFrom.getD s.time.cyc) else none
      let s1 := { s0 with pose := { p with monCount := n, vecFrom := from' } }
      if decide (60 ≤ n) then baseSuspect 0 (d / 10) s1
      else match from' with
        | some c => if c + cycMs 10000 ≤ s.time.cyc then baseSuspect 1 dv s1 else s1
        | none => s1

/-- 24 h pass in SURVEYING (04 R165). -/
def doSurveyFailed (s : State) : State :=
  if s.pose.baseSt != 1 || roleOf s != 1 then s
  else
    let s1 := runToCyc (s.pose.surveyFrom + cycMs 86400000) s
    raise { code := 0x040F, sev := 4, src := 2, p0 := survey3Sigma s1.pose } { s1 with pose := { s1.pose with baseSt := 0 } }

/-- BASE_SURVEY_FAILED (04 R165). -/
def execBaseSurveyFailed (s : State) : Host.Outcome State Fault Refusal := done (doSurveyFailed s)

/-- Message 1006, or 1005 when the ARP height is zero (04 R167; the layout of RTCM 3 is PRESUMED, log entry 14). -/
def stationMessage (s : State) : List Byte :=
  let p := s.pose
  let no : Int := if p.baseHeight == 0 then 1005 else 1006
  packBits ([(12, no), (12, (p.baseStation : Int)), (6, 0), (1, (b1 (systemOn s 0) : Int)), (1, (b1 (systemOn s 1) : Int)), (1, (b1 (systemOn s 2) : Int)), (1, 0), (38, p.baseXyz.1),
    (1, 1), (1, 0), (38, p.baseXyz.2.1), (2, 0), (38, p.baseXyz.2.2)] ++ (if no == 1006 then [(16, (p.baseHeight : Int))] else []))

/-- RTCM frames emitted by a base: copied to the subscriber and flooded in the farm tree (04 R167, R168, 13 R473). -/
def emitRtcm (fs : List (List Byte)) (s : State) : State :=
  fs.foldl (fun st f =>
    let st1 := if st.pose.corrSub then sendS1 0x02 f st else st
    if st1.net.group == 0 then st1 else vxOriginate (vxUp st1) 9 false f st1) s

/-- The MSM7 messages of the enabled systems for the latest measurement epoch, in the order 1077, 1087, 1097, 1127 (04 R167). -/
def msm7Set (hdr : Nat) (align : List (Nat × Nat × Int)) (s : State) : List (List Byte) :=
  match s.gnss.obsAt with
  | none => []
  | some t => (([0, 2, 1, 3].filter (fun y => bit s.gnss.systems y)).map (fun y => msm7Of s s.pose.baseStation y t hdr align s.gnss.obs)).flatten

/-- A correction interval begins, every CORR_INTERVAL superframes, with the latest measurement epoch (04 R167, 11 R410). -/
def doCorrectionInterval (hdr : Nat) (s : State) : State :=
  if roleOf s != 1 || s.pose.baseSt != 2 then s
  else
    let next := sfFull s (dtNow s) + 1
    let k := match s.pose.corrSf with | some l => max next (l + s.pose.corrInterval) | none => next
    let s1 := runTo (k * sfLen s.fleet) s
    let align := alignAll s1.pose.msmAlign (s1.gnss.obs.filter (fun o => o.ant == 0))
    let fs := (msm7Set hdr align s1).map rtcmWrap
    let n := s1.pose.corrSet + 1
    let s2 := emitRtcm fs { s1 with pose := { s1.pose with corrSf := some k, corrSet := n, stationOut := [], msmAlign := align } }
    corrSetReady n (fs.flatten ++ s.pose.stationOut) s2

/-- CORRECTION_INTERVAL (04 R167). -/
def execCorrectionInterval (hdr : Nat) (s : State) : Host.Outcome State Fault Refusal := done (doCorrectionInterval hdr s)

/-- Every STATION_INTERVAL: the station message, and 1230 while GLONASS is enabled (04 R167); they join the next correction set. -/
def doStationInterval (biases : List Byte) (s : State) : State :=
  if roleOf s != 1 || s.pose.baseSt != 2 then s
  else
    let s1 := match s.pose.stationAt with | some t => runTo (t + sec1 * s.pose.stationInterval) s | none => s
    let glo := if systemOn s1 1 then [rtcmWrap (packBits [(12, (1230 : Int)), (12, (s1.pose.baseStation : Int))] ++ biases)] else []
    let fs := rtcmWrap (stationMessage s1) :: glo
    emitRtcm fs { s1 with pose := { s1.pose with stationAt := some (dtNow s1), stationOut := s1.pose.stationOut ++ fs.flatten } }

/-- STATION_INTERVAL (04 R167). -/
def execStationInterval (biases : List Byte) (s : State) : Host.Outcome State Fault Refusal := done (doStationInterval biases s)

/-! ## Commands (04 R168) -/

/-- The body of POSE_INSTALL_SET (04 R136, R147, R163). -/
def poseInstallSet (p : List Byte) (s : State) : Reply × State :=
  let l := (List.range 9).map (fun k => iAt p (4 * k) 4)
  let a1 := bit (uAt p 37 1) 0
  if decide (15 < uAt p 36 1) || decide (3 < uAt p 37 1) || (a1 && !vecAllowed l) then refuse stBadParam s
  else if anyCellOn s then refuse stBadState s
  else ok { s with pose := { s.pose with install := some l, rotations := uAt p 36 1, ant1 := a1, imuPresent := bit (uAt p 37 1) 1 } }

/-- POSE_INSTALL_SET. -/
def execPoseInstallSet (c : Cmd) (s : State) : Host.Outcome State Fault Refusal := done (command 0x0401 38 0 none poseInstallSet c s)

/-- A value lies in a range. -/
def within (lo hi v : Nat) : Bool := decide (lo ≤ v) && decide (v ≤ hi)

/-- The body of POSE_FILTER_CONFIG (04 R143, R144, R147). -/
def poseFilterConfig (p : List Byte) (s : State) : Reply × State :=
  if !(within 150 1000 (uAt p 0 2) && within 150 1000 (uAt p 2 2) && within 990000000 999999000 (uAt p 4 4) && within 4 32 (uAt p 8 1) &&
       within 1 20 (uAt p 9 1) && within 5 100 (uAt p 10 2) && within 1 60 (uAt p 12 2)) then refuse stBadParam s
  else ok { s with pose := { s.pose with
    ratioMin := uAt p 0 2, headRatioMin := uAt p 2 2, successMin := uAt p 4 4, fixMinAmb := uAt p 8 1, fixHold := uAt p 9 1
    headTol := uAt p 10 2, baselineKm := uAt p 12 2 } }

/-- POSE_FILTER_CONFIG. -/
def execPoseFilterConfig (c : Cmd) (s : State) : Host.Outcome State Fault Refusal := done (command 0x0402 14 0 none poseFilterConfig c s)

/-- The body of POSE_INTEGRITY_CONFIG (04 R156, R158, R160). -/
def poseIntegrityConfig (p : List Byte) (s : State) : Reply × State :=
  if !(within 10 5000 (uAt p 0 4) && within 596524 119304647 (uAt p 4 4) && decide (uAt p 8 4 ≤ 10000) && within 300 700 (uAt p 12 2) &&
       decide (uAt p 14 2 ≤ 1000) && within 100 5000 (uAt p 16 2) && decide (uAt p 18 2 ≤ 5000)) then refuse stBadParam s
  else ok { s with pose := { s.pose with
    plLimit := uAt p 0 4, headPlLimit := uAt p 4 4, drLimitMs := uAt p 8 4, kPl := uAt p 12 2, extrapRate := uAt p 14 2
    cogMin := uAt p 16 2, holdMs := uAt p 18 2 } }

/-- POSE_INTEGRITY_CONFIG. -/
def execPoseIntegrityConfig (c : Cmd) (s : State) : Host.Outcome State Fault Refusal := done (command 0x0403 20 0 none poseIntegrityConfig c s)

/-- The body of POSE_IMU_CONFIG (04 R149, R150, R169). -/
def poseImuConfig (p : List Byte) (s : State) : Reply × State :=
  if !((uAt p 0 1 == 0 || uAt p 0 1 == 3) && within 1 100 (uAt p 1 1) && decide (uAt p 2 1 ≤ 2) && within 1 4 (uAt p 3 1) && within 100 2000 (uAt p 4 2) &&
       zeros p 6 2 && decide (uAt p 18 1 ≤ 2) && decide (uAt p 19 1 ≤ 1) && decide (uAt p 28 1 < 64) && decide (uAt p 29 1 < 8) && zeros p 30 2 &&
       [0, 1, 2].all (fun k => decide (uAt p 28 1 / 4 ^ k % 4 < 3))) then refuse stBadParam s
  else if s.pose.install.isNone then refuse 0x0480 s
  else if !s.pose.imuPresent then refuse 0x0481 s
  else ok { s with pose := { s.pose with imuCfg := some (p.take 44), imuCyc := s.time.cyc, imuAt := none, imuRun := 0, imuLost := false } }

/-- POSE_IMU_CONFIG. -/
def execPoseImuConfig (c : Cmd) (s : State) : Host.Outcome State Fault Refusal := done (command 0x0404 44 0 none poseImuConfig c s)

/-- The body of POSE_IMU_READ_SET (04 R149). -/
def poseImuReadSet (p : List Byte) (s : State) : Reply × State :=
  if decide (3 < uAt p 0 1) || !within 1 4 (uAt p 1 1) || !within 1 32 (uAt p 6 1) then refuse stBadParam s
  else ok { s with pose := { s.pose with imuReads := lmod s.pose.imuReads (uAt p 0 1) (fun _ => ((p.drop 2).take (uAt p 1 1), uAt p 6 1)) } }

/-- POSE_IMU_READ_SET. -/
def execPoseImuReadSet (c : Cmd) (s : State) : Host.Outcome State Fault Refusal := done (command 0x0405 7 0 none poseImuReadSet c s)

/-- The body of POSE_CORR_CONFIG (04 R139, R140). -/
def poseCorrConfig (p : List Byte) (s : State) : Reply × State :=
  let st := uAt p 8 2
  if decide (2 < uAt p 0 1) || !zeros p 1 3 || !within 1000 60000 (uAt p 4 4) || (st != 0xFFFF && decide (4095 < st)) then refuse stBadParam s
  else
    let keep := s.pose.locked && (st == 0xFFFF || s.pose.station == some st)
    ok (tryLock st { s with pose := { s.pose with corrSource := uAt p 0 1, corrAgeMs := uAt p 4 4, corrStation := st, locked := keep } })

/-- POSE_CORR_CONFIG. -/
def execPoseCorrConfig (c : Cmd) (s : State) : Host.Outcome State Fault Refusal := done (command 0x0406 10 0 (some 0) poseCorrConfig c s)

/-- The result of POSE_STATUS (04 R168). -/
def poseStatusBytes (s : State) : List Byte :=
  let r := poseNow s
  let p := s.pose
  le 1 (r.flags / 2 * 2 + b1 p.integrity) ++ le 1 r.solution ++ le 1 r.headingSrc ++ le 1 (satN 255 r.sats) ++ le 4 r.hpl ++ le 4 r.headPl ++ le 4 r.age ++
    le 4 (corrAgeMs s) ++ le 4 p.lateEpochs ++ le 4 p.excluded ++ le 4 p.rtcmDiscarded ++ le 1 p.baseSt

/-- POSE_STATUS. -/
def execPoseStatus (c : Cmd) (s : State) : Host.Outcome State Fault Refusal :=
  done (command 0x0407 0 33 none (fun _ s => okWith (poseStatusBytes s) s) c s)

/-- The body of POSE_SUBSCRIBE (04 R153). -/
def poseSubscribe (p : List Byte) (s : State) : Reply × State :=
  if 100 < uAt p 0 1 then refuse stBadParam s else ok { s with pose := { s.pose with poseSub := uAt p 0 1, poseCount := 0 } }

/-- POSE_SUBSCRIBE. -/
def execPoseSubscribe (c : Cmd) (s : State) : Host.Outcome State Fault Refusal := done (command 0x0408 1 0 none poseSubscribe c s)

/-- The result of POSE_AT (04 R155, R156, R168). -/
def poseAtBytes (r : PoseRec) (t : Nat) (x y z : Int) (s : State) : List Byte :=
  let q := pointAt r t x y z
  let a := anglesAt r t
  let f := fun (v : Int) => if bit r.flags 1 then leI 4 0 else leI 4 (satI 32 (toMm v))
  f q.1 ++ f q.2.1 ++ f q.2.2 ++ leI 4 a.1 ++ leI 4 a.2.1 ++ leI 4 a.2.2 ++ le 4 (hplAt r s.pose.extrapRate t) ++ le 1 r.flags

/-- The body of POSE_AT. -/
def poseAtBody (p : List Byte) (s : State) : Reply × State :=
  if !dtOk p 0 then refuse stBadParam s
  else match s.pose.ref with
    | none => refuse stStale s
    | some r => if inHorizon r (dtAt p 0) then okWith (poseAtBytes r (dtAt p 0) (iAt p 12 4) (iAt p 16 4) (iAt p 20 4) s) s else refuse stStale s

/-- POSE_AT (04 R155). -/
def execPoseAt (c : Cmd) (s : State) : Host.Outcome State Fault Refusal := done (command 0x0409 24 29 (some 0) poseAtBody c s)

/-- The body of POSE_RESET (04 R163, R168). -/
def poseReset (p : List Byte) (s : State) : Reply × State :=
  if 1 < uAt p 0 1 then refuse stBadParam s
  else if anyCellOn s then refuse stBadState s
  else ok { s with pose := { s.pose with resetPending := some (max (uAt p 0 1) (s.pose.resetPending.getD 0)) } }

/-- POSE_RESET. -/
def execPoseReset (c : Cmd) (s : State) : Host.Outcome State Fault Refusal := done (command 0x040A 1 0 none poseReset c s)

/-- The body of POSE_PCV_LOAD (04 R136, R168). -/
def posePcvLoad (p : List Byte) (s : State) : Reply × State :=
  let m := uAt p 0 4
  let g := uAt p 4 1
  let rest := s.pose.pcv.filter (fun t => !(t.1 == m && t.2.1 == g))
  if decide (3 < g) || !zeros p 5 1 then refuse stBadParam s
  else if 4 ≤ rest.length then refuse stNoResource s
  else ok { s with pose := { s.pose with pcv := rest ++ [(m, g, (List.range 19).map (fun k => iAt p (6 + 2 * k) 2))] } }

/-- POSE_PCV_LOAD. -/
def execPosePcvLoad (c : Cmd) (s : State) : Host.Outcome State Fault Refusal := done (command 0x040B 44 0 none posePcvLoad c s)

/-- The body of BASE_REF_SET (04 R164, R168). -/
def baseRefSet (p : List Byte) (s : State) : Reply × State :=
  let xyz := (iAt p 0 8, iAt p 8 8, iAt p 16 8)
  let far := match s.pose.standalone with | some q => decide (10000 * s.pose.refMonM < ecefDist xyz q) | none => false
  if 4095 < uAt p 26 2 then refuse stBadParam s
  else if far then refuse 0x0482 s
  else match journalPut { type := 1, key := settingKey 2 0, payload := p.take 28, prio := 5, schema := s.update.schema } s with
    | (false, s1) => (.now stNoResource [], s1)
    | (true, s1) => ok { s1 with pose := { s1.pose with
        baseSt := 2, baseXyz := xyz, baseHeight := uAt p 24 2, baseStation := uAt p 26 2, monCount := 0, vecFrom := none, stationAt := none } }

/-- BASE_REF_SET. -/
def execBaseRefSet (c : Cmd) (s : State) : Host.Outcome State Fault Refusal := done (command 0x040C 28 0 (some 1) baseRefSet c s)

/-- The body of BASE_SURVEY_START (04 R165). -/
def baseSurveyStart (p : List Byte) (s : State) : Reply × State :=
  if !(within 60 86400 (uAt p 0 4) && within 100 10000 (uAt p 4 4) && decide (uAt p 8 2 ≤ 4095)) then refuse stBadParam s
  else accepted { s with pose := { s.pose with
    baseSt := 1, surveyTime := uAt p 0 4, surveyAcc := uAt p 4 4, baseStation := uAt p 8 2, surveyFrom := s.time.cyc, surveyW := 0, surveySum := (0, 0, 0) } }

/-- BASE_SURVEY_START. -/
def execBaseSurveyStart (c : Cmd) (s : State) : Host.Outcome State Fault Refusal := done (command 0x040D 10 0 (some 1) baseSurveyStart c s)

/-- The body of BASE_CORR_CONFIG (04 R166, R167). -/
def baseCorrConfig (p : List Byte) (s : State) : Reply × State :=
  if !(within 1 10 (uAt p 0 1) && within 1 60 (uAt p 1 1) && within 1 100 (uAt p 2 1)) then refuse stBadParam s
  else ok { s with pose := { s.pose with corrInterval := uAt p 0 1, stationInterval := uAt p 1 1, refMonM := uAt p 2 1 } }

/-- BASE_CORR_CONFIG. -/
def execBaseCorrConfig (c : Cmd) (s : State) : Host.Outcome State Fault Refusal := done (command 0x040E 3 0 (some 1) baseCorrConfig c s)

/-- The body of POSE_CORR_SUBSCRIBE. -/
def poseCorrSubscribe (p : List Byte) (s : State) : Reply × State :=
  if 1 < uAt p 0 1 then refuse stBadParam s else ok { s with pose := { s.pose with corrSub := uAt p 0 1 == 1 } }

/-- POSE_CORR_SUBSCRIBE (04 R168). -/
def execPoseCorrSubscribe (c : Cmd) (s : State) : Host.Outcome State Fault Refusal := done (command 0x040F 1 0 none poseCorrSubscribe c s)

/-- The body of POSE_NMEA_SUBSCRIBE. -/
def poseNmeaSubscribe (p : List Byte) (s : State) : Reply × State :=
  if decide (31 < uAt p 0 1) || !within 1 10 (uAt p 1 1) then refuse stBadParam s
  else ok { s with pose := { s.pose with nmeaMask := uAt p 0 1, nmeaRate := uAt p 1 1 } }

/-- POSE_NMEA_SUBSCRIBE (04 R168). -/
def execPoseNmeaSubscribe (c : Cmd) (s : State) : Host.Outcome State Fault Refusal := done (command 0x0410 2 0 none poseNmeaSubscribe c s)

end Sys2Proof.Machine
end

