-- ==== Sys2Proof/Machine/Corridor.lean ====
section
/-!
DEFINITION. Corridors (12 R433 to R451): conflicts, the base's batch, decision records, the rover's grants, and SAFE's own check.
-/
namespace Sys2Proof.Machine

/-! ## Geometry (12 R433, R435) -/

/-- A segment: both ends in the plane. -/
structure Seg2 where
  x0 : Int
  y0 : Int
  x1 : Int
  y1 : Int
  deriving DecidableEq, Repr

/-- 256 times the square of the distance of a point from a segment, rounded down (12 R435). -/
def distSq256 (px py : Int) (g : Seg2) : Nat :=
  let bx := g.x1 - g.x0
  let by' := g.y1 - g.y0
  let l2 := bx * bx + by' * by'
  let dot := (px - g.x0) * bx + (py - g.y0) * by'
  let sq := fun (x y : Int) => (256 * (x * x + y * y)).toNat
  if l2 == 0 || decide (dot ≤ 0) then sq (px - g.x0) (py - g.y0)
  else if l2 ≤ dot then sq (px - g.x1) (py - g.y1)
  else
    let cr := (px - g.x0) * by' - (py - g.y0) * bx
    (256 * cr * cr / l2).toNat

/-- The sign of the turn from one vector to another. -/
def turnSign (ax ay bx by' : Int) : Int := (ax * by' - ay * bx).sign

/-- A point on the line of a segment lies within its box. -/
def inBox (px py : Int) (g : Seg2) : Bool :=
  decide (min g.x0 g.x1 ≤ px) && decide (px ≤ max g.x0 g.x1) && decide (min g.y0 g.y1 ≤ py) && decide (py ≤ max g.y0 g.y1)

/-- Two segments intersect or touch (12 R435). -/
def segsMeet (a b : Seg2) : Bool :=
  let t := fun (g : Seg2) (px py : Int) => turnSign (g.x1 - g.x0) (g.y1 - g.y0) (px - g.x0) (py - g.y0)
  let a0 := t a b.x0 b.y0
  let a1 := t a b.x1 b.y1
  let b0 := t b a.x0 a.y0
  let b1 := t b a.x1 a.y1
  (a0 * a1 < 0 && b0 * b1 < 0) || (a0 == 0 && inBox b.x0 b.y0 a) || (a1 == 0 && inBox b.x1 b.y1 a) || (b0 == 0 && inBox a.x0 a.y0 b) ||
    (b1 == 0 && inBox a.x1 a.y1 b)

/-- The least distance of two segments in 1/16 mm, rounded down (12 R435). -/
def segDist16 (a b : Seg2) : Nat :=
  if segsMeet a b then 0
  else bigSqrt (min (min (distSq256 a.x0 a.y0 b) (distSq256 a.x1 a.y1 b)) (min (distSq256 b.x0 b.y0 a) (distSq256 b.x1 b.y1 a)))

/-- The segment of an entry. -/
def entrySeg (e : CorEntry) : Seg2 := { x0 := e.e0, y0 := e.n0, x1 := e.e1, y1 := e.n1 }

/-! ## Entries -/

/-- Geometry as the commands carry it: T_START, T_END, E0, N0, E1, N1, HALF_WIDTH in 26 bytes (12 R460). -/
def entryOf (st : CorSt) (p : List Byte) : CorEntry :=
  { st := st, t0 := uAt p 0 4, t1 := uAt p 4 4, e0 := iAt p 8 4, n0 := iAt p 12 4, e1 := iAt p 16 4, n1 := iAt p 20 4, hw := uAt p 24 2 }

/-- The fields lie within R433 and T_END comes after T_START. -/
def geoOk (e : CorEntry) : Bool :=
  [e.e0, e.n0, e.e1, e.n1].all (fun v => decide (v.natAbs ≤ 25000000)) && e.hw != 0 && (e.openEnd || decide (0 < diffN 32 e.t1 e.t0))

/-- The base's codes of STATE, then the rover's (12 R436). -/
def corCode : CorSt → Nat
  | .granted => 1
  | .block => 2
  | .hold => 3
  | .pending => 1
  | .grant => 2
  | .loc => 3

/-- The 32 bytes of an entry (12 R436); FREE is all zero. -/
def entryBytes (e : Option CorEntry) : List Byte :=
  match e with
  | none => List.replicate 32 0
  | some e => le 1 (corCode e.st) ++ le 1 e.owner ++ le 1 e.rank ++ le 1 (bitIf (e.st == .block) 0 + bitIf e.openEnd 1 + bitIf e.revoked 2) ++ le 4 e.t0 ++ le 4 e.t1 ++
      leI 4 e.e0 ++ leI 4 e.n0 ++ leI 4 e.e1 ++ leI 4 e.n1 ++ le 2 e.hw ++ le 2 e.req

/-- Two intervals, each widened by TIME_GUARD at both ends, overlap (12 R435). -/
def timesOverlap (guard : Nat) (a b : CorEntry) : Bool :=
  (a.openEnd || decide (diffN 32 b.t0 a.t1 < 2 * guard)) && (b.openEnd || decide (diffN 32 a.t0 b.t1 < 2 * guard))

/-- Two entries of different owners conflict (12 R435). -/
def conflicts (c : CorSvc) (a b : CorEntry) : Bool :=
  a.owner != b.owner && timesOverlap c.guard a b && decide (segDist16 (entrySeg a) (entrySeg b) < 16 * (a.hw + b.hw + c.separation))

/-- The table changed. -/
def setTable (t : List (Nat × CorEntry)) (s : State) : State := { s with cor := { s.cor with table := t } }

/-- An entry of the base moves to HOLD in the batch of a superframe (12 R444). -/
def toHold (ix sf : Nat) (revoked : Bool) (s : State) : State :=
  setTable (tmod s.cor.table ix (fun e => { e with st := .hold, revoked := e.revoked || revoked, since := sf })) s

/-- A decision record is published (12 R445). -/
def publish (entry addr decision req other sf : Nat) (s : State) : State :=
  { s with cor := { s.cor with recs := s.cor.recs ++ [{ entry := entry, addr := addr, decision := decision, req := req, other := other, sf := sf }] } }

/-- A GRANTED entry is revoked (12 R443). -/
def revokeEntry (ix sf : Nat) (s : State) : State :=
  match tget s.cor.table ix with
  | some e => if e.st == .granted then publish ix e.owner 6 e.req 0xFFFF sf (toHold ix sf true s) else s
  | none => s

/-! ## The batch (12 R440 to R444) -/

/-- Step 1, releases: a RELEASE with a matching REQ_ID moves its entry to HOLD; one that does not match is counted (12 R444). -/
def batchReleases (sf : Nat) (s : State) : State :=
  (s.cor.msgs.filter (fun m => !m.isReq)).foldl (fun st m =>
    match tget st.cor.table m.index with
    | some e => if e.st == .granted && e.owner == m.addr && e.req == m.req then toHold m.index sf false st
                else { st with cor := { st.cor with badReleases := st.cor.badReleases + 1 } }
    | none => { st with cor := { st.cor with badReleases := st.cor.badReleases + 1 } }) s

/-- Step 1, revocations of the host (12 R443). -/
def batchRevokes (sf : Nat) (s : State) : State :=
  (s.cor.hosts.filter (fun h => !h.isBlock)).foldl (fun st h =>
    match tget st.cor.table h.index with
    | some e =>
      if e.st == .granted then complete h.mbx h.slot 0x0B09 h.tag stOk [] (revokeEntry h.index sf st)
      else if e.st == .block then complete h.mbx h.slot 0x0B09 h.tag stOk [] (setTable (tdel st.cor.table h.index) st)
      else complete h.mbx h.slot 0x0B09 h.tag 0x0B82 [] st
    | none => complete h.mbx h.slot 0x0B09 h.tag 0x0B82 [] st) s

/-- Step 1, ends: entries of released addresses and past T_END go to HOLD; an entry in HOLD becomes FREE after 4 superframes (12 R444). -/
def batchEnds (sf : Nat) (s : State) : State :=
  let t := s.cor.table.filter (fun e => !(e.2.st == .hold && decide (4 ≤ diffN 32 sf e.2.since)))
  let drop := fun (e : CorEntry) =>
    (e.st == .granted && (s.cor.gone.contains e.owner || decide (diffN 32 e.t1 sf ≤ 0)))
  setTable (t.map (fun e => (e.1, if drop e.2 then { e.2 with st := .hold, since := sf } else e.2))) { s with cor := { s.cor with gone := [] } }

/-- A block at the batch (12 R443). -/
def batchBlock (sf : Nat) (h : CorHost) (s : State) : State :=
  let e := { entryOf .block h.geo with openEnd := h.openEnd }
  let hit := s.cor.table.filter (fun x => x.2.st == .granted && conflicts s.cor e x.2)
  let fin := fun (st : Nat) (r : List Byte) (s : State) => complete h.mbx h.slot 0x0B08 h.tag st r s
  if !hit.isEmpty && !h.force then fin 0x0B80 (le 2 (match hit with | x :: _ => x.1 | [] => 0)) s
  else match firstFree 4096 s.cor.table with
    | none => fin stTableFull [] s
    | some ix =>
      let s1 := hit.foldl (fun st x => revokeEntry x.1 sf st) s
      fin stOk (le 2 ix) (setTable (tset s1.cor.table ix e) s1)

/-- The place of a requester in the order of step 3 and 4: rank, then the rotating pointer over addresses (12 R441). -/
def requestKey (s : State) (m : CorMsg) : Nat :=
  ((tget s.cor.ranks m.addr).getD 128) * 64 + (m.addr + 63 + 64 - s.time.pointers.getD 8 0 % 64) % 64

/-- A request inserted after those that come before it or at its place. -/
def insertReq (s : State) (m : CorMsg) : List CorMsg → List CorMsg
  | [] => [m]
  | x :: r => if requestKey s m < requestKey s x then m :: x :: r else x :: insertReq s m r

/-- Requests in the order of steps 3 to 5 (12 R441). -/
def requestOrder (s : State) (ms : List CorMsg) : List CorMsg := ms.foldl (fun l m => insertReq s m l) []

/-- The decision on a request (12 R442): its code, the entry, OTHER, and the table after it. -/
def decide1 (sf : Nat) (m : CorMsg) (c : CorSvc) : Nat × Nat × Nat × List (Nat × CorEntry) :=
  let e := entryOf .granted m.geo
  let r : CorEntry := { e with owner := m.addr, rank := (tget c.ranks m.addr).getD 128, req := m.req
                               t0 := if 0 < diffN 32 (sf + 1) e.t0 then (sf + 1) % 2 ^ 32 else e.t0 }
  if !geoOk e || decide ((c.maxDuration : Int) < diffN 32 e.t1 e.t0) then (5, 0xFFFF, 0xFFFF, c.table)
  else if diffN 32 e.t1 (sf + 4) ≤ 0 then (4, 0xFFFF, 0xFFFF, c.table)
  else match c.table.find? (fun x => conflicts c r x.2) with
    | some x => (2, 0xFFFF, x.1, c.table)
    | none => match firstFree 4096 c.table with
      | none => (3, 0xFFFF, 0xFFFF, c.table)
      | some ix => (1, ix, 0xFFFF, tset c.table ix r)

/-- One request decided: the table and its record; nothing for a requester no longer joined. The counts are granted, refused, TABLE_FULL. -/
def batchRequest (sf : Nat) (acc : State × Nat × Nat × Nat) (m : CorMsg) : State × Nat × Nat × Nat :=
  let (s, g, r, f) := acc
  if (tget s.fleet.rovers m.addr).isNone then acc
  else
    let (d, ix, other, t) := decide1 sf m s.cor
    let s1 := publish ix m.addr d m.req other sf (setTable t s)
    if d == 1 then (s1, g + 1, r, f)
    else ({ s1 with cor := { s1.cor with refusals := (s1.cor.refusals + 1) % 2 ^ 32 } }, g, r + 1, f + b1 (d == 3))

/-- Decisions that no beacon has carried yet (12 R446). -/
def waitingRecs (s : State) : List CorRec := s.cor.recs.filter (fun r => r.carried == 0)

/-- CORRIDOR_BACKLOG while decisions wait beyond 20 superframes, once for each run (12 R446). -/
def backlogCheck (sf : Nat) (s : State) : State :=
  let w := waitingRecs s
  let old := w.any (fun r => decide (20 < diffN 32 sf r.sf))
  let first := match w with | r :: l => l.foldl (fun a x => if diffN 32 x.sf a < 0 then x.sf else a) r.sf | [] => 0
  raiseIf (old && !s.cor.backlogRun) { code := 0x0B08, sev := 3, src := 3, p0 := w.length, p1 := first } { s with cor := { s.cor with backlogRun := old } }

/-- The superframe of the next batch (12 R440): the present one until its batch has run. -/
def nextBatch (s : State) : Nat :=
  let k := dtNow s / sfLen s.fleet
  match s.cor.batchSf with
  | some l => if k % 2 ^ 32 == l then k + 1 else k
  | none => k

/-- The batch of a superframe (12 R440 to R444): at the first tide boundary at or after the end of slot 62. -/
def doCorridorBatch (s : State) : State :=
  if roleOf s != 1 || !s.cor.enabled || s.fleet.st != .beaconing then s
  else
    let k := nextBatch s
    let s0 := runTo (padTo (tideP s) (k * sfLen s.fleet + 63 * slotLen s.fleet)) s
    let sf := k % 2 ^ 32
    let s1 := batchEnds sf (batchRevokes sf (batchReleases sf s0))
    let s2 := (s1.cor.hosts.filter (·.isBlock)).foldl (fun st h => batchBlock sf h st) s1
    let (s3, g, r, f) := (requestOrder s2 (s2.cor.msgs.filter (·.isReq))).foldl (batchRequest sf) (s2, 0, 0, 0)
    let s4 := { s3 with cor := { s3.cor with msgs := [], hosts := [], batchSf := some sf, fullRun := f != 0 } }
    let s5 := raiseIf (f != 0 && !s.cor.fullRun) { code := 0x0B06, sev := 3, src := 3, p0 := f, p1 := sf } s4
    backlogCheck sf (raise { code := 0x0B07, sev := 0, src := 3, p0 := sf, p1 := g, p2 := r } s5)

/-- CORRIDOR_BATCH (12 R440). -/
def execCorridorBatch (s : State) : Host.Outcome State Fault Refusal := done (doCorridorBatch s)

/-! ## Decisions in the beacon (12 R445, R446) -/

/-- The order in which a beacon is filled: REVOKED, then those carried before, then new ones by batch, ENTRY and ADDRESS. -/
def recBefore (a b : CorRec) : Bool :=
  let cls := fun (r : CorRec) => if r.decision == 6 then 0 else if r.carried != 0 then 1 else 2
  if cls a != cls b then decide (cls a < cls b)
  else if cls a != 2 then false
  else if a.sf != b.sf then decide (diffN 32 a.sf b.sf < 0)
  else if a.entry != b.entry then decide (a.entry < b.entry)
  else decide (a.addr < b.addr)

/-- A record inserted in the order of a beacon. -/
def insertRec (r : CorRec) : List CorRec → List CorRec
  | [] => [r]
  | x :: l => if recBefore r x then r :: x :: l else x :: insertRec r l

/-- The 8 bytes of a record (12 R445). -/
def recBytes (r : CorRec) : List Byte := le 2 r.entry ++ le 1 r.addr ++ le 1 r.decision ++ le 2 r.req ++ le 2 r.other

/-- The corridor block of a beacon with `room` bytes, and the state with its records counted (12 R445, R446). -/
def corBlock (room sf : Nat) (s : State) : List Byte × State :=
  if room < 2 then ([], s)
  else
    let sorted := s.cor.recs.foldl (fun l r => insertRec r l) []
    let n := min 255 ((room - 2) / 8)
    let go := sorted.take n
    let wait := (sorted.drop n).any (fun r => r.carried == 0)
    let full := (firstFree 4096 s.cor.table).isNone
    let left := (go.map (fun r => { r with carried := r.carried + 1 })).filter (fun r => decide (r.carried < 3)) ++ sorted.drop n
    (le 1 go.length ++ le 1 (b1 wait + 2 * b1 full + 16 * s.cor.frameRev) ++ (go.map recBytes).flatten,
     backlogCheck sf { s with cor := { s.cor with recs := left } })

/-! ## Messages (12 R439) -/

/-- A REQ message complete at the base. -/
def doReq (a : Nat) (b : List Byte) (s : State) : State :=
  if roleOf s != 1 || !s.cor.enabled || b.length != 30 || uAt b 0 1 != 1 then s
  else { s with cor := { s.cor with msgs := s.cor.msgs ++ [{ addr := a, isReq := true, req := uAt b 1 2, geo := b.drop 4 }] } }

/-- REQ (12 R439). -/
def execReq (address : Nat) (body : List Byte) (s : State) : Host.Outcome State Fault Refusal := done (doReq address body s)

/-- A RELEASE message complete at the base. -/
def doRelease (a : Nat) (b : List Byte) (s : State) : State :=
  if roleOf s != 1 || !s.cor.enabled || b.length != 5 || uAt b 0 1 != 2 then s
  else { s with cor := { s.cor with msgs := s.cor.msgs ++ [{ addr := a, isReq := false, req := uAt b 3 2, index := uAt b 1 2 }] } }

/-- RELEASE (12 R439). -/
def execRelease (address : Nat) (body : List Byte) (s : State) : Host.Outcome State Fault Refusal := done (doRelease address body s)

/-- The body of a FRAME message (12 R439). -/
def frameBody (s : State) : List Byte :=
  le 1 3 ++ le 1 s.cor.frameRev ++ [0, 0] ++ leI 8 s.cor.lat ++ leI 8 s.cor.lon ++ leI 4 s.cor.height

/-- FRAME is sent to a rover (12 R438, R439). -/
def sendFrame (a : Nat) (s : State) : State := queueMsg a 1 true 0 (frameBody s) s

/-! ## The rover (12 R447, R448, R451) -/

/-- The rover belongs to a fleet: JOINED, or in FLEET_LOST, through which it keeps its table (12 R451). -/
def inFleet (s : State) : Bool := s.fleet.st == .joined || s.fleet.st == .lost

/-- The cause of a frame mismatch: 0 the open job's origin differs, 1 FRAME_REV differs from the beacon's (12 R448). -/
def frameMismatch (s : State) : Option Nat :=
  if s.fleet.st != .joined then none
  else if s.cor.frameRev != s.fleet.beaconRev then some 1
  else match jobOrigin s with
    | some (la, lo, h) => if la == s.cor.lat && lo == s.cor.lon && h == 256 * s.cor.height then none else some 0
    | none => none

/-- CORRIDOR_FRAME_MISMATCH once for each run (12 R448). -/
def mismatchCheck (s : State) : State :=
  match frameMismatch s with
  | none => { s with cor := { s.cor with mismatchRun := false } }
  | some c => raiseIf (!s.cor.mismatchRun) { code := 0x0B05, sev := 4, src := 3, p0 := s.cor.frameRev, p1 := s.fleet.beaconRev, p2 := c }
      { s with cor := { s.cor with mismatchRun := true } }

/-- A FRAME message complete at a rover (12 R439). -/
def doFrame (b : List Byte) (s : State) : State :=
  if roleOf s != 0 || !inFleet s || b.length != 24 || uAt b 0 1 != 3 then s
  else mismatchCheck { s with cor := { s.cor with frameRev := uAt b 1 1 % 16, lat := iAt b 4 8, lon := iAt b 12 8, height := iAt b 20 4, frameSeen := true } }

/-- FRAME (12 R439). -/
def execFrame (body : List Byte) (s : State) : Host.Outcome State Fault Refusal := done (doFrame body s)

/-- Entries past their T_END leave the rover's table (12 R447). -/
def corPurge (s : State) : State :=
  if roleOf s != 0 then s
  else
    let k := sfAt s (dtNow s)
    setTable (s.cor.table.filter (fun e => e.2.st == .pending || decide (0 < diffN 32 e.2.t1 k))) s

/-- The table without the entries whose T_END is past (12 R447). -/
def corLive (s : State) : List (Nat × CorEntry) := (corPurge s).cor.table

/-- The host's blocks and revocations that no batch can decide any more complete with ABORTED: the service is disabled, or the base stops (00 R19; log entry 72). -/
def corAbort (s : State) : State :=
  s.cor.hosts.foldl (fun st h => complete h.mbx h.slot (if h.isBlock then 0x0B08 else 0x0B09) h.tag stAborted [] st) { s with cor := { s.cor with hosts := [] } }

/-- Every base grant and PENDING entry is freed (12 R451). -/
def corDropGrants (s : State) : State := setTable (s.cor.table.filter (fun e => e.2.st == .loc)) s

/-- The base index that a rover's grant stores in OWNER and RANK (12 R436). -/
def baseIndex (e : CorEntry) : Nat := e.owner + 256 * e.rank

/-- CORRIDOR_DECISION (12 R462). -/
def decisionEvent (req status entry other : Nat) (s : State) : State :=
  raise { code := 0x0B01, sev := 1, src := 3, p0 := req, p1 := status, p2 := 65536 * entry + other } s

/-- RELEASE is sent for a base entry (12 R439). -/
def sendRelease (ix req : Nat) (s : State) : State := queueMsg 0 1 true 0 (le 1 2 ++ le 2 ix ++ le 2 req) s

/-- A rover applies one decision record addressed to it (12 R447). -/
def applyRec (b : List Byte) (s : State) : State :=
  let ix := uAt b 0 2
  let d := uAt b 3 1
  let req := uAt b 4 2
  let other := uAt b 6 2
  let k := s.fleet.beaconSf
  let recent := s.cor.applied.filter (fun x => decide (diffN 32 k x.2.2.2 < 16))
  if uAt b 2 1 != s.fleet.address then s
  else if recent.any (fun x => x.1 == ix && x.2.1 == d && x.2.2.1 == req) then s
  else
    let s1 := { s with cor := { s.cor with applied := (ix, d, req, k) :: recent } }
    if d == 6 then
      match s1.cor.table.find? (fun e => e.2.st == .grant && baseIndex e.2 == ix && e.2.req == req) with
      | none => s1
      | some (j, _) => raise { code := 0x0B02, sev := 3, src := 3, p0 := ix, p1 := req } (setTable (tdel s1.cor.table j) s1)
    else if d == 1 then
      match s1.cor.table.find? (fun e => e.2.st == .pending && e.2.req == req) with
      | some (j, _) => decisionEvent req stOk ix other
          (setTable (tmod s1.cor.table j (fun e => { e with st := .grant, owner := ix % 256, rank := ix / 256 })) s1)
      | none => if s1.cor.table.any (fun e => e.2.st == .grant && e.2.req == req) then s1 else sendRelease ix req s1
    else
      match s1.cor.table.find? (fun e => e.2.st == .pending && e.2.req == req) with
      | none => s1
      | some (j, _) =>
        let st := if d == 2 then 0x0B80 else if d == 3 then stTableFull else if d == 4 then stStale else stBadParam
        decisionEvent req st ix other (setTable (tdel s1.cor.table j) s1)

/-- The corridor block of a received beacon (12 R445, R447). -/
def applyBlock (b : List Byte) (s : State) : State :=
  (List.range (min (uAt b 0 1) ((b.length - 2) / 8))).foldl (fun st i => applyRec ((b.drop (2 + 8 * i)).take 8) st) s

/-- A PENDING entry without a decision within REQ_TIMEOUT superframes is freed (12 R447). -/
def doReqTimeout (ix : Nat) (s : State) : State :=
  match tget s.cor.table ix with
  | none => s
  | some e =>
    if e.st != .pending || roleOf s != 0 then s
    else
      let k := dtNow s / sfLen s.fleet
      let gone := (diffN 32 k e.since).toNat
      let s1 := runTo ((k + (s.cor.reqTimeout - gone)) * sfLen s.fleet) s
      decisionEvent e.req stTimeout 0xFFFF 0xFFFF (setTable (tdel s1.cor.table ix) s1)

/-- REQ_TIMEOUT (12 R447). -/
def execReqTimeout (index : Nat) (s : State) : Host.Outcome State Fault Refusal := done (doReqTimeout index s)

/-! ## The present grant and SAFE's check (12 R434, R448 to R450) -/

/-- The entries of the present set: GRANTED while joined, else LOCAL (12 R448). -/
def grantSet (s : State) : List (Nat × CorEntry) :=
  s.cor.table.filter (fun e => if inFleet s then e.2.st == .grant else e.2.st == .loc)

/-- An entry is active at a Device Time (12 R434). -/
def activeAt (s : State) (t : Nat) (e : CorEntry) : Bool :=
  let k := sfAt s t
  decide (0 ≤ diffN 32 k e.t0) && (e.openEnd || decide (diffN 32 k e.t1 < 0))

/-- Distance of a point (2^-8 mm) from an entry's segment, 2^-8 mm, rounded down. -/
def entryDist8 (x y : Int) (e : CorEntry) : Nat :=
  bigSqrt (distSq256 x y { x0 := 256 * e.e0, y0 := 256 * e.n0, x1 := 256 * e.e1, y1 := 256 * e.n1 } / 256)

/-- A point in mm lies within an active entry of the present set at an instant; false throughout in a frame mismatch (12 R433, R448). -/
def inGrant (s : State) (t : Nat) (x8 y8 : Int) : Bool :=
  (frameMismatch s).isNone && (grantSet s).any (fun e => activeAt s t e.2 && decide (entryDist8 x8 y8 e.2 ≤ 256 * e.2.hw))

/-- Step 4 of the decision order applies (05 R190). -/
def corridorApplies (s : State) : Bool := inFleet s || corridorCheckOn s

/-- The vehicle reference point at an instant in the frame of the present set, 2^-8 mm (12 R449). -/
def vrpPlane (s : State) (r : PoseRec) (t : Nat) : Int × Int :=
  if inFleet s && (jobOrigin s).isNone then
    let g := geoAt s t
    let f := fieldPoint g.1 g.2.1 g.2.2 s.cor.lat s.cor.lon (256 * s.cor.height)
    (f.1, f.2.1)
  else let p := vrpAt r t; (p.1, p.2.1)

/-- HALF_WIDTH less distance, R_IMPL and HPL, in 2^-8 mm (12 R449). -/
def corMargin (s : State) (x y : Int) (hpl : Nat) (e : CorEntry) : Int := 256 * ((e.hw : Int) - s.cor.rImpl - hpl) - entryDist8 x y e

/-- The best margin of a set of entries and its entry. -/
def bestMargin (s : State) (x y : Int) (hpl : Nat) (es : List (Nat × CorEntry)) : Option (Int × Nat) :=
  es.foldl (fun best e => let m := corMargin s x y hpl e.2
    match best with
    | none => some (m, e.1)
    | some b => if b.1 < m then some (m, e.1) else best) none

/-- SAFE's check at one instant (12 R449): it passes, or the cause with the margin in 2^-8 mm and the nearest entry. -/
def checkAt (s : State) (r : PoseRec) (t : Nat) : Option (Nat × Int × Nat) :=
  let p := vrpPlane s r t
  let h := hplAt r s.pose.extrapRate t
  if (frameMismatch s).isSome then some (3, 0, 0xFFFF)
  else match bestMargin s p.1 p.2 h ((grantSet s).filter (fun e => activeAt s t e.2)) with
    | some (m, ix) => if 0 ≤ m then none
        else match bestMargin s p.1 p.2 h (grantSet s) with
          | some (m2, ix2) => if 0 ≤ m2 then some (1, m2, ix2) else some (0, m, ix)
          | none => some (0, m, ix)
    | none => match bestMargin s p.1 p.2 h (grantSet s) with
      | some (m2, ix2) => some (if 0 ≤ m2 then 1 else 0, m2, ix2)
      | none => some (2, 0, 0xFFFF)

/-- One entry holds the reference point, moving at its present velocity, `ms` milliseconds after T_REF (12 R450). -/
def holdsAt (s : State) (r : PoseRec) (ms : Nat) (e : CorEntry) : Bool :=
  let t := r.tRef + ms1 * ms
  let p := vrpPlane s { r with ae := 0, an := 0, au := 0 } t
  activeAt s t e && decide (0 ≤ corMargin s p.1 p.2 (hplAt r s.pose.extrapRate t) e)

/-- The last millisecond up to `hi` at which an entry that holds at `lo` still holds: its times of holding form one interval. -/
def holdsUntil (s : State) (r : PoseRec) (e : CorEntry) : Nat → Nat → Nat → Nat
  | 0, lo, _ => lo
  | n + 1, lo, hi => if hi ≤ lo then lo else
      let mid := (lo + hi + 1) / 2
      if holdsAt s r mid e then holdsUntil s r e n mid hi else holdsUntil s r e n lo (mid - 1)

/-- The first millisecond within WARN_TIME at which no entry holds the point, with the entry that held it last. -/
def failTime (s : State) (r : PoseRec) : Nat → Nat → Nat → Option (Nat × Nat)
  | 0, _, _ => none
  | n + 1, cur, lastIx =>
    let es := (grantSet s).filter (fun e => holdsAt s r cur e.2)
    match es.foldl (fun (best : Option (Nat × Nat)) e =>
        let u := holdsUntil s r e.2 17 cur s.cor.warnMs
        match best with
        | none => some (u, e.1)
        | some b => if b.1 < u then some (u, e.1) else best) none with
    | none => some (cur, lastIx)
    | some (u, ix) => if s.cor.warnMs ≤ u then none else failTime s r n (u + 1) ix

/-- CORRIDOR_END_WARN once for each run (12 R450). -/
def warnCheck (s : State) (r : PoseRec) : State :=
  match failTime s r 70 0 0xFFFF with
  | none => { s with cor := { s.cor with warnRun := false } }
  | some (ms, ix) =>
    let cause := match tget s.cor.table ix with
      | some e => if activeAt s (r.tRef + ms1 * ms) e then 0 else 1
      | none => 0
    raiseIf (!s.cor.warnRun) { code := 0x0B04, sev := 2, src := 4, p0 := ms, p1 := cause, p2 := ix } { s with cor := { s.cor with warnRun := true } }

/-- SAFE's check at a commit deadline, with its effects; `t1` and `t2` are B(n + 1) and B(n + 2). Every check that fails stops every axis, also one that has
begun to move since the last (01 R43, 12 R449). -/
def safeCheck (t1 t2 : Nat) (s0 : State) : State :=
  let s := mismatchCheck (corPurge s0)
  if roleOf s != 0 || !corridorApplies s || (!inFleet s && !jobOpen s) then { s with cor := { s.cor with checkOk := true, exitRun := false, warnRun := false } }
  else match s.pose.ref with
    | none => haltAxes 2 (raiseIf (!s.cor.exitRun) { code := 0x0B03, sev := 4, src := 4, p0 := 2, p1 := 0, p2 := 0xFFFF }
        { s with cor := { s.cor with checkOk := false, exitRun := true } })
    | some r =>
      match (checkAt s r t1).or (checkAt s r t2) with
      | none => warnCheck { s with cor := { s.cor with checkOk := true, exitRun := false } } r
      | some (c, m, ix) =>
        let s1 := { s with cor := { s.cor with checkOk := false, exitRun := true } }
        let s2 := raiseIf (!s.cor.exitRun) { code := 0x0B03, sev := 4, src := 4, p0 := c, p1 := w32 (m / 256), p2 := ix } s1
        haltAxes 2 s2

/-! ## Commands (12 R460) -/

/-- The body of CORRIDOR_REQUEST (12 R447). -/
def corridorRequest (p : List Byte) (s0 : State) : Reply × State :=
  let s := corPurge s0
  let e := entryOf .pending p
  if !geoOk e || decide (e.hw ≤ s.cor.rImpl) then refuse stBadParam s
  else if s.fleet.st != .joined then refuse stBadState s
  else if !s.cor.frameSeen then refuse 0x0B81 s
  else match firstFree 64 s.cor.table with
    | none => refuse stTableFull s
    | some ix =>
      let id := (s.cor.reqId + 1) % 65536
      let s1 := { s with cor := { s.cor with
        reqId := id, table := tset s.cor.table ix { e with owner := 0xFF, rank := 0xFF, req := id, since := sfNow s } } }
      (.now stAccepted (le 2 id), queueMsg 0 1 true 0 (le 1 1 ++ le 2 id ++ [0] ++ p.take 26) s1)

/-- CORRIDOR_REQUEST. -/
def execCorridorRequest (c : Cmd) (s : State) : Host.Outcome State Fault Refusal := done (command 0x0B01 26 2 (some 0) corridorRequest c s)

/-- The body of CORRIDOR_RELEASE (12 R460). -/
def corridorRelease (p : List Byte) (s : State) : Reply × State :=
  let ix := uAt p 0 2
  match tget (corLive s) ix with
  | none => refuse 0x0B82 s
  | some e =>
    let s1 := setTable (tdel s.cor.table ix) s
    ok (if e.st == .grant then sendRelease (baseIndex e) e.req s1 else s1)

/-- CORRIDOR_RELEASE. -/
def execCorridorRelease (c : Cmd) (s : State) : Host.Outcome State Fault Refusal := done (command 0x0B02 2 0 (some 0) corridorRelease c s)

/-- The body of CORRIDOR_LOCAL_SET (12 R447). -/
def corridorLocalSet (p : List Byte) (s0 : State) : Reply × State :=
  let s := corPurge s0
  let e := entryOf .loc p
  if !geoOk e then refuse stBadParam s
  else if inFleet s then refuse stBadState s
  else match firstFree 64 s.cor.table with
    | none => refuse stTableFull s
    | some ix => okWith (le 2 ix) (setTable (tset s.cor.table ix { e with owner := 0xFF, rank := 0xFF }) s)

/-- CORRIDOR_LOCAL_SET. -/
def execCorridorLocalSet (c : Cmd) (s : State) : Host.Outcome State Fault Refusal := done (command 0x0B03 26 2 (some 0) corridorLocalSet c s)

/-- The body of CORRIDOR_CONFIG (12 R460). -/
def corridorConfig (p : List Byte) (s : State) : Reply × State :=
  if uAt p 4 1 < 4 then refuse stBadParam s
  else ok { s with cor := { s.cor with rImpl := uAt p 0 2, warnMs := uAt p 2 2, reqTimeout := uAt p 4 1 } }

/-- CORRIDOR_CONFIG. -/
def execCorridorConfig (c : Cmd) (s : State) : Host.Outcome State Fault Refusal := done (command 0x0B04 5 0 (some 0) corridorConfig c s)

/-- The body of CORRIDOR_READ (12 R436, R460). -/
def corridorRead (p : List Byte) (s : State) : Reply × State :=
  let ix := uAt p 0 2
  if (if roleOf s == 1 then 4096 else 64) ≤ ix then refuse stBadParam s else okWith (entryBytes (tget (corLive s) ix)) s

/-- CORRIDOR_READ. -/
def execCorridorRead (c : Cmd) (s : State) : Host.Outcome State Fault Refusal := done (command 0x0B05 2 32 none corridorRead c s)

/-- The body of CORRIDOR_SERVICE_CONFIG (12 R438, R460). -/
def corridorServiceConfig (p : List Byte) (s : State) : Reply × State :=
  let la := iAt p 4 8
  let lo := iAt p 12 8
  let h := iAt p 20 4
  let moved := la != s.cor.lat || lo != s.cor.lon || h != s.cor.height
  if decide (1 < uAt p 0 1) || !zeros p 1 3 || !zeros p 27 1 || !within 1 1000000 (uAt p 28 4) || decide (90000000000000 < la.natAbs) ||
     decide (180000000000000 < lo.natAbs) then refuse stBadParam s
  else if uAt p 0 1 == 1 && decide (fullPayload s.fleet < 42) then refuse 0x0B83 s
  else if moved && s.cor.table.any (fun e => e.2.st == .granted) then refuse stBadState s
  else
    let s1 := { s with cor := { s.cor with
      enabled := uAt p 0 1 == 1, lat := la, lon := lo, height := h, separation := uAt p 24 2, guard := uAt p 26 1, maxDuration := uAt p 28 4
      frameRev := if moved then (s.cor.frameRev + 1) % 16 else s.cor.frameRev } }
    let s2 := if s1.cor.enabled then s1 else corAbort s1
    -- a rover that joined before the service was enabled has had no FRAME (12 R439)
    ok (if moved || (s1.cor.enabled && !s.cor.enabled) then s2.fleet.rovers.foldl (fun st r => sendFrame r.1 st) s2 else s2)

/-- CORRIDOR_SERVICE_CONFIG. -/
def execCorridorServiceConfig (c : Cmd) (s : State) : Host.Outcome State Fault Refusal := done (command 0x0B06 32 0 (some 1) corridorServiceConfig c s)

/-- The body of CORRIDOR_RANK_SET (12 R441). -/
def corridorRankSet (p : List Byte) (s : State) : Reply × State :=
  if !within 1 64 (uAt p 0 1) || uAt p 1 1 == 0 then refuse stBadParam s
  else ok { s with cor := { s.cor with ranks := tset s.cor.ranks (uAt p 0 1) (uAt p 1 1) } }

/-- CORRIDOR_RANK_SET. -/
def execCorridorRankSet (c : Cmd) (s : State) : Host.Outcome State Fault Refusal := done (command 0x0B07 2 0 (some 1) corridorRankSet c s)

/-- The batch runs: a block or a revocation is decided by it (12 R440, R443). -/
def batchRuns (s : State) : Bool := s.cor.enabled && s.fleet.st == .beaconing

/-- The body of CORRIDOR_BLOCK (12 R443). -/
def corridorBlock (c : Cmd) (p : List Byte) (s : State) : Reply × State :=
  let fl := uAt p 26 1
  let e := { entryOf .block p with openEnd := bit fl 1 }
  if decide (3 < fl) || !geoOk e then refuse stBadParam s
  else if !batchRuns s then refuse stBadState s
  else (.later, { s with cor := { s.cor with hosts := s.cor.hosts ++
    [{ isBlock := true, geo := p.take 26, force := bit fl 0, openEnd := bit fl 1, mbx := c.mbx, slot := c.slot, tag := c.tag.toNat }] } })

/-- CORRIDOR_BLOCK. -/
def execCorridorBlock (c : Cmd) (s : State) : Host.Outcome State Fault Refusal := done (commandC 0x0B08 27 2 (some 1) corridorBlock c s)

/-- The body of CORRIDOR_REVOKE (12 R443). -/
def corridorRevoke (c : Cmd) (p : List Byte) (s : State) : Reply × State :=
  let ix := uAt p 0 2
  let held := match tget s.cor.table ix with | some e => e.st == .granted || e.st == .block | none => false
  if !held then refuse 0x0B82 s
  else if !batchRuns s then refuse stBadState s
  else (.later, { s with cor := { s.cor with hosts := s.cor.hosts ++ [{ isBlock := false, index := ix, mbx := c.mbx, slot := c.slot, tag := c.tag.toNat }] } })

/-- CORRIDOR_REVOKE. -/
def execCorridorRevoke (c : Cmd) (s : State) : Host.Outcome State Fault Refusal := done (commandC 0x0B09 2 0 (some 1) corridorRevoke c s)

/-- The result of CORRIDOR_STATUS (12 R460). -/
def corridorStatusBytes (s : State) : List Byte :=
  le 2 (corLive s).length ++ le 2 (s.cor.table.filter (fun e => e.2.st == .hold)).length ++ le 2 (waitingRecs s).length ++ le 1 s.cor.frameRev ++
    le 1 (b1 s.cor.checkOk + 2 * b1 (frameMismatch s).isSome) ++ le 4 s.cor.refusals

/-- CORRIDOR_STATUS. -/
def execCorridorStatus (c : Cmd) (s : State) : Host.Outcome State Fault Refusal :=
  done (command 0x0B0A 0 12 none (fun _ s => okWith (corridorStatusBytes s) s) c s)

end Sys2Proof.Machine
end

