-- ==== Sys2Proof/Machine/KnaniOps.lean ====
section
/-!
DEFINITION. What the cell engine and the loops share: the edge unit, slots and frame times (07 R262, R265), channels that exist, and
MANAGE transactions put in line (07 R277).
-/
namespace Sys2Proof.Machine

/-- Edge unit U, 2^-16 ns (02 R78). -/
def edgeU (s : State) : Nat := max us1 (tideP s / 1000)
/-- Edge units in a tide. -/
def edgesPerTide (s : State) : Nat := tideP s / edgeU s

/-- Command words of a node's slot (07 R262). -/
def slotWords (n : NodeView) : Nat := max 3 n.channels
/-- Bits of a node's slot (07 R262). -/
def slotBits (n : NodeView) : Nat := 8 + 24 * slotWords n
/-- Bit budget of a loop for a period (07 R265). -/
def bitBudget (p : Nat) : Nat := 200 * min 64 (4 * p / (125 * us1))

/-- Slots given in position order while the sum stays within the budget; a node without a sound record gets none (07 R265, R282). -/
def giveSlots (budget : Nat) : List NodeView → List NodeView
  | [] => []
  | n :: r =>
    if !n.sound then { n with slotted := false } :: giveSlots budget r
    else if slotBits n ≤ budget then { n with slotted := true } :: giveSlots (budget - slotBits n) r
    else (n :: r).map (fun x => { x with slotted := false })

/-- Slots given anew for another bit budget: a node that has a slot keeps it while the sum stays within the budget, and a node that gains one takes its
channels from the `room` that the device's 4,096 channels leave (07 R265). Answers the nodes and the room left. -/
def reslot : Nat → Nat → List NodeView → List NodeView × Nat
  | _, room, [] => ([], room)
  | budget, room, n :: r =>
    if !n.sound then let x := reslot budget room r; ({ n with slotted := false } :: x.1, x.2)
    else if slotBits n ≤ budget && (n.slotted || decide (n.channels ≤ room)) then
      let x := reslot (budget - slotBits n) (if n.slotted then room else room - n.channels) r
      ({ n with slotted := true } :: x.1, x.2)
    else ((n :: r).map (fun x => { x with slotted := false }), room)

/-- Slotted nodes of a loop. -/
def slottedNodes (l : Loop) : List NodeView := l.nodes.filter (·.slotted)
/-- Frame time of a loop in ns (07 R262). -/
def frameNs (l : Loop) : Nat := 2000 + 100 * ((slottedNodes l).map slotBits).sum + 400
/-- Channels in the slots of a loop. -/
def loopChannels (l : Loop) : Nat := ((slottedNodes l).map (·.channels)).sum
/-- SLOT_OFFSET of a position: the bits of the slots before it, which are those of higher positions (07 R262). -/
def slotOffset (l : Loop) (pos : Nat) : Nat := (((l.nodes.drop (pos + 1)).filter (·.slotted)).map slotBits).sum

/-- A loop carries slots: RUN, BROKEN, or held for a restore. -/
def loopServes (l : Loop) : Bool := l.st == 2 || l.st == 3 || l.restoring
/-- Channels that the loops but one drive (07 R265). -/
def otherChannels (s : State) (n : Nat) : Nat := ((s.knani.loops.eraseIdx n).filter loopServes |>.map loopChannels).sum
/-- The most channels that a loop can carry in a period (07 R265). -/
def mostChannels (p : Nat) : Nat := 8 * min 64 (4 * p / (125 * us1))
/-- The node of a channel. -/
def nodeOf (s : State) (c : Nat) : Option NodeView := (loopOf s (chLoop c)).nodes[chPos c]?
/-- The device's record of a channel. -/
def viewOf (s : State) (c : Nat) : Option ChanView := (nodeOf s c).bind (fun n => if chNo c < n.channels then n.chans[chNo c]? else none)
/-- A channel is in its loop's enumeration and within the loop's capacity (05 R178, 07 R265). -/
def chanExists (s : State) (c : Nat) : Bool :=
  loopServes (loopOf s (chLoop c)) && (match nodeOf s c with | some n => n.slotted && decide (chNo c < n.channels) | none => false)
/-- A strobe channel (08 R294). -/
def chanStrobe (s : State) (c : Nat) : Bool := match nodeOf s c with | some n => bit n.strobe (chNo c) | none => false

/-- A loop changed. -/
def setLoop (n : Nat) (f : Loop → Loop) (s : State) : State := { s with knani := { s.knani with loops := lmod s.knani.loops n f } }
/-- The device's record of a node changed. -/
def setView (n pos : Nat) (f : NodeView → NodeView) (s : State) : State := setLoop n (fun l => { l with nodes := lmod l.nodes pos f }) s
/-- The device's record of a channel changed. -/
def setChanView (c : Nat) (f : ChanView → ChanView) (s : State) : State :=
  setView (chLoop c) (chPos c) (fun n => { n with chans := lmod n.chans (chNo c) f }) s
/-- A physical node changed. -/
def setPhys (n pos : Nat) (f : NodeDev → NodeDev) (s : State) : State := setLoop n (fun l => { l with phys := lmod l.phys pos f }) s
/-- A physical channel changed. -/
def setPChan (n pos k : Nat) (f : NChan → NChan) (s : State) : State := setPhys n pos (fun d => { d with chans := lmod d.chans k f }) s

/-! ## MANAGE frames (07 R277) -/

/-- Time of a MANAGE frame, 2^-16 ns (07 R277). -/
def manageTime (len : Nat) : Nat := ns1 * (2000 + 800 * (12 + len))
/-- The bytes of a MANAGE frame as the device sends it: TYPE to HDR_CRC, DATA with its DATA_CRC or zeros for the target to overwrite, RESULT (07 R277). -/
def manageBytes (m : Manage) : List Byte :=
  let h := le 1 m.pos ++ le 1 m.mem ++ le 1 m.op ++ le 1 m.len ++ le 2 m.addr
  [0x82] ++ h ++ le 2 (crc16 h) ++ (if m.op == 3 || m.op == 4 then m.data ++ le 2 (crc16 m.data) else List.replicate (m.len + 2) 0) ++ [0]
/-- The most bytes that one MANAGE frame carries in the gap after a COMMIT of a loop, which it must leave 4 us before the next command frame begins (07 R277). -/
def manageRoom (s : State) (n : Nat) : Nat :=
  let gap := tideP s - ns1 * (frameNs (loopOf s n) + 4000 + 2000)
  max 1 (min 128 (gap / (800 * ns1) - 12))
/-- When the frame of a loop's first waiting transfer starts: now, where it ends in time before the next command frame, else after the next COMMIT (07 R277). -/
def manageStart (s : State) (n len : Nat) : Nat :=
  let b := nextBoundary s
  if dtNow s + manageTime len + 4 * us1 + ns1 * frameNs (loopOf s n) ≤ b then dtNow s else b
/-- The frame of a loop's first waiting transfer is sent (07 R277). -/
def sendManage (n : Nat) (s : State) : State :=
  match (loopOf s n).manage with
  | [] => s
  | m :: _ => emit .knani n (manageStart s n m.len) (manageBytes m) s
/-- A MANAGE transaction put in line on a loop; the first in line is sent (07 R277). -/
def pushManage (n : Nat) (m : Manage) (s : State) : State :=
  let s1 := setLoop n (fun l => { l with manage := l.manage ++ [m] }) s
  if (loopOf s n).manage.isEmpty then sendManage n s1 else s1

/-- Address of a channel's configuration in MEM 0 (08 R299). -/
def chanBase (k : Nat) : Nat := 0x20 + 0x30 * k
/-- Bytes of a node's configuration as written. -/
def cfgBytes (d : NodeDev) (addr n : Nat) : List Byte := (List.range n).map (fun k => d.cfg.getD (addr + k) 0)
/-- A field of a channel's configuration. -/
def chanCfg (d : NodeDev) (k off n : Nat) : Nat := natOf (cfgBytes d (chanBase k + off) n)
/-- PWM_PERIOD of a channel in us as configured, none where there is no such node (08 R297, R299). -/
def pwmPeriod (s : State) (c : Nat) : Option Nat :=
  ((loopOf s (chLoop c)).phys[chPos c]?).map (fun d => chanCfg d (chNo c) 0 4)

/-- FADE_ON and FADE_OFF of a cell are programmed on its channel (08 R301). -/
def programFade (c fadeOn fadeOff : Nat) (s : State) : State :=
  if !chanExists s c || !chanStrobe s c then s
  else pushManage (chLoop c) { pos := chPos c, mem := 0, op := 4, addr := chanBase (chNo c) + 4, len := 4, data := le 2 fadeOn ++ le 2 fadeOff } s

end Sys2Proof.Machine
end

