-- ==== Sys2Proof/Machine/Sweep.lean ====
section
/-!
DEFINITION. Where a cell acts (file 05): its effect window, the swept segment and its grid cells, and the planes that the tasks of a tide read.
-/
namespace Sys2Proof.Machine

/-! ## The grid of the job (06 R228) -/

/-- Grid size in mm of a grid code (06 R228). -/
def gridMm (code : Nat) : Nat := [10, 25, 50, 100, 200].getD code 25
/-- Grid size of the present job, mm. -/
def gridOf (s : State) : Nat := gridMm ((s.raster.jdef.map (·.grid)).getD 1)

/-! ## Swept segments (05 R181, R184 to R186) -/

/-- A swept segment: its ends (2^-8 mm), body x at its midpoint (fixed point), half extents of the footprint (2^-8 mm). -/
structure Sweep where
  x0 : Int
  y0 : Int
  x1 : Int
  y1 : Int
  hx : Int
  hy : Int
  a : Int
  b : Int
  deriving DecidableEq, Repr

/-- The segment of a cell between two instants (05 R181, R184). -/
def sweepOf (r : PoseRec) (c : Cell) (t0 t1 : Nat) : Sweep :=
  let p := pointAt r t0 c.lx c.ly c.lz
  let q := pointAt r t1 c.lx c.ly c.lz
  let h := (anglesAt r ((t0 + t1) / 2)).1
  { x0 := p.1, y0 := p.2.1, x1 := q.1, y1 := q.2.1, hx := sinTurn h, hy := cosTurn h, a := 128 * c.length, b := 128 * c.width }

/-- East and north of C1 - C0. -/
def Sweep.dx (w : Sweep) : Int := w.x1 - w.x0
/-- North of C1 - C0. -/
def Sweep.dy (w : Sweep) : Int := w.y1 - w.y0
/-- L squared, 2^-16 mm^2. -/
def Sweep.l2 (w : Sweep) : Int := w.dx * w.dx + w.dy * w.dy
/-- L < 1 mm: the segment is stationary (05 R186). -/
def Sweep.still (w : Sweep) : Bool := decide (w.l2 < 65536)
/-- What the parameters of a grid cell are numerators over: L^2 in fixed point. -/
def Sweep.den (w : Sweep) : Int := if w.still then fx else w.l2 * fx
/-- h_u x L in fixed point (05 R184). -/
def Sweep.hu (w : Sweep) : Int := w.a * (w.dx * w.hx + w.dy * w.hy).natAbs + w.b * (w.dx * w.hy - w.dy * w.hx).natAbs
/-- h_w x L in fixed point (05 R184). -/
def Sweep.hw (w : Sweep) : Int := w.a * (w.dx * w.hy - w.dy * w.hx).natAbs + w.b * (w.dx * w.hx + w.dy * w.hy).natAbs

/-- Entry, exit and centre parameters of a point as numerators over `den`, none where the box never holds it (05 R185, R186). -/
def Sweep.params (w : Sweep) (x y : Int) : Option (Int × Int × Int) :=
  let gx := x - w.x0
  let gy := y - w.y0
  if w.still then
    if (gx * w.hx + gy * w.hy).natAbs ≤ (w.a * fx).natAbs ∧ (gx * w.hy - gy * w.hx).natAbs ≤ (w.b * fx).natAbs then some (-fx, 2 * fx, -fx) else none
  else
    let n := (gx * w.dx + gy * w.dy) * fx
    if (gx * w.dy - gy * w.dx).natAbs * fx ≤ w.hw ∧ n - w.hu ≤ w.den ∧ 0 ≤ n + w.hu then some (n - w.hu, n + w.hu, n) else none

/-- The grid cells of a segment with their parameters: column, row, f_in, f_out, f_c (05 R185). -/
def Sweep.grid (w : Sweep) (edge : Int) : List (Int × Int × Int × Int × Int) :=
  let r := w.a + w.b
  let i0 := (min w.x0 w.x1 - r) / edge
  let j0 := (min w.y0 w.y1 - r) / edge
  let ni := ((max w.x0 w.x1 + r) / edge - i0 + 1).toNat
  let nj := ((max w.y0 w.y1 + r) / edge - j0 + 1).toNat
  ((List.range nj).map (fun (j : Nat) => (List.range ni).filterMap (fun (i : Nat) =>
    let gx := i0 + i
    let gy := j0 + j
    (w.params (gx * edge + edge / 2) (gy * edge + edge / 2)).map (fun p => (gx, gy, p.1, p.2.1, p.2.2))))).flatten

/-- Edge of a grid cell of the present job, 2^-8 mm. -/
def gridEdge (s : State) : Int := 256 * (gridOf s : Int)

/-! ## The window of a cell and the tasks of a tide (05 R182, R183, R202) -/

/-- t_a of a cell (05 R182). -/
def windowStart (b1 : Nat) (c : Cell) : Nat := b1 + us1 * (if c.modeNow != 0 then c.latOff else c.latOn)
/-- The instant of the POSE_BATCH that serves a request: that of the request itself, else one within 1 us (05 R183). -/
def batchOf (s : State) (t : Nat) : Nat :=
  if s.cell.batches.contains t then t else (s.cell.batches.find? (fun x => decide (x ≤ t + us1) && decide (t ≤ x + us1))).getD t
/-- The segment of a cell in the tide that B(n + 1) opens: cells that one POSE_BATCH serves share its extrapolation (05 R183, R184). -/
def segmentOf (s : State) (r : PoseRec) (b1 : Nat) (c : Cell) : Sweep :=
  sweepOf r c (batchOf s (windowStart b1 c)) (batchOf s (windowStart b1 c + tideP s))

/-- The boundary B(n + 1) that closes the present tide. -/
def nextB (s : State) : Option Nat := s.time.lastBoundary.map (· + tideP s)

/-- Instants for which a cell asks the pose engine (05 R183). -/
def poseInstants (s : State) (b1 : Nat) (c : Cell) : List Nat :=
  [windowStart b1 c, windowStart b1 c + tideP s]

/-- A batch for an instant within 1 us has completed (05 R183). -/
def batchDone (s : State) (t : Nat) : Bool := s.cell.batches.any (fun x => decide (x ≤ t + us1) && decide (t ≤ x + us1))

/-- Tasks of the present tide may run: the graph is armed, the job is open, t_CD has not passed (05 R202). -/
def tasksRun (s : State) : Bool :=
  s.cell.armed && jobOpen s && !s.cell.decided &&
    (match nextB s with | some b1 => decide (dtNow s + ns1 * s.cell.lead ≤ b1) | none => false)

/-- Tiles of the grid cells of a cell's segment, and the tile of its centre. -/
def tilesRead (s : State) (r : PoseRec) (b1 : Nat) (c : Cell) : List (Int × Int) × (Int × Int) :=
  let w := segmentOf s r b1 c
  let e := gridEdge s
  (((w.grid e).map (fun g => (g.1 / 256, g.2.1 / 256))).eraseDups, ((w.x0 + w.x1) / (2 * e) / 256, (w.y0 + w.y1) / (2 * e) / 256))

/-- The planes that the evaluation of a cell reads: layer and tile (05 R189, R191, R192). -/
def cellReads (s : State) (r : PoseRec) (b1 : Nat) (c : Cell) : List (Nat × Int × Int) :=
  if c.kind == 4 then []
  else
    let t := tilesRead s r b1 c
    t.1.map (fun x => (1, x)) ++ (if bit c.flags 2 then t.1.map (fun x => (0, x)) else []) ++ (if c.rxLayer == 0 then [] else [(c.rxLayer, t.2)])

/-- The planes that the tasks of the present tide read: those of the CELL_EVAL tasks that have their POSE_BATCH and have not completed (06 R245). -/
def taskPlanes (s : State) : List (Nat × Int × Int) :=
  match nextB s, s.pose.ref with
  | some b1, some r =>
    if !tasksRun s then []
    else ((s.cell.snap.filter (fun e => bit e.2.flags 0 && !s.cell.evaled.contains (e.2.channel / 8 % 1024) && (poseInstants s b1 e.2).all (batchDone s))).map
      (fun e => cellReads s r b1 e.2)).flatten
  | _, _ => []

end Sys2Proof.Machine
end

