-- ==== Sys2Proof/Machine/Raster.lean ====
section
/-!
DEFINITION. Field rasters and coverage (file 06): jobs, planes and their states, TILE packets, saves and exports, the tile cache,
coverage credits and deltas, and the RASTER commands.
-/
namespace Sys2Proof.Machine

/-! ## Grid and planes (06 R226 to R231) -/

/-- Value of a grid cell of a plane. -/
def PData.get (d : PData) (k : Nat) : Nat := (tget d.cells k).getD d.fill
/-- A grid cell of a plane set; what equals the fill is not listed. -/
def PData.put (d : PData) (k v : Nat) : PData := { d with cells := if v == d.fill then tdel d.cells k else tset d.cells k v }
/-- The copy of a plane that is newest (06 R239). -/
def Plane.newest (p : Plane) : PData := p.cache.getD p.dram
/-- A plane's place. -/
def Plane.at_ (p : Plane) (layer : Nat) (tx ty : Int) : Bool := p.layer == layer && p.tx == tx && p.ty == ty
/-- A plane that is not ABSENT. -/
def planeOf (s : State) (layer : Nat) (tx ty : Int) : Option Plane := s.raster.planes.find? (fun p => p.at_ layer tx ty)
/-- A plane changed. -/
def setPlane (layer : Nat) (tx ty : Int) (f : Plane → Plane) (s : State) : State :=
  { s with raster := { s.raster with planes := s.raster.planes.map (fun p => if p.at_ layer tx ty then f p else p) } }
/-- The job holds a layer (06 R229). -/
def layerHeld (s : State) (layer : Nat) : Bool := match s.raster.jdef with | some d => decide (layer < 8) && bit d.layers layer | none => false
/-- A tile lies in the job's extent (06 R228). -/
def inExtent (s : State) (tx ty : Int) : Bool := match s.raster.jdef with
  | some d => decide (d.tx0 ≤ tx) && decide (tx ≤ d.tx1) && decide (d.ty0 ≤ ty) && decide (ty ≤ d.ty1)
  | none => false
/-- Bytes of a plane of a layer (06 R229). -/
def planeBytes (layer : Nat) : Nat := if layer ≤ 1 then 16384 else 65536
/-- A grid cell through the states of 06 R231: its stored value and the state's code; in a PARTIAL plane a zero is unknown. -/
def readCell (s : State) (layer : Nat) (gx gy : Int) : Nat × Nat :=
  let tx := gx / 256
  let ty := gy / 256
  if !layerHeld s layer || !inExtent s tx ty then (0, 4)
  else match planeOf s layer tx ty with
    | none => (0, 0)
    | some p => if p.st == 3 then (0, 3) else (p.newest.get (256 * (gy % 256).toNat + (gx % 256).toNat), p.st)
/-- A read is unknown (06 R231). -/
def unknownRead (r : Nat × Nat) : Bool := !(r.2 == 1 || (r.2 == 2 && decide (1 ≤ r.1)))
/-- The coverage count that a cell uses: unknown counts as covered unless the job selected uncovered (00 R8, 06 R231). -/
def coverAt (s : State) (gx gy : Int) : Nat :=
  let r := readCell s 0 gx gy
  if unknownRead r then (if (s.raster.jdef.map (·.uncovered)).getD false then 0 else 1) else r.1
/-- The boundary value that a cell uses: unknown is OUTSIDE (00 R8). -/
def boundaryAt (s : State) (gx gy : Int) : Nat := let r := readCell s 1 gx gy; if unknownRead r then 0 else r.1
/-- The prescription value that a cell uses: unknown takes the layer's fallback (00 R8). -/
def rxAt (s : State) (layer : Nat) (gx gy : Int) : Nat :=
  let r := readCell s layer gx gy
  if unknownRead r then ((s.raster.jdef.map (·.fallback)).getD []).getD (layer - 2) 0 else r.1

/-- Raster pool in bytes for the DRAM fitted (06 R232). -/
def poolBytes (s : State) : Nat :=
  1048576 * (match s.raster.dramGiB with | 2 => 1536 | 4 => 3328 | 8 => 6912 | 16 => 14080 | _ => 0)
/-- Bytes of the pool in use: the planes, and planes installed that are not yet among them (06 R232, R236). -/
def poolUsed (s : State) : Nat :=
  (s.raster.planes.map (fun p => planeBytes p.layer)).sum +
  (((s.raster.loads.map (fun l => (l.1.layer, l.1.tx, l.1.ty))).eraseDups.filter (fun k => (planeOf s k.1 k.2.1 k.2.2).isNone)).map (fun k => planeBytes k.1)).sum
/-- The pool has room for a new plane of a layer. -/
def poolRoom (s : State) (layer : Nat) : Bool := decide (poolUsed s + planeBytes layer ≤ poolBytes s)
/-- A refusal for want of pool space: RASTER_POOL_FULL once for each run (06 R233). -/
def poolRefuse (s : State) : State :=
  raiseIf (s.raster.poolRun == 0) { code := 0x0607, sev := 4, p0 := (poolBytes s - poolUsed s) / 1024, p1 := s.raster.poolRun + 1 }
    { s with raster := { s.raster with poolRun := s.raster.poolRun + 1 } }

/-- TX and TY as an event parameter (06 R256). -/
def tileWord (tx ty : Int) : Nat := 65536 * (tx % 65536).toNat + (ty % 65536).toNat

/-! ## Uncorrectable errors (06 R231) -/

/-- An 8-byte word of 32 grid cells of a 2-bit plane cleared. -/
def clearWord (d : PData) (word : Nat) : PData := (List.range 32).foldl (fun d k => d.put (32 * word + k) 0) d

/-- An uncorrectable error in a word of an L_0 plane: the word is cleared, the plane PARTIAL in every copy (06 R231). -/
def coverageError (tx ty : Int) (word cause : Nat) (s : State) : State :=
  let f := fun (p : Plane) =>
    let p1 := if cause == 2 then { p with cache := p.cache.map (clearWord · word), dirtyFrom := some (p.dirtyFrom.getD s.time.cyc) }
              else { p with dram := clearWord p.dram word }
    { p1 with st := 2 }
  raise { code := 0x0603, sev := 3, p0 := 0, p1 := tileWord tx ty, p2 := cause }
    { setPlane 0 tx ty f s with raster := { (setPlane 0 tx ty f s).raster with errors := (s.raster.errors + 1) % 2 ^ 32 } }

/-- A plane of L_1 to L_7 becomes UNREADABLE in every copy (06 R231). -/
def planeUnreadable (layer : Nat) (tx ty : Int) (cause : Nat) (s : State) : State :=
  let s1 := setPlane layer tx ty (fun p => { p with st := 3, cache := none, dirtyFrom := none }) s
  raise { code := 0x0603, sev := 3, p0 := layer, p1 := tileWord tx ty, p2 := cause } { s1 with raster := { s1.raster with errors := (s1.raster.errors + 1) % 2 ^ 32 } }

/-- An uncorrectable error in the cached copy of a plane: coverage is cleared, another plane waits for a fill from DRAM (06 R231, R251). -/
def cacheError (layer : Nat) (tx ty : Int) (word : Nat) (s : State) : State :=
  match planeOf s layer tx ty with
  | none => s
  | some p =>
    if p.cache.isNone then s
    else if layer == 0 then coverageError tx ty (word % 2048) 2 s
    else
      let s1 := setPlane layer tx ty (fun p => { p with cache := none, dirtyFrom := none }) s
      { s1 with raster := { s1.raster with errors := (s1.raster.errors + 1) % 2 ^ 32 } }

/-- An uncorrectable error in the DRAM copy of a plane, found by patrol scrub or another read (0), or by a fill (1): a sound cached
copy of L_1 to L_7 repairs it (06 R231). -/
def dramError (layer : Nat) (tx ty : Int) (word cause : Nat) (s : State) : State :=
  match planeOf s layer tx ty with
  | none => s
  | some p =>
    if layer == 0 then coverageError tx ty (word % 2048) cause s
    else if p.st == 3 then s
    else if p.cache.isSome then { s with raster := { s.raster with errors := (s.raster.errors + 1) % 2 ^ 32 } }
    else planeUnreadable layer tx ty cause s

/-! ## The tile cache (06 R243 to R247) -/

/-- Slots of a plane (06 R243). -/
def slotsOf (layer : Nat) : Nat := if layer ≤ 1 then 1 else 4
/-- Slots in use. -/
def slotsUsed (s : State) : Nat := ((s.raster.planes.filter (·.cache.isSome)).map (fun p => slotsOf p.layer)).sum
/-- A plane is pinned: a write-back of a committed tide is pending on it, or a task of the present tide reads it; `reads` is taskPlanes (06 R245). -/
def pinned (reads : List (Nat × Int × Int)) (s : State) (p : Plane) : Bool :=
  (p.layer == 0 && s.cell.writes.any (fun w => w.1 == p.tx && w.2.1 == p.ty)) || reads.contains (p.layer, p.tx, p.ty)
/-- Prescription layers named by at least one enabled cell of a table (06 R243). -/
def layersNamed (s : State) (cs : Tab Cell) : List Nat :=
  (List.range 8).filter (fun k => decide (2 ≤ k) && layerHeld s k && cs.any (fun e => bit e.2.flags 0 && e.2.rxLayer == k))
/-- Prescription layers named by at least one enabled cell (06 R241, R243). -/
def namedLayers (s : State) : List Nat := layersNamed s s.cell.cells
/-- The layers that the cache holds: those of the cell table, and of the entries that the tasks of the present tide still use (05 R180, 06 R243). -/
def cachedLayers (s : State) : List Nat := 0 :: 1 :: layersNamed s (s.cell.cells ++ if tasksRun s then s.cell.snap else [])
/-- Planes of layers that no enabled cell names any longer leave the cache (06 R243); only L_0 planes are ever dirty in it. -/
def trimCache (s : State) : State :=
  let ls := cachedLayers s
  { s with raster := { s.raster with planes := s.raster.planes.map (fun p => if ls.contains p.layer then p else { p with cache := none }) } }

/-- The vehicle reference point in the frame of the defined job, 2^-8 mm; none where no pose gives it. -/
def vrpJob (s : State) : Option (Int × Int) :=
  if jobOpen s then s.pose.ref.map (fun r => let p := vrpAt r (dtNow s); (p.1, p.2.1))
  else match s.raster.jdef with
    | none => none
    | some d => if isFollower s || s.pose.nav.isNone then none
                else let g := geoAt s (dtNow s); let f := fieldPoint g.1 g.2.1 g.2.2 d.lat d.lon (256 * d.height); some (f.1, f.2.1)

/-- Edge of a tile, 2^-8 mm. -/
def tileEdge (s : State) : Int := 65536 * (gridOf s : Int)
/-- Square of the distance of a point from a tile's centre. -/
def centreDist (s : State) (tx ty : Int) : Int :=
  let p := (vrpJob s).getD (0, 0)
  let e := tileEdge s
  let dx := tx * e + e / 2 - p.1
  let dy := ty * e + e / 2 - p.2
  dx * dx + dy * dy

/-- Of two planes, the one that goes first: the farther tile centre, then the higher layer, the lower TY, the lower TX (06 R245). -/
def goesFirst (s : State) (a b : Plane) : Plane :=
  let da := centreDist s a.tx a.ty
  let db := centreDist s b.tx b.ty
  if db < da then a else if da < db then b else if b.layer < a.layer then a else if a.layer < b.layer then b
  else if a.ty < b.ty then a else if b.ty < a.ty then b else if a.tx ≤ b.tx then a else b

/-- The plane that a fill displaces (06 R245). -/
def victim (byTask : Bool) (s : State) : Option Plane :=
  let reads := taskPlanes s
  let free := s.raster.planes.filter (fun p => p.cache.isSome && !pinned reads s p)
  let resident := fun (p : Plane) => s.raster.residency.contains (p.tx, p.ty)
  let classes := [free.filter (fun p => !resident p && p.dirtyFrom.isNone), free.filter (fun p => !resident p && p.dirtyFrom.isSome)] ++
    (if byTask then [free.filter (fun p => resident p && p.dirtyFrom.isNone), free.filter (fun p => resident p && p.dirtyFrom.isSome)] else [])
  (classes.find? (fun c => !c.isEmpty)).bind (fun c => match c with | [] => none | p :: r => some (r.foldl (goesFirst s) p))

/-- A dirty plane is written to DRAM (06 R247). -/
def flushPlane (p : Plane) : Plane := if p.dirtyFrom.isSome then { p with dram := p.newest, dirtyFrom := none } else p

/-- Room for `n` slots is made (06 R245): none where it cannot be. -/
def makeRoom : Nat → Nat → Bool → State → Option State
  | 0, _, _, _ => none
  | k + 1, n, byTask, s =>
    if slotsUsed s + n ≤ 1536 then some s
    else match victim byTask s with
      | none => none
      | some v => makeRoom k n byTask (setPlane v.layer v.tx v.ty (fun p => { flushPlane p with cache := none }) s)

/-- RASTER_CACHE_MISS, at most once per second (06 R246). -/
def missReport (s : State) : State :=
  let recent := s.raster.fills.filter (fun f => decide (s.time.cyc < f.1 + cycMs 1000))
  let quiet := match s.raster.missAt with | some c => decide (c + cycMs 1000 ≤ s.time.cyc) | none => true
  let s1 := { s with raster := { s.raster with fills := recent } }
  if recent.isEmpty || !quiet then s1
  else raise { code := 0x0605, sev := 1, p0 := recent.length, p1 := (recent.map (·.2)).foldl max 0 } { s1 with raster := { s1.raster with missAt := some s.time.cyc } }

/-- A plane that prefetch would fill: of the residency set, readable and not cached (06 R244, R245). -/
def wantsFill (s : State) (p : Plane) : Bool :=
  s.raster.residency.contains (p.tx, p.ty) && p.st != 3 && p.cache.isNone && (cachedLayers s).contains p.layer
/-- Prefetch fills the residency set nearest first: no plane that it would fill is nearer (06 R245). -/
def prefetchNext (s : State) (p : Plane) : Bool :=
  wantsFill s p && s.raster.planes.all (fun q => !wantsFill s q || decide (centreDist s p.tx p.ty ≤ centreDist s q.tx q.ty))

/-- A fill from DRAM completes (06 R231, R245, R246). -/
def doTileFill (layer : Nat) (tx ty : Int) (byTask : Bool) (wait : Nat) (bad : Option Nat) (s : State) : State :=
  match planeOf s layer tx ty with
  | none => s
  | some p =>
    if p.st == 3 || p.cache.isSome || !(cachedLayers s).contains layer || (!byTask && !prefetchNext s p) then s
    else match makeRoom 1536 (slotsOf layer) byTask s with
      | none => s
      | some s1 =>
        let s2 := match bad with | some w => dramError layer tx ty w 1 s1 | none => s1
        let s3 := setPlane layer tx ty (fun p => if p.st == 3 then p else { p with cache := some p.dram }) s2
        if byTask then missReport { s3 with raster := { s3.raster with fills := (s3.time.cyc, wait) :: s3.raster.fills } } else s3

/-- TILE_FILL (06 R246). -/
def execTileFill (layer : Nat) (tx ty : Int) (byTask : Bool) (waitNs : Nat) (bad : Option Nat) (s : State) : Host.Outcome State Fault Refusal :=
  done (doTileFill layer tx ty byTask waitNs bad s)

/-- The plane that has been dirty longest. -/
def oldestDirty : List Plane → Option (Nat × Plane)
  | [] => none
  | p :: r => match p.dirtyFrom, oldestDirty r with
    | none, o => o
    | some c, none => some (c, p)
    | some c, some (d, q) => if c ≤ d then some (c, p) else some (d, q)

/-- A dirty plane reaches FLUSH_INTERVAL (06 R247). -/
def doFlush (s : State) : State :=
  match oldestDirty s.raster.planes, s.raster.jdef with
  | some (c, p), some d => setPlane p.layer p.tx p.ty flushPlane (runToCyc (c + cycMs d.flush) s)
  | _, _ => s

/-- FLUSH_INTERVAL (06 R247). -/
def execFlushInterval (s : State) : Host.Outcome State Fault Refusal := done (doFlush s)

/-! ### The residency set (06 R244) -/

/-- Distance squared of a point from a rectangle. -/
def rectDist2 (x y x0 y0 x1 y1 : Int) : Int :=
  let dx := if x < x0 then x0 - x else if x1 < x then x - x1 else 0
  let dy := if y < y0 then y0 - y else if y1 < y then y - y1 else 0
  dx * dx + dy * dy

/-- Distance squared of a point from a segment, rounded down. -/
def segDist2 (x y ax ay bx by' : Int) : Int :=
  let ux := bx - ax
  let uy := by' - ay
  let l2 := ux * ux + uy * uy
  let t := (x - ax) * ux + (y - ay) * uy
  if l2 == 0 || t ≤ 0 then (x - ax) * (x - ax) + (y - ay) * (y - ay)
  else if l2 ≤ t then (x - bx) * (x - bx) + (y - by') * (y - by')
  else let c := (x - ax) * uy - (y - ay) * ux; c * c / l2

/-- A tile lies within a distance of a segment: they cross, or an end or a corner is that near. -/
def tileNear (x0 y0 x1 y1 ax ay bx by' r : Int) : Bool :=
  let side := fun (x y : Int) => (bx - ax) * (y - ay) - (by' - ay) * (x - ax)
  let ss := [side x0 y0, side x0 y1, side x1 y0, side x1 y1]
  let oneSide := ss.all (fun v => decide (0 < v)) || ss.all (fun v => decide (v < 0))
  let boxes := decide (min ax bx ≤ x1) && decide (x0 ≤ max ax bx) && decide (min ay by' ≤ y1) && decide (y0 ≤ max ay by')
  (boxes && !oneSide) || decide (rectDist2 ax ay x0 y0 x1 y1 ≤ r * r) || decide (rectDist2 bx by' x0 y0 x1 y1 ≤ r * r) ||
    [(x0, y0), (x0, y1), (x1, y0), (x1, y1)].any (fun c => decide (segDist2 c.1 c.2 ax ay bx by' ≤ r * r))

/-- Tiles within a distance of a segment (2^-8 mm). -/
def tilesNear (s : State) (ax ay bx by' r : Int) : List (Int × Int) :=
  let e := tileEdge s
  let tx0 := (min ax bx - r) / e
  let ty0 := (min ay by' - r) / e
  let nx := ((max ax bx + r) / e - tx0 + 1).toNat
  let ny := ((max ay by' + r) / e - ty0 + 1).toNat
  ((List.range nx).map (fun (i : Nat) => (List.range ny).filterMap (fun (j : Nat) =>
    let tx := tx0 + i
    let ty := ty0 + j
    if tileNear (tx * e) (ty * e) (tx * e + e) (ty * e + e) ax ay bx by' r then some (tx, ty) else none))).flatten

/-- The footprint centre of a cell at an instant by velocity and heading rate alone, 2^-8 mm (06 R244). -/
def centreFirstOrder (r : PoseRec) (t : Nat) (c : Cell) : Int × Int :=
  let p := pointAt { r with ae := 0, an := 0, au := 0, pitchRate := 0, rollRate := 0 } t c.lx c.ly c.lz
  (p.1, p.2.1)

/-- The residency set at a boundary (06 R244, R246). -/
def residencyAt (t : Nat) (s : State) : State :=
  match s.pose.ref, s.raster.jdef with
  | some r, some d =>
    if !jobOpen s then s
    else
      let cells := (s.cell.cells.map (·.2)).filter (fun c => bit c.flags 0 && decide (c.kind ≤ 3))
      let tiles := ((cells.map (fun c =>
        let a := centreFirstOrder r t c
        let b := centreFirstOrder r (t + ms1 * d.tpf) c
        tilesNear s a.1 a.2 b.1 b.2 (planeLen (128 * c.length) (128 * c.width)))).flatten).eraseDups
      let need := ((s.raster.planes.filter (fun p => tiles.contains (p.tx, p.ty) && (cachedLayers s).contains p.layer)).map (fun p => slotsOf p.layer)).sum
      raiseIf (decide (1536 < need) && !s.raster.workingRun) { code := 0x0606, sev := 3, p0 := need, p1 := 1536, p2 := d.tpf }
        { s with raster := { s.raster with residency := tiles, slotsNeeded := need, workingRun := decide (1536 < need) } }
  | _, _ => s

/-! ## Credits (05 R197, 06 R248, R250) -/

/-- RASTER_CREDIT_DROPPED, at most once per second, with the count since the last one (06 R248). -/
def dropReport (s : State) : State :=
  let quiet := match s.raster.dropAt with | some c => decide (c + cycMs 1000 ≤ s.time.cyc) | none => true
  let n := s.raster.dropOut + s.raster.dropPool
  if n == 0 || !quiet then s
  else raise { code := 0x0608, sev := 3, p0 := n, p1 := b1 (decide (s.raster.dropOut < s.raster.dropPool)) }
    { s with raster := { s.raster with dropOut := 0, dropPool := 0, dropAt := some s.time.cyc } }

/-- Credits dropped: outside the extent (false) or with a full pool (true). -/
def dropCredits (pool : Bool) (n : Nat) (s : State) : State :=
  dropReport { s with raster := { s.raster with
    dropped := (s.raster.dropped + n) % 2 ^ 32
    dropOut := if pool then s.raster.dropOut else s.raster.dropOut + n, dropPool := if pool then s.raster.dropPool + n else s.raster.dropPool } }

/-- Grid cells of a plane credited once each, saturating at 3 (05 R197). -/
def creditData (ks : List Nat) (d : PData) : PData := ks.foldl (fun d k => d.put k (min 3 (d.get k + 1))) d

/-- The plane of a tile is ready to be credited: cached, or ABSENT with room for it in the cache or none in the pool (06 R243, R248). -/
def creditReady (tx ty : Int) (s : State) : Bool := match planeOf s 0 tx ty with
  | some p => p.cache.isSome
  | none => !poolRoom s 0 || (makeRoom 1536 1 true s).isSome

/-- The credits of a tile are credited and not dropped (06 R248, R249). -/
def creditTaken (tx ty : Int) (s : State) : Bool := inExtent s tx ty && ((planeOf s 0 tx ty).isSome || poolRoom s 0)

/-- The credits of a tide reach one tile (06 R248). -/
def creditTile (tx ty : Int) (tide : Nat) (ks : List Nat) (s : State) : State :=
  if !inExtent s tx ty then dropCredits false ks.length s
  else
    let apply := setPlane 0 tx ty (fun p => { p with
      cache := some (creditData ks p.newest), dirtyFrom := some (p.dirtyFrom.getD s.time.cyc), dirtyExp := true, lastCredit := tide })
    if (planeOf s 0 tx ty).isSome then apply s
    else if !poolRoom s 0 then dropCredits true ks.length (poolRefuse s)
    else match makeRoom 1536 1 true s with
      | none => s
      | some s1 =>
        let s2 := { s1 with raster := { s1.raster with planes := s1.raster.planes ++ [{ layer := 0, tx := tx, ty := ty, st := 2 }], poolRun := 0 } }
        setPlane 0 tx ty (fun p => { p with
          cache := some (creditData ks p.newest), dirtyFrom := some s.time.cyc, dirtyExp := true, lastCredit := tide }) s2

/-- The runs of consecutive columns of the grid cells (sorted keys 256 x j + i): row, first column, length. -/
def runsOf : List Nat → List (Nat × Nat × Nat)
  | [] => []
  | k :: r => match runsOf r with
    | (j, i, n) :: t => if j == k / 256 && i == k % 256 + 1 then (j, k % 256, n + 1) :: t else (k / 256, k % 256, 1) :: (j, i, n) :: t
    | [] => [(k / 256, k % 256, 1)]

/-- The body of a COVERAGE_DELTA (06 R249). -/
def deltaBody (s : State) (tx ty : Int) (tide : Nat) (runs : List (Nat × Nat × Nat)) : List Byte :=
  le 4 ((s.raster.jdef.map (·.id)).getD 0) ++ le 1 ((s.raster.jdef.map (·.grid)).getD 0) ++ [0] ++ le 2 runs.length ++ le 4 tide ++ leI 2 tx ++ leI 2 ty ++
  (runs.map (fun r => le 1 r.1 ++ le 1 r.2.1 ++ le 2 r.2.2)).flatten

/-- COVERAGE_DELTA messages for a tile, at most 1,024 runs each, on an implement of several devices (06 R249). -/
def sendDelta : Nat → Int → Int → Nat → List (Nat × Nat × Nat) → State → State
  | 0, _, _, _, _, s => s
  | _ + 1, _, _, _, [], s => s
  | n + 1, tx, ty, tide, runs, s =>
    if s.net.group == 0 then s
    else sendDelta n tx ty tide (runs.drop 1024) (vxOriginate (vxUp s) 7 true (deltaBody s tx ty tide (runs.take 1024)) s)

/-- The grid cells of a delta's runs (06 R249). -/
def deltaCells (b : List Byte) : List Nat :=
  ((List.range (uAt b 6 2)).map (fun r =>
    let o := 16 + 4 * r
    let i := uAt b (o + 1) 1
    let n := uAt b (o + 2) 2
    if 1 ≤ n ∧ i + n ≤ 256 then (List.range n).map (fun k => 256 * uAt b o 1 + i + k) else [])).flatten

/-- A delta that has been received in order is kept for the next boundary, or discarded where it does not match the job (06 R250). -/
def takeDelta (m : VxMsg) (s : State) : State :=
  let b := m.body
  let mis := match s.raster.jdef with
    | none => some 0
    | some d => if d.id != uAt b 0 4 then some 0 else if d.grid != uAt b 4 1 then some 1 else none
  if roleOf s != 0 || decide (b.length < 16) then s
  else match mis with
    | some f => raiseIf (!s.raster.mismatchRun) { code := 0x060A, sev := 4, p0 := m.origin, p1 := f } { s with raster := { s.raster with mismatchRun := true } }
    | none => { s with raster := { s.raster with mismatchRun := false, deltas := s.raster.deltas ++ [(m.origin, b, false)] } }

/-- COVERAGE_DELTA: forwarded, and delivered in SEQ order (06 R249, R250, 13 R476). -/
def doCoverageDelta (n : Nat) (m : VxMsg) (s : State) : State :=
  let (new, s1) := vxFlood n m (vxUp s) s
  if !new then s1
  else if m.ackReq then let (ms, s2) := relAccept m s1; ms.foldl (fun st x => takeDelta x st) s2
  else takeDelta m s1

/-- COVERAGE_DELTA (06 R249). -/
def execCoverageDelta (port : Nat) (m : VxMsg) (s : State) : Host.Outcome State Fault Refusal := done (doCoverageDelta port m s)

/-- A gap in reliable messages has stayed open for 16 tides: the missing numbers are lost, what follows is delivered (13 R476, 06 R250). -/
def doMsgLost (origin type : Nat) (s : State) : State :=
  match s.net.relIn.find? (fun r => r.origin == origin && r.type == type) with
  | none => s
  | some r => match r.gapFrom, r.held with
    | some c, h :: hs =>
      let s1 := runToCyc (c + 16 * (tideP s / (2 * ns1))) s
      let d := (hs.map (fun m => (diffN 16 m.seq r.next).toNat)).foldl min (diffN 16 h.seq r.next).toNat
      let (run, next) := relRun r.held.length ((r.next + d) % 65536) r.held
      let rest := r.held.filter (fun x => decide (0 ≤ diffN 16 x.seq next))
      let r1 := { r with next := next, held := rest, gapFrom := if rest.isEmpty then none else some s1.time.cyc }
      let s2 := { s1 with net := { s1.net with relIn := s1.net.relIn.map (fun x => if x.origin == origin && x.type == type then r1 else x) } }
      let s3 := raise { code := 0x0D05, sev := 3, p0 := origin, p1 := type, p2 := d } s2
      let s4 := raiseIf (type == 7) { code := 0x060B, sev := 3, p0 := origin, p1 := d } s3
      run.foldl (fun st x => if type == 7 then takeDelta x st else if type == 8 then deliverHost x st else st) s4
    | _, _ => s

/-- VX_MSG_LOST (13 R476). -/
def execVxMsgLost (origin type : Nat) (s : State) : Host.Outcome State Fault Refusal := done (doMsgLost origin type s)

/-- A tile has a write-back of a committed tide pending (06 R236, R251). -/
def writePending (s : State) (tx ty : Int) : Bool := s.cell.writes.any (fun w => w.1 == tx && w.2.1 == ty)

/-- The first delta whose boundary has come is applied, after its tile's own write-backs (06 R250). -/
def doDeltaApply (s : State) : State :=
  match s.raster.deltas with
  | (_, b, true) :: r =>
    let tx := iAt b 12 2
    let ty := iAt b 14 2
    if writePending s tx ty || (inExtent s tx ty && (jobOpen s || (planeOf s 0 tx ty).isNone) && !creditReady tx ty s) then s
    else
      let s1 := { s with raster := { s.raster with deltas := r } }
      let s2 := creditTile tx ty (uAt b 8 4) ((deltaCells b).eraseDups) s1
      if jobOpen s then s2 else setPlane 0 tx ty (fun p => { flushPlane p with cache := none }) s2
  | _ => s

/-- DELTA_APPLY (06 R250). -/
def execDeltaApply (s : State) : Host.Outcome State Fault Refusal := done (doDeltaApply s)

/-! ## TILE packets (06 R234 to R238) -/

/-- The values that bytes spell: four per byte in a 2-bit plane, one in an 8-bit plane (06 R230). -/
def valuesOf (layer : Nat) (b : List Byte) : List Nat :=
  if layer ≤ 1 then (b.map (fun x => [x.toNat % 4, x.toNat / 4 % 4, x.toNat / 16 % 4, x.toNat / 64])).flatten else b.map (·.toNat)

/-- Non-zero values with their keys from `k` on. -/
def sparse : Nat → List Nat → Tab Nat
  | _, [] => []
  | k, v :: r => if v == 0 then sparse (k + 1) r else (k, v) :: sparse (k + 1) r

/-- `n` values from key `k` on of a plane whose listed keys from there on are `t`. -/
def dense (fill : Nat) : Nat → Nat → Tab Nat → List Nat
  | 0, _, _ => []
  | n + 1, k, [] => fill :: dense fill n (k + 1) []
  | n + 1, k, (j, v) :: r => if j == k then v :: dense fill n (k + 1) r else fill :: dense fill n (k + 1) ((j, v) :: r)

/-- Four 2-bit values in a byte. -/
def pack4 : List Nat → List Byte
  | a :: b :: c :: d :: r => BitVec.ofNat 8 (a + 4 * b + 16 * c + 64 * d) :: pack4 r
  | _ => []

/-- The bytes of rows `r0` to `r0 + n - 1` of a plane (06 R230). -/
def planeRows (layer : Nat) (d : PData) (r0 n : Nat) : List Byte :=
  let v := dense d.fill (256 * n) (256 * r0) (d.cells.filter (fun e => decide (256 * r0 ≤ e.1)))
  if layer ≤ 1 then pack4 v else v.map (BitVec.ofNat 8)

/-- The union of two planes' listed keys, with the values that a function gives. -/
def mergeTab (f : Nat → Nat → Nat) (fa fb : Nat) : Nat → Tab Nat → Tab Nat → Tab Nat
  | 0, _, _ => []
  | n + 1, a, b => match a, b with
    | [], [] => []
    | (j, v) :: r, [] => (j, f v fb) :: mergeTab f fa fb n r []
    | [], (k, w) :: r => (k, f fa w) :: mergeTab f fa fb n [] r
    | (j, v) :: ra, (k, w) :: rb =>
      if j < k then (j, f v fb) :: mergeTab f fa fb n ra ((k, w) :: rb)
      else if k < j then (k, f fa w) :: mergeTab f fa fb n ((j, v) :: ra) rb
      else (j, f v w) :: mergeTab f fa fb n ra rb

/-- Two planes merged grid cell by grid cell. -/
def mergeData (f : Nat → Nat → Nat) (a b : PData) : PData :=
  let fl := f a.fill b.fill
  { fill := fl, cells := (mergeTab f a.fill b.fill (a.cells.length + b.cells.length) a.cells b.cells).filter (fun e => e.2 != fl) }

/-- A load takes effect: the plane becomes VALID; REPLACE of an L_0 plane clears its dirty-since-export mark (06 R236, R237). -/
def applyLoad (l : LoadJob) (s : State) : State :=
  let has := (planeOf s l.layer l.tx l.ty).isSome
  let s1 := if has then s else { s with raster := { s.raster with planes := s.raster.planes ++ [{ layer := l.layer, tx := l.tx, ty := l.ty }] } }
  setPlane l.layer l.tx l.ty (fun p =>
    let d := if l.mode == 1 then mergeData max p.newest l.data else if l.mode == 2 then mergeData (fun a b => min 3 (a + b)) p.newest l.data else l.data
    { p with st := 1, dram := d, cache := p.cache.map (fun _ => d), dirtyFrom := none, dirtyExp := if l.mode == 0 then false else p.dirtyExp }) s1

/-- A load is rejected (06 R238). -/
def loadReject (cause layer : Nat) (tx ty : Int) (s : State) : State :=
  let s1 := if cause == 9 then poolRefuse s else s
  raise { code := 0x0604, sev := 3, p0 := cause, p1 := layer, p2 := tileWord tx ty }
    { s1 with raster := { s1.raster with rejected := (s1.raster.rejected + 1) % 2 ^ 32, lastCause := cause, lastTx := tx, lastTy := ty } }

/-- A whole plane has arrived: installed, in an open job for the next boundary (06 R236, R238 cause 9). -/
def installPlane (l : LoadJob) (s : State) : State :=
  if (planeOf s l.layer l.tx l.ty).isNone && !(s.raster.loads.any (fun x => x.1.layer == l.layer && x.1.tx == l.tx && x.1.ty == l.ty)) && !poolRoom s l.layer then
    loadReject 9 l.layer l.tx l.ty s
  else
    let s1 := { s with raster := { s.raster with installed := (s.raster.installed + 1) % 2 ^ 32, poolRun := 0 } }
    if s.raster.job == 1 then applyLoad l s1 else { s1 with raster := { s1.raster with loads := s1.raster.loads ++ [(l, false)] } }

/-- The first cause of 06 R238 among 1 to 7 that applies to a payload of at least 48 bytes; `next` is the part expected. -/
def loadCause (b : List Byte) (next : Nat) (s : State) : Option Nat :=
  match s.raster.jdef with
  | none => some 0
  | some d =>
    let layer := uAt b 4 1
    let mode := uAt b 6 1
    let fl := uAt b 7 1
    let uni := bit fl 0
    let dl := uAt b 36 4
    let part := uAt b 12 1
    let top := if layer ≤ 1 then 4 else 256
    if uAt b 0 4 != d.id then some 1
    else if uAt b 5 1 != d.grid then some 2
    else if !layerHeld s layer then some 3
    else if !inExtent s (iAt b 8 2) (iAt b 10 2) then some 4
    else if decide (b.length < 48 + dl) || decide (2 < mode) || bit fl 3 || bit fl 4 || decide (32 ≤ fl) || !zeros b 14 2 || !zeros b 44 4 ||
        (if uni then dl != 0 || part != 0 || decide (top ≤ uAt b 13 1) else dl != 16384 || uAt b 13 1 != 0 || part != (if layer ≤ 1 then 0 else next)) then some 5
    else if uAt b 40 4 != (if uni then 0 else crc32 ((b.drop 48).take 16384)) then some 6
    else if (if layer == 0 then mode == 0 && s.raster.job != 1 else mode != 0) then some 7
    else none

/-- A TILE packet is the next part of the plane that is arriving (06 R235). -/
def continues (h : List Byte) (next : Nat) (b : List Byte) : Bool :=
  decide (48 ≤ b.length) && b.take 7 == h.take 7 && (b.drop 8).take 4 == (h.drop 8).take 4 && uAt b 12 1 == next && !bit (uAt b 7 1) 0

/-- A TILE packet leaves S_0 and is checked (06 R235 to R238). -/
def doTilePacket (s : State) : State :=
  match takeS0 1 s with
  | none => s
  | some (p, s0) =>
    let b := p.payload
    let (s1, next, got) := match s0.raster.parts with
      | none => (s0, 0, [])
      | some (h, n, d) =>
        let clr := { s0 with raster := { s0.raster with parts := none } }
        if continues h n b then (clr, n, d) else (loadReject 8 (uAt h 4 1) (iAt h 8 2) (iAt h 10 2) clr, 0, [])
    let layer := uAt b 4 1
    let tx := iAt b 8 2
    let ty := iAt b 10 2
    if s1.raster.job == 0 || s1.raster.job == 2 then s0Reject (loadReject 0 layer tx ty s1)
    else if b.length < 48 then s0Reject (loadReject 5 0 0 0 s1)
    else match loadCause b next s1 with
      | some c => s0Reject (loadReject c layer tx ty s1)
      | none =>
        let uni := bit (uAt b 7 1) 0
        let mk := fun (d : PData) => ({ layer := layer, tx := tx, ty := ty, mode := uAt b 6 1, data := d } : LoadJob)
        let all := got ++ (b.drop 48).take 16384
        if uni then installPlane (mk { fill := uAt b 13 1 }) s1
        else if layer ≤ 1 || next == 3 then installPlane (mk { fill := 0, cells := sparse 0 (valuesOf layer all) }) s1
        else { s1 with raster := { s1.raster with parts := some (b.take 48, next + 1, all) } }

/-- TILE_PACKET (06 R236). -/
def execTilePacket (s : State) : Host.Outcome State Fault Refusal := done (doTilePacket s)

/-- The first installed plane whose boundary has come takes effect, after the write-backs of its tile (06 R236, R251). -/
def doLoadApply (s : State) : State :=
  match s.raster.loads.findIdx? (fun l => l.2 && !(l.1.layer == 0 && writePending s l.1.tx l.1.ty)) with
  | none => s
  | some ix => match s.raster.loads[ix]? with
    | none => s
    | some l => applyLoad l.1 { s with raster := { s.raster with loads := s.raster.loads.eraseIdx ix } }

/-- PLANE_LOAD_APPLY (06 R236). -/
def execPlaneLoadApply (s : State) : Host.Outcome State Fault Refusal := done (doLoadApply s)

/-! ## Saves and exports (06 R239, R240) -/

/-- Grid cells of a plane at a count. -/
def countAt (d : PData) (v : Nat) : Nat := (d.cells.filter (fun e => e.2 == v)).length + (if d.fill == v then 65536 - d.cells.length else 0)

/-- The TILE packets of one plane (06 R234, R235); a plane of one value goes as UNIFORM. -/
def tilePackets (s : State) (isExport : Bool) (tide layer : Nat) (tx ty : Int) : List (List Byte) :=
  let d := s.raster.jdef.map (fun d => (d.id, d.grid))
  let p := planeOf s layer tx ty
  let absent := match p with | none => true | some p => p.st == 3
  let v := match p with | some p => p.newest | none => {}
  let uni := !absent && v.cells.isEmpty
  let fl := bitIf uni 0 + bitIf ((p.map (fun p => p.st == 2)).getD false) 1 + bitIf isExport 2 + bitIf absent 4
  let cov := layer == 0 && !absent
  let mk := fun (part : Nat) (data : List Byte) =>
    le 4 ((d.map (·.1)).getD 0) ++ le 1 layer ++ le 1 ((d.map (·.2)).getD 0) ++ [0] ++ le 1 fl ++ leI 2 tx ++ leI 2 ty ++ le 1 part ++ le 1 (if uni then v.fill else 0) ++ [0, 0] ++
    le 4 tide ++ le 4 (if cov then (p.map (·.lastCredit)).getD 0 else 0) ++
    (if cov then le 4 (countAt v 1) ++ le 4 (countAt v 2) ++ le 4 (countAt v 3) else List.replicate 12 0) ++
    le 4 data.length ++ le 4 (if data.isEmpty then 0 else crc32 data) ++ [0, 0, 0, 0] ++ data
  if absent || uni then [mk 0 []]
  else if layer ≤ 1 then [mk 0 (planeRows layer v 0 256)]
  else (List.range 4).map (fun k => mk k (planeRows layer v (64 * k) 64))

/-- The packet that ends a save or an export (06 R234). -/
def lastPacket (s : State) (x : SaveJob) : List Byte :=
  le 4 ((s.raster.jdef.map (·.id)).getD 0) ++ [0] ++ le 1 ((s.raster.jdef.map (·.grid)).getD 0) ++ [0] ++ le 1 (8 + bitIf x.isExport 2) ++ List.replicate 8 0 ++
  le 4 x.tide ++ [0, 0, 0, 0] ++ le 4 x.sent ++ List.replicate 20 0

/-- All packets have room in S_1 together. -/
def s1RoomAll (ps : List (List Byte)) (s : State) : Bool :=
  (ps.foldl (fun (x : Option Stream1) p => x.bind (fun q => if (s1Place q (pktSize p)).isSome then some (pushS1 (dtNow s) 1 p q).1 else none)) (some s.harbour.s1)).isSome

/-- A plane that an export does not send: ABSENT or UNREADABLE (06 R240). -/
def notExported (s : State) (layer : Nat) (tx ty : Int) : Bool := match planeOf s layer tx ty with | none => true | some p => p.st == 3

/-- A save or export takes the next plane's snapshot once S_1 has room, and sends its packets; after the last plane, the packet with
LAST (06 R239). While a job is OPEN a snapshot is taken at a tide boundary, before the tide's commit decision. A coverage plane is taken after the
write-backs committed before; an export passes over a plane that has become ABSENT or UNREADABLE (R240). -/
def doSnapshot (s : State) : State :=
  match s.raster.save with
  | none => s
  | some x =>
    let tide := if s.raster.job == 3 then s.time.tideNo else 0
    match x.queue with
    | [] =>
      let b := lastPacket s x
      if !s1RoomAll [b] s then s
      else raise { code := 0x0609, sev := 1, p0 := x.sent, p1 := x.tide, p2 := b1 x.isExport } (sendS1 1 b { s with raster := { s.raster with save := none } })
    | (l, tx, ty) :: r =>
      let ps := tilePackets s x.isExport tide l tx ty
      if !s1RoomAll ps s || (s.raster.job == 3 && s.cell.decided) || (l == 0 && writePending s tx ty) then s
      else if x.isExport && notExported s l tx ty then { s with raster := { s.raster with save := some { x with queue := r } } }
      else
        let s1 := ps.foldl (fun st p => sendS1 1 p st) s
        let s2 := { s1 with raster := { s1.raster with save := some { x with queue := r, sent := x.sent + 1 } } }
        if l == 0 then setPlane l tx ty (fun p => { p with dirtyExp := false }) s2 else s2

/-- SNAPSHOT_SEND (06 R239). -/
def execSnapshotSend (s : State) : Host.Outcome State Fault Refusal := done (doSnapshot s)

/-! ## Requests for absent planes (06 R241) -/

/-- The layers of a tile that are wanted. -/
def wantMask (s : State) (tx ty : Int) : Nat :=
  ((1 :: namedLayers s).map (fun l => bitIf (layerHeld s l && (planeOf s l tx ty).isNone) l)).sum

/-- The test of every 100 ms (06 R241). -/
def doWant (s : State) : State :=
  match s.raster.jdef with
  | none => s
  | some d =>
    if !s.raster.want || roleOf s != 0 then s
    else
      let s1 := match s.raster.wantAt with | some c => runToCyc (c + cycMs 100) s | none => s
      let cyc := s1.time.cyc
      let s2 := { s1 with raster := { s1.raster with wantAt := some cyc } }
      match vrpJob s2 with
      | none => s2
      | some (x, y) =>
        let e := tileEdge s2
        let near := (tilesNear s2 x y x y (256000 * d.horizon)).filter (fun t => inExtent s2 t.1 t.2)
        let due := near.filter (fun t => wantMask s2 t.1 t.2 != 0 && !(s2.raster.wanted.any (fun w => w.1 == t.1 && w.2.1 == t.2 && decide (cyc < w.2.2 + cycMs 10000))))
        let keep := s2.raster.wanted.filter (fun w => decide (cyc < w.2.2 + cycMs 10000))
        due.foldl (fun st t =>
          let dist := bigSqrt (rectDist2 x y (t.1 * e) (t.2 * e) (t.1 * e + e) (t.2 * e + e)).toNat / 256000
          sendS1 0x15 (le 4 d.id ++ leI 2 t.1 ++ leI 2 t.2 ++ le 1 (wantMask st t.1 t.2) ++ [0] ++ le 2 dist ++ le 4 (if st.raster.job == 3 then st.time.tideNo else 0)) st)
          { s2 with raster := { s2.raster with wanted := keep ++ due.map (fun t => (t.1, t.2, cyc)) } }

/-- WANT_TEST (06 R241). -/
def execWantTest (s : State) : Host.Outcome State Fault Refusal := done (doWant s)

/-! ## Drops (06 R242) -/

/-- A tile lies in a rectangle. -/
def inRect (r : Int × Int × Int × Int) (tx ty : Int) : Bool := decide (r.1 ≤ tx) && decide (tx ≤ r.2.2.1) && decide (r.2.1 ≤ ty) && decide (ty ≤ r.2.2.2)
/-- The planes of a layer mask and rectangle are freed (06 R242). -/
def dropPlanes (mask : Nat) (r : Int × Int × Int × Int) (s : State) : State :=
  { s with raster := { s.raster with planes := s.raster.planes.filter (fun p => !(bit mask p.layer && inRect r p.tx p.ty)), poolRun := 0 } }

/-- A drop whose boundary has come, after the write-backs of the tides committed before it (06 R242). -/
def doDropApply (s : State) : State :=
  match s.raster.drops with
  | (m, r, true) :: t => if bit m 0 && s.cell.writes.any (fun w => inRect r w.1 w.2.1) then s else dropPlanes m r { s with raster := { s.raster with drops := t } }
  | _ => s

/-- TILE_DROP_APPLY (06 R242). -/
def execTileDropApply (s : State) : Host.Outcome State Fault Refusal := done (doDropApply s)

/-! ## Jobs (06 R220 to R225) -/

/-- At a tide boundary, before the pose reference is formed: an ARMED job opens at or after its epoch; what waits for a boundary has met one
(06 R220, R222, R236, R242, R250). -/
def rasterBoundary (t : Nat) (s : State) : State :=
  if roleOf s != 0 then s
  else
    let r := s.raster
    let s1 := { s with raster := { r with
      forceOff := r.forceOff || r.job == 4
      loads := r.loads.map (fun l => (l.1, true)), drops := r.drops.map (fun d => (d.1, d.2.1, true)), deltas := r.deltas.map (fun d => (d.1, d.2.1, true)) } }
    if r.job == 2 && decide (sec1 * r.epoch ≤ t) then
      let n := (t - sec1 * r.epoch) / periodOf r.period % 2 ^ 32
      raise { code := 0x0601, sev := 2, p0 := (r.jdef.map (·.id)).getD 0, p1 := n, p2 := r.period }
        { s1 with raster := { s1.raster with job := 3, firstTide := n, errors := 0, forceOff := false } }
    else s1

/-- At a tide boundary, with the pose reference of the tide: the residency set on a whole 10 ms (06 R244); the reports held back within a second
of the last one are due again (R246, R248). -/
def residencyBoundary (t : Nat) (s : State) : State :=
  if roleOf s != 0 then s else dropReport (missReport (trimCache (if t % (10 * ms1) == 0 then residencyAt t s else s)))

/-- A CLOSING job: its last frame has committed, write-backs are complete, and the dirty planes go to DRAM (06 R220, R247). -/
def doJobClosed (s : State) : State :=
  if s.raster.job != 4 || anyCellOn s || s.cell.nextOn || !s.cell.allOff || !s.cell.writes.isEmpty then s
  else
    let s1 := s.raster.loads.foldl (fun st l => applyLoad l.1 st) { s with raster := { s.raster with loads := [] } }
    let s2 := s1.raster.drops.foldl (fun st d => dropPlanes d.1 d.2.1 st) { s1 with raster := { s1.raster with drops := [] } }
    let s3 := { s2 with raster := { s2.raster with
      job := 1, planes := s2.raster.planes.map flushPlane, lastTide := s.time.tideNo, residency := [], slotsNeeded := 0, workingRun := false, forceOff := false } }
    raise { code := 0x0602, sev := 2, p0 := (s.raster.jdef.map (·.id)).getD 0, p1 := s.time.tideNo, p2 := (s3.raster.planes.filter (fun p => p.layer == 0 && p.dirtyExp)).length } s3

/-- RASTER_JOB_CLOSED (06 R220). -/
def execRasterJobClosed (s : State) : Host.Outcome State Fault Refusal := done (doJobClosed s)

/-- The job and its planes are gone (06 R224, R225). -/
def clearJob (r : RasterSt) : RasterSt :=
  { r with job := 0, jdef := none, planes := [], loads := [], drops := [], deltas := [], parts := none, save := none, wanted := [], poolRun := 0, dropped := 0, dropOut := 0, dropPool := 0
           residency := [], slotsNeeded := 0, workingRun := false, forceOff := false, mismatchRun := false }

/-! ## Commands (06 R252 to R254) -/

/-- A rectangle in parameters. -/
def rectAt (p : List Byte) (off : Nat) : Int × Int × Int × Int := (iAt p off 2, iAt p (off + 2) 2, iAt p (off + 4) 2, iAt p (off + 6) 2)
/-- A rectangle is ordered. -/
def rectOk (r : Int × Int × Int × Int) : Bool := decide (r.1 ≤ r.2.2.1) && decide (r.2.1 ≤ r.2.2.2)

/-- The body of RASTER_JOB_DEFINE (06 R221, R253). -/
def rasterJobDefine (p : List Byte) (s : State) : Reply × State :=
  let g := uAt p 4 1
  let r := rectAt p 28
  let e : Int := 256 * gridMm g
  let tiles := ((r.2.2.1 - r.1 + 1) * (r.2.2.2 - r.2.1 + 1)).toNat
  let far := decide (r.1 * e < -25000000) || decide (r.2.1 * e < -25000000) || decide (25000000 < (r.2.2.1 + 1) * e) || decide (25000000 < (r.2.2.2 + 1) * e)
  let tpf := orDefault (uAt p 44 2) 100 2000 500
  let fl := orDefault (uAt p 46 2) 100 10000 1000
  let hz := orDefault (uAt p 48 2) 20 5000 200
  if s.raster.job != 0 then refuse stBadState s
  else if uAt p 0 4 == 0 || decide (4 < g) || uAt p 5 1 % 4 != 3 || !rectOk r || decide (1048576 < tiles) || far || decide (1 < uAt p 6 1) ||
      !zeros p 7 1 || !zeros p 42 2 || !zeros p 50 2 then refuse stBadParam s
  else match tpf, fl, hz with
    | some tpf, some fl, some hz =>
      ok { s with raster := { clearJob s.raster with
        job := 1
        jdef := some { id := uAt p 0 4, grid := g, layers := uAt p 5 1, uncovered := uAt p 6 1 == 1, lat := iAt p 8 8, lon := iAt p 16 8, height := iAt p 24 4,
                       tx0 := r.1, ty0 := r.2.1, tx1 := r.2.2.1, ty1 := r.2.2.2, fallback := (List.range 6).map (fun k => uAt p (36 + k) 1), tpf := tpf, flush := fl, horizon := hz } } }
    | _, _, _ => refuse stBadParam s

/-- RASTER_JOB_DEFINE. -/
def execRasterJobDefine (c : Cmd) (s : State) : Host.Outcome State Fault Refusal := done (command 0x0601 52 0 (some 0) rasterJobDefine c s)

/-- The body of RASTER_JOB_OPEN (06 R222); no job is armed while the device is about to leave SPRING (R225). -/
def rasterJobOpen (s : State) : Reply × State :=
  if s.raster.job == 0 then refuse 0x0680 s
  else if s.raster.job != 1 || startsHeld s || noService s || s.power.entering.isSome then refuse stBadState s
  else match s.time.epoch with
    | none => refuse 0x0681 s
    | some e => ok { s with raster := { s.raster with job := 2, epoch := e, period := s.votes.tide.value } }

/-- RASTER_JOB_OPEN. -/
def execRasterJobOpen (c : Cmd) (s : State) : Host.Outcome State Fault Refusal := done (command 0x0602 0 0 (some 0) (fun _ s => rasterJobOpen s) c s)

/-- The body of RASTER_JOB_CLOSE (06 R223): cells are forced OFF at once where no evaluation of the present tide has started, else from the
next boundary (rasterBoundary). -/
def rasterJobClose (p : List Byte) (s : State) : Reply × State :=
  if 1 < uAt p 0 1 then refuse stBadParam s
  else if s.raster.job != 3 || (uAt p 0 1 == 0 && (anyCellOn s || !s.cell.allOff)) then refuse stBadState s
  else accepted { s with raster := { s.raster with job := 4, forceOff := s.cell.batches.isEmpty && s.cell.evaled.isEmpty } }

/-- RASTER_JOB_CLOSE. -/
def execRasterJobClose (c : Cmd) (s : State) : Host.Outcome State Fault Refusal := done (command 0x0603 1 0 (some 0) rasterJobClose c s)

/-- Some coverage plane is dirty since export, of those chosen. -/
def dirtyChosen (s : State) (f : Plane → Bool) : Bool := s.raster.planes.any (fun p => p.layer == 0 && p.dirtyExp && f p)

/-- The body of RASTER_JOB_DISCARD (06 R224). -/
def rasterJobDiscard (p : List Byte) (s : State) : Reply × State :=
  if 1 < uAt p 0 1 then refuse stBadParam s
  else if s.raster.job != 1 || s.raster.save.isSome then refuse stBadState s
  else if uAt p 0 1 == 0 && dirtyChosen s (fun _ => true) then refuse 0x0682 s
  else ok { s with raster := clearJob s.raster }

/-- RASTER_JOB_DISCARD. -/
def execRasterJobDiscard (c : Cmd) (s : State) : Host.Outcome State Fault Refusal := done (command 0x0604 1 0 (some 0) rasterJobDiscard c s)

/-- The result of RASTER_JOB_STATUS (06 R254). -/
def rasterJobStatusBytes (s : State) : List Byte :=
  let r := s.raster
  let d := r.jdef
  le 4 ((d.map (·.id)).getD 0) ++ le 1 r.job ++ le 1 ((d.map (·.grid)).getD 0) ++ le 1 ((d.map (·.layers)).getD 0) ++
  le 1 (bitIf ((d.map (·.uncovered)).getD false) 0 + bitIf r.save.isSome 1 + bitIf (decide (1536 < r.slotsNeeded)) 2) ++
  le 4 (if jobOpen s then s.time.tideNo else 0) ++ le 4 r.planes.length ++ le 4 (r.planes.filter (fun p => p.layer == 0 && p.dirtyExp)).length ++
  le 4 ((poolBytes s - poolUsed s) / 1048576) ++ le 4 (r.planes.filter (fun p => p.st == 2)).length ++ le 4 (r.planes.filter (fun p => p.st == 3)).length ++ le 4 r.dropped

/-- RASTER_JOB_STATUS. -/
def execRasterJobStatus (c : Cmd) (s : State) : Host.Outcome State Fault Refusal := done (command 0x0605 0 36 (some 0) (fun _ s => okWith (rasterJobStatusBytes s) s) c s)

/-- The tiles of a rectangle that lie in the extent, row by row. -/
def rectTiles (d : JobDef) (r : Int × Int × Int × Int) : List (Int × Int) :=
  let x0 := max r.1 d.tx0
  let y0 := max r.2.1 d.ty0
  let nx := (min r.2.2.1 d.tx1 - x0 + 1).toNat
  let ny := (min r.2.2.2 d.ty1 - y0 + 1).toNat
  ((List.range ny).map (fun (j : Nat) => (List.range nx).map (fun (i : Nat) => (x0 + (i : Int), y0 + (j : Int))))).flatten

/-- The body of RASTER_TILE_SAVE (06 R239, R240). -/
def rasterTileSave (p : List Byte) (s : State) : Reply × State :=
  let r := rectAt p 4
  match s.raster.jdef with
  | none => refuse 0x0680 s
  | some d =>
    if !rectOk r || !zeros p 1 3 then refuse stBadParam s
    else if s.raster.save.isSome then refuse stBadState s
    else
      let ls := (List.range 8).filter (fun l => bit (uAt p 0 1) l && bit d.layers l)
      accepted { s with raster := { s.raster with save := some {
        isExport := false, queue := ((rectTiles d r).map (fun t => ls.map (fun l => (l, t.1, t.2)))).flatten, tide := if jobOpen s then s.time.tideNo else 0 } } }

/-- RASTER_TILE_SAVE. -/
def execRasterTileSave (c : Cmd) (s : State) : Host.Outcome State Fault Refusal := done (command 0x0606 12 0 (some 0) rasterTileSave c s)

/-- The tiles of the extent with a write-back pending, each once: their coverage planes take credits of tides committed before (06 R239). -/
def pendingTiles (s : State) : List (Int × Int) := ((s.cell.writes.map (fun w => (w.1, w.2.1))).filter (fun t => inExtent s t.1 t.2)).eraseDups

/-- The body of RASTER_EXPORT (06 R239, R240): coverage planes with a write-back pending are sent once it is done, so that every credit committed
before lies in a snapshot. -/
def rasterExport (p : List Byte) (s : State) : Reply × State :=
  let m := if uAt p 0 1 == 0 then 1 else uAt p 0 1
  let dirty := uAt p 1 1 == 1
  match s.raster.jdef with
  | none => refuse 0x0680 s
  | some _ =>
    if 1 < uAt p 1 1 then refuse stBadParam s
    else if s.raster.save.isSome then refuse stBadState s
    else
      let ps := (s.raster.planes.filter (fun q => q.st != 3 && (if dirty then q.layer == 0 && q.dirtyExp else bit m q.layer))).map (fun q => (q.layer, q.tx, q.ty))
      let more := if dirty || bit m 0 then ((pendingTiles s).map (fun t => (0, t.1, t.2))).filter (fun q => !ps.contains q) else []
      accepted { s with raster := { s.raster with save := some {
        isExport := true, queue := ps ++ more, tide := if jobOpen s then s.time.tideNo else 0 } } }

/-- RASTER_EXPORT. -/
def execRasterExport (c : Cmd) (s : State) : Host.Outcome State Fault Refusal := done (command 0x0607 2 0 (some 0) rasterExport c s)

/-- The body of RASTER_TILE_DROP (06 R242). -/
def rasterTileDrop (p : List Byte) (s : State) : Reply × State :=
  let m := uAt p 0 1
  let r := rectAt p 4
  let chosen := fun (q : Plane) => bit m q.layer && inRect r q.tx q.ty
  if s.raster.job == 0 then refuse 0x0680 s
  else if !rectOk r || decide (1 < uAt p 1 1) || !zeros p 2 2 then refuse stBadParam s
  else if jobOpen s && (List.range 8).any (fun k => bit m k && layerHeld s k) && s.raster.residency.any (fun t => inRect r t.1 t.2 && inExtent s t.1 t.2) then refuse stBadState s
  else if uAt p 1 1 == 0 && dirtyChosen s chosen then refuse 0x0682 s
  else if jobOpen s then ok { s with raster := { s.raster with drops := s.raster.drops ++ [(m, r, false)] } }
  else ok (dropPlanes m r s)

/-- RASTER_TILE_DROP. -/
def execRasterTileDrop (c : Cmd) (s : State) : Host.Outcome State Fault Refusal := done (command 0x0608 12 0 (some 0) rasterTileDrop c s)

/-- RASTER_LOAD_STATUS (06 R252). -/
def execRasterLoadStatus (c : Cmd) (s : State) : Host.Outcome State Fault Refusal :=
  done (command 0x0609 0 16 (some 0) (fun _ s => okWith (le 4 s.raster.installed ++ le 4 s.raster.rejected ++ le 4 s.raster.lastCause ++ leI 2 s.raster.lastTx ++ leI 2 s.raster.lastTy) s) c s)

/-- The result of RASTER_CACHE_STATUS (06 R252). -/
def rasterCacheStatusBytes (s : State) : List Byte :=
  let cached := s.raster.planes.filter (·.cache.isSome)
  let slots := fun (l : List Plane) => (l.map (fun p => slotsOf p.layer)).sum
  let recent := s.raster.fills.filter (fun f => decide (s.time.cyc < f.1 + cycMs 1000))
  le 2 (slots cached) ++ le 2 (slots (cached.filter (·.dirtyFrom.isSome))) ++ le 2 (slots (cached.filter (pinned (taskPlanes s) s))) ++ le 2 (satN 65535 s.raster.slotsNeeded) ++
  le 4 recent.length ++ le 4 ((recent.map (·.2)).foldl max 0) ++ le 4 s.raster.errors

/-- RASTER_CACHE_STATUS. -/
def execRasterCacheStatus (c : Cmd) (s : State) : Host.Outcome State Fault Refusal := done (command 0x060A 0 20 (some 0) (fun _ s => okWith (rasterCacheStatusBytes s) s) c s)

/-- The body of RASTER_QUERY (06 R227, R231, R252). -/
def rasterQuery (p : List Byte) (s : State) : Reply × State :=
  let l := uAt p 0 1
  let gx := iAt p 4 4 / (gridOf s : Int)
  let gy := iAt p 8 4 / (gridOf s : Int)
  if decide (7 < l) || !zeros p 1 3 then refuse stBadParam s
  else if s.raster.job == 0 then refuse 0x0680 s
  else
    let r := readCell s l gx gy
    let v := if l == 0 then coverAt s gx gy else if l == 1 then boundaryAt s gx gy else rxAt s l gx gy
    okWith (le 1 r.1 ++ le 1 r.2 ++ le 1 (b1 (unknownRead r)) ++ le 1 v) s

/-- RASTER_QUERY. -/
def execRasterQuery (c : Cmd) (s : State) : Host.Outcome State Fault Refusal := done (command 0x060B 12 4 (some 0) rasterQuery c s)

/-- The body of RASTER_WANT_SUBSCRIBE (06 R241). -/
def rasterWantSubscribe (p : List Byte) (s : State) : Reply × State :=
  if 1 < uAt p 0 1 then refuse stBadParam s
  else ok { s with raster := { s.raster with want := uAt p 0 1 == 1, wantAt := if uAt p 0 1 == 1 && s.raster.want then s.raster.wantAt else none, wanted := [] } }

/-- RASTER_WANT_SUBSCRIBE. -/
def execRasterWantSubscribe (c : Cmd) (s : State) : Host.Outcome State Fault Refusal := done (command 0x060C 1 0 (some 0) rasterWantSubscribe c s)

end Sys2Proof.Machine
end

