-- ==== Sys2Proof/Machine/CellEval.lean ====
section
/-!
DEFINITION. What the cell engine computes for one cell of a tide (file 05): the swept segment, its grid cells, the decision order, spots,
the edge, and the grid cells that a committed command credits.
-/
namespace Sys2Proof.Machine

/-! ## Sorted instants -/

/-- A number put into a rising list, once. -/
def insertInt (x : Int) : List Int → List Int
  | [] => [x]
  | y :: r => if x < y then x :: y :: r else if x == y then y :: r else y :: insertInt x r
/-- The numbers of a list, rising, each once. -/
def sortInts (l : List Int) : List Int := l.foldl (fun r x => insertInt x r) []
/-- A number put into a rising list, once. -/
def insertNat (x : Nat) : List Nat → List Nat
  | [] => [x]
  | y :: r => if x < y then x :: y :: r else if x == y then y :: r else y :: insertNat x r
/-- The numbers of a list, rising, each once. -/
def sortNats (l : List Nat) : List Nat := l.foldl (fun r x => insertNat x r) []

/-- The least value at which a piecewise constant predicate holds, tried at rising points and between them: the point, and whether it
holds only after it. -/
def firstWhere (p : Int → Bool) : List Int → Option (Int × Bool)
  | [] => none
  | a :: r => if p a then some (a, false) else
    match r with
    | [] => none
    | b :: _ => if p ((a + b) / 2) then some (a, true) else firstWhere p r

/-! ## The decision order (05 R182, R187 to R195, R198, R200) -/

/-- A cell under evaluation: the window, the segment, the scale `q` of f = 1, and what the steps read. -/
structure EvalIn where
  ix : Nat
  c : Cell
  on : Bool
  /-- t_a and P, 2^-16 ns -/
  ta : Nat
  p : Nat
  w : Sweep
  q : Int
  /-- grid cells: f_in, f_out, f_c scaled to `q`, forbidden, covered, centre -/
  cells : List (Int × Int × Int × Bool × Bool × Int × Int)
  spots : List Spot
  /-- step 4 applies -/
  corr : Bool
  /-- v at the centre, and whether step 6 allows the cell to be on outside spots -/
  v : Nat
  rxOk : Bool
  /-- G, the count of grid cells of the segment (R185) -/
  g : Nat

/-- Ground instant at a value of f, 2^-16 ns. -/
def EvalIn.timeAt (e : EvalIn) (f : Int) : Nat := e.ta + (f * e.p / e.q).toNat

/-- The spot of the cell that covers the ground instant at a value of f (05 R198). -/
def EvalIn.spotAt (e : EvalIn) (f : Int) : Option Spot :=
  e.spots.find? (fun x => decide (((x.g0 : Int) - e.ta) * e.q ≤ f * e.p) && decide (f * e.p < ((x.g1 : Int) - e.ta) * e.q))

/-- Step 3 holds at f (05 R189). -/
def EvalIn.step3 (e : EvalIn) (f : Int) : Bool := e.cells.all (fun g => !(g.2.2.2.1 && decide (g.1 ≤ f) && decide (f ≤ g.2.1)))

/-- Step 4 holds at f (05 R190). -/
def EvalIn.step4 (s : State) (e : EvalIn) (f : Int) : Bool :=
  let t := e.timeAt f
  !e.corr || ((frameMismatch s).isNone && (grantSet s).any (fun x => activeAt s t x.2) &&
    e.cells.all (fun g => !(decide (g.1 ≤ f) && decide (f ≤ g.2.1)) || inGrant s t g.2.2.2.2.2.1 g.2.2.2.2.2.2))

/-- Step 5 holds at f (05 R191). -/
def EvalIn.step5 (e : EvalIn) (f : Int) : Bool :=
  let lead := e.cells.filter (fun g => decide (g.1 ≤ f) && decide (f ≤ g.2.1) && decide (f ≤ g.2.2.1))
  let cov := (lead.filter (·.2.2.2.2.1)).length
  if e.w.still || lead.isEmpty then e.on
  else if e.on then decide (256 * cov ≤ e.c.thresh * lead.length) else decide (256 * cov ≤ (e.c.thresh - e.c.hyst) * lead.length)

/-- The first step that makes a(f) false, none where a(f) is true (05 R187). -/
def EvalIn.falseAt (s : State) (e : EvalIn) (f : Int) : Option Nat :=
  let sp := e.spotAt f
  if e.c.kind == 4 then (if sp.isSome then none else some 6)
  else if !e.step3 f then some 3
  else if !e.step4 s f then some 4
  else if bit e.c.flags 2 && !((sp.map (·.ignoreCov)).getD false) && !e.step5 f then some 5
  else if sp.isNone && (bit e.c.flags 5 || !e.rxOk) then some 6
  else none

/-- Exact floor of RX_GAIN x 2^-24 x v x s plus RX_BIAS, before the clamp (05 R192). -/
def rawDuty (c : Cell) (v : Nat) (w : Sweep) (p : Nat) : Int :=
  (bigSqrt (w.l2.toNat * (sec1 * c.rxGain * v) * (sec1 * c.rxGain * v)) / (2 ^ 24 * 256 * p) : Nat) + c.rxBias

/-- Speed of the footprint centre is below V_MIN (05 R192). -/
def belowVMin (s : State) (w : Sweep) (p : Nat) : Bool :=
  decide (sec1 * sec1 * w.l2.toNat < (256 * s.cell.vMin * p) * (256 * s.cell.vMin * p))

/-- A boundary value is forbidden to a cell (05 R189, R176). -/
def forbidden (c : Cell) (v : Nat) : Bool := v == 0 || (v == 2 && !bit c.bmask 2) || (v == 3 && !bit c.bmask 1)

/-- What the evaluation of a cell takes; `b1` is B(n + 1) (05 R182, R184, R185). -/
def evalIn (s : State) (r : PoseRec) (b1 : Nat) (ix : Nat) (c : Cell) : EvalIn :=
  let p := tideP s
  let ta := windowStart b1 c
  let w := segmentOf s r b1 c
  let e := gridEdge s
  let q := 2 * w.den * p
  let all := w.grid e
  let grid := if c.kind == 4 then [] else all
  let v := if c.rxLayer == 0 then c.rxConst else rxAt s c.rxLayer ((w.x0 + w.x1) / (2 * e)) ((w.y0 + w.y1) / (2 * e))
  { ix := ix, c := c, on := c.modeNow != 0, ta := ta, p := p, w := w, q := q, g := all.length
    cells := grid.map (fun g => (2 * p * g.2.2.1, 2 * p * g.2.2.2.1, 2 * p * g.2.2.2.2, forbidden c (boundaryAt s g.1 g.2.1),
      bit c.flags 2 && decide (1 ≤ coverAt s g.1 g.2.1), g.1 * e + e / 2, g.2.1 * e + e / 2))
    spots := s.cell.spots.filter (·.cell == ix), corr := c.kind != 4 && corridorApplies s
    v := v, rxOk := c.kind == 3 || (decide (c.kind ≤ 2) && v != 0 && !belowVMin s w p) }

/-- Superframe starts within the window (12 R434). -/
def sfStarts (s : State) (ta p : Nat) : List Nat :=
  let l := ms1 * (if s.fleet.configured then s.fleet.sfMs else 100)
  (List.range (p / l + 2)).map (fun k => (ta / l + k) * l)

/-- The values of f, rising, between which a(f) does not change; from `f0` to 1. -/
def EvalIn.points (s : State) (e : EvalIn) (f0 : Int) : List Int :=
  let ofTime := fun (t : Nat) => ((t : Int) - e.ta) * (e.q / e.p)
  let all := (e.cells.map (fun g => [g.1, g.2.1, g.2.2.1])).flatten ++ (if e.corr then (sfStarts s e.ta e.p).map ofTime else []) ++
    (e.spots.map (fun x => [ofTime x.g0, ofTime x.g1])).flatten
  sortInts (f0 :: e.q :: all.filter (fun f => decide (f0 < f) && decide (f < e.q)))
/-- Rising points with a value between each two: one of every stretch on which a(f) does not change. -/
def betweens : List Int → List Int
  | a :: b :: r => a :: (a + b) / 2 :: betweens (b :: r)
  | l => l

/-- Instant of a spot's on edge and off edge at the channel (05 R198). -/
def spotOn (s : State) (c : Cell) (g0 : Nat) : Nat := padTo (edgeU s) (g0 - us1 * c.latOn)
/-- Off edge. -/
def spotOff (s : State) (c : Cell) (g1 : Nat) : Nat := (g1 - us1 * c.latOff) / edgeU s * edgeU s

/-- Step 7: an edge advanced by half a fade; it does not apply to kind 4 (05 R187, R194). -/
def fadeAdvance (s : State) (c : Cell) (fade o : Nat) : Nat :=
  if c.kind != 4 && bit c.flags 4 then o - (us1 * fade + edgeU s) / (2 * edgeU s) else o

/-- The command word (05 R195, 07 R263). -/
def cmdWord (mode o duty : Nat) : Nat := if mode == 0 then 4096 * o else 2 ^ 22 * mode + 4096 * o + duty

/-- Mode of a cell that is on (05 R179). -/
def onMode (c : Cell) (sp : Option Spot) : Nat := match c.kind with | 1 => 2 | 2 => 2 | 4 => (sp.map (·.mode)).getD 1 | _ => 1

/-- Duty of a cell that is on where this spot covers it, else by step 6 (05 R192, R198). -/
def EvalIn.duty (e : EvalIn) (sp : Option Spot) : Nat :=
  match sp with
  | some x => x.duty
  | none => if e.c.kind == 4 || !e.rxOk then e.c.dutyNow
            else (max (e.c.dutyMin : Int) (min (rawDuty e.c e.v e.w e.p) e.c.dutyMax)).toNat

/-- The cell is turned off at offset 0, or stays off, by a step (05 R187). -/
def forceOff (ix : Nat) (c : Cell) (step grid : Nat) : CellRes :=
  { cell := ix, channel := c.channel, word := 0, mode := 0, edge := if c.modeNow != 0 then some (0, false) else none, duty := 0, step := step, grid := grid }

/-- Offset of the off edge of a spot whose own edges both fall in the tide: it goes out as one PWM command (05 R200). -/
def bothEdges (s : State) (e : EvalIn) (b1 : Nat) (sp : Option Spot) : Option Nat :=
  match sp with
  | some x => if decide (b1 ≤ spotOn s e.c x.g0) && decide (spotOff s e.c x.g1 < b1 + e.p)
              then some (fadeAdvance s e.c e.c.fadeOff ((spotOff s e.c x.g1 - b1) / edgeU s)) else none
  | none => none

/-- The command of a cell that no step forces off (05 R193 to R195, R200). -/
def placeEdge (s : State) (e : EvalIn) (b1 : Nat) (f0 : Int) : CellRes :=
  let n := edgesPerTide s
  let base : CellRes := { cell := e.ix, channel := e.c.channel, word := 0, mode := 0, duty := 0, grid := e.g }
  let pts := if e.q < f0 then [] else e.points s f0
  if e.on then
    let sp := e.spotAt f0
    let d := e.duty sp
    let keep := { base with word := cmdWord e.c.modeNow 0 d, mode := e.c.modeNow, duty := d, onAny := true, noCredit := (sp.map (·.noCredit)).getD false }
    match firstWhere (fun f => (e.falseAt s f).isSome) pts with
    | none => keep
    | some (f, after) =>
      let o := (f * n / e.q).toNat
      if n ≤ o then keep
      else
        let step := (e.falseAt s (if after then f + 1 else f)).getD 0
        let o1 := fadeAdvance s e.c e.c.fadeOff o
        { base with word := cmdWord 0 o1 0, mode := 0, edge := some (o1, false), step := step, onAny := decide (0 < o1), noCredit := keep.noCredit }
  else
    match firstWhere (fun f => (e.falseAt s f).isNone) pts with
    | none => { base with step := if e.spots.isEmpty && (bit e.c.flags 5 || !e.rxOk) then 6 else 0 }
    | some (f, after) =>
      let o := if after then (f * n / e.q + 1).toNat else (-(-(f * n) / e.q)).toNat
      if n ≤ o then base
      else
        let sp := e.spotAt (if after then f + 1 else f)
        let o1 := fadeAdvance s e.c e.c.fadeOn o
        let m := onMode e.c sp
        let nc := (sp.map (·.noCredit)).getD false
        match bothEdges s e b1 sp with
        | some o2 =>
          let d := 4096 * (o2 - o1) * edgeU s / e.p
          if o2 ≤ o1 then base
          else { base with word := cmdWord 1 o1 d, mode := 1, edge := some (o1, true), duty := d, pulse := some o2, onAny := true, noCredit := nc }
        | none =>
          let d := e.duty sp
          { base with word := cmdWord m o1 d, mode := m, edge := some (o1, true), duty := d, onAny := true, noCredit := nc }

/-- The step that forces a cell off throughout the tide: a stop, lost integrity, a hold of the channel (05 R187, R188, 07 R270). -/
def forcedStep (s : State) (r : PoseRec) (c : Cell) (tb : Nat) : Option Nat :=
  if stopInForce s then some 1
  else if c.kind != 4 && (!s.pose.tideInt || decide (s.pose.plLimit < hplAt r s.pose.extrapRate tb)) then some 2
  else if s.cell.held.contains c.channel then some 8
  else none

/-- The spot meets the effect window of the cell and no event has told of it (05 R182, R198). -/
def spotMeets (ta p : Nat) (x : Spot) : Bool := !x.told && decide (x.g0 < ta + p) && decide (ta < x.g1)

/-- The evaluation of one cell: its result, the spots it suppresses with the step, and the duty before its clamp where it was clamped
(05 R187, R192, R198). -/
def evalCell (s : State) (r : PoseRec) (b1 : Nat) (ix : Nat) (c : Cell) : CellRes × List (Nat × Nat) × Option Int :=
  let e := evalIn s r b1 ix c
  let f0 : Int := if e.on && decide (e.ta < c.runStart) then ((c.runStart : Int) - e.ta) * (e.q / e.p) else 0
  let meets := spotMeets e.ta e.p
  if s.raster.forceOff then (forceOff ix c c.lastOff e.g, [], none)
  else match forcedStep s r c (e.ta + e.p) with
    | some k => (forceOff ix c k e.g,
        if k == 8 then [] else (e.spots.filter meets).map (fun x => (x.token, k)), none)
    | none =>
      if c.pulse then (forceOff ix c c.lastOff e.g, [], none)
      else
        let pts := betweens (e.points s (max 0 (min f0 e.q)))
        let bad := (e.spots.filter meets).filterMap (fun x =>
          ((pts.filter (fun f => decide (((x.g0 : Int) - e.ta) * e.q ≤ f * e.p) && decide (f * e.p < ((x.g1 : Int) - e.ta) * e.q))).findSome?
            (fun f => match e.falseAt s f with | some k => if k ≤ 5 then some k else none | none => none)).map (fun k => (x.token, k)))
        let raw := rawDuty c e.v e.w e.p
        let clamped := c.kind != 4 && e.rxOk && !bit c.flags 5 && pts.any (fun f => (e.spotAt f).isNone) &&
          (decide (raw < c.dutyMin) || decide ((c.dutyMax : Int) < raw))
        (placeEdge s e b1 f0, bad, if clamped then some raw else none)

/-! ## Credits of a committed command (05 R196, R197) -/

/-- The effect interval of a committed command: t_s and t_e (05 R196). -/
def effectSpan (s : State) (b1 : Nat) (c : Cell) (x : CellRes) : Nat × Nat :=
  let u := edgeU s
  let onAt := match x.edge with | some (o, true) => some (b1 + o * u + us1 * c.latOn) | _ => none
  let offAt := match x.pulse, x.edge with
    | some o, _ => some (b1 + o * u)
    | none, some (o, false) => some (b1 + o * u)
    | _, _ => none
  (max c.segEnd (onAt.getD 0), (offAt.getD (b1 + tideP s)) + us1 * c.latOff)

/-- The grid cells that a committed command credits: tile and key 256 x j + i (05 R196). -/
def creditsOf (s : State) (r : PoseRec) (b1 : Nat) (c : Cell) (x : CellRes) : List (Int × Int × Nat) :=
  let t := effectSpan s b1 c x
  if !bit c.flags 3 || c.kind == 4 || !x.onAny || x.noCredit || decide (t.2 ≤ t.1) then []
  else
    let w := sweepOf r c t.1 t.2
    if w.still then []
    else ((w.grid (gridEdge s)).filter (fun g => decide (0 < g.2.2.2.2) && decide (g.2.2.2.2 ≤ w.den))).map (fun g =>
      (g.1 / 256, g.2.1 / 256, 256 * (g.2.1 % 256).toNat + (g.1 % 256).toNat))

/-- Credits of a tide gathered by tile, each grid cell once, in tile order of first appearance (05 R197). -/
def gatherCredits (tide : Nat) (l : List (Int × Int × Nat)) : List (Int × Int × Nat × List Nat) :=
  ((l.map (fun k => (k.1, k.2.1))).eraseDups).map (fun t => (t.1, t.2, tide, sortNats ((l.filter (fun k => k.1 == t.1 && k.2.1 == t.2)).map (·.2.2))))

/-- A cell of the table after a committed command (05 R176, R182, R196). -/
def commitCell (s : State) (b1 : Nat) (x : CellRes) (c : Cell) : Cell :=
  let t := effectSpan s b1 c x
  let credit := bit c.flags 3 && c.kind != 4 && x.onAny
  { c with
    modeNow := x.mode, dutyNow := x.duty, runOpen := x.mode != 0
    lastOff := if x.step != 0 then x.step else c.lastOff
    runStart := match x.edge with | some (o, true) => b1 + o * edgeU s + us1 * c.latOn | _ => c.runStart
    segEnd := if credit then max t.1 t.2 else c.segEnd
    tidesOn := if x.onAny then satN (2 ^ 32 - 1) (c.tidesOn + 1) else c.tidesOn
    pulse := x.pulse.isSome, noCredit := x.noCredit && x.mode != 0 }

/-- Bytes 48 to 63 of an entry, and what the device holds beside them, taken from another reading of it (05 R176, R180). -/
def takeDevice (n c : Cell) : Cell :=
  { c with modeNow := n.modeNow, dutyNow := n.dutyNow, runOpen := n.runOpen, lastOff := n.lastOff, runStart := n.runStart, segEnd := n.segEnd
           tidesOn := n.tidesOn, pulse := n.pulse, noCredit := n.noCredit }

/-- The workload of a tide over its enabled cells, LSB 1/64 reference cell; without a pose reference a cell counts as one reference cell
(05 R205). -/
def workOf (s : State) (b1 : Nat) : Nat :=
  (((if s.cell.armed then s.cell.snap else s.cell.cells).filter (fun e => bit e.2.flags 0)).map (fun e => max 64 (match s.cell.results.find? (fun x => x.cell == e.1), s.pose.ref with
    | some x, _ => x.grid
    | none, some r => ((segmentOf s r b1 e.2).grid (gridEdge s)).length
    | none, none => 0))).sum

end Sys2Proof.Machine
end

