-- ==== Sys2Proof/Machine/Supply.lean ====
section
/-!
DEFINITION. Requests for VDD_CORE (05 R208, 17 R612).
-/
namespace Sys2Proof.Machine

/-- A transfer on the PMBus link (17 R612): the command code, and the regulator's address (OTP field PMB_ADDR) before the bytes written. -/
def pmbusOut (cmd : Nat) (data : List Byte) (s : State) : State := emit .pmbus cmd 0 (le 1 s.otp.pmbAddr ++ data) s

/-- A request for VDD_CORE in mV, held within the limits, with CELL_VDD_REQUEST where it changes the target: cause 0 late, 1 slack low,
2 slack high (05 R208, R219, 17 R612). -/
def vddRequest (mv cause : Nat) (s : State) : State :=
  let v := max (max 650 s.cell.vddFloor) (min mv (min 950 s.cell.vddCeil))
  if v == s.power.vddReq then s
  else
    let s1 := raise { code := 0x0505, sev := 0, p0 := s.power.vddReq, p1 := v, p2 := cause } s
    pmbusOut 0x21 (le 2 v) { s1 with
      power := { s1.power with vddReq := v, vddFlight := some (s.time.cyc, s.power.vddReq), vddWide := some (s.time.cyc, s.power.vddReq) } }

/-- A request for VDD_CORE that a change of power state or a start makes (17 R604, R615 step 9). -/
def vddSet (mv : Nat) (s : State) : State :=
  let v := max 650 (min mv 950)
  pmbusOut 0x21 (le 2 v) { s with power := { s.power with
    vddReq := v, vddFlight := some (s.time.cyc, s.power.vddReq), vddWide := some (s.time.cyc, s.power.vddReq) } }

/-- The tamper window of VDD_CORE in mV (15 R556, 17 R613): 15 % about the target; from a VOUT_COMMAND until its read-back settles, or for 5 ms,
it spans the old and the new target, each widened by 15 %. Bounds in hundredths of a mV. -/
def coreWindow (s : State) : Nat × Nat :=
  let v := s.power.vddReq
  match s.power.vddWide with
  | some (c, old) => if s.time.cyc < c + cycMs 5 then (85 * min old v, 115 * max old v) else (85 * v, 115 * v)
  | none => (85 * v, 115 * v)

/-- VDD_CORE as the monitor sees it lies in its window (15 R556, 17 R613). -/
def coreInWindow (mv : Nat) (s : State) : Bool := decide ((coreWindow s).1 ≤ 100 * mv) && decide (100 * mv ≤ (coreWindow s).2)

/-- VDD_CORE that counts: the lower of the target and the last value read back (17 R612). -/
def vddNow (s : State) : Nat := match s.power.vddRead with | none => s.power.vddReq | some v => min v s.power.vddReq

end Sys2Proof.Machine
end

