-- ==== Sys2Proof/Machine/Cell.lean ====
section
/-!
DEFINITION. The cell engine (file 05): the tasks of a tide, the commit deadline, late tides, write-back, and the CELL commands.
-/
namespace Sys2Proof.Machine

/-! ## Capacity and FRAME_LEAD (05 R171 to R173, R206 to R209) -/

/-- Enabled cells of the table. -/
def enabledCells (s : State) : Tab Cell := s.cell.cells.filter (fun e => bit e.2.flags 0)
/-- Loops that carry an enabled cell. -/
def cellLoops (cs : Tab Cell) : List Nat := sortNats ((cs.filter (fun e => bit e.2.flags 0)).map (fun e => chLoop e.2.channel))
/-- Nodes that carry an enabled cell, 64 x loop + position. -/
def cellNodes (cs : Tab Cell) : List Nat := sortNats ((cs.filter (fun e => bit e.2.flags 0)).map (fun e => e.2.channel / 8 % 1024))

/-- FRAME_LEAD in ns for the present loops and cells (05 R171). -/
def leadOf (s : State) : Nat := ((cellLoops s.cell.cells).map (fun n => frameNs (loopOf s n))).foldl max 0 + 10000
/-- Evaluation window in ns: from the end of the pose allowance to t_CD (05 R172, R173). -/
def windowNs (s : State) : Nat := (tideP s - tideP s / 10) / ns1 - s.cell.lead

/-- Guaranteed throughput of a compute tile at a VDD_CORE in mV, hundredths of a reference cell per us (05 R206). -/
def rhoAt (mv : Nat) : Nat :=
  (([(950, 170), (900, 152), (850, 130), (800, 106), (750, 78), (700, 52), (650, 40)].find? (fun e => decide (e.1 ≤ mv))).map (·.2)).getD 40
/-- Guaranteed capacity of a tide in reference cells (05 R207). -/
def guaranteed (s : State) (mv : Nat) : Nat :=
  min (min 4096 (128 * min 64 (4 * tideP s / (125 * us1)))) (16 * rhoAt mv * windowNs s / 100000)

/-- Estimate of W at 6,000 mm/s, in reference cells rounded up (05 R209). -/
def workAtVMax (s : State) : Nat :=
  let us := tideP s / us1
  let g := gridOf s
  let w := (enabledCells s).map (fun e => max 64 (ceilDiv ((1000 * e.2.length + 6 * us) * e.2.width) (1000 * g * g)))
  ceilDiv w.sum 64

/-- CELL_OVER_CAPACITY where the workload exceeds the guaranteed capacity at VDD_CEIL (05 R209). -/
def overCapacity (s : State) : State :=
  raiseIf (decide (guaranteed s s.cell.vddCeil < workAtVMax s))
    { code := 0x0504, sev := 3, p0 := workAtVMax s, p1 := guaranteed s s.cell.vddCeil, p2 := s.votes.tide.value } s

/-- Cells, or a loop, have changed: with a job open FRAME_LEAD follows from the next tide, and the capacity is compared (05 R171, R209, R213). -/
def cellsChanged (s : State) : State :=
  if jobOpen s then overCapacity { s with cell := { s.cell with leadNext := some (leadOf s) } } else s

/-- What R178 refuses of an enabled cell at a table index: none where it may stand. -/
def channelFault (s : State) (ix : Option Nat) (c : Cell) : Option Nat :=
  if (enabledCells s).any (fun e => some e.1 != ix && e.2.channel == c.channel) then some 0x0580
  else if !chanExists s c.channel then some 0x0581 else none

/-- Cells that fail R178 when a job opens, or when capacity changes, are left disabled (05 R178). -/
def recheckCells (s : State) : State :=
  trimCache <| s.cell.cells.foldl (fun st e =>
    if !bit e.2.flags 0 then st
    else
      let earlier := (enabledCells st).any (fun x => decide (x.1 < e.1) && x.2.channel == e.2.channel)
      let bad := if earlier then some 0x0580 else if !chanExists st e.2.channel then some 0x0581 else none
      match bad with
      | none => st
      | some code => raise { code := 0x050A, sev := 4, p0 := e.1, p1 := code }
          { st with cell := { st.cell with cells := tmod st.cell.cells e.1 (fun c => { c with flags := c.flags - 1 }) } }) s

/-- An entry of the table changed: while no task of the present tide has completed, its evaluation takes the table as it now stands (05 R180); the tile cache
keeps the layers still named (06 R243). -/
def cellEdited (s : State) : State :=
  if s.cell.armed && !s.cell.decided && s.cell.batches.isEmpty && s.cell.evaled.isEmpty then trimCache (armCells s) else trimCache s

/-- CELL_MANUAL_END (05 R201). -/
def endManual (cause : Nat) (m : Manual) (s : State) : State :=
  let ran := match m.at_ with | some c => (s.time.cyc - c) / cycMs 1 | none => 0
  raise { code := 0x050B, sev := 1, p0 := m.cell, p1 := min m.ms ran, p2 := cause }
    { s with cell := { s.cell with manuals := s.cell.manuals.filter (fun x => x.cell != m.cell) } }

/-- A job opens: the channels are checked again, FRAME_LEAD is set, the workload is compared, manual operation ends (05 R171, R178, R201, R209). -/
def cellJobOpen (s : State) : State :=
  let s1 := s.cell.manuals.foldl (fun st m => endManual 0 m st) (recheckCells s)
  overCapacity { s1 with cell := { s1.cell with lead := leadOf s1, leadNext := none } }

/-! ## The tasks of a tide (05 R202, R203) -/

/-- POSE_BATCH for an instant (05 R183, R202). -/
def doPoseBatch (t : Nat) (s : State) : State :=
  match nextB s with
  | none => s
  | some b1 =>
    let asked := (s.cell.snap.filter (fun e => bit e.2.flags 0)).any (fun e => (poseInstants s b1 e.2).any (fun x => decide (x ≤ t + us1) && decide (t ≤ x + us1)))
    if tasksRun s && asked then { s with cell := { s.cell with batches := t :: s.cell.batches } } else s

/-- POSE_BATCH (05 R202). -/
def execPoseBatch (instant : Nat) (s : State) : Host.Outcome State Fault Refusal := done (doPoseBatch instant s)

/-- A plane that a task reads is at hand: it is cached, or no fill could bring it (06 R231, R246). -/
def planeReady (s : State) (layer : Nat) (tx ty : Int) : Bool :=
  !layerHeld s layer || !inExtent s tx ty || (match planeOf s layer tx ty with | none => true | some p => p.st == 3 || p.cache.isSome)

/-- Every read of a cell's evaluation can be made: no write-back of the previous tide is pending on its tiles, and their planes are at
hand (05 R202, R213, 06 R246). -/
def readsReady (s : State) (r : PoseRec) (b1 : Nat) (c : Cell) : Bool :=
  if c.kind == 4 then true
  else
    let t := tilesRead s r b1 c
    t.1.all (fun x => !writePending s x.1 x.2 && planeReady s 1 x.1 x.2 && (!bit c.flags 2 || planeReady s 0 x.1 x.2)) &&
      (c.rxLayer == 0 || planeReady s c.rxLayer t.2.1 t.2.2)

/-- CELL_RATE_CLAMPED, at most once per cell per second (05 R192). -/
def clampReport (ix : Nat) (raw : Option Int) (s : State) : State :=
  match raw, tget s.cell.cells ix with
  | some d, some c =>
    let quiet := match c.clampAt with | some k => decide (k + cycMs 1000 ≤ s.time.cyc) | none => true
    let s1 := { s with cell := { s.cell with cells := tmod s.cell.cells ix (fun c => { c with clamps := c.clamps + 1, clampAt := if quiet then some s.time.cyc else c.clampAt }) } }
    raiseIf quiet { code := 0x0506, sev := 1, p0 := ix, p1 := w32 d, p2 := if d < c.dutyMin then c.dutyMin else c.dutyMax } s1
  | _, _ => s

/-- CELL_SPOT_SUPPRESSED for the spots named with their steps, once each (05 R198). -/
def suppress (l : List (Nat × Nat)) (s : State) : State :=
  l.foldl (fun st x =>
    match st.cell.spots.find? (fun y => y.token == x.1 && !y.told) with
    | none => st
    | some y => raise { code := 0x0508, sev := 2, p0 := x.1, p1 := y.cell, p2 := x.2 }
        { st with cell := { st.cell with spots := st.cell.spots.map (fun z => if z.token == x.1 && z.cell == y.cell then { z with told := true } else z) } }) s

/-- The cells of one node are evaluated (05 R187, R202): `errs` are uncorrectable errors met in the cached planes it reads (06 R231). -/
def doCellEval (loop pos : Nat) (errs : List (Nat × Int × Int × Nat)) (s0 : State) : State :=
  match nextB s0, s0.pose.ref with
  | some b1, some r =>
    let key := 64 * loop + pos
    let cs := s0.cell.snap.filter (fun e => bit e.2.flags 0 && e.2.channel / 8 % 1024 == key)
    if !tasksRun s0 || cs.isEmpty || s0.cell.evaled.contains key || !cs.all (fun e => (poseInstants s0 b1 e.2).all (batchDone s0)) then s0
    else
      let s := errs.foldl (fun st x => cacheError x.1 x.2.1 x.2.2.1 x.2.2.2 st) s0
      if !cs.all (fun e => readsReady s r b1 e.2) then s
      else
        let rs := cs.map (fun e => evalCell s r b1 e.1 e.2)
        let s1 := { s with cell := { s.cell with evaled := s.cell.evaled ++ [key], results := s.cell.results ++ rs.map (·.1) } }
        rs.foldl (fun st x => suppress x.2.1 (clampReport x.1.cell x.2.2 st)) s1
  | _, _ => s0

/-- CELL_EVAL (05 R187). -/
def execCellEval (loop pos : Nat) (errors : List (Nat × Int × Int × Nat)) (s : State) : Host.Outcome State Fault Refusal :=
  done (doCellEval loop pos errors s)

/-- The commit gate completes once every loop that carries an enabled cell has its frame packed (05 R202). -/
def doCommitGate (s : State) : State :=
  if tasksRun s && s.cell.gateAt.isNone && (cellLoops s.cell.snap).all (fun n => s.cell.packed.any (·.1 == n)) then
    { s with cell := { s.cell with gateAt := some (dtNow s) } }
  else s

/-- COMMIT_GATE (05 R202). -/
def execCommitGate (s : State) : Host.Outcome State Fault Refusal := done (doCommitGate s)

/-! ## The commit deadline (05 R172, R175, R208, R210, R211, R213) -/

/-- Why SAFE substitutes its all-off frame: the step stored in the cells it turns off, 0 for none of 1, 2, 4 (05 R175, 02 R54, 14 R507,
17 R610, R611). -/
def allOffCause (s : State) : Option Nat :=
  if stopInForce s then some 1
  else if !s.pose.tideInt then some 2
  else if !s.cor.checkOk then some 4
  else if s.time.refLost || s.power.pfwAt.isSome || s.power.fatal.isSome || s.power.fatalNext.isSome || s.power.tamperSafe || s.harbour.resetReq == 2 || s.sec.alarmAt.isSome || debugHold s then some 0
  else none

/-- The least slack of the last 1,000 tides, ns. -/
def leastSlack (s : State) : Option Int := (s.cell.slacks.find? (fun e => decide (s.cell.tides < e.1 + 1000))).map (·.2)

/-- The slack of an on-time tide enters the history (05 R208). -/
def noteSlack (slack : Int) (c : CellSt) : CellSt :=
  { c with slacks := (c.slacks.filter (fun e => decide (e.2 < slack) && decide (c.tides ≤ e.1 + 10000))) ++ [(c.tides, slack)] }

/-- Firmware's requests for VDD_CORE after an on-time tide; `less` is its estimate of capacity at 10 mV less (05 R208). -/
def vddPolicy (less : Nat) (s : State) : State :=
  let w : Int := windowNs s
  match leastSlack s, s.cell.slacks with
  | some m, (_, all) :: _ =>
    let low := decide (100 * m < w * s.cell.slackLow)
    if low then if s.cell.slackWasLow then s else vddRequest (s.power.vddReq + 10) 1 { s with cell := { s.cell with slackWasLow := true } }
    else if s.cell.slackFrom + 10000 ≤ s.cell.tides ∧ w * s.cell.slackHigh < 100 * all ∧ 12 * s.cell.work ≤ 640 * less then
      vddRequest (s.power.vddReq - 10) 2 { s with cell := { s.cell with slackWasLow := false } }
    else { s with cell := { s.cell with slackWasLow := false } }
  | _, _ => s

/-- Spots at a commit decision: those whose on edge is lost with a late tide, and those whose off edge lies in the tide decided
(05 R198, R213). -/
def spotsAtCommit (late : Bool) (b1 : Nat) (s : State) : State :=
  let p := tideP s
  let edges := s.cell.spots.map (fun x => match tget s.cell.cells x.cell with
    | some c => (x, spotOn s c x.g0, spotOff s c x.g1)
    | none => (x, x.g0, x.g1))
  let lost := if late then (edges.filter (fun e => decide (b1 ≤ e.2.1) && decide (e.2.1 < b1 + p))).map (fun e => (e.1.token, 0)) else []
  let excess := edges.filter (fun e => decide (e.2.2 < b1 + p))
  excess.foldl (fun st e => raise { code := 0x0507, sev := 1, p0 := e.1.token, p1 := e.1.cell }
    { st with cell := { st.cell with spots := st.cell.spots.filter (fun y => !(y.token == e.1.token && y.cell == e.1.cell && y.g0 == e.1.g0)) } }) (suppress lost s)

/-- The spots that SAFE's all-off frame suppresses, where a step among 1, 2 and 4 is its cause; a spot of kind 4 only by step 1 (05 R175, R198). -/
def allOffSpots (step b1 : Nat) (s : State) : List (Nat × Nat) :=
  if step == 0 then []
  else (s.cell.spots.filter (fun x => match tget s.cell.cells x.cell with
    | none => false
    | some c => (c.kind != 4 || step == 1) && spotMeets (windowStart b1 c) (tideP s) x)).map (fun x => (x.token, step))

/-- SAFE's all-off frame is committed: every cell is OFF (05 R175). -/
def commitAllOff (step : Nat) (s : State) : State :=
  { s with cell := { s.cell with
    frame := [], nextOn := false, cellsOn := 0
    cells := s.cell.cells.map (fun e => (e.1, { e.2 with
      modeNow := 0, dutyNow := 0, runOpen := false, pulse := false, noCredit := false
      lastOff := if e.2.modeNow != 0 && step != 0 then step else e.2.lastOff })) } }

/-- The engine's frame is committed: the cells take their commands and the tide's credits wait for their write-backs (05 R196, R197). The
entries are those the tide was evaluated with (R180). -/
def commitEngine (b1 : Nat) (s : State) : State :=
  let r := s.pose.ref.getD {}
  let credits := (s.cell.results.map (fun x => match tget s.cell.snap x.cell with | some c => creditsOf s r b1 c x | none => [])).flatten
  { s with cell := { s.cell with
    frame := (s.cell.packed.map (·.2)).flatten
    writes := s.cell.writes ++ gatherCredits s.time.tideNo credits
    nextOn := s.cell.results.any (·.onAny)
    cellsOn := (s.cell.results.filter (fun x => x.mode != 0)).length
    cells := s.cell.cells.map (fun e => match s.cell.results.find? (fun x => x.cell == e.1) with
      | some x => (e.1, takeDevice (commitCell s b1 x ((tget s.cell.snap e.1).getD e.2)) e.2)
      | none => (e.1, { e.2 with modeNow := 0, dutyNow := 0, runOpen := false, pulse := false })) } }

/-- Offset in the tide from `b1` at which a manual operation that has latched ends, rounded earlier; none where it lasts through the tide. One
that latches at `b1` is on throughout its first tide (05 R193, R201). -/
def manualOff (s : State) (b1 : Nat) (m : Manual) : Option Nat :=
  m.at_.bind (fun k =>
    let stop := dtNow s + 2 * ns1 * (k + cycMs m.ms) - 2 * ns1 * s.time.cyc
    if b1 + tideP s ≤ stop then none else some ((stop - b1) / edgeU s))

/-- What the frame of a tide without a job carries for one cell: the channel, the mode that the command leaves, its offset and duty, and whether the
channel is on at some instant of the tide (05 R201). -/
structure ManCmd where
  cell : Nat
  channel : Nat
  mode : Nat
  offset : Nat
  duty : Nat
  onAny : Bool
  deriving DecidableEq, Repr

/-- The command of a manual operation for the tide from `b1`: its mode and duty from offset 0, or OFF at its end (05 R201). -/
def manualCmd (s : State) (b1 : Nat) (m : Manual) : Option ManCmd :=
  (tget s.cell.cells m.cell).bind (fun c =>
    if !bit c.flags 0 || !chanExists s c.channel || chanHeld s c.channel then none
    else match manualOff s b1 m with
      | some o => some { cell := m.cell, channel := c.channel, mode := 0, offset := o, duty := 0, onAny := m.mode != 0 && o != 0 }
      | none => some { cell := m.cell, channel := c.channel, mode := m.mode, offset := 0, duty := if m.mode == 0 then 0 else m.duty, onAny := m.mode != 0 })

/-- Without a job the frame holds the manual commands only; those not yet latched latch at the boundary (05 R180, R201). -/
def commitManual (b1 : Nat) (s : State) : State :=
  let on := s.cell.manuals.filterMap (manualCmd s b1)
  let cyc := s.time.cyc + (b1 - dtNow s) / (2 * ns1)
  { s with cell := { s.cell with
    frame := on.map (fun x => (x.channel, cmdWord x.mode x.offset x.duty))
    nextOn := on.any (·.onAny)
    cellsOn := (on.filter (fun x => x.mode != 0)).length
    manuals := s.cell.manuals.map (fun m => { m with at_ := some (m.at_.getD cyc) })
    cells := s.cell.cells.map (fun e => match on.find? (fun x => x.cell == e.1) with
      | some x => (e.1, { e.2 with modeNow := x.mode, dutyNow := x.duty, runOpen := false, pulse := false
                                   tidesOn := if x.onAny then satN (2 ^ 32 - 1) (e.2.tidesOn + 1) else e.2.tidesOn })
      | none => (e.1, { e.2 with modeNow := 0, dutyNow := 0, runOpen := false, pulse := false })) } }

/-- Per mille of the tide's evaluations that have completed. -/
def workDone (s : State) : Nat :=
  let n := (cellNodes s.cell.snap).length
  if n == 0 then 0 else 1000 * s.cell.evaled.length / n

/-- The counts of a late tide, its events, and the requests it makes (05 R208, R210, R211). -/
def lateTide (s : State) : State :=
  let n := min 255 (s.cell.lateRunLen + 1)
  let s1 := { s with cell := { s.cell with lateRunLen := n, lateTides := (s.cell.lateTides + 1) % 2 ^ 32, shadow := 0 } }
  let s2 := raise { code := 0x0501, sev := 3, p0 := s.time.tideNo, p1 := workDone s, p2 := n } s1
  if n == 8 && !s.cell.lateRun then
    vddRequest s.cell.vddCeil 0 (raise { code := 0x0502, sev := 7, src := 4, p0 := s.time.tideNo, p1 := vddNow s, p2 := ceilDiv s.cell.work 64 }
      { s2 with cell := { s2.cell with lateRun := true } })
  else vddRequest (s.power.vddReq + 20) 0 s2

/-- The counts of an on-time tide (05 R208, R210, R212). -/
def onTimeTide (slack : Int) (less : Nat) (s : State) : State :=
  let c := { s.cell with lateRunLen := 0, shadow := if s.cell.lateRun then s.cell.shadow + 1 else 0 }
  vddPolicy less { s with cell := noteSlack slack c }

/-- The trace record of a tide, with its workload (05 R204). -/
def traceTide (late repeated off : Bool) (slack : Int) (work : Nat) (s : State) : State :=
  if s.cell.traceK == 0 then s
  else
    let n := s.cell.traceN + 1
    if n < s.cell.traceK then { s with cell := { s.cell with traceN := n } }
    else
      let f := b1 late + 2 * b1 repeated + 4 * b1 off + 8 * b1 (stopInForce s) + 16 * b1 (!s.pose.tideInt)
      sendS1 0x14 (le 4 s.time.tideNo ++ leI 4 (if late then -(2 ^ 31) else satI 32 slack) ++ le 2 (satN 65535 (ceilDiv work 64)) ++
        le 2 s.power.vddReq ++ le 1 f ++ le 1 s.cell.lateRunLen ++ le 2 s.cell.cellsOn) { s with cell := { s.cell with traceN := 0 } }

/-- What the frames of the tide carry: SAFE's all-off frame, a repeat, the engine's frame, or the manual commands (05 R175, R201, R210, R211). -/
def commitFrame (late : Bool) (off : Option Nat) (b1 : Nat) (s : State) : State :=
  match off with
  | some k =>
    let s1 := if k == 1 then s.cell.manuals.foldl (fun st m => endManual 1 m st) s else s
    commitAllOff k (suppress (allOffSpots k b1 s1) s1)
  | none => if late then { s with cell := { s.cell with nextOn := s.cell.nextOn || anyCellOn s } }
            else if jobOpen s then commitEngine b1 s else commitManual b1 s

/-- t_CD: on time or late is decided, and what the frames of the tide carry (05 R172, R175, R208 to R213). `pace` is the mean pace
count per us of the tide, `capacity` and `less` firmware's estimates of capacity at the present VDD_CORE and at 10 mV less. -/
def doCommitDeadline (pace capacity less : Nat) (s0 : State) : State :=
  match s0.time.lastBoundary with
  | none => s0
  | some b =>
    if s0.cell.decided || roleOf s0 != 0 || !(s0.power.st == Power.spring || s0.power.st == Power.safe) then s0
    else
      let p := tideP s0
      let tcd := b + p - ns1 * s0.cell.lead
      let s1 := safeCheck (b + p) (b + 2 * p) (runTo tcd s0)
      let late := jobOpen s1 && s1.cell.gateAt.isNone
      let slack : Int := ((tcd : Int) - (s1.cell.gateAt.getD tcd)) / ns1
      let s2 := if !jobOpen s1 then s1 else
        let c := { s1.cell with tides := s1.cell.tides + 1, work := workOf s1 (b + p), pace := pace, capacity := capacity }
        if late then lateTide { s1 with cell := c } else onTimeTide slack less { s1 with cell := c }
      let off := (allOffCause s2).or (if s2.cell.lateRun then some 0 else none)
      let s3 := spotsAtCommit late (b + p) (commitFrame late off (b + p) { s2 with cell := { s2.cell with decided := true } })
      traceTide late (late && off.isNone) off.isSome slack (if jobOpen s1 then s3.cell.work else 0) s3

/-- COMMIT_DEADLINE (05 R172). -/
def execCommitDeadline (pace capacity less : Nat) (s : State) : Host.Outcome State Fault Refusal := done (doCommitDeadline pace capacity less s)

/-! ## Write-back (05 R197, R203, 06 R248) -/

/-- The oldest write-back pending on a tile is done, and its credits sent to the implement (05 R203, 06 R248, R249). -/
def doWriteback (tx ty : Int) (s : State) : State :=
  match s.cell.writes.find? (fun w => w.1 == tx && w.2.1 == ty) with
  | none => s
  | some w =>
    if inExtent s tx ty && !creditReady tx ty s then s
    else
      let s1 := creditTile tx ty w.2.2.1 w.2.2.2 { s with cell := { s.cell with writes := s.cell.writes.erase w } }
      if creditTaken tx ty s then sendDelta 64 tx ty w.2.2.1 (runsOf w.2.2.2) s1 else s1

/-- WRITEBACK (06 R248). -/
def execWriteback (tx ty : Int) (s : State) : Host.Outcome State Fault Refusal := done (doWriteback tx ty s)

/-- The duration of a CELL_MANUAL ends (05 R201). -/
def doManualEnd (cell : Nat) (s : State) : State :=
  match s.cell.manuals.find? (fun m => m.cell == cell) with
  | none => s
  | some m => match m.at_ with
    | none => s
    | some c => endManual 0 m (runToCyc (c + cycMs m.ms) s)

/-- CELL_MANUAL_END (05 R201). -/
def execCellManualEnd (cell : Nat) (s : State) : Host.Outcome State Fault Refusal := done (doManualEnd cell s)

/-! ## The cell table (05 R176 to R180) -/

/-- Bytes 0 to 47 of an entry as a cell that is OFF (05 R176). -/
def cellOf (p : List Byte) : Cell :=
  { kind := uAt p 0 1, flags := uAt p 1 1, channel := uAt p 2 2, lx := iAt p 4 4, ly := iAt p 8 4, lz := iAt p 12 4
    width := uAt p 16 2, length := uAt p 18 2, latOn := uAt p 20 2, latOff := uAt p 22 2, thresh := uAt p 24 1, hyst := uAt p 25 1
    rxLayer := uAt p 26 1, bmask := uAt p 27 1, rxConst := uAt p 28 1, rxBias := iAt p 30 2, rxGain := uAt p 32 4
    dutyMin := uAt p 36 2, dutyMax := uAt p 38 2, fadeOn := uAt p 40 2, fadeOff := uAt p 42 2 }

/-- The 64 bytes of an entry (05 R176). -/
def cellBytes (c : Cell) : List Byte :=
  le 1 c.kind ++ le 1 c.flags ++ le 2 c.channel ++ leI 4 c.lx ++ leI 4 c.ly ++ leI 4 c.lz ++ le 2 c.width ++ le 2 c.length ++
  le 2 c.latOn ++ le 2 c.latOff ++ le 1 c.thresh ++ le 1 c.hyst ++ le 1 c.rxLayer ++ le 1 c.bmask ++ le 1 c.rxConst ++ [0] ++
  leI 2 c.rxBias ++ le 4 c.rxGain ++ le 2 c.dutyMin ++ le 2 c.dutyMax ++ le 2 c.fadeOn ++ le 2 c.fadeOff ++ [0, 0, 0, 0] ++
  le 1 (c.modeNow + bitIf c.runOpen 7) ++ le 1 c.lastOff ++ le 2 c.dutyNow ++ le 4 (stOf c.runStart) ++ le 4 (stOf c.segEnd) ++ le 4 c.tidesOn

/-- An entry as the indirect window reads it: zero where it is free (05 R176). -/
def cellEntry (s : State) (ix : Nat) : List Byte := match tget s.cell.cells ix with | some c => cellBytes c | none => List.replicate 64 0

/-- Bytes 0 to 47 hold an entry within the limits of R176 to R179. -/
def cellOk (p : List Byte) : Bool :=
  let c := cellOf p
  decide (c.kind ≤ 4) && !bit c.flags 1 && !bit c.flags 6 && !bit c.flags 7 && decide (c.channel < 8192) && within 1 10000 c.width && within 1 10000 c.length &&
  (c.rxLayer == 0 || within 2 7 c.rxLayer) && bit c.bmask 0 && decide (c.bmask < 8) && zeros p 29 1 && zeros p 44 4 &&
  within 1 4095 c.dutyMin && within c.dutyMin 4095 c.dutyMax

/-- CELL_ADD (05 R176, R178, R215). -/
def cellAdd (p : List Byte) (s : State) : Reply × State :=
  let c := cellOf p
  if !cellOk p then refuse stBadParam s
  else match firstFree 4096 s.cell.cells with
    | none => refuse stTableFull s
    | some ix =>
      match (if bit c.flags 0 then channelFault s none c else none) with
      | some st => refuse st s
      | none =>
        if (c.fadeOn != 0 || c.fadeOff != 0) && chanExists s c.channel && !chanStrobe s c.channel then refuse 0x0784 s
        else okWith (le 2 ix) (cellsChanged (programFade c.channel c.fadeOn c.fadeOff (cellEdited { s with cell := { s.cell with cells := tset s.cell.cells ix c } })))

/-- CELL_ADD. -/
def execCellAdd (c : Cmd) (s : State) : Host.Outcome State Fault Refusal := done (command 0x0501 48 2 (some 0) cellAdd c s)

/-- CELL_WRITE (05 R178, R180, R215). -/
def cellWrite (p : List Byte) (s : State) : Reply × State :=
  let ix := uAt p 0 2
  let b := p.drop 4
  let c := cellOf b
  match tget s.cell.cells ix with
  | none => refuse stBadParam s
  | some o =>
    if !cellOk b || !zeros p 2 2 then refuse stBadParam s
    else if o.modeNow != 0 && (c.channel != o.channel || c.kind != o.kind || !bit c.flags 0) then refuse stBadState s
    else match (if bit c.flags 0 then channelFault s (some ix) c else none) with
      | some st => refuse st s
      | none =>
        if (c.fadeOn != 0 || c.fadeOff != 0) && chanExists s c.channel && !chanStrobe s c.channel then refuse 0x0784 s
        else
          let n := { c with
            modeNow := o.modeNow, runOpen := o.runOpen, lastOff := o.lastOff, dutyNow := o.dutyNow, tidesOn := o.tidesOn, runStart := o.runStart
            segEnd := o.segEnd, pulse := o.pulse, noCredit := o.noCredit, clampAt := o.clampAt, clamps := o.clamps }
          ok (cellsChanged (programFade c.channel c.fadeOn c.fadeOff (cellEdited { s with cell := { s.cell with cells := tset s.cell.cells ix n } })))

/-- CELL_WRITE. -/
def execCellWrite (c : Cmd) (s : State) : Host.Outcome State Fault Refusal := done (command 0x0502 52 0 (some 0) cellWrite c s)

/-- CELL_READ (05 R215). -/
def cellRead (p : List Byte) (s : State) : Reply × State :=
  match tget s.cell.cells (uAt p 0 2) with
  | none => refuse stBadParam s
  | some c => okWith (cellBytes c) s

/-- CELL_READ. -/
def execCellRead (c : Cmd) (s : State) : Host.Outcome State Fault Refusal := done (command 0x0503 2 64 (some 0) cellRead c s)

/-- CELL_REMOVE (05 R180, R215): a manual operation of a cell that is OFF ends with it. -/
def cellRemove (p : List Byte) (s : State) : Reply × State :=
  let ix := uAt p 0 2
  match tget s.cell.cells ix with
  | none => refuse stBadParam s
  | some c =>
    if c.modeNow != 0 then refuse stBadState s
    else
      let s1 := match s.cell.manuals.find? (fun m => m.cell == ix) with | some m => endManual 0 m s | none => s
      ok (cellsChanged (cellEdited { s1 with cell := { s1.cell with cells := tdel s1.cell.cells ix, spots := s1.cell.spots.filter (fun x => x.cell != ix) } }))

/-- CELL_REMOVE. -/
def execCellRemove (c : Cmd) (s : State) : Host.Outcome State Fault Refusal := done (command 0x0504 2 0 (some 0) cellRemove c s)

/-- CELL_ENGINE_CONFIG (05 R216): it takes effect from the next tide. -/
def cellEngineConfig (p : List Byte) (s : State) : Reply × State :=
  let vMin := uAt p 0 2; let cc := uAt p 2 1; let lo := uAt p 3 1; let hi := uAt p 4 1; let fl := uAt p 6 2; let ce := uAt p 8 2
  if decide (vMin ≤ 5000) && decide (cc ≤ 1) && within 1 50 lo && decide (hi ≤ 90) && decide (lo + 5 ≤ hi) && zeros p 5 1 && within 650 950 fl &&
      within 650 950 ce && decide (fl ≤ ce) && zeros p 10 2 then
    ok { s with cell := { s.cell with cfgNext := some [vMin, cc, lo, hi, fl, ce] } }
  else refuse stBadParam s

/-- CELL_ENGINE_CONFIG. -/
def execCellEngineConfig (c : Cmd) (s : State) : Host.Outcome State Fault Refusal := done (command 0x0505 12 0 (some 0) cellEngineConfig c s)

/-- What a CELL_ENGINE_CONFIG left for the next tide takes effect (05 R215). -/
def engineConfigNext (c : CellSt) : CellSt :=
  match c.cfgNext with
  | some [vMin, cc, lo, hi, fl, ce] =>
    { c with vMin := vMin, corridorCheck := cc == 1, slackLow := lo, slackHigh := hi, vddFloor := fl, vddCeil := ce, cfgNext := none }
  | _ => c

/-! ## Spots and manual operation (05 R198 to R201) -/

/-- The boundary that opens a tide number, by its distance from the tide that is open (02 R81). -/
def boundaryOf (s : State) (n : Nat) : Nat :=
  ((s.time.lastBoundary.getD (nextBoundary s) : Int) + diffN 32 n s.time.tideNo * tideP s).toNat

/-- CELL_SPOT (05 R198 to R200, R217). -/
def cellSpot (p : List Byte) (s : State) : Reply × State :=
  let ix := uAt p 0 2
  let b := boundaryOf s (uAt p 4 4)
  let g0 := b + uAt p 8 2 * edgeU s
  let g1 := g0 + uAt p 12 4 * edgeU s
  match tget s.cell.cells ix with
  | none => refuse stBadParam s
  | some c =>
    let on := spotOn s c g0
    let off := spotOff s c g1
    if decide (4 ≤ uAt p 2 1) || (c.kind == 4 && !within 1 2 (uAt p 3 1)) || decide (edgesPerTide s ≤ uAt p 8 2) || decide (4096 ≤ uAt p 10 2) ||
        uAt p 12 4 == 0 || decide (off ≤ on) then refuse stBadParam s
    else if debugHold s then refuse stBadState s
    else if on / tideP s == off / tideP s && pwmPeriod s c.channel != some 0 then refuse stBadParam s
    else if decide (on / tideP s * tideP s < dtNow s + ns1 * s.cell.lead) || decide (g0 < us1 * c.latOn) then refuse stStale s
    else if s.cell.spots.any (fun x => x.cell == ix && decide (x.g0 < g1) && decide (g0 < x.g1)) then refuse 0x0583 s
    else if decide (1024 ≤ s.cell.spots.length) || decide (8 ≤ (s.cell.spots.filter (·.cell == ix)).length) then refuse stTableFull s
    else ok { s with cell := { s.cell with spots := s.cell.spots ++ [
      { cell := ix, ignoreCov := bit (uAt p 2 1) 0, noCredit := bit (uAt p 2 1) 1, mode := uAt p 3 1, tide := uAt p 4 4, offset := uAt p 8 2
        duty := uAt p 10 2, duration := uAt p 12 4, token := uAt p 16 4, g0 := g0, g1 := g1 }] } }

/-- CELL_SPOT. -/
def execCellSpot (c : Cmd) (s : State) : Host.Outcome State Fault Refusal := done (command 0x0506 20 0 (some 0) cellSpot c s)

/-- CELL_SPOT_CANCEL (05 R215). -/
def cellSpotCancel (p : List Byte) (s : State) : Reply × State :=
  if s.cell.spots.any (fun x => x.token == uAt p 0 4) then
    ok { s with cell := { s.cell with spots := s.cell.spots.filter (fun x => x.token != uAt p 0 4) } }
  else refuse stBadParam s

/-- CELL_SPOT_CANCEL. -/
def execCellSpotCancel (c : Cmd) (s : State) : Host.Outcome State Fault Refusal := done (command 0x0507 4 0 (some 0) cellSpotCancel c s)

/-- CELL_MANUAL (05 R201). -/
def cellManual (p : List Byte) (s : State) : Reply × State :=
  let ix := uAt p 0 2
  match tget s.cell.cells ix with
  | none => refuse stBadParam s
  | some c =>
    if decide (2 < uAt p 2 1) || !zeros p 3 1 || decide (4096 ≤ uAt p 4 2) || !zeros p 6 2 || !within 1 60000 (uAt p 8 4) then refuse stBadParam s
    else if jobOpen s || !bit c.flags 0 || startsHeld s then refuse stBadState s
    else ok { s with cell := { s.cell with
      manuals := s.cell.manuals.filter (fun m => m.cell != ix) ++ [{ cell := ix, mode := uAt p 2 1, duty := uAt p 4 2, ms := uAt p 8 4 }] } }

/-- CELL_MANUAL. -/
def execCellManual (c : Cmd) (s : State) : Host.Outcome State Fault Refusal := done (command 0x0508 12 0 (some 0) cellManual c s)

/-! ## Statistics and control (05 R204, R212, R215) -/

/-- The result of CELL_STATS (05 R215). -/
def cellStatsBytes (s : State) : List Byte :=
  le 4 s.cell.tides ++ le 4 s.cell.lateTides ++ leI 4 (satI 32 ((leastSlack s).getD 0)) ++ le 4 (windowNs s) ++ le 4 (ceilDiv s.cell.work 64) ++
  le 4 s.cell.capacity ++ le 2 s.power.vddReq ++ le 2 s.cell.pace ++ le 2 (enabledCells s).length ++ le 2 s.cell.cellsOn ++
  le 1 s.cell.lateRunLen ++ le 1 (b1 s.cell.lateRun)

/-- CELL_STATS. -/
def execCellStats (c : Cmd) (s : State) : Host.Outcome State Fault Refusal :=
  done (command 0x0509 0 34 (some 0) (fun _ s => okWith (cellStatsBytes s) s) c s)

/-- CELL_TRACE_SUBSCRIBE (05 R204). -/
def cellTraceSubscribe (p : List Byte) (s : State) : Reply × State :=
  if 10000 < uAt p 0 2 then refuse stBadParam s else ok { s with cell := { s.cell with traceK := uAt p 0 2, traceN := 0 } }

/-- CELL_TRACE_SUBSCRIBE. -/
def execCellTraceSubscribe (c : Cmd) (s : State) : Host.Outcome State Fault Refusal := done (command 0x050A 2 0 (some 0) cellTraceSubscribe c s)

/-- CELL_FAULT_CLEAR (05 R212): tides run in shadow only in CELL_LATE_RUN. -/
def cellFaultClear (s : State) : Reply × State :=
  if s.cell.shadow < 64 then refuse 0x0582 s
  else ok (raise { code := 0x0503, sev := 2, p0 := s.time.tideNo, p1 := w32 ((leastSlack s).getD 0) }
    { s with cell := { s.cell with lateRun := false, lateRunLen := 0, shadow := 0 } })

/-- CELL_FAULT_CLEAR. -/
def execCellFaultClear (c : Cmd) (s : State) : Host.Outcome State Fault Refusal := done (command 0x050B 0 0 (some 0) (fun _ s => cellFaultClear s) c s)

end Sys2Proof.Machine
end

