-- ==== Sys2Proof/Machine/Search.lean ====
section
/-!
DEFINITION. Acquisition: what the 32 engines search, in which order, with which parameters and for how long (03 R109, R110, R112).
-/
namespace Sys2Proof.Machine

/-! ## Parameters of a search (03 R109, R110) -/

/-- A row of the table of 03 R110: half-chip code phases, coherent time in ms, non-coherent sums, bin width W in Hz. -/
structure AcqRow where
  phases : Nat
  coherent : Nat
  sums : Nat
  width : Nat
  deriving DecidableEq, Repr

/-- The row of a SIGNAL that is searched (03 R110). -/
def acqRow (sig : Nat) : AcqRow :=
  match sig with
  | 0 => { phases := 2046, coherent := 1, sums := 4, width := 500 }
  | 3 => { phases := 8184, coherent := 4, sums := 2, width := 125 }
  | 6 => { phases := 1022, coherent := 1, sums := 4, width := 500 }
  | 8 => { phases := 20460, coherent := 10, sums := 1, width := 50 }
  | _ => { phases := 20460, coherent := 1, sums := 4, width := 500 }

/-- Code phases that an engine tests in parallel (03 R109). -/
def enginePhases : Nat := 8192

/-- The modes of a search (03 R109). -/
inductive AcqMode where
  | cold
  | warm
  | reacq
  deriving DecidableEq, Repr

/-- REF_UNC in 10^-12: the host's, or three times the uncertainty of the learned drift of a GNSS domain, at least 0.05 ppm (03 R109, 02 R68). -/
def refUncOf (s : State) : Nat :=
  match domFrom s 1 with
  | some k => if (learned s.time (domOf s.time k)).isSome then max 50000 (3 * driftU (domOf s.time k) * 10 ^ 12 / 2 ^ 40) else 10000 * s.gnss.refUnc
  | none => 10000 * s.gnss.refUnc

/-- The half-span S of a mode in 10^-12 Hz (03 R109). -/
def halfSpan (s : State) (m : AcqMode) (carrier : Nat) : Nat :=
  match m with
  | .cold => 4500 * 10 ^ 12 + refUncOf s * carrier
  | .warm => 500 * 10 ^ 12
  | .reacq => 100 * 10 ^ 12

/-- Doppler bins on either side of the predicted one: ceil(S / W) (03 R109). -/
def sideBins (s : State) (m : AcqMode) (sig gloK : Nat) : Nat :=
  let w := (acqRow sig).width * 10 ^ 12
  (halfSpan s m (gCarrier sig gloK).toNat + w - 1) / w

/-- N_bins = 2 x ceil(S / W) + 1 (03 R109). -/
def nBins (s : State) (m : AcqMode) (sig gloK : Nat) : Nat := 2 * sideBins s m sig gloK + 1

/-- The k-th bin that an engine takes, in bins from the predicted Doppler: outwards (03 R109). -/
def binOffset (k : Nat) : Int := if k % 2 == 1 then ((k + 1) / 2 : Nat) else -((k / 2 : Nat) : Int)

/-- Passes of an engine over the code phases of a mode: in REACQ the window of 10 chips either side alone (03 R109, R110). -/
def acqPasses (m : AcqMode) (sig : Nat) : Nat :=
  let n := if m == .reacq then 41 else (acqRow sig).phases
  (n + enginePhases - 1) / enginePhases

/-- The time for one satellite on one engine in ms: N_bins x passes x coherent time x non-coherent sums (03 R110). -/
def searchMs (s : State) (m : AcqMode) (sig gloK : Nat) : Nat :=
  nBins s m sig gloK * acqPasses m sig * (acqRow sig).coherent * (acqRow sig).sums

/-- The channel of a signal that an engine would find again: in REACQ within REACQ_WINDOW (03 R109, R115). -/
def reacqChan (s : State) (sig sv ant : Nat) : Option GChan :=
  (s.gnss.chans.find? (fun e => e.2.st == ChSt.reacq && sameSignal sig sv ant e.2)).map (·.2)

/-- The mode of a search (03 R109). -/
def acqMode (s : State) (sig sv ant : Nat) : AcqMode :=
  if (reacqChan s sig sv ant).isSome then .reacq
  else if timeKnown s && (placeOf s).isSome && (orbitOf s (gSystem sig) sv).isSome then .warm
  else .cold

/-- The Doppler that a search starts from, LSB 2^-10 Hz (03 R109): the channel's in REACQ, that of the stored data in WARM, else none. -/
def predicted (s : State) (sig sv ant gloK : Nat) : Int :=
  match reacqChan s sig sv ant with
  | some c => c.carrRate
  | none =>
    match acqMode s sig sv ant, orbitOf s (gSystem sig) sv, placeOf s with
    | .warm, some o, some p => -(Config.rangeRate o p (dtNow s)) * gCarrier sig gloK * 1024 / (1000 * lightSpeed : Nat)
    | _, _, _ => 0

/-- A peak lies in a bin that the engine tests, and, in REACQ, within 10 chips of the code phase of the channel (03 R109). -/
def inSearch (s : State) (sig sv ant gloK codePhase : Nat) (carrRate : Int) : Bool :=
  let m := acqMode s sig sv ant
  let w : Int := 1024 * (acqRow sig).width
  let d := carrRate - predicted s sig sv ant gloK
  let len : Nat := 65536 * (gCode sig).1
  let inWindow := match reacqChan s sig sv ant with
    | some c =>
      let off := ((codePhase : Int) - ((phasesAt c s.time.cyc).1 : Int)) % (len : Int)
      decide (off ≤ 655360) || decide ((len : Int) - 655360 ≤ off)
    | none => true
  (List.range (nBins s m sig gloK)).any (fun k => decide (2 * (d - binOffset k * w).natAbs ≤ w)) && inWindow

/-! ## The order of the searches (03 R112) -/

/-- The number by which a search names a satellite: SV, or k + 7 for GLONASS, which is searched per k (03 R110). -/
def searchIds (sig : Nat) : List Nat := if sig == 6 then List.range 14 else (List.range ([63, 36, 0, 63].getD (gSystem sig) 0)).map (· + 1)

/-- The satellite of a search: for GLONASS the one whose stored ephemeris has that frequency number, where there is one. -/
def searchSv (s : State) (sig id : Nat) : Option Nat :=
  if sig == 6 then (s.gnss.eph.find? (fun e => e.sys == 2 && e.gloK == id)).map (·.sv) else some id

/-- The channel state of a search's target: the same signal of the same satellite, or of the same frequency number. -/
def onTarget (sig id ant : Nat) (c : GChan) : Bool := c.signal == sig && c.ant == ant && (if sig == 6 then c.gloK == id else c.sv == id)

/-- The elevation of a search's satellite where assistance or stored data give it (03 R112). -/
def elevationOf (s : State) (sig id : Nat) : Option Int :=
  match searchSv s sig id with
  | some sv => (skyAt s (gSystem sig) sv (dtNow s)).map (·.2)
  | none => none

/-- A signal may be searched: enabled, its stream UP, not tracked, and not known to stand below the elevation mask; in NEAP only on group 0 of antenna 0
(03 R112, R127). -/
def searchable (s : State) (sig id ant : Nat) : Bool :=
  signalOn s sig ant && signalUp s sig ant && (s.power.st != Power.neap || (gGroup sig == 0 && ant == 0)) &&
  !(s.gnss.chans.any (fun e => onTarget sig id ant e.2 && (e.2.st == ChSt.track || e.2.st == ChSt.pullIn))) &&
  (match elevationOf s sig id with | some e => decide (degTurn s.gnss.elMask ≤ e) | none => true)

/-- Every target in the order of the signals of 03 R112. -/
def allTargets : List (Nat × Nat × Nat) :=
  (gSearched.map (fun sig => ([0, 1].map (fun ant => (searchIds sig).map (fun id => (sig, id, ant)))).flatten)).flatten

/-- A target among others in decreasing elevation, after those of the same elevation. -/
def highFirst (x : Int × (Nat × Nat × Nat)) : List (Int × (Nat × Nat × Nat)) → List (Int × (Nat × Nat × Nat))
  | [] => [x]
  | y :: r => if y.1 < x.1 then x :: y :: r else y :: highFirst x r

/-- The searches of a moment in their order (03 R112): channels in REACQ, then the satellites predicted to be visible in decreasing elevation, then every other;
signals in the order of the rule within each (log entry 61). -/
def searchOrder (s : State) : List (Nat × Nat × Nat) :=
  let l := allTargets.filter (fun t => searchable s t.1 t.2.1 t.2.2)
  let again := fun (t : Nat × Nat × Nat) => s.gnss.chans.any (fun e => e.2.st == ChSt.reacq && onTarget t.1 t.2.1 t.2.2 e.2)
  let seen := (l.filter (fun t => !again t)).filterMap (fun t => (elevationOf s t.1 t.2.1).map (fun e => (e, t)))
  let rest := (l.filter (fun t => !again t)).filter (fun t => (elevationOf s t.1 t.2.1).isNone)
  l.filter again ++ (seen.foldl (fun a x => highFirst x a) []).map (·.2) ++ rest

/-- Idle engines take the next searches (03 R109, R112). -/
def takeSearches (cyc : Nat) : List (Option Search) → List (Nat × Nat × Nat) → List (Option Search)
  | some e :: r, ts => some e :: takeSearches cyc r ts
  | none :: r, t :: ts => some { sig := t.1, sv := t.2.1, ant := t.2.2, start := cyc } :: takeSearches cyc r ts
  | none :: r, [] => none :: takeSearches cyc r []
  | [], _ => []

/-- An engine searches for a target. -/
def engineOn (t : Nat × Nat × Nat) (e : Option Search) : Bool := match e with | some x => x.sig == t.1 && x.sv == t.2.1 && x.ant == t.2.2 | none => false

/-- The engines that search what may no longer be searched stop; every idle engine takes the next search of the round, and a round that is done begins anew
(03 R109, R112). -/
def fillEngines (s : State) : State :=
  let es := s.gnss.engines.map (fun e => match e with | some x => if searchable s x.sig x.sv x.ant then e else none | none => none)
  let order := (searchOrder s).filter (fun t => !(es.any (engineOn t)))
  let want := order.filter (fun t => !s.gnss.round.contains t)
  if want.isEmpty && es.all (·.isNone) then { s with gnss := { s.gnss with engines := takeSearches s.time.cyc es order, round := [] } }
  else { s with gnss := { s.gnss with engines := takeSearches s.time.cyc es want } }

/-- The number by which a search names the satellite of a detection. -/
def searchId (sig sv gloK : Nat) : Nat := if sig == 6 then gloK else sv

/-- An engine's search of a target. -/
def searchOf (s : State) (sig sv ant gloK : Nat) : Option Search :=
  (s.gnss.engines.find? (engineOn (sig, searchId sig sv gloK, ant))).join

/-- A search ends: time runs to its end, its engine is free, and the target has had its search of this round (03 R110, R112). -/
def endSearch (x : Search) (sv gloK : Nat) (s : State) : State :=
  let s1 := runToCyc (x.start + cycMs (searchMs s (acqMode s x.sig sv x.ant) x.sig gloK)) s
  { s1 with gnss := { s1.gnss with
    engines := s1.gnss.engines.map (fun e => if e == some x then none else e)
    round := (x.sig, x.sv, x.ant) :: s1.gnss.round } }

end Sys2Proof.Machine
end

