-- ==== Sys2Proof/Machine/Gnss.lean ====
section
/-!
DEFINITION. Satellite baseband (file 03): IF streams, notches, the jamming indicator, acquisition, tracking channels, measurement
epochs and records, navigation units, bursts in NEAP, and the GNSS commands. The correlators' and filters' readings arrive as
operands; every test, state and record that the manual states is computed here.
-/
namespace Sys2Proof.Machine

/-! ## Tracking channels (03 R113 to R119) -/

/-- A channel changed. -/
def setChan (n : Nat) (f : GChan → GChan) (s : State) : State := { s with gnss := { s.gnss with chans := tmod s.gnss.chans n f } }
/-- A channel without an allocation. -/
def dropChan (n : Nat) (s : State) : State := { s with gnss := { s.gnss with chans := tdel s.gnss.chans n } }
/-- A channel passes to a state. -/
def GChan.enter (c : GChan) (st : ChSt) (cyc : Nat) : GChan :=
  { c with st := st, since := cyc, lowCn0From := none, lowLockFrom := none, goodLockFrom := none
           slips := if c.st == ChSt.track && st != ChSt.track then satN 0xFFFFFFFF (c.slips + 1) else c.slips }
/-- A channel starts a signal in PULL_IN (03 R115). -/
def GChan.start (c : GChan) (codePhase : Nat) (carrRate : Int) (cyc : Nat) : GChan :=
  { c.enter .pullIn cyc with
    codePhase := codePhase, carrPhase := 0, phaseAt := cyc, carrRate := carrRate
    codeRate := carrRate * 64 * gChipRate c.signal / gCarrier c.signal c.gloK
    bitSync := false, frameSync := false, halfCycle := true, burstMiss := 0 }
/-- Signals of a satellite that are tracked on an antenna (03 R96). -/
def tracked (s : State) (system sv ant : Nat) : Nat :=
  ((s.gnss.chans.filter (fun e => gSystem e.2.signal == system && e.2.sv == sv && e.2.ant == ant && e.2.st != ChSt.idle)).map (·.2.signal)).eraseDups.length
/-- The satellite may take one more signal on the antenna (03 R96). -/
def belowLimit (s : State) (sig sv ant : Nat) : Bool := decide (tracked s (gSystem sig) sv ant < if gSystem sig == 2 then 2 else 3)
/-- Channels that track or search again. -/
def liveChans (s : State) : Nat := (s.gnss.chans.filter (fun e => e.2.st != ChSt.idle)).length
/-- The lowest free channel for automatic allocation; in NEAP at most 24 channels are used (03 R119, R127). -/
def freeChan (s : State) : Option Nat := if s.power.st == Power.neap && decide (24 ≤ liveChans s) then none else firstFree 384 s.gnss.chans
/-- A channel allocated. -/
def putChan (n : Nat) (c : GChan) (s : State) : State := { s with gnss := { s.gnss with chans := tset s.gnss.chans n c } }

/-- A confirmed detection or handover meets a channel: one in REACQ, one that the host holds in IDLE, else a free one; none where it
must wait (03 R111, R115, R119). -/
def assign (d : Detection) (s : State) : Option State :=
  let cyc := s.time.cyc
  let mine := s.gnss.chans.filter (fun e => sameSignal d.signal d.sv d.ant e.2)
  match mine.find? (fun e => e.2.st == ChSt.reacq), (mine.find? (fun e => e.2.st == ChSt.idle)).filter (fun _ => belowLimit s d.signal d.sv d.ant) with
  | some e, _ => some (setChan e.1 (fun c => { c.start d.codePhase d.carrRate cyc with slips := c.slips }) s)
  | none, some e => some (setChan e.1 (fun c => { c.start d.codePhase d.carrRate cyc with gloK := d.gloK }) s)
  | none, none =>
    if !mine.isEmpty || !signalOn s d.signal d.ant || !belowLimit s d.signal d.sv d.ant then some s
    else (freeChan s).map (fun n =>
      putChan n (GChan.start { signal := d.signal, sv := d.sv, ant := d.ant, gloK := d.gloK, loop := s.gnss.loops.getD d.signal [] } d.codePhase d.carrRate cyc) s)

/-- The detections that wait take the channels that are free, oldest first (03 R111). -/
def serveQueue : Nat → State → State
  | 0, s => s
  | n + 1, s => match s.gnss.queue with
    | [] => s
    | d :: r => match assign d s with
      | none => s
      | some s1 => serveQueue n { s1 with gnss := { s1.gnss with queue := r } }

/-- Channels freed: waiting detections are served. -/
def freed (s : State) : State := serveQueue 32 s

/-- A channel leaves TRACK or PULL_IN for REACQ (03 R99, R115). -/
def toReacq (n : Nat) (s : State) : State :=
  setChan n (fun c => if c.st == ChSt.track || c.st == ChSt.pullIn then c.enter .reacq s.time.cyc else c) s

/-- The channels of a stream pass to REACQ (03 R99). -/
def streamLost (n : Nat) (s : State) : State :=
  (s.gnss.chans.filter (fun e => gStream e.2.signal e.2.ant == n)).foldl (fun st e => toReacq e.1 st) s

/-- The other enabled signals of the satellite of a channel in TRACK under carrier lock are started by handover (03 R96). -/
def handover (n : Nat) (s : State) : State :=
  match tget s.gnss.chans n with
  | none => s
  | some c =>
    if c.st != ChSt.track || decide (c.lock ≤ 800) || s.power.st == Power.neap then s
    else
      gHandover.foldl (fun st sig =>
        let mine := st.gnss.chans.filter (fun e => sameSignal sig c.sv c.ant e.2)
        if gSystem sig != gSystem c.signal || sig == c.signal || !signalUp st sig c.ant || mine.any (fun e => e.2.st != ChSt.idle) then st
        else
          let rate := c.carrRate * gCarrier sig c.gloK / gCarrier c.signal c.gloK
          let phase := c.codePhase * gChipRate sig / gChipRate c.signal % (65536 * (gCode sig).1)
          (assign { signal := sig, sv := c.sv, ant := c.ant, gloK := c.gloK, codePhase := phase, carrRate := rate, at_ := st.time.cyc } st).getD st) s

/-- Lock time in ms (03 R116). -/
def lockTime (c : GChan) (cyc : Nat) : Nat := if c.st == ChSt.track then satN 0xFFFFFFFF ((cyc - c.since) / cycMs 1) else 0

/-- COHERENT_INTERVAL_END on a channel: what NAV reads and writes, and the transitions of 03 R115. -/
def doCoherent (n : Nat) (u : ChanUpdate) (s : State) : State :=
  match tget s.gnss.chans n with
  | none => s
  | some c =>
    if !navUp s || !(c.st == ChSt.pullIn || c.st == ChSt.track) then s
    else
      let cyc := s.time.cyc
      let since := fun (b : Bool) (o : Option Nat) => if b then some (o.getD cyc) else none
      let c1 := { c with
        codePhase := u.codePhase % (65536 * (gCode c.signal).1), carrPhase := u.carrPhase, phaseAt := cyc, codeRate := u.codeRate, carrRate := u.carrRate
        taps := { u.taps with
          dataEarly := if gPilot c.signal then u.taps.dataEarly else (0, 0), dataPrompt := if gPilot c.signal then u.taps.dataPrompt else (0, 0)
          dataLate := if gPilot c.signal then u.taps.dataLate else (0, 0)
          veryEarly := if gBoc c.signal then u.taps.veryEarly else (0, 0), veryLate := if gBoc c.signal then u.taps.veryLate else (0, 0) }
        cn0 := u.cn0 % 65536, promptI := satI 16 u.promptI, promptQ := satI 16 u.promptQ, lock := u.lock
        bitSync := u.bitSync, frameSync := u.frameSync, halfCycle := u.halfCycle
        loop := s.gnss.loops.getD c.signal []
        goodLockFrom := since (decide (800 < u.lock)) c.goodLockFrom
        lowLockFrom := since (decide (u.lock < 500)) c.lowLockFrom
        lowCn0From := since (decide (u.cn0 % 65536 < 20 * 256)) c.lowCn0From }
      let held := fun (o : Option Nat) (ms : Nat) => match o with | some x => decide (x + cycMs ms ≤ cyc) | none => false
      if c.st == ChSt.pullIn then
        if u.fllSettled && decide (25 * 256 < c1.cn0) && held c1.goodLockFrom 20 then
          handover n (putChan n { c1.enter .track cyc with goodLockFrom := c1.goodLockFrom } s)
        else putChan n c1 s
      else if held c1.lowCn0From 200 || held c1.lowLockFrom 100 then putChan n (c1.enter .reacq cyc) s
      else handover n (putChan n c1 s)

/-- COHERENT_INTERVAL_END (03 R113, R115). -/
def execCoherentIntervalEnd (ch : Nat) (u : ChanUpdate) (s : State) : Host.Outcome State Fault Refusal := done (doCoherent ch u s)

/-- A channel has not reached TRACK within 500 ms (03 R115). -/
def doPullInTimeout (n : Nat) (s : State) : State :=
  match tget s.gnss.chans n with
  | none => s
  | some c => if c.st != ChSt.pullIn then s else toReacq n (runToCyc (c.since + cycMs 500) s)

/-- PULL_IN_TIMEOUT (03 R115). -/
def execPullInTimeout (ch : Nat) (s : State) : Host.Outcome State Fault Refusal := done (doPullInTimeout ch s)

/-- A channel returns to IDLE: one that the host holds keeps its assignment (03 R115, R119). -/
def toIdle (n : Nat) (s : State) : State :=
  match tget s.gnss.chans n with
  | none => s
  | some c => if c.hostHeld then setChan n (fun c => c.enter .idle s.time.cyc) s else freed (dropChan n s)

/-- A channel was not found within REACQ_WINDOW (03 R115). -/
def doSatLost (n : Nat) (s : State) : State :=
  match tget s.gnss.chans n with
  | none => s
  | some c =>
    if c.st != ChSt.reacq || s.power.st == Power.neap then s
    else
      let s1 := runToCyc (c.since + cycMs s.gnss.reacqMs) s
      raise { code := 0x0309, sev := 0, src := 2, p0 := n, p1 := c.signal, p2 := c.sv } (toIdle n s1)

/-- GNSS_SAT_LOST (03 R115). -/
def execGnssSatLost (ch : Nat) (s : State) : Host.Outcome State Fault Refusal := done (doSatLost ch s)

/-! ## IF streams and notches (03 R99, R104 to R106) -/

/-- Bin width of a stream, Hz (03 R104). -/
def binWidth (n : Nat) : Nat := if n % 4 == 0 then 62500 else 31250

/-- A centre is covered by a notch of a stream, inserted or waiting (03 R105). -/
def covered (st : IfStream) (c : Int) : Bool :=
  st.notches.any (fun x => (match x.active with | some (m, bw) => decide (2 * (c - m).natAbs ≤ bw) | none => false) ||
    (match x.next with | some (k, m, bw) => k != 0 && decide (2 * (c - m).natAbs ≤ bw) | none => false))

/-- A candidate put among others, strongest first. -/
def strongFirst (c : Int × Nat) : List (Int × Nat) → List (Int × Nat)
  | [] => [c]
  | d :: r => if d.2 < c.2 then c :: d :: r else d :: strongFirst c r

/-- The candidates that no notch covers, strongest first (03 R104, R105). -/
def uncovered (st : IfStream) : List (Int × Nat) :=
  ((st.candidates.filter (fun c => decide (3 ≤ c.2.2) && !covered st c.1)).map (fun c => (c.1, c.2.1))).foldl (fun l c => strongFirst c l) []

/-- The first ADAPTIVE slot that holds nothing. -/
def freeSlot (st : IfStream) : Option Nat := st.notches.findIdx? (fun x => x.mode == 2 && x.active.isNone && x.next.isNone)

/-- NOTCH_OVERFLOW once for each run of candidates that find no slot (03 R105). -/
def overflowTest (n : Nat) (s : State) : State :=
  let st := streamOf s n
  let left := if (freeSlot st).isSome then 0 else (uncovered st).length
  raiseIf (decide (0 < left) && !st.overflow) { code := 0x0308, sev := 3, src := 2, p0 := n, p1 := left }
    (setStream n (fun x => { x with overflow := decide (0 < left) }) s)

/-- The settings that wait take their slots at a frame marker (03 R105). -/
def applyNext (st : IfStream) : IfStream :=
  let moves := (st.notches.map (fun x => match x.next, x.active with
    | none, _ => []
    | some (k, m, bw), old =>
      let ins := if k == 2 && old.isNone && bw == 0 then none else if k == 0 || bw == 0 then none else some (m, bw)
      match old, ins with
      | none, some (m, _) => [m]
      | some (o, _), none => [o]
      | some (o, w), some (m, _) => if w < (o - m).natAbs then [o, m] else []
      | none, none => [])).flatten
  { st with
    notchMoves := moves ++ st.notchMoves
    notches := st.notches.map (fun x => match x.next with
      | none => x
      | some (k, m, bw) => { x with mode := k, active := if k == 0 || bw == 0 then none else some (m, bw), next := none, lowFrom := none }) }

/-- ADAPTIVE slots take the strongest candidates (03 R105). -/
def assignNotches : Nat → Nat → State → State
  | 0, _, s => s
  | k + 1, n, s =>
    let st := streamOf s n
    match freeSlot st, uncovered st with
    | some i, (c, _) :: _ =>
      assignNotches k n (raise { code := 0x0307, sev := 1, src := 2, p0 := n, p1 := i, p2 := w32 c }
        (setStream n (fun x => { x with notches := lmod x.notches i (fun y => { y with active := some (c, y.bw), home := c, lowFrom := none }), notchMoves := c :: x.notchMoves }) s))
    | _, _ => s

/-- Declaring a stream after a good marker (03 R99). -/
def markerState (cyc : Nat) (st : IfStream) : IfStream × Bool :=
  if st.st == 2 then
    match st.rateOkFrom with
    | some c => if c + cycMs 10000 ≤ cyc then (if 8 ≤ st.good then ({ st with st := 1, rateOkFrom := none }, true) else ({ st with st := 0, rateOkFrom := none }, false)) else (st, false)
    | none => (st, false)
  else if st.st == 0 && decide (8 ≤ st.good) then ({ st with st := 1 }, true) else (st, false)

/-- A stream becomes DOWN (03 R99): on the third marker missing in a row, at the instant at which it was due, or on its code errors. -/
def doIfLost (n cause : Nat) (s : State) : State :=
  if decide (7 < n) || (streamOf s n).st == 0 || !navUp s then s
  else
    let s1 := match cause % 2, (streamOf s n).lastMarker with | 0, some l => runTo (l + 3 * ms1) s | _, _ => s
    raise { code := 0x0302, sev := 4, src := 2, p0 := n, p1 := cause % 2 }
      (streamLost n (setStream n (fun x => { x with st := 0, good := 0, lastMarker := none, rateOkFrom := none }) s1))

/-- GNSS_IF_LINK_LOST (03 R99). -/
def execGnssIfLinkLost (stream cause : Nat) (s : State) : Host.Outcome State Fault Refusal := done (doIfLost stream cause s)

/-- Three markers of a stream were missing before one that arrives at `t` (03 R99). -/
def markersMissed (n t : Nat) (s : State) : Bool :=
  (streamOf s n).st != 0 && (match (streamOf s n).lastMarker with | some l => decide (l + 4 * ms1 ≤ t + us1) | none => false)

/-- A frame marker arrives on a stream at a Device Time (03 R99, R105). -/
def doMarker (n t : Nat) (s0 : State) : State :=
  if decide (7 < n) || !navUp s0 then s0
  else
    let s := if markersMissed n t s0 then doIfLost n 0 s0 else s0
    let s1 := runTo t s
    let st := streamOf s1 n
    let good := match st.lastMarker with
      | some l => if decide (((t : Int) - l - (ms1 : Nat)).natAbs ≤ us1) then st.good + 1 else 1
      | none => 1
    let (st1, up) := markerState s1.time.cyc { st with good := min good 8, lastMarker := some t }
    let s2 := raiseIf up { code := 0x0301, sev := 1, src := 2, p0 := n } (setStream n (fun _ => applyNext st1) s1)
    overflowTest n (assignNotches 4 n s2)

/-- IF_FRAME_MARKER (03 R99). -/
def execIfFrameMarker (stream t : Nat) (s : State) : Host.Outcome State Fault Refusal := done (doMarker stream t s)

/-- The marker rate of a stream over 1 s (03 R99). -/
def doIfRate (n : Nat) (ppb : Int) (s : State) : State :=
  if decide (7 < n) || !navUp s || (streamOf s n).lastMarker.isNone then s
  else
    let st := streamOf s n
    if 1000 < ppb.natAbs then
      let s1 := setStream n (fun x => { x with st := 2, rateOkFrom := none }) s
      if st.st == 2 then s1 else raise { code := 0x0303, sev := 4, src := 2, p0 := n, p1 := w32 ppb } (streamLost n s1)
    else if st.st == 2 then setStream n (fun x => { x with rateOkFrom := if ppb.natAbs ≤ 500 then some (x.rateOkFrom.getD s.time.cyc) else none }) s
    else s

/-- IF_CLOCK_FAULT (03 R99). -/
def execIfClockFault (stream : Nat) (ppb : Int) (s : State) : Host.Outcome State Fault Refusal := done (doIfRate stream ppb s)

/-- The peak nearest to a notch's centre among those within 500 kHz of where its candidate stood when the notch was assigned: the range is measured from there
(03 R105, log entry 63). -/
def nearestPeak (ps : List (Int × Nat)) (home m : Int) : Option (Int × Nat) :=
  (ps.filter (fun p => decide ((p.1 - home).natAbs ≤ 500000))).foldl (fun b p => match b with
    | none => some p
    | some q => if (p.1 - m).natAbs < (q.1 - m).natAbs then some p else some q) none

/-- A peak lies in the bins that a notch covers (03 R105). -/
def inNotch (w : Nat) (m : Int) (bw : Nat) (c : Int) : Bool := decide (2 * (c - m).natAbs ≤ bw + w)

/-- An ADAPTIVE notch after an average: it follows its candidate, which still exceeds NOTCH_THRESH; otherwise its covered bins have, or have not, stayed below
NOTCH_THRESH - 3 dB (03 R105). -/
def trackNotch (cyc thresh w : Nat) (ps : List (Int × Nat)) (x : Notch) : Notch :=
  match x.mode, x.active, x.next with
  | 2, some (m, bw), none =>
    match nearestPeak (ps.filter (fun p => decide (4 * thresh < p.2))) x.home m with
    | some (c, _) => { x with lowFrom := none, next := if c == m then none else some (2, c, bw) }
    | none =>
      if ps.any (fun p => decide (4 * thresh ≤ p.2 + 12) && inNotch w m bw p.1) then { x with lowFrom := none }
      else { x with lowFrom := some (x.lowFrom.getD cyc) }
  | _, _, _ => x

/-- The bins that a peak covers, by number from the LO: those between which its centre lies (03 R104). -/
def binsOf (w : Nat) (c : Int) : List Int := if c % (w : Int) == 0 then [c / (w : Int)] else [c / (w : Int), c / (w : Int) + 1]

/-- The bins above the threshold after an average, each with the number of averages in a row (03 R104). -/
def countBins (w : Nat) (above : List (Int × Nat)) (old : List (Int × Nat)) : List (Int × Nat) :=
  ((above.map (fun p => binsOf w p.1)).flatten.eraseDups).map (fun b => (b, ((old.find? (fun e => e.1 == b)).map (·.2)).getD 0 + 1))

/-- A 16 ms average completes on a stream (03 R104, R105). -/
def doAverage (n : Nat) (peaks : List (Int × Nat)) (s : State) : State :=
  if decide (7 < n) || !navUp s || (streamOf s n).st != 1 then s
  else
    let st := streamOf s n
    let above := peaks.filter (fun p => decide (4 * st.thresh < p.2))
    let bins := countBins (binWidth n) above st.bins
    let runs := fun (c : Int) => ((bins.filter (fun e => (binsOf (binWidth n) c).contains e.1)).map (·.2)).foldl max 1
    let cand := above.map (fun p => (p.1, p.2, runs p.1))
    overflowTest n (setStream n (fun x => { x with bins := bins, candidates := cand, notches := x.notches.map (trackNotch s.time.cyc x.thresh (binWidth n) peaks) }) s)

/-- SPECTRAL_AVERAGE (03 R104). -/
def execSpectralAverage (stream : Nat) (peaks : List (Int × Nat)) (s : State) : Host.Outcome State Fault Refusal := done (doAverage stream peaks s)

/-- An ADAPTIVE slot whose bins have been low for 1 s is released; its notch goes at the next frame marker (03 R105). A setting that waits for its slot
stays. -/
def doNotchRelease (n i : Nat) (s : State) : State :=
  match (streamOf s n).notches[i]? with
  | none => s
  | some x => match x.mode, x.active, x.lowFrom, x.next with
    | 2, some _, some c, none =>
      if !navUp s then s
      else overflowTest n (setStream n (fun st => { st with notches := lmod st.notches i (fun y => { y with next := some (2, 0, 0) }) }) (runToCyc (c + cycMs 1000) s))
    | _, _, _, _ => s

/-- NOTCH_RELEASE (03 R105). -/
def execNotchRelease (stream slot : Nat) (s : State) : Host.Outcome State Fault Refusal := done (doNotchRelease stream slot s)

/-! ## The jamming indicator (03 R107, R108) -/

/-- 10 x log10(n0 / floor) with LSB 0.25 dB, rounded down, clamped to 0 to 0xFE (03 R107): the greatest k with n0^40 at least
floor^40 x 10^k. -/
def jiOf (n0 floor : Nat) : Nat :=
  [128, 64, 32, 16, 8, 4, 2, 1].foldl (fun k b => if decide (k + b ≤ 254) && decide (floor ^ 40 * 10 ^ (k + b) ≤ n0 ^ 40) then k + b else k) 0

/-- JI takes a value: the crossings of the thresholds (03 R108). -/
def setJi (n : Nat) (v warn severe : Nat) (prev : Nat) (s : State) : State :=
  let known := v != 255
  let was := fun (th : Nat) => prev != 255 && decide (th ≤ prev)
  let upW := known && decide (warn ≤ v) && !was warn
  let upS := known && decide (severe ≤ v) && !was severe
  let s1 := setStream n (fun x => { x with
    ji := v
    jamFrom := if upW then some (x.jamFrom.getD s.time.cyc) else x.jamFrom
    belowFrom := if known && decide (v + 8 < warn) then some (x.belowFrom.getD s.time.cyc) else none }) s
  raiseIf upS { code := 0x0305, sev := 4, src := 2, p0 := n, p1 := v } (raiseIf upW { code := 0x0304, sev := 3, src := 2, p0 := n, p1 := v } s1)

/-- The floor of a stream is learned: the mean N0 of 10 s without a notch and with JI below 1 dB (03 R107, 16 R596). -/
def learnFloor (n n0 : Nat) (s : State) : State :=
  let st := streamOf s n
  let quiet := st.notches.all (fun x => x.active.isNone) && (st.ji == 255 || decide (st.ji < 4))
  if !quiet then setStream n (fun x => { x with learnFrom := none, learnSum := 0, learnN := 0 }) s
  else
    let frm := st.learnFrom.getD s.time.cyc
    let sum := st.learnSum + n0
    let cnt := st.learnN + 1
    if decide (frm + cycMs 10000 ≤ s.time.cyc) then
      let f := sum / cnt
      journalLog { type := 1, key := settingKey 4 n, payload := (antOf s (n / 4)).serial ++ le 8 f, prio := 5, schema := s.update.schema }
        (setStream n (fun x => { x with floor := some f, learnFrom := some s.time.cyc, learnSum := 0, learnN := 0 }) s)
    else setStream n (fun x => { x with learnFrom := some frm, learnSum := sum, learnN := cnt }) s

/-- The noise probe of a stream gives a reading (03 R107, R108). -/
def doProbe (n n0 : Nat) (s : State) : State :=
  if decide (7 < n) || !navUp s || (streamOf s n).st != 1 then s
  else
    let st := streamOf s n
    let v := match st.floor with | some f => jiOf n0 f | none => 255
    passDone 5 (learnFloor n n0 (setJi n v s.gnss.jamWarn s.gnss.jamSevere st.ji s))

/-- NOISE_PROBE_READING (03 R107). -/
def execNoiseProbeReading (stream n0 : Nat) (s : State) : Host.Outcome State Fault Refusal := done (doProbe stream n0 s)

/-- JI has stayed below JAM_WARN - 2 dB for 1 s (03 R108). -/
def doJamClear (n : Nat) (s : State) : State :=
  match (streamOf s n).jamFrom, (streamOf s n).belowFrom with
  | some j, some b =>
    let s1 := runToCyc (b + cycMs 1000) s
    raise { code := 0x0306, sev := 2, src := 2, p0 := n, p1 := (streamOf s n).ji, p2 := (s1.time.cyc - j) / cycMs 1 % 2 ^ 32 }
      (setStream n (fun x => { x with jamFrom := none, belowFrom := none }) s1)
  | _, _ => s

/-- JAM_CLEAR (03 R108). -/
def execJamClear (stream : Nat) (s : State) : Host.Outcome State Fault Refusal := done (doJamClear stream s)

/-! ## Acquisition (03 R111) -/

/-- A confirmed detection is handed to a channel, queued, or discarded where the queue is full (03 R111). -/
def detect (d : Detection) (s : State) : State :=
  match assign d s with
  | some s1 => s1
  | none =>
    if s.gnss.queue.length < 32 then { s with gnss := { s.gnss with queue := s.gnss.queue ++ [d] } }
    else { s with gnss := { s.gnss with discarded := (s.gnss.discarded + 1) % 2 ^ 32 } }

/-- A search ends on the engine that runs it, at the time that its parameters give (03 R109 to R112); where its peak lies among what the engine tests, exceeds
ACQ_THRESH and is confirmed in 2 of 3 dwells, a detection follows (03 R111). -/
def doSearch (sig sv ant gloK codePhase : Nat) (carrRate : Int) (peak dwells : Nat) (s0 : State) : State :=
  if !navUp s0 || decide (1 < ant) || decide (13 < gloK) || !gSvOk (gSystem sig) sv || !gSearched.contains sig then s0
  else
    let s := fillEngines s0
    match searchOf s sig sv ant gloK with
    | none => s
    | some x =>
      let found := inSearch s sig sv ant gloK codePhase carrRate && decide (s.gnss.acqThresh < peak) && decide (2 ≤ dwells)
      let s1 := endSearch x sv gloK s
      fillEngines (if !found then s1
        else detect { signal := sig, sv := sv, ant := ant, gloK := if gSystem sig == 2 then gloK else 0, codePhase := codePhase % (65536 * (gCode sig).1),
                      carrRate := carrRate, at_ := s1.time.cyc } s1)

/-- ACQ_SEARCH_DONE (03 R111). -/
def execAcqSearchDone (signal sv ant gloK codePhase : Nat) (carrRate : Int) (peak dwells : Nat) (s : State) : Host.Outcome State Fault Refusal :=
  done (doSearch signal sv ant gloK codePhase carrRate peak dwells s)

/-- The oldest detection has waited 1 s (03 R111). -/
def doDiscard (s : State) : State :=
  match s.gnss.queue with
  | [] => s
  | d :: r => let s1 := runToCyc (d.at_ + cycMs 1000) s
              { s1 with gnss := { s1.gnss with queue := r, discarded := (s1.gnss.discarded + 1) % 2 ^ 32 } }

/-- DETECTION_DISCARD (03 R111). -/
def execDetectionDiscard (s : State) : Host.Outcome State Fault Refusal := done (doDiscard s)

/-! ## Measurement epochs and records (03 R116 to R123) -/

/-- The offset of a signal's carrier from the LO in the stream (03 R101, R106). -/
def carrierOffset (s : State) (sig ant gloK : Nat) : Int :=
  let g := gGroup sig
  let d := gCarrier sig gloK - loOf s ant g
  match (antOf s ant).block with | some b => if bit (uAt b 3 1) g then -d else d | none => d

/-- The observations of a stream are JAMMED (03 R108). -/
def jammed (s : State) (n : Nat) : Bool := let v := (streamOf s n).ji; v != 255 && decide (s.gnss.jamSevere ≤ v)

/-- CH_CFG and CH_STATUS (03 R117, R118). -/
def chWords (s : State) (c : GChan) : Nat × Nat :=
  let st := match c.st with | .idle => 0 | .pullIn => 1 | .track => 2 | .reacq => 3
  let codeLock := (c.st == ChSt.pullIn && decide (25 * 256 < c.cn0)) || (c.st == ChSt.track && decide (20 * 256 < c.cn0))
  (2 ^ 20 * gStream c.signal c.ant + 65536 * c.signal + 2 ^ 14 * gSystem c.signal + bitIf c.hostHeld 13 + c.sv % 256,
   (if gSystem c.signal == 2 then 2 ^ 28 * c.gloK else 0) + bitIf (antOf s c.ant).block.isNone 10 + bitIf (jammed s (gStream c.signal c.ant)) 9 + bitIf c.notchIn 8 +
     bitIf c.halfCycle 7 + bitIf c.frameSync 6 + bitIf c.bitSync 5 + bitIf (decide (800 < c.lock)) 4 + bitIf codeLock 3 + st)

/-- The registers of a channel latched at an epoch (03 R106, R116). -/
def latchChan (s : State) (c0 : GChan) : GChan :=
  let st := streamOf s (gStream c0.signal c0.ant)
  let off := carrierOffset s c0.signal c0.ant c0.gloK
  let inLobe := fun (m : Int) => decide ((m - off).natAbs ≤ gLobe c0.signal)
  let moved := st.notchMoves.any inLobe
  let c := { c0 with slip := moved, notchIn := moved || st.notches.any (fun x => match x.active with | some (m, _) => inLobe m | none => false)
                     trackAtEpoch := c0.st == ChSt.track }
  let p := phasesAt c s.time.cyc
  let w := chWords s c
  { c with
    carrLatched := p.2, codeLatched := p.1
    latched := [w.1, w.2, w32 c.carrRate, w32 c.codeRate, gShown c.signal p.1, w32 p.2, w32 (p.2 / (2 ^ 32 : Nat)), c.cn0, lockTime c s.time.cyc,
                w32 (65536 * c.promptI + c.promptQ % 65536), c.slips] }

/-- Channels of removed signals are released (03 R129). -/
def releaseRemoved (s : State) : State :=
  if !s.gnss.relPending then s
  else freed { s with gnss := { s.gnss with relPending := false, chans := s.gnss.chans.filter (fun e => e.2.hostHeld || signalOn s e.2.signal e.2.ant) } }

/-- Accepted ephemeris sets replace the stored ones (03 R125). -/
def takeEph (s : State) : State :=
  let l := s.gnss.ephNext
  let keep := s.gnss.eph.filter (fun e => l.all (fun n => !(n.sys == e.sys && n.sv == e.sv)))
  raises (l.map (fun e => { code := 0x030B, sev := 0, src := 2, p0 := e.sys, p1 := e.sv, p2 := e.iod })) { s with gnss := { s.gnss with eph := keep ++ l, ephNext := [] } }

/-- The next instant that is a multiple of 10 ms of Device Time and has not had its epoch (03 R120). -/
def nextEpoch (s : State) : Nat :=
  let t := padTo (10 * ms1) (dtNow s)
  if s.gnss.epoch == some t then t + 10 * ms1 else t

/-- A measurement epoch (03 R106, R116, R120, R122, R125, R129). -/
def doEpochLatch (s : State) : State :=
  if !navUp s then s
  else
    let t := nextEpoch s
    let s1 := runTo t s
    let latched := s1.gnss.chans.map (fun e => (e.1, latchChan s1 e.2))
    let s2 := { s1 with gnss := { s1.gnss with
      chans := latched, latches := latched.map (fun e => (e.1, e.2.latched))
      streams := s1.gnss.streams.map (fun x => { x with notchMoves := [] })
      epoch := some t, epochNo := s1.gnss.epochNo + 1, recordDue := !s1.time.refLost
      stepFlag := s1.gnss.clockStep, clockStep := s1.gnss.clockStep && s1.time.refLost } }
    poseEpochTick t (takeEph (releaseRemoved s2))

/-- MEASUREMENT_EPOCH (03 R120). -/
def execMeasurementEpoch (s : State) : Host.Outcome State Fault Refusal := done (doEpochLatch s)

/-- The delays of 03 R103 on a signal of an antenna, LSB 1/64 ns. -/
def delayOf (s : State) (c : GChan) : Int :=
  let a := antOf s c.ant
  a.cable + (match a.block with
    | none => 0
    | some b => iAt b (20 + 4 * gGroup c.signal) 4 +
        (if c.signal == 6 then iAt b 36 2 * ((c.gloK : Int) - 7) else if c.signal == 7 then iAt b 38 2 * ((c.gloK : Int) - 7) else 0))

/-- The instant at which the satellite sent what the channel received at the epoch, 2^-16 ns: the decoded time of the start of the code period, and the code phase
after it (03 R120). -/
def transmitAt (c : GChan) (decoded : Nat) : Nat := decoded + c.codeLatched * 1000000000 / gChipRate c.signal

/-- The pseudorange of a channel at an epoch, LSB 2^-16 m: c x (epoch - transmit time), the delays removed (03 R103, R120). -/
def pseudorange (s : State) (c : GChan) (decoded : Nat) : Nat :=
  ((((s.gnss.epoch.getD 0 : Int) - transmitAt c decoded) - 1024 * delayOf s c) * lightSpeed / 1000000000).toNat

/-- OBS_FLAGS of a channel's observation (03 R121). -/
def obsFlags (s : State) (c : GChan) : Nat :=
  bitIf c.slip 0 + bitIf c.halfCycle 1 + bitIf c.notchIn 2 + bitIf (jammed s (gStream c.signal c.ant)) 3 + bitIf (antOf s c.ant).block.isNone 4 +
    bitIf (!hasEph s (gSystem c.signal) c.sv) 5

/-- The observation of channel `n` (03 R121). -/
def obsOf (s : State) (n decoded : Nat) (c : GChan) : Obs :=
  { signal := c.signal, sv := c.sv, ant := c.ant, gloK := if gSystem c.signal == 2 then c.gloK else 0, flags := obsFlags s c, range := pseudorange s c decoded
    carr := c.carrLatched, dopp := signed 32 (c.latched.getD 2 0), cn0 := c.latched.getD 7 0, lockMs := c.latched.getD 8 0, chan := n }

/-- One observation of the record (03 R121). -/
def obsBytes (o : Obs) : List Byte :=
  le 1 o.signal ++ le 1 o.sv ++ le 1 (o.ant + 16 * o.gloK) ++ le 1 o.flags ++ le 8 o.range ++ leI 8 o.carr ++ leI 4 o.dopp ++ le 2 o.cn0 ++ le 4 o.lockMs ++ le 2 o.chan

/-- The observations of the channels in TRACK at the epoch whose transmit time is decoded, above the C/N0 mask (03 R120, R129). -/
def observations (decoded : List (Nat × Nat)) (s : State) : List Obs :=
  s.gnss.chans.filterMap (fun e =>
    if !e.2.trackAtEpoch || decide (e.2.latched.getD 7 0 < 256 * s.gnss.cn0Mask) then none
    else (decoded.find? (fun r => r.1 == e.1)).map (fun r => obsOf s e.1 r.2 e.2))

/-- The record of the epoch reaches the RTK engine (03 R120). -/
def keepObs (decoded : List (Nat × Nat)) (s : State) : State :=
  { s with gnss := { s.gnss with obs := observations decoded s, obsAt := s.gnss.epoch, obsStep := s.gnss.stepFlag } }

/-- The measurement record (03 R121). -/
def measRecord (decoded : List (Nat × Nat)) (neap : Bool) (s : State) : List Byte :=
  let o := (observations decoded s).map obsBytes
  dtBytes (s.gnss.epoch.getD 0) ++ le 2 o.length ++ le 1 (bitIf s.gnss.stepFlag 0 + bitIf (deltaAcc s.time != 0) 1 + bitIf neap 2) ++ [0] ++
  leI 4 (satI 32 s.gnss.clockBias) ++ (s.gnss.isb.map (fun v => leI 4 (satI 32 v))).flatten ++ o.flatten

/-- Satellites of a system in TRACK with ephemeris (03 R123). -/
def solvedSats (s : State) (sys : Nat) : Nat :=
  ((s.gnss.chans.filter (fun e => e.2.st == ChSt.track && gSystem e.2.signal == sys && hasEph s sys e.2.sv)).map (fun e => e.2.sv)).eraseDups.length

/-- The systems whose offset an epoch updates: at least two of their satellites are in TRACK with ephemeris (03 R123). -/
def isbUpdated (s : State) (y : Nat) : Bool := decide (2 ≤ solvedSats s y) && bit s.gnss.systems y

/-- A system may contribute to the clock solution: GPS, or one whose offset has been updated within 60 s or is updated now (03 R123). -/
def contributes (s : State) (y : Nat) : Bool :=
  y == 0 || isbUpdated s y || (match s.gnss.isbAt.getD (y - 1) none with | some c => decide (s.time.cyc ≤ c + cycMs 60000) | none => false)

/-- A standalone solution: clock states, the GNSS measurement of the time domain with three standard deviations as its uncertainty, and the base's use of it (03 R123, 02 R47,
R55, R67, 04 R165, R166). The clock offset is converted to TAI, 19 s ahead of GPS time; CLOCK_BIAS, whose 32 bits do not reach 19 s, states it so converted (log entry 64). A solution with a
system that may not contribute is not formed. -/
def takeSolution (v : Standalone) (s : State) : State :=
  if (List.range 4).any (fun y => bit v.used y && !contributes s y) then s
  else
    let cyc := s.time.cyc
    let pick := fun (k : Nat) => isbUpdated s (k + 1)
    let clock := v.clock - 19 * (sec1 : Int)
    let s1 := { s with gnss := { s.gnss with
      clockBias := clock / 16384, fixPos := some v.xyz
      isb := (List.range 3).map (fun k => if pick k then v.isb.getD k 0 else s.gnss.isb.getD k 0)
      isbAt := (List.range 3).map (fun k => if pick k then some cyc else s.gnss.isbAt.getD k none) } }
    let s2 := match domFrom s1 1 with
      | none => s1
      | some k =>
        if !sourceServes 1 s1 then s1
        else
          let d := domOf s1.time k
          measure k ((domNow d : Int) - (dtNow s1 : Int) + clock - 1024 * d.delay) (domNow d) (some (3 * v.uncert)) s1
    baseStandalone v.xyz v.sigma v.vec s2

/-- The measurement record of the last epoch (03 R120, R121, R123). -/
def doRecord (decoded : List (Nat × Nat)) (sol : Option Standalone) (s : State) : State :=
  if !navUp s || !s.gnss.recordDue || s.time.refLost || s.power.st == Power.neap then s
  else
    let s1 := keepObs decoded (match sol with
      | some v => if s.gnss.epochNo % 10 == 0 then takeSolution v s else s
      | none => s)
    let n := s1.gnss.measCount + 1
    let hit := s1.gnss.measSub != 0 && decide (s1.gnss.measSub ≤ n)
    let s2 := { s1 with gnss := { s1.gnss with recordDue := false, measCount := if hit || s1.gnss.measSub == 0 then 0 else n } }
    if hit then sendS1 0x10 (measRecord decoded false s2) s2 else s2

/-- MEASUREMENT_RECORD (03 R120). -/
def execMeasurementRecord (raw : List (Nat × Nat)) (sol : Option Standalone) (s : State) : Host.Outcome State Fault Refusal := done (doRecord raw sol s)

/-! ## Navigation data (03 R124 to R126) -/

/-- A unit failed its check: NAV_CHECK_FAIL at most once per channel per second, with the failures of the last second (03 R131). -/
def checkFail (n unitType : Nat) (s : State) : State :=
  match tget s.gnss.chans n with
  | none => s
  | some c =>
    let fails := c.fails.filter (fun x => decide (s.time.cyc < x + cycMs 1000)) ++ [s.time.cyc]
    let free := match c.failSec with | some x => decide (x + cycMs 1000 ≤ s.time.cyc) | none => true
    let s1 := setChan n (fun c => { c with fails := fails, failSec := if free then some s.time.cyc else c.failSec }) s
    raiseIf free { code := 0x030A, sev := 1, src := 2, p0 := n, p1 := unitType, p2 := fails.length } s1

/-- What a passed unit of a channel gives (03 R123, R125, 02 R47): a broadcast offset serves while the receiver has estimated none. -/
def navYield (c : GChan) (unitType : Nat) (payload : List Byte) (y : NavYield) (s : State) : State :=
  match y with
  | .nothing => s
  | .ephemeris iod => ephUnit c.signal c.sv c.gloK unitType iod payload s
  | .interSystem sys v =>
    if sys == 0 || decide (3 < sys) || (s.gnss.isbAt.getD (sys - 1) none).isSome then s
    else { s with gnss := { s.gnss with isb := lmod s.gnss.isb (sys - 1) (fun _ => v) } }
  | .taiUtc v =>
    let excess := match s.time.leapAnnounced with | some x => decide (sec1 * x ≤ dtNow s) | none => true
    { s with time := { s.time with taiUtc := v % 256, leapPending := s.time.leapPending && !excess } }
  | .leap v sec =>
    raiseIf (s.time.leapAnnounced != some sec) { code := 0x030C, sev := 2, src := 2, p0 := v, p1 := sec % 2 ^ 32 }
      { s with time := { s.time with leapPending := true, leapAnnounced := some sec } }

/-- The first `n` bits of a payload, the last byte padded with zeros (03 R126). -/
def bitsOnly (n : Nat) (p : List Byte) : List Byte :=
  let b := (p ++ List.replicate ((n + 7) / 8 - p.length) 0).take ((n + 7) / 8)
  if n % 8 == 0 then b else b.dropLast ++ le 1 ((b.getLast?.getD 0).toNat / 2 ^ (8 - n % 8) * 2 ^ (8 - n % 8))

/-- The navigation record (03 R126). -/
def navRecord (c : GChan) (unitType check firstBit bits : Nat) (payload : List Byte) : List Byte :=
  let b := bitsOnly bits payload
  le 1 c.signal ++ le 1 c.sv ++ le 1 unitType ++ le 1 check ++ dtBytes firstBit ++ le 2 bits ++ [0, 0] ++ b ++ List.replicate (padTo 4 b.length - b.length) 0

/-- A navigation unit is decoded on a channel: error correction, check, use and record (03 R124 to R126). -/
def doNavUnit (n unitType : Nat) (fecOk : Bool) (firstBit bits : Nat) (payload : List Byte) (y : NavYield) (s : State) : State :=
  match tget s.gnss.chans n with
  | none => s
  | some c =>
    if !navUp s || !c.bitSync || c.st != ChSt.track then s
    else
      let unit := unitType % 256
      let data := bitsOnly (bits % 65536) payload
      let check := unitCheck (gMessage c.signal) fecOk (bits % 65536) data
      let s1 := if check == 0 then navYield c unit data y s else checkFail n unit s
      if bit s1.gnss.navSub (gSystem c.signal) && (check == 0 || s1.gnss.navFailed) then sendS1 0x11 (navRecord c unit check firstBit (bits % 65536) payload) s1
      else s1

/-- NAV_UNIT_DECODED (03 R124). -/
def execNavUnitDecoded (ch unitType : Nat) (fecOk : Bool) (firstBit bits : Nat) (payload : List Byte) (y : NavYield) (s : State) : Host.Outcome State Fault Refusal :=
  done (doNavUnit ch unitType fecOk firstBit bits payload y s)

/-! ## Bursts in NEAP (03 R127, R128) -/

/-- Entry to NEAP: only group 0 of antenna 0 is tracked, on up to 24 channels, which are held (03 R127). -/
def gnssNeap (s : State) : State :=
  let keep := (s.gnss.chans.filter (fun e => gGroup e.2.signal == 0 && e.2.ant == 0 && (e.2.st == ChSt.track || e.2.st == ChSt.reacq))).take 24
  let c := s.time.cyc
  { s with gnss := { s.gnss with chans := keep.map (fun e => (e.1, e.2.enter .reacq c)), queue := [], engines := List.replicate 32 none, round := [], burstAt := none, burstExt := false, lastBurst := some c, recordDue := false
                                 streams := s.gnss.streams.map (fun x => { x with st := 0, good := 0, lastMarker := none }) } }

/-- Return to SPRING: every held channel is restored in REACQ (03 R128). -/
def gnssSpring (s : State) : State :=
  { s with gnss := { s.gnss with chans := s.gnss.chans.map (fun e => (e.1, e.2.enter .reacq s.time.cyc)), engines := List.replicate 32 none, round := [], burstAt := none, burstExt := false } }

/-- PD_NAV powers up for a burst, BURST_PERIOD after the last one (03 R127). -/
def doBurstStart (s : State) : State :=
  if s.power.st != Power.neap || s.gnss.burstAt.isSome then s
  else
    let s1 := match s.gnss.lastBurst with | some c => runToCyc (c + cycMs s.gnss.burstPeriod) s | none => s
    { s1 with gnss := { s1.gnss with burstAt := some s1.time.cyc, lastBurst := some s1.time.cyc, burstExt := false
                                     chans := s1.gnss.chans.map (fun e => (e.1, e.2.enter .reacq s1.time.cyc)) } }

/-- BURST_START (03 R127). -/
def execBurstStart (s : State) : Host.Outcome State Fault Refusal := done (doBurstStart s)

/-- Satellites in TRACK. -/
def trackedSats (s : State) : Nat :=
  ((s.gnss.chans.filter (fun e => e.2.st == ChSt.track)).map (fun e => 256 * gSystem e.2.signal + e.2.sv)).eraseDups.length

/-- During NEAP the GNSS domain uses the default gains of PPS_IN (03 R127, 02 R59). -/
def withPpsGains (k : Nat) (f : State → State) (s : State) : State :=
  let d := domOf s.time k
  let s1 := f (setDom k { d with kp := kpDefault 2, ki := kiDefault 2 } s)
  setDom k { domOf s1.time k with kp := d.kp, ki := d.ki } s1

/-- BURST_ON has passed: the burst is extended once where fewer than 4 satellites are in TRACK, else it ends (03 R127). -/
def doBurstEnd (raw : List (Nat × Nat)) (sol : Option Standalone) (s : State) : State :=
  match s.gnss.burstAt with
  | none => s
  | some c =>
    if s.power.st != Power.neap then s
    else
      let s1 := runToCyc (c + cycMs (if s.gnss.burstExt then 2 * s.gnss.burstOn else s.gnss.burstOn)) s
      if decide (trackedSats s1 < 4) && !s1.gnss.burstExt then { s1 with gnss := { s1.gnss with burstExt := true } }
      else
        let s2 := match sol, domFrom s1 1 with
          | none, _ => s1
          | some v, some k => withPpsGains k (takeSolution v) s1
          | some v, none => takeSolution v s1
        let due := s2.gnss.recordDue && !s2.time.refLost
        let s2 := if due then keepObs raw s2 else s2
        let s3 := if due && s2.gnss.measSub != 0 then sendS1 0x10 (measRecord raw true s2) s2 else s2
        let chans := s3.gnss.chans.filterMap (fun e =>
          let m := if e.2.st == ChSt.track || e.2.st == ChSt.pullIn then 0 else e.2.burstMiss + 1
          if 3 ≤ m then none else some (e.1, { e.2.enter .reacq s3.time.cyc with burstMiss := m }))
        { s3 with gnss := { s3.gnss with chans := chans, engines := List.replicate 32 none, round := [], burstAt := none, burstExt := false, recordDue := false
                                         streams := s3.gnss.streams.map (fun x => { x with st := 0, good := 0, lastMarker := none }) } }

/-- BURST_END (03 R127). -/
def execBurstEnd (raw : List (Nat × Nat)) (sol : Option Standalone) (s : State) : Host.Outcome State Fault Refusal := done (doBurstEnd raw sol s)

/-! ## Front-end blocks (03 R101, R102) -/

/-- The groups of a block whose LO_FREQ is invalid, among those present (03 R102). -/
def badGroups (b : List Byte) : List Nat :=
  (List.range 4).filter (fun g => bit (uAt b 2 1) g && decide (2000000 < ((uAt b (4 + 4 * g) 4 : Int) - loNominal g).natAbs))

/-- A block has the layout of 03 R101. -/
def feBlockOk (b : List Byte) : Bool := b.length == 68 && uAt b 0 2 == 1 && decide (uAt b 2 1 < 16) && decide (uAt b 3 1 < 16)

/-- FRONTEND_UNCALIBRATED (03 R102). -/
def uncalibrated (ant cause group : Nat) (s : State) : State := raise { code := 0x030D, sev := 3, src := 2, p0 := ant, p1 := cause, p2 := group } s

/-- The identity memory of an antenna's module has been read: none where it cannot be read; the serial number of the module, and its
type-specific block where its check holds (03 R102, 07 R285). -/
def frontendRead (ant : Nat) (serial : List Byte) (read : Bool) (blk : Option (List Byte)) (s : State) : State :=
  if (antOf s ant).hostBlock then s
  else
    let put := fun (b : Option (List Byte)) (st : State) => { st with gnss := { st.gnss with ants := lmod st.gnss.ants ant (fun a => { a with block := b, serial := serial }) } }
    match read, blk with
    | false, _ => uncalibrated ant 0 0 (put none s)
    | true, none => uncalibrated ant 1 0 (put none s)
    | true, some b =>
      if !feBlockOk b then uncalibrated ant 1 0 (put none s)
      else (badGroups b).foldl (fun st g => uncalibrated ant 2 g st) (put (some b) s)

/-- The learned floors of the streams return from the journal for the modules that are fitted (03 R107, 16 R596). -/
def restoreFloors (s : State) : State :=
  (List.range 8).foldl (fun st n =>
    match setting st (settingKey 4 n) with
    | some r => if r.payload.take 8 == (antOf st (n / 4)).serial && r.payload.length == 16 then setStream n (fun x => { x with floor := some (uAt r.payload 8 8) }) st
                else setStream n (fun x => { x with floor := none }) st
    | none => st) s

/-- A channel register through the indirect window (03 R116). -/
def gnssReg (s : State) (off : Nat) : Nat := match tget s.gnss.latches (off / 64) with
  | some l => if off % 64 % 4 == 0 then l.getD (off % 64 / 4) 0 else 0
  | none => 0

/-! ## Commands (03 R129) -/

/-- The body of GNSS_CONFIG. -/
def gnssConfig (p : List Byte) (s : State) : Reply × State :=
  if decide (15 < uAt p 0 1) || !zeros p 1 1 || decide (0x7FF < uAt p 2 2) || decide (3 < uAt p 4 1) || decide (30 < uAt p 5 1) then refuse stBadParam s
  else ok { s with gnss := { s.gnss with systems := uAt p 0 1, signals := uAt p 2 2, antennas := uAt p 4 1, elMask := uAt p 5 1, cn0Mask := uAt p 6 1, relPending := true } }

/-- GNSS_CONFIG. -/
def execGnssConfig (c : Cmd) (s : State) : Host.Outcome State Fault Refusal := done (command 0x0301 7 0 none gnssConfig c s)

/-- The result of GNSS_STATUS. -/
def gnssStatusBytes (s : State) : List Byte :=
  let g := s.gnss
  (g.streams.map (fun x => le 1 x.st)).flatten ++ (g.streams.map (fun x => le 1 x.ji)).flatten ++
  le 2 (g.chans.filter (fun e => e.2.st == ChSt.track)).length ++ le 2 (g.chans.filter (fun e => e.2.hostHeld)).length ++ le 4 g.discarded ++
  (g.streams.map (fun x => le 1 ((List.range 4).map (fun k => ((x.notches.getD k {}).mode) * 4 ^ k)).sum)).flatten ++ List.replicate 8 0

/-- GNSS_STATUS: the modes take eight of its bytes 24 to 39, two bits a slot; the others are zero. -/
def execGnssStatus (c : Cmd) (s : State) : Host.Outcome State Fault Refusal := done (command 0x0302 0 40 none (fun _ s => okWith (gnssStatusBytes s) s) c s)

/-- The body of GNSS_FRONTEND_SET (03 R102, R103). -/
def gnssFrontendSet (p : List Byte) (s : State) : Reply × State :=
  let a := uAt p 0 1
  let b := (p.drop 12).take 68
  if decide (1 < a) || !zeros p 1 3 || decide (1 < uAt p 8 1) || !zeros p 9 3 then refuse stBadParam s
  else if uAt p 8 1 == 0 then ok { s with gnss := { s.gnss with ants := lmod s.gnss.ants a (fun x => { x with cable := iAt p 4 4 }) } }
  else if !feBlockOk b || !(badGroups b).isEmpty then refuse 0x0382 s
  else ok { s with gnss := { s.gnss with ants := lmod s.gnss.ants a (fun x => { x with cable := iAt p 4 4, block := some b, hostBlock := true }) } }

/-- GNSS_FRONTEND_SET: LENGTH counts the block where byte 8 says that it follows. -/
def execGnssFrontendSet (c : Cmd) (s : State) : Host.Outcome State Fault Refusal :=
  done (command 0x0303 (if uAt (prmOf c) 8 1 == 1 then 80 else 9) 0 none gnssFrontendSet c s)

/-- A unit in the record layout of 03 R126 passes the check of its message: its CHECK says so, and so do its bits. -/
def assistUnitOk (d : List Byte) : Bool :=
  decide (uAt d 0 1 ≤ 10) && uAt d 3 1 == 0 && unitCheck (gMessage (uAt d 0 1)) true (uAt d 16 2) (bitsOnly (uAt d 16 2) (d.drop 20)) == 0

/-- The body of GNSS_ASSIST: a unit of kinds 2 and 3 is in the record layout of 03 R126, whose FIRST_BIT is a Device Time (02 R46). A unit of kind 3 joins its ephemeris
set as a received one does (03 R125). -/
def gnssAssist (iod : Nat) (p : List Byte) (s : State) : Reply × State :=
  let d := p.drop 1
  match uAt p 0 1 with
  | 0 => ok { s with gnss := { s.gnss with assistTime := some d } }
  | 1 => ok { s with gnss := { s.gnss with assistPos := some d } }
  | 2 => if !dtOk d 4 then refuse stBadParam s else if !assistUnitOk d then refuse stVerifyFail s else ok { s with gnss := { s.gnss with almanac := s.gnss.almanac.filter (fun x => x.take 3 != d.take 3) ++ [d] } }
  | 3 => if !dtOk d 4 then refuse stBadParam s else if !assistUnitOk d then refuse stVerifyFail s
    else ok (ephUnit (uAt d 0 1) (uAt d 1 1) 0 (uAt d 2 1) iod (bitsOnly (uAt d 16 2) (d.drop 20))
      { s with gnss := { s.gnss with ephUnits := s.gnss.ephUnits.filter (fun x => x.take 3 != d.take 3) ++ [d] } })
  | _ => refuse stBadParam s

/-- GNSS_ASSIST. -/
def execGnssAssist (c : Cmd) (iod : Nat) (s : State) : Host.Outcome State Fault Refusal := done (command 0x0304 1 0 none (gnssAssist iod) c s)

/-- The body of GNSS_CHANNEL_REQUEST (03 R95, R119, R130). -/
def gnssChannelRequest (p : List Byte) (s : State) : Reply × State :=
  let sig := uAt p 0 1
  let sv := uAt p 1 1
  let ant := uAt p 2 1
  let k := if gSystem sig == 2 then uAt p 3 1 else 0
  if decide (10 < sig) || !gSvOk (gSystem sig) sv then refuse 0x0381 s
  else if decide (1 < ant) || decide (13 < k) then refuse stBadParam s
  else if !signalUp s sig ant then refuse 0x0380 s
  else match firstFree 384 s.gnss.chans with
    | none => refuse stNoResource s
    | some n =>
      let s1 := putChan n { signal := sig, sv := sv, ant := ant, gloK := k, hostHeld := true, since := s.time.cyc, loop := s.gnss.loops.getD sig [] } s
      let src := s1.gnss.chans.find? (fun e => e.2.sv == sv && e.2.ant == ant && gSystem e.2.signal == gSystem sig && e.2.st == ChSt.track)
      okWith (le 2 n) (match src with | some e => handover e.1 s1 | none => s1)

/-- GNSS_CHANNEL_REQUEST. -/
def execGnssChannelRequest (c : Cmd) (s : State) : Host.Outcome State Fault Refusal := done (command 0x0305 4 2 none gnssChannelRequest c s)

/-- The body of GNSS_CHANNEL_RELEASE. -/
def gnssChannelRelease (p : List Byte) (s : State) : Reply × State :=
  match tget s.gnss.chans (uAt p 0 2) with
  | some c => if c.hostHeld then ok (freed (dropChan (uAt p 0 2) s)) else refuse stBadParam s
  | none => refuse stBadParam s

/-- GNSS_CHANNEL_RELEASE. -/
def execGnssChannelRelease (c : Cmd) (s : State) : Host.Outcome State Fault Refusal := done (command 0x0306 2 0 none gnssChannelRelease c s)

/-- The body of GNSS_MEAS_SUBSCRIBE. -/
def gnssMeasSubscribe (p : List Byte) (s : State) : Reply × State :=
  if 100 < uAt p 0 1 then refuse stBadParam s else ok { s with gnss := { s.gnss with measSub := uAt p 0 1, measCount := 0 } }

/-- GNSS_MEAS_SUBSCRIBE. -/
def execGnssMeasSubscribe (c : Cmd) (s : State) : Host.Outcome State Fault Refusal := done (command 0x0307 1 0 none gnssMeasSubscribe c s)

/-- The body of GNSS_NAV_SUBSCRIBE. -/
def gnssNavSubscribe (p : List Byte) (s : State) : Reply × State :=
  if decide (15 < uAt p 0 1) || decide (1 < uAt p 1 1) then refuse stBadParam s
  else ok { s with gnss := { s.gnss with navSub := uAt p 0 1, navFailed := uAt p 1 1 == 1 } }

/-- GNSS_NAV_SUBSCRIBE. -/
def execGnssNavSubscribe (c : Cmd) (s : State) : Host.Outcome State Fault Refusal := done (command 0x0308 2 0 none gnssNavSubscribe c s)

/-- The body of GNSS_NOTCH_CONFIG: it takes its slot at the next frame marker (03 R104, R105). -/
def gnssNotchConfig (p : List Byte) (s : State) : Reply × State :=
  let n := uAt p 0 1
  let i := uAt p 1 1
  let m := uAt p 2 1
  let half := if n % 4 == 0 then 32000000 else 16000000
  if decide (7 < n) || decide (3 < i) || decide (2 < m) || !zeros p 3 1 || !within 6 40 (uAt p 12 1) ||
      (m != 0 && !within 20000 2000000 (uAt p 8 4)) || (m == 1 && decide (half < (iAt p 4 4).natAbs)) then refuse stBadParam s
  else
    let nx := if m == 1 then (1, iAt p 4 4, uAt p 8 4) else (m, (0 : Int), 0)
    ok (overflowTest n (setStream n (fun x => { x with
      thresh := uAt p 12 1
      notches := lmod x.notches i (fun y =>
        if m == 2 && y.mode == 2 then
          { y with
            bw := uAt p 8 4
            next := match y.next, y.active with
              | some (2, c, b), _ => some (2, c, if b == 0 then 0 else uAt p 8 4)
              | _, some (c, b) => if b == uAt p 8 4 then none else some (2, c, uAt p 8 4)
              | _, none => none }
        else { y with next := some nx, bw := if m == 2 then uAt p 8 4 else y.bw }) }) s))

/-- GNSS_NOTCH_CONFIG. -/
def execGnssNotchConfig (c : Cmd) (s : State) : Host.Outcome State Fault Refusal := done (command 0x0309 13 0 none gnssNotchConfig c s)

/-- The body of GNSS_LOOP_CONFIG (03 R114). -/
def gnssLoopConfig (p : List Byte) (s : State) : Reply × State :=
  if decide (10 < uAt p 0 1) || !zeros p 1 3 || !within 512 10240 (uAt p 4 4) || !within 256 5120 (uAt p 8 4) || !within 13 1280 (uAt p 12 4) ||
      !within 4 64 (uAt p 16 1) || !within 1 20 (uAt p 17 1) then refuse stBadParam s
  else ok { s with gnss := { s.gnss with loops := lmod s.gnss.loops (uAt p 0 1) (fun _ => [uAt p 4 4, uAt p 8 4, uAt p 12 4, uAt p 16 1, uAt p 17 1]) } }

/-- GNSS_LOOP_CONFIG. -/
def execGnssLoopConfig (c : Cmd) (s : State) : Host.Outcome State Fault Refusal := done (command 0x030A 18 0 none gnssLoopConfig c s)

/-- The body of GNSS_RESTART: channels and waiting detections are cleared; a channel that the host holds keeps its assignment; a cold
restart discards the stored data. -/
def gnssRestart (p : List Byte) (s : State) : Reply × State :=
  if 2 < uAt p 0 1 then refuse stBadParam s
  else if roleOf s == 0 && anyCellOn s then refuse stBadState s
  else
    let held := (s.gnss.chans.filter (fun e => e.2.hostHeld)).map (fun e => (e.1, ({ signal := e.2.signal, sv := e.2.sv, ant := e.2.ant, gloK := e.2.gloK, hostHeld := true, since := s.time.cyc } : GChan)))
    let s1 := { s with gnss := { s.gnss with chans := held, queue := [], engines := List.replicate 32 none, round := [], recordDue := false } }
    ok (if uAt p 0 1 == 0 then { s1 with gnss := { s1.gnss with eph := [], ephNext := [], ephParts := [], almanac := [], ephUnits := [], assistPos := none, assistTime := none, fixPos := none } } else s1)

/-- GNSS_RESTART. -/
def execGnssRestart (c : Cmd) (s : State) : Host.Outcome State Fault Refusal := done (command 0x030B 1 0 none gnssRestart c s)

/-- The body of GNSS_BURST_CONFIG (03 R127). -/
def gnssBurstConfig (p : List Byte) (s : State) : Reply × State :=
  let per := uAt p 0 4
  let late := [s.time.a, s.time.b].any (fun d => d.source == 1 && decide (d.timeoutMs ≤ per))
  if !within 200 7000 per || !within 50 500 (uAt p 4 4) || late then refuse stBadParam s
  else ok { s with gnss := { s.gnss with burstPeriod := per, burstOn := uAt p 4 4 } }

/-- GNSS_BURST_CONFIG. -/
def execGnssBurstConfig (c : Cmd) (s : State) : Host.Outcome State Fault Refusal := done (command 0x030C 8 0 none gnssBurstConfig c s)

/-- JI of every stream is judged anew under new thresholds (03 R108): a threshold that falls to JI or below is an upward crossing. -/
def rejudge (oldW oldS warn severe : Nat) (s : State) : State :=
  (List.range 8).foldl (fun st n =>
    let v := (streamOf st n).ji
    let upW := v != 255 && decide (warn ≤ v) && decide (v < oldW)
    let upS := v != 255 && decide (severe ≤ v) && decide (v < oldS)
    raiseIf upS { code := 0x0305, sev := 4, src := 2, p0 := n, p1 := v } (raiseIf upW { code := 0x0304, sev := 3, src := 2, p0 := n, p1 := v }
      (setStream n (fun x => { x with
        jamFrom := if upW then some (x.jamFrom.getD st.time.cyc) else x.jamFrom
        belowFrom := if v != 255 && decide (v + 8 < warn) then some (x.belowFrom.getD st.time.cyc) else none }) st))) s

/-- The body of GNSS_ACQ_CONFIG (03 R108, R109, R111, R115). -/
def gnssAcqConfig (p : List Byte) (s : State) : Reply × State :=
  let w := uAt p 12 1
  let v := uAt p 13 1
  if !within 8 20 (uAt p 0 1) || !zeros p 1 3 || !within 5 1000 (uAt p 4 4) || !within 500 10000 (uAt p 8 4) || !within 4 160 w || !within 4 160 v || decide (v ≤ w) then refuse stBadParam s
  else ok (rejudge s.gnss.jamWarn s.gnss.jamSevere w v { s with gnss := { s.gnss with
    acqThresh := uAt p 0 1, refUnc := uAt p 4 4, reacqMs := uAt p 8 4, jamWarn := w, jamSevere := v } })

/-- GNSS_ACQ_CONFIG. -/
def execGnssAcqConfig (c : Cmd) (s : State) : Host.Outcome State Fault Refusal := done (command 0x030D 14 0 none gnssAcqConfig c s)

end Sys2Proof.Machine
end

