-- ==== Sys2Proof/Machine/Node.lean ====
section
/-!
DEFINITION. The nodes of a Knani loop (07 R266 to R274, R277, R280 to R283) and what they make of the command words on their channels
(08 R295 to R306, R316 to R320, R323).
-/
namespace Sys2Proof.Machine

/-! ## Identity records (07 R280 to R283) -/

/-- The header of a record is readable. -/
def recOk (r : List Byte) : Bool := decide (64 ≤ r.length) && crc16 (r.take 62) == uAt r 62 2 && uAt r 0 2 == 1
/-- The type-specific block, where its check holds. -/
def recBlock (r : List Byte) : Option (List Byte) :=
  let n := uAt r 38 2
  let b := (r.drop (uAt r 36 2)).take n
  if decide (2 ≤ n) && b.length == n && crc16 (b.take (n - 2)) == uAt b (n - 2) 2 then some b else none
/-- TYPE and SERIAL. -/
def recType (r : List Byte) : Nat := uAt r 4 2
/-- SERIAL. -/
def recSerial (r : List Byte) : Nat := uAt r 8 8
/-- The two bytes written at an offset of a list, lengthened with zeros where it is short. -/
def patch (l : List Byte) (off : Nat) (b : List Byte) : List Byte :=
  l.take off ++ List.replicate (off - l.length) 0 ++ b ++ l.drop (off + b.length)
/-- A copy of the life area: SEQ, COUNT_0, COUNT_1 where its check holds (07 R283). -/
def lifeCopy (r : List Byte) (k : Nat) : Option (Nat × Nat × Nat) :=
  let o := uAt r 40 2 + 16 * k
  let b := (r.drop o).take 16
  if uAt r 40 2 != 0 && b.length == 16 && crc16 (b.take 14) == uAt b 14 2 then some (uAt b 0 2, uAt b 2 8, uAt b 10 4) else none
/-- The current copy: its index, SEQ, COUNT_0, COUNT_1 (07 R283). -/
def lifeNow (r : List Byte) : Option (Nat × Nat × Nat × Nat) :=
  match lifeCopy r 0, lifeCopy r 1 with
  | some a, some b => some (if 0 < diffN 16 b.1 a.1 then (1, b) else (0, a))
  | some a, none => some (0, a)
  | none, some b => some (1, b)
  | none, none => none
/-- Both totals written to the copy that is not current; no count falls (07 R283). -/
def lifeSave (r : List Byte) (c0 c1 : Nat) : List Byte :=
  let n := (lifeNow r).getD (1, 65535, 0, 0)
  let b := le 2 ((n.2.1 + 1) % 65536) ++ le 8 (max c0 n.2.2.1) ++ le 4 (max c1 n.2.2.2)
  if uAt r 40 2 == 0 then r else patch r (uAt r 40 2 + 16 * (1 - n.1)) (b ++ le 2 (crc16 b))

/-! ## A node's configuration -/

/-- The node's own block, empty where it is invalid. -/
def nodeBlock (d : NodeDev) : List Byte := (recBlock d.idRec).getD []
/-- A channel is a strobe channel (08 R294). -/
def isStrobe (d : NodeDev) (k : Nat) : Bool := bit (uAt (nodeBlock d) 3 1) k
/-- Module of a channel, where its record is readable. -/
def modOf (d : NodeDev) (k : Nat) : Option (List Byte) := ((d.mods[k]?).getD none).bind (fun r => if recOk r then some r else none)
/-- Block of the module of a channel. -/
def modBlock (d : NodeDev) (k : Nat) : List Byte := ((modOf d k).bind recBlock).getD []
/-- Configuration bytes written. -/
def setCfg (addr : Nat) (b : List Byte) (d : NodeDev) : NodeDev := { d with cfg := patch d.cfg addr b }
/-- A channel of a node. -/
def chanOf (d : NodeDev) (k : Nat) : NChan := d.chans.getD k {}
/-- A channel changed. -/
def modChan (k : Nat) (f : NChan → NChan) (d : NodeDev) : NodeDev := { d with chans := lmod d.chans k f }
/-- The tide period that the node runs, 2^-16 ns (07 R278). -/
def nodeP (d : NodeDev) : Nat := periodOf (natOf (cfgBytes d 6 1))
/-- Period of a channel's PWM, 2^-16 ns (08 R297). -/
def pwmT (d : NodeDev) (k : Nat) : Nat := let v := chanCfg d k 0 4; if v == 0 then nodeP d else us1 * v

/-- Default configuration of a channel (08 R299). -/
def chanDefault (d : NodeDev) (k : Nat) : List Byte :=
  let b := modBlock d k
  let ty := ((modOf d k).map recType).getD 0
  let valve := ty == 0x0201 && !b.isEmpty
  let head := ty == 0x0202 && !b.isEmpty
  let iNom := if valve then uAt b 12 2 else if head then uAt b 4 2 else 80
  le 4 0 ++ le 2 0 ++ le 2 0 ++ le 2 (if valve then uAt b 8 2 else 50000) ++ [20, 0] ++ le 2 (uAt (nodeBlock d) 10 2) ++ le 2 (iNom / 4) ++
  [0, 85, 125, 0] ++ le 2 (if head then uAt b 6 2 else 0) ++ le 2 (if head then uAt b 14 2 else 0)

/-- T_SHUT of a node: the lowest of its channels (08 R317). -/
def nodeShut (d : NodeDev) : Nat := ((List.range (max 1 (uAt (nodeBlock d) 2 1))).map (fun k => chanCfg d k 0x12 1)).foldl min 255

/-- Duty cap of a channel at the node's temperature (08 R316). -/
def capOf (d : NodeDev) (k : Nat) : Nat :=
  let knee := signed 8 (chanCfg d k 0x11 1)
  let shut : Int := chanCfg d k 0x12 1
  if !isStrobe d k || d.temp ≤ knee then 4095
  else if shut ≤ d.temp then 0 else (4095 * (shut - d.temp) / (shut - knee)).toNat

/-- A channel belongs to a colour pair: its even channel (08 R318). -/
def pairOf (d : NodeDev) (k : Nat) : Option Nat := if bit (chanCfg d (k / 2 * 2) 0x10 1) 0 then some (k / 2 * 2) else none
/-- Colour trim of a pair, LSB 1/1,024 (08 R319). -/
def trimOf (d : NodeDev) (c : Nat) : Nat := let v := chanCfg d c 0x28 2; if v == 0 then 1024 else v
/-- The duty that a channel applies: trimmed, and limited by the cap, a pair by one factor (08 R316, R319, R320). -/
def applied (d : NodeDev) (k duty : Nat) : Nat :=
  match pairOf d k with
  | none => min duty (capOf d k)
  | some c =>
    let own := if k == c then duty else min 4095 (duty * trimOf d c / 1024)
    let top := max (chanOf d c).duty ((chanOf d (c + 1)).duty * trimOf d c / 1024)
    let cap := min (capOf d c) (capOf d (c + 1))
    if cap < top then own * cap / top else own
/-- The cap limits the channel below its commanded duty (08 R316). -/
def derated (d : NodeDev) (k : Nat) : Bool := isStrobe d k && (chanOf d k).mode == 1 && decide (capOf d k < (chanOf d k).duty)
/-- On-time of a pulse, resolved to 10 ns (08 R297). -/
def onTime (d : NodeDev) (k duty : Nat) : Nat := applied d k duty * pwmT d k / 4096 / (10 * ns1) * (10 * ns1)

/-! ## Symbols (07 R258) -/

/-- A symbol by its high time in ns: 0 and 1 data, 2 COMMIT; none is a symbol error (07 R258; 50 ns, which both columns accept, is taken for data 0, log entry 68). -/
def symbolOf (high : Nat) : Option Nat :=
  if 15 ≤ high ∧ high ≤ 50 then some 0 else if 50 < high ∧ high ≤ 90 then some 1 else if 300 ≤ high ∧ high ≤ 500 then some 2 else none
/-- A low time before a frame is its frame start (07 R258). -/
def frameStart (low : Nat) : Bool := decide (1600 ≤ low) && decide (low ≤ 40000)
/-- The data bits of symbols, none where one is no data symbol, or a low time between them is a symbol error (07 R258). -/
def dataBits : List (Nat × Nat) → Option (List Nat)
  | [] => some []
  | x :: r => match symbolOf x.1, dataBits r with
    | some v, some l => if v < 2 ∧ x.2 < 200 then some (v :: l) else none
    | _, _ => none
/-- A number from its bits, the most significant first (07 R259). -/
def ofBits (l : List Nat) : Nat := l.foldl (fun a b => 2 * a + b) 0
/-- The command words that a node takes from its slot, none where it discards it (07 R266, R267): the frame start was seen, every symbol is valid, the kind bit is 0
and the position its own. -/
def slotTaken (pos : Nat) (words : List Nat) (wire : Option (Nat × List (Nat × Nat))) : Option (List Nat) :=
  match wire with
  | none => some words
  | some (low, l) => match dataBits l with
    | some bits =>
      if frameStart low && bits.length == 8 + 24 * words.length && ofBits (bits.take 8) == pos then
        some ((List.range words.length).map (fun k => ofBits ((bits.drop (8 + 24 * k)).take 24)))
      else none
    | none => none

/-! ## Pulses, and what is counted of them (08 R297, R301, R305, R313, R323) -/

/-- Pulses of a PWM phase that have started before an instant. -/
def startedBy (phase t0 per : Nat) : Nat := if t0 ≤ phase then 0 else (t0 - phase - 1) / per + 1
/-- Duty of the pulse that starts at an instant, through a fade (08 R301). -/
def fadeDuty (c : NChan) (per t : Nat) : Nat := match c.fade with
  | none => c.duty
  | some (d0, d1, f0, n) =>
    let j := if t < f0 then 0 else (t - f0) / per + 1
    if n ≤ j then d1 else ((d0 : Int) + ((d1 : Int) - d0) * j / n).toNat
/-- The output gives pulses: PWM, or a fade-off that runs (08 R296, R301). -/
def pulsing (d : NodeDev) (c : NChan) : Bool := (c.mode == 1 || (c.mode == 0 && c.fade.isSome)) && c.fault != 3 && c.fault != 6 && !d.hot && !c.low
/-- A pulse of an on-time enters the channel's record: the 64 short pulses of R305, time above the threshold (08 R305, R323). -/
def countPulse (thr on : Nat) (c : NChan) : NChan :=
  if on == 0 then c
  else { c with short := if on < 20 * us1 then c.short + 1 else 0, above := if thr < c.amps then c.above + on else c.above }
/-- LIFE_0 and LIFE_1 advanced (08 R323). -/
def addLife (k n0 n1 : Nat) (d : NodeDev) : NodeDev :=
  let a := chanBase k
  setCfg (a + 0x20) (le 4 ((chanCfg d k 0x20 4 + n1) % 2 ^ 32)) (setCfg (a + 0x18) (le 8 ((chanCfg d k 0x18 8 + n0) % 2 ^ 64)) d)
/-- Whole tenths of a second above the threshold pass to LIFE_1 (08 R323). -/
def spill (k : Nat) (d : NodeDev) : NodeDev :=
  let n := (chanOf d k).above / (100 * ms1)
  if isStrobe d k && decide (0 < n) then addLife k 0 n (modChan k (fun c => { c with above := c.above - n * (100 * ms1) }) d) else d
/-- The output holds: HOLD, and nothing keeps it low (08 R298, R306, R317). -/
def chanHolds (d : NodeDev) (c : NChan) : Bool := c.mode == 2 && c.fault != 3 && c.fault != 6 && !d.hot && !c.low
/-- PULL_IN of a channel, 2^-16 ns (08 R298). -/
def pullIn (d : NodeDev) (k : Nat) : Nat := us1 * chanCfg d k 8 2
/-- Period and on-time of the chopping of a channel in HOLD, 2^-16 ns (08 R298). -/
def chopOf (d : NodeDev) (k duty : Nat) : Nat × Nat :=
  let per := 1000 * us1 / max 1 (chanCfg d k 0x0A 1)
  (per, applied d k duty * per / 4096 / (10 * ns1) * (10 * ns1))
/-- The first on-time of a HOLD, its pull-in and the first chop in one, enters the channel's record; a duty of zero holds the output high (08 R298, R305). -/
def holdStart (k duty : Nat) (d : NodeDev) : NodeDev :=
  if duty == 0 then modChan k (fun c => { c with short := 0 }) d
  else modChan k (countPulse (chanCfg d k 0x14 2) (pullIn d k + (chopOf d k duty).2)) d
/-- The chops of a HOLD that have started since the last count enter the channel's record (08 R298, R305, R323). -/
def holdPulses (t k : Nat) (d : NodeDev) : NodeDev :=
  let c := chanOf d k
  let thr := chanCfg d k 0x14 2
  if c.duty == 0 then modChan k (fun c => { c with above := if thr < c.amps then c.above + (t - c.counted) else c.above }) d
  else
    let (per, on) := chopOf d k c.duty
    let first := c.phase + pullIn d k + per
    let n := startedBy first t per - startedBy first c.counted per
    if n == 0 || on == 0 then d
    else modChan k (fun c => { c with short := if on < 20 * us1 then c.short + n else 0, above := if thr < c.amps then c.above + n * on else c.above }) d
/-- The pulses of a channel up to an instant are counted; a fade that has ended is over (08 R301, R323). -/
def countTo (t k : Nat) (d : NodeDev) : NodeDev :=
  let c := chanOf d k
  let per := pwmT d k
  let n0 := startedBy c.phase c.counted per
  let n := startedBy c.phase t per - n0
  let excess := match c.fade with | some (_, _, f0, m) => decide (f0 + m * per ≤ t) | none => false
  let fin := fun (x : NodeDev) => spill k (modChan k (fun c => { c with counted := t, fade := if excess then none else c.fade }) x)
  if t ≤ c.counted then d
  else if chanHolds d c then fin (holdPulses t k d)
  else if !pulsing d c then fin d
  else
    let thr := chanCfg d k 0x14 2
    if c.fade.isSome then
      let ons := (List.range n).map (fun i => onTime d k (fadeDuty c per (c.phase + (n0 + i) * per)))
      fin (addLife k (ons.filter (· != 0)).length 0 (modChan k (fun c => ons.foldl (fun c on => countPulse thr on c) c) d))
    else
      let on := onTime d k c.duty
      if on == 0 || n == 0 then fin d
      else fin (addLife k n 0 (modChan k (fun c => { c with
        short := if on < 20 * us1 then c.short + n else 0, above := if thr < c.amps then c.above + n * on else c.above }) d))

/-- A channel goes low at once, without a fade (07 R269, 08 R302). -/
def chanOff (t k : Nat) (d : NodeDev) : NodeDev :=
  modChan k (fun c => { c with mode := 0, duty := 0, fade := none, next := none, probe := none, low := false }) (countTo t k d)
/-- Every channel goes low at once. -/
def allChansOff (t : Nat) (d : NodeDev) : NodeDev := (List.range 8).foldl (fun x k => chanOff t k x) d

/-- The duty that a channel has reached at an instant. -/
def reached (d : NodeDev) (k t : Nat) : Nat :=
  let c := chanOf d k
  if c.mode == 1 || c.fade.isSome then fadeDuty c (pwmT d k) t else 0
/-- Periods of a fade of a time in us over part of the full change (08 R301). -/
def fadePeriods (us part whole per : Nat) : Nat := max 1 ((us1 * us * part + whole * per - 1) / (max 1 whole * per))

/-- The channel's command changes at its edge (08 R296 to R298, R301). -/
def applyEdge (k e mode duty : Nat) (d0 : NodeDev) : NodeDev :=
  let d := countTo e k d0
  let c := chanOf d k
  let per := pwmT d k
  let dr := reached d k e
  let fadeOn := if isStrobe d k then chanCfg d k 4 2 else 0
  let fadeOff := if isStrobe d k then chanCfg d k 6 2 else 0
  let set := fun (f : NChan → NChan) => modChan k (fun c => { f c with mode := mode, duty := duty, next := none, low := false }) d
  match mode with
  | 0 =>
    if c.mode == 1 && fadeOff != 0 && dr != 0 then
      let f0 := c.phase + startedBy c.phase e per * per
      set (fun c => { c with fade := some (dr, 0, f0, fadePeriods fadeOff dr (max 1 c.duty) per) })
    else set (fun c => { c with fade := none })
  | 1 =>
    if c.mode == 1 then set (fun c => { c with fade := none })
    else set (fun c => { c with
      phase := e, fade := if fadeOn != 0 && c.mode == 0 && duty != dr then some (dr, duty, e, fadePeriods fadeOn ((duty : Int) - dr).natAbs (max 1 duty) per) else none })
  | _ =>
    if c.mode == 2 then set id
    else addLife k (b1 (!isStrobe d k)) 0 (holdStart k duty (set (fun c => { c with phase := e, fade := none })))

/-- A probe pulse at its instant (08 R310, R313, R323): it verifies the channel and is counted by itself. -/
def applyProbe (k e us : Nat) (d0 : NodeDev) : NodeDev :=
  let d := countTo e k d0
  let d1 := setCfg (chanBase k + 0x24) (le 4 ((chanCfg d k 0x24 4 + 1) % 2 ^ 32)) d
  let d2 := modChan k (fun c => { c with next := none, probe := some (e, us), short := if 20 ≤ us then 0 else c.short }) d1
  if isStrobe d k then d2 else addLife k 0 1 d2

/-- The edge that waits on a channel takes place. -/
def releaseEdge (k : Nat) (d : NodeDev) : NodeDev :=
  match (chanOf d k).next with
  | none => d
  | some (w, e) => if w / 2 ^ 22 == 3 then applyProbe k e (w % 4096) d else applyEdge k e (w / 2 ^ 22) (if w / 2 ^ 22 == 0 then 0 else w % 4096) d

/-- A word is latched at a boundary: it waits for its edge unless it equals the present command, or repeats a probe (07 R268, 08 R295,
R310). `u` is the edge unit. -/
def latchWord (b u : Nat) (w : Nat) (k : Nat) (d0 : NodeDev) : NodeDev :=
  let d := releaseEdge k d0
  let c := chanOf d k
  let mode := w / 2 ^ 22
  let duty := if mode == 0 then 0 else w % 4096
  let same := if mode == 3 then w == c.lastWord else mode == c.mode && duty == c.duty
  modChan k (fun c => { c with lastWord := w, next := if same then none else some (w, b + w / 4096 % 1024 * u) }) d

/-! ## Status (07 R271, 08 R303) -/

/-- CH_DIAG of a channel (08 R303). -/
def diagCode (d : NodeDev) (k : Nat) : Nat :=
  let c := chanOf d k
  if c.fault == 4 then 4 else if c.fault == 3 then 3 else if c.fault == 6 then 6 else if d.hot then 7 else if c.openLoad then 2
  else if derated d k then 5 else if 64 ≤ c.short then 1 else 0
/-- CRC-8 of the status (07 R271). -/
def crc8 (p : List Byte) : Nat := p.foldl (crcByteMsb 8 0x07) 0
/-- The CRC of a status as returned holds (07 R271). -/
def statusSound (w : Nat) : Bool := crc8 ((le 8 w).reverse.take 7) == w % 256
/-- The 64-bit status of a node (07 R271). -/
def statusWord (d : NodeDev) : Nat :=
  let diag := ((List.range 8).map (fun k => (if k < uAt (nodeBlock d) 2 1 then diagCode d k else 0) * 2 ^ (3 * k))).sum
  let v := 2 ^ 58 * (d.pos.getD 0) + 2 ^ 56 * d.st + bitIf d.rxErr 55 + bitIf d.ready 54 + 2 ^ 48 * (satI 6 d.phaseErr % 64).toNat +
    2 ^ 40 * (d.temp % 256).toNat + 2 ^ 32 * satN 255 d.supply + 2 ^ 8 * diag
  v + crc8 ((le 8 v).reverse.take 7)

/-! ## What a node senses (08 R304, R305, R319) -/

/-- The trim of a pair follows its light after every 16 pulses, but not while the cap scales the pair (08 R319, R320). -/
def trimStep (c : Nat) (d : NodeDev) : NodeDev :=
  let x := chanOf d c
  if x.pdN < 16 then d
  else
    let b := modBlock d c
    let rt := chanCfg d c 0x16 2
    let red := x.pdRed * uAt b 16 2
    let nir := x.pdNir * uAt b 18 2
    let clear := modChan c (fun y => { y with pdRed := 0, pdNir := 0, pdN := 0 }) d
    let top := max x.duty ((chanOf d (c + 1)).duty * trimOf d c / 1024)
    if rt == 0 || nir == 0 || decide (min (capOf d c) (capOf d (c + 1)) < top) then clear
    else
      let r := 1024 * red / nir
      let k := trimOf d c
      let kn := max 512 (min 1536 ((k : Int) + (k : Int) * ((r : Int) - rt) / (4 * rt))).toNat
      modChan c (fun y => { y with ratio := min 65535 r, clamped := if kn == 512 || kn == 1536 then y.clamped + 1 else 0 }) (setCfg (chanBase c + 0x28) (le 2 kn) clear)

/-- What a channel has sensed enters its verdicts (08 R304, R305, R315, R319). -/
def senseChan (d : NodeDev) (x : ChanSense) : NodeDev :=
  let k := x.ch
  let probed := match (chanOf d k).probe with | some (_, us) => decide (20 ≤ us) | none => false
  let long := probed || decide (20 * us1 ≤ onTime d k (chanOf d k).duty)
  let d0 := if x.neighbour && (isStrobe d k || isStrobe d (k + 1) || (k != 0 && isStrobe d (k - 1))) then modChan k (fun c => { c with fault := if c.fault == 0 then 6 else c.fault }) d else d
  let d1 := match x.offMv with
    | none => d0
    | some v => modChan k (fun c =>
        if 4000 < v then { c with pinMv := v, fault := 4 }
        else if 1000 ≤ v then { c with pinMv := v, openLoad := true, openOn := false }
        else { c with pinMv := v, openLoad := if c.openOn then c.openLoad else false }) d0
  let d2 := match x.onMa with
    | none => d1
    | some i => modChan k (fun c0 =>
        let c := { c0 with probe := none }
        if chanCfg d k 0x0C 2 < i then { c with amps := i, fault := if c.fault == 4 then 4 else 3 }
        else if i < chanCfg d k 0x0E 2 then (if long then { c with amps := i, openLoad := true, openOn := true } else { c with amps := i })
        else { c with amps := i, openLoad := if c.openOn then false else c.openLoad, openOn := false, short := if long then 0 else c.short }) d1
  match x.light, pairOf d k with
  | some (n, red, nir), some c => trimStep c (modChan c (fun y => { y with pdN := y.pdN + n, pdRed := y.pdRed + red, pdNir := y.pdNir + nir }) d2)
  | _, _ => d2

/-! ## MANAGE operations at a node (07 R277) -/

/-- A memory of a node: its identity, or the module of a channel. -/
def nodeMem (d : NodeDev) (mem : Nat) : Option (List Byte) := if mem == 1 then some d.idRec else (d.mods[mem - 2]?).getD none
/-- A memory of a node replaced. -/
def setNodeMem (d : NodeDev) (mem : Nat) (b : List Byte) : NodeDev :=
  if mem == 1 then { d with idRec := b } else { d with mods := lmod d.mods (mem - 2) (fun _ => some b) }

/-- The fields that only the node writes are kept; LIFE_0 and LIFE_1 may be written (07 R278, 08 R299, R325). -/
def readOnly (a : Nat) : Bool := a == 0 || a == 9 || (decide (0x20 ≤ a) && decide (0x24 ≤ (a - 0x20) % 0x30))
/-- Configuration bytes as the device writes them, one by one. -/
def writeCfg (addr : Nat) : List Byte → NodeDev → NodeDev
  | [], d => d
  | b :: r, d => writeCfg (addr + 1) r (if readOnly addr then d else setCfg addr [b] d)

/-- The configuration as it reads: STATE, and TRIM and CAP of each channel, are the node's (07 R278, 08 R299). -/
def nodeCfg (d : NodeDev) : NodeDev :=
  (List.range 8).foldl (fun x k => setCfg (chanBase k + 0x28) (le 2 (trimOf d k) ++ le 2 (capOf d k)) x) (setCfg 9 (le 1 d.st) d)

/-- A node enters RUN: each channel's counts are loaded from the current copy of its module's life area, PROBE_COUNT and TRIM start anew (08 R299, R319, R324). -/
def enterRun (d : NodeDev) : NodeDev :=
  (List.range 8).foldl (fun x k =>
    let y := setCfg (chanBase k + 0x24) (le 4 0 ++ le 2 0) x
    match (modOf d k).bind lifeNow with
    | some v => setCfg (chanBase k + 0x18) (le 8 v.2.2.1 ++ le 4 v.2.2.2) y
    | none => y) d

/-- What follows from a configuration write: ADV is taken when ADV_LO is written, RUN = 1 leaves failsafe, CH_CLEAR clears latched
faults, LIFE_SAVE saves life areas (07 R269, R273, R278, 08 R300, R306, R324). -/
def cfgEffect (t addr len : Nat) (d : NodeDev) : NodeDev :=
  let hit := fun (a : Nat) => decide (addr ≤ a) && decide (a < addr + len)
  let d1 := if hit 4 || hit 5 then { d with adv := natOf (cfgBytes d 4 2) + 65536 * natOf (cfgBytes d 0x0D 1) } else d
  let d2 := if hit 8 && natOf (cfgBytes d1 8 1) == 1 && (d1.st == 2 || d1.st == 3) then
      { enterRun (allChansOff t d1) with st := 0, discards := 0, rxErr := false, commitAt := none, latchAt := none, slot := none } else d1
  let mask := fun (a : Nat) => natOf (cfgBytes d a 1)
  let d3 := if hit 0x0A then setCfg 0x0A [0] ((List.range 8).foldl (fun x k => if bit (mask 0x0A) k then modChan k (fun c => { c with fault := 0 }) x else x) d2) else d2
  if hit 0x0B then
    setCfg 0x0B [0] ((List.range 8).foldl (fun x k =>
      if bit (mask 0x0B) k then
        let y := countTo t k x
        { y with mods := lmod y.mods k (fun m => m.map (fun r => lifeSave r (chanCfg y k 0x18 8) (chanCfg y k 0x20 4))), ready := true }
      else x) d3)
  else d3

/-- The target performs a MANAGE frame (07 R277): `echo` is the round trip of its output segment, ns; `intact`: HDR_CRC and DATA_CRC hold. -/
def manageAt (t echo : Nat) (intact : Bool) (m : Manage) (d : NodeDev) : Manage × NodeDev :=
  let bad := fun (r : Nat) => ({ m with result := r, data := [] }, d)
  if !intact then bad 3
  else match m.op with
  | 1 => match nodeMem d m.mem with
    | none => bad 5
    | some b => if m.mem == 0 then bad 4 else ({ m with result := 1 }, { d with buf := (b.drop m.addr).take m.len, ready := true })
  | 2 => ({ m with result := 1, data := (d.buf ++ List.replicate 128 0).take m.len }, { d with ready := false })
  | 3 => match nodeMem d m.mem with
    | none => bad 5
    | some b => if m.mem == 0 then bad 4 else ({ m with result := 1 }, { setNodeMem d m.mem (patch b m.addr m.data) with buf := m.data, ready := true })
  | 4 => if m.mem == 0 then ({ m with result := 1 }, cfgEffect t m.addr m.data.length (writeCfg m.addr m.data d)) else bad 4
  | 5 => if m.mem == 0 then ({ m with result := 1, data := cfgBytes (nodeCfg d) m.addr m.len }, d) else bad 4
  | 6 => ({ m with result := 1, data := le 2 echo }, d)
  | _ => bad 4

/-- A node at a wire reset (07 R269). -/
def resetNode (t : Nat) (d : NodeDev) : NodeDev :=
  { allChansOff t d with pos := none, cfg := [], st := 1, adv := 0, rxErr := false, ready := false, discards := 0, slot := none, boundary := none
                         commitAt := none, latchAt := none, phaseErr := 0 }

end Sys2Proof.Machine
end

