-- ==== Sys2Proof/Machine/Knani.lean ====
section
/-!
DEFINITION. Knani loops (file 07): enumeration, command frames and their returns, breaks, management, delay measurement, identity buses,
and what the nodes do of themselves.
-/
namespace Sys2Proof.Machine

/-! ## Shared -/

/-- A physical node of a loop. -/
def physOf (s : State) (n pos : Nat) : Option NodeDev := (loopOf s n).phys[pos]?
/-- Loop in bits [15:8], position in bits [7:0] (07 R293). -/
def nodeWord (n pos : Nat) : Nat := 256 * n + pos
/-- CHANNEL (05 R178). -/
def chanCode (n pos k : Nat) : Nat := 512 * n + 8 * pos + k
/-- A waiting host command finishes. -/
def finishFor (cmd : Option (Nat × Nat × Nat × Nat)) (status : Nat) (r : List Byte) (s : State) : State :=
  match cmd with | none => s | some (m, slot, op, tag) => complete m slot op tag status r s
/-- Some cell that names a channel of a loop is on (07 R290). -/
def loopCellOn (s : State) (n : Nat) : Bool := s.cell.cells.any (fun e => e.2.modeNow != 0 && chLoop e.2.channel == n)
/-- Delay of a segment from the round trip of its echo: RT = 2 x c + T_TA, the turnaround being the far node's, or that of KR_n (07 R272). -/
def segDelay (phys : List NodeDev) (k rt : Nat) : Nat := (rt - (match phys[k]? with | some d => uAt (nodeBlock d) 6 2 | none => 200)) / 2
/-- Every management transfer of a loop ends with TIMEOUT (07 R289). -/
def dropManage (n : Nat) (s : State) : State :=
  let s1 := setLoop n (fun l => { l with manage := [] }) s
  (loopOf s n).manage.foldl (fun st m => finishFor m.cmd stTimeout [] st) s1

/-- Forward delays, ADV and predicted transit from segment delays (07 R272, R273): the node records and the transit. -/
def delays : Nat → List NodeView → List NodeView
  | _, [] => []
  | d, n :: r => let x := d + n.c; { n with d := x, adv := x + n.tOut } :: delays (x + n.tRep) r
/-- The predicted transit of a loop, ns (07 R272). -/
def predict (l : Loop) : Nat := (l.nodes.map (fun n => n.c + n.tRep)).sum + l.cLast
/-- A loop with its delays derived anew. -/
def rederive (l : Loop) : Loop := let l1 := { l with nodes := delays 0 l.nodes }; { l1 with predicted := predict l1 }
/-- Predicted and measured transit differ by more than 20 ns + 2 ns x N (07 R272). -/
def timingBad (l : Loop) : Bool := decide (20 + 2 * l.count < ((l.predicted : Int) - l.transit).natAbs)
/-- KNANI_TIMING_MISMATCH where they do. -/
def timingReport (n : Nat) (s : State) : State :=
  let l := loopOf s n
  raiseIf (timingBad l) { code := 0x0706, sev := 4, p0 := n, p1 := w32 ((l.predicted : Int) - l.transit), p2 := 20 + 2 * l.count } s
/-- A configuration write by the device itself. -/
def ownWrite (n pos addr : Nat) (b : List Byte) (s : State) : State :=
  pushManage n { pos := pos, mem := 0, op := 4, addr := addr, len := b.length, data := b } s
/-- ADV_HI, then ADV_LO, for the nodes whose ADV has changed (07 R275, R278). -/
def writeAdvs (n : Nat) (old : List NodeView) (s : State) : State :=
  (List.range old.length).foldl (fun st k =>
    match old[k]?, (loopOf st n).nodes[k]? with
    | some a, some b => if b.slotted && a.adv != b.adv then ownWrite n k 4 (le 2 b.adv) (ownWrite n k 0x0D (le 1 (b.adv / 65536)) st) else st
    | _, _ => st) s

/-- An event of a channel, at most once per second for each code (08 R332). -/
def chanEvent (ch : Nat) (e : Ev) (s : State) : State :=
  match viewOf s ch with
  | none => s
  | some v =>
    let quiet := match tget v.told e.code with | some c => decide (c + cycMs 1000 ≤ s.time.cyc) | none => true
    if quiet then raise e (setChanView ch (fun v => { v with told := tset v.told e.code s.time.cyc }) s) else s

/-! ## Consumables (08 R321 to R327) -/

/-- Rating in units of COUNT_0 and rated hours of a module (08 R321, R322). -/
def ratingOf (r : List Byte) : Nat × Nat :=
  let b := (recBlock r).getD []
  if recType r == 0x0201 then (1000 * uAt b 16 4, 0) else if recType r == 0x0202 then (1000 * uAt b 8 4, uAt b 12 2) else (0, 0)
/-- Per mille of the rating that is used, by whichever mark is nearer (08 R326). -/
def usedMille (x : Shadow) : Nat :=
  max (if x.rating == 0 then 0 else 1000 * x.c0 / x.rating) (if x.hours == 0 then 0 else 1000 * x.c1 / (36000 * x.hours))
/-- The module of a channel enters RUN: its counts are loaded from its life area, or from the shadow where that is ahead; another module
than the shadow's replaces it (08 R324, R325, R327). -/
def loadLife (n pos k : Nat) (s : State) : State :=
  let ch := chanCode n pos k
  match (physOf s n pos).bind (fun d => modOf d k) with
  | none => s
  | some r =>
    let now := (lifeNow r).getD (0, 0, 0, 0)
    let old := tget s.knani.shadow ch
    let known := match old with | some x => x.serial == recSerial r && x.type == recType r | none => false
    let sh : Shadow := (if known then old else none).getD { serial := recSerial r, type := recType r, c0 := now.2.2.1, c1 := now.2.2.2, rating := (ratingOf r).1, hours := (ratingOf r).2 }
    let c0 := max now.2.2.1 sh.c0
    let c1 := max now.2.2.2 sh.c1
    let changed := old.isSome && !known
    let s1 := { s with knani := { s.knani with shadow := tset s.knani.shadow ch { sh with c0 := c0, c1 := c1 } } }
    let s2 := setPhys n pos (fun d => setCfg (chanBase k + 0x20) (le 4 c1) (setCfg (chanBase k + 0x18) (le 8 c0) d)) s1
    let s3 := setChanView ch (fun v => { v with saved := now.2.2.1, life0 := c0, life1 := c1, missing := false, wornHold := sh.worn && s.knani.eolHold }) s2
    if changed then chanEvent ch { code := 0x0718, sev := 2, p0 := ch, p1 := (old.map (·.serial)).getD 0 % 2 ^ 32, p2 := recSerial r % 2 ^ 32 } s3 else s3
/-- CONSUMABLE_MISSING, once, for a channel whose node has module memories and whose memory gave no answer (08 R327). -/
def missingModule (n pos k : Nat) (s : State) : State :=
  let ch := chanCode n pos k
  match viewOf s ch with
  | none => s
  | some v => if v.missing then s else raise { code := 0x0719, sev := 3, p0 := ch } (setChanView ch (fun v => { v with missing := true }) s)

/-- The life areas of a loop's nodes that management still reaches are written before it leaves RUN (08 R324). -/
def saveLoop (n : Nat) (s : State) : State :=
  let t := dtNow s
  setLoop n (fun l => { l with phys := (List.range l.phys.length).filterMap (fun k => (l.phys[k]?).map (fun d =>
    if nodeLost l k || d.pos.isNone then d else cfgEffect t 0x0B 1 (setCfg 0x0B [255] d))) }) s

/-! ## Enumeration (07 R276) -/

/-- The KNANI_LOOP_START that waits for a loop's population completes (07 R289, R290). -/
def answerStart (n st : Nat) (s : State) : State :=
  match (loopOf s n).startCmd with
  | none => s
  | some (m, slot, op, tag) => complete m slot op tag st [] (setLoop n (fun l => { l with startCmd := none }) s)

/-- The command that waits for a later completion. -/
def waiting (op : Nat) (c : Cmd) : Option (Nat × Nat × Nat × Nat) := some (c.mbx, c.slot, op, c.tag.toNat)

/-- A loop goes to OFF and is held in wire reset (07 R276, R285, R289). -/
def loopOff (n cause : Nat) (s0 : State) : State :=
  let s := answerStart n stAborted s0
  let t := dtNow s
  setLoop n (fun l => { l with st := 0, cause := cause, enum := none, flight := none, hops := none, restoring := false, full := false, dogAt := none
                               breakPos := none, missRun := 0, silent := 0, nodes := l.nodes.map (fun v => { v with slotted := false, failsafe := false, resuming := false, testing := false })
                               phys := l.phys.map (resetNode t) }) (dropManage n s)
/-- An enumeration fails: the loop goes to OFF, and FRAME_LEAD follows the loops that still carry cells (05 R171). -/
def enumLost (n cause : Nat) (s : State) : State := cellsChanged (loopOff n cause s)
/-- KNANI_ENUM_FAIL (07 R276). -/
def enumFail (n cause count : Nat) (s : State) : State := raise { code := 0x0709, sev := 4, p0 := n, p1 := cause, p2 := count } s
/-- Wire reset, then ENUMERATE with COUNT = 0 (07 R276 steps 1 and 2). -/
def startEnum (n : Nat) (s0 : State) : State :=
  let s := answerStart n stAborted s0
  let s1 := setLoop n (fun l => { l with st := 1, cause := 0, enum := some 0, enumAt := s.time.cyc, flight := none, hops := none, breakPos := none, breakTide := 0
                                         missRun := 0, silent := 0, full := false, dogAt := none, phys := [] }) (dropManage n s)
  emit .knani n 0 [0x81, 0] s1

/-- A node receives ENUMERATE (07 R276): `idRec` its identity memory, `mods` those of its channels' modules. -/
def doEnumerateAtNode (n : Nat) (idRec : List Byte) (mods : List (Option (List Byte))) (s : State) : State :=
  match (loopOf s n).enum with
  | none => s
  | some k =>
    if (loopOf s n).st != 1 then s
    else setLoop n (fun l => { l with enum := some (min 255 (k + 1)), phys := l.phys ++ [{ idRec := idRec, mods := mods, pos := if k ≤ 63 then some k else none }] }) s
/-- ENUMERATE_AT_NODE (07 R276). -/
def execEnumerateAtNode (loop : Nat) (idRec : List Byte) (mods : List (Option (List Byte))) (s : State) : Host.Outcome State Fault Refusal :=
  done (doEnumerateAtNode loop idRec mods s)

/-- The device's record of a node as its identity reads (07 R276 step 3, R280, R282), with segment delay `c`. -/
def nodeViewOf (c : Nat) (r : List Byte) : NodeView :=
  let b := recBlock r
  match recOk r, b with
  | true, some b => { serial := recSerial r, type := recType r, sound := true, channels := min 8 (uAt b 2 1), strobe := uAt b 3 1, features := uAt b 12 1
                      tRep := uAt b 4 2, tOut := uAt b 8 2, iMax := uAt b 10 2, c := c }
  | true, none => { serial := recSerial r, type := recType r, c := c }
  | _, _ => { c := c }
/-- KNANI_ID_FAULT for a record (07 R280, R282). -/
def idFault (source word : Nat) (r : List Byte) (s : State) : State :=
  let cause := if r.isEmpty then some 0 else if !recOk r then some 1 else if (recBlock r).isNone then some 2 else none
  match cause with | none => s | some c => raise { code := 0x070A, sev := 3, p0 := source, p1 := word, p2 := c } s

/-- The configuration that a slotted node receives at enumeration: step 5 of 07 R276, channel defaults, and the fades of the cells (08 R299, R301). -/
def nodeSetup (s : State) (l : Loop) (n pos : Nat) (d : NodeDev) : NodeDev :=
  match l.nodes[pos]? with
  | none => d
  | some v =>
    if !v.slotted then d
    else
      let code := s.votes.tide.value
      let d1 := setCfg 0 ([BitVec.ofNat 8 pos] ++ le 1 (slotWords v) ++ le 2 (slotOffset l pos) ++ le 2 v.adv ++ le 1 code ++ le 1 code ++ [1]) (setCfg 0x0D (le 1 (v.adv / 65536)) { d with cfg := List.replicate 0x1A0 0 })
      let d2 := (List.range 8).foldl (fun x k => setCfg (chanBase k) (chanDefault d k) x) d1
      let d3 := (s.cell.cells.filter (fun e => e.2.channel / 8 == 64 * n + pos)).foldl (fun x e =>
        if bit v.strobe (chNo e.2.channel) then setCfg (chanBase (chNo e.2.channel) + 4) (le 2 e.2.fadeOn ++ le 2 e.2.fadeOff) x else x) d2
      { d3 with st := 0, adv := v.adv, commitAt := none, latchAt := none }

/-- Channels in slots over all loops. -/
def allChannels (s : State) : Nat := ((s.knani.loops.filter loopServes).map loopChannels).sum
/-- The first position at which two populations differ. -/
def firstDiff : Nat → List (Nat × Nat) → List (Nat × Nat) → Option Nat
  | _, [], [] => none
  | k, a :: x, b :: y => if a == b then firstDiff (k + 1) x y else some k
  | k, _, _ => some k

/-- Step 5 and 6 of 07 R276: configuration, the neighbour-pin tests of 08 R315 (`masks` by position), counts of the modules, RUN. -/
def enumRun (n : Nat) (l : Loop) (masks : List Nat) (s : State) : State :=
  let l1 := { l with st := 2, cause := 0, enum := none, restoring := false, mismatch := false, before := [], segNext := 0, segAt := s.time.cyc + cycMs 100, full := false
                     phys := (List.range l.phys.length).filterMap (fun k => (l.phys[k]?).map (nodeSetup s l n k)) }
  let s1 := setLoop n (fun _ => l1) s
  let poss := (List.range l1.nodes.length).filter (fun k => ((l1.nodes[k]?).map (·.slotted)).getD false)
  let s2 := poss.foldl (fun st pos =>
    let v := l1.nodes.getD pos {}
    (List.range v.channels).foldl (fun x k =>
      match ((physOf x n pos).map (fun d => (d.mods[k]?).getD none)).getD none with
      | none => if bit v.features 2 then missingModule n pos k x else x
      | some r => loadLife n pos k (idFault n (256 * pos + 2 + k) r x)) st) s1
  let s3 := poss.foldl (fun st pos =>
    if !bit (l1.nodes.getD pos {}).features 1 then st
    else
      let m := masks.getD pos 0
      let st1 := setPhys n pos (fun d => (List.range 8).foldl (fun x k => if bit m k then modChan k (fun c => { c with fault := 6 }) x else x) d) st
      chanEvent (chanCode n pos 0) { code := 0x0712, sev := 1, p0 := chanCode n pos 0, p1 := m } st1) s2
  let without := (l1.nodes.filter (fun v => v.sound && !v.slotted)).length
  let s4 := raiseIf (decide (0 < without)) { code := 0x0708, sev := 3, p0 := n, p1 := without, p2 := s.votes.tide.value } s3
  cellsChanged (raise { code := 0x0701, sev := 2, p0 := n, p1 := (slottedNodes l1).length, p2 := loopChannels l1 } s4)

/-- The ENUMERATE frame returns, and enumeration proceeds (07 R276, R282, R288, R289): `rts` the round trips of the segments' echoes, `transit` the
measured transit, `masks` the findings of the neighbour-pin tests. -/
def doEnumerateReturn (n : Nat) (rts : List Nat) (transit : Nat) (masks : List Nat) (s : State) : State :=
  let l0 := loopOf s n
  match l0.enum with
  | none => s
  | some cnt =>
    if l0.st != 1 then s
    else if cnt == 0 then enumLost n 1 (answerStart n stAccepted s)
    else
      let cs := (List.range rts.length).map (fun k => segDelay l0.phys k (rts.getD k 0))
      let views := (List.range (min 64 l0.phys.length)).filterMap (fun k => (l0.phys[k]?).map (fun d => nodeViewOf (cs.getD k 0) d.idRec))
      let l := rederive { l0 with count := cnt, nodes := giveSlots (bitBudget (tideP s)) views, cLast := cs.getD views.length 0, transit := transit, transitFull := transit }
      let tooMany := decide (4096 < otherChannels s n + loopChannels l)
      let s0 := answerStart n (if tooMany then stTableFull else stAccepted) s
      if tooMany then enumLost n 3 s0
      else
      let s1 := if 64 < cnt then enumFail n 0 cnt s0 else s0
      let s2 := (List.range views.length).foldl (fun st k => idFault n (256 * k + 1) ((l0.phys[k]?).map (·.idRec) |>.getD []) st) s1
      let s3 := setLoop n (fun _ => l) s2
      if timingBad l then enumLost n 3 (enumFail n 4 cnt (timingReport n s3))
      else match (if l.before.isEmpty then none else firstDiff 0 l.before (l.nodes.map (fun v => (v.serial, v.type)))) with
        | some k => raise { code := 0x0707, sev := 4, p0 := n, p1 := k } (setLoop n (fun x => { x with enum := none, mismatch := true, restoring := true }) s3)
        | none => enumRun n l masks s3
/-- ENUMERATE_RETURN (07 R276). -/
def execEnumerateReturn (loop : Nat) (rts : List Nat) (transit : Nat) (masks : List Nat) (s : State) : Host.Outcome State Fault Refusal :=
  done (doEnumerateReturn loop rts transit masks s)

/-- No ENUMERATE has returned within 1 ms, or (`returned`) the sequence is not complete within 10 s (07 R276). -/
def doEnumTimeout (n : Nat) (returned : Bool) (s : State) : State :=
  let l := loopOf s n
  match l.enum with
  | none => s
  | some k =>
    if l.st != 1 then s
    else
      let s1 := answerStart n stAccepted (runToCyc (l.enumAt + (if returned then cycMs 10000 else cycMs 1)) s)
      if returned then enumFail n 2 k (enumLost n 3 s1) else enumFail n 1 0 (enumLost n 2 s1)
/-- ENUM_TIMEOUT (07 R276). -/
def execEnumTimeout (loop : Nat) (returned : Bool) (s : State) : Host.Outcome State Fault Refusal := done (doEnumTimeout loop returned s)

/-! ## Command frames (07 R262 to R268, R273, R274) -/

/-- The command words that a loop's frame carries for a node (07 R262, R264, R270, R287). -/
def slotOf' (s : State) (n pos : Nat) (v : NodeView) : List Nat :=
  let l := loopOf s n
  let off := nodeLost l pos || (l.st == 3 && l.allOff) || v.failsafe
  (List.range (slotWords v)).map (fun k => if off || v.channels ≤ k then 0 else (tget s.cell.frame (chanCode n pos k)).getD 0)
/-- The bytes of a command frame: slots in descending position (07 R262). -/
def frameBytes (slots : Tab (List Nat)) : List Byte :=
  slots.reverse.flatMap (fun e => BitVec.ofNat 8 e.1 :: e.2.flatMap (fun w => (le 3 w).reverse))

/-- A loop's command frame is sent so that its COMMIT ends on the boundary (07 R264). -/
def doCommandFrame (n : Nat) (s : State) : State :=
  let l := loopOf s n
  match nextB s with
  | none => s
  | some b =>
    if roleOf s != 0 || !s.cell.decided || !(l.st == 2 || l.st == 3) || (match l.flight with | some f => f.boundary == b | none => false) then s
    else
      let start := b - ns1 * frameNs l
      let s1 := runTo start s
      let slots := (List.range l.nodes.length).filterMap (fun k => match l.nodes[k]? with | some v => if v.slotted then some (k, slotOf' s n k v) else none | none => none)
      emit .knani n start (frameBytes slots) (setLoop n (fun l => { l with flight := some { tide := s.time.tideNo, boundary := b, slots := slots } }) s1)
/-- COMMAND_FRAME_SEND (07 R264). -/
def execCommandFrameSend (loop : Nat) (s : State) : Host.Outcome State Fault Refusal := done (doCommandFrame loop s)

/-- A node turns every channel off and enters a failsafe state (07 R269). -/
def enterFailsafe (t st : Nat) (d : NodeDev) : NodeDev := { allChansOff t d with st := st, slot := none, latchAt := none, commitAt := none }

/-- What a node does with a command frame and its COMMIT: status, slot, latch schedule (07 R266, R267, R269, R271, R273, R274). -/
def frameAtNode (t b : Nat) (words : List Nat) (x : NodeSense) (d0 : NodeDev) : Nat × NodeDev :=
  let d1 := x.chans.foldl senseChan ((List.range 8).foldl (fun y k => countTo t k y) { d0 with temp := x.temp, supply := x.supply })
  let status := statusWord d1
  let got := slotTaken (d0.pos.getD 0) words x.wire
  let d2 := { d1 with rxErr := got.isNone, phaseErr := x.phase / 10 }
  if d2.st == 2 || d2.st == 3 then (status, d2)
  else
    let d3 := if got.isSome then { d2 with discards := 0, slot := got } else { d2 with discards := d2.discards + 1, slot := none }
    if 3 ≤ d3.discards then (status, enterFailsafe t 3 d3)
    else if natOf (cfgBytes d3 8 1) != 1 then (status, d3)
    else
      let far := decide (1000 < x.phase.natAbs)
      let d4 := { d3 with commitAt := some t, boundary := some b }
      (status,
        if d3.st == 1 then { d4 with st := 0, latchAt := some b }
        else if d3.commitAt.isNone then { d4 with latchAt := none, slot := none }
        else if far then { d4 with st := 1, latchAt := none, slot := none }
        else { d4 with latchAt := some b })

/-- A node takes its slot from a command frame (07 R266). -/
def doNodeFrame (n pos : Nat) (x : NodeSense) (s : State) : State :=
  let l := loopOf s n
  match l.flight, physOf s n pos with
  | some f, some d =>
    match tget f.slots pos, d.pos with
    | some words, some _ =>
      if (tget f.status pos).isSome then s
      else
        let fwd := ((l.nodes[pos]?).map (·.d)).getD 0
        let s1 := runTo (((f.boundary + ns1 * fwd : Int) - 400 * ns1 + ns1 * x.phase).toNat) s
        let r := frameAtNode (dtNow s1) f.boundary words x d
        setLoop n (fun l => { l with flight := l.flight.map (fun f => { f with status := tset f.status pos r.1 }), phys := lmod l.phys pos (fun _ => r.2) }) s1
    | _, _ => s
  | _, _ => s
/-- NODE_COMMAND_FRAME (07 R266). -/
def execNodeCommandFrame (loop pos : Nat) (x : NodeSense) (s : State) : Host.Outcome State Fault Refusal := done (doNodeFrame loop pos x s)

/-- A node in RUN latches its slot at the boundary (07 R267, R268, R273). -/
def doNodeLatch (n pos : Nat) (s : State) : State :=
  match physOf s n pos with
  | none => s
  | some d => match d.latchAt with
    | none => s
    | some b =>
      if d.st != 0 then s
      else
        let s1 := runTo b s
        let u := max us1 (nodeP d / 1000)
        let words := d.slot.getD []
        setPhys n pos (fun d => { (List.range (min 8 words.length)).foldl (fun x k => latchWord b u (words.getD k 0) k x) d with slot := none, latchAt := none }) s1
/-- NODE_LATCH (07 R273). -/
def execNodeLatch (loop pos : Nat) (s : State) : Host.Outcome State Fault Refusal := done (doNodeLatch loop pos s)

/-- The edge that waits on a channel comes (07 R268, 08 R296). -/
def doChannelEdge (n pos k : Nat) (s : State) : State :=
  match (physOf s n pos).bind (fun d => (chanOf d k).next) with
  | none => s
  | some (_, e) => setPhys n pos (releaseEdge k) (runTo e s)
/-- CHANNEL_EDGE (07 R268). -/
def execChannelEdge (loop pos chan : Nat) (s : State) : Host.Outcome State Fault Refusal := done (doChannelEdge loop pos chan s)

/-- No COMMIT within 3 x P_W + 2 us of the last one (07 R269). -/
def doFailsafeCommit (n pos : Nat) (s : State) : State :=
  match physOf s n pos with
  | none => s
  | some d => match d.commitAt with
    | none => s
    | some c =>
      if decide (2 ≤ d.st) then s
      else
        let s1 := runTo (c + 3 * periodOf (natOf (cfgBytes d 7 1)) + 2 * us1) s
        setPhys n pos (enterFailsafe (dtNow s1) 2) s1
/-- FAILSAFE_COMMIT (07 R269). -/
def execFailsafeCommit (loop pos : Nat) (s : State) : Host.Outcome State Fault Refusal := done (doFailsafeCommit loop pos s)

/-- A node sees a wire reset (07 R269). -/
def execNodeWireReset (loop pos : Nat) (s : State) : Host.Outcome State Fault Refusal := done (setPhys loop pos (resetNode (dtNow s)) s)

/-- The current exceeds I_SHORT in an on-time (08 R305): the output goes low and the fault latches. -/
def doShortLoad (n pos k mA : Nat) (s : State) : State :=
  match physOf s n pos with
  | none => s
  | some d =>
    let c := chanOf d k
    if chanCfg d k 0x0C 2 < mA ∧ (c.mode != 0 || c.fade.isSome || c.probe.isSome) then
      setPhys n pos (fun d => modChan k (fun c => { c with amps := mA, fault := if c.fault == 4 then 4 else 3 }) (countTo (dtNow s) k d)) s
    else s
/-- SHORT_LOAD (08 R305). -/
def execShortLoad (loop pos chan mA : Nat) (s : State) : Host.Outcome State Fault Refusal := done (doShortLoad loop pos chan mA s)

/-- The node temperature reaches T_SHUT, or falls to T_SHUT - 10 degC (08 R317, R328). -/
def doOvertemp (n pos : Nat) (temp : Int) (s : State) : State :=
  setPhys n pos (fun d0 =>
    let d := (List.range 8).foldl (fun y k => countTo (dtNow s) k y) { d0 with temp := temp }
    if (nodeShut d0 : Int) ≤ temp then { d with hot := true, chans := d.chans.map (fun c => { c with low := c.mode == 2, fade := none, probe := none }) }
    else if temp + 10 ≤ (nodeShut d0 : Int) then { d with hot := false } else d) s
/-- NODE_OVERTEMPERATURE (08 R317). -/
def execNodeOvertemperature (loop pos : Nat) (temp : Int) (s : State) : Host.Outcome State Fault Refusal := done (doOvertemp loop pos temp s)

/-! ## Breaks and missing returns (07 R285 to R287) -/

/-- A node whose input has stayed low originates a BREAK frame (07 R285). -/
def doBreakOriginate (n pos : Nat) (s : State) : State := if pos < (loopOf s n).phys.length then setLoop n (fun l => { l with hops := some 1 }) s else s
/-- NODE_BREAK_ORIGINATE (07 R285). -/
def execNodeBreakOriginate (loop pos : Nat) (s : State) : Host.Outcome State Fault Refusal := done (doBreakOriginate loop pos s)
/-- A node forwards a BREAK frame with HOPS increased by 1 (07 R285). -/
def doBreakForward (n pos : Nat) (s : State) : State :=
  if pos < (loopOf s n).phys.length then setLoop n (fun l => { l with hops := l.hops.map (fun h => min 255 (h + 1)) }) s else s
/-- NODE_BREAK_FORWARD (07 R285). -/
def execNodeBreakForward (loop pos : Nat) (s : State) : Host.Outcome State Fault Refusal := done (doBreakForward loop pos s)

/-- A loop becomes BROKEN before position j (07 R286, R287). -/
def breakLoop (n j : Nat) (s : State) : State :=
  let l := loopOf s n
  let tide := if l.missRun == 0 then s.time.tideNo else l.missTide
  raise { code := 0x0702, sev := 4, p0 := n, p1 := j, p2 := tide }
    (setLoop n (fun l => { l with st := 3, breakPos := some j, breakTide := tide, flight := none, hops := none, silent := 0 }) (dropManage n s))

/-- A BREAK frame arrives at KR_n (07 R285, R286, R289). -/
def doBreakFrame (n : Nat) (s : State) : State :=
  let l := loopOf s n
  match l.hops with
  | none => s
  | some h =>
    if l.st == 2 then breakLoop n (l.count - h) s
    else if l.st == 1 then enumFail n 3 (l.enum.getD l.count) (enumLost n 3 (answerStart n stAccepted s))
    else setLoop n (fun l => { l with hops := none }) s
/-- BREAK_FRAME (07 R286). -/
def execBreakFrame (loop : Nat) (s : State) : Host.Outcome State Fault Refusal := done (doBreakFrame loop s)

/-- The returned frame is missing or malformed; `silent`: nothing at KR_n (07 R286). -/
def doReturnMissing (n : Nat) (silent : Bool) (s : State) : State :=
  let l := loopOf s n
  match l.flight with
  | none => s
  | some f =>
    if l.st != 2 then s
    else
      let s1 := runTo (f.boundary + ns1 * (l.transit + 1000) - 400 * ns1) s
      let quiet := match l.missAt with | some c => decide (c + cycMs 1000 ≤ s1.time.cyc) | none => true
      let s2 := setLoop n (fun l => { l with
        flight := none, missRun := l.missRun + 1, missTotal := (l.missTotal + 1) % 2 ^ 32, missTide := if l.missRun == 0 then f.tide else l.missTide
        silent := if silent then l.silent + 1 else 0, missAt := if quiet then some s1.time.cyc else l.missAt }) s1
      let s3 := raiseIf quiet { code := 0x0703, sev := 3, p0 := n, p1 := f.tide, p2 := l.missRun + 1 } s2
      if silent && decide (2 ≤ l.silent) then breakLoop n l.count s3 else s3
/-- KNANI_RETURN_MISSING (07 R286). -/
def execKnaniReturnMissing (loop : Nat) (silent : Bool) (s : State) : Host.Outcome State Fault Refusal := done (doReturnMissing loop silent s)

/-! ## Delay measurement (07 R272, R275) -/

/-- Segments are measured again: one (`rts` holds the round trip of its echo), or all of them where a full measurement is pending (07 R272, R275). -/
def doSegment (n : Nat) (rts : List Nat) (s : State) : State :=
  let l := loopOf s n
  let cs := (List.range rts.length).map (fun k => segDelay l.phys k (rts.getD k 0))
  if !(l.st == 2) then s
  else if l.full then
    if cs.length < l.nodes.length + 1 then s
    else
      let l1 := rederive { l with nodes := (List.range l.nodes.length).filterMap (fun k => (l.nodes[k]?).map (fun v => { v with c := cs.getD k 0 }))
                                  cLast := cs.getD l.nodes.length 0, full := false, transitFull := l.transit }
      timingReport n (writeAdvs n l.nodes (setLoop n (fun _ => l1) (passDone 6 s)))
  else match rts with
    | [] => s
    | rt :: _ =>
      let s1 := runToCyc l.segAt s
      let k := l.segNext
      let c := segDelay l.phys k rt
      let l1 := rederive { l with nodes := lmod l.nodes k (fun v => { v with c := c }), cLast := if k == l.nodes.length then c else l.cLast
                                  segNext := (k + 1) % (l.nodes.length + 1), segAt := s1.time.cyc + cycMs 100 }
      timingReport n (writeAdvs n l.nodes (setLoop n (fun _ => l1) (passDone 6 s1)))
/-- SEGMENT_REMEASURE (07 R275). -/
def execSegmentRemeasure (loop : Nat) (rts : List Nat) (s : State) : Host.Outcome State Fault Refusal := done (doSegment loop rts s)

/-! ## Management (07 R270, R277) -/

/-- The node addressed by the MANAGE frame under way performs it (07 R277); `echo` the round trip of its output segment, `intact` its checks. -/
def doManageAtNode (n echo : Nat) (intact : Bool) (s : State) : State :=
  match (loopOf s n).manage with
  | [] => s
  | m :: r => match physOf s n m.pos with
    | none => s
    | some d =>
      if d.pos.isNone || m.result != 0 then s
      else
        let x := manageAt (dtNow s) echo intact m d
        setLoop n (fun l => { l with manage := x.1 :: r, phys := lmod l.phys m.pos (fun _ => x.2) }) s
/-- MANAGE_AT_NODE (07 R277). -/
def execManageAtNode (p : MgmtPass) (echo : Nat) (s : State) : Host.Outcome State Fault Refusal := done (doManageAtNode p.loop echo p.intact s)

/-- Completion status of a management transfer by its RESULT (07 R277, R292). -/
def resultStatus (r : Nat) : Nat := match r with | 0 => 0x0781 | 1 => stOk | 3 => 0x0782 | 5 => 0x0781 | _ => stTimeout

/-- A resumption goes on: the header read, the echo, the configuration (07 R270). -/
def resumeStep (n : Nat) (m : Manage) (step : Nat) (s : State) : State :=
  let l := loopOf s n
  let v := l.nodes.getD m.pos {}
  let quit := setView n m.pos (fun v => { v with resuming := false, failsafe := true }) s
  match step with
  | 0 =>
    if m.result == 1 && recSerial m.data == v.serial && recType m.data == v.type then
      pushManage n { pos := m.pos, mem := 0, op := 6, addr := 0, len := 2, why := .resume 1 } s
    else raise { code := 0x0707, sev := 4, p0 := n, p1 := m.pos } quit
  | 1 =>
    let c := segDelay l.phys (m.pos + 1) (natOf m.data)
    let l1 := if m.result != 1 then l
      else rederive { l with nodes := lmod l.nodes (m.pos + 1) (fun v => { v with c := c }), cLast := if m.pos + 1 == l.nodes.length then c else l.cLast }
    let code := s.votes.tide.value
    let w := l1.nodes.getD m.pos {}
    let s1 := writeAdvs n (lmod l.nodes m.pos (fun v => { v with adv := w.adv })) (setLoop n (fun _ => l1) s)
    let s2 := ownWrite n m.pos 0x0D (le 1 (w.adv / 65536)) s1
    pushManage n { pos := m.pos, mem := 0, op := 4, addr := 1, len := 8, why := .resume 2
                   data := le 1 (slotWords w) ++ le 2 (slotOffset l1 m.pos) ++ le 2 w.adv ++ le 1 code ++ le 1 code ++ [1] } s2
  | _ => if m.result == 1 then s else quit

/-- What a frame of a host's transfer has read goes on to the transfer's last frame, the first of its kind in line. -/
def passOn (got : List Byte) : List Manage → List Manage
  | [] => []
  | m :: r => if m.why == .host then { m with got := m.got ++ got } :: r else m :: passOn got r
/-- A host's transfer ends before its last frame: the frames left of it leave the line; its command. -/
def cutHost : List Manage → Option (Nat × Nat × Nat × Nat) × List Manage
  | [] => (none, [])
  | m :: r => if m.why == .host then (m.cmd, r) else cutHost r

/-- A MANAGE frame has returned: what it was for goes on (07 R277). -/
def manageDone (n : Nat) (m : Manage) (r : List Manage) (s : State) : State :=
    let s1 := setLoop n (fun l => { l with manage := r }) s
    match m.why with
    | .host => finishFor m.cmd (resultStatus m.result) (if m.result == 1 then m.got ++ m.data else []) s1
    | .part =>
      if m.result == 1 then setLoop n (fun l => { l with manage := passOn m.data r }) s
      else let x := cutHost r; finishFor x.1 (resultStatus m.result) [] (setLoop n (fun l => { l with manage := x.2 }) s)
    | .config => finishFor m.cmd (if m.result == 1 then stOk else stTimeout) [] s1
    | .clear _ => s1
    | .neighbour => s1
    | .save k cause =>
      if m.result == 1 then
        match physOf s1 n m.pos with
        | some d => setChanView (chanCode n m.pos k) (fun v => { v with saved := chanCfg d k 0x18 8 }) s1
        | none => s1
      else chanEvent (chanCode n m.pos k) { code := 0x071A, sev := 3, p0 := chanCode n m.pos k, p1 := m.result, p2 := cause } s1
    | .resume k => resumeStep n m k s1
    | .own => s1
/-- A MANAGE frame returns at KR_n with its result, and the next in line is sent (07 R277); `intact`: the DATA_CRC of what it read holds. -/
def doManageFrame (n : Nat) (intact : Bool) (s : State) : State :=
  match (loopOf s n).manage with
  | [] => s
  | m :: r =>
    let s1 := manageDone n (if intact || m.result != 1 then m else { m with result := 3 }) r s
    if r.isEmpty then s1 else sendManage n s1
/-- MANAGE_FRAME (07 R277). -/
def execManageFrame (p : MgmtPass) (s : State) : Host.Outcome State Fault Refusal := done (doManageFrame p.loop p.intact s)

/-- One second after a new period: WATCHDOG_PERIOD = PERIOD for every slotted node (07 R279). -/
def doWatchdogRestore (n : Nat) (s : State) : State :=
  let l := loopOf s n
  match l.dogAt with
  | none => s
  | some c =>
    let s1 := setLoop n (fun l => { l with dogAt := none }) (runToCyc c s)
    (List.range l.nodes.length).foldl (fun st k => if ((l.nodes[k]?).map (·.slotted)).getD false then ownWrite n k 7 (le 1 s.votes.tide.value) st else st) s1
/-- WATCHDOG_PERIOD_RESTORE (07 R279). -/
def execWatchdogPeriodRestore (loop : Nat) (s : State) : Host.Outcome State Fault Refusal := done (doWatchdogRestore loop s)

/-- A new tide period is accepted: WATCHDOG_PERIOD becomes the longer of both in every node in RUN (07 R279). -/
def knaniPeriodAccepted (code : Nat) (s : State) : State :=
  let longer := if periodOf s.votes.tide.value < periodOf code then code else s.votes.tide.value
  (List.range 16).foldl (fun st n =>
    let l := loopOf st n
    if l.st != 2 then st
    else (List.range l.nodes.length).foldl (fun x k => if ((l.nodes[k]?).map (·.slotted)).getD false then ownWrite n k 7 (le 1 longer) x else x) st) s

/-- Channels of the nodes that keep their slots under a bit budget (07 R265). -/
def keptChannels (budget : Nat) (l : Loop) : Nat :=
  (((reslot budget 0 l.nodes).1.filter (·.slotted)).map (·.channels)).sum

/-- The channels of the 4,096 that the loops before `n` leave to it after a change of period: what no loop holds, less what the loops before it gained (00 R5,
07 R265; which loop gains first where not all can is the model's choice, log entry 58: the lowest). -/
def roomFor (s : State) (n : Nat) : Nat :=
  let b := bitBudget (tideP s)
  let ls := (List.range 16).map (fun k => loopOf s k) |>.filter (fun l => l.st == 2 || l.st == 3)
  let kept := (ls.map (keptChannels b)).sum
  ((List.range n).map (fun k => loopOf s k) |>.filter (fun l => l.st == 2 || l.st == 3)).foldl (fun room l => (reslot b room l.nodes).2) (4096 - kept)

/-- A new tide period has taken effect: capacity, slots, PERIOD and SLOT_OFFSET follow (07 R265, R274, R279). -/
def knaniPeriodTaken (s : State) : State :=
  (List.range 16).foldl (fun st n =>
    let l := loopOf st n
    if !(l.st == 2 || l.st == 3) then st
    else
      let l1 := { l with nodes := (reslot (bitBudget (tideP st)) (roomFor s n) l.nodes).1, flight := none, dogAt := some (st.time.cyc + cycMs 1000) }
      let phys := (List.range l.phys.length).filterMap (fun k => (l.phys[k]?).map (fun d =>
        match l1.nodes[k]? with
        | some v =>
          if !v.slotted then { setCfg 8 [0] (allChansOff (dtNow st) d) with slot := none, latchAt := none, commitAt := none }
          else if d.cfg.isEmpty then nodeSetup st l1 n k d
          else setCfg 6 (le 1 st.votes.tide.value) (setCfg 2 (le 2 (slotOffset l1 k)) (if natOf (cfgBytes d 8 1) == 1 then d else setCfg 7 (le 1 st.votes.tide.value) (setCfg 8 [1] d)))
        | none => d))
      let without : Nat := (l1.nodes.filter (fun v => v.sound && !v.slotted)).length
      raiseIf (decide (0 < without)) { code := 0x0708, sev := 3, p0 := n, p1 := without, p2 := st.votes.tide.value } (setLoop n (fun _ => { l1 with phys := phys }) st)) s

/-- At a tide boundary: a loop under restore whose cells' OFF has been committed starts its enumeration (07 R288). -/
def knaniBoundary (s : State) : State :=
  (List.range 16).foldl (fun st n => if (loopOf st n).restoring && (loopOf st n).st == 3 && !loopCellOn st n then startEnum n (saveLoop n st) else st) s

/-! ## Life counts and module headers (08 R324 to R327) -/

/-- NEAR_END and WORN of a module, each once (08 R326). -/
def wearMarks (ch : Nat) (s : State) : State :=
  match tget s.knani.shadow ch with
  | none => s
  | some x =>
    let u := usedMille x
    let near := decide (900 ≤ u)
    let worn := decide (1000 ≤ u)
    let s1 := { s with knani := { s.knani with shadow := tset s.knani.shadow ch { x with near := x.near || near, worn := x.worn || worn } } }
    let s2 := raiseIf (near && !x.near) { code := 0x0716, sev := 2, p0 := ch, p1 := x.c0 % 2 ^ 32, p2 := x.c1 } s1
    let s3 := raiseIf (worn && !x.worn) { code := 0x0717, sev := 3, p0 := ch, p1 := x.c0 % 2 ^ 32, p2 := x.c1 } s2
    setChanView ch (fun v => { v with wornHold := (x.worn || worn) && s.knani.eolHold }) s3

/-- The counts of one channel are read, kept in the shadow, and saved where they have advanced by 10,000 (08 R324, R325). -/
def lifeCheck1 (n pos k : Nat) (s0 : State) : State :=
  let s := setPhys n pos (countTo (dtNow s0) k) s0
  let ch := chanCode n pos k
  match physOf s n pos, tget s.knani.shadow ch with
  | some d, some x =>
    if (modOf d k).isNone then s
    else
      let c0 := chanCfg d k 0x18 8
      let c1 := chanCfg d k 0x20 4
      let s1 := { s with knani := { s.knani with shadow := tset s.knani.shadow ch { x with c0 := c0, c1 := c1 } } }
      let s2 := setChanView ch (fun v => { v with life0 := c0, life1 := c1 }) s1
      let due := match viewOf s2 ch with | some v => decide (v.saved + 10000 ≤ c0) | none => false
      let s3 := if due then pushManage n { pos := pos, mem := 0, op := 4, addr := 0x0B, len := 1, data := le 1 (2 ^ k), why := .save k 0 } s2 else s2
      wearMarks ch s3
  | _, _ => s

/-- A fold over every channel of every slotted node of the loops in RUN. -/
def overChannels (f : Nat → Nat → Nat → State → State) (s : State) : State :=
  (List.range 16).foldl (fun st n =>
    let l := loopOf st n
    if l.st != 2 then st
    else (List.range l.nodes.length).foldl (fun x pos => match l.nodes[pos]? with
      | some v => if v.slotted then (List.range v.channels).foldl (fun y k => f n pos k y) x else x
      | none => x) st) s

/-- LIFE_COUNT_CHECK (08 R324 to R326). -/
def execLifeCountCheck (s : State) : Host.Outcome State Fault Refusal := done (overChannels lifeCheck1 (passDone 7 s))

/-- A module's header is read again (08 R327): `r` its memory, none where it gives no answer. -/
def doModuleHeader (n pos k : Nat) (r : Option (List Byte)) (s : State) : State :=
  match viewOf s (chanCode n pos k), nodeOf s (chanCode n pos k) with
  | some _, some v =>
    if (loopOf s n).st != 2 || !v.slotted then s
    else
      let old := (physOf s n pos).bind (fun d => modOf d k)
      let s1 := setPhys n pos (fun d => { d with mods := patchOpt d.mods k r }) s
      match r with
      | none => if bit v.features 2 then missingModule n pos k s1 else s1
      | some b =>
        let same := match old with | some o => recSerial o == recSerial b && recType o == recType b | none => false
        if same then s1 else loadLife n pos k (idFault n (256 * pos + 2 + k) b s1)
  | _, _ => s
where
  /-- The memories with one replaced. -/
  patchOpt (l : List (Option (List Byte))) (k : Nat) (r : Option (List Byte)) : List (Option (List Byte)) :=
    l.take k ++ List.replicate (k - l.length) none ++ [r] ++ l.drop (k + 1)
/-- MODULE_HEADER_READ (08 R327). -/
def execModuleHeaderRead (loop pos chan : Nat) (record : Option (List Byte)) (s : State) : Host.Outcome State Fault Refusal :=
  done (doModuleHeader loop pos chan record s)

/-! ## Identity buses (07 R284) -/

/-- A transaction put in line on an identity bus. -/
def pushId (b : Nat) (t : IdTrans) (s : State) : State :=
  emit .idBus b 0 ([BitVec.ofNat 8 t.op] ++ le 2 t.addr ++ le 1 t.len ++ t.data) { s with knani := { s.knani with idQ := lmod s.knani.idQ b (· ++ [t]) } }

/-- The device's own read of the record on a bus has ended (07 R284, 03 R102). -/
def idOwnRead (b : Nat) (r0 : Option (List Byte)) (s : State) : State :=
  let s1 := { s with knani := { s.knani with idRecs := lmod s.knani.idRecs b (fun _ => r0), idPart := lmod s.knani.idPart b (fun _ => []) } }
  let s2 := match r0 with | none => s1 | some r => idFault (16 + b) 1 r s1
  let good := (r0.bind (fun r => if recOk r then some r else none))
  if 2 ≤ b then s2
  else frontendRead b ((good.map (fun r => (r.drop 8).take 8)).getD []) good.isSome
    (good.bind (fun r => if recType r == 0x0301 then (recBlock r).map (fun x => x.take (x.length - 2)) else none)) s2

/-- The data of a READ's answer, where it has its LENGTH and the CRC-16 that follows holds (07 R284). -/
def idData (t : IdTrans) (a : List Byte) (crc : Nat) : Option (List Byte) := if a.length == t.len && crc16 a == crc then some a else none

/-- The device's own reading goes on: the header, then the record by its LENGTH, 128 bytes at most a time (07 R280, R284). A transfer that fails its CRC leaves the
record unreadable. -/
def idOwnStep (b : Nat) (data : Option (List Byte)) (s : State) : State :=
  match data with
  | none => idOwnRead b (some (List.replicate 64 0)) s
  | some d =>
    let part := s.knani.idPart.getD b [] ++ d
    let whole := if recOk part then max 64 (min 4096 (uAt part 2 2)) else 64
    if part.length < whole then
      let t : IdTrans := { op := 1, addr := part.length, len := min 128 (whole - part.length) }
      emit .idBus b 0 ([1] ++ le 2 t.addr ++ le 1 t.len) { s with knani := { s.knani with
        idPart := lmod s.knani.idPart b (fun _ => part), idQ := lmod s.knani.idQ b (fun q => t :: q) } }
    else idOwnRead b (some part) s

/-- An identity bus transaction completes with the memory's answer and the CRC-16 after it, or none within 1 ms (07 R284, R292). -/
def doIdTransaction (b : Nat) (answer : Option (List Byte)) (crc : Nat) (s : State) : State :=
  match s.knani.idQ.getD b [] with
  | [] => s
  | t :: r =>
    let s1 := { s with knani := { s.knani with idQ := lmod s.knani.idQ b (fun _ => r) } }
    match t.cmd, answer with
    | none, none => idOwnRead b none s1
    | none, some a => idOwnStep b (idData t a crc) s1
    | some _, none => finishFor t.cmd 0x0781 [] s1
    | some _, some a =>
      if t.op == 1 then match idData t a crc with
        | some d => finishFor t.cmd stOk d s1
        | none => finishFor t.cmd 0x0782 [] s1
      else finishFor t.cmd (resultStatus (uAt a 0 1)) [] s1
/-- ID_BUS_TRANSACTION (07 R284). -/
def execIdBusTransaction (bus : Nat) (answer : Option (List Byte)) (crc : Nat) (s : State) : Host.Outcome State Fault Refusal :=
  done (doIdTransaction bus answer crc s)

/-! ## Commands (07 R290 to R292) -/

/-- KNANI_LOOP_START (07 R276, R289). -/
def knaniLoopStart (c : Cmd) (p : List Byte) (s : State) : Reply × State :=
  let n := uAt p 0 1
  if 15 < n ∨ 1 < uAt p 1 1 ∨ 1 < uAt p 2 1 then refuse stBadParam s
  else if loopCellOn s n || noService s then refuse stBadState s
  else
    let others := otherChannels s n
    let own := (giveSlots (bitBudget (tideP s)) ((loopOf s n).phys.map (fun d => nodeViewOf 0 d.idRec)))
    if 4096 < others + ((own.filter (·.slotted)).map (·.channels)).sum then refuse stTableFull s
    else
      let accept := uAt p 1 1 == 1
      let s1 := startEnum n (setLoop n (fun l => { l with
        acceptNew := accept, allOff := uAt p 2 1 == 1, restoring := false, before := if accept then [] else if l.mismatch then l.before else [], mismatch := l.mismatch && !accept }) s)
      if others + mostChannels (tideP s) ≤ 4096 then accepted s1
      else (.later, setLoop n (fun l => { l with startCmd := waiting 0x0701 c }) s1)
/-- KNANI_LOOP_START. -/
def execKnaniLoopStart (c : Cmd) (s : State) : Host.Outcome State Fault Refusal := done (commandC 0x0701 3 0 (some 0) knaniLoopStart c s)

/-- KNANI_LOOP_STOP (07 R290, 08 R324). -/
def knaniLoopStop (p : List Byte) (s : State) : Reply × State :=
  let n := uAt p 0 1
  if 15 < n then refuse stBadParam s
  else if loopCellOn s n || noService s then refuse stBadState s
  else ok (cellsChanged (loopOff n 0 (saveLoop n s)))
/-- KNANI_LOOP_STOP. -/
def execKnaniLoopStop (c : Cmd) (s : State) : Host.Outcome State Fault Refusal := done (command 0x0702 1 0 (some 0) knaniLoopStop c s)

/-- KNANI_LOOP_RESTORE (07 R288). -/
def knaniLoopRestore (p : List Byte) (s : State) : Reply × State :=
  let n := uAt p 0 1
  if 15 < n then refuse stBadParam s
  else if (loopOf s n).st != 3 then refuse stBadState s
  else accepted (setLoop n (fun l => { l with restoring := true, before := l.nodes.map (fun v => (v.serial, v.type)) }) s)
/-- KNANI_LOOP_RESTORE. -/
def execKnaniLoopRestore (c : Cmd) (s : State) : Host.Outcome State Fault Refusal := done (command 0x0703 1 0 (some 0) knaniLoopRestore c s)

/-- The result of KNANI_LOOP_STATUS (07 R291). -/
def loopStatusBytes (l : Loop) : List Byte :=
  le 1 l.st ++ le 1 l.cause ++ le 1 (min 255 l.count) ++ le 1 (slottedNodes l).length ++ le 2 (loopChannels l) ++
  le 1 (if l.st == 3 then l.breakPos.getD 255 else 255) ++ le 1 (b1 l.allOff) ++ le 4 (frameNs l) ++ le 4 l.transit ++ le 4 l.predicted ++
  le 4 l.missTotal ++ le 4 l.breakTide
/-- KNANI_LOOP_STATUS (07 R291). -/
def knaniLoopStatus (p : List Byte) (s : State) : Reply × State :=
  if 15 < uAt p 0 1 then refuse stBadParam s else okWith (loopStatusBytes (loopOf s (uAt p 0 1))) s
/-- KNANI_LOOP_STATUS. -/
def execKnaniLoopStatus (c : Cmd) (s : State) : Host.Outcome State Fault Refusal := done (command 0x0704 1 28 (some 0) knaniLoopStatus c s)

/-- KNANI_NODE_STATUS (07 R290). -/
def knaniNodeStatus (p : List Byte) (s : State) : Reply × State :=
  let n := uAt p 0 1
  if 15 < n then refuse stBadParam s
  else match (if (loopOf s n).st == 0 then none else (loopOf s n).nodes[uAt p 1 1]?) with
    | none => refuse 0x0780 s
    | some v => okWith (le 8 (v.status.getD 0) ++ le 4 v.d ++ le 4 v.adv ++ le 4 v.discarded ++ le 4 v.missing) s
/-- KNANI_NODE_STATUS. -/
def execKnaniNodeStatus (c : Cmd) (s : State) : Host.Outcome State Fault Refusal := done (command 0x0705 2 24 (some 0) knaniNodeStatus c s)

/-- Why a loop or position cannot be addressed (07 R292). -/
def nodeFault (s : State) (n pos : Nat) : Option Nat :=
  if !((loopOf s n).st == 2 || (loopOf s n).st == 3) then some 0x0783
  else match (loopOf s n).nodes[pos]? with | some v => if v.slotted then none else some 0x0780 | none => some 0x0780

/-- The chunks of a transfer: offset and length, none longer than one frame allows (07 R277). -/
def chunks (room len : Nat) : List (Nat × Nat) := (List.range ((len + room - 1) / room)).map (fun k => (room * k, min room (len - room * k)))
/-- The frames of a host's transfer put in line, chunk by chunk; the last answers the command (07 R277). -/
def pushTransfer (n : Nat) (cmd : Option (Nat × Nat × Nat × Nat)) (l : List (List Manage)) (s : State) : State :=
  let ms := l.flatten
  (List.range ms.length).foldl (fun st k => match ms[k]? with
    | some m => pushManage n (if k + 1 == ms.length then { m with why := .host, cmd := cmd } else { m with why := .part }) st
    | none => st) s

/-- KNANI_ID_READ (07 R277, R284, R289, R290). -/
def knaniIdRead (c : Cmd) (p : List Byte) (s : State) : Reply × State :=
  let src := uAt p 0 1; let pos := uAt p 1 1; let mem := uAt p 2 1; let addr := uAt p 4 2; let len := uAt p 6 1
  if 19 < src ∨ 9 < mem ∨ len = 0 ∨ 128 < len then refuse stBadParam s
  else if 16 ≤ src then (.later, pushId (src - 16) { op := 1, addr := addr, len := len, cmd := waiting 0x0706 c } s)
  else if roleOf s != 0 then refuse stBadState s
  else match nodeFault s src pos with
    | some st => refuse st s
    | none =>
      (.later, pushTransfer src (waiting 0x0706 c) ((chunks (manageRoom s src) len).map (fun x =>
        if mem == 0 then [{ pos := pos, mem := 0, op := 5, addr := addr + x.1, len := x.2 }]
        else [{ pos := pos, mem := mem, op := 1, addr := addr + x.1, len := x.2 }, { pos := pos, mem := mem, op := 2, addr := addr + x.1, len := x.2 }])) s)
/-- KNANI_ID_READ. -/
def execKnaniIdRead (c : Cmd) (s : State) : Host.Outcome State Fault Refusal := 
  done (commandC 0x0706 7 (min 128 (uAt (prmOf c) 6 1)) none knaniIdRead c s)

/-- A write lies within the user area of a record (07 R280, R283). -/
def inUserArea (r : Option (List Byte)) (addr len : Nat) : Bool := match r with
  | none => false
  | some r => recOk r && uAt r 42 2 != 0 && decide (uAt r 42 2 ≤ addr) && decide (addr + len ≤ uAt r 42 2 + uAt r 44 2)

/-- KNANI_ID_WRITE (07 R283, R284, R290). -/
def knaniIdWrite (c : Cmd) (p : List Byte) (s : State) : Reply × State :=
  let src := uAt p 0 1; let pos := uAt p 1 1; let mem := uAt p 2 1; let addr := uAt p 4 2; let len := uAt p 6 1
  let data := (p.drop 8).take len
  if 19 < src ∨ 9 < mem ∨ len = 0 ∨ 128 < len then refuse stBadParam s
  else if 16 ≤ src then
    if !inUserArea (s.knani.idRecs.getD (src - 16) none) addr len then refuse stNotPermitted s
    else (.later, pushId (src - 16) { op := 3, addr := addr, len := len, data := data ++ le 2 (crc16 data), cmd := waiting 0x0707 c } s)
  else if roleOf s != 0 then refuse stBadState s
  else match nodeFault s src pos with
    | some st => refuse st s
    | none =>
      if !inUserArea ((physOf s src pos).bind (fun d => if mem == 0 then none else nodeMem d mem)) addr len then refuse stNotPermitted s
      else (.later, pushTransfer src (waiting 0x0707 c) ((chunks (manageRoom s src) len).map (fun x =>
        [{ pos := pos, mem := mem, op := 3, addr := addr + x.1, len := x.2, data := (data.drop x.1).take x.2 }])) s)
/-- KNANI_ID_WRITE. -/
def execKnaniIdWrite (c : Cmd) (s : State) : Host.Outcome State Fault Refusal := 
  done (commandC 0x0707 (8 + min 128 (uAt (prmOf c) 6 1)) 0 none knaniIdWrite c s)

/-- KNANI_TIMING_MEASURE (07 R272, R275). -/
def knaniTimingMeasure (p : List Byte) (s : State) : Reply × State :=
  let n := uAt p 0 1
  if 15 < n then refuse stBadParam s
  else if !((loopOf s n).st == 2 || (loopOf s n).st == 3) then refuse 0x0783 s
  else accepted (setLoop n (fun l => { l with full := true }) s)
/-- KNANI_TIMING_MEASURE. -/
def execKnaniTimingMeasure (c : Cmd) (s : State) : Host.Outcome State Fault Refusal := done (command 0x0708 1 0 (some 0) knaniTimingMeasure c s)

/-- KNANI_NODE_RESUME (07 R270). -/
def knaniNodeResume (p : List Byte) (s : State) : Reply × State :=
  let n := uAt p 0 1
  let pos := uAt p 1 1
  if 15 < n then refuse stBadParam s
  else match nodeFault s n pos with
    | some st => refuse st s
    | none =>
      let v := (loopOf s n).nodes.getD pos {}
      if !v.failsafe || nodeLost (loopOf s n) pos then refuse stBadState s
      else accepted (pushManage n { pos := pos, mem := 1, op := 2, addr := 0, len := 64, why := .resume 0 }
        (pushManage n { pos := pos, mem := 1, op := 1, addr := 0, len := 64 } (setView n pos (fun v => { v with resuming := true }) s)))
/-- KNANI_NODE_RESUME. -/
def execKnaniNodeResume (c : Cmd) (s : State) : Host.Outcome State Fault Refusal := done (command 0x0710 2 0 (some 0) knaniNodeResume c s)

end Sys2Proof.Machine
end

