-- ==== Sys2Proof/Machine/Channel.lean ====
section
/-!
DEFINITION. The device's side of the channels: returned statuses (07 R270, R271, R286, 08 R303 to R308), the packing of frames with probes
(05 R202, 08 R309 to R312, R314), and the channel commands (08 R329, R330).
-/
namespace Sys2Proof.Machine

/-! ## Returned frames -/

/-- T_OPEN_MIN of the valve cartridge of a channel, none without a readable block (08 R312, R321). -/
def openMin (s : State) (ch : Nat) : Option Nat :=
  (physOf s (chLoop ch) (chPos ch)).bind (fun d => match modOf d (chNo ch) with
    | some r => if recType r == 0x0201 then (recBlock r).map (fun b => uAt b 2 2) else none
    | none => none)
/-- Width of a channel's probe in us: 0 disabled, none unavailable (08 R299, R312). -/
def probeWidth (s : State) (ch : Nat) : Option Nat :=
  let w := ((physOf s (chLoop ch) (chPos ch)).map (fun d => chanCfg d (chNo ch) 0x0B 1)).getD 0
  if w == 0 || chanStrobe s ch then some w
  else match openMin s ch with
    | none => none
    | some m => if min w (m - 10) < 20 then none else some (min w (m - 10))
/-- PROBE_UNAVAILABLE, once (08 R312). -/
def probeUnavailable (ch : Nat) (s : State) : State :=
  match viewOf s ch, probeWidth s ch with
  | some v, none =>
    if v.noProbe then s
    else raise { code := 0x0711, sev := 3, p0 := ch, p1 := b1 (openMin s ch).isSome, p2 := (openMin s ch).getD 0 } (setChanView ch (fun v => { v with noProbe := true }) s)
  | _, _ => s

/-- The event of a code newly reported (08 R303, R332). -/
def diagEvent (n pos k code tide : Nat) (s : State) : State :=
  let ch := chanCode n pos k
  let d := (physOf s n pos).getD {}
  let c := chanOf d k
  let temp := (((nodeOf s ch).bind (·.status)).map (fun w => w / 2 ^ 40 % 256)).getD 0
  match code with
  | 1 => chanEvent ch { code := 0x070F, sev := 1, p0 := ch, p1 := tide, p2 := onTime d k c.duty / ns1 } s
  | 2 => chanEvent ch { code := 0x070E, sev := 3, p0 := ch, p1 := tide, p2 := b1 c.openOn } s
  | 3 => chanEvent ch { code := 0x070C, sev := 4, p0 := ch, p1 := tide, p2 := c.amps } s
  | 4 => chanEvent ch { code := 0x070D, sev := 5, p0 := ch, p1 := tide, p2 := c.pinMv } s
  | 5 => chanEvent ch { code := 0x0713, sev := 2, p0 := ch, p1 := capOf d k, p2 := w32 (signed 8 temp) } s
  | _ => s

/-- One channel's code in a returned status (08 R303, R305 to R309, R312, R319). -/
def takeDiag (n pos k code tide : Nat) (s : State) : State :=
  let ch := chanCode n pos k
  match viewOf s ch with
  | none => s
  | some v =>
    let latch := code == 3 || code == 4 || code == 6
    let cleared := v.clearing.isSome && !latch
    let s1 := setChanView ch (fun v => { v with
      diag := code, nv := if code == 1 then v.nv + 1 else 0, tried := if code == 1 then v.tried else 0
      latched := if cleared then false else v.latched || latch, clearing := if cleared then none else v.clearing }) s
    let s2 := if code == v.diag then s1 else diagEvent n pos k code tide s1
    let s3 := if cleared then chanEvent ch { code := 0x071B, sev := 2, p0 := ch, p1 := v.clearing.getD 0 } s2 else s2
    let s4 := if code == 1 then probeUnavailable ch s3 else s3
    let d := (physOf s4 n pos).getD {}
    if (chanOf d k).clamped == 64 then chanEvent ch { code := 0x0715, sev := 3, p0 := ch, p1 := trimOf d k, p2 := (chanOf d k).ratio } s4 else s4

/-- A node's status taken from a returned frame (07 R267, R270, R271, R274, 08 R307, R315, R317). -/
def takeStatus (n pos : Nat) (w tide : Nat) (s : State) : State :=
  match (loopOf s n).nodes[pos]? with
  | none => s
  | some v =>
    let st := w / 2 ^ 56 % 4
    let rx := bit w 55
    let ph := w / 2 ^ 48 % 64
    let np := nodeWord n pos
    let hot0 := v.chans.any (fun c => c.diag == 7)
    let s1 := setView n pos (fun v => { v with
      status := some w, rxRun := if rx then v.rxRun + 1 else 0, discarded := if rx then (v.discarded + 1) % 2 ^ 32 else v.discarded }) s
    let s2 := raiseIf rx { code := 0x0704, sev := 3, p0 := np, p1 := tide, p2 := v.rxRun + 1 } s1
    let s3 := raiseIf (st == 1 && (ph == 31 || ph == 32)) { code := 0x070B, sev := 3, p0 := np, p1 := w32 (signed 6 ph * 10) } s2
    let s4 := if (st == 2 || st == 3) && !v.failsafe then
        raise { code := 0x0705, sev := 4, p0 := np, p1 := st, p2 := tide } (setView n pos (fun v => { v with failsafe := true }) s3)
      else if v.resuming && v.failsafe && st == 0 then
        (List.range v.channels).foldl (fun x k => setChanView (chanCode n pos k) (fun c => { c with probes := 0 }) (loadLife n pos k x))
          (raise { code := 0x071C, sev := 2, p0 := np, p1 := (s.time.tideNo + 1) % 2 ^ 32 } (setView n pos (fun v => { v with failsafe := false, resuming := false }) s3))
      else s3
    let s5 := (List.range v.channels).foldl (fun x k => takeDiag n pos k (w / 2 ^ (8 + 3 * k) % 8) tide x) s4
    let mask := ((List.range v.channels).map (fun k => bitIf (w / 2 ^ (8 + 3 * k) % 8 == 6) k)).sum
    let hot := (List.range v.channels).any (fun k => w / 2 ^ (8 + 3 * k) % 8 == 7)
    let s6 := if hot && !hot0 then chanEvent (chanCode n pos 0)
        { code := 0x0714, sev := 4, p0 := chanCode n pos 0, p1 := w32 (signed 8 (w / 2 ^ 40 % 256)), p2 := ((physOf s n pos).map nodeShut).getD 125 } s5 else s5
    let ran := v.testing && (loopOf s n).manage.all (fun m => !(m.pos == pos && m.why == Mgmt.neighbour))
    if ran then chanEvent (chanCode n pos 0) { code := 0x0712, sev := 1, p0 := chanCode n pos 0, p1 := mask } (setView n pos (fun v => { v with testing := false }) s6) else s6

/-- A status as it arrives, where its CRC holds (07 R271). -/
def heardStatus (f : Flight) (noise : List (Nat × Nat)) (pos : Nat) : Option Nat :=
  (tget f.status pos).bind (fun w =>
    let v := match noise.find? (fun x => x.1 == pos) with | some x => w ^^^ (x.2 % 2 ^ 64) | none => w
    if statusSound v then some v else none)

/-- The returned frame arrives at KR_n (07 R266, R271, R272, R275, R286): `transit` of its COMMIT in ns, `noise` the bits of statuses that the wire inverted. One that
is not within 1 us of the measured transit is missing (R286). -/
def doReturnedFrame (n transit : Nat) (noise : List (Nat × Nat)) (s : State) : State :=
  let l := loopOf s n
  match l.flight with
  | none => s
  | some f =>
    if l.st != 2 then s
    else if 1000 < ((transit : Int) - l.transit).natAbs then doReturnMissing n false s
    else
      let s1 := runTo (f.boundary + ns1 * transit - 400 * ns1) s
      let s2 := setLoop n (fun l => { l with
        flight := none, missRun := 0, silent := 0, transit := transit, full := l.full || decide (50 < ((transit : Int) - l.transitFull).natAbs) }) s1
      let s3 := if timingBad l then s2 else timingReport n s2
      f.slots.foldl (fun st e =>
        match heardStatus f noise e.1 with
        | some w => takeStatus n e.1 w f.tide st
        | none => setView n e.1 (fun v => { v with missing := (v.missing + 1) % 2 ^ 32 }) st) s3
/-- RETURNED_FRAME (07 R286). -/
def execReturnedFrame (loop transit : Nat) (noise : List (Nat × Nat)) (s : State) : Host.Outcome State Fault Refusal := done (doReturnedFrame loop transit noise s)

/-! ## Probes (08 R309 to R312, R314) -/

/-- A repeating interval [start + k x per, + on), k from 0, meets (lo, hi). -/
def repeatMeets (start per on lo hi : Nat) : Bool :=
  if on == 0 || hi ≤ start then false
  else if per == 0 then decide (lo < start + on)
  else
    let k := (hi - start - 1) / per
    decide (lo < start + k * per + on)

/-- The channel's present command drives it high somewhere in (lo, hi) (08 R297, R298, R301, R311). -/
def highIn (d : NodeDev) (k lo hi : Nat) : Bool :=
  let c := chanOf d k
  let per := pwmT d k
  if c.mode == 2 then
    let pull := us1 * chanCfg d k 8 2
    let chop := 1000 * us1 / max 1 (chanCfg d k 0x0A 1)
    repeatMeets c.phase 0 pull lo hi || (if c.duty == 0 then decide (c.phase < hi) else repeatMeets (c.phase + pull) chop (c.duty * chop / 4096) lo hi)
  else if c.mode == 1 || c.fade.isSome then
    let top := match c.fade with | some (a, b, _, _) => max a b | none => c.duty
    repeatMeets c.phase per (onTime d k top) lo hi
  else false

/-- An exposure window meets (lo, hi) (08 R314). -/
def windowMeets (s : State) (lo hi : Nat) : Bool :=
  s.knani.windows.any (fun w => match w with | some (t, w, p) => repeatMeets t (us1 * p) (us1 * w) lo hi | none => false)

/-- The smallest offset at which a probe of `w` us finds a place in the tide that opens at `b` (08 R311). -/
def probePlace (s : State) (ch b w : Nat) : Option Nat :=
  match physOf s (chLoop ch) (chPos ch) with
  | none => none
  | some d =>
    (List.range (edgesPerTide s)).find? (fun o =>
      let t0 := b + o * edgeU s
      let t1 := t0 + us1 * w
      decide (t1 + 20 * us1 ≤ b + tideP s) && !highIn d (chNo ch) (t0 - 20 * us1) (t1 + 20 * us1) &&
        !(chanStrobe s ch && windowMeets s (t0 - 20 * us1) (t1 + 20 * us1)))

/-- A probe is due on a channel whose cell keeps its command (08 R309). -/
def probeDue (s : State) (x : CellRes) : Option Nat :=
  match viewOf s x.channel, tget s.cell.cells x.cell with
  | some v, some c =>
    if decide (s.knani.stale ≤ v.nv) && x.edge.isNone && x.mode == c.modeNow && x.duty == c.dutyNow && !c.pulse && !v.latched && (loopOf s (chLoop x.channel)).st == 2 &&
        !s.cell.lateRun && (allOffCause s).isNone && !((nodeOf s x.channel).map (·.testing)).getD false then
      (probeWidth s x.channel).bind (fun w => if w == 0 then none else some w)
    else none
  | _, _ => none

/-- The word of a channel in the packed frame: the cell's, or a probe over it (08 R309, R311). -/
def packWord (b : Nat) (x : CellRes) (s : State) : Nat × State :=
  match probeDue s x with
  | none => (x.word, s)
  | some w => match probePlace s x.channel b w with
    | some o => (cmdWord 3 o w, setChanView x.channel (fun v => { v with nv := 0, tried := 0, probe := false, probes := v.probes + 1 }) s)
    | none =>
      let n := ((viewOf s x.channel).map (·.tried)).getD 0 + 1
      if n < 1000 then (x.word, setChanView x.channel (fun v => { v with tried := n, probe := true }) s)
      else (x.word, chanEvent x.channel { code := 0x0710, sev := 3, p0 := x.channel, p1 := n } (setChanView x.channel (fun v => { v with tried := 0, nv := 0, probe := false }) s))

/-- A loop's frame is packed once every CELL_EVAL of the loop is done (05 R202). -/
def doFramePack (n : Nat) (s : State) : State :=
  let nodes := (cellNodes s.cell.snap).filter (fun k => k / 64 == n)
  match nextB s with
  | none => s
  | some b =>
    if !tasksRun s || nodes.isEmpty || !nodes.all (fun k => s.cell.evaled.contains k) || s.cell.packed.any (·.1 == n) then s
    else
      let r := (s.cell.results.filter (fun x => chLoop x.channel == n)).foldl (fun (acc : Tab Nat × State) x =>
        let (w, st) := packWord b x acc.2
        (tset acc.1 x.channel w, st)) ([], s)
      { r.2 with cell := { r.2.cell with packed := r.2.cell.packed ++ [(n, r.1)] } }
/-- FRAME_PACK (05 R202). -/
def execFramePack (loop : Nat) (s : State) : Host.Outcome State Fault Refusal := done (doFramePack loop s)

/-! ## Commands (08 R329 to R331) -/

/-- Why a channel cannot be addressed (08 R329). -/
def channelFault' (s : State) (ch : Nat) : Option Nat :=
  if 8192 ≤ ch then some stBadParam
  else if !((loopOf s (chLoop ch)).st == 2 || (loopOf s (chLoop ch)).st == 3) then some 0x0783
  else if (viewOf s ch).isNone then some 0x0780 else none

/-- Configuration bytes 0x00 to 0x17 are within their ranges (08 R299). -/
def chanCfgOk (ch : Nat) (b : List Byte) : Bool :=
  let pwm := uAt b 0 4; let probe := uAt b 0x0B 1; let knee := iAt b 0x11 1; let shut : Int := uAt b 0x12 1
  (pwm == 0 || within 20 1000000 pwm) && within 1 40 (uAt b 0x0A 1) && (probe == 0 || within 20 60 probe) && decide (uAt b 0x10 1 ≤ 1) &&
  (uAt b 0x10 1 == 0 || ch % 2 == 0) && decide (40 ≤ knee) && decide (knee ≤ 125) && decide (knee + 10 ≤ shut) && decide (shut ≤ 150) && zeros b 0x13 1

/-- CHANNEL_CONFIG (08 R294, R299, R301, R318, R329). -/
def channelConfig (c : Cmd) (p : List Byte) (s : State) : Reply × State :=
  let ch := uAt p 0 2
  let b := (p.drop 4).take 24
  let cells := s.cell.cells.filter (fun e => e.2.channel == ch)
  let named := !cells.isEmpty
  let pair := bit (uAt b 0x10 1) 0
  match channelFault' s ch with
  | some st => refuse st s
  | none =>
    if !chanCfgOk ch b || !zeros p 2 2 then refuse stBadParam s
    else if !chanStrobe s ch && (pair || (!named && (uAt b 4 4 != 0))) then refuse 0x0784 s
    else if pair && !chanStrobe s (ch + 1) then refuse 0x0784 s
    else if pair && !bit (((nodeOf s ch).map (·.features)).getD 0) 0 then refuse 0x0785 s
    else if cells.any (fun e => e.2.modeNow != 0) then refuse stBadState s
    else
      let fades := match cells with | (_, x) :: _ => le 2 x.fadeOn ++ le 2 x.fadeOff | [] => (b.drop 4).take 4
      let data := b.take 4 ++ fades ++ b.drop 8
      (.later, pushManage (chLoop ch) { pos := chPos ch, mem := 0, op := 4, addr := chanBase (chNo ch), len := 24, data := data, why := .config, cmd := waiting 0x0709 c } s)
/-- CHANNEL_CONFIG. -/
def execChannelConfig (c : Cmd) (s : State) : Host.Outcome State Fault Refusal := done (commandC 0x0709 28 0 (some 0) channelConfig c s)

/-- The result of CHANNEL_STATUS (08 R330). -/
def channelStatusBytes (s : State) (ch : Nat) (v : ChanView) : List Byte :=
  let d := (physOf s (chLoop ch) (chPos ch)).getD {}
  let k := chNo ch
  let sh := tget s.knani.shadow ch
  let unrep := (loopOf s (chLoop ch)).st == 3
  let f := b1 unrep + bitIf (chanHeld s ch) 1 + bitIf (decide (s.knani.stale ≤ v.nv)) 2 + bitIf v.noProbe 3 + bitIf ((sh.map (·.near)).getD false) 4 + bitIf ((sh.map (·.worn)).getD false) 5
  let temp := (((nodeOf s ch).bind (·.status)).map (fun w => w / 2 ^ 40 % 256)).getD 0
  le 1 v.diag ++ le 1 f ++ le 2 ch ++ le 4 v.nv ++ le 4 v.probes ++ le 2 (capOf d k) ++ le 2 (match pairOf d k with | some c => trimOf d c | none => 1024) ++
  le 8 v.life0 ++ le 4 v.life1 ++ le 1 temp ++ [0, 0, 0]
/-- CHANNEL_STATUS (08 R330). -/
def channelStatus (p : List Byte) (s : State) : Reply × State :=
  let ch := uAt p 0 2
  match channelFault' s ch, viewOf s ch with
  | some st, _ => refuse st s
  | none, some v => okWith (channelStatusBytes s ch v) s
  | none, none => refuse 0x0780 s
/-- CHANNEL_STATUS. -/
def execChannelStatus (c : Cmd) (s : State) : Host.Outcome State Fault Refusal := done (command 0x070A 2 32 (some 0) channelStatus c s)

/-- CHANNEL_FAULT_CLEAR (08 R306, R329). -/
def channelFaultClear (p : List Byte) (s : State) : Reply × State :=
  let ch := uAt p 0 2
  match channelFault' s ch with
  | some st => refuse st s
  | none =>
    let code := ((viewOf s ch).map (·.diag)).getD 0
    ok (pushManage (chLoop ch) { pos := chPos ch, mem := 0, op := 4, addr := 0x0A, len := 1, data := le 1 (2 ^ chNo ch), why := .clear (chNo ch) }
      (setChanView ch (fun v => { v with clearing := some code }) s))
/-- CHANNEL_FAULT_CLEAR. -/
def execChannelFaultClear (c : Cmd) (s : State) : Host.Outcome State Fault Refusal := done (command 0x070B 2 0 (some 0) channelFaultClear c s)

/-- CHANNEL_NEIGHBOUR_TEST (08 R315, R329). -/
def channelNeighbourTest (p : List Byte) (s : State) : Reply × State :=
  let ch := uAt p 0 2
  match channelFault' s ch with
  | some st => refuse st s
  | none =>
    if chNo ch != 0 then refuse stBadParam s
    else if !bit (((nodeOf s ch).map (·.features)).getD 0) 1 then refuse 0x0785 s
    else if s.cell.cells.any (fun e => e.2.channel / 8 == ch / 8 && e.2.modeNow != 0) then refuse stBadState s
    else
      let mask := ((nodeOf s ch).map (·.strobe)).getD 0
      accepted (pushManage (chLoop ch) { pos := chPos ch, mem := 0, op := 4, addr := 0x0C, len := 1, data := le 1 mask, why := .neighbour }
        (setView (chLoop ch) (chPos ch) (fun v => { v with testing := true }) s))
/-- CHANNEL_NEIGHBOUR_TEST. -/
def execChannelNeighbourTest (c : Cmd) (s : State) : Host.Outcome State Fault Refusal := done (command 0x070C 2 0 (some 0) channelNeighbourTest c s)

/-- CHANNEL_EXPOSURE_SET (08 R314, R329). -/
def channelExposureSet (p : List Byte) (s : State) : Reply × State :=
  let n := uAt p 0 1
  let w := uAt p 16 4
  let per := uAt p 20 4
  let put := fun (x : Option (Nat × Nat × Nat)) => ok { s with knani := { s.knani with windows := lmod s.knani.windows n (fun _ => x) } }
  if 7 < n ∨ !zeros p 1 3 ∨ !dtOk p 4 then refuse stBadParam s
  else if w == 0 then put none
  else if 100000 < w ∨ (per != 0 ∧ per < w) then refuse stBadParam s
  else put (some (dtAt p 4, w, per))
/-- CHANNEL_EXPOSURE_SET. -/
def execChannelExposureSet (c : Cmd) (s : State) : Host.Outcome State Fault Refusal := done (command 0x070D 24 0 (some 0) channelExposureSet c s)

/-- CHANNEL_DIAG_CONFIG (08 R309, R326, R329). -/
def channelDiagConfig (p : List Byte) (s : State) : Reply × State :=
  if within 100 1000000 (uAt p 0 4) && decide (uAt p 4 1 ≤ 1) then ok { s with knani := { s.knani with stale := uAt p 0 4, eolHold := uAt p 4 1 == 1 } }
  else refuse stBadParam s
/-- CHANNEL_DIAG_CONFIG. -/
def execChannelDiagConfig (c : Cmd) (s : State) : Host.Outcome State Fault Refusal := done (command 0x070E 5 0 (some 0) channelDiagConfig c s)

/-- The result of CHANNEL_LIFE_READ for a module's record and its shadow (08 R321, R326, R329). -/
def lifeReadBytes (s : State) (ch : Nat) (r : List Byte) (x : Shadow) : List Byte :=
  let b := (recBlock r).getD []
  let rating := if recType r == 0x0201 then uAt b 16 4 else if recType r == 0x0202 then uAt b 8 4 else 0
  let lat := if recType r == 0x0201 then (b.drop 4).take 4 else [0, 0, 0, 0]
  le 2 (recType r) ++ [0, 0] ++ le 8 (recSerial r) ++ le 8 x.c0 ++ le 4 x.c1 ++ le 4 (((viewOf s ch).map (·.probes)).getD 0) ++ le 4 rating ++
    le 1 (min 255 (usedMille x)) ++ [0] ++ lat
/-- The module of a channel, where its record is readable. -/
def chanModule (s : State) (ch : Nat) : Option (List Byte) := (physOf s (chLoop ch) (chPos ch)).bind (fun d => modOf d (chNo ch))
/-- CHANNEL_LIFE_READ (08 R321, R329). -/
def channelLifeRead (p : List Byte) (s : State) : Reply × State :=
  let ch := uAt p 0 2
  match channelFault' s ch with
  | some st => refuse st s
  | none => match chanModule s ch, tget s.knani.shadow ch with
    | some r, some x => okWith (lifeReadBytes s ch r x) s
    | _, _ => refuse 0x0786 s
/-- CHANNEL_LIFE_READ. -/
def execChannelLifeRead (c : Cmd) (s : State) : Host.Outcome State Fault Refusal := done (command 0x070F 2 38 (some 0) channelLifeRead c s)

end Sys2Proof.Machine
end

