-- ==== Sys2Proof/Machine/Fleet.lean ====
section
/-!
DEFINITION. Fleet radio (11 R397 to R432): what each slot sends, what each frame does at its receiver, joining, loss and recovery, and
the FLEET commands.
-/
namespace Sys2Proof.Machine

/-! ## Reception (11 R402, R403, R423) -/

/-- The modem's capture less RX_DELAY (11 R398). -/
def antennaTime (f : RadFrame) (s : State) : Nat := f.capture - ns1 * s.fleet.rxDelay

/-- CRC of a frame, over LEN to TAG (11 R400). -/
def frameCrc (ty : Nat) (f : RadFrame) : Nat :=
  crc16 (le 1 (8 + f.payload.length + 8) ++ macHeader ty f.src f.dst f.ackReq f.retx f.seq f.ackSeq f.ackMap ++ f.payload ++ f.tag)
/-- TAG of a frame under a key, for the superframe and slot in which it arrived; a beacon names its superframe (11 R403, R408). -/
def frameTag (ty : Nat) (key : List Byte) (s : State) (f : RadFrame) : List Byte :=
  radTag key s.fleet.netId (if ty == 0 then uAt f.payload 0 4 else sfFull s (antennaTime f s) % 2 ^ 32) f.slot f.half
    (macHeader ty f.src f.dst f.ackReq f.retx f.seq f.ackSeq f.ackMap) f.payload
/-- A frame's CRC and tag hold (11 R403). -/
def frameSound (ty : Nat) (s : State) (f : RadFrame) : Bool :=
  f.crc == frameCrc ty f && (match radKey s (keySlotOf s.fleet ty) with | some key => f.tag == frameTag ty key s f | none => false)

/-- A frame whose CRC or tag fails is counted; FLEET_AUTH_FAIL at most once per second (11 R403). -/
def authFail (ty src : Nat) (s : State) : State :=
  let n := s.fleet.authRun + 1
  let sec := dtNow s / sec1
  let s1 := { s with fleet := { s.fleet with authFails := (s.fleet.authFails + 1) % 2 ^ 32, authRun := n } }
  if s.fleet.authSec == some sec then s1
  else raise { code := 0x0A09, sev := 3, src := 3, p0 := n, p1 := ty, p2 := src } { s1 with fleet := { s1.fleet with authRun := 0, authSec := some sec } }

/-- A frame of a TYPE reaches the receiver: time runs to its capture, its key counts the use, and CRC, tag, TYPE and slot are
checked (11 R402, R403). Answers whether it is accepted. -/
def rxFrame (ty : Nat) (f : RadFrame) (s0 : State) : Bool × State :=
  let s := runTo f.capture s0
  if s.fleet.st == .off then (false, s)
  else if !frameSound ty s f then (false, authFail ty f.src s)
  else if !typeSlotOk ty f.slot then (false, { s with fleet := { s.fleet with discarded := (s.fleet.discarded + 1) % 2 ^ 32 } })
  else (true, s)

/-- The window of the base's broadcasts at a rover (11 R423). -/
def bcastWin (seq : Nat) (s : State) : Bool × State :=
  let (new, w) := winStep seq { origin := 0, type := 0, top := s.fleet.bcastTop, map := s.fleet.bcastMap }
  (new, { s with fleet := { s.fleet with bcastTop := w.top, bcastMap := w.map, duplicates := s.fleet.duplicates + b1 (!new) } })

/-- A broadcast of the base reaches a rover: accepted, and new under its window. -/
def rxBroadcast (ty : Nat) (f : RadFrame) (s0 : State) : Bool × State :=
  let (okF, s) := rxFrame ty f s0
  if !okF || roleOf s != 0 || f.src != 0 then (false, s) else bcastWin f.seq s

/-! ## State of the radio (11 R416, R424, R425) -/

/-- A script goes to the transceiver where it is loaded (11 R399). -/
def runScript (k : Nat) (s : State) : State := match tget s.fleet.scripts k with | some b => emit .rfSpi k 0 b s | none => s

/-- The radio enters OFF (11 R416, 12 R451). -/
def radioOff (s : State) : State :=
  runScript 0 (corDropGrants { s with fleet := { s.fleet with
    st := .off, nonce := none, granted := false, contSlot := none, beaconAt := none, offO := 0, driftY := 0, leaving := none, rejoin := false
    misses := 0, svcReq := [], peer := {}, pending := none, slotAt := none, testedSf := none, rxBytes := [] } })

/-- The rover listens for any base: SEARCH, or FLEET_LOST without a beacon for m + 1 superframes (11 R416, R425). -/
def searching (s : State) : Bool :=
  s.fleet.st == .search ||
  (s.fleet.st == .lost && (match s.fleet.beaconAt with
    | some b => decide (b + ((mapChannels s.fleet.map).length + 1) * sfLen s.fleet < dtNow s)
    | none => true))

/-- The rover enters FLEET_LOST, a stop source (11 R424). -/
def enterLost (cause : Nat) (s : State) : State :=
  stopSource 4 (raise { code := 0x0A02, sev := 7, src := 3, p0 := cause, p1 := s.fleet.beaconSf, p2 := s.fleet.address }
    { s with fleet := { s.fleet with st := .lost, leaving := none } })

/-- FLEET_LOST ends as a stop source at re-entry to JOINED (11 R425). -/
def lostEnds (s : State) : State :=
  stopEnd 4 (raise { code := 0x0A03, sev := 2, src := 3, p0 := s.fleet.address, p1 := sfNow s } s)

/-- A rover with an address becomes JOINED from START_SF (11 R416, R417). -/
def tryJoined (k : Nat) (s : State) : State :=
  if s.fleet.st != .connecting || !s.fleet.granted || diffN 32 k s.fleet.startSf < 0 then s
  else
    let s1 := raise { code := 0x0A04, sev := 2, src := 3, p0 := s.fleet.address, p1 := s.fleet.startSf, p2 := s.fleet.attempts }
      { s with fleet := { s.fleet with st := .joined, granted := false, misses := 0, attempts := 0, rejoin := false } }
    if s.fleet.rejoin then lostEnds s1 else s1

/-- A pending channel map comes into force (11 R409). -/
def mapSwitch (k : Nat) (s : State) : State :=
  match s.fleet.pending with
  | some (m, n) =>
    if diffN 32 k n < 0 then s
    else raise { code := 0x0A0D, sev := 1, src := 3, p0 := k % 2 ^ 32, p1 := (mapChannels m).length } { s with fleet := { s.fleet with map := m, pending := none } }
  | none => s

/-- A rover draws its contention slot of a superframe: random among the 16, while the DRBG runs, for its one contention frame of a superframe
(11 R417, 15 R550). -/
def drawSlot (k : Nat) (s : State) : State :=
  if !s.sec.drbg || s.fleet.contSlot.isSome || s.fleet.contSf == some (k % 2 ^ 32) then s
  else
    let (x, s1) := draw s
    { s1 with fleet := { s1.fleet with contSlot := some (k % 2 ^ 32, 4 * (x % 16) + 3) } }

/-- The last beacon shows JOIN_OPEN set and FULL clear (11 R417). -/
def joinAllowed (s : State) : Bool := bit s.fleet.beaconFlags 0 && !bit s.fleet.beaconFlags 1 && !s.fleet.refused

/-! ## Sending (11 R405 to R412, R417, R421, R422) -/

/-- The device sends a frame in a slot, between its TX and RX scripts (11 R399). -/
def send (k slot half ty dst : Nat) (ackReq retx : Bool) (seq ackSeq ackMap : Nat) (payload : List Byte) (s : State) : State :=
  runScript 1 (radioSend k slot half (slotStart s k slot half) ty dst ackReq retx seq ackSeq ackMap payload (runScript 2 s))

/-- A broadcast frame of the base, under its own count (11 R423). -/
def sendAll (k slot ty : Nat) (payload : List Byte) (s : State) : State :=
  let q := (s.fleet.bcastSeq + 1) % 65536
  send k slot 0 ty 0xFE false false q 0 0 payload { s with fleet := { s.fleet with bcastSeq := q } }

/-- JOINED_MAP (11 R408). -/
def joinedMapOf (s : State) : Nat := (s.fleet.rovers.map (fun r => 2 ^ (r.1 - 1))).sum

/-- FULL: MAX_ROVERS rovers are joined (11 R418). -/
def fleetFull (s : State) : Bool := decide (s.fleet.maxRovers ≤ s.fleet.rovers.length)

/-- FLAGS of the beacon (11 R408). -/
def beaconFlagsOf (s : State) : Nat :=
  bitIf s.fleet.joinOpen 0 + bitIf (fleetFull s) 1 + bitIf ((followed s).st == DState.holdover || (followed s).st == DState.freerun) 2 +
    bitIf (s.pose.baseSt == 2) 3 + bitIf s.fleet.pending.isSome 4 + bitIf s.fleet.wake 5

/-- BASE_TQ (11 R408). -/
def baseTq (s : State) : Nat := match tqOf s with | none => 65535 | some q => min q 65535

/-- The beacon of a superframe (11 R408, 12 R445). -/
def sendBeacon (k : Nat) (s : State) : State :=
  let (cd, mp) := match s.fleet.pending with
    | some (m, n) => ((diffN 32 n k).toNat, m)
    | none => (0, s.fleet.map)
  let head := le 4 (k % 2 ^ 32) ++ le 2 (stopWord s) ++ le 1 (beaconFlagsOf s) ++ le 1 cd ++ le 5 mp ++ le 1 s.fleet.rovers.length ++ le 2 (baseTq s) ++ le 8 (joinedMapOf s)
  let (blk, s1) := corBlock (fullPayload s.fleet - 24) (k % 2 ^ 32) s
  sendAll k 0 0 (head ++ blk) s1

/-- The stop burst holds a base slot (11 R412). -/
def burstHolds (k start : Nat) (s : State) : Bool :=
  match s.fleet.burst with
  | some (e, t) => decide (t ≤ start) && decide (0 ≤ diffN 32 e k)
  | none => false

/-- Rovers that sent ACK_REQ in the previous superframe and have no acknowledgement yet (11 R422). -/
def ackOwed (k : Nat) (s : State) : List (Nat × Rover) :=
  s.fleet.rovers.filter (fun r => match r.2.peer.owed with | some x => diffN 32 k x == 1 | none => false)

/-- An ACK frame with as many entries as it holds (11 R422). -/
def sendAcks (k slot : Nat) (s : State) : State :=
  let go := (ackOwed k s).take (fullPayload s.fleet / 4)
  let s1 := sendAll k slot 4 ((go.map (fun r => le 1 r.1 ++ le 2 r.2.peer.top ++ le 1 (ackMapOf r.2.peer))).flatten) s
  go.foldl (fun st r => setPeer r.1 (fun p => { p with owed := none }) st) s1

/-- A CORR frame with the next fragment of the set (11 R410). -/
def sendCorr (k slot : Nat) (s : State) : State :=
  match s.fleet.corrOut with
  | none => s
  | some (set, frag, b) =>
    let n := fullPayload s.fleet - 2
    let last := decide (b.length ≤ n)
    sendAll k slot 1 (le 1 set ++ le 1 (frag + bitIf last 7) ++ b.take n)
      { s with fleet := { s.fleet with corrOut := if last then none else some (set, (frag + 1) % 128, b.drop n)
                                       overRun := s.fleet.overRun && !last
                                       corrBytes := (s.fleet.corrBytes + (b.take n).length) % 2 ^ 32 } }

/-- A peer has something to send to. -/
def peerWaits (p : Peer) : Bool := !p.queue.isEmpty || p.unacked.any (·.again)

/-- The rover whose DATA goes next: the first waiting one at or after the rotating pointer (11 R421, 01 R37). -/
def nextData (s : State) : Option Nat :=
  let p := s.time.pointers.getD 5 0 % 64
  ((List.range 64).map (fun i => (p + i) % 64 + 1)).find? (fun a => match tget s.fleet.rovers a with | some r => peerWaits r.peer | none => false)

/-- A DATA frame to a rover (11 R421, R422). -/
def sendData (k slot a : Nat) (s : State) : State :=
  let (fr, s1) := takeFrag a (k % 2 ^ 32) (fullPayload s.fleet) s
  match fr with
  | none => s1
  | some (b, old, ack) =>
    let p := peerOf s1 a
    let q := old.getD ((p.seq + 1) % 65536)
    let s2 := setPeer a (fun p => { p with seq := if old.isSome then p.seq else q }) s1
    send k slot 0 3 a ack old.isSome q p.top (ackMapOf p) b s2

/-- A JOIN_RESP: one that waited so long that START_SF would lie less than 2 superframes after it gets a later one (11 R417). -/
def sendJoinResp (k slot : Nat) (b : List Byte) (s : State) : State :=
  let late := uAt b 4 1 == 0 && decide (diffN 32 (uAt b 6 4) k < 2)
  let sf := (k + 2) % 2 ^ 32
  let s1 := if late then { s with fleet := { s.fleet with rovers := tmod s.fleet.rovers (uAt b 5 1) (fun r => { r with startSf := sf, lastSf := (sf + 2 ^ 32 - 1) % 2 ^ 32 }) } } else s
  sendAll k slot 7 (if late then b.take 6 ++ le 4 sf ++ b.drop 10 else b) s1

/-- What the base sends in one of its slots, by priority (01 R38, 11 R405, R422). -/
def baseSlotSend (k slot : Nat) (s : State) : State :=
  if slot == 0 then sendBeacon k s
  else if burstHolds k (slotStart s k slot 0) s then
    sendAll k slot 2 (le 2 (stopWord s) ++ [0, 0] ++ le 4 s.stop.regSt) s
  else if !(ackOwed k s).isEmpty then sendAcks k slot s
  else if s.fleet.corrOut.isSome then sendCorr k slot s
  else match s.fleet.joinOut with
    | b :: r => sendJoinResp k slot b { s with fleet := { s.fleet with joinOut := r } }
    | [] => match nextData s with
      | some a => sendData k slot a s
      | none => match s.fleet.svcOut with
        | b :: r => sendAll k slot 9 b { s with fleet := { s.fleet with svcOut := r } }
        | [] => s

/-- The 8 bytes of an uplink's status (11 R421). -/
def uplinkStatus (s : State) : List Byte :=
  let r := poseNow s
  let fl := bitIf (integrityOk s) 0 + bitIf (anyCellOn s) 1 + bitIf (axesMoving s) 2 + bitIf (stopInForce s) 3 +
    bitIf ((followed s).st != DState.locked) 4 + bitIf s.fleet.leaving.isSome 5
  let g := match (grantSet s).find? (fun e => activeAt s (dtNow s) e.2) with | some e => baseIndex e.2 | none => 0xFFFF
  le 1 fl ++ le 1 r.solution ++ le 2 (min r.hpl 65535) ++ le 2 g ++ le 2 (min 65535 (planeLen r.ve r.vn / 10240))

/-- An UPLINK frame (11 R421, R422). After the third with LEAVING the rover enters OFF (11 R420). -/
def sendUplink (k slot half : Nat) (s : State) : State :=
  let cap := halfPayload s.fleet
  let st := if 8 ≤ cap then uplinkStatus s else []
  let (fr, s1) := takeFrag 0 (k % 2 ^ 32) (cap - st.length) s
  let p := peerOf s1 0
  let (b, old, ack) := match fr with | some x => x | none => ([], none, false)
  let q := old.getD ((p.seq + 1) % 65536)
  let s2 := setPeer 0 (fun p => { p with seq := if old.isSome then p.seq else q }) s1
  let s3 := send k slot half 5 0 ack old.isSome q p.top (ackMapOf p) (st ++ b) s2
  match s3.fleet.leaving with
  | none => s3
  | some n => if n ≤ 1 then radioOff s3 else { s3 with fleet := { s3.fleet with leaving := some (n - 1) } }

/-- The low 64 bits of the device's unique ID. -/
def uid64 : List Byte := uidBytes.take 8

/-- A contention frame of a rover in the slot it drew: its service request, else its JOIN_REQ (11 R417, R426). -/
def sendContention (k slot : Nat) (s : State) : State :=
  let s0 := { s with fleet := { s.fleet with contSlot := none } }
  match s.fleet.svcReq.find? (fun r => r.2.2.2.isNone) with
  | some (tok, svc, d, x) =>
    let s1 := send k slot 0 8 0 false false 0 0 0 (uid64 ++ le 4 tok ++ le 1 svc ++ le 1 d.length ++ d) s0
    { s1 with fleet := { s1.fleet with svcReq := s1.fleet.svcReq.erase (tok, svc, d, x) ++ [(tok, svc, d, some (k % 2 ^ 32))], contSf := some (k % 2 ^ 32) } }
  | _ =>
    if s.fleet.st != .connecting || s.fleet.granted || !s.sec.drbg then s0
    else
      let (x, s1) := draw s0
      let n := x % 2 ^ 32
      let s2 := send k slot 0 6 0 false false 0 0 0 (uidBytes ++ le 4 n) s1
      { s2 with fleet := { s2.fleet with nonce := some (n, k % 2 ^ 32), attempts := s2.fleet.attempts + 1, contSf := some (k % 2 ^ 32) } }

/-- Fragments whose acknowledgement opportunity has passed go again (11 R422). -/
def resolveAll (k : Nat) (s : State) : State :=
  let late := fun (u : FragOut) => decide (2 ≤ diffN 32 k u.sf)
  if roleOf s == 1 then s.fleet.rovers.foldl (fun st r => resolve r.1 late true st) s
  else resolve 0 late (!(stopActive s 1 || stopActive s 2)) s

/-- The superframe of the next start of a slot or half-slot after those served. -/
def slotSf (slot half : Nat) (s : State) : Nat :=
  let k := sfFull s (dtNow s)
  let served := match s.fleet.slotAt with | some (l, x) => decide (k < l) || (l == k && decide (2 * slot + half ≤ x)) | none => false
  if served || decide (slotStart s k slot half < dtNow s) then k + 1 else k

/-- A slot or half-slot starts (11 R405): the device sends, retunes, or listens. -/
def doSlotStart (slot half : Nat) (s : State) : State :=
  if s.fleet.st == .off || decide (79 < slot) || decide (1 < half) then s
  else
    let k := slotSf slot half s
    let s0 := runTo (slotStart s k slot half) s
    let s1 := { s0 with fleet := { s0.fleet with slotAt := some (k, 2 * slot + half) } }
    let s2 := if slot == 0 && half == 0 then resolveAll k (tryJoined k (mapSwitch k s1)) else s1
    if slot == 79 then
      let m := match s2.fleet.pending with | some (m, n) => if 0 ≤ diffN 32 (k + 1) n then m else s2.fleet.map | none => s2.fleet.map
      if s2.fleet.st == .search then s2 else runScript (8 + channelOf s2.fleet.netId ((k + 1) % 2 ^ 32) m) s2
    else if s2.fleet.st == .beaconing then
      if baseSlot slot && half == 0 then baseSlotSend k slot s2 else s2
    else if s2.fleet.st == .joined && decide (0 ≤ diffN 32 k s2.fleet.startSf) && addrSlot s2.fleet.address == (slot, half) then sendUplink k slot half s2
    else if s2.fleet.contSlot == some (k % 2 ^ 32, slot) && half == 0 then sendContention k slot s2
    else s2

/-- SLOT_START (11 R405). -/
def execSlotStart (slot half : Nat) (s : State) : Host.Outcome State Fault Refusal := done (doSlotStart slot half s)

/-! ## Frames at a rover -/

/-- Distance from the base ARP to the vehicle reference point over c, 2^-16 ns; 0 while either is unknown (11 R414). -/
def propTime (s : State) : Nat :=
  match s.pose.arp, s.pose.nav with
  | some (x, y, z, _), some v =>
    let p := ecefOf v.lat v.lon v.height
    -- 0.1 mm brought to 2^-8 mm; c = 299,792,458 m/s
    ns1 * 1000000 * vecLen (p.1 - 128 * x / 5, p.2.1 - 128 * y / 5, p.2.2 - 128 * z / 5) / (299792458 * 256)
  | _, _ => 0

/-- The expected instant of the end of SYNC of a superframe's beacon on the rover's own Device Time (11 R414). -/
def expectBeacon (k : Nat) (s : State) : Nat := k * sfLen s.fleet + 30 * us1 + bitsLen s.fleet 64 + propTime s

/-- The superframe whose number a beacon carries, nearest to the instant of its capture. -/
def beaconSuper (sf cap : Nat) (s : State) : Nat :=
  let k := cap / sfLen s.fleet
  ((k : Int) + diffN 32 sf k).toNat

/-- The window W of R415, 2^-16 ns. -/
def beaconWindow (cap : Nat) (s : State) : Nat :=
  2 * us1 + (s.fleet.driftY.natAbs + 1000000) * (cap - s.fleet.beaconAt.getD cap) / 1000000000000

/-- Radio time after a beacon (11 R414): O, y, and the residual where the estimate restarts. -/
def radioUpdate (eps : Int) (cap : Nat) (s : State) : State :=
  let f := s.fleet
  let dt : Int := (cap : Int) - f.beaconAt.getD cap
  let pred := f.offO + f.driftY * dt / 1000000000000
  let r := eps - pred
  let fresh := searching s || f.beaconAt.isNone || dt ≤ 0
  let far := decide (50 * us1 < r.natAbs)
  let s1 := if fresh || far then { s with fleet := { f with offO := eps, driftY := 0, beaconAt := some cap } }
    else { s with fleet := { f with
      offO := pred + r / 2, beaconAt := some cap
      driftY := max (-50000000) (min 50000000 (f.driftY + 1000000000000 * r / (8 * dt))) } }
  let s2 := raiseIf (far && !fresh) { code := 0x0A0B, sev := 2, src := 3, p0 := w32 (r.tdiv 65536) } s1
  let div := decide (100 * us1 < s2.fleet.offO.natAbs)
  raiseIf (div && !f.divergedRun) { code := 0x0A0C, sev := 3, src := 3, p0 := w32 (s2.fleet.offO.tdiv 65536), p1 := w32 s2.fleet.driftY }
    { s2 with fleet := { s2.fleet with divergedRun := div } }

/-- The channel map of a beacon (11 R409). -/
def beaconMap (k : Nat) (p : List Byte) (s : State) : State :=
  let m := uAt p 8 5
  if bit (uAt p 6 1) 4 then { s with fleet := { s.fleet with pending := some (m, (k + uAt p 7 1) % 2 ^ 32) } }
  else if m == s.fleet.map then { s with fleet := { s.fleet with pending := none } }
  else mapSwitch k { s with fleet := { s.fleet with pending := some (m, k % 2 ^ 32) } }

/-- The STOP_WORD of an authenticated beacon (11 R412, 12 R452). -/
def beaconStop (w : Nat) (s : State) : State :=
  let s1 := { s with stop := { s.stop with lastWord := some w } }
  if bit w 15 then stopSource 1 s1 else stopEnd 2 (stopEnd 1 s1)

/-- A beacon at a rover (11 R408, R409, R412, R414 to R418, R424, 12 R445 to R448). -/
def doBeacon (f : RadFrame) (s0 : State) : State :=
  let (okF, s) := rxFrame 0 f s0
  if !okF || roleOf s != 0 || f.src != 0 || decide (f.payload.length < 24) then s
  else
    let p := f.payload
    let cap := antennaTime f s
    let k := beaconSuper (uAt p 0 4) cap s
    let eps : Int := (cap : Int) - expectBeacon k s
    let off := eps - radOff s.fleet cap
    if !searching s && (decide (beaconWindow cap s < off.natAbs) || decide (sfLen s.fleet / 2 < off.natAbs)) then s
    else
      let s1 := radioUpdate eps cap s
      let s2 := { s1 with fleet := { s1.fleet with
        beaconSf := k % 2 ^ 32, misses := 0, testedSf := some k, beaconFlags := uAt p 6 1, beaconJoined := uAt p 13 1, joinedMap := uAt p 16 8
        bcastTop := if s1.fleet.st == .search then f.seq else s1.fleet.bcastTop
        bcastMap := if s1.fleet.st == .search then 0 else s1.fleet.bcastMap
        refused := s1.fleet.refused && bit (uAt p 6 1) 1
        beaconRev := if 2 ≤ p.length - 24 then uAt p 25 1 / 16 else s1.fleet.beaconRev
        st := if s1.fleet.st == .search then RadSt.connecting else s1.fleet.st } }
      let s3 := beaconStop (uAt p 4 2) (beaconMap k p (bcastWin f.seq s2).2)
      let s4 := tryJoined k s3
      let out := s4.fleet.st == .joined && decide (0 ≤ diffN 32 k s4.fleet.startSf) && !bit s4.fleet.joinedMap (s4.fleet.address - 1)
      let s5 := if out then enterLost 1 s4 else s4
      let s6 := if inFleet s5 && decide (26 ≤ p.length) then applyBlock (p.drop 24) s5 else s5
      let s7 := mismatchCheck s6
      if s7.fleet.st == .connecting && !s7.fleet.granted && s7.fleet.nonce.isNone && joinAllowed s7 then drawSlot k s7
      else if s7.fleet.svcReq.any (fun r => r.2.2.2.isNone) then drawSlot k s7
      else s7

/-- The bytes from the next preamble 0xD3 on (11 R411). -/
def resync : List Byte → List Byte
  | [] => []
  | b :: r => if b == 0xD3 then b :: r else resync r

/-- Complete RTCM frames at the front of a stream, and the rest (04 R138, 11 R411). -/
def splitRtcm : Nat → List Byte → List (List Byte) × List Byte
  | 0, b => ([], b)
  | n + 1, b0 =>
    let b := resync b0
    let len := bitsAt b 14 10 + 6
    if decide (b.length < 3) || decide (b.length < len) then ([], b)
    else let (fs, r) := splitRtcm n (b.drop len); (b.take len :: fs, r)

/-- A CORR fragment at a rover (11 R410, R411). -/
def doCorrFrame (f : RadFrame) (s0 : State) : State :=
  let (new, s) := rxBroadcast 1 f s0
  if !new || decide (f.payload.length < 2) || !(s.fleet.st == .joined || s.fleet.st == .connecting || s.fleet.st == .lost) then s
  else
    let set := uAt f.payload 0 1
    let ix := uAt f.payload 1 1 % 128
    let d := f.payload.drop 2
    let cont := (ix == 0) || (set == s.fleet.rxSet && ix == s.fleet.rxFrag)
    let (fs, rest) := splitRtcm 300 (if ix != 0 && cont then s.fleet.rxBytes ++ d else d)
    { s with
      fleet := { s.fleet with rxSet := set, rxFrag := (ix + 1) % 128, rxBytes := rest, corrBytes := (s.fleet.corrBytes + d.length) % 2 ^ 32 }
      pose := { s.pose with rtcmIn := s.pose.rtcmIn ++ fs, radioAt := if fs.isEmpty then s.pose.radioAt else some (dtNow s) } }

/-- CORR_FRAME (11 R411). -/
def execCorrFrame (f : RadFrame) (s : State) : Host.Outcome State Fault Refusal := done (doCorrFrame f s)

/-- A STOP frame at a rover in CONNECTING, JOINED or FLEET_LOST (11 R412). -/
def doStopFrame (f : RadFrame) (s0 : State) : State :=
  let (okF, s) := rxFrame 2 f s0
  if !okF || roleOf s != 0 || f.src != 0 || s.fleet.st == .search then s
  else stopSource 2 (bcastWin f.seq { s with stop := { s.stop with lastWord := some (uAt f.payload 0 2) } }).2

/-- STOP_FRAME (11 R412). -/
def execStopFrame (f : RadFrame) (s : State) : Host.Outcome State Fault Refusal := done (doStopFrame f s)

/-- A complete message of a peer is delivered (11 R421, 12 R439). -/
def deliverMsg (a port id : Nat) (rel : Bool) (d : List Byte) (s : State) : State :=
  if port == 1 then
    if roleOf s == 1 then (if uAt d 0 1 == 1 then doReq a d s else doRelease a d s) else doFrame d s
  else radioMsgUp port a rel id (sfNow s) d s

/-- A fragment of a peer, where it is new (11 R421, R423). -/
def takeIn (a : Nat) (f : RadFrame) (frag : List Byte) (s : State) : State :=
  if frag.length < 5 then s
  else match addFrag a (sfNow s) frag s with
    | (some (port, id, d), s1) => deliverMsg a port id f.ackReq d s1
    | (none, s1) => s1

/-- What an acknowledgement covers is done (11 R401). -/
def ackCovered (a : Nat) (f : RadFrame) (s : State) : State :=
  setPeer a (fun p => { p with unacked := p.unacked.filter (fun u => !covers f.ackSeq f.ackMap u.seq) }) s

/-- A DATA frame at a joined rover (11 R421 to R423). -/
def doData (f : RadFrame) (s0 : State) : State :=
  let (okF, s) := rxFrame 3 f s0
  if !okF || roleOf s != 0 || f.src != 0 || s.fleet.st != .joined || f.dst != s.fleet.address then s
  else
    let (new, s1) := peerWin 0 f.seq (ackCovered 0 f s)
    if new then takeIn 0 f f.payload s1 else s1

/-- DATA (11 R421). -/
def execData (f : RadFrame) (s : State) : Host.Outcome State Fault Refusal := done (doData f s)

/-- An ACK frame at a joined rover (11 R422). -/
def doAckFrame (f : RadFrame) (s0 : State) : State :=
  let (new, s) := rxBroadcast 4 f s0
  if !new || s.fleet.st != .joined then s
  else
    (List.range (f.payload.length / 4)).foldl (fun st i =>
      let e := f.payload.drop (4 * i)
      if uAt e 0 1 == st.fleet.address then ackPeer 0 (uAt e 1 2) (uAt e 3 1) (sfNow st) true st else st) s

/-- ACK_FRAME (11 R422). -/
def execAckFrame (f : RadFrame) (s : State) : Host.Outcome State Fault Refusal := done (doAckFrame f s)

/-- A JOIN_RESP that answers the rover's nonce (11 R417, R418). -/
def doJoinResp (f : RadFrame) (s0 : State) : State :=
  let (new, s) := rxBroadcast 7 f s0
  let p := f.payload
  let mine := match s.fleet.nonce with | some (n, _) => n == uAt p 0 4 && uAt p 16 4 == ownOrigin | none => false
  if !new || p.length != 20 || s.fleet.st != .connecting || !mine then s
  else
    let s1 := { s with fleet := { s.fleet with nonce := none, contSlot := none } }
    if uAt p 4 1 == 0 then
      { s1 with
        fleet := { s1.fleet with granted := true, address := uAt p 5 1, startSf := uAt p 6 4, map := uAt p 10 5, peer := {} }
        cor := { s1.cor with frameSeen := false, applied := [] } }
    else
      raise { code := 0x0A05, sev := 3, src := 3, p0 := if uAt p 4 1 == 1 then stJoinFull else 0x0A80, p1 := sfNow s1, p2 := s1.fleet.attempts }
        { s1 with fleet := { s1.fleet with refused := uAt p 4 1 == 1 } }

/-- JOIN_RESP (11 R417). -/
def execJoinResp (f : RadFrame) (s : State) : Host.Outcome State Fault Refusal := done (doJoinResp f s)

/-- A SERVICE_RESP that answers the requester's token (11 R426): it reaches the host as a SERVICE packet. -/
def doServiceResp (f : RadFrame) (s0 : State) : State :=
  let (okF, s) := rxFrame 9 f s0
  match s.fleet.svcReq.find? (fun r => r.2.2.2.isSome && r.1 == uAt f.payload 8 4) with
  | some r =>
    if okF && f.payload.take 8 == uid64 then sendS1 0x04 f.payload { s with fleet := { s.fleet with svcReq := s.fleet.svcReq.erase r } }
    else s
  | none => s

/-- SERVICE_RESP (11 R426). -/
def execServiceResp (f : RadFrame) (s : State) : Host.Outcome State Fault Refusal := done (doServiceResp f s)

/-! ## Frames at the base -/

/-- An address is released (11 R419): JOINED_MAP, its grants (12 R444), its messages, FLEET_ROVER_DROPPED. -/
def releaseRover (a cause : Nat) (s : State) : State :=
  match tget s.fleet.rovers a with
  | none => s
  | some r =>
    let k := sfNow s
    let failed := (r.peer.queue.map (fun m => if m.token == 0 then m.msgId else m.token)) ++ ((r.peer.unacked.filter (fun u => r.peer.queue.all (fun m => m.msgId != u.msgId))).map (·.token))
    let s1 := { s with
      fleet := { s.fleet with rovers := tdel s.fleet.rovers a, released := (a, k) :: s.fleet.released.filter (fun e => e.1 != a) }
      -- a REQ of a rover released before its batch is discarded (12 R459)
      cor := { s.cor with gone := a :: s.cor.gone, msgs := s.cor.msgs.filter (fun m => !(m.isReq && m.addr == a)) } }
    let s2 := raise { code := 0x0A07, sev := 3, src := 3, p0 := a, p1 := cause, p2 := k } s1
    failed.eraseDups.foldl (fun st t => msgFailed t a 2 st) s2

/-- An UPLINK at the base (11 R415, R419, R421 to R423). -/
def doUplink (f : RadFrame) (s0 : State) : State :=
  let (okF, s) := rxFrame 5 f s0
  let a := f.src
  match tget s.fleet.rovers a with
  | none => s
  | some r =>
    let k := sfFull s (dtNow s)
    let off : Int := (antennaTime f s : Int) - (slotStart s k f.slot f.half + 30 * us1 + bitsLen s.fleet 64 : Nat)
    if !okF || s.fleet.st != .beaconing || addrSlot a != (f.slot, f.half) || diffN 32 k r.startSf < 0 || decide (off < -(2 * us1 : Nat)) || decide ((22 * us1 : Nat) < off) then s
    else
      let st := if 8 ≤ halfPayload s.fleet then f.payload.take 8 else r.status
      let frag := if 8 ≤ halfPayload s.fleet then f.payload.drop 8 else f.payload
      let s1 := { s with fleet := { s.fleet with rovers := tmod s.fleet.rovers a (fun r => { r with
        lastSf := k % 2 ^ 32, offset := off.tdiv 65536, rssi := f.rssi, status := st
        peer := { r.peer with owed := if f.ackReq then some (k % 2 ^ 32) else r.peer.owed } }) } }
      let s2 := ackPeer a f.ackSeq f.ackMap (k % 2 ^ 32) (!burstHolds k (dtNow s1) s1) s1
      let (new, s3) := peerWin a f.seq s2
      let s4 := if new then takeIn a f frag s3 else s3
      if 8 ≤ halfPayload s.fleet && bit (uAt st 0 1) 5 then releaseRover a 2 s4 else s4

/-- UPLINK (11 R421). -/
def execUplink (f : RadFrame) (s : State) : Host.Outcome State Fault Refusal := done (doUplink f s)

/-- The lowest address that is free and was not released within the last 4 superframes (11 R418). -/
def freeAddress (k : Nat) (s : State) : Option Nat :=
  ((List.range 64).map (· + 1)).find? (fun a => (tget s.fleet.rovers a).isNone &&
    !(s.fleet.released.any (fun e => e.1 == a && decide (diffN 32 k e.2 ≤ 4))))

/-- A JOIN_RESP payload (11 R417). -/
def joinRespBytes (nonce status a sf uid : Nat) (s : State) : List Byte :=
  le 4 nonce ++ le 1 status ++ le 1 a ++ le 4 sf ++ le 5 s.fleet.map ++ [0] ++ le 4 uid

/-- The base joins a rover at an address (11 R417, R418, 12 R439). -/
def joinRover (a sf : Nat) (uid : List Byte) (nonce : Nat) (s : State) : State :=
  let r : Rover := { uid := uid, startSf := sf, lastSf := (sf + 2 ^ 32 - 1) % 2 ^ 32 }
  let s1 := { s with fleet := { s.fleet with
    rovers := tset s.fleet.rovers a r, joinOut := s.fleet.joinOut ++ [joinRespBytes nonce 0 a sf (uAt uid 0 4) s] } }
  if s1.cor.enabled then sendFrame a s1 else s1

/-- A JOIN_REQ at the base (11 R417, R418). -/
def doJoinReq (f : RadFrame) (s0 : State) : State :=
  let (okF, s) := rxFrame 6 f s0
  let p := f.payload
  if !okF || s.fleet.st != .beaconing || p.length != 20 then s
  else
    let k := sfNow s
    let uid := p.take 16
    let nonce := uAt p 16 4
    let sf := (k + 4) % 2 ^ 32
    let no := fun (st : Nat) (s : State) => { s with fleet := { s.fleet with joinOut := s.fleet.joinOut ++ [joinRespBytes nonce st 0 0 (uAt uid 0 4) s] } }
    match s.fleet.rovers.find? (fun r => r.2.uid == uid) with
    | some (a, _) => joinRover a sf uid nonce s
    | none =>
      if !s.fleet.joinOpen then no 2 s
      else match if fleetFull s then none else freeAddress k s with
        | none => raise { code := 0x0A08, sev := 2, src := 3, p0 := uAt uid 0 4, p1 := stJoinFull, p2 := s.fleet.rovers.length } (no 1 s)
        | some a =>
          let s1 := joinRover a sf uid nonce s
          raise { code := 0x0A06, sev := 2, src := 3, p0 := a, p1 := uAt uid 0 4, p2 := s1.fleet.rovers.length } s1

/-- JOIN_REQ (11 R418). -/
def execJoinReq (f : RadFrame) (s : State) : Host.Outcome State Fault Refusal := done (doJoinReq f s)

/-- A SERVICE_REQ at the base (11 R426). -/
def doServiceReq (f : RadFrame) (s0 : State) : State :=
  let (okF, s) := rxFrame 8 f s0
  let p := f.payload
  if !okF || s.fleet.st != .beaconing || decide (p.length < 14) then s
  else
    let svc := uAt p 12 1
    if svc == 1 then
      let r := p.take 13 ++ [0] ++ le 1 s.fleet.rovers.length ++ le 1 (beaconFlagsOf s) ++ le 1 s.pose.baseSt ++ [0] ++ le 2 (baseTq s)
      { s with fleet := { s.fleet with svcOut := s.fleet.svcOut ++ [r] } }
    else if svc == 2 then sendS1 0x04 (p.take 12 ++ le 4 (sfNow s) ++ (p.drop 14).take (uAt p 13 1)) s
    else s

/-- SERVICE_REQ (11 R426). -/
def execServiceReq (f : RadFrame) (s : State) : Host.Outcome State Fault Refusal := done (doServiceReq f s)

/-! ## Timers -/

/-- The end of slot 0 of the next superframe not yet tested passes without a valid beacon (11 R424); in NEAP every tenth superframe, and
the event alone (11 R427). -/
def doBeaconMissed (cause : Nat) (s : State) : State :=
  let f := s.fleet
  if s.power.st == .neap then
    if roleOf s != 0 || !f.configured then s
    else
      let k := match f.testedSf with | some l => l + 10 | none => sfFull s (dtNow s)
      let s1 := runTo (slotStart s k 1 0) s
      raise { code := 0x0A01, sev := 3, src := 3, p0 := k % 2 ^ 32, p1 := f.misses + 1, p2 := cause } { s1 with fleet := { s1.fleet with misses := f.misses + 1, testedSf := some k } }
  else if roleOf s != 0 || !(f.st == .joined || f.st == .connecting) then s
  else
    let k0 := sfFull s (dtNow s)
    let k := match f.testedSf with | some l => if k0 ≤ l then l + 1 else k0 | none => k0
    let s1 := runTo (slotStart s k 1 0) s
    let n := f.misses + 1
    let s2 := { s1 with fleet := { s1.fleet with misses := n, testedSf := some k } }
    if f.st == .joined then
      let s3 := raise { code := 0x0A01, sev := 3, src := 3, p0 := k % 2 ^ 32, p1 := n, p2 := cause } s2
      if 3 ≤ n then enterLost 0 s3 else s3
    else if 3 ≤ n then
      { s2 with fleet := { s2.fleet with st := .search, misses := 0, beaconAt := none, granted := false, nonce := none, contSlot := none, searchIx := 0
                                         searchSf := k % 2 ^ 32 } }
    else s2

/-- FLEET_BEACON_MISSED (11 R424). -/
def execFleetBeaconMissed (cause : Nat) (s : State) : Host.Outcome State Fault Refusal := done (doBeaconMissed cause s)

/-- No JOIN_RESP by the end of superframe n + 2 and the random wait is over: the next attempt draws its slot (11 R417). -/
def doJoinRetry (s : State) : State :=
  match s.fleet.nonce with
  | none => s
  | some (_, n) =>
    if s.fleet.st != .connecting || !s.sec.drbg then s
    else
      let (x, s1) := draw s
      let w := x % 2 ^ min s.fleet.attempts 5
      let k0 := sfFull s1 (dtNow s1)
      let k := ((k0 : Int) + diffN 32 (n + 3 + w) k0).toNat
      let s2 := runTo (slotStart s1 k 0 0) { s1 with fleet := { s1.fleet with nonce := none, contSlot := none } }
      if joinAllowed s2 then drawSlot (max k (sfFull s2 (dtNow s2))) s2 else s2

/-- JOIN_RETRY (11 R417). -/
def execJoinRetry (s : State) : Host.Outcome State Fault Refusal := done (doJoinRetry s)

/-- No UPLINK of an address for SUP_TIMEOUT superframes (11 R419). -/
def doSupTimeout (a : Nat) (s : State) : State :=
  match tget s.fleet.rovers a with
  | none => s
  | some r =>
    let k0 := sfFull s (dtNow s)
    let k := ((k0 : Int) + diffN 32 (r.lastSf + s.fleet.supTimeout + 1) k0).toNat
    releaseRover a 0 (runTo (slotStart s k 0 0) s)

/-- SUP_TIMEOUT (11 R419). -/
def execSupTimeout (address : Nat) (s : State) : Host.Outcome State Fault Refusal := done (doSupTimeout address s)

/-- A message not complete within 16 superframes of its first fragment is discarded (11 R421). -/
def doReassemblyTimeout (a port id : Nat) (s : State) : State :=
  match (peerOf s a).asm.find? (fun m => m.port == port && m.msgId == id) with
  | none => s
  | some m =>
    let k0 := sfFull s (dtNow s)
    let k := ((k0 : Int) + diffN 32 (m.sf + 17) k0).toNat
    setPeer a (fun p => { p with asm := p.asm.filter (fun m => !(m.port == port && m.msgId == id)) }) (runTo (slotStart s k 0 0) s)

/-- MESSAGE_REASSEMBLY_TIMEOUT (11 R421). -/
def execMessageReassemblyTimeout (peer port msgId : Nat) (s : State) : Host.Outcome State Fault Refusal := done (doReassemblyTimeout peer port msgId s)

/-- No reply within 6 superframes of the earliest request that waits for one (11 R426). -/
def doServiceTimeout (s : State) : State :=
  match s.fleet.svcReq.find? (fun r => r.2.2.2.isSome) with
  | some (tok, svc, d, some n) =>
    let k0 := sfFull s (dtNow s)
    let k := ((k0 : Int) + diffN 32 (n + 7) k0).toNat
    let s1 := runTo (slotStart s k 0 0) s
    raise { code := 0x0A0F, sev := 1, src := 3, p0 := tok, p1 := svc } { s1 with fleet := { s1.fleet with svcReq := s1.fleet.svcReq.erase (tok, svc, d, some n) } }
  | _ => s

/-- FLEET_SERVICE_TIMEOUT (11 R426). -/
def execFleetServiceTimeout (s : State) : Host.Outcome State Fault Refusal := done (doServiceTimeout s)

/-- The channels over which the rover searches: the search map; in FLEET_LOST the last map, then every channel (11 R416, R425). -/
def searchList (s : State) : List Nat :=
  if s.fleet.st == .lost then mapChannels s.fleet.map ++ List.range 40 else mapChannels s.fleet.cfgMap

/-- After m + 1 superframes the searching rover moves to the next channel (11 R416). -/
def doSearchTimeout (s : State) : State :=
  if !searching s then s
  else
    let l := searchList s
    let m := (mapChannels (if s.fleet.st == .lost then s.fleet.map else s.fleet.cfgMap)).length
    let k0 := sfFull s (dtNow s)
    let k := ((k0 : Int) + diffN 32 (s.fleet.searchSf + m + 1) k0).toNat
    let s1 := runTo (slotStart s k 0 0) s
    let ix := (s1.fleet.searchIx + 1) % max 1 l.length
    runScript (8 + l.getD ix 0) { s1 with fleet := { s1.fleet with searchIx := ix, searchSf := sfNow s1 } }

/-- SEARCH_CHANNEL_TIMEOUT (11 R416). -/
def execSearchChannelTimeout (s : State) : Host.Outcome State Fault Refusal := done (doSearchTimeout s)

/-- A RADIO_MSG packet of the host is queued for its peer (11 R421). -/
def doRadioMsgPacket (s : State) : State :=
  match takeS0 3 s with
  | none => s
  | some (p, s1) =>
    let b := p.payload
    let port := uAt b 0 1
    let a := uAt b 1 1
    let n := b.length - 8
    if !within 2 0x7F port || decide (1 < uAt b 2 1) || !zeros b 3 1 || decide (b.length < 9) || decide (1024 < n) || (roleOf s == 0 && a != 0) then s0Reject s1
    else
      let there := if roleOf s == 1 then (tget s1.fleet.rovers a).isSome else s1.fleet.st == .joined
      if there then queueMsg a port (uAt b 2 1 == 1) (uAt b 4 4) (b.drop 8) s1 else msgFailed (uAt b 4 4) a 2 s1

/-- RADIO_MSG_PACKET (11 R421). -/
def execRadioMsgPacket (s : State) : Host.Outcome State Fault Refusal := done (doRadioMsgPacket s)

/-! ## Commands (11 R429, R430) -/

/-- The body of FLEET_RADIO_CONFIG (11 R397, R399, R400, R404, R430). -/
def fleetRadioConfig (p : List Byte) (s : State) : Reply × State :=
  let mode := uAt p 0 1
  let sf := uAt p 2 2
  let sub := decide (3 ≤ mode)
  if decide (6 < mode) || !zeros p 1 1 || sf % 10 != 0 || !within (minSf mode) 400 sf || ms1 * sf % tideP s != 0 || !netIdOk (uAt p 4 4) ||
     decide (12500 * sf - 60000 < 1000 * uAt p 10 2) || (!sub && !zeros p 16 8) || uAt p 24 5 == 0 || decide (2 ^ 40 ≤ uAt p 24 5) || !zeros p 29 3 then refuse stBadParam s
  else if s.fleet.st != .off then refuse stBadState s
  else ok { s with fleet := { s.fleet with
    configured := true, mode := mode, sfMs := sf, netId := uAt p 4 4, netKey := uAt p 8 1, svcKey := uAt p 9 1, settle := uAt p 10 2
    txDelay := uAt p 12 2, rxDelay := uAt p 14 2, f0 := uAt p 16 4, spacing := uAt p 20 4, cfgMap := uAt p 24 5 } }

/-- FLEET_RADIO_CONFIG. -/
def execFleetRadioConfig (c : Cmd) (s : State) : Host.Outcome State Fault Refusal := done (command 0x0A01 32 0 none fleetRadioConfig c s)

/-- The body of FLEET_XCVR_SCRIPT (11 R399). -/
def fleetXcvrScript (p : List Byte) (s : State) : Reply × State :=
  let k := uAt p 0 1
  let n := uAt p 1 1
  if !(decide (k ≤ 2) || within 8 47 k) || !within 1 16 n || !zeros p 2 2 then refuse stBadParam s
  else if s.fleet.st != .off then refuse stBadState s
  else ok { s with fleet := { s.fleet with scripts := tset s.fleet.scripts k ((p.drop 4).take n) } }

/-- FLEET_XCVR_SCRIPT. -/
def execFleetXcvrScript (c : Cmd) (s : State) : Host.Outcome State Fault Refusal := 
  done (command 0x0A02 (4 + min 16 (uAt (prmOf c) 1 1)) 0 none fleetXcvrScript c s)

/-- The body of FLEET_BASE_START (11 R427, R429). -/
def fleetBaseStart (p : List Byte) (s : State) : Reply × State :=
  if !within 1 64 (uAt p 0 1) || decide (1 < uAt p 1 1) || decide (uAt p 2 1 < 3) then refuse stBadParam s
  else if s.fleet.st != .off || !s.fleet.configured || s.power.st != .spring || noService s then refuse stBadState s
  else ok { s with fleet := { s.fleet with
    st := .beaconing, maxRovers := uAt p 0 1, joinOpen := bit (uAt p 1 1) 0, supTimeout := uAt p 2 1, map := s.fleet.cfgMap, pending := none
    rovers := [], released := [], joinOut := [], svcOut := [], corrOut := none, burst := none, bcastSeq := 0, slotAt := none } }

/-- FLEET_BASE_START. -/
def execFleetBaseStart (c : Cmd) (s : State) : Host.Outcome State Fault Refusal := done (command 0x0A03 3 0 (some 1) fleetBaseStart c s)

/-- The body of FLEET_BASE_STOP. -/
def fleetBaseStop (p : List Byte) (s : State) : Reply × State :=
  if 1 < uAt p 0 1 then refuse stBadParam s
  else if s.fleet.st != .beaconing || (!s.fleet.rovers.isEmpty && uAt p 0 1 == 0) then refuse stBadState s
  else
    let s1 := corAbort (s.fleet.rovers.foldl (fun st r => releaseRover r.1 1 st) s)
    ok (runScript 0 { s1 with fleet := { s1.fleet with st := .off, pending := none, burst := none, corrOut := none, joinOut := [], svcOut := [] } })

/-- FLEET_BASE_STOP. -/
def execFleetBaseStop (c : Cmd) (s : State) : Host.Outcome State Fault Refusal := done (command 0x0A04 1 0 (some 1) fleetBaseStop c s)

/-- The body of FLEET_BASE_SET. -/
def fleetBaseSet (p : List Byte) (s : State) : Reply × State :=
  if !within 1 64 (uAt p 0 1) || decide (3 < uAt p 1 1) || decide (uAt p 2 1 < 3) then refuse stBadParam s
  else ok { s with fleet := { s.fleet with maxRovers := uAt p 0 1, joinOpen := bit (uAt p 1 1) 0, wake := bit (uAt p 1 1) 1, supTimeout := uAt p 2 1 } }

/-- FLEET_BASE_SET. -/
def execFleetBaseSet (c : Cmd) (s : State) : Host.Outcome State Fault Refusal := done (command 0x0A05 3 0 (some 1) fleetBaseSet c s)

/-- The body of FLEET_CHANNEL_MAP (11 R409). -/
def fleetChannelMap (p : List Byte) (s : State) : Reply × State :=
  let m := uAt p 0 5
  let cd := if uAt p 5 1 == 0 then 8 else uAt p 5 1
  if m == 0 || decide (2 ^ 40 ≤ m) || decide (cd < 3) then refuse stBadParam s
  else if s.fleet.st != .beaconing || s.fleet.pending.isSome then refuse stBadState s
  else ok { s with fleet := { s.fleet with pending := some (m, (sfNow s + 1 + cd) % 2 ^ 32) } }

/-- FLEET_CHANNEL_MAP. -/
def execFleetChannelMap (c : Cmd) (s : State) : Host.Outcome State Fault Refusal := done (command 0x0A06 6 0 (some 1) fleetChannelMap c s)

/-- The body of FLEET_ROVER_RELEASE. -/
def fleetRoverRelease (p : List Byte) (s : State) : Reply × State :=
  if (tget s.fleet.rovers (uAt p 0 1)).isNone then refuse 0x0A82 s else ok (releaseRover (uAt p 0 1) 1 s)

/-- FLEET_ROVER_RELEASE (11 R419). -/
def execFleetRoverRelease (c : Cmd) (s : State) : Host.Outcome State Fault Refusal := done (command 0x0A07 1 0 (some 1) fleetRoverRelease c s)

/-- The body of FLEET_ROVER_INFO. -/
def fleetRoverInfo (p : List Byte) (s : State) : Reply × State :=
  match tget s.fleet.rovers (uAt p 0 1) with
  | none => refuse 0x0A82 s
  | some r => okWith (r.uid ++ le 2 (min 65535 (diffN 32 (sfNow s) r.lastSf - 1).toNat) ++ leI 1 r.rssi ++ [0] ++ leI 4 r.offset ++ r.status) s

/-- FLEET_ROVER_INFO. -/
def execFleetRoverInfo (c : Cmd) (s : State) : Host.Outcome State Fault Refusal := done (command 0x0A08 1 32 (some 1) fleetRoverInfo c s)

/-- The body of FLEET_JOIN (11 R416). -/
def fleetJoin (_ : List Byte) (s : State) : Reply × State :=
  if s.fleet.st != .off || noService s then refuse stBadState s
  else if !s.fleet.configured then refuse 0x0A83 s
  else accepted (runScript (8 + (mapChannels s.fleet.cfgMap).getD 0 0) { s with fleet := { s.fleet with
    st := .search, searchIx := 0, searchSf := sfNow s, attempts := 0, nonce := none, granted := false, refused := false, contSlot := none
    beaconAt := none, offO := 0, driftY := 0, misses := 0, map := s.fleet.cfgMap, pending := none, rejoin := false, testedSf := none } })

/-- FLEET_JOIN. -/
def execFleetJoin (c : Cmd) (s : State) : Host.Outcome State Fault Refusal := done (command 0x0A09 0 0 (some 0) fleetJoin c s)

/-- The body of FLEET_LEAVE (11 R420). -/
def fleetLeave (_ : List Byte) (s : State) : Reply × State :=
  if s.fleet.st != .joined then refuse 0x0A82 s
  else if anyCellOn s || axesMoving s then refuse stBadState s
  else accepted { s with fleet := { s.fleet with leaving := some 3 } }

/-- FLEET_LEAVE. -/
def execFleetLeave (c : Cmd) (s : State) : Host.Outcome State Fault Refusal := done (command 0x0A0A 0 0 (some 0) fleetLeave c s)

/-- An authenticated beacon arrived in the present or previous superframe (11 R425, R426). -/
def beaconFresh (s : State) : Bool := s.fleet.beaconAt.isSome && decide (diffN 32 (sfNow s) s.fleet.beaconSf ≤ 1)

/-- The body of FLEET_RECOVER (11 R425, 12 R451, R453). -/
def fleetRecover (_ : List Byte) (s : State) : Reply × State :=
  if s.fleet.st != .lost then refuse stBadState s
  else if !beaconFresh s then refuse 0x0A81 s
  else if bit s.fleet.joinedMap (s.fleet.address - 1) then
    ok (lostEnds { s with
      fleet := { s.fleet with st := .joined, misses := 0, startSf := (sfNow s + 1) % 2 ^ 32 }
      stop := { s.stop with recovered := true } })
  else accepted (corDropGrants { s with fleet := { s.fleet with st := .connecting, rejoin := true, granted := false, nonce := none, contSlot := none, attempts := 0 } })

/-- FLEET_RECOVER. -/
def execFleetRecover (c : Cmd) (s : State) : Host.Outcome State Fault Refusal := done (command 0x0A0B 0 0 (some 0) fleetRecover c s)

/-- State code of the radio (11 R429). -/
def radCode : RadSt → Nat
  | .off => 0
  | .search => 1
  | .connecting => 2
  | .joined => 3
  | .lost => 4
  | .beaconing => 5

/-- The result of FLEET_STATUS (11 R429). -/
def fleetStatusBytes (s : State) : List Byte :=
  let f := s.fleet
  le 1 (radCode f.st) ++ le 1 (if inFleet s then f.address else 0) ++ le 1 (satN 255 f.misses) ++ le 1 f.mode ++ le 4 (sfNow s) ++ leI 4 (f.offO.tdiv 65536) ++
    leI 4 f.driftY ++ le 4 f.authFails ++ le 4 f.duplicates ++ le 4 f.corrBytes ++ le 1 (if roleOf s == 1 then f.rovers.length else f.beaconJoined)

/-- FLEET_STATUS. -/
def execFleetStatus (c : Cmd) (s : State) : Host.Outcome State Fault Refusal :=
  done (command 0x0A0C 0 29 none (fun _ s => okWith (fleetStatusBytes s) s) c s)

/-- The body of FLEET_SERVICE_SEND (11 R426). -/
def fleetServiceSend (p : List Byte) (s : State) : Reply × State :=
  let n := uAt p 8 1
  if !within 1 2 (uAt p 0 1) || !zeros p 1 3 || decide (32 < n) || !zeros p 9 3 then refuse stBadParam s
  else if s.fleet.st == .off || !s.fleet.configured then refuse 0x0A83 s
  else if !beaconFresh s then refuse 0x0A81 s
  else if s.fleet.svcKey == 0xFF || decide (fullPayload s.fleet < 14 + n) then refuse stBadState s
  else accepted { s with fleet := { s.fleet with svcReq := s.fleet.svcReq ++ [(uAt p 4 4, uAt p 0 1, (p.drop 12).take n, none)] } }

/-- FLEET_SERVICE_SEND. -/
def execFleetServiceSend (c : Cmd) (s : State) : Host.Outcome State Fault Refusal := 
  done (command 0x0A0D (12 + min 32 (uAt (prmOf c) 8 1)) 0 none fleetServiceSend c s)

/-- The body of FLEET_SERVICE_REPLY (11 R426). -/
def fleetServiceReply (p : List Byte) (s : State) : Reply × State :=
  let n := uAt p 17 1
  if decide (32 < n) || !zeros p 18 2 then refuse stBadParam s
  else if decide (4 < diffN 32 (sfNow s) (uAt p 12 4)) || decide (diffN 32 (sfNow s) (uAt p 12 4) < 0) then refuse stStale s
  else ok { s with fleet := { s.fleet with svcOut := s.fleet.svcOut ++ [p.take 12 ++ [2] ++ (p.drop 16).take 1 ++ (p.drop 20).take n] } }

/-- FLEET_SERVICE_REPLY. -/
def execFleetServiceReply (c : Cmd) (s : State) : Host.Outcome State Fault Refusal := 
  done (command 0x0A0E (20 + min 32 (uAt (prmOf c) 17 1)) 0 (some 1) fleetServiceReply c s)

end Sys2Proof.Machine
end

