-- ==== Sys2Proof/Machine/Network.lean ====
section
/-!
DEFINITION. Ethernet, IEEE 1588 and CAN FD (13 R485 to R499).
-/
namespace Sys2Proof.Machine

/-! ## Ethernet -/

/-- An Ethernet port. -/
def ethOf (s : State) (n : Nat) : EthPort := s.net.eth.getD n {}
/-- An Ethernet port changed. -/
def setEth (n : Nat) (f : EthPort → EthPort) (s : State) : State := { s with net := { s.net with eth := lmod s.net.eth n f } }
/-- A PTP instance. -/
def ptpOf (s : State) (n : Nat) : PtpPort := s.net.ptp.getD n {}
/-- A PTP instance changed. -/
def setPtp (n : Nat) (f : PtpPort → PtpPort) (s : State) : State := { s with net := { s.net with ptp := lmod s.net.ptp n f } }

/-- Index of the hash table: bits [31:26] of the FCS CRC over the 6 destination bytes (13 R489). -/
def hashIndex (dst : List Byte) : Nat := crc32 dst / 2 ^ 26

/-- Ethertype at an offset, most significant byte first (00 R11). -/
def etherAt (f : List Byte) (off : Nat) : Nat := 256 * uAt f off 1 + uAt f (off + 1) 1
/-- The frame is VLAN-tagged. -/
def tagged (f : List Byte) : Bool := etherAt f 12 == 0x8100
/-- Traffic class: the VLAN PCP, 0 when untagged (13 R487). -/
def classOf (f : List Byte) : Nat := if tagged f then uAt f 14 1 / 32 else 0
/-- A PTP frame (13 R491). -/
def isPtp (f : List Byte) : Bool := etherAt f (if tagged f then 16 else 12) == 0x88F7

/-- The destination filter (13 R489). -/
def ethAccepts (p : EthPort) (ptpOn : Bool) (f : List Byte) : Bool :=
  let dst := f.take 6
  p.promisc || dst == p.mac || (p.broadcast && dst == List.replicate 6 0xFF) ||
  (ptpOn && (dst == [0x01, 0x1B, 0x19, 0, 0, 0] || dst == [0x01, 0x80, 0xC2, 0, 0, 0x0E])) ||
  (bit (uAt dst 0 1) 0 && bit p.hash (hashIndex dst))

/-- The FCS of a frame's bytes, in the order of transmission (13 R485, R489). -/
def ethFcs (b : List Byte) : List Byte := le 4 (crc32 b)

/-- A frame as it goes on the wire: padded to its least length, with its FCS (13 R485). -/
def ethWire (b : List Byte) : List Byte :=
  let p := b ++ List.replicate (60 - b.length) 0
  p ++ ethFcs p

/-- A frame is received, its FCS at its end (13 R485, R489, R490): the packet holds port, class, two zero bytes, Device Time of the SFD less the PHY
receive latency, then the frame without its FCS (log entry 12). -/
def doEthFrameRx (n : Nat) (w : List Byte) (frac : Nat) (s : State) : State :=
  let p := ethOf s n
  let f := w.take (w.length - 4)
  if !p.enabled || !p.link then s
  else if decide (1522 < w.length) then setEth n (fun p => { p with tooLong := p.tooLong + 1 }) s
  else if decide (w.length < 64) || w.drop (w.length - 4) != ethFcs f then s
  else if !ethAccepts p (decide (0 < (ptpOf s n).st)) f then setEth n (fun p => { p with rejects := p.rejects + 1 }) s
  else
    let s1 := setEth n (fun p => { p with received := p.received + 1 }) s
    if decide (0 < (ptpOf s n).st) && isPtp f then s1
    else
      let dt := (1024 * (dtNow s / 1024 + frac % 128) - ns1 * p.rxLat) / 2 ^ 14 * 2 ^ 14
      sendS1 0x06 (le 1 n ++ le 1 (classOf f) ++ [0, 0] ++ dtBytes dt ++ f) s1

/-- ETH_FRAME_RX (13 R489). -/
def execEthFrameRx (port : Nat) (frame : List Byte) (frac : Nat) (s : State) : Host.Outcome State Fault Refusal := done (doEthFrameRx port frame frac s)

/-- Nanoseconds of one bit. -/
def bitNs (p : EthPort) : Nat := if p.speed == 2 then 1 else if p.speed == 1 then 10 else 100

/-- Time of a frame on the wire, preamble, FCS and inter-frame gap included, 2^-16 ns (13 R488). -/
def ethTime (p : EthPort) (f : List Byte) : Nat := ns1 * (8 + (max 60 f.length) + 4 + 12) * 8 * bitNs p

/-- Length of the run of open entries for a class that starts at an entry, at most one cycle, ns. -/
def openRun (l : List (Nat × Nat)) (cl : Nat) : Nat → Nat → Nat
  | 0, _ => 0
  | k + 1, ix => match l[ix % max l.length 1]? with
    | none => 0
    | some (g, t) => if bit g cl then t + openRun l cl k (ix + 1) else 0

/-- The class has a window long enough for a time (13 R488). -/
def fitsSomeWindow (p : EthPort) (cl t : Nat) : Bool :=
  match p.gates with
  | none => true
  | some g => (List.range g.entries.length).any (fun ix => decide (t ≤ ns1 * openRun g.entries cl g.entries.length ix))

/-- The gate of a class is open now and stays open for a time (13 R488). -/
def gateOpenFor (p : EthPort) (now cl t : Nat) : Bool :=
  match p.gates, p.gateEnd with
  | some g, some e => (match g.entries[p.gateIx]? with
    | some (st, _) => bit st cl && decide (now + t ≤ e + ns1 * openRun g.entries cl (g.entries.length - 1) (p.gateIx + 1))
    -- every gate is open until the first cycle of a list starts
    | none => decide (now + t ≤ e + ns1 * openRun g.entries cl g.entries.length 0))
  | _, _ => true

/-- A frame dropped because no window of its class is long enough (13 R488). -/
def gateDrop (n cl len : Nat) (s : State) : State :=
  raise { code := 0x0D09, sev := 3, p0 := n, p1 := cl, p2 := len } (setEth n (fun p => { p with gateDrops := p.gateDrops + 1 }) s)

/-- Queued frames longer than every window of their class are dropped (13 R488). -/
def gateSweep (n : Nat) (s : State) : State :=
  (List.range 8).foldl (fun st cl => ((ethOf st n).queues.getD cl []).foldl (fun st1 f =>
    if fitsSomeWindow (ethOf st1 n) cl (ethTime (ethOf st1 n) f.bytes) then st1
    else gateDrop n cl f.bytes.length (setEth n (fun p => { p with queues := lmod p.queues cl (·.erase f) }) st1)) st) s

/-- An ETH packet of the host is queued (13 R487, R488, R490): port, class, byte 2 bit 0 timestamp asked, zero, token, frame. -/
def doEthPacket (s : State) : State :=
  match takeS0 6 s with
  | none => s
  | some (q, s1) =>
    let n := uAt q.payload 0 1
    let f := q.payload.drop 8
    let p := ethOf s1 n
    if decide (1 < n) || !p.enabled || !p.link || decide (f.length < 14) || decide (1518 < f.length) || decide (1 < uAt q.payload 2 1) || !zeros q.payload 3 1 then s0Reject s1
    else
      let cl := classOf f
      if !fitsSomeWindow p cl (ethTime p f) then gateDrop n cl f.length s1
      else
        let tk := if uAt q.payload 2 1 == 1 then some (uAt q.payload 4 4) else none
        setEth n (fun p => { p with queues := lmod p.queues cl (· ++ [{ bytes := f, token := tk }]) }) s1

/-- ETH_PACKET (13 R490). -/
def execEthPacket (s : State) : Host.Outcome State Fault Refusal := done (doEthPacket s)

/-- The highest class with a frame that may start now (13 R487, R488). -/
def ethNext (p : EthPort) (now : Nat) : Option (Nat × EthFrame) :=
  ((List.range 8).reverse.findSome? (fun cl => match p.queues.getD cl [] with
    | [] => none
    | f :: _ => if gateOpenFor p now cl (ethTime p f.bytes) then some (cl, f) else none))

/-- A queued frame is transmitted when its gate window allows and the frame before it has ended; a back-off in progress, or a stopped DRBG, holds ETH_1
(13 R486, R488, R490, 15 R550). -/
def doEthFrameTx (n : Nat) (s0 : State) : State :=
  let s := gateSweep n (if decide ((ethOf s0 n).txEnd ≤ s0.time.cyc) then s0 else runToCyc (ethOf s0 n).txEnd s0)
  let p := ethOf s n
  if !p.enabled || !p.link || p.backoff.isSome || (n == 1 && !s.sec.drbg) then s
  else match ethNext p (dtNow s) with
    | none => s
    | some (cl, f) =>
      let s1 := setEth n (fun p => { p with queues := lmod p.queues cl (·.drop 1), sent := p.sent + 1, attempts := 0, txEnd := s.time.cyc + ethTime p f.bytes / (2 * ns1) }) s
      let s2 := emit .ethernet n (dtNow s) (ethWire f.bytes) s1
      match f.token with
      | none => s2
      | some t => sendS1 0x07 (le 1 n ++ [0, 0, 0] ++ le 4 t ++ dtBytes ((dtNow s + ns1 * 64 * bitNs p + ns1 * p.txLat) / 2 ^ 14 * 2 ^ 14)) s2

/-- ETH_FRAME_TX (13 R488). -/
def execEthFrameTx (port : Nat) (s : State) : Host.Outcome State Fault Refusal := done (doEthFrameTx port s)

/-- A gate list put in force from its first cycle start at or after an instant; until then every gate is open (log entry 30). -/
def startGates (g : GateList) (t : Nat) (p : EthPort) : EthPort :=
  { p with gates := some g, nextGates := none, gateIx := g.entries.length, gateEnd := some (cycleStart g t) }

/-- A gate entry's interval ends and the gates change; at a cycle start a list that waits replaces the old one (13 R487, R488). -/
def doEthGateCycle (n : Nat) (s : State) : State :=
  match (ethOf s n).gates, (ethOf s n).gateEnd with
  | some g, some e =>
    gateSweep n (setEth n (fun p =>
      let ix := if decide (g.entries.length ≤ p.gateIx + 1) then 0 else p.gateIx + 1
      match p.nextGates with
      | some ng => if ix == 0 then startGates ng e p else { p with gateIx := ix, gateEnd := some (e + ns1 * (g.entries.getD ix (0, 0)).2) }
      | none => { p with gateIx := ix, gateEnd := some (e + ns1 * (g.entries.getD ix (0, 0)).2) }) (runTo e s))
  | _, _ => s

/-- ETH_GATE_CYCLE (13 R487). -/
def execEthGateCycle (port : Nat) (s : State) : Host.Outcome State Fault Refusal := done (doEthGateCycle port s)

/-- Collision drops not yet reported are reported, at most once per second (13 R486). -/
def collisionReport (cause : Nat) (s : State) : State :=
  let p := ethOf s 1
  let now := dtNow s / sec1
  if p.dropRun == 0 || p.dropSec == some now then s
  else raise { code := 0x0D0A, sev := 3, p0 := p.dropRun, p1 := cause } (setEth 1 (fun p => { p with dropRun := 0, dropSec := some now }) s)

/-- A frame of ETH_1 dropped after a collision: 0 excessive, 1 late (13 R486). -/
def collisionDrop (cl cause : Nat) (s : State) : State :=
  collisionReport cause (setEth 1 (fun p =>
    { p with queues := lmod p.queues cl (·.drop 1), attempts := 0, excessive := if cause == 0 then p.excessive + 1 else p.excessive,
             late := if cause == 1 then p.late + 1 else p.late, dropRun := p.dropRun + 1, dropCause := cause }) s)

/-- A collision of the frame that ETH_1 is sending (13 R486): a late one drops it, the 16th attempt drops it, else a back-off of r
slot times of 51.2 us, r a free value below 2^min(k, 10). -/
def doEthCollision (bits : Nat) (s : State) : State :=
  let p := ethOf s 1
  match ethNext p (dtNow s) with
  | none => s
  | some (cl, _) =>
    let s1 := setEth 1 (fun p => { p with collisions := p.collisions + 1 }) s
    if decide (512 < bits) then collisionDrop cl 1 s1
    else if 15 ≤ p.attempts then collisionDrop cl 0 s1
    else if !s.sec.drbg then setEth 1 (fun p => { p with attempts := p.attempts + 1 }) s1
    else
      let k := p.attempts + 1
      let (r, s2) := draw s1
      setEth 1 (fun p => { p with attempts := k, backoff := some (s2.time.cyc + 25600 * (r % 2 ^ min k 10)) }) s2

/-- ETH_COLLISION (13 R486). -/
def execEthCollision (bits : Nat) (s : State) : Host.Outcome State Fault Refusal := done (doEthCollision bits s)

/-- The back-off ends and the frame is attempted again, where its window allows (13 R486, R488). -/
def doEthBackoffExpiry (s : State) : State :=
  match (ethOf s 1).backoff with
  | none => s
  | some c => doEthFrameTx 1 (setEth 1 (fun p => { p with backoff := none }) (runToCyc c s))

/-- ETH_BACKOFF_EXPIRY (13 R486). -/
def execEthBackoffExpiry (s : State) : Host.Outcome State Fault Refusal := done (doEthBackoffExpiry s)

/-- The PHY link changes (13 R499). -/
def doEthLink (n : Nat) (up : Bool) (speed : Nat) (s : State) : State :=
  if decide (1 < n) || (ethOf s n).link == up then s
  else raise { code := 0x0D08, sev := 2, p0 := n, p1 := b1 up, p2 := speed } (setEth n (fun p => { p with link := up }) s)

/-- ETH_LINK (13 R499). -/
def execEthLink (port : Nat) (up : Bool) (speed : Nat) (s : State) : Host.Outcome State Fault Refusal := done (doEthLink port up speed s)

/-- The body of NET_ETH_CONFIG (13 R485, R497). -/
def netEthConfig (p : List Byte) (s : State) : Reply × State :=
  let n := uAt p 0 1
  let sp := uAt p 1 1
  let fl := uAt p 2 1
  if decide (1 < n) || decide (7 < fl) || !zeros p 3 1 || !zeros p 10 2 || (n == 0 && !(sp == 1 || sp == 2)) || (n == 1 && sp != 0) then refuse stBadParam s
  else ok (setEth n (fun q => { q with enabled := bit fl 0, broadcast := bit fl 1, promisc := bit fl 2, speed := sp, mac := (p.drop 4).take 6,
                                       txLat := uAt p 12 2, rxLat := uAt p 14 2 }) s)

/-- NET_ETH_CONFIG (13 R497). -/
def execNetEthConfig (c : Cmd) (s : State) : Host.Outcome State Fault Refusal := done (command 0x0D03 16 0 none netEthConfig c s)

/-- The body of NET_ETH_HASH_SET (13 R489). -/
def netEthHashSet (p : List Byte) (s : State) : Reply × State :=
  if decide (1 < uAt p 0 1) || !zeros p 1 3 then refuse stBadParam s else ok (setEth (uAt p 0 1) (fun q => { q with hash := uAt p 4 8 }) s)

/-- NET_ETH_HASH_SET (13 R489). -/
def execNetEthHashSet (c : Cmd) (s : State) : Host.Outcome State Fault Refusal := done (command 0x0D04 12 0 none netEthHashSet c s)

/-- The body of NET_ETH_GATE_LOAD (13 R487, R497). -/
def netEthGateLoad (p : List Byte) (s : State) : Reply × State :=
  let n := uAt p 0 1
  let first := uAt p 1 1
  let k := uAt p 2 1
  let es := (List.range k).map (fun j => (uAt p (4 + 5 * j) 1, uAt p (5 + 5 * j) 4))
  if decide (1 < n) || !zeros p 3 1 || k == 0 || decide (8 < k) || decide (64 < first + k) || es.any (fun e => e.2 == 0) then refuse stBadParam s
  else ok (setEth n (fun q => { q with loaded := q.loaded.take first ++ es ++ q.loaded.drop (first + k) }) s)

/-- NET_ETH_GATE_LOAD (13 R487). -/
def execNetEthGateLoad (c : Cmd) (s : State) : Host.Outcome State Fault Refusal :=
  done (command 0x0D05 (4 + 5 * min 8 (uAt (prmOf c) 2 1)) 0 none netEthGateLoad c s)

/-- The body of NET_ETH_GATE_COMMIT (13 R487, R497, R498). -/
def netEthGateCommit (p : List Byte) (s : State) : Reply × State :=
  let n := uAt p 0 1
  let k := uAt p 1 1
  if decide (1 < n) || decide (64 < k) || !zeros p 2 2 || !dtOk p 4 then refuse stBadParam s
  else if k == 0 then ok (setEth n (fun q => { q with gates := none, nextGates := none, gateEnd := none, gateIx := 0 }) s)
  else
    let g : GateList := { entries := (ethOf s n).loaded.take k, base := dtAt p 4 }
    let cyc := cycleNs g.entries
    if decide (cyc < 1000) || decide (1000000000 < cyc) || g.entries.any (fun e => e.2 == 0) then refuse 0x0D81 s
    else ok (setEth n (fun q => if q.gates.isNone then startGates g (dtNow s) q else { q with nextGates := some g }) s)

/-- NET_ETH_GATE_COMMIT (13 R487). -/
def execNetEthGateCommit (c : Cmd) (s : State) : Host.Outcome State Fault Refusal := done (command 0x0D06 16 0 none netEthGateCommit c s)

/-- NET_MDIO (13 R485, R497): the access goes out; the PHY's answer is the outside's. -/
def netMdio (reply : Option Nat) (p : List Byte) (s : State) : Reply × State :=
  let k := uAt p 0 1
  if decide (3 < k) || decide (31 < uAt p 1 1) || decide (31 < uAt p 2 1) || !zeros p 3 1 || (decide (k ≤ 1) && decide (31 < uAt p 4 2)) then refuse stBadParam s
  else
    let s1 := emit .mdio 0 0 (p.take 8) s
    match reply with
    | none => (.now stTimeout [], s1)
    | some d => okWith (le 2 (if k % 2 == 0 then d else 0)) s1

/-- NET_MDIO (13 R485). -/
def execNetMdio (c : Cmd) (reply : Option Nat) (s : State) : Host.Outcome State Fault Refusal := done (command 0x0D0B 8 2 none (netMdio reply) c s)

/-! ## IEEE 1588 -/

/-- 2^k seconds in island cycles. -/
def log2Cyc (k : Int) : Nat := if k < 0 then 500000000 / 2 ^ k.natAbs else 500000000 * 2 ^ k.toNat
/-- 2^k seconds of Device Time. -/
def log2Dt (k : Int) : Nat := if k < 0 then sec1 / 2 ^ k.natAbs else sec1 * 2 ^ k.toNat

/-- Upper bound in ns of an enumerated clockAccuracy of IEEE 1588 (13 R492; the table is the standard's, log entry 14); none for
0xFE, 0x31 and reserved values. -/
def accuracyNs (a : Nat) : Option Nat :=
  if a < 0x17 then none
  else [1, 1, 1, 1, 1, 1, 1, 3, 10, 25, 100, 250, 1000, 2500, 10000, 25000, 100000, 250000, 1000000, 2500000, 10000000, 25000000,
        100000000, 250000000, 1000000000, 10000000000][a - 0x17]?

/-- The smallest enumerated clockAccuracy whose bound is at least TQ (13 R493). -/
def accuracyFor (q : Option Nat) : Nat :=
  match q with
  | none => 0xFE
  | some q => match (List.range 26).find? (fun k => match accuracyNs (0x17 + k) with | some b => decide (q ≤ b) | none => false) with
    | some k => 0x17 + k
    | none => 0xFE

/-- A PTP message leaves: type, sequence, timestamp, correction, extra (the published frame format is not laid out, log entry 12). -/
def ptpSend (n type seq : Nat) (t : Nat) (extra : List Byte) (s : State) : State :=
  emit .ethernet n (dtNow s) (le 1 type ++ le 2 seq ++ dtBytes t ++ extra) s

/-- The offset of a Sync goes to the domain whose source is the port (13 R492). -/
def ptpOffset (n t2 t1 : Nat) (corr : Int) (s : State) : State :=
  let p := ptpOf s n
  let s1 := setPtp n (fun p => { p with toUs := some ((t2 : Int) - t1 - corr) }) s
  if !p.annOk then s1
  else match domFrom s (4 + n) with
    | none => s1
    | some k => measure k ((t2 : Int) - t1 - p.mpd - corr - (domOf s k |> fun (d : Domain) => 1024 * d.delay)) t2
        ((accuracyNs p.accuracy).map (· + p.linkBound)) s1
where domOf (s : State) (k : Nat) : Domain := Machine.domOf s.time k

/-- The time of the domain that the port serves, else Device Time, at the capture (2^-16 ns). -/
def ptpClock (n frac : Nat) (s : State) : Nat :=
  1024 * ((match domFrom s (4 + n) with | some k => domNow (domOf s.time k) | none => dtNow s) / 1024 + frac % 128)

/-- A Pdelay_Req is answered in two steps: Pdelay_Resp with its arrival, Pdelay_Resp_Follow_Up with the answer's departure (13 R491). -/
def ptpPdelayAnswer (n seq frac : Nat) (s : State) : State :=
  ptpSend n 10 seq (capTime frac s) [] (ptpSend n 3 seq (capTime frac s) [] s)

/-- A PTP message is consumed by the instance of its port (13 R490 to R493). -/
def doPtpMessage (n : Nat) (m : PtpMsg) (frac : Nat) (s : State) : State :=
  let p := ptpOf s n
  let now := ptpClock n frac s
  if decide (1 < n) || p.st == 0 || m.domain != p.domain || m.sdoId != p.sdoId then s
  else if p.st == 2 then
    if m.type == 1 && !p.p2p then ptpSend n 9 m.seq (capTime frac s) [] s
    else if m.type == 2 && p.p2p then ptpPdelayAnswer n m.seq frac s
    else s
  else match m.type with
    | 0 => if m.twoStep then setPtp n (fun p => { p with sync := some (m.seq, now, dtNow s, m.correction) }) s
           else ptpOffset n now m.time m.correction s
    | 8 => match p.sync with
      | some (q, t2, _, corr) => if q == m.seq then ptpOffset n t2 m.time (corr + m.correction) (setPtp n (fun p => { p with sync := none }) s) else s
      | none => s
    | 9 => match p.req, p.toUs with
      | some (t3, q), some d => if q == m.seq then setPtp n (fun p => { p with req := none, mpd := (d + ((m.time : Int) - t3 - m.correction)) / 2 }) s else s
      | _, _ => s
    | 3 => match p.req with
      | some (t1, q) => if q != m.seq then s
        else if m.twoStep then setPtp n (fun p => { p with pdelay := some (now, m.time, m.correction) }) s
        else setPtp n (fun p => { p with req := none, mpd := ((now : Int) - t1 - m.correction) / 2 }) s
      | none => s
    | 10 => match p.req, p.pdelay with
      | some (t1, q), some (t4, t2, corr) => if q == m.seq then
          setPtp n (fun p => { p with req := none, pdelay := none, mpd := (((t4 : Int) - t1) - ((m.time : Int) - t2) - corr - m.correction) / 2 }) s else s
      | _, _ => s
    | 2 => if p.p2p then ptpPdelayAnswer n m.seq frac s else s
    | 11 => setPtp n (fun p => { p with accuracy := m.accuracy, annCyc := s.time.cyc, annOk := true }) s
    | _ => s

/-- PTP_MESSAGE (13 R492). -/
def execPtpMessage (port : Nat) (m : PtpMsg) (frac : Nat) (s : State) : Host.Outcome State Fault Refusal := done (doPtpMessage port m frac s)

/-- No Announce for 3 intervals: measurements stop (13 R492). -/
def doPtpAnnounceTimeout (n : Nat) (s : State) : State :=
  let p := ptpOf s n
  if p.st != 1 || !p.annOk then s
  else setPtp n (fun p => { p with annOk := false }) (runToCyc (p.annCyc + 3 * log2Cyc p.logAnn) s)

/-- PTP_ANNOUNCE_TIMEOUT (13 R492). -/
def execPtpAnnounceTimeout (port : Nat) (s : State) : Host.Outcome State Fault Refusal := done (doPtpAnnounceTimeout port s)

/-- What an Announce states: clockClass, clockAccuracy, timeSource, flags, currentUtcOffset (13 R493). -/
def announceBytes (s : State) : List Byte :=
  let d := followed s
  let gnss := d.source == 1
  let cls := if gnss && (d.st == .locked || d.st == .acquire) then 6 else if gnss && d.st == .holdover then 7 else 248
  le 1 cls ++ le 1 (accuracyFor (tqOf s)) ++ le 1 (if gnss then 0x20 else 0xA0) ++
    le 1 (8 + bitIf true 2 + bitIf s.time.leapPending 0) ++ le 2 s.time.taiUtc

/-- A TIME_TRANSMITTER sends Sync and Follow_Up, and Announce, at their intervals (13 R491, R493). -/
def doPtpSyncSend (n : Nat) (s : State) : State :=
  let p := ptpOf s n
  if p.st != 2 then s
  else
    let s1 := runTo (p.syncAt + log2Dt p.logSync) s
    let now := dtNow s1
    let q := (p.seq + 1) % 65536
    let ann := decide (p.annAt + log2Dt p.logAnn ≤ now)
    let s2 := ptpSend n 8 q (capTime 0 s1) [] (ptpSend n 0 q 0 [] (setPtp n (fun p => { p with seq := q, syncAt := now, annAt := if ann then now else p.annAt }) s1))
    if ann then ptpSend n 11 q 0 (announceBytes s2) s2 else s2

/-- PTP_SYNC_SEND (13 R493). -/
def execPtpSyncSend (port : Nat) (s : State) : Host.Outcome State Fault Refusal := done (doPtpSyncSend port s)

/-- A TIME_RECEIVER sends Delay_Req, or Pdelay_Req for P2P, at its interval (13 R491, R492). -/
def doPtpDelayReqSend (n : Nat) (s : State) : State :=
  let p := ptpOf s n
  if p.st != 1 then s
  else
    let s1 := runTo (p.reqAt + log2Dt p.logDelay) s
    let q := (p.seq + 1) % 65536
    ptpSend n (if p.p2p then 2 else 1) q 0 [] (setPtp n (fun p => { p with seq := q, reqAt := dtNow s1, req := some (ptpClock n 0 s1, q), pdelay := none }) s1)

/-- PTP_DELAY_REQ_SEND (13 R492). -/
def execPtpDelayReqSend (port : Nat) (s : State) : Host.Outcome State Fault Refusal := done (doPtpDelayReqSend port s)

/-- KP x 2^logSync exceeds 0.5 for a domain that takes the port as its source (02 R59). -/
def ptpKpBad (n : Nat) (log : Int) (s : State) : Bool :=
  match domFrom s (4 + n) with
  | none => false
  | some k => let kp := (domOf s.time k).kp
    if log < 0 then decide (2 ^ 23 * 2 ^ log.natAbs < kp) else decide (2 ^ 23 < kp * 2 ^ log.toNat)

/-- The body of NET_PTP_CONFIG (13 R491 to R493, 02 R59). -/
def netPtpConfig (p : List Byte) (s : State) : Reply × State :=
  let n := uAt p 0 1
  let st := uAt p 1 1
  let ls := iAt p 6 1
  let ld := iAt p 7 1
  let la := iAt p 8 1
  if decide (1 < n) || decide (2 < st) || decide (1 < uAt p 2 1) || decide (127 < uAt p 3 1) || decide (0xFFF < uAt p 4 2) ||
     decide (ls < -4) || decide (1 < ls) || decide (ld < -4) || decide (4 < ld) || decide (la < 0) || decide (4 < la) || !zeros p 9 3 ||
     decide (10000 < uAt p 12 4) || ptpKpBad n ls s then refuse stBadParam s
  else if st == 2 && (domFrom s (4 + n)).isSome then refuse stBadState s
  else ok (setPtp n (fun _ => { configured := true, st := st, p2p := uAt p 2 1 == 1, domain := uAt p 3 1, sdoId := uAt p 4 2, logSync := ls,
                                logDelay := ld, logAnn := la, linkBound := uAt p 12 4, annCyc := s.time.cyc, syncAt := dtNow s, annAt := dtNow s,
                                reqAt := dtNow s }) s)

/-- NET_PTP_CONFIG (13 R491). -/
def execNetPtpConfig (c : Cmd) (s : State) : Host.Outcome State Fault Refusal := done (command 0x0D07 16 0 none netPtpConfig c s)

/-! ## CAN FD -/

/-- A CAN controller. -/
def canOf (s : State) (n : Nat) : CanPort := s.net.can.getD n {}
/-- A CAN controller changed. -/
def setCan (n : Nat) (f : CanPort → CanPort) (s : State) : State := { s with net := { s.net with can := lmod s.net.can n f } }

/-- A received frame as a packet: controller, flags (bit 0 IDE, 1 FD, 2 remote), length, zero, identifier, Device Time, data (log entry 12). -/
def canBytes (n : Nat) (f : CanFrame) : List Byte :=
  le 1 n ++ le 1 (bitIf f.ide 0 + bitIf f.fd 1 + bitIf f.rtr 2) ++ le 1 f.data.length ++ [0] ++ le 4 f.id ++ dtBytes f.dt ++ f.data

/-- Frames of the FIFO go to S_1 while it has room (13 R495). -/
def canDrain : Nat → Nat → State → State
  | 0, _, s => s
  | k + 1, n, s => match (canOf s n).fifo with
    | [] => s
    | f :: r => if s1Room (canBytes n f) s then canDrain k n (sendS1 0x08 (canBytes n f) (setCan n (fun q => { q with fifo := r }) s)) else s

/-- Frames dropped and not yet reported are reported, once per second (13 R495). -/
def canReport (n : Nat) (s : State) : State :=
  let p := canOf s n
  let now := dtNow s / sec1
  if p.ovrRun == 0 || p.ovrSec == some now then s
  else raise { code := 0x0D0D, sev := 3, p0 := n, p1 := p.ovrRun } (setCan n (fun q => { q with ovrRun := 0, ovrSec := some now }) s)

/-- A frame joins the FIFO, or is dropped and counted where 64 are held (13 R495). -/
def canQueue (n : Nat) (f : CanFrame) (s : State) : State :=
  if (canOf s n).fifo.length < 64 then setCan n (fun q => { q with fifo := q.fifo ++ [f] }) s
  else canReport n (setCan n (fun q => { q with overflows := (q.overflows + 1) % 2 ^ 32, ovrRun := q.ovrRun + 1 }) s)

/-- At a tide boundary: frames that S_1 had no room for go to it, and drops that wait for their second are reported (13 R486, R495). -/
def netTide (s : State) : State :=
  collisionReport (ethOf s 1).dropCause ([0, 1].foldl (fun st n => canReport n (canDrain 65 n st)) s)

/-- Error state of the counters: 0 active, 1 passive, 2 bus-off (13 R496, ISO 11898-1; log entry 14). -/
def canState (tec recv : Nat) : Nat := if 256 ≤ tec then 2 else if 128 ≤ tec || 128 ≤ recv then 1 else 0

/-- Counters after a frame or an error, with the events of entry (13 R496). -/
def canCounters (n tec recv : Nat) (s : State) : State :=
  let p := canOf s n
  let st := canState tec recv
  let s1 := setCan n (fun q => { q with tec := min tec 256, recv := min recv 255, st := if q.st == 2 then 2 else st, tx := q.tx }) s
  if p.st == 2 then s
  else if st == 2 then raise { code := 0x0D0C, sev := 4, p0 := n, p1 := min tec 256 } s1
  else raiseIf (p.st == 0 && st == 1) { code := 0x0D0B, sev := 3, p0 := n, p1 := tec, p2 := recv } s1

/-- The acceptance filters (13 R495). -/
def canAccepts (p : CanPort) (ide : Bool) (id : Nat) : Bool :=
  p.filters.any (fun f => f.2.1 && f.1 == ide && (id &&& f.2.2.2) == (f.2.2.1 &&& f.2.2.2))

/-- A sound frame is received (13 R495, R496). -/
def doCanFrameRx (n : Nat) (ide fd rtr : Bool) (id : Nat) (data : List Byte) (s : State) : State :=
  let p := canOf s n
  if !p.enabled || p.st == 2 || (fd && !p.fd) then s
  else
    let s1 := canCounters n p.tec (if 127 < p.recv then 127 else p.recv - 1) s
    if !canAccepts p ide id then s1
    else canDrain 65 n (canQueue n { id := id, ide := ide, fd := fd, rtr := rtr, data := data.take 64, dt := capTime 0 s } (canDrain 65 n s1))

/-- CAN_FRAME_RX (13 R495). -/
def execCanFrameRx (ctl : Nat) (ide fd rtr : Bool) (id : Nat) (data : List Byte) (s : State) : Host.Outcome State Fault Refusal :=
  done (doCanFrameRx ctl ide fd rtr id data s)

/-- A CAN packet of the host takes a transmit buffer (13 R495): controller, flags as received plus bit 3 time asked, length, zero,
identifier, token, data (log entry 12). -/
def doCanPacket (s : State) : State :=
  match takeS0 8 s with
  | none => s
  | some (q, s1) =>
    let n := uAt q.payload 0 1
    let fl := uAt q.payload 1 1
    let len := uAt q.payload 2 1
    let p := canOf s1 n
    let bad := decide (1 < n) || decide (15 < fl) || !p.enabled || p.listen || decide (16 ≤ p.tx.length) || (bit fl 1 && !p.fd) ||
      (bit fl 1 && bit fl 2) || decide ((if bit fl 1 then 64 else 8) < len) || !zeros q.payload 3 1 || decide (2 ^ (if bit fl 0 then 29 else 11) ≤ uAt q.payload 4 4)
    if bad then s0Reject s1
    else setCan n (fun c => { c with tx := c.tx ++ [{ id := uAt q.payload 4 4, ide := bit fl 0, fd := bit fl 1, rtr := bit fl 2,
                                                       data := (q.payload.drop 12).take len, token := if bit fl 3 then some (uAt q.payload 8 4) else none }] }) s1

/-- CAN_PACKET (13 R495). -/
def execCanPacket (s : State) : Host.Outcome State Fault Refusal := done (doCanPacket s)

/-- Arbitration order of identifiers: the 11-bit base decides first, a base frame before an extended one (13 R495). -/
def canOrder (f : CanFrame) : Nat := if f.ide then f.id / 2 ^ 18 * 2 ^ 20 + 2 ^ 19 + f.id % 2 ^ 18 else 2 ^ 20 * f.id

/-- The pending frame with the lowest identifier, equal ones in order of submission (13 R495). -/
def canNext : List CanFrame → Option CanFrame
  | [] => none
  | f :: r => match canNext r with | none => some f | some g => if canOrder g < canOrder f then some g else some f

/-- A frame is transmitted; its SOF time is returned where asked (13 R495, R496). -/
def doCanFrameTx (n : Nat) (s : State) : State :=
  let p := canOf s n
  if !p.enabled || p.listen || p.st == 2 then s
  else match canNext p.tx with
    | none => s
    | some f =>
      let s1 := canCounters n (p.tec - 1) p.recv (setCan n (fun q => { q with tx := q.tx.erase f }) s)
      let s2 := emit .can n (dtNow s) (le 4 f.id ++ le 1 (bitIf f.ide 0 + bitIf f.fd 1 + bitIf f.rtr 2) ++ f.data) s1
      match f.token with
      | none => s2
      | some t => sendS1 0x09 (le 1 n ++ [0, 0, 0] ++ le 4 t ++ dtBytes (capTime 0 s)) s2

/-- CAN_FRAME_TX (13 R495). -/
def execCanFrameTx (ctl : Nat) (s : State) : Host.Outcome State Fault Refusal := done (doCanFrameTx ctl s)

/-- A CAN error raises the counters as ISO 11898-1 states: 8 as transmitter, 1 or 8 as receiver (13 R496; log entry 14). -/
def doCanBusError (n : Nat) (transmitting severe : Bool) (s : State) : State :=
  let p := canOf s n
  if !p.enabled || p.st == 2 then s
  else if transmitting then canCounters n (p.tec + 8) p.recv s
  else canCounters n p.tec (min 255 (p.recv + (if severe then 8 else 1))) s

/-- CAN_BUS_ERROR (13 R496). -/
def execCanBusError (ctl : Nat) (transmitting severe : Bool) (s : State) : Host.Outcome State Fault Refusal := done (doCanBusError ctl transmitting severe s)

/-- With AUTO_RECOVER a bus-off controller recovers after 128 occurrences of 11 recessive bits (13 R496). -/
def doCanAutoRecovery (n : Nat) (s : State) : State :=
  let p := canOf s n
  if p.st == 2 && p.auto then setCan n (fun q => { q with st := 0, tec := 0, recv := 0 }) s else s

/-- CAN_AUTO_RECOVERY (13 R496). -/
def execCanAutoRecovery (ctl : Nat) (s : State) : Host.Outcome State Fault Refusal := done (doCanAutoRecovery ctl s)

/-- Bits per second of a timing group (13 R494), 0 where the prescaler is 0. -/
def canRate (p : List Byte) (off : Nat) : Nat := 80000000 / (uAt p off 1 * (1 + uAt p (off + 1) 1 + uAt p (off + 2) 1))

/-- The body of NET_CAN_CONFIG (13 R494, R497). -/
def netCanConfig (p : List Byte) (s : State) : Reply × State :=
  let n := uAt p 0 1
  let fl := uAt p 1 1
  if decide (1 < n) || decide (15 < fl) || !zeros p 2 2 || uAt p 4 1 == 0 || decide (canRate p 4 < 20000) || decide (1000000 < canRate p 4) ||
     (bit fl 1 && (uAt p 8 1 == 0 || decide (8000000 < canRate p 8))) then refuse stBadParam s
  else ok (setCan n (fun q => { q with enabled := bit fl 0, fd := bit fl 1, listen := bit fl 2, auto := bit fl 3, timing := (p.drop 4).take 9
                                       tx := if bit fl 0 then q.tx else [] }) s)

/-- NET_CAN_CONFIG (13 R494). -/
def execNetCanConfig (c : Cmd) (s : State) : Host.Outcome State Fault Refusal := done (command 0x0D08 13 0 none netCanConfig c s)

/-- The body of NET_CAN_FILTER_SET (13 R495, R497). -/
def netCanFilterSet (p : List Byte) (s : State) : Reply × State :=
  let n := uAt p 0 1
  let k := uAt p 1 1
  let fl := uAt p 2 1
  if decide (1 < n) || decide (31 < k) || decide (3 < fl) || !zeros p 3 1 then refuse stBadParam s
  else ok (setCan n (fun q => { q with filters := q.filters.set k (bit fl 0, bit fl 1, uAt p 4 4, uAt p 8 4) }) s)

/-- NET_CAN_FILTER_SET (13 R495). -/
def execNetCanFilterSet (c : Cmd) (s : State) : Host.Outcome State Fault Refusal := done (command 0x0D09 12 0 none netCanFilterSet c s)

/-- The body of NET_CAN_RECOVER (13 R496, R497). -/
def netCanRecover (p : List Byte) (s : State) : Reply × State :=
  let n := uAt p 0 1
  if decide (1 < n) then refuse stBadParam s
  else if (canOf s n).st != 2 then refuse stBadState s
  else ok (setCan n (fun q => { q with st := 0, tec := 0, recv := 0 }) s)

/-- NET_CAN_RECOVER (13 R496). -/
def execNetCanRecover (c : Cmd) (s : State) : Host.Outcome State Fault Refusal := done (command 0x0D0A 1 0 none netCanRecover c s)

/-- The result of NET_STATUS, each figure in 4 bytes (13 R497; the places are the model's, log entry 13). -/
def netStatusBytes (s : State) : List Byte :=
  ((List.range 2).map (fun n => let p := ethOf s n
    le 4 (b1 p.link) ++ le 4 p.sent ++ le 4 p.received ++ le 4 p.gateDrops ++ le 4 p.collisions ++ le 4 p.rejects)).flatten ++
  ((List.range 2).map (fun n => let p := canOf s n; le 4 p.st ++ le 4 p.tec ++ le 4 p.recv ++ le 4 p.overflows)).flatten

/-- NET_STATUS (13 R497). -/
def execNetStatus (c : Cmd) (s : State) : Host.Outcome State Fault Refusal :=
  done (command 0x0D0C 0 80 none (fun _ s => okWith (netStatusBytes s) s) c s)

end Sys2Proof.Machine
end

