-- ==== Sys2Proof/Machine/Meter.lean ====
section
/-!
DEFINITION. Metering (file 10): aligned samples, flow, energy and charge, supplies, intervals and their records, billing, saves and the GAP
record, and the METER commands.
-/
namespace Sys2Proof.Machine

/-! ## Sources and units -/

/-- A source. -/
def srcOf (s : State) (m : Nat) : MSource := s.meter.src.getD m {}
/-- A source changed. -/
def setSrc (m : Nat) (f : MSource → MSource) (s : State) : State := { s with meter := { s.meter with src := lmod s.meter.src m f } }
/-- The value written with one bit set. -/
def orBit (v k : Nat) : Nat := if bit v k then v else v + 2 ^ k
/-- Accumulated counts in one unit of the kind, as numerator and denominator (10 R370, R374). -/
def unitOf (c : MSource) : Nat × Nat := match c.kind with
  | 1 => (c.kFactor, 2 ^ 24)
  | 2 => (c.kFactor, 2 ^ 24)
  | 3 => (1, 2 ^ 54 * 10 ^ 9)
  | 4 => (1, 2 ^ 30 * 10 ^ 6)
  | _ => (0, 1)
/-- An accumulated total in units, rounded down. -/
def inUnits (c : MSource) (v : Nat) : Nat := v * (unitOf c).1 / (unitOf c).2
/-- FORWARD and REVERSE of a source in units. -/
def totals (c : MSource) : Int × Int := (inUnits c c.fwd, inUnits c c.rev)
/-- A flow or current source (10 R385). -/
def billable (c : MSource) : Bool := decide (1 ≤ c.kind) && decide (c.kind ≤ 4)
/-- Full scale of RANGE in mV (10 R365). -/
def rangeMv (c : MSource) : Nat := [125, 250, 500, 1000].getD c.range 125
/-- Corrected value: (raw - OFFSET) x GAIN_TRIM, LSB 2^-15 raw LSB (10 R367). -/
def corrected (c : MSource) (raw : Int) : Int := (raw - c.offset) * c.gain

/-! ## Angles (10 R369) -/

/-- Angle of a vector in the first quarter turn, 2^-16 cycle, rounded down: found bit by bit. -/
def quarterAngle (a b : Int) : Nat :=
  ((List.range 14).reverse).foldl (fun (k : Nat) (i : Nat) =>
    let t : Nat := k + 2 ^ i
    let w : Int := 65536 * (t : Int)
    if 0 ≤ b * cosTurn w - a * sinTurn w then t else k) 0
/-- atan2(B, A) in 2^-16 cycle (10 R369). -/
def angleOf (a b : Int) : Nat :=
  if 0 < a ∧ 0 ≤ b then quarterAngle a b
  else if a ≤ 0 ∧ 0 < b then 16384 + quarterAngle b (-a)
  else if a < 0 ∧ b ≤ 0 then 32768 + quarterAngle (-a) (-b)
  else if 0 ≤ a ∧ b < 0 then 49152 + quarterAngle (-b) a
  else 0

/-! ## Intervals (10 R377 to R381) -/

/-- Instant of the next latch of the TIDE schedule: the first multiple of N_T x P after the interval's start and not before a step's time
(10 R377, R379). -/
def tideLatch (s : State) (c : MSource) (start : Nat) : Nat :=
  let l := max 1 c.nT * tideP s
  max ((start / l + 1) * l) (padTo l c.after)
/-- The latch that a source's running interval waits for. -/
def dueLatch (s : State) (c : MSource) : Option Nat := match c.start with
  | none => none
  | some t => if c.line then c.lineDue else some (tideLatch s c t)
/-- Tide number of an instant, zero with NO_JOB (10 R380). -/
def meterTide (s : State) (t : Nat) : Nat := if jobId s == 0 then 0 else (tideAt s t).getD 0
/-- An interval opens (10 R378). -/
def openInterval (s : State) (t : Nat) (isPartial : Bool) (c : MSource) : MSource :=
  { c with
    start := some t, tide := meterTide s t, base := totals c
    flags := bitIf c.fault 1 + bitIf (c.lineLost && c.line) 3 + bitIf isPartial 5, firstRev := 0, revCount := 0, faultUs := 0, peak := 0, lineDue := none, after := 0
    vMin := 0, vMax := 0, vSum := 0, vCount := 0, sags := 0, swells := 0, ints := 0, longest := 0
    nT := s.meter.nT, nL := s.meter.nL, lineRef := s.meter.lineRef }
/-- Quantities of a record (10 R381). -/
def quantityBytes (c : MSource) : List Byte :=
  if c.kind == 5 then
    le 4 c.vMin ++ le 4 c.vMax ++ le 4 (if c.vCount == 0 then 0 else c.vSum / c.vCount) ++ le 1 (satN 255 c.sags) ++ le 1 (satN 255 c.swells) ++
    le 1 (satN 255 c.ints) ++ [0] ++ le 4 (satN 0xFFFFFFFF c.longest) ++ [0, 0, 0, 0]
  else
    let f := (totals c).1 - c.base.1
    let r := (totals c).2 - c.base.2
    leI 8 f ++ leI 8 r ++ leI 8 (f - r)
/-- The interval record (10 R380). -/
def intervalRecord (m : Nat) (c : MSource) (start stop : Nat) : List Byte :=
  let b := le 1 m ++ le 1 c.kind ++ le 2 c.flags ++ dtBytes start ++ le 4 ((stop - start) / us1) ++ le 4 c.tide ++ quantityBytes c ++
    le 4 (if bit c.flags 0 then c.firstRev else 0) ++ le 2 (satN 65535 c.revCount) ++ le 2 (satN 65535 (c.faultUs / 1000)) ++ le 4 c.peak ++ le 2 c.seq
  b ++ le 2 (crc16 b)

/-- A record of a chosen source goes to S_1, or waits in the ring; METER_RECORD_LOSS once for each run (10 R382). -/
def putRecord (m : Nat) (r : List Byte) (s : State) : State :=
  if !bit s.meter.mask m then s
  else if s.meter.ring.isEmpty && s1Room r s then sendS1 0x16 r s
  else if s.meter.ring.length < 512 then { s with meter := { s.meter with ring := s.meter.ring ++ [r] } }
  else
    let s1 := { s with meter := { s.meter with ring := s.meter.ring.drop 1 ++ [r], lost := s.meter.lost + 1, bill := s.meter.bill.map (fun b => { b with lost := true }) } }
    raiseIf (s.meter.lost == 0) { code := 0x0908, sev := 3, p0 := 1 } s1

/-- Held records are sent in order while S_1 has room (10 R382). -/
def sendHeld : Nat → State → State
  | 0, s => s
  | n + 1, s => match s.meter.ring with
    | [] => s
    | r :: t => if s1Room r s then sendHeld n (sendS1 0x16 r { s with meter := { s.meter with ring := t, lost := 0 } }) else s
/-- RECORD_RING_SEND (10 R382). -/
def execRecordRingSend (s : State) : Host.Outcome State Fault Refusal := done (sendHeld 512 s)

/-! ## Billing (10 R383 to R385) -/

/-- The payload of a BILL_OPEN record (10 R384; its layout is log entry 13). -/
def billOpenBytes (b : Bill) : List Byte :=
  let o := b.entries.filter (·.opened.isSome)
  le 4 b.id ++ le 1 b.slot ++ le 4 ((b.entries.map (fun e => 2 ^ e.source)).sum) ++ le 4 b.job ++ le 1 o.length ++
  o.flatMap (fun e => match e.opened with
    | some (t, f, r) => le 1 e.source ++ dtBytes t ++ leI 8 f ++ leI 8 r ++ leI 8 (f - r)
    | none => [])
/-- A BILL_OPEN record read back; a source that had not opened opens with PARTIAL (10 R384). -/
def billOfBytes (p : List Byte) : Bill :=
  let n := uAt p 13 1
  let opened := (List.range n).map (fun k => let o := 14 + 37 * k; (uAt p o 1, dtAt p (o + 1), iAt p (o + 13) 8, iAt p (o + 21) 8))
  { id := uAt p 0 4, slot := uAt p 4 1, job := uAt p 9 4
    entries := ((List.range 16).filter (fun k => bit (uAt p 5 4) k)).map (fun k =>
      { source := k, opened := (opened.find? (fun x => x.1 == k)).map (fun x => (x.2.1, x.2.2.1, x.2.2.2)), flags := if opened.any (fun x => x.1 == k) then 0 else 32 }) }

/-- Every source of a period has its closing latch. -/
def billAllClosed (b : Bill) : Bool := b.entries.all (fun e => e.closed.isSome)
/-- One entry of the billing record (10 R385). -/
def billEntryBytes (s : State) (e : BillEntry) : List Byte :=
  let o := e.opened.getD (0, 0, 0)
  let c := e.closed.getD (0, 0, 0)
  le 1 e.source ++ le 1 (srcOf s e.source).kind ++ le 2 (e.flags % 128) ++ le 4 e.revCount ++ leI 8 (c.2.1 - o.2.1) ++ leI 8 (c.2.2 - o.2.2) ++
  le 8 (match e.gap with | none => 2 ^ 64 - 1 | some v => v)
/-- FLAGS of the billing record (10 R385). -/
def billFlags (b : Bill) : Nat :=
  let any := fun (k : Nat) => b.entries.any (fun e => bit e.flags k)
  b1 b.gapIn + bitIf (b.entries.any (fun e => e.gap.isNone)) 1 + bitIf (any 4) 2 + bitIf (any 1) 3 + bitIf (any 6) 4 + bitIf b.lost 5
/-- The billing record without its signature (10 R385). -/
def billBytes (s : State) (b : Bill) (slot : Nat) : List Byte :=
  let first := ((b.entries.head?.bind (·.opened)).map (·.1)).getD 0
  let last := (b.entries.filterMap (fun e => e.closed.map (·.1))).foldl max 0
  le 4 b.id ++ le 4 b.job ++ dtBytes first ++ dtBytes last ++ le 4 b.firstTide ++ le 4 b.lastTide ++ le 1 b.entries.length ++ le 1 (billFlags b) ++ le 1 slot ++ [0] ++
  le 4 s.meter.billSeq ++ b.entries.flatMap (billEntryBytes s)

/-- Why a key slot may not sign a billing record (10 R383, R384, 15 R543): it must let CTRL sign, with a P-256 key. -/
def billKeyFault (s : State) (slot : Nat) : Option Nat :=
  match useCheck s slot (some 4) 1 false with
  | some e => some e
  | none => if ((slotOf s slot).map (·.type)).getD 0 == 5 then none else some stNotPermitted

/-- A period whose sources have all closed: signed, journalled, sent (10 R383 to R385). It stays open where the key is no longer usable
or the journal does not take the record. -/
def billFinish (s : State) : State :=
  match s.meter.bill with
  | none => s
  | some b => match b.closing with
    | none => s
    | some slot =>
      let stay := { s with meter := { s.meter with bill := some { b with closing := none, entries := b.entries.map (fun e => { e with closed := none }) } } }
      if !billAllClosed b then s
      else if (billKeyFault s slot).isSome then stay
      else
        let body := billBytes s b slot
        let (k, s1) := draw s
        let key := ((slotOf s slot).map (·.key)).getD []
        let r := body ++ signOf 5 key (hashOf 0 body) k
        let (good, s2) := journalPut { type := 0x23, key := b.id, payload := r, prio := 4 } (countUse slot s1)
        if !good then { s2 with meter := stay.meter }
        else
          let s3 := sendS1 0x17 r { s2 with meter := { s2.meter with bill := none, billSeq := (s.meter.billSeq + 1) % 2 ^ 32 } }
          raise { code := 0x090B, sev := 2, p0 := b.id, p1 := s.meter.billSeq, p2 := billFlags b } s3

/-- A source of the open period at one of its latches: its opening, its interval's flags, its closing (10 R383, R384). -/
def billLatch (m t : Nat) (c : MSource) (s : State) : State :=
  match s.meter.bill with
  | none => s
  | some b => match b.entries.find? (fun e => e.source == m) with
    | none => s
    | some e =>
      let put := fun (f : BillEntry → BillEntry) (b : Bill) => { b with entries := b.entries.map (fun x => if x.source == m then f x else x) }
      if e.opened.isNone then
        let b1 := put (fun x => { x with opened := some (t, (totals c).1, (totals c).2) }) { b with firstTide := if b.entries.all (fun e => e.opened.isNone) then meterTide s t else b.firstTide }
        journalLog { type := 0x24, key := b.id, payload := billOpenBytes b1, prio := 4 } { s with meter := { s.meter with bill := some b1 } }
      else if e.closed.isSome then s
      else
        let fl := (List.range 7).foldl (fun v k => if bit c.flags k then orBit v k else v) e.flags
        let b1 := put (fun x => { x with flags := fl, revCount := (x.revCount + c.revCount) % 2 ^ 32, closed := if b.closing.isSome then some (t, (totals c).1, (totals c).2) else none })
          { b with lastTide := if b.closing.isSome then meterTide s t else b.lastTide }
        billFinish { s with meter := { s.meter with bill := some b1 } }

/-- A source's interval is closed at an instant and the next one opens (10 R378, R380). -/
def latchSource (m t : Nat) (isPartial : Bool) (s : State) : State :=
  let c := srcOf s m
  match c.start with
  | none => s
  | some t0 =>
    let flags := if c.exc.isSome then orBit c.flags 7 else c.flags
    let c1 := { c with flags := flags }
    let s1 := setSrc m (fun c => { openInterval s t isPartial c with seq := (c.seq + 1) % 65536 }) s
    billLatch m t c1 (putRecord m (intervalRecord m c1 t0 t) s1)

/-- INTERVAL_LATCH of a source (10 R377, R378): at its next latch instant, once its last aligned sample has arrived. -/
def doIntervalLatch (m : Nat) (s : State) : State :=
  match dueLatch s (srcOf s m) with
  | none => s
  | some t => latchSource m t false (runTo (t + 76 * us1) s)
/-- INTERVAL_LATCH (10 R378). -/
def execIntervalLatch (source : Nat) (s : State) : Host.Outcome State Fault Refusal := done (doIntervalLatch source s)

/-! ## Aligned samples (10 R366 to R374) -/

/-- A frame of conversions (10 R366): `raws` by source, in the next frame of 4 us of Device Time. -/
def doConversion (raws : List Int) (s : State) : State :=
  if s.power.st != Power.spring || !domainUp s 8 then s
  else
    let t := padTo (4 * us1) (dtNow s + 1)
    let s1 := runTo t s
    { s1 with meter := { s1.meter with raws := (List.range 20).map (fun m => satI 16 (raws.getD m 0)), frame := t / (4 * us1) } }
/-- CONVERSION_FRAME (10 R366). -/
def execConversionFrame (raws : List Int) (s : State) : Host.Outcome State Fault Refusal := done (doConversion raws s)

/-- FLOW_PULSE: a sample crosses +THRESH rising, or -THRESH falling, which re-arms (10 R372); what R373 needs to know of crossings is kept.
The second component: a cycle is counted. -/
def pulseTrack (t : Nat) (a : Int) (c : MSource) : MSource × Bool :=
  let th : Int := 2 ^ 22 * (c.thresh : Int)
  let rise := c.armed && decide (th < a)
  let fall := !c.armed && decide (a < -th)
  if rise || fall then ({ c with armed := fall, recent := [(t, a)], crossed := some t }, rise)
  else ({ c with recent := (t, a) :: c.recent.filter (fun e => decide (t ≤ e.1 + ms1)), crossed := some (c.crossed.getD t) }, false)

/-- No crossing for 1 ms in which the corrected sample varies by more than 2 x THRESH (10 R373). -/
def noCrossing (t : Nat) (c : MSource) : Bool :=
  let xs := c.recent.map (·.2)
  let lo := xs.foldl min (xs.headD 0)
  let hi := xs.foldl max (xs.headD 0)
  decide ((c.crossed.getD t) + ms1 ≤ t) && decide (2 ^ 22 * 2 * (c.thresh : Int) < hi - lo)

/-- The condition of SENSOR_FAULT: 0 saturation, 1 amplitude, 2 no crossings (10 R373). -/
def sensorBad (s : State) (m t : Nat) (a b : Int) (c : MSource) : Option Nat :=
  let sat := fun (k : Nat) => let x := s.meter.raws.getD k 0; decide (32703 ≤ x) || decide (x ≤ -32704)
  if sat m || (c.kind == 1 && sat (m + 1)) then some 0
  else if c.kind == 1 then
    match c.amp with
    | some r => if 16 * (a * a + b * b) < ((r * r : Nat) : Int) then some 1 else none
    | none => none
  else if noCrossing t c then some 2 else none

/-- A movement enters the totals by direction (10 R370). -/
def addMove (t : Nat) (v : Nat) (isRev reversal : Bool) (c : MSource) : MSource :=
  let c1 := if isRev then { c with rev := c.rev + v } else { c with fwd := c.fwd + v }
  let c2 := if isRev && !bit c1.flags 0 then { c1 with flags := c1.flags + 1, firstRev := stOf t } else c1
  if reversal then { c2 with revCount := c2.revCount + 1, dRev := isRev } else c2

/-- The hysteresis of R370 at a running position. -/
def hysteresis (t : Nat) (c : MSource) : MSource :=
  let h : Int := 256 * c.hyst
  let d := c.theta - c.thetaC
  let go := fun (isRev turn : Bool) => { addMove t d.natAbs isRev turn c with thetaC := c.theta }
  if !c.dRev then (if 0 < d then go false false else if d < -h then go true true else c)
  else (if d < 0 then go true false else if h < d then go false true else c)

/-- After every 16 cycles OFFSET and GAIN_TRIM are refined by free amounts within the bound of R369, and the amplitude is learned. -/
def autoTrim (m : Nat) (a b : Int) (s : State) : State :=
  let c := srcOf s m
  let e := match c.ext with | none => (a, a, b, b) | some (x, y, z, w) => (min x a, max y a, min z b, max w b)
  if (c.theta - c.extFrom).natAbs < 16 * 65536 then setSrc m (fun c => { c with ext := some e }) s
  else
    let s1 := setSrc m (fun c => { c with ext := none, extFrom := c.theta, amp := some ((e.2.1 - e.1) / 2).natAbs }) s
    if !c.autoTrim then s1
    else
      let (v, s2) := draw s1
      let move := fun (k : Nat) (x : Int) => x + ((v / 33 ^ k % 33 : Nat) : Int) - 16
      setSrc (m + 1) (fun c => { c with offset := move 2 c.offset, gain := (move 3 c.gain).toNat }) (setSrc m (fun c => { c with offset := move 0 c.offset, gain := (move 1 c.gain).toNat }) s2)

/-- A flow sample while no fault holds (10 R369, R370, R372); `cycle`: a pulse is counted. -/
def flowStep (t : Nat) (a b : Int) (cycle : Bool) (c : MSource) : MSource :=
  if c.kind == 1 then
    let p := angleOf a b
    match c.phi with
    | none => { c with phi := some p, thetaC := c.theta }
    | some q =>
      let d := diffN 16 p q
      if 16384 ≤ d.natAbs then { c with phi := some p, flags := orBit c.flags 2 } else hysteresis t { c with phi := some p, theta := c.theta + d }
  else if cycle then addMove t 65536 false false c else c

/-- A flow sample: SENSOR_FAULT, and accumulation outside it (10 R369 to R373). -/
def flowSample (m t : Nat) (a b : Int) (s : State) : State :=
  let c0 := srcOf s m
  let (c, cycle) := if c0.kind == 2 then pulseTrack t a c0 else (c0, false)
  let bad := sensorBad s m t a b c
  let since := match bad, c.badFrom with | none, _ => none | some k, none => some (if k == 2 then t - ms1 else t, k) | some _, some x => some x
  let inFault := match since with | some (t0, _) => c.fault || decide (t0 + ms1 ≤ t) | none => false
  let step := (t - c.sampleAt) / us1
  if inFault then
    let s1 := setSrc m (fun _ => { c with
      badFrom := since, fault := true, phi := none, flags := orBit c.flags 1, paused := if c.fault then c.paused + step else 0, faultUs := c.faultUs + (if c.fault then step else 0) }) s
    raiseIf (!c.fault) { code := 0x0901, sev := 4, p0 := m, p1 := (since.map (·.2)).getD 0 } s1
  else
    let c1 := flowStep t a b cycle { c with badFrom := since, fault := false }
    let s1 := setSrc m (fun _ => c1) s
    let s2 := raiseIf c.fault { code := 0x0902, sev := 2, p0 := m, p1 := c.paused / 1000 } s1
    let quiet := match c.revAt with | some k => decide (k + cycMs 1000 ≤ s.time.cyc) | none => true
    let s3 := if c.revCount == 0 && c1.revCount == 1 && quiet then
        raise { code := 0x0903, sev := 1, p0 := m, p1 := c1.firstRev, p2 := c1.revCount } (setSrc m (fun c => { c with revAt := some s.time.cyc }) s2) else s2
    if c.kind == 1 then autoTrim m a b s3 else s3

/-- A current sample: power or charge over 4 us (10 R374). -/
def currentSample (m t : Nat) (a : Int) (s : State) : State :=
  let c := srcOf s m
  let i := a * c.fullScale
  let v : Int := if c.vref == 0xFF then 1 else (srcOf s c.vref).value
  let p := i * v * 4
  setSrc m (fun c => if 0 < p then addMove t p.natAbs false false c else if p < 0 then addMove t p.natAbs true false c else c) s

/-- The 10 ms mean rate at the end of its window (10 R374). -/
def rateStep (m t : Nat) (s : State) : State :=
  let c := srcOf s m
  let w := t / (10 * ms1)
  if !billable c || w == c.win then s
  else
    let rate := 100 * inUnits c (c.fwd + c.rev - c.winBase)
    let excess := decide (c.maxRate < rate)
    let live := c.win + 1 == w
    let s1 := setSrc m (fun c => { c with
      win := w, winBase := c.fwd + c.rev, peak := if live then max c.peak rate else c.peak, rateMax := if live then max c.rateMax rate else c.rateMax
      flags := if live && excess then orBit c.flags 6 else c.flags, exceeded := live && excess }) s
    raiseIf (live && excess && !c.exceeded) { code := 0x0904, sev := 3, p0 := m, p1 := rate, p2 := c.maxRate } s1

/-- METER_SAMPLE under way takes a sample, and is sent when complete (10 R392): in mA of a current channel, in mV of another channel's RANGE and of a supply by its
DIVIDER (log entry 70). -/
def sampleJob (m t : Nat) (a : Int) (s : State) : State :=
  match s.meter.jobs.find? (fun j => j.1 == m) with
  | none => s
  | some (_, n, t0, xs) =>
    let c := srcOf s m
    let x := satI 32 (if 16 ≤ m then a * c.divider / 2 ^ 24 else a * (if c.kind == 3 || c.kind == 4 then c.fullScale else rangeMv c) / 2 ^ 30)
    let first := if xs.isEmpty then t else t0
    let rest := s.meter.jobs.filter (fun j => j.1 != m)
    if n ≤ xs.length + 1 then
      sendS1 0x19 (le 1 m ++ [0, 0, 0] ++ dtBytes first ++ ((xs ++ [x]).map (leI 4)).flatten) { s with meter := { s.meter with jobs := rest } }
    else { s with meter := { s.meter with jobs := rest ++ [(m, n, first, xs ++ [x])] } }

/-- One source's aligned sample (10 R367 to R375). -/
def sourceSample (t : Nat) (vals : List (Nat × Int)) (e : Nat × Int) (s0 : State) : State :=
  let m := e.1
  let c0 := srcOf s0 m
  let s := match dueLatch s0 c0 with | some l => if l ≤ t then latchSource m l false s0 else s0 | none => s0
  let c := srcOf s m
  let a := corrected c e.2
  let s1 := sampleJob m t (if 16 ≤ m then e.2 else a) s
  let s2 := match c.kind with
    | 1 => flowSample m t a (corrected (srcOf s1 (m + 1)) ((vals.find? (fun x => x.1 == m + 1)).map (·.2) |>.getD 0)) s1
    | 2 => flowSample m t a 0 s1
    | 3 => currentSample m t a s1
    | 4 => currentSample m t a s1
    | 5 => let v := e.2 * c.divider; setSrc m (fun c => { c with value := v, sum := c.sum + v, squares := c.squares + v.natAbs * v.natAbs, count := c.count + 1 }) s1
    | _ => s1
  rateStep m t (setSrc m (fun c => { c with sampleAt := t }) s2)

/-- The aligned samples of an instant become available 80 us after it (10 R367): `vals` holds each source's interpolated sample, in raw
LSB for MET_n and in 2^-8 mV at the pin for SUP_SNS_n; supplies are taken first, so that products see the same instant. -/
def doAligned (t : Nat) (vals : List (Nat × Int)) (s : State) : State :=
  if s.power.st != Power.spring || !domainUp s 8 || t % (4 * us1) != 0 || s.meter.src.any (fun c => decide (t < c.sampleAt)) then s
  else
    let s1 := runTo (t + 80 * us1) s
    let ordered := vals.filter (fun e => decide (16 ≤ e.1) && decide (e.1 < 20)) ++ vals.filter (fun e => decide (e.1 < 16))
    ordered.foldl (fun st e => sourceSample t vals e st) s1
/-- ALIGNED_SAMPLE (10 R367). -/
def execAlignedSample (instant : Nat) (vals : List (Nat × Int)) (s : State) : Host.Outcome State Fault Refusal := done (doAligned instant vals s)

/-! ## Supplies (10 R375 to R377) -/

/-- An excursion begins, goes on or ends with a value (10 R376). -/
def excursion (m start v : Nat) (s : State) : State :=
  let c := srcOf s m
  let pct := fun (p : Nat) => c.nominal * p
  let w := 100 * v
  match c.exc with
  | none =>
    if pct c.swell < w ∨ w < pct c.sag then
      let high := decide (pct c.swell < w)
      raise { code := 0x0905, sev := 3, p0 := m, p1 := b1 high, p2 := v } (setSrc m (fun c => { c with exc := some (high, start, v) }) s)
    else s
  | some (high, t0, x) =>
    let back := if high then decide (w ≤ pct (c.swell - c.shyst)) else decide (pct (c.sag + c.shyst) ≤ w)
    if !back then setSrc m (fun c => { c with exc := some (high, t0, if high then max x v else min x v) }) s
    else
      let cls := if high then 1 else if 100 * x < pct c.interrupt then 2 else 0
      let dur := (start - t0) / us1
      raise { code := 0x0906, sev := 3, p0 := 256 * m + cls, p1 := dur % 2 ^ 32, p2 := x }
        (setSrc m (fun c => { c with
          exc := none, sags := c.sags + b1 (cls == 0), swells := c.swells + b1 (cls == 1), ints := c.ints + b1 (cls == 2), longest := max c.longest dur }) s)

/-- A crossing of LINE_REF counts for the sources of the LINE schedule (10 R377). -/
def lineCross (ref t : Nat) (synthetic : Bool) (s : State) : State :=
  { s with meter := { s.meter with src := s.meter.src.map (fun c =>
    if !(c.line && c.lineRef == ref && c.start.isSome) then c
    else
      let n := c.crossings + 1
      let c1 := { c with flags := if synthetic then orBit c.flags 3 else c.flags }
      if n < max 1 c.nL then { c1 with crossings := n } else { c1 with crossings := 0, lineDue := some (c1.lineDue.getD t) }) } }

/-- A supply value is formed from the samples since the last one: the mean of the DC window of 250 us that holds the latest, or the RMS of an AC half-cycle from
`start0` to `stop0`; `rising`: its end is a positive-going crossing (10 R375 to R377). -/
def doSupplyValue (m start0 stop0 : Nat) (rising : Bool) (s : State) : State :=
  let c := srcOf s m
  let start := if c.ac then start0 else c.sampleAt / (250 * us1) * (250 * us1)
  let stop := if c.ac then stop0 else start + 250 * us1
  if c.kind != 5 || c.count == 0 then s
  else
    let v := if c.ac then bigSqrt (c.squares / c.count) / 2 ^ 24 else (c.sum / c.count / 2 ^ 24).toNat
    let s1 := setSrc m (fun c => { c with
      sum := 0, squares := 0, count := 0, vMin := if c.vCount == 0 then v else min c.vMin v, vMax := max c.vMax v, vSum := c.vSum + v, vCount := c.vCount + 1
      crossAt := if rising then some stop else c.crossAt, synthAt := if rising then some stop else c.synthAt, lineLost := if rising then false else c.lineLost }) s
    let s2 := excursion m start v s1
    if c.ac && rising then lineCross m stop false s2 else s2
/-- SUPPLY_VALUE (10 R375). -/
def execSupplyValue (source start stop : Nat) (rising : Bool) (s : State) : Host.Outcome State Fault Refusal := done (doSupplyValue source start stop rising s)

/-- LINE_REF has not crossed for 2 nominal cycles: synthetic crossings stand in (10 R377). -/
def doSynthetic (m : Nat) (s : State) : State :=
  let c := srcOf s m
  let per := sec1 / max 1 c.freq
  if !(c.kind == 5 && c.ac) then s
  else match c.crossAt, c.synthAt with
    | some real, some last =>
      let t := max (last + per) (if last == real then real + 2 * per else 0)
      let s1 := runTo t s
      let n := (t - last) / per
      let s2 := raiseIf (!c.lineLost) { code := 0x0907, sev := 4, p0 := m } (setSrc m (fun c => { c with synthAt := some t, lineLost := true }) s1)
      (List.range n).foldl (fun st k => lineCross m (last + (k + 1) * per) true st) s2
    | _, _ => s
/-- SYNTHETIC_CROSSING (10 R377). -/
def execSyntheticCrossing (lineRef : Nat) (s : State) : Host.Outcome State Fault Refusal := done (doSynthetic lineRef s)

/-! ## Saves and the GAP record (10 R386 to R390, 16 R595) -/

/-- Total in the kind's unit x 2^8 (16 R595). -/
def unit8 (c : MSource) (v : Nat) : Nat := 256 * v * (unitOf c).1 / (unitOf c).2
/-- Payload of METER_SAVE and METER_FINAL (16 R595). -/
def saveBytes (s : State) (t : Nat) : List Byte :=
  let used := (List.range 20).filter (fun m => let k := (srcOf s m).kind; decide (1 ≤ k) && decide (k ≤ 5))
  dtBytes t ++ le 1 used.length ++ [0, 0, 0] ++ used.flatMap (fun m =>
    let c := srcOf s m
    le 1 m ++ le 1 c.kind ++ le 1 (b1 c.dRev) ++ [0] ++ le 2 c.seq ++ [0, 0] ++ le 8 (unit8 c c.fwd) ++ le 8 (unit8 c c.rev) ++ leI 4 (65536 * c.thetaC) ++ le 4 c.rateMax)

/-- A save is made (10 R386). -/
def saveNow (s : State) : State :=
  let (good, s1) := journalPut { type := 0x20, key := 0, payload := saveBytes s (dtNow s), prio := 4 } s
  { s1 with meter := { s1.meter with
    saveAt := s.time.cyc, src := if good then s1.meter.src.map (fun c => { c with rateMax := 0, saved := true }) else s1.meter.src } }
/-- METER_SAVE, every SAVE_INTERVAL (10 R386). -/
def doMeterSave (s : State) : State :=
  if s.power.st != Power.spring then s else saveNow (runToCyc (s.meter.saveAt + cycMs (1000 * s.meter.saveEvery)) s)
/-- METER_SAVE (10 R386). -/
def execMeterSave (s : State) : Host.Outcome State Fault Refusal := done (doMeterSave s)
/-- A save is not complete within 100 ms of its snapshot: it is abandoned (10 R386). -/
def doMeterSaveLate (s : State) : State :=
  if s.power.st != Power.spring then s
  else
    let due := s.meter.saveAt + cycMs (1000 * s.meter.saveEvery)
    let s0 := runToCyc due s
    let s1 := runToCyc (due + cycMs 100) s0
    raise { code := 0x0909, sev := 3, p0 := stOf (dtNow s0) } { s1 with meter := { s1.meter with saveAt := due } }
/-- METER_SAVE_LATE (10 R386). -/
def execMeterSaveLate (s : State) : Host.Outcome State Fault Refusal := done (doMeterSaveLate s)
/-- METER_FINAL on PFW_N, at flash priority 1, its snapshot at the first aligned sample after the capture at `t`; it stands as a save, and a billing period that
closes stays open (10 R387, R391). -/
def meterFinal (t : Nat) (s : State) : State :=
  let (good, s1) := journalPut { type := 0x21, key := 0, payload := saveBytes s (padTo (4 * us1) (t + 1)), prio := 1 } s
  { s1 with meter := { s1.meter with
    src := if good then s1.meter.src.map (fun c => { c with rateMax := 0, saved := true }) else s1.meter.src
    bill := s1.meter.bill.map (fun b => { b with closing := none, entries := b.entries.map (fun e => { e with closed := none }) }) } }

/-- GAP is written and sent, and METER_GAP raised (10 R388, R389); `bounds`: LOST_BOUND by source, none unbounded. -/
def writeGap (last restart span flags : Nat) (bounds : List (Nat × Option Nat)) (s : State) : State :=
  let f := if bounds.any (fun b => b.2.isNone) then orBit flags 3 else flags
  let g := dtBytes last ++ dtBytes restart ++ le 4 (satN 0xFFFFFFFF span) ++ le 1 f ++ le 1 bounds.length ++ [0, 0] ++
    bounds.flatMap (fun b => le 1 b.1 ++ [0, 0, 0] ++ le 8 (b.2.getD (2 ^ 64 - 1)))
  let fold := fun (b : Bill) => { b with gapIn := true, entries := b.entries.map (fun e =>
    match bounds.find? (fun x => x.1 == e.source) with | some (_, v) => { e with gap := e.gap.bind (fun x => v.map (x + ·)) } | none => e) }
  let s1 := journalLog { type := 0x22, key := s.meter.gapSeq, payload := g, prio := 4 } s
  let s2 := sendS1 0x18 g { s1 with meter := { s1.meter with gapSeq := (s1.meter.gapSeq + 1) % 2 ^ 32, bill := s1.meter.bill.map fold } }
  raise { code := 0x090A, sev := 4, p0 := satN 0xFFFFFFFF span, p1 := f, p2 := (bounds.filter (fun b => b.2 != some 0)).length } s2

/-- The billing period of the newest BILL_OPEN without a BILL after it (10 R384). -/
def reopenBill (s : State) : Option Bill :=
  let recs := (jRecs s.journal).filter (fun r => r.tagLc == lifeCycle s && (r.type == 0x24 || r.type == 0x23))
  match (recs.reverse.find? (fun r => r.type == 0x24)) with
  | none => none
  | some r => if recs.any (fun x => x.type == 0x23 && x.key == r.key && decide (0 < diffN 32 x.seq r.seq)) then none else some (billOfBytes r.payload)

/-- The totals of a source from a saved entry (16 R595). -/
def restoreSource (e : List Byte) (c : MSource) : MSource :=
  let back := fun (v : Nat) => if (unitOf c).1 == 0 then 0 else (v * (unitOf c).2 + 256 * (unitOf c).1 - 1) / (256 * (unitOf c).1)
  let th : Int := iAt e 24 4 / 65536
  { c with fwd := back (uAt e 8 8), rev := back (uAt e 16 8), dRev := uAt e 2 1 == 1, seq := uAt e 4 2, theta := th, thetaC := th, rateMax := uAt e 28 4, phi := none }

/-- At a start-up that follows a power loss: totals restored, the loss bounded, the GAP record written, the billing period reopened
(10 R384, R388). `intact`: the retained totals; `tLoss`: the recorded instant of loss; `rtcLost`. -/
def meterRestore (intact : Bool) (tLoss : Option Nat) (rtcLost : Bool) (s0 : State) : State :=
  let lc := lifeCycle s0
  let fin := jNewest lc s0.journal 0x21 0
  let sav := jNewest lc s0.journal 0x20 0
  let useFin := match fin, sav with | some a, some b => decide (0 < diffN 32 a.seq b.seq) | some _, none => true | _, _ => false
  let r := if useFin then fin else sav
  let p := (r.map (·.payload)).getD []
  let snap := dtAt p 0
  let entry := fun (m : Nat) => (List.range (uAt p 12 1)).findSome? (fun k => let e := (p.drop (16 + 32 * k)).take 32; if uAt e 0 1 == m then some e else none)
  let span := if intact then 0 else match tLoss with
    | some t => (t - snap) / us1
    | none => if useFin then 1000 * s0.meter.holdup else 1000000 * s0.meter.saveEvery + 100000
  let src := (List.range 20).map (fun m =>
    let c := srcOf s0 m
    let c1 := { c with start := none, phi := none, fault := false, badFrom := none, exc := none, sampleAt := 0, win := 0, winBase := 0, count := 0, sum := 0, squares := 0 }
    if intact then c1 else match entry m with | some e => restoreSource e c1 | none => { c1 with fwd := 0, rev := 0, dRev := false, theta := 0, thetaC := 0 })
  let s := { s0 with meter := { s0.meter with src := src, bill := reopenBill s0, jobs := [], saveAt := s0.time.cyc } }
  let bounds := ((List.range 20).filter (fun m => billable (srcOf s m))).map (fun m =>
    let c := srcOf s m
    (m, if intact then some 0 else if !c.saved then none else some (span * max c.maxRate (((entry m).map (fun e => uAt e 28 4)).getD 0) / 1000000)))
  let now := dtNow s
  let flags := b1 tLoss.isSome + bitIf intact 1 + bitIf (!intact && useFin) 2 + bitIf rtcLost 4
  let s1 := writeGap (if intact then (s0.meter.src.map (·.sampleAt)).foldl max 0 else snap) (if rtcLost then 0 else padTo (4 * us1) now) span flags bounds s
  { s1 with meter := { s1.meter with src := s1.meter.src.map (fun c => if decide (1 ≤ c.kind) && decide (c.kind ≤ 5) then openInterval s1 now true c else c) } }

/-- Entry to NEAP or SLACK: every interval closes, and a save is made, which so holds the latest SEQ (10 R379, R390). -/
def meterLeave (s : State) : State :=
  let s2 := saveNow ((List.range 20).foldl (fun st m => latchSource m (dtNow st) false st) s)
  { s2 with meter := { s2.meter with leftAt := some (dtNow s), src := s2.meter.src.map (fun c => { c with start := none, phi := none }) } }
/-- Return to SPRING: intervals open with PARTIAL, and a GAP record with S = 0 states the span that was not metered (10 R390). -/
def meterReturn (s : State) : State :=
  match s.meter.leftAt with
  | none => s
  | some t =>
    let s1 := writeGap t (padTo (4 * us1) (dtNow s)) 0 2 (((List.range 20).filter (fun m => billable (srcOf s m))).map (fun m => (m, some 0))) s
    { s1 with meter := { s1.meter with leftAt := none, saveAt := s.time.cyc, src := s1.meter.src.map (fun c =>
      if decide (1 ≤ c.kind) && decide (c.kind ≤ 5) then openInterval s1 (dtNow s) true c else c) } }

/-! ## Commands (10 R392 to R394) -/

/-- A source lies in the open billing period. -/
def billed (s : State) (m : Nat) : Bool := match s.meter.bill with | some b => b.entries.any (fun e => e.source == m || (e.source + 1 == m && (srcOf s e.source).kind == 1)) | none => false

/-- METER_CHANNEL_CONFIG (10 R368, R383, R393). -/
def meterChannelConfig (p : List Byte) (s : State) : Reply × State :=
  let m := uAt p 0 1; let mode := uAt p 1 1; let g := uAt p 6 2; let vref := uAt p 20 1
  let bound (v lo hi : Nat) : Bool := decide (lo ≤ v) && decide (v ≤ hi)
  let good := decide (m < 16) && decide (mode ≤ 4) && decide (uAt p 2 1 ≤ 3) && decide (uAt p 3 1 < 4) && bound g 16384 49152 && decide ((iAt p 8 2).natAbs ≤ 8192) &&
    bound (uAt p 10 1) 1 64 && bound (uAt p 11 1) 4 128 && (vref == 0xFF || bound vref 16 19) && zeros p 21 3 && (mode == 3 || zeros p 16 4) &&
    !(bit (uAt p 3 1) 1 && mode != 3)
  let sup := srcOf s vref
  let pairBad := (mode == 1 && (m % 2 == 1 || decide (1 ≤ (srcOf s (m + 1)).kind))) || (mode != 0 && m % 2 == 1 && (srcOf s (m - 1)).kind == 1) ||
    (mode == 3 && vref != 0xFF && sup.kind != 5)
  if !good || (mode == 3 && bit (uAt p 3 1) 1 && !(sup.kind == 5 && sup.ac && vref != 0xFF)) then refuse stBadParam s
  else if billed s m then refuse 0x0980 s
  else if pairBad then refuse 0x0982 s
  else
    let kind := match mode with | 1 => 1 | 2 => 2 | 3 => (if vref == 0xFF then 4 else 3) | 4 => 6 | _ => 0
    let c : MSource := { kind := kind, range := uAt p 2 1, autoTrim := bit (uAt p 3 1) 0, line := bit (uAt p 3 1) 1, offset := iAt p 4 2, gain := g, delay := iAt p 8 2
                         hyst := uAt p 10 1, thresh := uAt p 11 1, kFactor := uAt p 12 4, fullScale := uAt p 16 4, vref := vref, maxRate := uAt p 24 4, seq := (srcOf s m).seq }
    ok (setSrc m (fun _ => if billable c then openInterval s (dtNow s) true c else c) s)
/-- METER_CHANNEL_CONFIG. -/
def execMeterChannelConfig (c : Cmd) (s : State) : Host.Outcome State Fault Refusal := done (command 0x0901 28 0 none meterChannelConfig c s)

/-- METER_SUPPLY_CONFIG (10 R375, R376, R394). -/
def meterSupplyConfig (p : List Byte) (s : State) : Reply × State :=
  let m := uAt p 0 1; let ty := uAt p 1 1; let f := uAt p 2 2
  let good := decide (16 ≤ m) && decide (m < 20) && decide (ty ≤ 2) && (if ty == 2 then [50, 60, 400].contains f else f == 0) && decide (uAt p 14 1 < uAt p 13 1) &&
    decide (uAt p 13 1 < 100) && decide (100 < uAt p 12 1) && decide (uAt p 16 1 ≤ 1) && !(uAt p 16 1 == 1 && ty != 2) && zeros p 17 3
  if !good then refuse stBadParam s
  else if billed s m || (match s.meter.bill with | some b => b.entries.any (fun e => (srcOf s e.source).kind == 3 && (srcOf s e.source).vref == m) | none => false) then refuse 0x0980 s
  else
    let c : MSource := { kind := if ty == 0 then 0 else 5, line := uAt p 16 1 == 1, ac := ty == 2, freq := f, divider := uAt p 4 4, nominal := uAt p 8 4, swell := uAt p 12 1
                         sag := uAt p 13 1, interrupt := uAt p 14 1, shyst := uAt p 15 1, seq := (srcOf s m).seq }
    ok (setSrc m (fun _ => if ty == 0 then c else openInterval s (dtNow s) true c) s)
/-- METER_SUPPLY_CONFIG. -/
def execMeterSupplyConfig (c : Cmd) (s : State) : Host.Outcome State Fault Refusal := done (command 0x0902 20 0 none meterSupplyConfig c s)

/-- METER_LATCH_CONFIG (10 R377, R392). -/
def meterLatchConfig (p : List Byte) (s : State) : Reply × State :=
  let r := uAt p 4 1
  if uAt p 0 2 == 0 || uAt p 2 2 == 0 || !(decide (16 ≤ r) && decide (r < 20) && (srcOf s r).kind == 5 && (srcOf s r).ac) then refuse stBadParam s
  else ok { s with meter := { s.meter with nT := uAt p 0 2, nL := uAt p 2 2, lineRef := r } }
/-- METER_LATCH_CONFIG. -/
def execMeterLatchConfig (c : Cmd) (s : State) : Host.Outcome State Fault Refusal := done (command 0x0903 5 0 none meterLatchConfig c s)

/-- METER_READ (10 R392). -/
def meterRead (p : List Byte) (s : State) : Reply × State :=
  let m := uAt p 0 1
  if 20 ≤ m then refuse stBadParam s
  else
    let c := srcOf s m
    let t := totals c
    okWith (leI 8 t.1 ++ leI 8 t.2 ++ leI 8 (t.1 - t.2) ++ dtBytes c.sampleAt ++ le 1 (b1 c.dRev) ++ le 1 (b1 c.fault)) s
/-- METER_READ. -/
def execMeterRead (c : Cmd) (s : State) : Host.Outcome State Fault Refusal := done (command 0x0904 1 38 none meterRead c s)

/-- METER_SUBSCRIBE (10 R382, R392). -/
def meterSubscribe (p : List Byte) (s : State) : Reply × State :=
  if 2 ^ 20 ≤ uAt p 0 4 then refuse stBadParam s else ok { s with meter := { s.meter with mask := uAt p 0 4 } }
/-- METER_SUBSCRIBE. -/
def execMeterSubscribe (c : Cmd) (s : State) : Host.Outcome State Fault Refusal := done (command 0x0905 4 0 none meterSubscribe c s)

/-- METER_BILL_OPEN (10 R383, R392). -/
def meterBillOpen (p : List Byte) (s : State) : Reply × State :=
  let mask := uAt p 8 4
  let ms := (List.range 32).filter (fun k => bit mask k)
  if ms.isEmpty || !ms.all (fun m => decide (m < 16) && billable (srcOf s m)) || !zeros p 5 3 || decide (64 ≤ uAt p 4 1) then refuse stBadParam s
  else if s.meter.bill.isSome then refuse 0x0980 s
  else match billKeyFault s (uAt p 4 1) with
    | some e => refuse (if e == stKeyRevoked then e else stNotPermitted) s
    | none => ok { s with meter := { s.meter with bill := some { id := uAt p 0 4, slot := uAt p 4 1, job := jobId s, entries := ms.map (fun m => { source := m }) } } }
/-- METER_BILL_OPEN. -/
def execMeterBillOpen (c : Cmd) (s : State) : Host.Outcome State Fault Refusal := done (command 0x0906 12 0 none meterBillOpen c s)

/-- METER_BILL_CLOSE (10 R383, R384, R392). -/
def meterBillClose (p : List Byte) (s : State) : Reply × State :=
  if uAt p 0 1 != 0xFF && decide (64 ≤ uAt p 0 1) then refuse stBadParam s
  else match s.meter.bill with
  | none => refuse 0x0981 s
  | some b =>
    let slot := if uAt p 0 1 == 0xFF then b.slot else uAt p 0 1
    match billKeyFault s slot with
      | some e => refuse e s
      | none => accepted { s with meter := { s.meter with bill := some { b with closing := some slot } } }
/-- METER_BILL_CLOSE. -/
def execMeterBillClose (c : Cmd) (s : State) : Host.Outcome State Fault Refusal := done (command 0x0907 1 0 none meterBillClose c s)

/-- METER_SAVE_CONFIG (10 R386, R388, R392). -/
def meterSaveConfig (p : List Byte) (s : State) : Reply × State :=
  let e := uAt p 0 4
  let h := uAt p 4 4
  if decide (1 ≤ e) && decide (e ≤ 600) && decide (2 ≤ h) && decide (h ≤ 1000) then ok { s with meter := { s.meter with saveEvery := e, holdup := h } } else refuse stBadParam s
/-- METER_SAVE_CONFIG. -/
def execMeterSaveConfig (c : Cmd) (s : State) : Host.Outcome State Fault Refusal := done (command 0x0908 8 0 none meterSaveConfig c s)

/-- METER_SAMPLE (10 R392). -/
def meterSample (p : List Byte) (s : State) : Reply × State :=
  let m := uAt p 0 1
  let n := uAt p 4 2
  if decide (m < 20) && decide (1 ≤ n) && decide (n ≤ 4096) && zeros p 1 3 then
    accepted { s with meter := { s.meter with jobs := s.meter.jobs.filter (fun j => j.1 != m) ++ [(m, n, 0, [])] } }
  else refuse stBadParam s
/-- METER_SAMPLE. -/
def execMeterSample (c : Cmd) (s : State) : Host.Outcome State Fault Refusal := done (command 0x0909 6 0 none meterSample c s)

end Sys2Proof.Machine
end

