-- ==== Sys2Proof/Machine/Recorder.lean ====
section
/-!
DEFINITION. The event recorder (17 R620 to R630) and the POWER commands that only read or configure (17 R627).
-/
namespace Sys2Proof.Machine

/-- The highest severity with a drop (17 R630). -/
def highestDrop (l : List Nat) : Nat := ((List.range 8).filter (fun k => decide (0 < l.getD k 0))).foldl max 0

/-- Four drop counts of 8 bits each, saturating (17 R630). -/
def packDrops (l : List Nat) (k : Nat) : Nat :=
  satN 255 (l.getD k 0) + 2 ^ 8 * satN 255 (l.getD (k + 1) 0) + 2 ^ 16 * satN 255 (l.getD (k + 2) 0) + 2 ^ 24 * satN 255 (l.getD (k + 3) 0)

/-- At the end of the first whole second without a drop, the counts since the previous RECORDER_LOSS are written as one record,
FIRST being the time of the first drop (17 R622). -/
def doRecorderLoss (s : State) : State :=
  match s.recorder.firstDrop with
  | none => s
  | some t =>
    let s1 := runTo (sec1 * (s.recorder.lastDropSec + 2)) s
    let l := s1.recorder.lossDrops
    let e : Ev := { code := 0x1101, sev := max 2 (highestDrop l), p0 := packDrops l 0, p1 := packDrops l 4, p2 := satN 0xFFFFFFFF l.sum, first := some t }
    let s2 := { s1 with recorder := { s1.recorder with lossDrops := List.replicate 8 0, firstDrop := none } }
    raise e s2

/-- RECORDER_LOSS (17 R622). -/
def execRecorderLoss (s : State) : Host.Outcome State Fault Refusal := done (doRecorderLoss s)

/-- An event record placed among others in order of SEQ (17 R620, R629). -/
def placeEvent (b : List Byte) : List (List Byte) → List (List Byte)
  | [] => [b]
  | x :: r => if diffN 16 (uAt b 28 2) (uAt x 28 2) < 0 then b :: x :: r else x :: placeEvent b r

/-- The newest copies of the event records that the journal holds, in order of SEQ (17 R623, R629): compaction may have moved older ones behind newer. -/
def journalEvents (s : State) : List (List Byte) :=
  let rs := (jRecs s.journal).filter (fun r => r.type == 0x30 && r.tagLc == lifeCycle s)
  ((rs.filter (fun r => rs.all (fun q => q.key != r.key || decide (diffN 32 q.seq r.seq ≤ 0)))).map (·.payload)).foldl (fun l b => placeEvent b l) []

/-- The body of RECORDER_READ (17 R629). -/
def recorderRead (p : List Byte) (s : State) : Reply × State :=
  let seq := uAt p 0 2
  let n := uAt p 2 1
  let fl := uAt p 3 1
  if n == 0 || decide (7 < n) || decide (1 < fl) then refuse stBadParam s
  else
    let recs := if fl == 1 then (journalEvents s).filter (fun b => decide (0 ≤ diffN 16 (uAt b 28 2) seq))
                else (s.recorder.ring.filter (fun r => decide (0 ≤ diffN 16 r.seq seq))).map evBytes
    okWith (recs.take n).flatten s

/-- The result area that RECORDER_READ asks for. -/
def recorderReadMax (c : Cmd) : Nat := 32 * uAt (prmOf c) 2 1

/-- RECORDER_READ (17 R629). -/
def execRecorderRead (c : Cmd) (s : State) : Host.Outcome State Fault Refusal := done (command 0x1101 4 (min 224 (recorderReadMax c)) none recorderRead c s)

/-- The body of RECORDER_SUBSCRIBE (17 R624, R629). -/
def recorderSubscribe (p : List Byte) (s : State) : Reply × State :=
  let v := uAt p 0 1
  if v == 0xFF then ok { s with recorder := { s.recorder with subscribe := none } }
  else if 7 < v then refuse stBadParam s
  else ok { s with recorder := { s.recorder with subscribe := some v } }

/-- RECORDER_SUBSCRIBE (17 R624). -/
def execRecorderSubscribe (c : Cmd) (s : State) : Host.Outcome State Fault Refusal := done (command 0x1102 1 0 none recorderSubscribe c s)

/-- The body of RECORDER_CONFIG (17 R622, R623, R629). -/
def recorderConfig (p : List Byte) (s : State) : Reply × State :=
  let code := uAt p 0 2
  let rate := uAt p 2 1
  let mm := uAt p 3 1
  if rate == 0 || decide (7 < mm) then refuse stBadParam s
  else
    let r := { s.recorder with mirrorMin := mm }
    ok { s with recorder := if code == 0 then { r with rate := rate, rates := [] } else { r with rates := tset r.rates code rate } }

/-- RECORDER_CONFIG (17 R629). -/
def execRecorderConfig (c : Cmd) (s : State) : Host.Outcome State Fault Refusal := done (command 0x1103 4 0 none recorderConfig c s)

/-- The result of RECORDER_STATUS (17 R629). -/
def recorderStatusBytes (s : State) : List Byte :=
  let r := s.recorder
  le 2 r.ring.length ++ le 2 (match r.ring with | x :: _ => x.seq | [] => 0) ++ le 2 r.seq ++
    le 2 (r.ring.filter (fun x => x.sev == 7)).length ++ ((List.range 8).map (fun k => le 4 (r.drops.getD k 0))).flatten

/-- RECORDER_STATUS (17 R629). -/
def execRecorderStatus (c : Cmd) (s : State) : Host.Outcome State Fault Refusal :=
  done (command 0x1104 0 40 none (fun _ s => okWith (recorderStatusBytes s) s) c s)

/-- Power state code (17 R606). -/
def powerCode : Power → Nat
  | .off => 0
  | .slack => 1
  | .neap => 2
  | .spring => 3
  | .safe => 4

/-- VDD_READ: the value last read back, 0xFFFF when unanswered (17 R612, R619). -/
def vddRead16 (s : State) : Nat := if s.power.pmbusFault then 0xFFFF else s.power.vddRead.getD 0xFFFF

/-- The result of POWER_STATUS (17 R627). -/
def powerStatusBytes (s : State) : List Byte :=
  let p := s.power
  le 1 (powerCode p.st) ++ le 1 p.cause ++ le 2 s.votes.domains.value ++ le 2 p.vddReq ++ le 2 (vddRead16 s) ++ le 4 p.unavailYear ++
    le 4 p.restartTotal ++ le 1 (p.fatal.getD 0xFF) ++ [0, 0, 0] ++ le 4 p.statusWord

/-- POWER_STATUS (17 R627). -/
def execPowerStatus (c : Cmd) (s : State) : Host.Outcome State Fault Refusal :=
  done (command 0x1001 0 24 none (fun _ s => okWith (powerStatusBytes s) s) c s)

/-- The body of POWER_WAKE_CONFIG (17 R608, R627). -/
def powerWakeConfig (p : List Byte) (s : State) : Reply × State :=
  let m := uAt p 0 1
  let alarm := uAt p 4 8
  if decide (15 < m) || !zeros p 2 2 then refuse stBadParam s
  else if alarm != 0 && decide (sec1 * alarm ≤ dtNow s) then refuse stStale s
  else ok { s with power := { s.power with wakeMask := m, wakeEdges := uAt p 1 1, wakeAlarm := alarm } }

/-- POWER_WAKE_CONFIG (17 R608). -/
def execPowerWakeConfig (c : Cmd) (s : State) : Host.Outcome State Fault Refusal := done (command 0x1003 12 0 none powerWakeConfig c s)

/-- The body of POWER_SOUNDING_CONFIG (17 R619, R627). -/
def powerSoundingConfig (p : List Byte) (s : State) : Reply × State :=
  let n := uAt p 0 2
  let b := uAt p 2 1
  if n == 0 || decide (3600 < n) || decide (1 < b) then refuse stBadParam s
  else ok { s with power := { s.power with soundPeriod := n, soundSub := b == 1 } }

/-- POWER_SOUNDING_CONFIG (17 R619). -/
def execPowerSoundingConfig (c : Cmd) (s : State) : Host.Outcome State Fault Refusal := done (command 0x1004 3 0 none powerSoundingConfig c s)

/-- The body of POWER_SOUNDING_READ: the newest soundings, newest first (17 R627); the ring is kept oldest first. -/
def powerSoundingRead (p : List Byte) (s : State) : Reply × State :=
  let n := uAt p 0 1
  if n == 0 || decide (3 < n) then refuse stBadParam s
  else okWith ((s.power.soundings.reverse.take n).flatten) s

/-- POWER_SOUNDING_READ (17 R627). -/
def execPowerSoundingRead (c : Cmd) (s : State) : Host.Outcome State Fault Refusal :=
  done (command 0x1005 1 (64 * min 3 (uAt (prmOf c) 0 1)) none powerSoundingRead c s)

/-- The age in s of an activity's last completed pass (17 R627). -/
def passAge (s : State) (k : Nat) : Nat := (s.time.cyc - s.power.passAt.getD k 0) / 500000000

/-- POWER_UNDERTOW_STATUS (17 R627). -/
def execPowerUndertowStatus (c : Cmd) (s : State) : Host.Outcome State Fault Refusal :=
  done (command 0x1006 0 48 none (fun _ s => okWith ((List.range 12).map (fun k => le 4 (passAge s k))).flatten s) c s)

end Sys2Proof.Machine
end

