-- ==== Sys2Proof/Machine/Security.lean ====
section
/-!
DEFINITION. The security island's commands on keys, engines and state, and its periodic checks (15 R536 to R552, R568).
Life-cycle, tamper, unlock and debug stand in Tamper.lean.
-/
namespace Sys2Proof.Machine


/-- A result that needs more than the parameter area is BAD_LENGTH (14 R653). -/
def fits (c : Cmd) (r : List Byte) (s0 : State) (x : State) : Reply × State :=
  if areaOf c < r.length then refuse stBadLength s0 else okWith r x

/-! ## Attributes and target slots (15 R543, R546) -/

/-- The attributes of a command (16 bytes at an offset): none where R543 or R568 forbids them. -/
def attrsAt (p : List Byte) (o : Nat) : Option KeySlot :=
  let k : KeySlot := { type := uAt p (o + 1) 1, uses := uAt p (o + 2) 2, masters := uAt p (o + 4) 1, world := uAt p (o + 5) 1, lc := uAt p (o + 6) 1
                       flags := uAt p (o + 7) 1, gen := 0, key := [] }
  if uAt p o 1 == 0 && zeros p (o + 8) 8 && decide (1 ≤ k.type) && decide (k.type ≤ 9) && decide (k.uses < 2048) && decide (k.masters < 64) &&
     decide (k.world < 4) && decide (k.lc < 4) && decide (k.flags < 16) && !bit k.flags 1 && !bit k.flags 2 then some k else none

/-- The slot that a command writes (15 R542, R546): 0xFF asks for the lowest EMPTY host slot. -/
def targetSlot (n : Nat) (s : State) : Except Nat Nat :=
  if n == 0xFF then
    match (List.range 56).find? (fun k => (slotOf s (k + 8)).isNone) with
    | some k => .ok (k + 8)
    | none => .error stTableFull
  else if 64 ≤ n then .error stBadParam
  else if n < 8 then .error stNotPermitted
  else if (slotOf s n).isSome then .error 0x0E80
  else .ok n

/-- A key written into a slot by a command, and its reply: the slot in byte 0; NO_RESOURCE where its blob cannot be journalled. -/
def putKey (n : Nat) (k : KeySlot) (s : State) : Reply × State :=
  match writeSlot n k s with
  | (true, s1) => okWith (le 1 n) s1
  | (false, s1) => (.now stNoResource [], s1)

/-- The check of a use by the host command (15 R535, R543). -/
def hostUse (c : Cmd) (n : Nat) (bitNo : Option Nat) (s : State) : Option Nat := useCheck s n bitNo 0 (worldS s c.mbx)

/-- Key bytes of a slot. -/
def keyBytes (s : State) (n : Nat) : List Byte := match slotOf s n with | some k => k.key | none => []
/-- TYPE of a slot. -/
def keyType (s : State) (n : Nat) : Nat := match slotOf s n with | some k => k.type | none => 0

/-! ## Status and key management (15 R568) -/

/-- UNLOCKED_EPOCH: the newest record of the journal whose TAG verifies (15 R563, R564). -/
def unlockedEpoch (s : State) : Nat := match jNewest (lifeCycle s) s.journal 0x41 0 with | some r => uAt r.payload 0 4 | none => 0

/-- The result of SEC_STATUS. -/
def secStatusBytes (s : State) : List Byte :=
  le 1 (lifeCycle s) ++ le 1 (bitIf s.power.tamperSafe 0 + bitIf s.sec.cold 1 + bitIf s.sec.ackFrom.isSome 2 + bitIf s.sec.drbg 3) ++ [0, 0] ++
  le 4 s.otp.tamperEpoch ++ le 4 (unlockedEpoch s) ++
  le 8 ((s.sec.keys.filter (fun e => !e.2.revoked)).map (fun e => 2 ^ e.1)).sum ++ le 2 (s.otp.worldMap.getD 1) ++ le 1 s.sec.pufWorst

/-- SEC_STATUS (15 R568). -/
def execSecStatus (c : Cmd) (s : State) : Host.Outcome State Fault Refusal :=
  done (command 0x0E01 0 23 none (fun _ s => okWith (secStatusBytes s) s) c s)

/-- SEC_KEY_INFO. -/
def secKeyInfo (p : List Byte) (s : State) : Reply × State :=
  let n := uAt p 0 1
  if 64 ≤ n then refuse stBadParam s
  else match slotOf s n with
    | some k => okWith (slotAttrs (if k.revoked then 2 else 1) k) s
    | none => okWith (List.replicate 10 0 ++ le 2 ((tget s.sec.gens n).getD 0) ++ [0, 0, 0, 0]) s

/-- SEC_KEY_INFO (15 R543). -/
def execSecKeyInfo (c : Cmd) (s : State) : Host.Outcome State Fault Refusal := done (command 0x0E02 1 16 none secKeyInfo c s)

/-- A key that the device can create: not a public key. -/
def creatable (ty : Nat) : Bool := ty != 7 && ty != 8

/-- SEC_KEY_GENERATE. -/
def secKeyGenerate (p : List Byte) (s : State) : Reply × State :=
  match attrsAt p 4 with
  | none => refuse stBadParam s
  | some k =>
    if !creatable k.type then refuse stBadParam s
    else match targetSlot (uAt p 0 1) s with
      | .error e => refuse (if e == stTableFull && !s.sec.drbg then 0x0E83 else e) s
      | .ok n =>
        if !s.sec.drbg then refuse 0x0E83 s
        else
          let (b, s1) := drawBytes (keyLen k.type) s
          putKey n { k with key := b, flags := k.flags + 4 } s1

/-- SEC_KEY_GENERATE (15 R546). -/
def execSecKeyGenerate (c : Cmd) (s : State) : Host.Outcome State Fault Refusal := done (command 0x0E03 20 1 none secKeyGenerate c s)

/-- SEC_KEY_IMPORT: form 0 a public key in clear, 1 wrapped under a slot, 2 wrapped under the key agreed with TRANSPORT. -/
def secKeyImport (c : Cmd) (p : List Byte) (s : State) : Reply × State :=
  let form := uAt p 1 1
  match attrsAt p 4 with
  | none => refuse stBadParam s
  | some k =>
    let len := keyLen k.type
    let blob := if form == 2 then p.drop 117 else p.drop 20
    if 2 < form then refuse stBadParam s
    else if form == 0 && creatable k.type then refuse stNotPermitted s
    else
      let w := uAt p 2 1
      match (if form == 1 then hostUse c w (some 9) s else none) with
      | some e => refuse e s
      | none => match targetSlot (uAt p 0 1) s with
        | .error e => refuse e s
        | .ok n =>
          if form == 0 then putKey n { k with key := blob.take len } s
          else
            let kek := if form == 1 then keyBytes s w else sharedOf (keyBytes s 6) ((p.drop 20).take 97)
            match unwrapKey kek ((p.drop 4).take 16) blob len with
            | none => refuse stVerifyFail s
            | some key => putKey n { k with key := key } (if form == 1 then countUse w s else s)

/-- Bytes that SEC_KEY_IMPORT needs for its form and TYPE: the key, or the blob with its IV and tag (15 R568, log entry 24). -/
def importMin (p : List Byte) : Nat :=
  let len := keyLen (uAt p 5 1)
  if uAt p 1 1 == 0 then 20 + len else if uAt p 1 1 == 2 then 117 + len + 28 else 20 + len + 28

/-- SEC_KEY_IMPORT (15 R546). -/
def execSecKeyImport (c : Cmd) (s : State) : Host.Outcome State Fault Refusal := 
  done (commandC 0x0E04 (importMin (prmOf c)) 1 none secKeyImport c s)

/-- A mask is a subset of another. -/
def subset (a b : Nat) : Bool := a &&& b == a

/-- SEC_KEY_DERIVE. -/
def secKeyDerive (c : Cmd) (p : List Byte) (s : State) : Reply × State :=
  let par := uAt p 0 1
  let n := uAt p 20 1
  match attrsAt p 4 with
  | none => refuse stBadParam s
  | some k =>
    if !creatable k.type || n == 0 || decide (32 < n) || decide (64 ≤ par) then refuse stBadParam s
    else match hostUse c par (some 7) s with
      | some e => refuse e s
      | none => match slotOf s par with
        | none => refuse 0x0E81 s
        | some q =>
          if !(subset k.masters q.masters && subset k.world q.world && subset k.lc q.lc) then refuse stNotPermitted s
          else if 7 < q.depth + 1 then refuse 0x0E82 s
          else match targetSlot (uAt p 1 1) s with
            | .error e => refuse e s
            | .ok t =>
              let ctx := le 1 k.type ++ le 2 k.uses ++ le 1 k.masters ++ le 1 k.world ++ le 1 k.lc ++ le 2 q.gen
              putKey t { k with key := kdfOf q.key ((p.drop 24).take n) ctx (keyLen k.type), parent := par, depth := q.depth + 1 } (countUse par s)

/-- SEC_KEY_DERIVE (15 R545). -/
def execSecKeyDerive (c : Cmd) (s : State) : Host.Outcome State Fault Refusal := 
  done (commandC 0x0E05 (24 + min 32 (uAt (prmOf c) 20 1)) 1 none secKeyDerive c s)

/-- A slot that no command may write: fixed (15 R542); `some status` refuses it. -/
def hostSlot (n : Nat) (s : State) : Option Nat :=
  if 64 ≤ n then some stBadParam else if n < 8 then some stNotPermitted else if (slotOf s n).isNone then some 0x0E81 else none

/-- SEC_KEY_REVOKED with the number of slots revoked, and the master that issued the revocation: 0 HOST for a command, 5 SEC for a wipe of
its own (15 R535, R548, R570; log entry 31). -/
def evRevoked (n d : Nat) (master : Nat := 0) : Ev := { code := 0x0E04, sev := 2, src := 5, p0 := n, p1 := d, p2 := master }

/-- SEC_KEY_REVOKE. -/
def secKeyRevoke (p : List Byte) (s : State) : Reply × State :=
  let n := uAt p 0 1
  match hostSlot n s with
  | some e => refuse e s
  | none =>
    let d := descendants s n
    let own := match slotOf s n with | some k => if k.revoked then [] else [n] | none => []
    let all := own ++ d
    let s1 := revokeSlots all s
    okWith (le 8 (all.map (2 ^ ·)).sum) (raiseIf (!all.isEmpty) (evRevoked n all.length) s1)

/-- SEC_KEY_REVOKE (15 R547). -/
def execSecKeyRevoke (c : Cmd) (s : State) : Host.Outcome State Fault Refusal := done (command 0x0E06 1 8 none secKeyRevoke c s)

/-- SEC_KEY_DELETE. -/
def secKeyDelete (p : List Byte) (s : State) : Reply × State :=
  let n := uAt p 0 1
  match hostSlot n s with
  | some e => refuse e s
  | none =>
    let d := (descendants s n).length
    ok (raiseIf (d != 0) (evRevoked n d) (wipeSlot n s))

/-- SEC_KEY_DELETE (15 R547). -/
def execSecKeyDelete (c : Cmd) (s : State) : Host.Outcome State Fault Refusal := done (command 0x0E07 1 0 none secKeyDelete c s)

/-- The public part of a slot, none where it holds a secret alone (15 R546). -/
def publicPart (k : KeySlot) : Option (List Byte) :=
  if k.type == 5 || k.type == 6 then some (publicOf k.type k.key) else if k.type == 7 || k.type == 8 then some k.key else none

/-- SEC_KEY_EXPORT: the public part in clear, or a secret wrapped under a slot with WRAP. -/
def secKeyExport (c : Cmd) (p : List Byte) (s : State) : Reply × State :=
  let n := uAt p 0 1
  let w := uAt p 1 1
  if decide (64 ≤ n) || (decide (64 ≤ w) && w != 0xFF) then refuse stBadParam s
  else match hostUse c n (if w == 0xFF then none else some 10) s with
    | some e => refuse e s
    | none => match slotOf s n with
      | none => refuse 0x0E81 s
      | some k =>
        if w == 0xFF then
          match publicPart k with
          | some b => fits c b s (countUse n s)
          | none => refuse stNotPermitted s
        else match hostUse c w (some 8) s with
          | some e => refuse e s
          | none =>
            let (iv, s1) := drawBytes 12 s
            fits c (wrapKey (keyBytes s w) iv (slotAttrs 1 k) k.key) s (countUse w (countUse n s1))

/-- SEC_KEY_EXPORT (15 R546). -/
def execSecKeyExport (c : Cmd) (s : State) : Host.Outcome State Fault Refusal := done (commandC 0x0E08 2 0 none secKeyExport c s)

/-! ## Sessions (15 R548, R552) -/

/-- The session of a number. -/
def sessionOf (s : State) (id : Nat) : Option SecSession := s.sec.sessions.find? (fun x => x.id == id)
/-- A session stored. -/
def sessionPut (x : SecSession) (s : State) : State :=
  { s with sec := { s.sec with sessions := { x with cyc := s.time.cyc } :: s.sec.sessions.filter (fun y => y.id != x.id) } }
/-- A session discarded. -/
def sessionDrop (id : Nat) (s : State) : State := { s with sec := { s.sec with sessions := s.sec.sessions.filter (fun y => y.id != id) } }

/-- What a step of a cipher, MAC or hash works on (15 R552): the session with this step's data, or the status that refuses it.
`fresh` is the session a one-shot or an init describes; `use` its use check. -/
def stepSession (c : Cmd) (step id kind : Nat) (data : List Byte) (fresh : SecSession) (use : Nat → Option Nat) (s : State) :
    Except (Nat × State) (SecSession × State) :=
  if 3 < step || 7 < id then .error (stBadParam, s)
  else if step ≤ 1 then
    if step == 1 && (sessionOf s id).isSome then .error (0x0E80, s)
    else match use fresh.slot with
      | some e => .error (e, s)
      | none => .ok ({ fresh with data := data }, s)
  else match sessionOf s id with
    | none => .error (stBadState, s)
    | some x =>
      if x.mbx != c.mbx || x.kind != kind then .error (0x0E80, s)
      else match use x.slot with
        | some e => .error (e, if e == stKeyRevoked then sessionDrop id s else s)
        | none => .ok ({ x with data := x.data ++ data }, s)

/-- After a step the session is kept, or it ends. -/
def afterStep (step : Nat) (x : SecSession) (s : State) : State :=
  if step == 1 || step == 2 then sessionPut x s else if step == 3 then sessionDrop x.id s else s

/-! ## Engines (15 R549, R568) -/

/-- SEC_CIPHER: the data out of this step, then the tag of a GCM final encrypt. A GCM decrypt takes the last 16 data bytes of its
final step as the tag (log entry 24). -/
def secCipher (c : Cmd) (p : List Byte) (s : State) : Reply × State :=
  let mode := uAt p 1 1
  let dec := bit (uAt p 2 1) 0
  let step := uAt p 3 1
  let n := uAt p 5 1
  let slot := uAt p 0 1
  if decide (64 ≤ slot) || decide (3 < mode) || decide (1 < uAt p 2 1) || decide (160 < n) || decide (16 < uAt p 6 1) ||
     uAt p 7 1 != 0 || (decide (mode ≤ 1) && n % 16 != 0) then refuse stBadParam s
  else
    let fresh : SecSession := { id := uAt p 4 1, mbx := c.mbx, kind := 0, slot := slot, mode := mode, flag := dec, iv := (p.drop 8).take 16
                                aux := (p.drop 24).take (uAt p 6 1), data := [], cyc := 0 }
    let use := fun k => match hostUse c k (some (b1 dec)) s with
      | some e => some e
      | none => if keyType s k == 1 || keyType s k == 2 then none else some stBadParam
    match stepSession c step (uAt p 4 1) 0 ((p.drop 40).take n) fresh use s with
    | .error (e, s1) => (.now e [], s1)
    | .ok (x, s1) =>
      let fin := step == 0 || step == 3
      let key := keyBytes s x.slot
      let tagIn := fin && x.mode == 3 && x.flag
      let total := if tagIn then x.data.take (x.data.length - 16) else x.data
      let before := x.data.length - n
      let out := (aesOf x.mode x.flag key x.iv total).drop before
      let s2 := countUse x.slot (afterStep step x s1)
      if tagIn && gcmTagOf key x.iv x.aux total != x.data.drop (x.data.length - 16) then (.now stVerifyFail [], s2)
      else
        let ct := aesOf x.mode x.flag key x.iv total
        fits c (out ++ if fin && x.mode == 3 && !x.flag then gcmTagOf key x.iv x.aux ct else []) s s2

/-- The largest result of SEC_CIPHER for its parameters: its data, and the tag of a GCM final encrypt. -/
def cipherMax (p : List Byte) : Nat :=
  min 160 (uAt p 5 1) + (if uAt p 1 1 == 3 && !bit (uAt p 2 1) 0 && (uAt p 3 1 == 0 || uAt p 3 1 == 3) then 16 else 0)

/-- SEC_CIPHER (15 R552, R568). -/
def execSecCipher (c : Cmd) (s : State) : Host.Outcome State Fault Refusal := 
  done (commandC 0x0E09 (40 + min 160 (uAt (prmOf c) 5 1)) (cipherMax (prmOf c)) none secCipher c s)

/-- The MAC of a message under a slot: kind 0 CMAC, 1 HMAC with the hash of its TYPE (15 R549). -/
def macOf (kind ty : Nat) (key msg : List Byte) : List Byte :=
  if kind == 0 then cmacOf key msg else hmacOf (ty - 3) key msg

/-- SEC_MAC. -/
def secMac (c : Cmd) (p : List Byte) (s : State) : Reply × State :=
  let kind := uAt p 1 1
  let ver := bit (uAt p 2 1) 0
  let step := uAt p 3 1
  let n := uAt p 5 1
  let slot := uAt p 0 1
  if decide (64 ≤ slot) || decide (1 < kind) || decide (1 < uAt p 2 1) || decide (160 < n) || !zeros p 6 2 then refuse stBadParam s
  else
    let fresh : SecSession := { id := uAt p 4 1, mbx := c.mbx, kind := 1, slot := slot, mode := kind, flag := ver, iv := [], aux := [], data := [], cyc := 0 }
    let use := fun k => match hostUse c k (some (if ver then 3 else 2)) s with
      | some e => some e
      | none => if (kind == 0) == decide (keyType s k ≤ 2) && decide (keyType s k ≤ 4) then none else some stBadParam
    match stepSession c step (uAt p 4 1) 1 ((p.drop 56).take n) fresh use s with
    | .error (e, s1) => (.now e [], s1)
    | .ok (x, s1) =>
      let s2 := countUse x.slot (afterStep step x s1)
      if step == 1 || step == 2 then ok s2
      else
        let m := macOf x.mode (keyType s x.slot) (keyBytes s x.slot) x.data
        if x.flag then (if (p.drop 8).take m.length == m then ok s2 else (.now stVerifyFail [], s2)) else fits c m s s2

/-- SEC_MAC (15 R552, R568). -/
def execSecMac (c : Cmd) (s : State) : Host.Outcome State Fault Refusal := 
  done (commandC 0x0E0A (56 + min 160 (uAt (prmOf c) 5 1)) 0 none secMac c s)

/-- SEC_HASH. -/
def secHash (c : Cmd) (p : List Byte) (s : State) : Reply × State :=
  let step := uAt p 3 1
  let n := uAt p 5 1
  if decide (1 < uAt p 0 1) || !zeros p 1 2 || decide (160 < n) || !zeros p 6 2 then refuse stBadParam s
  else
    let fresh : SecSession := { id := uAt p 4 1, mbx := c.mbx, kind := 2, slot := 0, mode := uAt p 0 1, flag := false, iv := [], aux := [], data := [], cyc := 0 }
    match stepSession c step (uAt p 4 1) 2 ((p.drop 8).take n) fresh (fun _ => none) s with
    | .error (e, s1) => (.now e [], s1)
    | .ok (x, s1) =>
      let s2 := afterStep step x s1
      if step == 1 || step == 2 then ok s2 else fits c (hashOf x.mode x.data) s s2

/-- SEC_HASH (15 R552, R568). -/
def execSecHash (c : Cmd) (s : State) : Host.Outcome State Fault Refusal := 
  done (commandC 0x0E0B (8 + min 160 (uAt (prmOf c) 5 1)) 0 none secHash c s)

/-- Digest bytes of a key's curve (15 R568). -/
def digestLen (ty : Nat) : Nat := if ty == 5 || ty == 7 then 32 else 48

/-- SEC_SIGN. -/
def secSign (c : Cmd) (p : List Byte) (s : State) : Reply × State :=
  let n := uAt p 0 1
  if decide (64 ≤ n) || !zeros p 1 7 then refuse stBadParam s
  else match hostUse c n (some 4) s with
    | some e => refuse e s
    | none =>
      let ty := keyType s n
      if ty != 5 && ty != 6 then refuse stBadParam s
      else if p.length < 8 + digestLen ty then refuse stBadLength s
      else if !s.sec.drbg then refuse 0x0E83 s
      else
        let (k, s1) := draw s
        fits c (signOf ty (keyBytes s n) ((p.drop 8).take (digestLen ty)) k) s (countUse n s1)

/-- SEC_SIGN (15 R568). -/
def execSecSign (c : Cmd) (s : State) : Host.Outcome State Fault Refusal := done (commandC 0x0E0C 40 0 none secSign c s)

/-- The public key with which a slot verifies, and its public TYPE. -/
def verifyKey (k : KeySlot) : Nat × List Byte :=
  (if k.type == 5 then 7 else if k.type == 6 then 8 else k.type, (publicPart k).getD [])

/-- SEC_VERIFY. -/
def secVerify (c : Cmd) (p : List Byte) (s : State) : Reply × State :=
  let n := uAt p 0 1
  if decide (64 ≤ n) || !zeros p 1 7 then refuse stBadParam s
  else match hostUse c n (some 5) s with
    | some e => refuse e s
    | none => match slotOf s n with
      | none => refuse 0x0E81 s
      | some k =>
        if k.type < 5 || 8 < k.type then refuse stBadParam s
        else if digestLen k.type == 48 && decide (p.length < 152) then refuse stBadLength s
        else
          let v := verifyKey k
          let d := digestLen k.type
          if Config.ecVerify v.1 v.2 ((p.drop 8).take d) ((p.drop 56).take (2 * d)) then ok (countUse n s)
          else (.now stVerifyFail [], countUse n s)

/-- SEC_VERIFY (15 R568). -/
def execSecVerify (c : Cmd) (s : State) : Host.Outcome State Fault Refusal := done (commandC 0x0E0D 120 0 none secVerify c s)

/-- SEC_ECDH: the agreed secret becomes the key of the result slot. -/
def secEcdh (c : Cmd) (p : List Byte) (s : State) : Reply × State :=
  let n := uAt p 0 1
  match attrsAt p 4 with
  | none => refuse stBadParam s
  | some k =>
    if decide (64 ≤ n) || !creatable k.type || k.type == 5 || k.type == 6 then refuse stBadParam s
    else match hostUse c n (some 6) s with
      | some e => refuse e s
      | none =>
        if keyType s n != 5 && keyType s n != 6 then refuse stBadParam s
        else if keyType s n == 6 && decide (p.length < 117) then refuse stBadLength s
        else match targetSlot (uAt p 1 1) s with
          | .error e => refuse e s
          | .ok t => putKey t { k with key := (sharedOf (keyBytes s n) ((p.drop 20).take 97)).take (keyLen k.type) } (countUse n s)

/-- SEC_ECDH (15 R568). -/
def execSecEcdh (c : Cmd) (s : State) : Host.Outcome State Fault Refusal := done (commandC 0x0E0E 85 1 none secEcdh c s)

/-- SEC_RANDOM. -/
def secRandom (_ : Cmd) (p : List Byte) (s : State) : Reply × State :=
  let n := uAt p 0 1
  if n == 0 || decide (128 < n) then refuse stBadParam s
  else if !s.sec.drbg then refuse 0x0E83 s
  else let (b, s1) := drawBytes n s; okWith b s1

/-- SEC_RANDOM (15 R568). -/
def execSecRandom (c : Cmd) (s : State) : Host.Outcome State Fault Refusal := 
  done (commandC 0x0E0F 1 (min 128 (uAt (prmOf c) 0 1)) none secRandom c s)

/-! ## Challenge, log, attestation, PUF, WORLD_MAP, key installation -/

/-- The 64 bytes of a challenge after its nonce (15 R563). -/
def challengeTail (s : State) : List Byte := uidBytes ++ le 4 s.otp.tamperEpoch ++ le 1 (lifeCycle s) ++ List.replicate 11 0

/-- SEC_CHALLENGE. -/
def secChallenge (_ : List Byte) (s : State) : Reply × State :=
  if !s.sec.drbg then refuse 0x0E83 s
  else
    let (b, s1) := drawBytes 32 s
    let ch := b ++ challengeTail s
    okWith ch { s1 with sec := { s1.sec with challenge := some ch, ackFrom := none } }

/-- SEC_CHALLENGE (15 R563). -/
def execSecChallenge (c : Cmd) (s : State) : Host.Outcome State Fault Refusal := done (command 0x0E11 0 64 none secChallenge c s)

/-- SEC_UNLOCK_ACK does not arrive within 60 s: the challenge lapses (15 R563). -/
def doUnlockAckTimeout (s : State) : State :=
  match s.sec.ackFrom with
  | none => s
  | some t => let s1 := runToCyc (t + cycMs 60000) s; { s1 with sec := { s1.sec with challenge := none, ackFrom := none } }

/-- UNLOCK_ACK_TIMEOUT (15 R563). -/
def execUnlockAckTimeout (s : State) : Host.Outcome State Fault Refusal := done (doUnlockAckTimeout s)

/-- SEC_TAMPER_LOG: as many records, oldest first, as the parameter area holds (15 R568, log entry 25). -/
def secTamperLog (c : Cmd) (_ : List Byte) (s : State) : Reply × State :=
  okWith ((s.sec.log.take (areaOf c / 32)).flatMap evBytes) s

/-- SEC_TAMPER_LOG (15 R568). -/
def execSecTamperLog (c : Cmd) (s : State) : Host.Outcome State Fault Refusal := done (commandC 0x0E14 0 0 none secTamperLog c s)

/-- SEC_ATTEST: the DEVICE_ID signature over the host nonce and bytes 0 to 23. -/
def secAttest (p : List Byte) (s : State) : Reply × State :=
  match slotOf s 0 with
  | none => refuse 0x0E81 s
  | some k =>
    if !s.sec.drbg then refuse 0x0E83 s
    else
      let b := uidBytes ++ le 1 (lifeCycle s) ++ [0, 0, 0] ++ le 4 s.otp.tamperEpoch
      let (v, s1) := draw s
      okWith (b ++ signOf 5 k.key (hashOf 0 (p.take 32 ++ b)) v) (countUse 0 s1)

/-- SEC_ATTEST (15 R568). -/
def execSecAttest (c : Cmd) (s : State) : Host.Outcome State Fault Refusal := done (command 0x0E15 32 88 none secAttest c s)

/-- SEC_PUF_CHECK. -/
def secPufCheck (_ : List Byte) (s : State) : Reply × State :=
  if s.power.st != .spring then refuse stBadState s else accepted { s with sec := { s.sec with pufAsked := true } }

/-- SEC_PUF_CHECK (15 R540). -/
def execSecPufCheck (c : Cmd) (s : State) : Host.Outcome State Fault Refusal := done (command 0x0E16 0 0 none secPufCheck c s)

/-- SEC_WORLD_MAP. -/
def secWorldMap (p : List Byte) (s : State) : Reply × State :=
  if lifeCycle s != 1 || s.otp.worldMap.isSome then refuse stBadState s
  else ok { s with otp := { s.otp with worldMap := some (uAt p 0 2) } }

/-- SEC_WORLD_MAP (15 R536). -/
def execSecWorldMap (c : Cmd) (s : State) : Host.Outcome State Fault Refusal := done (command 0x0E17 2 0 none secWorldMap c s)

/-- The attributes of a fixed public-key slot (log entry 26). -/
def publicSlot (key : List Byte) : KeySlot :=
  { type := 8, uses := 32, masters := 0x23, world := 3, lc := 3, flags := 2, gen := 1, key := key }

/-- SEC_KEY_INSTALL: the key into slot 3 or 4, its PUBKEY setting into the journal, its hash into OTP. -/
def secKeyInstall (p : List Byte) (s : State) : Reply × State :=
  let n := uAt p 0 1
  let key := (p.drop 4).take 97
  let burnt := if n == 3 then s.otp.hash3.isSome else s.otp.hash4.isSome
  if (n != 3 && n != 4) || !zeros p 1 3 then refuse stBadParam s
  else if lifeCycle s != 1 || burnt then refuse stBadState s
  else match journalPut { type := 1, key := settingKey 5 n, payload := key, prio := 5, schema := s.update.schema } s with
    | (false, s1) => (.now stNoResource [], s1)
    | (true, s1) =>
      let h := hashOf 1 key
      ok { s1 with
        otp := if n == 3 then { s1.otp with hash3 := some h } else { s1.otp with hash4 := some h }
        sec := { s1.sec with keys := tset s1.sec.keys n (publicSlot key) } }

/-- SEC_KEY_INSTALL (15 R542, R568). -/
def execSecKeyInstall (c : Cmd) (s : State) : Host.Outcome State Fault Refusal := done (command 0x0E18 101 0 none secKeyInstall c s)

/-! ## Periodic checks (15 R540, R550 to R552) -/

/-- The PUF health check, every 24 h in SPRING or on request: the device keeps the K_ROOT it holds. -/
def doPufHealthCheck (pass : Bool) (errors blocks : Nat) (s : State) : State :=
  if s.power.st != .spring then s
  else
    let s1 := if s.sec.pufAsked then s else runToCyc (s.sec.pufAt + cycMs 86400000) s
    let s2 := undertowLate 10 1 (if s.sec.pufAsked then s1.time.cyc else s.sec.pufAt + cycMs 86400000) <| passDone 10 { s1 with sec := { s1.sec with pufAsked := false, pufAt := s1.time.cyc, pufWorst := satN 100 (100 * errors / 255) } }
    if !pass then raise { code := 0x0E02, sev := 7, src := 5, p0 := errors, p1 := 1 } s2
    else raiseIf (decide (255 < errors * 10)) { code := 0x0E03, sev := 3, src := 5, p0 := errors, p1 := blocks } s2

/-- PUF_HEALTH_CHECK (15 R540). -/
def execPufHealthCheck (pass : Bool) (errors blocks : Nat) (s : State) : Host.Outcome State Fault Refusal := done (doPufHealthCheck pass errors blocks s)

/-- A slot fails its check or meets an uncorrectable error: it is wiped, its descendants REVOKED, and SEC_VAULT_FAULT is raised, with
SEC_KEY_REVOKED where descendants were revoked (15 R547, R548, R551). -/
def vaultFault (n cause : Nat) (s : State) : State :=
  if (slotOf s n).isNone then s
  else
    let d := (descendants s n).length
    raiseIf (d != 0) (evRevoked n d 5) (raise { code := 0x0E06, sev := 4, src := 5, p0 := n, p1 := cause, p2 := d } (wipeSlot n s))

/-- The vault integrity check, every 10 s (15 R551). -/
def doVaultIntegrityCheck (bad : List Nat) (s : State) : State :=
  let s1 := runToCyc (s.sec.vaultAt + cycMs 10000) s
  bad.foldl (fun st n => match slotOf st n with | some k => if k.revoked then st else vaultFault n 0 st | none => st)
    (undertowLate 11 1 (s.sec.vaultAt + cycMs 10000) (passDone 11 { s1 with sec := { s1.sec with vaultAt := s1.time.cyc } }))

/-- VAULT_INTEGRITY_CHECK (15 R551). -/
def execVaultIntegrityCheck (bad : List Nat) (s : State) : Host.Outcome State Fault Refusal := done (doVaultIntegrityCheck bad s)

/-- A health test of the noise source fails: the DRBG stops (15 R550). -/
def doEntropyTestFail (test : Nat) (s : State) : State :=
  raise { code := 0x0E07, sev := 5, src := 5, p0 := test } { s with sec := { s.sec with drbg := false, retestAt := s.time.cyc } }

/-- ENTROPY_TEST_FAIL (15 R550). -/
def execEntropyTestFail (test : Nat) (s : State) : Host.Outcome State Fault Refusal := done (doEntropyTestFail test s)

/-- The retest of each second: 1,024 consecutive good samples reseed and resume the DRBG (15 R550). -/
def doEntropyRetest (good : Nat) (failed : Option Nat) (s : State) : State :=
  if s.sec.drbg then s
  else
    let s1 := runToCyc (s.sec.retestAt + cycMs 1000) s
    let s2 := { s1 with sec := { s1.sec with retestAt := s1.time.cyc } }
    match failed with
    | some t => raise { code := 0x0E07, sev := 5, src := 5, p0 := t } s2
    | none => if 1024 ≤ good then { s2 with sec := { s2.sec with drbg := true } } else s2

/-- ENTROPY_RETEST (15 R550). -/
def execEntropyRetest (good : Nat) (failed : Option Nat) (s : State) : Host.Outcome State Fault Refusal := done (doEntropyRetest good failed s)

/-- A session with no step for 10 s is discarded (15 R552). -/
def doSessionTimeout (id : Nat) (s : State) : State :=
  match sessionOf s id with
  | none => s
  | some x => sessionDrop id (runToCyc (x.cyc + cycMs 10000) s)

/-- SESSION_TIMEOUT (15 R552). -/
def execSessionTimeout (session : Nat) (s : State) : Host.Outcome State Fault Refusal := done (doSessionTimeout session s)

end Sys2Proof.Machine
end

