-- ==== Sys2Proof/Machine/Restart.lean ====
section
/-!
DEFINITION. What a restart keeps (17 R614), what a domain loses and regains (17 R604, R605), entry to SAFE and the fatal faults (17 R610).
-/
namespace Sys2Proof.Machine

/-! ## Restart (17 R614, R615) -/

/-- Slots of the host whose keys a restart loses (15 R544). -/
def volatileSlots (s : State) : List Nat := (s.sec.keys.filter (fun e => decide (8 ≤ e.1) && !bit e.2.flags 0)).map (·.1)

/-- An axis after a restart: its position is in retained SRAM (09 R350, 17 R614); HOMED ends with a full power cycle. -/
def axisKept (por : Bool) (a : Axis) : Axis := if por then {} else { ({} : Axis) with pos := a.pos, target := a.pos, homed := a.homed }

/-- A metering source after a restart: its configuration and, unless VDD_AON was lost, its totals (10 R386, 17 R614). -/
def sourceKept (por : Bool) (c : MSource) : MSource :=
  let c1 := { c with start := none, phi := none, fault := false, badFrom := none, exc := none, sampleAt := 0, revAt := none, count := 0, sum := 0, squares := 0, lineDue := none, after := 0 }
  if por then { c1 with fwd := 0, rev := 0, dRev := false, theta := 0, thetaC := 0, rateMax := 0 } else c1

/-- The state that a restart with a cause leaves for START_UP: OTP and flash stay; retained SRAM and the RTC stay unless VDD_AON was lost;
everything else takes its reset value (17 R614, R615 step 4; log entry 27). -/
def restart (cause : Nat) (s : State) : State :=
  let por := cause == 0
  let r := State.reset
  { r with
    pending := s.pending, out := s.out, freeCtr := s.freeCtr, otp := s.otp
    time := { r.time with rtc := if por then none else if s.recorder.loaded then s.time.rtc.map (fun _ => dtNow s) else s.time.rtc }
    knani := { r.knani with
      loops := s.knani.loops.map (fun l => { ({} : Loop) with phys := l.phys.map (resetNode (dtNow s)) })
      shadow := if por then [] else s.knani.shadow }
    axes := s.axes.map (axisKept por)
    meter := { s.meter with
      src := s.meter.src.map (sourceKept por), raws := r.meter.raws, frame := 0, mask := 0, ring := if por then [] else s.meter.ring, jobs := [], bill := none
      saveAt := 0, lost := if por then 0 else s.meter.lost }
    sec := { r.sec with
      gens := s.sec.gens, log := if por then [] else s.sec.log, alarmed := s.sec.alarmed, logDirty := !por && s.sec.logDirty, wiped := !por && s.sec.wiped
      lostVolatile := s.sec.lostVolatile ++ volatileSlots s }
    update := { r.update with bankA := s.update.bankA, bankB := s.update.bankB, proven := s.update.proven }
    journal := { s.journal with discarded := 0, compacting := false, mirrorOk := !por && s.journal.mirrorOk }
    recorder := { r.recorder with ring := if por then [] else s.recorder.ring, seq := if por then 0 else s.recorder.seq }
    power := { r.power with
      cause := cause, rails := s.power.rails, pwrEn := s.power.pwrEn, tLoss := if por then none else s.power.tLoss, unavailYear := s.power.unavailYear, yearAt := s.power.yearAt - s.time.cyc
      soundings := if por then [] else s.power.soundings, soundSeq := if por then 0 else s.power.soundSeq
      wakeMask := if por then 0 else s.power.wakeMask, wakeEdges := if por then 0 else s.power.wakeEdges, wakeAlarm := if por then 0 else s.power.wakeAlarm } }

/-- The restart that a command ordered, once its completion is written (15 R554, R563, 16 R580). -/
def obeyRestart (s : State) : State := match s.power.restartNow with | some c => restart c s | none => s

/-! ## Domains (17 R604, R605) -/

/-- Every loop is held in wire reset (07 R269, 17 R604). -/
def loopsHeld (s : State) : State := (List.range 16).foldl (fun st n => loopOff n 0 st) s

/-- PD_DRV held without function: loops in wire reset, every AX_n_EN low (17 R604, R610). -/
def driveHeld (s : State) : State := disableAxes (loopsHeld s)

/-- Metering stops at once: no interval stays open. -/
def meterStop (s : State) : State :=
  { s with meter := { s.meter with jobs := [], src := s.meter.src.map (fun c => { c with start := none, phi := none }) } }

/-- A domain is switched off: it loses every non-retained memory it holds (17 R605). Bits as 17 R604. -/
def domainOff (k : Nat) (s : State) : State :=
  match k with
  | 3 => { s with gnss := {} }
  | 4 => { s with pose := {} }
  | 5 => { s with cell := {} }
  | 6 => { s with raster := { dramGiB := s.raster.dramGiB, dramOut := s.raster.dramOut } }
  | 7 =>
    let s1 := driveHeld s
    { s1 with
      knani := { loops := s1.knani.loops.map (fun l => { ({} : Loop) with phys := l.phys }), shadow := s1.knani.shadow }
      axes := s1.axes.map (fun a => { ({} : Axis) with pos := a.pos, target := a.pos, homed := a.homed }) }
  | 8 => meterLeave s
  | 9 => { s with net := {} }
  | 10 => { s with fleet := {} }
  | _ => s

/-- The base reference of the journal takes effect in base role (04 R164, 16 R596). -/
def loadBaseRef (s : State) : State :=
  match setting s (settingKey 2 0) with
  | some r => if roleOf s == 1 then { s with pose := { s.pose with
      baseSt := 2, baseXyz := (iAt r.payload 0 8, iAt r.payload 8 8, iAt r.payload 16 8), baseHeight := uAt r.payload 24 2, baseStation := uAt r.payload 26 2 } } else s
  | none => s

/-- The Vexlink group of the journal (13 R474, 16 R596): which ports run is not part of it. -/
def loadVxGroup (s : State) : State :=
  match setting s (settingKey 3 0) with
  | some r => { s with net := { s.net with group := uAt r.payload 0 1, retryMax := uAt r.payload 1 1, root := (r.payload.drop 3).take 16 } }
  | none => s

/-- The identity records of ID_0 to ID_3 are read (07 R284, 03 R102). -/
def readIdBuses (s : State) : State :=
  (List.range 4).foldl (fun st b => pushId b { op := 1, addr := 0, len := 64 } st) { s with knani := { s.knani with idPart := List.replicate 4 [] } }

/-- A domain is switched on under the start-up rules of that domain (17 R605). -/
def domainOn (k : Nat) (s : State) : State :=
  match k with
  | 3 => restoreFloors s
  | 4 => loadBaseRef s
  | 7 => readIdBuses s
  | 8 => meterReturn s
  | 9 => loadVxGroup s
  | _ => s

/-! ## Power state (17 R606) -/

/-- The power state changes: POWER_STATE_CHANGED, and a debug session ends (17 R606, R628, 15 R567). -/
def setPower (p : Power) (cause : Nat) (s : State) : State :=
  if s.power.st == p then s
  else raise { code := 0x1001, sev := 2, src := 4, p0 := powerCode s.power.st, p1 := powerCode p, p2 := cause }
    { s with power := { s.power with st := p }, sec := { s.sec with debug := 0, debugKey := 0 } }

/-- SAFE is entered: drives held, the other domains off, their memories lost (17 R604, R610, 15 R558); cause 2 tamper, 3 fatal. -/
def enterSafe (cause : Nat) (s : State) : State :=
  let s1 := driveHeld (meterStop s)
  let s2 := [3, 4, 5, 6, 9, 10].foldl (fun st k => domainOff k st) s1
  setPower .safe cause { s2 with power := { s2.power with entering := none } }

/-- SAFE after a fatal fault (17 R610). -/
def fatalSafe (cause : Nat) (s : State) : State := enterSafe 3 { s with power := { s.power with fatal := some cause, fatalNext := none } }

/-- A fatal fault (17 R610): POWER_FATAL, and SAFE; for causes 3 and 4 in SPRING the all-off frame and the stop of every axis at D_STOP come
first. The first cause stays. -/
def fatal (cause param : Nat) (s : State) : State :=
  if s.power.fatal.isSome then s
  else
    let s1 := raise { code := 0x1009, sev := 7, src := 4, p0 := cause, p1 := param } s
    if (cause == 3 || cause == 4) && s.power.st == .spring then
      haltAxes 1 { s1 with power := { s1.power with fatalNext := some (s1.power.fatalNext.getD (cause, s.time.cyc)) } }
    else fatalSafe cause s1

/-- The first boundary after an all-off commit at which no axis moves takes a device with fatal cause 3 or 4 into SAFE (17 R610). -/
def fatalBoundary (s : State) : State :=
  match s.power.fatalNext with
  | some (c, t) => if decide (t + s.cell.lead / 2 ≤ s.time.cyc) && !axesMoving s then fatalSafe c s else s
  | none => s

/-- SAFE after a tamper alarm: every non-retained memory is wiped (15 R558), the state of an update in it; start-up decides the bank (16 R590). -/
def enterTamperSafe (s : State) : State :=
  let s1 := wipeVault s
  enterSafe 2 { s1 with mem := [], update := { s1.update with st := .idle, reversing := none, switched := 0, restartWait := none }
                        power := { s1.power with tamperSafe := true }, sec := { s1.sec with alarmAt := none, challenge := none, ackFrom := none } }

/-! ## NEAP (17 R604, R606, R608) -/

/-- NEAP is left for SPRING (17 R606): the domains return; after an alarm in NEAP the wake lands in SAFE (15 R558). Cause 0 command, 1 wake. -/
def leaveNeap (cause : Nat) (s : State) : State :=
  if s.sec.wiped then enterTamperSafe s
  else
    let s1 := setPower .spring cause s
    let s2 := [4, 7, 8, 9].foldl (fun st k => domainOn k st) (gnssSpring s1)
    vddSet s2.cell.vddCeil { s2 with power := { s2.power with wakeKept := none } }

end Sys2Proof.Machine
end

