-- ==== Sys2Proof/Machine/Update.lean ====
section
/-!
DEFINITION. Firmware update: bundle checks, download, verification, activation, handover, confirmation and revert
(16 R571 to R590, R601 to R603).
-/
namespace Sys2Proof.Machine

/-! ## Banks and bundles (16 R571 to R573) -/

/-- Bank A or B. -/
def bankOf (s : State) (k : Nat) : Bank := if k == 0 then s.update.bankA else s.update.bankB

/-- The inactive bank. -/
def otherBank (s : State) : Nat := 1 - s.update.bank

/-- A bank replaced. -/
def setBank (k : Nat) (b : Bank) (s : State) : State :=
  { s with update := if k == 0 then { s.update with bankA := b } else { s.update with bankB := b } }

/-- Bytes of a bank; what is erased reads as ones. -/
def bankRead (b : Bank) (off n : Nat) : List Byte :=
  let r := (b.bytes.drop off).take n
  r ++ List.replicate (n - r.length) 0xFF

/-- A manifest number (16 R572). The shipped bundle's are free values but for those that decide what it may do: SECURITY_VERSION, SCHEMA and
SCHEMA_READ_MIN are 0 (log entry 3). -/
def bundleField (b : Bank) (off n : Nat) : Nat :=
  if b.factory then (if off == 36 || off == 42 || off == 44 then 0 else Config.shipped off) else natOf (bankRead b off n)

/-- BUNDLE_VERSION (16 R572). -/
def bundleVersion (b : Bank) : Nat := bundleField b 32 4
/-- SECURITY_VERSION (16 R572). -/
def bundleSecurity (b : Bank) : Nat := bundleField b 36 1

/-- OFFSET and LENGTH of an image (16 R573). -/
def imageSpan (b : Bank) (k : Nat) : Nat × Nat := (natOf (bankRead b (56 + 64 * k) 4), natOf (bankRead b (60 + 64 * k) 4))

/-- Two images do not overlap (16 R572). -/
def apart (x y : Nat × Nat) : Bool := decide (x.1 + x.2 ≤ y.1) || decide (y.1 + y.2 ≤ x.1)

/-- The image entries meet R572 and R573. -/
def entriesOk (b : Bank) : Bool :=
  (List.range 6).all (fun k =>
    let o := imageSpan b k
    natOf (bankRead b (48 + 64 * k) 1) == k && natOf (bankRead b (49 + 64 * k) 3) == 0 && o.1 % 4096 == 0 && decide (4096 ≤ o.1) &&
    within 1 8388608 o.2 && decide (o.1 + o.2 ≤ 16777216) && (List.range k).all (fun j => apart (imageSpan b j) o))

/-- The first image whose SHA-384 differs from its HASH (16 R579). -/
def badImage (b : Bank) : Option Nat :=
  (List.range 6).find? (fun k => let o := imageSpan b k; hashOf 1 (bankRead b o.1 o.2) != bankRead b (64 + 64 * k) 48)

/-- Rows 0 to 7 of R579: the cause of the first check that fails, with the image of cause 7. The shipped bundle passes all but the
anti-rollback check (log entry 3). -/
def bundleCheck (s : State) (b : Bank) : Option (Nat × Nat) :=
  if b.factory then (if bundleSecurity b < s.otp.counter then some (5, 0) else none)
  else if natOf (bankRead b 0 4) != 0x4D4E4654 || natOf (bankRead b 4 2) != 1 || natOf (bankRead b 6 2) != 432 then some (0, 0)
  else if !Config.ecVerify 8 (Config.vendorKey 2) (hashOf 1 (bankRead b 0 432)) (bankRead b 432 96) then some (1, 0)
  else if natOf (bankRead b 8 4) != 0x4096 || !bit (natOf (bankRead b 12 1)) 2 then some (2, 0)
  else if natOf (bankRead b 16 16) != 0 && bankRead b 16 16 != uidBytes then some (3, 0)
  else if !bit (natOf (bankRead b 13 1)) (lifeCycle s) then some (4, 0)
  else if bundleSecurity b < s.otp.counter then some (5, 0)
  else if !entriesOk b then some (6, 0)
  else (badImage b).map (fun k => (7, k))

/-- The versions of the six running images (14 R533, 16 R573). -/
def imageVersions (s : State) : List Nat := (List.range 6).map (fun k => bundleField (bankOf s s.update.bank) (52 + 64 * k) 4)

/-! ## Update records (16 R594); each begins with its own order number, which a copy of compaction keeps (log entry 80) -/

/-- An update record of a bank. -/
def updRec (type bank : Nat) (body : List Byte) (s : State) : Bool × State :=
  journalPut { type := type, key := bank, payload := le 4 s.journal.nextSeq ++ body, prio := 3 } s

/-- An update record whose refusal nothing waits for. -/
def updLog (type bank : Nat) (body : List Byte) (s : State) : State := (updRec type bank body s).2

/-- The order number of an update record. -/
def updOrd (r : JRec) : Nat := uAt r.payload 0 4

/-- The update is running in a way that shuts out a new one: a switch, a reversal or a restart is to come. -/
def updBusy (u : UpdateSt) : Bool := u.st == .preparing || u.st == .handover || u.st == .trial || u.reversing.isSome || u.restartWait.isSome

/-! ## Download (16 R577, R578) -/

/-- UPDATE_PACKET_REJECTED (16 R603). -/
def evRejected (cause off received : Nat) : Ev := { code := 0x0F02, sev := 3, p0 := cause, p1 := off, p2 := received }

/-- A packet dropped whole (16 R577, R578): cause 4 is reported at most once in a second of the island's clock. -/
def rejectImage (cause off : Nat) (s0 : State) : State :=
  let s := s0Reject s0
  if cause == 4 then
    if (match s.update.rejAt with | some t => decide (s.time.cyc < t + cycMs 1000) | none => false) then s
    else raise (evRejected 4 off s.update.received) { s with update := { s.update with rejAt := some s.time.cyc } }
  else raise (evRejected cause off s.update.received) s

/-- The cause for which a packet is wrong (16 R577); the last packet need not be a multiple of 4 nor reach 4 bytes (log entry 80). -/
def imageCause (u : UpdateSt) (p : List Byte) : Option Nat :=
  let len := uAt p 4 4
  let last := u.received + len == u.length
  if uAt p 0 4 != u.received then some 0
  else if decide (p.length < 16) || p.length - 16 != len || decide (16384 < len) || decide (u.length < u.received + len) || len == 0 ||
      (!last && (decide (len < 4) || len % 4 != 0)) then some 1
  else if uAt p 8 4 != crc32 (p.drop 16) then some 2
  else if !zeros p 12 4 then some 3
  else none

/-- The oldest IMAGE packet of S_0 is checked and its bytes programmed (16 R577). -/
def doImage (s0 : State) : State :=
  match takeS0 0x1C s0 with
  | none => s0
  | some (q, s) =>
    let p := q.payload
    let u := s.update
    if u.st != .loading then rejectImage 4 (uAt p 0 4) s
    else match imageCause u p with
      | some c => rejectImage c (uAt p 0 4) s
      | none =>
        let k := otherBank s
        let n := u.received + uAt p 4 4
        let s1 : State := setBank k { bytes := (bankOf s k).bytes ++ p.drop 16 } s
        let s2 : State := { s1 with update := { s1.update with received := n } }
        if n == u.length then
          let s3 : State := updLog 0x51 k (le 4 u.length ++ le 4 u.declared) s2
          raise { code := 0x0F01, sev := 1, p0 := k, p1 := u.length, p2 := u.declared } { s3 with update := { s3.update with st := .loaded } }
        else s2

/-- IMAGE (16 R577). -/
def execImage (s : State) : Host.Outcome State Fault Refusal := done (doImage s)

/-- The body of UPDATE_BEGIN (16 R577, R601). -/
def updateBegin (p : List Byte) (s : State) : Reply × State :=
  let len := uAt p 0 4
  let v := uAt p 4 4
  let u := s.update
  if !within 528 16777216 len then refuse stBadParam s
  else if !(u.st == .idle || u.st == .loaded || u.st == .verified) || updBusy u then refuse stBadState s
  else
    let k := otherBank s
    let (okd, s1) := updRec 0x50 k (le 4 len ++ le 4 v) s
    if !okd then refuse stNoResource s1
    else
      let s2 : State := setBank k {} s1
      ok { s2 with update := { s2.update with
        st := .loading, length := len, declared := v, received := 0, proven := s2.update.proven.set k false
        selfTest := List.replicate 6 false, migFailed := false, migrated := false } }

/-- UPDATE_BEGIN (16 R577). -/
def execUpdateBegin (c : Cmd) (s : State) : Host.Outcome State Fault Refusal := done (command 0x0F01 8 0 none updateBegin c s)

/-- The body of UPDATE_ABORT (16 R576, R601). -/
def updateAbort (_ : List Byte) (s : State) : Reply × State :=
  let u := s.update
  if u.st == .loading || u.st == .loaded || u.st == .verified then ok { s with update := { u with st := .idle } } else refuse stBadState s

/-- UPDATE_ABORT (16 R576). -/
def execUpdateAbort (c : Cmd) (s : State) : Host.Outcome State Fault Refusal := done (command 0x0F06 0 0 none updateAbort c s)

/-! ## Verification (16 R579) -/

/-- The body of UPDATE_VERIFY (16 R579, R601). -/
def updateVerify (_ : List Byte) (s : State) : Reply × State :=
  if s.update.st == .loaded then accepted { s with update := { s.update with st := .verifying } } else refuse stBadState s

/-- UPDATE_VERIFY (16 R579). -/
def execUpdateVerify (c : Cmd) (s : State) : Host.Outcome State Fault Refusal := done (command 0x0F02 0 0 none updateVerify c s)

/-- The first check of R579 that a bank fails: rows 0 to 7, then the schema. -/
def verifyBank (s : State) (b : Bank) : Option (Nat × Nat) :=
  match bundleCheck s b with
  | some c => some c
  | none => if s.update.schema < bundleField b 44 2 then some (8, 0) else none

/-- The verification ends (16 R579); after FAILED the state is LOADED (log entry 80). -/
def doVerificationDone (readFail : Option Nat) (s : State) : State :=
  if s.update.st != .verifying then s
  else
    let k := otherBank s
    let b := bankOf s k
    match (match readFail with | some c => some (c, 0) | none => verifyBank s b) with
    | some (c, im) =>
      let s1 : State := updLog 0x53 k (le 1 c) s
      raise { code := 0x0F04, sev := 4, p0 := k, p1 := c, p2 := im } { s1 with update := { s1.update with st := .loaded, cause := c } }
    | none =>
      let s1 : State := updLog 0x52 k (le 4 (bundleVersion b)) s
      raise { code := 0x0F03, sev := 2, p0 := k, p1 := bundleVersion b, p2 := bundleSecurity b } { s1 with update := { s1.update with st := .verified } }

/-- VERIFICATION_DONE (16 R579). -/
def execVerificationDone (readFail : Option Nat) (s : State) : Host.Outcome State Fault Refusal := done (doVerificationDone readFail s)

/-! ## Activation and migration (16 R580 to R582) -/

/-- The running IFV permits a hitless handover (16 R580). -/
def hitlessOk (s : State) : Bool :=
  decide (bundleField (bankOf s (otherBank s)) 40 2 ≤ bundleField (bankOf s s.update.bank) 38 2)

/-- The body of UPDATE_ACTIVATE (16 R580, R581, R590, R601). -/
def updateActivate (p : List Byte) (s : State) : Reply × State :=
  let mode := uAt p 0 1
  let w := uAt p 4 4
  let u := s.update
  if decide (2 < mode) || !zeros p 1 3 || !(w == 0 || within 10 86400 w) then refuse stBadParam s
  else if updBusy u then refuse stBadState s
  else if u.st != .verified then refuse 0x0F80 s
  else if mode == 1 && !hitlessOk s then refuse 0x0F81 s
  else
    let cold := mode == 2 || (mode == 0 && !hitlessOk s)
    let win := if w == 0 then 600 else w
    let (okd, s1) := updRec 0x54 (otherBank s) (le 1 (otherBank s) ++ le 1 u.bank ++ le 1 (if cold then 2 else 1) ++ [0] ++ le 4 win) s
    if !okd then refuse stNoResource s1
    else accepted { s1 with update := { s1.update with
      st := .preparing, cold := cold, window := win, since := s.time.cyc, migrated := false, migFailed := false, switched := 0, reversing := none
      ctrlMoves := 0, selfTest := List.replicate 6 false, restartWait := if cold then some none else none } }

/-- UPDATE_ACTIVATE (16 R580). -/
def execUpdateActivate (c : Cmd) (s : State) : Host.Outcome State Fault Refusal := done (command 0x0F03 8 0 none updateActivate c s)

/-- The settings that migration rewrites for a bundle: per KEY the newest record it reads, where that has a schema below its own
(16 R582). -/
def toMigrate (s : State) (lo hi : Nat) : List JRec :=
  let rs := (jRecs s.journal).filter (fun r => r.type == 1 && r.tagLc == lifeCycle s && decide (lo ≤ r.schema) && decide (r.schema ≤ hi))
  let newest := rs.foldl (fun (l : Tab JRec) r => tset l r.key r) []
  (newest.map (·.2)).filter (fun r => decide (r.schema < hi))

/-- Migration writes each such record at the new schema beside the old one (16 R582): none where all were written, else the record whose
write was refused. -/
def migrate (rs : List JRec) (hi : Nat) (s : State) : Option JRec × State :=
  match rs with
  | [] => (none, s)
  | r :: rest =>
    let (okd, s1) := journalPut { type := 1, key := r.key, schema := hi, payload := r.payload, prio := 5 } s
    if okd then migrate rest hi s1 else (some r, s1)

/-- ABANDONED is written with its cause, and the state is IDLE (16 R581, R586). -/
def abandon (cause : Nat) (s : State) : State :=
  let s1 : State := updLog 0x59 (otherBank s) (le 1 cause) s
  { s1 with update := { s1.update with st := .idle, cause := cause, reversing := none, switched := 0 } }

/-- UPDATE_MIGRATION_FAIL, and the update abandoned (16 R581): on a trial boot the device restarts into the old bank. Causes 5 migration,
6 timeout. -/
def migrationFail (cause key schema target : Nat) (s : State) : State :=
  let trial := s.update.st == .trial
  let s1 : State := if trial then
      let s2 : State := updLog 0x59 s.update.bank (le 1 cause) s
      { s2 with update := { s2.update with st := .idle, cause := cause, restartWait := some (some 5) } }
    else abandon cause s
  raise { code := 0x0F05, sev := 4, p0 := key, p1 := schema, p2 := target } { s1 with update := { s1.update with migFailed := true } }

/-- Settings migration ends (16 R581, R582): before a hitless handover, or on the trial boot of a cold activation. -/
def doMigrated (fail : Option (Nat × Nat)) (s : State) : State :=
  let u := s.update
  let hot := u.st == .preparing && !u.cold && !u.migrated
  let trial := u.st == .trial && u.cold && !u.migrated && !u.migFailed
  if !(hot || trial) then s
  else
    let k := if hot then otherBank s else u.bank
    let b := bankOf s k
    let hi := bundleField b 42 2
    match fail with
    | some (key, sch) => migrationFail 5 key sch hi s
    | none =>
      let (bad, s1) := migrate (toMigrate s (bundleField b 44 2) hi) hi s
      match bad with
      | some r => migrationFail 5 r.key r.schema hi s1
      | none =>
        let s2 : State := updLog 0x55 k [] s1
        { s2 with update := { s2.update with migrated := true, migratedAt := dtNow s2, st := if hot then .handover else s2.update.st
                                             switched := 0, switchAt := dtNow s2 } }

/-- MIGRATED (16 R581). -/
def execMigrated (fail : Option (Nat × Nat)) (s : State) : Host.Outcome State Fault Refusal := done (doMigrated fail s)

/-- PREPARING has lasted 30 s (16 R581); a cold activation waits for its restart instead (16 R590). -/
def doPreparingTimeout (s : State) : State :=
  let u := s.update
  if u.st != .preparing || u.cold || u.migrated then s
  else migrationFail 6 0 0 (bundleField (bankOf s (otherBank s)) 42 2) (runToCyc (u.since + cycMs 30000) s)

/-- PREPARING_TIMEOUT (16 R581). -/
def execPreparingTimeout (s : State) : Host.Outcome State Fault Refusal := done (doPreparingTimeout s)

/-! ## Handover (16 R583 to R586) -/

/-- The first tide boundary after an instant. -/
def boundaryAfter (s : State) (t : Nat) : Nat := (t / tideP s + 1) * tideP s

/-- The next measurement epoch at or after an instant (03 R120). -/
def epochFrom (t : Nat) : Nat := padTo (10 * ms1) t

/-- The instant of the next switch (16 R583): 0 SEC, 1 tile, 2 NAV, 3 RAD, 4 CTRL, 5 SAFE. A switch that moves waits for the boundary after
the one it moved from, which `switchAt` then holds. -/
def switchInstant (s : State) : Nat :=
  let u := s.update
  match u.switched with
  | 0 => max (padTo (tideP s) (u.migratedAt + 10 * ms1)) (if u.migratedAt < u.switchAt then boundaryAfter s u.switchAt else 0)
  | 2 => epochFrom (boundaryAfter s u.switchAt)
  | 3 =>
    if s.fleet.st == .off then boundaryAfter s u.switchAt
    else
      let sf := ms1 * s.fleet.sfMs
      let t := u.switchAt / max sf 1 * sf + sf / 80 * 79
      if t ≤ u.switchAt then t + sf else t
  | _ => boundaryAfter s u.switchAt

/-- A stop has been registered for a boundary (16 R585, 01 R44): it came within the tide that the boundary ends. -/
def stopDue (s : State) (t : Nat) : Bool :=
  let d := diffN 32 (stOf t) s.stop.regSt
  stopInForce s && decide (0 ≤ d) && decide (d ≤ (tideP s / 2 ^ 14 : Nat))

/-- UPDATE_REVERTED (16 R603). -/
def evReverted (bank cause version : Nat) : Ev := { code := 0x0F0A, sev := 3, p0 := bank, p1 := cause, p2 := version }

/-- A reversal of the handover is complete (16 R586, R588): causes 3 and 4 abandon the update, 0 and 2 revert the trial. -/
def reversed (c : Nat) (s : State) : State :=
  let v := bundleVersion (bankOf s (if c == 0 || c == 2 then s.update.bank else otherBank s))
  if c == 0 || c == 2 then
    let old := otherBank s
    let b := bankOf s old
    let s1 : State := updLog 0x58 s.update.bank (le 1 c) s
    raise (evReverted old c v) { s1 with update := { s1.update with
      st := .idle, cause := c, bank := old, reversing := none, switched := 0, schema := bundleField b 42 2, schemaMin := bundleField b 44 2 } }
  else raise (evReverted s.update.bank c v) (abandon c s)

/-- The handover runs backwards from here on; with nothing switched it is over at once. -/
def reverseFrom (c : Nat) (s : State) : State :=
  if s.update.switched == 0 then reversed c s
  else { s with update := { s.update with st := .handover, reversing := some c, switchAt := dtNow s } }

/-- The SAFE switch is complete: UPDATE_HANDOVER_DONE, and TRIAL (16 R583). -/
def enterTrial (t : Nat) (s : State) : State :=
  let k := otherBank s
  let b := bankOf s k
  raise { code := 0x0F06, sev := 2, p0 := k, p1 := (t - s.update.handFrom) / us1 % 2 ^ 32, p2 := (tideAt s t).getD 0 }
    { s with update := { s.update with
      st := .trial, bank := k, since := s.time.cyc, schema := bundleField b 42 2, schemaMin := bundleField b 44 2 } }

/-- One processor reaches its switch instant (16 R583 to R586). -/
def doHandoverSwitch (accepts busy : Bool) (s0 : State) : State :=
  let u := s0.update
  if u.st != .handover || u.reversing.isSome || decide (6 ≤ u.switched) then s0
  else
    let t := switchInstant s0
    let s := runTo t s0
    if t % tideP s == 0 && stopDue s t then { s with update := { u with switchAt := t } }
    else if u.switched == 4 && busy then
      let s1 : State := { s with update := { u with switchAt := t, ctrlMoves := u.ctrlMoves + 1 } }
      if 100 ≤ u.ctrlMoves + 1 then reverseFrom 4 s1 else s1
    else if !accepts then reverseFrom 3 s
    else
      let s1 : State := { s with update := { u with switched := u.switched + 1, switchAt := t, handFrom := if u.switched == 0 then t else u.handFrom } }
      if u.switched == 5 then enterTrial t s1 else s1

/-- HANDOVER_SWITCH (16 R583). -/
def execHandoverSwitch (accepts busy : Bool) (s : State) : Host.Outcome State Fault Refusal := done (doHandoverSwitch accepts busy s)

/-- One processor returns to its old image, at the next boundary (16 R586, R588). -/
def doHandoverReversal (s0 : State) : State :=
  match s0.update.reversing with
  | none => s0
  | some c =>
    let t := boundaryAfter s0 s0.update.switchAt
    let s := runTo t s0
    let s1 : State := { s with update := { s.update with switched := s.update.switched - 1, switchAt := t } }
    if s1.update.switched == 0 then reversed c s1 else s1

/-- HANDOVER_REVERSAL (16 R586). -/
def execHandoverReversal (s : State) : Host.Outcome State Fault Refusal := done (doHandoverReversal s)

/-! ## Confirmation and revert (16 R587, R588) -/

/-- The conditions of R580 for a restart hold. -/
def restartReady (s : State) : Bool := engineIdle s && !jobBusy s

/-- A trial reverts: after a hitless activation by a reversal, after a cold one by a restart (16 R588). -/
def revert (c : Nat) (s : State) : State :=
  if s.update.cold then
    let s1 : State := updLog 0x58 s.update.bank (le 1 c) s
    raiseIf (!restartReady s) { code := 0x0F0B, sev := 2, p0 := c } { s1 with update := { s1.update with st := .idle, cause := c, restartWait := some (some c) } }
  else reverseFrom c s

/-- CONFIRM_WINDOW expires in TRIAL (16 R588). -/
def doConfirmWindow (s : State) : State :=
  let u := s.update
  if u.st != .trial then s else revert 0 (runToCyc (u.since + cycMs (1000 * u.window)) s)

/-- CONFIRM_WINDOW (16 R588). -/
def execConfirmWindow (s : State) : Host.Outcome State Fault Refusal := done (doConfirmWindow s)

/-- UPDATE_REVERT (16 R588). -/
def execUpdateRevert (c : Cmd) (s : State) : Host.Outcome State Fault Refusal :=
  done (command 0x0F05 0 0 none (fun _ s => if s.update.st == .trial then accepted (revert 2 s) else refuse stBadState s) c s)

/-- At the next tide boundary a waiting restart is made where the conditions of R580 hold (16 R580, R588). -/
def doUpdateRestart (s : State) : State :=
  match s.update.restartWait with
  | none => s
  | some c =>
    if !restartReady s then s
    else
      let s1 := runTo (nextBoundary s) s
      match c with
      | none => restart 4 s1
      | some r => restart 4 (raise (evReverted (otherBank s1) r (bundleVersion (bankOf s1 s1.update.bank))) s1)

/-- UPDATE_RESTART (16 R580). -/
def execUpdateRestart (s : State) : Host.Outcome State Fault Refusal := done (doUpdateRestart s)

/-- The counter is burnt up to a bundle's SECURITY_VERSION, with its events (16 R574, R575, R587). -/
def burnCounter (burnOk : Bool) (sv : Nat) (s : State) : State :=
  if sv ≤ s.otp.counter then s
  else if burnOk then
    raise { code := 0x0F08, sev := 2, src := 5, p0 := s.otp.counter, p1 := sv } { s with otp := { s.otp with counter := sv } }
  else raise { code := 0x0F09, sev := 5, src := 5, p0 := s.otp.counter, p1 := sv } s

/-- The body of UPDATE_CONFIRM (16 R587, R601). -/
def updateConfirm (burnOk : Bool) (_ : List Byte) (s : State) : Reply × State :=
  let u := s.update
  if u.migFailed then refuse stMigrationFail s
  else if u.st != .trial then refuse stBadState s
  else if !u.selfTest.all id then refuse 0x0F82 s
  else
    let b := bankOf s u.bank
    let (okd, s1) := updRec 0x57 u.bank (le 1 (bundleSecurity b) ++ le 4 (bundleVersion b)) s
    if !okd then refuse stNoResource s1
    else
      let after := if burnOk then max s.otp.counter (bundleSecurity b) else s.otp.counter
      let s2 : State := raise { code := 0x0F07, sev := 2, p0 := u.bank, p1 := bundleVersion b, p2 := after }
        { s1 with update := { s1.update with st := .idle, proven := s1.update.proven.set u.bank true, restartWait := none } }
      ok (burnCounter burnOk (bundleSecurity b) s2)

/-- UPDATE_CONFIRM (16 R587). -/
def execUpdateConfirm (burnOk : Bool) (c : Cmd) (s : State) : Host.Outcome State Fault Refusal :=
  done (command 0x0F04 0 0 none (updateConfirm burnOk) c s)

/-- Every new image reports its self-test passed (16 R587). -/
def doSelfTestPassed (s : State) : State :=
  if s.update.st == .trial then { s with update := { s.update with selfTest := List.replicate 6 true } } else s

/-- SELF_TEST_PASSED (16 R587). -/
def execSelfTestPassed (s : State) : Host.Outcome State Fault Refusal := done (doSelfTestPassed s)

/-- State code of UPDATE_STATUS (16 R601). -/
def updCode : UpdSt → Nat
  | .idle => 0
  | .loading => 1
  | .loaded => 2
  | .verifying => 3
  | .verified => 4
  | .preparing => 5
  | .handover => 6
  | .trial => 7

/-- Seconds left in CONFIRM_WINDOW, rounded up; 0 outside TRIAL (16 R601). -/
def windowLeft (s : State) : Nat :=
  if s.update.st == .trial then ceilDiv (s.update.since + cycMs (1000 * s.update.window) - s.time.cyc) (cycMs 1000) else 0

/-- The result of UPDATE_STATUS (16 R601). -/
def updateStatusBytes (s : State) : List Byte :=
  let u := s.update
  le 1 (updCode u.st) ++ le 1 u.bank ++ le 1 s.otp.counter ++ le 1 u.cause ++ le 4 u.received ++ le 4 (bundleVersion (bankOf s (otherBank s))) ++
    le 4 (windowLeft s)

/-- UPDATE_STATUS (16 R601). -/
def execUpdateStatus (c : Cmd) (s : State) : Host.Outcome State Fault Refusal :=
  done (command 0x0F07 0 16 none (fun _ s => okWith (updateStatusBytes s) s) c s)

end Sys2Proof.Machine
end

