-- ==== Sys2Proof/Machine/Tide.lean ====
section
/-!
DEFINITION. The tide boundary, the tide period and the loss of REF_IN (02 R53, R64, R78 to R83, R94, 14 R505, 17 R625).
-/
namespace Sys2Proof.Machine

/-! ## The vote (14 R505) -/

/-- What a comparison of the three copies gives: the field, the copy it rewrote, and whether all three differ. -/
def voteField (v : Voted) : Voted × Option Nat × Bool :=
  if v.c0 == v.c1 && v.c1 == v.c2 then (v, none, false)
  else if v.c0 == v.c1 then ({ v with c2 := v.c0, corrections := (v.corrections + 1) % 2 ^ 32 }, some 2, false)
  else if v.c0 == v.c2 then ({ v with c1 := v.c0, corrections := (v.corrections + 1) % 2 ^ 32 }, some 1, false)
  else if v.c1 == v.c2 then ({ v with c0 := v.c1, corrections := (v.corrections + 1) % 2 ^ 32 }, some 0, false)
  else (v, none, true)

/-- The events of a comparison of field `k` (14 R534), and SAFE where the vote fails (17 R610 cause 4). -/
def voteEvents (k : Nat) (v : Voted) (r : Voted × Option Nat × Bool) (s : State) : State :=
  let s1 : State := match r.2.1 with
    | some c => raise { code := 0x0102, sev := 3, p0 := k, p1 := c, p2 := r.1.value } s
    | none => s
  if r.2.2 && !s1.votes.failed then
    let s2 : State := raise { code := 0x0103, sev := 7, src := 4, p0 := k, p1 := 65536 * v.c0 + v.c1, p2 := 65536 * v.c2 + v.safe } s1
    fatal 4 k { s2 with votes := { s2.votes with failed := true } }
  else s1

/-- The five triplicated fields are compared and corrected (14 R505). -/
def voteCompare (s : State) : State :=
  let v := s.votes
  let r0 := voteField v.role
  let r1 := voteField v.lifeCycle
  let r2 := voteField v.stopCfg
  let r3 := voteField v.domains
  let r4 := voteField v.tide
  let s1 : State := { s with votes := { v with role := r0.1, lifeCycle := r1.1, stopCfg := r2.1, domains := r3.1, tide := r4.1 } }
  voteEvents 4 v.tide r4 (voteEvents 3 v.domains r3 (voteEvents 2 v.stopCfg r2 (voteEvents 1 v.lifeCycle r1 (voteEvents 0 v.role r0 s1))))

/-! ## The boundary (02 R83) -/

/-- Requesters that share a rotating pointer, in the order of R38, and the 16 mailboxes (01 R37, R38, 14 R519). -/
def pointerSizes : List Nat := [16, 1, 1, 1, 20, 64, 3, 1, 64, 16]

/-- Every rotating pointer advances by one position (01 R37). -/
def advancePointers (l : List Nat) : List Nat := List.zipWith (fun p n => (p + 1) % n) l pointerSizes

/-- The tide that a boundary closes was unavailable: late, in CELL_LATE_RUN, or in SAFE after fatal causes 0 to 4 (17 R625). -/
def tideUnavailable (s : State) : Bool :=
  (s.cell.decided && jobOpen s && s.cell.gateAt.isNone) || s.cell.lateRun ||
  (s.power.st == .safe && (match s.power.fatal with | some c => decide (c ≤ 4) | none => false))

/-- A year of operation in island cycles: 365.25 days (17 R625). -/
def yearCycles : Int := 31557600 * 500000000

/-- The count of unavailable tides; that of the year begins again with each year of operation (17 R625, R627). -/
def countUnavailable (s0 : State) : State :=
  let s := if s0.power.yearAt + yearCycles ≤ s0.time.cyc then { s0 with power := { s0.power with unavailYear := 0, yearAt := s0.power.yearAt + yearCycles } } else s0
  if tideUnavailable s then
    { s with power := { s.power with unavail := (s.power.unavail + 1) % 2 ^ 32, unavailYear := (s.power.unavailYear + 1) % 2 ^ 32 } }
  else s

/-- The cell engine starts a tide with nothing evaluated (05 R171, R202, R215). -/
def cellTide (c : CellSt) : CellSt :=
  { engineConfigNext c with
    lead := c.leadNext.getD c.lead, leadNext := none, armed := false, batches := [], evaled := [], results := [], packed := [], gateAt := none
    decided := false, allOff := !c.nextOn }

/-- Raster and cell engine at a boundary, before the pose reference, which is issued in the frame of the job that opens (04 R137, 06 R220, R222). -/
def openBoundary (t : Nat) (s : State) : State :=
  let s1 := if domainUp s 6 then rasterBoundary t s else s
  if !jobOpen s && jobOpen s1 then cellJobOpen s1 else s1

/-- Raster and cell engine once the pose reference is held: the residency set, and the graph of a pose master's tide is armed (05 R202, 06 R244). -/
def workBoundary (t : Nat) (s : State) : State :=
  let s1 := if domainUp s 6 then residencyBoundary t s else s
  if jobOpen s1 && domainUp s1 5 && !isFollower s1 then armCells s1 else s1

/-- Corrected errors counted since a memory's last report are reported once its hour is over (17 R618). -/
def eccReports (s : State) : State :=
  (List.range 6).foldl (fun (st : State) k =>
    let p := st.power
    let n := p.eccHour.getD k 0
    match p.eccAt.getD k none with
    | some c =>
      if n != 0 && decide (c + cycMs 3600000 ≤ st.time.cyc) then
        raise { code := 0x1006, sev := 0, src := 1, p0 := k, p1 := n, p2 := p.eccAddr.getD k 0 }
          { st with power := { p with eccHour := lmod p.eccHour k (fun _ => 0), eccAt := lmod p.eccAt k (fun _ => some st.time.cyc) } }
      else st
    | none => st) s

/-- The next tide boundary (02 R83): time runs to it, the pointers advance, and every unit does what its chapter says. A stop that stands is sent on before
the pose reference (01 R38). -/
def doTideBoundary (s0 : State) : State :=
  if !(s0.power.st == .spring || s0.power.st == .neap || s0.power.st == .safe) then s0
  else
    let t := nextBoundary s0
    let s := countUnavailable (runTo t s0)
    let s1 : State := { s with time := { s.time with
      lastBoundary := some t, tideNo := (tideAt s t).getD 0, pointers := advancePointers s.time.pointers }, cell := cellTide s.cell }
    let s2 := stopTide (voteCompare s1)
    let s2a := openBoundary t s2
    let s3 := if domainUp s2a 4 then poseBoundary t s2a else s2a
    let s4 := workBoundary t s3
    let s5 := netTide (if domainUp s4 7 then knaniBoundary s4 else s4)
    fatalBoundary (eccReports (stepAtBoundary (extendPlans t s5)))

/-- TIDE_BOUNDARY (02 R83). -/
def execTideBoundary (s : State) : Host.Outcome State Fault Refusal := done (doTideBoundary s)

/-! ## The tide period (02 R80) -/

/-- The accepted period takes effect at its whole second (02 R80, R94, 07 R279). -/
def doTidePeriodChange (s0 : State) : State :=
  match s0.time.newPeriod with
  | none => s0
  | some (code, sec) =>
    let s := runTo (sec1 * sec) s0
    let s1 : State := knaniPeriodTaken { s with votes := { s.votes with tide := s.votes.tide.write code }, time := { s.time with newPeriod := none } }
    let n := (tideAt s1 (dtNow s1)).getD 0
    raise { code := 0x0210, sev := 1, p0 := code, p1 := n, p2 := 0 } { s1 with time := { s1.time with tideNo := n } }

/-- TIDE_PERIOD_CHANGE (02 R80). -/
def execTidePeriodChange (s : State) : Host.Outcome State Fault Refusal := done (doTidePeriodChange s)

/-- The body of TIME_TIDE_CONFIG (02 R80, R90, 07 R279, 11 R404). -/
def timeTideConfig (p : List Byte) (s : State) : Reply × State :=
  let code := uAt p 0 1
  if 8 < code then refuse stBadParam s
  else if jobBusy s || anyCellOn s || manualRuns s || axesMoving s || !engineIdle s ||
      (s.fleet.st != .off && ms1 * s.fleet.sfMs % periodOf code != 0) then refuse stBadState s
  else ok (knaniPeriodAccepted code { s with time := { s.time with newPeriod := some (code, dtNow s / sec1 + 1) } })

/-- TIME_TIDE_CONFIG (02 R80). -/
def execTimeTideConfig (c : Cmd) (s : State) : Host.Outcome State Fault Refusal := done (command 0x0208 1 0 none timeTideConfig c s)

/-! ## REF_IN (02 R53) -/

/-- REF_IN is declared lost (02 R53): both domains free-run, every axis stops; the all-off frame follows at the next commit. -/
def doRefLost (cause : Nat) (s : State) : State :=
  if s.time.refLost then s
  else
    let s1 : State := raise { code := 0x0207, sev := 5, p0 := cause } { s with time := { s.time with refLost := true, refFrom := none, tqSet := none }, gnss := { s.gnss with recordDue := false } }
    haltAxes 3 (enterFreerun 1 1 (enterFreerun 0 1 s1))

/-- REF_LOST (02 R53). -/
def execRefLost (cause : Nat) (s : State) : Host.Outcome State Fault Refusal := done (doRefLost cause s)

end Sys2Proof.Machine
end

