-- ==== Sys2Proof/Machine/HostLate.lean ====
section
/-!
DEFINITION. The parts of Harbour that reach into other chapters' objects: the indirect window, RESET_REQ, DOMAIN_EN, SYS_INFO (14 R507 to R509, R533,
17 R605).
-/
namespace Sys2Proof.Machine

/-! ## The indirect window (14 R508, R509) -/

/-- An address lies in a mailbox area of quad-SPI mode. -/
def inMailbox (s : State) (a : Nat) : Bool := s.harbour.quadSpi && decide (0x01000000 ≤ a) && decide (a < 0x01020000)

/-- The word at an indirect address; a reserved location reads as zero (14 R508, R509). -/
def indWord (s : State) (a : Nat) : Nat :=
  if inMailbox s a then natOf (memGets s.mem a 4)
  else if decide (0x03000000 ≤ a) && decide (a < 0x04000000) then gnssReg s (a - 0x03000000) % 2 ^ 32
  else if decide (0x04000000 ≤ a) && decide (a < 0x04040000) then uAt (cellEntry s ((a - 0x04000000) / 64)) (a % 64) 4
  else if decide (0x05000000 ≤ a) && decide (a < 0x05020000) then uAt (entryBytes (tget (corLive s) ((a - 0x05000000) / 32))) (a % 32) 4
  else 0

/-- IND_ADDR after an access (14 R508). -/
def indNext (h : HarbourSt) : HarbourSt := if h.autoInc then { h with indAddr := h.indAddr + 4 } else h

/-- The latch of the aligned block that an access at an address meets: kept within its block, lost outside it (14 R508). -/
def latchAt (h : HarbourSt) (a : Nat) : Option (Nat × List Word) :=
  match h.indLatch with | some (b, w) => if b == a / 64 then some (b, w) else none | none => none

/-- IND_DATA is read: the first word of a block latches the block (14 R508). -/
def indRead (s : State) : State :=
  if !s.harbour.ready then { s with harbour := { s.harbour with readData := 0 } }
  else
    let a := s.harbour.indAddr.toNat / 4 * 4
    let l := if a % 64 == 0 then some (a / 64, (List.range 16).map (fun k => BitVec.ofNat 32 (indWord s (a + 4 * k)))) else latchAt s.harbour a
    let v := match l with | some (_, w) => w.getD (a % 64 / 4) 0 | none => BitVec.ofNat 32 (indWord s a)
    { s with harbour := indNext { s.harbour with indLatch := l, readData := v } }

/-- IND_DATA_READ (14 R508). -/
def execIndDataRead (s : State) : Host.Outcome State Fault Refusal := done (indRead s)

/-- IND_DATA is written: only the mailbox areas are writable (14 R508, R509). -/
def indWrite (v : Word) (s : State) : State :=
  let a := s.harbour.indAddr.toNat / 4 * 4
  let s1 : State := if inMailbox s a then { s with mem := memPuts s.mem a (le 4 v.toNat) } else s
  { s1 with harbour := indNext { s1.harbour with indLatch := latchAt s1.harbour a } }

/-- IND_DATA_WRITE (14 R508). -/
def execIndDataWrite (v : Word) (s : State) : Host.Outcome State Fault Refusal := done (barWrite (indWrite v) s)

/-! ## RESET_REQ (14 R507) -/

/-- The boundary at which an all-off frame requested now latches (05 R174). -/
def latchBoundary (s : State) : Nat :=
  let b := nextBoundary s
  if dtNow s + ns1 * s.cell.lead ≤ b then b else b + tideP s

/-- RESET_REQ takes a value: 1 waits for idle, 2 forces everything off and stops the axes, 0 cancels; others have no effect (14 R507). -/
def resetRequest (v : Nat) (s : State) : State :=
  let h := s.harbour
  if v == 1 then { s with harbour := { h with resetReq := 1, resetLatchAt := none } }
  else if v == 2 then haltAxes 0 { s with harbour := { h with resetReq := 2, resetLatchAt := some (latchBoundary s) } }
  else if v == 0 then { s with harbour := { h with resetReq := 0, resetLatchAt := none } }
  else s

/-- The complement of RESET_REQ is written (14 R506, R507). -/
def doResetReq (x : Word) (s : State) : State :=
  match pairComplement 0x2008 x s with | (none, s1) => s1 | (some v, s1) => resetRequest v.toNat s1

/-- RESET_REQ_IDLE (14 R507). -/
def execResetReqIdle (x : Word) (s : State) : Host.Outcome State Fault Refusal := done (doResetReq x s)
/-- RESET_REQ_ALL_OFF (14 R507). -/
def execResetReqAllOff (x : Word) (s : State) : Host.Outcome State Fault Refusal := done (doResetReq x s)
/-- RESET_REQ_CANCEL (14 R507). -/
def execResetReqCancel (x : Word) (s : State) : Host.Outcome State Fault Refusal := done (doResetReq x s)

/-- A pending restart whose conditions hold is made, after SYS_RESTART (14 R507, R534): request 2 at the first boundary at which the all-off
frame has latched and every axis stands still. -/
def doSysRestart (s : State) : State :=
  let h := s.harbour
  let ev : Ev := { code := 0x0109, sev := 2, src := 4, p0 := h.resetReq }
  if h.resetReq == 1 then
    if (engineIdle s && !jobBusy s) || s.power.fatal.isSome then restart 2 (raise ev s) else s
  else if h.resetReq == 2 then
    match h.resetLatchAt with
    | none => s
    | some t => if axesMoving s then s else restart 2 (raise ev (runTo (if t < dtNow s then nextBoundary s else t) s))
  else s

/-- SYS_RESTART (14 R507). -/
def execSysRestart (s : State) : Host.Outcome State Fault Refusal := done (doSysRestart s)

/-! ## DOMAIN_EN (14 R507, 17 R605) -/

/-- A pose master with a follower: group role MASTER with a port that is up (17 R605; log entry 29). -/
def masterWithFollower (s : State) : Bool := s.net.group == 1 && s.net.vx.any (fun p => p.st == .up)

/-- A value of DOMAIN_EN is refused (17 R605). -/
def domainRefused (v : Nat) (s : State) : Bool :=
  let clear := fun (k : Nat) => !bit v k
  let base := roleOf s == 1
  clear 0 || clear 1 || clear 2 || clear 11 ||
  (!base && (clear 5 || clear 6) && jobBusy s) ||
  ((clear 3 || clear 4) && (jobBusy s || masterWithFollower s || s.pose.baseSt == 2)) ||
  (clear 7 && (s.knani.loops.any (fun l => l.st != 0) || s.axes.any (fun a => a.st != .disabled))) ||
  (clear 8 && s.meter.bill.isSome) ||
  (clear 9 && [s.time.a.source, s.time.b.source].any (fun k => k == 4 || k == 5 || k == 6)) ||
  (clear 10 && s.fleet.st != .off)

/-- The complement of DOMAIN_EN is written: the value waits for the next boundary, or is refused (14 R507, 17 R605). -/
def doDomainEn (x : Word) (s : State) : State :=
  match pairComplement 0x2010 x s with
  | (none, s1) => s1
  | (some w, s1) =>
    let v := w.toNat % 4096
    if domainRefused v s1 then pairMismatch 0x2010 4 s1 else { s1 with harbour := { s1.harbour with domainNext := some v } }

/-- DOMAIN_EN (14 R507). -/
def execDomainEn (x : Word) (s : State) : Host.Outcome State Fault Refusal := done (doDomainEn x s)

/-- Domains 3 to 10 follow a new value; in base role bits 5 and 6 are ignored (17 R605). -/
def domainsFollow (old new : Nat) (s : State) : State :=
  ([3, 4, 5, 6, 7, 8, 9, 10].filter (fun k => roleOf s == 0 || (k != 5 && k != 6))).foldl (fun (st : State) k =>
    if bit old k && !bit new k then domainOff k st else if !bit old k && bit new k then domainOn k st else st) s

/-- At the next tide boundary, in SPRING, a value of DOMAIN_EN takes effect (17 R605). -/
def doDomainApply (s : State) : State :=
  match s.harbour.domainNext with
  | none => s
  | some v =>
    if s.power.st != .spring then s
    else
      let s1 := runTo (nextBoundary s) s
      let old := s1.votes.domains.value
      domainsFollow old v { s1 with votes := { s1.votes with domains := s1.votes.domains.write v }, harbour := { s1.harbour with domainNext := none } }

/-- DOMAIN_EN_APPLY (17 R605). -/
def execDomainEnApply (s : State) : Host.Outcome State Fault Refusal := done (doDomainApply s)

/-! ## SYS_INFO (14 R533) -/

/-- The result of SYS_INFO (14 R533). -/
def sysInfoBytes (s : State) : List Byte :=
  (imageVersions s).flatMap (le 4) ++ le 1 s.update.bank ++ le 1 (roleOf s) ++ le 1 (lifeCycle s) ++ le 1 (b1 s.harbour.quadSpi) ++ le 4 (s.time.cyc / 500000000)

/-- SYS_INFO (14 R533). -/
def execSysInfo (c : Cmd) (s : State) : Host.Outcome State Fault Refusal :=
  done (command 0x0101 0 32 none (fun _ s => okWith (sysInfoBytes s) s) c s)

end Sys2Proof.Machine
end

