-- ==== Sys2Proof/Machine/Journal.lean ====
section
/-!
DEFINITION. The Shingle journal: what stays live, compaction, and its commands (16 R591 to R601).
-/
namespace Sys2Proof.Machine

/-! ## What stays live (16 R594) -/

/-- A record of the same TYPE (and, where `keyed`, KEY) newer than this one. -/
def newerOf (keyed : Bool) (r q : JRec) : Bool :=
  q.type == r.type && (!keyed || q.key == r.key) && decide (0 < diffN 32 q.seq r.seq)

/-- A record is the newest of its TYPE, or of its TYPE and KEY. -/
def isNewest (rs : List JRec) (keyed : Bool) (r : JRec) : Bool := !rs.any (newerOf keyed r)

/-- Fewer than `n` records that a test admits are newer. -/
def amongNewest (rs : List JRec) (n : Nat) (p : JRec → Bool) (r : JRec) : Bool :=
  decide ((rs.filter (fun q => p q && q.type == r.type && decide (0 < diffN 32 q.seq r.seq))).length < n)

/-- A DELETE names a record's TYPE and KEY (16 R594). -/
def deletes (d r : JRec) : Bool := d.type == 2 && d.key == 65536 * r.type + r.key % 65536 && decide (0 < diffN 32 d.seq r.seq)

/-- An EVENT record of severity SAFETY. -/
def safetyRec (r : JRec) : Bool := uAt r.payload 2 1 / 32 == 7

/-- A schema is readable by a bank's bundle (16 R582, R594). -/
def readableBy (b : Bank) (schema : Nat) : Bool := decide (bundleField b 44 2 ≤ schema) && decide (schema ≤ bundleField b 42 2)

/-- A record stays live (16 R594) among all the records of the journal whose TAG verifies. -/
def liveIn (s : State) (rs : List JRec) (r : JRec) : Bool :=
  match r.type with
  | 0x01 => (readableBy s.update.bankA r.schema || readableBy s.update.bankB r.schema) &&
      !rs.any (fun q => q.type == 1 && q.key == r.key && q.schema == r.schema && decide (0 < diffN 32 q.seq r.seq)) && !rs.any (fun d => deletes d r)
  | 0x02 => rs.any (fun q => deletes r q)
  | 0x10 => isNewest rs true r && !rs.any (fun d => deletes d r)
  | 0x20 => isNewest rs false r
  | 0x21 => isNewest rs false r && rs.all (fun q => q.type != 0x20 || decide (diffN 32 q.seq r.seq ≤ 0))
  | 0x22 => amongNewest rs 256 (fun _ => true) r
  | 0x23 => amongNewest rs 256 (fun _ => true) r
  | 0x24 => !rs.any (fun q => q.type == 0x23 && q.key == r.key)
  | 0x30 => if safetyRec r then amongNewest rs 4096 safetyRec r else amongNewest rs 1024 (fun q => !safetyRec q) r
  | 0x31 => isNewest rs true r
  | 0x40 => isNewest rs false r && !rs.any (fun d => deletes d r)
  | 0x41 => isNewest rs false r
  | _ => decide ((rs.filter (fun q => q.type == 0x50 && decide (0 < diffN 32 (updOrd q) (updOrd r)))).length ≤ 1)

/-- The records of the journal whose TAG verifies (16 R593). -/
def soundRecs (s : State) : List JRec := (jRecs s.journal).filter (fun r => r.tagLc == lifeCycle s)

/-- The live records of the journal, oldest first. -/
def liveRecs (s : State) : List JRec := let rs := soundRecs s; rs.filter (liveIn s rs)

/-! ## Compaction (16 R597 to R600) -/

/-- Every ERASE_COUNT of the region (16 R591). -/
def eraseCounts (j : JournalSt) : List Nat := j.segs.map (·.erases) ++ j.erased.map (·.2)

/-- The segment that compaction takes (16 R597, R598): the oldest that holds a record no longer live; the oldest of all where its
ERASE_COUNT lags the highest by more than 1,000; never the head. -/
def compactTarget (s : State) : Option JSeg :=
  let live := liveRecs s
  let body := s.journal.segs.dropLast
  let top := (eraseCounts s.journal).foldl max 0
  match body with
  | [] => none
  | o :: _ => if o.erases + 1000 < top then some o else body.find? (fun g => g.recs.any (fun r => !live.contains r))

/-- JOURNAL_RECORD_BAD for the records of a segment whose TAG fails; they are discarded (16 R593). -/
def discardBad (g : JSeg) (s : State) : State :=
  let bad := g.recs.filter (fun r => r.tagLc != lifeCycle s)
  raises (bad.map (fun r => { code := 0x0F0E, sev := 3, p0 := r.type, p1 := r.seq, p2 := 0 }))
    { s with journal := { s.journal with discarded := (s.journal.discarded + bad.length) % 2 ^ 32 } }

/-- A program or an erase fails its read-back (16 R600): cause 1 program, 2 erase. -/
def journalFault (cause seg : Nat) (s : State) : State :=
  raiseIf (!s.journal.refusing) { code := 0x0F10, sev := 4, p0 := cause, p1 := seg, p2 := 6 }
    { s with journal := { s.journal with refusing := true, progFault := true } }

/-- One segment is compacted, where fewer than 16 are erased or JOURNAL_COMPACT asked (16 R597): its live records go to the head as new
records, then it is erased. -/
def doCompaction (eraseOk progOk : Bool) (s : State) : State :=
  if !(s.journal.compacting || decide (s.journal.erased.length < 16)) then s
  else
    let s0 : State := passDone 8 { s with journal := { s.journal with compacting := false } }
    match compactTarget s with
    | none => s0
    | some g =>
      if !progOk then journalFault 1 ((s.journal.segs.getLast?.map (·.idx)).getD 0) s0
      else
        let live := liveRecs s
        let s1 : State := discardBad g s0
        let s2 : State := (g.recs.filter (fun r => live.contains r)).foldl (fun (st : State) r =>
          (journalPut { type := r.type, key := r.key, schema := r.schema, payload := r.payload, prio := r.prio, exempt := true } st).2) s1
        if !eraseOk then journalFault 2 g.idx s2
        else
          let j1 : JournalSt := { s2.journal with
            segs := s2.journal.segs.filter (fun x => x.idx != g.idx), erased := s2.journal.erased ++ [(g.idx, g.erases + 1)], progFault := false }
          let (j2, es) := jCondition 5 j1
          raises es { s2 with journal := j2 }

/-- COMPACTION (16 R597). -/
def execCompaction (eraseOk progOk : Bool) (s : State) : Host.Outcome State Fault Refusal := done (doCompaction eraseOk progOk s)

/-- JOURNAL_COMPACT (16 R597). -/
def execJournalCompact (c : Cmd) (s : State) : Host.Outcome State Fault Refusal :=
  done (command 0x0F09 0 0 none (fun _ s => accepted { s with journal := { s.journal with compacting := true } }) c s)

/-- The result of JOURNAL_STATUS (16 R601). -/
def journalStatusBytes (s : State) : List Byte :=
  let j := s.journal
  let es := eraseCounts j
  let lo := match es with | [] => 0 | x :: r => r.foldl min x
  le 2 j.erased.length ++ le 2 (satN 0xFFFF (liveRecs s).length) ++ le 4 j.nextSeq ++ le 4 lo ++ le 4 (es.foldl max 0) ++ le 4 j.discarded

/-- JOURNAL_STATUS (16 R601). -/
def execJournalStatus (c : Cmd) (s : State) : Host.Outcome State Fault Refusal :=
  done (command 0x0F08 0 20 none (fun _ s => okWith (journalStatusBytes s) s) c s)

end Sys2Proof.Machine
end

