-- ==== Sys2Proof/Machine/Tamper.lean ====
section
/-!
DEFINITION. Life-cycle, tamper, leaving SAFE, and debug (15 R553 to R567).
-/
namespace Sys2Proof.Machine

/-! ## Life-cycle (15 R553, R554) -/

/-- A transition from LC_PENDING to the order to restart (15 R554 steps 1 to 3); PUF enrolment belongs to the change from BLANK to
PROVISION (15 R540). -/
def lcTransition (target : Nat) (s : State) : State :=
  let old := s.otp.lifeCycle
  let s1 := journalLog { type := 0x40, key := 0, payload := le 1 target ++ le 1 old, prio := 3 } s
  let s2 := { s1 with otp := { s1.otp with lifeCycle := target, enrolled := s1.otp.enrolled || (old == 0 && target == 1), helperBurnt := s1.otp.helperBurnt } }
  let s3 := raise { code := 0x0E08, sev := 2, src := 5, p0 := old, p1 := target } s2
  { s3 with power := { s3.power with restartNow := some 5 } }

/-- The message that a Thohar token signs: the target and ID_UNIQUE (15 R553; its layout is log entry 24). -/
def tokenDigest (target : Nat) : List Byte := hashOf 1 (le 1 target ++ uidBytes)

/-- SEC_LIFECYCLE (15 R553, R554, 16 R590). -/
def secLifecycle (p : List Byte) (s : State) : Reply × State :=
  let old := lifeCycle s
  let new := uAt p 0 1
  let legal := (old == 0 && new == 1) || (old == 1 && new == 2) || (old == 2 && new == 3) || (decide (old ≤ 3) && new == 4)
  let needsToken := new == 1 || new == 3
  if s.power.tamperSafe && new != 4 then refuse stTamperLocked s
  else if !legal || !zeros p 1 7 then refuse stBadParam s
  else if s.update.st != .idle || (new == 2 && (s.otp.hash3.isNone || !engineIdle s)) || (new == 3 && jobBusy s) then refuse stBadState s
  else if needsToken && !Config.ecVerify 8 (keyBytes s 5) (tokenDigest new) ((p.drop 8).take 96) then refuse stVerifyFail s
  else accepted (lcTransition new s)

/-- Bytes that SEC_LIFECYCLE asks for: the token where R553 requires one. -/
def lifecycleMin (c : Cmd) : Nat := let new := uAt (prmOf c) 0 1; if new == 1 || new == 3 then 104 else 1

/-- SEC_LIFECYCLE (15 R554). -/
def execSecLifecycle (c : Cmd) (s : State) : Host.Outcome State Fault Refusal :=
  done (obeyRestart (command 0x0E10 (lifecycleMin c) 0 none secLifecycle c s))

/-! ## Tamper alarms (15 R556 to R561) -/

/-- The record of an alarm joins the tamper log, a ring of 16 (15 R557). -/
def logAlarm (sensor : Nat) (s : State) : State :=
  let r : EvRec := { code := 0x0E01, sev := 7, src := 5, first := dtNow s, p0 := sensor, p1 := powerCode s.power.st, p2 := lifeCycle s, seq := s.recorder.seq }
  let l := s.sec.log ++ [r]
  { s with sec := { s.sec with log := l.drop (l.length - 16), logDirty := true } }

/-- A sensor is watched: a mesh loop where OTP enables it, VDD_CORE in SPRING and NEAP, and nothing in OFF (15 R556). -/
def sensorLive (sensor : Nat) (s : State) : Bool :=
  s.power.st != .off && decide (sensor ≤ 8) && (decide (4 ≤ sensor) || bit s.otp.mesh sensor) &&
  (sensor != 6 || s.power.st == .spring || s.power.st == .neap)

/-- An alarm acts in PROVISION, FIELD and RETURN (15 R557, R558). -/
def alarmActs (s : State) : Bool := decide (1 ≤ lifeCycle s) && decide (lifeCycle s ≤ 3)

/-- Retained SRAM is wiped except the tamper log (15 R558). -/
def wipeRetained (s : State) : State :=
  { s with
    recorder := { s.recorder with ring := [], seq := 0 }
    harbour := { s.harbour with evtAck := 0 }
    knani := { s.knani with shadow := [] }
    meter := { s.meter with ring := [], src := s.meter.src.map (sourceKept true) }
    journal := { s.journal with mirrorOk := false }
    power := { s.power with soundings := [], soundSeq := 0, tLoss := none }
    axes := s.axes.map (fun a => { a with pos := 0, target := 0, homed := false })
    sec := { s.sec with wiped := true } }

/-- What sensor 6 sees in its window is no alarm (15 R556, 17 R613). -/
def coreQuiet (sensor mv : Nat) (s : State) : Bool := sensor == 6 && coreInWindow mv s

/-- An alarm in SLACK takes the enables of the rails away (18 R636). -/
def enablesTaken (s : State) : State := { s with power := { s.power with pwrEn := [false, false, false, false] } }

/-- A tamper alarm (15 R557, R558, R561): `sensor` as SEC_TAMPER codes it; `mv` is VDD_CORE where the sensor is its monitor. -/
def tamperAlarm (sensor mv : Nat) (s : State) : State :=
  if !sensorLive sensor s || coreQuiet sensor mv s then s
  else
    let s1 := logAlarm sensor s
    if !alarmActs s then s1
    else if s.otp.tamperEpoch == 64 then obeyRestart (lcTransition 4 (wipeVault (raise { code := 0x0E01, sev := 7, src := 5, p0 := sensor, p1 := powerCode s.power.st, p2 := lifeCycle s } s1)))
    else
      let s2 := wipeVault { s1 with sec := { s1.sec with alarmed := true, debug := 0, debugKey := 0 } }
      match s.power.st with
      | .slack => wipeRetained (enablesTaken s2)
      | .neap => wipeRetained s2
      | .spring =>
        let s3 := raise { code := 0x0E01, sev := 7, src := 5, p0 := sensor, p1 := 3, p2 := lifeCycle s } s2
        haltAxes 1 { s3 with sec := { s3.sec with alarmAt := some (s.sec.alarmAt.getD s.time.cyc) } }
      | _ => enterTamperSafe (raise { code := 0x0E01, sev := 7, src := 5, p0 := sensor, p1 := powerCode s.power.st, p2 := lifeCycle s } s2)

/-- TAMPER_ALARM (15 R558). -/
def execTamperAlarm (x : TamperSense) (s : State) : Host.Outcome State Fault Refusal := done (tamperAlarm x.sensor x.mv s)

/-- At standstill of every axis, or 2 s after the alarm if sooner, SAFE is entered (15 R558). -/
def doTamperSafeEntry (s : State) : State :=
  match s.sec.alarmAt with
  | none => s
  | some t => enterTamperSafe (if axesMoving s then runToCyc (t + cycMs 2000) s else s)
/-- TAMPER_SAFE_ENTRY (15 R558). -/
def execTamperSafeEntry (s : State) : Host.Outcome State Fault Refusal := done (doTamperSafeEntry s)

/-! ## Leaving SAFE (15 R562, R563) -/

/-- The unlock completes: UNLOCKED_EPOCH, SEC_UNLOCKED, restart (15 R563 step 4). -/
def unlockDone (s : State) : State :=
  let s1 := journalLog { type := 0x41, key := 0, payload := le 4 s.otp.tamperEpoch, prio := 3 }
    { s with sec := { s.sec with challenge := none, ackFrom := none } }
  let s2 := raise { code := 0x0E09, sev := 2, src := 5, p0 := s.otp.tamperEpoch, p1 := lifeCycle s } s1
  { s2 with power := { s2.power with restartNow := some 6 } }

/-- SEC_UNLOCK (15 R563): the challenge lapses whatever the outcome of the signature. -/
def secUnlock (p : List Byte) (s : State) : Reply × State :=
  if !s.power.tamperSafe then refuse stBadState s
  else if !s.sec.cold then refuse 0x0E84 s
  else match s.sec.challenge, s.sec.ackFrom with
    | some ch, none =>
      let key := if lifeCycle s == 3 then 5 else 3
      if !Config.ecVerify 8 (keyBytes s key) (hashOf 1 ch) (p.take 96) then (.now stVerifyFail [], { s with sec := { s.sec with challenge := none } })
      else if lifeCycle s == 2 then accepted { s with sec := { s.sec with ackFrom := some s.time.cyc } }
      else ok (unlockDone s)
    | _, _ => refuse stStale s
/-- SEC_UNLOCK (15 R563). -/
def execSecUnlock (c : Cmd) (s : State) : Host.Outcome State Fault Refusal := done (obeyRestart (command 0x0E12 96 0 none secUnlock c s))

/-- SEC_UNLOCK_ACK: the same nonce within 60 s (15 R563 step 3). -/
def secUnlockAck (p : List Byte) (s : State) : Reply × State :=
  match s.sec.challenge, s.sec.ackFrom with
  | some ch, some t => if ch.take 32 == p.take 32 && decide (s.time.cyc ≤ t + cycMs 60000) then ok (unlockDone s) else refuse stStale s
  | _, _ => refuse stStale s
/-- SEC_UNLOCK_ACK (15 R563). -/
def execSecUnlockAck (c : Cmd) (s : State) : Host.Outcome State Fault Refusal := done (obeyRestart (command 0x0E13 32 0 none secUnlockAck c s))

/-! ## Debug (15 R565 to R567) -/

/-- A cell of the matrix of R566. -/
inductive DebugRule where
  /-- no signature is needed -/
  | free
  /-- a signature under one of these keys (4 DEBUG_PUB, 5 VENDOR_PUB) -/
  | signed (keys : List Nat)
  /-- refused with a cause: 0 matrix, 3 WAKE_REQUIRED -/
  | never (cause : Nat)
  deriving DecidableEq, Repr

/-- The matrix of R566: life-cycle, power state, kind (0 TRACE, 1 CORE, 2 SECURE, 3 BSCAN); and whether the engine must be idle, and no job
ARMED, OPEN or CLOSING. -/
def debugRule (lc : Nat) (p : Power) (kind : Nat) : DebugRule × Bool × Bool :=
  match lc with
  | 0 => (.free, false, false)
  | 1 =>
    if kind == 0 then (.free, false, false)
    else match p with
      | .neap => (.never 3, false, false)
      | .spring => (if kind == 1 then .signed [4, 5] else if kind == 2 then .signed [5] else .free, true, false)
      | _ => (.never 0, false, false)
  | 2 =>
    if kind == 0 then (.signed [4], false, false)
    else if kind == 1 then (match p with
      | .neap => (.never 3, false, false)
      | .spring => (.signed [4], true, true)
      | _ => (.never 0, false, false))
    else (.never 0, false, false)
  | 3 =>
    if kind == 0 then (.signed [5], false, false)
    else match p with
      | .neap => (.never 3, false, false)
      | .spring => (.signed [5], false, false)
      | _ => (.never 0, false, false)
  | _ => (if kind == 0 || kind == 3 then .free else .never 0, false, false)

/-- Why a kind is refused: 0 matrix, 1 signature, 2 engine not idle, 3 WAKE_REQUIRED (15 R566, R570). -/
def debugRefusal (signer kind : Nat) (s : State) : Option Nat :=
  match debugRule (lifeCycle s) s.power.st kind with
  | (.never c, _, _) => some c
  | (.free, idle, noJob) => if (idle && !engineIdle s) || (noJob && jobBusy s) then some 2 else none
  | (.signed ks, idle, noJob) =>
    if !ks.contains signer then some 1 else if (idle && !engineIdle s) || (noJob && jobBusy s) then some 2 else none

/-- A session of the kinds opens (15 R566, R567). -/
def debugGrant (kinds key : Nat) (s : State) : State :=
  let s1 := raise { code := 0x0E0A, sev := 2, src := 5, p0 := kinds, p1 := key, p2 := powerCode s.power.st }
    { s with sec := { s.sec with debug := s.sec.debug ||| kinds, debugKey := key } }
  if debugHold s1 && s.power.st == .spring then disableAxes s1 else s1

/-- DEBUG_REQUEST: every kind asked for must be allowed (15 R565, R566; log entry 28). In BLANK, NEAP is left for SPRING first, except for
TRACE; no response in OFF and SLACK. -/
def doDebugRequest (kinds signer : Nat) (s : State) : State :=
  let ks := (List.range 4).filter (bit kinds)
  if s.power.st == .off || s.power.st == .slack || ks.isEmpty || decide (16 ≤ kinds) then s
  else match ks.findSome? (fun k => debugRefusal signer k s) with
    | some c => raise { code := 0x0E0B, sev := 3, src := 5, p0 := kinds, p1 := c, p2 := powerCode s.power.st } s
    | none =>
      let needs := ks.any (fun k => match (debugRule (lifeCycle s) s.power.st k).1 with | .signed _ => true | _ => false)
      let s1 := if s.power.st == .neap && decide (2 ≤ kinds) then leaveNeap 1 s else s
      debugGrant kinds (if needs then signer else 0) s1
/-- DEBUG_REQUEST (15 R566). -/
def execDebugRequest (kinds signer : Nat) (s : State) : Host.Outcome State Fault Refusal := done (doDebugRequest kinds signer s)

/-- DBG_TRST_N ends the session (15 R567). -/
def execDbgTrstN (s : State) : Host.Outcome State Fault Refusal := done { s with sec := { s.sec with debug := 0, debugKey := 0 } }

end Sys2Proof.Machine
end

