-- ==== Sys2Proof/Machine/Power.lean ====
section
/-!
DEFINITION. Rails and RESET_N, power states and wake sources, power-fail warning, PMBus, supervision, undertow and soundings (17 R604 to R619, 18 R636,
R644).
-/
namespace Sys2Proof.Machine

/-! ## Rails and RESET_N (17 R606, R614, 18 R636, R644) -/

/-- VDD_AON falls below its power-on threshold: OFF, with everything that it held (17 R606, R614). A later cold SAFE session needs the tamper
log journalled (15 R562). -/
def doVddAonLoss (s : State) : State :=
  if s.power.rails == .aonLost then s
  else
    let r := restart 0 s
    { r with power := { r.power with rails := .aonLost, pwrEn := [false, false, false, false] }, sec := { r.sec with cold := !s.sec.logDirty } }
/-- VDD_AON_LOSS (17 R606). -/
def execVddAonLoss (s : State) : Host.Outcome State Fault Refusal := done (doVddAonLoss s)

/-- VDD_AON returns and the sequencer releases PWR_EN_0 to PWR_EN_3 and then the rails: time zero of R615 where RESET_N is high, else at its release (18 R635, R636). -/
def doVddAonRise (offMs : Nat) (resetHigh : Bool) (s : State) : State :=
  if s.power.rails != .aonLost then s
  else { s with power := { s.power with rails := if resetHigh then .released else .resetHeld, pwrEn := [true, true, true, true] }, sec := { s.sec with cold := s.sec.cold && decide (100 ≤ offMs) } }
/-- VDD_AON_RISE (18 R636). -/
def execVddAonRise (offMs : Nat) (resetHigh : Bool) (s : State) : Host.Outcome State Fault Refusal := done (doVddAonRise offMs resetHigh s)

/-- VDD_CORE is lost while VDD_AON holds: PD_AON records T_loss (17 R611, 10 R388); the device starts again at RESET_N. -/
def doVddCoreLoss (s : State) : State :=
  if s.power.rails != .released || s.power.st == .off || s.power.st == .slack then s
  else
    let r := restart 1 { s with power := { s.power with tLoss := some (dtNow s) } }
    { r with power := { r.power with rails := .coreLost } }
/-- VDD_CORE_LOSS (17 R611). -/
def execVddCoreLoss (s : State) : Host.Outcome State Fault Refusal := done (doVddCoreLoss s)

/-- RESET_N low for `lowUs` us (18 R644): below 1 us it is ignored, from 10 us it restarts the device, between them the outside says. -/
def doResetN (lowUs : Nat) (taken : Bool) (s : State) : State :=
  if decide (lowUs ≤ 1) || (decide (lowUs < 10) && !taken) then s
  else match s.power.rails with
    | .aonLost => s
    | .resetHeld => { s with power := { s.power with rails := .released } }
    | _ => let r := restart 1 s; { r with power := { r.power with rails := .released, pwrEn := [true, true, true, true] } }
/-- RESET_N (18 R644). -/
def execResetN (lowUs : Nat) (taken : Bool) (s : State) : Host.Outcome State Fault Refusal := done (doResetN lowUs taken s)

/-! ## Power states (17 R606 to R609) -/

/-- Why the device does not leave SPRING (17 R607). -/
def leaveMask (s : State) : Nat :=
  bitIf (jobBusy s) 0 + bitIf (axesMoving s) 1 + bitIf s.meter.bill.isSome 2 + bitIf (s.fleet.st == .beaconing || s.fleet.st == .joined) 3 +
  bitIf (s.update.st != .idle) 4 + bitIf (decide (2 ≤ s.sec.debug)) 5

/-- Steps 1 to 3 of R607: life counts saved, loops out of RUN, the metering save, axes disabled. -/
def quiesce (s : State) : State :=
  let s1 := (List.range 16).foldl (fun st n => if (loopOf st n).st == 0 then st else loopOff n 0 (saveLoop n st)) s
  disableAxes (meterLeave s1)

/-- NEAP is entered (17 R604, R607). -/
def enterNeap (s : State) : State :=
  let s1 := quiesce s
  let s2 : State := [4, 5, 7, 9].foldl (fun st k => domainOff k st) (gnssNeap s1)
  let s3 := { s2 with raster := { s2.raster with planes := s2.raster.planes.map (fun (p : Plane) => { p with cache := none }), fills := [], residency := [] } }
  vddSet 700 (setPower .neap 0 { s3 with power := { s3.power with entering := none }, journal := { s3.journal with mirrorOk := true } })

/-- SLACK is entered (17 R604, R607, 14 R502): PD_SEC loses its keys, the PCIe link goes down. The domains lose their memories; the wake's
start finds them so. The enables of the rails go, but for VDD_DDR and VDD_DDRQ with a DEFINED job (17 R604, 18 R636). -/
def enterSlack (s : State) : State :=
  let s1 := if s.power.st == .spring then quiesce s else s
  let s2 := if s.harbour.quadSpi then s1 else doPcieLinkChange false 0 0 s1
  let s3 := setPower .slack 0 { s2 with journal := { s2.journal with mirrorOk := true } }
  let r := restart 3 s3
  { r with
    power := { r.power with st := .slack, cause := s.power.cause, wakeKept := s.power.wakeKept, pwrEn := [false, false, false, s.raster.job != 0] }
    recorder := r.recorder }

/-- A wake source acts (17 R608, R628): in NEAP SPRING follows, in SLACK a start with cause WAKE; while NEAP or SLACK is being entered it is
kept. -/
def wake (source pin : Nat) (s : State) : State :=
  let ev : Ev := { code := 0x100B, sev := 1, src := 4, p0 := source, p1 := pin }
  if s.power.entering.isSome then { s with power := { s.power with wakeKept := some (s.power.wakeKept.getD (source, pin)) } }
  else match s.power.st with
    | .neap => leaveNeap (if source == 3 then 0 else 1) (raise ev s)
    | .slack =>
      let r := restart 3 { s with power := { s.power with pwrEn := [true, true, true, true] } }
      raise { code := 0x1001, sev := 2, src := 4, p0 := 1, p1 := 3, p2 := 1 } (raise ev { r with sec := { r.sec with lostVolatile := s.sec.lostVolatile } })
    | _ => s

/-- A wake that was kept acts once the entry is complete (17 R608). -/
def wakeAfter (s : State) : State :=
  match s.power.wakeKept with
  | some (src, pin) => wake src pin { s with power := { s.power with wakeKept := none } }
  | none => s

/-- NEAP_ENTRY at the next tide boundary, after a PMBus request in flight (17 R606, R607, R626). -/
def doNeapEntry (s : State) : State :=
  if s.power.entering != some .neap then s
  else
    let s1 := runTo (nextBoundary s) s
    let wait := match s1.power.vddFlight with | some (c, _) => decide (s1.time.cyc < c + cycMs 2) | none => false
    if wait then s else wakeAfter (enterNeap s1)
/-- NEAP_ENTRY (17 R607). -/
def execNeapEntry (s : State) : Host.Outcome State Fault Refusal := done (doNeapEntry s)

/-- The RTC alarm at its Device Time second (17 R608): used once. -/
def doWakeRtc (s : State) : State :=
  if s.power.wakeAlarm == 0 || !(s.power.st == .neap || s.power.st == .slack || s.power.entering.isSome) then s
  else
    let s1 := if s.power.st == .slack then s else runTo (sec1 * s.power.wakeAlarm) s
    wake 0 0 { s1 with power := { s1.power with wakeAlarm := 0 } }
/-- WAKE_RTC_ALARM (17 R608). -/
def execWakeRtcAlarm (s : State) : Host.Outcome State Fault Refusal := done (doWakeRtc s)

/-- An edge on GPIO_0 to GPIO_3 (17 R608): 1 rising, 2 falling, 3 both. -/
def doWakeGpio (pin : Nat) (falling : Bool) (s : State) : State :=
  let e := s.power.wakeEdges / 4 ^ pin % 4
  if decide (4 ≤ pin) || !bit s.power.wakeMask pin || !bit e (b1 falling) || !(s.power.st == .neap || s.power.st == .slack || s.power.entering.isSome) then s
  else wake 1 pin s
/-- WAKE_GPIO (17 R608). -/
def execWakeGpio (pin : Nat) (falling : Bool) (s : State) : Host.Outcome State Fault Refusal := done (doWakeGpio pin falling s)

/-- A beacon in NEAP at a rover whose radio is configured: its STOP_WORD acts, and WAKE is a wake source (11 R427). -/
def beaconNeap (f : RadFrame) (s0 : State) : State :=
  if !s0.fleet.configured || roleOf s0 != 0 then s0
  else
    let (okF, s1) := rxFrame 0 f { s0 with fleet := { s0.fleet with st := .search } }
    let s := { s1 with fleet := { s1.fleet with st := s0.fleet.st } }
    if !okF || f.src != 0 || decide (f.payload.length < 24) then s
    else
      let s2 := beaconStop (uAt f.payload 4 2) { s with fleet := { s.fleet with misses := 0, testedSf := some (sfFull s (dtNow s)) } }
      if bit (uAt f.payload 6 1) 5 then wake 2 0 s2 else s2
/-- BEACON (11 R408, R427). -/
def execBeacon (f : RadFrame) (s : State) : Host.Outcome State Fault Refusal := done (if s.power.st == .neap then beaconNeap f s else doBeacon f s)

/-- POWER_SET_STATE (17 R606, R607). -/
def powerSetState (p : List Byte) (s : State) : Reply × State :=
  let t := uAt p 0 1
  if t == 0 || decide (3 < t) then refuse stBadParam s
  else if s.power.st == .spring && t != 3 && leaveMask s != 0 then (.now stBadState (le 4 (leaveMask s)), s)
  else if s.power.st != .spring && s.power.st != .neap then (.now stBadState (le 4 0), s)
  else if t == 1 then accepted { s with power := { s.power with entering := some .slack } }
  else if t == 2 then accepted (if s.power.st == .neap then s else { s with power := { s.power with entering := some .neap } })
  else if s.power.st == .neap || s.power.entering.isSome then accepted (wake 3 0 s)
  else accepted s
/-- SLACK follows the command at once. -/
def slackNow (s : State) : State :=
  if s.power.entering == some .slack then wakeAfter (enterSlack { s with power := { s.power with entering := none } }) else s
/-- POWER_SET_STATE (17 R607). -/
def execPowerSetState (c : Cmd) (s : State) : Host.Outcome State Fault Refusal := done (slackNow (command 0x1002 1 0 none powerSetState c s))

/-! ## Power-fail warning (17 R611, R626) -/

/-- PFW_N falls: captured, POWER_PFW raised; in SPRING axes stop, LIFE_SAVE goes to every node, and METER_FINAL is committed `finalUs` us after
the edge. The all-off frame follows from the capture (17 R611 step 2). -/
def doPfw (finalUs : Nat) (s : State) : State :=
  if s.power.pfwAt.isSome || s.power.st == .off || s.power.st == .slack then s
  else
    let t := dtNow s
    let s1 := raise { code := 0x1003, sev := 3, src := 4, p0 := stOf t, p1 := finalUs % 2 ^ 32 } { s with power := { s.power with pfwAt := some t } }
    if s.power.st != .spring then s1
    else
      let s2 := overChannels (fun n pos k st => pushManage n { pos := pos, mem := 0, op := 4, addr := 0x0B, len := 1, data := le 1 (2 ^ k), why := .save k 2 } st) (haltAxes 1 s1)
      meterFinal t (runTo (t + us1 * finalUs) s2)
/-- POWER_PFW (17 R611). -/
def execPowerPfw (finalUs : Nat) (s : State) : Host.Outcome State Fault Refusal := done (doPfw finalUs s)

/-- PFW_N has been high for 10 ms (17 R611). -/
def doPfwEnd (lowUs : Nat) (s : State) : State :=
  match s.power.pfwAt with
  | none => s
  | some t =>
    let s1 := runTo (t + us1 * lowUs + 10 * ms1) s
    raise { code := 0x1004, sev := 2, src := 4, p0 := lowUs / 1000 % 2 ^ 32 } { s1 with power := { s1.power with pfwAt := none } }
/-- POWER_PFW_END (17 R611). -/
def execPowerPfwEnd (lowUs : Nat) (s : State) : Host.Outcome State Fault Refusal := done (doPfwEnd lowUs s)

/-! ## PMBus (17 R612) -/

/-- POWER_PMBUS_FAIL (17 R628). -/
def pmbusFail (read cause : Nat) (s : State) : State := raise { code := 0x1005, sev := 4, src := 1, p0 := s.power.vddReq, p1 := read, p2 := cause } s

/-- A READ_VOUT of a request, every 200 us: settled within 10 mV, or unanswered on a missing acknowledge, a PEC failure, or after 2 ms
(17 R612). -/
def doPmbusReadback (ack pecOk : Bool) (mv : Nat) (s : State) : State :=
  match s.power.vddFlight with
  | none => s
  | some (c, _) =>
    let s1 := pmbusOut 0x8B [] (runToCyc (c + ((s.time.cyc - c) / cycUs 200 + 1) * cycUs 200) s)
    let unanswered := fun (st : State) => { st with power := { st.power with vddFlight := none, pmbusFault := true } }
    if !ack then pmbusFail 0xFFFF 0 (unanswered s1)
    else if !pecOk then pmbusFail 0xFFFF 1 (unanswered s1)
    else
      let s2 := { s1 with power := { s1.power with vddRead := some mv } }
      if mv ≤ s.power.vddReq + 10 ∧ s.power.vddReq ≤ mv + 10 then { s2 with power := { s2.power with vddFlight := none, vddWide := none, pmbusFault := false } }
      else if c + cycMs 2 ≤ s1.time.cyc then pmbusFail mv 2 (unanswered s2)
      else s2
/-- PMBUS_READBACK (17 R612). -/
def execPmbusReadback (ack pecOk : Bool) (mv : Nat) (s : State) : Host.Outcome State Fault Refusal := done (doPmbusReadback ack pecOk mv s)

/-- PMB_ALERT_N low: STATUS_WORD is read and recorded (17 R612). -/
def doPmbAlert (status : Nat) (s : State) : State :=
  pmbusFail (vddRead16 s) 3 (pmbusOut 0x79 [] { s with power := { s.power with statusWord := status % 65536 } })
/-- PMB_ALERT (17 R612). -/
def execPmbAlert (status : Nat) (s : State) : Host.Outcome State Fault Refusal := done (doPmbAlert status s)

/-! ## Supervision (17 R610, R616) -/

/-- LOCKSTEP_DISAGREEMENT (17 R610 cause 0). -/
def execLockstepDisagreement (s : State) : Host.Outcome State Fault Refusal := done (fatal 0 0 s)
/-- SAFE_HEARTBEAT_MISS: the third consecutive boundary (17 R610 cause 1). -/
def execSafeHeartbeatMiss (s : State) : Host.Outcome State Fault Refusal := done (fatal 1 0 s)

/-- The commands and key operations that a processor executes complete with ABORTED (17 R616): CTRL runs the delays and the management
transfers, SEC the crypto sessions. -/
def abortWork (master : Nat) (s : State) : State :=
  if master == 1 then
    let nops := s.harbour.nops
    let ids := s.knani.idQ.flatMap (fun q => q.filterMap (·.cmd))
    let mans := s.knani.loops.flatMap (fun l => l.manage.filterMap (·.cmd))
    let s1 := { s with
      harbour := { s.harbour with nops := [] }
      knani := { s.knani with idQ := s.knani.idQ.map (fun q => q.filter (·.cmd.isNone)), loops := s.knani.loops.map (fun l => { l with manage := l.manage.filter (·.cmd.isNone) }) } }
    let s2 := nops.foldl (fun st e => complete e.1 e.2.1 0x0102 e.2.2.2 stAborted [] st) s1
    (ids ++ mans).foldl (fun st e => finishFor (some e) stAborted [] st) s2
  else if master == 5 then { s with sec := { s.sec with sessions := [] } }
  else s

/-- A processor is restarted from its resident image (17 R616); while the SAFE switch of an update is due the handover reverses (17 R626); the
third restart within 60 s is fatal (17 R610 cause 3). -/
def procRestart (master cause : Nat) (s : State) : State :=
  let recent := (s.power.restarts.filter (fun e => decide (s.time.cyc < e.2 + cycMs 60000))) ++ [(master, s.time.cyc)]
  let n := (recent.filter (fun e => e.1 == master)).length
  let s1 := abortWork master { s with power := { s.power with restarts := recent, restartTotal := (s.power.restartTotal + 1) % 2 ^ 32 } }
  let s2 := raise { code := 0x1008, sev := 4, src := 4, p0 := master, p1 := cause, p2 := n } s1
  let s3 := if s2.update.st == .handover && s2.update.reversing.isNone && s2.update.switched == 5 then reverseFrom 3 s2 else s2
  if 3 ≤ n then fatal 3 master s3 else s3

/-- An uncorrectable error is counted and reported (17 R618). -/
def eccBad (memory address : Nat) (s : State) : State :=
  raise { code := 0x1007, sev := 4, src := 1, p0 := memory, p1 := address % 2 ^ 32 } { s with power := { s.power with eccFatal := (s.power.eccFatal + 1) % 2 ^ 32 } }

/-- SAFE's check of CTRL, NAV, RAD and SEC, every 10 ms (17 R616): three misses, or an uncorrectable error, restart a processor. `hashOk` says
whether the resident image is used as it stands or first reloaded; its contents are the same. -/
def doHeartbeat (alive ecc : List Bool) (_hashOk : Bool) (s : State) : State :=
  (List.range 4).foldl (fun st k =>
    let master := [1, 2, 3, 5].getD k 1
    let n := if alive.getD k true then 0 else st.power.missed.getD k 0 + 1
    let put := fun (v : Nat) (x : State) => { x with power := { x.power with missed := lmod x.power.missed k (fun _ => v) } }
    if ecc.getD k false then procRestart master 1 (put 0 (eccBad 1 0 st))
    else if 3 ≤ n then procRestart master 0 (put 0 st)
    else put n st) s
/-- PROCESSOR_HEARTBEAT (17 R616). -/
def execProcessorHeartbeat (alive : List Bool) (ecc : List Bool) (hashOk : Bool) (s : State) : Host.Outcome State Fault Refusal := done (doHeartbeat alive ecc hashOk s)

/-! ## Undertow (17 R617, R618) -/

/-- The undertow activity whose pass covers a memory, and its domain bit (17 R617). -/
def scrubActivity (memory : Nat) : Nat × Nat := if memory == 0 then (0, 6) else if memory == 4 then (2, 6) else if memory == 2 then (1, 5) else if memory == 3 then (1, 0) else (1, 2)

/-- A pass that outlasts 24 h is reported once for each run (17 R617). -/
def scrubLate (memory : Nat) (passEnd : Bool) (s : State) : State :=
  let a := scrubActivity memory
  let from0 := s.power.passAt.getD a.1 0
  let s1 := undertowLate a.1 a.2 (from0 + cycMs 86400000) s
  if passEnd then passDone a.1 s1 else s1

/-- A corrected error: rewritten, counted, reported at most once per memory per hour (17 R618). -/
def eccCorrected (memory address : Nat) (s : State) : State :=
  let p := s.power
  let n := p.eccHour.getD memory 0 + 1
  let due := match p.eccAt.getD memory none with | some c => decide (c + cycMs 3600000 ≤ s.time.cyc) | none => true
  let s1 := { s with power := { p with
    eccCorr := lmod p.eccCorr memory (fun v => (v + 1) % 2 ^ 32), eccAddr := lmod p.eccAddr memory (fun _ => address % 2 ^ 32)
    eccHour := lmod p.eccHour memory (fun _ => if due then 0 else n), eccAt := if due then lmod p.eccAt memory (fun _ => some s.time.cyc) else p.eccAt } }
  raiseIf due { code := 0x1006, sev := 0, src := 1, p0 := memory, p1 := n, p2 := address % 2 ^ 32 } s1

/-- A region of retained SRAM is cleared and its owner treats it as lost (17 R614). Rows of R614 from 0. -/
def clearRegion (row : Nat) (s : State) : State :=
  match row with
  | 0 => { s with recorder := { s.recorder with ring := [], seq := 0 }, harbour := { s.harbour with evtAck := 0 } }
  | 1 => { s with knani := { s.knani with shadow := [] } }
  | 2 => { s with meter := { s.meter with ring := [], lost := 0 } }
  | 3 => { s with meter := { s.meter with src := s.meter.src.map (sourceKept true) } }
  | 4 => { s with journal := { s.journal with mirrorOk := false } }
  | 5 => { s with power := { s.power with soundings := [], soundSeq := 0 } }
  | 6 => { s with axes := s.axes.map (fun a => if a.st == .disabled then { a with pos := 0, target := 0, homed := false } else a) }
  | 7 => { s with sec := { s.sec with log := [], logDirty := false } }
  | _ => s

/-- An uncorrectable error is handled by the owner of the memory (17 R618). -/
def eccOwner (memory part address : Nat) (tx ty : Int) (s : State) : State :=
  match memory with
  | 0 => cacheError part tx ty address s
  | 1 => if part == 4 then fatal 2 address s else procRestart part 1 s
  | 2 => { s with cell := { s.cell with gateAt := none, armed := false, batches := [], evaled := [], results := [], packed := [] } }
  | 3 =>
    if part == 0 then
      match s.recorder.ring.find? (fun r => r.seq == address % 65536) with
      | some r => { s with recorder := countDrop (dtNow s) r.sev { s.recorder with ring := s.recorder.ring.filter (fun x => x.seq != r.seq) } }
      | none => s
    else if part ≤ 8 then raise { code := 0x100C, sev := 3, src := 1, p0 := part } (clearRegion part s)
    else s
  | 4 => dramError part tx ty address 0 s
  | _ => vaultFault (address % 64) 1 s

/-- PATROL_SCRUB (17 R617, R618). -/
def doPatrolScrub (memory part address : Nat) (correctable passEnd : Bool) (tx ty : Int) (s : State) : State :=
  if 5 < memory || !domainUp s (scrubActivity memory).2 then s
  else
    let s1 := scrubLate memory passEnd s
    if passEnd then s1
    else if correctable then eccCorrected memory address s1
    else eccOwner memory part address tx ty (eccBad memory address s1)
/-- PATROL_SCRUB (17 R618). -/
def execPatrolScrub (memory part address : Nat) (correctable passEnd : Bool) (tx ty : Int) (s : State) : Host.Outcome State Fault Refusal :=
  done (doPatrolScrub memory part address correctable passEnd tx ty s)

/-! ## Soundings (17 R619) -/

/-- HPL in mm, saturating; 0xFFFF in base role (17 R619). -/
def soundHpl (s : State) : Nat := if roleOf s == 1 then 0xFFFF else min (poseNow s).hpl 0xFFFF

/-- The 64 bytes of a sounding (17 R619). -/
def soundingBytes (temp : Int) (estMw pace : Nat) (s : State) : List Byte :=
  let p := s.power
  let b := dtBytes (dtNow s) ++ le 1 (powerCode p.st) ++ le 1 (roleOf s) ++ le 2 p.vddReq ++ le 2 (vddRead16 s) ++ leI 2 temp ++ le 4 estMw ++
    le 4 s.cell.lateTides ++ le 4 p.unavail ++ le 4 (p.eccCorr.sum - p.eccCorr.getD 4 0) ++ le 4 (p.eccCorr.getD 4 0) ++ le 4 p.eccFatal ++
    le 2 s.journal.erased.length ++ le 2 (satN 65535 s.recorder.drops.sum) ++ le 4 (tq32 s) ++ le 2 (soundHpl s) ++
    le 1 (bitIf (roleOf s == 0 && integrityOk s) 0 + bitIf (stopInForce s) 1 + bitIf (s.raster.job == 3) 2 + bitIf (cellLateRun s) 3) ++ [0] ++ le 4 pace ++ le 2 p.soundSeq
  b ++ le 2 (crc16 b)

/-- SOUNDING: every SOUNDING_PERIOD, kept in the ring of 64 and sent while subscribed (17 R619). -/
def doSounding (temp : Int) (estMw pace : Nat) (s0 : State) : State :=
  if !domainUp s0 2 then s0
  else
    let s := runToCyc (s0.power.soundAt + cycMs (1000 * s0.power.soundPeriod)) s0
    let b := soundingBytes temp estMw pace s
    let l := s.power.soundings ++ [b]
    let s1 := undertowLate 9 2 (s0.power.soundAt + cycMs (1000 * s0.power.soundPeriod)) (passDone 9 { s with power := { s.power with
      soundings := l.drop (l.length - 64), soundSeq := (s.power.soundSeq + 1) % 65536, soundAt := s.time.cyc } })
    if s.power.soundSub then sendS1 0x1B b s1 else s1
/-- SOUNDING (17 R619). -/
def execSounding (temp : Int) (estMw pace : Nat) (s : State) : Host.Outcome State Fault Refusal := done (doSounding temp estMw pace s)

end Sys2Proof.Machine
end

