-- ==== Sys2Proof/Machine/Startup.lean ====
section
/-!
DEFINITION. The start-up sequence (17 R615), with what each chapter does in it (00 R1, 02 R60, R61, 10 R388, 15 R539 to R544, R554, R555, R557
to R559, R564, 16 R575, R599, 17 R614, R620, R630).
-/
namespace Sys2Proof.Machine

/-- Start-up has halted: the device is in SAFE before step 8 (15 R539, R558, 16 R575). -/
def halted (s : State) : Bool := s.power.st != .off

/-! ## Steps 1 and 2 -/

/-- HQSPI_SEL is sampled; the PLL locks on REF_IN, or start-up goes on free-running after 100 ms (17 R615 steps 1, 2). -/
def bootRef (b : Boot) (s0 : State) : State :=
  let s : State := { s0 with harbour := { s0.harbour with quadSpi := !b.hqspiHigh } }
  if b.refIn then { s with time := { s.time with refLost := false, refFrom := some s.time.cyc } }
  else
    let s1 : State := runToCyc (cycMs 100) s
    raise { code := 0x0207, sev := 5, p0 := 0 } { s1 with time := { s1.time with refLost := true, refFrom := none } }

/-! ## Step 3: life-cycle, tamper, K_ROOT -/

/-- A life-cycle transition that is not finished: target and old (15 R554). -/
def lcPending (s : State) : Option (Nat × Nat) :=
  let rs := jRecs s.journal
  match rs.reverse.find? (fun r => r.type == 0x40 && r.tagLc == uAt r.payload 1 1) with
  | some r => if rs.any (fun d => deletes d r) then none else some (uAt r.payload 0 1, uAt r.payload 1 1)
  | none => none

/-- What a new life-cycle leaves of a live record (15 R555). -/
def survives (new : Nat) (r : JRec) : Bool :=
  if r.type == 0x40 || new == 4 then false
  else if new == 3 then
    (decide (0x50 ≤ r.type) && decide (r.type ≤ 0x59)) || (r.type == 1 && (r.key == settingKey 5 2 || r.key == settingKey 5 5)) || r.type == 0x41 || r.type == 0x31
  else if r.type == 0x10 then false
  else true

/-- The journal with its records changed in place, or dropped. -/
def mapJournal (f : JRec → Option JRec) (j : JournalSt) : JournalSt :=
  { j with segs := j.segs.map (fun (g : JSeg) => { g with recs := g.recs.filterMap f }) }

/-- SEC_KEY_LOST for each slot (15 R544, R559). -/
def keysLost (cause : Nat) (ns : List Nat) (s : State) : State :=
  raises (ns.map (fun n => { code := 0x0E05, sev := 3, src := 5, p0 := n, p1 := cause })) s

/-- The slots whose blobs the journal holds. -/
def blobSlots (s : State) : List Nat :=
  let rs := soundRecs s
  ((rs.filter (fun r => r.type == 0x10 && liveIn s rs r)).map (·.key))

/-- The wipes of a new life-cycle, and the live records carried forward under its JMAC (15 R554 step 4, R555, 16 R593). Blobs that no wipe
takes cannot be unwrapped any more: SEC_KEY_LOST (15 R554). -/
def lcWipe (new old : Nat) (s : State) : State :=
  let was : State := { s with votes := { s.votes with lifeCycle := s.votes.lifeCycle.write old } }
  let live := liveRecs was
  let blobs := (live.filter (fun r => r.type == 0x10 && (new == 1 || (new == 2 && bit (uAt r.payload 6 1) 1)))).map (·.key)
  let j := mapJournal (fun r => if live.contains r && survives new r then some { r with tagLc := new } else none) s.journal
  keysLost 2 blobs { s with journal := j, otp := { s.otp with helperBurnt := s.otp.helperBurnt || new == 4 } }

/-- The life-cycle is read from OTP; an unfinished transition is completed: the burn, then the restart (none: the state goes on), or the
wipes (15 R553, R554). -/
def bootLife (s0 : State) : Bool × State :=
  let s : State := { s0 with votes := { s0.votes with lifeCycle := s0.votes.lifeCycle.write s0.otp.lifeCycle } }
  match lcPending s with
  | none => (false, s)
  | some (new, old) =>
    if s.otp.lifeCycle == new then (false, lcWipe new old s)
    else
      let s1 : State := { s with otp := { s.otp with lifeCycle := new, enrolled := s.otp.enrolled || (old == 0 && new == 1) } }
      let r := raise { code := 0x0E08, sev := 2, src := 5, p0 := old, p1 := new } (restart 5 s1)
      (true, r)

/-- A sensor stands in alarm as SEC reads the tamper state: boot halts, SAFE is entered (15 R557, R558, R561). -/
def bootTamper (b : Boot) (s : State) : State :=
  match b.tamper with
  | none => s
  | some k =>
    let s1 := logAlarm k s
    if !alarmActs s then s1
    else if s.otp.tamperEpoch == 64 then obeyRestart (lcTransition 4 s1)
    else
      let s2 : State := { s1 with sec := { s1.sec with alarmed := true } }
      enterTamperSafe (raise { code := 0x0E01, sev := 7, src := 5, p0 := k, p1 := 0, p2 := lifeCycle s } s2)

/-- K_ROOT is reconstructed where the device is enrolled; a failure halts boot in SAFE (15 R539, R540, R555, 17 R610). -/
def bootPuf (b : Boot) (s : State) : State :=
  if !s.otp.enrolled && !s.otp.helperBurnt then s
  else if !b.pufOk || s.otp.helperBurnt then
    fatal 5 b.pufErrors (raise { code := 0x0E02, sev := 7, src := 5, p0 := b.pufErrors, p1 := 0 } s)
  else
    raiseIf (decide (255 < b.pufErrors * 10)) { code := 0x0E03, sev := 3, src := 5, p0 := b.pufErrors, p1 := b.pufBlocks }
      { s with sec := { s.sec with pufWorst := satN 100 (100 * b.pufErrors / 255) } }

/-- At the first start after an alarm: the log is journalled first, one more TAMPER_EPOCH bit is burnt, and the blobs that this makes
unreadable are erased (15 R557, R559). -/
def bootAlarm (s : State) : State :=
  let s1 : State := if !s.sec.logDirty then s else
    let x := (List.range s.sec.log.length).foldl (fun (st : State) k =>
      match st.sec.log[k]? with
      | some r => journalLog { type := 0x31, key := k, payload := evBytes r, prio := 2 } st
      | none => st) s
    { x with sec := { x.sec with logDirty := false } }
  if !s1.sec.alarmed then s1
  else
    let s2 : State := { s1 with sec := { s1.sec with alarmed := false } }
    if !alarmActs s2 || s2.otp.tamperEpoch == 64 then s2
    else
      let lost := blobSlots s2
      keysLost 2 lost { s2 with
        otp := { s2.otp with tamperEpoch := s2.otp.tamperEpoch + 1 }
        journal := mapJournal (fun r => if r.type == 0x10 then none else some r) s2.journal }

/-! ## Steps 5 and 6: retained SRAM and the journal -/

/-- Regions lost to POR or to a tamper wipe, one bit per row of R614 (17 R614). -/
def lostRegions (s : State) : Nat := if s.power.cause == 0 then 0xFF else if s.sec.wiped then 0x7F else 0

/-- Regions that fail their check are cleared and reported (17 R614). -/
def bootRegions (b : Boot) (s : State) : State :=
  let lost := lostRegions s
  (List.range 8).foldl (fun (st : State) k =>
    if bit b.eccFail k && !bit lost k then
      let x := clearRegion k st
      raise { code := 0x100C, sev := 3, src := 1, p0 := k } (if k == 3 then { x with power := { x.power with tLoss := none } } else x)
    else st) s

/-- The event ring is rebuilt from its sound records where it fails its check, and the event registers are set (17 R620, R630). -/
def bootRing (b : Boot) (s : State) : State :=
  let s1 : State := match b.ringBad with
    | none => s
    | some bad =>
      if s.recorder.ring.isEmpty then s
      else
        let good := s.recorder.ring.filter (fun r => !bad.contains r.seq)
        raise { code := 0x1102, sev := 3, src := 1, p0 := good.length, p1 := s.recorder.ring.length - good.length }
          { s with recorder := { s.recorder with ring := good } }
  match s1.recorder.ring with
  | [] => { s1 with recorder := { s1.recorder with seq := 0 }, harbour := { s1.harbour with evtAck := 0 } }
  | x :: _ => { s1 with harbour := { s1.harbour with evtAck := (x.seq + 65535) % 65536 } }

/-- The journal mirror is used, or the journal is scanned; bad records are discarded (16 R593, R599). -/
def bootJournal (b : Boot) (s : State) : State :=
  let usable := s.journal.mirrorOk && b.mirrorClean
  let s1 := raiseIf (!usable) { code := 0x0F0F, sev := 2, p0 := (jRecs s.journal).length, p1 := b.scanMs } s
  let bad := (jRecs s.journal).filterMap (fun r => (tget b.badRecords r.seq).map (fun c => (r, c)))
  let j := mapJournal (fun r => if (tget b.badRecords r.seq).isSome then none else some r) s1.journal
  raises (bad.map (fun e => { code := 0x0F0E, sev := 3, p0 := e.1.type, p1 := e.1.seq, p2 := e.2 }))
    { s1 with journal := { j with mirrorOk := true, discarded := bad.length } }

/-! ## Step 7: the bank -/

/-- The newest update record of a TYPE. -/
def lastUpd (s : State) (p : Nat → Bool) : Option JRec :=
  ((soundRecs s).filter (fun r => decide (0x50 ≤ r.type) && decide (r.type ≤ 0x59) && p r.type)).foldl
    (fun (a : Option JRec) r => match a with | none => some r | some x => if 0 < diffN 32 (updOrd r) (updOrd x) then some r else a) none

/-- An update record of some TYPE comes after another. -/
def updAfter (s : State) (p : Nat → Bool) (r : JRec) : Bool :=
  match lastUpd s p with | some x => decide (0 < diffN 32 (updOrd x) (updOrd r)) | none => false

/-- The bank of the latest CONFIRMED record, or bank A (16 R575). -/
def confirmedBank (s : State) : Nat := match lastUpd s (· == 0x57) with | some r => r.key % 2 | none => 0

/-- The first row of R575 that applies: bank, whether it is a trial boot, and the state after the records and the burn of that row. -/
def chooseBank (b : Boot) (s : State) : Nat × Bool × State :=
  match lastUpd s (· == 0x54) with
  | some a =>
    let target := uAt a.payload 4 1 % 2
    let old := uAt a.payload 5 1 % 2
    if uAt a.payload 6 1 == 2 && !updAfter s (· == 0x56) a then
      (target, true, { s with update := { s.update with cold := true, window := uAt a.payload 8 4 } })
    else if !updAfter s (fun t => t == 0x57 || t == 0x58 || t == 0x59) a then
      let s1 : State := updLog 0x58 target (le 1 1) s
      (old, false, raise (evReverted old 1 (bundleVersion (bankOf s target))) { s1 with update := { s1.update with cause := 1 } })
    else (confirmedBank s, false, confirmedBurn s)
  | none => (confirmedBank s, false, confirmedBurn s)
where
  /-- The counter is burnt up to the confirmed bundle's SECURITY_VERSION. -/
  confirmedBurn (s : State) : State :=
    match lastUpd s (· == 0x57) with | some r => burnCounter b.burnOk (uAt r.payload 4 1) s | none => s

/-- What the verification of a bank at boot gives: the cause of R579. -/
def bankFail (b : Boot) (s : State) (k : Nat) : Option Nat :=
  match (if k == 0 then b.bankA else b.bankB) with
  | some c => some c
  | none => (bundleCheck s (bankOf s k)).map (·.1)

/-- A bank is booted: its schema range takes effect (16 R575, R582). -/
def runBank (k : Nat) (s : State) : State :=
  let m := bankOf s k
  { s with update := { s.update with bank := k, schema := bundleField m 42 2, schemaMin := bundleField m 44 2 } }

/-- A bank is chosen, verified and booted; where both fail the device enters SAFE (16 R575, 17 R610). -/
def bootBank (b : Boot) (s0 : State) : State :=
  let (k, trial, s) := chooseBank b s0
  let s1 : State := if trial then updLog 0x56 k [] s else s
  match bankFail b s1 k with
  | none => runBank k (if trial then { s1 with update := { s1.update with st := .trial, since := s1.time.cyc } } else s1)
  | some c =>
    let o := 1 - k
    match s1.update.proven.getD o false, bankFail b s1 o with
    | true, none => raise { code := 0x0F0C, sev := 4, src := 5, p0 := k, p1 := c, p2 := o } (runBank o s1)
    | _, f =>
      let d := f.getD 0
      fatal 6 0 (raise { code := 0x0F0D, sev := 7, src := 5, p0 := if k == 0 then c else d, p1 := if k == 0 then d else c } s1)

/-- A bundle that was loaded and whose verification did not end is verified again (16 R575). -/
def bootVerify (s : State) : State :=
  match lastUpd s (fun _ => true) with
  | some r =>
    if r.type == 0x51 && s.update.st == .idle then
      { s with update := { s.update with st := .verifying, length := uAt r.payload 4 4, received := uAt r.payload 4 4, declared := uAt r.payload 8 4 } }
    else s
  | none => s

/-! ## Step 9: keys, role, Device Time, metering -/

/-- The inputs of the device's own keys: life-cycle, TAMPER_EPOCH (15 R541). -/
def keyContext (lc epoch : Bool) (s : State) : List Byte :=
  (if lc then le 1 (lifeCycle s) else []) ++ (if epoch then le 4 s.otp.tamperEpoch else [])

/-- A fixed slot derived from K_ROOT (15 R541, R542; its attributes are log entry 26). -/
def rootSlot (type uses : Nat) (label ctx : List Byte) : KeySlot :=
  { type := type, uses := uses, masters := 0x20, world := 0, lc := 3, flags := 6, gen := 1, key := kdfOf Config.kRoot label ctx (keyLen type) }

/-- The labels of 15 R541 in ASCII. -/
def labelId : List Byte := [0x49, 0x44]
/-- "STORE" -/
def labelStore : List Byte := [0x53, 0x54, 0x4F, 0x52, 0x45]
/-- "TRANSPORT" -/
def labelTransport : List Byte := [0x54, 0x52, 0x41, 0x4E, 0x53, 0x50, 0x4F, 0x52, 0x54]
/-- "JMAC" -/
def labelJmac : List Byte := [0x4A, 0x4D, 0x41, 0x43]

/-- The public key of slot 3 or 4 in the journal, where its hash is the one in OTP (15 R542). -/
def installedKey (s : State) (n : Nat) : Option (List Byte) :=
  match setting s (settingKey 5 n) with
  | some r => if (if n == 3 then s.otp.hash3 else s.otp.hash4) == some (hashOf 1 r.payload) then some r.payload else none
  | none => none

/-- The fixed slots (15 R542). -/
def bootFixed (s : State) : State :=
  let own : List (Nat × KeySlot) := if !s.otp.enrolled then [] else
    [(0, rootSlot 5 16 labelId (keyContext false false s)), (1, rootSlot 2 0x300 labelStore (keyContext true true s)),
     (6, rootSlot 5 64 labelTransport (keyContext true true s)), (7, rootSlot 3 12 labelJmac (keyContext true false s))]
  let pub : List (Nat × KeySlot) := [(2, publicSlot (Config.vendorKey 2)), (5, publicSlot (Config.vendorKey 5))]
  let inst : List (Nat × KeySlot) := [3, 4].filterMap (fun n => (installedKey s n).map (fun k => (n, publicSlot k)))
  { s with sec := { s.sec with keys := (own ++ pub ++ inst).foldl (fun t e => tset t e.1 e.2) [] } }

/-- The slot that a blob's attributes describe (15 R543). -/
def blobAttrs (p key : List Byte) : KeySlot :=
  { revoked := uAt p 0 1 == 2, type := uAt p 1 1, uses := uAt p 2 2, masters := uAt p 4 1, world := uAt p 5 1, lc := uAt p 6 1, flags := uAt p 7 1
    parent := uAt p 8 1, depth := uAt p 9 1, gen := uAt p 10 2, uses0 := uAt p 12 4, key := key }

/-- Every blob is unwrapped; one that fails is erased and reported (15 R544). -/
def bootBlobs (s : State) : State :=
  (blobSlots s).foldl (fun (st : State) n =>
    match jNewest (lifeCycle st) st.journal 0x10 n with
    | none => st
    | some r =>
      let p := r.payload
      match unwrapKey (storeKey st) (le 1 n ++ p.take 16) (p.drop 16) (keyLen (uAt p 1 1)) with
      | some k => { st with sec := { st.sec with keys := tset st.sec.keys n (blobAttrs p k), gens := tset st.sec.gens n (max (uAt p 10 2) ((tget st.sec.gens n).getD 0)) } }
      | none => keysLost 1 [n] (journalDelete 0x10 n st)) s

/-- The keys that the restart lost are reported (15 R544). -/
def bootVolatile (s : State) : State := keysLost 0 s.sec.lostVolatile { s with sec := { s.sec with lostVolatile := [] } }

/-- Device Times in the journal: of event records, METER_SAVE and METER_FINAL (02 R61). -/
def journalTimes (s : State) : List Nat :=
  (soundRecs s).filterMap (fun r => if r.type == 0x30 then some (dtAt r.payload 4) else if r.type == 0x20 || r.type == 0x21 then some (dtAt r.payload 0) else none)

/-- The Device Time that step 9 loads (02 R60, R61): from the RTC; or, where it holds none, 1 s after the latest time in the journal, as a
whole second; or zero. -/
def loadedTime (b : Boot) (s : State) : Nat :=
  match s.time.rtc with
  | some t => t + b.rtcRun
  | none => match journalTimes s with | [] => 0 | l => sec1 * (l.foldl max 0 / sec1 + 1)

/-- Device Time is loaded, and the records held without a time are stamped and written (17 R615). -/
def bootTime (b : Boot) (s : State) : State :=
  let v := loadedTime b s
  let now := s.time.cyc
  let acc := 2 ^ 23 * v
  let early := s.recorder.early
  let s1 : State := { s with
    time := { s.time with out := acc, a := { s.time.a with acc := acc }, b := { s.time.b with acc := acc }, timeUnset := s.time.rtc.isNone }
    recorder := { s.recorder with loaded := true, early := [] } }
  early.foldl (fun (st : State) e =>
    let r := e.2
    raiseList 9 (v - 131072 * (now - e.1)) [{ code := r.code, sev := r.sev, src := r.src, p0 := r.p0, p1 := r.p1, p2 := r.p2 }] st) s1

/-- Metering after a start: restored with a GAP record after a power loss, resumed after SLACK, else opened again (10 R384, R388, R390). -/
def bootMeter (totalsLost : Bool) (s : State) : State :=
  let s1 : State := if s.power.cause == 0 || s.power.tLoss.isSome || totalsLost then meterRestore (!totalsLost) s.power.tLoss s.time.rtc.isNone s
    else
      let x : State := { s with meter := { s.meter with bill := reopenBill s, saveAt := s.time.cyc } }
      if x.meter.leftAt.isSome then meterReturn x
      else { x with meter := { x.meter with src := x.meter.src.map (fun c => if decide (1 ≤ c.kind) && decide (c.kind ≤ 5) then openInterval x (dtNow x) true c else c) } }
  { s1 with power := { s1.power with tLoss := none } }

/-- The role is taken (00 R1). -/
def bootRole (s : State) : State :=
  let r := roleSetting s
  { s with votes := { s.votes with role := s.votes.role.write (if r == 1 then 1 else 0) } }

/-- Step 9 (17 R615); the regulator's VOUT_MODE is read before VDD_CORE is requested (17 R612). -/
def bootStep9 (b : Boot) (totalsLost : Bool) (s : State) : State :=
  let s1 := bootTime b (bootRole (bootVolatile (bootBlobs (bootFixed s))))
  let s2 := readIdBuses (restoreFloors (loadVxGroup (loadBaseRef (bootMeter totalsLost s1))))
  vddSet s2.cell.vddCeil { pmbusOut 0x20 [] s2 with raster := { s2.raster with dramGiB := b.dramGiB } }

/-- SAFE wherever TAMPER_EPOCH lies beyond the last UNLOCKED_EPOCH (15 R564). -/
def bootLocked (s : State) : State :=
  if alarmActs s && decide (unlockedEpoch s < s.otp.tamperEpoch) then
    enterSafe 2 { s with power := { s.power with tamperSafe := true } }
  else s

/-- Steps 8 to 10: SPRING (17 R606), step 9, READY and POWER_RESET_CAUSE. After OFF the change of power state is reported; its cause code is
not stated for a rise of the supply, so it is a free value (log entry 2). -/
def bootFinish (b : Boot) (lost : Nat) (s0 : State) : State :=
  let s : State := runToCyc (cycMs b.ms) s0
  let (v, s1) := draw s
  let s2 : State := if s.power.cause == 0 then
      raise { code := 0x1001, sev := 2, src := 4, p0 := 0, p1 := 3, p2 := v % 2 ^ 32 } { s1 with power := { s1.power with st := .spring } }
    else { s with power := { s.power with st := .spring } }
  let s3 := bootLocked (bootStep9 b (bit lost 3) s2)
  raise { code := 0x1002, sev := 2, src := 1, p0 := s3.power.cause, p1 := b.ms, p2 := lost }
    { s3 with harbour := { s3.harbour with ready := true }, sec := { s3.sec with wiped := false } }

/-- The start-up sequence (17 R615): from the release of the rails, once per restart. -/
def doStartUp (b : Boot) (s0 : State) : State :=
  if s0.power.st != .off || s0.power.rails != .released then s0
  else
    let (again, s1) := bootLife (bootRef b s0)
    if again then s1
    else
      let s2 := bootTamper b s1
      if halted s2 || s2.otp.lifeCycle != s1.otp.lifeCycle then s2
      else
        let s3 := bootPuf b s2
        if halted s3 then s3
        else
          let lost := lostRegions s3 ||| (b.eccFail % 256)
          let s4 := bootAlarm (bootJournal b (bootRing b (bootRegions b s3)))
          let s5 := bootBank b s4
          if halted s5 then s5 else bootFinish b lost (bootVerify s5)

/-- START_UP (17 R615). -/
def execStartUp (b : Boot) (s : State) : Host.Outcome State Fault Refusal := done (doStartUp b s)

end Sys2Proof.Machine
end

