-- ==== Sys2Proof/Machine/Dispatch.lean ====
section
/-!
DEFINITION. One arm per command of the opcode table: a direct call of its meaning, or its rejection by name.
-/
namespace Sys2Proof.Machine

def exec (i : Instr) (s : State) : Host.Outcome State Fault Refusal :=
  match i with
  | .tideBoundary => Sys2Proof.Machine.execTideBoundary s
  | .commitDeadline pace capacity less => Sys2Proof.Machine.execCommitDeadline pace capacity less s
  | .vddAonRise offMs resetHigh => Sys2Proof.Machine.execVddAonRise offMs resetHigh s
  | .vddAonLoss => Sys2Proof.Machine.execVddAonLoss s
  | .resetN lowUs taken => Sys2Proof.Machine.execResetN lowUs taken s
  | .startUp b => Sys2Proof.Machine.execStartUp b s
  | .refLost cause => Sys2Proof.Machine.execRefLost cause s
  | .refRestored lockUs => Sys2Proof.Machine.execRefRestored lockUs s
  | .ppsInCapture pin falling frac => Sys2Proof.Machine.execPpsInCapture pin falling frac s
  | .sourceTimeout dom => Sys2Proof.Machine.execSourceTimeout dom s
  | .domainALockHold => Sys2Proof.Machine.execDomainALockHold s
  | .tqTest => Sys2Proof.Machine.execTqTest s
  | .rtcWrite => Sys2Proof.Machine.execRtcWrite s
  | .ppsOutArm pin => Sys2Proof.Machine.execPpsOutArm pin s
  | .ppsOutActiveEdge pin => Sys2Proof.Machine.execPpsOutActiveEdge pin s
  | .ppsOutInactiveEdge pin => Sys2Proof.Machine.execPpsOutInactiveEdge pin s
  | .ppsInMissing pin => Sys2Proof.Machine.execPpsInMissing pin s
  | .captureEdge input falling frac => Sys2Proof.Machine.execCaptureEdge input falling frac s
  | .compareRelease cu => Sys2Proof.Machine.execCompareRelease cu s
  | .comparePulseEnd cu => Sys2Proof.Machine.execComparePulseEnd cu s
  | .delayListDelivery list => Sys2Proof.Machine.execDelayListDelivery list s
  | .fullTargetArm alarm index => Sys2Proof.Machine.execFullTargetArm alarm index s
  | .tidePeriodChange => Sys2Proof.Machine.execTidePeriodChange s
  | .timeGet c => Sys2Proof.Machine.execTimeGet c s
  | .timeDomainConfig c => Sys2Proof.Machine.execTimeDomainConfig c s
  | .timeSelect c => Sys2Proof.Machine.execTimeSelect c s
  | .timeMeasure c => Sys2Proof.Machine.execTimeMeasure c s
  | .timeSet c => Sys2Proof.Machine.execTimeSet c s
  | .timePpsOutConfig c => Sys2Proof.Machine.execTimePpsOutConfig c s
  | .timePpsInConfig c => Sys2Proof.Machine.execTimePpsInConfig c s
  | .timeTideConfig c => Sys2Proof.Machine.execTimeTideConfig c s
  | .timeEpochSet c => Sys2Proof.Machine.execTimeEpochSet c s
  | .timeHoldoverConfig c => Sys2Proof.Machine.execTimeHoldoverConfig c s
  | .timeCaptureConfig c => Sys2Proof.Machine.execTimeCaptureConfig c s
  | .timeCaptureRead c => Sys2Proof.Machine.execTimeCaptureRead c s
  | .timeCompareArm c => Sys2Proof.Machine.execTimeCompareArm c s
  | .timeCompareCancel c => Sys2Proof.Machine.execTimeCompareCancel c s
  | .timeAlarmSet c => Sys2Proof.Machine.execTimeAlarmSet c s
  | .ifFrameMarker stream t => Sys2Proof.Machine.execIfFrameMarker stream t s
  | .gnssIfLinkLost stream cause => Sys2Proof.Machine.execGnssIfLinkLost stream cause s
  | .ifClockFault stream ppb => Sys2Proof.Machine.execIfClockFault stream ppb s
  | .spectralAverage stream peaks => Sys2Proof.Machine.execSpectralAverage stream peaks s
  | .notchRelease stream slot => Sys2Proof.Machine.execNotchRelease stream slot s
  | .noiseProbeReading stream n0 => Sys2Proof.Machine.execNoiseProbeReading stream n0 s
  | .jamClear stream => Sys2Proof.Machine.execJamClear stream s
  | .acqSearchDone signal sv ant gloK codePhase carrRate peak dwells => Sys2Proof.Machine.execAcqSearchDone signal sv ant gloK codePhase carrRate peak dwells s
  | .detectionDiscard => Sys2Proof.Machine.execDetectionDiscard s
  | .coherentIntervalEnd ch u => Sys2Proof.Machine.execCoherentIntervalEnd ch u s
  | .pullInTimeout ch => Sys2Proof.Machine.execPullInTimeout ch s
  | .gnssSatLost ch => Sys2Proof.Machine.execGnssSatLost ch s
  | .measurementEpoch => Sys2Proof.Machine.execMeasurementEpoch s
  | .measurementRecord raw sol => Sys2Proof.Machine.execMeasurementRecord raw sol s
  | .navUnitDecoded ch unitType fecOk firstBit bits payload y => Sys2Proof.Machine.execNavUnitDecoded ch unitType fecOk firstBit bits payload y s
  | .burstStart => Sys2Proof.Machine.execBurstStart s
  | .burstEnd raw sol => Sys2Proof.Machine.execBurstEnd raw sol s
  | .gnssConfig c => Sys2Proof.Machine.execGnssConfig c s
  | .gnssStatus c => Sys2Proof.Machine.execGnssStatus c s
  | .gnssFrontendSet c => Sys2Proof.Machine.execGnssFrontendSet c s
  | .gnssAssist c iod => Sys2Proof.Machine.execGnssAssist c iod s
  | .gnssChannelRequest c => Sys2Proof.Machine.execGnssChannelRequest c s
  | .gnssChannelRelease c => Sys2Proof.Machine.execGnssChannelRelease c s
  | .gnssMeasSubscribe c => Sys2Proof.Machine.execGnssMeasSubscribe c s
  | .gnssNavSubscribe c => Sys2Proof.Machine.execGnssNavSubscribe c s
  | .gnssNotchConfig c => Sys2Proof.Machine.execGnssNotchConfig c s
  | .gnssLoopConfig c => Sys2Proof.Machine.execGnssLoopConfig c s
  | .gnssRestart c => Sys2Proof.Machine.execGnssRestart c s
  | .gnssBurstConfig c => Sys2Proof.Machine.execGnssBurstConfig c s
  | .gnssAcqConfig c => Sys2Proof.Machine.execGnssAcqConfig c s
  | .rtkEpochSolution sol => Sys2Proof.Machine.execRtkEpochSolution sol s
  | .poseEpochLate epoch => Sys2Proof.Machine.execPoseEpochLate epoch s
  | .rtcmFrame host => Sys2Proof.Machine.execRtcmFrame host s
  | .corrStale => Sys2Proof.Machine.execCorrStale s
  | .imuSample read nav => Sys2Proof.Machine.execImuSample read nav s
  | .imuLost => Sys2Proof.Machine.execImuLost s
  | .poseDrStart => Sys2Proof.Machine.execPoseDrStart s
  | .poseDrLimit => Sys2Proof.Machine.execPoseDrLimit s
  | .baseSurveyFailed => Sys2Proof.Machine.execBaseSurveyFailed s
  | .correctionInterval hdr => Sys2Proof.Machine.execCorrectionInterval hdr s
  | .stationIntervalDue biases => Sys2Proof.Machine.execStationInterval biases s
  | .poseInstallSet c => Sys2Proof.Machine.execPoseInstallSet c s
  | .poseFilterConfig c => Sys2Proof.Machine.execPoseFilterConfig c s
  | .poseIntegrityConfig c => Sys2Proof.Machine.execPoseIntegrityConfig c s
  | .poseImuConfig c => Sys2Proof.Machine.execPoseImuConfig c s
  | .poseImuReadSet c => Sys2Proof.Machine.execPoseImuReadSet c s
  | .poseCorrConfig c => Sys2Proof.Machine.execPoseCorrConfig c s
  | .poseStatus c => Sys2Proof.Machine.execPoseStatus c s
  | .poseSubscribe c => Sys2Proof.Machine.execPoseSubscribe c s
  | .poseAt c => Sys2Proof.Machine.execPoseAt c s
  | .poseReset c => Sys2Proof.Machine.execPoseReset c s
  | .posePcvLoad c => Sys2Proof.Machine.execPosePcvLoad c s
  | .baseRefSet c => Sys2Proof.Machine.execBaseRefSet c s
  | .baseSurveyStart c => Sys2Proof.Machine.execBaseSurveyStart c s
  | .baseCorrConfig c => Sys2Proof.Machine.execBaseCorrConfig c s
  | .poseCorrSubscribe c => Sys2Proof.Machine.execPoseCorrSubscribe c s
  | .poseNmeaSubscribe c => Sys2Proof.Machine.execPoseNmeaSubscribe c s
  | .poseBatch instant => Sys2Proof.Machine.execPoseBatch instant s
  | .cellEval loop pos errors => Sys2Proof.Machine.execCellEval loop pos errors s
  | .framePack loop => Sys2Proof.Machine.execFramePack loop s
  | .commitGate => Sys2Proof.Machine.execCommitGate s
  | .writeback tx ty => Sys2Proof.Machine.execWriteback tx ty s
  | .cellManualEnd cell => Sys2Proof.Machine.execCellManualEnd cell s
  | .cellAdd c => Sys2Proof.Machine.execCellAdd c s
  | .cellWrite c => Sys2Proof.Machine.execCellWrite c s
  | .cellRead c => Sys2Proof.Machine.execCellRead c s
  | .cellRemove c => Sys2Proof.Machine.execCellRemove c s
  | .cellEngineConfig c => Sys2Proof.Machine.execCellEngineConfig c s
  | .cellSpot c => Sys2Proof.Machine.execCellSpot c s
  | .cellSpotCancel c => Sys2Proof.Machine.execCellSpotCancel c s
  | .cellManual c => Sys2Proof.Machine.execCellManual c s
  | .cellStats c => Sys2Proof.Machine.execCellStats c s
  | .cellTraceSubscribe c => Sys2Proof.Machine.execCellTraceSubscribe c s
  | .cellFaultClear c => Sys2Proof.Machine.execCellFaultClear c s
  | .rasterJobClosed => Sys2Proof.Machine.execRasterJobClosed s
  | .tilePacket => Sys2Proof.Machine.execTilePacket s
  | .planeLoadApply => Sys2Proof.Machine.execPlaneLoadApply s
  | .snapshotSend => Sys2Proof.Machine.execSnapshotSend s
  | .wantTest => Sys2Proof.Machine.execWantTest s
  | .tileFill layer tx ty byTask waitNs bad => Sys2Proof.Machine.execTileFill layer tx ty byTask waitNs bad s
  | .flushInterval => Sys2Proof.Machine.execFlushInterval s
  | .deltaApply => Sys2Proof.Machine.execDeltaApply s
  | .tileDropApply => Sys2Proof.Machine.execTileDropApply s
  | .rasterJobDefine c => Sys2Proof.Machine.execRasterJobDefine c s
  | .rasterJobOpen c => Sys2Proof.Machine.execRasterJobOpen c s
  | .rasterJobClose c => Sys2Proof.Machine.execRasterJobClose c s
  | .rasterJobDiscard c => Sys2Proof.Machine.execRasterJobDiscard c s
  | .rasterJobStatus c => Sys2Proof.Machine.execRasterJobStatus c s
  | .rasterTileSave c => Sys2Proof.Machine.execRasterTileSave c s
  | .rasterExport c => Sys2Proof.Machine.execRasterExport c s
  | .rasterTileDrop c => Sys2Proof.Machine.execRasterTileDrop c s
  | .rasterLoadStatus c => Sys2Proof.Machine.execRasterLoadStatus c s
  | .rasterCacheStatus c => Sys2Proof.Machine.execRasterCacheStatus c s
  | .rasterQuery c => Sys2Proof.Machine.execRasterQuery c s
  | .rasterWantSubscribe c => Sys2Proof.Machine.execRasterWantSubscribe c s
  | .commandFrameSend loop => Sys2Proof.Machine.execCommandFrameSend loop s
  | .returnedFrame loop transit noise => Sys2Proof.Machine.execReturnedFrame loop transit noise s
  | .knaniReturnMissing loop silent => Sys2Proof.Machine.execKnaniReturnMissing loop silent s
  | .breakFrame loop => Sys2Proof.Machine.execBreakFrame loop s
  | .manageFrame p => Sys2Proof.Machine.execManageFrame p s
  | .segmentRemeasure loop rts => Sys2Proof.Machine.execSegmentRemeasure loop rts s
  | .enumerateReturn loop rts transit masks => Sys2Proof.Machine.execEnumerateReturn loop rts transit masks s
  | .enumTimeout loop returned => Sys2Proof.Machine.execEnumTimeout loop returned s
  | .watchdogPeriodRestore loop => Sys2Proof.Machine.execWatchdogPeriodRestore loop s
  | .idBusTransaction bus answer crc => Sys2Proof.Machine.execIdBusTransaction bus answer crc s
  | .nodeCommandFrame loop pos x => Sys2Proof.Machine.execNodeCommandFrame loop pos x s
  | .nodeLatch loop pos => Sys2Proof.Machine.execNodeLatch loop pos s
  | .failsafeCommit loop pos => Sys2Proof.Machine.execFailsafeCommit loop pos s
  | .nodeBreakOriginate loop pos => Sys2Proof.Machine.execNodeBreakOriginate loop pos s
  | .lifeCountCheck => Sys2Proof.Machine.execLifeCountCheck s
  | .moduleHeaderRead loop pos chan record => Sys2Proof.Machine.execModuleHeaderRead loop pos chan record s
  | .knaniLoopStart c => Sys2Proof.Machine.execKnaniLoopStart c s
  | .knaniLoopStop c => Sys2Proof.Machine.execKnaniLoopStop c s
  | .knaniLoopRestore c => Sys2Proof.Machine.execKnaniLoopRestore c s
  | .knaniLoopStatus c => Sys2Proof.Machine.execKnaniLoopStatus c s
  | .knaniNodeStatus c => Sys2Proof.Machine.execKnaniNodeStatus c s
  | .knaniIdRead c => Sys2Proof.Machine.execKnaniIdRead c s
  | .knaniIdWrite c => Sys2Proof.Machine.execKnaniIdWrite c s
  | .knaniTimingMeasure c => Sys2Proof.Machine.execKnaniTimingMeasure c s
  | .knaniNodeResume c => Sys2Proof.Machine.execKnaniNodeResume c s
  | .channelConfig c => Sys2Proof.Machine.execChannelConfig c s
  | .channelStatus c => Sys2Proof.Machine.execChannelStatus c s
  | .channelFaultClear c => Sys2Proof.Machine.execChannelFaultClear c s
  | .channelNeighbourTest c => Sys2Proof.Machine.execChannelNeighbourTest c s
  | .channelExposureSet c => Sys2Proof.Machine.execChannelExposureSet c s
  | .channelDiagConfig c => Sys2Proof.Machine.execChannelDiagConfig c s
  | .channelLifeRead c => Sys2Proof.Machine.execChannelLifeRead c s
  | .moveStart axis => Sys2Proof.Machine.execMoveStart axis s
  | .setPointRelease axis off => Sys2Proof.Machine.execSetPointRelease axis off s
  | .axisPlanStarved axis => Sys2Proof.Machine.execAxisPlanStarved axis s
  | .chopperCycle axis windingB snsMv reach => Sys2Proof.Machine.execChopperCycle axis windingB snsMv reach s
  | .standstillTimer axis => Sys2Proof.Machine.execStandstillTimer axis s
  | .limitDebouncedEdge axis hi high raw => Sys2Proof.Machine.execLimitDebouncedEdge axis hi high raw s
  | .reverseDwell axis => Sys2Proof.Machine.execReverseDwell axis s
  | .homeTimeout axis => Sys2Proof.Machine.execHomeTimeout axis s
  | .axisConfig c => Sys2Proof.Machine.execAxisConfig c s
  | .axisDriveConfig c => Sys2Proof.Machine.execAxisDriveConfig c s
  | .axisLimitConfig c => Sys2Proof.Machine.execAxisLimitConfig c s
  | .axisMove c => Sys2Proof.Machine.execAxisMove c s
  | .axisStop c => Sys2Proof.Machine.execAxisStop c s
  | .axisResume c => Sys2Proof.Machine.execAxisResume c s
  | .axisHome c => Sys2Proof.Machine.execAxisHome c s
  | .axisEnable c => Sys2Proof.Machine.execAxisEnable c s
  | .axisSetPosition c => Sys2Proof.Machine.execAxisSetPosition c s
  | .axisStatus c => Sys2Proof.Machine.execAxisStatus c s
  | .axisFaultClear c => Sys2Proof.Machine.execAxisFaultClear c s
  | .conversionFrame raws => Sys2Proof.Machine.execConversionFrame raws s
  | .alignedSample instant vals => Sys2Proof.Machine.execAlignedSample instant vals s
  | .supplyValue source start stop rising => Sys2Proof.Machine.execSupplyValue source start stop rising s
  | .intervalLatch source => Sys2Proof.Machine.execIntervalLatch source s
  | .syntheticCrossing lineRef => Sys2Proof.Machine.execSyntheticCrossing lineRef s
  | .recordRingSend => Sys2Proof.Machine.execRecordRingSend s
  | .meterSave => Sys2Proof.Machine.execMeterSave s
  | .meterSaveLate => Sys2Proof.Machine.execMeterSaveLate s
  | .meterChannelConfig c => Sys2Proof.Machine.execMeterChannelConfig c s
  | .meterSupplyConfig c => Sys2Proof.Machine.execMeterSupplyConfig c s
  | .meterLatchConfig c => Sys2Proof.Machine.execMeterLatchConfig c s
  | .meterRead c => Sys2Proof.Machine.execMeterRead c s
  | .meterSubscribe c => Sys2Proof.Machine.execMeterSubscribe c s
  | .meterBillOpen c => Sys2Proof.Machine.execMeterBillOpen c s
  | .meterBillClose c => Sys2Proof.Machine.execMeterBillClose c s
  | .meterSaveConfig c => Sys2Proof.Machine.execMeterSaveConfig c s
  | .meterSample c => Sys2Proof.Machine.execMeterSample c s
  | .slotStart slot half => Sys2Proof.Machine.execSlotStart slot half s
  | .beacon f => Sys2Proof.Machine.execBeacon f s
  | .corrFrame f => Sys2Proof.Machine.execCorrFrame f s
  | .stopFrame f => Sys2Proof.Machine.execStopFrame f s
  | .data f => Sys2Proof.Machine.execData f s
  | .ackFrame f => Sys2Proof.Machine.execAckFrame f s
  | .uplink f => Sys2Proof.Machine.execUplink f s
  | .joinReq f => Sys2Proof.Machine.execJoinReq f s
  | .joinResp f => Sys2Proof.Machine.execJoinResp f s
  | .serviceReq f => Sys2Proof.Machine.execServiceReq f s
  | .serviceResp f => Sys2Proof.Machine.execServiceResp f s
  | .fleetBeaconMissed cause => Sys2Proof.Machine.execFleetBeaconMissed cause s
  | .joinRetry => Sys2Proof.Machine.execJoinRetry s
  | .supTimeout address => Sys2Proof.Machine.execSupTimeout address s
  | .messageReassemblyTimeout peer port msgId => Sys2Proof.Machine.execMessageReassemblyTimeout peer port msgId s
  | .fleetServiceTimeout => Sys2Proof.Machine.execFleetServiceTimeout s
  | .searchChannelTimeout => Sys2Proof.Machine.execSearchChannelTimeout s
  | .radioMsgPacket => Sys2Proof.Machine.execRadioMsgPacket s
  | .fleetRadioConfig c => Sys2Proof.Machine.execFleetRadioConfig c s
  | .fleetXcvrScript c => Sys2Proof.Machine.execFleetXcvrScript c s
  | .fleetBaseStart c => Sys2Proof.Machine.execFleetBaseStart c s
  | .fleetBaseStop c => Sys2Proof.Machine.execFleetBaseStop c s
  | .fleetBaseSet c => Sys2Proof.Machine.execFleetBaseSet c s
  | .fleetChannelMap c => Sys2Proof.Machine.execFleetChannelMap c s
  | .fleetRoverRelease c => Sys2Proof.Machine.execFleetRoverRelease c s
  | .fleetRoverInfo c => Sys2Proof.Machine.execFleetRoverInfo c s
  | .fleetJoin c => Sys2Proof.Machine.execFleetJoin c s
  | .fleetLeave c => Sys2Proof.Machine.execFleetLeave c s
  | .fleetRecover c => Sys2Proof.Machine.execFleetRecover c s
  | .fleetStatus c => Sys2Proof.Machine.execFleetStatus c s
  | .fleetServiceSend c => Sys2Proof.Machine.execFleetServiceSend c s
  | .fleetServiceReply c => Sys2Proof.Machine.execFleetServiceReply c s
  | .corridorBatch => Sys2Proof.Machine.execCorridorBatch s
  | .req address body => Sys2Proof.Machine.execReq address body s
  | .release address body => Sys2Proof.Machine.execRelease address body s
  | .frame body => Sys2Proof.Machine.execFrame body s
  | .reqTimeout index => Sys2Proof.Machine.execReqTimeout index s
  | .corridorRequest c => Sys2Proof.Machine.execCorridorRequest c s
  | .corridorRelease c => Sys2Proof.Machine.execCorridorRelease c s
  | .corridorLocalSet c => Sys2Proof.Machine.execCorridorLocalSet c s
  | .corridorConfig c => Sys2Proof.Machine.execCorridorConfig c s
  | .corridorRead c => Sys2Proof.Machine.execCorridorRead c s
  | .corridorServiceConfig c => Sys2Proof.Machine.execCorridorServiceConfig c s
  | .corridorRankSet c => Sys2Proof.Machine.execCorridorRankSet c s
  | .corridorBlock c => Sys2Proof.Machine.execCorridorBlock c s
  | .corridorRevoke c => Sys2Proof.Machine.execCorridorRevoke c s
  | .corridorStatus c => Sys2Proof.Machine.execCorridorStatus c s
  | .stopInRegister aLow bLow => Sys2Proof.Machine.execStopInRegister aLow bLow s
  | .stopInRelease => Sys2Proof.Machine.execStopInRelease s
  | .stopDiscrepancy b => Sys2Proof.Machine.execStopDiscrepancy b s
  | .vexlinkStopTimeout => Sys2Proof.Machine.execVexlinkStopTimeout s
  | .stopStatus c => Sys2Proof.Machine.execStopStatus c s
  | .stopClear c => Sys2Proof.Machine.execStopClear c s
  | .stopConfig c => Sys2Proof.Machine.execStopConfig c s
  | .symbolLock port => Sys2Proof.Machine.execSymbolLock port s
  | .vxLinkDown port cause => Sys2Proof.Machine.execVxLinkDown port cause s
  | .stopMessage port m => Sys2Proof.Machine.execStopMessage port m s
  | .poseMessage port m => Sys2Proof.Machine.execPoseMessage port m s
  | .timeMessage port m frac => Sys2Proof.Machine.execTimeMessage port m frac s
  | .delayReq port origin frac => Sys2Proof.Machine.execDelayReq port origin frac s
  | .delayResp port m frac => Sys2Proof.Machine.execDelayResp port m frac s
  | .ackMessage port m => Sys2Proof.Machine.execAckMessage port m s
  | .coverageDelta port m => Sys2Proof.Machine.execCoverageDelta port m s
  | .hostMsg port m => Sys2Proof.Machine.execHostMsg port m s
  | .corrMessage port m => Sys2Proof.Machine.execCorrMessage port m s
  | .delayReqTimer port => Sys2Proof.Machine.execDelayReqTimer port s
  | .timeSendTimer => Sys2Proof.Machine.execTimeSendTimer s
  | .reliableRetry port index => Sys2Proof.Machine.execReliableRetry port index s
  | .vxMsgLost origin type => Sys2Proof.Machine.execVxMsgLost origin type s
  | .vxMsgPacket => Sys2Proof.Machine.execVxMsgPacket s
  | .ethFrameRx port frame frac => Sys2Proof.Machine.execEthFrameRx port frame frac s
  | .ethPacket => Sys2Proof.Machine.execEthPacket s
  | .ethFrameTx port => Sys2Proof.Machine.execEthFrameTx port s
  | .ethGateCycle port => Sys2Proof.Machine.execEthGateCycle port s
  | .ethCollision bits => Sys2Proof.Machine.execEthCollision bits s
  | .ethBackoffExpiry => Sys2Proof.Machine.execEthBackoffExpiry s
  | .ethLink port up speed => Sys2Proof.Machine.execEthLink port up speed s
  | .ptpMessage port m frac => Sys2Proof.Machine.execPtpMessage port m frac s
  | .ptpAnnounceTimeout port => Sys2Proof.Machine.execPtpAnnounceTimeout port s
  | .ptpSyncSend port => Sys2Proof.Machine.execPtpSyncSend port s
  | .canFrameRx ctl ide fd rtr id data => Sys2Proof.Machine.execCanFrameRx ctl ide fd rtr id data s
  | .canPacket => Sys2Proof.Machine.execCanPacket s
  | .canFrameTx ctl => Sys2Proof.Machine.execCanFrameTx ctl s
  | .canBusError ctl transmitting severe => Sys2Proof.Machine.execCanBusError ctl transmitting severe s
  | .canAutoRecovery ctl => Sys2Proof.Machine.execCanAutoRecovery ctl s
  | .netVxConfig c => Sys2Proof.Machine.execNetVxConfig c s
  | .netVxStatus c => Sys2Proof.Machine.execNetVxStatus c s
  | .netEthConfig c => Sys2Proof.Machine.execNetEthConfig c s
  | .netEthHashSet c => Sys2Proof.Machine.execNetEthHashSet c s
  | .netEthGateLoad c => Sys2Proof.Machine.execNetEthGateLoad c s
  | .netEthGateCommit c => Sys2Proof.Machine.execNetEthGateCommit c s
  | .netPtpConfig c => Sys2Proof.Machine.execNetPtpConfig c s
  | .netCanConfig c => Sys2Proof.Machine.execNetCanConfig c s
  | .netCanFilterSet c => Sys2Proof.Machine.execNetCanFilterSet c s
  | .netCanRecover c => Sys2Proof.Machine.execNetCanRecover c s
  | .netMdio c reply => Sys2Proof.Machine.execNetMdio c reply s
  | .netStatus c => Sys2Proof.Machine.execNetStatus c s
  | .pcieLinkChange up rate lanes => Sys2Proof.Machine.execPcieLinkChange up rate lanes s
  | .mbxDoorbell n slot read => Sys2Proof.Machine.execMbxDoorbell n slot read s
  | .mbxAck n v => Sys2Proof.Machine.execMbxAck n v s
  | .evtAck v => Sys2Proof.Machine.execEvtAck v s
  | .mbxCfgWrite n v => Sys2Proof.Machine.execMbxCfgWrite n v s
  | .sData0 v => Sys2Proof.Machine.execSData0 v s
  | .sEnd0 v => Sys2Proof.Machine.execSEnd0 v s
  | .sData1 => Sys2Proof.Machine.execSData1 s
  | .clear stream => Sys2Proof.Machine.execClear stream s
  | .abort => Sys2Proof.Machine.execAbort s
  | .drop => Sys2Proof.Machine.execDrop s
  | .packetAge => Sys2Proof.Machine.execPacketAge s
  | .indDataRead => Sys2Proof.Machine.execIndDataRead s
  | .indDataWrite v => Sys2Proof.Machine.execIndDataWrite v s
  | .pairValueWrite off v => Sys2Proof.Machine.execPairValueWrite off v s
  | .pairTimeout => Sys2Proof.Machine.execPairTimeout s
  | .roleNext x => Sys2Proof.Machine.execRoleNext x s
  | .resetReqIdle x => Sys2Proof.Machine.execResetReqIdle x s
  | .resetReqAllOff x => Sys2Proof.Machine.execResetReqAllOff x s
  | .resetReqCancel x => Sys2Proof.Machine.execResetReqCancel x s
  | .domainEn x => Sys2Proof.Machine.execDomainEn x s
  | .sysRestart => Sys2Proof.Machine.execSysRestart s
  | .domainEnApply => Sys2Proof.Machine.execDomainEnApply s
  | .registerWrite off v => Sys2Proof.Machine.execRegisterWrite off v s
  | .sysInfo c => Sys2Proof.Machine.execSysInfo c s
  | .sysNop c => Sys2Proof.Machine.execSysNop c s
  | .sysEcho c => Sys2Proof.Machine.execSysEcho c s
  | .sysStreamStatus c => Sys2Proof.Machine.execSysStreamStatus c s
  | .sysVoteStatus c => Sys2Proof.Machine.execSysVoteStatus c s
  | .tamperAlarm x => Sys2Proof.Machine.execTamperAlarm x s
  | .tamperSafeEntry => Sys2Proof.Machine.execTamperSafeEntry s
  | .pufHealthCheck pass errors blocks => Sys2Proof.Machine.execPufHealthCheck pass errors blocks s
  | .vaultIntegrityCheck bad => Sys2Proof.Machine.execVaultIntegrityCheck bad s
  | .entropyTestFail test => Sys2Proof.Machine.execEntropyTestFail test s
  | .entropyRetest good failed => Sys2Proof.Machine.execEntropyRetest good failed s
  | .sessionTimeout session => Sys2Proof.Machine.execSessionTimeout session s
  | .unlockAckTimeout => Sys2Proof.Machine.execUnlockAckTimeout s
  | .debugRequest kinds signer => Sys2Proof.Machine.execDebugRequest kinds signer s
  | .dbgTrstN => Sys2Proof.Machine.execDbgTrstN s
  | .secStatus c => Sys2Proof.Machine.execSecStatus c s
  | .secKeyInfo c => Sys2Proof.Machine.execSecKeyInfo c s
  | .secKeyGenerate c => Sys2Proof.Machine.execSecKeyGenerate c s
  | .secKeyImport c => Sys2Proof.Machine.execSecKeyImport c s
  | .secKeyDerive c => Sys2Proof.Machine.execSecKeyDerive c s
  | .secKeyRevoke c => Sys2Proof.Machine.execSecKeyRevoke c s
  | .secKeyDelete c => Sys2Proof.Machine.execSecKeyDelete c s
  | .secKeyExport c => Sys2Proof.Machine.execSecKeyExport c s
  | .secCipher c => Sys2Proof.Machine.execSecCipher c s
  | .secMac c => Sys2Proof.Machine.execSecMac c s
  | .secHash c => Sys2Proof.Machine.execSecHash c s
  | .secSign c => Sys2Proof.Machine.execSecSign c s
  | .secVerify c => Sys2Proof.Machine.execSecVerify c s
  | .secEcdh c => Sys2Proof.Machine.execSecEcdh c s
  | .secRandom c => Sys2Proof.Machine.execSecRandom c s
  | .secLifecycle c => Sys2Proof.Machine.execSecLifecycle c s
  | .secChallenge c => Sys2Proof.Machine.execSecChallenge c s
  | .secUnlock c => Sys2Proof.Machine.execSecUnlock c s
  | .secUnlockAck c => Sys2Proof.Machine.execSecUnlockAck c s
  | .secTamperLog c => Sys2Proof.Machine.execSecTamperLog c s
  | .secAttest c => Sys2Proof.Machine.execSecAttest c s
  | .secPufCheck c => Sys2Proof.Machine.execSecPufCheck c s
  | .secWorldMap c => Sys2Proof.Machine.execSecWorldMap c s
  | .secKeyInstall c => Sys2Proof.Machine.execSecKeyInstall c s
  | .image => Sys2Proof.Machine.execImage s
  | .verificationDone readFail => Sys2Proof.Machine.execVerificationDone readFail s
  | .migrated fail => Sys2Proof.Machine.execMigrated fail s
  | .preparingTimeout => Sys2Proof.Machine.execPreparingTimeout s
  | .handoverSwitch accepts busy => Sys2Proof.Machine.execHandoverSwitch accepts busy s
  | .handoverReversal => Sys2Proof.Machine.execHandoverReversal s
  | .confirmWindow => Sys2Proof.Machine.execConfirmWindow s
  | .updateRestart => Sys2Proof.Machine.execUpdateRestart s
  | .compaction eraseOk progOk => Sys2Proof.Machine.execCompaction eraseOk progOk s
  | .updateBegin c => Sys2Proof.Machine.execUpdateBegin c s
  | .updateVerify c => Sys2Proof.Machine.execUpdateVerify c s
  | .updateActivate c => Sys2Proof.Machine.execUpdateActivate c s
  | .updateConfirm burnOk c => Sys2Proof.Machine.execUpdateConfirm burnOk c s
  | .updateRevert c => Sys2Proof.Machine.execUpdateRevert c s
  | .updateAbort c => Sys2Proof.Machine.execUpdateAbort c s
  | .updateStatus c => Sys2Proof.Machine.execUpdateStatus c s
  | .journalStatus c => Sys2Proof.Machine.execJournalStatus c s
  | .journalCompact c => Sys2Proof.Machine.execJournalCompact c s
  | .neapEntry => Sys2Proof.Machine.execNeapEntry s
  | .wakeRtcAlarm => Sys2Proof.Machine.execWakeRtcAlarm s
  | .wakeGpio pin falling => Sys2Proof.Machine.execWakeGpio pin falling s
  | .powerPfw finalUs => Sys2Proof.Machine.execPowerPfw finalUs s
  | .powerPfwEnd lowUs => Sys2Proof.Machine.execPowerPfwEnd lowUs s
  | .pmbusReadback ack pecOk mv => Sys2Proof.Machine.execPmbusReadback ack pecOk mv s
  | .pmbAlert status => Sys2Proof.Machine.execPmbAlert status s
  | .lockstepDisagreement => Sys2Proof.Machine.execLockstepDisagreement s
  | .safeHeartbeatMiss => Sys2Proof.Machine.execSafeHeartbeatMiss s
  | .processorHeartbeat alive ecc hashOk => Sys2Proof.Machine.execProcessorHeartbeat alive ecc hashOk s
  | .patrolScrub memory part address correctable passEnd tx ty => Sys2Proof.Machine.execPatrolScrub memory part address correctable passEnd tx ty s
  | .sounding temp estMw pace => Sys2Proof.Machine.execSounding temp estMw pace s
  | .recorderLoss => Sys2Proof.Machine.execRecorderLoss s
  | .powerStatus c => Sys2Proof.Machine.execPowerStatus c s
  | .powerSetState c => Sys2Proof.Machine.execPowerSetState c s
  | .powerWakeConfig c => Sys2Proof.Machine.execPowerWakeConfig c s
  | .powerSoundingConfig c => Sys2Proof.Machine.execPowerSoundingConfig c s
  | .powerSoundingRead c => Sys2Proof.Machine.execPowerSoundingRead c s
  | .powerUndertowStatus c => Sys2Proof.Machine.execPowerUndertowStatus c s
  | .recorderRead c => Sys2Proof.Machine.execRecorderRead c s
  | .recorderSubscribe c => Sys2Proof.Machine.execRecorderSubscribe c s
  | .recorderConfig c => Sys2Proof.Machine.execRecorderConfig c s
  | .recorderStatus c => Sys2Proof.Machine.execRecorderStatus c s
  | .nodeWireReset loop pos => Sys2Proof.Machine.execNodeWireReset loop pos s
  | .channelEdge loop pos chan => Sys2Proof.Machine.execChannelEdge loop pos chan s
  | .enumerateAtNode loop idRec mods => Sys2Proof.Machine.execEnumerateAtNode loop idRec mods s
  | .manageAtNode p echo => Sys2Proof.Machine.execManageAtNode p echo s
  | .nodeBreakForward loop pos => Sys2Proof.Machine.execNodeBreakForward loop pos s
  | .shortLoad loop pos chan mA => Sys2Proof.Machine.execShortLoad loop pos chan mA s
  | .nodeOvertemperature loop pos temp => Sys2Proof.Machine.execNodeOvertemperature loop pos temp s
  | .vexlinkBlock port block => Sys2Proof.Machine.execVexlinkBlock port block s
  | .vddCoreLoss => Sys2Proof.Machine.execVddCoreLoss s
  | .ptpDelayReqSend port => Sys2Proof.Machine.execPtpDelayReqSend port s
  | .sysNopDelay mbx slot => Sys2Proof.Machine.execSysNopDelay mbx slot s
  | .selfTestPassed => Sys2Proof.Machine.execSelfTestPassed s

end Sys2Proof.Machine
end

