-- ==== Sys2Proof/Machine/Step.lean ====
section
/-!
DEFINITION. One step of the block: the command at the front of the queue; on an empty queue one cycle of the timebase island passes.
-/
namespace Sys2Proof.Machine

/-- The timebase island runs: its domain PD_CTRL is powered (17 R604). -/
def islandRuns (s : State) : Bool :=
  match s.power.st with
  | .spring | .neap | .safe => true
  | .off | .slack => false

/-- Nothing is commanded: one cycle of 2 ns passes where the timebase island runs (02 R52; log entry 1). -/
def idle (s : State) : State := if islandRuns s then advance 1 s else s

/-- The step: exec of the command at the front of the queue, with the queue's rest; on an empty queue the block idles. -/
def step (s : State) : Host.Outcome State Fault Refusal :=
  match s.pending with
  | [] => .next (idle s)
  | c :: r => exec c { s with pending := r }

/-- The state with the command that a word spells at the front of its queue; no word spells one. -/
def State.withFetchWord (s : State) (nbits w : Nat) : State :=
  match decodeTableWord nbits w with
  | some c => { s with pending := c :: s.pending }
  | none => s

end Sys2Proof.Machine
end

