-- ==== Sys2Proof/Safety.lean ====
section
/-!
DEFINITION. What counts as a safe outcome and a sound state of the block, and the words in which the statements say that a command completes.
-/
namespace Sys2Proof.Safety
open Sys2Proof.Machine

/-- Device memory is in its canonical form. -/
def memorySound (s : State) : Prop := memWf s.mem = true

/-- Every cell is OFF at the nodes and in the frame decided for the next commit (05 R174, R175). -/
def allCellsOff (s : State) : Bool := s.cell.allOff && !s.cell.nextOn

/-- A command answers a next state with a property. -/
def reaches (i : Instr) (s : State) (P : State → Prop) : Prop := ∃ t, exec i s = .next t ∧ P t

/-- A mailbox command passes the checks of 14 R653 and is not held back: READY is set, no FENCE waits (14 R520), LENGTH, EXTRA, the reserved bits,
the world, SAFE and the role are as the opcode asks. -/
def admitted (op minLen maxRes : Nat) (role : Option Nat) (c : Cmd) (s : State) : Prop :=
  s.harbour.ready = true ∧ fenceWaits c s = false ∧ checkCmd op minLen maxRes role c s = none

/-- A mailbox command completes in this step: with `status` and `result` for its opcode and tag, over the state `u` that its effect gives; the
completion and the interrupt lines are all that comes on top (14 R517, R520, R532). -/
def answers (i : Instr) (c : Cmd) (op status : Nat) (result : List Byte) (s u : State) : Prop :=
  exec i s = .next (settle (complete c.mbx c.slot op c.tag.toNat status result u))

/-- A mailbox command completes with OK, over a state with a property. -/
def oks (i : Instr) (c : Cmd) (op : Nat) (s : State) (P : State → Prop) : Prop := ∃ r u, answers i c op stOk r s u ∧ P u

/-- A mailbox command completes with ACCEPTED, over a state with a property. -/
def accepts (i : Instr) (c : Cmd) (op : Nat) (s : State) (P : State → Prop) : Prop := ∃ u, answers i c op stAccepted [] s u ∧ P u

/-- A mailbox command only reads: it completes with OK and its result, and nothing else changes. -/
def reads (i : Instr) (c : Cmd) (op : Nat) (r : List Byte) (s : State) : Prop := answers i c op stOk r s s

/-- The chapter of the spec whose rule the row of the opcode table cites. -/
def chapterOf (i : Instr) : Nat :=
  match i with
  | .tideBoundary => 2
  | .commitDeadline _ _ _ => 5
  | .vddAonRise _ _ => 18
  | .vddAonLoss => 17
  | .resetN _ _ => 18
  | .startUp _ => 17
  | .refLost _ => 2
  | .refRestored _ => 2
  | .ppsInCapture _ _ _ => 2
  | .sourceTimeout _ => 2
  | .domainALockHold => 2
  | .tqTest => 2
  | .rtcWrite => 2
  | .ppsOutArm _ => 2
  | .ppsOutActiveEdge _ => 2
  | .ppsOutInactiveEdge _ => 2
  | .ppsInMissing _ => 2
  | .captureEdge _ _ _ => 2
  | .compareRelease _ => 2
  | .comparePulseEnd _ => 2
  | .delayListDelivery _ => 2
  | .fullTargetArm _ _ => 2
  | .tidePeriodChange => 2
  | .timeGet _ => 2
  | .timeDomainConfig _ => 2
  | .timeSelect _ => 2
  | .timeMeasure _ => 2
  | .timeSet _ => 2
  | .timePpsOutConfig _ => 2
  | .timePpsInConfig _ => 2
  | .timeTideConfig _ => 2
  | .timeEpochSet _ => 2
  | .timeHoldoverConfig _ => 2
  | .timeCaptureConfig _ => 2
  | .timeCaptureRead _ => 2
  | .timeCompareArm _ => 2
  | .timeCompareCancel _ => 2
  | .timeAlarmSet _ => 2
  | .ifFrameMarker _ _ => 3
  | .gnssIfLinkLost _ _ => 3
  | .ifClockFault _ _ => 3
  | .spectralAverage _ _ => 3
  | .notchRelease _ _ => 3
  | .noiseProbeReading _ _ => 3
  | .jamClear _ => 3
  | .acqSearchDone _ _ _ _ _ _ _ _ => 3
  | .detectionDiscard => 3
  | .coherentIntervalEnd _ _ => 3
  | .pullInTimeout _ => 3
  | .gnssSatLost _ => 3
  | .measurementEpoch => 3
  | .measurementRecord _ _ => 3
  | .navUnitDecoded _ _ _ _ _ _ _ => 3
  | .burstStart => 3
  | .burstEnd _ _ => 3
  | .gnssConfig _ => 3
  | .gnssStatus _ => 3
  | .gnssFrontendSet _ => 3
  | .gnssAssist _ _ => 3
  | .gnssChannelRequest _ => 3
  | .gnssChannelRelease _ => 3
  | .gnssMeasSubscribe _ => 3
  | .gnssNavSubscribe _ => 3
  | .gnssNotchConfig _ => 3
  | .gnssLoopConfig _ => 3
  | .gnssRestart _ => 3
  | .gnssBurstConfig _ => 3
  | .gnssAcqConfig _ => 3
  | .rtkEpochSolution _ => 4
  | .poseEpochLate _ => 4
  | .rtcmFrame _ => 4
  | .corrStale => 4
  | .imuSample _ _ => 4
  | .imuLost => 4
  | .poseDrStart => 4
  | .poseDrLimit => 4
  | .baseSurveyFailed => 4
  | .correctionInterval _ => 4
  | .stationIntervalDue _ => 4
  | .poseInstallSet _ => 4
  | .poseFilterConfig _ => 4
  | .poseIntegrityConfig _ => 4
  | .poseImuConfig _ => 4
  | .poseImuReadSet _ => 4
  | .poseCorrConfig _ => 4
  | .poseStatus _ => 4
  | .poseSubscribe _ => 4
  | .poseAt _ => 4
  | .poseReset _ => 4
  | .posePcvLoad _ => 4
  | .baseRefSet _ => 4
  | .baseSurveyStart _ => 4
  | .baseCorrConfig _ => 4
  | .poseCorrSubscribe _ => 4
  | .poseNmeaSubscribe _ => 4
  | .poseBatch _ => 5
  | .cellEval _ _ _ => 5
  | .framePack _ => 5
  | .commitGate => 5
  | .writeback _ _ => 6
  | .cellManualEnd _ => 5
  | .cellAdd _ => 5
  | .cellWrite _ => 5
  | .cellRead _ => 5
  | .cellRemove _ => 5
  | .cellEngineConfig _ => 5
  | .cellSpot _ => 5
  | .cellSpotCancel _ => 5
  | .cellManual _ => 5
  | .cellStats _ => 5
  | .cellTraceSubscribe _ => 5
  | .cellFaultClear _ => 5
  | .rasterJobClosed => 6
  | .tilePacket => 6
  | .planeLoadApply => 6
  | .snapshotSend => 6
  | .wantTest => 6
  | .tileFill _ _ _ _ _ _ => 6
  | .flushInterval => 6
  | .deltaApply => 6
  | .tileDropApply => 6
  | .rasterJobDefine _ => 6
  | .rasterJobOpen _ => 6
  | .rasterJobClose _ => 6
  | .rasterJobDiscard _ => 6
  | .rasterJobStatus _ => 6
  | .rasterTileSave _ => 6
  | .rasterExport _ => 6
  | .rasterTileDrop _ => 6
  | .rasterLoadStatus _ => 6
  | .rasterCacheStatus _ => 6
  | .rasterQuery _ => 6
  | .rasterWantSubscribe _ => 6
  | .commandFrameSend _ => 7
  | .returnedFrame _ _ _ => 7
  | .knaniReturnMissing _ _ => 7
  | .breakFrame _ => 7
  | .manageFrame _ => 7
  | .segmentRemeasure _ _ => 7
  | .enumerateReturn _ _ _ _ => 7
  | .enumTimeout _ _ => 7
  | .watchdogPeriodRestore _ => 7
  | .idBusTransaction _ _ _ => 7
  | .nodeCommandFrame _ _ _ => 7
  | .nodeLatch _ _ => 7
  | .failsafeCommit _ _ => 7
  | .nodeBreakOriginate _ _ => 7
  | .lifeCountCheck => 8
  | .moduleHeaderRead _ _ _ _ => 8
  | .knaniLoopStart _ => 7
  | .knaniLoopStop _ => 7
  | .knaniLoopRestore _ => 7
  | .knaniLoopStatus _ => 7
  | .knaniNodeStatus _ => 7
  | .knaniIdRead _ => 7
  | .knaniIdWrite _ => 7
  | .knaniTimingMeasure _ => 7
  | .knaniNodeResume _ => 7
  | .channelConfig _ => 8
  | .channelStatus _ => 8
  | .channelFaultClear _ => 8
  | .channelNeighbourTest _ => 8
  | .channelExposureSet _ => 8
  | .channelDiagConfig _ => 8
  | .channelLifeRead _ => 8
  | .moveStart _ => 9
  | .setPointRelease _ _ => 9
  | .axisPlanStarved _ => 9
  | .chopperCycle _ _ _ _ => 9
  | .standstillTimer _ => 9
  | .limitDebouncedEdge _ _ _ _ => 9
  | .reverseDwell _ => 9
  | .homeTimeout _ => 9
  | .axisConfig _ => 9
  | .axisDriveConfig _ => 9
  | .axisLimitConfig _ => 9
  | .axisMove _ => 9
  | .axisStop _ => 9
  | .axisResume _ => 9
  | .axisHome _ => 9
  | .axisEnable _ => 9
  | .axisSetPosition _ => 9
  | .axisStatus _ => 9
  | .axisFaultClear _ => 9
  | .conversionFrame _ => 10
  | .alignedSample _ _ => 10
  | .supplyValue _ _ _ _ => 10
  | .intervalLatch _ => 10
  | .syntheticCrossing _ => 10
  | .recordRingSend => 10
  | .meterSave => 10
  | .meterSaveLate => 10
  | .meterChannelConfig _ => 10
  | .meterSupplyConfig _ => 10
  | .meterLatchConfig _ => 10
  | .meterRead _ => 10
  | .meterSubscribe _ => 10
  | .meterBillOpen _ => 10
  | .meterBillClose _ => 10
  | .meterSaveConfig _ => 10
  | .meterSample _ => 10
  | .slotStart _ _ => 11
  | .beacon _ => 11
  | .corrFrame _ => 11
  | .stopFrame _ => 11
  | .data _ => 11
  | .ackFrame _ => 11
  | .uplink _ => 11
  | .joinReq _ => 11
  | .joinResp _ => 11
  | .serviceReq _ => 11
  | .serviceResp _ => 11
  | .fleetBeaconMissed _ => 11
  | .joinRetry => 11
  | .supTimeout _ => 11
  | .messageReassemblyTimeout _ _ _ => 11
  | .fleetServiceTimeout => 11
  | .searchChannelTimeout => 11
  | .radioMsgPacket => 11
  | .fleetRadioConfig _ => 11
  | .fleetXcvrScript _ => 11
  | .fleetBaseStart _ => 11
  | .fleetBaseStop _ => 11
  | .fleetBaseSet _ => 11
  | .fleetChannelMap _ => 11
  | .fleetRoverRelease _ => 11
  | .fleetRoverInfo _ => 11
  | .fleetJoin _ => 11
  | .fleetLeave _ => 11
  | .fleetRecover _ => 11
  | .fleetStatus _ => 11
  | .fleetServiceSend _ => 11
  | .fleetServiceReply _ => 11
  | .corridorBatch => 12
  | .req _ _ => 12
  | .release _ _ => 12
  | .frame _ => 12
  | .reqTimeout _ => 12
  | .corridorRequest _ => 12
  | .corridorRelease _ => 12
  | .corridorLocalSet _ => 12
  | .corridorConfig _ => 12
  | .corridorRead _ => 12
  | .corridorServiceConfig _ => 12
  | .corridorRankSet _ => 12
  | .corridorBlock _ => 12
  | .corridorRevoke _ => 12
  | .corridorStatus _ => 12
  | .stopInRegister _ _ => 12
  | .stopInRelease => 12
  | .stopDiscrepancy _ => 12
  | .vexlinkStopTimeout => 12
  | .stopStatus _ => 12
  | .stopClear _ => 12
  | .stopConfig _ => 12
  | .symbolLock _ => 13
  | .vxLinkDown _ _ => 13
  | .stopMessage _ _ => 12
  | .poseMessage _ _ => 13
  | .timeMessage _ _ _ => 13
  | .delayReq _ _ _ => 13
  | .delayResp _ _ _ => 13
  | .ackMessage _ _ => 13
  | .coverageDelta _ _ => 6
  | .hostMsg _ _ => 13
  | .corrMessage _ _ => 13
  | .delayReqTimer _ => 13
  | .timeSendTimer => 13
  | .reliableRetry _ _ => 13
  | .vxMsgLost _ _ => 13
  | .vxMsgPacket => 13
  | .ethFrameRx _ _ _ => 13
  | .ethPacket => 13
  | .ethFrameTx _ => 13
  | .ethGateCycle _ => 13
  | .ethCollision _ => 13
  | .ethBackoffExpiry => 13
  | .ethLink _ _ _ => 13
  | .ptpMessage _ _ _ => 13
  | .ptpAnnounceTimeout _ => 13
  | .ptpSyncSend _ => 13
  | .canFrameRx _ _ _ _ _ _ => 13
  | .canPacket => 13
  | .canFrameTx _ => 13
  | .canBusError _ _ _ => 13
  | .canAutoRecovery _ => 13
  | .netVxConfig _ => 13
  | .netVxStatus _ => 13
  | .netEthConfig _ => 13
  | .netEthHashSet _ => 13
  | .netEthGateLoad _ => 13
  | .netEthGateCommit _ => 13
  | .netPtpConfig _ => 13
  | .netCanConfig _ => 13
  | .netCanFilterSet _ => 13
  | .netCanRecover _ => 13
  | .netMdio _ _ => 13
  | .netStatus _ => 13
  | .pcieLinkChange _ _ _ => 14
  | .mbxDoorbell _ _ _ => 14
  | .mbxAck _ _ => 14
  | .evtAck _ => 14
  | .mbxCfgWrite _ _ => 14
  | .sData0 _ => 14
  | .sEnd0 _ => 14
  | .sData1 => 14
  | .clear _ => 14
  | .abort => 14
  | .drop => 14
  | .packetAge => 14
  | .indDataRead => 14
  | .indDataWrite _ => 14
  | .pairValueWrite _ _ => 14
  | .pairTimeout => 14
  | .roleNext _ => 14
  | .resetReqIdle _ => 14
  | .resetReqAllOff _ => 14
  | .resetReqCancel _ => 14
  | .domainEn _ => 17
  | .sysRestart => 14
  | .domainEnApply => 17
  | .registerWrite _ _ => 0
  | .sysInfo _ => 14
  | .sysNop _ => 14
  | .sysEcho _ => 14
  | .sysStreamStatus _ => 14
  | .sysVoteStatus _ => 14
  | .tamperAlarm _ => 15
  | .tamperSafeEntry => 15
  | .pufHealthCheck _ _ _ => 15
  | .vaultIntegrityCheck _ => 15
  | .entropyTestFail _ => 15
  | .entropyRetest _ _ => 15
  | .sessionTimeout _ => 15
  | .unlockAckTimeout => 15
  | .debugRequest _ _ => 15
  | .dbgTrstN => 15
  | .secStatus _ => 15
  | .secKeyInfo _ => 15
  | .secKeyGenerate _ => 15
  | .secKeyImport _ => 15
  | .secKeyDerive _ => 15
  | .secKeyRevoke _ => 15
  | .secKeyDelete _ => 15
  | .secKeyExport _ => 15
  | .secCipher _ => 15
  | .secMac _ => 15
  | .secHash _ => 15
  | .secSign _ => 15
  | .secVerify _ => 15
  | .secEcdh _ => 15
  | .secRandom _ => 15
  | .secLifecycle _ => 15
  | .secChallenge _ => 15
  | .secUnlock _ => 15
  | .secUnlockAck _ => 15
  | .secTamperLog _ => 15
  | .secAttest _ => 15
  | .secPufCheck _ => 15
  | .secWorldMap _ => 15
  | .secKeyInstall _ => 15
  | .image => 16
  | .verificationDone _ => 16
  | .migrated _ => 16
  | .preparingTimeout => 16
  | .handoverSwitch _ _ => 16
  | .handoverReversal => 16
  | .confirmWindow => 16
  | .updateRestart => 16
  | .compaction _ _ => 16
  | .updateBegin _ => 16
  | .updateVerify _ => 16
  | .updateActivate _ => 16
  | .updateConfirm _ _ => 16
  | .updateRevert _ => 16
  | .updateAbort _ => 16
  | .updateStatus _ => 16
  | .journalStatus _ => 16
  | .journalCompact _ => 16
  | .neapEntry => 17
  | .wakeRtcAlarm => 17
  | .wakeGpio _ _ => 17
  | .powerPfw _ => 17
  | .powerPfwEnd _ => 17
  | .pmbusReadback _ _ _ => 17
  | .pmbAlert _ => 17
  | .lockstepDisagreement => 17
  | .safeHeartbeatMiss => 17
  | .processorHeartbeat _ _ _ => 17
  | .patrolScrub _ _ _ _ _ _ _ => 17
  | .sounding _ _ _ => 17
  | .recorderLoss => 17
  | .powerStatus _ => 17
  | .powerSetState _ => 17
  | .powerWakeConfig _ => 17
  | .powerSoundingConfig _ => 17
  | .powerSoundingRead _ => 17
  | .powerUndertowStatus _ => 17
  | .recorderRead _ => 17
  | .recorderSubscribe _ => 17
  | .recorderConfig _ => 17
  | .recorderStatus _ => 17
  | .nodeWireReset _ _ => 7
  | .channelEdge _ _ _ => 7
  | .enumerateAtNode _ _ _ => 7
  | .manageAtNode _ _ => 7
  | .nodeBreakForward _ _ => 7
  | .shortLoad _ _ _ _ => 8
  | .nodeOvertemperature _ _ _ => 8
  | .vexlinkBlock _ _ => 13
  | .vddCoreLoss => 17
  | .ptpDelayReqSend _ => 13
  | .sysNopDelay _ _ => 14
  | .selfTestPassed => 16

/-- What an opcode asks of a command: the command, its OPCODE, the least LENGTH, the most result bytes, and the role it serves (none: both). -/
structure CmdSpec where
  /-- the command that a row carries -/
  cmd : Cmd
  /-- its OPCODE -/
  opcode : Nat
  /-- the least LENGTH -/
  least : Nat
  /-- the most bytes its result takes -/
  most : Nat
  /-- the role it serves: 0 rover, 1 base -/
  role : Option Nat

/-- The mailbox commands of the opcode table with what their rules ask of them (00 R18, 14 R516, R653, and each chapter's command table). -/
def commandSpec (i : Instr) : Option CmdSpec :=
  match i with
  | .tideBoundary => none
  | .commitDeadline _ _ _ => none
  | .vddAonRise _ _ => none
  | .vddAonLoss => none
  | .resetN _ _ => none
  | .startUp _ => none
  | .refLost _ => none
  | .refRestored _ => none
  | .ppsInCapture _ _ _ => none
  | .sourceTimeout _ => none
  | .domainALockHold => none
  | .tqTest => none
  | .rtcWrite => none
  | .ppsOutArm _ => none
  | .ppsOutActiveEdge _ => none
  | .ppsOutInactiveEdge _ => none
  | .ppsInMissing _ => none
  | .captureEdge _ _ _ => none
  | .compareRelease _ => none
  | .comparePulseEnd _ => none
  | .delayListDelivery _ => none
  | .fullTargetArm _ _ => none
  | .tidePeriodChange => none
  | .timeGet c => some ⟨c, 0x0201, 0, 32, none⟩
  | .timeDomainConfig c => some ⟨c, 0x0202, 36, 0, none⟩
  | .timeSelect c => some ⟨c, 0x0203, 2, 0, none⟩
  | .timeMeasure c => some ⟨c, 0x0204, 28, 0, none⟩
  | .timeSet c => some ⟨c, 0x0205, 16, 0, none⟩
  | .timePpsOutConfig c => some ⟨c, 0x0206, 12, 0, none⟩
  | .timePpsInConfig c => some ⟨c, 0x0207, 12, 0, none⟩
  | .timeTideConfig c => some ⟨c, 0x0208, 1, 0, none⟩
  | .timeEpochSet c => some ⟨c, 0x0209, 12, 0, none⟩
  | .timeHoldoverConfig c => some ⟨c, 0x020A, 20, 0, none⟩
  | .timeCaptureConfig c => some ⟨c, 0x020B, 3, 0, none⟩
  | .timeCaptureRead c => some ⟨c, 0x020C, 1, 32, none⟩
  | .timeCompareArm c => some ⟨c, 0x020D, 32, 0, none⟩
  | .timeCompareCancel c => some ⟨c, 0x020E, 1, 0, none⟩
  | .timeAlarmSet c => some ⟨c, 0x020F, 16, 0, none⟩
  | .ifFrameMarker _ _ => none
  | .gnssIfLinkLost _ _ => none
  | .ifClockFault _ _ => none
  | .spectralAverage _ _ => none
  | .notchRelease _ _ => none
  | .noiseProbeReading _ _ => none
  | .jamClear _ => none
  | .acqSearchDone _ _ _ _ _ _ _ _ => none
  | .detectionDiscard => none
  | .coherentIntervalEnd _ _ => none
  | .pullInTimeout _ => none
  | .gnssSatLost _ => none
  | .measurementEpoch => none
  | .measurementRecord _ _ => none
  | .navUnitDecoded _ _ _ _ _ _ _ => none
  | .burstStart => none
  | .burstEnd _ _ => none
  | .gnssConfig c => some ⟨c, 0x0301, 7, 0, none⟩
  | .gnssStatus c => some ⟨c, 0x0302, 0, 40, none⟩
  | .gnssFrontendSet c => some ⟨c, 0x0303, (if uAt (prmOf c) 8 1 == 1 then 80 else 9), 0, none⟩
  | .gnssAssist c _ => some ⟨c, 0x0304, 1, 0, none⟩
  | .gnssChannelRequest c => some ⟨c, 0x0305, 4, 2, none⟩
  | .gnssChannelRelease c => some ⟨c, 0x0306, 2, 0, none⟩
  | .gnssMeasSubscribe c => some ⟨c, 0x0307, 1, 0, none⟩
  | .gnssNavSubscribe c => some ⟨c, 0x0308, 2, 0, none⟩
  | .gnssNotchConfig c => some ⟨c, 0x0309, 13, 0, none⟩
  | .gnssLoopConfig c => some ⟨c, 0x030A, 18, 0, none⟩
  | .gnssRestart c => some ⟨c, 0x030B, 1, 0, none⟩
  | .gnssBurstConfig c => some ⟨c, 0x030C, 8, 0, none⟩
  | .gnssAcqConfig c => some ⟨c, 0x030D, 14, 0, none⟩
  | .rtkEpochSolution _ => none
  | .poseEpochLate _ => none
  | .rtcmFrame _ => none
  | .corrStale => none
  | .imuSample _ _ => none
  | .imuLost => none
  | .poseDrStart => none
  | .poseDrLimit => none
  | .baseSurveyFailed => none
  | .correctionInterval _ => none
  | .stationIntervalDue _ => none
  | .poseInstallSet c => some ⟨c, 0x0401, 38, 0, none⟩
  | .poseFilterConfig c => some ⟨c, 0x0402, 14, 0, none⟩
  | .poseIntegrityConfig c => some ⟨c, 0x0403, 20, 0, none⟩
  | .poseImuConfig c => some ⟨c, 0x0404, 44, 0, none⟩
  | .poseImuReadSet c => some ⟨c, 0x0405, 7, 0, none⟩
  | .poseCorrConfig c => some ⟨c, 0x0406, 10, 0, (some 0)⟩
  | .poseStatus c => some ⟨c, 0x0407, 0, 33, none⟩
  | .poseSubscribe c => some ⟨c, 0x0408, 1, 0, none⟩
  | .poseAt c => some ⟨c, 0x0409, 24, 29, (some 0)⟩
  | .poseReset c => some ⟨c, 0x040A, 1, 0, none⟩
  | .posePcvLoad c => some ⟨c, 0x040B, 44, 0, none⟩
  | .baseRefSet c => some ⟨c, 0x040C, 28, 0, (some 1)⟩
  | .baseSurveyStart c => some ⟨c, 0x040D, 10, 0, (some 1)⟩
  | .baseCorrConfig c => some ⟨c, 0x040E, 3, 0, (some 1)⟩
  | .poseCorrSubscribe c => some ⟨c, 0x040F, 1, 0, none⟩
  | .poseNmeaSubscribe c => some ⟨c, 0x0410, 2, 0, none⟩
  | .poseBatch _ => none
  | .cellEval _ _ _ => none
  | .framePack _ => none
  | .commitGate => none
  | .writeback _ _ => none
  | .cellManualEnd _ => none
  | .cellAdd c => some ⟨c, 0x0501, 48, 2, (some 0)⟩
  | .cellWrite c => some ⟨c, 0x0502, 52, 0, (some 0)⟩
  | .cellRead c => some ⟨c, 0x0503, 2, 64, (some 0)⟩
  | .cellRemove c => some ⟨c, 0x0504, 2, 0, (some 0)⟩
  | .cellEngineConfig c => some ⟨c, 0x0505, 12, 0, (some 0)⟩
  | .cellSpot c => some ⟨c, 0x0506, 20, 0, (some 0)⟩
  | .cellSpotCancel c => some ⟨c, 0x0507, 4, 0, (some 0)⟩
  | .cellManual c => some ⟨c, 0x0508, 12, 0, (some 0)⟩
  | .cellStats c => some ⟨c, 0x0509, 0, 34, (some 0)⟩
  | .cellTraceSubscribe c => some ⟨c, 0x050A, 2, 0, (some 0)⟩
  | .cellFaultClear c => some ⟨c, 0x050B, 0, 0, (some 0)⟩
  | .rasterJobClosed => none
  | .tilePacket => none
  | .planeLoadApply => none
  | .snapshotSend => none
  | .wantTest => none
  | .tileFill _ _ _ _ _ _ => none
  | .flushInterval => none
  | .deltaApply => none
  | .tileDropApply => none
  | .rasterJobDefine c => some ⟨c, 0x0601, 52, 0, (some 0)⟩
  | .rasterJobOpen c => some ⟨c, 0x0602, 0, 0, (some 0)⟩
  | .rasterJobClose c => some ⟨c, 0x0603, 1, 0, (some 0)⟩
  | .rasterJobDiscard c => some ⟨c, 0x0604, 1, 0, (some 0)⟩
  | .rasterJobStatus c => some ⟨c, 0x0605, 0, 36, (some 0)⟩
  | .rasterTileSave c => some ⟨c, 0x0606, 12, 0, (some 0)⟩
  | .rasterExport c => some ⟨c, 0x0607, 2, 0, (some 0)⟩
  | .rasterTileDrop c => some ⟨c, 0x0608, 12, 0, (some 0)⟩
  | .rasterLoadStatus c => some ⟨c, 0x0609, 0, 16, (some 0)⟩
  | .rasterCacheStatus c => some ⟨c, 0x060A, 0, 20, (some 0)⟩
  | .rasterQuery c => some ⟨c, 0x060B, 12, 4, (some 0)⟩
  | .rasterWantSubscribe c => some ⟨c, 0x060C, 1, 0, (some 0)⟩
  | .commandFrameSend _ => none
  | .returnedFrame _ _ _ => none
  | .knaniReturnMissing _ _ => none
  | .breakFrame _ => none
  | .manageFrame _ => none
  | .segmentRemeasure _ _ => none
  | .enumerateReturn _ _ _ _ => none
  | .enumTimeout _ _ => none
  | .watchdogPeriodRestore _ => none
  | .idBusTransaction _ _ _ => none
  | .nodeCommandFrame _ _ _ => none
  | .nodeLatch _ _ => none
  | .failsafeCommit _ _ => none
  | .nodeBreakOriginate _ _ => none
  | .lifeCountCheck => none
  | .moduleHeaderRead _ _ _ _ => none
  | .knaniLoopStart c => some ⟨c, 0x0701, 3, 0, (some 0)⟩
  | .knaniLoopStop c => some ⟨c, 0x0702, 1, 0, (some 0)⟩
  | .knaniLoopRestore c => some ⟨c, 0x0703, 1, 0, (some 0)⟩
  | .knaniLoopStatus c => some ⟨c, 0x0704, 1, 28, (some 0)⟩
  | .knaniNodeStatus c => some ⟨c, 0x0705, 2, 24, (some 0)⟩
  | .knaniIdRead c => some ⟨c, 0x0706, 7, (min 128 (uAt (prmOf c) 6 1)), none⟩
  | .knaniIdWrite c => some ⟨c, 0x0707, (8 + min 128 (uAt (prmOf c) 6 1)), 0, none⟩
  | .knaniTimingMeasure c => some ⟨c, 0x0708, 1, 0, (some 0)⟩
  | .knaniNodeResume c => some ⟨c, 0x0710, 2, 0, (some 0)⟩
  | .channelConfig c => some ⟨c, 0x0709, 28, 0, (some 0)⟩
  | .channelStatus c => some ⟨c, 0x070A, 2, 32, (some 0)⟩
  | .channelFaultClear c => some ⟨c, 0x070B, 2, 0, (some 0)⟩
  | .channelNeighbourTest c => some ⟨c, 0x070C, 2, 0, (some 0)⟩
  | .channelExposureSet c => some ⟨c, 0x070D, 24, 0, (some 0)⟩
  | .channelDiagConfig c => some ⟨c, 0x070E, 5, 0, (some 0)⟩
  | .channelLifeRead c => some ⟨c, 0x070F, 2, 38, (some 0)⟩
  | .moveStart _ => none
  | .setPointRelease _ _ => none
  | .axisPlanStarved _ => none
  | .chopperCycle _ _ _ _ => none
  | .standstillTimer _ => none
  | .limitDebouncedEdge _ _ _ _ => none
  | .reverseDwell _ => none
  | .homeTimeout _ => none
  | .axisConfig c => some ⟨c, 0x0801, 40, 0, none⟩
  | .axisDriveConfig c => some ⟨c, 0x0802, 28, 0, none⟩
  | .axisLimitConfig c => some ⟨c, 0x0803, 2, 0, none⟩
  | .axisMove c => some ⟨c, 0x0804, 20, 0, none⟩
  | .axisStop c => some ⟨c, 0x0805, 1, 0, none⟩
  | .axisResume c => some ⟨c, 0x0806, 20, 0, none⟩
  | .axisHome c => some ⟨c, 0x0807, 22, 0, none⟩
  | .axisEnable c => some ⟨c, 0x0808, 2, 0, none⟩
  | .axisSetPosition c => some ⟨c, 0x0809, 8, 0, none⟩
  | .axisStatus c => some ⟨c, 0x080A, 1, 32, none⟩
  | .axisFaultClear c => some ⟨c, 0x080B, 1, 0, none⟩
  | .conversionFrame _ => none
  | .alignedSample _ _ => none
  | .supplyValue _ _ _ _ => none
  | .intervalLatch _ => none
  | .syntheticCrossing _ => none
  | .recordRingSend => none
  | .meterSave => none
  | .meterSaveLate => none
  | .meterChannelConfig c => some ⟨c, 0x0901, 28, 0, none⟩
  | .meterSupplyConfig c => some ⟨c, 0x0902, 20, 0, none⟩
  | .meterLatchConfig c => some ⟨c, 0x0903, 5, 0, none⟩
  | .meterRead c => some ⟨c, 0x0904, 1, 38, none⟩
  | .meterSubscribe c => some ⟨c, 0x0905, 4, 0, none⟩
  | .meterBillOpen c => some ⟨c, 0x0906, 12, 0, none⟩
  | .meterBillClose c => some ⟨c, 0x0907, 1, 0, none⟩
  | .meterSaveConfig c => some ⟨c, 0x0908, 8, 0, none⟩
  | .meterSample c => some ⟨c, 0x0909, 6, 0, none⟩
  | .slotStart _ _ => none
  | .beacon _ => none
  | .corrFrame _ => none
  | .stopFrame _ => none
  | .data _ => none
  | .ackFrame _ => none
  | .uplink _ => none
  | .joinReq _ => none
  | .joinResp _ => none
  | .serviceReq _ => none
  | .serviceResp _ => none
  | .fleetBeaconMissed _ => none
  | .joinRetry => none
  | .supTimeout _ => none
  | .messageReassemblyTimeout _ _ _ => none
  | .fleetServiceTimeout => none
  | .searchChannelTimeout => none
  | .radioMsgPacket => none
  | .fleetRadioConfig c => some ⟨c, 0x0A01, 32, 0, none⟩
  | .fleetXcvrScript c => some ⟨c, 0x0A02, (4 + min 16 (uAt (prmOf c) 1 1)), 0, none⟩
  | .fleetBaseStart c => some ⟨c, 0x0A03, 3, 0, (some 1)⟩
  | .fleetBaseStop c => some ⟨c, 0x0A04, 1, 0, (some 1)⟩
  | .fleetBaseSet c => some ⟨c, 0x0A05, 3, 0, (some 1)⟩
  | .fleetChannelMap c => some ⟨c, 0x0A06, 6, 0, (some 1)⟩
  | .fleetRoverRelease c => some ⟨c, 0x0A07, 1, 0, (some 1)⟩
  | .fleetRoverInfo c => some ⟨c, 0x0A08, 1, 32, (some 1)⟩
  | .fleetJoin c => some ⟨c, 0x0A09, 0, 0, (some 0)⟩
  | .fleetLeave c => some ⟨c, 0x0A0A, 0, 0, (some 0)⟩
  | .fleetRecover c => some ⟨c, 0x0A0B, 0, 0, (some 0)⟩
  | .fleetStatus c => some ⟨c, 0x0A0C, 0, 29, none⟩
  | .fleetServiceSend c => some ⟨c, 0x0A0D, (12 + min 32 (uAt (prmOf c) 8 1)), 0, none⟩
  | .fleetServiceReply c => some ⟨c, 0x0A0E, (20 + min 32 (uAt (prmOf c) 17 1)), 0, (some 1)⟩
  | .corridorBatch => none
  | .req _ _ => none
  | .release _ _ => none
  | .frame _ => none
  | .reqTimeout _ => none
  | .corridorRequest c => some ⟨c, 0x0B01, 26, 2, (some 0)⟩
  | .corridorRelease c => some ⟨c, 0x0B02, 2, 0, (some 0)⟩
  | .corridorLocalSet c => some ⟨c, 0x0B03, 26, 2, (some 0)⟩
  | .corridorConfig c => some ⟨c, 0x0B04, 5, 0, (some 0)⟩
  | .corridorRead c => some ⟨c, 0x0B05, 2, 32, none⟩
  | .corridorServiceConfig c => some ⟨c, 0x0B06, 32, 0, (some 1)⟩
  | .corridorRankSet c => some ⟨c, 0x0B07, 2, 0, (some 1)⟩
  | .corridorBlock c => some ⟨c, 0x0B08, 27, 2, (some 1)⟩
  | .corridorRevoke c => some ⟨c, 0x0B09, 2, 0, (some 1)⟩
  | .corridorStatus c => some ⟨c, 0x0B0A, 0, 12, none⟩
  | .stopInRegister _ _ => none
  | .stopInRelease => none
  | .stopDiscrepancy _ => none
  | .vexlinkStopTimeout => none
  | .stopStatus c => some ⟨c, 0x0C01, 0, 11, none⟩
  | .stopClear c => some ⟨c, 0x0C02, 0, 0, none⟩
  | .stopConfig c => some ⟨c, 0x0C03, 2, 0, none⟩
  | .symbolLock _ => none
  | .vxLinkDown _ _ => none
  | .stopMessage _ _ => none
  | .poseMessage _ _ => none
  | .timeMessage _ _ _ => none
  | .delayReq _ _ _ => none
  | .delayResp _ _ _ => none
  | .ackMessage _ _ => none
  | .coverageDelta _ _ => none
  | .hostMsg _ _ => none
  | .corrMessage _ _ => none
  | .delayReqTimer _ => none
  | .timeSendTimer => none
  | .reliableRetry _ _ => none
  | .vxMsgLost _ _ => none
  | .vxMsgPacket => none
  | .ethFrameRx _ _ _ => none
  | .ethPacket => none
  | .ethFrameTx _ => none
  | .ethGateCycle _ => none
  | .ethCollision _ => none
  | .ethBackoffExpiry => none
  | .ethLink _ _ _ => none
  | .ptpMessage _ _ _ => none
  | .ptpAnnounceTimeout _ => none
  | .ptpSyncSend _ => none
  | .canFrameRx _ _ _ _ _ _ => none
  | .canPacket => none
  | .canFrameTx _ => none
  | .canBusError _ _ _ => none
  | .canAutoRecovery _ => none
  | .netVxConfig c => some ⟨c, 0x0D01, 20, 0, none⟩
  | .netVxStatus c => some ⟨c, 0x0D02, 0, 56, none⟩
  | .netEthConfig c => some ⟨c, 0x0D03, 16, 0, none⟩
  | .netEthHashSet c => some ⟨c, 0x0D04, 12, 0, none⟩
  | .netEthGateLoad c => some ⟨c, 0x0D05, (4 + 5 * min 8 (uAt (prmOf c) 2 1)), 0, none⟩
  | .netEthGateCommit c => some ⟨c, 0x0D06, 16, 0, none⟩
  | .netPtpConfig c => some ⟨c, 0x0D07, 16, 0, none⟩
  | .netCanConfig c => some ⟨c, 0x0D08, 13, 0, none⟩
  | .netCanFilterSet c => some ⟨c, 0x0D09, 12, 0, none⟩
  | .netCanRecover c => some ⟨c, 0x0D0A, 1, 0, none⟩
  | .netMdio c _ => some ⟨c, 0x0D0B, 8, 2, none⟩
  | .netStatus c => some ⟨c, 0x0D0C, 0, 80, none⟩
  | .pcieLinkChange _ _ _ => none
  | .mbxDoorbell _ _ _ => none
  | .mbxAck _ _ => none
  | .evtAck _ => none
  | .mbxCfgWrite _ _ => none
  | .sData0 _ => none
  | .sEnd0 _ => none
  | .sData1 => none
  | .clear _ => none
  | .abort => none
  | .drop => none
  | .packetAge => none
  | .indDataRead => none
  | .indDataWrite _ => none
  | .pairValueWrite _ _ => none
  | .pairTimeout => none
  | .roleNext _ => none
  | .resetReqIdle _ => none
  | .resetReqAllOff _ => none
  | .resetReqCancel _ => none
  | .domainEn _ => none
  | .sysRestart => none
  | .domainEnApply => none
  | .registerWrite _ _ => none
  | .sysInfo c => some ⟨c, 0x0101, 0, 32, none⟩
  | .sysNop c => some ⟨c, 0x0102, 4, 0, none⟩
  | .sysEcho c => some ⟨c, 0x0103, 0, 0, none⟩
  | .sysStreamStatus c => some ⟨c, 0x0104, 0, 20, none⟩
  | .sysVoteStatus c => some ⟨c, 0x0105, 0, 20, none⟩
  | .tamperAlarm _ => none
  | .tamperSafeEntry => none
  | .pufHealthCheck _ _ _ => none
  | .vaultIntegrityCheck _ => none
  | .entropyTestFail _ => none
  | .entropyRetest _ _ => none
  | .sessionTimeout _ => none
  | .unlockAckTimeout => none
  | .debugRequest _ _ => none
  | .dbgTrstN => none
  | .secStatus c => some ⟨c, 0x0E01, 0, 23, none⟩
  | .secKeyInfo c => some ⟨c, 0x0E02, 1, 16, none⟩
  | .secKeyGenerate c => some ⟨c, 0x0E03, 20, 1, none⟩
  | .secKeyImport c => some ⟨c, 0x0E04, (importMin (prmOf c)), 1, none⟩
  | .secKeyDerive c => some ⟨c, 0x0E05, (24 + min 32 (uAt (prmOf c) 20 1)), 1, none⟩
  | .secKeyRevoke c => some ⟨c, 0x0E06, 1, 8, none⟩
  | .secKeyDelete c => some ⟨c, 0x0E07, 1, 0, none⟩
  | .secKeyExport c => some ⟨c, 0x0E08, 2, 0, none⟩
  | .secCipher c => some ⟨c, 0x0E09, (40 + min 160 (uAt (prmOf c) 5 1)), (cipherMax (prmOf c)), none⟩
  | .secMac c => some ⟨c, 0x0E0A, (56 + min 160 (uAt (prmOf c) 5 1)), 0, none⟩
  | .secHash c => some ⟨c, 0x0E0B, (8 + min 160 (uAt (prmOf c) 5 1)), 0, none⟩
  | .secSign c => some ⟨c, 0x0E0C, 40, 0, none⟩
  | .secVerify c => some ⟨c, 0x0E0D, 120, 0, none⟩
  | .secEcdh c => some ⟨c, 0x0E0E, 85, 1, none⟩
  | .secRandom c => some ⟨c, 0x0E0F, 1, (min 128 (uAt (prmOf c) 0 1)), none⟩
  | .secLifecycle c => some ⟨c, 0x0E10, (lifecycleMin c), 0, none⟩
  | .secChallenge c => some ⟨c, 0x0E11, 0, 64, none⟩
  | .secUnlock c => some ⟨c, 0x0E12, 96, 0, none⟩
  | .secUnlockAck c => some ⟨c, 0x0E13, 32, 0, none⟩
  | .secTamperLog c => some ⟨c, 0x0E14, 0, 0, none⟩
  | .secAttest c => some ⟨c, 0x0E15, 32, 88, none⟩
  | .secPufCheck c => some ⟨c, 0x0E16, 0, 0, none⟩
  | .secWorldMap c => some ⟨c, 0x0E17, 2, 0, none⟩
  | .secKeyInstall c => some ⟨c, 0x0E18, 101, 0, none⟩
  | .image => none
  | .verificationDone _ => none
  | .migrated _ => none
  | .preparingTimeout => none
  | .handoverSwitch _ _ => none
  | .handoverReversal => none
  | .confirmWindow => none
  | .updateRestart => none
  | .compaction _ _ => none
  | .updateBegin c => some ⟨c, 0x0F01, 8, 0, none⟩
  | .updateVerify c => some ⟨c, 0x0F02, 0, 0, none⟩
  | .updateActivate c => some ⟨c, 0x0F03, 8, 0, none⟩
  | .updateConfirm _ c => some ⟨c, 0x0F04, 0, 0, none⟩
  | .updateRevert c => some ⟨c, 0x0F05, 0, 0, none⟩
  | .updateAbort c => some ⟨c, 0x0F06, 0, 0, none⟩
  | .updateStatus c => some ⟨c, 0x0F07, 0, 16, none⟩
  | .journalStatus c => some ⟨c, 0x0F08, 0, 20, none⟩
  | .journalCompact c => some ⟨c, 0x0F09, 0, 0, none⟩
  | .neapEntry => none
  | .wakeRtcAlarm => none
  | .wakeGpio _ _ => none
  | .powerPfw _ => none
  | .powerPfwEnd _ => none
  | .pmbusReadback _ _ _ => none
  | .pmbAlert _ => none
  | .lockstepDisagreement => none
  | .safeHeartbeatMiss => none
  | .processorHeartbeat _ _ _ => none
  | .patrolScrub _ _ _ _ _ _ _ => none
  | .sounding _ _ _ => none
  | .recorderLoss => none
  | .powerStatus c => some ⟨c, 0x1001, 0, 24, none⟩
  | .powerSetState c => some ⟨c, 0x1002, 1, 0, none⟩
  | .powerWakeConfig c => some ⟨c, 0x1003, 12, 0, none⟩
  | .powerSoundingConfig c => some ⟨c, 0x1004, 3, 0, none⟩
  | .powerSoundingRead c => some ⟨c, 0x1005, 1, (64 * min 3 (uAt (prmOf c) 0 1)), none⟩
  | .powerUndertowStatus c => some ⟨c, 0x1006, 0, 48, none⟩
  | .recorderRead c => some ⟨c, 0x1101, 4, (min 224 (recorderReadMax c)), none⟩
  | .recorderSubscribe c => some ⟨c, 0x1102, 1, 0, none⟩
  | .recorderConfig c => some ⟨c, 0x1103, 4, 0, none⟩
  | .recorderStatus c => some ⟨c, 0x1104, 0, 40, none⟩
  | .nodeWireReset _ _ => none
  | .channelEdge _ _ _ => none
  | .enumerateAtNode _ _ _ => none
  | .manageAtNode _ _ => none
  | .nodeBreakForward _ _ => none
  | .shortLoad _ _ _ _ => none
  | .nodeOvertemperature _ _ _ => none
  | .vexlinkBlock _ _ => none
  | .vddCoreLoss => none
  | .ptpDelayReqSend _ => none
  | .sysNopDelay _ _ => none
  | .selfTestPassed => none

/-- LENGTH and EXTRA fail check 2 of 14 R653: LENGTH is beyond the parameter area or below what the opcode needs, the slots run past the mailbox or, as the
doorbell found, into another command's, or the result has no room. -/
def lengthFails (k : CmdSpec) (s : State) : Prop :=
  areaOf k.cmd < k.cmd.len.toNat ∨ k.cmd.len.toNat < k.least ∨ areaOf k.cmd < k.most ∨
  (match (heldIx s k.cmd.mbx k.cmd.slot).bind (fun ix => (mbxOf s k.cmd.mbx).held[ix]?) with
    | some h => h.badLen = true
    | none => (mbxOf s k.cmd.mbx).slots < k.cmd.slot + 1 + extraOf k.cmd)

/-- The reserved bits of FLAGS or byte 7 fail check 3 of 14 R653. -/
def reservedFails (k : CmdSpec) : Prop := 8 ≤ k.cmd.flags.toNat ∨ k.cmd.byte7 ≠ 0

/-- The world fails check 4 of 14 R653. -/
def worldFails (k : CmdSpec) (s : State) : Prop :=
  (needsWorldS k.opcode = true ∧ worldS s k.cmd.mbx = false) ∨ (needsWorldN k.opcode = true ∧ worldS s k.cmd.mbx = true)

/-- The mailbox command that a row carries: none where the row is an event at a pin, a register access or an instant of the device's own. -/
def commandOf (i : Instr) : Option Cmd :=
  match i with
  | .timeGet c => some c
  | .timeDomainConfig c => some c
  | .timeSelect c => some c
  | .timeMeasure c => some c
  | .timeSet c => some c
  | .timePpsOutConfig c => some c
  | .timePpsInConfig c => some c
  | .timeTideConfig c => some c
  | .timeEpochSet c => some c
  | .timeHoldoverConfig c => some c
  | .timeCaptureConfig c => some c
  | .timeCaptureRead c => some c
  | .timeCompareArm c => some c
  | .timeCompareCancel c => some c
  | .timeAlarmSet c => some c
  | .gnssConfig c => some c
  | .gnssStatus c => some c
  | .gnssFrontendSet c => some c
  | .gnssAssist c _ => some c
  | .gnssChannelRequest c => some c
  | .gnssChannelRelease c => some c
  | .gnssMeasSubscribe c => some c
  | .gnssNavSubscribe c => some c
  | .gnssNotchConfig c => some c
  | .gnssLoopConfig c => some c
  | .gnssRestart c => some c
  | .gnssBurstConfig c => some c
  | .gnssAcqConfig c => some c
  | .poseInstallSet c => some c
  | .poseFilterConfig c => some c
  | .poseIntegrityConfig c => some c
  | .poseImuConfig c => some c
  | .poseImuReadSet c => some c
  | .poseCorrConfig c => some c
  | .poseStatus c => some c
  | .poseSubscribe c => some c
  | .poseAt c => some c
  | .poseReset c => some c
  | .posePcvLoad c => some c
  | .baseRefSet c => some c
  | .baseSurveyStart c => some c
  | .baseCorrConfig c => some c
  | .poseCorrSubscribe c => some c
  | .poseNmeaSubscribe c => some c
  | .cellAdd c => some c
  | .cellWrite c => some c
  | .cellRead c => some c
  | .cellRemove c => some c
  | .cellEngineConfig c => some c
  | .cellSpot c => some c
  | .cellSpotCancel c => some c
  | .cellManual c => some c
  | .cellStats c => some c
  | .cellTraceSubscribe c => some c
  | .cellFaultClear c => some c
  | .rasterJobDefine c => some c
  | .rasterJobOpen c => some c
  | .rasterJobClose c => some c
  | .rasterJobDiscard c => some c
  | .rasterJobStatus c => some c
  | .rasterTileSave c => some c
  | .rasterExport c => some c
  | .rasterTileDrop c => some c
  | .rasterLoadStatus c => some c
  | .rasterCacheStatus c => some c
  | .rasterQuery c => some c
  | .rasterWantSubscribe c => some c
  | .knaniLoopStart c => some c
  | .knaniLoopStop c => some c
  | .knaniLoopRestore c => some c
  | .knaniLoopStatus c => some c
  | .knaniNodeStatus c => some c
  | .knaniIdRead c => some c
  | .knaniIdWrite c => some c
  | .knaniTimingMeasure c => some c
  | .knaniNodeResume c => some c
  | .channelConfig c => some c
  | .channelStatus c => some c
  | .channelFaultClear c => some c
  | .channelNeighbourTest c => some c
  | .channelExposureSet c => some c
  | .channelDiagConfig c => some c
  | .channelLifeRead c => some c
  | .axisConfig c => some c
  | .axisDriveConfig c => some c
  | .axisLimitConfig c => some c
  | .axisMove c => some c
  | .axisStop c => some c
  | .axisResume c => some c
  | .axisHome c => some c
  | .axisEnable c => some c
  | .axisSetPosition c => some c
  | .axisStatus c => some c
  | .axisFaultClear c => some c
  | .meterChannelConfig c => some c
  | .meterSupplyConfig c => some c
  | .meterLatchConfig c => some c
  | .meterRead c => some c
  | .meterSubscribe c => some c
  | .meterBillOpen c => some c
  | .meterBillClose c => some c
  | .meterSaveConfig c => some c
  | .meterSample c => some c
  | .fleetRadioConfig c => some c
  | .fleetXcvrScript c => some c
  | .fleetBaseStart c => some c
  | .fleetBaseStop c => some c
  | .fleetBaseSet c => some c
  | .fleetChannelMap c => some c
  | .fleetRoverRelease c => some c
  | .fleetRoverInfo c => some c
  | .fleetJoin c => some c
  | .fleetLeave c => some c
  | .fleetRecover c => some c
  | .fleetStatus c => some c
  | .fleetServiceSend c => some c
  | .fleetServiceReply c => some c
  | .corridorRequest c => some c
  | .corridorRelease c => some c
  | .corridorLocalSet c => some c
  | .corridorConfig c => some c
  | .corridorRead c => some c
  | .corridorServiceConfig c => some c
  | .corridorRankSet c => some c
  | .corridorBlock c => some c
  | .corridorRevoke c => some c
  | .corridorStatus c => some c
  | .stopStatus c => some c
  | .stopClear c => some c
  | .stopConfig c => some c
  | .netVxConfig c => some c
  | .netVxStatus c => some c
  | .netEthConfig c => some c
  | .netEthHashSet c => some c
  | .netEthGateLoad c => some c
  | .netEthGateCommit c => some c
  | .netPtpConfig c => some c
  | .netCanConfig c => some c
  | .netCanFilterSet c => some c
  | .netCanRecover c => some c
  | .netMdio c _ => some c
  | .netStatus c => some c
  | .sysInfo c => some c
  | .sysNop c => some c
  | .sysEcho c => some c
  | .sysStreamStatus c => some c
  | .sysVoteStatus c => some c
  | .secStatus c => some c
  | .secKeyInfo c => some c
  | .secKeyGenerate c => some c
  | .secKeyImport c => some c
  | .secKeyDerive c => some c
  | .secKeyRevoke c => some c
  | .secKeyDelete c => some c
  | .secKeyExport c => some c
  | .secCipher c => some c
  | .secMac c => some c
  | .secHash c => some c
  | .secSign c => some c
  | .secVerify c => some c
  | .secEcdh c => some c
  | .secRandom c => some c
  | .secLifecycle c => some c
  | .secChallenge c => some c
  | .secUnlock c => some c
  | .secUnlockAck c => some c
  | .secTamperLog c => some c
  | .secAttest c => some c
  | .secPufCheck c => some c
  | .secWorldMap c => some c
  | .secKeyInstall c => some c
  | .updateBegin c => some c
  | .updateVerify c => some c
  | .updateActivate c => some c
  | .updateConfirm _ c => some c
  | .updateRevert c => some c
  | .updateAbort c => some c
  | .updateStatus c => some c
  | .journalStatus c => some c
  | .journalCompact c => some c
  | .powerStatus c => some c
  | .powerSetState c => some c
  | .powerWakeConfig c => some c
  | .powerSoundingConfig c => some c
  | .powerSoundingRead c => some c
  | .powerUndertowStatus c => some c
  | .recorderRead c => some c
  | .recorderSubscribe c => some c
  | .recorderConfig c => some c
  | .recorderStatus c => some c
  | _ => none

/-- A row that is no command and yet may write device memory: it completes commands that wait, writes through the indirect window, or ends
in a restart or in SAFE. -/
def mayStore (i : Instr) : Bool :=
  match i with
  | .tideBoundary => true
  | .commitDeadline _ _ _ => true
  | .vddAonLoss => true
  | .resetN _ _ => true
  | .startUp _ => true
  | .refLost _ => true
  | .returnedFrame _ _ _ => true
  | .knaniReturnMissing _ _ => true
  | .breakFrame _ => true
  | .manageFrame _ => true
  | .enumerateReturn _ _ _ _ => true
  | .enumTimeout _ _ => true
  | .idBusTransaction _ _ _ => true
  | .moveStart _ => true
  | .setPointRelease _ _ => true
  | .axisPlanStarved _ => true
  | .chopperCycle _ _ _ _ => true
  | .limitDebouncedEdge _ _ _ _ => true
  | .beacon _ => true
  | .stopFrame _ => true
  | .fleetBeaconMissed _ => true
  | .corridorBatch => true
  | .stopInRegister _ _ => true
  | .stopDiscrepancy _ => true
  | .stopMessage _ _ => true
  | .mbxDoorbell _ _ _ => true
  | .indDataWrite _ => true
  | .resetReqIdle _ => true
  | .resetReqAllOff _ => true
  | .resetReqCancel _ => true
  | .sysRestart => true
  | .domainEnApply => true
  | .tamperAlarm _ => true
  | .tamperSafeEntry => true
  | .debugRequest _ _ => true
  | .updateRestart => true
  | .neapEntry => true
  | .wakeRtcAlarm => true
  | .wakeGpio _ _ => true
  | .powerPfw _ => true
  | .lockstepDisagreement => true
  | .safeHeartbeatMiss => true
  | .processorHeartbeat _ _ _ => true
  | .patrolScrub _ _ _ _ _ _ _ => true
  | .vddCoreLoss => true
  | .sysNopDelay _ _ => true
  | _ => false

end Sys2Proof.Safety
end

