-- ==== Sys2Proof/Certificates/Slice0/Obligations.lean ====
section
/-!
DEFINITION. The statements about the block, for the provers. A statement named for a chapter says, for the rows of that chapter, that exec answers a next
state and what that state holds, under hypotheses on the state and the operands alone.
-/
open Sys2Proof Sys2Proof.Machine Sys2Proof.Safety

/-- A step runs the command at the front of the queue on the state with the queue's rest; on an empty queue one 2 ns cycle passes in SPRING, NEAP and SAFE, and
nothing happens in OFF and SLACK (the model's own queue and clock, log entry 1). -/
def Obligations.StepRunsFrontCommand : Prop :=
  (∀ (i : Instr) (r : List Instr) (s : State), step { s with pending := i :: r } = exec i { s with pending := r }) ∧
  (∀ (s : State), s.pending = [] → (s.power.st = .off ∨ s.power.st = .slack) → step s = .next s) ∧
  (∀ (s : State), s.pending = [] → (s.power.st = .spring ∨ s.power.st = .neap ∨ s.power.st = .safe) →
    ∃ t, step s = .next t ∧ t.time.cyc = s.time.cyc + 1 ∧ t.pending = [] ∧ t.mem = s.mem ∧ t.votes = s.votes ∧ t.otp = s.otp ∧ t.gnss = s.gnss ∧ t.cell = s.cell ∧ t.axes = s.axes ∧ t.sec = s.sec ∧ t.journal = s.journal)

/-- The state after reset: no command waits, no byte of memory is listed, every register block of Harbour, the copies under vote and OTP stand as chapters 14, 15
and 17 give them (14 R507, R510, R514, 16 R571, 17 R604, R614), and the conditions that every step keeps hold. Its power state, OFF, is the model's choice
(log entry 4). -/
def Obligations.ResetState : Prop :=
  State.reset.pending = [] ∧ State.reset.mem = [] ∧ memorySound State.reset ∧ State.reset.otp.tamperEpoch ≤ 64 ∧ State.reset.power.st = .off ∧ State.reset.harbour.ready = false ∧
  State.reset.harbour.credit = 64 ∧ State.reset.harbour.intMask = 0xFFFFFFFF ∧ State.reset.harbour.intRoute = [0xFFFFFFFF, 0, 0, 0] ∧ State.reset.harbour.refused = 0 ∧
  State.reset.harbour.mbxs.length = 16 ∧ (∀ b ∈ State.reset.harbour.mbxs, b.cfg = 6 ∧ b.baseLo = 0 ∧ b.baseHi = 0 ∧ b.held = [] ∧ b.released = 0 ∧ b.ack = 0) ∧
  State.reset.harbour.s0.en = true ∧ State.reset.harbour.s0.wm = 0x01020080 ∧ State.reset.harbour.s1.en = true ∧ State.reset.harbour.s1.wm = 0x00100001 ∧ State.reset.harbour.s1.ageUs = 1000 ∧
  State.reset.harbour.s0.drops = 0 ∧ State.reset.harbour.s1.drops = 0 ∧ State.reset.harbour.indAddr = 0 ∧ State.reset.harbour.autoInc = true ∧ State.reset.harbour.resetReq = 0 ∧
  State.reset.update.bank = 0 ∧ allCellsOff State.reset = true ∧ State.reset.stop.st ≠ .clear

/-- The queue is first in, first out: no row adds to it, reorders it or takes more than its own place (the model's queue, log entry 1). -/
def Obligations.QueueFirstInFirstOut : Prop :=
  ∀ (i : Instr) (r : List Instr) (s t : State), step { s with pending := i :: r } = .next t → t.pending = r

/-- OTP only grows, whatever the step: the anti-rollback counter and TAMPER_EPOCH never fall, TAMPER_EPOCH stays within its 64 bits, and WORLD_MAP and the key
hashes, once written, never change (15 R536, R542, R559, R561, 16 R574). -/
def Obligations.OtpOnlyGrows : Prop :=
  ∀ (s t : State), s.otp.tamperEpoch ≤ 64 → step s = .next t →
    t.otp.tamperEpoch ≤ 64 ∧ s.otp.tamperEpoch ≤ t.otp.tamperEpoch ∧ s.otp.counter ≤ t.otp.counter ∧ (s.otp.worldMap.isSome = true → t.otp.worldMap = s.otp.worldMap) ∧
    (s.otp.hash3.isSome = true → t.otp.hash3 = s.otp.hash3) ∧ (s.otp.hash4.isSome = true → t.otp.hash4 = s.otp.hash4)

/-- Device memory keeps its canonical form over every step (14 R509). -/
def Obligations.MemoryStaysCanonical : Prop :=
  ∀ (s t : State), memorySound s → step s = .next t → memorySound t

/-- TAMPER_EPOCH holds 64 bits: no start-up takes it beyond 64. An alarm in PROVISION, FIELD or RETURN that finds them all burnt, as it falls or as start-up reads
it, moves the life-cycle to SCRAP (15 R561). -/
def Obligations.ExhaustedTamperEpochScraps : Prop :=
  (∀ (b : Boot) (s t : State), s.otp.tamperEpoch ≤ 64 → exec (.startUp b) s = .next t → t.otp.tamperEpoch ≤ 64) ∧
  (∀ (n mv : Nat) (s : State), sensorLive n s = true → coreQuiet n mv s = false → 1 ≤ lifeCycle s → lifeCycle s ≤ 3 → s.otp.tamperEpoch = 64 →
    reaches (.tamperAlarm ⟨n, mv⟩) s (fun u => u.otp.lifeCycle = 4 ∧ u.otp.tamperEpoch = 64 ∧ u.power.cause = 5 ∧ u.sec.keys = [])) ∧
  (∀ (b : Boot) (n : Nat) (s : State), s.power.st = .off → s.power.rails = .released → lcPending s = none → b.refIn = true → b.tamper = some n → 1 ≤ s.otp.lifeCycle → s.otp.lifeCycle ≤ 3 → s.otp.tamperEpoch = 64 →
    reaches (.startUp b) s (fun u => u.otp.lifeCycle = 4 ∧ u.otp.tamperEpoch = 64 ∧ u.power.cause = 5))

/-- GSTAT has its layout: each bit follows its cause, the reserved bits read zero, LIFE_CYCLE is triplicated, and before READY the register reads its reset value,
zero (14 R511). GFAULT has its layout: each bit follows its cause and clears when the cause has gone; the rest reads zero, and before READY all of it does (14
R512). GROLE has its layout, and ROLE is triplicated: one copy that differs from the other two does not change what is read (14 R513). -/
def Obligations.GlobalRegisterLayouts : Prop :=
    ((∀ (s : State), s.harbour.ready = false → barRead 0x0100 s = 0) ∧
  (∀ (s : State), s.harbour.ready = true → barRead 0x0100 s < 2 ^ 24 ∧ bit (barRead 0x0100 s) 16 = true ∧
    bit (barRead 0x0100 s) 23 = decide (s.harbour.resetReq ≠ 0) ∧
    bit (barRead 0x0100 s) 22 = decide (s.update.st = .preparing ∨ s.update.st = .handover ∨ s.update.st = .trial) ∧
    bit (barRead 0x0100 s) 21 = decide ((followed s).st = .holdover ∨ (followed s).st = .freerun) ∧
    bit (barRead 0x0100 s) 20 = (decide (roleOf s = 0) && integrityOk s) ∧
    bit (barRead 0x0100 s) 19 = decide (2 ≤ s.raster.job) ∧ bit (barRead 0x0100 s) 18 = stopInForce s ∧ bit (barRead 0x0100 s) 17 = s.harbour.quadSpi ∧
    barRead 0x0100 s / 2 ^ 11 % 2 ^ 5 = 0 ∧ barRead 0x0100 s / 2 ^ 8 % 8 = lifeCycle s % 8 ∧ barRead 0x0100 s / 2 ^ 3 % 2 ^ 5 = 0 ∧
    (s.power.st = .neap → barRead 0x0100 s % 8 = 2) ∧ (s.power.st = .spring → barRead 0x0100 s % 8 = 3) ∧ (s.power.st = .safe → barRead 0x0100 s % 8 = 4)) ∧
  (∀ (s : State) (x y : Nat), s.harbour.ready = true → x ≤ 4 →
    (s.votes.lifeCycle.c0, s.votes.lifeCycle.c1, s.votes.lifeCycle.c2) ∈ [(x, x, x), (y, x, x), (x, y, x), (x, x, y)] → barRead 0x0100 s / 2 ^ 8 % 8 = x)) ∧
  ((∀ (s : State), s.harbour.ready = false → barRead 0x0104 s = 0) ∧
  (∀ (s : State), s.harbour.ready = true → barRead 0x0104 s < 2 ^ 10 ∧
    bit (barRead 0x0104 s) 9 = s.axes.any (fun a => decide (a.st = .fault)) ∧ bit (barRead 0x0104 s) 8 = s.knani.loops.any (fun l => decide (l.st = 3)) ∧ bit (barRead 0x0104 s) 7 = dramOut s ∧
    bit (barRead 0x0104 s) 6 = (s.journal.refusing || decide (s.journal.erased.length ≤ 2)) ∧ bit (barRead 0x0104 s) 5 = s.power.pmbusFault ∧ bit (barRead 0x0104 s) 4 = s.votes.failed ∧
    bit (barRead 0x0104 s) 3 = s.power.tamperSafe ∧ bit (barRead 0x0104 s) 2 = decide (s.fleet.st = .lost) ∧ bit (barRead 0x0104 s) 1 = s.time.refLost ∧ bit (barRead 0x0104 s) 0 = cellLateRun s)) ∧
  ((∀ s : State, barRead 0x0108 s < 2 ^ 10 ∧ barRead 0x0108 s / 4 % 2 ^ 6 = 0 ∧ (roleOf s ≤ 1 → barRead 0x0108 s % 4 = roleOf s) ∧
    (setting s (settingKey 1 0) = none → barRead 0x0108 s / 2 ^ 8 = 3) ∧
    (∀ r, setting s (settingKey 1 0) = some r → uAt r.payload 0 1 ≤ 1 → barRead 0x0108 s / 2 ^ 8 = uAt r.payload 0 1)) ∧
  (∀ (s : State) (x y : Nat), x ≤ 1 → (s.votes.role.c0, s.votes.role.c1, s.votes.role.c2) ∈ [(x, x, x), (y, x, x), (x, y, x), (x, x, y)] → barRead 0x0108 s % 4 = x))

/-- A completion has its layout, lies in the completion slot of the command's first slot, and follows a result of more than 4 bytes, which lies in the parameter
area from parameter byte 0; in PCIe mode the result is sent first, then the 16 bytes in one transfer, and after them only MSIs; nothing else of memory changes
(14 R517). `r` is RELEASED once it is released. -/
def Obligations.CompletionLayout : Prop :=
  (∀ (m k op tag st r : Nat) (res : List Byte) (s : State), heldIx s m k = none → s.harbour.quadSpi = true → memorySound s → m < s.harbour.mbxs.length → k < (mbxOf s m).slots → (mbxOf s m).slots ≤ 64 →
    64 * k + 8 + res.length ≤ 64 * (mbxOf s m).slots → ((mbxOf s m).released + 1) % 65536 = r →
    memGets (complete m k op tag st res s).mem (0x01000000 + 0x2000 * m + 64 * (mbxOf s m).slots + 16 * k) 16 =
      le 2 op ++ le 2 st ++ le 2 tag ++ [1] ++ le 1 k ++ le 2 res.length ++ le 2 r ++ (if res.length ≤ 4 then res ++ List.replicate (4 - res.length) 0 else [0, 0, 0, 0]) ∧
    (4 < res.length → memGets (complete m k op tag st res s).mem (0x01000000 + 0x2000 * m + 64 * k + 8) res.length = res) ∧
    (mbxOf (complete m k op tag st res s) m).released = r ∧
    (∀ a, (a < 0x01000000 + 0x2000 * m + 64 * k + 8 ∨ 0x01000000 + 0x2000 * m + 64 * k + 8 + res.length ≤ a) →
      (a < 0x01000000 + 0x2000 * m + 64 * (mbxOf s m).slots + 16 * k ∨ 0x01000000 + 0x2000 * m + 64 * (mbxOf s m).slots + 16 * k + 16 ≤ a) →
      memGet (complete m k op tag st res s).mem a = memGet s.mem a)) ∧
  (∀ (m k op tag st r : Nat) (res : List Byte) (s : State), heldIx s m k = none → s.harbour.quadSpi = false → m < s.harbour.mbxs.length → ((mbxOf s m).released + 1) % 65536 = r →
    (complete m k op tag st res s).mem = s.mem ∧
    (complete m k op tag st res s).out = { kind := .hostMem, index := m, rel := 0, data := le 8 ((mbxOf s m).base + (64 * (mbxOf s m).slots + 16 * k)) ++
        (le 2 op ++ le 2 st ++ le 2 tag ++ [1] ++ le 1 k ++ le 2 res.length ++ le 2 r ++ (if res.length ≤ 4 then res ++ List.replicate (4 - res.length) 0 else [0, 0, 0, 0])) } ::
      (if res.length ≤ 4 then s.out else { kind := .hostMem, index := m, rel := 0, data := le 8 ((mbxOf s m).base + (64 * k + 8)) ++ res } :: s.out)) ∧
  (∀ (s : State), ∃ l, (settle s).out = l ++ s.out ∧ ∀ o ∈ l, o.kind = .msi)

/-- What the shared operations leave alone: settling after a row changes the ready pins, the interrupt causes and the messages sent; raising an event changes the
recorder, the journal and the stream to the host; completing a command changes memory, what is sent, and its mailbox and the credits; and a row that is no
command and names no store leaves every byte of device memory as it was. -/
def Obligations.SharedFrames : Prop :=
  (∀ (s : State), (settle s).mem = s.mem ∧ (settle s).time = s.time ∧ (settle s).recorder = s.recorder ∧ (settle s).journal = s.journal ∧ (settle s).power = s.power ∧ (settle s).otp = s.otp ∧
    (settle s).harbour.mbxs = s.harbour.mbxs ∧ (settle s).harbour.credit = s.harbour.credit ∧ (settle s).harbour.s0.packets = s.harbour.s0.packets ∧ (settle s).harbour.s1.packets = s.harbour.s1.packets) ∧
  (∀ (e : Ev) (s : State), (raise e s).mem = s.mem ∧ (raise e s).time = s.time ∧ (raise e s).power = s.power ∧ (raise e s).otp = s.otp ∧ (raise e s).sec = s.sec ∧ (raise e s).votes = s.votes ∧
    (raise e s).gnss = s.gnss ∧ (raise e s).pose = s.pose ∧ (raise e s).cell = s.cell ∧ (raise e s).raster = s.raster ∧ (raise e s).knani = s.knani ∧ (raise e s).axes = s.axes ∧ (raise e s).meter = s.meter ∧
    (raise e s).fleet = s.fleet ∧ (raise e s).cor = s.cor ∧ (raise e s).stop = s.stop ∧ (raise e s).net = s.net ∧ (raise e s).update = s.update ∧ (raise e s).harbour.mbxs = s.harbour.mbxs ∧
    (raise e s).harbour.s0 = s.harbour.s0) ∧
  (∀ (m k op tag st : Nat) (r : List Byte) (s : State), (complete m k op tag st r s).time = s.time ∧ (complete m k op tag st r s).power = s.power ∧ (complete m k op tag st r s).otp = s.otp ∧
    (complete m k op tag st r s).recorder = s.recorder ∧ (complete m k op tag st r s).journal = s.journal ∧ (complete m k op tag st r s).harbour.s0 = s.harbour.s0 ∧
    (complete m k op tag st r s).harbour.s1 = s.harbour.s1 ∧ (∀ j, j ≠ m → mbxOf (complete m k op tag st r s) j = mbxOf s j)) ∧
  (∀ (i : Instr) (s t : State) (a : Nat), commandOf i = none → mayStore i = false → exec i s = .next t → memGet t.mem a = memGet s.mem a)

/-- The window of received sequence numbers (11 R423, 13 R475): with `d` the signed 16-bit difference from the highest accepted, a newer number is delivered and
becomes the highest, one within the last 32 is delivered once, and an older one is not delivered. -/
def Obligations.WindowCases : Prop :=
  (∀ (seq : Nat) (w : Win), 0 < diffN 16 seq w.top → (winStep seq w).1 = true ∧ (winStep seq w).2.top = seq) ∧
  (∀ (w : Win), (winStep w.top w).1 = false ∧ (winStep w.top w).2 = w) ∧
  (∀ (seq k : Nat) (w : Win), 1 ≤ k → k ≤ 32 → diffN 16 seq w.top = -(k : Int) → bit w.map (k - 1) = true → winStep seq w = (false, w)) ∧
  (∀ (seq k : Nat) (w : Win), 1 ≤ k → k ≤ 32 → w.map < 2 ^ 32 → diffN 16 seq w.top = -(k : Int) → bit w.map (k - 1) = false →
    (winStep seq w).1 = true ∧ (winStep seq w).2.top = w.top ∧ bit (winStep seq w).2.map (k - 1) = true ∧ (∀ j, j ≠ k - 1 → bit (winStep seq w).2.map j = bit w.map j) ∧ (winStep seq (winStep seq w).2).1 = false) ∧
  (∀ (seq : Nat) (w : Win), diffN 16 seq w.top < -32 → winStep seq w = (false, w)) ∧
  (∀ (seq k j : Nat) (w : Win), 1 ≤ k → k ≤ 31 → w.map < 2 ^ 32 → diffN 16 seq w.top = (k : Int) → j < 32 →
    bit (winStep seq w).2.map j = (if j < k - 1 then false else if j = k - 1 then true else bit w.map (j - k)))

/-- A command that fails several checks completes with the status of the first that fails, in the order of 14 R653, and has no effect: LENGTH and EXTRA, the
reserved bits, the world, SAFE after a tamper alarm or a fatal fault, the role, the reserved parameter bytes (00 R17). For every command of the opcode table,
with READY set, no FENCE held back, and no restart or entry to SLACK pending. -/
def Obligations.CommandChecksInOrder : Prop :=
  ∀ (i : Instr) (k : CmdSpec) (s : State), commandSpec i = some k → s.harbour.ready = true → fenceWaits k.cmd s = false → s.power.restartNow = none → s.power.entering ≠ some .slack →
    (lengthFails k s → answers i k.cmd k.opcode stBadLength [] s s) ∧
    (¬ lengthFails k s → reservedFails k → answers i k.cmd k.opcode stBadParam [] s s) ∧
    (¬ lengthFails k s → ¬ reservedFails k → worldFails k s → answers i k.cmd k.opcode stNotPermitted [] s s) ∧
    (¬ lengthFails k s → ¬ reservedFails k → ¬ worldFails k s → s.power.tamperSafe = true → servedTamper k.opcode = false → answers i k.cmd k.opcode stTamperLocked [] s s) ∧
    (¬ lengthFails k s → ¬ reservedFails k → ¬ worldFails k s → s.power.tamperSafe = false → s.power.fatal.isSome = true → servedFatal k.opcode = false →
      answers i k.cmd k.opcode stBadState [] s s) ∧
    (∀ r, ¬ lengthFails k s → ¬ reservedFails k → ¬ worldFails k s → s.power.tamperSafe = false → s.power.fatal = none → k.role = some r → roleOf s ≠ r →
      answers i k.cmd k.opcode stBadState [] s s) ∧
    (¬ lengthFails k s → ¬ reservedFails k → ¬ worldFails k s → s.power.tamperSafe = false → s.power.fatal = none → (∀ r, k.role = some r → roleOf s = r) →
      (∃ e ∈ reservedRuns k.opcode, zeros (prmOf k.cmd) e.1 e.2 = false) → answers i k.cmd k.opcode stBadParam [] s s)

/-- In SAFE after a tamper alarm only SYS_INFO, SEC_STATUS, SEC_TAMPER_LOG, SEC_CHALLENGE, SEC_UNLOCK, SEC_UNLOCK_ACK, SEC_LIFECYCLE to SCRAP, RECORDER_READ and
RECORDER_STATUS are served; every other command that passes the checks before this one (14 R653) completes with TAMPER_LOCKED and has no effect (15 R560). -/
def Obligations.TamperSafeServes : Prop :=
  (∀ (i : Instr) (k : CmdSpec) (s : State), commandSpec i = some k → s.power.tamperSafe = true → ¬ k.opcode ∈ [0x0101, 0x0E01, 0x0E14, 0x0E11, 0x0E12, 0x0E13, 0x0E10, 0x1101, 0x1104] →
    s.harbour.ready = true → fenceWaits k.cmd s = false → s.power.restartNow = none → s.power.entering ≠ some .slack → ¬ lengthFails k s → ¬ reservedFails k → ¬ worldFails k s →
    answers i k.cmd k.opcode stTamperLocked [] s s) ∧
  (∀ (i : Instr) (k : CmdSpec) (s : State), commandSpec i = some k → s.power.tamperSafe = true → k.opcode ∈ [0x0101, 0x0E01, 0x0E14, 0x0E11, 0x0E12, 0x0E13, 0x0E10, 0x1101, 0x1104] →
    s.power.fatal = none → ¬ lengthFails k s → ¬ reservedFails k → ¬ worldFails k s → checkCmd k.opcode k.least k.most k.role k.cmd s = none) ∧
  (∀ (c : Cmd) (s : State), s.power.tamperSafe = true → s.power.restartNow = none → admitted 0x0E10 (lifecycleMin c) 0 none c s → uAt (prmOf c) 0 1 ≠ 4 →
    answers (.secLifecycle c) c 0x0E10 stTamperLocked [] s s)

/-- A command that carries a Device Time with NANOSECONDS at or above 1,000,000,000 completes with BAD_PARAM and has no effect (02 R46). -/
def Obligations.DeviceTimeNanoseconds : Prop :=
  (∀ (c : Cmd) (s : State), admitted 0x0204 28 0 none c s → (10 ^ 9 ≤ uAt (prmOf c) 6 4 ∨ 10 ^ 9 ≤ uAt (prmOf c) 18 4) → answers (.timeMeasure c) c 0x0204 stBadParam [] s s) ∧
  (∀ (c : Cmd) (s : State), admitted 0x0205 16 0 none c s → 10 ^ 9 ≤ uAt (prmOf c) 2 4 → answers (.timeSet c) c 0x0205 stBadParam [] s s) ∧
  (∀ (c : Cmd) (s : State), admitted 0x0209 12 0 none c s → 10 ^ 9 ≤ uAt (prmOf c) 2 4 → answers (.timeEpochSet c) c 0x0209 stBadParam [] s s) ∧
  (∀ (c : Cmd) (s : State), admitted 0x020D 32 0 none c s → 10 ^ 9 ≤ uAt (prmOf c) 6 4 → answers (.timeCompareArm c) c 0x020D stBadParam [] s s) ∧
  (∀ (c : Cmd) (s : State), admitted 0x020F 16 0 none c s → 10 ^ 9 ≤ uAt (prmOf c) 2 4 → answers (.timeAlarmSet c) c 0x020F stBadParam [] s s) ∧
  (∀ (c : Cmd) (iod : Nat) (s : State), admitted 0x0304 1 0 none c s → (uAt (prmOf c) 0 1 = 2 ∨ uAt (prmOf c) 0 1 = 3) → 10 ^ 9 ≤ uAt (prmOf c) 7 4 →
    answers (.gnssAssist c iod) c 0x0304 stBadParam [] s s) ∧
  (∀ (c : Cmd) (s : State), admitted 0x0409 24 29 (some 0) c s → 10 ^ 9 ≤ uAt (prmOf c) 2 4 → answers (.poseAt c) c 0x0409 stBadParam [] s s) ∧
  (∀ (c : Cmd) (s : State), admitted 0x070D 24 0 (some 0) c s → 10 ^ 9 ≤ uAt (prmOf c) 6 4 → answers (.channelExposureSet c) c 0x070D stBadParam [] s s) ∧
  (∀ (c : Cmd) (s : State), admitted 0x0804 20 0 none c s → 10 ^ 9 ≤ uAt (prmOf c) 10 4 → answers (.axisMove c) c 0x0804 stBadParam [] s s) ∧
  (∀ (c : Cmd) (s : State), admitted 0x0806 20 0 none c s → 10 ^ 9 ≤ uAt (prmOf c) 10 4 → answers (.axisResume c) c 0x0806 stBadParam [] s s) ∧
  (∀ (c : Cmd) (s : State), admitted 0x0D06 16 0 none c s → 10 ^ 9 ≤ uAt (prmOf c) 6 4 → answers (.netEthGateCommit c) c 0x0D06 stBadParam [] s s)

/-- Short Time is the low 32 bits of Device Time counted in units of 0.25 ns, and wraps every 1.073741824 s and at no shorter period (02 R48). -/
def Obligations.ShortTimeRule : Prop :=
  (∀ (seconds nanoseconds fraction : Nat), nanoseconds < 10 ^ 9 → fraction < 2 ^ 16 →
    stOf (sec1 * seconds + ns1 * nanoseconds + fraction) = ((seconds * 10 ^ 9 + nanoseconds) * 2 ^ 16 + fraction) / 2 ^ 14 % 2 ^ 32) ∧
  (∀ t : Nat, stOf t < 2 ^ 32 ∧ stOf (t + ns1 * 1073741824) = stOf t) ∧
  (∀ p : Nat, 0 < p → p < ns1 * 1073741824 → ∃ t, stOf (t + p) ≠ stOf t)

/-- The host reads S_1 through S_DATA_1 word by word, each packet from its length word on; a read of the empty stream returns zero and takes nothing; DROP
discards the unread remainder of the packet being read and has no effect between packets (14 R526). -/
def Obligations.StreamReadRule : Prop :=
  (∀ s : State, s.harbour.s1.packets = [] → exec .sData1 s = .next (settle { s with harbour := { s.harbour with readData := 0 } })) ∧
  (∀ (b t : Nat) (p : Packet) (r : List (Nat × Nat × Packet)) (s : State), s.harbour.s1.packets = (b, t, p) :: r → s.harbour.s1.readWords = 0 → p.payload.length < 2 ^ 31 →
    reaches .sData1 s (fun u => u.harbour.readData.toNat = 4 + p.payload.length ∧ u.harbour.s1 = { s.harbour.s1 with readWords := 1 })) ∧
  (∀ (b t k : Nat) (p : Packet) (r : List (Nat × Nat × Packet)) (s : State), s.harbour.s1.packets = (b, t, p) :: r → s.harbour.s1.readWords = k → 1 ≤ k → 4 * k < pktSize p.payload →
    reaches .sData1 s (fun u => u.harbour.readData = BitVec.ofNat 32 (uAt (le 1 p.type ++ le 1 p.flags ++ le 2 p.seq ++ p.payload) (4 * (k - 1)) 4) ∧
      u.harbour.s1 = (if pktSize p.payload ≤ 4 * (k + 1) then { s.harbour.s1 with packets := r, readWords := 0 } else { s.harbour.s1 with readWords := k + 1 }))) ∧
  (∀ s : State, s.harbour.ready = true → s.harbour.pairPending = none → s.harbour.s1.readWords = 0 → exec .drop s = .next (settle s)) ∧
  (∀ (q : Nat × Nat × Packet) (r : List (Nat × Nat × Packet)) (s : State), s.harbour.ready = true → s.harbour.pairPending = none → s.harbour.s1.packets = q :: r → s.harbour.s1.readWords ≠ 0 →
    exec .drop s = .next (settle { s with harbour := { s.harbour with s1 := { s.harbour.s1 with packets := r, readWords := 0 } } }))

/-- A new occurrence raises the REPEAT of the newest record of its CODE, and creates no record, exactly where that record has its source master and parameters and
a SEQ later than EVT_ACK and REPEAT is not saturated, whatever the rate; else it creates a record as any occurrence does (17 R621). -/
def Obligations.RepeatRule : Prop :=
  (∀ (now : Nat) (e : Ev) (x : EvRec) (s : State), s.recorder.loaded = true → newestOf e.code s.recorder.ring = some x → x.src = e.src → x.p0 = e.p0 → x.p1 = e.p1 → x.p2 = e.p2 →
    0 < diffN 16 x.seq s.harbour.evtAck → x.rep < 255 →
    ∃ a d, (raiseOnce now e s).1.recorder =
      { s.recorder with ring := s.recorder.ring.map (fun z => if z.seq = x.seq ∧ z.code = x.code then { x with rep := x.rep + 1, againAt := a, due := d } else z) }) ∧
  (∀ (now : Nat) (e : Ev) (s : State), s.recorder.loaded = true →
    (∀ x, newestOf e.code s.recorder.ring = some x → x.src = e.src → x.p0 = e.p0 → x.p1 = e.p1 → x.p2 = e.p2 → 0 < diffN 16 x.seq s.harbour.evtAck → 255 ≤ x.rep) →
    (raiseOnce now e s).1.recorder = (createRec now e s.recorder).1) ∧
  (∀ (now : Nat) (e : Ev) (r r2 : RecorderSt) (x : EvRec), createRec now e r = (r2, some x) → x.rep = 0 ∧ x.seq = (r.seq + 1) % 65536 ∧ r2.seq = x.seq ∧ x.code = e.code ∧ x.src = e.src ∧
    x.p0 = e.p0 ∧ x.p1 = e.p1 ∧ x.p2 = e.p2)

/-- A measurement of a LOCKED domain that exceeds GATE is rejected: it changes neither I nor y, and the third in a row returns the domain to ACQUIRE; an accepted
one ends the row of rejections (02 R57). -/
def Obligations.RejectedMeasurements : Prop :=
  (∀ (k t : Nat) (theta : Int) (u : Option Nat) (s : State) (d : Domain), k ≤ 1 → domOf s.time k = d → s.time.refLost = false → d.st = .locked → 65536 * d.gateNs < theta.natAbs → d.rejects < 2 →
    domOf (Machine.measure k theta t u s).time k = { d with rejects := d.rejects + 1 }) ∧
  (∀ (k t : Nat) (theta : Int) (u : Option Nat) (s : State) (d : Domain), k ≤ 1 → domOf s.time k = d → s.time.refLost = false → d.st = .locked → 65536 * d.gateNs < theta.natAbs → 2 ≤ d.rejects →
    (domOf (Machine.measure k theta t u s).time k).st = .acquire ∧ (domOf (Machine.measure k theta t u s).time k).integ = d.integ ∧ (domOf (Machine.measure k theta t u s).time k).y = d.y) ∧
  (∀ (k t : Nat) (theta : Int) (u : Option Nat) (s : State) (d : Domain), k ≤ 1 → domOf s.time k = d → s.time.refLost = false → d.st = .locked → theta.natAbs ≤ 65536 * d.gateNs →
    (domOf (Machine.measure k theta t u s).time k).rejects = 0)

/-- Events of the sources of time (02 R53, R60, R61, R62, R70, R76, R77): what each does to the island, with the events it raises. -/
def Obligations.TimeSourceEvents : Prop :=
  (∀ (us : Nat) (s : State), s.time.refLost = true → exec (.refRestored us) s = .next (settle
    (raise { code := 0x0208, sev := 2, p0 := us % 2 ^ 32 } { s with time := { s.time with refLost := false, refFrom := some (s.time.cyc - cycMs 100) } }))) ∧
  (∀ (pin : Nat) (falling : Bool) (frac : Nat) (s : State) (p : PpsIn), s.time.ppsIn[pin]? = some p → p.edge = b1 falling → p.lastAcc = none →
    domFrom s (2 + pin) = none → reaches (.ppsInCapture pin falling frac) s (fun t => t.time = { (firmwareCapture pin falling (capTime frac s) s).time with
      ppsIn := s.time.ppsIn.modify pin (fun q => { q with
        lastAcc := some (((1024 * (dtNow s / 1024 + frac % 128) : Nat) : Int) - 1024 * p.delay).toNat, lastCyc := s.time.cyc, missing := false }) })) ∧
  (∀ (dom : Nat) (s : State), dom ≤ 1 → ((domOf s.time dom).st = .acquire ∨ (domOf s.time dom).st = .locked) →
    let s1 := runToCyc ((domOf s.time dom).lastCyc + cycMs (domOf s.time dom).timeoutMs) s
    reaches (.sourceTimeout dom) s (fun t => match learned s1.time (domOf s1.time dom) with
      | none => (domOf t.time dom).st = .freerun
      | some y => (domOf t.time dom).st = .holdover ∧ (domOf t.time dom).y = y)) ∧
  (∀ (s : State) (c : Nat), s.time.a.lockedFrom = some c → s.time.auto = true → s.time.followB = true → s.time.a.st = .locked →
    reaches .domainALockHold s (fun t => t.time.followB = false ∧ c + cycMs 10000 ≤ t.time.cyc)) ∧
  (∀ s : State, reaches .tqTest s (fun t => t.time = { s.time with tqActive := tqBad s })) ∧
  (∀ s : State, s.time.timeUnset = false → exec .rtcWrite s = .next (settle { s with time := { s.time with rtc := some (dtNow s) } })) ∧
  (∀ (pin : Nat) (s : State) (p : PpsIn), s.time.ppsIn[pin]? = some p → p.missing = false →
    reaches (.ppsInMissing pin) s (fun t => t.time = { (runToCyc (p.lastCyc + cycMs 1500) s).time with
      ppsIn := s.time.ppsIn.modify pin (fun q => { q with missing := true }) }))

/-- Pulses, captures, compares and delay lists (02 R50, R72, R75, R84, R85, R87, R88). -/
def Obligations.PulseCaptureCompareEvents : Prop :=
  (∀ (pin : Nat) (s : State) (p : PpsOut), s.time.ppsOut[pin]? = some p → p.armed = none → p.quiet = false →
    reaches (.ppsOutArm pin) s (fun t => (t.time.ppsOut[pin]?).bind (·.armed) =
      some (ppsNextSec p s, ppsWidth p (ppsTime p (runPps p (sec1 * ppsNextSec p s - ms1) s)).2))) ∧
  (∀ (pin : Nat) (s : State) (p : PpsOut) (sec w : Nat), s.time.ppsOut[pin]? = some p → p.armed = some (sec, w) → p.quiet = false →
    reaches (.ppsOutActiveEdge pin) s (fun t => let at_ := ppsAt p sec
      t.time.ppsOut[pin]? = some { p with armed := none, active := true, offAt := some (at_ + us1 * w), lastCyc := some (runPps p at_ s).time.cyc })) ∧
  (∀ (pin : Nat) (s : State) (p : PpsOut) (e : Nat), s.time.ppsOut[pin]? = some p → p.offAt = some e →
    reaches (.ppsOutInactiveEdge pin) s (fun t => t.time.ppsOut[pin]? = some { p with active := false, offAt := none })) ∧
  (∀ (input k : Nat) (falling : Bool) (frac : Nat) (s : State) (q : CapUnit), 4 ≤ k → k < 16 → s.time.caps[k]? = some q → q.input = input →
    (q.edge = 2 ∨ q.edge = b1 falling) → q.queue.length < 16 →
    reaches (.captureEdge input falling frac) s (fun t => t.time.caps[k]? = some { q with
      queue := q.queue ++ [{ dt := 1024 * (dtNow s / 1024 + frac % 128), edge := b1 falling, seq := q.seq }], seq := (q.seq + 1) % 65536 })) ∧
  (∀ (cu : Nat) (s : State) (c : CmpUnit), s.time.cmps[cu]? = some c → c.armed = true → c.action < 2 → c.periodNs = 0 → c.gpio < s.time.gpio.length →
    (c.stopQuiet = false ∨ s.stop.st = .clear) →
    reaches (.compareRelease cu) s (fun t => (t.time.cmps[cu]?).map (·.armed) = some false ∧
      t.time.gpio[c.gpio]? = some (some ((c.action == 0) != c.activeLow)) ∧ t.time.cyc = (runTo c.target s).time.cyc)) ∧
  (∀ (cu : Nat) (s : State) (c : CmpUnit) (e : Nat), s.time.cmps[cu]? = some c → c.pulseEnd = some e → c.gpio < s.time.gpio.length →
    reaches (.comparePulseEnd cu) s (fun t => (t.time.cmps[cu]?).map (·.pulseEnd) = some none ∧
      t.time.gpio[c.gpio]? = some (some c.activeLow))) ∧
  (∀ (list : Nat) (s : State) (e : DlEntry) (r : List DlEntry), s.time.dls[list]? = some (e :: r) → 6 ≤ list → list ≤ 7 →
    reaches (.delayListDelivery list) s (fun t => t.time.dls[list]? = some r)) ∧
  (∀ (i tgt token : Nat) (s : State), s.time.alarms[i]? = some (tgt, token) → s.time.dls.length = 8 →
    (s.time.dls.getD 6 []).length + (s.time.dls.getD 7 []).length < 2048 →
    tgt ≤ dtNow (runTo (tgt - 500 * ms1) s) + 500 * ms1 → (s.time.dls.getD 6 []).length ≤ 1024 →
    reaches (.fullTargetArm true i) s (fun t => t.time.alarms = s.time.alarms.eraseIdx i ∧
      ∃ l ∈ t.time.dls, ({ target := stOf tgt, full := tgt, consumer := 0, token := token, late := decide (tgt < dtNow t) } : DlEntry) ∈ l)) ∧
  (∀ (i : Nat) (s : State) (c : CmpUnit), s.time.cmps[i]? = some c → c.armed = true → c.shortArmed = false →
    reaches (.fullTargetArm false i) s (fun t => t.time.cmps[i]? = some { c with shortArmed := true }))

/-- The TIME commands on the domains and on Device Time: what each answers and leaves (02 R55, R58, R59, R62, R89 to R91). -/
def Obligations.TimeDomainCommands : Prop :=
  (∀ (c : Cmd) (s : State), admitted 0x0201 0 32 none c s → reads (.timeGet c) c 0x0201 (timeGetResult s) s) ∧
  (∀ (c : Cmd) (s : State) (p : List Byte) (k src kp ki gate tmo align lock : Nat), admitted 0x0202 36 0 none c s → prmOf c = p →
    uAt p 0 1 = k → k ≤ 1 → uAt p 1 1 = src → 0 < src → src ≤ 7 → zeros p 2 2 = true → zeros p 34 2 = true →
    kp = (if uAt p 4 4 = 0 then kpDefault src else uAt p 4 4) → kp ≤ 255 * 2 ^ 24 → ki = (if uAt p 8 4 = 0 then kiDefault src else uAt p 8 4) →
    ki ≤ 255 * 2 ^ 24 → orDefault (uAt p 12 4) 10 1000000 1000 = some gate → orDefault (uAt p 16 4) 100 60000 (timeoutDefault src) = some tmo →
    orDefault (uAt p 28 4) 10 1000000 100 = some align → orDefault (uAt p 32 2) 1 10000 50 = some lock →
    (domOf s.time (1 - k)).source ≠ src → (∀ log : Int, kpTooHigh src kp log = false) → (src = 1 → isMember s = false) → (src = 6 → isMember s = true) →
    (k = b1 s.time.followB → engineIdle s = true) → (domOf s.time k).source = src →
    answers (.timeDomainConfig c) c 0x0202 stOk [] s (setDom k { domOf s.time k with kp := kp, ki := ki, gateNs := gate, timeoutMs := tmo, delay := iAt p 20 4, floorNs := uAt p 24 4, alignNs := align, lockNs := lock } s)) ∧
  (∀ (c : Cmd) (s : State), admitted 0x0203 2 0 none c s → uAt (prmOf c) 0 1 = 0 → uAt (prmOf c) 1 1 ≤ 1 →
    answers (.timeSelect c) c 0x0203 stOk [] s (follow (uAt (prmOf c) 1 1 == 1) { s with time := { s.time with auto := false } })) ∧
  (∀ (c : Cmd) (s : State), admitted 0x0203 2 0 none c s → uAt (prmOf c) 0 1 = 1 → uAt (prmOf c) 1 1 ≤ 1 →
    answers (.timeSelect c) c 0x0203 stOk [] s (reselect { s with time := { s.time with auto := true } })) ∧
  (∀ (c : Cmd) (s : State) (p : List Byte) (k dom : Nat), admitted 0x0204 28 0 none c s → prmOf c = p → uAt p 0 1 = k → k ≤ 1 → zeros p 1 3 = true →
    dtOk p 4 = true → dtOk p 16 = true → (domOf s.time k).source = 7 → dtAt p 16 ≤ dtNow s → dtNow s ≤ dtAt p 16 + 2 * sec1 →
    domAtInstant s.time k (dtAt p 16) = some dom →
    answers (.timeMeasure c) c 0x0204 stOk [] s (measure k ((dom : Int) - dtAt p 4 - 1024 * (domOf s.time k).delay) dom (some (domOf s.time k).floorNs) s)) ∧
  (∀ (c : Cmd) (s : State), admitted 0x0205 16 0 none c s → dtOk (prmOf c) 0 = true → engineIdle s = true →
    oks (.timeSet c) c 0x0205 s (fun t => dtNow t = dtAt (prmOf c) 0 ∧ domNow t.time.a = dtAt (prmOf c) 0 ∧ domNow t.time.b = dtAt (prmOf c) 0 ∧
      t.time.timeUnset = false ∧ (s.time.refLost = false → (s.time.a.source ≠ 0 → t.time.a.st = .acquire) ∧ (s.time.b.source ≠ 0 → t.time.b.st = .acquire)) ∧
      (s.time.refLost = true → t.time.a.st = s.time.a.st ∧ t.time.b.st = s.time.b.st))) ∧
  (∀ (c : Cmd) (s : State), admitted 0x0208 1 0 none c s → uAt (prmOf c) 0 1 ≤ 8 → jobBusy s = false → anyCellOn s = false → manualRuns s = false →
    engineIdle s = true → s.fleet.st = .off →
    oks (.timeTideConfig c) c 0x0208 s (fun t => t.time.newPeriod = some (uAt (prmOf c) 0 1, dtNow s / sec1 + 1) ∧ t.votes = s.votes)) ∧
  (∀ (c : Cmd) (s : State), admitted 0x0209 12 0 none c s → zeros (prmOf c) 0 6 = true → dtNow s ≤ sec1 * uAt (prmOf c) 6 6 + 2 ^ 32 * tideP s →
    jobBusy s = false → oks (.timeEpochSet c) c 0x0209 s (fun t => t.time = { s.time with epoch := some (uAt (prmOf c) 6 6) })) ∧
  (∀ (c : Cmd) (s : State) (p : List Byte) (th sl lw tq : Nat), admitted 0x020A 20 0 none c s → prmOf c = p → zeros p 5 3 = true →
    uAt p 12 4 ≤ 18446744 → orDefault (uAt p 0 4) 10 10000000 1000 = some th → orDefault (uAt p 4 1) 1 50 50 = some sl →
    orDefault (uAt p 8 4) 60 86400 600 = some lw → orDefault (uAt p 16 4) 100 1000000000 1000 = some tq →
    answers (.timeHoldoverConfig c) c 0x020A stOk [] s (tqTest (deferStep { s with
      time := { s.time with stepThreshUs := th, slewMaxPpm := sl, learnWindowS := lw, ageing := uAt p 12 4, tqLimit := tq } })))

/-- The TIME commands on pins, captures, compares and alarms (02 R51, R72, R76, R84, R85, R88, R89, R92). -/
def Obligations.TimePinCommands : Prop :=
  (∀ (c : Cmd) (s : State) (p : List Byte) (pin : Nat) (q : PpsOut), admitted 0x0206 12 0 none c s → prmOf c = p → uAt p 0 1 = pin → pin ≤ 1 →
    s.time.ppsOut[pin]? = some q → uAt p 1 1 ≤ 2 → uAt p 2 1 ≤ 7 → zeros p 3 1 = true → 1 ≤ uAt p 4 4 → uAt p 4 4 ≤ 500000 → (iAt p 8 4).natAbs ≤ 64000000 →
    oks (.timePpsOutConfig c) c 0x0206 s (fun t => t.time.ppsOut[pin]? = some { q with
      time := uAt p 1 1, activeLow := bit (uAt p 2 1) 0, coding := bit (uAt p 2 1) 1, quiet := bit (uAt p 2 1) 2, widthUs := uAt p 4 4, offset := iAt p 8 4, armed := none })) ∧
  (∀ (c : Cmd) (s : State) (p : List Byte), admitted 0x0207 12 0 none c s → prmOf c = p → uAt p 0 1 ≤ 1 → uAt p 1 1 ≤ 1 → zeros p 2 2 = true →
    1 ≤ uAt p 8 4 → uAt p 8 4 ≤ 100000 →
    answers (.timePpsInConfig c) c 0x0207 stOk [] s { s with time := { s.time with
      ppsIn := s.time.ppsIn.modify (uAt p 0 1) (fun q => { q with edge := uAt p 1 1, delay := iAt p 4 4, windowUs := uAt p 8 4 }) } }) ∧
  (∀ (c : Cmd) (s : State) (p : List Byte), admitted 0x020B 3 0 none c s → prmOf c = p → 4 ≤ uAt p 0 1 → uAt p 0 1 ≤ 15 →
    (uAt p 1 1 ≤ 16 ∨ uAt p 1 1 = 255) → uAt p 2 1 ≤ 2 →
    answers (.timeCaptureConfig c) c 0x020B stOk [] s { s with time := { s.time with
      caps := s.time.caps.modify (uAt p 0 1) (fun q => { q with input := uAt p 1 1, edge := uAt p 2 1 }) } }) ∧
  (∀ (c : Cmd) (s : State) (k : Nat) (q : CapUnit), admitted 0x020C 1 32 none c s → uAt (prmOf c) 0 1 = k → s.time.caps[k]? = some q →
    answers (.timeCaptureRead c) c 0x020C stOk ((q.queue.take 2).map (capBytes k)).flatten s { s with time := { s.time with
      caps := s.time.caps.modify k (fun q => { q with queue := q.queue.drop 2 }) } }) ∧
  (∀ (c : Cmd) (s : State) (p : List Byte) (k act g per : Nat), admitted 0x020D 32 0 none c s → prmOf c = p → uAt p 0 1 = k → k < 16 → uAt p 1 1 = act →
    act ≤ 3 → uAt p 2 1 ≤ 3 → uAt p 3 1 = g → g < 16 → dtOk p 4 = true → uAt p 20 8 = per → (per = 0 ∨ 1000 ≤ per ∧ per ≤ 10000000000) →
    (act = 3 → 10 ≤ uAt p 16 4 ∧ uAt p 16 4 ≤ 1000000000 ∧ (per ≠ 0 → uAt p 16 4 < per)) → s.time.cmps.length = 16 → cmpArmed (s.time.cmps.getD k {}) = false →
    gpioTaken s k g = false → dtNow s ≤ dtAt p 4 →
    oks (.timeCompareArm c) c 0x020D s (fun t => ∃ u, t.time.cmps[k]? = some u ∧ u.armed = true ∧ u.action = act ∧ u.gpio = g ∧ u.target = dtAt p 4 ∧
      u.widthNs = uAt p 16 4 ∧ u.periodNs = per ∧ u.stopQuiet = bit (uAt p 2 1) 0 ∧ u.left = (if uAt p 28 4 = 0 then none else some (uAt p 28 4)))) ∧
  (∀ (c : Cmd) (s : State) (k : Nat) (q : CmpUnit), admitted 0x020E 1 0 none c s → uAt (prmOf c) 0 1 = k → s.time.cmps[k]? = some q → q.drives = true →
    s.time.gpio[q.gpio]? = some (some (!q.activeLow)) →
    oks (.timeCompareCancel c) c 0x020E s (fun t => t.time.cmps[k]? = some { q with armed := false, pulseEnd := none, shortArmed := false } ∧
      t.time.gpio[q.gpio]? = some (some q.activeLow))) ∧
  (∀ (c : Cmd) (s : State), admitted 0x020F 16 0 none c s → dtOk (prmOf c) 0 = true → dtNow s + 500 * ms1 < dtAt (prmOf c) 0 → alarmsPending s < 2048 →
    answers (.timeAlarmSet c) c 0x020F stOk [] s { s with time := { s.time with alarms := s.time.alarms ++ [(dtAt (prmOf c) 0, uAt (prmOf c) 12 4)] } }) ∧
  (∀ (c : Cmd) (s : State), admitted 0x020F 16 0 none c s → dtOk (prmOf c) 0 = true → dtAt (prmOf c) 0 < dtNow s →
    answers (.timeAlarmSet c) c 0x020F stStale [] s s)

/-- The tide generator and REF_IN (01 R37, 02 R53, R80, R83): a boundary, a new period, the loss of the reference. -/
def Obligations.TideEvents : Prop :=
  (∀ (s : State), (s.power.st = .spring ∨ s.power.st = .neap ∨ s.power.st = .safe) →
    reaches .tideBoundary s (fun u => u.time.lastBoundary = some (nextBoundary s) ∧ u.time.pointers = advancePointers s.time.pointers ∧ u.otp = s.otp)) ∧
  (∀ (s : State), s.power.st ≠ .spring → s.power.st ≠ .neap → s.power.st ≠ .safe → exec .tideBoundary s = .next (settle s)) ∧
  (∀ (s : State) (code sec : Nat), s.time.newPeriod = some (code, sec) →
    reaches .tidePeriodChange s (fun u => u.time.newPeriod = none ∧ u.votes.tide = s.votes.tide.write code ∧ u.time.cyc = (runTo (sec1 * sec) s).time.cyc ∧ u.time.tideNo = (tideAt u (dtNow u)).getD 0)) ∧
  (∀ (s : State), s.time.newPeriod = none → exec .tidePeriodChange s = .next (settle s)) ∧
  (∀ (c : Nat) (s : State), s.time.refLost = false →
    reaches (.refLost c) s (fun u => u.time.refLost = true ∧ u.time.refFrom = none ∧ u.time.a.st = .freerun ∧ u.time.b.st = .freerun ∧ u.time.a.tq0 = none ∧ u.time.b.tq0 = none)) ∧
  (∀ (c : Nat) (s : State), s.time.refLost = true → exec (.refLost c) s = .next (settle s))

/-- IF streams, notches and the jamming indicator (03 R99, R104 to R108): what their events do. -/
def Obligations.GnssStreamEvents : Prop :=
  (∀ (n t l : Nat) (s : State) (st : IfStream), n ≤ 7 → navUp s = true → s.gnss.streams[n]? = some st → st.lastMarker = some l →
    ((t : Int) - l - (ms1 : Nat)).natAbs ≤ us1 → st.st = 0 → 7 ≤ st.good →
    reaches (.ifFrameMarker n t) s (fun u => (streamOf u n).st = 1 ∧ (streamOf u n).good = 8 ∧ (streamOf u n).lastMarker = some t)) ∧
  (∀ (n cause : Nat) (s : State) (st : IfStream), n ≤ 7 → navUp s = true → s.gnss.streams[n]? = some st → st.st ≠ 0 →
    reaches (.gnssIfLinkLost n cause) s (fun u => (streamOf u n).st = 0 ∧ (streamOf u n).good = 0 ∧
      ∀ (ch : Nat) (c : GChan), tget s.gnss.chans ch = some c → gStream c.signal c.ant = n → c.st = .track → (tget u.gnss.chans ch).map (·.st) = some .reacq)) ∧
  (∀ (n : Nat) (ppb : Int) (s : State) (st : IfStream), n ≤ 7 → navUp s = true → s.gnss.streams[n]? = some st → st.lastMarker.isSome = true →
    1000 < ppb.natAbs → reaches (.ifClockFault n ppb) s (fun u => (streamOf u n).st = 2 ∧ (streamOf u n).rateOkFrom = none)) ∧
  (∀ (n : Nat) (peaks : List (Int × Nat)) (s : State) (st : IfStream), n ≤ 7 → navUp s = true → s.gnss.streams[n]? = some st → st.st = 1 →
    reaches (.spectralAverage n peaks) s (fun u => ∀ p ∈ peaks, 4 * st.thresh < p.2 → ∃ k, 1 ≤ k ∧ (p.1, p.2, k) ∈ (streamOf u n).candidates)) ∧
  (∀ (n i : Nat) (s : State) (st : IfStream) (x : Notch) (a : Int × Nat) (c : Nat), navUp s = true → s.gnss.streams[n]? = some st → st.notches[i]? = some x →
    x.mode = 2 → x.active = some a → x.lowFrom = some c → x.next = none →
    reaches (.notchRelease n i) s (fun u => (streamOf u n).notches[i]? = some { x with next := some (2, 0, 0) } ∧ c + cycMs 1000 ≤ u.time.cyc)) ∧
  (∀ (n n0 : Nat) (s : State) (st : IfStream), n ≤ 7 → navUp s = true → s.gnss.streams[n]? = some st → st.st = 1 →
    reaches (.noiseProbeReading n n0) s (fun u => (streamOf u n).ji = (match st.floor with | some f => jiOf n0 f | none => 255))) ∧
  (∀ (n j b : Nat) (s : State), (streamOf s n).jamFrom = some j → (streamOf s n).belowFrom = some b →
    exec (.jamClear n) s = .next (settle (raise { code := 0x0306, sev := 2, src := 2, p0 := n, p1 := (streamOf s n).ji, p2 := ((runToCyc (b + cycMs 1000) s).time.cyc - j) / cycMs 1 % 2 ^ 32 }
      (setStream n (fun x => { x with jamFrom := none, belowFrom := none }) (runToCyc (b + cycMs 1000) s)))))

/-- Acquisition, tracking channels, measurement epochs, navigation units and bursts (03 R111, R113, R115, R120, R123 to R127). -/
def Obligations.GnssChannelEvents : Prop :=
  (∀ (sig sv ant k ph peak dw n : Nat) (rate : Int) (x : Search) (s : State), navUp s = true → ant ≤ 1 → k ≤ 13 → gSvOk (gSystem sig) sv = true → sig ∈ gSearched →
    searchOf (fillEngines s) sig sv ant k = some x → inSearch (fillEngines s) sig sv ant k ph rate = true → s.gnss.acqThresh < peak → 2 ≤ dw → (∀ e ∈ s.gnss.chans, sameSignal sig sv ant e.2 = false) → signalOn s sig ant = true →
    belowLimit s sig sv ant = true → freeChan s = some n →
    reaches (.acqSearchDone sig sv ant k ph rate peak dw) s (fun u => ∃ c, tget u.gnss.chans n = some c ∧ c.signal = sig ∧ c.sv = sv ∧ c.ant = ant ∧
      c.st = .pullIn ∧ c.carrRate = rate)) ∧
  (∀ (s : State) (d : Detection) (r : List Detection), s.gnss.queue = d :: r → reaches .detectionDiscard s (fun u => u.gnss =
    { s.gnss with queue := r, discarded := (s.gnss.discarded + 1) % 2 ^ 32 } ∧ d.at_ + cycMs 1000 ≤ u.time.cyc)) ∧
  (∀ (n x : Nat) (v : ChanUpdate) (s : State) (c : GChan), navUp s = true → tget s.gnss.chans n = some c → c.st = .track → v.lock < 500 →
    c.lowLockFrom = some x → x + cycMs 100 ≤ s.time.cyc →
    reaches (.coherentIntervalEnd n v) s (fun u => (tget u.gnss.chans n).map (fun d => (d.st, d.slips, d.cn0)) =
      some (.reacq, satN 0xFFFFFFFF (c.slips + 1), v.cn0 % 65536))) ∧
  (∀ (n : Nat) (s : State) (c : GChan), tget s.gnss.chans n = some c → c.st = .pullIn →
    reaches (.pullInTimeout n) s (fun u => (tget u.gnss.chans n).map (·.st) = some .reacq ∧ c.since + cycMs 500 ≤ u.time.cyc)) ∧
  (∀ (n : Nat) (s : State) (c : GChan), tget s.gnss.chans n = some c → c.st = .reacq → s.power.st ≠ .neap →
    exec (.gnssSatLost n) s = .next (settle (raise { code := 0x0309, sev := 0, src := 2, p0 := n, p1 := c.signal, p2 := c.sv }
      (toIdle n (runToCyc (c.since + cycMs s.gnss.reacqMs) s))))) ∧
  (∀ s : State, navUp s = true → reaches .measurementEpoch s (fun u => u.gnss.epoch = some (nextEpoch s) ∧ u.gnss.epochNo = s.gnss.epochNo + 1 ∧
    u.gnss.recordDue = !s.time.refLost)) ∧
  (∀ (raw : List (Nat × Nat)) (s : State), navUp s = true → s.gnss.recordDue = true → s.time.refLost = false → s.power.st ≠ .neap → s.gnss.measSub = 1 →
    exec (.measurementRecord raw none) s = .next (settle (sendS1 0x10 (measRecord raw false s) { s with gnss := { (keepObs raw s).gnss with recordDue := false, measCount := 0 } }))) ∧
  (∀ (n ty fb bits iod : Nat) (fec : Bool) (pl : List Byte) (s : State) (c : GChan), navUp s = true → tget s.gnss.chans n = some c → c.bitSync = true → c.st = .track →
    unitCheck (gMessage c.signal) fec (bits % 65536) (bitsOnly (bits % 65536) pl) = 0 → ty % 256 ∈ ephUnitsOf (gMessage c.signal) →
    (∀ e ∈ s.gnss.eph ++ s.gnss.ephNext, ¬ (e.sys = gSystem c.signal ∧ e.sv = c.sv ∧ e.iod = iod)) →
    (∀ k ∈ ephUnitsOf (gMessage c.signal), k ≠ ty % 256 → ∃ q ∈ s.gnss.ephParts, q.signal = c.signal ∧ q.sv = c.sv ∧ q.unit = k ∧ q.iod = iod) →
    reaches (.navUnitDecoded n ty fec fb bits pl (.ephemeris iod)) s (fun u => u.gnss.eph = s.gnss.eph ∧
      ∃ e ∈ u.gnss.ephNext, e.sys = gSystem c.signal ∧ e.sv = c.sv ∧ e.iod = iod)) ∧
  (∀ (n ty fb bits : Nat) (fec : Bool) (pl : List Byte) (y : NavYield) (s : State) (c : GChan), navUp s = true → tget s.gnss.chans n = some c → c.bitSync = true → c.st = .track →
    unitCheck (gMessage c.signal) fec (bits % 65536) (bitsOnly (bits % 65536) pl) ≠ 0 →
    reaches (.navUnitDecoded n ty fec fb bits pl y) s (fun u => u.gnss.eph = s.gnss.eph ∧ u.gnss.ephNext = s.gnss.ephNext ∧ u.gnss.ephParts = s.gnss.ephParts ∧ u.time = s.time)) ∧
  (∀ s : State, s.power.st = .neap → s.gnss.burstAt = none → reaches .burstStart s (fun u => u.gnss.burstAt = some u.time.cyc ∧ u.gnss.lastBurst = some u.time.cyc ∧
    (∀ c, s.gnss.lastBurst = some c → c + cycMs s.gnss.burstPeriod ≤ u.time.cyc))) ∧
  (∀ (raw : List (Nat × Nat)) (sol : Option Standalone) (s : State) (c : Nat), s.power.st = .neap → s.gnss.burstAt = some c → trackedSats s < 4 → s.gnss.burstExt = false →
    reaches (.burstEnd raw sol) s (fun u => u.gnss = { s.gnss with burstExt := true } ∧ c + cycMs s.gnss.burstOn ≤ u.time.cyc)) ∧
  (∀ (raw : List (Nat × Nat)) (s : State) (c : Nat), s.power.st = .neap → s.gnss.burstAt = some c → 4 ≤ trackedSats s →
    reaches (.burstEnd raw none) s (fun u => u.gnss.burstAt = none ∧ ∀ e ∈ u.gnss.chans, e.2.st = .reacq ∧ e.2.burstMiss < 3))

/-- The GNSS commands (03 R101 to R105, R108, R114, R119, R121, R126, R127, R129): what each answers and leaves. -/
def Obligations.GnssCommands : Prop :=
  (∀ (c : Cmd) (s : State) (p : List Byte), admitted 0x0301 7 0 none c s → prmOf c = p → uAt p 0 1 ≤ 15 → zeros p 1 1 = true → uAt p 2 2 ≤ 0x7FF → uAt p 4 1 ≤ 3 →
    uAt p 5 1 ≤ 30 → answers (.gnssConfig c) c 0x0301 stOk [] s { s with gnss := { s.gnss with
      systems := uAt p 0 1, signals := uAt p 2 2, antennas := uAt p 4 1, elMask := uAt p 5 1, cn0Mask := uAt p 6 1, relPending := true } }) ∧
  (∀ (c : Cmd) (s : State), admitted 0x0302 0 40 none c s → reads (.gnssStatus c) c 0x0302 (gnssStatusBytes s) s) ∧
  (∀ (c : Cmd) (s : State) (p : List Byte), admitted 0x0303 9 0 none c s → prmOf c = p → uAt p 0 1 ≤ 1 → zeros p 1 3 = true → uAt p 8 1 = 0 → zeros p 9 3 = true →
    answers (.gnssFrontendSet c) c 0x0303 stOk [] s { s with gnss := { s.gnss with ants := s.gnss.ants.modify (uAt p 0 1) (fun x => { x with cable := iAt p 4 4 }) } }) ∧
  (∀ (c : Cmd) (iod : Nat) (s : State), admitted 0x0304 1 0 none c s → uAt (prmOf c) 0 1 = 0 →
    answers (.gnssAssist c iod) c 0x0304 stOk [] s { s with gnss := { s.gnss with assistTime := some ((prmOf c).drop 1) } }) ∧
  (∀ (c : Cmd) (iod : Nat) (s : State), admitted 0x0304 1 0 none c s → uAt (prmOf c) 0 1 = 3 → dtOk ((prmOf c).drop 1) 4 = true → assistUnitOk ((prmOf c).drop 1) = false →
    answers (.gnssAssist c iod) c 0x0304 stVerifyFail [] s s) ∧
  (∀ (c : Cmd) (iod : Nat) (s : State), admitted 0x0304 1 0 none c s → (uAt (prmOf c) 0 1 = 2 ∨ uAt (prmOf c) 0 1 = 3) → dtOk ((prmOf c).drop 1) 4 = false →
    answers (.gnssAssist c iod) c 0x0304 stBadParam [] s s) ∧
  (∀ (c : Cmd) (s : State) (p : List Byte) (sig sv ant n : Nat), admitted 0x0305 4 2 none c s → prmOf c = p → uAt p 0 1 = sig → sig ≤ 10 → uAt p 1 1 = sv →
    gSvOk (gSystem sig) sv = true → uAt p 2 1 = ant → ant ≤ 1 → (gSystem sig = 2 → uAt p 3 1 ≤ 13) → signalUp s sig ant = true → firstFree 384 s.gnss.chans = some n →
    (∀ e ∈ s.gnss.chans, e.2.st ≠ .track) →
    oks (.gnssChannelRequest c) c 0x0305 s (fun u => ∃ d, tget u.gnss.chans n = some d ∧ d.signal = sig ∧ d.sv = sv ∧ d.ant = ant ∧ d.hostHeld = true ∧ d.st = .idle)) ∧
  (∀ (c : Cmd) (s : State), admitted 0x0305 4 2 none c s → (10 < uAt (prmOf c) 0 1 ∨ gSvOk (gSystem (uAt (prmOf c) 0 1)) (uAt (prmOf c) 1 1) = false) → answers (.gnssChannelRequest c) c 0x0305 0x0381 [] s s) ∧
  (∀ (c : Cmd) (s : State) (d : GChan), admitted 0x0306 2 0 none c s → tget s.gnss.chans (uAt (prmOf c) 0 2) = some d → d.hostHeld = true →
    answers (.gnssChannelRelease c) c 0x0306 stOk [] s (freed (dropChan (uAt (prmOf c) 0 2) s))) ∧
  (∀ (c : Cmd) (s : State), admitted 0x0307 1 0 none c s → uAt (prmOf c) 0 1 ≤ 100 →
    answers (.gnssMeasSubscribe c) c 0x0307 stOk [] s { s with gnss := { s.gnss with measSub := uAt (prmOf c) 0 1, measCount := 0 } }) ∧
  (∀ (c : Cmd) (s : State), admitted 0x0308 2 0 none c s → uAt (prmOf c) 0 1 ≤ 15 → uAt (prmOf c) 1 1 ≤ 1 →
    answers (.gnssNavSubscribe c) c 0x0308 stOk [] s { s with gnss := { s.gnss with navSub := uAt (prmOf c) 0 1, navFailed := uAt (prmOf c) 1 1 == 1 } }) ∧
  (∀ (c : Cmd) (s : State) (p : List Byte) (st : IfStream) (x : Notch), admitted 0x0309 13 0 none c s → prmOf c = p → uAt p 0 1 ≤ 7 → uAt p 1 1 ≤ 3 → uAt p 2 1 = 1 →
    zeros p 3 1 = true → 6 ≤ uAt p 12 1 → uAt p 12 1 ≤ 40 → 20000 ≤ uAt p 8 4 → uAt p 8 4 ≤ 2000000 → (iAt p 4 4).natAbs ≤ 16000000 →
    s.gnss.streams[uAt p 0 1]? = some st → st.notches[uAt p 1 1]? = some x →
    oks (.gnssNotchConfig c) c 0x0309 s (fun u => (streamOf u (uAt p 0 1)).thresh = uAt p 12 1 ∧
      (streamOf u (uAt p 0 1)).notches[uAt p 1 1]? = some { x with next := some (1, iAt p 4 4, uAt p 8 4) })) ∧
  (∀ (c : Cmd) (s : State) (p : List Byte), admitted 0x030A 18 0 none c s → prmOf c = p → uAt p 0 1 ≤ 10 → zeros p 1 3 = true → 512 ≤ uAt p 4 4 → uAt p 4 4 ≤ 10240 →
    256 ≤ uAt p 8 4 → uAt p 8 4 ≤ 5120 → 13 ≤ uAt p 12 4 → uAt p 12 4 ≤ 1280 → 4 ≤ uAt p 16 1 → uAt p 16 1 ≤ 64 → 1 ≤ uAt p 17 1 → uAt p 17 1 ≤ 20 →
    answers (.gnssLoopConfig c) c 0x030A stOk [] s { s with gnss := { s.gnss with
      loops := s.gnss.loops.modify (uAt p 0 1) (fun _ => [uAt p 4 4, uAt p 8 4, uAt p 12 4, uAt p 16 1, uAt p 17 1]) } }) ∧
  (∀ (c : Cmd) (s : State), admitted 0x030B 1 0 none c s → uAt (prmOf c) 0 1 = 0 → (roleOf s = 0 → anyCellOn s = false) →
    oks (.gnssRestart c) c 0x030B s (fun u => u.gnss.eph = [] ∧ u.gnss.almanac = [] ∧ u.gnss.queue = [] ∧ ∀ e ∈ u.gnss.chans, e.2.hostHeld = true ∧ e.2.st = .idle)) ∧
  (∀ (c : Cmd) (s : State) (p : List Byte), admitted 0x030C 8 0 none c s → prmOf c = p → 200 ≤ uAt p 0 4 → uAt p 0 4 ≤ 7000 → 50 ≤ uAt p 4 4 → uAt p 4 4 ≤ 500 →
    (s.time.a.source = 1 → uAt p 0 4 < s.time.a.timeoutMs) → (s.time.b.source = 1 → uAt p 0 4 < s.time.b.timeoutMs) →
    answers (.gnssBurstConfig c) c 0x030C stOk [] s { s with gnss := { s.gnss with burstPeriod := uAt p 0 4, burstOn := uAt p 4 4 } }) ∧
  (∀ (c : Cmd) (s : State) (p : List Byte), admitted 0x030D 14 0 none c s → prmOf c = p → 8 ≤ uAt p 0 1 → uAt p 0 1 ≤ 20 → zeros p 1 3 = true → 5 ≤ uAt p 4 4 →
    uAt p 4 4 ≤ 1000 → 500 ≤ uAt p 8 4 → uAt p 8 4 ≤ 10000 → 4 ≤ uAt p 12 1 → uAt p 12 1 < uAt p 13 1 → uAt p 13 1 ≤ 160 →
    oks (.gnssAcqConfig c) c 0x030D s (fun u => u.gnss.acqThresh = uAt p 0 1 ∧ u.gnss.refUnc = uAt p 4 4 ∧ u.gnss.reacqMs = uAt p 8 4 ∧
      u.gnss.jamWarn = uAt p 12 1 ∧ u.gnss.jamSevere = uAt p 13 1))

/-- What the events of the pose engine and of a base's reference do (04 R132, R133, R138, R140, R150, R159, R161, R165, R167). -/
def Obligations.PoseEvents : Prop :=
  (∀ (sol : EpochSol) (s : State), epochOk sol.t s = true → s.time.refLost = false → dtNow s ≤ sol.t + 5 * ms1 → s.pose.resetPending = none → sol.faulty = false →
    sol.excl.length ≤ 2 → sol.avail ≠ 0 → corrUsable s = false → s.pose.fixed = false → s.pose.nav.isSome = true →
    reaches (.rtkEpochSolution sol) s (fun u => u.pose.lastEpoch = some sol.t ∧ u.pose.navAt = dtNow s ∧ u.pose.solution = 1 ∧
      u.pose.nav = some (if u.pose.headingSrc = 3 then { sol.nav with sigPsi := courseSigma sol } else sol.nav))) ∧
  (∀ (sol : EpochSol) (s : State), epochOk sol.t s = true → s.time.refLost = false → dtNow s ≤ sol.t + 5 * ms1 → s.pose.resetPending = none → (sol.faulty = true ∨ 2 < sol.excl.length) →
    exec (.rtkEpochSolution sol) s = .next (settle { s with pose := { s.pose with excluded := (s.pose.excluded + min 2 sol.excl.length) % 2 ^ 32 } })) ∧
  (∀ (t : Nat) (s : State), epochOk t s = true → reaches (.poseEpochLate t) s (fun u => u.pose = { s.pose with lateEpochs := (s.pose.lateEpochs + 1) % 2 ^ 32 })) ∧
  (∀ (s : State) (f : List Byte) (r : List (List Byte)), roleOf s = 0 → s.pose.rtcmIn = f :: r → sourceTakes false s = true → rtcmPayload f = none →
    exec (.rtcmFrame false) s = .next (settle { s with pose := { s.pose with rtcmIn := r, rtcmDiscarded := (s.pose.rtcmDiscarded + 1) % 2 ^ 32 } })) ∧
  (∀ (s : State) (f p : List Byte) (r : List (List Byte)), roleOf s = 0 → s.pose.rtcmIn = f :: r → sourceTakes false s = true → rtcmPayload f = some p →
    isMsm (rtcmNo p) = false → rtcmNo p ≠ 1005 → rtcmNo p ≠ 1006 → rtcmNo p ≠ 1230 →
    exec (.rtcmFrame false) s = .next (settle { s with pose := { s.pose with rtcmIn := r, rtcmIgnored := (s.pose.rtcmIgnored + 1) % 2 ^ 32 } })) ∧
  (∀ (s : State) (f p : List Byte) (r : List (List Byte)), roleOf s = 0 → s.pose.rtcmIn = f :: r → sourceTakes false s = true → rtcmPayload f = some p →
    (rtcmNo p = 1005 ∨ rtcmNo p = 1006) →
    reaches (.rtcmFrame false) s (fun u => u.pose.rtcmIn = r ∧ rtcmStation p ∈ u.pose.seenStation ∧ tget u.pose.arps (rtcmStation p) = some (stationArp p))) ∧
  (∀ (s : State) (f p : List Byte) (r : List (List Byte)), roleOf s = 0 → s.pose.rtcmIn = f :: r → sourceTakes false s = true → rtcmPayload f = some p →
    isMsm (rtcmNo p) = true → s.pose.locked = true → s.pose.station = some (rtcmStation p) → dtNow s ≤ msmEpoch s p + ms1 * s.pose.corrAgeMs →
    (∀ c, s.pose.corrAt = some c → c < msmEpoch s p) →
    reaches (.rtcmFrame false) s (fun u => u.pose.rtcmIn = r ∧ u.pose.corrAt = some (msmEpoch s p) ∧ u.pose.corrStale = false ∧
      u.pose.baseObs = joinObs (msmObs (msmEpoch s p) p) s.pose.baseObs)) ∧
  (∀ (s : State) (f p : List Byte) (r : List (List Byte)), roleOf s = 0 → s.pose.rtcmIn = f :: r → sourceTakes false s = true → rtcmPayload f = some p →
    rtcmNo p = 1230 → s.pose.locked = true → s.pose.station = some (rtcmStation p) →
    reaches (.rtcmFrame false) s (fun u => u.pose.rtcmIn = r ∧ u.pose.gloBias = gloBiases p)) ∧
  (∀ (s t : State) (k : Packet) (p : List Byte), roleOf s = 0 → takeS0 2 s = some (k, t) → sourceTakes true s = true → rtcmPayload k.payload = some p →
    (rtcmNo p = 1005 ∨ rtcmNo p = 1006) →
    reaches (.rtcmFrame true) s (fun u => rtcmStation p ∈ u.pose.seenStation ∧ tget u.pose.arps (rtcmStation p) = some (stationArp p))) ∧
  (∀ (s : State) (h : Bool), roleOf s ≠ 0 → exec (.rtcmFrame h) s = .next (settle s)) ∧
  (∀ (s : State) (a : Nat), s.pose.corrAt = some a → s.pose.corrStale = false → roleOf s = 0 → s.pose.solution ≠ 5 →
    reaches .corrStale s (fun u => u.pose.corrStale = true ∧ u.pose.locked = false ∧ u.pose.fixed = false ∧ u.pose.solution = min 1 s.pose.solution)) ∧
  (∀ (d : List Byte) (nav v : Nav) (s : State) (c : List Byte), s.pose.imuCfg = some c → s.pose.imuLost = false → s.pose.nav = some v →
    (∀ k < 6, fullScale c (imuRaw c d k) = false) →
    reaches (.imuSample d nav) s (fun u => u.pose.imuSample = imuBody c d ∧ u.pose.imuAt = some ((capTime 0 s : Int) - ns1 * iAt c 8 4).toNat ∧
      u.pose.imuCyc = s.time.cyc ∧ u.pose.imuSat = false ∧ u.pose.nav = some (imuNav v nav (dtNow s) s.pose))) ∧
  (∀ (s : State) (c : List Byte), s.pose.imuCfg = some c → s.pose.imuLost = false →
    reaches .imuLost s (fun u => u.pose.imuLost = true ∧ s.pose.imuCyc + 3 * imuPeriod c ≤ u.time.cyc)) ∧
  (∀ (s : State) (e : Nat), s.pose.lastEpoch = some e → roleOf s = 0 → isFollower s = false → s.pose.nav.isSome = true → s.pose.solution ≠ 5 → s.pose.solution ≠ 0 →
    reaches .poseDrStart s (fun u => u.pose.solution = 5 ∧ (imuOk s.pose = false → u.pose.integrity = false) ∧ (imuOk s.pose = true → u.pose.integrity = s.pose.integrity) ∧
      u.pose.headingSrc = if s.pose.headingSrc ≠ 0 ∧ imuOk s.pose = true then 2 else 0)) ∧
  (∀ (s : State) (e : Nat), s.pose.lastEpoch = some e → s.pose.solution = 5 → s.pose.drLimited = false →
    reaches .poseDrLimit s (fun u => u.pose = { s.pose with drLimited := true })) ∧
  (∀ s : State, s.pose.baseSt = 1 → roleOf s = 1 → reaches .baseSurveyFailed s (fun u => u.pose = { s.pose with baseSt := 0 } ∧ s.pose.surveyFrom + cycMs 86400000 ≤ u.time.cyc)) ∧
  (∀ (hdr : Nat) (s : State), roleOf s = 1 → s.pose.baseSt = 2 → s.pose.corrSub = false → s.net.group = 0 → s.pose.corrSf = none →
    reaches (.correctionInterval hdr) s (fun u => u.pose = { s.pose with
      corrSf := some (sfFull s (dtNow s) + 1), corrSet := s.pose.corrSet + 1, stationOut := [], msmAlign := alignAll s.pose.msmAlign (s.gnss.obs.filter (fun o => o.ant == 0)) })) ∧
  (∀ (b : List Byte) (s : State), roleOf s = 1 → s.pose.baseSt = 2 → s.pose.corrSub = false → s.net.group = 0 → systemOn s 1 = false →
    reaches (.stationIntervalDue b) s (fun u => ∃ v : State, v.pose = s.pose ∧ u.pose.stationOut = s.pose.stationOut ++ rtcmWrap (stationMessage v) ∧ u.pose.stationAt.isSome = true))

/-- The POSE commands (04 R136, R139, R140, R147, R153, R155, R163, R168): what each answers and leaves. The BASE commands (04 R164 to R168), and in the other
role BAD_STATE without effect (00 R3, 14 R653). -/
def Obligations.PoseAndBaseCommands : Prop :=
    ((∀ (c : Cmd) (s : State) (p : List Byte), admitted 0x0401 38 0 none c s → prmOf c = p → uAt p 36 1 ≤ 15 → uAt p 37 1 ≤ 3 → anyCellOn s = false →
    (∀ x y z : Int, x = iAt p 12 4 - iAt p 0 4 → y = iAt p 16 4 - iAt p 4 4 → z = iAt p 20 4 - iAt p 8 4 → bit (uAt p 37 1) 0 = true →
      300 ^ 2 ≤ x * x + y * y + z * z ∧ x * x + y * y + z * z ≤ 10000 ^ 2) →
    answers (.poseInstallSet c) c 0x0401 stOk [] s { s with pose := { s.pose with
      install := some ((List.range 9).map (fun k => iAt p (4 * k) 4)), rotations := uAt p 36 1, ant1 := bit (uAt p 37 1) 0, imuPresent := bit (uAt p 37 1) 1 } }) ∧
  (∀ (c : Cmd) (s : State) (p : List Byte), admitted 0x0402 14 0 none c s → prmOf c = p → within 150 1000 (uAt p 0 2) = true → within 150 1000 (uAt p 2 2) = true →
    within 990000000 999999000 (uAt p 4 4) = true → within 4 32 (uAt p 8 1) = true → within 1 20 (uAt p 9 1) = true → within 5 100 (uAt p 10 2) = true →
    within 1 60 (uAt p 12 2) = true → answers (.poseFilterConfig c) c 0x0402 stOk [] s { s with pose := { s.pose with
      ratioMin := uAt p 0 2, headRatioMin := uAt p 2 2, successMin := uAt p 4 4, fixMinAmb := uAt p 8 1, fixHold := uAt p 9 1, headTol := uAt p 10 2, baselineKm := uAt p 12 2 } }) ∧
  (∀ (c : Cmd) (s : State) (p : List Byte), admitted 0x0403 20 0 none c s → prmOf c = p → within 10 5000 (uAt p 0 4) = true → within 596524 119304647 (uAt p 4 4) = true →
    uAt p 8 4 ≤ 10000 → within 300 700 (uAt p 12 2) = true → uAt p 14 2 ≤ 1000 → within 100 5000 (uAt p 16 2) = true → uAt p 18 2 ≤ 5000 →
    answers (.poseIntegrityConfig c) c 0x0403 stOk [] s { s with pose := { s.pose with
      plLimit := uAt p 0 4, headPlLimit := uAt p 4 4, drLimitMs := uAt p 8 4, kPl := uAt p 12 2, extrapRate := uAt p 14 2, cogMin := uAt p 16 2, holdMs := uAt p 18 2 } }) ∧
  (∀ (c : Cmd) (s : State) (p : List Byte), admitted 0x0404 44 0 none c s → prmOf c = p → (uAt p 0 1 = 0 ∨ uAt p 0 1 = 3) → within 1 100 (uAt p 1 1) = true → uAt p 2 1 ≤ 2 →
    within 1 4 (uAt p 3 1) = true → within 100 2000 (uAt p 4 2) = true → zeros p 6 2 = true → uAt p 18 1 ≤ 2 → uAt p 19 1 ≤ 1 → uAt p 28 1 < 64 → uAt p 29 1 < 8 →
    zeros p 30 2 = true → (∀ k < 3, uAt p 28 1 / 4 ^ k % 4 < 3) → s.pose.install.isSome = true → s.pose.imuPresent = true →
    answers (.poseImuConfig c) c 0x0404 stOk [] s { s with pose := { s.pose with imuCfg := some (p.take 44), imuCyc := s.time.cyc, imuAt := none, imuRun := 0, imuLost := false } }) ∧
  (∀ (c : Cmd) (s : State) (p : List Byte), admitted 0x0404 44 0 none c s → prmOf c = p → (uAt p 0 1 = 0 ∨ uAt p 0 1 = 3) → within 1 100 (uAt p 1 1) = true → uAt p 2 1 ≤ 2 →
    within 1 4 (uAt p 3 1) = true → within 100 2000 (uAt p 4 2) = true → zeros p 6 2 = true → uAt p 18 1 ≤ 2 → uAt p 19 1 ≤ 1 → uAt p 28 1 < 64 → uAt p 29 1 < 8 →
    zeros p 30 2 = true → (∀ k < 3, uAt p 28 1 / 4 ^ k % 4 < 3) → (s.pose.install = none ∨ s.pose.imuPresent = false) →
    answers (.poseImuConfig c) c 0x0404 (if s.pose.install = none then 0x0480 else 0x0481) [] s s) ∧
  (∀ (c : Cmd) (s : State) (p : List Byte), admitted 0x0405 7 0 none c s → prmOf c = p → uAt p 0 1 ≤ 3 → within 1 4 (uAt p 1 1) = true → within 1 32 (uAt p 6 1) = true →
    answers (.poseImuReadSet c) c 0x0405 stOk [] s { s with pose := { s.pose with
      imuReads := s.pose.imuReads.modify (uAt p 0 1) (fun _ => ((p.drop 2).take (uAt p 1 1), uAt p 6 1)) } }) ∧
  (∀ (c : Cmd) (s : State) (p : List Byte), admitted 0x0406 10 0 (some 0) c s → prmOf c = p → uAt p 0 1 ≤ 2 → zeros p 1 3 = true → within 1000 60000 (uAt p 4 4) = true →
    (uAt p 8 2 = 0xFFFF ∨ uAt p 8 2 ≤ 4095) →
    oks (.poseCorrConfig c) c 0x0406 s (fun u => u.pose.corrSource = uAt p 0 1 ∧ u.pose.corrAgeMs = uAt p 4 4 ∧ u.pose.corrStation = uAt p 8 2)) ∧
  (∀ (c : Cmd) (s : State), admitted 0x0407 0 33 none c s → reads (.poseStatus c) c 0x0407 (poseStatusBytes s) s) ∧
  (∀ (c : Cmd) (s : State), admitted 0x0408 1 0 none c s → uAt (prmOf c) 0 1 ≤ 100 →
    answers (.poseSubscribe c) c 0x0408 stOk [] s { s with pose := { s.pose with poseSub := uAt (prmOf c) 0 1, poseCount := 0 } }) ∧
  (∀ (c : Cmd) (s : State) (p : List Byte) (r : PoseRec), admitted 0x0409 24 29 (some 0) c s → prmOf c = p → dtOk p 0 = true → s.pose.ref = some r → inHorizon r (dtAt p 0) = true →
    reads (.poseAt c) c 0x0409 (poseAtBytes r (dtAt p 0) (iAt p 12 4) (iAt p 16 4) (iAt p 20 4) s) s) ∧
  (∀ (c : Cmd) (s : State) (p : List Byte) (r : PoseRec), admitted 0x0409 24 29 (some 0) c s → prmOf c = p → dtOk p 0 = true → s.pose.ref = some r → inHorizon r (dtAt p 0) = false →
    answers (.poseAt c) c 0x0409 stStale [] s s) ∧
  (∀ (c : Cmd) (s : State), admitted 0x040A 1 0 none c s → uAt (prmOf c) 0 1 ≤ 1 → anyCellOn s = false →
    answers (.poseReset c) c 0x040A stOk [] s { s with pose := { s.pose with resetPending := some (max (uAt (prmOf c) 0 1) (s.pose.resetPending.getD 0)) } }) ∧
  (∀ (c : Cmd) (s : State) (p : List Byte), admitted 0x040B 44 0 none c s → prmOf c = p → uAt p 4 1 ≤ 3 → zeros p 5 1 = true → s.pose.pcv = [] →
    answers (.posePcvLoad c) c 0x040B stOk [] s { s with pose := { s.pose with pcv := [(uAt p 0 4, uAt p 4 1, (List.range 19).map (fun k => iAt p (6 + 2 * k) 2))] } }) ∧
  (∀ (c : Cmd) (s : State), admitted 0x040F 1 0 none c s → uAt (prmOf c) 0 1 ≤ 1 →
    answers (.poseCorrSubscribe c) c 0x040F stOk [] s { s with pose := { s.pose with corrSub := uAt (prmOf c) 0 1 == 1 } }) ∧
  (∀ (c : Cmd) (s : State), admitted 0x0410 2 0 none c s → uAt (prmOf c) 0 1 ≤ 31 → within 1 10 (uAt (prmOf c) 1 1) = true →
    answers (.poseNmeaSubscribe c) c 0x0410 stOk [] s { s with pose := { s.pose with nmeaMask := uAt (prmOf c) 0 1, nmeaRate := uAt (prmOf c) 1 1 } })) ∧
  ((∀ (c : Cmd) (s : State) (p : List Byte), admitted 0x040C 28 0 (some 1) c s → prmOf c = p → uAt p 26 2 ≤ 4095 → s.pose.standalone = none → s.power.pfwAt = none →
    3 ≤ s.journal.erased.length → s.journal.progFault = false →
    oks (.baseRefSet c) c 0x040C s (fun u => u.pose.baseSt = 2 ∧ u.pose.baseXyz = (iAt p 0 8, iAt p 8 8, iAt p 16 8) ∧ u.pose.baseHeight = uAt p 24 2 ∧
      u.pose.baseStation = uAt p 26 2)) ∧
  (∀ (c : Cmd) (s : State) (p : List Byte) (q : Int × Int × Int), admitted 0x040C 28 0 (some 1) c s → prmOf c = p → uAt p 26 2 ≤ 4095 → s.pose.standalone = some q →
    10000 * s.pose.refMonM < ecefDist (iAt p 0 8, iAt p 8 8, iAt p 16 8) q → answers (.baseRefSet c) c 0x040C 0x0482 [] s s) ∧
  (∀ (c : Cmd) (s : State) (p : List Byte), admitted 0x040D 10 0 (some 1) c s → prmOf c = p → within 60 86400 (uAt p 0 4) = true → within 100 10000 (uAt p 4 4) = true →
    uAt p 8 2 ≤ 4095 → answers (.baseSurveyStart c) c 0x040D stAccepted [] s { s with pose := { s.pose with
      baseSt := 1, surveyTime := uAt p 0 4, surveyAcc := uAt p 4 4, baseStation := uAt p 8 2, surveyFrom := s.time.cyc, surveyW := 0, surveySum := (0, 0, 0) } }) ∧
  (∀ (c : Cmd) (s : State) (p : List Byte), admitted 0x040E 3 0 (some 1) c s → prmOf c = p → within 1 10 (uAt p 0 1) = true → within 1 60 (uAt p 1 1) = true →
    within 1 100 (uAt p 2 1) = true → answers (.baseCorrConfig c) c 0x040E stOk [] s { s with pose := { s.pose with
      corrInterval := uAt p 0 1, stationInterval := uAt p 1 1, refMonM := uAt p 2 1 } }))

/-- What the tasks of a tide, its commit deadline, a write-back and the end of a manual operation do (05 R172, R175, R183, R187, R201, R202, R203). -/
def Obligations.CellTaskEvents : Prop :=
  (∀ (t b : Nat) (s : State), tasksRun s = true → nextB s = some b →
    (s.cell.snap.filter (fun e => bit e.2.flags 0)).any (fun e => (poseInstants s b e.2).any (fun x => decide (x ≤ t + us1) && decide (t ≤ x + us1))) = true →
    exec (.poseBatch t) s = .next (settle { s with cell := { s.cell with batches := t :: s.cell.batches } })) ∧
  (∀ (loop pos b ix : Nat) (c : Cell) (r : PoseRec) (s : State), nextB s = some b → s.pose.ref = some r → tasksRun s = true → s.cell.evaled.contains (64 * loop + pos) = false →
    s.cell.snap.filter (fun e => bit e.2.flags 0 && e.2.channel / 8 % 1024 == 64 * loop + pos) = [(ix, c)] → (poseInstants s b c).all (batchDone s) = true → readsReady s r b c = true →
    reaches (.cellEval loop pos []) s (fun u => u.cell.evaled = s.cell.evaled ++ [64 * loop + pos] ∧ u.cell.results = s.cell.results ++ [(evalCell s r b ix c).1])) ∧
  (∀ (n b : Nat) (s : State), nextB s = some b → tasksRun s = true → (cellNodes s.cell.snap).filter (fun k => k / 64 == n) ≠ [] →
    (∀ k ∈ cellNodes s.cell.snap, k / 64 = n → k ∈ s.cell.evaled) → s.cell.packed.any (·.1 == n) = false →
    reaches (.framePack n) s (fun u => ∃ ws : Tab Nat, u.cell.packed = s.cell.packed ++ [(n, ws)] ∧
      (∀ x ∈ s.cell.results, chLoop x.channel = n → (tget ws x.channel).isSome = true))) ∧
  (∀ s : State, tasksRun s = true → s.cell.gateAt = none → (∀ n ∈ cellLoops s.cell.snap, s.cell.packed.any (·.1 == n) = true) →
    exec .commitGate s = .next (settle { s with cell := { s.cell with gateAt := some (dtNow s) } })) ∧
  (∀ (pace cap less b : Nat) (s : State), s.time.lastBoundary = some b → s.cell.decided = false → roleOf s = 0 → s.power.st = Power.spring → stopInForce s = true →
    reaches (.commitDeadline pace cap less) s (fun u => u.cell.decided = true ∧ u.cell.frame = [] ∧ u.cell.nextOn = false ∧ u.cell.cellsOn = 0 ∧ anyCellOn u = false)) ∧
  (∀ (tx ty : Int) (tide : Nat) (ks : List Nat) (s : State), s.cell.writes.find? (fun w => w.1 == tx && w.2.1 == ty) = some (tx, ty, tide, ks) → inExtent s tx ty = true →
    s.net.group = 0 → (∃ p, planeOf s 0 tx ty = some p ∧ p.cache.isSome = true) →
    reaches (.writeback tx ty) s (fun u => u.cell = { s.cell with writes := s.cell.writes.erase (tx, ty, tide, ks) } ∧
      (planeOf u 0 tx ty).map (·.cache) = (planeOf s 0 tx ty).map (fun p => some (creditData ks p.newest)) ∧ (planeOf u 0 tx ty).map (·.lastCredit) = some tide)) ∧
  (∀ (m : Manual) (k : Nat) (s : State), s.cell.manuals.find? (fun x => x.cell == m.cell) = some m → m.at_ = some k →
    reaches (.cellManualEnd m.cell) s (fun u => u.cell = { s.cell with manuals := s.cell.manuals.filter (fun x => x.cell != m.cell) } ∧ k + cycMs m.ms ≤ u.time.cyc))

/-- The CELL commands (05 R176, R178, R180, R198 to R201, R204, R212, R215 to R217): what each answers and leaves. -/
def Obligations.CellCommands : Prop :=
  (∀ (c : Cmd) (s : State) (p : List Byte) (ix : Nat), admitted 0x0501 48 2 (some 0) c s → prmOf c = p → cellOk p = true → firstFree 4096 s.cell.cells = some ix →
    (bit (cellOf p).flags 0 = true → channelFault s none (cellOf p) = none) → (cellOf p).fadeOn = 0 → (cellOf p).fadeOff = 0 →
    ∃ u, answers (.cellAdd c) c 0x0501 stOk (le 2 ix) s u ∧ u.cell.cells = tset s.cell.cells ix (cellOf p) ∧ (jobOpen s = false → u.cell.leadNext = s.cell.leadNext)) ∧
  (∀ (c : Cmd) (s : State) (p : List Byte), admitted 0x0501 48 2 (some 0) c s → prmOf c = p → cellOk p = true → firstFree 4096 s.cell.cells = none →
    answers (.cellAdd c) c 0x0501 stTableFull [] s s) ∧
  (∀ (c : Cmd) (s : State) (p : List Byte) (o : Cell), admitted 0x0502 52 0 (some 0) c s → prmOf c = p → tget s.cell.cells (uAt p 0 2) = some o → cellOk (p.drop 4) = true →
    zeros p 2 2 = true → o.modeNow = 0 → (bit (cellOf (p.drop 4)).flags 0 = true → channelFault s (some (uAt p 0 2)) (cellOf (p.drop 4)) = none) →
    (cellOf (p.drop 4)).fadeOn = 0 → (cellOf (p.drop 4)).fadeOff = 0 →
    oks (.cellWrite c) c 0x0502 s (fun u => (tget u.cell.cells (uAt p 0 2)).map cellBytes = some ((cellBytes (cellOf (p.drop 4))).take 48 ++ (cellBytes o).drop 48))) ∧
  (∀ (c : Cmd) (s : State) (e : Cell), admitted 0x0503 2 64 (some 0) c s → tget s.cell.cells (uAt (prmOf c) 0 2) = some e → reads (.cellRead c) c 0x0503 (cellBytes e) s) ∧
  (∀ (c : Cmd) (s : State) (p : List Byte) (o : Cell), admitted 0x0504 2 0 (some 0) c s → prmOf c = p → tget s.cell.cells (uAt p 0 2) = some o → o.modeNow = 0 →
    oks (.cellRemove c) c 0x0504 s (fun u => tget u.cell.cells (uAt p 0 2) = none ∧ (∀ k, k ≠ uAt p 0 2 → tget u.cell.cells k = tget s.cell.cells k) ∧
      u.cell.spots = s.cell.spots.filter (fun x => x.cell != uAt p 0 2))) ∧
  (∀ (c : Cmd) (s : State) (p : List Byte), admitted 0x0505 12 0 (some 0) c s → prmOf c = p → uAt p 0 2 ≤ 5000 → uAt p 2 1 ≤ 1 → within 1 50 (uAt p 3 1) = true → uAt p 4 1 ≤ 90 →
    uAt p 3 1 + 5 ≤ uAt p 4 1 → zeros p 5 1 = true → within 650 950 (uAt p 6 2) = true → within 650 950 (uAt p 8 2) = true → uAt p 6 2 ≤ uAt p 8 2 → zeros p 10 2 = true →
    answers (.cellEngineConfig c) c 0x0505 stOk [] s
      { s with cell := { s.cell with cfgNext := some [uAt p 0 2, uAt p 2 1, uAt p 3 1, uAt p 4 1, uAt p 6 2, uAt p 8 2] } }) ∧
  (∀ (c : Cmd) (s : State) (p : List Byte) (e : Cell) (b g0 g1 : Nat), admitted 0x0506 20 0 (some 0) c s → prmOf c = p → tget s.cell.cells (uAt p 0 2) = some e →
    b = boundaryOf s (uAt p 4 4) → g0 = b + uAt p 8 2 * edgeU s → g1 = g0 + uAt p 12 4 * edgeU s → uAt p 2 1 < 4 → e.kind ≠ 4 → uAt p 8 2 < edgesPerTide s → uAt p 10 2 < 4096 →
    uAt p 12 4 ≠ 0 → spotOn s e g0 < spotOff s e g1 → debugHold s = false → spotOn s e g0 / tideP s ≠ spotOff s e g1 / tideP s →
    dtNow s + ns1 * s.cell.lead ≤ spotOn s e g0 / tideP s * tideP s → us1 * e.latOn ≤ g0 → (∀ x ∈ s.cell.spots, x.cell = uAt p 0 2 → x.g1 ≤ g0 ∨ g1 ≤ x.g0) →
    s.cell.spots.length < 1024 → (s.cell.spots.filter (·.cell == uAt p 0 2)).length < 8 →
    oks (.cellSpot c) c 0x0506 s (fun u => ∃ x : Spot, u = { s with cell := { s.cell with spots := s.cell.spots ++ [x] } } ∧
      x.cell = uAt p 0 2 ∧ x.token = uAt p 16 4 ∧ x.duty = uAt p 10 2 ∧ x.g0 = g0 ∧ x.g1 = g1 ∧ x.told = false)) ∧
  (∀ (c : Cmd) (s : State) (x : Spot), admitted 0x0507 4 0 (some 0) c s → x ∈ s.cell.spots → x.token = uAt (prmOf c) 0 4 →
    answers (.cellSpotCancel c) c 0x0507 stOk [] s { s with cell := { s.cell with spots := s.cell.spots.filter (fun x => x.token != uAt (prmOf c) 0 4) } }) ∧
  (∀ (c : Cmd) (s : State) (p : List Byte) (e : Cell), admitted 0x0508 12 0 (some 0) c s → prmOf c = p → tget s.cell.cells (uAt p 0 2) = some e → uAt p 2 1 ≤ 2 → zeros p 3 1 = true →
    uAt p 4 2 < 4096 → zeros p 6 2 = true → within 1 60000 (uAt p 8 4) = true → jobOpen s = false → bit e.flags 0 = true → startsHeld s = false →
    answers (.cellManual c) c 0x0508 stOk [] s { s with cell := { s.cell with
      manuals := s.cell.manuals.filter (fun m => m.cell != uAt p 0 2) ++ [{ cell := uAt p 0 2, mode := uAt p 2 1, duty := uAt p 4 2, ms := uAt p 8 4 }] } }) ∧
  (∀ (c : Cmd) (s : State), admitted 0x0509 0 34 (some 0) c s → reads (.cellStats c) c 0x0509 (cellStatsBytes s) s) ∧
  (∀ (c : Cmd) (s : State), admitted 0x050A 2 0 (some 0) c s → uAt (prmOf c) 0 2 ≤ 10000 →
    answers (.cellTraceSubscribe c) c 0x050A stOk [] s { s with cell := { s.cell with traceK := uAt (prmOf c) 0 2, traceN := 0 } }) ∧
  (∀ (c : Cmd) (s : State), admitted 0x050B 0 0 (some 0) c s → s.cell.lateRun = true → 64 ≤ s.cell.shadow →
    oks (.cellFaultClear c) c 0x050B s (fun u => u.cell = { s.cell with lateRun := false, lateRunLen := 0, shadow := 0 })) ∧
  (∀ (c : Cmd) (s : State), admitted 0x050B 0 0 (some 0) c s → s.cell.lateRun = true → s.cell.shadow < 64 → answers (.cellFaultClear c) c 0x050B 0x0582 [] s s)

/-- What the raster events do: a job closes, TILE packets install and are rejected, loads, drops and deltas take effect, snapshots are sent, planes are filled and
flushed, absent planes are asked for (06 R220, R236, R238, R239, R241, R242, R246, R247, R250). -/
def Obligations.RasterEvents : Prop :=
  (∀ s : State, s.raster.job = 4 → anyCellOn s = false → s.cell.nextOn = false → s.cell.allOff = true → s.cell.writes = [] →
    reaches .rasterJobClosed s (fun u => u.raster.job = 1 ∧ u.raster.loads = [] ∧ u.raster.drops = [] ∧ u.raster.lastTide = s.time.tideNo ∧ (∀ p ∈ u.raster.planes, p.dirtyFrom = none))) ∧
  (∀ (s s0 : State) (p : Packet) (q : Plane), takeS0 1 s = some (p, s0) → s.raster.parts = none → s.raster.job = 1 → 48 ≤ p.payload.length → loadCause p.payload 0 s0 = none →
    bit (uAt p.payload 7 1) 0 = true → uAt p.payload 6 1 = 0 → planeOf s (uAt p.payload 4 1) (iAt p.payload 8 2) (iAt p.payload 10 2) = some q →
    reaches .tilePacket s (fun u => u.raster.installed = (s.raster.installed + 1) % 2 ^ 32 ∧ u.raster.rejected = s.raster.rejected ∧
      (planeOf u (uAt p.payload 4 1) (iAt p.payload 8 2) (iAt p.payload 10 2)).map (fun x => (x.st, x.newest, x.dirtyExp)) = some (1, { fill := uAt p.payload 13 1 }, false))) ∧
  (∀ (s s0 : State) (p : Packet), takeS0 1 s = some (p, s0) → s.raster.parts = none → (s.raster.job = 0 ∨ s.raster.job = 2) →
    reaches .tilePacket s (fun u => u.raster.rejected = (s.raster.rejected + 1) % 2 ^ 32 ∧ u.raster.lastCause = 0 ∧ u.raster.planes = s.raster.planes ∧ u.raster.installed = s.raster.installed)) ∧
  (∀ (l : LoadJob) (r : List (LoadJob × Bool)) (s : State), s.raster.loads = (l, true) :: r → (l.layer ≠ 0 ∨ writePending s l.tx l.ty = false) →
    reaches .planeLoadApply s (fun u => u.raster.loads = r ∧ (planeOf u l.layer l.tx l.ty).map (·.st) = some 1)) ∧
  (∀ (x : SaveJob) (s : State), s.raster.save = some x → x.queue = [] → s1RoomAll [lastPacket s x] s = true → reaches .snapshotSend s (fun u => u.raster = { s.raster with save := none })) ∧
  (∀ (x : SaveJob) (l : Nat) (tx ty : Int) (r : List (Nat × Int × Int)) (s : State), s.raster.save = some x → x.queue = (l, tx, ty) :: r → s.raster.job ≠ 3 →
    s1RoomAll (tilePackets s x.isExport 0 l tx ty) s = true → (l ≠ 0 ∨ writePending s tx ty = false) → (x.isExport = false ∨ notExported s l tx ty = false) →
    reaches .snapshotSend s (fun u => u.raster.save = some { x with queue := r, sent := x.sent + 1 } ∧ (l = 0 → ∀ p ∈ u.raster.planes, p.at_ 0 tx ty = true → p.dirtyExp = false) ∧
      (l ≠ 0 → u.raster.planes = s.raster.planes))) ∧
  (∀ (x : SaveJob) (l : Nat) (tx ty : Int) (r : List (Nat × Int × Int)) (s : State), s.raster.save = some x → x.queue = (l, tx, ty) :: r → s.raster.job ≠ 3 →
    s1RoomAll (tilePackets s x.isExport 0 l tx ty) s = true → (l ≠ 0 ∨ writePending s tx ty = false) → x.isExport = true → notExported s l tx ty = true →
    exec .snapshotSend s = .next (settle { s with raster := { s.raster with save := some { x with queue := r } } })) ∧
  (∀ (d : JobDef) (k : Nat) (s : State), s.raster.jdef = some d → s.raster.want = true → roleOf s = 0 → s.raster.wantAt = some k →
    reaches .wantTest s (fun u => u.raster.wantAt = some u.time.cyc ∧ k + cycMs 100 ≤ u.time.cyc ∧ u.raster.planes = s.raster.planes)) ∧
  (∀ (l : Nat) (tx ty : Int) (byTask : Bool) (wait : Nat) (p : Plane) (s : State), planeOf s l tx ty = some p → p.st ≠ 3 → p.cache = none → (cachedLayers s).contains l = true →
    (byTask = true ∨ prefetchNext s p = true) → slotsUsed s + slotsOf l ≤ 1536 →
    reaches (.tileFill l tx ty byTask wait none) s (fun u => planeOf u l tx ty = some { p with cache := some p.dram })) ∧
  (∀ (k : Nat) (p : Plane) (d : JobDef) (s : State), oldestDirty s.raster.planes = some (k, p) → s.raster.jdef = some d →
    reaches .flushInterval s (fun u => k + cycMs d.flush ≤ u.time.cyc ∧ (∀ q ∈ u.raster.planes, q.at_ p.layer p.tx p.ty = true → q.dirtyFrom = none))) ∧
  (∀ (o : Nat) (b : List Byte) (r : List (Nat × List Byte × Bool)) (p : Plane) (s : State), s.raster.deltas = (o, b, true) :: r → writePending s (iAt b 12 2) (iAt b 14 2) = false →
    jobOpen s = false → inExtent s (iAt b 12 2) (iAt b 14 2) = true → planeOf s 0 (iAt b 12 2) (iAt b 14 2) = some p →
    reaches .deltaApply s (fun u => u.raster.deltas = r ∧
      (planeOf u 0 (iAt b 12 2) (iAt b 14 2)).map (fun q => (q.newest, q.dirtyExp, q.st)) = some (creditData (deltaCells b).eraseDups p.newest, true, p.st))) ∧
  (∀ (m : Nat) (q : Int × Int × Int × Int) (t : List (Nat × (Int × Int × Int × Int) × Bool)) (s : State), s.raster.drops = (m, q, true) :: t → bit m 0 = false →
    exec .tileDropApply s = .next (settle (dropPlanes m q { s with raster := { s.raster with drops := t } })))

/-- The RASTER commands (06 R221 to R224, R239 to R242, R252 to R255): what each answers and leaves. -/
def Obligations.RasterCommands : Prop :=
  (∀ (c : Cmd) (s : State) (p : List Byte) (x0 y0 x1 y1 : Int), admitted 0x0601 52 0 (some 0) c s → prmOf c = p → s.raster.job = 0 → uAt p 0 4 ≠ 0 → uAt p 4 1 ≤ 4 → uAt p 5 1 % 4 = 3 →
    x0 = iAt p 28 2 → y0 = iAt p 30 2 → x1 = iAt p 32 2 → y1 = iAt p 34 2 → x0 ≤ x1 → y0 ≤ y1 → (x1 - x0 + 1) * (y1 - y0 + 1) ≤ 1048576 →
    -25000000 ≤ x0 * (256 * gridMm (uAt p 4 1)) → -25000000 ≤ y0 * (256 * gridMm (uAt p 4 1)) → (x1 + 1) * (256 * gridMm (uAt p 4 1)) ≤ 25000000 → (y1 + 1) * (256 * gridMm (uAt p 4 1)) ≤ 25000000 →
    uAt p 6 1 ≤ 1 → zeros p 7 1 = true → zeros p 42 2 = true → zeros p 50 2 = true → within 100 2000 (uAt p 44 2) = true → within 100 10000 (uAt p 46 2) = true → within 20 5000 (uAt p 48 2) = true →
    oks (.rasterJobDefine c) c 0x0601 s (fun u => u.raster.job = 1 ∧ u.raster.planes = [] ∧ ∃ d, u.raster.jdef = some d ∧ d.id = uAt p 0 4 ∧ d.grid = uAt p 4 1 ∧ d.layers = uAt p 5 1 ∧
      d.uncovered = (uAt p 6 1 == 1) ∧ d.lat = iAt p 8 8 ∧ d.lon = iAt p 16 8 ∧ d.height = iAt p 24 4 ∧ (d.tx0, d.ty0, d.tx1, d.ty1) = (x0, y0, x1, y1) ∧ d.tpf = uAt p 44 2 ∧
      d.flush = uAt p 46 2 ∧ d.horizon = uAt p 48 2)) ∧
  (∀ (c : Cmd) (s : State), admitted 0x0601 52 0 (some 0) c s → s.raster.job ≠ 0 → answers (.rasterJobDefine c) c 0x0601 stBadState [] s s) ∧
  (∀ (c : Cmd) (s : State) (e : Nat), admitted 0x0602 0 0 (some 0) c s → s.raster.job = 1 → startsHeld s = false → noService s = false → s.power.entering = none → s.time.epoch = some e →
    answers (.rasterJobOpen c) c 0x0602 stOk [] s { s with raster := { s.raster with job := 2, epoch := e, period := s.votes.tide.value } }) ∧
  (∀ (c : Cmd) (s : State) (st : Power), admitted 0x0602 0 0 (some 0) c s → s.raster.job = 1 → s.power.entering = some st →
    answers (.rasterJobOpen c) c 0x0602 stBadState [] s s) ∧
  (∀ (c : Cmd) (s : State), admitted 0x0602 0 0 (some 0) c s → s.raster.job = 0 → answers (.rasterJobOpen c) c 0x0602 0x0680 [] s s) ∧
  (∀ (c : Cmd) (s : State), admitted 0x0603 1 0 (some 0) c s → uAt (prmOf c) 0 1 ≤ 1 → s.raster.job = 3 → (uAt (prmOf c) 0 1 = 1 ∨ (anyCellOn s = false ∧ s.cell.allOff = true)) →
    accepts (.rasterJobClose c) c 0x0603 s (fun u => ∃ b, u = { s with raster := { s.raster with job := 4, forceOff := b } })) ∧
  (∀ (c : Cmd) (s : State), admitted 0x0604 1 0 (some 0) c s → uAt (prmOf c) 0 1 ≤ 1 → s.raster.job = 1 → s.raster.save = none →
    (uAt (prmOf c) 0 1 = 1 ∨ (∀ p ∈ s.raster.planes, p.layer = 0 → p.dirtyExp = false)) →
    oks (.rasterJobDiscard c) c 0x0604 s (fun u => u.raster.job = 0 ∧ u.raster.jdef = none ∧ u.raster.planes = [])) ∧
  (∀ (c : Cmd) (s : State), admitted 0x0605 0 36 (some 0) c s → reads (.rasterJobStatus c) c 0x0605 (rasterJobStatusBytes s) s) ∧
  (∀ (c : Cmd) (s : State) (p : List Byte) (d : JobDef), admitted 0x0606 12 0 (some 0) c s → prmOf c = p → s.raster.jdef = some d → rectOk (rectAt p 4) = true → zeros p 1 3 = true →
    s.raster.save = none → accepts (.rasterTileSave c) c 0x0606 s (fun u => ∃ x : SaveJob, u = { s with raster := { s.raster with save := some x } } ∧ x.isExport = false ∧ x.sent = 0 ∧
      x.tide = (if jobOpen s then s.time.tideNo else 0) ∧ (∀ k tx ty, (k, tx, ty) ∈ x.queue ↔ (k < 8 ∧ bit (uAt p 0 1) k = true ∧ bit d.layers k = true ∧
        inRect (rectAt p 4) tx ty = true ∧ inExtent s tx ty = true)))) ∧
  (∀ (c : Cmd) (s : State) (p : List Byte), admitted 0x0607 2 0 (some 0) c s → prmOf c = p → s.raster.jdef.isSome = true → uAt p 1 1 = 1 → s.raster.save = none →
    accepts (.rasterExport c) c 0x0607 s (fun u => ∃ x : SaveJob, u = { s with raster := { s.raster with save := some x } } ∧ x.isExport = true ∧ x.sent = 0 ∧
      (∀ k tx ty, (k, tx, ty) ∈ x.queue ↔ k = 0 ∧ ((∃ q ∈ s.raster.planes, q.layer = 0 ∧ q.tx = tx ∧ q.ty = ty ∧ q.st ≠ 3 ∧ q.dirtyExp = true) ∨
        (writePending s tx ty = true ∧ inExtent s tx ty = true))))) ∧
  (∀ (c : Cmd) (s : State) (p : List Byte), admitted 0x0608 12 0 (some 0) c s → prmOf c = p → s.raster.job ≠ 0 → jobOpen s = false → rectOk (rectAt p 4) = true → uAt p 1 1 = 1 → zeros p 2 2 = true →
    answers (.rasterTileDrop c) c 0x0608 stOk [] s (dropPlanes (uAt p 0 1) (rectAt p 4) s)) ∧
  (∀ (c : Cmd) (s : State), admitted 0x0609 0 16 (some 0) c s →
    reads (.rasterLoadStatus c) c 0x0609 (le 4 s.raster.installed ++ le 4 s.raster.rejected ++ le 4 s.raster.lastCause ++ leI 2 s.raster.lastTx ++ leI 2 s.raster.lastTy) s) ∧
  (∀ (c : Cmd) (s : State), admitted 0x060A 0 20 (some 0) c s → reads (.rasterCacheStatus c) c 0x060A (rasterCacheStatusBytes s) s) ∧
  (∀ (c : Cmd) (s : State) (p : List Byte) (gx gy : Int), admitted 0x060B 12 4 (some 0) c s → prmOf c = p → uAt p 0 1 = 0 → zeros p 1 3 = true → s.raster.job ≠ 0 →
    gx = iAt p 4 4 / (gridOf s : Int) → gy = iAt p 8 4 / (gridOf s : Int) →
    reads (.rasterQuery c) c 0x060B (le 1 (readCell s 0 gx gy).1 ++ le 1 (readCell s 0 gx gy).2 ++ le 1 (b1 (unknownRead (readCell s 0 gx gy))) ++ le 1 (coverAt s gx gy)) s) ∧
  (∀ (c : Cmd) (s : State), admitted 0x060C 1 0 (some 0) c s → uAt (prmOf c) 0 1 ≤ 1 →
    oks (.rasterWantSubscribe c) c 0x060C s (fun u => u.raster.want = (uAt (prmOf c) 0 1 == 1) ∧ u.raster.wanted = [] ∧ u.raster.planes = s.raster.planes))

/-- What the events of a Knani loop at the device do: frames and their returns, breaks, management, measurement, enumeration (07 R264, R272, R275 to R277, R279,
R284, R286). -/
def Obligations.KnaniLoopEvents : Prop :=
  (∀ (n b : Nat) (s : State), n < s.knani.loops.length → nextB s = some b → roleOf s = 0 → s.cell.decided = true → ((loopOf s n).st = 2 ∨ (loopOf s n).st = 3) → (loopOf s n).flight = none →
    reaches (.commandFrameSend n) s (fun u => ∃ f, (loopOf u n).flight = some f ∧ f.tide = s.time.tideNo ∧ f.boundary = b ∧
      (∀ k v, (loopOf s n).nodes[k]? = some v → v.slotted = true → (k, slotOf' s n k v) ∈ f.slots))) ∧
  (∀ (n transit : Nat) (noise : List (Nat × Nat)) (f : Flight) (s : State), n < s.knani.loops.length → (loopOf s n).flight = some f → (loopOf s n).st = 2 →
    ((transit : Int) - (loopOf s n).transit).natAbs ≤ 1000 →
    reaches (.returnedFrame n transit noise) s (fun u => (loopOf u n).flight = none ∧ (loopOf u n).transit = transit ∧ (loopOf u n).missRun = 0 ∧ (loopOf u n).silent = 0 ∧ (loopOf u n).st = 2)) ∧
  (∀ (n transit : Nat) (noise : List (Nat × Nat)) (f : Flight) (s : State), n < s.knani.loops.length → (loopOf s n).flight = some f → (loopOf s n).st = 2 →
    1000 < ((transit : Int) - (loopOf s n).transit).natAbs → exec (.returnedFrame n transit noise) s = exec (.knaniReturnMissing n false) s) ∧
  (∀ (n : Nat) (f : Flight) (s : State), n < s.knani.loops.length → (loopOf s n).flight = some f → (loopOf s n).st = 2 →
    reaches (.knaniReturnMissing n false) s (fun u => (loopOf u n).flight = none ∧ (loopOf u n).missRun = (loopOf s n).missRun + 1 ∧ (loopOf u n).silent = 0 ∧ (loopOf u n).st = 2 ∧
      (loopOf u n).nodes = (loopOf s n).nodes)) ∧
  (∀ (n : Nat) (f : Flight) (s : State), n < s.knani.loops.length → (loopOf s n).flight = some f → (loopOf s n).st = 2 → 2 ≤ (loopOf s n).silent →
    reaches (.knaniReturnMissing n true) s (fun u => (loopOf u n).st = 3 ∧ (loopOf u n).breakPos = some (loopOf s n).count)) ∧
  (∀ (n h : Nat) (s : State), n < s.knani.loops.length → (loopOf s n).hops = some h → (loopOf s n).st = 2 →
    reaches (.breakFrame n) s (fun u => (loopOf u n).st = 3 ∧ (loopOf u n).breakPos = some ((loopOf s n).count - h) ∧ (loopOf u n).manage = [])) ∧
  (∀ (n mb slot op tag : Nat) (m : Manage) (r : List Manage) (s : State), (loopOf s n).manage = m :: r → m.why = Mgmt.host → m.cmd = some (mb, slot, op, tag) →
    exec (.manageFrame ⟨n, true⟩) s = .next (settle ((fun u => if r.isEmpty then u else sendManage n u)
      (complete mb slot op tag (resultStatus m.result) (if m.result == 1 then m.got ++ m.data else []) (setLoop n (fun l => { l with manage := r }) s))))) ∧
  (∀ (n mb slot op tag : Nat) (m : Manage) (s : State), (loopOf s n).manage = [m] → m.why = Mgmt.host → m.cmd = some (mb, slot, op, tag) → m.result = 1 →
    exec (.manageFrame ⟨n, false⟩) s = .next (settle (complete mb slot op tag 0x0782 [] (setLoop n (fun l => { l with manage := [] }) s)))) ∧
  (∀ (n rt : Nat) (r : List Nat) (s : State), n < s.knani.loops.length → (loopOf s n).st = 2 → (loopOf s n).full = false → (loopOf s n).segNext < (loopOf s n).nodes.length →
    reaches (.segmentRemeasure n (rt :: r)) s (fun u => (loopOf u n).segNext = ((loopOf s n).segNext + 1) % ((loopOf s n).nodes.length + 1) ∧
      ((loopOf u n).nodes[(loopOf s n).segNext]?).map (·.c) = some (segDelay (loopOf s n).phys (loopOf s n).segNext rt) ∧ (loopOf u n).segAt = u.time.cyc + cycMs 100 ∧ (loopOf s n).segAt ≤ u.time.cyc)) ∧
  (∀ (n transit cnt : Nat) (rts masks : List Nat) (l : Loop) (s : State), n < s.knani.loops.length → (loopOf s n).enum = some cnt → (loopOf s n).st = 1 → 1 ≤ cnt → cnt ≤ 64 → (loopOf s n).before = [] →
    (loopOf s n).phys.length = cnt →
    l = rederive { loopOf s n with count := cnt, nodes := giveSlots (bitBudget (tideP s)) ((List.range cnt).filterMap (fun k => ((loopOf s n).phys[k]?).map (fun d => nodeViewOf (segDelay (loopOf s n).phys k (rts.getD k 0)) d.idRec))),
                                   cLast := segDelay (loopOf s n).phys cnt (rts.getD cnt 0), transit := transit, transitFull := transit } →
    timingBad l = false → (((s.knani.loops.eraseIdx n).filter loopServes).map loopChannels).sum + loopChannels l ≤ 4096 →
    reaches (.enumerateReturn n rts transit masks) s (fun u => (loopOf u n).st = 2 ∧ (loopOf u n).count = cnt ∧ (loopOf u n).transit = transit ∧ (loopOf u n).enum = none)) ∧
  (∀ (n transit : Nat) (rts masks : List Nat) (s : State), n < s.knani.loops.length → (loopOf s n).enum = some 0 → (loopOf s n).st = 1 →
    reaches (.enumerateReturn n rts transit masks) s (fun u => (loopOf u n).st = 0 ∧ (loopOf u n).cause = 1 ∧ (loopOf u n).enum = none)) ∧
  (∀ (n k : Nat) (returned : Bool) (s : State), n < s.knani.loops.length → (loopOf s n).enum = some k → (loopOf s n).st = 1 →
    reaches (.enumTimeout n returned) s (fun u => (loopOf u n).st = 0 ∧ (loopOf u n).cause = (if returned then 3 else 2) ∧
      (loopOf s n).enumAt + (if returned then cycMs 10000 else cycMs 1) ≤ u.time.cyc)) ∧
  (∀ (n k : Nat) (s : State), n < s.knani.loops.length → (loopOf s n).dogAt = some k → reaches (.watchdogPeriodRestore n) s (fun u => (loopOf u n).dogAt = none ∧ k ≤ u.time.cyc)) ∧
  (∀ (b crc : Nat) (t : IdTrans) (r : List IdTrans) (mb slot op tag : Nat) (s : State), s.knani.idQ.getD b [] = t :: r → t.cmd = some (mb, slot, op, tag) →
    exec (.idBusTransaction b none crc) s = .next (settle (complete mb slot op tag 0x0781 [] { s with knani := { s.knani with idQ := lmod s.knani.idQ b (fun _ => r) } }))) ∧
  (∀ (b crc : Nat) (t : IdTrans) (r : List IdTrans) (mb slot op tag : Nat) (a : List Byte) (s : State), s.knani.idQ.getD b [] = t :: r → t.cmd = some (mb, slot, op, tag) →
    exec (.idBusTransaction b (some a) crc) s = .next (settle (complete mb slot op tag (if t.op ≠ 1 then resultStatus (uAt a 0 1) else if (idData t a crc).isSome then stOk else 0x0782)
      (if t.op ≠ 1 then [] else (idData t a crc).getD []) { s with knani := { s.knani with idQ := lmod s.knani.idQ b (fun _ => r) } }))) ∧
  (∀ (b crc : Nat) (t : IdTrans) (r : List IdTrans) (a d : List Byte) (s : State), s.knani.idQ.getD b [] = t :: r → t.cmd = none → b < s.knani.idRecs.length → idData t a crc = some d →
    64 ≤ (s.knani.idPart.getD b [] ++ d).length → (recOk (s.knani.idPart.getD b [] ++ d) = true → uAt (s.knani.idPart.getD b [] ++ d) 2 2 ≤ (s.knani.idPart.getD b [] ++ d).length) →
    reaches (.idBusTransaction b (some a) crc) s (fun u => u.knani.idRecs.getD b none = some (s.knani.idPart.getD b [] ++ d) ∧ u.knani.idQ.getD b [] = r)) ∧
  (∀ (b crc : Nat) (t : IdTrans) (r : List IdTrans) (a d : List Byte) (s : State), s.knani.idQ.getD b [] = t :: r → t.cmd = none → b < s.knani.idPart.length → idData t a crc = some d →
    recOk (s.knani.idPart.getD b [] ++ d) = true → (s.knani.idPart.getD b [] ++ d).length < min 4096 (uAt (s.knani.idPart.getD b [] ++ d) 2 2) →
    reaches (.idBusTransaction b (some a) crc) s (fun u => u.knani.idPart.getD b [] = s.knani.idPart.getD b [] ++ d ∧ u.knani.idRecs = s.knani.idRecs ∧
      ∃ x, u.knani.idQ.getD b [] = x :: r ∧ x.op = 1 ∧ x.addr = (s.knani.idPart.getD b [] ++ d).length ∧ x.len ≤ 128 ∧ x.cmd = none))

/-- What the nodes of a loop and the modules on their channels do (07 R266 to R269, R273, R276, R277, R285, 08 R295, R305, R317, R324, R327). -/
def Obligations.KnaniNodeEvents : Prop :=
  (∀ (n pos : Nat) (x : NodeSense) (f : Flight) (d : NodeDev) (q : Nat) (words : List Nat) (s : State), n < s.knani.loops.length → (loopOf s n).flight = some f → physOf s n pos = some d →
    d.pos = some q → tget f.slots pos = some words → tget f.status pos = none →
    reaches (.nodeCommandFrame n pos x) s (fun u => physOf u n pos = some (frameAtNode (dtNow u) f.boundary words x d).2 ∧
      (loopOf u n).flight = some { f with status := tset f.status pos (frameAtNode (dtNow u) f.boundary words x d).1 })) ∧
  (∀ (n pos b : Nat) (d : NodeDev) (s : State), n < s.knani.loops.length → physOf s n pos = some d → d.latchAt = some b → d.st = 0 →
    reaches (.nodeLatch n pos) s (fun u => (physOf u n pos).map (fun x => (x.latchAt, x.slot, x.st)) = some (none, none, 0))) ∧
  (∀ (n pos k : Nat) (d : NodeDev) (s : State), n < s.knani.loops.length → physOf s n pos = some d → d.commitAt = some k → d.st < 2 →
    reaches (.failsafeCommit n pos) s (fun u => (physOf u n pos).map (fun x => (x.st, x.slot, x.latchAt, x.commitAt)) = some (2, none, none, none))) ∧
  (∀ (n pos : Nat) (s : State), pos < (loopOf s n).phys.length → exec (.nodeBreakOriginate n pos) s = .next (settle (setLoop n (fun l => { l with hops := some 1 }) s))) ∧
  (∀ (n pos : Nat) (s : State), pos < (loopOf s n).phys.length →
    exec (.nodeBreakForward n pos) s = .next (settle (setLoop n (fun l => { l with hops := l.hops.map (fun h => min 255 (h + 1)) }) s))) ∧
  (∀ s : State, reaches .lifeCountCheck s (fun u => u.time = s.time ∧ u.cell = s.cell ∧
    (∀ ch, (tget u.knani.shadow ch).map (fun x => (x.serial, x.type)) = (tget s.knani.shadow ch).map (fun x => (x.serial, x.type))))) ∧
  (∀ (n pos k : Nat) (v : NodeView) (w : ChanView) (s : State), n < s.knani.loops.length → viewOf s (chanCode n pos k) = some w → nodeOf s (chanCode n pos k) = some v → n < 16 → pos < 64 → k < 8 →
    (loopOf s n).st = 2 → v.slotted = true → bit v.features 2 = true →
    reaches (.moduleHeaderRead n pos k none) s (fun u => (viewOf u (chanCode n pos k)).map (·.missing) = some true)) ∧
  (∀ (n pos k : Nat) (r : List Byte) (d : NodeDev) (v : NodeView) (w : ChanView) (s : State), n < s.knani.loops.length → n < 16 → pos < 64 → k < 8 → physOf s n pos = some d →
    viewOf s (chanCode n pos k) = some w → nodeOf s (chanCode n pos k) = some v → (loopOf s n).st = 2 → v.slotted = true → recOk r = true →
    (∀ x, modOf d k = some x → recSerial x ≠ recSerial r ∨ recType x ≠ recType r) →
    reaches (.moduleHeaderRead n pos k (some r)) s (fun u => (physOf u n pos).bind (fun x => modOf x k) = some r ∧ (viewOf u (chanCode n pos k)).map (·.missing) = some false ∧
      (tget u.knani.shadow (chanCode n pos k)).map (fun x => (x.serial, x.type)) = some (recSerial r, recType r))) ∧
  (∀ (n pos : Nat) (d : NodeDev) (s : State), n < s.knani.loops.length → physOf s n pos = some d →
    reaches (.nodeWireReset n pos) s (fun u => (physOf u n pos).map (fun x => (x.pos, x.cfg, x.slot, x.latchAt)) = some (none, [], none, none))) ∧
  (∀ (n pos k w e : Nat) (d : NodeDev) (s : State), n < s.knani.loops.length → physOf s n pos = some d → (chanOf d k).next = some (w, e) →
    reaches (.channelEdge n pos k) s (fun u => (physOf u n pos).map (fun x => (chanOf x k).next) = some none)) ∧
  (∀ (n k : Nat) (idRec : List Byte) (mods : List (Option (List Byte))) (s : State), (loopOf s n).enum = some k → (loopOf s n).st = 1 →
    exec (.enumerateAtNode n idRec mods) s = .next (settle (setLoop n (fun l => { l with
      enum := some (min 255 (k + 1)), phys := l.phys ++ [{ idRec := idRec, mods := mods, pos := if k ≤ 63 then some k else none }] }) s))) ∧
  (∀ (n echo q : Nat) (intact : Bool) (m : Manage) (r : List Manage) (d : NodeDev) (s : State), (loopOf s n).manage = m :: r → physOf s n m.pos = some d → d.pos = some q → m.result = 0 →
    exec (.manageAtNode ⟨n, intact⟩ echo) s = .next (settle (setLoop n (fun l => { l with
      manage := (manageAt (dtNow s) echo intact m d).1 :: r, phys := lmod l.phys m.pos (fun _ => (manageAt (dtNow s) echo intact m d).2) }) s))) ∧
  (∀ (n pos k mA : Nat) (d : NodeDev) (s : State), n < s.knani.loops.length → physOf s n pos = some d → k < d.chans.length → chanCfg d k 0x0C 2 < mA → (chanOf d k).mode ≠ 0 → (chanOf d k).fault ≠ 4 →
    reaches (.shortLoad n pos k mA) s (fun u => (physOf u n pos).map (fun x => ((chanOf x k).fault, (chanOf x k).amps)) = some (3, mA))) ∧
  (∀ (n pos : Nat) (temp : Int) (d : NodeDev) (s : State), n < s.knani.loops.length → physOf s n pos = some d → (nodeShut d : Int) ≤ temp →
    reaches (.nodeOvertemperature n pos temp) s (fun u => (physOf u n pos).map (·.hot) = some true))

/-- The KNANI loop commands (07 R270, R275, R276, R283, R284, R288, R290 to R292): what each answers and leaves. -/
def Obligations.KnaniCommands : Prop :=
  (∀ (c : Cmd) (s : State) (n : Nat), admitted 0x0701 3 0 (some 0) c s → uAt (prmOf c) 0 1 = n → n < s.knani.loops.length → n ≤ 15 → uAt (prmOf c) 1 1 ≤ 1 → uAt (prmOf c) 2 1 ≤ 1 →
    loopCellOn s n = false → noService s = false → (loopOf s n).phys = [] → otherChannels s n + mostChannels (tideP s) ≤ 4096 →
    accepts (.knaniLoopStart c) c 0x0701 s (fun u => (loopOf u n).st = 1 ∧ (loopOf u n).enum = some 0 ∧ (loopOf u n).allOff = (uAt (prmOf c) 2 1 == 1) ∧ (loopOf u n).manage = [])) ∧
  (∀ (c : Cmd) (s : State) (n : Nat), admitted 0x0701 3 0 (some 0) c s → uAt (prmOf c) 0 1 = n → n < s.knani.loops.length → n ≤ 15 → uAt (prmOf c) 1 1 ≤ 1 → uAt (prmOf c) 2 1 ≤ 1 →
    loopCellOn s n = false → noService s = false → (loopOf s n).phys = [] → otherChannels s n ≤ 4096 → 4096 < otherChannels s n + mostChannels (tideP s) →
    reaches (.knaniLoopStart c) s (fun u => (loopOf u n).st = 1 ∧ (loopOf u n).enum = some 0 ∧ (loopOf u n).startCmd = waiting 0x0701 c)) ∧
  (∀ (c : Cmd) (s : State) (n : Nat), admitted 0x0701 3 0 (some 0) c s → uAt (prmOf c) 0 1 = n → n ≤ 15 → uAt (prmOf c) 1 1 ≤ 1 → uAt (prmOf c) 2 1 ≤ 1 →
    loopCellOn s n = false → noService s = false → 4096 < otherChannels s n → answers (.knaniLoopStart c) c 0x0701 stTableFull [] s s) ∧
  (∀ (c : Cmd) (s : State), admitted 0x0701 3 0 (some 0) c s → uAt (prmOf c) 0 1 ≤ 15 → uAt (prmOf c) 1 1 ≤ 1 → uAt (prmOf c) 2 1 ≤ 1 → loopCellOn s (uAt (prmOf c) 0 1) = true →
    answers (.knaniLoopStart c) c 0x0701 stBadState [] s s) ∧
  (∀ (c : Cmd) (s : State) (n : Nat), admitted 0x0702 1 0 (some 0) c s → uAt (prmOf c) 0 1 = n → n < s.knani.loops.length → n ≤ 15 → loopCellOn s n = false → noService s = false →
    oks (.knaniLoopStop c) c 0x0702 s (fun u => (loopOf u n).st = 0 ∧ (loopOf u n).cause = 0 ∧ (∀ v ∈ (loopOf u n).nodes, v.slotted = false) ∧ (∀ d ∈ (loopOf u n).phys, d.pos = none))) ∧
  (∀ (c : Cmd) (s : State) (n : Nat), admitted 0x0703 1 0 (some 0) c s → uAt (prmOf c) 0 1 = n → n ≤ 15 → (loopOf s n).st = 3 →
    answers (.knaniLoopRestore c) c 0x0703 stAccepted [] s (setLoop n (fun l => { l with restoring := true, before := l.nodes.map (fun v => (v.serial, v.type)) }) s)) ∧
  (∀ (c : Cmd) (s : State), admitted 0x0704 1 28 (some 0) c s → uAt (prmOf c) 0 1 ≤ 15 → reads (.knaniLoopStatus c) c 0x0704 (loopStatusBytes (loopOf s (uAt (prmOf c) 0 1))) s) ∧
  (∀ (c : Cmd) (s : State) (v : NodeView), admitted 0x0705 2 24 (some 0) c s → uAt (prmOf c) 0 1 ≤ 15 → (loopOf s (uAt (prmOf c) 0 1)).st ≠ 0 → (loopOf s (uAt (prmOf c) 0 1)).nodes[uAt (prmOf c) 1 1]? = some v →
    reads (.knaniNodeStatus c) c 0x0705 (le 8 (v.status.getD 0) ++ le 4 v.d ++ le 4 v.adv ++ le 4 v.discarded ++ le 4 v.missing) s) ∧
  (∀ (c : Cmd) (s : State), admitted 0x0705 2 24 (some 0) c s → uAt (prmOf c) 0 1 ≤ 15 → ((loopOf s (uAt (prmOf c) 0 1)).st = 0 ∨ (loopOf s (uAt (prmOf c) 0 1)).nodes[uAt (prmOf c) 1 1]? = none) →
    answers (.knaniNodeStatus c) c 0x0705 0x0780 [] s s) ∧
  (∀ (c : Cmd) (s : State) (p : List Byte), admitted 0x0706 7 (min 128 (uAt (prmOf c) 6 1)) none c s → prmOf c = p → 16 ≤ uAt p 0 1 → uAt p 0 1 ≤ 19 → uAt p 2 1 ≤ 9 → 1 ≤ uAt p 6 1 → uAt p 6 1 ≤ 128 →
    exec (.knaniIdRead c) s = .next (settle (pushId (uAt p 0 1 - 16) { op := 1, addr := uAt p 4 2, len := uAt p 6 1, cmd := waiting 0x0706 c } s))) ∧
  (∀ (c : Cmd) (s : State) (p : List Byte), admitted 0x0707 (8 + min 128 (uAt (prmOf c) 6 1)) 0 none c s → prmOf c = p → 16 ≤ uAt p 0 1 → uAt p 0 1 ≤ 19 → uAt p 2 1 ≤ 9 → 1 ≤ uAt p 6 1 → uAt p 6 1 ≤ 128 →
    inUserArea (s.knani.idRecs.getD (uAt p 0 1 - 16) none) (uAt p 4 2) (uAt p 6 1) = true →
    exec (.knaniIdWrite c) s = .next (settle (pushId (uAt p 0 1 - 16) { op := 3, addr := uAt p 4 2, len := uAt p 6 1, data := (p.drop 8).take (uAt p 6 1) ++ le 2 (crc16 ((p.drop 8).take (uAt p 6 1))), cmd := waiting 0x0707 c } s))) ∧
  (∀ (c : Cmd) (s : State) (p : List Byte), admitted 0x0707 (8 + min 128 (uAt (prmOf c) 6 1)) 0 none c s → prmOf c = p → 16 ≤ uAt p 0 1 → uAt p 0 1 ≤ 19 → uAt p 2 1 ≤ 9 → 1 ≤ uAt p 6 1 → uAt p 6 1 ≤ 128 →
    inUserArea (s.knani.idRecs.getD (uAt p 0 1 - 16) none) (uAt p 4 2) (uAt p 6 1) = false → answers (.knaniIdWrite c) c 0x0707 stNotPermitted [] s s) ∧
  (∀ (c : Cmd) (s : State), admitted 0x0708 1 0 (some 0) c s → uAt (prmOf c) 0 1 ≤ 15 → (loopOf s (uAt (prmOf c) 0 1)).st = 2 →
    answers (.knaniTimingMeasure c) c 0x0708 stAccepted [] s (setLoop (uAt (prmOf c) 0 1) (fun l => { l with full := true }) s)) ∧
  (∀ (c : Cmd) (s : State) (n pos : Nat) (v : NodeView), admitted 0x0710 2 0 (some 0) c s → uAt (prmOf c) 0 1 = n → uAt (prmOf c) 1 1 = pos → n ≤ 15 → (loopOf s n).st = 2 →
    (loopOf s n).nodes[pos]? = some v → v.slotted = true → v.failsafe = true →
    answers (.knaniNodeResume c) c 0x0710 stAccepted [] s (pushManage n { pos := pos, mem := 1, op := 2, addr := 0, len := 64, why := .resume 0 }
      (pushManage n { pos := pos, mem := 1, op := 1, addr := 0, len := 64 } (setView n pos (fun v => { v with resuming := true }) s))))

/-- The channel commands (08 R299, R306, R309, R314, R315, R329 to R331): what each answers and leaves. -/
def Obligations.ChannelCommands : Prop :=
  (∀ (c : Cmd) (s : State) (p : List Byte) (ch : Nat), admitted 0x0709 28 0 (some 0) c s → prmOf c = p → uAt p 0 2 = ch → channelFault' s ch = none → chanCfgOk ch ((p.drop 4).take 24) = true →
    zeros p 2 2 = true → chanStrobe s ch = true → bit (uAt ((p.drop 4).take 24) 0x10 1) 0 = false → (∀ e ∈ s.cell.cells, e.2.channel ≠ ch) →
    exec (.channelConfig c) s = .next (settle (pushManage (chLoop ch) { pos := chPos ch, mem := 0, op := 4, addr := chanBase (chNo ch), len := 24, data := ((p.drop 4).take 24).take 4 ++ (((p.drop 4).take 24).drop 4).take 4 ++ ((p.drop 4).take 24).drop 8, why := .config, cmd := waiting 0x0709 c } s))) ∧
  (∀ (c : Cmd) (s : State) (ch : Nat) (v : ChanView), admitted 0x070A 2 32 (some 0) c s → uAt (prmOf c) 0 2 = ch → channelFault' s ch = none → viewOf s ch = some v →
    reads (.channelStatus c) c 0x070A (channelStatusBytes s ch v) s) ∧
  (∀ (c : Cmd) (s : State) (ch st : Nat), admitted 0x070A 2 32 (some 0) c s → uAt (prmOf c) 0 2 = ch → channelFault' s ch = some st → answers (.channelStatus c) c 0x070A st [] s s) ∧
  (∀ (c : Cmd) (s : State) (ch : Nat) (v : ChanView), admitted 0x070B 2 0 (some 0) c s → uAt (prmOf c) 0 2 = ch → channelFault' s ch = none → viewOf s ch = some v →
    answers (.channelFaultClear c) c 0x070B stOk [] s (pushManage (chLoop ch) { pos := chPos ch, mem := 0, op := 4, addr := 0x0A, len := 1, data := le 1 (2 ^ chNo ch), why := .clear (chNo ch) }
      (setChanView ch (fun w => { w with clearing := some v.diag }) s))) ∧
  (∀ (c : Cmd) (s : State) (ch : Nat) (v : NodeView), admitted 0x070C 2 0 (some 0) c s → uAt (prmOf c) 0 2 = ch → channelFault' s ch = none → chNo ch = 0 → nodeOf s ch = some v →
    bit v.features 1 = true → (∀ e ∈ s.cell.cells, e.2.channel / 8 = ch / 8 → e.2.modeNow = 0) →
    answers (.channelNeighbourTest c) c 0x070C stAccepted [] s (pushManage (chLoop ch) { pos := chPos ch, mem := 0, op := 4, addr := 0x0C, len := 1, data := le 1 v.strobe, why := .neighbour }
      (setView (chLoop ch) (chPos ch) (fun v => { v with testing := true }) s))) ∧
  (∀ (c : Cmd) (s : State) (p : List Byte), admitted 0x070D 24 0 (some 0) c s → prmOf c = p → uAt p 0 1 ≤ 7 → zeros p 1 3 = true → 1 ≤ uAt p 16 4 → uAt p 16 4 ≤ 100000 → dtOk p 4 = true →
    (uAt p 20 4 = 0 ∨ uAt p 16 4 ≤ uAt p 20 4) →
    answers (.channelExposureSet c) c 0x070D stOk [] s { s with knani := { s.knani with windows := lmod s.knani.windows (uAt p 0 1) (fun _ => some (dtAt p 4, uAt p 16 4, uAt p 20 4)) } }) ∧
  (∀ (c : Cmd) (s : State) (p : List Byte), admitted 0x070D 24 0 (some 0) c s → prmOf c = p → uAt p 0 1 ≤ 7 → zeros p 1 3 = true → dtOk p 4 = true → uAt p 16 4 = 0 →
    answers (.channelExposureSet c) c 0x070D stOk [] s { s with knani := { s.knani with windows := lmod s.knani.windows (uAt p 0 1) (fun _ => none) } }) ∧
  (∀ (c : Cmd) (s : State) (p : List Byte), admitted 0x070E 5 0 (some 0) c s → prmOf c = p → within 100 1000000 (uAt p 0 4) = true → uAt p 4 1 ≤ 1 →
    answers (.channelDiagConfig c) c 0x070E stOk [] s { s with knani := { s.knani with stale := uAt p 0 4, eolHold := uAt p 4 1 == 1 } }) ∧
  (∀ (c : Cmd) (s : State) (ch : Nat) (r : List Byte) (x : Shadow), admitted 0x070F 2 38 (some 0) c s → uAt (prmOf c) 0 2 = ch → channelFault' s ch = none → chanModule s ch = some r →
    tget s.knani.shadow ch = some x → reads (.channelLifeRead c) c 0x070F (lifeReadBytes s ch r x) s) ∧
  (∀ (c : Cmd) (s : State) (ch : Nat), admitted 0x070F 2 38 (some 0) c s → uAt (prmOf c) 0 2 = ch → channelFault' s ch = none → chanModule s ch = none →
    answers (.channelLifeRead c) c 0x070F 0x0786 [] s s)

/-- What the events of a motion axis do: a move takes effect, set-points are released, dwells, standstill, chopper faults, limit edges (09 R338 to R342, R345,
R348, R349, R352 to R354, R357). -/
def Obligations.AxisEvents : Prop :=
  (∀ (n : Nat) (m : AxMove) (r : List AxMove) (s : State), n < s.axes.length → (axOf s n).moves = m :: r → ((axOf s n).st = AxSt.idle ∨ (axOf s n).st = AxSt.stopped) → (axOf s n).pos ≠ m.target →
    reaches (.moveStart n) s (fun u => (axOf u n).st = AxSt.moving ∧ (axOf u n).target = m.target ∧ (axOf u n).pos = (axOf s n).pos ∧ (axOf u n).moves = r ∧ (axOf u n).en = true ∧
      (axOf u n).v2 = (axOf s n).vStart * (axOf s n).vStart ∧ (axOf u n).spAt = m.start)) ∧
  (∀ (n : Nat) (m : AxMove) (r : List AxMove) (s : State), n < s.axes.length → (axOf s n).moves = m :: r → (axOf s n).st = AxSt.moving →
    reaches (.moveStart n) s (fun u => (axOf u n).st = AxSt.moving ∧ (axOf u n).target = m.target ∧ (axOf u n).overshoot = overshootOf m.target { axOf s n with moves := r } ∧
      (axOf u n).pos = (axOf s n).pos ∧ (axOf u n).moves = r)) ∧
  (∀ (n : Nat) (off : Int) (a : Axis) (s : State), n < s.axes.length → axOf s n = a → a.st = AxSt.moving → a.dwell = none → a.home = none → a.brake = none → limitIn a.up a = false →
    (nextPoint a).1 ≠ a.target → reaches (.setPointRelease n off) s (fun u => (axOf u n).pos = (nextPoint a).1 ∧ (axOf u n).v2 = (nextPoint a).2.1 ∧
      (axOf u n).target = a.target ∧ (axOf u n).st = AxSt.moving ∧ (axOf u n).spAt = max (a.spAt + (nextPoint a).2.2) (dtNow s))) ∧
  (∀ (n : Nat) (off : Int) (a : Axis) (s : State), n < s.axes.length → axOf s n = a → a.st = AxSt.moving → a.dwell = none → a.home = none → a.brake = none → limitIn a.up a = false →
    (nextPoint a).1 = a.target → reaches (.setPointRelease n off) s (fun u => (axOf u n).pos = a.target ∧ (axOf u n).v2 = 0 ∧ (axOf u n).st = AxSt.idle)) ∧
  (∀ (n : Nat) (a : Axis) (s : State), n < s.axes.length → axOf s n = a → a.st = AxSt.moving → a.dwell = none →
    reaches (.axisPlanStarved n) s (fun u => (axOf u n).st = AxSt.stopping ∧ (axOf u n).cause = 5 ∧ (axOf u n).brake = some a.decStop ∧ (axOf u n).pos = a.pos ∧ (axOf u n).target = a.target)) ∧
  (∀ (n mV : Nat) (wb : Bool) (reach : Option Nat) (a : Axis) (s : State), n < s.axes.length → axOf s n = a → a.en = true → (if wb then (refs (dtNow s) a).2 else (refs (dtNow s) a).1) ≠ 0 →
    overCurrent a mV = true →
    reaches (.chopperCycle n wb mV reach) s (fun u => (axOf u n).st = AxSt.fault ∧ (axOf u n).cause = 8 ∧ (axOf u n).en = false ∧ (axOf u n).homed = false ∧ (axOf u n).pos = a.pos)) ∧
  (∀ (n mV t : Nat) (a : Axis) (s : State), n < s.axes.length → axOf s n = a → a.en = true → (refs (dtNow s) a).1 ≠ 0 → overCurrent a mV = false → t ≤ 1000 * a.tOnMax →
    reaches (.chopperCycle n false mV (some t)) s (fun u => axOf u n = { a with openA := 0, onAcc := a.onAcc + ns1 * min (1000 * a.tOnMax) (max (100 * a.tBlank) t) })) ∧
  (∀ (n t : Nat) (a : Axis) (s : State), n < s.axes.length → axOf s n = a → a.still = some t → a.ramp = none → a.en = true →
    reaches (.standstillTimer n) s (fun u => (axOf u n) = { a with ramp := some (t + ms1 * a.tStand, a.iRun) })) ∧
  (∀ (n raw : Nat) (a : Axis) (s : State), n < s.axes.length → axOf s n = a → a.hiEn = true → a.hiHigh = true → a.hiLvl = false → a.st = AxSt.moving → a.home = none → a.up = true → a.dwell = none → a.hiEdges = [] →
    reaches (.limitDebouncedEdge n true true raw) s (fun u => limitIn true (axOf u n) = true ∧ (axOf u n).st = AxSt.stopping ∧ (axOf u n).cause = 4 ∧ (axOf u n).brake = some a.decStop)) ∧
  (∀ (n raw : Nat) (a : Axis) (s : State), n < s.axes.length → axOf s n = a → a.hiEn = true → a.hiHigh = true → a.hiLvl = false → a.st = AxSt.idle →
    (recentEdges (dtNow (runTo (raw + 2 * ms1) s)) a.hiEdges).length < 8 →
    reaches (.limitDebouncedEdge n true true raw) s (fun u => limitIn true (axOf u n) = true ∧ (axOf u n).st = AxSt.idle ∧ (axOf u n).pos = a.pos)) ∧
  (∀ (n t : Nat) (a : Axis) (s : State), n < s.axes.length → axOf s n = a → a.dwell = some t → a.home = none →
    reaches (.reverseDwell n) s (fun u => axOf u n = launch t a.target a.vMax a)) ∧
  (∀ (n : Nat) (h : Homing) (a : Axis) (s : State), n < s.axes.length → axOf s n = a → a.home = some h → a.dwell = none →
    reaches (.homeTimeout n) s (fun u => (axOf u n).st = AxSt.stopping ∧ (axOf u n).cause = 7 ∧ (axOf u n).homed = false ∧ (axOf u n).home = none))

/-- The AXIS commands (09 R334, R335, R340, R343, R344, R350, R353 to R362): what each answers and leaves. -/
def Obligations.AxisCommands : Prop :=
  (∀ (c : Cmd) (s : State) (p : List Byte), admitted 0x0801 40 0 none c s → prmOf c = p → axisConfigOk p = true → axQuiet (axOf s (uAt p 0 1)) = true →
    answers (.axisConfig c) c 0x0801 stOk [] s (setAx (uAt p 0 1) (fun a => { a with
      invert := bit (uAt p 1 1) 0, disOnStop := bit (uAt p 1 1) 1, clearHomed := bit (uAt p 1 1) 2, vMax := uAt p 4 4, acc := uAt p 8 4, dec := uAt p 12 4, decStop := uAt p 16 4, vStart := uAt p 20 4, vStop := uAt p 24 4, softLo := iAt p 28 4, softHi := iAt p 32 4, dwellMs := uAt p 36 2, msRate := uAt p 38 1 }) s)) ∧
  (∀ (c : Cmd) (s : State), admitted 0x0801 40 0 none c s → axisConfigOk (prmOf c) = true → axQuiet (axOf s (uAt (prmOf c) 0 1)) = false → answers (.axisConfig c) c 0x0801 stBadState [] s s) ∧
  (∀ (c : Cmd) (s : State) (p : List Byte) (n : Nat), admitted 0x0802 28 0 none c s → prmOf c = p → uAt p 0 1 = n → n < 8 → n < s.axes.length → axQuiet (axOf s n) = true → zeros p 1 3 = true → zeros p 21 1 = true →
    1 ≤ uAt p 4 4 → uAt p 4 4 ≤ 100000 → uAt p 10 2 ≤ uAt p 8 2 → uAt p 12 2 ≠ 0 → uAt p 14 2 ≠ 0 → overScale (uAt p 8 2) (uAt p 4 4) = false → overScale (uAt p 12 2) (uAt p 4 4) = false →
    overScale (uAt p 14 2) (uAt p 4 4) = false → 2 ≤ uAt p 16 1 → uAt p 16 1 ≤ 40 → 5 ≤ uAt p 17 1 → uAt p 17 1 ≤ 40 → 2 ≤ uAt p 18 1 → uAt p 18 1 ≤ 200 → uAt p 22 2 ≤ 10000 → 1 ≤ uAt p 24 2 →
    uAt p 24 2 ≤ 1000 → 77 ≤ uAt p 26 1 → uAt p 26 1 ≤ 230 → 1 ≤ uAt p 27 1 → uAt p 27 1 ≤ 2 →
    oks (.axisDriveConfig c) c 0x0802 s (fun u => axOf u n = { axOf s n with
      scale := uAt p 4 4, iRun := uAt p 8 2, iHold := uAt p 10 2, iHome := uAt p 12 2, iOc := uAt p 14 2, tOff := uAt p 16 1, tBlank := uAt p 17 1, tOnMax := uAt p 18 1, fastRise := uAt p 19 1, fastFall := uAt p 20 1, tStand := uAt p 22 2, tRamp := uAt p 24 2, stallRatio := uAt p 26 1, stallSteps := uAt p 27 1 })) ∧
  (∀ (c : Cmd) (s : State) (p : List Byte) (n : Nat), admitted 0x0803 2 0 none c s → prmOf c = p → uAt p 0 1 = n → n < 8 → n < s.axes.length → uAt p 1 1 < 16 → axQuiet (axOf s n) = true →
    oks (.axisLimitConfig c) c 0x0803 s (fun u => (axOf u n).loEn = bit (uAt p 1 1) 0 ∧ (axOf u n).hiEn = bit (uAt p 1 1) 1 ∧ (axOf u n).loHigh = bit (uAt p 1 1) 2 ∧
      (axOf u n).hiHigh = bit (uAt p 1 1) 3 ∧ (axOf u n).pos = (axOf s n).pos ∧ (axOf u n).st = (axOf s n).st)) ∧
  (∀ (c : Cmd) (s : State) (p : List Byte) (n t : Nat), admitted 0x0804 20 0 none c s → prmOf c = p → uAt p 0 1 = n → n < 8 → uAt p 1 1 = 0 → dtOk p 8 = true → startsHeld s = false → stopInForce s = false →
    ((axOf s n).st = AxSt.idle ∨ (axOf s n).st = AxSt.stopped ∨ (axOf s n).st = AxSt.moving) → -2147483647 ≤ iAt p 4 4 → iAt p 4 4 ≤ 2147483647 →
    ((axOf s n).homed = true → (axOf s n).softLo ≤ iAt p 4 4 ∧ iAt p 4 4 ≤ (axOf s n).softHi) → startOf p s = some t → limitIn (towards (iAt p 4 4) (axOf s n)) (axOf s n) = false →
    exec (.axisMove c) s = .next (settle (setAx n (fun a => { a with moves := insertMove { start := t, target := iAt p 4 4, opcode := 0x0804, mbx := c.mbx, slot := c.slot, tag := c.tag.toNat } a.moves }) s))) ∧
  (∀ (c : Cmd) (s : State) (p : List Byte) (n : Nat), admitted 0x0804 20 0 none c s → prmOf c = p → uAt p 0 1 = n → n < 8 → uAt p 1 1 = 0 → dtOk p 8 = true → startsHeld s = false → stopInForce s = false →
    (axOf s n).st = AxSt.idle → (axOf s n).homed = true → (axOf s n).softHi < iAt p 4 4 → -2147483647 ≤ iAt p 4 4 → iAt p 4 4 ≤ 2147483647 → answers (.axisMove c) c 0x0804 0x0883 [] s s) ∧
  (∀ (c : Cmd) (s : State) (n : Nat) (a : Axis), admitted 0x0805 1 0 none c s → uAt (prmOf c) 0 1 = n → n < 8 → n < s.axes.length → axOf s n = a → a.st = AxSt.moving → a.dwell = none →
    oks (.axisStop c) c 0x0805 s (fun u => (axOf u n).st = AxSt.stopping ∧ (axOf u n).cause = 0 ∧ (axOf u n).brake = some a.dec ∧ (axOf u n).moves = [] ∧ (axOf u n).target = a.target)) ∧
  (∀ (c : Cmd) (s : State) (p : List Byte) (n t : Nat) (a : Axis), admitted 0x0806 20 0 none c s → prmOf c = p → uAt p 0 1 = n → n < 8 → axOf s n = a → dtOk p 8 = true → startsHeld s = false → stopInForce s = false →
    resumable a = true → causePresent a s = false → a.homed = false → -2147483647 ≤ a.target → a.target ≤ 2147483647 → startOf p s = some t → limitIn (towards a.target a) a = false →
    exec (.axisResume c) s = .next (settle (setAx n (fun a => { a with moves := insertMove { start := t, target := a.target, opcode := 0x0806, mbx := c.mbx, slot := c.slot, tag := c.tag.toNat } a.moves }) s))) ∧
  (∀ (c : Cmd) (s : State) (n : Nat), admitted 0x0806 20 0 none c s → uAt (prmOf c) 0 1 = n → n < 8 → dtOk (prmOf c) 8 = true → startsHeld s = false → resumable (axOf s n) = false →
    answers (.axisResume c) c 0x0806 0x0884 [] s s) ∧
  (∀ (c : Cmd) (s : State) (p : List Byte) (n : Nat) (a : Axis), admitted 0x0807 22 0 none c s → prmOf c = p → uAt p 0 1 = n → n < 8 → n < s.axes.length → axOf s n = a → uAt p 1 1 = 3 →
    12800 ≤ uAt p 4 4 → uAt p 4 4 ≤ 256000 → uAt p 4 4 ≤ a.vMax → 1 ≤ uAt p 20 2 → uAt p 20 2 ≤ 600 → startsHeld s = false → stopInForce s = false → a.st = AxSt.idle → limitIn true a = false →
    accepts (.axisHome c) c 0x0807 s (fun u => (axOf u n).st = AxSt.homing ∧ (axOf u n).pos = a.pos ∧ (axOf u n).vTop = uAt p 4 4 ∧ (axOf u n).moves = [] ∧ (axOf u n).target = a.pos + uAt p 16 4 ∧
      (axOf u n).en = true)) ∧
  (∀ (c : Cmd) (s : State) (p : List Byte) (n : Nat) (a : Axis), admitted 0x0808 2 0 none c s → prmOf c = p → uAt p 0 1 = n → n < 8 → n < s.axes.length → axOf s n = a → uAt p 1 1 = 1 → a.st = AxSt.disabled →
    debugHold s = false → noService s = false →
    oks (.axisEnable c) c 0x0808 s (fun u => (axOf u n).st = AxSt.idle ∧ (axOf u n).en = true ∧ (axOf u n).pos = a.pos ∧ (axOf u n).target = a.pos ∧ (axOf u n).homed = a.homed)) ∧
  (∀ (c : Cmd) (s : State) (p : List Byte) (n : Nat) (a : Axis), admitted 0x0808 2 0 none c s → prmOf c = p → uAt p 0 1 = n → n < 8 → n < s.axes.length → axOf s n = a → uAt p 1 1 = 0 → a.st = AxSt.idle →
    oks (.axisEnable c) c 0x0808 s (fun u => (axOf u n).st = AxSt.disabled ∧ (axOf u n).en = false ∧ (axOf u n).pos = a.pos ∧ (axOf u n).homed = (a.homed && !a.clearHomed))) ∧
  (∀ (c : Cmd) (s : State) (p : List Byte) (n : Nat), admitted 0x0809 8 0 none c s → prmOf c = p → uAt p 0 1 = n → n < 8 → n < s.axes.length → uAt p 1 1 < 2 → axQuiet (axOf s n) = true →
    oks (.axisSetPosition c) c 0x0809 s (fun u => (axOf u n).pos = iAt p 4 4 ∧ (axOf u n).homed = ((axOf s n).homed || bit (uAt p 1 1) 0) ∧ (axOf u n).st = (axOf s n).st)) ∧
  (∀ (c : Cmd) (s : State), admitted 0x080A 1 32 none c s → uAt (prmOf c) 0 1 < 8 → reads (.axisStatus c) c 0x080A (axisStatusBytes (uAt (prmOf c) 0 1) s) s) ∧
  (∀ (c : Cmd) (s : State) (n : Nat), admitted 0x080B 1 0 none c s → uAt (prmOf c) 0 1 = n → n < 8 → n < s.axes.length → (axOf s n).st = AxSt.fault → (axOf s n).cause ≠ 6 →
    oks (.axisFaultClear c) c 0x080B s (fun u => (axOf u n).st = AxSt.disabled ∧ (axOf u n).pos = (axOf s n).pos)) ∧
  (∀ (c : Cmd) (s : State) (n : Nat), admitted 0x080B 1 0 none c s → uAt (prmOf c) 0 1 = n → n < 8 → (axOf s n).st ≠ AxSt.fault → answers (.axisFaultClear c) c 0x080B stBadState [] s s)

/-- What the metering events do: conversions, aligned samples, supply values, latches, synthetic crossings, held records, saves (10 R366, R367, R374, R375, R377,
R378, R382, R386). -/
def Obligations.MeterEvents : Prop :=
  (∀ (raws : List Int) (s : State), s.power.st = Power.spring → domainUp s 8 = true →
    reaches (.conversionFrame raws) s (fun u => u.meter = { s.meter with raws := (List.range 20).map (fun m => satI 16 (raws.getD m 0)), frame := padTo (4 * us1) (dtNow s + 1) / (4 * us1) })) ∧
  (∀ (t : Nat) (s : State), s.power.st = Power.spring → domainUp s 8 = true → t % (4 * us1) = 0 → (∀ c ∈ s.meter.src, c.sampleAt ≤ t) →
    exec (.alignedSample t []) s = .next (settle (runTo (t + 80 * us1) s))) ∧
  (∀ (t m : Nat) (x : Int) (c : MSource) (s : State), s.power.st = Power.spring → domainUp s 8 = true → t % (4 * us1) = 0 → (∀ c ∈ s.meter.src, c.sampleAt ≤ t) → m < 16 → m < s.meter.src.length →
    srcOf s m = c → c.kind = 4 → c.vref = 0xFF → (∀ l, dueLatch s c = some l → t < l) → 0 < corrected c x * c.fullScale →
    reaches (.alignedSample t [(m, x)]) s (fun u => (srcOf u m).fwd = c.fwd + (corrected c x * c.fullScale * 4).natAbs ∧ (srcOf u m).rev = c.rev ∧ (srcOf u m).sampleAt = t)) ∧
  (∀ (m start stop v : Nat) (rising : Bool) (c : MSource) (s : State), m < s.meter.src.length → srcOf s m = c → c.kind = 5 → c.count ≠ 0 → c.ac = false → v = (c.sum / c.count / 2 ^ 24).toNat → c.exc = none →
    c.nominal * c.sag ≤ 100 * v → 100 * v ≤ c.nominal * c.swell →
    reaches (.supplyValue m start stop rising) s (fun u => (srcOf u m).vCount = c.vCount + 1 ∧ (srcOf u m).vSum = c.vSum + v ∧ (srcOf u m).vMax = max c.vMax v ∧ (srcOf u m).count = 0 ∧
      (srcOf u m).exc = none)) ∧
  (∀ (m t t0 : Nat) (s : State), m < s.meter.src.length → dueLatch s (srcOf s m) = some t → (srcOf s m).start = some t0 →
    reaches (.intervalLatch m) s (fun u => (srcOf u m).seq = ((srcOf s m).seq + 1) % 65536 ∧ (srcOf u m).start = some t ∧ (srcOf u m).fwd = (srcOf s m).fwd ∧ (srcOf u m).rev = (srcOf s m).rev ∧
      (srcOf u m).base = totals (srcOf s m))) ∧
  (∀ (m t0 t1 : Nat) (s : State), m < s.meter.src.length → (srcOf s m).kind = 5 → (srcOf s m).ac = true → (srcOf s m).crossAt = some t0 → (srcOf s m).synthAt = some t1 →
    reaches (.syntheticCrossing m) s (fun u => (srcOf u m).lineLost = true ∧ (srcOf u m).crossAt = some t0)) ∧
  (∀ (r : List Byte) (s : State), s.meter.ring = [r] → s1Room r s = true → exec .recordRingSend s = .next (settle (sendS1 0x16 r { s with meter := { s.meter with ring := [], lost := 0 } }))) ∧
  (∀ s : State, s.power.st = Power.spring → reaches .meterSave s (fun u => u.meter.saveAt = u.time.cyc ∧ s.meter.saveAt + cycMs (1000 * s.meter.saveEvery) ≤ u.time.cyc ∧
    u.meter.src.map (fun c => (c.fwd, c.rev)) = s.meter.src.map (fun c => (c.fwd, c.rev)))) ∧
  (∀ s : State, s.power.st = Power.spring → reaches .meterSaveLate s (fun u => u.meter = { s.meter with saveAt := s.meter.saveAt + cycMs (1000 * s.meter.saveEvery) } ∧
    s.meter.saveAt + cycMs (1000 * s.meter.saveEvery) + cycMs 100 ≤ u.time.cyc))

/-- The METER commands (10 R368, R382 to R384, R392 to R395): what each answers and leaves. -/
def Obligations.MeterCommands : Prop :=
  (∀ (c : Cmd) (s : State) (p : List Byte) (m : Nat), admitted 0x0901 28 0 none c s → prmOf c = p → uAt p 0 1 = m → m < 16 → m < s.meter.src.length → uAt p 1 1 = 2 → uAt p 2 1 ≤ 3 → uAt p 3 1 < 2 →
    within 16384 49152 (uAt p 6 2) = true → (iAt p 8 2).natAbs ≤ 8192 → within 1 64 (uAt p 10 1) = true → within 4 128 (uAt p 11 1) = true → uAt p 20 1 = 0xFF → zeros p 21 3 = true → zeros p 16 4 = true →
    billed s m = false → (m % 2 = 1 → (srcOf s (m - 1)).kind ≠ 1) →
    oks (.meterChannelConfig c) c 0x0901 s (fun u => (srcOf u m).kind = 2 ∧ (srcOf u m).kFactor = uAt p 12 4 ∧ (srcOf u m).maxRate = uAt p 24 4 ∧ (srcOf u m).thresh = uAt p 11 1 ∧
      (srcOf u m).fwd = 0 ∧ (srcOf u m).rev = 0 ∧ (srcOf u m).start = some (dtNow s) ∧ (srcOf u m).flags = 32 ∧ (srcOf u m).seq = (srcOf s m).seq)) ∧
  (∀ (c : Cmd) (s : State) (p : List Byte) (m : Nat), admitted 0x0901 28 0 none c s → prmOf c = p → uAt p 0 1 = m → m < 16 → uAt p 1 1 = 0 → uAt p 2 1 ≤ 3 → uAt p 3 1 < 2 →
    within 16384 49152 (uAt p 6 2) = true → (iAt p 8 2).natAbs ≤ 8192 → within 1 64 (uAt p 10 1) = true → within 4 128 (uAt p 11 1) = true → uAt p 20 1 = 0xFF → zeros p 21 3 = true → zeros p 16 4 = true →
    billed s m = true → answers (.meterChannelConfig c) c 0x0901 0x0980 [] s s) ∧
  (∀ (c : Cmd) (s : State) (p : List Byte) (m : Nat), admitted 0x0902 20 0 none c s → prmOf c = p → uAt p 0 1 = m → 16 ≤ m → m < 20 → m < s.meter.src.length → uAt p 1 1 = 1 → uAt p 2 2 = 0 →
    uAt p 14 1 < uAt p 13 1 → uAt p 13 1 < 100 → 100 < uAt p 12 1 → uAt p 16 1 = 0 → zeros p 17 3 = true → s.meter.bill = none →
    oks (.meterSupplyConfig c) c 0x0902 s (fun u => (srcOf u m).kind = 5 ∧ (srcOf u m).ac = false ∧ (srcOf u m).divider = uAt p 4 4 ∧ (srcOf u m).nominal = uAt p 8 4 ∧ (srcOf u m).swell = uAt p 12 1 ∧
      (srcOf u m).sag = uAt p 13 1 ∧ (srcOf u m).interrupt = uAt p 14 1 ∧ (srcOf u m).start = some (dtNow s))) ∧
  (∀ (c : Cmd) (s : State) (p : List Byte), admitted 0x0903 5 0 none c s → prmOf c = p → uAt p 0 2 ≠ 0 → uAt p 2 2 ≠ 0 → 16 ≤ uAt p 4 1 → uAt p 4 1 < 20 → (srcOf s (uAt p 4 1)).kind = 5 →
    (srcOf s (uAt p 4 1)).ac = true → answers (.meterLatchConfig c) c 0x0903 stOk [] s { s with meter := { s.meter with nT := uAt p 0 2, nL := uAt p 2 2, lineRef := uAt p 4 1 } }) ∧
  (∀ (c : Cmd) (s : State) (e : MSource), admitted 0x0904 1 38 none c s → uAt (prmOf c) 0 1 < 20 → srcOf s (uAt (prmOf c) 0 1) = e →
    reads (.meterRead c) c 0x0904 (leI 8 (totals e).1 ++ leI 8 (totals e).2 ++ leI 8 ((totals e).1 - (totals e).2) ++ dtBytes e.sampleAt ++ le 1 (b1 e.dRev) ++ le 1 (b1 e.fault)) s) ∧
  (∀ (c : Cmd) (s : State), admitted 0x0905 4 0 none c s → uAt (prmOf c) 0 4 < 2 ^ 20 →
    answers (.meterSubscribe c) c 0x0905 stOk [] s { s with meter := { s.meter with mask := uAt (prmOf c) 0 4 } }) ∧
  (∀ (c : Cmd) (s : State) (p : List Byte) (m : Nat), admitted 0x0906 12 0 none c s → prmOf c = p → s.meter.bill = none → (List.range 32).filter (fun k => bit (uAt p 8 4) k) = [m] → m < 16 →
    billable (srcOf s m) = true → zeros p 5 3 = true → uAt p 4 1 < 64 → billKeyFault s (uAt p 4 1) = none →
    answers (.meterBillOpen c) c 0x0906 stOk [] s { s with meter := { s.meter with bill := some { id := uAt p 0 4, slot := uAt p 4 1, job := jobId s, entries := [{ source := m }] } } }) ∧
  (∀ (c : Cmd) (s : State), admitted 0x0906 12 0 none c s → (∃ m < 16, (List.range 32).filter (fun k => bit (uAt (prmOf c) 8 4) k) = [m] ∧ billable (srcOf s m) = true) → zeros (prmOf c) 5 3 = true → uAt (prmOf c) 4 1 < 64 →
    s.meter.bill.isSome = true → answers (.meterBillOpen c) c 0x0906 0x0980 [] s s) ∧
  (∀ (c : Cmd) (s : State) (b : Bill), admitted 0x0907 1 0 none c s → s.meter.bill = some b → uAt (prmOf c) 0 1 = 0xFF → billKeyFault s b.slot = none →
    answers (.meterBillClose c) c 0x0907 stAccepted [] s { s with meter := { s.meter with bill := some { b with closing := some b.slot } } }) ∧
  (∀ (c : Cmd) (s : State), admitted 0x0907 1 0 none c s → (uAt (prmOf c) 0 1 = 0xFF ∨ uAt (prmOf c) 0 1 < 64) → s.meter.bill = none → answers (.meterBillClose c) c 0x0907 0x0981 [] s s) ∧
  (∀ (c : Cmd) (s : State) (p : List Byte), admitted 0x0908 8 0 none c s → prmOf c = p → 1 ≤ uAt p 0 4 → uAt p 0 4 ≤ 600 → 2 ≤ uAt p 4 4 → uAt p 4 4 ≤ 1000 →
    answers (.meterSaveConfig c) c 0x0908 stOk [] s { s with meter := { s.meter with saveEvery := uAt p 0 4, holdup := uAt p 4 4 } }) ∧
  (∀ (c : Cmd) (s : State) (p : List Byte), admitted 0x0909 6 0 none c s → prmOf c = p → uAt p 0 1 < 20 → 1 ≤ uAt p 4 2 → uAt p 4 2 ≤ 4096 → zeros p 1 3 = true →
    answers (.meterSample c) c 0x0909 stAccepted [] s { s with meter := { s.meter with jobs := s.meter.jobs.filter (fun j => j.1 != uAt p 0 1) ++ [(uAt p 0 1, uAt p 4 2, 0, [])] } })

/-- What the radio events do: slots, frames at a rover and at the base, losses and timers (11 R399, R402, R405, R408 to R412, R414 to R426). -/
def Obligations.FleetEvents : Prop :=
  (∀ (slot k : Nat) (s s1 : State), s.fleet.st = .beaconing → slot ≠ 0 → slot < 79 → baseSlot slot = true → slotSf slot 0 s = k → runTo (slotStart s k slot 0) s = s1 →
    burstHolds k (slotStart { s1 with fleet := { s1.fleet with slotAt := some (k, 2 * slot) } } k slot 0) { s1 with fleet := { s1.fleet with slotAt := some (k, 2 * slot) } } = true →
    exec (.slotStart slot 0) s = .next (settle (sendAll k slot 2 (le 2 (stopWord s1) ++ [0, 0] ++ le 4 s1.stop.regSt) { s1 with fleet := { s1.fleet with slotAt := some (k, 2 * slot) } }))) ∧
  (∀ (slot half : Nat) (s : State), s.fleet.st = .joined → slot ≠ 0 → slot < 79 → half ≤ 1 → addrSlot s.fleet.address ≠ (slot, half) → s.fleet.contSlot = none →
    reaches (.slotStart slot half) s (fun u => u.fleet = { s.fleet with slotAt := some (slotSf slot half s, 2 * slot + half) } ∧ u.stop = s.stop ∧ u.mem = s.mem)) ∧
  (∀ (f : RadFrame) (s s1 : State), s.power.st ≠ .neap → rxFrame 0 f s = (true, s1) → roleOf s1 = 0 → f.src = 0 → 24 ≤ f.payload.length → s1.fleet.st = .search →
    reaches (.beacon f) s (fun u => u.fleet.st = .connecting ∧ u.fleet.misses = 0 ∧ u.fleet.driftY = 0 ∧ u.fleet.beaconAt = some (antennaTime f s1) ∧
      u.fleet.offO = (antennaTime f s1 : Int) - expectBeacon (beaconSuper (uAt f.payload 0 4) (antennaTime f s1) s1) s1 ∧ u.fleet.joinedMap = uAt f.payload 16 8)) ∧
  (∀ (f : RadFrame) (s s1 : State), s.power.st = .neap → s.fleet.configured = true → roleOf s = 0 → rxFrame 0 f { s with fleet := { s.fleet with st := .search } } = (true, s1) → f.src = 0 →
    24 ≤ f.payload.length → bit (uAt f.payload 4 2) 15 = true → bit (uAt f.payload 6 1) 5 = false → stopActive s1 1 = false → 6 ≤ s1.stop.active.length →
    reaches (.beacon f) s (fun u => u.stop.st = .inForce ∧ stopActive u 1 = true ∧ u.stop.lastWord = some (uAt f.payload 4 2) ∧ u.fleet.misses = 0 ∧ u.power.st = s1.power.st)) ∧
  (∀ (f : RadFrame) (s s1 : State), rxBroadcast 1 f s = (true, s1) → 2 ≤ f.payload.length → s1.fleet.st = .joined →
    reaches (.corrFrame f) s (fun u => u.fleet.rxSet = uAt f.payload 0 1 ∧ u.fleet.rxFrag = (uAt f.payload 1 1 % 128 + 1) % 128 ∧
      u.fleet.corrBytes = (s1.fleet.corrBytes + (f.payload.length - 2)) % 2 ^ 32 ∧ s1.pose.rtcmIn <+: u.pose.rtcmIn)) ∧
  (∀ (f : RadFrame) (s s1 : State), rxFrame 2 f s = (true, s1) → roleOf s1 = 0 → f.src = 0 → s1.fleet.st ≠ .search → stopActive s1 2 = false → 6 ≤ s1.stop.active.length →
    reaches (.stopFrame f) s (fun u => u.stop.st = .inForce ∧ stopActive u 2 = true ∧ u.stop.lastWord = some (uAt f.payload 0 2) ∧ stopOutLow u = true)) ∧
  (∀ (f : RadFrame) (s s1 s2 : State) (new : Bool), rxFrame 3 f s = (true, s1) → roleOf s1 = 0 → f.src = 0 → s1.fleet.st = .joined → f.dst = s1.fleet.address →
    peerWin 0 f.seq (ackCovered 0 f s1) = (new, s2) → exec (.data f) s = .next (settle (if new then takeIn 0 f f.payload s2 else s2))) ∧
  (∀ (f : RadFrame) (s s1 : State), rxBroadcast 4 f s = (true, s1) → s1.fleet.st = .joined → f.payload.length = 4 → uAt f.payload 0 1 = s1.fleet.address →
    exec (.ackFrame f) s = .next (settle (ackPeer 0 (uAt f.payload 1 2) (uAt f.payload 3 1) (sfNow s1) true s1))) ∧
  (∀ (f : RadFrame) (s s1 : State) (r : Rover), rxFrame 5 f s = (true, s1) → tget s1.fleet.rovers f.src = some r → s1.fleet.st = .beaconing → roleOf s1 = 1 → addrSlot f.src = (f.slot, f.half) →
    0 ≤ diffN 32 (sfFull s1 (dtNow s1)) r.startSf → 8 ≤ halfPayload s1.fleet → f.payload.length = 8 → bit (uAt f.payload 0 1) 5 = false →
    -(2 * us1 : Nat) ≤ (antennaTime f s1 : Int) - (slotStart s1 (sfFull s1 (dtNow s1)) f.slot f.half + 30 * us1 + bitsLen s1.fleet 64 : Nat) →
    (antennaTime f s1 : Int) - (slotStart s1 (sfFull s1 (dtNow s1)) f.slot f.half + 30 * us1 + bitsLen s1.fleet 64 : Nat) ≤ (22 * us1 : Nat) →
    reaches (.uplink f) s (fun u => (tget u.fleet.rovers f.src).map (fun x => (x.lastSf, x.rssi, x.status, x.startSf)) = some (sfFull s1 (dtNow s1) % 2 ^ 32, f.rssi, f.payload, r.startSf))) ∧
  (∀ (f : RadFrame) (s s1 : State) (a : Nat) (r : Rover), rxFrame 6 f s = (true, s1) → s1.fleet.st = .beaconing → f.payload.length = 20 → roleOf s1 = 1 →
    s1.fleet.rovers.find? (fun r => r.2.uid == f.payload.take 16) = some (a, r) →
    reaches (.joinReq f) s (fun u => u.fleet.joinOut = s1.fleet.joinOut ++ [joinRespBytes (uAt f.payload 16 4) 0 a ((sfNow s1 + 4) % 2 ^ 32) (uAt (f.payload.take 16) 0 4) s1] ∧
      (tget u.fleet.rovers a).map (·.uid) = some (f.payload.take 16))) ∧
  (∀ (f : RadFrame) (s s1 : State), rxFrame 6 f s = (true, s1) → s1.fleet.st = .beaconing → f.payload.length = 20 → s1.fleet.joinOpen = false →
    (∀ r ∈ s1.fleet.rovers, r.2.uid ≠ f.payload.take 16) →
    reaches (.joinReq f) s (fun u => u.fleet.joinOut = s1.fleet.joinOut ++ [joinRespBytes (uAt f.payload 16 4) 2 0 0 (uAt (f.payload.take 16) 0 4) s1] ∧ u.fleet.rovers = s1.fleet.rovers)) ∧
  (∀ (f : RadFrame) (s s1 : State) (n x : Nat), rxBroadcast 7 f s = (true, s1) → f.payload.length = 20 → s1.fleet.st = .connecting → s1.fleet.nonce = some (n, x) → n = uAt f.payload 0 4 →
    uAt f.payload 16 4 = ownOrigin → uAt f.payload 4 1 = 0 →
    reaches (.joinResp f) s (fun u => u.fleet.granted = true ∧ u.fleet.address = uAt f.payload 5 1 ∧ u.fleet.startSf = uAt f.payload 6 4 ∧ u.fleet.map = uAt f.payload 10 5 ∧
      u.fleet.nonce = none ∧ u.fleet.st = .connecting)) ∧
  (∀ (f : RadFrame) (s s1 : State), rxFrame 8 f s = (true, s1) → s1.fleet.st = .beaconing → 14 ≤ f.payload.length → uAt f.payload 12 1 = 1 →
    reaches (.serviceReq f) s (fun u => u.fleet = { s1.fleet with svcOut := s1.fleet.svcOut ++ [f.payload.take 13 ++ [0] ++ le 1 s1.fleet.rovers.length ++ le 1 (beaconFlagsOf s1) ++ le 1 s1.pose.baseSt ++ [0] ++ le 2 (baseTq s1)] })) ∧
  (∀ (f : RadFrame) (s s1 : State) (r : Nat × Nat × List Byte × Option Nat), rxFrame 9 f s = (true, s1) → s1.fleet.svcReq.find? (fun r => r.2.2.2.isSome && r.1 == uAt f.payload 8 4) = some r →
    f.payload.take 8 = uid64 → exec (.serviceResp f) s = .next (settle (sendS1 0x04 f.payload { s1 with fleet := { s1.fleet with svcReq := s1.fleet.svcReq.erase r } }))) ∧
  (∀ (cause : Nat) (s : State), s.power.st = .spring → roleOf s = 0 → s.fleet.st = .joined → s.fleet.misses < 2 →
    reaches (.fleetBeaconMissed cause) s (fun u => u.fleet.misses = s.fleet.misses + 1 ∧ u.fleet.st = .joined ∧ u.stop = s.stop)) ∧
  (∀ (cause : Nat) (s : State), s.power.st = .spring → roleOf s = 0 → s.fleet.st = .joined → s.fleet.misses = 2 → stopActive s 4 = false → 6 ≤ s.stop.active.length →
    reaches (.fleetBeaconMissed cause) s (fun u => u.fleet.misses = 3 ∧ u.fleet.st = .lost ∧ stopActive u 4 = true ∧ u.stop.st = .inForce)) ∧
  (∀ (n x : Nat) (s : State), s.fleet.nonce = some (n, x) → s.fleet.st = .connecting → s.sec.drbg = true → joinAllowed s = false →
    reaches .joinRetry s (fun u => u.fleet.nonce = none ∧ u.fleet.contSlot = none ∧ u.fleet.st = .connecting ∧ u.fleet.attempts = s.fleet.attempts)) ∧
  (∀ (n x k : Nat) (s v : State), s.fleet.nonce = some (x, n) → s.fleet.st = .connecting → s.sec.drbg = true → joinAllowed s = true →
    k = ((sfFull s (dtNow s) : Int) + diffN 32 (n + 3 + Config.freeValue s.freeCtr % 2 ^ min s.fleet.attempts 5) (sfFull s (dtNow s))).toNat → runTo (slotStart s k 0 0) s = v →
    s.fleet.contSf ≠ some (max k (sfFull v (dtNow v)) % 2 ^ 32) →
    reaches .joinRetry s (fun u => u.fleet.nonce = none ∧ u.fleet.st = .connecting ∧ u.fleet.attempts = s.fleet.attempts ∧
      ∃ slot, slot < 64 ∧ slot % 4 = 3 ∧ u.fleet.contSlot = some (max k (sfFull v (dtNow v)) % 2 ^ 32, slot))) ∧
  (∀ (a : Nat) (r : Rover) (s : State), tget s.fleet.rovers a = some r →
    reaches (.supTimeout a) s (fun u => tget u.fleet.rovers a = none ∧ a ∈ u.cor.gone ∧ (∀ b, b ≠ a → tget u.fleet.rovers b = tget s.fleet.rovers b))) ∧
  (∀ (a port id : Nat) (m : RadAsm) (s : State), (peerOf s a).asm.find? (fun m => m.port == port && m.msgId == id) = some m →
    reaches (.messageReassemblyTimeout a port id) s (fun u => ∀ x ∈ (peerOf u a).asm, ¬ (x.port = port ∧ x.msgId = id))) ∧
  (∀ (tok svc n : Nat) (d : List Byte) (s : State), s.fleet.svcReq.find? (fun r => r.2.2.2.isSome) = some (tok, svc, d, some n) →
    reaches .fleetServiceTimeout s (fun u => u.fleet = { s.fleet with svcReq := s.fleet.svcReq.erase (tok, svc, d, some n) })) ∧
  (∀ (s : State), s.fleet.st = .search →
    reaches .searchChannelTimeout s (fun u => u.fleet.searchIx = (s.fleet.searchIx + 1) % max 1 (mapChannels s.fleet.cfgMap).length ∧ u.fleet.st = .search)) ∧
  (∀ (p : Packet) (b : List Byte) (s s1 : State), takeS0 3 s = some (p, s1) → p.payload = b → within 2 0x7F (uAt b 0 1) = true → uAt b 1 1 = 0 → uAt b 2 1 ≤ 1 → zeros b 3 1 = true → 9 ≤ b.length →
    b.length ≤ 1032 → roleOf s = 0 → s.fleet.st = .joined → exec .radioMsgPacket s = .next (settle (queueMsg 0 (uAt b 0 1) (uAt b 2 1 == 1) (uAt b 4 4) (b.drop 8) s1)))

/-- The FLEET commands (11 R397, R399, R400, R404, R409, R416, R418 to R420, R425, R426, R429, R430): what each answers and leaves. -/
def Obligations.FleetCommands : Prop :=
  (∀ (c : Cmd) (s : State) (p : List Byte), admitted 0x0A01 32 0 none c s → prmOf c = p → uAt p 0 1 ≤ 6 → zeros p 1 1 = true → uAt p 2 2 % 10 = 0 → minSf (uAt p 0 1) ≤ uAt p 2 2 → uAt p 2 2 ≤ 400 →
    ms1 * uAt p 2 2 % tideP s = 0 → netIdOk (uAt p 4 4) = true → 1000 * uAt p 10 2 ≤ 12500 * uAt p 2 2 - 60000 → (uAt p 0 1 < 3 → zeros p 16 8 = true) → uAt p 24 5 ≠ 0 → uAt p 24 5 < 2 ^ 40 →
    zeros p 29 3 = true → s.fleet.st = .off →
    answers (.fleetRadioConfig c) c 0x0A01 stOk [] s { s with fleet := { s.fleet with
      configured := true, mode := uAt p 0 1, sfMs := uAt p 2 2, netId := uAt p 4 4, netKey := uAt p 8 1, svcKey := uAt p 9 1, settle := uAt p 10 2, txDelay := uAt p 12 2, rxDelay := uAt p 14 2, f0 := uAt p 16 4, spacing := uAt p 20 4, cfgMap := uAt p 24 5 } }) ∧
  (∀ (c : Cmd) (s : State), admitted 0x0A01 32 0 none c s → 1000 * uAt (prmOf c) 10 2 > 12500 * uAt (prmOf c) 2 2 - 60000 → answers (.fleetRadioConfig c) c 0x0A01 stBadParam [] s s) ∧
  (∀ (c : Cmd) (s : State), admitted 0x0A01 32 0 none c s → netIdOk (uAt (prmOf c) 4 4) = false → answers (.fleetRadioConfig c) c 0x0A01 stBadParam [] s s) ∧
  (∀ (c : Cmd) (s : State) (p : List Byte) (k n : Nat), admitted 0x0A02 (4 + min 16 (uAt (prmOf c) 1 1)) 0 none c s → prmOf c = p → uAt p 0 1 = k → (k ≤ 2 ∨ (8 ≤ k ∧ k ≤ 47)) → uAt p 1 1 = n → 1 ≤ n → n ≤ 16 → zeros p 2 2 = true →
    s.fleet.st = .off → oks (.fleetXcvrScript c) c 0x0A02 s (fun u => tget u.fleet.scripts k = some ((p.drop 4).take n) ∧ (∀ j, j ≠ k → tget u.fleet.scripts j = tget s.fleet.scripts j))) ∧
  (∀ (c : Cmd) (s : State) (p : List Byte), admitted 0x0A03 3 0 (some 1) c s → prmOf c = p → 1 ≤ uAt p 0 1 → uAt p 0 1 ≤ 64 → uAt p 1 1 ≤ 1 → 3 ≤ uAt p 2 1 → s.fleet.st = .off → s.fleet.configured = true →
    s.power.st = .spring → noService s = false →
    oks (.fleetBaseStart c) c 0x0A03 s (fun u => u.fleet.st = .beaconing ∧ u.fleet.maxRovers = uAt p 0 1 ∧ u.fleet.joinOpen = bit (uAt p 1 1) 0 ∧ u.fleet.supTimeout = uAt p 2 1 ∧
      u.fleet.map = s.fleet.cfgMap ∧ u.fleet.rovers = [] ∧ u.fleet.pending = none)) ∧
  (∀ (c : Cmd) (s : State), admitted 0x0A04 1 0 (some 1) c s → uAt (prmOf c) 0 1 = 0 → s.fleet.st = .beaconing → s.fleet.rovers = [] →
    oks (.fleetBaseStop c) c 0x0A04 s (fun u => u.fleet.st = .off ∧ u.fleet.pending = none ∧ u.fleet.burst = none)) ∧
  (∀ (c : Cmd) (s : State), admitted 0x0A04 1 0 (some 1) c s → uAt (prmOf c) 0 1 = 0 → s.fleet.rovers ≠ [] → answers (.fleetBaseStop c) c 0x0A04 stBadState [] s s) ∧
  (∀ (c : Cmd) (s : State) (p : List Byte), admitted 0x0A05 3 0 (some 1) c s → prmOf c = p → 1 ≤ uAt p 0 1 → uAt p 0 1 ≤ 64 → uAt p 1 1 ≤ 3 → 3 ≤ uAt p 2 1 →
    answers (.fleetBaseSet c) c 0x0A05 stOk [] s { s with fleet := { s.fleet with maxRovers := uAt p 0 1, joinOpen := bit (uAt p 1 1) 0, wake := bit (uAt p 1 1) 1, supTimeout := uAt p 2 1 } }) ∧
  (∀ (c : Cmd) (s : State) (p : List Byte), admitted 0x0A06 6 0 (some 1) c s → prmOf c = p → uAt p 0 5 ≠ 0 → uAt p 0 5 < 2 ^ 40 → (uAt p 5 1 = 0 ∨ 3 ≤ uAt p 5 1) → s.fleet.st = .beaconing →
    s.fleet.pending = none → answers (.fleetChannelMap c) c 0x0A06 stOk [] s { s with fleet := { s.fleet with pending := some (uAt p 0 5, (sfNow s + 1 + (if uAt p 5 1 = 0 then 8 else uAt p 5 1)) % 2 ^ 32) } }) ∧
  (∀ (c : Cmd) (s : State) (r : Rover), admitted 0x0A07 1 0 (some 1) c s → tget s.fleet.rovers (uAt (prmOf c) 0 1) = some r →
    oks (.fleetRoverRelease c) c 0x0A07 s (fun u => tget u.fleet.rovers (uAt (prmOf c) 0 1) = none ∧ (∀ b, b ≠ uAt (prmOf c) 0 1 → tget u.fleet.rovers b = tget s.fleet.rovers b))) ∧
  (∀ (c : Cmd) (s : State), admitted 0x0A07 1 0 (some 1) c s → tget s.fleet.rovers (uAt (prmOf c) 0 1) = none → answers (.fleetRoverRelease c) c 0x0A07 0x0A82 [] s s) ∧
  (∀ (c : Cmd) (s : State) (r : Rover), admitted 0x0A08 1 32 (some 1) c s → tget s.fleet.rovers (uAt (prmOf c) 0 1) = some r →
    reads (.fleetRoverInfo c) c 0x0A08 (r.uid ++ le 2 (min 65535 (diffN 32 (sfNow s) r.lastSf - 1).toNat) ++ leI 1 r.rssi ++ [0] ++ leI 4 r.offset ++ r.status) s) ∧
  (∀ (c : Cmd) (s : State), admitted 0x0A09 0 0 (some 0) c s → s.fleet.st = .off → noService s = false → s.fleet.configured = true →
    accepts (.fleetJoin c) c 0x0A09 s (fun u => u.fleet.st = .search ∧ u.fleet.attempts = 0 ∧ u.fleet.beaconAt = none ∧ u.fleet.map = s.fleet.cfgMap ∧ u.fleet.searchIx = 0)) ∧
  (∀ (c : Cmd) (s : State), admitted 0x0A09 0 0 (some 0) c s → s.fleet.st = .off → noService s = false → s.fleet.configured = false → answers (.fleetJoin c) c 0x0A09 0x0A83 [] s s) ∧
  (∀ (c : Cmd) (s : State), admitted 0x0A0A 0 0 (some 0) c s → s.fleet.st = .joined → anyCellOn s = false → axesMoving s = false →
    accepts (.fleetLeave c) c 0x0A0A s (fun u => u = { s with fleet := { s.fleet with leaving := some 3 } })) ∧
  (∀ (c : Cmd) (s : State), admitted 0x0A0A 0 0 (some 0) c s → s.fleet.st = .joined → (anyCellOn s = true ∨ axesMoving s = true) → answers (.fleetLeave c) c 0x0A0A stBadState [] s s) ∧
  (∀ (c : Cmd) (s : State), admitted 0x0A0B 0 0 (some 0) c s → s.fleet.st = .lost → beaconFresh s = true → bit s.fleet.joinedMap (s.fleet.address - 1) = true →
    oks (.fleetRecover c) c 0x0A0B s (fun u => u.fleet.st = .joined ∧ u.fleet.misses = 0 ∧ u.cor.table = s.cor.table)) ∧
  (∀ (c : Cmd) (s : State), admitted 0x0A0B 0 0 (some 0) c s → s.fleet.st = .lost → beaconFresh s = true → bit s.fleet.joinedMap (s.fleet.address - 1) = false →
    accepts (.fleetRecover c) c 0x0A0B s (fun u => u.fleet.st = .connecting ∧ (∀ e ∈ u.cor.table, e.2.st = .loc) ∧ u.stop = s.stop)) ∧
  (∀ (c : Cmd) (s : State), admitted 0x0A0B 0 0 (some 0) c s → s.fleet.st = .lost → beaconFresh s = false → answers (.fleetRecover c) c 0x0A0B 0x0A81 [] s s) ∧
  (∀ (c : Cmd) (s : State), admitted 0x0A0C 0 29 none c s → reads (.fleetStatus c) c 0x0A0C (fleetStatusBytes s) s) ∧
  (∀ (c : Cmd) (s : State) (p : List Byte) (n : Nat), admitted 0x0A0D (12 + min 32 (uAt (prmOf c) 8 1)) 0 none c s → prmOf c = p → uAt p 8 1 = n → 1 ≤ uAt p 0 1 → uAt p 0 1 ≤ 2 → zeros p 1 3 = true → zeros p 9 3 = true → n ≤ 32 →
    s.fleet.st ≠ .off → s.fleet.configured = true → beaconFresh s = true → s.fleet.svcKey ≠ 0xFF → 14 + n ≤ fullPayload s.fleet →
    accepts (.fleetServiceSend c) c 0x0A0D s (fun u => u = { s with fleet := { s.fleet with svcReq := s.fleet.svcReq ++ [(uAt p 4 4, uAt p 0 1, (p.drop 12).take n, none)] } })) ∧
  (∀ (c : Cmd) (s : State) (p : List Byte) (n : Nat), admitted 0x0A0E (20 + min 32 (uAt (prmOf c) 17 1)) 0 (some 1) c s → prmOf c = p → uAt p 17 1 = n → n ≤ 32 → zeros p 18 2 = true →
    0 ≤ diffN 32 (sfNow s) (uAt p 12 4) → diffN 32 (sfNow s) (uAt p 12 4) ≤ 4 →
    answers (.fleetServiceReply c) c 0x0A0E stOk [] s { s with fleet := { s.fleet with svcOut := s.fleet.svcOut ++ [p.take 12 ++ [2] ++ (p.drop 16).take 1 ++ (p.drop 20).take n] } }) ∧
  (∀ (c : Cmd) (s : State) (p : List Byte), admitted 0x0A0E (20 + min 32 (uAt (prmOf c) 17 1)) 0 (some 1) c s → prmOf c = p → uAt p 17 1 ≤ 32 → zeros p 18 2 = true → 4 < diffN 32 (sfNow s) (uAt p 12 4) →
    answers (.fleetServiceReply c) c 0x0A0E stStale [] s s)

/-- What the corridor events do: the batch, messages at the base and at a rover, a request that times out (12 R439 to R442, R447). -/
def Obligations.CorridorEvents : Prop :=
  (∀ (k : Nat) (m : CorMsg) (s : State), roleOf s = 1 → s.cor.enabled = true → s.fleet.st = .beaconing → nextBatch s = k →
    s.cor.msgs = [m] → m.isReq = true → s.cor.hosts = [] → s.cor.table = [] → (tget s.fleet.rovers m.addr).isSome = true →
    reaches .corridorBatch s (fun u => u.cor.msgs = [] ∧ u.cor.batchSf = some (k % 2 ^ 32) ∧ u.cor.table = (decide1 (k % 2 ^ 32) m { s.cor with gone := [] }).2.2.2 ∧
      u.cor.recs = s.cor.recs ++ [{ entry := (decide1 (k % 2 ^ 32) m { s.cor with gone := [] }).2.1, addr := m.addr, decision := (decide1 (k % 2 ^ 32) m { s.cor with gone := [] }).1, req := m.req, other := (decide1 (k % 2 ^ 32) m { s.cor with gone := [] }).2.2.1, sf := k % 2 ^ 32 }])) ∧
  (∀ (a : Nat) (b : List Byte) (s : State), roleOf s = 1 → s.cor.enabled = true → b.length = 30 → uAt b 0 1 = 1 →
    exec (.req a b) s = .next (settle { s with cor := { s.cor with msgs := s.cor.msgs ++ [{ addr := a, isReq := true, req := uAt b 1 2, geo := b.drop 4 }] } })) ∧
  (∀ (a : Nat) (b : List Byte) (s : State), roleOf s = 1 → s.cor.enabled = true → b.length = 5 → uAt b 0 1 = 2 →
    exec (.release a b) s = .next (settle { s with cor := { s.cor with msgs := s.cor.msgs ++ [{ addr := a, isReq := false, req := uAt b 3 2, index := uAt b 1 2 }] } })) ∧
  (∀ (b : List Byte) (s : State), roleOf s = 0 → s.fleet.st = .joined → b.length = 24 → uAt b 0 1 = 3 →
    reaches (.frame b) s (fun u => u.cor.frameRev = uAt b 1 1 % 16 ∧ u.cor.lat = iAt b 4 8 ∧ u.cor.lon = iAt b 12 8 ∧ u.cor.height = iAt b 20 4 ∧ u.cor.frameSeen = true ∧ u.cor.table = s.cor.table)) ∧
  (∀ (ix : Nat) (e : CorEntry) (s : State), tget s.cor.table ix = some e → e.st = .pending → roleOf s = 0 →
    reaches (.reqTimeout ix) s (fun u => u.cor.table = tdel s.cor.table ix))

/-- The CORRIDOR commands (12 R436, R438, R441, R443, R447, R460): what each answers and leaves. -/
def Obligations.CorridorCommands : Prop :=
  (∀ (c : Cmd) (s s0 : State) (p : List Byte) (ix : Nat), admitted 0x0B01 26 2 (some 0) c s → prmOf c = p → corPurge s = s0 → geoOk (entryOf .pending p) = true → s.cor.rImpl < uAt p 24 2 →
    s.fleet.st = .joined → s.cor.frameSeen = true → firstFree 64 s0.cor.table = some ix →
    ∃ u, answers (.corridorRequest c) c 0x0B01 stAccepted (le 2 ((s.cor.reqId + 1) % 65536)) s u ∧ u.cor.reqId = (s.cor.reqId + 1) % 65536 ∧
      u.cor.table = tset s0.cor.table ix { entryOf .pending p with owner := 0xFF, rank := 0xFF, req := (s.cor.reqId + 1) % 65536, since := sfNow s }) ∧
  (∀ (c : Cmd) (s : State) (e : CorEntry), admitted 0x0B02 2 0 (some 0) c s → tget (corLive s) (uAt (prmOf c) 0 2) = some e → e.st ≠ .grant →
    answers (.corridorRelease c) c 0x0B02 stOk [] s { s with cor := { s.cor with table := tdel s.cor.table (uAt (prmOf c) 0 2) } }) ∧
  (∀ (c : Cmd) (s : State) (e : CorEntry), admitted 0x0B02 2 0 (some 0) c s → tget (corLive s) (uAt (prmOf c) 0 2) = some e → e.st = .grant →
    answers (.corridorRelease c) c 0x0B02 stOk [] s (sendRelease (baseIndex e) e.req { s with cor := { s.cor with table := tdel s.cor.table (uAt (prmOf c) 0 2) } })) ∧
  (∀ (c : Cmd) (s : State), admitted 0x0B02 2 0 (some 0) c s → tget (corLive s) (uAt (prmOf c) 0 2) = none → answers (.corridorRelease c) c 0x0B02 0x0B82 [] s s) ∧
  (∀ (c : Cmd) (s s0 : State) (p : List Byte) (ix : Nat), admitted 0x0B03 26 2 (some 0) c s → prmOf c = p → corPurge s = s0 → geoOk (entryOf .loc p) = true → s.fleet.st ≠ .joined → s.fleet.st ≠ .lost →
    firstFree 64 s0.cor.table = some ix →
    answers (.corridorLocalSet c) c 0x0B03 stOk (le 2 ix) s { s0 with cor := { s0.cor with table := tset s0.cor.table ix { entryOf .loc p with owner := 0xFF, rank := 0xFF } } }) ∧
  (∀ (c : Cmd) (s : State) (p : List Byte), admitted 0x0B04 5 0 (some 0) c s → prmOf c = p → 4 ≤ uAt p 4 1 →
    answers (.corridorConfig c) c 0x0B04 stOk [] s { s with cor := { s.cor with rImpl := uAt p 0 2, warnMs := uAt p 2 2, reqTimeout := uAt p 4 1 } }) ∧
  (∀ (c : Cmd) (s : State), admitted 0x0B05 2 32 none c s → uAt (prmOf c) 0 2 < (if roleOf s = 1 then 4096 else 64) →
    reads (.corridorRead c) c 0x0B05 (entryBytes (tget (corLive s) (uAt (prmOf c) 0 2))) s) ∧
  (∀ (c : Cmd) (s : State) (p : List Byte), admitted 0x0B06 32 0 (some 1) c s → prmOf c = p → uAt p 0 1 ≤ 1 → zeros p 1 3 = true → zeros p 27 1 = true → 1 ≤ uAt p 28 4 → uAt p 28 4 ≤ 1000000 →
    (iAt p 4 8).natAbs ≤ 90000000000000 → (iAt p 12 8).natAbs ≤ 180000000000000 → (uAt p 0 1 = 1 → 42 ≤ fullPayload s.fleet) → (∀ e ∈ s.cor.table, e.2.st ≠ .granted) → s.fleet.rovers = [] → (uAt p 0 1 = 0 → s.cor.hosts = []) →
    (iAt p 4 8 ≠ s.cor.lat ∨ iAt p 12 8 ≠ s.cor.lon ∨ iAt p 20 4 ≠ s.cor.height) →
    answers (.corridorServiceConfig c) c 0x0B06 stOk [] s { s with cor := { s.cor with
      enabled := uAt p 0 1 == 1, lat := iAt p 4 8, lon := iAt p 12 8, height := iAt p 20 4, separation := uAt p 24 2, guard := uAt p 26 1, maxDuration := uAt p 28 4, frameRev := (s.cor.frameRev + 1) % 16 } }) ∧
  (∀ (c : Cmd) (s : State) (p : List Byte), admitted 0x0B06 32 0 (some 1) c s → prmOf c = p → uAt p 0 1 = 1 → zeros p 1 3 = true → zeros p 27 1 = true → 1 ≤ uAt p 28 4 → uAt p 28 4 ≤ 1000000 →
    (iAt p 4 8).natAbs ≤ 90000000000000 → (iAt p 12 8).natAbs ≤ 180000000000000 → fullPayload s.fleet < 42 → answers (.corridorServiceConfig c) c 0x0B06 0x0B83 [] s s) ∧
  (∀ (c : Cmd) (s : State) (p : List Byte), admitted 0x0B07 2 0 (some 1) c s → prmOf c = p → 1 ≤ uAt p 0 1 → uAt p 0 1 ≤ 64 → uAt p 1 1 ≠ 0 →
    answers (.corridorRankSet c) c 0x0B07 stOk [] s { s with cor := { s.cor with ranks := tset s.cor.ranks (uAt p 0 1) (uAt p 1 1) } }) ∧
  (∀ (c : Cmd) (s : State) (p : List Byte), admitted 0x0B08 27 2 (some 1) c s → prmOf c = p → uAt p 26 1 ≤ 3 → geoOk { entryOf .block p with openEnd := bit (uAt p 26 1) 1 } = true →
    s.cor.enabled = true → s.fleet.st = .beaconing →
    exec (.corridorBlock c) s = .next (settle { s with cor := { s.cor with hosts := s.cor.hosts ++ [{ isBlock := true, geo := p.take 26, force := bit (uAt p 26 1) 0, openEnd := bit (uAt p 26 1) 1, mbx := c.mbx, slot := c.slot, tag := c.tag.toNat }] } })) ∧
  (∀ (c : Cmd) (s : State) (e : CorEntry), admitted 0x0B09 2 0 (some 1) c s → tget s.cor.table (uAt (prmOf c) 0 2) = some e → (e.st = .granted ∨ e.st = .block) → s.cor.enabled = true → s.fleet.st = .beaconing →
    exec (.corridorRevoke c) s = .next (settle { s with cor := { s.cor with hosts := s.cor.hosts ++ [{ isBlock := false, index := uAt (prmOf c) 0 2, mbx := c.mbx, slot := c.slot, tag := c.tag.toNat }] } })) ∧
  (∀ (c : Cmd) (s : State), admitted 0x0B09 2 0 (some 1) c s → tget s.cor.table (uAt (prmOf c) 0 2) = none → answers (.corridorRevoke c) c 0x0B09 0x0B82 [] s s) ∧
  (∀ (c : Cmd) (s : State), admitted 0x0B0A 0 12 none c s → reads (.corridorStatus c) c 0x0B0A (corridorStatusBytes s) s)

/-- The stop chain: STOP_IN, Vexlink and the STOP commands (12 R452, R453, R456, R463). -/
def Obligations.StopRows : Prop :=
  (∀ (a b : Bool) (s : State), (a || b) = true → stopActive s 0 = false → 6 ≤ s.stop.active.length →
    reaches (.stopInRegister a b) s (fun u => u.stop.st = .inForce ∧ stopActive u 0 = true ∧ u.stop.aLow = a ∧ u.stop.bLow = b ∧ stopOutLow u = true ∧
      (s.stop.st ≠ .inForce → u.stop.epoch = (s.stop.epoch + 1) % 16 ∧ u.stop.entry = 0) ∧ (s.stop.st = .inForce → u.stop.epoch = s.stop.epoch ∧ u.stop.entry = s.stop.entry))) ∧
  (∀ (s : State), s.stop.discrep = false → s.stop.st = .inForce → 6 ≤ s.stop.active.length → stopActive s 0 = true → (∀ k, 1 ≤ k → k ≤ 4 → stopActive s k = false) → s.stop.episode ≠ 16 →
    reaches .stopInRelease s (fun u => u.stop.st = .latched ∧ stopActive u 0 = false ∧ u.stop.aLow = false ∧ u.stop.bLow = false ∧ u.stop.epoch = s.stop.epoch)) ∧
  (∀ (b : Bool) (s : State), s.stop.discrep = false → stopActive s 0 = false → 6 ≤ s.stop.active.length →
    reaches (.stopDiscrepancy b) s (fun u => u.stop.discrep = true ∧ u.stop.together = false ∧ u.stop.st = .inForce ∧ stopActive u 0 = true ∧ u.stop.aLow = !b ∧ u.stop.bLow = b)) ∧
  (∀ (s : State), stopActive s 3 = true → 6 ≤ s.stop.active.length →
    reaches .vexlinkStopTimeout s (fun u => stopActive u 3 = false ∧ u.stop.epochs = [] ∧ (∀ k, k ≠ 3 → stopActive u k = stopActive s k))) ∧
  (∀ (c : Cmd) (s : State), admitted 0x0C01 0 11 none c s → reads (.stopStatus c) c 0x0C01 (stopStatusBytes s) s) ∧
  (∀ (c : Cmd) (s : State), admitted 0x0C02 0 0 none c s → s.stop.st = .latched → 6 ≤ s.stop.active.length →
    oks (.stopClear c) c 0x0C02 s (fun u => u.stop.st = .clear ∧ stopActive u 5 = false ∧ u.stop.epoch = s.stop.epoch)) ∧
  (∀ (c : Cmd) (s : State), admitted 0x0C02 0 0 none c s → s.stop.st = .clear → answers (.stopClear c) c 0x0C02 stOk [] s s) ∧
  (∀ (c : Cmd) (s : State), admitted 0x0C02 0 0 none c s → s.stop.st = .inForce → s.stop.discrep = false → answers (.stopClear c) c 0x0C02 0x0C80 [] s s) ∧
  (∀ (c : Cmd) (s : State), admitted 0x0C02 0 0 none c s → s.stop.st = .inForce → stopSources s = 1 → s.stop.discrep = true → s.stop.together = false → s.stop.aLow = false → s.stop.bLow = false →
    answers (.stopClear c) c 0x0C02 0x0C81 [] s s) ∧
  (∀ (c : Cmd) (s : State) (p : List Byte), admitted 0x0C03 2 0 none c s → prmOf c = p → uAt p 0 1 < 8 → uAt p 1 1 < 8 → stopInForce s = true →
    answers (.stopConfig c) c 0x0C03 stOk [] s { s with votes := { s.votes with stopCfg := s.votes.stopCfg.write (uAt p 0 1 + 8 * uAt p 1 1) } }) ∧
  (∀ (c : Cmd) (s : State), admitted 0x0C03 2 0 none c s → uAt (prmOf c) 0 1 < 8 → uAt (prmOf c) 1 1 < 8 → stopInForce s = false → answers (.stopConfig c) c 0x0C03 stBadState [] s s)

/-- What the Vexlink events do: ports, blocks, delay, time, floods and reliable messages (13 R468 to R482). -/
def Obligations.VexlinkEvents : Prop :=
  (∀ (n : Nat) (s : State), (vxOf s n).st = .training → exec (.symbolLock n) s = .next (settle (setVx n (fun p => { p with st := .measuring, exchanges := 0, delays := [] }) s))) ∧
  (∀ (n cause : Nat) (s : State), n < s.net.vx.length → ((vxOf s n).st = .measuring ∨ (vxOf s n).st = .up) →
    reaches (.vxLinkDown n cause) s (fun u => (vxOf u n).st = .training ∧ (vxOf u n).hops = none ∧ (∀ k, k ≠ n → vxOf u k = vxOf s k))) ∧
  (∀ (n : Nat) (m : VxMsg) (s s1 : State), stopAccept s n = true → vxFlood n m (stopForward s) s = (true, s1) → stopActive s1 3 = false → 6 ≤ s1.stop.active.length →
    reaches (.stopMessage n m) s (fun u => u.stop.st = .inForce ∧ stopActive u 3 = true ∧ u.stop.vexAt = dtNow s1 ∧ u.net.relOut = s1.net.relOut)) ∧
  (∀ (n : Nat) (m : VxMsg) (s : State), stopAccept s n = false → exec (.stopMessage n m) s = .next (settle s)) ∧
  (∀ (n : Nat) (m : VxMsg) (s s1 : State), vxFlood n m [0, 1, 2] s = (true, s1) → s1.net.group ≠ 1 → isFollower s1 = true → m.origin ≠ rootId s1 →
    reaches (.poseMessage n m) s (fun u => u.net.poseDiscarded = s1.net.poseDiscarded + 1 ∧ u.pose = s1.pose ∧ u.cell = s1.cell)) ∧
  (∀ (n : Nat) (m : VxMsg) (s s1 : State) (t0 : Nat), vxFlood n m [0, 1, 2] s = (true, s1) → s1.net.group ≠ 1 → isFollower s1 = true → m.origin = rootId s1 → m.body.length = 112 →
    s1.time.lastBoundary = some t0 → s1.pose.refNow = false → dtNow s1 ≤ t0 + tideP s1 / 10 → uAt m.body 96 4 = (if jobId s1 = 0 then 0 else s1.time.tideNo) →
    uAt m.body 100 1 = s1.votes.tide.value → uAt m.body 104 4 = jobId s1 →
    reaches (.poseMessage n m) s (fun u => u.pose.refNow = true ∧ u.pose.ref.map (·.tRef) = some (refOf m.body).tRef ∧ u.net.poseDiscarded = s1.net.poseDiscarded)) ∧
  (∀ (n frac : Nat) (m : VxMsg) (s : State), (vxOf s n).st = .up → n < s.net.vx.length → m.origin ≠ ownOrigin → s.net.group = 2 → uAt m.body 16 4 ≠ rootId s →
    reaches (.timeMessage n m frac) s (fun u => u.net.timeDiscarded = s.net.timeDiscarded + 1 ∧ (vxOf u n).hops = none ∧ u.time = s.time)) ∧
  (∀ (n frac : Nat) (m : VxMsg) (s : State), (vxOf s n).st = .up → m.origin = ownOrigin → exec (.timeMessage n m frac) s = .next (settle (idClash n s))) ∧
  (∀ (n frac : Nat) (m : VxMsg) (s : State), (vxOf s n).st = .up → m.origin ≠ ownOrigin → n < 3 → n < s.net.vx.length → s.net.group = 2 → uAt m.body 16 4 = rootId s → (vxOf s n).timeArr = none →
    reaches (.timeMessage n m frac) s (fun u => (vxOf u n).hops = some (uAt m.body 20 1) ∧ u.net.timeDiscarded = s.net.timeDiscarded ∧ u.time.a.theta = s.time.a.theta ∧
      (u.net.upstream = some n → u.time.taiUtc = uAt m.body 22 1 ∧ u.time.leapPending = bit (uAt m.body 23 1) 0))) ∧
  (∀ (n origin frac : Nat) (s : State), (vxOf s n).st ≠ .off → origin ≠ ownOrigin →
    exec (.delayReq n origin frac) s = .next (settle (vxSend n { type := 5, origin := ownOrigin, body := dtBytes (captureAt frac s) ++ dtBytes (captureAt frac s) } (setVx n (fun p => { p with neighbour := some origin }) s)))) ∧
  (∀ (n frac t1 : Nat) (m : VxMsg) (s : State), n < s.net.vx.length → (vxOf s n).st = .measuring → m.origin ≠ ownOrigin → (vxOf s n).t1 = some t1 → (vxOf s n).exchanges = 7 →
    reaches (.delayResp n m frac) s (fun u => (vxOf u n).st = .up ∧ (vxOf u n).exchanges = 8 ∧ (vxOf u n).neighbour = some m.origin ∧ (vxOf u n).t1 = none)) ∧
  (∀ (n frac t1 : Nat) (m : VxMsg) (s : State), n < s.net.vx.length → (vxOf s n).st = .training → m.origin ≠ ownOrigin → (vxOf s n).t1 = some t1 →
    reaches (.delayResp n m frac) s (fun u => (vxOf u n).st = .training ∧
      (vxOf u n).delays = (((((captureAt frac s : Int) - t1) - ((dtAt m.body 12 : Int) - dtAt m.body 0)) / 2 - s.net.asym.getD n 0) :: (vxOf s n).delays).take 8)) ∧
  (∀ (n o ty q : Nat) (m : VxMsg) (s : State), m.body = le 4 o ++ le 1 ty ++ [0] ++ le 2 q → m.origin ≠ ownOrigin → o < 2 ^ 32 → ty < 256 → q < 65536 →
    reaches (.ackMessage n m) s (fun u => (∀ r, r ∈ u.net.relOut ↔ r ∈ s.net.relOut ∧ ¬ (r.port = n ∧ r.msg.origin = o ∧ r.msg.type = ty ∧ r.msg.seq = q)))) ∧
  (∀ (n : Nat) (m : VxMsg) (s s1 : State), vxFlood n m (vxUp s) s = (true, s1) → m.ackReq = false → exec (.coverageDelta n m) s = .next (settle (takeDelta m s1))) ∧
  (∀ (n : Nat) (m : VxMsg) (s s1 : State), vxFlood n m (vxUp s) s = (true, s1) → m.ackReq = false → exec (.hostMsg n m) s = .next (settle (deliverHost m s1))) ∧
  (∀ (n : Nat) (m : VxMsg) (s s1 s2 : State) (ms : List VxMsg), vxFlood n m (vxUp s) s = (true, s1) → m.ackReq = true → relAccept m s1 = (ms, s2) →
    exec (.hostMsg n m) s = .next (settle (ms.foldl (fun st x => deliverHost x st) s2))) ∧
  (∀ (n : Nat) (m : VxMsg) (s s1 : State), vxFlood n m (vxUp s) s = (true, s1) → exec (.corrMessage n m) s = .next (settle (sendS1 0x02 m.body s1))) ∧
  (∀ (n : Nat) (s : State), n < s.net.vx.length → (vxOf s n).st ≠ .off →
    reaches (.delayReqTimer n) s (fun u => (vxOf u n).t1 = some (captureAt 0 u) ∧ (vxOf u n).reqCyc = u.time.cyc ∧ (vxOf s n).reqCyc + cycMs 100 ≤ u.time.cyc ∧ (vxOf u n).st = (vxOf s n).st)) ∧
  (∀ (s : State), s.net.group = 0 → reaches .timeSendTimer s (fun u => u.net = s.net ∧ s.time.cyc ≤ u.time.cyc)) ∧
  (∀ (n : Nat) (s s1 : State), s.net.group = 1 → 3 ≤ s.net.vx.length → n < 3 → (vxOf s n).st = .up → runTo (timeSendAt s) s = s1 →
    reaches .timeSendTimer s (fun u => (vxOf u n).timeDep = captureAt 0 s1 ∧ u.net.upstream = s.net.upstream)) ∧
  (∀ (n ix : Nat) (r : RelOut) (s : State), (s.net.relOut.filter (fun r => r.port == n))[ix]? = some r → s.net.retryMax ≤ r.tries →
    reaches (.reliableRetry n ix) s (fun u => r ∉ u.net.relOut ∧ (∀ x ∈ u.net.relOut, x ∈ s.net.relOut))) ∧
  (∀ (n ix : Nat) (r : RelOut) (s : State), (s.net.relOut.filter (fun r => r.port == n))[ix]? = some r → r.tries < s.net.retryMax →
    reaches (.reliableRetry n ix) s (fun u => { r with tries := r.tries + 1, cyc := u.time.cyc } ∈ u.net.relOut ∧ u.net.relOut.length = s.net.relOut.length)) ∧
  (∀ (o ty c : Nat) (r : RelIn) (m : VxMsg) (s : State), ty = 8 → s.net.relIn = [r] → r.origin = o → r.type = ty → r.gapFrom = some c → r.held = [m] → 0 < diffN 16 m.seq r.next → m.seq < 65536 → r.next < 65536 →
    reaches (.vxMsgLost o ty) s (fun u => u.net.relIn.map (fun x => (x.next, x.held.length, x.gapFrom)) = [((m.seq + 1) % 65536, 0, none)])) ∧
  (∀ (p : Packet) (s s1 : State) (b : List Byte), takeS0 5 s = some (p, s1) → p.payload.drop 4 = b → uAt p.payload 0 1 ≤ 1 → zeros p.payload 1 3 = true → 2 ≤ uAt b 0 1 → uAt b 0 1 ≤ 0x7F →
    zeros b 1 3 = true → 5 ≤ b.length → b.length ≤ 1028 → exec .vxMsgPacket s = .next (settle (vxOriginate (vxUp s1) 8 (uAt p.payload 0 1 == 1) b s1))) ∧
  (∀ (n : Nat) (b : List Byte) (s : State), (vxOf s n).st = .up → n < s.net.vx.length → b.length = 32 → uAt b 30 2 ≠ crc16 (b.take 30) →
    reaches (.vexlinkBlock n b) s (fun u => (vxOf u n).discarded = ((vxOf s n).discarded + 1) % 2 ^ 32 ∧ (vxOf u n).rx = (if uAt b 0 1 / 32 = 0 then (vxOf s n).rx else (vxOf s n).rx.set (uAt b 0 1 / 32 - 1) none) ∧ u.net.ready = s.net.ready)) ∧
  (∀ (n : Nat) (b : List Byte) (s : State), (vxOf s n).st = .up → n < s.net.vx.length → blockOk b = true → 3 ≤ uAt b 0 1 / 32 → bit (uAt b 0 1) 4 = true → bit (uAt b 0 1) 3 = false →
    exec (.vexlinkBlock n b) s = .next (settle (setVx n (fun p => { p with rx := p.rx.set (uAt b 0 1 / 32 - 1) (some { bytes := (b.drop 2).take (uAt b 1 1), fwd := false }) }) s)))

/-- What the Ethernet rows do (13 R485 to R490, R497): frames, gates, collisions, configuration. -/
def Obligations.EthernetRows : Prop :=
  (∀ (n frac : Nat) (f : List Byte) (s : State), (ethOf s n).enabled = true → (ethOf s n).link = true → 60 ≤ f.length → f.length ≤ 1518 → ethAccepts (ethOf s n) (decide (0 < (ptpOf s n).st)) f = true →
    (isPtp f = false ∨ (ptpOf s n).st = 0) →
    exec (.ethFrameRx n (f ++ ethFcs f) frac) s = .next (settle (sendS1 0x06 (le 1 n ++ le 1 (classOf f) ++ [0, 0] ++ dtBytes ((1024 * (dtNow s / 1024 + frac % 128) - ns1 * (ethOf s n).rxLat) / 2 ^ 14 * 2 ^ 14) ++ f)
      (setEth n (fun p => { p with received := p.received + 1 }) s)))) ∧
  (∀ (n frac : Nat) (f : List Byte) (s : State), (ethOf s n).enabled = true → (ethOf s n).link = true → 60 ≤ f.length → f.length ≤ 1518 → ethAccepts (ethOf s n) (decide (0 < (ptpOf s n).st)) f = false →
    exec (.ethFrameRx n (f ++ ethFcs f) frac) s = .next (settle (setEth n (fun p => { p with rejects := p.rejects + 1 }) s))) ∧
  (∀ (n frac : Nat) (w : List Byte) (s : State), w.length ≤ 1522 → w.drop (w.length - 4) ≠ ethFcs (w.take (w.length - 4)) → exec (.ethFrameRx n w frac) s = .next (settle s)) ∧
  (∀ (q : Packet) (f : List Byte) (n : Nat) (s s1 : State), takeS0 6 s = some (q, s1) → uAt q.payload 0 1 = n → n ≤ 1 → q.payload.drop 8 = f → (ethOf s1 n).enabled = true → (ethOf s1 n).link = true →
    14 ≤ f.length → f.length ≤ 1518 → uAt q.payload 2 1 = 1 → zeros q.payload 3 1 = true → fitsSomeWindow (ethOf s1 n) (classOf f) (ethTime (ethOf s1 n) f) = true →
    exec .ethPacket s = .next (settle (setEth n (fun p => { p with queues := lmod p.queues (classOf f) (· ++ [{ bytes := f, token := some (uAt q.payload 4 4) }]) }) s1))) ∧
  (∀ (n cl : Nat) (f : EthFrame) (s : State), (ethOf s n).enabled = true → (ethOf s n).link = true → (ethOf s n).backoff = none → (n = 1 → s.sec.drbg = true) → (ethOf s n).txEnd ≤ s.time.cyc → gateSweep n s = s → ethNext (ethOf s n) (dtNow s) = some (cl, f) →
    f.token = none → exec (.ethFrameTx n) s = .next (settle (emit .ethernet n (dtNow s) (ethWire f.bytes) (setEth n (fun p => { p with
      queues := lmod p.queues cl (·.drop 1), sent := p.sent + 1, attempts := 0, txEnd := s.time.cyc + ethTime p f.bytes / (2 * ns1) }) s)))) ∧
  (∀ (n e : Nat) (g : GateList) (s : State), n < s.net.eth.length → (ethOf s n).gates = some g → (ethOf s n).gateEnd = some e → (ethOf s n).nextGates = none → dtNow s ≤ e → e < dtNow s + ns1 * cycleNs g.entries →
    (ethOf s n).gateIx + 1 < g.entries.length →
    reaches (.ethGateCycle n) s (fun u => (ethOf u n).gateIx = (ethOf s n).gateIx + 1 ∧ (ethOf u n).gateEnd = some (e + ns1 * (g.entries.getD ((ethOf s n).gateIx + 1) (0, 0)).2) ∧ (ethOf u n).gates = some g)) ∧
  (∀ (bits cl : Nat) (f : EthFrame) (s : State), 1 < s.net.eth.length → ethNext (ethOf s 1) (dtNow s) = some (cl, f) → 512 < bits →
    reaches (.ethCollision bits) s (fun u => (ethOf u 1).collisions = (ethOf s 1).collisions + 1 ∧ (ethOf u 1).late = (ethOf s 1).late + 1 ∧ (ethOf u 1).excessive = (ethOf s 1).excessive ∧
      (ethOf u 1).queues = lmod (ethOf s 1).queues cl (·.drop 1) ∧ (ethOf u 1).attempts = 0)) ∧
  (∀ (bits cl : Nat) (f : EthFrame) (s : State), 1 < s.net.eth.length → ethNext (ethOf s 1) (dtNow s) = some (cl, f) → bits ≤ 512 → (ethOf s 1).attempts < 15 → s.sec.drbg = true →
    reaches (.ethCollision bits) s (fun u => (ethOf u 1).attempts = (ethOf s 1).attempts + 1 ∧ (ethOf u 1).queues = (ethOf s 1).queues ∧
      ∃ r, r < 2 ^ min ((ethOf s 1).attempts + 1) 10 ∧ (ethOf u 1).backoff = some (s.time.cyc + 25600 * r))) ∧
  (∀ (c : Nat) (s : State), 1 < s.net.eth.length → (ethOf s 1).backoff = some c → reaches .ethBackoffExpiry s (fun u => (ethOf u 1).backoff = none ∧ c ≤ u.time.cyc)) ∧
  (∀ (n speed : Nat) (up : Bool) (s : State), n ≤ 1 → n < s.net.eth.length → (ethOf s n).link ≠ up → reaches (.ethLink n up speed) s (fun u => ethOf u n = { ethOf s n with link := up })) ∧
  (∀ (c : Cmd) (s : State) (p : List Byte) (n : Nat), admitted 0x0D03 16 0 none c s → prmOf c = p → uAt p 0 1 = n → n ≤ 1 → uAt p 2 1 ≤ 7 → zeros p 3 1 = true → zeros p 10 2 = true →
    (n = 0 → uAt p 1 1 = 1 ∨ uAt p 1 1 = 2) → (n = 1 → uAt p 1 1 = 0) →
    answers (.netEthConfig c) c 0x0D03 stOk [] s (setEth n (fun q => { q with
      enabled := bit (uAt p 2 1) 0, broadcast := bit (uAt p 2 1) 1, promisc := bit (uAt p 2 1) 2, speed := uAt p 1 1, mac := (p.drop 4).take 6, txLat := uAt p 12 2, rxLat := uAt p 14 2 }) s)) ∧
  (∀ (c : Cmd) (s : State), admitted 0x0D03 16 0 none c s → uAt (prmOf c) 0 1 = 1 → uAt (prmOf c) 1 1 ≠ 0 → answers (.netEthConfig c) c 0x0D03 stBadParam [] s s) ∧
  (∀ (c : Cmd) (s : State), admitted 0x0D04 12 0 none c s → uAt (prmOf c) 0 1 ≤ 1 → zeros (prmOf c) 1 3 = true →
    answers (.netEthHashSet c) c 0x0D04 stOk [] s (setEth (uAt (prmOf c) 0 1) (fun q => { q with hash := uAt (prmOf c) 4 8 }) s)) ∧
  (∀ (c : Cmd) (s : State) (p : List Byte), admitted 0x0D05 9 0 none c s → prmOf c = p → uAt p 0 1 ≤ 1 → uAt p 2 1 = 1 → zeros p 3 1 = true → uAt p 1 1 ≤ 63 → uAt p 5 4 ≠ 0 →
    answers (.netEthGateLoad c) c 0x0D05 stOk [] s (setEth (uAt p 0 1) (fun q => { q with loaded := q.loaded.take (uAt p 1 1) ++ [(uAt p 4 1, uAt p 5 4)] ++ q.loaded.drop (uAt p 1 1 + 1) }) s)) ∧
  (∀ (c : Cmd) (s : State), admitted 0x0D06 16 0 none c s → uAt (prmOf c) 0 1 ≤ 1 → uAt (prmOf c) 1 1 = 0 → zeros (prmOf c) 2 2 = true → dtOk (prmOf c) 4 = true →
    answers (.netEthGateCommit c) c 0x0D06 stOk [] s (setEth (uAt (prmOf c) 0 1) (fun q => { q with gates := none, nextGates := none, gateEnd := none, gateIx := 0 }) s)) ∧
  (∀ (c : Cmd) (s : State) (p : List Byte), admitted 0x0D06 16 0 none c s → prmOf c = p → uAt p 0 1 ≤ 1 → 1 ≤ uAt p 1 1 → uAt p 1 1 ≤ 64 → zeros p 2 2 = true → dtOk p 4 = true →
    1000000000 < cycleNs ((ethOf s (uAt p 0 1)).loaded.take (uAt p 1 1)) → answers (.netEthGateCommit c) c 0x0D06 0x0D81 [] s s)

/-- What the IEEE 1588 rows do (13 R490 to R493, R497). -/
def Obligations.PtpRows : Prop :=
  (∀ (n frac : Nat) (m : PtpMsg) (s : State), n ≤ 1 → n < s.net.ptp.length → (ptpOf s n).st = 1 → m.domain = (ptpOf s n).domain → m.sdoId = (ptpOf s n).sdoId → m.type = 0 → m.twoStep = true →
    reaches (.ptpMessage n m frac) s (fun u => (ptpOf u n).sync = some (m.seq, ptpClock n frac s, dtNow s, m.correction) ∧ u.time = s.time)) ∧
  (∀ (n frac t3 : Nat) (d : Int) (m : PtpMsg) (s : State), n ≤ 1 → n < s.net.ptp.length → (ptpOf s n).st = 1 → m.domain = (ptpOf s n).domain → m.sdoId = (ptpOf s n).sdoId → m.type = 9 →
    (ptpOf s n).req = some (t3, m.seq) → (ptpOf s n).toUs = some d →
    reaches (.ptpMessage n m frac) s (fun u => (ptpOf u n).mpd = (d + ((m.time : Int) - t3 - m.correction)) / 2 ∧ (ptpOf u n).req = none)) ∧
  (∀ (n frac : Nat) (m : PtpMsg) (s : State), n ≤ 1 → m.domain ≠ (ptpOf s n).domain → exec (.ptpMessage n m frac) s = .next (settle s)) ∧
  (∀ (n : Nat) (s : State), n < s.net.ptp.length → (ptpOf s n).st = 1 → (ptpOf s n).annOk = true →
    reaches (.ptpAnnounceTimeout n) s (fun u => ptpOf u n = { ptpOf s n with annOk := false } ∧ (ptpOf s n).annCyc + 3 * log2Cyc (ptpOf s n).logAnn ≤ u.time.cyc)) ∧
  (∀ (n : Nat) (s : State), n < s.net.ptp.length → (ptpOf s n).st = 2 →
    reaches (.ptpSyncSend n) s (fun u => (ptpOf u n).seq = ((ptpOf s n).seq + 1) % 65536 ∧ (ptpOf u n).syncAt = dtNow u ∧ (ptpOf u n).st = 2)) ∧
  (∀ (n : Nat) (s : State), n < s.net.ptp.length → (ptpOf s n).st = 1 →
    reaches (.ptpDelayReqSend n) s (fun u => (ptpOf u n).seq = ((ptpOf s n).seq + 1) % 65536 ∧ (ptpOf u n).reqAt = dtNow u ∧ (ptpOf u n).req = some (ptpClock n 0 u, ((ptpOf s n).seq + 1) % 65536) ∧
      (ptpOf u n).mpd = (ptpOf s n).mpd)) ∧
  (∀ (c : Cmd) (s : State) (p : List Byte) (n : Nat), admitted 0x0D07 16 0 none c s → prmOf c = p → uAt p 0 1 = n → n ≤ 1 → n < s.net.ptp.length → uAt p 1 1 ≤ 2 → uAt p 2 1 ≤ 1 → uAt p 3 1 ≤ 127 →
    uAt p 4 2 ≤ 0xFFF → -4 ≤ iAt p 6 1 → iAt p 6 1 ≤ 1 → -4 ≤ iAt p 7 1 → iAt p 7 1 ≤ 4 → 0 ≤ iAt p 8 1 → iAt p 8 1 ≤ 4 → zeros p 9 3 = true → uAt p 12 4 ≤ 10000 → domFrom s (4 + n) = none →
    oks (.netPtpConfig c) c 0x0D07 s (fun u => (ptpOf u n).configured = true ∧ (ptpOf u n).st = uAt p 1 1 ∧ (ptpOf u n).p2p = (uAt p 2 1 == 1) ∧ (ptpOf u n).domain = uAt p 3 1 ∧
      (ptpOf u n).sdoId = uAt p 4 2 ∧ (ptpOf u n).logSync = iAt p 6 1 ∧ (ptpOf u n).logDelay = iAt p 7 1 ∧ (ptpOf u n).logAnn = iAt p 8 1 ∧ (ptpOf u n).linkBound = uAt p 12 4)) ∧
  (∀ (c : Cmd) (s : State) (p : List Byte) (k : Nat), admitted 0x0D07 16 0 none c s → prmOf c = p → uAt p 0 1 ≤ 1 → uAt p 1 1 = 2 → uAt p 2 1 ≤ 1 → uAt p 3 1 ≤ 127 → uAt p 4 2 ≤ 0xFFF →
    -4 ≤ iAt p 6 1 → iAt p 6 1 ≤ 1 → -4 ≤ iAt p 7 1 → iAt p 7 1 ≤ 4 → 0 ≤ iAt p 8 1 → iAt p 8 1 ≤ 4 → zeros p 9 3 = true → uAt p 12 4 ≤ 10000 → domFrom s (4 + uAt p 0 1) = some k →
    ptpKpBad (uAt p 0 1) (iAt p 6 1) s = false → answers (.netPtpConfig c) c 0x0D07 stBadState [] s s)

/-- What the CAN rows do (13 R494 to R497). The other NET commands (13 R474, R485, R497): the group setting, MDIO, and the two status reads. -/
def Obligations.CanAndNetRows : Prop :=
    ((∀ (n id : Nat) (ide fd rtr : Bool) (d : List Byte) (s : State), n < s.net.can.length → (canOf s n).enabled = true → (canOf s n).st = 0 → (canOf s n).tec = 0 → (canOf s n).recv = 0 → (fd = true → (canOf s n).fd = true) →
    canAccepts (canOf s n) ide id = false → reaches (.canFrameRx n ide fd rtr id d) s (fun u => canOf u n = canOf s n ∧ u.harbour.s1.packets = s.harbour.s1.packets)) ∧
  (∀ (n id : Nat) (ide fd rtr : Bool) (d : List Byte) (s : State), n < s.net.can.length → (canOf s n).enabled = true → (canOf s n).st = 0 → (canOf s n).tec = 0 → (canOf s n).recv = 0 → (fd = true → (canOf s n).fd = true) →
    canAccepts (canOf s n) ide id = true → (canOf s n).fifo = [] → d.length ≤ 64 → s1Room (canBytes n { id := id, ide := ide, fd := fd, rtr := rtr, data := d, dt := capTime 0 s }) s = false →
    reaches (.canFrameRx n ide fd rtr id d) s (fun u => (canOf u n).fifo = [{ id := id, ide := ide, fd := fd, rtr := rtr, data := d, dt := capTime 0 s }] ∧ u.harbour.s1.packets = s.harbour.s1.packets)) ∧
  (∀ (n : Nat) (q : Packet) (s s1 : State), takeS0 8 s = some (q, s1) → uAt q.payload 0 1 = n → n ≤ 1 → (canOf s1 n).enabled = true → (canOf s1 n).listen = false → (canOf s1 n).tx.length < 16 →
    uAt q.payload 1 1 = 0 → uAt q.payload 2 1 ≤ 8 → zeros q.payload 3 1 = true → uAt q.payload 4 4 < 2 ^ 11 →
    exec .canPacket s = .next (settle (setCan n (fun c => { c with tx := c.tx ++ [{ id := uAt q.payload 4 4, ide := false, fd := false, rtr := false, data := (q.payload.drop 12).take (uAt q.payload 2 1), token := none }] }) s1))) ∧
  (∀ (n : Nat) (f : CanFrame) (s : State), n < s.net.can.length → (canOf s n).enabled = true → (canOf s n).listen = false → (canOf s n).st = 0 → (canOf s n).tec ≤ 128 → (canOf s n).recv < 128 →
    canNext (canOf s n).tx = some f → f.token = none →
    reaches (.canFrameTx n) s (fun u => (canOf u n).tx = (canOf s n).tx.erase f ∧ (canOf u n).tec = (canOf s n).tec - 1 ∧ (canOf u n).st = 0)) ∧
  (∀ (n : Nat) (severe : Bool) (s : State), n < s.net.can.length → (canOf s n).enabled = true → (canOf s n).st = 1 → 248 ≤ (canOf s n).tec →
    reaches (.canBusError n true severe) s (fun u => (canOf u n).st = 2 ∧ (canOf u n).tec = 256)) ∧
  (∀ (n : Nat) (severe : Bool) (s : State), n < s.net.can.length → (canOf s n).enabled = true → (canOf s n).st = 0 → (canOf s n).tec < 128 → (canOf s n).recv < 120 →
    reaches (.canBusError n false severe) s (fun u => (canOf u n).st = 0 ∧ (canOf u n).recv = (canOf s n).recv + (if severe then 8 else 1) ∧ (canOf u n).tec = (canOf s n).tec)) ∧
  (∀ (n : Nat) (s : State), (canOf s n).st = 2 → (canOf s n).auto = true → exec (.canAutoRecovery n) s = .next (settle (setCan n (fun q => { q with st := 0, tec := 0, recv := 0 }) s))) ∧
  (∀ (n : Nat) (s : State), (canOf s n).auto = false → exec (.canAutoRecovery n) s = .next (settle s)) ∧
  (∀ (c : Cmd) (s : State) (p : List Byte), admitted 0x0D08 13 0 none c s → prmOf c = p → uAt p 0 1 ≤ 1 → uAt p 1 1 ≤ 15 → bit (uAt p 1 1) 0 = true → zeros p 2 2 = true → uAt p 4 1 ≠ 0 → 20000 ≤ canRate p 4 →
    canRate p 4 ≤ 1000000 → bit (uAt p 1 1) 1 = false →
    answers (.netCanConfig c) c 0x0D08 stOk [] s (setCan (uAt p 0 1) (fun q => { q with enabled := true, fd := false, listen := bit (uAt p 1 1) 2, auto := bit (uAt p 1 1) 3, timing := (p.drop 4).take 9, tx := q.tx }) s)) ∧
  (∀ (c : Cmd) (s : State) (p : List Byte), admitted 0x0D09 12 0 none c s → prmOf c = p → uAt p 0 1 ≤ 1 → uAt p 1 1 ≤ 31 → uAt p 2 1 ≤ 3 → zeros p 3 1 = true →
    answers (.netCanFilterSet c) c 0x0D09 stOk [] s (setCan (uAt p 0 1) (fun q => { q with filters := q.filters.set (uAt p 1 1) (bit (uAt p 2 1) 0, bit (uAt p 2 1) 1, uAt p 4 4, uAt p 8 4) }) s)) ∧
  (∀ (c : Cmd) (s : State), admitted 0x0D0A 1 0 none c s → uAt (prmOf c) 0 1 ≤ 1 → (canOf s (uAt (prmOf c) 0 1)).st = 2 →
    answers (.netCanRecover c) c 0x0D0A stOk [] s (setCan (uAt (prmOf c) 0 1) (fun q => { q with st := 0, tec := 0, recv := 0 }) s)) ∧
  (∀ (c : Cmd) (s : State), admitted 0x0D0A 1 0 none c s → uAt (prmOf c) 0 1 ≤ 1 → (canOf s (uAt (prmOf c) 0 1)).st ≠ 2 → answers (.netCanRecover c) c 0x0D0A stBadState [] s s)) ∧
  ((∀ (c : Cmd) (s s1 : State) (p : List Byte), admitted 0x0D01 20 0 none c s → prmOf c = p → uAt p 0 1 ≤ 7 → uAt p 1 1 ≤ 2 → uAt p 2 1 ≤ 15 → zeros p 3 1 = true → (uAt p 1 1 ≠ 2 → zeros p 4 16 = true) →
    jobBusy s = false → journalPut { type := 1, key := settingKey 3 0, payload := (p.drop 1).take 19, prio := 5, schema := s.update.schema } s = (true, s1) →
    oks (.netVxConfig c) c 0x0D01 s (fun u => u.net.group = uAt p 1 1 ∧ u.net.retryMax = uAt p 2 1 ∧ u.net.root = (p.drop 4).take 16 ∧ u.net.upstream = none ∧
      (∀ n, n < 3 → (bit (uAt p 0 1) n = false → (vxOf u n).st = .off) ∧ (bit (uAt p 0 1) n = true → (vxOf s1 n).st = .off → (vxOf u n).st = .training)))) ∧
  (∀ (c : Cmd) (s : State), admitted 0x0D01 20 0 none c s → uAt (prmOf c) 0 1 ≤ 7 → uAt (prmOf c) 1 1 = 1 → uAt (prmOf c) 2 1 ≤ 15 → zeros (prmOf c) 3 1 = true → zeros (prmOf c) 4 16 = true →
    jobBusy s = true → answers (.netVxConfig c) c 0x0D01 stBadState [] s s) ∧
  (∀ (c : Cmd) (s : State), admitted 0x0D02 0 56 none c s → reads (.netVxStatus c) c 0x0D02 (netVxStatusBytes s) s) ∧
  (∀ (c : Cmd) (s : State) (d : Nat), admitted 0x0D0B 8 2 none c s → (uAt (prmOf c) 0 1 = 0 ∨ uAt (prmOf c) 0 1 = 2) → uAt (prmOf c) 1 1 ≤ 31 → uAt (prmOf c) 2 1 ≤ 31 → zeros (prmOf c) 3 1 = true →
    uAt (prmOf c) 4 2 ≤ 31 → answers (.netMdio c (some d)) c 0x0D0B stOk (le 2 d) s (emit .mdio 0 0 ((prmOf c).take 8) s)) ∧
  (∀ (c : Cmd) (s : State), admitted 0x0D0B 8 2 none c s → (uAt (prmOf c) 0 1 = 0 ∨ uAt (prmOf c) 0 1 = 2) → uAt (prmOf c) 1 1 ≤ 31 → uAt (prmOf c) 2 1 ≤ 31 → zeros (prmOf c) 3 1 = true →
    uAt (prmOf c) 4 2 ≤ 31 → answers (.netMdio c none) c 0x0D0B stTimeout [] s (emit .mdio 0 0 ((prmOf c).take 8) s)) ∧
  (∀ (c : Cmd) (s : State), admitted 0x0D0C 0 80 none c s → reads (.netStatus c) c 0x0D0C (netStatusBytes s) s))

/-- What Harbour's link, mailboxes and streams do (14 R502, R514, R518, R520, R523 to R528, R532). -/
def Obligations.HarbourEvents : Prop :=
  (∀ (rate lanes : Nat) (s : State), s.harbour.quadSpi = false →
    reaches (.pcieLinkChange false rate lanes) s (fun u => u.harbour.linkUp = false ∧ u.harbour.intMask = 0xFFFFFFFF ∧ u.harbour.s0.words = [] ∧ u.harbour.s0.packets = s.harbour.s0.packets ∧
      u.harbour.credit = s.harbour.credit ∧ u.harbour.mbxs.length = s.harbour.mbxs.length ∧ (∀ b ∈ u.harbour.mbxs, b.cfg = 6 ∧ ∀ h ∈ b.held, h.discard = true))) ∧
  (∀ (up : Bool) (rate lanes : Nat) (s : State), s.harbour.quadSpi = true → exec (.pcieLinkChange up rate lanes) s = .next (settle s)) ∧
  (∀ (n k : Nat) (p : List Byte) (s : State), s.harbour.pairPending = none → n ≤ 15 → n < s.harbour.mbxs.length → k < 64 → s.harbour.ready = true → s.harbour.quadSpi = false → bit (mbxOf s n).cfg.toNat 31 = true →
    (mbxOf s n).faulted = false → k < (mbxOf s n).slots → (mbxOf s n).held = [] → 0 < s.harbour.credit → opcodeDefined (uAt p 0 2) = true →
    reaches (.mbxDoorbell n k (some p)) s (fun u => (mbxOf u n).held = [holdCommand (mbxOf s n) k p] ∧ u.harbour.credit = s.harbour.credit - 1 ∧ (mbxOf u n).released = (mbxOf s n).released ∧ u.mem = s.mem)) ∧
  (∀ (n k : Nat) (p : List Byte) (s : State), s.harbour.pairPending = none → n ≤ 15 → n < s.harbour.mbxs.length → k < 64 → s.harbour.ready = true → s.harbour.quadSpi = false → bit (mbxOf s n).cfg.toNat 31 = true →
    (mbxOf s n).faulted = false → k < (mbxOf s n).slots → (mbxOf s n).held = [] → 0 < s.harbour.credit → s.harbour.credit ≤ 64 → opcodeDefined (uAt p 0 2) = false →
    reaches (.mbxDoorbell n k (some p)) s (fun u => (mbxOf u n).held = [] ∧ u.harbour.credit = s.harbour.credit ∧ (mbxOf u n).released = ((mbxOf s n).released + 1) % 65536)) ∧
  (∀ (n k : Nat) (r : Option (List Byte)) (s : State), s.harbour.pairPending = none → n ≤ 15 → n < s.harbour.mbxs.length → k < 64 → s.harbour.ready = true → bit (mbxOf s n).cfg.toNat 31 = true →
    (mbxOf s n).faulted = false → k < (mbxOf s n).slots → holdsSlot (mbxOf s n) k = false → s.harbour.credit = 0 →
    reaches (.mbxDoorbell n k r) s (fun u => u.harbour.refused = (s.harbour.refused + 1) % 2 ^ 32 ∧ u.harbour.refusedTotal = (s.harbour.refusedTotal + 1) % 2 ^ 32)) ∧
  (∀ (n k : Nat) (r : Option (List Byte)) (s : State), s.harbour.pairPending = none → n ≤ 15 → s.harbour.ready = false →
    reaches (.mbxDoorbell n k r) s (fun u => u.harbour.credit = s.harbour.credit ∧ u.harbour.refused = s.harbour.refused ∧ (mbxOf u n).held = (mbxOf s n).held ∧ u.mem = s.mem)) ∧
  (∀ (n : Nat) (v : Word) (s : State), s.harbour.pairPending = none → s.harbour.ready = true → n < s.harbour.mbxs.length →
    reaches (.mbxAck n v) s (fun u => mbxOf u n = { mbxOf s n with ack := v.toNat % 65536 } ∧ u.mem = s.mem)) ∧
  (∀ (v : Word) (s : State), s.harbour.pairPending = none → s.harbour.ready = true → reaches (.evtAck v) s (fun u => u.harbour.evtAck = v.toNat % 65536 ∧ u.recorder = s.recorder)) ∧
  (∀ (n : Nat) (v : Word) (s : State), s.harbour.pairPending = none → s.harbour.ready = true → exec (.mbxCfgWrite n v) s = .next (settle (setMbx n (mbxCfg n v s.harbour.quadSpi) s))) ∧
  (∀ (v : Word) (s : State), s.harbour.pairPending = none → s.harbour.ready = true → s.harbour.s0.en = true → s.harbour.s0.overrun = false → 4 ≤ s0Free s.harbour.s0 →
    reaches (.sData0 v) s (fun u => u.harbour.s0.words = s.harbour.s0.words ++ [v] ∧ u.harbour.s0.packets = s.harbour.s0.packets ∧ u.harbour.s0.drops = s.harbour.s0.drops)) ∧
  (∀ (v : Word) (s : State), s.harbour.pairPending = none → s.harbour.ready = true → s.harbour.s0.en = true → s.harbour.s0.overrun = false → s0Free s.harbour.s0 < 4 →
    reaches (.sData0 v) s (fun u => u.harbour.s0.words = [] ∧ u.harbour.s0.overrun = true ∧ u.harbour.s0.drops = (s.harbour.s0.drops + 1) % 2 ^ 32 ∧ u.harbour.s0.packets = s.harbour.s0.packets)) ∧
  (∀ (v : Word) (s : State) (b : List Byte), s.harbour.pairPending = none → s.harbour.ready = true → s.harbour.s0.en = true → s.harbour.s0.overrun = false → s.harbour.s0.words ≠ [] → 4 ≤ v.toNat % 2 ^ 24 →
    s.harbour.s0.words.length - 1 = (v.toNat % 2 ^ 24 + 3) / 4 → b = ((s.harbour.s0.words.drop 1).map (fun w => le 4 w.toNat)).flatten.take (v.toNat % 2 ^ 24) → s0Types.contains (uAt b 0 1) = true →
    reaches (.sEnd0 v) s (fun u => u.harbour.s0.packets.map (·.2.2) = s.harbour.s0.packets.map (·.2.2) ++ [{ type := uAt b 0 1, flags := uAt b 1 1, seq := uAt b 2 2, payload := b.drop 4 }] ∧
      u.harbour.s0.words = [] ∧ u.harbour.s0.accepted = (s.harbour.s0.accepted + 1) % 2 ^ 32)) ∧
  (∀ (v : Word) (s : State), s.harbour.pairPending = none → s.harbour.ready = true → s.harbour.s0.en = true → s.harbour.s0.overrun = false → s.harbour.s0.words = [] →
    reaches (.sEnd0 v) s (fun u => u.harbour.s0.drops = (s.harbour.s0.drops + 1) % 2 ^ 32 ∧ u.harbour.s0.discarded = (s.harbour.s0.discarded + 1) % 2 ^ 32 ∧ u.harbour.s0.packets = s.harbour.s0.packets)) ∧
  (∀ (b t : Nat) (p : Packet) (r : List (Nat × Nat × Packet)) (s : State), s.harbour.s1.packets = (b, t, p) :: r → 4 * (s.harbour.s1.readWords + 1) < pktSize p.payload →
    reaches .sData1 s (fun u => u.harbour.readData = BitVec.ofNat 32 (uAt (pktBytes p) (4 * s.harbour.s1.readWords) 4) ∧ u.harbour.s1.readWords = s.harbour.s1.readWords + 1 ∧ u.harbour.s1.packets = s.harbour.s1.packets)) ∧
  (∀ (b t : Nat) (p : Packet) (r : List (Nat × Nat × Packet)) (s : State), s.harbour.s1.packets = (b, t, p) :: r → pktSize p.payload ≤ 4 * (s.harbour.s1.readWords + 1) →
    reaches .sData1 s (fun u => u.harbour.s1.readWords = 0 ∧ u.harbour.s1.packets = r)) ∧
  (∀ (s : State), s.harbour.s1.packets = [] → reaches .sData1 s (fun u => u.harbour.readData = 0 ∧ u.harbour.s1.packets = [] ∧ u.harbour.s1.readWords = s.harbour.s1.readWords)) ∧
  (∀ (s : State), s.harbour.pairPending = none → s.harbour.ready = true → s.harbour.s0.en = false → reaches (.clear 0) s (fun u => u.harbour.s0.packets = [] ∧ u.harbour.s0.words = [] ∧ u.harbour.s1.packets = s.harbour.s1.packets)) ∧
  (∀ (s : State), s.harbour.pairPending = none → s.harbour.ready = true → s.harbour.s0.en = true → exec (.clear 0) s = .next (settle s)) ∧
  (∀ (s : State), s.harbour.pairPending = none → s.harbour.ready = true → s.harbour.s0.words ≠ [] →
    reaches .abort s (fun u => u.harbour.s0.words = [] ∧ u.harbour.s0.drops = (s.harbour.s0.drops + 1) % 2 ^ 32 ∧ u.harbour.s0.packets = s.harbour.s0.packets)) ∧
  (∀ (s : State), s.harbour.pairPending = none → s.harbour.ready = true → s.harbour.s1.readWords ≠ 0 → reaches .drop s (fun u => u.harbour.s1.packets = s.harbour.s1.packets.drop 1 ∧ u.harbour.s1.readWords = 0)) ∧
  (∀ (b t : Nat) (p : Packet) (r : List (Nat × Nat × Packet)) (s : State), s.harbour.s1.packets = (b, t, p) :: r →
    exec .packetAge s = .next (settle (runTo (t + us1 * s.harbour.s1.ageUs) s)))

/-- Protected pairs, the indirect window and restarts (14 R505 to R509, 17 R605). The SYS commands (14 R533): what each answers. -/
def Obligations.HarbourPairsAndSys : Prop :=
    ((∀ (s : State), s.harbour.ready = true → s.harbour.indLatch = none → s.harbour.indAddr.toNat % 64 ≠ 0 → s.harbour.indAddr.toNat % 4 = 0 →
    reaches .indDataRead s (fun u => u.harbour.readData = BitVec.ofNat 32 (indWord s s.harbour.indAddr.toNat) ∧ u.harbour.indAddr = (if s.harbour.autoInc then s.harbour.indAddr + 4 else s.harbour.indAddr) ∧ u.mem = s.mem)) ∧
  (∀ (s : State) (w : List Word), s.harbour.ready = true → s.harbour.indAddr.toNat % 64 ≠ 0 → s.harbour.indLatch = some (s.harbour.indAddr.toNat / 64, w) → s.harbour.indAddr.toNat % 4 = 0 →
    reaches .indDataRead s (fun u => u.harbour.readData = w.getD (s.harbour.indAddr.toNat % 64 / 4) 0 ∧ u.harbour.indLatch = s.harbour.indLatch)) ∧
  (∀ (v : Word) (s : State), s.harbour.pairPending = none → s.harbour.ready = true → inMailbox s (s.harbour.indAddr.toNat / 4 * 4) = true →
    reaches (.indDataWrite v) s (fun u => u.mem = memPuts s.mem (s.harbour.indAddr.toNat / 4 * 4) (le 4 v.toNat) ∧ u.harbour.indAddr = (if s.harbour.autoInc then s.harbour.indAddr + 4 else s.harbour.indAddr))) ∧
  (∀ (v : Word) (s : State), s.harbour.pairPending = none → s.harbour.ready = true → inMailbox s (s.harbour.indAddr.toNat / 4 * 4) = false → reaches (.indDataWrite v) s (fun u => u.mem = s.mem)) ∧
  (∀ (off : Nat) (v : Word) (s : State), (off = 0x2000 ∨ off = 0x2008 ∨ off = 0x2010) → s.harbour.pairPending = none →
    reaches (.pairValueWrite off v) s (fun u => u.harbour.pairPending = some (off, v, s.time.cyc) ∧ u.harbour.resetReq = s.harbour.resetReq ∧ u.votes = s.votes)) ∧
  (∀ (off c : Nat) (v : Word) (s : State), s.harbour.pairPending = some (off, v, c) →
    reaches .pairTimeout s (fun u => u.harbour.pairPending = none ∧ c + cycMs 1 ≤ u.time.cyc ∧ u.harbour.resetReq = s.harbour.resetReq ∧ u.votes = s.votes)) ∧
  (∀ (x v : Word) (c : Nat) (s s2 : State), s.harbour.pairPending = some (0x2000, v, c) → s.time.cyc ≤ c + cycMs 1 → x = ~~~ v → v.toNat % 4 ≤ 1 →
    journalPut { type := 1, key := settingKey 1 0, payload := le 1 (v.toNat % 4), prio := 5, schema := s.update.schema } { s with harbour := { s.harbour with pairPending := none } } = (true, s2) →
    exec (.roleNext x) s = .next (settle s2)) ∧
  (∀ (x v : Word) (c : Nat) (s : State), s.harbour.pairPending = some (0x2000, v, c) → s.time.cyc ≤ c + cycMs 1 → x ≠ ~~~ v →
    reaches (.roleNext x) s (fun u => u.harbour.pairPending = none ∧ u.votes = s.votes)) ∧
  (∀ (x v : Word) (c : Nat) (s : State), s.harbour.pairPending = some (0x2008, v, c) → s.time.cyc ≤ c + cycMs 1 → x = ~~~ v → v.toNat = 1 →
    reaches (.resetReqIdle x) s (fun u => u.harbour.resetReq = 1 ∧ u.harbour.resetLatchAt = none ∧ u.harbour.pairPending = none)) ∧
  (∀ (x v : Word) (c : Nat) (s : State), s.harbour.pairPending = some (0x2008, v, c) → s.time.cyc ≤ c + cycMs 1 → x = ~~~ v → v.toNat = 2 →
    reaches (.resetReqAllOff x) s (fun u => u.harbour.resetReq = 2 ∧ u.harbour.resetLatchAt = some (latchBoundary s) ∧ u.harbour.pairPending = none)) ∧
  (∀ (x v : Word) (c : Nat) (s : State), s.harbour.pairPending = some (0x2008, v, c) → s.time.cyc ≤ c + cycMs 1 → x = ~~~ v → v.toNat = 0 →
    reaches (.resetReqCancel x) s (fun u => u.harbour.resetReq = 0 ∧ u.harbour.resetLatchAt = none)) ∧
  (∀ (x v : Word) (c : Nat) (s : State), s.harbour.pairPending = some (0x2010, v, c) → s.time.cyc ≤ c + cycMs 1 → x = ~~~ v → domainRefused (v.toNat % 4096) s = false →
    reaches (.domainEn x) s (fun u => u.harbour.domainNext = some (v.toNat % 4096) ∧ u.votes = s.votes)) ∧
  (∀ (s : State), s.harbour.resetReq = 1 → engineIdle s = true → jobBusy s = false → exec .sysRestart s = .next (settle (restart 2 (raise { code := 0x0109, sev := 2, src := 4, p0 := 1 } s)))) ∧
  (∀ (s : State), s.harbour.resetReq = 0 → exec .sysRestart s = .next (settle s)) ∧
  (∀ (v : Nat) (s : State), s.harbour.domainNext = some v → s.power.st = .spring → s.votes.domains.value = v →
    reaches .domainEnApply s (fun u => u.harbour.domainNext = none ∧ u.votes.domains = s.votes.domains.write v ∧ u.time = (runTo (nextBoundary s) s).time)) ∧
  (∀ (off : Nat) (v : Word) (s : State), s.harbour.pairPending = none → s.harbour.ready = true → exec (.registerWrite off v) s = .next (settle (regWrite off v s))) ∧
  (∀ (off o c : Nat) (v w : Word) (s : State), s.harbour.pairPending = some (o, w, c) → s.harbour.ready = false → reaches (.registerWrite off v) s (fun u => u.harbour.pairPending = none ∧ u.harbour.intMask = s.harbour.intMask))) ∧
  ((∀ (c : Cmd) (s : State), admitted 0x0101 0 32 none c s → reads (.sysInfo c) c 0x0101 (sysInfoBytes s) s) ∧
  (∀ (c : Cmd) (s : State), admitted 0x0102 4 0 none c s → uAt (prmOf c) 0 4 = 0 → answers (.sysNop c) c 0x0102 stOk [] s s) ∧
  (∀ (c : Cmd) (s : State), admitted 0x0102 4 0 none c s → 1000000 < uAt (prmOf c) 0 4 → answers (.sysNop c) c 0x0102 stBadParam [] s s) ∧
  (∀ (c : Cmd) (s : State), admitted 0x0102 4 0 none c s → 0 < uAt (prmOf c) 0 4 → uAt (prmOf c) 0 4 ≤ 1000000 →
    exec (.sysNop c) s = .next (settle { s with harbour := { s.harbour with nops := s.harbour.nops ++ [(c.mbx, c.slot, s.time.cyc + cycUs (uAt (prmOf c) 0 4), c.tag.toNat)] } })) ∧
  (∀ (m k t tag : Nat) (s : State), s.harbour.nops = [(m, k, t, tag)] →
    exec (.sysNopDelay m k) s = .next (settle (complete m k 0x0102 tag stOk [] { runToCyc t s with harbour := { (runToCyc t s).harbour with nops := [] } }))) ∧
  (∀ (c : Cmd) (s : State), admitted 0x0103 0 0 none c s → reads (.sysEcho c) c 0x0103 (prmOf c) s) ∧
  (∀ (c : Cmd) (s : State), admitted 0x0104 0 20 none c s →
    reads (.sysStreamStatus c) c 0x0104 (le 4 s.harbour.s0.accepted ++ le 4 s.harbour.s0.discarded ++ le 4 s.harbour.s1.sent ++ le 4 s.harbour.s1.dropped ++ le 4 s.harbour.refusedTotal) s) ∧
  (∀ (c : Cmd) (s : State), admitted 0x0105 0 20 none c s →
    reads (.sysVoteStatus c) c 0x0105 (le 4 s.votes.role.corrections ++ le 4 s.votes.lifeCycle.corrections ++ le 4 s.votes.stopCfg.corrections ++ le 4 s.votes.domains.corrections ++ le 4 s.votes.tide.corrections) s))

/-- What a tamper alarm, the vault's checks, the noise source, sessions, the unlock's time limit and the debug port do (15 R540, R548, R550 to R552, R556 to R558,
R563, R566, R567). -/
def Obligations.SecurityEvents : Prop :=
  (∀ (n mv : Nat) (s : State), sensorLive n s = true → coreQuiet n mv s = false → alarmActs s = true → s.otp.tamperEpoch ≠ 64 → (s.power.st = .slack ∨ s.power.st = .neap) →
    reaches (.tamperAlarm ⟨n, mv⟩) s (fun u => u.sec.keys = [] ∧ u.sec.sessions = [] ∧ u.sec.alarmed = true ∧ u.sec.wiped = true ∧ u.sec.log = (logAlarm n s).sec.log ∧ u.recorder.ring = [] ∧
      u.meter.ring = [] ∧ u.knani.shadow = [] ∧ u.otp = s.otp)) ∧
  (∀ (n mv : Nat) (s : State), sensorLive n s = true → coreQuiet n mv s = false → alarmActs s = true → s.otp.tamperEpoch ≠ 64 → s.power.st = .spring →
    reaches (.tamperAlarm ⟨n, mv⟩) s (fun u => u.sec.keys = [] ∧ u.sec.sessions = [] ∧ u.sec.alarmed = true ∧ u.sec.debug = 0 ∧ u.sec.alarmAt = some (s.sec.alarmAt.getD s.time.cyc) ∧
      u.sec.log = (logAlarm n s).sec.log ∧ u.otp = s.otp)) ∧
  (∀ (n mv : Nat) (s : State), sensorLive n s = true → coreQuiet n mv s = false → (lifeCycle s = 0 ∨ lifeCycle s = 4) → exec (.tamperAlarm ⟨n, mv⟩) s = .next (settle (logAlarm n s))) ∧
  (∀ (n mv : Nat) (s : State), (sensorLive n s = false ∨ coreQuiet n mv s = true) → exec (.tamperAlarm ⟨n, mv⟩) s = .next (settle s)) ∧
  (∀ (t : Nat) (s : State), s.sec.alarmAt = some t → axesMoving s = false →
    reaches .tamperSafeEntry s (fun u => u.power.tamperSafe = true ∧ u.power.st = .safe ∧ u.sec.keys = [] ∧ u.sec.alarmAt = none ∧ u.time.cyc = s.time.cyc ∧ u.sec.log = s.sec.log)) ∧
  (∀ (t : Nat) (s : State), s.sec.alarmAt = some t → axesMoving s = true →
    reaches .tamperSafeEntry s (fun u => u.power.tamperSafe = true ∧ u.power.st = .safe ∧ u.sec.keys = [] ∧ t + cycMs 2000 ≤ u.time.cyc)) ∧
  (∀ (e b : Nat) (s : State), s.power.st = .spring →
    reaches (.pufHealthCheck true e b) s (fun u => u.sec.pufWorst = min 100 (100 * e / 255) ∧ u.sec.pufAsked = false ∧ u.sec.keys = s.sec.keys ∧ u.otp = s.otp)) ∧
  (∀ (e b : Nat) (s s1 : State), s.power.st = .spring → (if s.sec.pufAsked then s else runToCyc (s.sec.pufAt + cycMs 86400000) s) = s1 →
    exec (.pufHealthCheck false e b) s = .next (settle (raise { code := 0x0E02, sev := 7, src := 5, p0 := e, p1 := 1 }
      (undertowLate 10 1 (if s.sec.pufAsked then s1.time.cyc else s.sec.pufAt + cycMs 86400000) (passDone 10
        { s1 with sec := { s1.sec with pufAsked := false, pufAt := s1.time.cyc, pufWorst := min 100 (100 * e / 255) } }))))) ∧
  (∀ (n : Nat) (k : KeySlot) (s : State), slotOf s n = some k → k.revoked = false → bit k.flags 0 = false → (∀ e ∈ s.sec.keys, e.2.parent ≠ n) →
    reaches (.vaultIntegrityCheck [n]) s (fun u => u.sec.keys = tdel s.sec.keys n ∧ s.sec.vaultAt + cycMs 10000 ≤ u.time.cyc ∧ u.sec.vaultAt = u.time.cyc ∧
      (∀ r ∈ jRecs u.journal, r.type = 0x10 → r ∈ jRecs s.journal))) ∧
  (∀ (s : State), s.time.cyc ≤ s.sec.vaultAt + cycMs 10000 → s.power.passLate.getD 11 false = false → reaches (.vaultIntegrityCheck []) s (fun u => u.sec.keys = s.sec.keys ∧ u.sec.gens = s.sec.gens ∧ u.recorder = s.recorder)) ∧
  (∀ (t : Nat) (s : State), reaches (.entropyTestFail t) s (fun u => u.sec.drbg = false ∧ u.sec.retestAt = s.time.cyc ∧ u.sec.keys = s.sec.keys)) ∧
  (∀ (g : Nat) (s : State), s.sec.drbg = false → 1024 ≤ g → reaches (.entropyRetest g none) s (fun u => u.sec.drbg = true ∧ s.sec.retestAt + cycMs 1000 ≤ u.time.cyc ∧ u.sec.keys = s.sec.keys)) ∧
  (∀ (g : Nat) (s : State), s.sec.drbg = false → g < 1024 → reaches (.entropyRetest g none) s (fun u => u.sec.drbg = false)) ∧
  (∀ (g t : Nat) (s : State), s.sec.drbg = false → reaches (.entropyRetest g (some t)) s (fun u => u.sec.drbg = false)) ∧
  (∀ (n : Nat) (x : SecSession) (s : State), s.sec.sessions = [x] → x.id = n → reaches (.sessionTimeout n) s (fun u => u.sec.sessions = [] ∧ x.cyc + cycMs 10000 ≤ u.time.cyc ∧ u.sec.keys = s.sec.keys)) ∧
  (∀ (t : Nat) (s : State), s.sec.ackFrom = some t → reaches .unlockAckTimeout s (fun u => u.sec.challenge = none ∧ u.sec.ackFrom = none ∧ t + cycMs 60000 ≤ u.time.cyc ∧ u.power = s.power)) ∧
  (∀ (kinds k : Nat) (s : State), (s.power.st = .off ∨ s.power.st = .slack) → exec (.debugRequest kinds k) s = .next (settle s)) ∧
  (∀ (k : Nat) (s : State), lifeCycle s = 2 → s.power.st = .spring → reaches (.debugRequest 4 k) s (fun u => u.sec.debug = s.sec.debug ∧ u.sec.debugKey = s.sec.debugKey ∧ u.axes = s.axes)) ∧
  (∀ (s : State), lifeCycle s = 2 → s.power.st = .spring → engineIdle s = true → jobBusy s = false →
    reaches (.debugRequest 2 4) s (fun u => u.sec.debug = s.sec.debug ||| 2 ∧ u.sec.debugKey = 4 ∧ u.otp = s.otp)) ∧
  (∀ (s : State), lifeCycle s = 2 → s.power.st = .spring → engineIdle s = false → reaches (.debugRequest 2 4) s (fun u => u.sec.debug = s.sec.debug ∧ u.axes = s.axes)) ∧
  (∀ (s : State), exec .dbgTrstN s = .next (settle { s with sec := { s.sec with debug := 0, debugKey := 0 } }))

/-- The SEC commands on keys (15 R536, R542 to R548, R568): what each answers and leaves in the vault. -/
def Obligations.SecKeyCommands : Prop :=
  (∀ (c : Cmd) (s : State), admitted 0x0E01 0 23 none c s → reads (.secStatus c) c 0x0E01 (secStatusBytes s) s) ∧
  (∀ (c : Cmd) (s : State) (k : KeySlot), admitted 0x0E02 1 16 none c s → uAt (prmOf c) 0 1 < 64 → slotOf s (uAt (prmOf c) 0 1) = some k →
    reads (.secKeyInfo c) c 0x0E02 (slotAttrs (if k.revoked then 2 else 1) k) s) ∧
  (∀ (c : Cmd) (s : State) (n : Nat), admitted 0x0E02 1 16 none c s → uAt (prmOf c) 0 1 = n → n < 64 → slotOf s n = none →
    reads (.secKeyInfo c) c 0x0E02 (List.replicate 10 0 ++ le 2 ((tget s.sec.gens n).getD 0) ++ [0, 0, 0, 0]) s) ∧
  (∀ (c : Cmd) (s s1 : State) (p b : List Byte) (k : KeySlot) (n : Nat), admitted 0x0E03 20 1 none c s → prmOf c = p → attrsAt p 4 = some k → creatable k.type = true → targetSlot (uAt p 0 1) s = .ok n →
    s.sec.drbg = true → bit k.flags 0 = false → drawBytes (keyLen k.type) s = (b, s1) →
    ∃ u, answers (.secKeyGenerate c) c 0x0E03 stOk (le 1 n) s u ∧
      slotOf u n = some { k with key := b, flags := k.flags + 4, gen := ((tget s.sec.gens n).getD 0 + 1) % 65536 } ∧ (∀ j, j ≠ n → slotOf u j = slotOf s j) ∧ u.journal = s.journal) ∧
  (∀ (c : Cmd) (s : State) (p : List Byte) (k : KeySlot) (n : Nat), admitted 0x0E03 20 1 none c s → prmOf c = p → attrsAt p 4 = some k → creatable k.type = true → targetSlot (uAt p 0 1) s = .ok n →
    s.sec.drbg = false → answers (.secKeyGenerate c) c 0x0E03 0x0E83 [] s s) ∧
  (∀ (c : Cmd) (s : State) (p : List Byte) (k : KeySlot) (n : Nat), admitted 0x0E04 (importMin (prmOf c)) 1 none c s → prmOf c = p → attrsAt p 4 = some k → uAt p 1 1 = 0 → (k.type = 7 ∨ k.type = 8) →
    targetSlot (uAt p 0 1) s = .ok n → bit k.flags 0 = false →
    ∃ u, answers (.secKeyImport c) c 0x0E04 stOk (le 1 n) s u ∧ slotOf u n = some { k with key := (p.drop 20).take (keyLen k.type), gen := ((tget s.sec.gens n).getD 0 + 1) % 65536 } ∧
      (∀ j, j ≠ n → slotOf u j = slotOf s j)) ∧
  (∀ (c : Cmd) (s : State) (p : List Byte) (k : KeySlot), admitted 0x0E04 (importMin (prmOf c)) 1 none c s → prmOf c = p → attrsAt p 4 = some k → uAt p 1 1 = 0 → creatable k.type = true →
    answers (.secKeyImport c) c 0x0E04 stNotPermitted [] s s) ∧
  (∀ (c : Cmd) (s : State) (p : List Byte) (k q : KeySlot) (n par : Nat), admitted 0x0E05 (24 + min 32 (uAt (prmOf c) 20 1)) 1 none c s → prmOf c = p → attrsAt p 4 = some k → creatable k.type = true →
    1 ≤ uAt p 20 1 → uAt p 20 1 ≤ 32 → uAt p 0 1 = par → par < 64 → hostUse c par (some 7) s = none → slotOf s par = some q → subset k.masters q.masters = true → subset k.world q.world = true →
    subset k.lc q.lc = true → q.depth ≤ 6 → targetSlot (uAt p 1 1) s = .ok n → bit k.flags 0 = false → n ≠ par →
    ∃ u x, answers (.secKeyDerive c) c 0x0E05 stOk (le 1 n) s u ∧ slotOf u n = some x ∧ x.type = k.type ∧ x.uses = k.uses ∧ x.masters = k.masters ∧ x.world = k.world ∧ x.lc = k.lc ∧
      x.parent = par ∧ x.depth = q.depth + 1 ∧ x.revoked = k.revoked ∧ slotOf u par = some { q with uses0 := min 0xFFFFFFFF (q.uses0 + 1) }) ∧
  (∀ (c : Cmd) (s : State) (p : List Byte) (k q : KeySlot) (par : Nat), admitted 0x0E05 (24 + min 32 (uAt (prmOf c) 20 1)) 1 none c s → prmOf c = p → attrsAt p 4 = some k → creatable k.type = true →
    1 ≤ uAt p 20 1 → uAt p 20 1 ≤ 32 → uAt p 0 1 = par → par < 64 → hostUse c par (some 7) s = none → slotOf s par = some q → subset k.masters q.masters = true → subset k.world q.world = true →
    subset k.lc q.lc = true → 7 ≤ q.depth → answers (.secKeyDerive c) c 0x0E05 0x0E82 [] s s) ∧
  (∀ (c : Cmd) (s : State) (n : Nat) (k : KeySlot), admitted 0x0E06 1 8 none c s → uAt (prmOf c) 0 1 = n → 8 ≤ n → n < 64 → slotOf s n = some k → k.revoked = false → bit k.flags 0 = false →
    descendants s n = [] →
    answers (.secKeyRevoke c) c 0x0E06 stOk (le 8 (2 ^ n)) s (raise { code := 0x0E04, sev := 2, src := 5, p0 := n, p1 := 1, p2 := 0 }
      { s with sec := { s.sec with keys := tmod s.sec.keys n (fun x => { x with revoked := true }) } })) ∧
  (∀ (c : Cmd) (s : State), admitted 0x0E06 1 8 none c s → uAt (prmOf c) 0 1 < 8 → answers (.secKeyRevoke c) c 0x0E06 stNotPermitted [] s s) ∧
  (∀ (c : Cmd) (s : State) (n : Nat), admitted 0x0E06 1 8 none c s → uAt (prmOf c) 0 1 = n → 8 ≤ n → n < 64 → slotOf s n = none → answers (.secKeyRevoke c) c 0x0E06 0x0E81 [] s s) ∧
  (∀ (c : Cmd) (s : State) (n : Nat) (k : KeySlot), admitted 0x0E07 1 0 none c s → uAt (prmOf c) 0 1 = n → 8 ≤ n → n < 64 → slotOf s n = some k → bit k.flags 0 = false → descendants s n = [] →
    answers (.secKeyDelete c) c 0x0E07 stOk [] s { s with sec := { s.sec with keys := tdel s.sec.keys n } }) ∧
  (∀ (c : Cmd) (s : State) (k : KeySlot) (b : List Byte) (n : Nat), admitted 0x0E08 2 0 none c s → uAt (prmOf c) 0 1 = n → n < 64 → uAt (prmOf c) 1 1 = 0xFF → hostUse c n none s = none → slotOf s n = some k →
    publicPart k = some b → b.length ≤ areaOf c → answers (.secKeyExport c) c 0x0E08 stOk b s (countUse n s)) ∧
  (∀ (c : Cmd) (s : State) (k : KeySlot) (n : Nat), admitted 0x0E08 2 0 none c s → uAt (prmOf c) 0 1 = n → n < 64 → uAt (prmOf c) 1 1 = 0xFF → hostUse c n none s = none → slotOf s n = some k →
    publicPart k = none → answers (.secKeyExport c) c 0x0E08 stNotPermitted [] s s) ∧
  (∀ (c : Cmd) (s : State) (p : List Byte) (k : KeySlot) (n t : Nat), admitted 0x0E0E 85 1 none c s → prmOf c = p → attrsAt p 4 = some k → creatable k.type = true → k.type ≠ 5 → k.type ≠ 6 →
    uAt p 0 1 = n → n < 64 → hostUse c n (some 6) s = none → (keyType s n = 5 ∨ (keyType s n = 6 ∧ 117 ≤ p.length)) → targetSlot (uAt p 1 1) s = .ok t → bit k.flags 0 = false →
    ∃ u x, answers (.secEcdh c) c 0x0E0E stOk (le 1 t) s u ∧ slotOf u t = some x ∧ x.type = k.type ∧ x.uses = k.uses ∧ x.gen = ((tget s.sec.gens t).getD 0 + 1) % 65536) ∧
  (∀ (c : Cmd) (s s1 : State) (p : List Byte), admitted 0x0E18 101 0 none c s → prmOf c = p → uAt p 0 1 = 3 → zeros p 1 3 = true → lifeCycle s = 1 → s.otp.hash3 = none →
    journalPut { type := 1, key := settingKey 5 3, payload := (p.drop 4).take 97, prio := 5, schema := s.update.schema } s = (true, s1) →
    oks (.secKeyInstall c) c 0x0E18 s (fun u => u.otp = { s1.otp with hash3 := some (hashOf 1 ((p.drop 4).take 97)) } ∧ slotOf u 3 = some (publicSlot ((p.drop 4).take 97)))) ∧
  (∀ (c : Cmd) (s : State) (p : List Byte), admitted 0x0E18 101 0 none c s → prmOf c = p → (uAt p 0 1 = 3 ∨ uAt p 0 1 = 4) → zeros p 1 3 = true → lifeCycle s ≠ 1 →
    answers (.secKeyInstall c) c 0x0E18 stBadState [] s s)

/-- The SEC commands on the engines (15 R543, R548, R549, R552, R568): what each answers; USE_COUNT advances with each operation on a slot. -/
def Obligations.SecEngineCommands : Prop :=
  (∀ (c : Cmd) (s : State) (p : List Byte) (n slot mode : Nat), admitted 0x0E09 (40 + min 160 (uAt (prmOf c) 5 1)) (cipherMax (prmOf c)) none c s → prmOf c = p → uAt p 0 1 = slot → slot < 64 →
    uAt p 1 1 = mode → mode ≤ 1 → uAt p 2 1 = 0 → uAt p 3 1 = 0 → uAt p 4 1 ≤ 7 → uAt p 5 1 = n → n ≤ 160 → n % 16 = 0 → uAt p 6 1 ≤ 16 → uAt p 7 1 = 0 →
    hostUse c slot (some 0) s = none → keyType s slot ≤ 2 → 1 ≤ keyType s slot →
    answers (.secCipher c) c 0x0E09 stOk (aesOf mode false (keyBytes s slot) ((p.drop 8).take 16) ((p.drop 40).take n)) s (countUse slot s)) ∧
  (∀ (c : Cmd) (s : State) (p : List Byte) (n slot e : Nat), admitted 0x0E09 (40 + min 160 (uAt (prmOf c) 5 1)) (cipherMax (prmOf c)) none c s → prmOf c = p → uAt p 0 1 = slot → slot < 64 →
    uAt p 1 1 ≤ 1 → uAt p 2 1 = 0 → uAt p 3 1 = 0 → uAt p 4 1 ≤ 7 → uAt p 5 1 = n → n ≤ 160 → n % 16 = 0 → uAt p 6 1 ≤ 16 → uAt p 7 1 = 0 → hostUse c slot (some 0) s = some e →
    answers (.secCipher c) c 0x0E09 e [] s s) ∧
  (∀ (c : Cmd) (s : State) (p : List Byte) (n slot : Nat), admitted 0x0E0A (56 + min 160 (uAt (prmOf c) 5 1)) 0 none c s → prmOf c = p → uAt p 0 1 = slot → slot < 64 → uAt p 1 1 = 0 → uAt p 2 1 = 0 →
    uAt p 3 1 = 0 → uAt p 4 1 ≤ 7 → uAt p 5 1 = n → n ≤ 160 → zeros p 6 2 = true → hostUse c slot (some 2) s = none → keyType s slot ≤ 2 →
    answers (.secMac c) c 0x0E0A stOk (cmacOf (keyBytes s slot) ((p.drop 56).take n)) s (countUse slot s)) ∧
  (∀ (c : Cmd) (s : State) (p : List Byte) (n a : Nat), admitted 0x0E0B (8 + min 160 (uAt (prmOf c) 5 1)) 0 none c s → prmOf c = p → uAt p 0 1 = a → a ≤ 1 → zeros p 1 2 = true → uAt p 3 1 = 0 →
    uAt p 4 1 ≤ 7 → uAt p 5 1 = n → n ≤ 160 → zeros p 6 2 = true →
    answers (.secHash c) c 0x0E0B stOk (hashOf a ((p.drop 8).take n)) s s) ∧
  (∀ (c : Cmd) (s : State) (p : List Byte) (n a id : Nat), admitted 0x0E0B (8 + min 160 (uAt (prmOf c) 5 1)) 0 none c s → prmOf c = p → uAt p 0 1 = a → a ≤ 1 → zeros p 1 2 = true → uAt p 3 1 = 1 →
    uAt p 4 1 = id → id ≤ 7 → uAt p 5 1 = n → n ≤ 160 → zeros p 6 2 = true → s.sec.sessions = [] →
    oks (.secHash c) c 0x0E0B s (fun u => ∃ x, sessionOf u id = some x ∧ x.mbx = c.mbx ∧ x.kind = 2 ∧ x.mode = a ∧ x.data = (p.drop 8).take n ∧ x.cyc = s.time.cyc ∧ u.sec.keys = s.sec.keys)) ∧
  (∀ (c : Cmd) (s : State) (p : List Byte) (id : Nat), admitted 0x0E0B (8 + min 160 (uAt (prmOf c) 5 1)) 0 none c s → prmOf c = p → uAt p 0 1 ≤ 1 → zeros p 1 2 = true → uAt p 3 1 = 2 →
    uAt p 4 1 = id → id ≤ 7 → uAt p 5 1 ≤ 160 → zeros p 6 2 = true → sessionOf s id = none → answers (.secHash c) c 0x0E0B stBadState [] s s) ∧
  (∀ (c : Cmd) (s : State) (p : List Byte) (id : Nat) (x : SecSession), admitted 0x0E0B (8 + min 160 (uAt (prmOf c) 5 1)) 0 none c s → prmOf c = p → uAt p 0 1 ≤ 1 → zeros p 1 2 = true →
    (uAt p 3 1 = 1 ∨ x.mbx ≠ c.mbx ∧ (uAt p 3 1 = 2 ∨ uAt p 3 1 = 3)) → uAt p 4 1 = id → id ≤ 7 → uAt p 5 1 ≤ 160 → zeros p 6 2 = true → sessionOf s id = some x →
    answers (.secHash c) c 0x0E0B 0x0E80 [] s s) ∧
  (∀ (c : Cmd) (s s1 : State) (p : List Byte) (n k : Nat), admitted 0x0E0C 40 0 none c s → prmOf c = p → uAt p 0 1 = n → n < 64 → zeros p 1 7 = true → hostUse c n (some 4) s = none → keyType s n = 5 →
    40 ≤ p.length → s.sec.drbg = true → draw s = (k, s1) → 64 ≤ areaOf c →
    answers (.secSign c) c 0x0E0C stOk (signOf 5 (keyBytes s n) ((p.drop 8).take 32) k) s (countUse n s1)) ∧
  (∀ (c : Cmd) (s : State) (p : List Byte) (n e : Nat), admitted 0x0E0C 40 0 none c s → prmOf c = p → uAt p 0 1 = n → n < 64 → zeros p 1 7 = true → hostUse c n (some 4) s = some e →
    answers (.secSign c) c 0x0E0C e [] s s) ∧
  (∀ (c : Cmd) (s : State) (p : List Byte) (n : Nat) (k : KeySlot), admitted 0x0E0D 120 0 none c s → prmOf c = p → uAt p 0 1 = n → n < 64 → zeros p 1 7 = true → hostUse c n (some 5) s = none →
    slotOf s n = some k → k.type = 7 →
    answers (.secVerify c) c 0x0E0D (if Config.ecVerify 7 k.key ((p.drop 8).take 32) ((p.drop 56).take 64) then stOk else stVerifyFail) [] s (countUse n s)) ∧
  (∀ (c : Cmd) (s s1 : State) (b : List Byte) (n : Nat), admitted 0x0E0F 1 (min 128 (uAt (prmOf c) 0 1)) none c s → uAt (prmOf c) 0 1 = n → 1 ≤ n → n ≤ 128 → s.sec.drbg = true → drawBytes n s = (b, s1) →
    answers (.secRandom c) c 0x0E0F stOk b s s1) ∧
  (∀ (c : Cmd) (s : State) (n : Nat), admitted 0x0E0F 1 (min 128 (uAt (prmOf c) 0 1)) none c s → uAt (prmOf c) 0 1 = n → 1 ≤ n → n ≤ 128 → s.sec.drbg = false →
    answers (.secRandom c) c 0x0E0F 0x0E83 [] s s) ∧
  (∀ (c : Cmd) (s s1 : State) (k : KeySlot) (b : List Byte) (v : Nat), admitted 0x0E15 32 88 none c s → slotOf s 0 = some k → s.sec.drbg = true → draw s = (v, s1) →
    uidBytes ++ le 1 (lifeCycle s) ++ [0, 0, 0] ++ le 4 s.otp.tamperEpoch = b →
    answers (.secAttest c) c 0x0E15 stOk (b ++ signOf 5 k.key (hashOf 0 ((prmOf c).take 32 ++ b)) v) s (countUse 0 s1))

/-- The SEC commands on life-cycle, unlock, tamper log, PUF and worlds (15 R536, R540, R553, R554, R563, R568). -/
def Obligations.SecLifeCommands : Prop :=
  (∀ (c : Cmd) (s : State), admitted 0x0E10 (lifecycleMin c) 0 none c s → s.power.tamperSafe = false → lifeCycle s = 2 → uAt (prmOf c) 0 1 = 1 →
    s.power.restartNow = none → answers (.secLifecycle c) c 0x0E10 stBadParam [] s s) ∧
  (∀ (c : Cmd) (s : State), admitted 0x0E10 (lifecycleMin c) 0 none c s → s.power.tamperSafe = true → uAt (prmOf c) 0 1 ≠ 4 →
    s.power.restartNow = none → answers (.secLifecycle c) c 0x0E10 stTamperLocked [] s s) ∧
  (∀ (c : Cmd) (s : State), admitted 0x0E10 (lifecycleMin c) 0 none c s → lifeCycle s ≤ 3 → uAt (prmOf c) 0 1 = 4 → zeros (prmOf c) 1 7 = true → s.update.st = .idle →
    exec (.secLifecycle c) s = .next (settle (restart 5 (complete c.mbx c.slot 0x0E10 c.tag.toNat stAccepted [] (lcTransition 4 s)))) ∧
    reaches (.secLifecycle c) s (fun u => u.otp.lifeCycle = 4 ∧ u.otp.tamperEpoch = s.otp.tamperEpoch)) ∧
  (∀ (c : Cmd) (s : State), admitted 0x0E10 (lifecycleMin c) 0 none c s → s.power.tamperSafe = false → lifeCycle s = 1 → uAt (prmOf c) 0 1 = 2 → zeros (prmOf c) 1 7 = true →
    s.update.st = .idle → s.otp.hash3 = none → s.power.restartNow = none → answers (.secLifecycle c) c 0x0E10 stBadState [] s s) ∧
  (∀ (c : Cmd) (s s1 : State) (b : List Byte), admitted 0x0E11 0 64 none c s → s.sec.drbg = true → drawBytes 32 s = (b, s1) →
    answers (.secChallenge c) c 0x0E11 stOk (b ++ challengeTail s) s { s1 with sec := { s1.sec with challenge := some (b ++ challengeTail s), ackFrom := none } }) ∧
  (∀ (c : Cmd) (s : State) (ch : List Byte), admitted 0x0E12 96 0 none c s → s.power.tamperSafe = true → s.sec.cold = true → s.sec.challenge = some ch → s.sec.ackFrom = none → lifeCycle s = 2 →
    Config.ecVerify 8 (keyBytes s 3) (hashOf 1 ch) ((prmOf c).take 96) = true → s.power.restartNow = none →
    answers (.secUnlock c) c 0x0E12 stAccepted [] s { s with sec := { s.sec with ackFrom := some s.time.cyc } }) ∧
  (∀ (c : Cmd) (s : State) (ch : List Byte), admitted 0x0E12 96 0 none c s → s.power.tamperSafe = true → s.sec.cold = true → s.sec.challenge = some ch → s.sec.ackFrom = none → lifeCycle s = 1 →
    Config.ecVerify 8 (keyBytes s 3) (hashOf 1 ch) ((prmOf c).take 96) = true →
    exec (.secUnlock c) s = .next (settle (restart 6 (complete c.mbx c.slot 0x0E12 c.tag.toNat stOk [] (unlockDone s))))) ∧
  (∀ (c : Cmd) (s : State) (ch : List Byte), admitted 0x0E12 96 0 none c s → s.power.tamperSafe = true → s.sec.cold = true → s.sec.challenge = some ch → s.sec.ackFrom = none → lifeCycle s = 2 →
    Config.ecVerify 8 (keyBytes s 3) (hashOf 1 ch) ((prmOf c).take 96) = false → s.power.restartNow = none →
    answers (.secUnlock c) c 0x0E12 stVerifyFail [] s { s with sec := { s.sec with challenge := none } }) ∧
  (∀ (c : Cmd) (s : State), admitted 0x0E12 96 0 none c s → s.power.tamperSafe = true → s.sec.cold = false → s.power.restartNow = none → answers (.secUnlock c) c 0x0E12 0x0E84 [] s s) ∧
  (∀ (c : Cmd) (s : State) (ch : List Byte) (t : Nat), admitted 0x0E13 32 0 none c s → s.sec.challenge = some ch → s.sec.ackFrom = some t → ch.take 32 = (prmOf c).take 32 →
    s.time.cyc ≤ t + cycMs 60000 → exec (.secUnlockAck c) s = .next (settle (restart 6 (complete c.mbx c.slot 0x0E13 c.tag.toNat stOk [] (unlockDone s))))) ∧
  (∀ (c : Cmd) (s : State), admitted 0x0E13 32 0 none c s → s.sec.ackFrom = none → s.power.restartNow = none → answers (.secUnlockAck c) c 0x0E13 stStale [] s s) ∧
  (∀ (c : Cmd) (s : State), admitted 0x0E14 0 0 none c s → reads (.secTamperLog c) c 0x0E14 ((s.sec.log.take (areaOf c / 32)).flatMap evBytes) s) ∧
  (∀ (c : Cmd) (s : State), admitted 0x0E16 0 0 none c s → s.power.st = .spring → answers (.secPufCheck c) c 0x0E16 stAccepted [] s { s with sec := { s.sec with pufAsked := true } }) ∧
  (∀ (c : Cmd) (s : State), admitted 0x0E17 2 0 none c s → lifeCycle s = 1 → s.otp.worldMap = none →
    answers (.secWorldMap c) c 0x0E17 stOk [] s { s with otp := { s.otp with worldMap := some (uAt (prmOf c) 0 2) } }) ∧
  (∀ (c : Cmd) (s : State), admitted 0x0E17 2 0 none c s → (lifeCycle s ≠ 1 ∨ s.otp.worldMap.isSome = true) → answers (.secWorldMap c) c 0x0E17 stBadState [] s s) ∧
  (∀ (c : Cmd) (s : State), worldS s c.mbx = true → s.power.restartNow = none → admitted 0x0101 32 0 none c s → answers (.secUnlockAck c) c 0x0E13 stNotPermitted [] s s)

/-- What the update does by itself: downloads, verifies, migrates, hands over, reverts and restarts; and what compaction does (16 R577 to R588, R597). -/
def Obligations.UpdateEvents : Prop :=
  (∀ (q : Packet) (p : List Byte) (s s1 : State), takeS0 0x1C s = some (q, s1) → q.payload = p → s1.update.st = .loading → imageCause s1.update p = none → s1.update.received + uAt p 4 4 ≠ s1.update.length →
    exec .image s = .next (settle { setBank (otherBank s1) { bytes := (bankOf s1 (otherBank s1)).bytes ++ p.drop 16 } s1 with
      update := { (setBank (otherBank s1) { bytes := (bankOf s1 (otherBank s1)).bytes ++ p.drop 16 } s1).update with received := s1.update.received + uAt p 4 4 } })) ∧
  (∀ (q : Packet) (p : List Byte) (s s1 : State), takeS0 0x1C s = some (q, s1) → q.payload = p → s1.update.st = .loading → imageCause s1.update p = none → s1.update.received + uAt p 4 4 = s1.update.length →
    reaches .image s (fun u => u.update.st = .loaded ∧ u.update.received = s1.update.length ∧ (bankOf u (otherBank u)).bytes = (bankOf s1 (otherBank s1)).bytes ++ p.drop 16 ∧ bankOf u u.update.bank = bankOf s1 s1.update.bank)) ∧
  (∀ (q : Packet) (s s1 : State) (c : Nat), takeS0 0x1C s = some (q, s1) → s1.update.st = .loading → imageCause s1.update q.payload = some c →
    reaches .image s (fun u => u.update = s1.update ∧ u.harbour.s0.discarded = (s1.harbour.s0.discarded + 1) % 2 ^ 32)) ∧
  (∀ (q : Packet) (s s1 : State), takeS0 0x1C s = some (q, s1) → s1.update.st ≠ .loading →
    reaches .image s (fun u => u.update.st = s1.update.st ∧ u.update.bankA = s1.update.bankA ∧ u.update.bankB = s1.update.bankB ∧ u.harbour.s0.discarded = (s1.harbour.s0.discarded + 1) % 2 ^ 32)) ∧
  (∀ (s : State), s.update.st = .verifying → verifyBank s (bankOf s (otherBank s)) = none →
    reaches (.verificationDone none) s (fun u => u.update = { s.update with st := .verified } ∧ u.otp = s.otp)) ∧
  (∀ (s : State) (c k : Nat), s.update.st = .verifying → verifyBank s (bankOf s (otherBank s)) = some (c, k) →
    reaches (.verificationDone none) s (fun u => u.update = { s.update with st := .loaded, cause := c } ∧ u.otp = s.otp)) ∧
  (∀ (s : State) (f : Option Nat), s.update.st ≠ .verifying → exec (.verificationDone f) s = .next (settle s)) ∧
  (∀ (s s1 : State), s.update.st = .preparing → s.update.cold = false → s.update.migrated = false →
    migrate (toMigrate s (bundleField (bankOf s (otherBank s)) 44 2) (bundleField (bankOf s (otherBank s)) 42 2)) (bundleField (bankOf s (otherBank s)) 42 2) s = (none, s1) →
    reaches (.migrated none) s (fun u => u.update.st = .handover ∧ u.update.migrated = true ∧ u.update.switched = 0 ∧ u.update.bank = s1.update.bank ∧ u.otp = s1.otp)) ∧
  (∀ (s : State) (k sch : Nat), s.update.st = .preparing → s.update.cold = false → s.update.migrated = false →
    reaches (.migrated (some (k, sch))) s (fun u => u.update.st = .idle ∧ u.update.cause = 5 ∧ u.update.migFailed = true ∧ u.update.bank = s.update.bank ∧ u.update.schema = s.update.schema)) ∧
  (∀ (s : State), s.update.st = .preparing → s.update.cold = false → s.update.migrated = false →
    reaches .preparingTimeout s (fun u => u.update.st = .idle ∧ u.update.cause = 6 ∧ u.update.migFailed = true ∧ s.update.since + cycMs 30000 ≤ u.time.cyc)) ∧
  (∀ (s : State), s.update.st = .handover → s.update.reversing = none → s.update.switched < 5 → stopDue (runTo (switchInstant s) s) (switchInstant s) = false →
    reaches (.handoverSwitch true false) s (fun u => u.update.switched = s.update.switched + 1 ∧ u.update.switchAt = switchInstant s ∧ u.update.st = .handover ∧ u.update.bank = s.update.bank ∧
      u.time.cyc = (runTo (switchInstant s) s).time.cyc)) ∧
  (∀ (s : State), s.update.st = .handover → s.update.reversing = none → s.update.switched = 5 → stopDue (runTo (switchInstant s) s) (switchInstant s) = false →
    reaches (.handoverSwitch true false) s (fun u => u.update.st = .trial ∧ u.update.bank = otherBank s ∧ u.update.schema = bundleField (bankOf s (otherBank s)) 42 2)) ∧
  (∀ (s : State), s.update.st = .handover → s.update.reversing = none → s.update.switched = 4 → stopDue (runTo (switchInstant s) s) (switchInstant s) = false → s.update.ctrlMoves < 99 →
    reaches (.handoverSwitch true true) s (fun u => u.update.switched = 4 ∧ u.update.ctrlMoves = s.update.ctrlMoves + 1 ∧ u.update.st = .handover ∧ u.update.reversing = none)) ∧
  (∀ (s : State) (b : Bool), s.update.st = .handover → s.update.reversing = none → 1 ≤ s.update.switched → s.update.switched ≤ 5 → (s.update.switched = 4 → b = false) →
    stopDue (runTo (switchInstant s) s) (switchInstant s) = false →
    reaches (.handoverSwitch false b) s (fun u => u.update.reversing = some 3 ∧ u.update.switched = s.update.switched ∧ u.update.bank = s.update.bank)) ∧
  (∀ (s : State) (c : Nat), s.update.reversing = some c → 2 ≤ s.update.switched →
    reaches .handoverReversal s (fun u => u.update.switched = s.update.switched - 1 ∧ u.update.reversing = some c ∧ u.update.switchAt = boundaryAfter s s.update.switchAt)) ∧
  (∀ (s : State), s.update.reversing = some 3 → s.update.switched = 1 →
    reaches .handoverReversal s (fun u => u.update.st = .idle ∧ u.update.reversing = none ∧ u.update.cause = 3 ∧ u.update.bank = s.update.bank)) ∧
  (∀ (s : State), s.update.st = .trial → s.update.cold = true →
    reaches .confirmWindow s (fun u => u.update.st = .idle ∧ u.update.cause = 0 ∧ u.update.restartWait = some (some 0) ∧ s.update.since + cycMs (1000 * s.update.window) ≤ u.time.cyc ∧ u.otp = s.otp)) ∧
  (∀ (s : State), s.update.st = .trial → s.update.cold = false → 1 ≤ s.update.switched → reaches .confirmWindow s (fun u => u.update.st = .handover ∧ u.update.reversing = some 0 ∧ u.otp = s.otp)) ∧
  (∀ (s : State), s.update.restartWait = some none → restartReady s = true →
    exec .updateRestart s = .next (settle (restart 4 (runTo (nextBoundary s) s)))) ∧
  (∀ (s : State) (c : Option Nat), s.update.restartWait = some c → restartReady s = false → exec .updateRestart s = .next (settle s)) ∧
  (∀ (s : State), s.update.st = .trial → exec .selfTestPassed s = .next (settle { s with update := { s.update with selfTest := List.replicate 6 true } })) ∧
  (∀ (a b : Bool) (s : State), s.journal.compacting = false → 16 ≤ s.journal.erased.length → exec (.compaction a b) s = .next (settle s)) ∧
  (∀ (a b : Bool) (s : State), (s.journal.compacting = true ∨ s.journal.erased.length < 16) → compactTarget s = none →
    reaches (.compaction a b) s (fun u => u.journal.compacting = false ∧ u.journal.segs = s.journal.segs ∧ u.journal.erased = s.journal.erased)) ∧
  (∀ (g : JSeg) (s : State), (s.journal.compacting = true ∨ s.journal.erased.length < 16) → compactTarget s = some g →
    ∃ v es, exec (.compaction true true) s = .next (settle (raises es v)) ∧ (g.idx, g.erases + 1) ∈ v.journal.erased ∧ (∀ x ∈ v.journal.segs, x.idx ≠ g.idx) ∧
      v.journal.compacting = false ∧ v.journal.progFault = false) ∧
  (∀ (g : JSeg) (e : Bool) (s : State), (s.journal.compacting = true ∨ s.journal.erased.length < 16) → compactTarget s = some g →
    reaches (.compaction e false) s (fun u => u.journal.refusing = true ∧ u.journal.progFault = true ∧ u.update = s.update)) ∧
  (∀ (g : JSeg) (s : State), (s.journal.compacting = true ∨ s.journal.erased.length < 16) → compactTarget s = some g →
    reaches (.compaction false true) s (fun u => u.journal.refusing = true ∧ u.journal.progFault = true))

/-- The UPDATE commands (16 R576, R577, R579 to R581, R587, R588, R597, R601, R602): what each answers and leaves. -/
def Obligations.UpdateCommands : Prop :=
  (∀ (c : Cmd) (s s1 : State), admitted 0x0F01 8 0 none c s → 528 ≤ uAt (prmOf c) 0 4 → uAt (prmOf c) 0 4 ≤ 16777216 → (s.update.st = .idle ∨ s.update.st = .loaded ∨ s.update.st = .verified) →
    s.update.reversing = none → s.update.restartWait = none → updRec 0x50 (otherBank s) (le 4 (uAt (prmOf c) 0 4) ++ le 4 (uAt (prmOf c) 4 4)) s = (true, s1) →
    oks (.updateBegin c) c 0x0F01 s (fun u => u.update.st = .loading ∧ u.update.length = uAt (prmOf c) 0 4 ∧ u.update.declared = uAt (prmOf c) 4 4 ∧ u.update.received = 0 ∧
      (bankOf u (otherBank u)).bytes = [] ∧ bankOf u u.update.bank = bankOf s s.update.bank)) ∧
  (∀ (c : Cmd) (s : State), admitted 0x0F01 8 0 none c s → 528 ≤ uAt (prmOf c) 0 4 → uAt (prmOf c) 0 4 ≤ 16777216 →
    (s.update.st = .preparing ∨ s.update.st = .handover ∨ s.update.st = .trial) → answers (.updateBegin c) c 0x0F01 stBadState [] s s) ∧
  (∀ (c : Cmd) (s : State), admitted 0x0F01 8 0 none c s → (uAt (prmOf c) 0 4 < 528 ∨ 16777216 < uAt (prmOf c) 0 4) → answers (.updateBegin c) c 0x0F01 stBadParam [] s s) ∧
  (∀ (c : Cmd) (s : State), admitted 0x0F02 0 0 none c s → s.update.st = .loaded → answers (.updateVerify c) c 0x0F02 stAccepted [] s { s with update := { s.update with st := .verifying } }) ∧
  (∀ (c : Cmd) (s : State), admitted 0x0F02 0 0 none c s → s.update.st ≠ .loaded → answers (.updateVerify c) c 0x0F02 stBadState [] s s) ∧
  (∀ (c : Cmd) (s s1 : State) (p : List Byte), admitted 0x0F03 8 0 none c s → prmOf c = p → uAt p 0 1 ≤ 1 → zeros p 1 3 = true → 10 ≤ uAt p 4 4 → uAt p 4 4 ≤ 86400 → updBusy s.update = false → s.update.st = .verified →
    hitlessOk s = true → updRec 0x54 (otherBank s) (le 1 (otherBank s) ++ le 1 s.update.bank ++ le 1 1 ++ [0] ++ le 4 (uAt p 4 4)) s = (true, s1) →
    accepts (.updateActivate c) c 0x0F03 s (fun u => u.update.st = .preparing ∧ u.update.cold = false ∧ u.update.window = uAt p 4 4 ∧ u.update.restartWait = none ∧ u.update.bank = s1.update.bank)) ∧
  (∀ (c : Cmd) (s : State) (p : List Byte), admitted 0x0F03 8 0 none c s → prmOf c = p → uAt p 0 1 = 1 → zeros p 1 3 = true → uAt p 4 4 = 0 → updBusy s.update = false → s.update.st = .verified →
    hitlessOk s = false → answers (.updateActivate c) c 0x0F03 0x0F81 [] s s) ∧
  (∀ (c : Cmd) (s : State) (p : List Byte), admitted 0x0F03 8 0 none c s → prmOf c = p → uAt p 0 1 ≤ 2 → zeros p 1 3 = true → uAt p 4 4 = 0 → updBusy s.update = false → s.update.st ≠ .verified →
    answers (.updateActivate c) c 0x0F03 0x0F80 [] s s) ∧
  (∀ (c : Cmd) (s : State) (k : Bool), admitted 0x0F04 0 0 none c s → s.update.migFailed = true → answers (.updateConfirm k c) c 0x0F04 stMigrationFail [] s s) ∧
  (∀ (c : Cmd) (s : State) (k : Bool), admitted 0x0F04 0 0 none c s → s.update.migFailed = false → s.update.st = .trial → s.update.selfTest.all id = false → answers (.updateConfirm k c) c 0x0F04 0x0F82 [] s s) ∧
  (∀ (c : Cmd) (s s1 : State) (b : Bank), admitted 0x0F04 0 0 none c s → s.update.migFailed = false → s.update.st = .trial → s.update.selfTest.all id = true → bankOf s s.update.bank = b →
    updRec 0x57 s.update.bank (le 1 (bundleSecurity b) ++ le 4 (bundleVersion b)) s = (true, s1) →
    oks (.updateConfirm true c) c 0x0F04 s (fun u => u.update.st = .idle ∧ u.update.bank = s1.update.bank ∧ u.otp.counter = max s1.otp.counter (bundleSecurity b) ∧ u.update.restartWait = none)) ∧
  (∀ (c : Cmd) (s : State), admitted 0x0F05 0 0 none c s → s.update.st = .trial → s.update.cold = false → 1 ≤ s.update.switched →
    answers (.updateRevert c) c 0x0F05 stAccepted [] s { s with update := { s.update with st := .handover, reversing := some 2, switchAt := dtNow s } }) ∧
  (∀ (c : Cmd) (s : State), admitted 0x0F05 0 0 none c s → s.update.st ≠ .trial → answers (.updateRevert c) c 0x0F05 stBadState [] s s) ∧
  (∀ (c : Cmd) (s : State), admitted 0x0F06 0 0 none c s → (s.update.st = .loading ∨ s.update.st = .loaded ∨ s.update.st = .verified) →
    answers (.updateAbort c) c 0x0F06 stOk [] s { s with update := { s.update with st := .idle } }) ∧
  (∀ (c : Cmd) (s : State), admitted 0x0F06 0 0 none c s → s.update.st ≠ .loading → s.update.st ≠ .loaded → s.update.st ≠ .verified → answers (.updateAbort c) c 0x0F06 stBadState [] s s) ∧
  (∀ (c : Cmd) (s : State), admitted 0x0F07 0 16 none c s → reads (.updateStatus c) c 0x0F07 (updateStatusBytes s) s) ∧
  (∀ (c : Cmd) (s : State), admitted 0x0F08 0 20 none c s → reads (.journalStatus c) c 0x0F08 (journalStatusBytes s) s) ∧
  (∀ (c : Cmd) (s : State), admitted 0x0F09 0 0 none c s → answers (.journalCompact c) c 0x0F09 stAccepted [] s { s with journal := { s.journal with compacting := true } })

/-- Supply and RESET_N, start-up, power states and wake sources (15 R558, 17 R606 to R608, R614, R615, 18 R636, R644). -/
def Obligations.RestartEvents : Prop :=
  (∀ (s : State), s.power.rails ≠ .aonLost → reaches .vddAonLoss s (fun u => u.power.st = .off ∧ u.power.rails = .aonLost ∧ u.power.cause = 0 ∧ u.recorder.ring = [] ∧ u.meter.ring = [] ∧ u.time.rtc = none ∧
    u.power.soundings = [] ∧ u.sec.log = [] ∧ u.sec.keys = [] ∧ u.otp = s.otp ∧ u.journal.segs = s.journal.segs ∧ u.update.bankA = s.update.bankA ∧ u.update.bankB = s.update.bankB)) ∧
  (∀ (s : State), s.power.rails = .aonLost → exec .vddAonLoss s = .next (settle s)) ∧
  (∀ (ms : Nat) (h : Bool) (s : State), s.power.rails = .aonLost →
    exec (.vddAonRise ms h) s = .next (settle { s with power := { s.power with rails := if h then .released else .resetHeld }, sec := { s.sec with cold := s.sec.cold && decide (100 ≤ ms) } })) ∧
  (∀ (s : State), s.power.rails = .released → s.power.st ≠ .off → s.power.st ≠ .slack → s.recorder.loaded = true →
    reaches .vddCoreLoss s (fun u => u.power.st = .off ∧ u.power.rails = .coreLost ∧ u.power.tLoss = some (dtNow s) ∧ u.recorder.ring = s.recorder.ring ∧ u.otp = s.otp ∧ u.sec.keys = [])) ∧
  (∀ (us : Nat) (b : Bool) (s : State), us ≤ 1 → exec (.resetN us b) s = .next (settle s)) ∧
  (∀ (us : Nat) (b : Bool) (s : State), 10 ≤ us → s.power.rails = .released →
    reaches (.resetN us b) s (fun u => u.power.st = .off ∧ u.power.cause = 1 ∧ u.power.rails = .released ∧ u.harbour.ready = false ∧ u.recorder.ring = s.recorder.ring ∧ u.recorder.seq = s.recorder.seq ∧
      u.meter.ring = s.meter.ring ∧ u.power.soundings = s.power.soundings ∧ u.sec.log = s.sec.log ∧ u.knani.shadow = s.knani.shadow ∧ u.journal.segs = s.journal.segs ∧ u.otp = s.otp ∧ u.mem = [])) ∧
  (∀ (b : Boot) (s : State), (s.power.st ≠ .off ∨ s.power.rails ≠ .released) → exec (.startUp b) s = .next (settle s)) ∧
  (∀ (b : Boot) (k : Nat) (s : State), s.power.st = .off → s.power.rails = .released → b.refIn = true → lcPending { s with votes := { s.votes with lifeCycle := s.votes.lifeCycle.write s.otp.lifeCycle } } = none →
    b.tamper = some k → 1 ≤ s.otp.lifeCycle → s.otp.lifeCycle ≤ 3 → s.otp.tamperEpoch ≠ 64 →
    reaches (.startUp b) s (fun u => u.power.st = .safe ∧ u.power.tamperSafe = true ∧ u.sec.keys = [] ∧ u.sec.alarmed = true ∧ u.harbour.ready = s.harbour.ready)) ∧
  (∀ (b : Boot) (s s1 : State), s.power.st = .off → s.power.rails = .released → bootLife (bootRef b s) = (false, s1) → b.tamper = none → s1.otp.enrolled = false → s1.otp.helperBurnt = false → s1.power.st = .off →
    (bootBank b (bootAlarm (bootJournal b (bootRing b (bootRegions b s1))))).power.st = .off →
    reaches (.startUp b) s (fun u => u.harbour.ready = true ∧ u.sec.wiped = false ∧ u.recorder.loaded = true)) ∧
  (∀ (s : State), s.power.entering = some .neap → s.power.wakeKept = none → (runTo (nextBoundary s) s).power.vddFlight = none → s.power.st = .spring →
    reaches .neapEntry s (fun u => u.power.st = .neap ∧ u.power.entering = none ∧ u.power.vddReq = 700 ∧ u.pose = {} ∧ u.net = {} ∧ u.cell = {} ∧ u.journal.mirrorOk = true)) ∧
  (∀ (s : State), s.power.entering ≠ some .neap → exec .neapEntry s = .next (settle s)) ∧
  (∀ (s : State), s.power.st = .neap → s.power.entering = none → s.power.wakeAlarm ≠ 0 → s.sec.wiped = false →
    reaches .wakeRtcAlarm s (fun u => u.power.st = .spring ∧ u.power.wakeAlarm = 0 ∧ u.power.wakeKept = none)) ∧
  (∀ (s : State), s.power.wakeAlarm = 0 → exec .wakeRtcAlarm s = .next (settle s)) ∧
  (∀ (pin : Nat) (f : Bool) (s : State), s.power.st = .slack → s.power.entering = none → pin ≤ 3 → bit s.power.wakeMask pin = true → bit (s.power.wakeEdges / 4 ^ pin % 4) (b1 f) = true →
    reaches (.wakeGpio pin f) s (fun u => u.power.st = .off ∧ u.power.cause = 3 ∧ u.sec.keys = [] ∧ u.otp = s.otp)) ∧
  (∀ (pin : Nat) (f : Bool) (s : State), (4 ≤ pin ∨ bit s.power.wakeMask pin = false) → exec (.wakeGpio pin f) s = .next (settle s))

/-- The power-fail warning, PMBus, supervision, the patrol scrub, soundings and RECORDER_LOSS (17 R610 to R612, R616 to R619, R622). -/
def Obligations.PowerEvents : Prop :=
  (∀ (n : Nat) (s : State), s.power.pfwAt = none → s.power.st = .spring → reaches (.powerPfw n) s (fun u => u.power.pfwAt = some (dtNow s) ∧ u.otp = s.otp ∧ u.update = s.update)) ∧
  (∀ (n : Nat) (s : State), s.power.pfwAt = none → s.power.st = .neap →
    exec (.powerPfw n) s = .next (settle (raise { code := 0x1003, sev := 3, src := 4, p0 := stOf (dtNow s), p1 := n % 2 ^ 32 } { s with power := { s.power with pfwAt := some (dtNow s) } }))) ∧
  (∀ (n : Nat) (s : State), s.power.pfwAt ≠ none → exec (.powerPfw n) s = .next (settle s)) ∧
  (∀ (n t : Nat) (s : State), s.power.pfwAt = some t → reaches (.powerPfwEnd n) s (fun u => u.power.pfwAt = none ∧ u.time.cyc = (runTo (t + us1 * n + 10 * ms1) s).time.cyc)) ∧
  (∀ (s : State) (c v mv : Nat), s.power.vddFlight = some (c, v) → mv ≤ s.power.vddReq + 10 → s.power.vddReq ≤ mv + 10 →
    reaches (.pmbusReadback true true mv) s (fun u => u.power.vddFlight = none ∧ u.power.pmbusFault = false ∧ u.power.vddRead = some mv ∧ u.power.vddReq = s.power.vddReq)) ∧
  (∀ (s : State) (c v mv : Nat) (b : Bool), s.power.vddFlight = some (c, v) → reaches (.pmbusReadback false b mv) s (fun u => u.power.vddFlight = none ∧ u.power.pmbusFault = true ∧ u.power.vddRead = s.power.vddRead)) ∧
  (∀ (s : State) (c v mv : Nat), s.power.vddFlight = some (c, v) → reaches (.pmbusReadback true false mv) s (fun u => u.power.vddFlight = none ∧ u.power.pmbusFault = true ∧ u.power.vddRead = s.power.vddRead)) ∧
  (∀ (v : Nat) (s : State), reaches (.pmbAlert v) s (fun u => u.power.statusWord = v % 65536 ∧ u.power.vddReq = s.power.vddReq ∧ u.power.st = s.power.st)) ∧
  (∀ (s : State), s.power.fatal = none → reaches .lockstepDisagreement s (fun u => u.power.fatal = some 0 ∧ u.power.st = .safe ∧ stopOutLow u = true ∧ u.fleet = {} ∧ u.net = {})) ∧
  (∀ (s : State), s.power.fatal = none → reaches .safeHeartbeatMiss s (fun u => u.power.fatal = some 1 ∧ u.power.st = .safe ∧ stopOutLow u = true)) ∧
  (∀ (c : Nat) (s : State), s.power.fatal = some c → exec .lockstepDisagreement s = .next (settle s) ∧ exec .safeHeartbeatMiss s = .next (settle s)) ∧
  (∀ (h : Bool) (s : State), reaches (.processorHeartbeat [true, true, true, true] [false, false, false, false] h) s
    (fun u => (∀ k, k < 4 → k < s.power.missed.length → u.power.missed.getD k 0 = 0) ∧ u.power.restarts = s.power.restarts ∧ u.recorder = s.recorder)) ∧
  (∀ (h : Bool) (s : State), s.power.missed = [2, 0, 0, 0] → s.power.restarts = [] →
    reaches (.processorHeartbeat [false, true, true, true] [false, false, false, false] h) s (fun u => u.power.restarts = [(1, s.time.cyc)] ∧ u.power.restartTotal = (s.power.restartTotal + 1) % 2 ^ 32 ∧
      u.power.missed = [0, 0, 0, 0] ∧ u.harbour.nops = [])) ∧
  (∀ (m p a : Nat) (x y : Int) (s : State), m ≤ 5 → domainUp s (scrubActivity m).2 = true → s.power.passAt.length = 12 →
    reaches (.patrolScrub m p a true true x y) s (fun u => u.power.passAt.getD (scrubActivity m).1 0 = s.time.cyc ∧ u.power.eccFatal = s.power.eccFatal ∧ u.power.eccCorr = s.power.eccCorr)) ∧
  (∀ (m p a : Nat) (x y : Int) (s : State), m ≤ 5 → domainUp s (scrubActivity m).2 = true →
    reaches (.patrolScrub m p a true false x y) s (fun u => u.power.eccCorr = lmod s.power.eccCorr m (fun v => (v + 1) % 2 ^ 32) ∧ u.power.eccFatal = s.power.eccFatal ∧ u.raster = s.raster ∧ u.sec = s.sec)) ∧
  (∀ (a p : Nat) (x y : Int) (s : State), s.power.st = .spring → domainUp s (scrubActivity 1).2 = true → s.power.fatal = none →
    (p = 4 → reaches (.patrolScrub 1 p a false false x y) s (fun u => u.power.fatal = some 2 ∧ u.power.st = .safe))) ∧
  (∀ (t : Int) (e p : Nat) (s : State), domainUp s 2 = true → s.power.soundSub = false →
    reaches (.sounding t e p) s (fun u => let r := runToCyc (s.power.soundAt + cycMs (1000 * s.power.soundPeriod)) s
      u.power.soundings = (s.power.soundings ++ [soundingBytes t e p r]).drop (s.power.soundings.length + 1 - 64) ∧ u.power.soundSeq = (s.power.soundSeq + 1) % 65536 ∧ u.power.soundAt = r.time.cyc)) ∧
  (∀ (t : Nat) (s s1 : State), s.recorder.firstDrop = some t → runTo (sec1 * (s.recorder.lastDropSec + 2)) s = s1 →
    exec .recorderLoss s = .next (settle (raise { code := 0x1101, sev := max 2 (highestDrop s.recorder.lossDrops), p0 := packDrops s.recorder.lossDrops 0, p1 := packDrops s.recorder.lossDrops 4, p2 := min 0xFFFFFFFF s.recorder.lossDrops.sum, first := some t }
      { s1 with recorder := { s1.recorder with lossDrops := List.replicate 8 0, firstDrop := none } }))) ∧
  (∀ (s : State), s.recorder.firstDrop = none → exec .recorderLoss s = .next (settle s))

/-- The POWER and RECORDER commands (17 R606 to R608, R619, R622 to R624, R627, R629): what each answers and leaves. -/
def Obligations.PowerRecorderCommands : Prop :=
  (∀ (c : Cmd) (s : State), admitted 0x1001 0 24 none c s → reads (.powerStatus c) c 0x1001 (powerStatusBytes s) s) ∧
  (∀ (c : Cmd) (s : State), admitted 0x1002 1 0 none c s → uAt (prmOf c) 0 1 = 2 → s.power.st = .spring → leaveMask s = 0 → s.power.entering = none →
    answers (.powerSetState c) c 0x1002 stAccepted [] s { s with power := { s.power with entering := some .neap } }) ∧
  (∀ (c : Cmd) (s : State), admitted 0x1002 1 0 none c s → (uAt (prmOf c) 0 1 = 1 ∨ uAt (prmOf c) 0 1 = 2) → s.power.st = .spring → leaveMask s ≠ 0 → s.power.entering = none →
    answers (.powerSetState c) c 0x1002 stBadState (le 4 (leaveMask s)) s s) ∧
  (∀ (c : Cmd) (s : State), admitted 0x1002 1 0 none c s → uAt (prmOf c) 0 1 = 1 → (s.power.st = .neap ∨ s.power.st = .spring ∧ leaveMask s = 0) → s.power.wakeKept = none →
    exec (.powerSetState c) s = .next (settle (enterSlack { complete c.mbx c.slot 0x1002 c.tag.toNat stAccepted [] { s with power := { s.power with entering := some .slack } } with
      power := { s.power with entering := none } })) ∧
    reaches (.powerSetState c) s (fun u => u.power.st = .slack ∧ u.sec.keys = [] ∧ u.otp = s.otp)) ∧
  (∀ (c : Cmd) (s : State), admitted 0x1002 1 0 none c s → uAt (prmOf c) 0 1 = 3 → s.power.st = .spring → s.power.entering = none → answers (.powerSetState c) c 0x1002 stAccepted [] s s) ∧
  (∀ (c : Cmd) (s : State), admitted 0x1002 1 0 none c s → (uAt (prmOf c) 0 1 = 0 ∨ 3 < uAt (prmOf c) 0 1) → s.power.entering = none → answers (.powerSetState c) c 0x1002 stBadParam [] s s) ∧
  (∀ (c : Cmd) (s : State) (p : List Byte), admitted 0x1003 12 0 none c s → prmOf c = p → uAt p 0 1 ≤ 15 → zeros p 2 2 = true → (uAt p 4 8 = 0 ∨ dtNow s < sec1 * uAt p 4 8) →
    answers (.powerWakeConfig c) c 0x1003 stOk [] s { s with power := { s.power with wakeMask := uAt p 0 1, wakeEdges := uAt p 1 1, wakeAlarm := uAt p 4 8 } }) ∧
  (∀ (c : Cmd) (s : State) (p : List Byte), admitted 0x1003 12 0 none c s → prmOf c = p → uAt p 0 1 ≤ 15 → zeros p 2 2 = true → uAt p 4 8 ≠ 0 → sec1 * uAt p 4 8 ≤ dtNow s →
    answers (.powerWakeConfig c) c 0x1003 stStale [] s s) ∧
  (∀ (c : Cmd) (s : State) (n b : Nat), admitted 0x1004 3 0 none c s → uAt (prmOf c) 0 2 = n → 1 ≤ n → n ≤ 3600 → uAt (prmOf c) 2 1 = b → b ≤ 1 →
    answers (.powerSoundingConfig c) c 0x1004 stOk [] s { s with power := { s.power with soundPeriod := n, soundSub := b == 1 } }) ∧
  (∀ (c : Cmd) (s : State) (n : Nat), admitted 0x1005 1 (64 * min 3 (uAt (prmOf c) 0 1)) none c s → uAt (prmOf c) 0 1 = n → 1 ≤ n → n ≤ 3 →
    reads (.powerSoundingRead c) c 0x1005 ((s.power.soundings.reverse.take n).flatten) s) ∧
  (∀ (c : Cmd) (s : State), admitted 0x1006 0 48 none c s → reads (.powerUndertowStatus c) c 0x1006 ((List.range 12).map (fun k => le 4 (passAge s k))).flatten s) ∧
  (∀ (c : Cmd) (s : State) (q n : Nat), admitted 0x1101 4 (min 224 (recorderReadMax c)) none c s → uAt (prmOf c) 0 2 = q → uAt (prmOf c) 2 1 = n → 1 ≤ n → n ≤ 7 → uAt (prmOf c) 3 1 = 0 →
    reads (.recorderRead c) c 0x1101 (((s.recorder.ring.filter (fun r => decide (0 ≤ diffN 16 r.seq q))).map evBytes).take n).flatten s) ∧
  (∀ (c : Cmd) (s : State) (q n : Nat), admitted 0x1101 4 (min 224 (recorderReadMax c)) none c s → uAt (prmOf c) 0 2 = q → uAt (prmOf c) 2 1 = n → 1 ≤ n → n ≤ 7 → uAt (prmOf c) 3 1 = 1 →
    reads (.recorderRead c) c 0x1101 (((journalEvents s).filter (fun b => decide (0 ≤ diffN 16 (uAt b 28 2) q))).take n).flatten s) ∧
  (∀ (c : Cmd) (s : State) (v : Nat), admitted 0x1102 1 0 none c s → uAt (prmOf c) 0 1 = v → (v ≤ 7 ∨ v = 0xFF) →
    answers (.recorderSubscribe c) c 0x1102 stOk [] s { s with recorder := { s.recorder with subscribe := if v = 0xFF then none else some v } }) ∧
  (∀ (c : Cmd) (s : State) (p : List Byte), admitted 0x1103 4 0 none c s → prmOf c = p → uAt p 2 1 ≠ 0 → uAt p 3 1 ≤ 7 →
    answers (.recorderConfig c) c 0x1103 stOk [] s { s with recorder := if uAt p 0 2 == 0 then { s.recorder with mirrorMin := uAt p 3 1, rate := uAt p 2 1, rates := [] }
      else { s.recorder with mirrorMin := uAt p 3 1, rates := tset s.recorder.rates (uAt p 0 2) (uAt p 2 1) } }) ∧
  (∀ (c : Cmd) (s : State) (p : List Byte), admitted 0x1103 4 0 none c s → prmOf c = p → (uAt p 2 1 = 0 ∨ 7 < uAt p 3 1) → answers (.recorderConfig c) c 0x1103 stBadParam [] s s) ∧
  (∀ (c : Cmd) (s : State), admitted 0x1104 0 40 none c s → reads (.recorderStatus c) c 0x1104 (recorderStatusBytes s) s)

/-- What the rows of a chapter never change: chapters 03 to 13, 15 and 16, but for the rows named (BEACON, the security rows that can order a restart or enter
SAFE, UPDATE_RESTART). -/
def Obligations.RowFrames : Prop :=
    ((∀ (i : Instr) (s t : State), chapterOf i = 3 → exec i s = .next t →
    t.freeCtr = s.freeCtr ∧ t.votes = s.votes ∧ t.otp = s.otp ∧ t.cell = s.cell ∧ t.raster = s.raster ∧ t.knani = s.knani ∧ t.axes = s.axes ∧ t.meter = s.meter ∧ t.fleet = s.fleet ∧ t.cor = s.cor ∧ t.stop = s.stop ∧ t.net = s.net ∧ t.sec = s.sec ∧ t.update = s.update) ∧
  (∀ (i : Instr) (s t : State), chapterOf i = 4 → exec i s = .next t →
    t.freeCtr = s.freeCtr ∧ t.votes = s.votes ∧ t.otp = s.otp ∧ t.gnss = s.gnss ∧ t.cell = s.cell ∧ t.raster = s.raster ∧ t.knani = s.knani ∧ t.axes = s.axes ∧ t.meter = s.meter ∧ t.cor = s.cor ∧ t.stop = s.stop ∧ t.sec = s.sec ∧ t.update = s.update ∧ t.power = s.power) ∧
  (∀ (i : Instr) (s t : State), chapterOf i = 5 → exec i s = .next t →
    t.freeCtr = s.freeCtr ∧ t.votes = s.votes ∧ t.otp = s.otp ∧ t.gnss = s.gnss ∧ t.pose = s.pose ∧ t.meter = s.meter ∧ t.fleet = s.fleet ∧ t.stop = s.stop ∧ t.net = s.net ∧ t.sec = s.sec ∧ t.update = s.update) ∧
  (∀ (i : Instr) (s t : State), chapterOf i = 6 → exec i s = .next t →
    t.freeCtr = s.freeCtr ∧ t.votes = s.votes ∧ t.otp = s.otp ∧ t.gnss = s.gnss ∧ t.pose = s.pose ∧ t.knani = s.knani ∧ t.axes = s.axes ∧ t.meter = s.meter ∧ t.fleet = s.fleet ∧ t.cor = s.cor ∧ t.stop = s.stop ∧ t.sec = s.sec ∧ t.update = s.update ∧ t.power = s.power)) ∧
  ((∀ (i : Instr) (s t : State), chapterOf i = 7 → exec i s = .next t →
    t.freeCtr = s.freeCtr ∧ t.votes = s.votes ∧ t.otp = s.otp ∧ t.pose = s.pose ∧ t.raster = s.raster ∧ t.axes = s.axes ∧ t.meter = s.meter ∧ t.fleet = s.fleet ∧ t.cor = s.cor ∧ t.stop = s.stop ∧ t.net = s.net ∧ t.sec = s.sec ∧ t.update = s.update) ∧
  (∀ (i : Instr) (s t : State), chapterOf i = 8 → exec i s = .next t →
    t.freeCtr = s.freeCtr ∧ t.votes = s.votes ∧ t.otp = s.otp ∧ t.time = s.time ∧ t.gnss = s.gnss ∧ t.pose = s.pose ∧ t.cell = s.cell ∧ t.raster = s.raster ∧ t.axes = s.axes ∧ t.meter = s.meter ∧ t.fleet = s.fleet ∧ t.cor = s.cor ∧ t.stop = s.stop ∧ t.net = s.net ∧ t.sec = s.sec ∧ t.update = s.update) ∧
  (∀ (i : Instr) (s t : State), chapterOf i = 9 → exec i s = .next t →
    t.freeCtr = s.freeCtr ∧ t.votes = s.votes ∧ t.otp = s.otp ∧ t.gnss = s.gnss ∧ t.pose = s.pose ∧ t.cell = s.cell ∧ t.raster = s.raster ∧ t.knani = s.knani ∧ t.meter = s.meter ∧ t.fleet = s.fleet ∧ t.cor = s.cor ∧ t.stop = s.stop ∧ t.net = s.net ∧ t.sec = s.sec ∧ t.update = s.update ∧ t.power = s.power) ∧
  (∀ (i : Instr) (s t : State), chapterOf i = 10 → exec i s = .next t →
    t.votes = s.votes ∧ t.otp = s.otp ∧ t.gnss = s.gnss ∧ t.pose = s.pose ∧ t.cell = s.cell ∧ t.raster = s.raster ∧ t.knani = s.knani ∧ t.axes = s.axes ∧ t.fleet = s.fleet ∧ t.cor = s.cor ∧ t.stop = s.stop ∧ t.net = s.net ∧ t.update = s.update ∧ t.power = s.power)) ∧
  ((∀ (i : Instr) (s t : State), chapterOf i = 11 → (∀ x0, i ≠ .beacon x0) → exec i s = .next t →
    t.votes = s.votes ∧ t.otp = s.otp ∧ t.gnss = s.gnss ∧ t.cell = s.cell ∧ t.raster = s.raster ∧ t.knani = s.knani ∧ t.meter = s.meter ∧ t.sec = s.sec ∧ t.update = s.update ∧ t.power = s.power) ∧
  (∀ (i : Instr) (s t : State), chapterOf i = 12 → exec i s = .next t →
    t.freeCtr = s.freeCtr ∧ t.otp = s.otp ∧ t.gnss = s.gnss ∧ t.pose = s.pose ∧ t.cell = s.cell ∧ t.raster = s.raster ∧ t.knani = s.knani ∧ t.meter = s.meter ∧ t.sec = s.sec ∧ t.update = s.update ∧ t.power = s.power) ∧
  (∀ (i : Instr) (s t : State), chapterOf i = 13 → exec i s = .next t →
    t.votes = s.votes ∧ t.otp = s.otp ∧ t.gnss = s.gnss ∧ t.knani = s.knani ∧ t.axes = s.axes ∧ t.meter = s.meter ∧ t.fleet = s.fleet ∧ t.cor = s.cor ∧ t.stop = s.stop ∧ t.sec = s.sec ∧ t.update = s.update ∧ t.power = s.power) ∧
  (∀ (i : Instr) (s t : State), chapterOf i = 15 → (∀ x0, i ≠ .tamperAlarm x0) → i ≠ .tamperSafeEntry → (∀ x0 x1, i ≠ .debugRequest x0 x1) → (∀ x0, i ≠ .secLifecycle x0) → (∀ x0, i ≠ .secUnlock x0) → (∀ x0, i ≠ .secUnlockAck x0) → exec i s = .next t →
    t.votes = s.votes ∧ t.gnss = s.gnss ∧ t.pose = s.pose ∧ t.cell = s.cell ∧ t.raster = s.raster ∧ t.knani = s.knani ∧ t.axes = s.axes ∧ t.meter = s.meter ∧ t.fleet = s.fleet ∧ t.cor = s.cor ∧ t.stop = s.stop ∧ t.net = s.net ∧ t.update = s.update) ∧
  (∀ (i : Instr) (s t : State), chapterOf i = 16 → i ≠ .updateRestart → exec i s = .next t →
    t.freeCtr = s.freeCtr ∧ t.votes = s.votes ∧ t.gnss = s.gnss ∧ t.pose = s.pose ∧ t.cell = s.cell ∧ t.raster = s.raster ∧ t.knani = s.knani ∧ t.axes = s.axes ∧ t.meter = s.meter ∧ t.fleet = s.fleet ∧ t.cor = s.cor ∧ t.stop = s.stop ∧ t.net = s.net ∧ t.sec = s.sec))
end

