-- ==== Sys2Proof/Laws/Bytes.lean ====
section
/-!
SUPPORT. Little-endian bytes and the number they spell; the lengths of the crypto engines' results.
-/
namespace Sys2Proof.Machine

@[simp] theorem le_length (n v : Nat) : (le n v).length = n := by
  induction n generalizing v with
  | zero => rfl
  | succ m ih => simp [le, ih]

/-- Reading back what `le` writes gives the value modulo its width. -/
theorem natOf_le (n v : Nat) : natOf (le n v) = v % 256 ^ n := by
  induction n generalizing v with
  | zero => simp [le, natOf, Nat.mod_one]
  | succ m ih =>
    simp only [le, natOf, ih, BitVec.toNat_ofNat]
    have h : 256 ^ (m + 1) = 256 * 256 ^ m := by rw [Nat.pow_succ, Nat.mul_comm]
    rw [h, Nat.mod_mul]

theorem natOf_lt (b : List Byte) : natOf b < 256 ^ b.length := by
  induction b with
  | nil => simp [natOf]
  | cons x r ih =>
    have := x.isLt
    simp only [natOf, List.length_cons, Nat.pow_succ]
    omega

/-- A field of `n` bytes is below 256 to the `n`. -/
theorem uAt_lt (p : List Byte) (o n : Nat) : uAt p o n < 256 ^ n :=
  Nat.lt_of_lt_of_le (natOf_lt _) (Nat.pow_le_pow_right (by decide) (List.length_take_le _ _))

@[simp] theorem sized_length (n : Nat) (b : List Byte) : (sized n b).length = n := by simp [sized]

@[simp] theorem aesOf_length (m : Nat) (d : Bool) (k iv x : List Byte) : (aesOf m d k iv x).length = x.length := sized_length _ _

@[simp] theorem cmacOf_length (k m : List Byte) : (cmacOf k m).length = 16 := sized_length _ _

@[simp] theorem gcmTagOf_length (k iv a ct : List Byte) : (gcmTagOf k iv a ct).length = 16 := sized_length _ _

@[simp] theorem hashOf_length (a : Nat) (m : List Byte) : (hashOf a m).length = if a == 0 then 32 else 48 := sized_length _ _

@[simp] theorem hmacOf_length (a : Nat) (k m : List Byte) : (hmacOf a k m).length = if a == 0 then 32 else 48 := sized_length _ _

@[simp] theorem signOf_length (ty : Nat) (k d : List Byte) (v : Nat) : (signOf ty k d v).length = if ty == 5 then 64 else 96 := sized_length _ _

@[simp] theorem kdfOf_length (k l x : List Byte) (n : Nat) : (kdfOf k l x n).length = n := sized_length _ _

end Sys2Proof.Machine
end

