-- ==== Sys2Proof/Laws/Commands.lean ====
section
/-!
SUPPORT. How a command whose checks pass completes: the lemmas that the statements about commands go through.
-/
namespace Sys2Proof.Safety
open Sys2Proof.Machine
/-- A command whose checks pass and whose body completes at once answers that completion. -/
theorem answers_command {i : Instr} {c : Cmd} {s u : State} {op n m st : Nat} {ro : Option Nat} {r : List Byte} {body : List Byte → State → Reply × State}
    (hx : exec i s = done (command op n m ro body c s)) (h : admitted op n m ro c s) (hb : body (prmOf c) s = (.now st r, u)) :
    answers i c op st r s u := by
  obtain ⟨h1, h2, h3⟩ := h
  unfold answers
  rw [hx]
  simp [command, commandC, done, h1, h2, h3, hb]
theorem oks_command {i : Instr} {c : Cmd} {s : State} {op n m : Nat} {ro : Option Nat} {r : List Byte} {body : List Byte → State → Reply × State} {P : State → Prop}
    (hx : exec i s = done (command op n m ro body c s)) (h : admitted op n m ro c s) (hb : (body (prmOf c) s).1 = .now stOk r) (hP : P (body (prmOf c) s).2) :
    oks i c op s P := ⟨r, _, answers_command hx h (Prod.ext hb rfl), hP⟩
theorem oks_commandC {i : Instr} {c : Cmd} {s : State} {op n m : Nat} {ro : Option Nat} {r : List Byte} {body : Cmd → List Byte → State → Reply × State} {P : State → Prop}
    (hx : exec i s = done (commandC op n m ro body c s)) (h : admitted op n m ro c s) (hb : (body c (prmOf c) s).1 = .now stOk r) (hP : P (body c (prmOf c) s).2) :
    oks i c op s P := by
  obtain ⟨h1, h2, h3⟩ := h
  refine ⟨r, (body c (prmOf c) s).2, ?_, hP⟩
  have hb' : body c (prmOf c) s = (.now stOk r, (body c (prmOf c) s).2) := Prod.ext hb rfl
  unfold answers
  rw [hx]
  simp only [commandC, done, h1, h2, h3]
  rw [hb']
  simp
theorem accepts_command {i : Instr} {c : Cmd} {s : State} {op n m : Nat} {ro : Option Nat} {body : List Byte → State → Reply × State} {P : State → Prop}
    (hx : exec i s = done (command op n m ro body c s)) (h : admitted op n m ro c s) (hb : (body (prmOf c) s).1 = .now stAccepted []) (hP : P (body (prmOf c) s).2) :
    accepts i c op s P := ⟨_, answers_command hx h (Prod.ext hb rfl), hP⟩
/-- The same for a command whose body sees the whole command. -/
theorem answers_commandC {i : Instr} {c : Cmd} {s u : State} {op n m st : Nat} {ro : Option Nat} {r : List Byte} {body : Cmd → List Byte → State → Reply × State}
    (hx : exec i s = done (commandC op n m ro body c s)) (h : admitted op n m ro c s) (hb : body c (prmOf c) s = (.now st r, u)) :
    answers i c op st r s u := by
  obtain ⟨h1, h2, h3⟩ := h
  unfold answers
  rw [hx]
  simp [commandC, done, h1, h2, h3, hb]
/-- A command whose checks pass and whose body completes later answers the state that its body leaves. -/
theorem later_commandC {i : Instr} {c : Cmd} {s u : State} {op n m : Nat} {ro : Option Nat} {body : Cmd → List Byte → State → Reply × State}
    (hx : exec i s = done (commandC op n m ro body c s)) (h : admitted op n m ro c s) (hb : body c (prmOf c) s = (.later, u)) :
    exec i s = .next (settle u) := by
  obtain ⟨h1, h2, h3⟩ := h
  rw [hx]
  simp [commandC, done, h1, h2, h3, hb]
end Sys2Proof.Safety
end

