-- ==== Sys2Proof/Laws/Ops.lean ====
section
/-!
SUPPORT. What each shared operation can change: one frame equation per operation, and from it one simp lemma per field that it leaves alone.
-/
namespace Sys2Proof.Machine

/-! ## Events -/

/-- A copy of a record changes the journal and S_1 alone. -/
theorem copyRec_frame (now : Nat) (x : EvRec) (s : State) :
    (copyRec now x s).1 = { s with journal := (copyRec now x s).1.journal, harbour := { s.harbour with s1 := (copyRec now x s).1.harbour.s1 } } := by
  unfold copyRec
  rfl

/-- One occurrence of an event changes the recorder, the journal and S_1 alone. -/
theorem raiseOnce_frame (now : Nat) (e : Ev) (s : State) :
    ∃ r j q, (raiseOnce now e s).1 = { s with recorder := r, journal := j, harbour := { s.harbour with s1 := q } } := by
  unfold raiseOnce
  dsimp only
  repeat' split
  all_goals exact ⟨_, _, _, rfl⟩

theorem raiseList_shape (n now : Nat) (es : List Ev) (s : State) :
    ∃ r j q, raiseList n now es s = { s with recorder := r, journal := j, harbour := { s.harbour with s1 := q } } := by
  induction n generalizing es s with
  | zero => exact ⟨_, _, _, rfl⟩
  | succ n ih =>
    cases es with
    | nil => exact ⟨_, _, _, rfl⟩
    | cons e r =>
      obtain ⟨a, b, c, h⟩ := raiseOnce_frame now e s
      obtain ⟨a', b', c', h'⟩ := ih ((raiseOnce now e s).2 ++ r) (raiseOnce now e s).1
      refine ⟨a', b', c', ?_⟩
      show raiseList n now ((raiseOnce now e s).2 ++ r) (raiseOnce now e s).1 = _
      rw [h', h]

/-! ## Outbox and time -/

theorem emit_frame (k : OutKind) (i r : Nat) (d : List Byte) (s : State) : emit k i r d s = { s with out := (emit k i r d s).out } := rfl

/-! ## Mailboxes -/

theorem setMbx_frame (m : Nat) (f : Mbx → Mbx) (s : State) :
    setMbx m f s = { s with harbour := { s.harbour with mbxs := (setMbx m f s).harbour.mbxs } } := rfl

theorem areaWrite_frame (m off : Nat) (d : List Byte) (s : State) :
    areaWrite m off d s = { s with out := (areaWrite m off d s).out, mem := (areaWrite m off d s).mem } := by
  unfold areaWrite
  split <;> rfl

theorem writeCompletion_frame (m q : Nat) (k : Completion) (s : State) :
    writeCompletion m q k s = { s with out := (writeCompletion m q k s).out, mem := (writeCompletion m q k s).mem } := by
  unfold writeCompletion areaWrite
  dsimp only
  repeat' split
  all_goals rfl

theorem releaseOne_frame (m : Nat) (h : Held) (s : State) :
    ∃ o e b c, releaseOne m h s = { s with out := o, mem := e, harbour := { s.harbour with mbxs := b, credit := c } } := by
  unfold releaseOne
  cases h.done with
  | none => exact ⟨_, _, _, _, rfl⟩
  | some k =>
    dsimp only
    split
    · exact ⟨_, _, _, _, rfl⟩
    · exact ⟨_, _, _, _, writeCompletion_frame _ _ _ _⟩

theorem releaseFold_frame (m : Nat) (l : List Held) (s : State) :
    ∃ o e b c, l.foldl (fun st h => releaseOne m h st) s = { s with out := o, mem := e, harbour := { s.harbour with mbxs := b, credit := c } } := by
  induction l generalizing s with
  | nil => exact ⟨_, _, _, _, rfl⟩
  | cons h r ih =>
    obtain ⟨o', e', b', c', h1⟩ := releaseOne_frame m h s
    obtain ⟨o, e, b, c, hr⟩ := ih (releaseOne m h s)
    exact ⟨o, e, b, c, by rw [List.foldl_cons, hr, h1]⟩

theorem releaseAll_frame (m : Nat) (s : State) :
    ∃ o e b c, releaseAll m s = { s with out := o, mem := e, harbour := { s.harbour with mbxs := b, credit := c } } := by
  obtain ⟨o, e, b, c, h⟩ := releaseFold_frame m (finished (mbxOf s m).held).1 (setMbx m (fun b => { b with held := (finished (mbxOf s m).held).2 }) s)
  exact ⟨o, e, b, c, h⟩

theorem complete_shape (m k op tag st : Nat) (r : List Byte) (s : State) :
    ∃ o e b c, complete m k op tag st r s = { s with out := o, mem := e, harbour := { s.harbour with mbxs := b, credit := c } } := by
  unfold complete
  dsimp only
  split
  · obtain ⟨o, e, b, c, h⟩ := releaseAll_frame m (setMbx m (fun b => { b with held := lmod b.held _ (fun h => { h with done := some _ }) }) s)
    exact ⟨o, e, b, c, h⟩
  · exact releaseOne_frame _ _ _

/-! ## Settling -/

/-- Settling changes the ready pins, the interrupt levels and the outbox alone. -/
theorem settle_shape (s : State) :
    ∃ o a b c, settle s = { s with out := o, harbour := { s.harbour with s0 := a, s1 := b, cause := c } } := by
  unfold settle sendMsi
  dsimp only
  split
  · exact ⟨_, _, _, _, rfl⟩
  · exact ⟨_, _, _, _, rfl⟩

/-! ## One lemma per field that an operation leaves alone -/

@[simp] theorem raiseList_pending (n now : Nat) (es : List Ev) (s : State) : (raiseList n now es s).pending = s.pending := by
  obtain ⟨r, j, q, h⟩ := raiseList_shape n now es s; rw [h]
@[simp] theorem raiseList_out (n now : Nat) (es : List Ev) (s : State) : (raiseList n now es s).out = s.out := by
  obtain ⟨r, j, q, h⟩ := raiseList_shape n now es s; rw [h]
@[simp] theorem raiseList_freeCtr (n now : Nat) (es : List Ev) (s : State) : (raiseList n now es s).freeCtr = s.freeCtr := by
  obtain ⟨r, j, q, h⟩ := raiseList_shape n now es s; rw [h]
@[simp] theorem raiseList_mem (n now : Nat) (es : List Ev) (s : State) : (raiseList n now es s).mem = s.mem := by
  obtain ⟨r, j, q, h⟩ := raiseList_shape n now es s; rw [h]
@[simp] theorem raiseList_votes (n now : Nat) (es : List Ev) (s : State) : (raiseList n now es s).votes = s.votes := by
  obtain ⟨r, j, q, h⟩ := raiseList_shape n now es s; rw [h]
@[simp] theorem raiseList_otp (n now : Nat) (es : List Ev) (s : State) : (raiseList n now es s).otp = s.otp := by
  obtain ⟨r, j, q, h⟩ := raiseList_shape n now es s; rw [h]
@[simp] theorem raiseList_time (n now : Nat) (es : List Ev) (s : State) : (raiseList n now es s).time = s.time := by
  obtain ⟨r, j, q, h⟩ := raiseList_shape n now es s; rw [h]
@[simp] theorem raiseList_gnss (n now : Nat) (es : List Ev) (s : State) : (raiseList n now es s).gnss = s.gnss := by
  obtain ⟨r, j, q, h⟩ := raiseList_shape n now es s; rw [h]
@[simp] theorem raiseList_pose (n now : Nat) (es : List Ev) (s : State) : (raiseList n now es s).pose = s.pose := by
  obtain ⟨r, j, q, h⟩ := raiseList_shape n now es s; rw [h]
@[simp] theorem raiseList_cell (n now : Nat) (es : List Ev) (s : State) : (raiseList n now es s).cell = s.cell := by
  obtain ⟨r, j, q, h⟩ := raiseList_shape n now es s; rw [h]
@[simp] theorem raiseList_raster (n now : Nat) (es : List Ev) (s : State) : (raiseList n now es s).raster = s.raster := by
  obtain ⟨r, j, q, h⟩ := raiseList_shape n now es s; rw [h]
@[simp] theorem raiseList_knani (n now : Nat) (es : List Ev) (s : State) : (raiseList n now es s).knani = s.knani := by
  obtain ⟨r, j, q, h⟩ := raiseList_shape n now es s; rw [h]
@[simp] theorem raiseList_axes (n now : Nat) (es : List Ev) (s : State) : (raiseList n now es s).axes = s.axes := by
  obtain ⟨r, j, q, h⟩ := raiseList_shape n now es s; rw [h]
@[simp] theorem raiseList_meter (n now : Nat) (es : List Ev) (s : State) : (raiseList n now es s).meter = s.meter := by
  obtain ⟨r, j, q, h⟩ := raiseList_shape n now es s; rw [h]
@[simp] theorem raiseList_fleet (n now : Nat) (es : List Ev) (s : State) : (raiseList n now es s).fleet = s.fleet := by
  obtain ⟨r, j, q, h⟩ := raiseList_shape n now es s; rw [h]
@[simp] theorem raiseList_cor (n now : Nat) (es : List Ev) (s : State) : (raiseList n now es s).cor = s.cor := by
  obtain ⟨r, j, q, h⟩ := raiseList_shape n now es s; rw [h]
@[simp] theorem raiseList_stop (n now : Nat) (es : List Ev) (s : State) : (raiseList n now es s).stop = s.stop := by
  obtain ⟨r, j, q, h⟩ := raiseList_shape n now es s; rw [h]
@[simp] theorem raiseList_net (n now : Nat) (es : List Ev) (s : State) : (raiseList n now es s).net = s.net := by
  obtain ⟨r, j, q, h⟩ := raiseList_shape n now es s; rw [h]
@[simp] theorem raiseList_sec (n now : Nat) (es : List Ev) (s : State) : (raiseList n now es s).sec = s.sec := by
  obtain ⟨r, j, q, h⟩ := raiseList_shape n now es s; rw [h]
@[simp] theorem raiseList_update (n now : Nat) (es : List Ev) (s : State) : (raiseList n now es s).update = s.update := by
  obtain ⟨r, j, q, h⟩ := raiseList_shape n now es s; rw [h]
@[simp] theorem raiseList_power (n now : Nat) (es : List Ev) (s : State) : (raiseList n now es s).power = s.power := by
  obtain ⟨r, j, q, h⟩ := raiseList_shape n now es s; rw [h]
@[simp] theorem raiseList_harbour_mbxs (n now : Nat) (es : List Ev) (s : State) : (raiseList n now es s).harbour.mbxs = s.harbour.mbxs := by
  obtain ⟨r, j, q, h⟩ := raiseList_shape n now es s; rw [h]
@[simp] theorem raiseList_harbour_credit (n now : Nat) (es : List Ev) (s : State) : (raiseList n now es s).harbour.credit = s.harbour.credit := by
  obtain ⟨r, j, q, h⟩ := raiseList_shape n now es s; rw [h]
@[simp] theorem raiseList_harbour_refused (n now : Nat) (es : List Ev) (s : State) : (raiseList n now es s).harbour.refused = s.harbour.refused := by
  obtain ⟨r, j, q, h⟩ := raiseList_shape n now es s; rw [h]
@[simp] theorem raiseList_harbour_refusedTotal (n now : Nat) (es : List Ev) (s : State) : (raiseList n now es s).harbour.refusedTotal = s.harbour.refusedTotal := by
  obtain ⟨r, j, q, h⟩ := raiseList_shape n now es s; rw [h]
@[simp] theorem raiseList_harbour_quadSpi (n now : Nat) (es : List Ev) (s : State) : (raiseList n now es s).harbour.quadSpi = s.harbour.quadSpi := by
  obtain ⟨r, j, q, h⟩ := raiseList_shape n now es s; rw [h]
@[simp] theorem raiseList_harbour_linkUp (n now : Nat) (es : List Ev) (s : State) : (raiseList n now es s).harbour.linkUp = s.harbour.linkUp := by
  obtain ⟨r, j, q, h⟩ := raiseList_shape n now es s; rw [h]
@[simp] theorem raiseList_harbour_linkRate (n now : Nat) (es : List Ev) (s : State) : (raiseList n now es s).harbour.linkRate = s.harbour.linkRate := by
  obtain ⟨r, j, q, h⟩ := raiseList_shape n now es s; rw [h]
@[simp] theorem raiseList_harbour_linkLanes (n now : Nat) (es : List Ev) (s : State) : (raiseList n now es s).harbour.linkLanes = s.harbour.linkLanes := by
  obtain ⟨r, j, q, h⟩ := raiseList_shape n now es s; rw [h]
@[simp] theorem raiseList_harbour_msiVectors (n now : Nat) (es : List Ev) (s : State) : (raiseList n now es s).harbour.msiVectors = s.harbour.msiVectors := by
  obtain ⟨r, j, q, h⟩ := raiseList_shape n now es s; rw [h]
@[simp] theorem raiseList_harbour_ready (n now : Nat) (es : List Ev) (s : State) : (raiseList n now es s).harbour.ready = s.harbour.ready := by
  obtain ⟨r, j, q, h⟩ := raiseList_shape n now es s; rw [h]
@[simp] theorem raiseList_harbour_intMask (n now : Nat) (es : List Ev) (s : State) : (raiseList n now es s).harbour.intMask = s.harbour.intMask := by
  obtain ⟨r, j, q, h⟩ := raiseList_shape n now es s; rw [h]
@[simp] theorem raiseList_harbour_intRoute (n now : Nat) (es : List Ev) (s : State) : (raiseList n now es s).harbour.intRoute = s.harbour.intRoute := by
  obtain ⟨r, j, q, h⟩ := raiseList_shape n now es s; rw [h]
@[simp] theorem raiseList_harbour_cause (n now : Nat) (es : List Ev) (s : State) : (raiseList n now es s).harbour.cause = s.harbour.cause := by
  obtain ⟨r, j, q, h⟩ := raiseList_shape n now es s; rw [h]
@[simp] theorem raiseList_harbour_evtAck (n now : Nat) (es : List Ev) (s : State) : (raiseList n now es s).harbour.evtAck = s.harbour.evtAck := by
  obtain ⟨r, j, q, h⟩ := raiseList_shape n now es s; rw [h]
@[simp] theorem raiseList_harbour_s0 (n now : Nat) (es : List Ev) (s : State) : (raiseList n now es s).harbour.s0 = s.harbour.s0 := by
  obtain ⟨r, j, q, h⟩ := raiseList_shape n now es s; rw [h]
@[simp] theorem raiseList_harbour_indAddr (n now : Nat) (es : List Ev) (s : State) : (raiseList n now es s).harbour.indAddr = s.harbour.indAddr := by
  obtain ⟨r, j, q, h⟩ := raiseList_shape n now es s; rw [h]
@[simp] theorem raiseList_harbour_autoInc (n now : Nat) (es : List Ev) (s : State) : (raiseList n now es s).harbour.autoInc = s.harbour.autoInc := by
  obtain ⟨r, j, q, h⟩ := raiseList_shape n now es s; rw [h]
@[simp] theorem raiseList_harbour_indLatch (n now : Nat) (es : List Ev) (s : State) : (raiseList n now es s).harbour.indLatch = s.harbour.indLatch := by
  obtain ⟨r, j, q, h⟩ := raiseList_shape n now es s; rw [h]
@[simp] theorem raiseList_harbour_readData (n now : Nat) (es : List Ev) (s : State) : (raiseList n now es s).harbour.readData = s.harbour.readData := by
  obtain ⟨r, j, q, h⟩ := raiseList_shape n now es s; rw [h]
@[simp] theorem raiseList_harbour_pairPending (n now : Nat) (es : List Ev) (s : State) : (raiseList n now es s).harbour.pairPending = s.harbour.pairPending := by
  obtain ⟨r, j, q, h⟩ := raiseList_shape n now es s; rw [h]
@[simp] theorem raiseList_harbour_resetReq (n now : Nat) (es : List Ev) (s : State) : (raiseList n now es s).harbour.resetReq = s.harbour.resetReq := by
  obtain ⟨r, j, q, h⟩ := raiseList_shape n now es s; rw [h]
@[simp] theorem raiseList_harbour_resetLatchAt (n now : Nat) (es : List Ev) (s : State) : (raiseList n now es s).harbour.resetLatchAt = s.harbour.resetLatchAt := by
  obtain ⟨r, j, q, h⟩ := raiseList_shape n now es s; rw [h]
@[simp] theorem raiseList_harbour_domainNext (n now : Nat) (es : List Ev) (s : State) : (raiseList n now es s).harbour.domainNext = s.harbour.domainNext := by
  obtain ⟨r, j, q, h⟩ := raiseList_shape n now es s; rw [h]
@[simp] theorem raiseList_harbour_nops (n now : Nat) (es : List Ev) (s : State) : (raiseList n now es s).harbour.nops = s.harbour.nops := by
  obtain ⟨r, j, q, h⟩ := raiseList_shape n now es s; rw [h]
@[simp] theorem raises_pending (es : List Ev) (s : State) : (raises es s).pending = s.pending := raiseList_pending _ _ _ _
@[simp] theorem raises_out (es : List Ev) (s : State) : (raises es s).out = s.out := raiseList_out _ _ _ _
@[simp] theorem raises_freeCtr (es : List Ev) (s : State) : (raises es s).freeCtr = s.freeCtr := raiseList_freeCtr _ _ _ _
@[simp] theorem raises_mem (es : List Ev) (s : State) : (raises es s).mem = s.mem := raiseList_mem _ _ _ _
@[simp] theorem raises_votes (es : List Ev) (s : State) : (raises es s).votes = s.votes := raiseList_votes _ _ _ _
@[simp] theorem raises_otp (es : List Ev) (s : State) : (raises es s).otp = s.otp := raiseList_otp _ _ _ _
@[simp] theorem raises_time (es : List Ev) (s : State) : (raises es s).time = s.time := raiseList_time _ _ _ _
@[simp] theorem raises_gnss (es : List Ev) (s : State) : (raises es s).gnss = s.gnss := raiseList_gnss _ _ _ _
@[simp] theorem raises_pose (es : List Ev) (s : State) : (raises es s).pose = s.pose := raiseList_pose _ _ _ _
@[simp] theorem raises_cell (es : List Ev) (s : State) : (raises es s).cell = s.cell := raiseList_cell _ _ _ _
@[simp] theorem raises_raster (es : List Ev) (s : State) : (raises es s).raster = s.raster := raiseList_raster _ _ _ _
@[simp] theorem raises_knani (es : List Ev) (s : State) : (raises es s).knani = s.knani := raiseList_knani _ _ _ _
@[simp] theorem raises_axes (es : List Ev) (s : State) : (raises es s).axes = s.axes := raiseList_axes _ _ _ _
@[simp] theorem raises_meter (es : List Ev) (s : State) : (raises es s).meter = s.meter := raiseList_meter _ _ _ _
@[simp] theorem raises_fleet (es : List Ev) (s : State) : (raises es s).fleet = s.fleet := raiseList_fleet _ _ _ _
@[simp] theorem raises_cor (es : List Ev) (s : State) : (raises es s).cor = s.cor := raiseList_cor _ _ _ _
@[simp] theorem raises_stop (es : List Ev) (s : State) : (raises es s).stop = s.stop := raiseList_stop _ _ _ _
@[simp] theorem raises_net (es : List Ev) (s : State) : (raises es s).net = s.net := raiseList_net _ _ _ _
@[simp] theorem raises_sec (es : List Ev) (s : State) : (raises es s).sec = s.sec := raiseList_sec _ _ _ _
@[simp] theorem raises_update (es : List Ev) (s : State) : (raises es s).update = s.update := raiseList_update _ _ _ _
@[simp] theorem raises_power (es : List Ev) (s : State) : (raises es s).power = s.power := raiseList_power _ _ _ _
@[simp] theorem raises_harbour_mbxs (es : List Ev) (s : State) : (raises es s).harbour.mbxs = s.harbour.mbxs := raiseList_harbour_mbxs _ _ _ _
@[simp] theorem raises_harbour_credit (es : List Ev) (s : State) : (raises es s).harbour.credit = s.harbour.credit := raiseList_harbour_credit _ _ _ _
@[simp] theorem raises_harbour_refused (es : List Ev) (s : State) : (raises es s).harbour.refused = s.harbour.refused := raiseList_harbour_refused _ _ _ _
@[simp] theorem raises_harbour_refusedTotal (es : List Ev) (s : State) : (raises es s).harbour.refusedTotal = s.harbour.refusedTotal := raiseList_harbour_refusedTotal _ _ _ _
@[simp] theorem raises_harbour_quadSpi (es : List Ev) (s : State) : (raises es s).harbour.quadSpi = s.harbour.quadSpi := raiseList_harbour_quadSpi _ _ _ _
@[simp] theorem raises_harbour_linkUp (es : List Ev) (s : State) : (raises es s).harbour.linkUp = s.harbour.linkUp := raiseList_harbour_linkUp _ _ _ _
@[simp] theorem raises_harbour_linkRate (es : List Ev) (s : State) : (raises es s).harbour.linkRate = s.harbour.linkRate := raiseList_harbour_linkRate _ _ _ _
@[simp] theorem raises_harbour_linkLanes (es : List Ev) (s : State) : (raises es s).harbour.linkLanes = s.harbour.linkLanes := raiseList_harbour_linkLanes _ _ _ _
@[simp] theorem raises_harbour_msiVectors (es : List Ev) (s : State) : (raises es s).harbour.msiVectors = s.harbour.msiVectors := raiseList_harbour_msiVectors _ _ _ _
@[simp] theorem raises_harbour_ready (es : List Ev) (s : State) : (raises es s).harbour.ready = s.harbour.ready := raiseList_harbour_ready _ _ _ _
@[simp] theorem raises_harbour_intMask (es : List Ev) (s : State) : (raises es s).harbour.intMask = s.harbour.intMask := raiseList_harbour_intMask _ _ _ _
@[simp] theorem raises_harbour_intRoute (es : List Ev) (s : State) : (raises es s).harbour.intRoute = s.harbour.intRoute := raiseList_harbour_intRoute _ _ _ _
@[simp] theorem raises_harbour_cause (es : List Ev) (s : State) : (raises es s).harbour.cause = s.harbour.cause := raiseList_harbour_cause _ _ _ _
@[simp] theorem raises_harbour_evtAck (es : List Ev) (s : State) : (raises es s).harbour.evtAck = s.harbour.evtAck := raiseList_harbour_evtAck _ _ _ _
@[simp] theorem raises_harbour_s0 (es : List Ev) (s : State) : (raises es s).harbour.s0 = s.harbour.s0 := raiseList_harbour_s0 _ _ _ _
@[simp] theorem raises_harbour_indAddr (es : List Ev) (s : State) : (raises es s).harbour.indAddr = s.harbour.indAddr := raiseList_harbour_indAddr _ _ _ _
@[simp] theorem raises_harbour_autoInc (es : List Ev) (s : State) : (raises es s).harbour.autoInc = s.harbour.autoInc := raiseList_harbour_autoInc _ _ _ _
@[simp] theorem raises_harbour_indLatch (es : List Ev) (s : State) : (raises es s).harbour.indLatch = s.harbour.indLatch := raiseList_harbour_indLatch _ _ _ _
@[simp] theorem raises_harbour_readData (es : List Ev) (s : State) : (raises es s).harbour.readData = s.harbour.readData := raiseList_harbour_readData _ _ _ _
@[simp] theorem raises_harbour_pairPending (es : List Ev) (s : State) : (raises es s).harbour.pairPending = s.harbour.pairPending := raiseList_harbour_pairPending _ _ _ _
@[simp] theorem raises_harbour_resetReq (es : List Ev) (s : State) : (raises es s).harbour.resetReq = s.harbour.resetReq := raiseList_harbour_resetReq _ _ _ _
@[simp] theorem raises_harbour_resetLatchAt (es : List Ev) (s : State) : (raises es s).harbour.resetLatchAt = s.harbour.resetLatchAt := raiseList_harbour_resetLatchAt _ _ _ _
@[simp] theorem raises_harbour_domainNext (es : List Ev) (s : State) : (raises es s).harbour.domainNext = s.harbour.domainNext := raiseList_harbour_domainNext _ _ _ _
@[simp] theorem raises_harbour_nops (es : List Ev) (s : State) : (raises es s).harbour.nops = s.harbour.nops := raiseList_harbour_nops _ _ _ _
@[simp] theorem raise_pending (e : Ev) (s : State) : (raise e s).pending = s.pending := raises_pending _ _
@[simp] theorem raise_out (e : Ev) (s : State) : (raise e s).out = s.out := raises_out _ _
@[simp] theorem raise_freeCtr (e : Ev) (s : State) : (raise e s).freeCtr = s.freeCtr := raises_freeCtr _ _
@[simp] theorem raise_mem (e : Ev) (s : State) : (raise e s).mem = s.mem := raises_mem _ _
@[simp] theorem raise_votes (e : Ev) (s : State) : (raise e s).votes = s.votes := raises_votes _ _
@[simp] theorem raise_otp (e : Ev) (s : State) : (raise e s).otp = s.otp := raises_otp _ _
@[simp] theorem raise_time (e : Ev) (s : State) : (raise e s).time = s.time := raises_time _ _
@[simp] theorem raise_gnss (e : Ev) (s : State) : (raise e s).gnss = s.gnss := raises_gnss _ _
@[simp] theorem raise_pose (e : Ev) (s : State) : (raise e s).pose = s.pose := raises_pose _ _
@[simp] theorem raise_cell (e : Ev) (s : State) : (raise e s).cell = s.cell := raises_cell _ _
@[simp] theorem raise_raster (e : Ev) (s : State) : (raise e s).raster = s.raster := raises_raster _ _
@[simp] theorem raise_knani (e : Ev) (s : State) : (raise e s).knani = s.knani := raises_knani _ _
@[simp] theorem raise_axes (e : Ev) (s : State) : (raise e s).axes = s.axes := raises_axes _ _
@[simp] theorem raise_meter (e : Ev) (s : State) : (raise e s).meter = s.meter := raises_meter _ _
@[simp] theorem raise_fleet (e : Ev) (s : State) : (raise e s).fleet = s.fleet := raises_fleet _ _
@[simp] theorem raise_cor (e : Ev) (s : State) : (raise e s).cor = s.cor := raises_cor _ _
@[simp] theorem raise_stop (e : Ev) (s : State) : (raise e s).stop = s.stop := raises_stop _ _
@[simp] theorem raise_net (e : Ev) (s : State) : (raise e s).net = s.net := raises_net _ _
@[simp] theorem raise_sec (e : Ev) (s : State) : (raise e s).sec = s.sec := raises_sec _ _
@[simp] theorem raise_update (e : Ev) (s : State) : (raise e s).update = s.update := raises_update _ _
@[simp] theorem raise_power (e : Ev) (s : State) : (raise e s).power = s.power := raises_power _ _
@[simp] theorem raise_harbour_mbxs (e : Ev) (s : State) : (raise e s).harbour.mbxs = s.harbour.mbxs := raises_harbour_mbxs _ _
@[simp] theorem raise_harbour_credit (e : Ev) (s : State) : (raise e s).harbour.credit = s.harbour.credit := raises_harbour_credit _ _
@[simp] theorem raise_harbour_refused (e : Ev) (s : State) : (raise e s).harbour.refused = s.harbour.refused := raises_harbour_refused _ _
@[simp] theorem raise_harbour_refusedTotal (e : Ev) (s : State) : (raise e s).harbour.refusedTotal = s.harbour.refusedTotal := raises_harbour_refusedTotal _ _
@[simp] theorem raise_harbour_quadSpi (e : Ev) (s : State) : (raise e s).harbour.quadSpi = s.harbour.quadSpi := raises_harbour_quadSpi _ _
@[simp] theorem raise_harbour_linkUp (e : Ev) (s : State) : (raise e s).harbour.linkUp = s.harbour.linkUp := raises_harbour_linkUp _ _
@[simp] theorem raise_harbour_linkRate (e : Ev) (s : State) : (raise e s).harbour.linkRate = s.harbour.linkRate := raises_harbour_linkRate _ _
@[simp] theorem raise_harbour_linkLanes (e : Ev) (s : State) : (raise e s).harbour.linkLanes = s.harbour.linkLanes := raises_harbour_linkLanes _ _
@[simp] theorem raise_harbour_msiVectors (e : Ev) (s : State) : (raise e s).harbour.msiVectors = s.harbour.msiVectors := raises_harbour_msiVectors _ _
@[simp] theorem raise_harbour_ready (e : Ev) (s : State) : (raise e s).harbour.ready = s.harbour.ready := raises_harbour_ready _ _
@[simp] theorem raise_harbour_intMask (e : Ev) (s : State) : (raise e s).harbour.intMask = s.harbour.intMask := raises_harbour_intMask _ _
@[simp] theorem raise_harbour_intRoute (e : Ev) (s : State) : (raise e s).harbour.intRoute = s.harbour.intRoute := raises_harbour_intRoute _ _
@[simp] theorem raise_harbour_cause (e : Ev) (s : State) : (raise e s).harbour.cause = s.harbour.cause := raises_harbour_cause _ _
@[simp] theorem raise_harbour_evtAck (e : Ev) (s : State) : (raise e s).harbour.evtAck = s.harbour.evtAck := raises_harbour_evtAck _ _
@[simp] theorem raise_harbour_s0 (e : Ev) (s : State) : (raise e s).harbour.s0 = s.harbour.s0 := raises_harbour_s0 _ _
@[simp] theorem raise_harbour_indAddr (e : Ev) (s : State) : (raise e s).harbour.indAddr = s.harbour.indAddr := raises_harbour_indAddr _ _
@[simp] theorem raise_harbour_autoInc (e : Ev) (s : State) : (raise e s).harbour.autoInc = s.harbour.autoInc := raises_harbour_autoInc _ _
@[simp] theorem raise_harbour_indLatch (e : Ev) (s : State) : (raise e s).harbour.indLatch = s.harbour.indLatch := raises_harbour_indLatch _ _
@[simp] theorem raise_harbour_readData (e : Ev) (s : State) : (raise e s).harbour.readData = s.harbour.readData := raises_harbour_readData _ _
@[simp] theorem raise_harbour_pairPending (e : Ev) (s : State) : (raise e s).harbour.pairPending = s.harbour.pairPending := raises_harbour_pairPending _ _
@[simp] theorem raise_harbour_resetReq (e : Ev) (s : State) : (raise e s).harbour.resetReq = s.harbour.resetReq := raises_harbour_resetReq _ _
@[simp] theorem raise_harbour_resetLatchAt (e : Ev) (s : State) : (raise e s).harbour.resetLatchAt = s.harbour.resetLatchAt := raises_harbour_resetLatchAt _ _
@[simp] theorem raise_harbour_domainNext (e : Ev) (s : State) : (raise e s).harbour.domainNext = s.harbour.domainNext := raises_harbour_domainNext _ _
@[simp] theorem raise_harbour_nops (e : Ev) (s : State) : (raise e s).harbour.nops = s.harbour.nops := raises_harbour_nops _ _
@[simp] theorem raiseIf_pending (b : Bool) (e : Ev) (s : State) : (raiseIf b e s).pending = s.pending := by
  unfold raiseIf; split <;> simp
@[simp] theorem raiseIf_out (b : Bool) (e : Ev) (s : State) : (raiseIf b e s).out = s.out := by
  unfold raiseIf; split <;> simp
@[simp] theorem raiseIf_freeCtr (b : Bool) (e : Ev) (s : State) : (raiseIf b e s).freeCtr = s.freeCtr := by
  unfold raiseIf; split <;> simp
@[simp] theorem raiseIf_mem (b : Bool) (e : Ev) (s : State) : (raiseIf b e s).mem = s.mem := by
  unfold raiseIf; split <;> simp
@[simp] theorem raiseIf_votes (b : Bool) (e : Ev) (s : State) : (raiseIf b e s).votes = s.votes := by
  unfold raiseIf; split <;> simp
@[simp] theorem raiseIf_otp (b : Bool) (e : Ev) (s : State) : (raiseIf b e s).otp = s.otp := by
  unfold raiseIf; split <;> simp
@[simp] theorem raiseIf_time (b : Bool) (e : Ev) (s : State) : (raiseIf b e s).time = s.time := by
  unfold raiseIf; split <;> simp
@[simp] theorem raiseIf_gnss (b : Bool) (e : Ev) (s : State) : (raiseIf b e s).gnss = s.gnss := by
  unfold raiseIf; split <;> simp
@[simp] theorem raiseIf_pose (b : Bool) (e : Ev) (s : State) : (raiseIf b e s).pose = s.pose := by
  unfold raiseIf; split <;> simp
@[simp] theorem raiseIf_cell (b : Bool) (e : Ev) (s : State) : (raiseIf b e s).cell = s.cell := by
  unfold raiseIf; split <;> simp
@[simp] theorem raiseIf_raster (b : Bool) (e : Ev) (s : State) : (raiseIf b e s).raster = s.raster := by
  unfold raiseIf; split <;> simp
@[simp] theorem raiseIf_knani (b : Bool) (e : Ev) (s : State) : (raiseIf b e s).knani = s.knani := by
  unfold raiseIf; split <;> simp
@[simp] theorem raiseIf_axes (b : Bool) (e : Ev) (s : State) : (raiseIf b e s).axes = s.axes := by
  unfold raiseIf; split <;> simp
@[simp] theorem raiseIf_meter (b : Bool) (e : Ev) (s : State) : (raiseIf b e s).meter = s.meter := by
  unfold raiseIf; split <;> simp
@[simp] theorem raiseIf_fleet (b : Bool) (e : Ev) (s : State) : (raiseIf b e s).fleet = s.fleet := by
  unfold raiseIf; split <;> simp
@[simp] theorem raiseIf_cor (b : Bool) (e : Ev) (s : State) : (raiseIf b e s).cor = s.cor := by
  unfold raiseIf; split <;> simp
@[simp] theorem raiseIf_stop (b : Bool) (e : Ev) (s : State) : (raiseIf b e s).stop = s.stop := by
  unfold raiseIf; split <;> simp
@[simp] theorem raiseIf_net (b : Bool) (e : Ev) (s : State) : (raiseIf b e s).net = s.net := by
  unfold raiseIf; split <;> simp
@[simp] theorem raiseIf_sec (b : Bool) (e : Ev) (s : State) : (raiseIf b e s).sec = s.sec := by
  unfold raiseIf; split <;> simp
@[simp] theorem raiseIf_update (b : Bool) (e : Ev) (s : State) : (raiseIf b e s).update = s.update := by
  unfold raiseIf; split <;> simp
@[simp] theorem raiseIf_power (b : Bool) (e : Ev) (s : State) : (raiseIf b e s).power = s.power := by
  unfold raiseIf; split <;> simp
@[simp] theorem raiseIf_harbour_mbxs (b : Bool) (e : Ev) (s : State) : (raiseIf b e s).harbour.mbxs = s.harbour.mbxs := by
  unfold raiseIf; split <;> simp
@[simp] theorem raiseIf_harbour_credit (b : Bool) (e : Ev) (s : State) : (raiseIf b e s).harbour.credit = s.harbour.credit := by
  unfold raiseIf; split <;> simp
@[simp] theorem raiseIf_harbour_refused (b : Bool) (e : Ev) (s : State) : (raiseIf b e s).harbour.refused = s.harbour.refused := by
  unfold raiseIf; split <;> simp
@[simp] theorem raiseIf_harbour_refusedTotal (b : Bool) (e : Ev) (s : State) : (raiseIf b e s).harbour.refusedTotal = s.harbour.refusedTotal := by
  unfold raiseIf; split <;> simp
@[simp] theorem raiseIf_harbour_quadSpi (b : Bool) (e : Ev) (s : State) : (raiseIf b e s).harbour.quadSpi = s.harbour.quadSpi := by
  unfold raiseIf; split <;> simp
@[simp] theorem raiseIf_harbour_linkUp (b : Bool) (e : Ev) (s : State) : (raiseIf b e s).harbour.linkUp = s.harbour.linkUp := by
  unfold raiseIf; split <;> simp
@[simp] theorem raiseIf_harbour_linkRate (b : Bool) (e : Ev) (s : State) : (raiseIf b e s).harbour.linkRate = s.harbour.linkRate := by
  unfold raiseIf; split <;> simp
@[simp] theorem raiseIf_harbour_linkLanes (b : Bool) (e : Ev) (s : State) : (raiseIf b e s).harbour.linkLanes = s.harbour.linkLanes := by
  unfold raiseIf; split <;> simp
@[simp] theorem raiseIf_harbour_msiVectors (b : Bool) (e : Ev) (s : State) : (raiseIf b e s).harbour.msiVectors = s.harbour.msiVectors := by
  unfold raiseIf; split <;> simp
@[simp] theorem raiseIf_harbour_ready (b : Bool) (e : Ev) (s : State) : (raiseIf b e s).harbour.ready = s.harbour.ready := by
  unfold raiseIf; split <;> simp
@[simp] theorem raiseIf_harbour_intMask (b : Bool) (e : Ev) (s : State) : (raiseIf b e s).harbour.intMask = s.harbour.intMask := by
  unfold raiseIf; split <;> simp
@[simp] theorem raiseIf_harbour_intRoute (b : Bool) (e : Ev) (s : State) : (raiseIf b e s).harbour.intRoute = s.harbour.intRoute := by
  unfold raiseIf; split <;> simp
@[simp] theorem raiseIf_harbour_cause (b : Bool) (e : Ev) (s : State) : (raiseIf b e s).harbour.cause = s.harbour.cause := by
  unfold raiseIf; split <;> simp
@[simp] theorem raiseIf_harbour_evtAck (b : Bool) (e : Ev) (s : State) : (raiseIf b e s).harbour.evtAck = s.harbour.evtAck := by
  unfold raiseIf; split <;> simp
@[simp] theorem raiseIf_harbour_s0 (b : Bool) (e : Ev) (s : State) : (raiseIf b e s).harbour.s0 = s.harbour.s0 := by
  unfold raiseIf; split <;> simp
@[simp] theorem raiseIf_harbour_indAddr (b : Bool) (e : Ev) (s : State) : (raiseIf b e s).harbour.indAddr = s.harbour.indAddr := by
  unfold raiseIf; split <;> simp
@[simp] theorem raiseIf_harbour_autoInc (b : Bool) (e : Ev) (s : State) : (raiseIf b e s).harbour.autoInc = s.harbour.autoInc := by
  unfold raiseIf; split <;> simp
@[simp] theorem raiseIf_harbour_indLatch (b : Bool) (e : Ev) (s : State) : (raiseIf b e s).harbour.indLatch = s.harbour.indLatch := by
  unfold raiseIf; split <;> simp
@[simp] theorem raiseIf_harbour_readData (b : Bool) (e : Ev) (s : State) : (raiseIf b e s).harbour.readData = s.harbour.readData := by
  unfold raiseIf; split <;> simp
@[simp] theorem raiseIf_harbour_pairPending (b : Bool) (e : Ev) (s : State) : (raiseIf b e s).harbour.pairPending = s.harbour.pairPending := by
  unfold raiseIf; split <;> simp
@[simp] theorem raiseIf_harbour_resetReq (b : Bool) (e : Ev) (s : State) : (raiseIf b e s).harbour.resetReq = s.harbour.resetReq := by
  unfold raiseIf; split <;> simp
@[simp] theorem raiseIf_harbour_resetLatchAt (b : Bool) (e : Ev) (s : State) : (raiseIf b e s).harbour.resetLatchAt = s.harbour.resetLatchAt := by
  unfold raiseIf; split <;> simp
@[simp] theorem raiseIf_harbour_domainNext (b : Bool) (e : Ev) (s : State) : (raiseIf b e s).harbour.domainNext = s.harbour.domainNext := by
  unfold raiseIf; split <;> simp
@[simp] theorem raiseIf_harbour_nops (b : Bool) (e : Ev) (s : State) : (raiseIf b e s).harbour.nops = s.harbour.nops := by
  unfold raiseIf; split <;> simp
@[simp] theorem sendS1_pending (ty : Nat) (p : List Byte) (s : State) : (sendS1 ty p s).pending = s.pending := (raises_pending _ _).trans rfl
@[simp] theorem sendS1_out (ty : Nat) (p : List Byte) (s : State) : (sendS1 ty p s).out = s.out := (raises_out _ _).trans rfl
@[simp] theorem sendS1_freeCtr (ty : Nat) (p : List Byte) (s : State) : (sendS1 ty p s).freeCtr = s.freeCtr := (raises_freeCtr _ _).trans rfl
@[simp] theorem sendS1_mem (ty : Nat) (p : List Byte) (s : State) : (sendS1 ty p s).mem = s.mem := (raises_mem _ _).trans rfl
@[simp] theorem sendS1_votes (ty : Nat) (p : List Byte) (s : State) : (sendS1 ty p s).votes = s.votes := (raises_votes _ _).trans rfl
@[simp] theorem sendS1_otp (ty : Nat) (p : List Byte) (s : State) : (sendS1 ty p s).otp = s.otp := (raises_otp _ _).trans rfl
@[simp] theorem sendS1_time (ty : Nat) (p : List Byte) (s : State) : (sendS1 ty p s).time = s.time := (raises_time _ _).trans rfl
@[simp] theorem sendS1_gnss (ty : Nat) (p : List Byte) (s : State) : (sendS1 ty p s).gnss = s.gnss := (raises_gnss _ _).trans rfl
@[simp] theorem sendS1_pose (ty : Nat) (p : List Byte) (s : State) : (sendS1 ty p s).pose = s.pose := (raises_pose _ _).trans rfl
@[simp] theorem sendS1_cell (ty : Nat) (p : List Byte) (s : State) : (sendS1 ty p s).cell = s.cell := (raises_cell _ _).trans rfl
@[simp] theorem sendS1_raster (ty : Nat) (p : List Byte) (s : State) : (sendS1 ty p s).raster = s.raster := (raises_raster _ _).trans rfl
@[simp] theorem sendS1_knani (ty : Nat) (p : List Byte) (s : State) : (sendS1 ty p s).knani = s.knani := (raises_knani _ _).trans rfl
@[simp] theorem sendS1_axes (ty : Nat) (p : List Byte) (s : State) : (sendS1 ty p s).axes = s.axes := (raises_axes _ _).trans rfl
@[simp] theorem sendS1_meter (ty : Nat) (p : List Byte) (s : State) : (sendS1 ty p s).meter = s.meter := (raises_meter _ _).trans rfl
@[simp] theorem sendS1_fleet (ty : Nat) (p : List Byte) (s : State) : (sendS1 ty p s).fleet = s.fleet := (raises_fleet _ _).trans rfl
@[simp] theorem sendS1_cor (ty : Nat) (p : List Byte) (s : State) : (sendS1 ty p s).cor = s.cor := (raises_cor _ _).trans rfl
@[simp] theorem sendS1_stop (ty : Nat) (p : List Byte) (s : State) : (sendS1 ty p s).stop = s.stop := (raises_stop _ _).trans rfl
@[simp] theorem sendS1_net (ty : Nat) (p : List Byte) (s : State) : (sendS1 ty p s).net = s.net := (raises_net _ _).trans rfl
@[simp] theorem sendS1_sec (ty : Nat) (p : List Byte) (s : State) : (sendS1 ty p s).sec = s.sec := (raises_sec _ _).trans rfl
@[simp] theorem sendS1_update (ty : Nat) (p : List Byte) (s : State) : (sendS1 ty p s).update = s.update := (raises_update _ _).trans rfl
@[simp] theorem sendS1_power (ty : Nat) (p : List Byte) (s : State) : (sendS1 ty p s).power = s.power := (raises_power _ _).trans rfl
@[simp] theorem sendS1_harbour_mbxs (ty : Nat) (p : List Byte) (s : State) : (sendS1 ty p s).harbour.mbxs = s.harbour.mbxs := (raises_harbour_mbxs _ _).trans rfl
@[simp] theorem sendS1_harbour_credit (ty : Nat) (p : List Byte) (s : State) : (sendS1 ty p s).harbour.credit = s.harbour.credit := (raises_harbour_credit _ _).trans rfl
@[simp] theorem sendS1_harbour_refused (ty : Nat) (p : List Byte) (s : State) : (sendS1 ty p s).harbour.refused = s.harbour.refused := (raises_harbour_refused _ _).trans rfl
@[simp] theorem sendS1_harbour_refusedTotal (ty : Nat) (p : List Byte) (s : State) : (sendS1 ty p s).harbour.refusedTotal = s.harbour.refusedTotal := (raises_harbour_refusedTotal _ _).trans rfl
@[simp] theorem sendS1_harbour_quadSpi (ty : Nat) (p : List Byte) (s : State) : (sendS1 ty p s).harbour.quadSpi = s.harbour.quadSpi := (raises_harbour_quadSpi _ _).trans rfl
@[simp] theorem sendS1_harbour_linkUp (ty : Nat) (p : List Byte) (s : State) : (sendS1 ty p s).harbour.linkUp = s.harbour.linkUp := (raises_harbour_linkUp _ _).trans rfl
@[simp] theorem sendS1_harbour_linkRate (ty : Nat) (p : List Byte) (s : State) : (sendS1 ty p s).harbour.linkRate = s.harbour.linkRate := (raises_harbour_linkRate _ _).trans rfl
@[simp] theorem sendS1_harbour_linkLanes (ty : Nat) (p : List Byte) (s : State) : (sendS1 ty p s).harbour.linkLanes = s.harbour.linkLanes := (raises_harbour_linkLanes _ _).trans rfl
@[simp] theorem sendS1_harbour_msiVectors (ty : Nat) (p : List Byte) (s : State) : (sendS1 ty p s).harbour.msiVectors = s.harbour.msiVectors := (raises_harbour_msiVectors _ _).trans rfl
@[simp] theorem sendS1_harbour_ready (ty : Nat) (p : List Byte) (s : State) : (sendS1 ty p s).harbour.ready = s.harbour.ready := (raises_harbour_ready _ _).trans rfl
@[simp] theorem sendS1_harbour_intMask (ty : Nat) (p : List Byte) (s : State) : (sendS1 ty p s).harbour.intMask = s.harbour.intMask := (raises_harbour_intMask _ _).trans rfl
@[simp] theorem sendS1_harbour_intRoute (ty : Nat) (p : List Byte) (s : State) : (sendS1 ty p s).harbour.intRoute = s.harbour.intRoute := (raises_harbour_intRoute _ _).trans rfl
@[simp] theorem sendS1_harbour_cause (ty : Nat) (p : List Byte) (s : State) : (sendS1 ty p s).harbour.cause = s.harbour.cause := (raises_harbour_cause _ _).trans rfl
@[simp] theorem sendS1_harbour_evtAck (ty : Nat) (p : List Byte) (s : State) : (sendS1 ty p s).harbour.evtAck = s.harbour.evtAck := (raises_harbour_evtAck _ _).trans rfl
@[simp] theorem sendS1_harbour_s0 (ty : Nat) (p : List Byte) (s : State) : (sendS1 ty p s).harbour.s0 = s.harbour.s0 := (raises_harbour_s0 _ _).trans rfl
@[simp] theorem sendS1_harbour_indAddr (ty : Nat) (p : List Byte) (s : State) : (sendS1 ty p s).harbour.indAddr = s.harbour.indAddr := (raises_harbour_indAddr _ _).trans rfl
@[simp] theorem sendS1_harbour_autoInc (ty : Nat) (p : List Byte) (s : State) : (sendS1 ty p s).harbour.autoInc = s.harbour.autoInc := (raises_harbour_autoInc _ _).trans rfl
@[simp] theorem sendS1_harbour_indLatch (ty : Nat) (p : List Byte) (s : State) : (sendS1 ty p s).harbour.indLatch = s.harbour.indLatch := (raises_harbour_indLatch _ _).trans rfl
@[simp] theorem sendS1_harbour_readData (ty : Nat) (p : List Byte) (s : State) : (sendS1 ty p s).harbour.readData = s.harbour.readData := (raises_harbour_readData _ _).trans rfl
@[simp] theorem sendS1_harbour_pairPending (ty : Nat) (p : List Byte) (s : State) : (sendS1 ty p s).harbour.pairPending = s.harbour.pairPending := (raises_harbour_pairPending _ _).trans rfl
@[simp] theorem sendS1_harbour_resetReq (ty : Nat) (p : List Byte) (s : State) : (sendS1 ty p s).harbour.resetReq = s.harbour.resetReq := (raises_harbour_resetReq _ _).trans rfl
@[simp] theorem sendS1_harbour_resetLatchAt (ty : Nat) (p : List Byte) (s : State) : (sendS1 ty p s).harbour.resetLatchAt = s.harbour.resetLatchAt := (raises_harbour_resetLatchAt _ _).trans rfl
@[simp] theorem sendS1_harbour_domainNext (ty : Nat) (p : List Byte) (s : State) : (sendS1 ty p s).harbour.domainNext = s.harbour.domainNext := (raises_harbour_domainNext _ _).trans rfl
@[simp] theorem sendS1_harbour_nops (ty : Nat) (p : List Byte) (s : State) : (sendS1 ty p s).harbour.nops = s.harbour.nops := (raises_harbour_nops _ _).trans rfl
@[simp] theorem journalPut_pending (w : JWrite) (s : State) : ((journalPut w s).2).pending = s.pending := (raises_pending _ _).trans rfl
@[simp] theorem journalPut_out (w : JWrite) (s : State) : ((journalPut w s).2).out = s.out := (raises_out _ _).trans rfl
@[simp] theorem journalPut_freeCtr (w : JWrite) (s : State) : ((journalPut w s).2).freeCtr = s.freeCtr := (raises_freeCtr _ _).trans rfl
@[simp] theorem journalPut_mem (w : JWrite) (s : State) : ((journalPut w s).2).mem = s.mem := (raises_mem _ _).trans rfl
@[simp] theorem journalPut_votes (w : JWrite) (s : State) : ((journalPut w s).2).votes = s.votes := (raises_votes _ _).trans rfl
@[simp] theorem journalPut_otp (w : JWrite) (s : State) : ((journalPut w s).2).otp = s.otp := (raises_otp _ _).trans rfl
@[simp] theorem journalPut_time (w : JWrite) (s : State) : ((journalPut w s).2).time = s.time := (raises_time _ _).trans rfl
@[simp] theorem journalPut_gnss (w : JWrite) (s : State) : ((journalPut w s).2).gnss = s.gnss := (raises_gnss _ _).trans rfl
@[simp] theorem journalPut_pose (w : JWrite) (s : State) : ((journalPut w s).2).pose = s.pose := (raises_pose _ _).trans rfl
@[simp] theorem journalPut_cell (w : JWrite) (s : State) : ((journalPut w s).2).cell = s.cell := (raises_cell _ _).trans rfl
@[simp] theorem journalPut_raster (w : JWrite) (s : State) : ((journalPut w s).2).raster = s.raster := (raises_raster _ _).trans rfl
@[simp] theorem journalPut_knani (w : JWrite) (s : State) : ((journalPut w s).2).knani = s.knani := (raises_knani _ _).trans rfl
@[simp] theorem journalPut_axes (w : JWrite) (s : State) : ((journalPut w s).2).axes = s.axes := (raises_axes _ _).trans rfl
@[simp] theorem journalPut_meter (w : JWrite) (s : State) : ((journalPut w s).2).meter = s.meter := (raises_meter _ _).trans rfl
@[simp] theorem journalPut_fleet (w : JWrite) (s : State) : ((journalPut w s).2).fleet = s.fleet := (raises_fleet _ _).trans rfl
@[simp] theorem journalPut_cor (w : JWrite) (s : State) : ((journalPut w s).2).cor = s.cor := (raises_cor _ _).trans rfl
@[simp] theorem journalPut_stop (w : JWrite) (s : State) : ((journalPut w s).2).stop = s.stop := (raises_stop _ _).trans rfl
@[simp] theorem journalPut_net (w : JWrite) (s : State) : ((journalPut w s).2).net = s.net := (raises_net _ _).trans rfl
@[simp] theorem journalPut_sec (w : JWrite) (s : State) : ((journalPut w s).2).sec = s.sec := (raises_sec _ _).trans rfl
@[simp] theorem journalPut_update (w : JWrite) (s : State) : ((journalPut w s).2).update = s.update := (raises_update _ _).trans rfl
@[simp] theorem journalPut_power (w : JWrite) (s : State) : ((journalPut w s).2).power = s.power := (raises_power _ _).trans rfl
@[simp] theorem journalPut_harbour_mbxs (w : JWrite) (s : State) : ((journalPut w s).2).harbour.mbxs = s.harbour.mbxs := (raises_harbour_mbxs _ _).trans rfl
@[simp] theorem journalPut_harbour_credit (w : JWrite) (s : State) : ((journalPut w s).2).harbour.credit = s.harbour.credit := (raises_harbour_credit _ _).trans rfl
@[simp] theorem journalPut_harbour_refused (w : JWrite) (s : State) : ((journalPut w s).2).harbour.refused = s.harbour.refused := (raises_harbour_refused _ _).trans rfl
@[simp] theorem journalPut_harbour_refusedTotal (w : JWrite) (s : State) : ((journalPut w s).2).harbour.refusedTotal = s.harbour.refusedTotal := (raises_harbour_refusedTotal _ _).trans rfl
@[simp] theorem journalPut_harbour_quadSpi (w : JWrite) (s : State) : ((journalPut w s).2).harbour.quadSpi = s.harbour.quadSpi := (raises_harbour_quadSpi _ _).trans rfl
@[simp] theorem journalPut_harbour_linkUp (w : JWrite) (s : State) : ((journalPut w s).2).harbour.linkUp = s.harbour.linkUp := (raises_harbour_linkUp _ _).trans rfl
@[simp] theorem journalPut_harbour_linkRate (w : JWrite) (s : State) : ((journalPut w s).2).harbour.linkRate = s.harbour.linkRate := (raises_harbour_linkRate _ _).trans rfl
@[simp] theorem journalPut_harbour_linkLanes (w : JWrite) (s : State) : ((journalPut w s).2).harbour.linkLanes = s.harbour.linkLanes := (raises_harbour_linkLanes _ _).trans rfl
@[simp] theorem journalPut_harbour_msiVectors (w : JWrite) (s : State) : ((journalPut w s).2).harbour.msiVectors = s.harbour.msiVectors := (raises_harbour_msiVectors _ _).trans rfl
@[simp] theorem journalPut_harbour_ready (w : JWrite) (s : State) : ((journalPut w s).2).harbour.ready = s.harbour.ready := (raises_harbour_ready _ _).trans rfl
@[simp] theorem journalPut_harbour_intMask (w : JWrite) (s : State) : ((journalPut w s).2).harbour.intMask = s.harbour.intMask := (raises_harbour_intMask _ _).trans rfl
@[simp] theorem journalPut_harbour_intRoute (w : JWrite) (s : State) : ((journalPut w s).2).harbour.intRoute = s.harbour.intRoute := (raises_harbour_intRoute _ _).trans rfl
@[simp] theorem journalPut_harbour_cause (w : JWrite) (s : State) : ((journalPut w s).2).harbour.cause = s.harbour.cause := (raises_harbour_cause _ _).trans rfl
@[simp] theorem journalPut_harbour_evtAck (w : JWrite) (s : State) : ((journalPut w s).2).harbour.evtAck = s.harbour.evtAck := (raises_harbour_evtAck _ _).trans rfl
@[simp] theorem journalPut_harbour_s0 (w : JWrite) (s : State) : ((journalPut w s).2).harbour.s0 = s.harbour.s0 := (raises_harbour_s0 _ _).trans rfl
@[simp] theorem journalPut_harbour_indAddr (w : JWrite) (s : State) : ((journalPut w s).2).harbour.indAddr = s.harbour.indAddr := (raises_harbour_indAddr _ _).trans rfl
@[simp] theorem journalPut_harbour_autoInc (w : JWrite) (s : State) : ((journalPut w s).2).harbour.autoInc = s.harbour.autoInc := (raises_harbour_autoInc _ _).trans rfl
@[simp] theorem journalPut_harbour_indLatch (w : JWrite) (s : State) : ((journalPut w s).2).harbour.indLatch = s.harbour.indLatch := (raises_harbour_indLatch _ _).trans rfl
@[simp] theorem journalPut_harbour_readData (w : JWrite) (s : State) : ((journalPut w s).2).harbour.readData = s.harbour.readData := (raises_harbour_readData _ _).trans rfl
@[simp] theorem journalPut_harbour_pairPending (w : JWrite) (s : State) : ((journalPut w s).2).harbour.pairPending = s.harbour.pairPending := (raises_harbour_pairPending _ _).trans rfl
@[simp] theorem journalPut_harbour_resetReq (w : JWrite) (s : State) : ((journalPut w s).2).harbour.resetReq = s.harbour.resetReq := (raises_harbour_resetReq _ _).trans rfl
@[simp] theorem journalPut_harbour_resetLatchAt (w : JWrite) (s : State) : ((journalPut w s).2).harbour.resetLatchAt = s.harbour.resetLatchAt := (raises_harbour_resetLatchAt _ _).trans rfl
@[simp] theorem journalPut_harbour_domainNext (w : JWrite) (s : State) : ((journalPut w s).2).harbour.domainNext = s.harbour.domainNext := (raises_harbour_domainNext _ _).trans rfl
@[simp] theorem journalPut_harbour_nops (w : JWrite) (s : State) : ((journalPut w s).2).harbour.nops = s.harbour.nops := (raises_harbour_nops _ _).trans rfl
@[simp] theorem journalLog_pending (w : JWrite) (s : State) : (journalLog w s).pending = s.pending := journalPut_pending _ _
@[simp] theorem journalLog_out (w : JWrite) (s : State) : (journalLog w s).out = s.out := journalPut_out _ _
@[simp] theorem journalLog_freeCtr (w : JWrite) (s : State) : (journalLog w s).freeCtr = s.freeCtr := journalPut_freeCtr _ _
@[simp] theorem journalLog_mem (w : JWrite) (s : State) : (journalLog w s).mem = s.mem := journalPut_mem _ _
@[simp] theorem journalLog_votes (w : JWrite) (s : State) : (journalLog w s).votes = s.votes := journalPut_votes _ _
@[simp] theorem journalLog_otp (w : JWrite) (s : State) : (journalLog w s).otp = s.otp := journalPut_otp _ _
@[simp] theorem journalLog_time (w : JWrite) (s : State) : (journalLog w s).time = s.time := journalPut_time _ _
@[simp] theorem journalLog_gnss (w : JWrite) (s : State) : (journalLog w s).gnss = s.gnss := journalPut_gnss _ _
@[simp] theorem journalLog_pose (w : JWrite) (s : State) : (journalLog w s).pose = s.pose := journalPut_pose _ _
@[simp] theorem journalLog_cell (w : JWrite) (s : State) : (journalLog w s).cell = s.cell := journalPut_cell _ _
@[simp] theorem journalLog_raster (w : JWrite) (s : State) : (journalLog w s).raster = s.raster := journalPut_raster _ _
@[simp] theorem journalLog_knani (w : JWrite) (s : State) : (journalLog w s).knani = s.knani := journalPut_knani _ _
@[simp] theorem journalLog_axes (w : JWrite) (s : State) : (journalLog w s).axes = s.axes := journalPut_axes _ _
@[simp] theorem journalLog_meter (w : JWrite) (s : State) : (journalLog w s).meter = s.meter := journalPut_meter _ _
@[simp] theorem journalLog_fleet (w : JWrite) (s : State) : (journalLog w s).fleet = s.fleet := journalPut_fleet _ _
@[simp] theorem journalLog_cor (w : JWrite) (s : State) : (journalLog w s).cor = s.cor := journalPut_cor _ _
@[simp] theorem journalLog_stop (w : JWrite) (s : State) : (journalLog w s).stop = s.stop := journalPut_stop _ _
@[simp] theorem journalLog_net (w : JWrite) (s : State) : (journalLog w s).net = s.net := journalPut_net _ _
@[simp] theorem journalLog_sec (w : JWrite) (s : State) : (journalLog w s).sec = s.sec := journalPut_sec _ _
@[simp] theorem journalLog_update (w : JWrite) (s : State) : (journalLog w s).update = s.update := journalPut_update _ _
@[simp] theorem journalLog_power (w : JWrite) (s : State) : (journalLog w s).power = s.power := journalPut_power _ _
@[simp] theorem journalLog_harbour_mbxs (w : JWrite) (s : State) : (journalLog w s).harbour.mbxs = s.harbour.mbxs := journalPut_harbour_mbxs _ _
@[simp] theorem journalLog_harbour_credit (w : JWrite) (s : State) : (journalLog w s).harbour.credit = s.harbour.credit := journalPut_harbour_credit _ _
@[simp] theorem journalLog_harbour_refused (w : JWrite) (s : State) : (journalLog w s).harbour.refused = s.harbour.refused := journalPut_harbour_refused _ _
@[simp] theorem journalLog_harbour_refusedTotal (w : JWrite) (s : State) : (journalLog w s).harbour.refusedTotal = s.harbour.refusedTotal := journalPut_harbour_refusedTotal _ _
@[simp] theorem journalLog_harbour_quadSpi (w : JWrite) (s : State) : (journalLog w s).harbour.quadSpi = s.harbour.quadSpi := journalPut_harbour_quadSpi _ _
@[simp] theorem journalLog_harbour_linkUp (w : JWrite) (s : State) : (journalLog w s).harbour.linkUp = s.harbour.linkUp := journalPut_harbour_linkUp _ _
@[simp] theorem journalLog_harbour_linkRate (w : JWrite) (s : State) : (journalLog w s).harbour.linkRate = s.harbour.linkRate := journalPut_harbour_linkRate _ _
@[simp] theorem journalLog_harbour_linkLanes (w : JWrite) (s : State) : (journalLog w s).harbour.linkLanes = s.harbour.linkLanes := journalPut_harbour_linkLanes _ _
@[simp] theorem journalLog_harbour_msiVectors (w : JWrite) (s : State) : (journalLog w s).harbour.msiVectors = s.harbour.msiVectors := journalPut_harbour_msiVectors _ _
@[simp] theorem journalLog_harbour_ready (w : JWrite) (s : State) : (journalLog w s).harbour.ready = s.harbour.ready := journalPut_harbour_ready _ _
@[simp] theorem journalLog_harbour_intMask (w : JWrite) (s : State) : (journalLog w s).harbour.intMask = s.harbour.intMask := journalPut_harbour_intMask _ _
@[simp] theorem journalLog_harbour_intRoute (w : JWrite) (s : State) : (journalLog w s).harbour.intRoute = s.harbour.intRoute := journalPut_harbour_intRoute _ _
@[simp] theorem journalLog_harbour_cause (w : JWrite) (s : State) : (journalLog w s).harbour.cause = s.harbour.cause := journalPut_harbour_cause _ _
@[simp] theorem journalLog_harbour_evtAck (w : JWrite) (s : State) : (journalLog w s).harbour.evtAck = s.harbour.evtAck := journalPut_harbour_evtAck _ _
@[simp] theorem journalLog_harbour_s0 (w : JWrite) (s : State) : (journalLog w s).harbour.s0 = s.harbour.s0 := journalPut_harbour_s0 _ _
@[simp] theorem journalLog_harbour_indAddr (w : JWrite) (s : State) : (journalLog w s).harbour.indAddr = s.harbour.indAddr := journalPut_harbour_indAddr _ _
@[simp] theorem journalLog_harbour_autoInc (w : JWrite) (s : State) : (journalLog w s).harbour.autoInc = s.harbour.autoInc := journalPut_harbour_autoInc _ _
@[simp] theorem journalLog_harbour_indLatch (w : JWrite) (s : State) : (journalLog w s).harbour.indLatch = s.harbour.indLatch := journalPut_harbour_indLatch _ _
@[simp] theorem journalLog_harbour_readData (w : JWrite) (s : State) : (journalLog w s).harbour.readData = s.harbour.readData := journalPut_harbour_readData _ _
@[simp] theorem journalLog_harbour_pairPending (w : JWrite) (s : State) : (journalLog w s).harbour.pairPending = s.harbour.pairPending := journalPut_harbour_pairPending _ _
@[simp] theorem journalLog_harbour_resetReq (w : JWrite) (s : State) : (journalLog w s).harbour.resetReq = s.harbour.resetReq := journalPut_harbour_resetReq _ _
@[simp] theorem journalLog_harbour_resetLatchAt (w : JWrite) (s : State) : (journalLog w s).harbour.resetLatchAt = s.harbour.resetLatchAt := journalPut_harbour_resetLatchAt _ _
@[simp] theorem journalLog_harbour_domainNext (w : JWrite) (s : State) : (journalLog w s).harbour.domainNext = s.harbour.domainNext := journalPut_harbour_domainNext _ _
@[simp] theorem journalLog_harbour_nops (w : JWrite) (s : State) : (journalLog w s).harbour.nops = s.harbour.nops := journalPut_harbour_nops _ _
@[simp] theorem emit_pending (k : OutKind) (i r : Nat) (d : List Byte) (s : State) : (emit k i r d s).pending = s.pending := rfl
@[simp] theorem emit_freeCtr (k : OutKind) (i r : Nat) (d : List Byte) (s : State) : (emit k i r d s).freeCtr = s.freeCtr := rfl
@[simp] theorem emit_mem (k : OutKind) (i r : Nat) (d : List Byte) (s : State) : (emit k i r d s).mem = s.mem := rfl
@[simp] theorem emit_votes (k : OutKind) (i r : Nat) (d : List Byte) (s : State) : (emit k i r d s).votes = s.votes := rfl
@[simp] theorem emit_otp (k : OutKind) (i r : Nat) (d : List Byte) (s : State) : (emit k i r d s).otp = s.otp := rfl
@[simp] theorem emit_time (k : OutKind) (i r : Nat) (d : List Byte) (s : State) : (emit k i r d s).time = s.time := rfl
@[simp] theorem emit_harbour (k : OutKind) (i r : Nat) (d : List Byte) (s : State) : (emit k i r d s).harbour = s.harbour := rfl
@[simp] theorem emit_gnss (k : OutKind) (i r : Nat) (d : List Byte) (s : State) : (emit k i r d s).gnss = s.gnss := rfl
@[simp] theorem emit_pose (k : OutKind) (i r : Nat) (d : List Byte) (s : State) : (emit k i r d s).pose = s.pose := rfl
@[simp] theorem emit_cell (k : OutKind) (i r : Nat) (d : List Byte) (s : State) : (emit k i r d s).cell = s.cell := rfl
@[simp] theorem emit_raster (k : OutKind) (i r : Nat) (d : List Byte) (s : State) : (emit k i r d s).raster = s.raster := rfl
@[simp] theorem emit_knani (k : OutKind) (i r : Nat) (d : List Byte) (s : State) : (emit k i r d s).knani = s.knani := rfl
@[simp] theorem emit_axes (k : OutKind) (i r : Nat) (d : List Byte) (s : State) : (emit k i r d s).axes = s.axes := rfl
@[simp] theorem emit_meter (k : OutKind) (i r : Nat) (d : List Byte) (s : State) : (emit k i r d s).meter = s.meter := rfl
@[simp] theorem emit_fleet (k : OutKind) (i r : Nat) (d : List Byte) (s : State) : (emit k i r d s).fleet = s.fleet := rfl
@[simp] theorem emit_cor (k : OutKind) (i r : Nat) (d : List Byte) (s : State) : (emit k i r d s).cor = s.cor := rfl
@[simp] theorem emit_stop (k : OutKind) (i r : Nat) (d : List Byte) (s : State) : (emit k i r d s).stop = s.stop := rfl
@[simp] theorem emit_net (k : OutKind) (i r : Nat) (d : List Byte) (s : State) : (emit k i r d s).net = s.net := rfl
@[simp] theorem emit_sec (k : OutKind) (i r : Nat) (d : List Byte) (s : State) : (emit k i r d s).sec = s.sec := rfl
@[simp] theorem emit_update (k : OutKind) (i r : Nat) (d : List Byte) (s : State) : (emit k i r d s).update = s.update := rfl
@[simp] theorem emit_journal (k : OutKind) (i r : Nat) (d : List Byte) (s : State) : (emit k i r d s).journal = s.journal := rfl
@[simp] theorem emit_power (k : OutKind) (i r : Nat) (d : List Byte) (s : State) : (emit k i r d s).power = s.power := rfl
@[simp] theorem emit_recorder (k : OutKind) (i r : Nat) (d : List Byte) (s : State) : (emit k i r d s).recorder = s.recorder := rfl
@[simp] theorem advance_pending (n : Nat) (s : State) : (advance n s).pending = s.pending := by
  unfold advance; rfl
@[simp] theorem advance_out (n : Nat) (s : State) : (advance n s).out = s.out := by
  unfold advance; rfl
@[simp] theorem advance_freeCtr (n : Nat) (s : State) : (advance n s).freeCtr = s.freeCtr := by
  unfold advance; rfl
@[simp] theorem advance_mem (n : Nat) (s : State) : (advance n s).mem = s.mem := by
  unfold advance; rfl
@[simp] theorem advance_votes (n : Nat) (s : State) : (advance n s).votes = s.votes := by
  unfold advance; rfl
@[simp] theorem advance_otp (n : Nat) (s : State) : (advance n s).otp = s.otp := by
  unfold advance; rfl
@[simp] theorem advance_harbour (n : Nat) (s : State) : (advance n s).harbour = s.harbour := by
  unfold advance; rfl
@[simp] theorem advance_gnss (n : Nat) (s : State) : (advance n s).gnss = s.gnss := by
  unfold advance; rfl
@[simp] theorem advance_pose (n : Nat) (s : State) : (advance n s).pose = s.pose := by
  unfold advance; rfl
@[simp] theorem advance_cell (n : Nat) (s : State) : (advance n s).cell = s.cell := by
  unfold advance; rfl
@[simp] theorem advance_raster (n : Nat) (s : State) : (advance n s).raster = s.raster := by
  unfold advance; rfl
@[simp] theorem advance_knani (n : Nat) (s : State) : (advance n s).knani = s.knani := by
  unfold advance; rfl
@[simp] theorem advance_axes (n : Nat) (s : State) : (advance n s).axes = s.axes := by
  unfold advance; rfl
@[simp] theorem advance_meter (n : Nat) (s : State) : (advance n s).meter = s.meter := by
  unfold advance; rfl
@[simp] theorem advance_fleet (n : Nat) (s : State) : (advance n s).fleet = s.fleet := by
  unfold advance; rfl
@[simp] theorem advance_cor (n : Nat) (s : State) : (advance n s).cor = s.cor := by
  unfold advance; rfl
@[simp] theorem advance_stop (n : Nat) (s : State) : (advance n s).stop = s.stop := by
  unfold advance; rfl
@[simp] theorem advance_net (n : Nat) (s : State) : (advance n s).net = s.net := by
  unfold advance; rfl
@[simp] theorem advance_sec (n : Nat) (s : State) : (advance n s).sec = s.sec := by
  unfold advance; rfl
@[simp] theorem advance_update (n : Nat) (s : State) : (advance n s).update = s.update := by
  unfold advance; rfl
@[simp] theorem advance_journal (n : Nat) (s : State) : (advance n s).journal = s.journal := by
  unfold advance; rfl
@[simp] theorem advance_power (n : Nat) (s : State) : (advance n s).power = s.power := by
  unfold advance; rfl
@[simp] theorem advance_recorder (n : Nat) (s : State) : (advance n s).recorder = s.recorder := by
  unfold advance; rfl
@[simp] theorem runTo_pending (t : Nat) (s : State) : (runTo t s).pending = s.pending := advance_pending _ s
@[simp] theorem runTo_out (t : Nat) (s : State) : (runTo t s).out = s.out := advance_out _ s
@[simp] theorem runTo_freeCtr (t : Nat) (s : State) : (runTo t s).freeCtr = s.freeCtr := advance_freeCtr _ s
@[simp] theorem runTo_mem (t : Nat) (s : State) : (runTo t s).mem = s.mem := advance_mem _ s
@[simp] theorem runTo_votes (t : Nat) (s : State) : (runTo t s).votes = s.votes := advance_votes _ s
@[simp] theorem runTo_otp (t : Nat) (s : State) : (runTo t s).otp = s.otp := advance_otp _ s
@[simp] theorem runTo_harbour (t : Nat) (s : State) : (runTo t s).harbour = s.harbour := advance_harbour _ s
@[simp] theorem runTo_gnss (t : Nat) (s : State) : (runTo t s).gnss = s.gnss := advance_gnss _ s
@[simp] theorem runTo_pose (t : Nat) (s : State) : (runTo t s).pose = s.pose := advance_pose _ s
@[simp] theorem runTo_cell (t : Nat) (s : State) : (runTo t s).cell = s.cell := advance_cell _ s
@[simp] theorem runTo_raster (t : Nat) (s : State) : (runTo t s).raster = s.raster := advance_raster _ s
@[simp] theorem runTo_knani (t : Nat) (s : State) : (runTo t s).knani = s.knani := advance_knani _ s
@[simp] theorem runTo_axes (t : Nat) (s : State) : (runTo t s).axes = s.axes := advance_axes _ s
@[simp] theorem runTo_meter (t : Nat) (s : State) : (runTo t s).meter = s.meter := advance_meter _ s
@[simp] theorem runTo_fleet (t : Nat) (s : State) : (runTo t s).fleet = s.fleet := advance_fleet _ s
@[simp] theorem runTo_cor (t : Nat) (s : State) : (runTo t s).cor = s.cor := advance_cor _ s
@[simp] theorem runTo_stop (t : Nat) (s : State) : (runTo t s).stop = s.stop := advance_stop _ s
@[simp] theorem runTo_net (t : Nat) (s : State) : (runTo t s).net = s.net := advance_net _ s
@[simp] theorem runTo_sec (t : Nat) (s : State) : (runTo t s).sec = s.sec := advance_sec _ s
@[simp] theorem runTo_update (t : Nat) (s : State) : (runTo t s).update = s.update := advance_update _ s
@[simp] theorem runTo_journal (t : Nat) (s : State) : (runTo t s).journal = s.journal := advance_journal _ s
@[simp] theorem runTo_power (t : Nat) (s : State) : (runTo t s).power = s.power := advance_power _ s
@[simp] theorem runTo_recorder (t : Nat) (s : State) : (runTo t s).recorder = s.recorder := advance_recorder _ s
@[simp] theorem runToCyc_pending (c : Nat) (s : State) : (runToCyc c s).pending = s.pending := advance_pending _ s
@[simp] theorem runToCyc_out (c : Nat) (s : State) : (runToCyc c s).out = s.out := advance_out _ s
@[simp] theorem runToCyc_freeCtr (c : Nat) (s : State) : (runToCyc c s).freeCtr = s.freeCtr := advance_freeCtr _ s
@[simp] theorem runToCyc_mem (c : Nat) (s : State) : (runToCyc c s).mem = s.mem := advance_mem _ s
@[simp] theorem runToCyc_votes (c : Nat) (s : State) : (runToCyc c s).votes = s.votes := advance_votes _ s
@[simp] theorem runToCyc_otp (c : Nat) (s : State) : (runToCyc c s).otp = s.otp := advance_otp _ s
@[simp] theorem runToCyc_harbour (c : Nat) (s : State) : (runToCyc c s).harbour = s.harbour := advance_harbour _ s
@[simp] theorem runToCyc_gnss (c : Nat) (s : State) : (runToCyc c s).gnss = s.gnss := advance_gnss _ s
@[simp] theorem runToCyc_pose (c : Nat) (s : State) : (runToCyc c s).pose = s.pose := advance_pose _ s
@[simp] theorem runToCyc_cell (c : Nat) (s : State) : (runToCyc c s).cell = s.cell := advance_cell _ s
@[simp] theorem runToCyc_raster (c : Nat) (s : State) : (runToCyc c s).raster = s.raster := advance_raster _ s
@[simp] theorem runToCyc_knani (c : Nat) (s : State) : (runToCyc c s).knani = s.knani := advance_knani _ s
@[simp] theorem runToCyc_axes (c : Nat) (s : State) : (runToCyc c s).axes = s.axes := advance_axes _ s
@[simp] theorem runToCyc_meter (c : Nat) (s : State) : (runToCyc c s).meter = s.meter := advance_meter _ s
@[simp] theorem runToCyc_fleet (c : Nat) (s : State) : (runToCyc c s).fleet = s.fleet := advance_fleet _ s
@[simp] theorem runToCyc_cor (c : Nat) (s : State) : (runToCyc c s).cor = s.cor := advance_cor _ s
@[simp] theorem runToCyc_stop (c : Nat) (s : State) : (runToCyc c s).stop = s.stop := advance_stop _ s
@[simp] theorem runToCyc_net (c : Nat) (s : State) : (runToCyc c s).net = s.net := advance_net _ s
@[simp] theorem runToCyc_sec (c : Nat) (s : State) : (runToCyc c s).sec = s.sec := advance_sec _ s
@[simp] theorem runToCyc_update (c : Nat) (s : State) : (runToCyc c s).update = s.update := advance_update _ s
@[simp] theorem runToCyc_journal (c : Nat) (s : State) : (runToCyc c s).journal = s.journal := advance_journal _ s
@[simp] theorem runToCyc_power (c : Nat) (s : State) : (runToCyc c s).power = s.power := advance_power _ s
@[simp] theorem runToCyc_recorder (c : Nat) (s : State) : (runToCyc c s).recorder = s.recorder := advance_recorder _ s
@[simp] theorem setMbx_pending (m : Nat) (f : Mbx → Mbx) (s : State) : (setMbx m f s).pending = s.pending := rfl
@[simp] theorem setMbx_out (m : Nat) (f : Mbx → Mbx) (s : State) : (setMbx m f s).out = s.out := rfl
@[simp] theorem setMbx_freeCtr (m : Nat) (f : Mbx → Mbx) (s : State) : (setMbx m f s).freeCtr = s.freeCtr := rfl
@[simp] theorem setMbx_mem (m : Nat) (f : Mbx → Mbx) (s : State) : (setMbx m f s).mem = s.mem := rfl
@[simp] theorem setMbx_votes (m : Nat) (f : Mbx → Mbx) (s : State) : (setMbx m f s).votes = s.votes := rfl
@[simp] theorem setMbx_otp (m : Nat) (f : Mbx → Mbx) (s : State) : (setMbx m f s).otp = s.otp := rfl
@[simp] theorem setMbx_time (m : Nat) (f : Mbx → Mbx) (s : State) : (setMbx m f s).time = s.time := rfl
@[simp] theorem setMbx_gnss (m : Nat) (f : Mbx → Mbx) (s : State) : (setMbx m f s).gnss = s.gnss := rfl
@[simp] theorem setMbx_pose (m : Nat) (f : Mbx → Mbx) (s : State) : (setMbx m f s).pose = s.pose := rfl
@[simp] theorem setMbx_cell (m : Nat) (f : Mbx → Mbx) (s : State) : (setMbx m f s).cell = s.cell := rfl
@[simp] theorem setMbx_raster (m : Nat) (f : Mbx → Mbx) (s : State) : (setMbx m f s).raster = s.raster := rfl
@[simp] theorem setMbx_knani (m : Nat) (f : Mbx → Mbx) (s : State) : (setMbx m f s).knani = s.knani := rfl
@[simp] theorem setMbx_axes (m : Nat) (f : Mbx → Mbx) (s : State) : (setMbx m f s).axes = s.axes := rfl
@[simp] theorem setMbx_meter (m : Nat) (f : Mbx → Mbx) (s : State) : (setMbx m f s).meter = s.meter := rfl
@[simp] theorem setMbx_fleet (m : Nat) (f : Mbx → Mbx) (s : State) : (setMbx m f s).fleet = s.fleet := rfl
@[simp] theorem setMbx_cor (m : Nat) (f : Mbx → Mbx) (s : State) : (setMbx m f s).cor = s.cor := rfl
@[simp] theorem setMbx_stop (m : Nat) (f : Mbx → Mbx) (s : State) : (setMbx m f s).stop = s.stop := rfl
@[simp] theorem setMbx_net (m : Nat) (f : Mbx → Mbx) (s : State) : (setMbx m f s).net = s.net := rfl
@[simp] theorem setMbx_sec (m : Nat) (f : Mbx → Mbx) (s : State) : (setMbx m f s).sec = s.sec := rfl
@[simp] theorem setMbx_update (m : Nat) (f : Mbx → Mbx) (s : State) : (setMbx m f s).update = s.update := rfl
@[simp] theorem setMbx_journal (m : Nat) (f : Mbx → Mbx) (s : State) : (setMbx m f s).journal = s.journal := rfl
@[simp] theorem setMbx_power (m : Nat) (f : Mbx → Mbx) (s : State) : (setMbx m f s).power = s.power := rfl
@[simp] theorem setMbx_recorder (m : Nat) (f : Mbx → Mbx) (s : State) : (setMbx m f s).recorder = s.recorder := rfl
@[simp] theorem setMbx_harbour_credit (m : Nat) (f : Mbx → Mbx) (s : State) : (setMbx m f s).harbour.credit = s.harbour.credit := rfl
@[simp] theorem setMbx_harbour_refused (m : Nat) (f : Mbx → Mbx) (s : State) : (setMbx m f s).harbour.refused = s.harbour.refused := rfl
@[simp] theorem setMbx_harbour_refusedTotal (m : Nat) (f : Mbx → Mbx) (s : State) : (setMbx m f s).harbour.refusedTotal = s.harbour.refusedTotal := rfl
@[simp] theorem setMbx_harbour_quadSpi (m : Nat) (f : Mbx → Mbx) (s : State) : (setMbx m f s).harbour.quadSpi = s.harbour.quadSpi := rfl
@[simp] theorem setMbx_harbour_linkUp (m : Nat) (f : Mbx → Mbx) (s : State) : (setMbx m f s).harbour.linkUp = s.harbour.linkUp := rfl
@[simp] theorem setMbx_harbour_linkRate (m : Nat) (f : Mbx → Mbx) (s : State) : (setMbx m f s).harbour.linkRate = s.harbour.linkRate := rfl
@[simp] theorem setMbx_harbour_linkLanes (m : Nat) (f : Mbx → Mbx) (s : State) : (setMbx m f s).harbour.linkLanes = s.harbour.linkLanes := rfl
@[simp] theorem setMbx_harbour_msiVectors (m : Nat) (f : Mbx → Mbx) (s : State) : (setMbx m f s).harbour.msiVectors = s.harbour.msiVectors := rfl
@[simp] theorem setMbx_harbour_ready (m : Nat) (f : Mbx → Mbx) (s : State) : (setMbx m f s).harbour.ready = s.harbour.ready := rfl
@[simp] theorem setMbx_harbour_intMask (m : Nat) (f : Mbx → Mbx) (s : State) : (setMbx m f s).harbour.intMask = s.harbour.intMask := rfl
@[simp] theorem setMbx_harbour_intRoute (m : Nat) (f : Mbx → Mbx) (s : State) : (setMbx m f s).harbour.intRoute = s.harbour.intRoute := rfl
@[simp] theorem setMbx_harbour_cause (m : Nat) (f : Mbx → Mbx) (s : State) : (setMbx m f s).harbour.cause = s.harbour.cause := rfl
@[simp] theorem setMbx_harbour_evtAck (m : Nat) (f : Mbx → Mbx) (s : State) : (setMbx m f s).harbour.evtAck = s.harbour.evtAck := rfl
@[simp] theorem setMbx_harbour_s0 (m : Nat) (f : Mbx → Mbx) (s : State) : (setMbx m f s).harbour.s0 = s.harbour.s0 := rfl
@[simp] theorem setMbx_harbour_indAddr (m : Nat) (f : Mbx → Mbx) (s : State) : (setMbx m f s).harbour.indAddr = s.harbour.indAddr := rfl
@[simp] theorem setMbx_harbour_autoInc (m : Nat) (f : Mbx → Mbx) (s : State) : (setMbx m f s).harbour.autoInc = s.harbour.autoInc := rfl
@[simp] theorem setMbx_harbour_indLatch (m : Nat) (f : Mbx → Mbx) (s : State) : (setMbx m f s).harbour.indLatch = s.harbour.indLatch := rfl
@[simp] theorem setMbx_harbour_readData (m : Nat) (f : Mbx → Mbx) (s : State) : (setMbx m f s).harbour.readData = s.harbour.readData := rfl
@[simp] theorem setMbx_harbour_pairPending (m : Nat) (f : Mbx → Mbx) (s : State) : (setMbx m f s).harbour.pairPending = s.harbour.pairPending := rfl
@[simp] theorem setMbx_harbour_resetReq (m : Nat) (f : Mbx → Mbx) (s : State) : (setMbx m f s).harbour.resetReq = s.harbour.resetReq := rfl
@[simp] theorem setMbx_harbour_resetLatchAt (m : Nat) (f : Mbx → Mbx) (s : State) : (setMbx m f s).harbour.resetLatchAt = s.harbour.resetLatchAt := rfl
@[simp] theorem setMbx_harbour_domainNext (m : Nat) (f : Mbx → Mbx) (s : State) : (setMbx m f s).harbour.domainNext = s.harbour.domainNext := rfl
@[simp] theorem setMbx_harbour_nops (m : Nat) (f : Mbx → Mbx) (s : State) : (setMbx m f s).harbour.nops = s.harbour.nops := rfl
@[simp] theorem complete_pending (m k op tag st : Nat) (r : List Byte) (s : State) : (complete m k op tag st r s).pending = s.pending := by
  obtain ⟨o, e, b, c, h⟩ := complete_shape m k op tag st r s; rw [h]
@[simp] theorem complete_freeCtr (m k op tag st : Nat) (r : List Byte) (s : State) : (complete m k op tag st r s).freeCtr = s.freeCtr := by
  obtain ⟨o, e, b, c, h⟩ := complete_shape m k op tag st r s; rw [h]
@[simp] theorem complete_votes (m k op tag st : Nat) (r : List Byte) (s : State) : (complete m k op tag st r s).votes = s.votes := by
  obtain ⟨o, e, b, c, h⟩ := complete_shape m k op tag st r s; rw [h]
@[simp] theorem complete_otp (m k op tag st : Nat) (r : List Byte) (s : State) : (complete m k op tag st r s).otp = s.otp := by
  obtain ⟨o, e, b, c, h⟩ := complete_shape m k op tag st r s; rw [h]
@[simp] theorem complete_time (m k op tag st : Nat) (r : List Byte) (s : State) : (complete m k op tag st r s).time = s.time := by
  obtain ⟨o, e, b, c, h⟩ := complete_shape m k op tag st r s; rw [h]
@[simp] theorem complete_gnss (m k op tag st : Nat) (r : List Byte) (s : State) : (complete m k op tag st r s).gnss = s.gnss := by
  obtain ⟨o, e, b, c, h⟩ := complete_shape m k op tag st r s; rw [h]
@[simp] theorem complete_pose (m k op tag st : Nat) (r : List Byte) (s : State) : (complete m k op tag st r s).pose = s.pose := by
  obtain ⟨o, e, b, c, h⟩ := complete_shape m k op tag st r s; rw [h]
@[simp] theorem complete_cell (m k op tag st : Nat) (r : List Byte) (s : State) : (complete m k op tag st r s).cell = s.cell := by
  obtain ⟨o, e, b, c, h⟩ := complete_shape m k op tag st r s; rw [h]
@[simp] theorem complete_raster (m k op tag st : Nat) (r : List Byte) (s : State) : (complete m k op tag st r s).raster = s.raster := by
  obtain ⟨o, e, b, c, h⟩ := complete_shape m k op tag st r s; rw [h]
@[simp] theorem complete_knani (m k op tag st : Nat) (r : List Byte) (s : State) : (complete m k op tag st r s).knani = s.knani := by
  obtain ⟨o, e, b, c, h⟩ := complete_shape m k op tag st r s; rw [h]
@[simp] theorem complete_axes (m k op tag st : Nat) (r : List Byte) (s : State) : (complete m k op tag st r s).axes = s.axes := by
  obtain ⟨o, e, b, c, h⟩ := complete_shape m k op tag st r s; rw [h]
@[simp] theorem complete_meter (m k op tag st : Nat) (r : List Byte) (s : State) : (complete m k op tag st r s).meter = s.meter := by
  obtain ⟨o, e, b, c, h⟩ := complete_shape m k op tag st r s; rw [h]
@[simp] theorem complete_fleet (m k op tag st : Nat) (r : List Byte) (s : State) : (complete m k op tag st r s).fleet = s.fleet := by
  obtain ⟨o, e, b, c, h⟩ := complete_shape m k op tag st r s; rw [h]
@[simp] theorem complete_cor (m k op tag st : Nat) (r : List Byte) (s : State) : (complete m k op tag st r s).cor = s.cor := by
  obtain ⟨o, e, b, c, h⟩ := complete_shape m k op tag st r s; rw [h]
@[simp] theorem complete_stop (m k op tag st : Nat) (r : List Byte) (s : State) : (complete m k op tag st r s).stop = s.stop := by
  obtain ⟨o, e, b, c, h⟩ := complete_shape m k op tag st r s; rw [h]
@[simp] theorem complete_net (m k op tag st : Nat) (r : List Byte) (s : State) : (complete m k op tag st r s).net = s.net := by
  obtain ⟨o, e, b, c, h⟩ := complete_shape m k op tag st r s; rw [h]
@[simp] theorem complete_sec (m k op tag st : Nat) (r : List Byte) (s : State) : (complete m k op tag st r s).sec = s.sec := by
  obtain ⟨o, e, b, c, h⟩ := complete_shape m k op tag st r s; rw [h]
@[simp] theorem complete_update (m k op tag st : Nat) (r : List Byte) (s : State) : (complete m k op tag st r s).update = s.update := by
  obtain ⟨o, e, b, c, h⟩ := complete_shape m k op tag st r s; rw [h]
@[simp] theorem complete_journal (m k op tag st : Nat) (r : List Byte) (s : State) : (complete m k op tag st r s).journal = s.journal := by
  obtain ⟨o, e, b, c, h⟩ := complete_shape m k op tag st r s; rw [h]
@[simp] theorem complete_power (m k op tag st : Nat) (r : List Byte) (s : State) : (complete m k op tag st r s).power = s.power := by
  obtain ⟨o, e, b, c, h⟩ := complete_shape m k op tag st r s; rw [h]
@[simp] theorem complete_recorder (m k op tag st : Nat) (r : List Byte) (s : State) : (complete m k op tag st r s).recorder = s.recorder := by
  obtain ⟨o, e, b, c, h⟩ := complete_shape m k op tag st r s; rw [h]
@[simp] theorem complete_harbour_refused (m k op tag st : Nat) (r : List Byte) (s : State) : (complete m k op tag st r s).harbour.refused = s.harbour.refused := by
  obtain ⟨o, e, b, c, h⟩ := complete_shape m k op tag st r s; rw [h]
@[simp] theorem complete_harbour_refusedTotal (m k op tag st : Nat) (r : List Byte) (s : State) : (complete m k op tag st r s).harbour.refusedTotal = s.harbour.refusedTotal := by
  obtain ⟨o, e, b, c, h⟩ := complete_shape m k op tag st r s; rw [h]
@[simp] theorem complete_harbour_quadSpi (m k op tag st : Nat) (r : List Byte) (s : State) : (complete m k op tag st r s).harbour.quadSpi = s.harbour.quadSpi := by
  obtain ⟨o, e, b, c, h⟩ := complete_shape m k op tag st r s; rw [h]
@[simp] theorem complete_harbour_linkUp (m k op tag st : Nat) (r : List Byte) (s : State) : (complete m k op tag st r s).harbour.linkUp = s.harbour.linkUp := by
  obtain ⟨o, e, b, c, h⟩ := complete_shape m k op tag st r s; rw [h]
@[simp] theorem complete_harbour_linkRate (m k op tag st : Nat) (r : List Byte) (s : State) : (complete m k op tag st r s).harbour.linkRate = s.harbour.linkRate := by
  obtain ⟨o, e, b, c, h⟩ := complete_shape m k op tag st r s; rw [h]
@[simp] theorem complete_harbour_linkLanes (m k op tag st : Nat) (r : List Byte) (s : State) : (complete m k op tag st r s).harbour.linkLanes = s.harbour.linkLanes := by
  obtain ⟨o, e, b, c, h⟩ := complete_shape m k op tag st r s; rw [h]
@[simp] theorem complete_harbour_msiVectors (m k op tag st : Nat) (r : List Byte) (s : State) : (complete m k op tag st r s).harbour.msiVectors = s.harbour.msiVectors := by
  obtain ⟨o, e, b, c, h⟩ := complete_shape m k op tag st r s; rw [h]
@[simp] theorem complete_harbour_ready (m k op tag st : Nat) (r : List Byte) (s : State) : (complete m k op tag st r s).harbour.ready = s.harbour.ready := by
  obtain ⟨o, e, b, c, h⟩ := complete_shape m k op tag st r s; rw [h]
@[simp] theorem complete_harbour_intMask (m k op tag st : Nat) (r : List Byte) (s : State) : (complete m k op tag st r s).harbour.intMask = s.harbour.intMask := by
  obtain ⟨o, e, b, c, h⟩ := complete_shape m k op tag st r s; rw [h]
@[simp] theorem complete_harbour_intRoute (m k op tag st : Nat) (r : List Byte) (s : State) : (complete m k op tag st r s).harbour.intRoute = s.harbour.intRoute := by
  obtain ⟨o, e, b, c, h⟩ := complete_shape m k op tag st r s; rw [h]
@[simp] theorem complete_harbour_cause (m k op tag st : Nat) (r : List Byte) (s : State) : (complete m k op tag st r s).harbour.cause = s.harbour.cause := by
  obtain ⟨o, e, b, c, h⟩ := complete_shape m k op tag st r s; rw [h]
@[simp] theorem complete_harbour_evtAck (m k op tag st : Nat) (r : List Byte) (s : State) : (complete m k op tag st r s).harbour.evtAck = s.harbour.evtAck := by
  obtain ⟨o, e, b, c, h⟩ := complete_shape m k op tag st r s; rw [h]
@[simp] theorem complete_harbour_s0 (m k op tag st : Nat) (r : List Byte) (s : State) : (complete m k op tag st r s).harbour.s0 = s.harbour.s0 := by
  obtain ⟨o, e, b, c, h⟩ := complete_shape m k op tag st r s; rw [h]
@[simp] theorem complete_harbour_indAddr (m k op tag st : Nat) (r : List Byte) (s : State) : (complete m k op tag st r s).harbour.indAddr = s.harbour.indAddr := by
  obtain ⟨o, e, b, c, h⟩ := complete_shape m k op tag st r s; rw [h]
@[simp] theorem complete_harbour_autoInc (m k op tag st : Nat) (r : List Byte) (s : State) : (complete m k op tag st r s).harbour.autoInc = s.harbour.autoInc := by
  obtain ⟨o, e, b, c, h⟩ := complete_shape m k op tag st r s; rw [h]
@[simp] theorem complete_harbour_indLatch (m k op tag st : Nat) (r : List Byte) (s : State) : (complete m k op tag st r s).harbour.indLatch = s.harbour.indLatch := by
  obtain ⟨o, e, b, c, h⟩ := complete_shape m k op tag st r s; rw [h]
@[simp] theorem complete_harbour_readData (m k op tag st : Nat) (r : List Byte) (s : State) : (complete m k op tag st r s).harbour.readData = s.harbour.readData := by
  obtain ⟨o, e, b, c, h⟩ := complete_shape m k op tag st r s; rw [h]
@[simp] theorem complete_harbour_pairPending (m k op tag st : Nat) (r : List Byte) (s : State) : (complete m k op tag st r s).harbour.pairPending = s.harbour.pairPending := by
  obtain ⟨o, e, b, c, h⟩ := complete_shape m k op tag st r s; rw [h]
@[simp] theorem complete_harbour_resetReq (m k op tag st : Nat) (r : List Byte) (s : State) : (complete m k op tag st r s).harbour.resetReq = s.harbour.resetReq := by
  obtain ⟨o, e, b, c, h⟩ := complete_shape m k op tag st r s; rw [h]
@[simp] theorem complete_harbour_resetLatchAt (m k op tag st : Nat) (r : List Byte) (s : State) : (complete m k op tag st r s).harbour.resetLatchAt = s.harbour.resetLatchAt := by
  obtain ⟨o, e, b, c, h⟩ := complete_shape m k op tag st r s; rw [h]
@[simp] theorem complete_harbour_domainNext (m k op tag st : Nat) (r : List Byte) (s : State) : (complete m k op tag st r s).harbour.domainNext = s.harbour.domainNext := by
  obtain ⟨o, e, b, c, h⟩ := complete_shape m k op tag st r s; rw [h]
@[simp] theorem complete_harbour_nops (m k op tag st : Nat) (r : List Byte) (s : State) : (complete m k op tag st r s).harbour.nops = s.harbour.nops := by
  obtain ⟨o, e, b, c, h⟩ := complete_shape m k op tag st r s; rw [h]
@[simp] theorem settle_pending (s : State) : (settle s).pending = s.pending := by
  obtain ⟨o, a, b, c, h⟩ := settle_shape s; rw [h]
@[simp] theorem settle_freeCtr (s : State) : (settle s).freeCtr = s.freeCtr := by
  obtain ⟨o, a, b, c, h⟩ := settle_shape s; rw [h]
@[simp] theorem settle_mem (s : State) : (settle s).mem = s.mem := by
  obtain ⟨o, a, b, c, h⟩ := settle_shape s; rw [h]
@[simp] theorem settle_votes (s : State) : (settle s).votes = s.votes := by
  obtain ⟨o, a, b, c, h⟩ := settle_shape s; rw [h]
@[simp] theorem settle_otp (s : State) : (settle s).otp = s.otp := by
  obtain ⟨o, a, b, c, h⟩ := settle_shape s; rw [h]
@[simp] theorem settle_time (s : State) : (settle s).time = s.time := by
  obtain ⟨o, a, b, c, h⟩ := settle_shape s; rw [h]
@[simp] theorem settle_gnss (s : State) : (settle s).gnss = s.gnss := by
  obtain ⟨o, a, b, c, h⟩ := settle_shape s; rw [h]
@[simp] theorem settle_pose (s : State) : (settle s).pose = s.pose := by
  obtain ⟨o, a, b, c, h⟩ := settle_shape s; rw [h]
@[simp] theorem settle_cell (s : State) : (settle s).cell = s.cell := by
  obtain ⟨o, a, b, c, h⟩ := settle_shape s; rw [h]
@[simp] theorem settle_raster (s : State) : (settle s).raster = s.raster := by
  obtain ⟨o, a, b, c, h⟩ := settle_shape s; rw [h]
@[simp] theorem settle_knani (s : State) : (settle s).knani = s.knani := by
  obtain ⟨o, a, b, c, h⟩ := settle_shape s; rw [h]
@[simp] theorem settle_axes (s : State) : (settle s).axes = s.axes := by
  obtain ⟨o, a, b, c, h⟩ := settle_shape s; rw [h]
@[simp] theorem settle_meter (s : State) : (settle s).meter = s.meter := by
  obtain ⟨o, a, b, c, h⟩ := settle_shape s; rw [h]
@[simp] theorem settle_fleet (s : State) : (settle s).fleet = s.fleet := by
  obtain ⟨o, a, b, c, h⟩ := settle_shape s; rw [h]
@[simp] theorem settle_cor (s : State) : (settle s).cor = s.cor := by
  obtain ⟨o, a, b, c, h⟩ := settle_shape s; rw [h]
@[simp] theorem settle_stop (s : State) : (settle s).stop = s.stop := by
  obtain ⟨o, a, b, c, h⟩ := settle_shape s; rw [h]
@[simp] theorem settle_net (s : State) : (settle s).net = s.net := by
  obtain ⟨o, a, b, c, h⟩ := settle_shape s; rw [h]
@[simp] theorem settle_sec (s : State) : (settle s).sec = s.sec := by
  obtain ⟨o, a, b, c, h⟩ := settle_shape s; rw [h]
@[simp] theorem settle_update (s : State) : (settle s).update = s.update := by
  obtain ⟨o, a, b, c, h⟩ := settle_shape s; rw [h]
@[simp] theorem settle_journal (s : State) : (settle s).journal = s.journal := by
  obtain ⟨o, a, b, c, h⟩ := settle_shape s; rw [h]
@[simp] theorem settle_power (s : State) : (settle s).power = s.power := by
  obtain ⟨o, a, b, c, h⟩ := settle_shape s; rw [h]
@[simp] theorem settle_recorder (s : State) : (settle s).recorder = s.recorder := by
  obtain ⟨o, a, b, c, h⟩ := settle_shape s; rw [h]
@[simp] theorem settle_harbour_mbxs (s : State) : (settle s).harbour.mbxs = s.harbour.mbxs := by
  obtain ⟨o, a, b, c, h⟩ := settle_shape s; rw [h]
@[simp] theorem settle_harbour_credit (s : State) : (settle s).harbour.credit = s.harbour.credit := by
  obtain ⟨o, a, b, c, h⟩ := settle_shape s; rw [h]
@[simp] theorem settle_harbour_refused (s : State) : (settle s).harbour.refused = s.harbour.refused := by
  obtain ⟨o, a, b, c, h⟩ := settle_shape s; rw [h]
@[simp] theorem settle_harbour_refusedTotal (s : State) : (settle s).harbour.refusedTotal = s.harbour.refusedTotal := by
  obtain ⟨o, a, b, c, h⟩ := settle_shape s; rw [h]
@[simp] theorem settle_harbour_quadSpi (s : State) : (settle s).harbour.quadSpi = s.harbour.quadSpi := by
  obtain ⟨o, a, b, c, h⟩ := settle_shape s; rw [h]
@[simp] theorem settle_harbour_linkUp (s : State) : (settle s).harbour.linkUp = s.harbour.linkUp := by
  obtain ⟨o, a, b, c, h⟩ := settle_shape s; rw [h]
@[simp] theorem settle_harbour_linkRate (s : State) : (settle s).harbour.linkRate = s.harbour.linkRate := by
  obtain ⟨o, a, b, c, h⟩ := settle_shape s; rw [h]
@[simp] theorem settle_harbour_linkLanes (s : State) : (settle s).harbour.linkLanes = s.harbour.linkLanes := by
  obtain ⟨o, a, b, c, h⟩ := settle_shape s; rw [h]
@[simp] theorem settle_harbour_msiVectors (s : State) : (settle s).harbour.msiVectors = s.harbour.msiVectors := by
  obtain ⟨o, a, b, c, h⟩ := settle_shape s; rw [h]
@[simp] theorem settle_harbour_ready (s : State) : (settle s).harbour.ready = s.harbour.ready := by
  obtain ⟨o, a, b, c, h⟩ := settle_shape s; rw [h]
@[simp] theorem settle_harbour_intMask (s : State) : (settle s).harbour.intMask = s.harbour.intMask := by
  obtain ⟨o, a, b, c, h⟩ := settle_shape s; rw [h]
@[simp] theorem settle_harbour_intRoute (s : State) : (settle s).harbour.intRoute = s.harbour.intRoute := by
  obtain ⟨o, a, b, c, h⟩ := settle_shape s; rw [h]
@[simp] theorem settle_harbour_evtAck (s : State) : (settle s).harbour.evtAck = s.harbour.evtAck := by
  obtain ⟨o, a, b, c, h⟩ := settle_shape s; rw [h]
@[simp] theorem settle_harbour_indAddr (s : State) : (settle s).harbour.indAddr = s.harbour.indAddr := by
  obtain ⟨o, a, b, c, h⟩ := settle_shape s; rw [h]
@[simp] theorem settle_harbour_autoInc (s : State) : (settle s).harbour.autoInc = s.harbour.autoInc := by
  obtain ⟨o, a, b, c, h⟩ := settle_shape s; rw [h]
@[simp] theorem settle_harbour_indLatch (s : State) : (settle s).harbour.indLatch = s.harbour.indLatch := by
  obtain ⟨o, a, b, c, h⟩ := settle_shape s; rw [h]
@[simp] theorem settle_harbour_readData (s : State) : (settle s).harbour.readData = s.harbour.readData := by
  obtain ⟨o, a, b, c, h⟩ := settle_shape s; rw [h]
@[simp] theorem settle_harbour_pairPending (s : State) : (settle s).harbour.pairPending = s.harbour.pairPending := by
  obtain ⟨o, a, b, c, h⟩ := settle_shape s; rw [h]
@[simp] theorem settle_harbour_resetReq (s : State) : (settle s).harbour.resetReq = s.harbour.resetReq := by
  obtain ⟨o, a, b, c, h⟩ := settle_shape s; rw [h]
@[simp] theorem settle_harbour_resetLatchAt (s : State) : (settle s).harbour.resetLatchAt = s.harbour.resetLatchAt := by
  obtain ⟨o, a, b, c, h⟩ := settle_shape s; rw [h]
@[simp] theorem settle_harbour_domainNext (s : State) : (settle s).harbour.domainNext = s.harbour.domainNext := by
  obtain ⟨o, a, b, c, h⟩ := settle_shape s; rw [h]
@[simp] theorem settle_harbour_nops (s : State) : (settle s).harbour.nops = s.harbour.nops := by
  obtain ⟨o, a, b, c, h⟩ := settle_shape s; rw [h]

end Sys2Proof.Machine
end

