-- ==== Sys2Proof/Laws/State.lean ====
section
/-!
SUPPORT. One simp lemma per field of State per update of one of its parts: what the update leaves alone.
-/
namespace Sys2Proof.Machine

/-! ## setAx -/

@[simp] theorem setAx_pending (n : Nat) (f : Axis → Axis) (s : State) : (setAx n f s).pending = s.pending := rfl
@[simp] theorem setAx_out (n : Nat) (f : Axis → Axis) (s : State) : (setAx n f s).out = s.out := rfl
@[simp] theorem setAx_freeCtr (n : Nat) (f : Axis → Axis) (s : State) : (setAx n f s).freeCtr = s.freeCtr := rfl
@[simp] theorem setAx_mem (n : Nat) (f : Axis → Axis) (s : State) : (setAx n f s).mem = s.mem := rfl
@[simp] theorem setAx_votes (n : Nat) (f : Axis → Axis) (s : State) : (setAx n f s).votes = s.votes := rfl
@[simp] theorem setAx_otp (n : Nat) (f : Axis → Axis) (s : State) : (setAx n f s).otp = s.otp := rfl
@[simp] theorem setAx_time (n : Nat) (f : Axis → Axis) (s : State) : (setAx n f s).time = s.time := rfl
@[simp] theorem setAx_harbour (n : Nat) (f : Axis → Axis) (s : State) : (setAx n f s).harbour = s.harbour := rfl
@[simp] theorem setAx_gnss (n : Nat) (f : Axis → Axis) (s : State) : (setAx n f s).gnss = s.gnss := rfl
@[simp] theorem setAx_pose (n : Nat) (f : Axis → Axis) (s : State) : (setAx n f s).pose = s.pose := rfl
@[simp] theorem setAx_cell (n : Nat) (f : Axis → Axis) (s : State) : (setAx n f s).cell = s.cell := rfl
@[simp] theorem setAx_raster (n : Nat) (f : Axis → Axis) (s : State) : (setAx n f s).raster = s.raster := rfl
@[simp] theorem setAx_knani (n : Nat) (f : Axis → Axis) (s : State) : (setAx n f s).knani = s.knani := rfl
@[simp] theorem setAx_meter (n : Nat) (f : Axis → Axis) (s : State) : (setAx n f s).meter = s.meter := rfl
@[simp] theorem setAx_fleet (n : Nat) (f : Axis → Axis) (s : State) : (setAx n f s).fleet = s.fleet := rfl
@[simp] theorem setAx_cor (n : Nat) (f : Axis → Axis) (s : State) : (setAx n f s).cor = s.cor := rfl
@[simp] theorem setAx_stop (n : Nat) (f : Axis → Axis) (s : State) : (setAx n f s).stop = s.stop := rfl
@[simp] theorem setAx_net (n : Nat) (f : Axis → Axis) (s : State) : (setAx n f s).net = s.net := rfl
@[simp] theorem setAx_sec (n : Nat) (f : Axis → Axis) (s : State) : (setAx n f s).sec = s.sec := rfl
@[simp] theorem setAx_update (n : Nat) (f : Axis → Axis) (s : State) : (setAx n f s).update = s.update := rfl
@[simp] theorem setAx_journal (n : Nat) (f : Axis → Axis) (s : State) : (setAx n f s).journal = s.journal := rfl
@[simp] theorem setAx_power (n : Nat) (f : Axis → Axis) (s : State) : (setAx n f s).power = s.power := rfl
@[simp] theorem setAx_recorder (n : Nat) (f : Axis → Axis) (s : State) : (setAx n f s).recorder = s.recorder := rfl

/-! ## setDom -/

@[simp] theorem setDom_pending (k : Nat) (d : Domain) (s : State) : (setDom k d s).pending = s.pending := rfl
@[simp] theorem setDom_out (k : Nat) (d : Domain) (s : State) : (setDom k d s).out = s.out := rfl
@[simp] theorem setDom_freeCtr (k : Nat) (d : Domain) (s : State) : (setDom k d s).freeCtr = s.freeCtr := rfl
@[simp] theorem setDom_mem (k : Nat) (d : Domain) (s : State) : (setDom k d s).mem = s.mem := rfl
@[simp] theorem setDom_votes (k : Nat) (d : Domain) (s : State) : (setDom k d s).votes = s.votes := rfl
@[simp] theorem setDom_otp (k : Nat) (d : Domain) (s : State) : (setDom k d s).otp = s.otp := rfl
@[simp] theorem setDom_harbour (k : Nat) (d : Domain) (s : State) : (setDom k d s).harbour = s.harbour := rfl
@[simp] theorem setDom_gnss (k : Nat) (d : Domain) (s : State) : (setDom k d s).gnss = s.gnss := rfl
@[simp] theorem setDom_pose (k : Nat) (d : Domain) (s : State) : (setDom k d s).pose = s.pose := rfl
@[simp] theorem setDom_cell (k : Nat) (d : Domain) (s : State) : (setDom k d s).cell = s.cell := rfl
@[simp] theorem setDom_raster (k : Nat) (d : Domain) (s : State) : (setDom k d s).raster = s.raster := rfl
@[simp] theorem setDom_knani (k : Nat) (d : Domain) (s : State) : (setDom k d s).knani = s.knani := rfl
@[simp] theorem setDom_axes (k : Nat) (d : Domain) (s : State) : (setDom k d s).axes = s.axes := rfl
@[simp] theorem setDom_meter (k : Nat) (d : Domain) (s : State) : (setDom k d s).meter = s.meter := rfl
@[simp] theorem setDom_fleet (k : Nat) (d : Domain) (s : State) : (setDom k d s).fleet = s.fleet := rfl
@[simp] theorem setDom_cor (k : Nat) (d : Domain) (s : State) : (setDom k d s).cor = s.cor := rfl
@[simp] theorem setDom_stop (k : Nat) (d : Domain) (s : State) : (setDom k d s).stop = s.stop := rfl
@[simp] theorem setDom_net (k : Nat) (d : Domain) (s : State) : (setDom k d s).net = s.net := rfl
@[simp] theorem setDom_sec (k : Nat) (d : Domain) (s : State) : (setDom k d s).sec = s.sec := rfl
@[simp] theorem setDom_update (k : Nat) (d : Domain) (s : State) : (setDom k d s).update = s.update := rfl
@[simp] theorem setDom_journal (k : Nat) (d : Domain) (s : State) : (setDom k d s).journal = s.journal := rfl
@[simp] theorem setDom_power (k : Nat) (d : Domain) (s : State) : (setDom k d s).power = s.power := rfl
@[simp] theorem setDom_recorder (k : Nat) (d : Domain) (s : State) : (setDom k d s).recorder = s.recorder := rfl

/-! ## setTable -/

@[simp] theorem setTable_pending (t : List (Nat × CorEntry)) (s : State) : (setTable t s).pending = s.pending := rfl
@[simp] theorem setTable_out (t : List (Nat × CorEntry)) (s : State) : (setTable t s).out = s.out := rfl
@[simp] theorem setTable_freeCtr (t : List (Nat × CorEntry)) (s : State) : (setTable t s).freeCtr = s.freeCtr := rfl
@[simp] theorem setTable_mem (t : List (Nat × CorEntry)) (s : State) : (setTable t s).mem = s.mem := rfl
@[simp] theorem setTable_votes (t : List (Nat × CorEntry)) (s : State) : (setTable t s).votes = s.votes := rfl
@[simp] theorem setTable_otp (t : List (Nat × CorEntry)) (s : State) : (setTable t s).otp = s.otp := rfl
@[simp] theorem setTable_time (t : List (Nat × CorEntry)) (s : State) : (setTable t s).time = s.time := rfl
@[simp] theorem setTable_harbour (t : List (Nat × CorEntry)) (s : State) : (setTable t s).harbour = s.harbour := rfl
@[simp] theorem setTable_gnss (t : List (Nat × CorEntry)) (s : State) : (setTable t s).gnss = s.gnss := rfl
@[simp] theorem setTable_pose (t : List (Nat × CorEntry)) (s : State) : (setTable t s).pose = s.pose := rfl
@[simp] theorem setTable_cell (t : List (Nat × CorEntry)) (s : State) : (setTable t s).cell = s.cell := rfl
@[simp] theorem setTable_raster (t : List (Nat × CorEntry)) (s : State) : (setTable t s).raster = s.raster := rfl
@[simp] theorem setTable_knani (t : List (Nat × CorEntry)) (s : State) : (setTable t s).knani = s.knani := rfl
@[simp] theorem setTable_axes (t : List (Nat × CorEntry)) (s : State) : (setTable t s).axes = s.axes := rfl
@[simp] theorem setTable_meter (t : List (Nat × CorEntry)) (s : State) : (setTable t s).meter = s.meter := rfl
@[simp] theorem setTable_fleet (t : List (Nat × CorEntry)) (s : State) : (setTable t s).fleet = s.fleet := rfl
@[simp] theorem setTable_stop (t : List (Nat × CorEntry)) (s : State) : (setTable t s).stop = s.stop := rfl
@[simp] theorem setTable_net (t : List (Nat × CorEntry)) (s : State) : (setTable t s).net = s.net := rfl
@[simp] theorem setTable_sec (t : List (Nat × CorEntry)) (s : State) : (setTable t s).sec = s.sec := rfl
@[simp] theorem setTable_update (t : List (Nat × CorEntry)) (s : State) : (setTable t s).update = s.update := rfl
@[simp] theorem setTable_journal (t : List (Nat × CorEntry)) (s : State) : (setTable t s).journal = s.journal := rfl
@[simp] theorem setTable_power (t : List (Nat × CorEntry)) (s : State) : (setTable t s).power = s.power := rfl
@[simp] theorem setTable_recorder (t : List (Nat × CorEntry)) (s : State) : (setTable t s).recorder = s.recorder := rfl

/-! ## setStream -/

@[simp] theorem setStream_pending (n : Nat) (f : IfStream → IfStream) (s : State) : (setStream n f s).pending = s.pending := rfl
@[simp] theorem setStream_out (n : Nat) (f : IfStream → IfStream) (s : State) : (setStream n f s).out = s.out := rfl
@[simp] theorem setStream_freeCtr (n : Nat) (f : IfStream → IfStream) (s : State) : (setStream n f s).freeCtr = s.freeCtr := rfl
@[simp] theorem setStream_mem (n : Nat) (f : IfStream → IfStream) (s : State) : (setStream n f s).mem = s.mem := rfl
@[simp] theorem setStream_votes (n : Nat) (f : IfStream → IfStream) (s : State) : (setStream n f s).votes = s.votes := rfl
@[simp] theorem setStream_otp (n : Nat) (f : IfStream → IfStream) (s : State) : (setStream n f s).otp = s.otp := rfl
@[simp] theorem setStream_time (n : Nat) (f : IfStream → IfStream) (s : State) : (setStream n f s).time = s.time := rfl
@[simp] theorem setStream_harbour (n : Nat) (f : IfStream → IfStream) (s : State) : (setStream n f s).harbour = s.harbour := rfl
@[simp] theorem setStream_pose (n : Nat) (f : IfStream → IfStream) (s : State) : (setStream n f s).pose = s.pose := rfl
@[simp] theorem setStream_cell (n : Nat) (f : IfStream → IfStream) (s : State) : (setStream n f s).cell = s.cell := rfl
@[simp] theorem setStream_raster (n : Nat) (f : IfStream → IfStream) (s : State) : (setStream n f s).raster = s.raster := rfl
@[simp] theorem setStream_knani (n : Nat) (f : IfStream → IfStream) (s : State) : (setStream n f s).knani = s.knani := rfl
@[simp] theorem setStream_axes (n : Nat) (f : IfStream → IfStream) (s : State) : (setStream n f s).axes = s.axes := rfl
@[simp] theorem setStream_meter (n : Nat) (f : IfStream → IfStream) (s : State) : (setStream n f s).meter = s.meter := rfl
@[simp] theorem setStream_fleet (n : Nat) (f : IfStream → IfStream) (s : State) : (setStream n f s).fleet = s.fleet := rfl
@[simp] theorem setStream_cor (n : Nat) (f : IfStream → IfStream) (s : State) : (setStream n f s).cor = s.cor := rfl
@[simp] theorem setStream_stop (n : Nat) (f : IfStream → IfStream) (s : State) : (setStream n f s).stop = s.stop := rfl
@[simp] theorem setStream_net (n : Nat) (f : IfStream → IfStream) (s : State) : (setStream n f s).net = s.net := rfl
@[simp] theorem setStream_sec (n : Nat) (f : IfStream → IfStream) (s : State) : (setStream n f s).sec = s.sec := rfl
@[simp] theorem setStream_update (n : Nat) (f : IfStream → IfStream) (s : State) : (setStream n f s).update = s.update := rfl
@[simp] theorem setStream_journal (n : Nat) (f : IfStream → IfStream) (s : State) : (setStream n f s).journal = s.journal := rfl
@[simp] theorem setStream_power (n : Nat) (f : IfStream → IfStream) (s : State) : (setStream n f s).power = s.power := rfl
@[simp] theorem setStream_recorder (n : Nat) (f : IfStream → IfStream) (s : State) : (setStream n f s).recorder = s.recorder := rfl

/-! ## setChan -/

@[simp] theorem setChan_pending (n : Nat) (f : GChan → GChan) (s : State) : (setChan n f s).pending = s.pending := rfl
@[simp] theorem setChan_out (n : Nat) (f : GChan → GChan) (s : State) : (setChan n f s).out = s.out := rfl
@[simp] theorem setChan_freeCtr (n : Nat) (f : GChan → GChan) (s : State) : (setChan n f s).freeCtr = s.freeCtr := rfl
@[simp] theorem setChan_mem (n : Nat) (f : GChan → GChan) (s : State) : (setChan n f s).mem = s.mem := rfl
@[simp] theorem setChan_votes (n : Nat) (f : GChan → GChan) (s : State) : (setChan n f s).votes = s.votes := rfl
@[simp] theorem setChan_otp (n : Nat) (f : GChan → GChan) (s : State) : (setChan n f s).otp = s.otp := rfl
@[simp] theorem setChan_time (n : Nat) (f : GChan → GChan) (s : State) : (setChan n f s).time = s.time := rfl
@[simp] theorem setChan_harbour (n : Nat) (f : GChan → GChan) (s : State) : (setChan n f s).harbour = s.harbour := rfl
@[simp] theorem setChan_pose (n : Nat) (f : GChan → GChan) (s : State) : (setChan n f s).pose = s.pose := rfl
@[simp] theorem setChan_cell (n : Nat) (f : GChan → GChan) (s : State) : (setChan n f s).cell = s.cell := rfl
@[simp] theorem setChan_raster (n : Nat) (f : GChan → GChan) (s : State) : (setChan n f s).raster = s.raster := rfl
@[simp] theorem setChan_knani (n : Nat) (f : GChan → GChan) (s : State) : (setChan n f s).knani = s.knani := rfl
@[simp] theorem setChan_axes (n : Nat) (f : GChan → GChan) (s : State) : (setChan n f s).axes = s.axes := rfl
@[simp] theorem setChan_meter (n : Nat) (f : GChan → GChan) (s : State) : (setChan n f s).meter = s.meter := rfl
@[simp] theorem setChan_fleet (n : Nat) (f : GChan → GChan) (s : State) : (setChan n f s).fleet = s.fleet := rfl
@[simp] theorem setChan_cor (n : Nat) (f : GChan → GChan) (s : State) : (setChan n f s).cor = s.cor := rfl
@[simp] theorem setChan_stop (n : Nat) (f : GChan → GChan) (s : State) : (setChan n f s).stop = s.stop := rfl
@[simp] theorem setChan_net (n : Nat) (f : GChan → GChan) (s : State) : (setChan n f s).net = s.net := rfl
@[simp] theorem setChan_sec (n : Nat) (f : GChan → GChan) (s : State) : (setChan n f s).sec = s.sec := rfl
@[simp] theorem setChan_update (n : Nat) (f : GChan → GChan) (s : State) : (setChan n f s).update = s.update := rfl
@[simp] theorem setChan_journal (n : Nat) (f : GChan → GChan) (s : State) : (setChan n f s).journal = s.journal := rfl
@[simp] theorem setChan_power (n : Nat) (f : GChan → GChan) (s : State) : (setChan n f s).power = s.power := rfl
@[simp] theorem setChan_recorder (n : Nat) (f : GChan → GChan) (s : State) : (setChan n f s).recorder = s.recorder := rfl

/-! ## dropChan -/

@[simp] theorem dropChan_pending (n : Nat) (s : State) : (dropChan n s).pending = s.pending := rfl
@[simp] theorem dropChan_out (n : Nat) (s : State) : (dropChan n s).out = s.out := rfl
@[simp] theorem dropChan_freeCtr (n : Nat) (s : State) : (dropChan n s).freeCtr = s.freeCtr := rfl
@[simp] theorem dropChan_mem (n : Nat) (s : State) : (dropChan n s).mem = s.mem := rfl
@[simp] theorem dropChan_votes (n : Nat) (s : State) : (dropChan n s).votes = s.votes := rfl
@[simp] theorem dropChan_otp (n : Nat) (s : State) : (dropChan n s).otp = s.otp := rfl
@[simp] theorem dropChan_time (n : Nat) (s : State) : (dropChan n s).time = s.time := rfl
@[simp] theorem dropChan_harbour (n : Nat) (s : State) : (dropChan n s).harbour = s.harbour := rfl
@[simp] theorem dropChan_pose (n : Nat) (s : State) : (dropChan n s).pose = s.pose := rfl
@[simp] theorem dropChan_cell (n : Nat) (s : State) : (dropChan n s).cell = s.cell := rfl
@[simp] theorem dropChan_raster (n : Nat) (s : State) : (dropChan n s).raster = s.raster := rfl
@[simp] theorem dropChan_knani (n : Nat) (s : State) : (dropChan n s).knani = s.knani := rfl
@[simp] theorem dropChan_axes (n : Nat) (s : State) : (dropChan n s).axes = s.axes := rfl
@[simp] theorem dropChan_meter (n : Nat) (s : State) : (dropChan n s).meter = s.meter := rfl
@[simp] theorem dropChan_fleet (n : Nat) (s : State) : (dropChan n s).fleet = s.fleet := rfl
@[simp] theorem dropChan_cor (n : Nat) (s : State) : (dropChan n s).cor = s.cor := rfl
@[simp] theorem dropChan_stop (n : Nat) (s : State) : (dropChan n s).stop = s.stop := rfl
@[simp] theorem dropChan_net (n : Nat) (s : State) : (dropChan n s).net = s.net := rfl
@[simp] theorem dropChan_sec (n : Nat) (s : State) : (dropChan n s).sec = s.sec := rfl
@[simp] theorem dropChan_update (n : Nat) (s : State) : (dropChan n s).update = s.update := rfl
@[simp] theorem dropChan_journal (n : Nat) (s : State) : (dropChan n s).journal = s.journal := rfl
@[simp] theorem dropChan_power (n : Nat) (s : State) : (dropChan n s).power = s.power := rfl
@[simp] theorem dropChan_recorder (n : Nat) (s : State) : (dropChan n s).recorder = s.recorder := rfl

/-! ## putChan -/

@[simp] theorem putChan_pending (n : Nat) (c : GChan) (s : State) : (putChan n c s).pending = s.pending := rfl
@[simp] theorem putChan_out (n : Nat) (c : GChan) (s : State) : (putChan n c s).out = s.out := rfl
@[simp] theorem putChan_freeCtr (n : Nat) (c : GChan) (s : State) : (putChan n c s).freeCtr = s.freeCtr := rfl
@[simp] theorem putChan_mem (n : Nat) (c : GChan) (s : State) : (putChan n c s).mem = s.mem := rfl
@[simp] theorem putChan_votes (n : Nat) (c : GChan) (s : State) : (putChan n c s).votes = s.votes := rfl
@[simp] theorem putChan_otp (n : Nat) (c : GChan) (s : State) : (putChan n c s).otp = s.otp := rfl
@[simp] theorem putChan_time (n : Nat) (c : GChan) (s : State) : (putChan n c s).time = s.time := rfl
@[simp] theorem putChan_harbour (n : Nat) (c : GChan) (s : State) : (putChan n c s).harbour = s.harbour := rfl
@[simp] theorem putChan_pose (n : Nat) (c : GChan) (s : State) : (putChan n c s).pose = s.pose := rfl
@[simp] theorem putChan_cell (n : Nat) (c : GChan) (s : State) : (putChan n c s).cell = s.cell := rfl
@[simp] theorem putChan_raster (n : Nat) (c : GChan) (s : State) : (putChan n c s).raster = s.raster := rfl
@[simp] theorem putChan_knani (n : Nat) (c : GChan) (s : State) : (putChan n c s).knani = s.knani := rfl
@[simp] theorem putChan_axes (n : Nat) (c : GChan) (s : State) : (putChan n c s).axes = s.axes := rfl
@[simp] theorem putChan_meter (n : Nat) (c : GChan) (s : State) : (putChan n c s).meter = s.meter := rfl
@[simp] theorem putChan_fleet (n : Nat) (c : GChan) (s : State) : (putChan n c s).fleet = s.fleet := rfl
@[simp] theorem putChan_cor (n : Nat) (c : GChan) (s : State) : (putChan n c s).cor = s.cor := rfl
@[simp] theorem putChan_stop (n : Nat) (c : GChan) (s : State) : (putChan n c s).stop = s.stop := rfl
@[simp] theorem putChan_net (n : Nat) (c : GChan) (s : State) : (putChan n c s).net = s.net := rfl
@[simp] theorem putChan_sec (n : Nat) (c : GChan) (s : State) : (putChan n c s).sec = s.sec := rfl
@[simp] theorem putChan_update (n : Nat) (c : GChan) (s : State) : (putChan n c s).update = s.update := rfl
@[simp] theorem putChan_journal (n : Nat) (c : GChan) (s : State) : (putChan n c s).journal = s.journal := rfl
@[simp] theorem putChan_power (n : Nat) (c : GChan) (s : State) : (putChan n c s).power = s.power := rfl
@[simp] theorem putChan_recorder (n : Nat) (c : GChan) (s : State) : (putChan n c s).recorder = s.recorder := rfl

/-! ## setLoop -/

@[simp] theorem setLoop_pending (n : Nat) (f : Loop → Loop) (s : State) : (setLoop n f s).pending = s.pending := rfl
@[simp] theorem setLoop_out (n : Nat) (f : Loop → Loop) (s : State) : (setLoop n f s).out = s.out := rfl
@[simp] theorem setLoop_freeCtr (n : Nat) (f : Loop → Loop) (s : State) : (setLoop n f s).freeCtr = s.freeCtr := rfl
@[simp] theorem setLoop_mem (n : Nat) (f : Loop → Loop) (s : State) : (setLoop n f s).mem = s.mem := rfl
@[simp] theorem setLoop_votes (n : Nat) (f : Loop → Loop) (s : State) : (setLoop n f s).votes = s.votes := rfl
@[simp] theorem setLoop_otp (n : Nat) (f : Loop → Loop) (s : State) : (setLoop n f s).otp = s.otp := rfl
@[simp] theorem setLoop_time (n : Nat) (f : Loop → Loop) (s : State) : (setLoop n f s).time = s.time := rfl
@[simp] theorem setLoop_harbour (n : Nat) (f : Loop → Loop) (s : State) : (setLoop n f s).harbour = s.harbour := rfl
@[simp] theorem setLoop_gnss (n : Nat) (f : Loop → Loop) (s : State) : (setLoop n f s).gnss = s.gnss := rfl
@[simp] theorem setLoop_pose (n : Nat) (f : Loop → Loop) (s : State) : (setLoop n f s).pose = s.pose := rfl
@[simp] theorem setLoop_cell (n : Nat) (f : Loop → Loop) (s : State) : (setLoop n f s).cell = s.cell := rfl
@[simp] theorem setLoop_raster (n : Nat) (f : Loop → Loop) (s : State) : (setLoop n f s).raster = s.raster := rfl
@[simp] theorem setLoop_axes (n : Nat) (f : Loop → Loop) (s : State) : (setLoop n f s).axes = s.axes := rfl
@[simp] theorem setLoop_meter (n : Nat) (f : Loop → Loop) (s : State) : (setLoop n f s).meter = s.meter := rfl
@[simp] theorem setLoop_fleet (n : Nat) (f : Loop → Loop) (s : State) : (setLoop n f s).fleet = s.fleet := rfl
@[simp] theorem setLoop_cor (n : Nat) (f : Loop → Loop) (s : State) : (setLoop n f s).cor = s.cor := rfl
@[simp] theorem setLoop_stop (n : Nat) (f : Loop → Loop) (s : State) : (setLoop n f s).stop = s.stop := rfl
@[simp] theorem setLoop_net (n : Nat) (f : Loop → Loop) (s : State) : (setLoop n f s).net = s.net := rfl
@[simp] theorem setLoop_sec (n : Nat) (f : Loop → Loop) (s : State) : (setLoop n f s).sec = s.sec := rfl
@[simp] theorem setLoop_update (n : Nat) (f : Loop → Loop) (s : State) : (setLoop n f s).update = s.update := rfl
@[simp] theorem setLoop_journal (n : Nat) (f : Loop → Loop) (s : State) : (setLoop n f s).journal = s.journal := rfl
@[simp] theorem setLoop_power (n : Nat) (f : Loop → Loop) (s : State) : (setLoop n f s).power = s.power := rfl
@[simp] theorem setLoop_recorder (n : Nat) (f : Loop → Loop) (s : State) : (setLoop n f s).recorder = s.recorder := rfl

/-! ## setView -/

@[simp] theorem setView_pending (n pos : Nat) (f : NodeView → NodeView) (s : State) : (setView n pos f s).pending = s.pending := rfl
@[simp] theorem setView_out (n pos : Nat) (f : NodeView → NodeView) (s : State) : (setView n pos f s).out = s.out := rfl
@[simp] theorem setView_freeCtr (n pos : Nat) (f : NodeView → NodeView) (s : State) : (setView n pos f s).freeCtr = s.freeCtr := rfl
@[simp] theorem setView_mem (n pos : Nat) (f : NodeView → NodeView) (s : State) : (setView n pos f s).mem = s.mem := rfl
@[simp] theorem setView_votes (n pos : Nat) (f : NodeView → NodeView) (s : State) : (setView n pos f s).votes = s.votes := rfl
@[simp] theorem setView_otp (n pos : Nat) (f : NodeView → NodeView) (s : State) : (setView n pos f s).otp = s.otp := rfl
@[simp] theorem setView_time (n pos : Nat) (f : NodeView → NodeView) (s : State) : (setView n pos f s).time = s.time := rfl
@[simp] theorem setView_harbour (n pos : Nat) (f : NodeView → NodeView) (s : State) : (setView n pos f s).harbour = s.harbour := rfl
@[simp] theorem setView_gnss (n pos : Nat) (f : NodeView → NodeView) (s : State) : (setView n pos f s).gnss = s.gnss := rfl
@[simp] theorem setView_pose (n pos : Nat) (f : NodeView → NodeView) (s : State) : (setView n pos f s).pose = s.pose := rfl
@[simp] theorem setView_cell (n pos : Nat) (f : NodeView → NodeView) (s : State) : (setView n pos f s).cell = s.cell := rfl
@[simp] theorem setView_raster (n pos : Nat) (f : NodeView → NodeView) (s : State) : (setView n pos f s).raster = s.raster := rfl
@[simp] theorem setView_axes (n pos : Nat) (f : NodeView → NodeView) (s : State) : (setView n pos f s).axes = s.axes := rfl
@[simp] theorem setView_meter (n pos : Nat) (f : NodeView → NodeView) (s : State) : (setView n pos f s).meter = s.meter := rfl
@[simp] theorem setView_fleet (n pos : Nat) (f : NodeView → NodeView) (s : State) : (setView n pos f s).fleet = s.fleet := rfl
@[simp] theorem setView_cor (n pos : Nat) (f : NodeView → NodeView) (s : State) : (setView n pos f s).cor = s.cor := rfl
@[simp] theorem setView_stop (n pos : Nat) (f : NodeView → NodeView) (s : State) : (setView n pos f s).stop = s.stop := rfl
@[simp] theorem setView_net (n pos : Nat) (f : NodeView → NodeView) (s : State) : (setView n pos f s).net = s.net := rfl
@[simp] theorem setView_sec (n pos : Nat) (f : NodeView → NodeView) (s : State) : (setView n pos f s).sec = s.sec := rfl
@[simp] theorem setView_update (n pos : Nat) (f : NodeView → NodeView) (s : State) : (setView n pos f s).update = s.update := rfl
@[simp] theorem setView_journal (n pos : Nat) (f : NodeView → NodeView) (s : State) : (setView n pos f s).journal = s.journal := rfl
@[simp] theorem setView_power (n pos : Nat) (f : NodeView → NodeView) (s : State) : (setView n pos f s).power = s.power := rfl
@[simp] theorem setView_recorder (n pos : Nat) (f : NodeView → NodeView) (s : State) : (setView n pos f s).recorder = s.recorder := rfl

/-! ## setPhys -/

@[simp] theorem setPhys_pending (n pos : Nat) (f : NodeDev → NodeDev) (s : State) : (setPhys n pos f s).pending = s.pending := rfl
@[simp] theorem setPhys_out (n pos : Nat) (f : NodeDev → NodeDev) (s : State) : (setPhys n pos f s).out = s.out := rfl
@[simp] theorem setPhys_freeCtr (n pos : Nat) (f : NodeDev → NodeDev) (s : State) : (setPhys n pos f s).freeCtr = s.freeCtr := rfl
@[simp] theorem setPhys_mem (n pos : Nat) (f : NodeDev → NodeDev) (s : State) : (setPhys n pos f s).mem = s.mem := rfl
@[simp] theorem setPhys_votes (n pos : Nat) (f : NodeDev → NodeDev) (s : State) : (setPhys n pos f s).votes = s.votes := rfl
@[simp] theorem setPhys_otp (n pos : Nat) (f : NodeDev → NodeDev) (s : State) : (setPhys n pos f s).otp = s.otp := rfl
@[simp] theorem setPhys_time (n pos : Nat) (f : NodeDev → NodeDev) (s : State) : (setPhys n pos f s).time = s.time := rfl
@[simp] theorem setPhys_harbour (n pos : Nat) (f : NodeDev → NodeDev) (s : State) : (setPhys n pos f s).harbour = s.harbour := rfl
@[simp] theorem setPhys_gnss (n pos : Nat) (f : NodeDev → NodeDev) (s : State) : (setPhys n pos f s).gnss = s.gnss := rfl
@[simp] theorem setPhys_pose (n pos : Nat) (f : NodeDev → NodeDev) (s : State) : (setPhys n pos f s).pose = s.pose := rfl
@[simp] theorem setPhys_cell (n pos : Nat) (f : NodeDev → NodeDev) (s : State) : (setPhys n pos f s).cell = s.cell := rfl
@[simp] theorem setPhys_raster (n pos : Nat) (f : NodeDev → NodeDev) (s : State) : (setPhys n pos f s).raster = s.raster := rfl
@[simp] theorem setPhys_axes (n pos : Nat) (f : NodeDev → NodeDev) (s : State) : (setPhys n pos f s).axes = s.axes := rfl
@[simp] theorem setPhys_meter (n pos : Nat) (f : NodeDev → NodeDev) (s : State) : (setPhys n pos f s).meter = s.meter := rfl
@[simp] theorem setPhys_fleet (n pos : Nat) (f : NodeDev → NodeDev) (s : State) : (setPhys n pos f s).fleet = s.fleet := rfl
@[simp] theorem setPhys_cor (n pos : Nat) (f : NodeDev → NodeDev) (s : State) : (setPhys n pos f s).cor = s.cor := rfl
@[simp] theorem setPhys_stop (n pos : Nat) (f : NodeDev → NodeDev) (s : State) : (setPhys n pos f s).stop = s.stop := rfl
@[simp] theorem setPhys_net (n pos : Nat) (f : NodeDev → NodeDev) (s : State) : (setPhys n pos f s).net = s.net := rfl
@[simp] theorem setPhys_sec (n pos : Nat) (f : NodeDev → NodeDev) (s : State) : (setPhys n pos f s).sec = s.sec := rfl
@[simp] theorem setPhys_update (n pos : Nat) (f : NodeDev → NodeDev) (s : State) : (setPhys n pos f s).update = s.update := rfl
@[simp] theorem setPhys_journal (n pos : Nat) (f : NodeDev → NodeDev) (s : State) : (setPhys n pos f s).journal = s.journal := rfl
@[simp] theorem setPhys_power (n pos : Nat) (f : NodeDev → NodeDev) (s : State) : (setPhys n pos f s).power = s.power := rfl
@[simp] theorem setPhys_recorder (n pos : Nat) (f : NodeDev → NodeDev) (s : State) : (setPhys n pos f s).recorder = s.recorder := rfl

/-! ## setSrc -/

@[simp] theorem setSrc_pending (m : Nat) (f : MSource → MSource) (s : State) : (setSrc m f s).pending = s.pending := rfl
@[simp] theorem setSrc_out (m : Nat) (f : MSource → MSource) (s : State) : (setSrc m f s).out = s.out := rfl
@[simp] theorem setSrc_freeCtr (m : Nat) (f : MSource → MSource) (s : State) : (setSrc m f s).freeCtr = s.freeCtr := rfl
@[simp] theorem setSrc_mem (m : Nat) (f : MSource → MSource) (s : State) : (setSrc m f s).mem = s.mem := rfl
@[simp] theorem setSrc_votes (m : Nat) (f : MSource → MSource) (s : State) : (setSrc m f s).votes = s.votes := rfl
@[simp] theorem setSrc_otp (m : Nat) (f : MSource → MSource) (s : State) : (setSrc m f s).otp = s.otp := rfl
@[simp] theorem setSrc_time (m : Nat) (f : MSource → MSource) (s : State) : (setSrc m f s).time = s.time := rfl
@[simp] theorem setSrc_harbour (m : Nat) (f : MSource → MSource) (s : State) : (setSrc m f s).harbour = s.harbour := rfl
@[simp] theorem setSrc_gnss (m : Nat) (f : MSource → MSource) (s : State) : (setSrc m f s).gnss = s.gnss := rfl
@[simp] theorem setSrc_pose (m : Nat) (f : MSource → MSource) (s : State) : (setSrc m f s).pose = s.pose := rfl
@[simp] theorem setSrc_cell (m : Nat) (f : MSource → MSource) (s : State) : (setSrc m f s).cell = s.cell := rfl
@[simp] theorem setSrc_raster (m : Nat) (f : MSource → MSource) (s : State) : (setSrc m f s).raster = s.raster := rfl
@[simp] theorem setSrc_knani (m : Nat) (f : MSource → MSource) (s : State) : (setSrc m f s).knani = s.knani := rfl
@[simp] theorem setSrc_axes (m : Nat) (f : MSource → MSource) (s : State) : (setSrc m f s).axes = s.axes := rfl
@[simp] theorem setSrc_fleet (m : Nat) (f : MSource → MSource) (s : State) : (setSrc m f s).fleet = s.fleet := rfl
@[simp] theorem setSrc_cor (m : Nat) (f : MSource → MSource) (s : State) : (setSrc m f s).cor = s.cor := rfl
@[simp] theorem setSrc_stop (m : Nat) (f : MSource → MSource) (s : State) : (setSrc m f s).stop = s.stop := rfl
@[simp] theorem setSrc_net (m : Nat) (f : MSource → MSource) (s : State) : (setSrc m f s).net = s.net := rfl
@[simp] theorem setSrc_sec (m : Nat) (f : MSource → MSource) (s : State) : (setSrc m f s).sec = s.sec := rfl
@[simp] theorem setSrc_update (m : Nat) (f : MSource → MSource) (s : State) : (setSrc m f s).update = s.update := rfl
@[simp] theorem setSrc_journal (m : Nat) (f : MSource → MSource) (s : State) : (setSrc m f s).journal = s.journal := rfl
@[simp] theorem setSrc_power (m : Nat) (f : MSource → MSource) (s : State) : (setSrc m f s).power = s.power := rfl
@[simp] theorem setSrc_recorder (m : Nat) (f : MSource → MSource) (s : State) : (setSrc m f s).recorder = s.recorder := rfl

/-! ## setEth -/

@[simp] theorem setEth_pending (n : Nat) (f : EthPort → EthPort) (s : State) : (setEth n f s).pending = s.pending := rfl
@[simp] theorem setEth_out (n : Nat) (f : EthPort → EthPort) (s : State) : (setEth n f s).out = s.out := rfl
@[simp] theorem setEth_freeCtr (n : Nat) (f : EthPort → EthPort) (s : State) : (setEth n f s).freeCtr = s.freeCtr := rfl
@[simp] theorem setEth_mem (n : Nat) (f : EthPort → EthPort) (s : State) : (setEth n f s).mem = s.mem := rfl
@[simp] theorem setEth_votes (n : Nat) (f : EthPort → EthPort) (s : State) : (setEth n f s).votes = s.votes := rfl
@[simp] theorem setEth_otp (n : Nat) (f : EthPort → EthPort) (s : State) : (setEth n f s).otp = s.otp := rfl
@[simp] theorem setEth_time (n : Nat) (f : EthPort → EthPort) (s : State) : (setEth n f s).time = s.time := rfl
@[simp] theorem setEth_harbour (n : Nat) (f : EthPort → EthPort) (s : State) : (setEth n f s).harbour = s.harbour := rfl
@[simp] theorem setEth_gnss (n : Nat) (f : EthPort → EthPort) (s : State) : (setEth n f s).gnss = s.gnss := rfl
@[simp] theorem setEth_pose (n : Nat) (f : EthPort → EthPort) (s : State) : (setEth n f s).pose = s.pose := rfl
@[simp] theorem setEth_cell (n : Nat) (f : EthPort → EthPort) (s : State) : (setEth n f s).cell = s.cell := rfl
@[simp] theorem setEth_raster (n : Nat) (f : EthPort → EthPort) (s : State) : (setEth n f s).raster = s.raster := rfl
@[simp] theorem setEth_knani (n : Nat) (f : EthPort → EthPort) (s : State) : (setEth n f s).knani = s.knani := rfl
@[simp] theorem setEth_axes (n : Nat) (f : EthPort → EthPort) (s : State) : (setEth n f s).axes = s.axes := rfl
@[simp] theorem setEth_meter (n : Nat) (f : EthPort → EthPort) (s : State) : (setEth n f s).meter = s.meter := rfl
@[simp] theorem setEth_fleet (n : Nat) (f : EthPort → EthPort) (s : State) : (setEth n f s).fleet = s.fleet := rfl
@[simp] theorem setEth_cor (n : Nat) (f : EthPort → EthPort) (s : State) : (setEth n f s).cor = s.cor := rfl
@[simp] theorem setEth_stop (n : Nat) (f : EthPort → EthPort) (s : State) : (setEth n f s).stop = s.stop := rfl
@[simp] theorem setEth_sec (n : Nat) (f : EthPort → EthPort) (s : State) : (setEth n f s).sec = s.sec := rfl
@[simp] theorem setEth_update (n : Nat) (f : EthPort → EthPort) (s : State) : (setEth n f s).update = s.update := rfl
@[simp] theorem setEth_journal (n : Nat) (f : EthPort → EthPort) (s : State) : (setEth n f s).journal = s.journal := rfl
@[simp] theorem setEth_power (n : Nat) (f : EthPort → EthPort) (s : State) : (setEth n f s).power = s.power := rfl
@[simp] theorem setEth_recorder (n : Nat) (f : EthPort → EthPort) (s : State) : (setEth n f s).recorder = s.recorder := rfl

/-! ## setPtp -/

@[simp] theorem setPtp_pending (n : Nat) (f : PtpPort → PtpPort) (s : State) : (setPtp n f s).pending = s.pending := rfl
@[simp] theorem setPtp_out (n : Nat) (f : PtpPort → PtpPort) (s : State) : (setPtp n f s).out = s.out := rfl
@[simp] theorem setPtp_freeCtr (n : Nat) (f : PtpPort → PtpPort) (s : State) : (setPtp n f s).freeCtr = s.freeCtr := rfl
@[simp] theorem setPtp_mem (n : Nat) (f : PtpPort → PtpPort) (s : State) : (setPtp n f s).mem = s.mem := rfl
@[simp] theorem setPtp_votes (n : Nat) (f : PtpPort → PtpPort) (s : State) : (setPtp n f s).votes = s.votes := rfl
@[simp] theorem setPtp_otp (n : Nat) (f : PtpPort → PtpPort) (s : State) : (setPtp n f s).otp = s.otp := rfl
@[simp] theorem setPtp_time (n : Nat) (f : PtpPort → PtpPort) (s : State) : (setPtp n f s).time = s.time := rfl
@[simp] theorem setPtp_harbour (n : Nat) (f : PtpPort → PtpPort) (s : State) : (setPtp n f s).harbour = s.harbour := rfl
@[simp] theorem setPtp_gnss (n : Nat) (f : PtpPort → PtpPort) (s : State) : (setPtp n f s).gnss = s.gnss := rfl
@[simp] theorem setPtp_pose (n : Nat) (f : PtpPort → PtpPort) (s : State) : (setPtp n f s).pose = s.pose := rfl
@[simp] theorem setPtp_cell (n : Nat) (f : PtpPort → PtpPort) (s : State) : (setPtp n f s).cell = s.cell := rfl
@[simp] theorem setPtp_raster (n : Nat) (f : PtpPort → PtpPort) (s : State) : (setPtp n f s).raster = s.raster := rfl
@[simp] theorem setPtp_knani (n : Nat) (f : PtpPort → PtpPort) (s : State) : (setPtp n f s).knani = s.knani := rfl
@[simp] theorem setPtp_axes (n : Nat) (f : PtpPort → PtpPort) (s : State) : (setPtp n f s).axes = s.axes := rfl
@[simp] theorem setPtp_meter (n : Nat) (f : PtpPort → PtpPort) (s : State) : (setPtp n f s).meter = s.meter := rfl
@[simp] theorem setPtp_fleet (n : Nat) (f : PtpPort → PtpPort) (s : State) : (setPtp n f s).fleet = s.fleet := rfl
@[simp] theorem setPtp_cor (n : Nat) (f : PtpPort → PtpPort) (s : State) : (setPtp n f s).cor = s.cor := rfl
@[simp] theorem setPtp_stop (n : Nat) (f : PtpPort → PtpPort) (s : State) : (setPtp n f s).stop = s.stop := rfl
@[simp] theorem setPtp_sec (n : Nat) (f : PtpPort → PtpPort) (s : State) : (setPtp n f s).sec = s.sec := rfl
@[simp] theorem setPtp_update (n : Nat) (f : PtpPort → PtpPort) (s : State) : (setPtp n f s).update = s.update := rfl
@[simp] theorem setPtp_journal (n : Nat) (f : PtpPort → PtpPort) (s : State) : (setPtp n f s).journal = s.journal := rfl
@[simp] theorem setPtp_power (n : Nat) (f : PtpPort → PtpPort) (s : State) : (setPtp n f s).power = s.power := rfl
@[simp] theorem setPtp_recorder (n : Nat) (f : PtpPort → PtpPort) (s : State) : (setPtp n f s).recorder = s.recorder := rfl

/-! ## setCan -/

@[simp] theorem setCan_pending (n : Nat) (f : CanPort → CanPort) (s : State) : (setCan n f s).pending = s.pending := rfl
@[simp] theorem setCan_out (n : Nat) (f : CanPort → CanPort) (s : State) : (setCan n f s).out = s.out := rfl
@[simp] theorem setCan_freeCtr (n : Nat) (f : CanPort → CanPort) (s : State) : (setCan n f s).freeCtr = s.freeCtr := rfl
@[simp] theorem setCan_mem (n : Nat) (f : CanPort → CanPort) (s : State) : (setCan n f s).mem = s.mem := rfl
@[simp] theorem setCan_votes (n : Nat) (f : CanPort → CanPort) (s : State) : (setCan n f s).votes = s.votes := rfl
@[simp] theorem setCan_otp (n : Nat) (f : CanPort → CanPort) (s : State) : (setCan n f s).otp = s.otp := rfl
@[simp] theorem setCan_time (n : Nat) (f : CanPort → CanPort) (s : State) : (setCan n f s).time = s.time := rfl
@[simp] theorem setCan_harbour (n : Nat) (f : CanPort → CanPort) (s : State) : (setCan n f s).harbour = s.harbour := rfl
@[simp] theorem setCan_gnss (n : Nat) (f : CanPort → CanPort) (s : State) : (setCan n f s).gnss = s.gnss := rfl
@[simp] theorem setCan_pose (n : Nat) (f : CanPort → CanPort) (s : State) : (setCan n f s).pose = s.pose := rfl
@[simp] theorem setCan_cell (n : Nat) (f : CanPort → CanPort) (s : State) : (setCan n f s).cell = s.cell := rfl
@[simp] theorem setCan_raster (n : Nat) (f : CanPort → CanPort) (s : State) : (setCan n f s).raster = s.raster := rfl
@[simp] theorem setCan_knani (n : Nat) (f : CanPort → CanPort) (s : State) : (setCan n f s).knani = s.knani := rfl
@[simp] theorem setCan_axes (n : Nat) (f : CanPort → CanPort) (s : State) : (setCan n f s).axes = s.axes := rfl
@[simp] theorem setCan_meter (n : Nat) (f : CanPort → CanPort) (s : State) : (setCan n f s).meter = s.meter := rfl
@[simp] theorem setCan_fleet (n : Nat) (f : CanPort → CanPort) (s : State) : (setCan n f s).fleet = s.fleet := rfl
@[simp] theorem setCan_cor (n : Nat) (f : CanPort → CanPort) (s : State) : (setCan n f s).cor = s.cor := rfl
@[simp] theorem setCan_stop (n : Nat) (f : CanPort → CanPort) (s : State) : (setCan n f s).stop = s.stop := rfl
@[simp] theorem setCan_sec (n : Nat) (f : CanPort → CanPort) (s : State) : (setCan n f s).sec = s.sec := rfl
@[simp] theorem setCan_update (n : Nat) (f : CanPort → CanPort) (s : State) : (setCan n f s).update = s.update := rfl
@[simp] theorem setCan_journal (n : Nat) (f : CanPort → CanPort) (s : State) : (setCan n f s).journal = s.journal := rfl
@[simp] theorem setCan_power (n : Nat) (f : CanPort → CanPort) (s : State) : (setCan n f s).power = s.power := rfl
@[simp] theorem setCan_recorder (n : Nat) (f : CanPort → CanPort) (s : State) : (setCan n f s).recorder = s.recorder := rfl

/-! ## setVx -/

@[simp] theorem setVx_pending (n : Nat) (f : VxPort → VxPort) (s : State) : (setVx n f s).pending = s.pending := rfl
@[simp] theorem setVx_out (n : Nat) (f : VxPort → VxPort) (s : State) : (setVx n f s).out = s.out := rfl
@[simp] theorem setVx_freeCtr (n : Nat) (f : VxPort → VxPort) (s : State) : (setVx n f s).freeCtr = s.freeCtr := rfl
@[simp] theorem setVx_mem (n : Nat) (f : VxPort → VxPort) (s : State) : (setVx n f s).mem = s.mem := rfl
@[simp] theorem setVx_votes (n : Nat) (f : VxPort → VxPort) (s : State) : (setVx n f s).votes = s.votes := rfl
@[simp] theorem setVx_otp (n : Nat) (f : VxPort → VxPort) (s : State) : (setVx n f s).otp = s.otp := rfl
@[simp] theorem setVx_time (n : Nat) (f : VxPort → VxPort) (s : State) : (setVx n f s).time = s.time := rfl
@[simp] theorem setVx_harbour (n : Nat) (f : VxPort → VxPort) (s : State) : (setVx n f s).harbour = s.harbour := rfl
@[simp] theorem setVx_gnss (n : Nat) (f : VxPort → VxPort) (s : State) : (setVx n f s).gnss = s.gnss := rfl
@[simp] theorem setVx_pose (n : Nat) (f : VxPort → VxPort) (s : State) : (setVx n f s).pose = s.pose := rfl
@[simp] theorem setVx_cell (n : Nat) (f : VxPort → VxPort) (s : State) : (setVx n f s).cell = s.cell := rfl
@[simp] theorem setVx_raster (n : Nat) (f : VxPort → VxPort) (s : State) : (setVx n f s).raster = s.raster := rfl
@[simp] theorem setVx_knani (n : Nat) (f : VxPort → VxPort) (s : State) : (setVx n f s).knani = s.knani := rfl
@[simp] theorem setVx_axes (n : Nat) (f : VxPort → VxPort) (s : State) : (setVx n f s).axes = s.axes := rfl
@[simp] theorem setVx_meter (n : Nat) (f : VxPort → VxPort) (s : State) : (setVx n f s).meter = s.meter := rfl
@[simp] theorem setVx_fleet (n : Nat) (f : VxPort → VxPort) (s : State) : (setVx n f s).fleet = s.fleet := rfl
@[simp] theorem setVx_cor (n : Nat) (f : VxPort → VxPort) (s : State) : (setVx n f s).cor = s.cor := rfl
@[simp] theorem setVx_stop (n : Nat) (f : VxPort → VxPort) (s : State) : (setVx n f s).stop = s.stop := rfl
@[simp] theorem setVx_sec (n : Nat) (f : VxPort → VxPort) (s : State) : (setVx n f s).sec = s.sec := rfl
@[simp] theorem setVx_update (n : Nat) (f : VxPort → VxPort) (s : State) : (setVx n f s).update = s.update := rfl
@[simp] theorem setVx_journal (n : Nat) (f : VxPort → VxPort) (s : State) : (setVx n f s).journal = s.journal := rfl
@[simp] theorem setVx_power (n : Nat) (f : VxPort → VxPort) (s : State) : (setVx n f s).power = s.power := rfl
@[simp] theorem setVx_recorder (n : Nat) (f : VxPort → VxPort) (s : State) : (setVx n f s).recorder = s.recorder := rfl

/-! ## setPeer -/

@[simp] theorem setPeer_pending (a : Nat) (f : Peer → Peer) (s : State) : (setPeer a f s).pending = s.pending := by unfold setPeer; split <;> rfl
@[simp] theorem setPeer_out (a : Nat) (f : Peer → Peer) (s : State) : (setPeer a f s).out = s.out := by unfold setPeer; split <;> rfl
@[simp] theorem setPeer_freeCtr (a : Nat) (f : Peer → Peer) (s : State) : (setPeer a f s).freeCtr = s.freeCtr := by unfold setPeer; split <;> rfl
@[simp] theorem setPeer_mem (a : Nat) (f : Peer → Peer) (s : State) : (setPeer a f s).mem = s.mem := by unfold setPeer; split <;> rfl
@[simp] theorem setPeer_votes (a : Nat) (f : Peer → Peer) (s : State) : (setPeer a f s).votes = s.votes := by unfold setPeer; split <;> rfl
@[simp] theorem setPeer_otp (a : Nat) (f : Peer → Peer) (s : State) : (setPeer a f s).otp = s.otp := by unfold setPeer; split <;> rfl
@[simp] theorem setPeer_time (a : Nat) (f : Peer → Peer) (s : State) : (setPeer a f s).time = s.time := by unfold setPeer; split <;> rfl
@[simp] theorem setPeer_harbour (a : Nat) (f : Peer → Peer) (s : State) : (setPeer a f s).harbour = s.harbour := by unfold setPeer; split <;> rfl
@[simp] theorem setPeer_gnss (a : Nat) (f : Peer → Peer) (s : State) : (setPeer a f s).gnss = s.gnss := by unfold setPeer; split <;> rfl
@[simp] theorem setPeer_pose (a : Nat) (f : Peer → Peer) (s : State) : (setPeer a f s).pose = s.pose := by unfold setPeer; split <;> rfl
@[simp] theorem setPeer_cell (a : Nat) (f : Peer → Peer) (s : State) : (setPeer a f s).cell = s.cell := by unfold setPeer; split <;> rfl
@[simp] theorem setPeer_raster (a : Nat) (f : Peer → Peer) (s : State) : (setPeer a f s).raster = s.raster := by unfold setPeer; split <;> rfl
@[simp] theorem setPeer_knani (a : Nat) (f : Peer → Peer) (s : State) : (setPeer a f s).knani = s.knani := by unfold setPeer; split <;> rfl
@[simp] theorem setPeer_axes (a : Nat) (f : Peer → Peer) (s : State) : (setPeer a f s).axes = s.axes := by unfold setPeer; split <;> rfl
@[simp] theorem setPeer_meter (a : Nat) (f : Peer → Peer) (s : State) : (setPeer a f s).meter = s.meter := by unfold setPeer; split <;> rfl
@[simp] theorem setPeer_cor (a : Nat) (f : Peer → Peer) (s : State) : (setPeer a f s).cor = s.cor := by unfold setPeer; split <;> rfl
@[simp] theorem setPeer_stop (a : Nat) (f : Peer → Peer) (s : State) : (setPeer a f s).stop = s.stop := by unfold setPeer; split <;> rfl
@[simp] theorem setPeer_net (a : Nat) (f : Peer → Peer) (s : State) : (setPeer a f s).net = s.net := by unfold setPeer; split <;> rfl
@[simp] theorem setPeer_sec (a : Nat) (f : Peer → Peer) (s : State) : (setPeer a f s).sec = s.sec := by unfold setPeer; split <;> rfl
@[simp] theorem setPeer_update (a : Nat) (f : Peer → Peer) (s : State) : (setPeer a f s).update = s.update := by unfold setPeer; split <;> rfl
@[simp] theorem setPeer_journal (a : Nat) (f : Peer → Peer) (s : State) : (setPeer a f s).journal = s.journal := by unfold setPeer; split <;> rfl
@[simp] theorem setPeer_power (a : Nat) (f : Peer → Peer) (s : State) : (setPeer a f s).power = s.power := by unfold setPeer; split <;> rfl
@[simp] theorem setPeer_recorder (a : Nat) (f : Peer → Peer) (s : State) : (setPeer a f s).recorder = s.recorder := by unfold setPeer; split <;> rfl

/-! ## setBank -/

@[simp] theorem setBank_pending (k : Nat) (b : Bank) (s : State) : (setBank k b s).pending = s.pending := rfl
@[simp] theorem setBank_out (k : Nat) (b : Bank) (s : State) : (setBank k b s).out = s.out := rfl
@[simp] theorem setBank_freeCtr (k : Nat) (b : Bank) (s : State) : (setBank k b s).freeCtr = s.freeCtr := rfl
@[simp] theorem setBank_mem (k : Nat) (b : Bank) (s : State) : (setBank k b s).mem = s.mem := rfl
@[simp] theorem setBank_votes (k : Nat) (b : Bank) (s : State) : (setBank k b s).votes = s.votes := rfl
@[simp] theorem setBank_otp (k : Nat) (b : Bank) (s : State) : (setBank k b s).otp = s.otp := rfl
@[simp] theorem setBank_time (k : Nat) (b : Bank) (s : State) : (setBank k b s).time = s.time := rfl
@[simp] theorem setBank_harbour (k : Nat) (b : Bank) (s : State) : (setBank k b s).harbour = s.harbour := rfl
@[simp] theorem setBank_gnss (k : Nat) (b : Bank) (s : State) : (setBank k b s).gnss = s.gnss := rfl
@[simp] theorem setBank_pose (k : Nat) (b : Bank) (s : State) : (setBank k b s).pose = s.pose := rfl
@[simp] theorem setBank_cell (k : Nat) (b : Bank) (s : State) : (setBank k b s).cell = s.cell := rfl
@[simp] theorem setBank_raster (k : Nat) (b : Bank) (s : State) : (setBank k b s).raster = s.raster := rfl
@[simp] theorem setBank_knani (k : Nat) (b : Bank) (s : State) : (setBank k b s).knani = s.knani := rfl
@[simp] theorem setBank_axes (k : Nat) (b : Bank) (s : State) : (setBank k b s).axes = s.axes := rfl
@[simp] theorem setBank_meter (k : Nat) (b : Bank) (s : State) : (setBank k b s).meter = s.meter := rfl
@[simp] theorem setBank_fleet (k : Nat) (b : Bank) (s : State) : (setBank k b s).fleet = s.fleet := rfl
@[simp] theorem setBank_cor (k : Nat) (b : Bank) (s : State) : (setBank k b s).cor = s.cor := rfl
@[simp] theorem setBank_stop (k : Nat) (b : Bank) (s : State) : (setBank k b s).stop = s.stop := rfl
@[simp] theorem setBank_net (k : Nat) (b : Bank) (s : State) : (setBank k b s).net = s.net := rfl
@[simp] theorem setBank_sec (k : Nat) (b : Bank) (s : State) : (setBank k b s).sec = s.sec := rfl
@[simp] theorem setBank_journal (k : Nat) (b : Bank) (s : State) : (setBank k b s).journal = s.journal := rfl
@[simp] theorem setBank_power (k : Nat) (b : Bank) (s : State) : (setBank k b s).power = s.power := rfl
@[simp] theorem setBank_recorder (k : Nat) (b : Bank) (s : State) : (setBank k b s).recorder = s.recorder := rfl

/-! ## passDone -/

@[simp] theorem passDone_pending (k : Nat) (s : State) : (passDone k s).pending = s.pending := rfl
@[simp] theorem passDone_out (k : Nat) (s : State) : (passDone k s).out = s.out := rfl
@[simp] theorem passDone_freeCtr (k : Nat) (s : State) : (passDone k s).freeCtr = s.freeCtr := rfl
@[simp] theorem passDone_mem (k : Nat) (s : State) : (passDone k s).mem = s.mem := rfl
@[simp] theorem passDone_votes (k : Nat) (s : State) : (passDone k s).votes = s.votes := rfl
@[simp] theorem passDone_otp (k : Nat) (s : State) : (passDone k s).otp = s.otp := rfl
@[simp] theorem passDone_time (k : Nat) (s : State) : (passDone k s).time = s.time := rfl
@[simp] theorem passDone_harbour (k : Nat) (s : State) : (passDone k s).harbour = s.harbour := rfl
@[simp] theorem passDone_gnss (k : Nat) (s : State) : (passDone k s).gnss = s.gnss := rfl
@[simp] theorem passDone_pose (k : Nat) (s : State) : (passDone k s).pose = s.pose := rfl
@[simp] theorem passDone_cell (k : Nat) (s : State) : (passDone k s).cell = s.cell := rfl
@[simp] theorem passDone_raster (k : Nat) (s : State) : (passDone k s).raster = s.raster := rfl
@[simp] theorem passDone_knani (k : Nat) (s : State) : (passDone k s).knani = s.knani := rfl
@[simp] theorem passDone_axes (k : Nat) (s : State) : (passDone k s).axes = s.axes := rfl
@[simp] theorem passDone_meter (k : Nat) (s : State) : (passDone k s).meter = s.meter := rfl
@[simp] theorem passDone_fleet (k : Nat) (s : State) : (passDone k s).fleet = s.fleet := rfl
@[simp] theorem passDone_cor (k : Nat) (s : State) : (passDone k s).cor = s.cor := rfl
@[simp] theorem passDone_stop (k : Nat) (s : State) : (passDone k s).stop = s.stop := rfl
@[simp] theorem passDone_net (k : Nat) (s : State) : (passDone k s).net = s.net := rfl
@[simp] theorem passDone_sec (k : Nat) (s : State) : (passDone k s).sec = s.sec := rfl
@[simp] theorem passDone_update (k : Nat) (s : State) : (passDone k s).update = s.update := rfl
@[simp] theorem passDone_journal (k : Nat) (s : State) : (passDone k s).journal = s.journal := rfl
@[simp] theorem passDone_recorder (k : Nat) (s : State) : (passDone k s).recorder = s.recorder := rfl

/-! ## What the updates write -/

@[simp] theorem setAx_axes (n : Nat) (f : Axis → Axis) (s : State) : (setAx n f s).axes = s.axes.modify n f := rfl
@[simp] theorem setTable_table (t : List (Nat × CorEntry)) (s : State) : (setTable t s).cor.table = t := rfl
theorem setStream_streams (n : Nat) (f : IfStream → IfStream) (s : State) : (setStream n f s).gnss.streams = s.gnss.streams.modify n f := rfl
theorem setLoop_loops (n : Nat) (f : Loop → Loop) (s : State) : (setLoop n f s).knani.loops = s.knani.loops.modify n f := rfl
theorem setSrc_src (m : Nat) (f : MSource → MSource) (s : State) : (setSrc m f s).meter.src = s.meter.src.modify m f := rfl
theorem setEth_eth (n : Nat) (f : EthPort → EthPort) (s : State) : (setEth n f s).net.eth = s.net.eth.modify n f := rfl
theorem setPtp_ptp (n : Nat) (f : PtpPort → PtpPort) (s : State) : (setPtp n f s).net.ptp = s.net.ptp.modify n f := rfl
theorem setCan_can (n : Nat) (f : CanPort → CanPort) (s : State) : (setCan n f s).net.can = s.net.can.modify n f := rfl
theorem setVx_vx (n : Nat) (f : VxPort → VxPort) (s : State) : (setVx n f s).net.vx = s.net.vx.modify n f := rfl
theorem setMbx_mbxs (m : Nat) (f : Mbx → Mbx) (s : State) : (setMbx m f s).harbour.mbxs = s.harbour.mbxs.modify m f := rfl

/-- The domain written reads back; the other one is as it was. -/
theorem domOf_setDom (k j : Nat) (d : Domain) (s : State) :
    domOf (setDom k d s).time j = if (j = 0) = (k = 0) then d else domOf s.time j := by
  unfold domOf setDom
  by_cases hk : k = 0 <;> by_cases hj : j = 0 <;> simp [hk, hj]

/-- The mailbox written reads back where it exists; every other one is as it was. -/
theorem mbxOf_setMbx (m j : Nat) (f : Mbx → Mbx) (s : State) (h : m < s.harbour.mbxs.length) :
    mbxOf (setMbx m f s) j = if j = m then f (mbxOf s m) else mbxOf s j := by
  unfold mbxOf
  rw [setMbx_mbxs]
  by_cases hj : j = m
  · subst hj; simp [List.getElem?_eq_getElem h]
  · have hj' : ¬ m = j := fun e => hj e.symm
    simp [hj, hj']

/-- The axis written reads back where it exists; every other one is as it was. -/
theorem axOf_setAx (n j : Nat) (f : Axis → Axis) (s : State) (h : n < s.axes.length) :
    axOf (setAx n f s) j = if j = n then f (axOf s n) else axOf s j := by
  unfold axOf
  rw [setAx_axes]
  by_cases hj : j = n
  · subst hj; simp [List.getElem?_eq_getElem h]
  · have hj' : ¬ n = j := fun e => hj e.symm
    simp [hj, hj']

end Sys2Proof.Machine
end

