-- ==== Sys2Proof/Laws/Tables.lean ====
section
/-!
SUPPORT. Reading a sparse table after it is changed.
-/
namespace Sys2Proof.Machine

theorem tget_tmod {α : Type} (t : Tab α) (j k : Nat) (f : α → α) : tget (tmod t j f) k = if k = j then (tget t k).map f else tget t k := by
  induction t with
  | nil => simp [tget, tmod]
  | cons e r ih =>
    obtain ⟨a, v⟩ := e
    simp only [tmod, List.map_cons] at *
    by_cases ha : a = j
    · subst ha
      by_cases hk : a = k
      · subst hk; simp [tget]
      · have hk' : ¬ k = a := fun h => hk h.symm
        simp [tget, hk] at *; rw [ih]
    · by_cases hk : a = k
      · subst hk; simp [tget, ha]
      · simp [tget, ha, hk] at *; rw [ih]

theorem tget_tset {α : Type} (t : Tab α) (j k : Nat) (x : α) : tget (tset t j x) k = if j = k then some x else tget t k := by
  induction t with
  | nil => simp [tget, tset]
  | cons e r ih =>
    obtain ⟨a, v⟩ := e
    unfold tset
    split
    · simp [tget]
    · split
      · rename_i h; simp at h; subst h; by_cases hk : j = k <;> simp [tget, hk]
      · rename_i h1 h2
        simp at h2
        by_cases hk : a = k
        · subst hk
          simp [tget, h2]
        · simp [tget, hk, ih]

theorem tget_mem {α : Type} {t : Tab α} {k : Nat} {v : α} (h : tget t k = some v) : (k, v) ∈ t := by
  induction t with
  | nil => simp [tget] at h
  | cons e r ih =>
    obtain ⟨a, w⟩ := e
    by_cases hk : a = k
    · subst hk; simp [tget] at h; simp [h]
    · simp [tget, hk] at h; exact List.mem_cons_of_mem _ (ih h)

end Sys2Proof.Machine
end

