-- ==== Sys2Proof/Laws/Gnss.lean ====
section
/-!
SUPPORT. What the operations on IF streams and tracking channels leave of each other.
-/
namespace Sys2Proof.Machine
theorem streamOf_some {s : State} {n : Nat} {st : IfStream} (h : s.gnss.streams[n]? = some st) : streamOf s n = st := by simp [streamOf, h]
theorem streamOf_congr {s t : State} (h : t.gnss = s.gnss) (n : Nat) : streamOf t n = streamOf s n := by simp [streamOf, h]
@[simp] theorem setStream_chans (n : Nat) (f : IfStream → IfStream) (s : State) : (setStream n f s).gnss.chans = s.gnss.chans := by unfold setStream; rfl
theorem setStream_at {s : State} {n : Nat} {st : IfStream} (f : IfStream → IfStream) (h : s.gnss.streams[n]? = some st) :
    (setStream n f s).gnss.streams[n]? = some (f st) := by rw [setStream_streams]; simp [h]
@[simp] theorem raise_streamOf (e : Ev) (s : State) (n : Nat) : streamOf (raise e s) n = streamOf s n := by simp [streamOf]
@[simp] theorem raiseIf_streamOf (b : Bool) (e : Ev) (s : State) (n : Nat) : streamOf (raiseIf b e s) n = streamOf s n := by simp [streamOf]
@[simp] theorem settle_streamOf (s : State) (n : Nat) : streamOf (settle s) n = streamOf s n := by simp [streamOf]
theorem streamOf_setStream {s : State} {n : Nat} (f : IfStream → IfStream) (h : n < s.gnss.streams.length) :
    streamOf (setStream n f s) n = f (streamOf s n) := by
  simp [streamOf, setStream_streams, List.getElem?_eq_getElem h]
@[simp] theorem setStream_length (n : Nat) (f : IfStream → IfStream) (s : State) : (setStream n f s).gnss.streams.length = s.gnss.streams.length := by
  rw [setStream_streams]; simp
/-- What overflowTest leaves of a stream. -/
theorem overflowTest_stream (n : Nat) (s : State) (h : n < s.gnss.streams.length) :
    streamOf (overflowTest n s) n = { streamOf s n with overflow := decide (0 < (if (freeSlot (streamOf s n)).isSome then 0 else (uncovered (streamOf s n)).length)) } := by
  unfold overflowTest
  dsimp only
  rw [raiseIf_streamOf, streamOf_setStream _ h]
@[simp] theorem overflowTest_chans (n : Nat) (s : State) : (overflowTest n s).gnss.chans = s.gnss.chans := by simp [overflowTest]
@[simp] theorem overflowTest_time (n : Nat) (s : State) : (overflowTest n s).time = s.time := by simp [overflowTest]
theorem assignNotches_stream (k n : Nat) (s : State) (h : n < s.gnss.streams.length) :
    (assignNotches k n s).gnss.streams.length = s.gnss.streams.length ∧ (streamOf (assignNotches k n s) n).st = (streamOf s n).st ∧
    (streamOf (assignNotches k n s) n).good = (streamOf s n).good ∧ (streamOf (assignNotches k n s) n).lastMarker = (streamOf s n).lastMarker := by
  induction k generalizing s with
  | zero => exact ⟨rfl, rfl, rfl, rfl⟩
  | succ k ih =>
    unfold assignNotches
    dsimp only
    split
    · rename_i i c hd tl h1 h2
      have hl : ∀ e f, n < (raise e (setStream n f s)).gnss.streams.length := by intro e f; simp [h]
      refine ⟨?_, ?_, ?_, ?_⟩
      · rw [(ih _ (hl _ _)).1]; simp
      · rw [(ih _ (hl _ _)).2.1, raise_streamOf, streamOf_setStream _ h]
      · rw [(ih _ (hl _ _)).2.2.1, raise_streamOf, streamOf_setStream _ h]
      · rw [(ih _ (hl _ _)).2.2.2, raise_streamOf, streamOf_setStream _ h]
    · exact ⟨rfl, rfl, rfl, rfl⟩
@[simp] theorem setChan_tget (n k : Nat) (f : GChan → GChan) (s : State) :
    tget (setChan n f s).gnss.chans k = if k = n then (tget s.gnss.chans k).map f else tget s.gnss.chans k := by unfold setChan; exact tget_tmod _ _ _ _
@[simp] theorem putChan_tget (n k : Nat) (c : GChan) (s : State) :
    tget (putChan n c s).gnss.chans k = if n = k then some c else tget s.gnss.chans k := by unfold putChan; exact tget_tset _ _ _ _
@[simp] theorem setChan_streams (n : Nat) (f : GChan → GChan) (s : State) : (setChan n f s).gnss.streams = s.gnss.streams := by unfold setChan; rfl
@[simp] theorem toReacq_time (n : Nat) (s : State) : (toReacq n s).time = s.time := by simp [toReacq]
@[simp] theorem toReacq_streams (n : Nat) (s : State) : (toReacq n s).gnss.streams = s.gnss.streams := by simp [toReacq]
theorem toReacq_st (n ch : Nat) (s : State) : (tget (toReacq n s).gnss.chans ch).map (·.st) =
    (tget s.gnss.chans ch).map (fun c => if ch = n ∧ (c.st = .track ∨ c.st = .pullIn) then .reacq else c.st) := by
  unfold toReacq
  rw [setChan_tget]
  split
  · rename_i h; subst h
    cases tget s.gnss.chans ch with
    | none => rfl
    | some c => cases hc : c.st <;> simp [hc, GChan.enter]
  · rename_i h; simp [h]
theorem foldReacq (L : List (Nat × GChan)) (s : State) (ch : Nat) :
    (L.foldl (fun st e => toReacq e.1 st) s).gnss.streams = s.gnss.streams ∧
    ((tget s.gnss.chans ch).map (·.st) = some .reacq → (tget (L.foldl (fun st e => toReacq e.1 st) s).gnss.chans ch).map (·.st) = some .reacq) ∧
    ((tget s.gnss.chans ch).map (·.st) = some .track → (∃ c, (ch, c) ∈ L) → (tget (L.foldl (fun st e => toReacq e.1 st) s).gnss.chans ch).map (·.st) = some .reacq) := by
  induction L generalizing s with
  | nil => exact ⟨rfl, id, fun _ ⟨c, h⟩ => by simp at h⟩
  | cons e r ih =>
    obtain ⟨i1, i2, i3⟩ := ih (toReacq e.1 s)
    simp only [List.foldl_cons]
    refine ⟨by rw [i1]; simp, ?_, ?_⟩
    · intro h; apply i2; rw [toReacq_st]
      cases hc : tget s.gnss.chans ch with
      | none => rw [hc] at h; simp at h
      | some c => rw [hc] at h; simp at h; simp [h]
    · intro h hm
      cases hc : tget s.gnss.chans ch with
      | none => rw [hc] at h; simp at h
      | some c =>
        rw [hc] at h; simp at h
        by_cases he : ch = e.1
        · apply i2; rw [toReacq_st, hc]; simp [he, h]
        · apply i3
          · rw [toReacq_st, hc]; simp [he, h]
          · obtain ⟨c', hm⟩ := hm
            rcases List.mem_cons.mp hm with hm | hm
            · exact absurd (by rw [← hm]) he
            · exact ⟨c', hm⟩
end Sys2Proof.Machine
end

