-- ==== Sys2Proof/Laws/Memory.lean ====
section
/-!
SUPPORT. Device memory: a byte written reads back, every other byte is as it was, and the canonical form is kept.
-/
namespace Sys2Proof.Machine

theorem memWfFrom_mono {lo hi : Nat} {m : List Host.Cell} (h : memWfFrom hi m = true) (hl : lo ≤ hi) : memWfFrom lo m = true := by
  cases m with
  | nil => rfl
  | cons c r => obtain ⟨a, v⟩ := c; simp only [memWfFrom, Bool.and_eq_true, decide_eq_true_eq] at *; exact ⟨⟨by omega, h.1.2⟩, h.2⟩

/-- Nothing is listed below the bound of a canonical list. -/
theorem memGet_below {lo x : Nat} {m : List Host.Cell} (h : memWfFrom lo m = true) (hx : x < lo) : memGet m x = 0 := by
  induction m generalizing lo with
  | nil => rfl
  | cons c r ih =>
    obtain ⟨a, v⟩ := c
    simp only [memWfFrom, Bool.and_eq_true, decide_eq_true_eq] at h
    have hne : ¬ a = x := by omega
    simp only [memGet, beq_iff_eq, hne, if_false]
    exact ih h.2 (by omega)

theorem memWfFrom_memPut {lo x : Nat} {v : Byte} {m : List Host.Cell} (h : memWfFrom lo m = true) (hx : lo ≤ x) : memWfFrom lo (memPut m x v) = true := by
  induction m generalizing lo with
  | nil =>
    unfold memPut
    split
    · rfl
    · rename_i hv; simp_all [memWfFrom]
  | cons c r ih =>
    obtain ⟨a, w⟩ := c
    have h' := h
    simp only [memWfFrom, Bool.and_eq_true, decide_eq_true_eq] at h'
    obtain ⟨⟨h1, h2⟩, h3⟩ := h'
    unfold memPut
    split
    · rename_i hxa
      split
      · exact h
      · rename_i hv
        have : x + 1 ≤ a := hxa
        simp only [memWfFrom, Bool.and_eq_true, decide_eq_true_eq, bne, Bool.not_eq_true'] at *
        exact ⟨⟨hx, by simpa using hv⟩, ⟨this, h2⟩, h3⟩
    · split
      · rename_i he
        have he' : x = a := by simpa using he
        subst he'
        split
        · exact memWfFrom_mono h3 (by omega)
        · rename_i hv
          simp only [memWfFrom, Bool.and_eq_true, decide_eq_true_eq, bne, Bool.not_eq_true'] at *
          exact ⟨⟨hx, by simpa using hv⟩, h3⟩
      · rename_i hxa he
        have he' : ¬ x = a := by simpa using he
        simp only [memWfFrom, Bool.and_eq_true, decide_eq_true_eq]
        exact ⟨⟨h1, h2⟩, ih h3 (by omega)⟩

/-- A byte written keeps the canonical form (14 R509). -/
theorem memWf_memPut {m : List Host.Cell} (h : memWf m = true) (x : Nat) (v : Byte) : memWf (memPut m x v) = true :=
  memWfFrom_memPut h (Nat.zero_le x)

/-- Bytes written keep the canonical form (14 R509). -/
theorem memWf_memPuts {m : List Host.Cell} (h : memWf m = true) (x : Nat) (l : List Byte) : memWf (memPuts m x l) = true := by
  induction l generalizing m x with
  | nil => exact h
  | cons b r ih => exact ih (memWf_memPut h x b) (x + 1)

/-- Every other byte is as it was. -/
theorem memGet_memPut_other (m : List Host.Cell) {x y : Nat} (v : Byte) (h : y ≠ x) : memGet (memPut m x v) y = memGet m y := by
  have h' : ¬ x = y := fun e => h e.symm
  induction m with
  | nil => unfold memPut; split <;> simp [memGet, h']
  | cons c r ih =>
    obtain ⟨a, w⟩ := c
    unfold memPut
    split
    · split <;> simp [memGet, h']
    · split
      · rename_i he
        have he' : x = a := by simpa using he
        subst he'
        split <;> simp [memGet, h']
      · simp only [memGet, ih]

/-- A byte written reads back. -/
theorem memGet_memPut_same {lo : Nat} {m : List Host.Cell} (h : memWfFrom lo m = true) (x : Nat) (v : Byte) : memGet (memPut m x v) x = v := by
  induction m generalizing lo with
  | nil =>
    unfold memPut
    split
    · rename_i hv; have : v = 0 := by simpa using hv
      rw [this]; rfl
    · simp [memGet]
  | cons c r ih =>
    obtain ⟨a, w⟩ := c
    simp only [memWfFrom, Bool.and_eq_true, decide_eq_true_eq] at h
    obtain ⟨⟨h1, h2⟩, h3⟩ := h
    unfold memPut
    split
    · rename_i hxa
      split
      · rename_i hv; have hv' : v = 0 := by simpa using hv
        have hne : ¬ a = x := by omega
        rw [hv']; simp only [memGet, beq_iff_eq, hne, if_false]; exact memGet_below h3 (by omega)
      · simp [memGet]
    · split
      · rename_i he
        have he' : x = a := by simpa using he
        subst he'
        split
        · rename_i hv; have hv' : v = 0 := by simpa using hv
          rw [hv']; exact memGet_below h3 (Nat.lt_succ_self x)
        · simp [memGet]
      · rename_i he
        have hne : ¬ a = x := fun e => he (by simp [e])
        simp only [memGet, beq_iff_eq, hne, if_false]; exact ih h3

/-- Every byte outside those written is as it was. -/
theorem memGet_memPuts_other (l : List Byte) (m : List Host.Cell) (x : Nat) {y : Nat} (h : y < x ∨ x + l.length ≤ y) : memGet (memPuts m x l) y = memGet m y := by
  induction l generalizing m x with
  | nil => rfl
  | cons b r ih =>
    simp only [List.length_cons] at h
    rw [memPuts, ih _ _ (by omega), memGet_memPut_other _ _ (by omega)]

/-- Bytes written read back. -/
theorem memGets_memPuts_same (l : List Byte) {m : List Host.Cell} (h : memWf m = true) (x : Nat) : memGets (memPuts m x l) x l.length = l := by
  induction l generalizing m x with
  | nil => rfl
  | cons b r ih =>
    have hr := ih (memWf_memPut h x b) (x + 1)
    unfold memGets at *
    rw [memPuts, List.length_cons, List.range_succ_eq_map, List.map_cons, List.map_map]
    congr 1
    · rw [memGet_memPuts_other _ _ _ (by omega)]; exact memGet_memPut_same h x b
    · have : ((fun k => memGet (memPuts (memPut m x b) (x + 1) r) (x + k)) ∘ Nat.succ) = (fun k => memGet (memPuts (memPut m x b) (x + 1) r) (x + 1 + k)) := by
        funext k; simp only [Function.comp, Nat.succ_eq_add_one]; congr 1; omega
      rw [this, hr]

end Sys2Proof.Machine
end

