-- ==== Sys2Proof/Laws/Time.lean ====
section
/-!
SUPPORT. What running time, following a domain, driving a pin and the delay lists leave of the timebase island.
-/
namespace Sys2Proof.Machine


@[simp] theorem advanceTime_followB (n : Nat) (t : TimeSt) : (advanceTime n t).followB = t.followB := by
  unfold advanceTime; dsimp only; split <;> rfl
@[simp] theorem advanceTime_auto (n : Nat) (t : TimeSt) : (advanceTime n t).auto = t.auto := by
  unfold advanceTime; dsimp only; split <;> rfl
@[simp] theorem advanceTime_stepPending (n : Nat) (t : TimeSt) : (advanceTime n t).stepPending = t.stepPending := by
  unfold advanceTime; dsimp only; split <;> rfl
@[simp] theorem advanceTime_stepThreshUs (n : Nat) (t : TimeSt) : (advanceTime n t).stepThreshUs = t.stepThreshUs := by
  unfold advanceTime; dsimp only; split <;> rfl
@[simp] theorem advanceTime_slewMaxPpm (n : Nat) (t : TimeSt) : (advanceTime n t).slewMaxPpm = t.slewMaxPpm := by
  unfold advanceTime; dsimp only; split <;> rfl
@[simp] theorem advanceTime_learnWindowS (n : Nat) (t : TimeSt) : (advanceTime n t).learnWindowS = t.learnWindowS := by
  unfold advanceTime; dsimp only; split <;> rfl
@[simp] theorem advanceTime_ageing (n : Nat) (t : TimeSt) : (advanceTime n t).ageing = t.ageing := by
  unfold advanceTime; dsimp only; split <;> rfl
@[simp] theorem advanceTime_tqLimit (n : Nat) (t : TimeSt) : (advanceTime n t).tqLimit = t.tqLimit := by
  unfold advanceTime; dsimp only; split <;> rfl
@[simp] theorem advanceTime_tqActive (n : Nat) (t : TimeSt) : (advanceTime n t).tqActive = t.tqActive := by
  unfold advanceTime; dsimp only; split <;> rfl
@[simp] theorem advanceTime_tqSet (n : Nat) (t : TimeSt) : (advanceTime n t).tqSet = t.tqSet := by
  unfold advanceTime; dsimp only; split <;> rfl
@[simp] theorem advanceTime_timeUnset (n : Nat) (t : TimeSt) : (advanceTime n t).timeUnset = t.timeUnset := by
  unfold advanceTime; dsimp only; split <;> rfl
@[simp] theorem advanceTime_taiUtc (n : Nat) (t : TimeSt) : (advanceTime n t).taiUtc = t.taiUtc := by
  unfold advanceTime; dsimp only; split <;> rfl
@[simp] theorem advanceTime_leapPending (n : Nat) (t : TimeSt) : (advanceTime n t).leapPending = t.leapPending := by
  unfold advanceTime; dsimp only; split <;> rfl
@[simp] theorem advanceTime_leapAnnounced (n : Nat) (t : TimeSt) : (advanceTime n t).leapAnnounced = t.leapAnnounced := by
  unfold advanceTime; dsimp only; split <;> rfl
@[simp] theorem advanceTime_refLost (n : Nat) (t : TimeSt) : (advanceTime n t).refLost = t.refLost := by
  unfold advanceTime; dsimp only; split <;> rfl
@[simp] theorem advanceTime_refFrom (n : Nat) (t : TimeSt) : (advanceTime n t).refFrom = t.refFrom := by
  unfold advanceTime; dsimp only; split <;> rfl
@[simp] theorem advanceTime_rtc (n : Nat) (t : TimeSt) : (advanceTime n t).rtc = t.rtc := by
  unfold advanceTime; dsimp only; split <;> rfl
@[simp] theorem advanceTime_newPeriod (n : Nat) (t : TimeSt) : (advanceTime n t).newPeriod = t.newPeriod := by
  unfold advanceTime; dsimp only; split <;> rfl
@[simp] theorem advanceTime_epoch (n : Nat) (t : TimeSt) : (advanceTime n t).epoch = t.epoch := by
  unfold advanceTime; dsimp only; split <;> rfl
@[simp] theorem advanceTime_lastBoundary (n : Nat) (t : TimeSt) : (advanceTime n t).lastBoundary = t.lastBoundary := by
  unfold advanceTime; dsimp only; split <;> rfl
@[simp] theorem advanceTime_tideNo (n : Nat) (t : TimeSt) : (advanceTime n t).tideNo = t.tideNo := by
  unfold advanceTime; dsimp only; split <;> rfl
@[simp] theorem advanceTime_pointers (n : Nat) (t : TimeSt) : (advanceTime n t).pointers = t.pointers := by
  unfold advanceTime; dsimp only; split <;> rfl
@[simp] theorem advanceTime_caps (n : Nat) (t : TimeSt) : (advanceTime n t).caps = t.caps := by
  unfold advanceTime; dsimp only; split <;> rfl
@[simp] theorem advanceTime_cmps (n : Nat) (t : TimeSt) : (advanceTime n t).cmps = t.cmps := by
  unfold advanceTime; dsimp only; split <;> rfl
@[simp] theorem advanceTime_dls (n : Nat) (t : TimeSt) : (advanceTime n t).dls = t.dls := by
  unfold advanceTime; dsimp only; split <;> rfl
@[simp] theorem advanceTime_alarms (n : Nat) (t : TimeSt) : (advanceTime n t).alarms = t.alarms := by
  unfold advanceTime; dsimp only; split <;> rfl
@[simp] theorem advanceTime_ppsOut (n : Nat) (t : TimeSt) : (advanceTime n t).ppsOut = t.ppsOut := by
  unfold advanceTime; dsimp only; split <;> rfl
@[simp] theorem advanceTime_ppsIn (n : Nat) (t : TimeSt) : (advanceTime n t).ppsIn = t.ppsIn := by
  unfold advanceTime; dsimp only; split <;> rfl
@[simp] theorem advanceTime_gpio (n : Nat) (t : TimeSt) : (advanceTime n t).gpio = t.gpio := by
  unfold advanceTime; dsimp only; split <;> rfl
@[simp] theorem advanceTime_a_y (n : Nat) (t : TimeSt) : (advanceTime n t).a.y = t.a.y := by
  unfold advanceTime; dsimp only; split <;> rfl
@[simp] theorem advanceTime_a_source (n : Nat) (t : TimeSt) : (advanceTime n t).a.source = t.a.source := by
  unfold advanceTime; dsimp only; split <;> rfl
@[simp] theorem advanceTime_a_kp (n : Nat) (t : TimeSt) : (advanceTime n t).a.kp = t.a.kp := by
  unfold advanceTime; dsimp only; split <;> rfl
@[simp] theorem advanceTime_a_ki (n : Nat) (t : TimeSt) : (advanceTime n t).a.ki = t.a.ki := by
  unfold advanceTime; dsimp only; split <;> rfl
@[simp] theorem advanceTime_a_gateNs (n : Nat) (t : TimeSt) : (advanceTime n t).a.gateNs = t.a.gateNs := by
  unfold advanceTime; dsimp only; split <;> rfl
@[simp] theorem advanceTime_a_timeoutMs (n : Nat) (t : TimeSt) : (advanceTime n t).a.timeoutMs = t.a.timeoutMs := by
  unfold advanceTime; dsimp only; split <;> rfl
@[simp] theorem advanceTime_a_delay (n : Nat) (t : TimeSt) : (advanceTime n t).a.delay = t.a.delay := by
  unfold advanceTime; dsimp only; split <;> rfl
@[simp] theorem advanceTime_a_floorNs (n : Nat) (t : TimeSt) : (advanceTime n t).a.floorNs = t.a.floorNs := by
  unfold advanceTime; dsimp only; split <;> rfl
@[simp] theorem advanceTime_a_alignNs (n : Nat) (t : TimeSt) : (advanceTime n t).a.alignNs = t.a.alignNs := by
  unfold advanceTime; dsimp only; split <;> rfl
@[simp] theorem advanceTime_a_lockNs (n : Nat) (t : TimeSt) : (advanceTime n t).a.lockNs = t.a.lockNs := by
  unfold advanceTime; dsimp only; split <;> rfl
@[simp] theorem advanceTime_a_st (n : Nat) (t : TimeSt) : (advanceTime n t).a.st = t.a.st := by
  unfold advanceTime; dsimp only; split <;> rfl
@[simp] theorem advanceTime_a_integ (n : Nat) (t : TimeSt) : (advanceTime n t).a.integ = t.a.integ := by
  unfold advanceTime; dsimp only; split <;> rfl
@[simp] theorem advanceTime_a_lastT (n : Nat) (t : TimeSt) : (advanceTime n t).a.lastT = t.a.lastT := by
  unfold advanceTime; dsimp only; split <;> rfl
@[simp] theorem advanceTime_a_lastCyc (n : Nat) (t : TimeSt) : (advanceTime n t).a.lastCyc = t.a.lastCyc := by
  unfold advanceTime; dsimp only; split <;> rfl
@[simp] theorem advanceTime_a_inLimit (n : Nat) (t : TimeSt) : (advanceTime n t).a.inLimit = t.a.inLimit := by
  unfold advanceTime; dsimp only; split <;> rfl
@[simp] theorem advanceTime_a_rejects (n : Nat) (t : TimeSt) : (advanceTime n t).a.rejects = t.a.rejects := by
  unfold advanceTime; dsimp only; split <;> rfl
@[simp] theorem advanceTime_a_mayAlign (n : Nat) (t : TimeSt) : (advanceTime n t).a.mayAlign = t.a.mayAlign := by
  unfold advanceTime; dsimp only; split <;> rfl
@[simp] theorem advanceTime_a_measured (n : Nat) (t : TimeSt) : (advanceTime n t).a.measured = t.a.measured := by
  unfold advanceTime; dsimp only; split <;> rfl
@[simp] theorem advanceTime_a_theta (n : Nat) (t : TimeSt) : (advanceTime n t).a.theta = t.a.theta := by
  unfold advanceTime; dsimp only; split <;> rfl
@[simp] theorem advanceTime_a_uncert (n : Nat) (t : TimeSt) : (advanceTime n t).a.uncert = t.a.uncert := by
  unfold advanceTime; dsimp only; split <;> rfl
@[simp] theorem advanceTime_a_aligned (n : Nat) (t : TimeSt) : (advanceTime n t).a.aligned = t.a.aligned := by
  unfold advanceTime; dsimp only; split <;> rfl
@[simp] theorem advanceTime_a_lockedFrom (n : Nat) (t : TimeSt) : (advanceTime n t).a.lockedFrom = t.a.lockedFrom := by
  unfold advanceTime; dsimp only; split <;> rfl
@[simp] theorem advanceTime_a_lockedCyc (n : Nat) (t : TimeSt) : (advanceTime n t).a.lockedCyc = t.a.lockedCyc := by
  unfold advanceTime; dsimp only; split <;> rfl
@[simp] theorem advanceTime_a_learn (n : Nat) (t : TimeSt) : (advanceTime n t).a.learn = t.a.learn := by
  unfold advanceTime; dsimp only; split <;> rfl
@[simp] theorem advanceTime_a_tq0 (n : Nat) (t : TimeSt) : (advanceTime n t).a.tq0 = t.a.tq0 := by
  unfold advanceTime; dsimp only; split <;> rfl
@[simp] theorem advanceTime_a_tqFrom (n : Nat) (t : TimeSt) : (advanceTime n t).a.tqFrom = t.a.tqFrom := by
  unfold advanceTime; dsimp only; split <;> rfl
@[simp] theorem advanceTime_b_y (n : Nat) (t : TimeSt) : (advanceTime n t).b.y = t.b.y := by
  unfold advanceTime; dsimp only; split <;> rfl
@[simp] theorem advanceTime_b_source (n : Nat) (t : TimeSt) : (advanceTime n t).b.source = t.b.source := by
  unfold advanceTime; dsimp only; split <;> rfl
@[simp] theorem advanceTime_b_kp (n : Nat) (t : TimeSt) : (advanceTime n t).b.kp = t.b.kp := by
  unfold advanceTime; dsimp only; split <;> rfl
@[simp] theorem advanceTime_b_ki (n : Nat) (t : TimeSt) : (advanceTime n t).b.ki = t.b.ki := by
  unfold advanceTime; dsimp only; split <;> rfl
@[simp] theorem advanceTime_b_gateNs (n : Nat) (t : TimeSt) : (advanceTime n t).b.gateNs = t.b.gateNs := by
  unfold advanceTime; dsimp only; split <;> rfl
@[simp] theorem advanceTime_b_timeoutMs (n : Nat) (t : TimeSt) : (advanceTime n t).b.timeoutMs = t.b.timeoutMs := by
  unfold advanceTime; dsimp only; split <;> rfl
@[simp] theorem advanceTime_b_delay (n : Nat) (t : TimeSt) : (advanceTime n t).b.delay = t.b.delay := by
  unfold advanceTime; dsimp only; split <;> rfl
@[simp] theorem advanceTime_b_floorNs (n : Nat) (t : TimeSt) : (advanceTime n t).b.floorNs = t.b.floorNs := by
  unfold advanceTime; dsimp only; split <;> rfl
@[simp] theorem advanceTime_b_alignNs (n : Nat) (t : TimeSt) : (advanceTime n t).b.alignNs = t.b.alignNs := by
  unfold advanceTime; dsimp only; split <;> rfl
@[simp] theorem advanceTime_b_lockNs (n : Nat) (t : TimeSt) : (advanceTime n t).b.lockNs = t.b.lockNs := by
  unfold advanceTime; dsimp only; split <;> rfl
@[simp] theorem advanceTime_b_st (n : Nat) (t : TimeSt) : (advanceTime n t).b.st = t.b.st := by
  unfold advanceTime; dsimp only; split <;> rfl
@[simp] theorem advanceTime_b_integ (n : Nat) (t : TimeSt) : (advanceTime n t).b.integ = t.b.integ := by
  unfold advanceTime; dsimp only; split <;> rfl
@[simp] theorem advanceTime_b_lastT (n : Nat) (t : TimeSt) : (advanceTime n t).b.lastT = t.b.lastT := by
  unfold advanceTime; dsimp only; split <;> rfl
@[simp] theorem advanceTime_b_lastCyc (n : Nat) (t : TimeSt) : (advanceTime n t).b.lastCyc = t.b.lastCyc := by
  unfold advanceTime; dsimp only; split <;> rfl
@[simp] theorem advanceTime_b_inLimit (n : Nat) (t : TimeSt) : (advanceTime n t).b.inLimit = t.b.inLimit := by
  unfold advanceTime; dsimp only; split <;> rfl
@[simp] theorem advanceTime_b_rejects (n : Nat) (t : TimeSt) : (advanceTime n t).b.rejects = t.b.rejects := by
  unfold advanceTime; dsimp only; split <;> rfl
@[simp] theorem advanceTime_b_mayAlign (n : Nat) (t : TimeSt) : (advanceTime n t).b.mayAlign = t.b.mayAlign := by
  unfold advanceTime; dsimp only; split <;> rfl
@[simp] theorem advanceTime_b_measured (n : Nat) (t : TimeSt) : (advanceTime n t).b.measured = t.b.measured := by
  unfold advanceTime; dsimp only; split <;> rfl
@[simp] theorem advanceTime_b_theta (n : Nat) (t : TimeSt) : (advanceTime n t).b.theta = t.b.theta := by
  unfold advanceTime; dsimp only; split <;> rfl
@[simp] theorem advanceTime_b_uncert (n : Nat) (t : TimeSt) : (advanceTime n t).b.uncert = t.b.uncert := by
  unfold advanceTime; dsimp only; split <;> rfl
@[simp] theorem advanceTime_b_aligned (n : Nat) (t : TimeSt) : (advanceTime n t).b.aligned = t.b.aligned := by
  unfold advanceTime; dsimp only; split <;> rfl
@[simp] theorem advanceTime_b_lockedFrom (n : Nat) (t : TimeSt) : (advanceTime n t).b.lockedFrom = t.b.lockedFrom := by
  unfold advanceTime; dsimp only; split <;> rfl
@[simp] theorem advanceTime_b_lockedCyc (n : Nat) (t : TimeSt) : (advanceTime n t).b.lockedCyc = t.b.lockedCyc := by
  unfold advanceTime; dsimp only; split <;> rfl
@[simp] theorem advanceTime_b_learn (n : Nat) (t : TimeSt) : (advanceTime n t).b.learn = t.b.learn := by
  unfold advanceTime; dsimp only; split <;> rfl
@[simp] theorem advanceTime_b_tq0 (n : Nat) (t : TimeSt) : (advanceTime n t).b.tq0 = t.b.tq0 := by
  unfold advanceTime; dsimp only; split <;> rfl
@[simp] theorem advanceTime_b_tqFrom (n : Nat) (t : TimeSt) : (advanceTime n t).b.tqFrom = t.b.tqFrom := by
  unfold advanceTime; dsimp only; split <;> rfl
@[simp] theorem advanceTime_cyc (n : Nat) (t : TimeSt) : (advanceTime n t).cyc = t.cyc + n := by
  unfold advanceTime
  dsimp only
  split
  · rfl
  · rename_i h
    simp only [Bool.or_eq_true, decide_eq_true_eq, not_or, Nat.not_le] at h
    change t.cyc + _ + 1 + (n - _ - 1) = t.cyc + n
    omega
@[simp] theorem advance_time (n : Nat) (s : State) : (advance n s).time = advanceTime n s.time := by unfold advance; rfl
@[simp] theorem runTo_time (x : Nat) (s : State) : (runTo x s).time = advanceTime (cyclesTo s.time x) s.time := by unfold runTo; exact advance_time _ _
@[simp] theorem runToCyc_time (x : Nat) (s : State) : (runToCyc x s).time = advanceTime (x - s.time.cyc) s.time := by unfold runToCyc; exact advance_time _ _
/-- Time that runs for a PPS output runs a number of island cycles. -/
theorem runPps_frame (p : PpsOut) (x : Nat) (s : State) : ∃ n, runPps p x s = advance n s := by
  unfold runPps runTo
  dsimp only
  split
  · exact ⟨_, rfl⟩
  · exact ⟨_, rfl⟩
@[simp] theorem runPps_time_followB (p : PpsOut) (x : Nat) (s : State) : (runPps p x s).time.followB = s.time.followB := by obtain ⟨n, h⟩ := runPps_frame p x s; rw [h]; simp
@[simp] theorem runPps_time_auto (p : PpsOut) (x : Nat) (s : State) : (runPps p x s).time.auto = s.time.auto := by obtain ⟨n, h⟩ := runPps_frame p x s; rw [h]; simp
@[simp] theorem runPps_time_stepPending (p : PpsOut) (x : Nat) (s : State) : (runPps p x s).time.stepPending = s.time.stepPending := by obtain ⟨n, h⟩ := runPps_frame p x s; rw [h]; simp
@[simp] theorem runPps_time_stepThreshUs (p : PpsOut) (x : Nat) (s : State) : (runPps p x s).time.stepThreshUs = s.time.stepThreshUs := by obtain ⟨n, h⟩ := runPps_frame p x s; rw [h]; simp
@[simp] theorem runPps_time_slewMaxPpm (p : PpsOut) (x : Nat) (s : State) : (runPps p x s).time.slewMaxPpm = s.time.slewMaxPpm := by obtain ⟨n, h⟩ := runPps_frame p x s; rw [h]; simp
@[simp] theorem runPps_time_learnWindowS (p : PpsOut) (x : Nat) (s : State) : (runPps p x s).time.learnWindowS = s.time.learnWindowS := by obtain ⟨n, h⟩ := runPps_frame p x s; rw [h]; simp
@[simp] theorem runPps_time_ageing (p : PpsOut) (x : Nat) (s : State) : (runPps p x s).time.ageing = s.time.ageing := by obtain ⟨n, h⟩ := runPps_frame p x s; rw [h]; simp
@[simp] theorem runPps_time_tqLimit (p : PpsOut) (x : Nat) (s : State) : (runPps p x s).time.tqLimit = s.time.tqLimit := by obtain ⟨n, h⟩ := runPps_frame p x s; rw [h]; simp
@[simp] theorem runPps_time_tqActive (p : PpsOut) (x : Nat) (s : State) : (runPps p x s).time.tqActive = s.time.tqActive := by obtain ⟨n, h⟩ := runPps_frame p x s; rw [h]; simp
@[simp] theorem runPps_time_tqSet (p : PpsOut) (x : Nat) (s : State) : (runPps p x s).time.tqSet = s.time.tqSet := by obtain ⟨n, h⟩ := runPps_frame p x s; rw [h]; simp
@[simp] theorem runPps_time_timeUnset (p : PpsOut) (x : Nat) (s : State) : (runPps p x s).time.timeUnset = s.time.timeUnset := by obtain ⟨n, h⟩ := runPps_frame p x s; rw [h]; simp
@[simp] theorem runPps_time_taiUtc (p : PpsOut) (x : Nat) (s : State) : (runPps p x s).time.taiUtc = s.time.taiUtc := by obtain ⟨n, h⟩ := runPps_frame p x s; rw [h]; simp
@[simp] theorem runPps_time_leapPending (p : PpsOut) (x : Nat) (s : State) : (runPps p x s).time.leapPending = s.time.leapPending := by obtain ⟨n, h⟩ := runPps_frame p x s; rw [h]; simp
@[simp] theorem runPps_time_leapAnnounced (p : PpsOut) (x : Nat) (s : State) : (runPps p x s).time.leapAnnounced = s.time.leapAnnounced := by obtain ⟨n, h⟩ := runPps_frame p x s; rw [h]; simp
@[simp] theorem runPps_time_refLost (p : PpsOut) (x : Nat) (s : State) : (runPps p x s).time.refLost = s.time.refLost := by obtain ⟨n, h⟩ := runPps_frame p x s; rw [h]; simp
@[simp] theorem runPps_time_refFrom (p : PpsOut) (x : Nat) (s : State) : (runPps p x s).time.refFrom = s.time.refFrom := by obtain ⟨n, h⟩ := runPps_frame p x s; rw [h]; simp
@[simp] theorem runPps_time_rtc (p : PpsOut) (x : Nat) (s : State) : (runPps p x s).time.rtc = s.time.rtc := by obtain ⟨n, h⟩ := runPps_frame p x s; rw [h]; simp
@[simp] theorem runPps_time_newPeriod (p : PpsOut) (x : Nat) (s : State) : (runPps p x s).time.newPeriod = s.time.newPeriod := by obtain ⟨n, h⟩ := runPps_frame p x s; rw [h]; simp
@[simp] theorem runPps_time_epoch (p : PpsOut) (x : Nat) (s : State) : (runPps p x s).time.epoch = s.time.epoch := by obtain ⟨n, h⟩ := runPps_frame p x s; rw [h]; simp
@[simp] theorem runPps_time_lastBoundary (p : PpsOut) (x : Nat) (s : State) : (runPps p x s).time.lastBoundary = s.time.lastBoundary := by obtain ⟨n, h⟩ := runPps_frame p x s; rw [h]; simp
@[simp] theorem runPps_time_tideNo (p : PpsOut) (x : Nat) (s : State) : (runPps p x s).time.tideNo = s.time.tideNo := by obtain ⟨n, h⟩ := runPps_frame p x s; rw [h]; simp
@[simp] theorem runPps_time_pointers (p : PpsOut) (x : Nat) (s : State) : (runPps p x s).time.pointers = s.time.pointers := by obtain ⟨n, h⟩ := runPps_frame p x s; rw [h]; simp
@[simp] theorem runPps_time_caps (p : PpsOut) (x : Nat) (s : State) : (runPps p x s).time.caps = s.time.caps := by obtain ⟨n, h⟩ := runPps_frame p x s; rw [h]; simp
@[simp] theorem runPps_time_cmps (p : PpsOut) (x : Nat) (s : State) : (runPps p x s).time.cmps = s.time.cmps := by obtain ⟨n, h⟩ := runPps_frame p x s; rw [h]; simp
@[simp] theorem runPps_time_dls (p : PpsOut) (x : Nat) (s : State) : (runPps p x s).time.dls = s.time.dls := by obtain ⟨n, h⟩ := runPps_frame p x s; rw [h]; simp
@[simp] theorem runPps_time_alarms (p : PpsOut) (x : Nat) (s : State) : (runPps p x s).time.alarms = s.time.alarms := by obtain ⟨n, h⟩ := runPps_frame p x s; rw [h]; simp
@[simp] theorem runPps_time_ppsOut (p : PpsOut) (x : Nat) (s : State) : (runPps p x s).time.ppsOut = s.time.ppsOut := by obtain ⟨n, h⟩ := runPps_frame p x s; rw [h]; simp
@[simp] theorem runPps_time_ppsIn (p : PpsOut) (x : Nat) (s : State) : (runPps p x s).time.ppsIn = s.time.ppsIn := by obtain ⟨n, h⟩ := runPps_frame p x s; rw [h]; simp
@[simp] theorem runPps_time_gpio (p : PpsOut) (x : Nat) (s : State) : (runPps p x s).time.gpio = s.time.gpio := by obtain ⟨n, h⟩ := runPps_frame p x s; rw [h]; simp

@[simp] theorem gpioDrive_time (c : CmpUnit) (act : Bool) (r : Nat) (s : State) :
    (gpioDrive c act r s).time = { s.time with gpio := s.time.gpio.set c.gpio (some (act != c.activeLow)) } := by
  unfold gpioDrive emit
  rfl
@[simp] theorem ppsDrive_time (p : Nat) (act : Bool) (r : Nat) (s : State) : (ppsDrive p act r s).time = s.time := by
  unfold ppsDrive
  split <;> rfl

/-- Putting a PPS output to rest writes it, and its pin. -/
theorem ppsQuietOne_frame (k : Nat) (s : State) : ∃ q o, ppsQuietOne k s = { s with time := { s.time with ppsOut := q }, out := o } := by
  unfold ppsQuietOne
  split
  · exact ⟨_, _, rfl⟩
  · split
    · unfold ppsDrive
      split
      · exact ⟨_, _, rfl⟩
      · exact ⟨_, _, rfl⟩
    · exact ⟨_, _, rfl⟩
theorem ppsQuiet_frame (s : State) : ∃ q o, ppsQuiet s = { s with time := { s.time with ppsOut := q }, out := o } := by
  unfold ppsQuiet
  obtain ⟨q, o, h⟩ := ppsQuietOne_frame 0 s
  obtain ⟨q', o', h'⟩ := ppsQuietOne_frame 1 (ppsQuietOne 0 s)
  exact ⟨q', o', by rw [h', h]⟩
/-- Raising an event changes the recorder, the journal and S_1. -/
theorem raise_shape (e : Ev) (s : State) : ∃ r j q, raise e s = { s with recorder := r, journal := j, harbour := { s.harbour with s1 := q } } := by
  unfold raise raises
  exact raiseList_shape _ _ _ _
/-- STEP_PENDING is all that `deferStep` changes, beside the event. -/
theorem deferStep_frame (s : State) :
    ∃ p r j q, deferStep s = { s with time := { s.time with stepPending := p }, recorder := r, journal := j, harbour := { s.harbour with s1 := q } } := by
  unfold deferStep raiseIf
  dsimp only
  split
  · obtain ⟨r, j, q, h⟩ := raiseList_shape 9 (dtNow { s with time := { s.time with stepPending := stepNeeded s.time && !engineIdle s } })
      [{ code := 0x0206, sev := 1, p0 := w32 (nsOf (deltaAcc s.time)), p1 := w32 (nsOf (deltaAcc s.time) / (2 ^ 32 : Nat)) }]
      { s with time := { s.time with stepPending := stepNeeded s.time && !engineIdle s } }
    exact ⟨_, r, j, q, h⟩
  · exact ⟨_, s.recorder, s.journal, s.harbour.s1, rfl⟩
/-- Following a domain changes the selection, STEP_PENDING and the PPS outputs, beside events and pins. -/
theorem follow_frame (b : Bool) (s : State) : ∃ p w o r j q, follow b s =
    { s with time := { s.time with followB := b, stepPending := p, ppsOut := w }, out := o, recorder := r, journal := j, harbour := { s.harbour with s1 := q } } := by
  unfold follow
  split
  · rename_i h
    have : s.time.followB = b := by simpa using h
    exact ⟨s.time.stepPending, s.time.ppsOut, s.out, s.recorder, s.journal, s.harbour.s1, by rw [← this]⟩
  · dsimp only
    generalize hx : raise _ _ = x
    obtain ⟨r, j, q, h⟩ := raise_shape { code := 0x0204, sev := 2, p0 := b1 s.time.followB, p1 := b1 b, p2 := w32 (nsOf (deltaAcc { s.time with followB := b })) }
      { s with time := { s.time with followB := b } }
    rw [hx] at h
    obtain ⟨p, r', j', q', h'⟩ := deferStep_frame x
    obtain ⟨w, o, h''⟩ := ppsQuiet_frame (deferStep x)
    exact ⟨p, w, o, r', j', q', by rw [h'', h', h]⟩
theorem reselect_frame (s : State) : ∃ f p w o r j q, reselect s =
    { s with time := { s.time with followB := f, stepPending := p, ppsOut := w }, out := o, recorder := r, journal := j, harbour := { s.harbour with s1 := q } } := by
  unfold reselect
  split
  · obtain ⟨p, w, o, r, j, q, h⟩ := follow_frame true s; exact ⟨_, p, w, o, r, j, q, h⟩
  · exact ⟨s.time.followB, s.time.stepPending, s.time.ppsOut, s.out, s.recorder, s.journal, s.harbour.s1, rfl⟩
@[simp] theorem follow_time_followB (b : Bool) (s : State) : (follow b s).time.followB = b := by
  obtain ⟨p, w, o, r, j, q, h⟩ := follow_frame b s; rw [h]
@[simp] theorem follow_time_auto (b : Bool) (s : State) : (follow b s).time.auto = s.time.auto := by
  obtain ⟨p, w, o, r, j, q, h⟩ := follow_frame b s; rw [h]
@[simp] theorem reselect_time_a (s : State) : (reselect s).time.a = s.time.a := by obtain ⟨f, p, w, o, r, j, q, h⟩ := reselect_frame s; rw [h]
@[simp] theorem reselect_time_b (s : State) : (reselect s).time.b = s.time.b := by obtain ⟨f, p, w, o, r, j, q, h⟩ := reselect_frame s; rw [h]
/-- Running to an instant runs a number of island cycles. -/
theorem runTo_runs (x : Nat) (s : State) : ∃ n, runTo x s = advance n s := ⟨_, rfl⟩
/-- Running to a cycle runs a number of island cycles. -/
theorem runToCyc_runs (x : Nat) (s : State) : ∃ n, runToCyc x s = advance n s := ⟨_, rfl⟩
theorem dlInsert_mem (now : Nat) (e : DlEntry) (l : List DlEntry) : e ∈ dlInsert now e l := by
  induction l with
  | nil => simp [dlInsert]
  | cons x r ih => unfold dlInsert; split <;> simp [ih]
/-- What handing an entry to a delay list can do: nothing, or the list of that number takes the entry. -/
theorem dlPut_cases (k full consumer token : Nat) (s : State) :
    (dlPut k full consumer token s).2 = s ∨
    (dlPut k full consumer token s).2 = { s with time := { s.time with dls := lmod s.time.dls k (dlInsert (stOf (dtNow s))
      { target := stOf full, full := full, consumer := consumer, token := token, late := decide (full < dtNow s) }) } } := by
  unfold dlPut
  dsimp only
  split
  · exact .inl rfl
  · split
    · exact .inl rfl
    · exact .inr rfl
theorem alarmInsert_mem (tgt tok : Nat) (s : State) (h : 7 < s.time.dls.length) (hr : (s.time.dls.getD 6 []).length < 1024 ∨ (s.time.dls.getD 7 []).length < 1024)
    (hn : tgt ≤ dtNow s + 2 ^ 14 * (2 ^ 31 - 1)) :
    ∃ l ∈ (alarmInsert tgt tok s).time.dls, ({ target := stOf tgt, full := tgt, consumer := 0, token := tok, late := decide (tgt < dtNow s) } : DlEntry) ∈ l := by
  unfold alarmInsert
  generalize hk : (if (s.time.dls.getD 6 []).length < 1024 then 6 else 7) = k
  have hk' : k < s.time.dls.length := by split at hk <;> omega
  have hl : ¬ 1024 ≤ (s.time.dls.getD k []).length := by split at hk <;> subst hk <;> omega
  unfold dlPut
  simp only [hl, if_false]
  rw [if_neg (by omega)]
  refine ⟨dlInsert (stOf (dtNow s)) { target := stOf tgt, full := tgt, consumer := 0, token := tok, late := decide (tgt < dtNow s) } s.time.dls[k], ?_, dlInsert_mem _ _ _⟩
  rw [List.mem_iff_getElem]
  exact ⟨k, by simpa [lmod] using hk', by simp [lmod]⟩
@[simp] theorem alarmInsert_alarms (tgt tok : Nat) (s : State) : (alarmInsert tgt tok s).time.alarms = s.time.alarms := by
  unfold alarmInsert
  rcases dlPut_cases (if (s.time.dls.getD 6 []).length < 1024 then 6 else 7) tgt 0 tok s with h | h <;> rw [h]
end Sys2Proof.Machine
end

