-- ==== Sys2Proof/WellFormed.lean ====
section
/-!
DEFINITION. Well-formed commands: operands within the ranges that the manual gives the things they name.
-/
namespace Sys2Proof

/-- A command lies in one of 16 mailboxes and 64 slots, and its parameter area is as long as EXTRA says (14 R514, R516). -/
def Cmd.wf (c : Cmd) : Bool :=
  decide (c.mbx < 16) && decide (c.slot < 64) && decide (c.params.length = 56 + 64 * (c.flags.toNat % 4))

/-- The header fields of a radio frame are within their widths (11 R401, R405). -/
def RadFrame.wf (f : RadFrame) : Bool :=
  decide (f.slot < 80) && decide (f.half < 2) && decide (f.crc < 65536) && f.tag.length == 8 && decide (f.src < 256) && decide (f.dst < 256) && decide (f.seq < 65536)

/-- The header fields of a Vexlink message are within their widths (13 R472). -/
def VxMsg.wf (m : VxMsg) : Bool := decide (m.type < 256) && decide (m.hops < 256) && decide (m.origin < 4294967296) && decide (m.seq < 65536)

/-- The header fields of a PTP message are within their widths (13 R491). -/
def PtpMsg.wf (m : PtpMsg) : Bool := decide (m.type < 16) && decide (m.seq < 65536) && decide (m.domain < 256)

/-- A command is well formed. -/
def Instr.wf (i : Instr) : Bool :=
  match i with
  | .refLost cause => decide (cause < 2)
  | .ppsInCapture pin _ frac => decide (pin < 2) && decide (frac < 16384)
  | .sourceTimeout dom => decide (dom < 2)
  | .ppsOutArm pin => decide (pin < 2)
  | .ppsOutActiveEdge pin => decide (pin < 2)
  | .ppsOutInactiveEdge pin => decide (pin < 2)
  | .ppsInMissing pin => decide (pin < 2)
  | .captureEdge input _ frac => decide (input < 17) && decide (frac < 16384)
  | .compareRelease cu => decide (cu < 16)
  | .comparePulseEnd cu => decide (cu < 16)
  | .delayListDelivery list => decide (list < 8)
  | .timeGet c => Cmd.wf c
  | .timeDomainConfig c => Cmd.wf c
  | .timeSelect c => Cmd.wf c
  | .timeMeasure c => Cmd.wf c
  | .timeSet c => Cmd.wf c
  | .timePpsOutConfig c => Cmd.wf c
  | .timePpsInConfig c => Cmd.wf c
  | .timeTideConfig c => Cmd.wf c
  | .timeEpochSet c => Cmd.wf c
  | .timeHoldoverConfig c => Cmd.wf c
  | .timeCaptureConfig c => Cmd.wf c
  | .timeCaptureRead c => Cmd.wf c
  | .timeCompareArm c => Cmd.wf c
  | .timeCompareCancel c => Cmd.wf c
  | .timeAlarmSet c => Cmd.wf c
  | .ifFrameMarker stream _ => decide (stream < 8)
  | .gnssIfLinkLost stream cause => decide (stream < 8) && decide (cause < 256)
  | .ifClockFault stream _ => decide (stream < 8)
  | .spectralAverage stream _ => decide (stream < 8)
  | .notchRelease stream slot => decide (stream < 8) && decide (slot < 8)
  | .noiseProbeReading stream _ => decide (stream < 8)
  | .jamClear stream => decide (stream < 8)
  | .coherentIntervalEnd ch _ => decide (ch < 384)
  | .pullInTimeout ch => decide (ch < 384)
  | .gnssSatLost ch => decide (ch < 384)
  | .navUnitDecoded ch _ _ _ _ _ _ => decide (ch < 384)
  | .gnssConfig c => Cmd.wf c
  | .gnssStatus c => Cmd.wf c
  | .gnssFrontendSet c => Cmd.wf c
  | .gnssAssist c _ => Cmd.wf c
  | .gnssChannelRequest c => Cmd.wf c
  | .gnssChannelRelease c => Cmd.wf c
  | .gnssMeasSubscribe c => Cmd.wf c
  | .gnssNavSubscribe c => Cmd.wf c
  | .gnssNotchConfig c => Cmd.wf c
  | .gnssLoopConfig c => Cmd.wf c
  | .gnssRestart c => Cmd.wf c
  | .gnssBurstConfig c => Cmd.wf c
  | .gnssAcqConfig c => Cmd.wf c
  | .poseInstallSet c => Cmd.wf c
  | .poseFilterConfig c => Cmd.wf c
  | .poseIntegrityConfig c => Cmd.wf c
  | .poseImuConfig c => Cmd.wf c
  | .poseImuReadSet c => Cmd.wf c
  | .poseCorrConfig c => Cmd.wf c
  | .poseStatus c => Cmd.wf c
  | .poseSubscribe c => Cmd.wf c
  | .poseAt c => Cmd.wf c
  | .poseReset c => Cmd.wf c
  | .posePcvLoad c => Cmd.wf c
  | .baseRefSet c => Cmd.wf c
  | .baseSurveyStart c => Cmd.wf c
  | .baseCorrConfig c => Cmd.wf c
  | .poseCorrSubscribe c => Cmd.wf c
  | .poseNmeaSubscribe c => Cmd.wf c
  | .cellEval loop pos _ => decide (loop < 16) && decide (pos < 64)
  | .framePack loop => decide (loop < 16)
  | .cellManualEnd cell => decide (cell < 4096)
  | .cellAdd c => Cmd.wf c
  | .cellWrite c => Cmd.wf c
  | .cellRead c => Cmd.wf c
  | .cellRemove c => Cmd.wf c
  | .cellEngineConfig c => Cmd.wf c
  | .cellSpot c => Cmd.wf c
  | .cellSpotCancel c => Cmd.wf c
  | .cellManual c => Cmd.wf c
  | .cellStats c => Cmd.wf c
  | .cellTraceSubscribe c => Cmd.wf c
  | .cellFaultClear c => Cmd.wf c
  | .tileFill layer _ _ _ _ _ => decide (layer < 8)
  | .rasterJobDefine c => Cmd.wf c
  | .rasterJobOpen c => Cmd.wf c
  | .rasterJobClose c => Cmd.wf c
  | .rasterJobDiscard c => Cmd.wf c
  | .rasterJobStatus c => Cmd.wf c
  | .rasterTileSave c => Cmd.wf c
  | .rasterExport c => Cmd.wf c
  | .rasterTileDrop c => Cmd.wf c
  | .rasterLoadStatus c => Cmd.wf c
  | .rasterCacheStatus c => Cmd.wf c
  | .rasterQuery c => Cmd.wf c
  | .rasterWantSubscribe c => Cmd.wf c
  | .commandFrameSend loop => decide (loop < 16)
  | .returnedFrame loop _ _ => decide (loop < 16)
  | .knaniReturnMissing loop _ => decide (loop < 16)
  | .breakFrame loop => decide (loop < 16)
  | .manageFrame p => decide (p.loop < 16)
  | .segmentRemeasure loop _ => decide (loop < 16)
  | .enumerateReturn loop _ _ _ => decide (loop < 16)
  | .enumTimeout loop _ => decide (loop < 16)
  | .watchdogPeriodRestore loop => decide (loop < 16)
  | .idBusTransaction bus _ crc => decide (bus < 4) && decide (crc < 65536)
  | .nodeCommandFrame loop pos _ => decide (loop < 16) && decide (pos < 64)
  | .nodeLatch loop pos => decide (loop < 16) && decide (pos < 64)
  | .failsafeCommit loop pos => decide (loop < 16) && decide (pos < 64)
  | .nodeBreakOriginate loop pos => decide (loop < 16) && decide (pos < 64)
  | .moduleHeaderRead loop pos chan _ => decide (loop < 16) && decide (pos < 64) && decide (chan < 8)
  | .knaniLoopStart c => Cmd.wf c
  | .knaniLoopStop c => Cmd.wf c
  | .knaniLoopRestore c => Cmd.wf c
  | .knaniLoopStatus c => Cmd.wf c
  | .knaniNodeStatus c => Cmd.wf c
  | .knaniIdRead c => Cmd.wf c
  | .knaniIdWrite c => Cmd.wf c
  | .knaniTimingMeasure c => Cmd.wf c
  | .knaniNodeResume c => Cmd.wf c
  | .channelConfig c => Cmd.wf c
  | .channelStatus c => Cmd.wf c
  | .channelFaultClear c => Cmd.wf c
  | .channelNeighbourTest c => Cmd.wf c
  | .channelExposureSet c => Cmd.wf c
  | .channelDiagConfig c => Cmd.wf c
  | .channelLifeRead c => Cmd.wf c
  | .moveStart axis => decide (axis < 8)
  | .setPointRelease axis off => decide (axis < 8) && decide (off.natAbs ≤ 50)
  | .axisPlanStarved axis => decide (axis < 8)
  | .chopperCycle axis _ _ _ => decide (axis < 8)
  | .standstillTimer axis => decide (axis < 8)
  | .limitDebouncedEdge axis _ _ _ => decide (axis < 8)
  | .reverseDwell axis => decide (axis < 8)
  | .homeTimeout axis => decide (axis < 8)
  | .axisConfig c => Cmd.wf c
  | .axisDriveConfig c => Cmd.wf c
  | .axisLimitConfig c => Cmd.wf c
  | .axisMove c => Cmd.wf c
  | .axisStop c => Cmd.wf c
  | .axisResume c => Cmd.wf c
  | .axisHome c => Cmd.wf c
  | .axisEnable c => Cmd.wf c
  | .axisSetPosition c => Cmd.wf c
  | .axisStatus c => Cmd.wf c
  | .axisFaultClear c => Cmd.wf c
  | .supplyValue source _ _ _ => decide (source < 20)
  | .intervalLatch source => decide (source < 20)
  | .meterChannelConfig c => Cmd.wf c
  | .meterSupplyConfig c => Cmd.wf c
  | .meterLatchConfig c => Cmd.wf c
  | .meterRead c => Cmd.wf c
  | .meterSubscribe c => Cmd.wf c
  | .meterBillOpen c => Cmd.wf c
  | .meterBillClose c => Cmd.wf c
  | .meterSaveConfig c => Cmd.wf c
  | .meterSample c => Cmd.wf c
  | .slotStart slot half => decide (slot < 80) && decide (half < 2)
  | .beacon f => RadFrame.wf f
  | .corrFrame f => RadFrame.wf f
  | .stopFrame f => RadFrame.wf f
  | .data f => RadFrame.wf f
  | .ackFrame f => RadFrame.wf f
  | .uplink f => RadFrame.wf f
  | .joinReq f => RadFrame.wf f
  | .joinResp f => RadFrame.wf f
  | .serviceReq f => RadFrame.wf f
  | .serviceResp f => RadFrame.wf f
  | .supTimeout address => decide (1 ≤ address) && decide (address ≤ 64)
  | .messageReassemblyTimeout peer port _ => decide (peer ≤ 64) && decide (port < 128)
  | .fleetRadioConfig c => Cmd.wf c
  | .fleetXcvrScript c => Cmd.wf c
  | .fleetBaseStart c => Cmd.wf c
  | .fleetBaseStop c => Cmd.wf c
  | .fleetBaseSet c => Cmd.wf c
  | .fleetChannelMap c => Cmd.wf c
  | .fleetRoverRelease c => Cmd.wf c
  | .fleetRoverInfo c => Cmd.wf c
  | .fleetJoin c => Cmd.wf c
  | .fleetLeave c => Cmd.wf c
  | .fleetRecover c => Cmd.wf c
  | .fleetStatus c => Cmd.wf c
  | .fleetServiceSend c => Cmd.wf c
  | .fleetServiceReply c => Cmd.wf c
  | .corridorRequest c => Cmd.wf c
  | .corridorRelease c => Cmd.wf c
  | .corridorLocalSet c => Cmd.wf c
  | .corridorConfig c => Cmd.wf c
  | .corridorRead c => Cmd.wf c
  | .corridorServiceConfig c => Cmd.wf c
  | .corridorRankSet c => Cmd.wf c
  | .corridorBlock c => Cmd.wf c
  | .corridorRevoke c => Cmd.wf c
  | .corridorStatus c => Cmd.wf c
  | .stopStatus c => Cmd.wf c
  | .stopClear c => Cmd.wf c
  | .stopConfig c => Cmd.wf c
  | .symbolLock port => decide (port < 3)
  | .vxLinkDown port _ => decide (port < 3)
  | .stopMessage port m => decide (port < 3) && VxMsg.wf m
  | .poseMessage port m => decide (port < 3) && VxMsg.wf m
  | .timeMessage port m frac => decide (port < 3) && VxMsg.wf m && decide (frac < 16384)
  | .delayReq port _ frac => decide (port < 3) && decide (frac < 16384)
  | .delayResp port m frac => decide (port < 3) && VxMsg.wf m && decide (frac < 16384)
  | .ackMessage port m => decide (port < 3) && VxMsg.wf m
  | .coverageDelta port m => decide (port < 3) && VxMsg.wf m
  | .hostMsg port m => decide (port < 3) && VxMsg.wf m
  | .corrMessage port m => decide (port < 3) && VxMsg.wf m
  | .delayReqTimer port => decide (port < 3)
  | .reliableRetry port _ => decide (port < 3)
  | .ethFrameRx port _ frac => decide (port < 2) && decide (frac < 16384)
  | .ethFrameTx port => decide (port < 2)
  | .ethGateCycle port => decide (port < 2)
  | .ethCollision bits => decide (bits < 65536)
  | .ethLink port _ _ => decide (port < 2)
  | .ptpMessage port m frac => decide (port < 2) && PtpMsg.wf m && decide (frac < 16384)
  | .ptpAnnounceTimeout port => decide (port < 2)
  | .ptpSyncSend port => decide (port < 2)
  | .canFrameRx ctl _ _ _ _ _ => decide (ctl < 2)
  | .canFrameTx ctl => decide (ctl < 2)
  | .canBusError ctl _ _ => decide (ctl < 2)
  | .canAutoRecovery ctl => decide (ctl < 2)
  | .netVxConfig c => Cmd.wf c
  | .netVxStatus c => Cmd.wf c
  | .netEthConfig c => Cmd.wf c
  | .netEthHashSet c => Cmd.wf c
  | .netEthGateLoad c => Cmd.wf c
  | .netEthGateCommit c => Cmd.wf c
  | .netPtpConfig c => Cmd.wf c
  | .netCanConfig c => Cmd.wf c
  | .netCanFilterSet c => Cmd.wf c
  | .netCanRecover c => Cmd.wf c
  | .netMdio c _ => Cmd.wf c
  | .netStatus c => Cmd.wf c
  | .mbxDoorbell n slot _ => decide (n < 16) && decide (slot < 64)
  | .mbxAck n _ => decide (n < 16)
  | .mbxCfgWrite n _ => decide (n < 16)
  | .clear stream => decide (stream < 2)
  | .pairValueWrite off _ => decide (off < 65536)
  | .registerWrite off _ => decide (off < 65536)
  | .sysInfo c => Cmd.wf c
  | .sysNop c => Cmd.wf c
  | .sysEcho c => Cmd.wf c
  | .sysStreamStatus c => Cmd.wf c
  | .sysVoteStatus c => Cmd.wf c
  | .tamperAlarm x => decide (x.sensor < 9) && decide (x.mv < 65536)
  | .entropyTestFail test => decide (test < 2)
  | .debugRequest kinds _ => decide (kinds < 16)
  | .secStatus c => Cmd.wf c
  | .secKeyInfo c => Cmd.wf c
  | .secKeyGenerate c => Cmd.wf c
  | .secKeyImport c => Cmd.wf c
  | .secKeyDerive c => Cmd.wf c
  | .secKeyRevoke c => Cmd.wf c
  | .secKeyDelete c => Cmd.wf c
  | .secKeyExport c => Cmd.wf c
  | .secCipher c => Cmd.wf c
  | .secMac c => Cmd.wf c
  | .secHash c => Cmd.wf c
  | .secSign c => Cmd.wf c
  | .secVerify c => Cmd.wf c
  | .secEcdh c => Cmd.wf c
  | .secRandom c => Cmd.wf c
  | .secLifecycle c => Cmd.wf c
  | .secChallenge c => Cmd.wf c
  | .secUnlock c => Cmd.wf c
  | .secUnlockAck c => Cmd.wf c
  | .secTamperLog c => Cmd.wf c
  | .secAttest c => Cmd.wf c
  | .secPufCheck c => Cmd.wf c
  | .secWorldMap c => Cmd.wf c
  | .secKeyInstall c => Cmd.wf c
  | .updateBegin c => Cmd.wf c
  | .updateVerify c => Cmd.wf c
  | .updateActivate c => Cmd.wf c
  | .updateConfirm _ c => Cmd.wf c
  | .updateRevert c => Cmd.wf c
  | .updateAbort c => Cmd.wf c
  | .updateStatus c => Cmd.wf c
  | .journalStatus c => Cmd.wf c
  | .journalCompact c => Cmd.wf c
  | .wakeGpio pin _ => decide (pin < 4)
  | .patrolScrub memory _ _ _ _ _ _ => decide (memory < 6)
  | .powerStatus c => Cmd.wf c
  | .powerSetState c => Cmd.wf c
  | .powerWakeConfig c => Cmd.wf c
  | .powerSoundingConfig c => Cmd.wf c
  | .powerSoundingRead c => Cmd.wf c
  | .powerUndertowStatus c => Cmd.wf c
  | .recorderRead c => Cmd.wf c
  | .recorderSubscribe c => Cmd.wf c
  | .recorderConfig c => Cmd.wf c
  | .recorderStatus c => Cmd.wf c
  | .nodeWireReset loop pos => decide (loop < 16) && decide (pos < 64)
  | .channelEdge loop pos chan => decide (loop < 16) && decide (pos < 64) && decide (chan < 8)
  | .enumerateAtNode loop _ _ => decide (loop < 16)
  | .manageAtNode p _ => decide (p.loop < 16)
  | .nodeBreakForward loop pos => decide (loop < 16) && decide (pos < 64)
  | .shortLoad loop pos chan _ => decide (loop < 16) && decide (pos < 64) && decide (chan < 8)
  | .nodeOvertemperature loop pos _ => decide (loop < 16) && decide (pos < 64)
  | .vexlinkBlock port _ => decide (port < 3)
  | .ptpDelayReqSend port => decide (port < 2)
  | .sysNopDelay mbx slot => decide (mbx < 16) && decide (slot < 64)
  | .tideBoundary | .commitDeadline _ _ _ | .vddAonRise _ _ | .vddAonLoss | .resetN _ _ | .startUp _ | .refRestored _ | .domainALockHold | .tqTest
  | .rtcWrite | .fullTargetArm _ _ | .tidePeriodChange | .acqSearchDone _ _ _ _ _ _ _ _ | .detectionDiscard | .measurementEpoch
  | .measurementRecord _ _ | .burstStart | .burstEnd _ _ | .rtkEpochSolution _ | .poseEpochLate _ | .rtcmFrame _ | .corrStale | .imuSample _ _
  | .imuLost | .poseDrStart | .poseDrLimit | .baseSurveyFailed | .correctionInterval _ | .stationIntervalDue _ | .poseBatch _ | .commitGate
  | .writeback _ _ | .rasterJobClosed | .tilePacket | .planeLoadApply | .snapshotSend | .wantTest | .flushInterval | .deltaApply | .tileDropApply
  | .lifeCountCheck | .conversionFrame _ | .alignedSample _ _ | .syntheticCrossing _ | .recordRingSend | .meterSave | .meterSaveLate
  | .fleetBeaconMissed _ | .joinRetry | .fleetServiceTimeout | .searchChannelTimeout | .radioMsgPacket | .corridorBatch | .req _ _ | .release _ _
  | .frame _ | .reqTimeout _ | .stopInRegister _ _ | .stopInRelease | .stopDiscrepancy _ | .vexlinkStopTimeout | .timeSendTimer | .vxMsgLost _ _
  | .vxMsgPacket | .ethPacket | .ethBackoffExpiry | .canPacket | .pcieLinkChange _ _ _ | .evtAck _ | .sData0 _ | .sEnd0 _ | .sData1 | .abort | .drop
  | .packetAge | .indDataRead | .indDataWrite _ | .pairTimeout | .roleNext _ | .resetReqIdle _ | .resetReqAllOff _ | .resetReqCancel _ | .domainEn _
  | .sysRestart | .domainEnApply | .tamperSafeEntry | .pufHealthCheck _ _ _ | .vaultIntegrityCheck _ | .entropyRetest _ _ | .sessionTimeout _
  | .unlockAckTimeout | .dbgTrstN | .image | .verificationDone _ | .migrated _ | .preparingTimeout | .handoverSwitch _ _ | .handoverReversal
  | .confirmWindow | .updateRestart | .compaction _ _ | .neapEntry | .wakeRtcAlarm | .powerPfw _ | .powerPfwEnd _ | .pmbusReadback _ _ _
  | .pmbAlert _ | .lockstepDisagreement | .safeHeartbeatMiss | .processorHeartbeat _ _ _ | .sounding _ _ _ | .recorderLoss | .vddCoreLoss
  | .selfTestPassed => true

end Sys2Proof
end

