-- ==== Sys2Proof/Tests/Slice0.lean ====
section
/-!
SUPPORT. Our own tests: the well-formedness smoke, effects read off the spec's own numbers, and for each statement a state and operands that meet its hypotheses.
-/
namespace Sys2Proof.Tests
open Sys2Proof Sys2Proof.Machine Sys2Proof.Safety

/-! ## Well-formedness: an ill-formed term for each check, refused -/

/-- A command whose slot is not one of 64, and whose parameter area is that of EXTRA 0. -/
def badSlot : Cmd := { slot := 64, params := List.replicate 56 0 }
/-- A frame in slot 80. -/
def badFrame : RadFrame := { slot := 80, tag := List.replicate 8 0 }
/-- A message of a TYPE beyond 8 bits. -/
def badVx : VxMsg := { type := 256, origin := 0 }
/-- A PTP message of a type beyond 4 bits. -/
def badPtp : PtpMsg := { type := 16 }

theorem test_wf_messages : [badFrame, { slot := 0, half := 2, tag := List.replicate 8 0 }, { slot := 0, src := 256, tag := List.replicate 8 0 }, { slot := 0, dst := 256, tag := List.replicate 8 0 },
    { slot := 0, seq := 65536, tag := List.replicate 8 0 }, { slot := 0, crc := 65536, tag := List.replicate 8 0 }, { slot := 0 }].all (fun (f : RadFrame) => !f.wf) = true ∧
    [badVx, { type := 0, origin := 0, hops := 256 }, { type := 0, origin := 4294967296 }, { type := 0, origin := 0, seq := 65536 }].all (fun (m : VxMsg) => !m.wf) = true ∧
    [badPtp, { type := 0, seq := 65536 }, { type := 0, domain := 256 }].all (fun (m : PtpMsg) => !m.wf) = true := by decide

theorem test_wf_command : ({ params := List.replicate 56 0 } : Cmd).wf = true ∧ badSlot.wf = false ∧ ({ mbx := 16, params := List.replicate 56 0 } : Cmd).wf = false ∧
    ({ params := List.replicate 55 0 } : Cmd).wf = false := by decide

theorem test_wf_commands_0 : ([.timeGet badSlot, .timeDomainConfig badSlot, .timeSelect badSlot, .timeMeasure badSlot, .timeSet badSlot,
    .timePpsOutConfig badSlot, .timePpsInConfig badSlot, .timeTideConfig badSlot, .timeEpochSet badSlot, .timeHoldoverConfig badSlot,
    .timeCaptureConfig badSlot, .timeCaptureRead badSlot, .timeCompareArm badSlot, .timeCompareCancel badSlot, .timeAlarmSet badSlot,
    .gnssConfig badSlot, .gnssStatus badSlot, .gnssFrontendSet badSlot, .gnssAssist badSlot 0, .gnssChannelRequest badSlot,
    .gnssChannelRelease badSlot, .gnssMeasSubscribe badSlot, .gnssNavSubscribe badSlot, .gnssNotchConfig badSlot, .gnssLoopConfig badSlot,
    .gnssRestart badSlot, .gnssBurstConfig badSlot, .gnssAcqConfig badSlot, .poseInstallSet badSlot, .poseFilterConfig badSlot,
    .poseIntegrityConfig badSlot, .poseImuConfig badSlot, .poseImuReadSet badSlot, .poseCorrConfig badSlot, .poseStatus badSlot,
    .poseSubscribe badSlot, .poseAt badSlot, .poseReset badSlot, .posePcvLoad badSlot, .baseRefSet badSlot] : List Instr).all (fun i => !i.wf) = true := by decide

theorem test_wf_commands_1 : ([.baseSurveyStart badSlot, .baseCorrConfig badSlot, .poseCorrSubscribe badSlot, .poseNmeaSubscribe badSlot, .cellAdd badSlot,
    .cellWrite badSlot, .cellRead badSlot, .cellRemove badSlot, .cellEngineConfig badSlot, .cellSpot badSlot,
    .cellSpotCancel badSlot, .cellManual badSlot, .cellStats badSlot, .cellTraceSubscribe badSlot, .cellFaultClear badSlot,
    .rasterJobDefine badSlot, .rasterJobOpen badSlot, .rasterJobClose badSlot, .rasterJobDiscard badSlot, .rasterJobStatus badSlot,
    .rasterTileSave badSlot, .rasterExport badSlot, .rasterTileDrop badSlot, .rasterLoadStatus badSlot, .rasterCacheStatus badSlot,
    .rasterQuery badSlot, .rasterWantSubscribe badSlot, .knaniLoopStart badSlot, .knaniLoopStop badSlot, .knaniLoopRestore badSlot,
    .knaniLoopStatus badSlot, .knaniNodeStatus badSlot, .knaniIdRead badSlot, .knaniIdWrite badSlot, .knaniTimingMeasure badSlot,
    .knaniNodeResume badSlot, .channelConfig badSlot, .channelStatus badSlot, .channelFaultClear badSlot, .channelNeighbourTest badSlot] : List Instr).all (fun i => !i.wf) = true := by decide

theorem test_wf_commands_2 : ([.channelExposureSet badSlot, .channelDiagConfig badSlot, .channelLifeRead badSlot, .axisConfig badSlot, .axisDriveConfig badSlot,
    .axisLimitConfig badSlot, .axisMove badSlot, .axisStop badSlot, .axisResume badSlot, .axisHome badSlot,
    .axisEnable badSlot, .axisSetPosition badSlot, .axisStatus badSlot, .axisFaultClear badSlot, .meterChannelConfig badSlot,
    .meterSupplyConfig badSlot, .meterLatchConfig badSlot, .meterRead badSlot, .meterSubscribe badSlot, .meterBillOpen badSlot,
    .meterBillClose badSlot, .meterSaveConfig badSlot, .meterSample badSlot, .fleetRadioConfig badSlot, .fleetXcvrScript badSlot,
    .fleetBaseStart badSlot, .fleetBaseStop badSlot, .fleetBaseSet badSlot, .fleetChannelMap badSlot, .fleetRoverRelease badSlot,
    .fleetRoverInfo badSlot, .fleetJoin badSlot, .fleetLeave badSlot, .fleetRecover badSlot, .fleetStatus badSlot,
    .fleetServiceSend badSlot, .fleetServiceReply badSlot, .corridorRequest badSlot, .corridorRelease badSlot, .corridorLocalSet badSlot] : List Instr).all (fun i => !i.wf) = true := by decide

theorem test_wf_commands_3 : ([.corridorConfig badSlot, .corridorRead badSlot, .corridorServiceConfig badSlot, .corridorRankSet badSlot, .corridorBlock badSlot,
    .corridorRevoke badSlot, .corridorStatus badSlot, .stopStatus badSlot, .stopClear badSlot, .stopConfig badSlot,
    .netVxConfig badSlot, .netVxStatus badSlot, .netEthConfig badSlot, .netEthHashSet badSlot, .netEthGateLoad badSlot,
    .netEthGateCommit badSlot, .netPtpConfig badSlot, .netCanConfig badSlot, .netCanFilterSet badSlot, .netCanRecover badSlot,
    .netMdio badSlot none, .netStatus badSlot, .sysInfo badSlot, .sysNop badSlot, .sysEcho badSlot,
    .sysStreamStatus badSlot, .sysVoteStatus badSlot, .secStatus badSlot, .secKeyInfo badSlot, .secKeyGenerate badSlot,
    .secKeyImport badSlot, .secKeyDerive badSlot, .secKeyRevoke badSlot, .secKeyDelete badSlot, .secKeyExport badSlot,
    .secCipher badSlot, .secMac badSlot, .secHash badSlot, .secSign badSlot, .secVerify badSlot] : List Instr).all (fun i => !i.wf) = true := by decide

theorem test_wf_commands_4 : ([.secEcdh badSlot, .secRandom badSlot, .secLifecycle badSlot, .secChallenge badSlot, .secUnlock badSlot,
    .secUnlockAck badSlot, .secTamperLog badSlot, .secAttest badSlot, .secPufCheck badSlot, .secWorldMap badSlot,
    .secKeyInstall badSlot, .updateBegin badSlot, .updateVerify badSlot, .updateActivate badSlot, .updateConfirm false badSlot,
    .updateRevert badSlot, .updateAbort badSlot, .updateStatus badSlot, .journalStatus badSlot, .journalCompact badSlot,
    .powerStatus badSlot, .powerSetState badSlot, .powerWakeConfig badSlot, .powerSoundingConfig badSlot, .powerSoundingRead badSlot,
    .powerUndertowStatus badSlot, .recorderRead badSlot, .recorderSubscribe badSlot, .recorderConfig badSlot, .recorderStatus badSlot] : List Instr).all (fun i => !i.wf) = true := by decide

theorem test_wf_events_0 : ([.refLost 2, .ppsInCapture 2 false 0, .ppsInCapture 0 false 16384, .sourceTimeout 2, .ppsOutArm 2,
    .ppsOutActiveEdge 2, .ppsOutInactiveEdge 2, .ppsInMissing 2, .captureEdge 17 false 0, .captureEdge 0 false 16384,
    .compareRelease 16, .comparePulseEnd 16, .delayListDelivery 8, .ifFrameMarker 8 0, .gnssIfLinkLost 8 0,
    .gnssIfLinkLost 0 256, .ifClockFault 8 0, .spectralAverage 8 [], .notchRelease 8 0, .notchRelease 0 8,
    .noiseProbeReading 8 0, .jamClear 8, .coherentIntervalEnd 384 {}, .pullInTimeout 384, .gnssSatLost 384,
    .navUnitDecoded 384 0 false 0 0 [] .nothing, .cellEval 16 0 [], .cellEval 0 64 [], .framePack 16, .cellManualEnd 4096,
    .tileFill 8 0 0 false 0 none, .commandFrameSend 16, .returnedFrame 16 0 [], .knaniReturnMissing 16 false, .breakFrame 16,
    .manageFrame ⟨16, true⟩, .segmentRemeasure 16 [], .enumerateReturn 16 [] 0 [], .enumTimeout 16 false, .watchdogPeriodRestore 16] : List Instr).all (fun i => !i.wf) = true := by decide

theorem test_wf_events_1 : ([.idBusTransaction 4 none 0, .idBusTransaction 0 none 65536, .nodeCommandFrame 16 0 {}, .nodeCommandFrame 0 64 {}, .nodeLatch 16 0, .nodeLatch 0 64,
    .failsafeCommit 16 0, .failsafeCommit 0 64, .nodeBreakOriginate 16 0, .nodeBreakOriginate 0 64, .moduleHeaderRead 16 0 0 none,
    .moduleHeaderRead 0 64 0 none, .moduleHeaderRead 0 0 8 none, .moveStart 8, .setPointRelease 8 0, .setPointRelease 0 51,
    .axisPlanStarved 8, .chopperCycle 8 false 0 none, .standstillTimer 8, .limitDebouncedEdge 8 false false 0, .reverseDwell 8,
    .homeTimeout 8, .supplyValue 20 0 0 false, .intervalLatch 20, .slotStart 80 0, .slotStart 0 2,
    .beacon badFrame, .corrFrame badFrame, .stopFrame badFrame, .data badFrame, .ackFrame badFrame,
    .uplink badFrame, .joinReq badFrame, .joinResp badFrame, .serviceReq badFrame, .serviceResp badFrame,
    .supTimeout 0, .supTimeout 65, .messageReassemblyTimeout 65 0 0, .messageReassemblyTimeout 0 128 0, .symbolLock 3, .vxLinkDown 3 0, .stopMessage 3 { type := 0, origin := 0 }] : List Instr).all (fun i => !i.wf) = true := by decide

theorem test_wf_events_2 : ([.stopMessage 0 badVx, .poseMessage 3 { type := 0, origin := 0 }, .poseMessage 0 badVx, .timeMessage 3 { type := 0, origin := 0 } 0, .timeMessage 0 badVx 0,
    .timeMessage 0 { type := 0, origin := 0 } 16384, .delayReq 3 0 0, .delayReq 0 0 16384, .delayResp 3 { type := 0, origin := 0 } 0, .delayResp 0 badVx 0,
    .delayResp 0 { type := 0, origin := 0 } 16384, .ackMessage 3 { type := 0, origin := 0 }, .ackMessage 0 badVx, .coverageDelta 3 { type := 0, origin := 0 }, .coverageDelta 0 badVx,
    .hostMsg 3 { type := 0, origin := 0 }, .hostMsg 0 badVx, .corrMessage 3 { type := 0, origin := 0 }, .corrMessage 0 badVx, .delayReqTimer 3,
    .reliableRetry 3 0, .ethFrameRx 2 [] 0, .ethFrameRx 0 [] 16384, .ethFrameTx 2, .ethGateCycle 2,
    .ethCollision 65536, .ethLink 2 false 0, .ptpMessage 2 { type := 0 } 0, .ptpMessage 0 badPtp 0, .ptpMessage 0 { type := 0 } 16384,
    .ptpAnnounceTimeout 2, .ptpSyncSend 2, .canFrameRx 2 false false false 0 [], .canFrameTx 2, .canBusError 2 false false,
    .canAutoRecovery 2, .mbxDoorbell 16 0 none, .mbxDoorbell 0 64 none, .mbxAck 16 0, .mbxCfgWrite 16 0] : List Instr).all (fun i => !i.wf) = true := by decide

theorem test_wf_events_3 : ([.clear 2, .pairValueWrite 65536 0, .registerWrite 65536 0, .tamperAlarm ⟨9, 0⟩, .tamperAlarm ⟨0, 65536⟩, .entropyTestFail 2,
    .debugRequest 16 0, .wakeGpio 4 false, .patrolScrub 6 0 0 false false 0 0, .nodeWireReset 16 0, .nodeWireReset 0 64,
    .channelEdge 16 0 0, .channelEdge 0 64 0, .channelEdge 0 0 8, .enumerateAtNode 16 [] [], .manageAtNode ⟨16, true⟩ 0,
    .nodeBreakForward 16 0, .nodeBreakForward 0 64, .shortLoad 16 0 0 0, .shortLoad 0 64 0 0, .shortLoad 0 0 8 0,
    .nodeOvertemperature 16 0 0, .nodeOvertemperature 0 64 0, .vexlinkBlock 3 [], .ptpDelayReqSend 2, .sysNopDelay 16 0,
    .sysNopDelay 0 64] : List Instr).all (fun i => !i.wf) = true := by decide

set_option Elab.async false
set_option linter.all false

/-! ## Witnesses: for each statement with hypotheses, a state and operands that meet those of each of its clauses -/

/-- A command of `n` parameter bytes with the area that `need` bytes ask for, zero but for the fields given as (offset, bytes, value). -/
def cmd (n need : Nat) (fs : List (Nat × Nat × Nat)) : Cmd :=
  let x := if need ≤ 56 then 0 else if need ≤ 120 then 1 else if need ≤ 184 then 2 else 3
  { len := BitVec.ofNat 16 n, flags := BitVec.ofNat 8 x
    params := fs.foldl (fun p f => p.take f.1 ++ le f.2.1 f.2.2 ++ p.drop (f.1 + f.2.1)) (List.replicate (56 + 64 * x) 0) }

/-- The device after its start-up, in SPRING with READY set. -/
def ready : State :=
  let r := State.reset
  { r with power := { r.power with st := .spring }, harbour := { r.harbour with ready := true }, recorder := { r.recorder with loaded := true } }

/-- The same, configured as a base. -/
def base : State := { ready with votes := { ready.votes with role := { c0 := 1, c1 := 1, c2 := 1 } } }

/-- Cell 0 of the witnesses: enabled, on channel 0, the least widths and duties. -/
def aCell : Cell :=
  { kind := 0, flags := 1, channel := 0, lx := 0, ly := 0, lz := 0, width := 1, length := 1, latOn := 0, latOff := 0, thresh := 0, hyst := 0, rxLayer := 0
    bmask := 1, rxConst := 0, rxBias := 0, rxGain := 0, dutyMin := 1, dutyMax := 1, fadeOn := 0, fadeOff := 0 }

/-- A job over one tile. -/
def aJob : JobDef :=
  { id := 1, grid := 0, layers := 3, uncovered := true, lat := 0, lon := 0, height := 0, tx0 := 0, ty0 := 0, tx1 := 0, ty1 := 0, fallback := [0, 0, 0, 0, 0, 0]
    tpf := 100, flush := 100, horizon := 20 }

/-- The tile of that job, in the cache. -/
def aPlane : Plane := { layer := 0, tx := 0, ty := 0, cache := some {} }

/-- The device in an open job, a tide boundary behind it and a cell defined. -/
def inJob : State :=
  { ready with time.lastBoundary := some 0, cell.armed := true, cell.cells := [(0, aCell)], cell.snap := [(0, aCell)], raster.job := 3
               raster.jdef := some aJob, raster.planes := [aPlane] }

theorem tget_range (n k j : Nat) (h : j ≤ k) (h2 : k < j + n) :
    (tget ((List.range' j n).map (fun x => (x, aCell))) k) = some aCell := by
  induction n generalizing j with
  | zero => omega
  | succ m ih =>
    simp only [List.range'_succ, List.map_cons, tget]
    split
    · rfl
    · exact ih (j + 1) (by simp_all; omega) (by omega)

theorem full_table : firstFree 4096 ((List.range' 0 4096).map (fun x => (x, aCell))) = none := by
  simp only [firstFree, List.find?_eq_none, List.mem_range]
  intro x hx
  simp [tget_range 4096 x 0 (by omega) (by omega)]

/-- A packet of `ty` waiting in S_0. -/
def gave (ty : Nat) (payload : List Byte) (s : State) : State := { s with harbour.s0.packets := [(0, 0, { type := ty, payload := payload })] }

/-- Bytes with the fields given as (offset, bytes, value), zero elsewhere. -/
def bytes (n : Nat) (fs : List (Nat × Nat × Nat)) : List Byte :=
  fs.foldl (fun p f => p.take f.1 ++ le f.2.1 f.2.2 ++ p.drop (f.1 + f.2.1)) (List.replicate n 0)

/-- A sound identification record with a user area of 64 bytes at 64. -/
def anId : List Byte := let b := bytes 62 [(0, 2, 1), (42, 2, 64), (44, 2, 64)]; b ++ le 2 (crc16 b)

/-- What NAV keeps of a sound node of eight channels. -/
def aView : NodeView := { sound := true, slotted := true, channels := 8, features := 7, strobe := 255, failsafe := true }

/-- A node with a module on each of its channels. -/
def aNode : NodeDev := { pos := some 0, st := 0, latchAt := some 5, commitAt := some 6, slot := some [], boundary := some 0, mods := List.replicate 8 (some anId)
                         chans := List.replicate 8 { mode := 1, next := some (1, 9) } }

/-- A management frame of a host's command. -/
def aManage : Manage := { pos := 0, mem := 0, op := 0, addr := 0, len := 1, why := .host, cmd := some (0, 0, 0x0706, 7) }

/-- A loop in operation with that node. -/
def aLoop : Loop := { st := 2, count := 1, nodes := [aView], phys := [aNode] }

/-- The device with that loop. -/
def looped (l : Loop) : State := { ready with knani.loops := [l] }

/-- A key of a type that every use, master and world may take. -/
def aKey (ty : Nat) : KeySlot := { type := ty, uses := 0x7FF, masters := 0x3F, world := 3, lc := 3, flags := 0, gen := 0, key := List.replicate (keyLen ty) 0 }

/-- The device in FIELD, with a key of type 2 in slot 0 and one of type 5 in slot 1. -/
def field : State :=
  { ready with votes.lifeCycle := { c0 := 2, c1 := 2, c2 := 2 }, sec.keys := [(0, aKey 2), (1, aKey 5)], fleet.configured := true, fleet.svcKey := 0 }

/-- A rover's radio in a state. -/
def air (st : RadSt) : State := { field with fleet.st := st }

/-- A base that sends beacons, with one rover of address 1. -/
def airBase : State :=
  { field with votes.role := { c0 := 1, c1 := 1, c2 := 1 }, fleet.st := .beaconing, cor.enabled := true
               fleet.rovers := [(1, { uid := List.replicate 16 0, startSf := 0, lastSf := 0 })] }

/-- An entry of the corridor table. -/
def anEntry (st : CorSt) : CorEntry := { st := st, t0 := 0, t1 := 10, e0 := 0, n0 := 0, e1 := 1, n1 := 1, hw := 1 }

theorem upto4 (P : Nat → Prop) (h1 : P 1) (h2 : P 2) (h3 : P 3) (h4 : P 4) : ∀ k, 1 ≤ k → k ≤ 4 → P k := by
  intro k a b
  have h : k = 1 ∨ k = 2 ∨ k = 3 ∨ k = 4 := by omega
  rcases h with rfl | rfl | rfl | rfl <;> assumption

/-- The state after a message's window check, where nothing sends it on. -/
def flooded (n : Nat) (m : VxMsg) (s : State) : State :=
  let s1 := (winCheck m.origin m.type m.seq m.ackReq s).2
  { s1 with net := { s1.net with ready := s1.net.ready.filter (fun r => !(r.1 == n && r.2.drop 2 == (vxBytes m).drop 2)) } }

/-- A message of another device at its last hop that wants no answer and is new is taken and goes no further. -/
theorem flood_last (n : Nat) (m : VxMsg) (fwd : List Nat) (s : State) (hu : (vxOf s n).st = .up) (ho : (m.origin == ownOrigin) = false) (ha : m.ackReq = false)
    (hh : 255 ≤ m.hops) (hw : (winCheck m.origin m.type m.seq m.ackReq s).1 = true) : vxFlood n m fwd s = (true, flooded n m s) := by
  unfold vxFlood flooded
  simp only [hu, ho, ha] at *
  simp [hw, hh]

/-- The device with VEXLINK port 0 up, in a group, as the master (1) or a follower (2) or alone (0). -/
def linked (g : Nat) : State := { ready with net.group := g, net.vx := [{ st := .up }, {}, {}], time.lastBoundary := some 0 }

/-- A message of another device, at its last hop. -/
def aMsg (ty : Nat) (body : List Byte) : VxMsg := { type := ty, origin := ownOrigin + 1, hops := 255, body := body }

theorem other_origin : ((ownOrigin + 1) == ownOrigin) = false := by simp

theorem flood_aMsg (ty g : Nat) (body : List Byte) (fwd : List Nat) : vxFlood 0 (aMsg ty body) fwd (linked g) = (true, flooded 0 (aMsg ty body) (linked g)) :=
  flood_last 0 _ fwd _ rfl other_origin rfl (Nat.le_refl 255) rfl

theorem flood_new (n : Nat) (m : VxMsg) (fwd : List Nat) (s : State) (hu : (vxOf s n).st = .up) (ho : (m.origin == ownOrigin) = false)
    (hw : (winCheck m.origin m.type m.seq m.ackReq
      (if m.ackReq then vxSend n { type := 6, origin := ownOrigin, body := le 4 m.origin ++ le 1 m.type ++ [0] ++ le 2 m.seq } s else s)).1 = true) :
    (vxFlood n m fwd s).1 = true := by
  unfold vxFlood
  simp only [hu, ho, bne_self_eq_false, Bool.false_eq_true, if_false, hw, Bool.not_true]
  rw [apply_ite Prod.fst]
  exact ite_self _

theorem ownOrigin_lt : ownOrigin < 2 ^ 32 := Nat.mod_lt _ (by decide)

theorem next_other : (((ownOrigin + 1) % 2 ^ 32) == ownOrigin) = false := by
  have h := ownOrigin_lt
  rw [beq_eq_false_iff_ne]
  omega

theorem natOf_mod (v : Nat) : natOf (le 4 (v % 2 ^ 32)) = v % 2 ^ 32 := by
  rw [natOf_le]
  exact Nat.mod_mod _ _

/-- The device in TAMPER SAFE after a cold start, in a life-cycle, with a challenge issued. -/
def locked (lc : Nat) : State :=
  { ready with votes.lifeCycle := { c0 := lc, c1 := lc, c2 := lc }, power.tamperSafe := true, sec.cold := true, sec.challenge := some (List.replicate 48 0) }

theorem length_ok (k : Safety.CmdSpec) (s : State) (h1 : ¬ areaOf k.cmd < k.cmd.len.toNat) (h2 : ¬ k.cmd.len.toNat < k.least) (h3 : ¬ areaOf k.cmd < k.most)
    (h4 : (heldIx s k.cmd.mbx k.cmd.slot).bind (fun ix => (mbxOf s k.cmd.mbx).held[ix]?) = none)
    (h5 : ¬ (mbxOf s k.cmd.mbx).slots < k.cmd.slot + 1 + extraOf k.cmd) : ¬ Safety.lengthFails k s := by
  unfold Safety.lengthFails
  rw [h4]
  simp only []
  omega

/-- A frame as its sender sends it: the tag under the key that the receiver's state names, and the CRC over it. -/
def sealed (ty : Nat) (s : State) (f : RadFrame) : RadFrame :=
  let g := { f with tag := frameTag ty ((radKey s (keySlotOf s.fleet ty)).getD []) s f }
  { g with crc := frameCrc ty g }

/-- A sealed frame in a slot of its type is accepted. -/
theorem sealed_rx (ty : Nat) (f : RadFrame) (s : State) (hk : (radKey (runTo f.capture s) (keySlotOf (runTo f.capture s).fleet ty)).isSome = true)
    (ho : ((runTo f.capture s).fleet.st == .off) = false) (ht : typeSlotOk ty f.slot = true) :
    rxFrame ty (sealed ty (runTo f.capture s) f) s = (true, runTo f.capture s) := by
  obtain ⟨key, hkey⟩ := Option.isSome_iff_exists.mp hk
  have h : frameSound ty (runTo f.capture s) (sealed ty (runTo f.capture s) f) = true := by
    simp only [frameSound, hkey, sealed, Option.getD_some, Bool.and_eq_true, beq_iff_eq]
    exact ⟨rfl, rfl⟩
  unfold rxFrame
  have hc : (sealed ty (runTo f.capture s) f).capture = f.capture := rfl
  have hs : (sealed ty (runTo f.capture s) f).slot = f.slot := rfl
  simp only [hc, hs, ho, h, ht, Bool.not_true, Bool.false_eq_true, if_false]

/-- A sealed broadcast of the base that is new under the rover's window is accepted. -/
theorem sealed_bcast (ty : Nat) (f : RadFrame) (s : State) (hk : (radKey (runTo f.capture s) (keySlotOf (runTo f.capture s).fleet ty)).isSome = true)
    (ho : ((runTo f.capture s).fleet.st == .off) = false) (ht : typeSlotOk ty f.slot = true) (hr : roleOf (runTo f.capture s) = 0) (hs : f.src = 0)
    (hw : (bcastWin f.seq (runTo f.capture s)).1 = true) :
    rxBroadcast ty (sealed ty (runTo f.capture s) f) s = (true, (bcastWin f.seq (runTo f.capture s)).2) := by
  unfold rxBroadcast
  have h1 : (sealed ty (runTo f.capture s) f).src = f.src := rfl
  have h2 : (sealed ty (runTo f.capture s) f).seq = f.seq := rfl
  simp only [sealed_rx ty f s hk ho ht, hr, h1, h2, hs]
  exact Prod.ext hw rfl

/-- An RTCM frame of a payload shorter than 256 bytes. -/
def aRtcm (p : List Byte) : List Byte := let b := [0xD3, 0, BitVec.ofNat 8 p.length] ++ p; b ++ (le 3 (crc24q b)).reverse

theorem test_witness_StepRunsFrontCommand :
    (∃ (s : State), s.pending = [] ∧ (s.power.st = .off ∨ s.power.st = .slack)) ∧
    (∃ (s : State), s.pending = [] ∧ (s.power.st = .spring ∨ s.power.st = .neap ∨ s.power.st = .safe)) := by
  refine ⟨?_, ?_⟩
  · exact ⟨State.reset, by decide +kernel⟩
  · exact ⟨ready, by decide +kernel⟩

theorem test_witness_QueueFirstInFirstOut :
    ∃ (i : Instr) (r : List Instr) (s : State) (t : State), step { s with pending := i :: r } = .next t :=
  ⟨.tideBoundary, [.lifeCountCheck], ready, _, rfl⟩

theorem test_witness_OtpOnlyGrows :
    ∃ (s : State) (t : State), s.otp.tamperEpoch ≤ 64 ∧ step s = .next t :=
  ⟨({ field with otp.tamperEpoch := 64, pending := [.tamperAlarm ⟨0, 0⟩] } : State), _, by decide, rfl⟩

theorem test_witness_MemoryStaysCanonical :
    ∃ (s : State) (t : State), memorySound s ∧ step s = .next t :=
  ⟨({ ready with mem := [(5, 7)], pending := [.tideBoundary] } : State), _, by unfold memorySound; decide +kernel, rfl⟩

theorem test_witness_ExhaustedTamperEpochScraps :
    (∃ (b : Boot) (s : State) (t : State), s.otp.tamperEpoch ≤ 64 ∧ exec (.startUp b) s = .next t) ∧
    (∃ (n : Nat) (mv : Nat) (s : State), sensorLive n s = true ∧ coreQuiet n mv s = false ∧ 1 ≤ lifeCycle s ∧ lifeCycle s ≤ 3 ∧ s.otp.tamperEpoch = 64) ∧
    (∃ (b : Boot) (n : Nat) (s : State), s.power.st = .off ∧ s.power.rails = .released ∧ lcPending s = none ∧ b.refIn = true ∧ b.tamper = some n ∧ 1 ≤ s.otp.lifeCycle ∧ s.otp.lifeCycle ≤ 3 ∧ s.otp.tamperEpoch = 64) := by
  refine ⟨?_, ?_, ?_⟩
  · exact ⟨{}, State.reset, _, by decide, rfl⟩
  · exact ⟨4, 0, ({ field with otp.tamperEpoch := 64 } : State), by decide +kernel⟩
  · exact ⟨({ tamper := some 4 } : Boot), 4, ({ State.reset with otp.tamperEpoch := 64, otp.lifeCycle := 2 } : State), by decide +kernel⟩

theorem test_witness_GlobalRegisterLayouts :
    (∃ (s : State), s.harbour.ready = false) ∧
    (∃ (s : State), s.harbour.ready = true) ∧
    (∃ (s : State) (x : Nat) (y : Nat), s.harbour.ready = true ∧ x ≤ 4 ∧ (s.votes.lifeCycle.c0, s.votes.lifeCycle.c1, s.votes.lifeCycle.c2) ∈ [(x, x, x), (y, x, x), (x, y, x), (x, x, y)]) ∧
    (∃ (s : State), s.harbour.ready = false) ∧
    (∃ (s : State), s.harbour.ready = true) ∧
    (∃ (s : State) (x : Nat) (y : Nat), x ≤ 1 ∧ (s.votes.role.c0, s.votes.role.c1, s.votes.role.c2) ∈ [(x, x, x), (y, x, x), (x, y, x), (x, x, y)]) := by
  refine ⟨?_, ?_, ?_, ?_, ?_, ?_⟩
  · exact ⟨State.reset, by decide +kernel⟩
  · exact ⟨ready, by decide +kernel⟩
  · exact ⟨({ ready with votes.lifeCycle := { c0 := 2, c1 := 3, c2 := 2 } } : State), 2, 3, by decide +kernel⟩
  · exact ⟨State.reset, by decide +kernel⟩
  · exact ⟨ready, by decide +kernel⟩
  · exact ⟨({ ready with votes.role := { c0 := 1, c1 := 1, c2 := 0 } } : State), 1, 0, by decide +kernel⟩

theorem test_witness_CompletionLayout :
    (∃ (m : Nat) (k : Nat) (op : Nat) (tag : Nat) (st : Nat) (r : Nat) (res : List Byte) (s : State), heldIx s m k = none ∧ s.harbour.quadSpi = true ∧ memorySound s ∧ m < s.harbour.mbxs.length ∧ k < (mbxOf s m).slots ∧ (mbxOf s m).slots ≤ 64 ∧ 64 * k + 8 + res.length ≤ 64 * (mbxOf s m).slots ∧ ((mbxOf s m).released + 1) % 65536 = r) ∧
    (∃ (m : Nat) (k : Nat) (op : Nat) (tag : Nat) (st : Nat) (r : Nat) (res : List Byte) (s : State), heldIx s m k = none ∧ s.harbour.quadSpi = false ∧ m < s.harbour.mbxs.length ∧ ((mbxOf s m).released + 1) % 65536 = r) := by
  refine ⟨?_, ?_⟩
  · exact ⟨0, 0, 0, 0, 0, 1, [1, 2], ({ ready with harbour.quadSpi := true, harbour.mbxs := [{ cfg := 0x80000006, slots := 16 }] } : State), by unfold memorySound; decide +kernel⟩
  · exact ⟨0, 0, 0, 0, 0, 1, [], ({ ready with harbour.quadSpi := false, harbour.mbxs := [{ cfg := 0x80000006, slots := 16 }] } : State), by decide +kernel⟩

theorem test_witness_SharedFrames :
    ∃ (i : Instr) (s : State) (t : State) (a : Nat), commandOf i = none ∧ mayStore i = false ∧ exec i s = .next t :=
  ⟨.lifeCountCheck, ready, _, 0, rfl, rfl, rfl⟩

theorem test_witness_WindowCases :
    (∃ (seq : Nat) (w : Win), 0 < diffN 16 seq w.top) ∧
    (∃ (seq : Nat) (k : Nat) (w : Win), 1 ≤ k ∧ k ≤ 32 ∧ diffN 16 seq w.top = -(k : Int) ∧ bit w.map (k - 1) = true) ∧
    (∃ (seq : Nat) (k : Nat) (w : Win), 1 ≤ k ∧ k ≤ 32 ∧ w.map < 2 ^ 32 ∧ diffN 16 seq w.top = -(k : Int) ∧ bit w.map (k - 1) = false) ∧
    (∃ (seq : Nat) (w : Win), diffN 16 seq w.top < -32) ∧
    (∃ (seq : Nat) (k : Nat) (j : Nat) (w : Win), 1 ≤ k ∧ k ≤ 31 ∧ w.map < 2 ^ 32 ∧ diffN 16 seq w.top = (k : Int) ∧ j < 32) := by
  refine ⟨?_, ?_, ?_, ?_, ?_⟩
  · exact ⟨1, { origin := 0, type := 0, top := 0 }, by decide +kernel⟩
  · exact ⟨9, 1, { origin := 0, type := 0, top := 10, map := 1 }, by decide +kernel⟩
  · exact ⟨9, 1, { origin := 0, type := 0, top := 10 }, by decide +kernel⟩
  · exact ⟨0, { origin := 0, type := 0, top := 40 }, by decide +kernel⟩
  · exact ⟨11, 1, 0, { origin := 0, type := 0, top := 10 }, by decide +kernel⟩

theorem test_witness_CommandChecksInOrder :
    (∃ (i : Instr) (k : CmdSpec) (s : State), commandSpec i = some k ∧ s.harbour.ready = true ∧ fenceWaits k.cmd s = false ∧ s.power.restartNow = none ∧ s.power.entering ≠ some .slack ∧ lengthFails k s) ∧
    (∃ (i : Instr) (k : CmdSpec) (s : State), commandSpec i = some k ∧ s.harbour.ready = true ∧ fenceWaits k.cmd s = false ∧ s.power.restartNow = none ∧ s.power.entering ≠ some .slack ∧ ¬ lengthFails k s ∧ reservedFails k) ∧
    (∃ (i : Instr) (k : CmdSpec) (s : State), commandSpec i = some k ∧ s.harbour.ready = true ∧ fenceWaits k.cmd s = false ∧ s.power.restartNow = none ∧ s.power.entering ≠ some .slack ∧ ¬ lengthFails k s ∧ ¬ reservedFails k ∧ worldFails k s) ∧
    (∃ (i : Instr) (k : CmdSpec) (s : State), commandSpec i = some k ∧ s.harbour.ready = true ∧ fenceWaits k.cmd s = false ∧ s.power.restartNow = none ∧ s.power.entering ≠ some .slack ∧ ¬ lengthFails k s ∧ ¬ reservedFails k ∧ ¬ worldFails k s ∧ s.power.tamperSafe = true ∧ servedTamper k.opcode = false) ∧
    (∃ (i : Instr) (k : CmdSpec) (s : State), commandSpec i = some k ∧ s.harbour.ready = true ∧ fenceWaits k.cmd s = false ∧ s.power.restartNow = none ∧ s.power.entering ≠ some .slack ∧ ¬ lengthFails k s ∧ ¬ reservedFails k ∧ ¬ worldFails k s ∧ s.power.tamperSafe = false ∧ s.power.fatal.isSome = true ∧ servedFatal k.opcode = false) ∧
    (∃ i k s r, commandSpec i = some k ∧ s.harbour.ready = true ∧ fenceWaits k.cmd s = false ∧ s.power.restartNow = none ∧ s.power.entering ≠ some .slack ∧ ¬ lengthFails k s ∧ ¬ reservedFails k ∧ ¬ worldFails k s ∧ s.power.tamperSafe = false ∧ s.power.fatal = none ∧ k.role = some r ∧ roleOf s ≠ r) ∧
    (∃ (i : Instr) (k : CmdSpec) (s : State), commandSpec i = some k ∧ s.harbour.ready = true ∧ fenceWaits k.cmd s = false ∧ s.power.restartNow = none ∧ s.power.entering ≠ some .slack ∧ ¬ lengthFails k s ∧ ¬ reservedFails k ∧ ¬ worldFails k s ∧ s.power.tamperSafe = false ∧ s.power.fatal = none ∧ (∀ r, k.role = some r → roleOf s = r) ∧ (∃ e ∈ reservedRuns k.opcode, zeros (prmOf k.cmd) e.1 e.2 = false)) := by
  refine ⟨?_, ?_, ?_, ?_, ?_, ?_, ?_⟩
  · exact ⟨.timeSet (cmd 0 0 []), ⟨cmd 0 0 [], 0x0205, 16, 0, none⟩, ready, by and_intros <;> first | exact length_ok _ _ (by decide +kernel) (by decide +kernel) (by decide +kernel) (by decide +kernel) (by decide +kernel) | (unfold reservedFails; decide +kernel) | (unfold worldFails; decide +kernel) | with_reducible rfl | decide +kernel | (unfold lengthFails; exact Or.inr (Or.inl (by decide +kernel))) | rfl⟩
  · exact ⟨.timeSet ({ cmd 16 16 [] with flags := 8 }), ⟨{ cmd 16 16 [] with flags := 8 }, 0x0205, 16, 0, none⟩, ready, by and_intros <;> first | exact length_ok _ _ (by decide +kernel) (by decide +kernel) (by decide +kernel) (by decide +kernel) (by decide +kernel) | (unfold reservedFails; decide +kernel) | (unfold worldFails; decide +kernel) | with_reducible rfl | decide +kernel | (unfold lengthFails; exact Or.inr (Or.inl (by decide +kernel))) | rfl⟩
  · exact ⟨.secUnlockAck (cmd 32 32 []), ⟨cmd 32 32 [], 0x0E13, 32, 0, none⟩, ready, by and_intros <;> first | exact length_ok _ _ (by decide +kernel) (by decide +kernel) (by decide +kernel) (by decide +kernel) (by decide +kernel) | (unfold reservedFails; decide +kernel) | (unfold worldFails; decide +kernel) | with_reducible rfl | decide +kernel | (unfold lengthFails; exact Or.inr (Or.inl (by decide +kernel))) | rfl⟩
  · exact ⟨.timeSet (cmd 16 16 []), ⟨cmd 16 16 [], 0x0205, 16, 0, none⟩, ({ ready with power.tamperSafe := true } : State), by and_intros <;> first | exact length_ok _ _ (by decide +kernel) (by decide +kernel) (by decide +kernel) (by decide +kernel) (by decide +kernel) | (unfold reservedFails; decide +kernel) | (unfold worldFails; decide +kernel) | with_reducible rfl | decide +kernel | (unfold lengthFails; exact Or.inr (Or.inl (by decide +kernel))) | rfl⟩
  · exact ⟨.timeSet (cmd 16 16 []), ⟨cmd 16 16 [], 0x0205, 16, 0, none⟩, ({ ready with power.fatal := some 1 } : State), by and_intros <;> first | exact length_ok _ _ (by decide +kernel) (by decide +kernel) (by decide +kernel) (by decide +kernel) (by decide +kernel) | (unfold reservedFails; decide +kernel) | (unfold worldFails; decide +kernel) | with_reducible rfl | decide +kernel | (unfold lengthFails; exact Or.inr (Or.inl (by decide +kernel))) | rfl⟩
  · exact ⟨.poseAt (cmd 24 29 []), ⟨cmd 24 29 [], 0x0409, 24, 29, some 0⟩, base, 0, by and_intros <;> first | exact length_ok _ _ (by decide +kernel) (by decide +kernel) (by decide +kernel) (by decide +kernel) (by decide +kernel) | (unfold reservedFails; decide +kernel) | (unfold worldFails; decide +kernel) | with_reducible rfl | decide +kernel | (unfold lengthFails; exact Or.inr (Or.inl (by decide +kernel))) | rfl⟩
  · exact ⟨.timeDomainConfig (cmd 36 64 [(2, 1, 1)]), ⟨cmd 36 64 [(2, 1, 1)], 0x0202, 36, 0, none⟩, ready, by and_intros <;> first | exact length_ok _ _ (by decide +kernel) (by decide +kernel) (by decide +kernel) (by decide +kernel) (by decide +kernel) | (unfold reservedFails; decide +kernel) | (unfold worldFails; decide +kernel) | with_reducible rfl | decide +kernel | (unfold lengthFails; exact Or.inr (Or.inl (by decide +kernel))) | rfl⟩

theorem test_witness_TamperSafeServes :
    (∃ (i : Instr) (k : CmdSpec) (s : State), commandSpec i = some k ∧ s.power.tamperSafe = true ∧ ¬ k.opcode ∈ [0x0101, 0x0E01, 0x0E14, 0x0E11, 0x0E12, 0x0E13, 0x0E10, 0x1101, 0x1104] ∧ s.harbour.ready = true ∧ fenceWaits k.cmd s = false ∧ s.power.restartNow = none ∧ s.power.entering ≠ some .slack ∧ ¬ lengthFails k s ∧ ¬ reservedFails k ∧ ¬ worldFails k s) ∧
    (∃ (i : Instr) (k : CmdSpec) (s : State), commandSpec i = some k ∧ s.power.tamperSafe = true ∧ k.opcode ∈ [0x0101, 0x0E01, 0x0E14, 0x0E11, 0x0E12, 0x0E13, 0x0E10, 0x1101, 0x1104] ∧ s.power.fatal = none ∧ ¬ lengthFails k s ∧ ¬ reservedFails k ∧ ¬ worldFails k s) ∧
    (∃ (c : Cmd) (s : State), s.power.tamperSafe = true ∧ s.power.restartNow = none ∧ admitted 0x0E10 (lifecycleMin c) 0 none c s ∧ uAt (prmOf c) 0 1 ≠ 4) := by
  refine ⟨?_, ?_, ?_⟩
  · exact ⟨.timeSet (cmd 16 16 []), ⟨cmd 16 16 [], 0x0205, 16, 0, none⟩, ({ ready with power.tamperSafe := true } : State), by and_intros <;> first | exact length_ok _ _ (by decide +kernel) (by decide +kernel) (by decide +kernel) (by decide +kernel) (by decide +kernel) | (unfold reservedFails; decide +kernel) | (unfold worldFails; decide +kernel) | with_reducible rfl | decide +kernel | (unfold lengthFails; exact Or.inr (Or.inl (by decide +kernel))) | rfl⟩
  · exact ⟨.secStatus (cmd 0 0 []), ⟨cmd 0 0 [], 0x0E01, 0, 23, none⟩, ({ ready with power.tamperSafe := true } : State), by and_intros <;> first | exact length_ok _ _ (by decide +kernel) (by decide +kernel) (by decide +kernel) (by decide +kernel) (by decide +kernel) | (unfold reservedFails; decide +kernel) | (unfold worldFails; decide +kernel) | with_reducible rfl | decide +kernel | (unfold lengthFails; exact Or.inr (Or.inl (by decide +kernel))) | rfl⟩
  · exact ⟨cmd 8 8 [], ({ field with power.tamperSafe := true } : State), by unfold admitted; decide +kernel⟩

theorem test_witness_DeviceTimeNanoseconds :
    (∃ (c : Cmd) (s : State), admitted 0x0204 28 0 none c s ∧ (10 ^ 9 ≤ uAt (prmOf c) 6 4 ∨ 10 ^ 9 ≤ uAt (prmOf c) 18 4)) ∧
    (∃ (c : Cmd) (s : State), admitted 0x0205 16 0 none c s ∧ 10 ^ 9 ≤ uAt (prmOf c) 2 4) ∧
    (∃ (c : Cmd) (s : State), admitted 0x0209 12 0 none c s ∧ 10 ^ 9 ≤ uAt (prmOf c) 2 4) ∧
    (∃ (c : Cmd) (s : State), admitted 0x020D 32 0 none c s ∧ 10 ^ 9 ≤ uAt (prmOf c) 6 4) ∧
    (∃ (c : Cmd) (s : State), admitted 0x020F 16 0 none c s ∧ 10 ^ 9 ≤ uAt (prmOf c) 2 4) ∧
    (∃ (c : Cmd) (iod : Nat) (s : State), admitted 0x0304 1 0 none c s ∧ (uAt (prmOf c) 0 1 = 2 ∨ uAt (prmOf c) 0 1 = 3) ∧ 10 ^ 9 ≤ uAt (prmOf c) 7 4) ∧
    (∃ (c : Cmd) (s : State), admitted 0x0409 24 29 (some 0) c s ∧ 10 ^ 9 ≤ uAt (prmOf c) 2 4) ∧
    (∃ (c : Cmd) (s : State), admitted 0x070D 24 0 (some 0) c s ∧ 10 ^ 9 ≤ uAt (prmOf c) 6 4) ∧
    (∃ (c : Cmd) (s : State), admitted 0x0804 20 0 none c s ∧ 10 ^ 9 ≤ uAt (prmOf c) 10 4) ∧
    (∃ (c : Cmd) (s : State), admitted 0x0806 20 0 none c s ∧ 10 ^ 9 ≤ uAt (prmOf c) 10 4) ∧
    (∃ (c : Cmd) (s : State), admitted 0x0D06 16 0 none c s ∧ 10 ^ 9 ≤ uAt (prmOf c) 6 4) := by
  refine ⟨?_, ?_, ?_, ?_, ?_, ?_, ?_, ?_, ?_, ?_, ?_⟩
  · exact ⟨cmd 28 28 [(6, 4, 1000000000)], ready, by unfold admitted; decide +kernel⟩
  · exact ⟨cmd 16 16 [(2, 4, 1000000000)], ready, by unfold admitted; decide +kernel⟩
  · exact ⟨cmd 12 12 [(2, 4, 1000000000)], ready, by unfold admitted; decide +kernel⟩
  · exact ⟨cmd 32 32 [(6, 4, 1000000000)], ready, by unfold admitted; decide +kernel⟩
  · exact ⟨cmd 16 16 [(2, 4, 1000000000)], ready, by unfold admitted; decide +kernel⟩
  · exact ⟨cmd 21 21 [(0, 1, 2), (7, 4, 1000000000)], 0, ready, by unfold admitted; decide +kernel⟩
  · exact ⟨cmd 24 29 [(2, 4, 1000000000)], ready, by unfold admitted; decide +kernel⟩
  · exact ⟨cmd 24 24 [(6, 4, 1000000000)], ready, by unfold admitted; decide +kernel⟩
  · exact ⟨cmd 20 20 [(10, 4, 1000000000)], ready, by unfold admitted; decide +kernel⟩
  · exact ⟨cmd 20 20 [(10, 4, 1000000000)], ready, by unfold admitted; decide +kernel⟩
  · exact ⟨cmd 16 16 [(6, 4, 1000000000)], ready, by unfold admitted; decide +kernel⟩

theorem test_witness_ShortTimeRule :
    (∃ (seconds : Nat) (nanoseconds : Nat) (fraction : Nat), nanoseconds < 10 ^ 9 ∧ fraction < 2 ^ 16) ∧
    (∃ (p : Nat), 0 < p ∧ p < ns1 * 1073741824) := by
  refine ⟨?_, ?_⟩
  · exact ⟨0, 0, 0, by decide +kernel⟩
  · exact ⟨1, by decide +kernel⟩

theorem test_witness_StreamReadRule :
    (∃ (s : State), s.harbour.s1.packets = []) ∧
    (∃ (b : Nat) (t : Nat) (p : Packet) (r : List (Nat × Nat × Packet)) (s : State), s.harbour.s1.packets = (b, t, p) :: r ∧ s.harbour.s1.readWords = 0 ∧ p.payload.length < 2 ^ 31) ∧
    (∃ (b : Nat) (t : Nat) (k : Nat) (p : Packet) (r : List (Nat × Nat × Packet)) (s : State), s.harbour.s1.packets = (b, t, p) :: r ∧ s.harbour.s1.readWords = k ∧ 1 ≤ k ∧ 4 * k < pktSize p.payload) ∧
    (∃ (s : State), s.harbour.ready = true ∧ s.harbour.pairPending = none ∧ s.harbour.s1.readWords = 0) ∧
    (∃ (q : Nat × Nat × Packet) (r : List (Nat × Nat × Packet)) (s : State), s.harbour.ready = true ∧ s.harbour.pairPending = none ∧ s.harbour.s1.packets = q :: r ∧ s.harbour.s1.readWords ≠ 0) := by
  refine ⟨?_, ?_, ?_, ?_, ?_⟩
  · exact ⟨ready, by decide +kernel⟩
  · exact ⟨0, 0, { type := 1, payload := [1, 2] }, [], ({ ready with harbour.s1.packets := [(0, 0, { type := 1, payload := [1, 2] })] } : State), by decide +kernel⟩
  · exact ⟨0, 0, 1, { type := 1, payload := [1, 2] }, [], ({ ready with harbour.s1.packets := [(0, 0, { type := 1, payload := [1, 2] })], harbour.s1.readWords := 1 } : State), by decide +kernel⟩
  · exact ⟨ready, by decide +kernel⟩
  · exact ⟨(0, 0, { type := 1, payload := [1, 2] }), [], ({ ready with harbour.s1.packets := [(0, 0, { type := 1, payload := [1, 2] })], harbour.s1.readWords := 1 } : State), by decide +kernel⟩

theorem test_witness_RepeatRule :
    (∃ (now : Nat) (e : Ev) (x : EvRec) (s : State), s.recorder.loaded = true ∧ newestOf e.code s.recorder.ring = some x ∧ x.src = e.src ∧ x.p0 = e.p0 ∧ x.p1 = e.p1 ∧ x.p2 = e.p2 ∧ 0 < diffN 16 x.seq s.harbour.evtAck ∧ x.rep < 255) ∧
    (∃ (now : Nat) (e : Ev) (s : State), s.recorder.loaded = true ∧ (∀ x, newestOf e.code s.recorder.ring = some x → x.src = e.src → x.p0 = e.p0 → x.p1 = e.p1 → x.p2 = e.p2 → 0 < diffN 16 x.seq s.harbour.evtAck → 255 ≤ x.rep)) ∧
    (∃ (now : Nat) (e : Ev) (r : RecorderSt) (r2 : RecorderSt) (x : EvRec), createRec now e r = (r2, some x)) := by
  refine ⟨?_, ?_, ?_⟩
  · exact ⟨0, { code := 0x0201, sev := 2 }, { code := 0x0201, sev := 2, src := 1, first := 0, p0 := 0, p1 := 0, p2 := 0, seq := 1 }, ({ ready with recorder.ring := [{ code := 0x0201, sev := 2, src := 1, first := 0, p0 := 0, p1 := 0, p2 := 0, seq := 1 }] } : State), by decide +kernel⟩
  · exact ⟨0, { code := 0x0201, sev := 2 }, ready, by refine ⟨by decide +kernel, fun x h => ?_⟩; exact absurd (show none = some x from h) (by simp)⟩
  · exact ⟨0, { code := 0x0201, sev := 2 }, {}, (createRec 0 { code := 0x0201, sev := 2 } {}).1, { code := 0x0201, sev := 2, src := 1, first := 0, p0 := 0, p1 := 0, p2 := 0, seq := 1 }, by decide +kernel⟩

theorem test_witness_RejectedMeasurements :
    (∃ (k : Nat) (t : Nat) (theta : Int) (u : Option Nat) (s : State) (d : Domain), k ≤ 1 ∧ domOf s.time k = d ∧ s.time.refLost = false ∧ d.st = .locked ∧ 65536 * d.gateNs < theta.natAbs ∧ d.rejects < 2) ∧
    (∃ (k : Nat) (t : Nat) (theta : Int) (u : Option Nat) (s : State) (d : Domain), k ≤ 1 ∧ domOf s.time k = d ∧ s.time.refLost = false ∧ d.st = .locked ∧ 65536 * d.gateNs < theta.natAbs ∧ 2 ≤ d.rejects) ∧
    (∃ (k : Nat) (t : Nat) (theta : Int) (u : Option Nat) (s : State) (d : Domain), k ≤ 1 ∧ domOf s.time k = d ∧ s.time.refLost = false ∧ d.st = .locked ∧ theta.natAbs ≤ 65536 * d.gateNs) := by
  refine ⟨?_, ?_, ?_⟩
  · exact ⟨0, 0, 1000000000000, none, ({ ready with time.a := { st := .locked, rejects := 0 } } : State), { st := .locked, rejects := 0 }, by decide +kernel⟩
  · exact ⟨0, 0, 1000000000000, none, ({ ready with time.a := { st := .locked, rejects := 2 } } : State), { st := .locked, rejects := 2 }, by decide +kernel⟩
  · exact ⟨0, 0, 0, none, ({ ready with time.a := { st := .locked, rejects := 2 } } : State), { st := .locked, rejects := 2 }, by decide +kernel⟩

theorem test_witness_TimeSourceEvents :
    (∃ (us : Nat) (s : State), s.time.refLost = true) ∧
    (∃ (pin : Nat) (falling : Bool) (frac : Nat) (s : State) (p : PpsIn), s.time.ppsIn[pin]? = some p ∧ p.edge = b1 falling ∧ p.lastAcc = none ∧ domFrom s (2 + pin) = none) ∧
    (∃ (dom : Nat) (s : State), dom ≤ 1 ∧ ((domOf s.time dom).st = .acquire ∨ (domOf s.time dom).st = .locked)) ∧
    (∃ (s : State) (c : Nat), s.time.a.lockedFrom = some c ∧ s.time.auto = true ∧ s.time.followB = true ∧ s.time.a.st = .locked) ∧
    (∃ (s : State), s.time.timeUnset = false) ∧
    (∃ (pin : Nat) (s : State) (p : PpsIn), s.time.ppsIn[pin]? = some p ∧ p.missing = false) := by
  refine ⟨?_, ?_, ?_, ?_, ?_, ?_⟩
  · exact ⟨0, ({ ready with time.refLost := true } : State), by decide +kernel⟩
  · exact ⟨0, false, 0, ready, ((ready).time.ppsIn[(0)]?).get (by decide +kernel), by decide +kernel⟩
  · exact ⟨0, ({ ready with time.a.st := .locked } : State), by decide +kernel⟩
  · exact ⟨({ ready with time.a.st := .locked, time.a.lockedFrom := some 0, time.auto := true, time.followB := true } : State), ((({ ready with time.a.st := .locked, time.a.lockedFrom := some 0, time.auto := true, time.followB := true } : State)).time.a.lockedFrom).get (by decide +kernel), by decide +kernel⟩
  · exact ⟨({ ready with time.timeUnset := false } : State), by decide +kernel⟩
  · exact ⟨0, ready, ((ready).time.ppsIn[(0)]?).get (by decide +kernel), by decide +kernel⟩

theorem test_witness_PulseCaptureCompareEvents :
    (∃ (pin : Nat) (s : State) (p : PpsOut), s.time.ppsOut[pin]? = some p ∧ p.armed = none ∧ p.quiet = false) ∧
    (∃ (pin : Nat) (s : State) (p : PpsOut) (sec : Nat) (w : Nat), s.time.ppsOut[pin]? = some p ∧ p.armed = some (sec, w) ∧ p.quiet = false) ∧
    (∃ (pin : Nat) (s : State) (p : PpsOut) (e : Nat), s.time.ppsOut[pin]? = some p ∧ p.offAt = some e) ∧
    (∃ (input : Nat) (k : Nat) (falling : Bool) (frac : Nat) (s : State) (q : CapUnit), 4 ≤ k ∧ k < 16 ∧ s.time.caps[k]? = some q ∧ q.input = input ∧ (q.edge = 2 ∨ q.edge = b1 falling) ∧ q.queue.length < 16) ∧
    (∃ (cu : Nat) (s : State) (c : CmpUnit), s.time.cmps[cu]? = some c ∧ c.armed = true ∧ c.action < 2 ∧ c.periodNs = 0 ∧ c.gpio < s.time.gpio.length ∧ (c.stopQuiet = false ∨ s.stop.st = .clear)) ∧
    (∃ (cu : Nat) (s : State) (c : CmpUnit) (e : Nat), s.time.cmps[cu]? = some c ∧ c.pulseEnd = some e ∧ c.gpio < s.time.gpio.length) ∧
    (∃ (list : Nat) (s : State) (e : DlEntry) (r : List DlEntry), s.time.dls[list]? = some (e :: r) ∧ 6 ≤ list ∧ list ≤ 7) ∧
    (∃ (i : Nat) (tgt : Nat) (token : Nat) (s : State), s.time.alarms[i]? = some (tgt, token) ∧ s.time.dls.length = 8 ∧ (s.time.dls.getD 6 []).length + (s.time.dls.getD 7 []).length < 2048 ∧ tgt ≤ dtNow (runTo (tgt - 500 * ms1) s) + 500 * ms1 ∧ (s.time.dls.getD 6 []).length ≤ 1024) ∧
    (∃ (i : Nat) (s : State) (c : CmpUnit), s.time.cmps[i]? = some c ∧ c.armed = true ∧ c.shortArmed = false) := by
  refine ⟨?_, ?_, ?_, ?_, ?_, ?_, ?_, ?_, ?_⟩
  · exact ⟨0, ({ ready with time.ppsOut := [{ quiet := false }] } : State), ((({ ready with time.ppsOut := [{ quiet := false }] } : State)).time.ppsOut[(0)]?).get (by decide +kernel), by decide +kernel⟩
  · exact ⟨0, ({ ready with time.ppsOut := [{ quiet := false, armed := some (5, 7) }] } : State), { quiet := false, armed := some (5, 7) }, 5, 7, by decide +kernel⟩
  · exact ⟨0, ({ ready with time.ppsOut := [{ offAt := some 9 }] } : State), { offAt := some 9 }, 9, by decide +kernel⟩
  · exact ⟨0, 4, false, 0, ({ ready with time.caps := List.replicate 16 { input := 0 } } : State), ((({ ready with time.caps := List.replicate 16 { input := 0 } } : State)).time.caps[(4)]?).get (by decide +kernel), by decide +kernel⟩
  · exact ⟨0, ({ ready with time.cmps := [{ armed := true, stopQuiet := false }] } : State), ((({ ready with time.cmps := [{ armed := true, stopQuiet := false }] } : State)).time.cmps[(0)]?).get (by decide +kernel), by decide +kernel⟩
  · exact ⟨0, ({ ready with time.cmps := [{ pulseEnd := some 5 }] } : State), { pulseEnd := some 5 }, 5, by decide +kernel⟩
  · exact ⟨6, ({ ready with time.dls := [[], [], [], [], [], [], [{ target := 0, consumer := 0, token := 0, full := 0 }], []] } : State), { target := 0, consumer := 0, token := 0, full := 0 }, [], by decide +kernel⟩
  · exact ⟨0, 5, 6, ({ ready with time.alarms := [(5, 6)] } : State), by decide +kernel⟩
  · exact ⟨0, ({ ready with time.cmps := [{ armed := true }] } : State), ((({ ready with time.cmps := [{ armed := true }] } : State)).time.cmps[(0)]?).get (by decide +kernel), by decide +kernel⟩

theorem test_witness_TimeDomainCommands :
    (∃ (c : Cmd) (s : State), admitted 0x0201 0 32 none c s) ∧
    (∃ (c : Cmd) (s : State) (p : List Byte) (k : Nat) (src : Nat) (kp : Nat) (ki : Nat) (gate : Nat) (tmo : Nat) (align : Nat) (lock : Nat), admitted 0x0202 36 0 none c s ∧ prmOf c = p ∧ uAt p 0 1 = k ∧ k ≤ 1 ∧ uAt p 1 1 = src ∧ 0 < src ∧ src ≤ 7 ∧ zeros p 2 2 = true ∧ zeros p 34 2 = true ∧ kp = (if uAt p 4 4 = 0 then kpDefault src else uAt p 4 4) ∧ kp ≤ 255 * 2 ^ 24 ∧ ki = (if uAt p 8 4 = 0 then kiDefault src else uAt p 8 4) ∧ ki ≤ 255 * 2 ^ 24 ∧ orDefault (uAt p 12 4) 10 1000000 1000 = some gate ∧ orDefault (uAt p 16 4) 100 60000 (timeoutDefault src) = some tmo ∧ orDefault (uAt p 28 4) 10 1000000 100 = some align ∧ orDefault (uAt p 32 2) 1 10000 50 = some lock ∧ (domOf s.time (1 - k)).source ≠ src ∧ (∀ log : Int, kpTooHigh src kp log = false) ∧ (src = 1 → isMember s = false) ∧ (src = 6 → isMember s = true) ∧ (k = b1 s.time.followB → engineIdle s = true) ∧ (domOf s.time k).source = src) ∧
    (∃ (c : Cmd) (s : State), admitted 0x0203 2 0 none c s ∧ uAt (prmOf c) 0 1 = 0 ∧ uAt (prmOf c) 1 1 ≤ 1) ∧
    (∃ (c : Cmd) (s : State), admitted 0x0203 2 0 none c s ∧ uAt (prmOf c) 0 1 = 1 ∧ uAt (prmOf c) 1 1 ≤ 1) ∧
    (∃ (c : Cmd) (s : State) (p : List Byte) (k : Nat) (dom : Nat), admitted 0x0204 28 0 none c s ∧ prmOf c = p ∧ uAt p 0 1 = k ∧ k ≤ 1 ∧ zeros p 1 3 = true ∧ dtOk p 4 = true ∧ dtOk p 16 = true ∧ (domOf s.time k).source = 7 ∧ dtAt p 16 ≤ dtNow s ∧ dtNow s ≤ dtAt p 16 + 2 * sec1 ∧ domAtInstant s.time k (dtAt p 16) = some dom) ∧
    (∃ (c : Cmd) (s : State), admitted 0x0205 16 0 none c s ∧ dtOk (prmOf c) 0 = true ∧ engineIdle s = true) ∧
    (∃ (c : Cmd) (s : State), admitted 0x0208 1 0 none c s ∧ uAt (prmOf c) 0 1 ≤ 8 ∧ jobBusy s = false ∧ anyCellOn s = false ∧ manualRuns s = false ∧ engineIdle s = true ∧ s.fleet.st = .off) ∧
    (∃ (c : Cmd) (s : State), admitted 0x0209 12 0 none c s ∧ zeros (prmOf c) 0 6 = true ∧ dtNow s ≤ sec1 * uAt (prmOf c) 6 6 + 2 ^ 32 * tideP s ∧ jobBusy s = false) ∧
    (∃ (c : Cmd) (s : State) (p : List Byte) (th : Nat) (sl : Nat) (lw : Nat) (tq : Nat), admitted 0x020A 20 0 none c s ∧ prmOf c = p ∧ zeros p 5 3 = true ∧ uAt p 12 4 ≤ 18446744 ∧ orDefault (uAt p 0 4) 10 10000000 1000 = some th ∧ orDefault (uAt p 4 1) 1 50 50 = some sl ∧ orDefault (uAt p 8 4) 60 86400 600 = some lw ∧ orDefault (uAt p 16 4) 100 1000000000 1000 = some tq) := by
  refine ⟨?_, ?_, ?_, ?_, ?_, ?_, ?_, ?_, ?_⟩
  · exact ⟨cmd 0 32 [], ready, by unfold admitted; decide +kernel⟩
  · exact ⟨cmd 36 36 [(1, 1, 3)], ({ ready with time.a.source := 3 } : State), prmOf (cmd 36 36 [(1, 1, 3)]), uAt (prmOf (cmd 36 36 [(1, 1, 3)])) 0 1, 3, (if uAt (prmOf (cmd 36 36 [(1, 1, 3)])) 4 4 = 0 then kpDefault (3) else uAt (prmOf (cmd 36 36 [(1, 1, 3)])) 4 4), (if uAt (prmOf (cmd 36 36 [(1, 1, 3)])) 8 4 = 0 then kiDefault (3) else uAt (prmOf (cmd 36 36 [(1, 1, 3)])) 8 4), (orDefault (uAt (prmOf (cmd 36 36 [(1, 1, 3)])) 12 4) 10 1000000 1000).get (by decide +kernel), (orDefault (uAt (prmOf (cmd 36 36 [(1, 1, 3)])) 16 4) 100 60000 (timeoutDefault (3))).get (by decide +kernel), (orDefault (uAt (prmOf (cmd 36 36 [(1, 1, 3)])) 28 4) 10 1000000 100).get (by decide +kernel), (orDefault (uAt (prmOf (cmd 36 36 [(1, 1, 3)])) 32 2) 1 10000 50).get (by decide +kernel), by unfold admitted; and_intros <;> first | decide +kernel | exact fun _ => rfl⟩
  · exact ⟨cmd 2 2 [], ready, by unfold admitted; decide +kernel⟩
  · exact ⟨cmd 2 2 [(0, 1, 1)], ready, by unfold admitted; decide +kernel⟩
  · exact ⟨cmd 28 28 [], ({ ready with time.a.source := 7 } : State), prmOf (cmd 28 28 []), uAt (prmOf (cmd 28 28 [])) 0 1, (domAtInstant (({ ready with time.a.source := 7 } : State)).time (uAt (prmOf (cmd 28 28 [])) 0 1) (dtAt (prmOf (cmd 28 28 [])) 16)).get (by decide +kernel), by unfold admitted; decide +kernel⟩
  · exact ⟨cmd 16 16 [], ready, by unfold admitted; decide +kernel⟩
  · exact ⟨cmd 1 1 [], ready, by unfold admitted; decide +kernel⟩
  · exact ⟨cmd 12 12 [], ready, by unfold admitted; decide +kernel⟩
  · exact ⟨cmd 20 20 [], ready, prmOf (cmd 20 20 []), (orDefault (uAt (prmOf (cmd 20 20 [])) 0 4) 10 10000000 1000).get (by decide +kernel), (orDefault (uAt (prmOf (cmd 20 20 [])) 4 1) 1 50 50).get (by decide +kernel), (orDefault (uAt (prmOf (cmd 20 20 [])) 8 4) 60 86400 600).get (by decide +kernel), (orDefault (uAt (prmOf (cmd 20 20 [])) 16 4) 100 1000000000 1000).get (by decide +kernel), by unfold admitted; decide +kernel⟩

theorem test_witness_TimePinCommands :
    (∃ (c : Cmd) (s : State) (p : List Byte) (pin : Nat) (q : PpsOut), admitted 0x0206 12 0 none c s ∧ prmOf c = p ∧ uAt p 0 1 = pin ∧ pin ≤ 1 ∧ s.time.ppsOut[pin]? = some q ∧ uAt p 1 1 ≤ 2 ∧ uAt p 2 1 ≤ 7 ∧ zeros p 3 1 = true ∧ 1 ≤ uAt p 4 4 ∧ uAt p 4 4 ≤ 500000 ∧ (iAt p 8 4).natAbs ≤ 64000000) ∧
    (∃ (c : Cmd) (s : State) (p : List Byte), admitted 0x0207 12 0 none c s ∧ prmOf c = p ∧ uAt p 0 1 ≤ 1 ∧ uAt p 1 1 ≤ 1 ∧ zeros p 2 2 = true ∧ 1 ≤ uAt p 8 4 ∧ uAt p 8 4 ≤ 100000) ∧
    (∃ (c : Cmd) (s : State) (p : List Byte), admitted 0x020B 3 0 none c s ∧ prmOf c = p ∧ 4 ≤ uAt p 0 1 ∧ uAt p 0 1 ≤ 15 ∧ (uAt p 1 1 ≤ 16 ∨ uAt p 1 1 = 255) ∧ uAt p 2 1 ≤ 2) ∧
    (∃ (c : Cmd) (s : State) (k : Nat) (q : CapUnit), admitted 0x020C 1 32 none c s ∧ uAt (prmOf c) 0 1 = k ∧ s.time.caps[k]? = some q) ∧
    (∃ (c : Cmd) (s : State) (p : List Byte) (k : Nat) (act : Nat) (g : Nat) (per : Nat), admitted 0x020D 32 0 none c s ∧ prmOf c = p ∧ uAt p 0 1 = k ∧ k < 16 ∧ uAt p 1 1 = act ∧ act ≤ 3 ∧ uAt p 2 1 ≤ 3 ∧ uAt p 3 1 = g ∧ g < 16 ∧ dtOk p 4 = true ∧ uAt p 20 8 = per ∧ (per = 0 ∨ 1000 ≤ per ∧ per ≤ 10000000000) ∧ (act = 3 → 10 ≤ uAt p 16 4 ∧ uAt p 16 4 ≤ 1000000000 ∧ (per ≠ 0 → uAt p 16 4 < per)) ∧ s.time.cmps.length = 16 ∧ cmpArmed (s.time.cmps.getD k {}) = false ∧ gpioTaken s k g = false ∧ dtNow s ≤ dtAt p 4) ∧
    (∃ (c : Cmd) (s : State) (k : Nat) (q : CmpUnit), admitted 0x020E 1 0 none c s ∧ uAt (prmOf c) 0 1 = k ∧ s.time.cmps[k]? = some q ∧ q.drives = true ∧ s.time.gpio[q.gpio]? = some (some (!q.activeLow))) ∧
    (∃ (c : Cmd) (s : State), admitted 0x020F 16 0 none c s ∧ dtOk (prmOf c) 0 = true ∧ dtNow s + 500 * ms1 < dtAt (prmOf c) 0 ∧ alarmsPending s < 2048) ∧
    (∃ (c : Cmd) (s : State), admitted 0x020F 16 0 none c s ∧ dtOk (prmOf c) 0 = true ∧ dtAt (prmOf c) 0 < dtNow s) := by
  refine ⟨?_, ?_, ?_, ?_, ?_, ?_, ?_, ?_⟩
  · exact ⟨cmd 12 12 [(4, 4, 1)], ready, prmOf (cmd 12 12 [(4, 4, 1)]), uAt (prmOf (cmd 12 12 [(4, 4, 1)])) 0 1, ((ready).time.ppsOut[(uAt (prmOf (cmd 12 12 [(4, 4, 1)])) 0 1)]?).get (by decide +kernel), by unfold admitted; decide +kernel⟩
  · exact ⟨cmd 12 12 [(8, 4, 1)], ready, prmOf (cmd 12 12 [(8, 4, 1)]), by unfold admitted; decide +kernel⟩
  · exact ⟨cmd 3 3 [(0, 1, 4)], ready, prmOf (cmd 3 3 [(0, 1, 4)]), by unfold admitted; decide +kernel⟩
  · exact ⟨cmd 1 32 [], ready, uAt (prmOf (cmd 1 32 [])) 0 1, ((ready).time.caps[(uAt (prmOf (cmd 1 32 [])) 0 1)]?).get (by decide +kernel), by unfold admitted; decide +kernel⟩
  · exact ⟨cmd 32 32 [], ready, prmOf (cmd 32 32 []), uAt (prmOf (cmd 32 32 [])) 0 1, uAt (prmOf (cmd 32 32 [])) 1 1, uAt (prmOf (cmd 32 32 [])) 3 1, uAt (prmOf (cmd 32 32 [])) 20 8, by unfold admitted; decide +kernel⟩
  · exact ⟨cmd 1 1 [], ({ ready with time.cmps := [{ armed := true, drives := true }], time.gpio := [some true] } : State), uAt (prmOf (cmd 1 1 [])) 0 1, ((({ ready with time.cmps := [{ armed := true, drives := true }], time.gpio := [some true] } : State)).time.cmps[(uAt (prmOf (cmd 1 1 [])) 0 1)]?).get (by decide +kernel), by unfold admitted; decide +kernel⟩
  · exact ⟨cmd 16 16 [(6, 6, 1)], ready, by unfold admitted; decide +kernel⟩
  · exact ⟨cmd 16 16 [], ({ ready with time.out := 2 ^ 23 } : State), by unfold admitted; decide +kernel⟩

theorem test_witness_TideEvents :
    (∃ (s : State), (s.power.st = .spring ∨ s.power.st = .neap ∨ s.power.st = .safe)) ∧
    (∃ (s : State), s.power.st ≠ .spring ∧ s.power.st ≠ .neap ∧ s.power.st ≠ .safe) ∧
    (∃ (s : State) (code : Nat) (sec : Nat), s.time.newPeriod = some (code, sec)) ∧
    (∃ (s : State), s.time.newPeriod = none) ∧
    (∃ (c : Nat) (s : State), s.time.refLost = false) ∧
    (∃ (c : Nat) (s : State), s.time.refLost = true) := by
  refine ⟨?_, ?_, ?_, ?_, ?_, ?_⟩
  · exact ⟨ready, by decide +kernel⟩
  · exact ⟨({ ready with power.st := .slack } : State), by decide +kernel⟩
  · exact ⟨({ ready with time.newPeriod := some (3, 5) } : State), (((({ ready with time.newPeriod := some (3, 5) } : State)).time.newPeriod).get (by decide +kernel)).1, (((({ ready with time.newPeriod := some (3, 5) } : State)).time.newPeriod).get (by decide +kernel)).2, by decide +kernel⟩
  · exact ⟨ready, by decide +kernel⟩
  · exact ⟨0, ready, by decide +kernel⟩
  · exact ⟨0, ({ ready with time.refLost := true } : State), by decide +kernel⟩

theorem test_witness_GnssStreamEvents :
    (∃ (n : Nat) (t : Nat) (l : Nat) (s : State) (st : IfStream), n ≤ 7 ∧ navUp s = true ∧ s.gnss.streams[n]? = some st ∧ st.lastMarker = some l ∧ ((t : Int) - l - (ms1 : Nat)).natAbs ≤ us1 ∧ st.st = 0 ∧ 7 ≤ st.good) ∧
    (∃ (n : Nat) (cause : Nat) (s : State) (st : IfStream), n ≤ 7 ∧ navUp s = true ∧ s.gnss.streams[n]? = some st ∧ st.st ≠ 0) ∧
    (∃ (n : Nat) (ppb : Int) (s : State) (st : IfStream), n ≤ 7 ∧ navUp s = true ∧ s.gnss.streams[n]? = some st ∧ st.lastMarker.isSome = true ∧ 1000 < ppb.natAbs) ∧
    (∃ (n : Nat) (peaks : List (Int × Nat)) (s : State) (st : IfStream), n ≤ 7 ∧ navUp s = true ∧ s.gnss.streams[n]? = some st ∧ st.st = 1) ∧
    (∃ (n : Nat) (i : Nat) (s : State) (st : IfStream) (x : Notch) (a : Int × Nat) (c : Nat), navUp s = true ∧ s.gnss.streams[n]? = some st ∧ st.notches[i]? = some x ∧ x.mode = 2 ∧ x.active = some a ∧ x.lowFrom = some c ∧ x.next = none) ∧
    (∃ (n : Nat) (n0 : Nat) (s : State) (st : IfStream), n ≤ 7 ∧ navUp s = true ∧ s.gnss.streams[n]? = some st ∧ st.st = 1) ∧
    (∃ (n : Nat) (j : Nat) (b : Nat) (s : State), (streamOf s n).jamFrom = some j ∧ (streamOf s n).belowFrom = some b) := by
  refine ⟨?_, ?_, ?_, ?_, ?_, ?_, ?_⟩
  · exact ⟨0, ms1, 0, ({ ready with gnss.streams := [{ good := 7, lastMarker := some 0 }] } : State), ((({ ready with gnss.streams := [{ good := 7, lastMarker := some 0 }] } : State)).gnss.streams[(0)]?).get (by decide +kernel), by decide +kernel⟩
  · exact ⟨0, 0, ({ ready with gnss.streams := List.replicate 8 { st := 1 } } : State), ((({ ready with gnss.streams := List.replicate 8 { st := 1 } } : State)).gnss.streams[(0)]?).get (by decide +kernel), by decide +kernel⟩
  · exact ⟨0, 1001, ({ ready with gnss.streams := [{ lastMarker := some 0 }] } : State), ((({ ready with gnss.streams := [{ lastMarker := some 0 }] } : State)).gnss.streams[(0)]?).get (by decide +kernel), by decide +kernel⟩
  · exact ⟨0, [], ({ ready with gnss.streams := List.replicate 8 { st := 1 } } : State), ((({ ready with gnss.streams := List.replicate 8 { st := 1 } } : State)).gnss.streams[(0)]?).get (by decide +kernel), by decide +kernel⟩
  · exact ⟨0, 0, ({ ready with gnss.streams := [{ notches := [{ mode := 2, active := some (5, 6), lowFrom := some 0 }] }] } : State), { notches := [{ mode := 2, active := some (5, 6), lowFrom := some 0 }] }, { mode := 2, active := some (5, 6), lowFrom := some 0 }, (5, 6), 0, by decide +kernel⟩
  · exact ⟨0, 0, ({ ready with gnss.streams := List.replicate 8 { st := 1 } } : State), ((({ ready with gnss.streams := List.replicate 8 { st := 1 } } : State)).gnss.streams[(0)]?).get (by decide +kernel), by decide +kernel⟩
  · exact ⟨0, ((streamOf (({ ready with gnss.streams := [{ jamFrom := some 0, belowFrom := some 0 }] } : State)) (0)).jamFrom).get (by decide +kernel), ((streamOf (({ ready with gnss.streams := [{ jamFrom := some 0, belowFrom := some 0 }] } : State)) (0)).belowFrom).get (by decide +kernel), ({ ready with gnss.streams := [{ jamFrom := some 0, belowFrom := some 0 }] } : State), by decide +kernel⟩

theorem test_witness_GnssChannelEvents :
    (∃ (sig : Nat) (sv : Nat) (ant : Nat) (k : Nat) (ph : Nat) (peak : Nat) (dw : Nat) (n : Nat) (rate : Int) (x : Search) (s : State), navUp s = true ∧ ant ≤ 1 ∧ k ≤ 13 ∧ gSvOk (gSystem sig) sv = true ∧ sig ∈ gSearched ∧ searchOf (fillEngines s) sig sv ant k = some x ∧ inSearch (fillEngines s) sig sv ant k ph rate = true ∧ s.gnss.acqThresh < peak ∧ 2 ≤ dw ∧ (∀ e ∈ s.gnss.chans, sameSignal sig sv ant e.2 = false) ∧ signalOn s sig ant = true ∧ belowLimit s sig sv ant = true ∧ freeChan s = some n) ∧
    (∃ (s : State) (d : Detection) (r : List Detection), s.gnss.queue = d :: r) ∧
    (∃ (n : Nat) (x : Nat) (v : ChanUpdate) (s : State) (c : GChan), navUp s = true ∧ tget s.gnss.chans n = some c ∧ c.st = .track ∧ v.lock < 500 ∧ c.lowLockFrom = some x ∧ x + cycMs 100 ≤ s.time.cyc) ∧
    (∃ (n : Nat) (s : State) (c : GChan), tget s.gnss.chans n = some c ∧ c.st = .pullIn) ∧
    (∃ (n : Nat) (s : State) (c : GChan), tget s.gnss.chans n = some c ∧ c.st = .reacq ∧ s.power.st ≠ .neap) ∧
    (∃ (s : State), navUp s = true) ∧
    (∃ (raw : List (Nat × Nat)) (s : State), navUp s = true ∧ s.gnss.recordDue = true ∧ s.time.refLost = false ∧ s.power.st ≠ .neap ∧ s.gnss.measSub = 1) ∧
    (∃ (n : Nat) (ty : Nat) (fb : Nat) (bits : Nat) (iod : Nat) (fec : Bool) (pl : List Byte) (s : State) (c : GChan), navUp s = true ∧ tget s.gnss.chans n = some c ∧ c.bitSync = true ∧ c.st = .track ∧ unitCheck (gMessage c.signal) fec (bits % 65536) (bitsOnly (bits % 65536) pl) = 0 ∧ ty % 256 ∈ ephUnitsOf (gMessage c.signal) ∧ (∀ e ∈ s.gnss.eph ++ s.gnss.ephNext, ¬ (e.sys = gSystem c.signal ∧ e.sv = c.sv ∧ e.iod = iod)) ∧ (∀ k ∈ ephUnitsOf (gMessage c.signal), k ≠ ty % 256 → ∃ q ∈ s.gnss.ephParts, q.signal = c.signal ∧ q.sv = c.sv ∧ q.unit = k ∧ q.iod = iod)) ∧
    (∃ (n : Nat) (ty : Nat) (fb : Nat) (bits : Nat) (fec : Bool) (pl : List Byte) (y : NavYield) (s : State) (c : GChan), navUp s = true ∧ tget s.gnss.chans n = some c ∧ c.bitSync = true ∧ c.st = .track ∧ unitCheck (gMessage c.signal) fec (bits % 65536) (bitsOnly (bits % 65536) pl) ≠ 0) ∧
    (∃ (s : State), s.power.st = .neap ∧ s.gnss.burstAt = none) ∧
    (∃ (raw : List (Nat × Nat)) (sol : Option Standalone) (s : State) (c : Nat), s.power.st = .neap ∧ s.gnss.burstAt = some c ∧ trackedSats s < 4 ∧ s.gnss.burstExt = false) ∧
    (∃ (raw : List (Nat × Nat)) (s : State) (c : Nat), s.power.st = .neap ∧ s.gnss.burstAt = some c ∧ 4 ≤ trackedSats s) := by
  refine ⟨?_, ?_, ?_, ?_, ?_, ?_, ?_, ?_, ?_, ?_, ?_, ?_⟩
  · exact ⟨0, 1, 0, 0, 0, 14, 2, (freeChan (({ ready with gnss.streams := List.replicate 8 { st := 1 } } : State))).get (by decide +kernel), 0, (searchOf (fillEngines (({ ready with gnss.streams := List.replicate 8 { st := 1 } } : State))) (0) (1) (0) (0)).get (by decide +kernel), ({ ready with gnss.streams := List.replicate 8 { st := 1 } } : State), by decide +kernel⟩
  · exact ⟨({ ready with gnss.queue := [{ signal := 0, sv := 1, ant := 0, gloK := 0, codePhase := 0, carrRate := 0, at_ := 0 }] } : State), ((({ ready with gnss.queue := [{ signal := 0, sv := 1, ant := 0, gloK := 0, codePhase := 0, carrRate := 0, at_ := 0 }] } : State)).gnss.queue).head (by decide +kernel), ((({ ready with gnss.queue := [{ signal := 0, sv := 1, ant := 0, gloK := 0, codePhase := 0, carrRate := 0, at_ := 0 }] } : State)).gnss.queue).tail, by decide +kernel⟩
  · exact ⟨0, (((tget (({ ready with gnss.chans := [(0, { st := .track, lowLockFrom := some 0 })], time.cyc := cycMs 100 } : State)).gnss.chans (0)).get (by decide +kernel)).lowLockFrom).get (by decide +kernel), {}, ({ ready with gnss.chans := [(0, { st := .track, lowLockFrom := some 0 })], time.cyc := cycMs 100 } : State), (tget (({ ready with gnss.chans := [(0, { st := .track, lowLockFrom := some 0 })], time.cyc := cycMs 100 } : State)).gnss.chans (0)).get (by decide +kernel), by decide +kernel⟩
  · exact ⟨0, ({ ready with gnss.chans := [(0, { st := .pullIn })] } : State), (tget (({ ready with gnss.chans := [(0, { st := .pullIn })] } : State)).gnss.chans (0)).get (by decide +kernel), by decide +kernel⟩
  · exact ⟨0, ({ ready with gnss.chans := [(0, { st := .reacq })] } : State), (tget (({ ready with gnss.chans := [(0, { st := .reacq })] } : State)).gnss.chans (0)).get (by decide +kernel), by decide +kernel⟩
  · exact ⟨ready, by decide +kernel⟩
  · exact ⟨[], ({ ready with gnss.recordDue := true, gnss.measSub := 1 } : State), by decide +kernel⟩
  · exact ⟨0, 1, 0, 0, 0, false, [], ({ ready with gnss.chans := [(0, { st := .track, bitSync := true, sv := 1 })], gnss.ephParts := [{ signal := 0, sv := 1, unit := 2, iod := 0 }, { signal := 0, sv := 1, unit := 3, iod := 0 }] } : State), (tget (({ ready with gnss.chans := [(0, { st := .track, bitSync := true, sv := 1 })], gnss.ephParts := [{ signal := 0, sv := 1, unit := 2, iod := 0 }, { signal := 0, sv := 1, unit := 3, iod := 0 }] } : State)).gnss.chans (0)).get (by decide +kernel), by decide +kernel⟩
  · exact ⟨0, 0, 0, 0, false, [], .nothing, ({ ready with gnss.chans := [(0, { st := .track, bitSync := true, signal := 1 })] } : State), (tget (({ ready with gnss.chans := [(0, { st := .track, bitSync := true, signal := 1 })] } : State)).gnss.chans (0)).get (by decide +kernel), by decide +kernel⟩
  · exact ⟨({ ready with power.st := .neap } : State), by decide +kernel⟩
  · exact ⟨[], none, ({ ready with power.st := .neap, gnss.burstAt := some 0 } : State), ((({ ready with power.st := .neap, gnss.burstAt := some 0 } : State)).gnss.burstAt).get (by decide +kernel), by decide +kernel⟩
  · exact ⟨[], ({ ready with power.st := .neap, gnss.burstAt := some 0, gnss.chans := (List.range 4).map (fun k => (k, { st := .track, sv := k })) } : State), ((({ ready with power.st := .neap, gnss.burstAt := some 0, gnss.chans := (List.range 4).map (fun k => (k, { st := .track, sv := k })) } : State)).gnss.burstAt).get (by decide +kernel), by decide +kernel⟩

theorem test_witness_GnssCommands :
    (∃ (c : Cmd) (s : State) (p : List Byte), admitted 0x0301 7 0 none c s ∧ prmOf c = p ∧ uAt p 0 1 ≤ 15 ∧ zeros p 1 1 = true ∧ uAt p 2 2 ≤ 0x7FF ∧ uAt p 4 1 ≤ 3 ∧ uAt p 5 1 ≤ 30) ∧
    (∃ (c : Cmd) (s : State), admitted 0x0302 0 40 none c s) ∧
    (∃ (c : Cmd) (s : State) (p : List Byte), admitted 0x0303 9 0 none c s ∧ prmOf c = p ∧ uAt p 0 1 ≤ 1 ∧ zeros p 1 3 = true ∧ uAt p 8 1 = 0 ∧ zeros p 9 3 = true) ∧
    (∃ (c : Cmd) (iod : Nat) (s : State), admitted 0x0304 1 0 none c s ∧ uAt (prmOf c) 0 1 = 0) ∧
    (∃ (c : Cmd) (iod : Nat) (s : State), admitted 0x0304 1 0 none c s ∧ uAt (prmOf c) 0 1 = 3 ∧ dtOk ((prmOf c).drop 1) 4 = true ∧ assistUnitOk ((prmOf c).drop 1) = false) ∧
    (∃ (c : Cmd) (iod : Nat) (s : State), admitted 0x0304 1 0 none c s ∧ (uAt (prmOf c) 0 1 = 2 ∨ uAt (prmOf c) 0 1 = 3) ∧ dtOk ((prmOf c).drop 1) 4 = false) ∧
    (∃ (c : Cmd) (s : State) (p : List Byte) (sig : Nat) (sv : Nat) (ant : Nat) (n : Nat), admitted 0x0305 4 2 none c s ∧ prmOf c = p ∧ uAt p 0 1 = sig ∧ sig ≤ 10 ∧ uAt p 1 1 = sv ∧ gSvOk (gSystem sig) sv = true ∧ uAt p 2 1 = ant ∧ ant ≤ 1 ∧ (gSystem sig = 2 → uAt p 3 1 ≤ 13) ∧ signalUp s sig ant = true ∧ firstFree 384 s.gnss.chans = some n ∧ (∀ e ∈ s.gnss.chans, e.2.st ≠ .track)) ∧
    (∃ (c : Cmd) (s : State), admitted 0x0305 4 2 none c s ∧ (10 < uAt (prmOf c) 0 1 ∨ gSvOk (gSystem (uAt (prmOf c) 0 1)) (uAt (prmOf c) 1 1) = false)) ∧
    (∃ (c : Cmd) (s : State) (d : GChan), admitted 0x0306 2 0 none c s ∧ tget s.gnss.chans (uAt (prmOf c) 0 2) = some d ∧ d.hostHeld = true) ∧
    (∃ (c : Cmd) (s : State), admitted 0x0307 1 0 none c s ∧ uAt (prmOf c) 0 1 ≤ 100) ∧
    (∃ (c : Cmd) (s : State), admitted 0x0308 2 0 none c s ∧ uAt (prmOf c) 0 1 ≤ 15 ∧ uAt (prmOf c) 1 1 ≤ 1) ∧
    (∃ (c : Cmd) (s : State) (p : List Byte) (st : IfStream) (x : Notch), admitted 0x0309 13 0 none c s ∧ prmOf c = p ∧ uAt p 0 1 ≤ 7 ∧ uAt p 1 1 ≤ 3 ∧ uAt p 2 1 = 1 ∧ zeros p 3 1 = true ∧ 6 ≤ uAt p 12 1 ∧ uAt p 12 1 ≤ 40 ∧ 20000 ≤ uAt p 8 4 ∧ uAt p 8 4 ≤ 2000000 ∧ (iAt p 4 4).natAbs ≤ 16000000 ∧ s.gnss.streams[uAt p 0 1]? = some st ∧ st.notches[uAt p 1 1]? = some x) ∧
    (∃ (c : Cmd) (s : State) (p : List Byte), admitted 0x030A 18 0 none c s ∧ prmOf c = p ∧ uAt p 0 1 ≤ 10 ∧ zeros p 1 3 = true ∧ 512 ≤ uAt p 4 4 ∧ uAt p 4 4 ≤ 10240 ∧ 256 ≤ uAt p 8 4 ∧ uAt p 8 4 ≤ 5120 ∧ 13 ≤ uAt p 12 4 ∧ uAt p 12 4 ≤ 1280 ∧ 4 ≤ uAt p 16 1 ∧ uAt p 16 1 ≤ 64 ∧ 1 ≤ uAt p 17 1 ∧ uAt p 17 1 ≤ 20) ∧
    (∃ (c : Cmd) (s : State), admitted 0x030B 1 0 none c s ∧ uAt (prmOf c) 0 1 = 0 ∧ (roleOf s = 0 → anyCellOn s = false)) ∧
    (∃ (c : Cmd) (s : State) (p : List Byte), admitted 0x030C 8 0 none c s ∧ prmOf c = p ∧ 200 ≤ uAt p 0 4 ∧ uAt p 0 4 ≤ 7000 ∧ 50 ≤ uAt p 4 4 ∧ uAt p 4 4 ≤ 500 ∧ (s.time.a.source = 1 → uAt p 0 4 < s.time.a.timeoutMs) ∧ (s.time.b.source = 1 → uAt p 0 4 < s.time.b.timeoutMs)) ∧
    (∃ (c : Cmd) (s : State) (p : List Byte), admitted 0x030D 14 0 none c s ∧ prmOf c = p ∧ 8 ≤ uAt p 0 1 ∧ uAt p 0 1 ≤ 20 ∧ zeros p 1 3 = true ∧ 5 ≤ uAt p 4 4 ∧ uAt p 4 4 ≤ 1000 ∧ 500 ≤ uAt p 8 4 ∧ uAt p 8 4 ≤ 10000 ∧ 4 ≤ uAt p 12 1 ∧ uAt p 12 1 < uAt p 13 1 ∧ uAt p 13 1 ≤ 160) := by
  refine ⟨?_, ?_, ?_, ?_, ?_, ?_, ?_, ?_, ?_, ?_, ?_, ?_, ?_, ?_, ?_, ?_⟩
  · exact ⟨cmd 7 7 [], ready, prmOf (cmd 7 7 []), by unfold admitted; decide +kernel⟩
  · exact ⟨cmd 0 40 [], ready, by unfold admitted; decide +kernel⟩
  · exact ⟨cmd 9 9 [], ready, prmOf (cmd 9 9 []), by unfold admitted; decide +kernel⟩
  · exact ⟨cmd 1 1 [], 0, ready, by unfold admitted; decide +kernel⟩
  · exact ⟨cmd 21 21 [(0, 1, 3), (1, 1, 11)], 0, ready, by unfold admitted; decide +kernel⟩
  · exact ⟨cmd 21 21 [(0, 1, 2), (7, 4, 1000000000)], 0, ready, by unfold admitted; decide +kernel⟩
  · exact ⟨cmd 4 4 [(1, 1, 1)], ({ ready with gnss.streams := List.replicate 8 { st := 1 } } : State), prmOf (cmd 4 4 [(1, 1, 1)]), uAt (prmOf (cmd 4 4 [(1, 1, 1)])) 0 1, 1, uAt (prmOf (cmd 4 4 [(1, 1, 1)])) 2 1, (firstFree 384 (({ ready with gnss.streams := List.replicate 8 { st := 1 } } : State)).gnss.chans).get (by decide +kernel), by unfold admitted; decide +kernel⟩
  · exact ⟨cmd 4 4 [], ready, by unfold admitted; decide +kernel⟩
  · exact ⟨cmd 2 2 [], ({ ready with gnss.chans := [(0, { hostHeld := true })] } : State), (tget (({ ready with gnss.chans := [(0, { hostHeld := true })] } : State)).gnss.chans (uAt (prmOf (cmd 2 2 [])) 0 2)).get (by decide +kernel), by unfold admitted; decide +kernel⟩
  · exact ⟨cmd 1 1 [], ready, by unfold admitted; decide +kernel⟩
  · exact ⟨cmd 2 2 [], ready, by unfold admitted; decide +kernel⟩
  · exact ⟨cmd 13 13 [(2, 1, 1), (8, 4, 20000), (12, 1, 6)], ready, prmOf (cmd 13 13 [(2, 1, 1), (8, 4, 20000), (12, 1, 6)]), ((ready).gnss.streams[uAt (prmOf (cmd 13 13 [(2, 1, 1), (8, 4, 20000), (12, 1, 6)])) 0 1]?).get (by decide +kernel), ((((ready).gnss.streams[uAt (prmOf (cmd 13 13 [(2, 1, 1), (8, 4, 20000), (12, 1, 6)])) 0 1]?).get (by decide +kernel)).notches[uAt (prmOf (cmd 13 13 [(2, 1, 1), (8, 4, 20000), (12, 1, 6)])) 1 1]?).get (by decide +kernel), by unfold admitted; decide +kernel⟩
  · exact ⟨cmd 18 18 [(4, 4, 512), (8, 4, 256), (12, 4, 13), (16, 1, 4), (17, 1, 1)], ready, prmOf (cmd 18 18 [(4, 4, 512), (8, 4, 256), (12, 4, 13), (16, 1, 4), (17, 1, 1)]), by unfold admitted; decide +kernel⟩
  · exact ⟨cmd 1 1 [], ready, by unfold admitted; decide +kernel⟩
  · exact ⟨cmd 8 8 [(0, 4, 200), (4, 4, 50)], ready, prmOf (cmd 8 8 [(0, 4, 200), (4, 4, 50)]), by unfold admitted; decide +kernel⟩
  · exact ⟨cmd 14 14 [(0, 1, 8), (4, 4, 5), (8, 4, 500), (12, 1, 4), (13, 1, 5)], ready, prmOf (cmd 14 14 [(0, 1, 8), (4, 4, 5), (8, 4, 500), (12, 1, 4), (13, 1, 5)]), by unfold admitted; decide +kernel⟩

theorem test_witness_PoseEvents :
    (∃ (sol : EpochSol) (s : State), epochOk sol.t s = true ∧ s.time.refLost = false ∧ dtNow s ≤ sol.t + 5 * ms1 ∧ s.pose.resetPending = none ∧ sol.faulty = false ∧ sol.excl.length ≤ 2 ∧ sol.avail ≠ 0 ∧ corrUsable s = false ∧ s.pose.fixed = false ∧ s.pose.nav.isSome = true) ∧
    (∃ (sol : EpochSol) (s : State), epochOk sol.t s = true ∧ s.time.refLost = false ∧ dtNow s ≤ sol.t + 5 * ms1 ∧ s.pose.resetPending = none ∧ (sol.faulty = true ∨ 2 < sol.excl.length)) ∧
    (∃ (t : Nat) (s : State), epochOk t s = true) ∧
    (∃ (s : State) (f : List Byte) (r : List (List Byte)), roleOf s = 0 ∧ s.pose.rtcmIn = f :: r ∧ sourceTakes false s = true ∧ rtcmPayload f = none) ∧
    (∃ (s : State) (f : List Byte) (p : List Byte) (r : List (List Byte)), roleOf s = 0 ∧ s.pose.rtcmIn = f :: r ∧ sourceTakes false s = true ∧ rtcmPayload f = some p ∧ isMsm (rtcmNo p) = false ∧ rtcmNo p ≠ 1005 ∧ rtcmNo p ≠ 1006 ∧ rtcmNo p ≠ 1230) ∧
    (∃ (s : State) (f : List Byte) (p : List Byte) (r : List (List Byte)), roleOf s = 0 ∧ s.pose.rtcmIn = f :: r ∧ sourceTakes false s = true ∧ rtcmPayload f = some p ∧ (rtcmNo p = 1005 ∨ rtcmNo p = 1006)) ∧
    (∃ (s : State) (f : List Byte) (p : List Byte) (r : List (List Byte)), roleOf s = 0 ∧ s.pose.rtcmIn = f :: r ∧ sourceTakes false s = true ∧ rtcmPayload f = some p ∧ isMsm (rtcmNo p) = true ∧ s.pose.locked = true ∧ s.pose.station = some (rtcmStation p) ∧ dtNow s ≤ msmEpoch s p + ms1 * s.pose.corrAgeMs ∧ (∀ c, s.pose.corrAt = some c → c < msmEpoch s p)) ∧
    (∃ (s : State) (f : List Byte) (p : List Byte) (r : List (List Byte)), roleOf s = 0 ∧ s.pose.rtcmIn = f :: r ∧ sourceTakes false s = true ∧ rtcmPayload f = some p ∧ rtcmNo p = 1230 ∧ s.pose.locked = true ∧ s.pose.station = some (rtcmStation p)) ∧
    (∃ (s : State) (t : State) (k : Packet) (p : List Byte), roleOf s = 0 ∧ takeS0 2 s = some (k, t) ∧ sourceTakes true s = true ∧ rtcmPayload k.payload = some p ∧ (rtcmNo p = 1005 ∨ rtcmNo p = 1006)) ∧
    (∃ (s : State) (h : Bool), roleOf s ≠ 0) ∧
    (∃ (s : State) (a : Nat), s.pose.corrAt = some a ∧ s.pose.corrStale = false ∧ roleOf s = 0 ∧ s.pose.solution ≠ 5) ∧
    (∃ (d : List Byte) (nav : Nav) (v : Nav) (s : State) (c : List Byte), s.pose.imuCfg = some c ∧ s.pose.imuLost = false ∧ s.pose.nav = some v ∧ (∀ k < 6, fullScale c (imuRaw c d k) = false)) ∧
    (∃ (s : State) (c : List Byte), s.pose.imuCfg = some c ∧ s.pose.imuLost = false) ∧
    (∃ (s : State) (e : Nat), s.pose.lastEpoch = some e ∧ roleOf s = 0 ∧ isFollower s = false ∧ s.pose.nav.isSome = true ∧ s.pose.solution ≠ 5 ∧ s.pose.solution ≠ 0) ∧
    (∃ (s : State) (e : Nat), s.pose.lastEpoch = some e ∧ s.pose.solution = 5 ∧ s.pose.drLimited = false) ∧
    (∃ (s : State), s.pose.baseSt = 1 ∧ roleOf s = 1) ∧
    (∃ (hdr : Nat) (s : State), roleOf s = 1 ∧ s.pose.baseSt = 2 ∧ s.pose.corrSub = false ∧ s.net.group = 0 ∧ s.pose.corrSf = none) ∧
    (∃ (b : List Byte) (s : State), roleOf s = 1 ∧ s.pose.baseSt = 2 ∧ s.pose.corrSub = false ∧ s.net.group = 0 ∧ systemOn s 1 = false) := by
  refine ⟨?_, ?_, ?_, ?_, ?_, ?_, ?_, ?_, ?_, ?_, ?_, ?_, ?_, ?_, ?_, ?_, ?_, ?_⟩
  · exact ⟨{ t := 0, avail := 1 }, ({ ready with pose.nav := some {}, gnss.obsAt := some 0 } : State), by decide +kernel⟩
  · exact ⟨{ t := 0, faulty := true }, ({ ready with gnss.obsAt := some 0 } : State), by decide +kernel⟩
  · exact ⟨0, ({ ready with gnss.obsAt := some 0 } : State), by decide +kernel⟩
  · exact ⟨({ ready with pose.rtcmIn := [[0]] } : State), ((({ ready with pose.rtcmIn := [[0]] } : State)).pose.rtcmIn).head (by decide +kernel), ((({ ready with pose.rtcmIn := [[0]] } : State)).pose.rtcmIn).tail, by decide +kernel⟩
  · exact ⟨({ ready with pose.rtcmIn := [aRtcm [0x44, 0xC0, 0]] } : State), aRtcm [0x44, 0xC0, 0], (rtcmPayload (aRtcm [0x44, 0xC0, 0])).get (by decide +kernel), [], by decide +kernel⟩
  · exact ⟨({ ready with pose.rtcmIn := [aRtcm [0x3E, 0xD0, 0]] } : State), aRtcm [0x3E, 0xD0, 0], (rtcmPayload (aRtcm [0x3E, 0xD0, 0])).get (by decide +kernel), [], by decide +kernel⟩
  · exact ⟨({ ready with pose.rtcmIn := [aRtcm [0x43, 0x50, 0]], pose.locked := true, pose.station := some 0 } : State), aRtcm [0x43, 0x50, 0], (rtcmPayload (aRtcm [0x43, 0x50, 0])).get (by decide +kernel), [], by decide +kernel⟩
  · exact ⟨({ ready with pose.rtcmIn := [aRtcm [0x4C, 0xE0, 0]], pose.locked := true, pose.station := some 0 } : State), aRtcm [0x4C, 0xE0, 0], (rtcmPayload (aRtcm [0x4C, 0xE0, 0])).get (by decide +kernel), [], by decide +kernel⟩
  · exact ⟨(gave 2 (aRtcm [0x3E, 0xD0, 0]) ({ ready with pose.corrSource := 1 } : State)), ((takeS0 2 ((gave 2 (aRtcm [0x3E, 0xD0, 0]) ({ ready with pose.corrSource := 1 } : State)))).get (by decide +kernel)).2, ((takeS0 2 ((gave 2 (aRtcm [0x3E, 0xD0, 0]) ({ ready with pose.corrSource := 1 } : State)))).get (by decide +kernel)).1, (rtcmPayload (((takeS0 2 ((gave 2 (aRtcm [0x3E, 0xD0, 0]) ({ ready with pose.corrSource := 1 } : State)))).get (by decide +kernel)).1).payload).get (by decide +kernel), by decide +kernel⟩
  · exact ⟨base, false, by decide +kernel⟩
  · exact ⟨({ ready with pose.corrAt := some 0 } : State), ((({ ready with pose.corrAt := some 0 } : State)).pose.corrAt).get (by decide +kernel), by decide +kernel⟩
  · exact ⟨[], {}, ((({ ready with pose.imuCfg := some (List.replicate 44 0), pose.nav := some {} } : State)).pose.nav).get (by decide +kernel), ({ ready with pose.imuCfg := some (List.replicate 44 0), pose.nav := some {} } : State), ((({ ready with pose.imuCfg := some (List.replicate 44 0), pose.nav := some {} } : State)).pose.imuCfg).get (by decide +kernel), by decide +kernel⟩
  · exact ⟨({ ready with pose.imuCfg := some [] } : State), ((({ ready with pose.imuCfg := some [] } : State)).pose.imuCfg).get (by decide +kernel), by decide +kernel⟩
  · exact ⟨({ ready with pose.lastEpoch := some 0, pose.solution := 1, pose.nav := some {} } : State), ((({ ready with pose.lastEpoch := some 0, pose.solution := 1, pose.nav := some {} } : State)).pose.lastEpoch).get (by decide +kernel), by decide +kernel⟩
  · exact ⟨({ ready with pose.lastEpoch := some 0, pose.solution := 5 } : State), ((({ ready with pose.lastEpoch := some 0, pose.solution := 5 } : State)).pose.lastEpoch).get (by decide +kernel), by decide +kernel⟩
  · exact ⟨({ base with pose.baseSt := 1 } : State), by decide +kernel⟩
  · exact ⟨0, ({ base with pose.baseSt := 2 } : State), by decide +kernel⟩
  · exact ⟨[], ({ base with pose.baseSt := 2, gnss.systems := 1 } : State), by decide +kernel⟩

theorem test_witness_PoseAndBaseCommands :
    (∃ (c : Cmd) (s : State) (p : List Byte), admitted 0x0401 38 0 none c s ∧ prmOf c = p ∧ uAt p 36 1 ≤ 15 ∧ uAt p 37 1 ≤ 3 ∧ anyCellOn s = false ∧ (∀ x y z : Int, x = iAt p 12 4 - iAt p 0 4 → y = iAt p 16 4 - iAt p 4 4 → z = iAt p 20 4 - iAt p 8 4 → bit (uAt p 37 1) 0 = true → 300 ^ 2 ≤ x * x + y * y + z * z ∧ x * x + y * y + z * z ≤ 10000 ^ 2)) ∧
    (∃ (c : Cmd) (s : State) (p : List Byte), admitted 0x0402 14 0 none c s ∧ prmOf c = p ∧ within 150 1000 (uAt p 0 2) = true ∧ within 150 1000 (uAt p 2 2) = true ∧ within 990000000 999999000 (uAt p 4 4) = true ∧ within 4 32 (uAt p 8 1) = true ∧ within 1 20 (uAt p 9 1) = true ∧ within 5 100 (uAt p 10 2) = true ∧ within 1 60 (uAt p 12 2) = true) ∧
    (∃ (c : Cmd) (s : State) (p : List Byte), admitted 0x0403 20 0 none c s ∧ prmOf c = p ∧ within 10 5000 (uAt p 0 4) = true ∧ within 596524 119304647 (uAt p 4 4) = true ∧ uAt p 8 4 ≤ 10000 ∧ within 300 700 (uAt p 12 2) = true ∧ uAt p 14 2 ≤ 1000 ∧ within 100 5000 (uAt p 16 2) = true ∧ uAt p 18 2 ≤ 5000) ∧
    (∃ (c : Cmd) (s : State) (p : List Byte), admitted 0x0404 44 0 none c s ∧ prmOf c = p ∧ (uAt p 0 1 = 0 ∨ uAt p 0 1 = 3) ∧ within 1 100 (uAt p 1 1) = true ∧ uAt p 2 1 ≤ 2 ∧ within 1 4 (uAt p 3 1) = true ∧ within 100 2000 (uAt p 4 2) = true ∧ zeros p 6 2 = true ∧ uAt p 18 1 ≤ 2 ∧ uAt p 19 1 ≤ 1 ∧ uAt p 28 1 < 64 ∧ uAt p 29 1 < 8 ∧ zeros p 30 2 = true ∧ (∀ k < 3, uAt p 28 1 / 4 ^ k % 4 < 3) ∧ s.pose.install.isSome = true ∧ s.pose.imuPresent = true) ∧
    (∃ (c : Cmd) (s : State) (p : List Byte), admitted 0x0404 44 0 none c s ∧ prmOf c = p ∧ (uAt p 0 1 = 0 ∨ uAt p 0 1 = 3) ∧ within 1 100 (uAt p 1 1) = true ∧ uAt p 2 1 ≤ 2 ∧ within 1 4 (uAt p 3 1) = true ∧ within 100 2000 (uAt p 4 2) = true ∧ zeros p 6 2 = true ∧ uAt p 18 1 ≤ 2 ∧ uAt p 19 1 ≤ 1 ∧ uAt p 28 1 < 64 ∧ uAt p 29 1 < 8 ∧ zeros p 30 2 = true ∧ (∀ k < 3, uAt p 28 1 / 4 ^ k % 4 < 3) ∧ (s.pose.install = none ∨ s.pose.imuPresent = false)) ∧
    (∃ (c : Cmd) (s : State) (p : List Byte), admitted 0x0405 7 0 none c s ∧ prmOf c = p ∧ uAt p 0 1 ≤ 3 ∧ within 1 4 (uAt p 1 1) = true ∧ within 1 32 (uAt p 6 1) = true) ∧
    (∃ (c : Cmd) (s : State) (p : List Byte), admitted 0x0406 10 0 (some 0) c s ∧ prmOf c = p ∧ uAt p 0 1 ≤ 2 ∧ zeros p 1 3 = true ∧ within 1000 60000 (uAt p 4 4) = true ∧ (uAt p 8 2 = 0xFFFF ∨ uAt p 8 2 ≤ 4095)) ∧
    (∃ (c : Cmd) (s : State), admitted 0x0407 0 33 none c s) ∧
    (∃ (c : Cmd) (s : State), admitted 0x0408 1 0 none c s ∧ uAt (prmOf c) 0 1 ≤ 100) ∧
    (∃ (c : Cmd) (s : State) (p : List Byte) (r : PoseRec), admitted 0x0409 24 29 (some 0) c s ∧ prmOf c = p ∧ dtOk p 0 = true ∧ s.pose.ref = some r ∧ inHorizon r (dtAt p 0) = true) ∧
    (∃ (c : Cmd) (s : State) (p : List Byte) (r : PoseRec), admitted 0x0409 24 29 (some 0) c s ∧ prmOf c = p ∧ dtOk p 0 = true ∧ s.pose.ref = some r ∧ inHorizon r (dtAt p 0) = false) ∧
    (∃ (c : Cmd) (s : State), admitted 0x040A 1 0 none c s ∧ uAt (prmOf c) 0 1 ≤ 1 ∧ anyCellOn s = false) ∧
    (∃ (c : Cmd) (s : State) (p : List Byte), admitted 0x040B 44 0 none c s ∧ prmOf c = p ∧ uAt p 4 1 ≤ 3 ∧ zeros p 5 1 = true ∧ s.pose.pcv = []) ∧
    (∃ (c : Cmd) (s : State), admitted 0x040F 1 0 none c s ∧ uAt (prmOf c) 0 1 ≤ 1) ∧
    (∃ (c : Cmd) (s : State), admitted 0x0410 2 0 none c s ∧ uAt (prmOf c) 0 1 ≤ 31 ∧ within 1 10 (uAt (prmOf c) 1 1) = true) ∧
    (∃ (c : Cmd) (s : State) (p : List Byte), admitted 0x040C 28 0 (some 1) c s ∧ prmOf c = p ∧ uAt p 26 2 ≤ 4095 ∧ s.pose.standalone = none ∧ s.power.pfwAt = none ∧ 3 ≤ s.journal.erased.length ∧ s.journal.progFault = false) ∧
    (∃ (c : Cmd) (s : State) (p : List Byte) (q : Int × Int × Int), admitted 0x040C 28 0 (some 1) c s ∧ prmOf c = p ∧ uAt p 26 2 ≤ 4095 ∧ s.pose.standalone = some q ∧ 10000 * s.pose.refMonM < ecefDist (iAt p 0 8, iAt p 8 8, iAt p 16 8) q) ∧
    (∃ (c : Cmd) (s : State) (p : List Byte), admitted 0x040D 10 0 (some 1) c s ∧ prmOf c = p ∧ within 60 86400 (uAt p 0 4) = true ∧ within 100 10000 (uAt p 4 4) = true ∧ uAt p 8 2 ≤ 4095) ∧
    (∃ (c : Cmd) (s : State) (p : List Byte), admitted 0x040E 3 0 (some 1) c s ∧ prmOf c = p ∧ within 1 10 (uAt p 0 1) = true ∧ within 1 60 (uAt p 1 1) = true ∧ within 1 100 (uAt p 2 1) = true) := by
  refine ⟨?_, ?_, ?_, ?_, ?_, ?_, ?_, ?_, ?_, ?_, ?_, ?_, ?_, ?_, ?_, ?_, ?_, ?_, ?_⟩
  · exact ⟨cmd 38 38 [], ready, prmOf (cmd 38 38 []), by unfold admitted; and_intros <;> first | decide +kernel | rfl | exact fun x y z _ _ _ h => absurd h (by decide +kernel)⟩
  · exact ⟨cmd 14 14 [(0, 2, 150), (2, 2, 150), (4, 4, 990000000), (8, 1, 4), (9, 1, 1), (10, 2, 5), (12, 2, 1)], ready, prmOf (cmd 14 14 [(0, 2, 150), (2, 2, 150), (4, 4, 990000000), (8, 1, 4), (9, 1, 1), (10, 2, 5), (12, 2, 1)]), by unfold admitted; decide +kernel⟩
  · exact ⟨cmd 20 20 [(0, 4, 10), (4, 4, 596524), (12, 2, 300), (16, 2, 100)], ready, prmOf (cmd 20 20 [(0, 4, 10), (4, 4, 596524), (12, 2, 300), (16, 2, 100)]), by unfold admitted; decide +kernel⟩
  · exact ⟨cmd 44 44 [(1, 1, 1), (3, 1, 1), (4, 2, 100)], ({ ready with pose.imuPresent := true, pose.install := some [] } : State), prmOf (cmd 44 44 [(1, 1, 1), (3, 1, 1), (4, 2, 100)]), by unfold admitted; decide +kernel⟩
  · exact ⟨cmd 44 44 [(1, 1, 1), (3, 1, 1), (4, 2, 100)], ready, prmOf (cmd 44 44 [(1, 1, 1), (3, 1, 1), (4, 2, 100)]), by unfold admitted; decide +kernel⟩
  · exact ⟨cmd 7 7 [(1, 1, 1), (6, 1, 1)], ready, prmOf (cmd 7 7 [(1, 1, 1), (6, 1, 1)]), by unfold admitted; decide +kernel⟩
  · exact ⟨cmd 10 10 [(4, 4, 1000)], ready, prmOf (cmd 10 10 [(4, 4, 1000)]), by unfold admitted; decide +kernel⟩
  · exact ⟨cmd 0 33 [], ready, by unfold admitted; decide +kernel⟩
  · exact ⟨cmd 1 1 [], ready, by unfold admitted; decide +kernel⟩
  · exact ⟨cmd 24 29 [], ({ ready with pose.ref := some {} } : State), prmOf (cmd 24 29 []), ((({ ready with pose.ref := some {} } : State)).pose.ref).get (by decide +kernel), by unfold admitted; decide +kernel⟩
  · exact ⟨cmd 24 29 [(6, 6, 1)], ({ ready with pose.ref := some {} } : State), prmOf (cmd 24 29 [(6, 6, 1)]), ((({ ready with pose.ref := some {} } : State)).pose.ref).get (by decide +kernel), by unfold admitted; decide +kernel⟩
  · exact ⟨cmd 1 1 [], ready, by unfold admitted; decide +kernel⟩
  · exact ⟨cmd 44 44 [], ready, prmOf (cmd 44 44 []), by unfold admitted; decide +kernel⟩
  · exact ⟨cmd 1 1 [], ready, by unfold admitted; decide +kernel⟩
  · exact ⟨cmd 2 2 [(1, 1, 1)], ready, by unfold admitted; decide +kernel⟩
  · exact ⟨cmd 28 28 [], base, prmOf (cmd 28 28 []), by unfold admitted; decide +kernel⟩
  · exact ⟨cmd 28 28 [], ({ base with pose.standalone := some (0, 0, 7 * 10 ^ 10) } : State), prmOf (cmd 28 28 []), (0, 0, 7 * 10 ^ 10), by unfold admitted; decide +kernel⟩
  · exact ⟨cmd 10 10 [(0, 4, 60), (4, 4, 100)], base, prmOf (cmd 10 10 [(0, 4, 60), (4, 4, 100)]), by unfold admitted; decide +kernel⟩
  · exact ⟨cmd 3 3 [(0, 1, 1), (1, 1, 1), (2, 1, 1)], base, prmOf (cmd 3 3 [(0, 1, 1), (1, 1, 1), (2, 1, 1)]), by unfold admitted; decide +kernel⟩

theorem test_witness_CellTaskEvents :
    (∃ (t : Nat) (b : Nat) (s : State), tasksRun s = true ∧ nextB s = some b ∧ (s.cell.snap.filter (fun e => bit e.2.flags 0)).any (fun e => (poseInstants s b e.2).any (fun x => decide (x ≤ t + us1) && decide (t ≤ x + us1))) = true) ∧
    (∃ (loop : Nat) (pos : Nat) (b : Nat) (ix : Nat) (c : Cell) (r : PoseRec) (s : State), nextB s = some b ∧ s.pose.ref = some r ∧ tasksRun s = true ∧ s.cell.evaled.contains (64 * loop + pos) = false ∧ s.cell.snap.filter (fun e => bit e.2.flags 0 && e.2.channel / 8 % 1024 == 64 * loop + pos) = [(ix, c)] ∧ (poseInstants s b c).all (batchDone s) = true ∧ readsReady s r b c = true) ∧
    (∃ (n : Nat) (b : Nat) (s : State), nextB s = some b ∧ tasksRun s = true ∧ (cellNodes s.cell.snap).filter (fun k => k / 64 == n) ≠ [] ∧ (∀ k ∈ cellNodes s.cell.snap, k / 64 = n → k ∈ s.cell.evaled) ∧ s.cell.packed.any (·.1 == n) = false) ∧
    (∃ (s : State), tasksRun s = true ∧ s.cell.gateAt = none ∧ (∀ n ∈ cellLoops s.cell.snap, s.cell.packed.any (·.1 == n) = true)) ∧
    (∃ (pace : Nat) (cap : Nat) (less : Nat) (b : Nat) (s : State), s.time.lastBoundary = some b ∧ s.cell.decided = false ∧ roleOf s = 0 ∧ s.power.st = Power.spring ∧ stopInForce s = true) ∧
    (∃ (tx : Int) (ty : Int) (tide : Nat) (ks : List Nat) (s : State), s.cell.writes.find? (fun w => w.1 == tx && w.2.1 == ty) = some (tx, ty, tide, ks) ∧ inExtent s tx ty = true ∧ s.net.group = 0 ∧ (∃ p, planeOf s 0 tx ty = some p ∧ p.cache.isSome = true)) ∧
    (∃ (m : Manual) (k : Nat) (s : State), s.cell.manuals.find? (fun x => x.cell == m.cell) = some m ∧ m.at_ = some k) := by
  refine ⟨?_, ?_, ?_, ?_, ?_, ?_, ?_⟩
  · exact ⟨tideP ready, (nextB (inJob)).get (by decide +kernel), inJob, by decide +kernel⟩
  · exact ⟨0, 0, (nextB (({ inJob with cell.snap := [(0, { aCell with kind := 4 })], pose.ref := some {}, cell.batches := [tideP ready, 2 * tideP ready] } : State))).get (by decide +kernel), 0, { aCell with kind := 4 }, ((({ inJob with cell.snap := [(0, { aCell with kind := 4 })], pose.ref := some {}, cell.batches := [tideP ready, 2 * tideP ready] } : State)).pose.ref).get (by decide +kernel), ({ inJob with cell.snap := [(0, { aCell with kind := 4 })], pose.ref := some {}, cell.batches := [tideP ready, 2 * tideP ready] } : State), by decide +kernel⟩
  · exact ⟨0, (nextB (({ inJob with cell.evaled := [0] } : State))).get (by decide +kernel), ({ inJob with cell.evaled := [0] } : State), by decide +kernel⟩
  · exact ⟨({ inJob with cell.snap := [] } : State), by decide +kernel⟩
  · exact ⟨0, 0, 0, ((({ inJob with stop.st := .inForce } : State)).time.lastBoundary).get (by decide +kernel), ({ inJob with stop.st := .inForce } : State), by decide +kernel⟩
  · exact ⟨0, 0, 0, [], ({ inJob with cell.writes := [(0, 0, 0, [])] } : State), by and_intros <;> first | decide +kernel | exact ⟨_, rfl, rfl⟩⟩
  · exact ⟨{ cell := 0, mode := 1, duty := 0, ms := 1, at_ := some 5 }, 5, ({ ready with cell.manuals := [{ cell := 0, mode := 1, duty := 0, ms := 1, at_ := some 5 }] } : State), by decide +kernel⟩

theorem test_witness_CellCommands :
    (∃ (c : Cmd) (s : State) (p : List Byte) (ix : Nat), admitted 0x0501 48 2 (some 0) c s ∧ prmOf c = p ∧ cellOk p = true ∧ firstFree 4096 s.cell.cells = some ix ∧ (bit (cellOf p).flags 0 = true → channelFault s none (cellOf p) = none) ∧ (cellOf p).fadeOn = 0 ∧ (cellOf p).fadeOff = 0) ∧
    (∃ (c : Cmd) (s : State) (p : List Byte), admitted 0x0501 48 2 (some 0) c s ∧ prmOf c = p ∧ cellOk p = true ∧ firstFree 4096 s.cell.cells = none) ∧
    (∃ (c : Cmd) (s : State) (p : List Byte) (o : Cell), admitted 0x0502 52 0 (some 0) c s ∧ prmOf c = p ∧ tget s.cell.cells (uAt p 0 2) = some o ∧ cellOk (p.drop 4) = true ∧ zeros p 2 2 = true ∧ o.modeNow = 0 ∧ (bit (cellOf (p.drop 4)).flags 0 = true → channelFault s (some (uAt p 0 2)) (cellOf (p.drop 4)) = none) ∧ (cellOf (p.drop 4)).fadeOn = 0 ∧ (cellOf (p.drop 4)).fadeOff = 0) ∧
    (∃ (c : Cmd) (s : State) (e : Cell), admitted 0x0503 2 64 (some 0) c s ∧ tget s.cell.cells (uAt (prmOf c) 0 2) = some e) ∧
    (∃ (c : Cmd) (s : State) (p : List Byte) (o : Cell), admitted 0x0504 2 0 (some 0) c s ∧ prmOf c = p ∧ tget s.cell.cells (uAt p 0 2) = some o ∧ o.modeNow = 0) ∧
    (∃ (c : Cmd) (s : State) (p : List Byte), admitted 0x0505 12 0 (some 0) c s ∧ prmOf c = p ∧ uAt p 0 2 ≤ 5000 ∧ uAt p 2 1 ≤ 1 ∧ within 1 50 (uAt p 3 1) = true ∧ uAt p 4 1 ≤ 90 ∧ uAt p 3 1 + 5 ≤ uAt p 4 1 ∧ zeros p 5 1 = true ∧ within 650 950 (uAt p 6 2) = true ∧ within 650 950 (uAt p 8 2) = true ∧ uAt p 6 2 ≤ uAt p 8 2 ∧ zeros p 10 2 = true) ∧
    (∃ (c : Cmd) (s : State) (p : List Byte) (e : Cell) (b : Nat) (g0 : Nat) (g1 : Nat), admitted 0x0506 20 0 (some 0) c s ∧ prmOf c = p ∧ tget s.cell.cells (uAt p 0 2) = some e ∧ b = boundaryOf s (uAt p 4 4) ∧ g0 = b + uAt p 8 2 * edgeU s ∧ g1 = g0 + uAt p 12 4 * edgeU s ∧ uAt p 2 1 < 4 ∧ e.kind ≠ 4 ∧ uAt p 8 2 < edgesPerTide s ∧ uAt p 10 2 < 4096 ∧ uAt p 12 4 ≠ 0 ∧ spotOn s e g0 < spotOff s e g1 ∧ debugHold s = false ∧ spotOn s e g0 / tideP s ≠ spotOff s e g1 / tideP s ∧ dtNow s + ns1 * s.cell.lead ≤ spotOn s e g0 / tideP s * tideP s ∧ us1 * e.latOn ≤ g0 ∧ (∀ x ∈ s.cell.spots, x.cell = uAt p 0 2 → x.g1 ≤ g0 ∨ g1 ≤ x.g0) ∧ s.cell.spots.length < 1024 ∧ (s.cell.spots.filter (·.cell == uAt p 0 2)).length < 8) ∧
    (∃ (c : Cmd) (s : State) (x : Spot), admitted 0x0507 4 0 (some 0) c s ∧ x ∈ s.cell.spots ∧ x.token = uAt (prmOf c) 0 4) ∧
    (∃ (c : Cmd) (s : State) (p : List Byte) (e : Cell), admitted 0x0508 12 0 (some 0) c s ∧ prmOf c = p ∧ tget s.cell.cells (uAt p 0 2) = some e ∧ uAt p 2 1 ≤ 2 ∧ zeros p 3 1 = true ∧ uAt p 4 2 < 4096 ∧ zeros p 6 2 = true ∧ within 1 60000 (uAt p 8 4) = true ∧ jobOpen s = false ∧ bit e.flags 0 = true ∧ startsHeld s = false) ∧
    (∃ (c : Cmd) (s : State), admitted 0x0509 0 34 (some 0) c s) ∧
    (∃ (c : Cmd) (s : State), admitted 0x050A 2 0 (some 0) c s ∧ uAt (prmOf c) 0 2 ≤ 10000) ∧
    (∃ (c : Cmd) (s : State), admitted 0x050B 0 0 (some 0) c s ∧ s.cell.lateRun = true ∧ 64 ≤ s.cell.shadow) ∧
    (∃ (c : Cmd) (s : State), admitted 0x050B 0 0 (some 0) c s ∧ s.cell.lateRun = true ∧ s.cell.shadow < 64) := by
  refine ⟨?_, ?_, ?_, ?_, ?_, ?_, ?_, ?_, ?_, ?_, ?_, ?_, ?_⟩
  · exact ⟨cmd 48 48 [(16, 2, 1), (18, 2, 1), (27, 1, 1), (36, 2, 1), (38, 2, 1)], ready, prmOf (cmd 48 48 [(16, 2, 1), (18, 2, 1), (27, 1, 1), (36, 2, 1), (38, 2, 1)]), (firstFree 4096 (ready).cell.cells).get (by decide +kernel), by unfold admitted; decide +kernel⟩
  · exact ⟨cmd 48 48 [(16, 2, 1), (18, 2, 1), (27, 1, 1), (36, 2, 1), (38, 2, 1)], ({ ready with cell.cells := (List.range' 0 4096).map (fun x => (x, aCell)) } : State), prmOf (cmd 48 48 [(16, 2, 1), (18, 2, 1), (27, 1, 1), (36, 2, 1), (38, 2, 1)]), by unfold admitted; exact ⟨by decide +kernel, by decide +kernel, by decide +kernel, full_table⟩⟩
  · exact ⟨cmd 52 52 [(20, 2, 1), (22, 2, 1), (31, 1, 1), (40, 2, 1), (42, 2, 1)], ({ ready with cell.cells := [(0, aCell)] } : State), prmOf (cmd 52 52 [(20, 2, 1), (22, 2, 1), (31, 1, 1), (40, 2, 1), (42, 2, 1)]), (tget (({ ready with cell.cells := [(0, aCell)] } : State)).cell.cells (uAt (prmOf (cmd 52 52 [(20, 2, 1), (22, 2, 1), (31, 1, 1), (40, 2, 1), (42, 2, 1)])) 0 2)).get (by decide +kernel), by unfold admitted; decide +kernel⟩
  · exact ⟨cmd 2 64 [], inJob, (tget (inJob).cell.cells (uAt (prmOf (cmd 2 64 [])) 0 2)).get (by decide +kernel), by unfold admitted; decide +kernel⟩
  · exact ⟨cmd 2 2 [], inJob, prmOf (cmd 2 2 []), (tget (inJob).cell.cells (uAt (prmOf (cmd 2 2 [])) 0 2)).get (by decide +kernel), by unfold admitted; decide +kernel⟩
  · exact ⟨cmd 12 12 [(3, 1, 1), (4, 1, 6), (6, 2, 650), (8, 2, 650)], ready, prmOf (cmd 12 12 [(3, 1, 1), (4, 1, 6), (6, 2, 650), (8, 2, 650)]), by unfold admitted; decide +kernel⟩
  · exact ⟨cmd 20 20 [(4, 4, 10), (12, 4, 1000)], inJob, prmOf (cmd 20 20 [(4, 4, 10), (12, 4, 1000)]), (tget (inJob).cell.cells (uAt (prmOf (cmd 20 20 [(4, 4, 10), (12, 4, 1000)])) 0 2)).get (by decide +kernel), boundaryOf (inJob) (uAt (prmOf (cmd 20 20 [(4, 4, 10), (12, 4, 1000)])) 4 4), (boundaryOf (inJob) (uAt (prmOf (cmd 20 20 [(4, 4, 10), (12, 4, 1000)])) 4 4)) + uAt (prmOf (cmd 20 20 [(4, 4, 10), (12, 4, 1000)])) 8 2 * edgeU (inJob), ((boundaryOf (inJob) (uAt (prmOf (cmd 20 20 [(4, 4, 10), (12, 4, 1000)])) 4 4)) + uAt (prmOf (cmd 20 20 [(4, 4, 10), (12, 4, 1000)])) 8 2 * edgeU (inJob)) + uAt (prmOf (cmd 20 20 [(4, 4, 10), (12, 4, 1000)])) 12 4 * edgeU (inJob), by unfold admitted; decide +kernel⟩
  · exact ⟨cmd 4 4 [(0, 4, 9)], ({ ready with cell.spots := [{ cell := 0, ignoreCov := false, noCredit := false, mode := 1, tide := 1, offset := 0, duty := 0, duration := 1, token := 9, g0 := 1, g1 := 2 }] } : State), { cell := 0, ignoreCov := false, noCredit := false, mode := 1, tide := 1, offset := 0, duty := 0, duration := 1, token := 9, g0 := 1, g1 := 2 }, by unfold admitted; decide +kernel⟩
  · exact ⟨cmd 12 12 [(8, 4, 1)], ({ ready with cell.cells := [(0, aCell)] } : State), prmOf (cmd 12 12 [(8, 4, 1)]), (tget (({ ready with cell.cells := [(0, aCell)] } : State)).cell.cells (uAt (prmOf (cmd 12 12 [(8, 4, 1)])) 0 2)).get (by decide +kernel), by unfold admitted; decide +kernel⟩
  · exact ⟨cmd 0 34 [], ready, by unfold admitted; decide +kernel⟩
  · exact ⟨cmd 2 2 [], ready, by unfold admitted; decide +kernel⟩
  · exact ⟨cmd 0 0 [], ({ ready with cell.lateRun := true, cell.shadow := 64 } : State), by unfold admitted; decide +kernel⟩
  · exact ⟨cmd 0 0 [], ({ ready with cell.lateRun := true } : State), by unfold admitted; decide +kernel⟩

theorem test_witness_RasterEvents :
    (∃ (s : State), s.raster.job = 4 ∧ anyCellOn s = false ∧ s.cell.nextOn = false ∧ s.cell.allOff = true ∧ s.cell.writes = []) ∧
    (∃ (s : State) (s0 : State) (p : Packet) (q : Plane), takeS0 1 s = some (p, s0) ∧ s.raster.parts = none ∧ s.raster.job = 1 ∧ 48 ≤ p.payload.length ∧ loadCause p.payload 0 s0 = none ∧ bit (uAt p.payload 7 1) 0 = true ∧ uAt p.payload 6 1 = 0 ∧ planeOf s (uAt p.payload 4 1) (iAt p.payload 8 2) (iAt p.payload 10 2) = some q) ∧
    (∃ (s : State) (s0 : State) (p : Packet), takeS0 1 s = some (p, s0) ∧ s.raster.parts = none ∧ (s.raster.job = 0 ∨ s.raster.job = 2)) ∧
    (∃ (l : LoadJob) (r : List (LoadJob × Bool)) (s : State), s.raster.loads = (l, true) :: r ∧ (l.layer ≠ 0 ∨ writePending s l.tx l.ty = false)) ∧
    (∃ (x : SaveJob) (s : State), s.raster.save = some x ∧ x.queue = [] ∧ s1RoomAll [lastPacket s x] s = true) ∧
    (∃ (x : SaveJob) (l : Nat) (tx : Int) (ty : Int) (r : List (Nat × Int × Int)) (s : State), s.raster.save = some x ∧ x.queue = (l, tx, ty) :: r ∧ s.raster.job ≠ 3 ∧ s1RoomAll (tilePackets s x.isExport 0 l tx ty) s = true ∧ (l ≠ 0 ∨ writePending s tx ty = false) ∧ (x.isExport = false ∨ notExported s l tx ty = false)) ∧
    (∃ (x : SaveJob) (l : Nat) (tx : Int) (ty : Int) (r : List (Nat × Int × Int)) (s : State), s.raster.save = some x ∧ x.queue = (l, tx, ty) :: r ∧ s.raster.job ≠ 3 ∧ s1RoomAll (tilePackets s x.isExport 0 l tx ty) s = true ∧ (l ≠ 0 ∨ writePending s tx ty = false) ∧ x.isExport = true ∧ notExported s l tx ty = true) ∧
    (∃ (d : JobDef) (k : Nat) (s : State), s.raster.jdef = some d ∧ s.raster.want = true ∧ roleOf s = 0 ∧ s.raster.wantAt = some k) ∧
    (∃ (l : Nat) (tx : Int) (ty : Int) (byTask : Bool) (wait : Nat) (p : Plane) (s : State), planeOf s l tx ty = some p ∧ p.st ≠ 3 ∧ p.cache = none ∧ (cachedLayers s).contains l = true ∧ (byTask = true ∨ prefetchNext s p = true) ∧ slotsUsed s + slotsOf l ≤ 1536) ∧
    (∃ (k : Nat) (p : Plane) (d : JobDef) (s : State), oldestDirty s.raster.planes = some (k, p) ∧ s.raster.jdef = some d) ∧
    (∃ (o : Nat) (b : List Byte) (r : List (Nat × List Byte × Bool)) (p : Plane) (s : State), s.raster.deltas = (o, b, true) :: r ∧ writePending s (iAt b 12 2) (iAt b 14 2) = false ∧ jobOpen s = false ∧ inExtent s (iAt b 12 2) (iAt b 14 2) = true ∧ planeOf s 0 (iAt b 12 2) (iAt b 14 2) = some p) ∧
    (∃ (m : Nat) (q : Int × Int × Int × Int) (t : List (Nat × (Int × Int × Int × Int) × Bool)) (s : State), s.raster.drops = (m, q, true) :: t ∧ bit m 0 = false) := by
  refine ⟨?_, ?_, ?_, ?_, ?_, ?_, ?_, ?_, ?_, ?_, ?_, ?_⟩
  · exact ⟨({ ready with raster.job := 4, cell.allOff := true } : State), by decide +kernel⟩
  · exact ⟨gave 1 (bytes 48 [(0, 4, 1), (7, 1, 1)]) { ready with raster.job := 1, raster.jdef := some aJob, raster.planes := [aPlane] }, ((takeS0 1 (gave 1 (bytes 48 [(0, 4, 1), (7, 1, 1)]) { ready with raster.job := 1, raster.jdef := some aJob, raster.planes := [aPlane] })).get (by decide +kernel)).2, ((takeS0 1 (gave 1 (bytes 48 [(0, 4, 1), (7, 1, 1)]) { ready with raster.job := 1, raster.jdef := some aJob, raster.planes := [aPlane] })).get (by decide +kernel)).1, (planeOf (gave 1 (bytes 48 [(0, 4, 1), (7, 1, 1)]) { ready with raster.job := 1, raster.jdef := some aJob, raster.planes := [aPlane] }) (uAt (((takeS0 1 (gave 1 (bytes 48 [(0, 4, 1), (7, 1, 1)]) { ready with raster.job := 1, raster.jdef := some aJob, raster.planes := [aPlane] })).get (by decide +kernel)).1).payload 4 1) (iAt (((takeS0 1 (gave 1 (bytes 48 [(0, 4, 1), (7, 1, 1)]) { ready with raster.job := 1, raster.jdef := some aJob, raster.planes := [aPlane] })).get (by decide +kernel)).1).payload 8 2) (iAt (((takeS0 1 (gave 1 (bytes 48 [(0, 4, 1), (7, 1, 1)]) { ready with raster.job := 1, raster.jdef := some aJob, raster.planes := [aPlane] })).get (by decide +kernel)).1).payload 10 2)).get (by decide +kernel), by decide +kernel⟩
  · exact ⟨gave 1 [] ready, ((takeS0 1 (gave 1 [] ready)).get (by decide +kernel)).2, ((takeS0 1 (gave 1 [] ready)).get (by decide +kernel)).1, by decide +kernel⟩
  · exact ⟨(((({ ready with raster.loads := [({ layer := 2, tx := 0, ty := 0, mode := 0, data := {} }, true)] } : State)).raster.loads).head (by decide +kernel)).1, ((({ ready with raster.loads := [({ layer := 2, tx := 0, ty := 0, mode := 0, data := {} }, true)] } : State)).raster.loads).tail, ({ ready with raster.loads := [({ layer := 2, tx := 0, ty := 0, mode := 0, data := {} }, true)] } : State), by decide +kernel⟩
  · exact ⟨((({ ready with raster.save := some { isExport := true, queue := [], tide := 1 } } : State)).raster.save).get (by decide +kernel), ({ ready with raster.save := some { isExport := true, queue := [], tide := 1 } } : State), by decide +kernel⟩
  · exact ⟨((({ ready with raster.save := some { isExport := true, queue := [(0, 0, 0)], tide := 1 }, raster.planes := [aPlane] } : State)).raster.save).get (by decide +kernel), (((((({ ready with raster.save := some { isExport := true, queue := [(0, 0, 0)], tide := 1 }, raster.planes := [aPlane] } : State)).raster.save).get (by decide +kernel)).queue).head (by decide +kernel)).1, (((((({ ready with raster.save := some { isExport := true, queue := [(0, 0, 0)], tide := 1 }, raster.planes := [aPlane] } : State)).raster.save).get (by decide +kernel)).queue).head (by decide +kernel)).2.1, (((((({ ready with raster.save := some { isExport := true, queue := [(0, 0, 0)], tide := 1 }, raster.planes := [aPlane] } : State)).raster.save).get (by decide +kernel)).queue).head (by decide +kernel)).2.2, ((((({ ready with raster.save := some { isExport := true, queue := [(0, 0, 0)], tide := 1 }, raster.planes := [aPlane] } : State)).raster.save).get (by decide +kernel)).queue).tail, ({ ready with raster.save := some { isExport := true, queue := [(0, 0, 0)], tide := 1 }, raster.planes := [aPlane] } : State), by decide +kernel⟩
  · exact ⟨((({ ready with raster.save := some { isExport := true, queue := [(0, 0, 0)], tide := 1 } } : State)).raster.save).get (by decide +kernel), (((((({ ready with raster.save := some { isExport := true, queue := [(0, 0, 0)], tide := 1 } } : State)).raster.save).get (by decide +kernel)).queue).head (by decide +kernel)).1, (((((({ ready with raster.save := some { isExport := true, queue := [(0, 0, 0)], tide := 1 } } : State)).raster.save).get (by decide +kernel)).queue).head (by decide +kernel)).2.1, (((((({ ready with raster.save := some { isExport := true, queue := [(0, 0, 0)], tide := 1 } } : State)).raster.save).get (by decide +kernel)).queue).head (by decide +kernel)).2.2, ((((({ ready with raster.save := some { isExport := true, queue := [(0, 0, 0)], tide := 1 } } : State)).raster.save).get (by decide +kernel)).queue).tail, ({ ready with raster.save := some { isExport := true, queue := [(0, 0, 0)], tide := 1 } } : State), by decide +kernel⟩
  · exact ⟨((({ inJob with raster.want := true, raster.wantAt := some 0 } : State)).raster.jdef).get (by decide +kernel), ((({ inJob with raster.want := true, raster.wantAt := some 0 } : State)).raster.wantAt).get (by decide +kernel), ({ inJob with raster.want := true, raster.wantAt := some 0 } : State), by decide +kernel⟩
  · exact ⟨0, 0, 0, true, 0, (planeOf (({ inJob with raster.planes := [{ layer := 0, tx := 0, ty := 0 }] } : State)) (0) (0) (0)).get (by decide +kernel), ({ inJob with raster.planes := [{ layer := 0, tx := 0, ty := 0 }] } : State), by decide +kernel⟩
  · exact ⟨((oldestDirty (({ inJob with raster.planes := [{ aPlane with dirtyFrom := some 0 }] } : State)).raster.planes).get (by decide +kernel)).1, ((oldestDirty (({ inJob with raster.planes := [{ aPlane with dirtyFrom := some 0 }] } : State)).raster.planes).get (by decide +kernel)).2, ((({ inJob with raster.planes := [{ aPlane with dirtyFrom := some 0 }] } : State)).raster.jdef).get (by decide +kernel), ({ inJob with raster.planes := [{ aPlane with dirtyFrom := some 0 }] } : State), by decide +kernel⟩
  · exact ⟨(((({ inJob with raster.job := 1, raster.deltas := [(0, List.replicate 48 0, true)] } : State)).raster.deltas).head (by decide +kernel)).1, (((({ inJob with raster.job := 1, raster.deltas := [(0, List.replicate 48 0, true)] } : State)).raster.deltas).head (by decide +kernel)).2.1, ((({ inJob with raster.job := 1, raster.deltas := [(0, List.replicate 48 0, true)] } : State)).raster.deltas).tail, (planeOf (({ inJob with raster.job := 1, raster.deltas := [(0, List.replicate 48 0, true)] } : State)) 0 (iAt ((((({ inJob with raster.job := 1, raster.deltas := [(0, List.replicate 48 0, true)] } : State)).raster.deltas).head (by decide +kernel)).2.1) 12 2) (iAt ((((({ inJob with raster.job := 1, raster.deltas := [(0, List.replicate 48 0, true)] } : State)).raster.deltas).head (by decide +kernel)).2.1) 14 2)).get (by decide +kernel), ({ inJob with raster.job := 1, raster.deltas := [(0, List.replicate 48 0, true)] } : State), by decide +kernel⟩
  · exact ⟨(((({ ready with raster.drops := [(2, (0, 0, 0, 0), true)] } : State)).raster.drops).head (by decide +kernel)).1, (((({ ready with raster.drops := [(2, (0, 0, 0, 0), true)] } : State)).raster.drops).head (by decide +kernel)).2.1, ((({ ready with raster.drops := [(2, (0, 0, 0, 0), true)] } : State)).raster.drops).tail, ({ ready with raster.drops := [(2, (0, 0, 0, 0), true)] } : State), by decide +kernel⟩

theorem test_witness_RasterCommands :
    (∃ (c : Cmd) (s : State) (p : List Byte) (x0 : Int) (y0 : Int) (x1 : Int) (y1 : Int), admitted 0x0601 52 0 (some 0) c s ∧ prmOf c = p ∧ s.raster.job = 0 ∧ uAt p 0 4 ≠ 0 ∧ uAt p 4 1 ≤ 4 ∧ uAt p 5 1 % 4 = 3 ∧ x0 = iAt p 28 2 ∧ y0 = iAt p 30 2 ∧ x1 = iAt p 32 2 ∧ y1 = iAt p 34 2 ∧ x0 ≤ x1 ∧ y0 ≤ y1 ∧ (x1 - x0 + 1) * (y1 - y0 + 1) ≤ 1048576 ∧ -25000000 ≤ x0 * (256 * gridMm (uAt p 4 1)) ∧ -25000000 ≤ y0 * (256 * gridMm (uAt p 4 1)) ∧ (x1 + 1) * (256 * gridMm (uAt p 4 1)) ≤ 25000000 ∧ (y1 + 1) * (256 * gridMm (uAt p 4 1)) ≤ 25000000 ∧ uAt p 6 1 ≤ 1 ∧ zeros p 7 1 = true ∧ zeros p 42 2 = true ∧ zeros p 50 2 = true ∧ within 100 2000 (uAt p 44 2) = true ∧ within 100 10000 (uAt p 46 2) = true ∧ within 20 5000 (uAt p 48 2) = true) ∧
    (∃ (c : Cmd) (s : State), admitted 0x0601 52 0 (some 0) c s ∧ s.raster.job ≠ 0) ∧
    (∃ (c : Cmd) (s : State) (e : Nat), admitted 0x0602 0 0 (some 0) c s ∧ s.raster.job = 1 ∧ startsHeld s = false ∧ noService s = false ∧ s.power.entering = none ∧ s.time.epoch = some e) ∧
    (∃ (c : Cmd) (s : State) (st : Power), admitted 0x0602 0 0 (some 0) c s ∧ s.raster.job = 1 ∧ s.power.entering = some st) ∧
    (∃ (c : Cmd) (s : State), admitted 0x0602 0 0 (some 0) c s ∧ s.raster.job = 0) ∧
    (∃ (c : Cmd) (s : State), admitted 0x0603 1 0 (some 0) c s ∧ uAt (prmOf c) 0 1 ≤ 1 ∧ s.raster.job = 3 ∧ (uAt (prmOf c) 0 1 = 1 ∨ (anyCellOn s = false ∧ s.cell.allOff = true))) ∧
    (∃ (c : Cmd) (s : State), admitted 0x0604 1 0 (some 0) c s ∧ uAt (prmOf c) 0 1 ≤ 1 ∧ s.raster.job = 1 ∧ s.raster.save = none ∧ (uAt (prmOf c) 0 1 = 1 ∨ (∀ p ∈ s.raster.planes, p.layer = 0 → p.dirtyExp = false))) ∧
    (∃ (c : Cmd) (s : State), admitted 0x0605 0 36 (some 0) c s) ∧
    (∃ (c : Cmd) (s : State) (p : List Byte) (d : JobDef), admitted 0x0606 12 0 (some 0) c s ∧ prmOf c = p ∧ s.raster.jdef = some d ∧ rectOk (rectAt p 4) = true ∧ zeros p 1 3 = true ∧ s.raster.save = none) ∧
    (∃ (c : Cmd) (s : State) (p : List Byte), admitted 0x0607 2 0 (some 0) c s ∧ prmOf c = p ∧ s.raster.jdef.isSome = true ∧ uAt p 1 1 = 1 ∧ s.raster.save = none) ∧
    (∃ (c : Cmd) (s : State) (p : List Byte), admitted 0x0608 12 0 (some 0) c s ∧ prmOf c = p ∧ s.raster.job ≠ 0 ∧ jobOpen s = false ∧ rectOk (rectAt p 4) = true ∧ uAt p 1 1 = 1 ∧ zeros p 2 2 = true) ∧
    (∃ (c : Cmd) (s : State), admitted 0x0609 0 16 (some 0) c s) ∧
    (∃ (c : Cmd) (s : State), admitted 0x060A 0 20 (some 0) c s) ∧
    (∃ (c : Cmd) (s : State) (p : List Byte) (gx : Int) (gy : Int), admitted 0x060B 12 4 (some 0) c s ∧ prmOf c = p ∧ uAt p 0 1 = 0 ∧ zeros p 1 3 = true ∧ s.raster.job ≠ 0 ∧ gx = iAt p 4 4 / (gridOf s : Int) ∧ gy = iAt p 8 4 / (gridOf s : Int)) ∧
    (∃ (c : Cmd) (s : State), admitted 0x060C 1 0 (some 0) c s ∧ uAt (prmOf c) 0 1 ≤ 1) := by
  refine ⟨?_, ?_, ?_, ?_, ?_, ?_, ?_, ?_, ?_, ?_, ?_, ?_, ?_, ?_, ?_⟩
  · exact ⟨cmd 52 52 [(0, 4, 1), (5, 1, 3), (44, 2, 100), (46, 2, 100), (48, 2, 20)], ready, prmOf (cmd 52 52 [(0, 4, 1), (5, 1, 3), (44, 2, 100), (46, 2, 100), (48, 2, 20)]), iAt (prmOf (cmd 52 52 [(0, 4, 1), (5, 1, 3), (44, 2, 100), (46, 2, 100), (48, 2, 20)])) 28 2, iAt (prmOf (cmd 52 52 [(0, 4, 1), (5, 1, 3), (44, 2, 100), (46, 2, 100), (48, 2, 20)])) 30 2, iAt (prmOf (cmd 52 52 [(0, 4, 1), (5, 1, 3), (44, 2, 100), (46, 2, 100), (48, 2, 20)])) 32 2, iAt (prmOf (cmd 52 52 [(0, 4, 1), (5, 1, 3), (44, 2, 100), (46, 2, 100), (48, 2, 20)])) 34 2, by unfold admitted; decide +kernel⟩
  · exact ⟨cmd 52 52 [], inJob, by unfold admitted; decide +kernel⟩
  · exact ⟨cmd 0 0 [], ({ inJob with raster.job := 1, time.epoch := some 0 } : State), ((({ inJob with raster.job := 1, time.epoch := some 0 } : State)).time.epoch).get (by decide +kernel), by unfold admitted; decide +kernel⟩
  · exact ⟨cmd 0 0 [], ({ ready with raster.job := 1, power.entering := some .neap } : State), .neap, by unfold admitted; decide +kernel⟩
  · exact ⟨cmd 0 0 [], ready, by unfold admitted; decide +kernel⟩
  · exact ⟨cmd 1 1 [(0, 1, 1)], inJob, by unfold admitted; decide +kernel⟩
  · exact ⟨cmd 1 1 [], ({ inJob with raster.job := 1 } : State), by unfold admitted; decide +kernel⟩
  · exact ⟨cmd 0 36 [], ready, by unfold admitted; decide +kernel⟩
  · exact ⟨cmd 12 12 [], inJob, prmOf (cmd 12 12 []), ((inJob).raster.jdef).get (by decide +kernel), by unfold admitted; decide +kernel⟩
  · exact ⟨cmd 2 2 [(1, 1, 1)], inJob, prmOf (cmd 2 2 [(1, 1, 1)]), by unfold admitted; decide +kernel⟩
  · exact ⟨cmd 12 12 [(1, 1, 1)], ({ inJob with raster.job := 1 } : State), prmOf (cmd 12 12 [(1, 1, 1)]), by unfold admitted; decide +kernel⟩
  · exact ⟨cmd 0 16 [], ready, by unfold admitted; decide +kernel⟩
  · exact ⟨cmd 0 20 [], ready, by unfold admitted; decide +kernel⟩
  · exact ⟨cmd 12 12 [], inJob, prmOf (cmd 12 12 []), iAt (prmOf (cmd 12 12 [])) 4 4 / (gridOf (inJob) : Int), iAt (prmOf (cmd 12 12 [])) 8 4 / (gridOf (inJob) : Int), by unfold admitted; decide +kernel⟩
  · exact ⟨cmd 1 1 [], ready, by unfold admitted; decide +kernel⟩

theorem test_witness_KnaniLoopEvents :
    (∃ (n : Nat) (b : Nat) (s : State), n < s.knani.loops.length ∧ nextB s = some b ∧ roleOf s = 0 ∧ s.cell.decided = true ∧ ((loopOf s n).st = 2 ∨ (loopOf s n).st = 3) ∧ (loopOf s n).flight = none) ∧
    (∃ (n : Nat) (transit : Nat) (noise : List (Nat × Nat)) (f : Flight) (s : State), n < s.knani.loops.length ∧ (loopOf s n).flight = some f ∧ (loopOf s n).st = 2 ∧ ((transit : Int) - (loopOf s n).transit).natAbs ≤ 1000) ∧
    (∃ (n : Nat) (transit : Nat) (noise : List (Nat × Nat)) (f : Flight) (s : State), n < s.knani.loops.length ∧ (loopOf s n).flight = some f ∧ (loopOf s n).st = 2 ∧ 1000 < ((transit : Int) - (loopOf s n).transit).natAbs) ∧
    (∃ (n : Nat) (f : Flight) (s : State), n < s.knani.loops.length ∧ (loopOf s n).flight = some f ∧ (loopOf s n).st = 2) ∧
    (∃ (n : Nat) (f : Flight) (s : State), n < s.knani.loops.length ∧ (loopOf s n).flight = some f ∧ (loopOf s n).st = 2 ∧ 2 ≤ (loopOf s n).silent) ∧
    (∃ (n : Nat) (h : Nat) (s : State), n < s.knani.loops.length ∧ (loopOf s n).hops = some h ∧ (loopOf s n).st = 2) ∧
    (∃ (n : Nat) (mb : Nat) (slot : Nat) (op : Nat) (tag : Nat) (m : Manage) (r : List Manage) (s : State), (loopOf s n).manage = m :: r ∧ m.why = Mgmt.host ∧ m.cmd = some (mb, slot, op, tag)) ∧
    (∃ (n : Nat) (mb : Nat) (slot : Nat) (op : Nat) (tag : Nat) (m : Manage) (s : State), (loopOf s n).manage = [m] ∧ m.why = Mgmt.host ∧ m.cmd = some (mb, slot, op, tag) ∧ m.result = 1) ∧
    (∃ (n : Nat) (rt : Nat) (r : List Nat) (s : State), n < s.knani.loops.length ∧ (loopOf s n).st = 2 ∧ (loopOf s n).full = false ∧ (loopOf s n).segNext < (loopOf s n).nodes.length) ∧
    (∃ (n : Nat) (transit : Nat) (cnt : Nat) (rts : List Nat) (masks : List Nat) (l : Loop) (s : State), n < s.knani.loops.length ∧ (loopOf s n).enum = some cnt ∧ (loopOf s n).st = 1 ∧ 1 ≤ cnt ∧ cnt ≤ 64 ∧ (loopOf s n).before = [] ∧ (loopOf s n).phys.length = cnt ∧ l = rederive { loopOf s n with count := cnt, nodes := giveSlots (bitBudget (tideP s)) ((List.range cnt).filterMap (fun k => ((loopOf s n).phys[k]?).map (fun d => nodeViewOf (segDelay (loopOf s n).phys k (rts.getD k 0)) d.idRec))), cLast := segDelay (loopOf s n).phys cnt (rts.getD cnt 0), transit := transit, transitFull := transit } ∧ timingBad l = false ∧ (((s.knani.loops.eraseIdx n).filter loopServes).map loopChannels).sum + loopChannels l ≤ 4096) ∧
    (∃ (n : Nat) (transit : Nat) (rts : List Nat) (masks : List Nat) (s : State), n < s.knani.loops.length ∧ (loopOf s n).enum = some 0 ∧ (loopOf s n).st = 1) ∧
    (∃ (n : Nat) (k : Nat) (returned : Bool) (s : State), n < s.knani.loops.length ∧ (loopOf s n).enum = some k ∧ (loopOf s n).st = 1) ∧
    (∃ (n : Nat) (k : Nat) (s : State), n < s.knani.loops.length ∧ (loopOf s n).dogAt = some k) ∧
    (∃ (b : Nat) (crc : Nat) (t : IdTrans) (r : List IdTrans) (mb : Nat) (slot : Nat) (op : Nat) (tag : Nat) (s : State), s.knani.idQ.getD b [] = t :: r ∧ t.cmd = some (mb, slot, op, tag)) ∧
    (∃ (b : Nat) (crc : Nat) (t : IdTrans) (r : List IdTrans) (mb : Nat) (slot : Nat) (op : Nat) (tag : Nat) (a : List Byte) (s : State), s.knani.idQ.getD b [] = t :: r ∧ t.cmd = some (mb, slot, op, tag)) ∧
    (∃ (b : Nat) (crc : Nat) (t : IdTrans) (r : List IdTrans) (a : List Byte) (d : List Byte) (s : State), s.knani.idQ.getD b [] = t :: r ∧ t.cmd = none ∧ b < s.knani.idRecs.length ∧ idData t a crc = some d ∧ 64 ≤ (s.knani.idPart.getD b [] ++ d).length ∧ (recOk (s.knani.idPart.getD b [] ++ d) = true → uAt (s.knani.idPart.getD b [] ++ d) 2 2 ≤ (s.knani.idPart.getD b [] ++ d).length)) ∧
    (∃ (b : Nat) (crc : Nat) (t : IdTrans) (r : List IdTrans) (a : List Byte) (d : List Byte) (s : State), s.knani.idQ.getD b [] = t :: r ∧ t.cmd = none ∧ b < s.knani.idPart.length ∧ idData t a crc = some d ∧ recOk (s.knani.idPart.getD b [] ++ d) = true ∧ (s.knani.idPart.getD b [] ++ d).length < min 4096 (uAt (s.knani.idPart.getD b [] ++ d) 2 2)) := by
  refine ⟨?_, ?_, ?_, ?_, ?_, ?_, ?_, ?_, ?_, ?_, ?_, ?_, ?_, ?_, ?_, ?_, ?_⟩
  · exact ⟨0, (nextB (({ looped aLoop with time.lastBoundary := some 0, cell.decided := true } : State))).get (by decide +kernel), ({ looped aLoop with time.lastBoundary := some 0, cell.decided := true } : State), by decide +kernel⟩
  · exact ⟨0, 0, [], ((loopOf (looped { aLoop with flight := some { tide := 1, boundary := 0, slots := [(0, [])] } }) (0)).flight).get (by decide +kernel), looped { aLoop with flight := some { tide := 1, boundary := 0, slots := [(0, [])] } }, by decide +kernel⟩
  · exact ⟨0, 2000, [], ((loopOf (looped { aLoop with flight := some { tide := 0, boundary := 0, slots := [] } }) (0)).flight).get (by decide +kernel), looped { aLoop with flight := some { tide := 0, boundary := 0, slots := [] } }, by decide +kernel⟩
  · exact ⟨0, ((loopOf (looped { aLoop with flight := some { tide := 1, boundary := 0, slots := [(0, [])] } }) (0)).flight).get (by decide +kernel), looped { aLoop with flight := some { tide := 1, boundary := 0, slots := [(0, [])] } }, by decide +kernel⟩
  · exact ⟨0, ((loopOf (looped { aLoop with flight := some { tide := 1, boundary := 0, slots := [(0, [])] }, silent := 2 }) (0)).flight).get (by decide +kernel), looped { aLoop with flight := some { tide := 1, boundary := 0, slots := [(0, [])] }, silent := 2 }, by decide +kernel⟩
  · exact ⟨0, ((loopOf (looped { aLoop with hops := some 1 }) (0)).hops).get (by decide +kernel), looped { aLoop with hops := some 1 }, by decide +kernel⟩
  · exact ⟨0, (((((loopOf (looped { aLoop with manage := [aManage] }) (0)).manage).head (by decide +kernel)).cmd).get (by decide +kernel)).1, (((((loopOf (looped { aLoop with manage := [aManage] }) (0)).manage).head (by decide +kernel)).cmd).get (by decide +kernel)).2.1, (((((loopOf (looped { aLoop with manage := [aManage] }) (0)).manage).head (by decide +kernel)).cmd).get (by decide +kernel)).2.2.1, (((((loopOf (looped { aLoop with manage := [aManage] }) (0)).manage).head (by decide +kernel)).cmd).get (by decide +kernel)).2.2.2, ((loopOf (looped { aLoop with manage := [aManage] }) (0)).manage).head (by decide +kernel), ((loopOf (looped { aLoop with manage := [aManage] }) (0)).manage).tail, looped { aLoop with manage := [aManage] }, by decide +kernel⟩
  · exact ⟨0, 0, 0, 0x0706, 7, { aManage with result := 1 }, looped { aLoop with manage := [{ aManage with result := 1 }] }, by decide +kernel⟩
  · exact ⟨0, 0, [], looped aLoop, by decide +kernel⟩
  · exact ⟨0, 0, 1, [], [], rederive { aLoop with st := 1, enum := some 1, count := 1, nodes := giveSlots (bitBudget (tideP ready)) [nodeViewOf 0 []], cLast := 0, transit := 0, transitFull := 0 }, looped { aLoop with st := 1, enum := some 1 }, by decide +kernel⟩
  · exact ⟨0, 0, [], [], looped { aLoop with st := 1, enum := some 0 }, by decide +kernel⟩
  · exact ⟨0, ((loopOf (looped { aLoop with st := 1, enum := some 0 }) (0)).enum).get (by decide +kernel), false, looped { aLoop with st := 1, enum := some 0 }, by decide +kernel⟩
  · exact ⟨0, ((loopOf (looped { aLoop with dogAt := some 5 }) (0)).dogAt).get (by decide +kernel), looped { aLoop with dogAt := some 5 }, by decide +kernel⟩
  · exact ⟨0, 0, ((({ ready with knani.idQ := [[{ op := 0, addr := 0, len := 1, cmd := some (0, 0, 0x0706, 7) }]] } : State)).knani.idQ.getD (0) []).head (by decide +kernel), ((({ ready with knani.idQ := [[{ op := 0, addr := 0, len := 1, cmd := some (0, 0, 0x0706, 7) }]] } : State)).knani.idQ.getD (0) []).tail, (((((({ ready with knani.idQ := [[{ op := 0, addr := 0, len := 1, cmd := some (0, 0, 0x0706, 7) }]] } : State)).knani.idQ.getD (0) []).head (by decide +kernel)).cmd).get (by decide +kernel)).1, (((((({ ready with knani.idQ := [[{ op := 0, addr := 0, len := 1, cmd := some (0, 0, 0x0706, 7) }]] } : State)).knani.idQ.getD (0) []).head (by decide +kernel)).cmd).get (by decide +kernel)).2.1, (((((({ ready with knani.idQ := [[{ op := 0, addr := 0, len := 1, cmd := some (0, 0, 0x0706, 7) }]] } : State)).knani.idQ.getD (0) []).head (by decide +kernel)).cmd).get (by decide +kernel)).2.2.1, (((((({ ready with knani.idQ := [[{ op := 0, addr := 0, len := 1, cmd := some (0, 0, 0x0706, 7) }]] } : State)).knani.idQ.getD (0) []).head (by decide +kernel)).cmd).get (by decide +kernel)).2.2.2, ({ ready with knani.idQ := [[{ op := 0, addr := 0, len := 1, cmd := some (0, 0, 0x0706, 7) }]] } : State), by decide +kernel⟩
  · exact ⟨0, 0, { op := 1, addr := 0, len := 64, cmd := some (0, 0, 6, 7) }, [], 0, 0, 6, 7, [], ({ ready with knani.idQ := [[{ op := 1, addr := 0, len := 64, cmd := some (0, 0, 6, 7) }]] } : State), by decide +kernel⟩
  · exact ⟨0, (crc16 anId), { op := 1, addr := 0, len := 64 }, [], anId, anId, ({ ready with knani.idQ := [[{ op := 1, addr := 0, len := 64 }]] } : State), by decide +kernel⟩
  · exact ⟨0, (crc16 (let b := bytes 62 [(0, 2, 1), (2, 2, 128), (8, 8, 5)]; b ++ le 2 (crc16 b))), { op := 1, addr := 0, len := 64 }, [], (let b := bytes 62 [(0, 2, 1), (2, 2, 128), (8, 8, 5)]; b ++ le 2 (crc16 b)), (let b := bytes 62 [(0, 2, 1), (2, 2, 128), (8, 8, 5)]; b ++ le 2 (crc16 b)), ({ ready with knani.idQ := [[{ op := 1, addr := 0, len := 64 }]] } : State), by decide +kernel⟩

theorem test_witness_KnaniNodeEvents :
    (∃ (n : Nat) (pos : Nat) (x : NodeSense) (f : Flight) (d : NodeDev) (q : Nat) (words : List Nat) (s : State), n < s.knani.loops.length ∧ (loopOf s n).flight = some f ∧ physOf s n pos = some d ∧ d.pos = some q ∧ tget f.slots pos = some words ∧ tget f.status pos = none) ∧
    (∃ (n : Nat) (pos : Nat) (b : Nat) (d : NodeDev) (s : State), n < s.knani.loops.length ∧ physOf s n pos = some d ∧ d.latchAt = some b ∧ d.st = 0) ∧
    (∃ (n : Nat) (pos : Nat) (k : Nat) (d : NodeDev) (s : State), n < s.knani.loops.length ∧ physOf s n pos = some d ∧ d.commitAt = some k ∧ d.st < 2) ∧
    (∃ (n : Nat) (pos : Nat) (s : State), pos < (loopOf s n).phys.length) ∧
    (∃ (n : Nat) (pos : Nat) (s : State), pos < (loopOf s n).phys.length) ∧
    (∃ (n : Nat) (pos : Nat) (k : Nat) (v : NodeView) (w : ChanView) (s : State), n < s.knani.loops.length ∧ viewOf s (chanCode n pos k) = some w ∧ nodeOf s (chanCode n pos k) = some v ∧ n < 16 ∧ pos < 64 ∧ k < 8 ∧ (loopOf s n).st = 2 ∧ v.slotted = true ∧ bit v.features 2 = true) ∧
    (∃ (n : Nat) (pos : Nat) (k : Nat) (r : List Byte) (d : NodeDev) (v : NodeView) (w : ChanView) (s : State), n < s.knani.loops.length ∧ n < 16 ∧ pos < 64 ∧ k < 8 ∧ physOf s n pos = some d ∧ viewOf s (chanCode n pos k) = some w ∧ nodeOf s (chanCode n pos k) = some v ∧ (loopOf s n).st = 2 ∧ v.slotted = true ∧ recOk r = true ∧ (∀ x, modOf d k = some x → recSerial x ≠ recSerial r ∨ recType x ≠ recType r)) ∧
    (∃ (n : Nat) (pos : Nat) (d : NodeDev) (s : State), n < s.knani.loops.length ∧ physOf s n pos = some d) ∧
    (∃ (n : Nat) (pos : Nat) (k : Nat) (w : Nat) (e : Nat) (d : NodeDev) (s : State), n < s.knani.loops.length ∧ physOf s n pos = some d ∧ (chanOf d k).next = some (w, e)) ∧
    (∃ (n : Nat) (k : Nat) (idRec : List Byte) (mods : List (Option (List Byte))) (s : State), (loopOf s n).enum = some k ∧ (loopOf s n).st = 1) ∧
    (∃ (n : Nat) (echo : Nat) (q : Nat) (intact : Bool) (m : Manage) (r : List Manage) (d : NodeDev) (s : State), (loopOf s n).manage = m :: r ∧ physOf s n m.pos = some d ∧ d.pos = some q ∧ m.result = 0) ∧
    (∃ (n : Nat) (pos : Nat) (k : Nat) (mA : Nat) (d : NodeDev) (s : State), n < s.knani.loops.length ∧ physOf s n pos = some d ∧ k < d.chans.length ∧ chanCfg d k 0x0C 2 < mA ∧ (chanOf d k).mode ≠ 0 ∧ (chanOf d k).fault ≠ 4) ∧
    (∃ (n : Nat) (pos : Nat) (temp : Int) (d : NodeDev) (s : State), n < s.knani.loops.length ∧ physOf s n pos = some d ∧ (nodeShut d : Int) ≤ temp) := by
  refine ⟨?_, ?_, ?_, ?_, ?_, ?_, ?_, ?_, ?_, ?_, ?_, ?_, ?_⟩
  · exact ⟨0, 0, {}, ((loopOf (looped { aLoop with flight := some { tide := 1, boundary := 0, slots := [(0, [])] } }) (0)).flight).get (by decide +kernel), (physOf (looped { aLoop with flight := some { tide := 1, boundary := 0, slots := [(0, [])] } }) (0) (0)).get (by decide +kernel), (((physOf (looped { aLoop with flight := some { tide := 1, boundary := 0, slots := [(0, [])] } }) (0) (0)).get (by decide +kernel)).pos).get (by decide +kernel), (tget (((loopOf (looped { aLoop with flight := some { tide := 1, boundary := 0, slots := [(0, [])] } }) (0)).flight).get (by decide +kernel)).slots (0)).get (by decide +kernel), looped { aLoop with flight := some { tide := 1, boundary := 0, slots := [(0, [])] } }, by decide +kernel⟩
  · exact ⟨0, 0, (((physOf (looped aLoop) (0) (0)).get (by decide +kernel)).latchAt).get (by decide +kernel), (physOf (looped aLoop) (0) (0)).get (by decide +kernel), looped aLoop, by decide +kernel⟩
  · exact ⟨0, 0, (((physOf (looped aLoop) (0) (0)).get (by decide +kernel)).commitAt).get (by decide +kernel), (physOf (looped aLoop) (0) (0)).get (by decide +kernel), looped aLoop, by decide +kernel⟩
  · exact ⟨0, 0, looped aLoop, by decide +kernel⟩
  · exact ⟨0, 0, looped aLoop, by decide +kernel⟩
  · exact ⟨0, 0, 0, (nodeOf (looped aLoop) (chanCode (0) (0) (0))).get (by decide +kernel), (viewOf (looped aLoop) (chanCode (0) (0) (0))).get (by decide +kernel), looped aLoop, by decide +kernel⟩
  · exact ⟨0, 0, 0, (let b := bytes 62 [(0, 2, 1), (2, 2, 128), (8, 8, 5)]; b ++ le 2 (crc16 b)), (physOf (looped { aLoop with nodes := [{ aView with chans := List.replicate 8 {} }] }) (0) (0)).get (by decide +kernel), (nodeOf (looped { aLoop with nodes := [{ aView with chans := List.replicate 8 {} }] }) (chanCode (0) (0) (0))).get (by decide +kernel), (viewOf (looped { aLoop with nodes := [{ aView with chans := List.replicate 8 {} }] }) (chanCode (0) (0) (0))).get (by decide +kernel), looped { aLoop with nodes := [{ aView with chans := List.replicate 8 {} }] }, by decide +kernel⟩
  · exact ⟨0, 0, (physOf (looped aLoop) (0) (0)).get (by decide +kernel), looped aLoop, by decide +kernel⟩
  · exact ⟨0, 0, 0, (((chanOf ((physOf (looped aLoop) (0) (0)).get (by decide +kernel)) (0)).next).get (by decide +kernel)).1, (((chanOf ((physOf (looped aLoop) (0) (0)).get (by decide +kernel)) (0)).next).get (by decide +kernel)).2, (physOf (looped aLoop) (0) (0)).get (by decide +kernel), looped aLoop, by decide +kernel⟩
  · exact ⟨0, ((loopOf (looped { aLoop with st := 1, enum := some 0 }) (0)).enum).get (by decide +kernel), [], [], looped { aLoop with st := 1, enum := some 0 }, by decide +kernel⟩
  · exact ⟨0, 0, (((physOf (looped { aLoop with manage := [aManage] }) (0) (((loopOf (looped { aLoop with manage := [aManage] }) (0)).manage).head (by decide +kernel)).pos).get (by decide +kernel)).pos).get (by decide +kernel), false, ((loopOf (looped { aLoop with manage := [aManage] }) (0)).manage).head (by decide +kernel), ((loopOf (looped { aLoop with manage := [aManage] }) (0)).manage).tail, (physOf (looped { aLoop with manage := [aManage] }) (0) (((loopOf (looped { aLoop with manage := [aManage] }) (0)).manage).head (by decide +kernel)).pos).get (by decide +kernel), looped { aLoop with manage := [aManage] }, by decide +kernel⟩
  · exact ⟨0, 0, 0, 1, (physOf (looped aLoop) (0) (0)).get (by decide +kernel), looped aLoop, by decide +kernel⟩
  · exact ⟨0, 0, 255, (physOf (looped aLoop) (0) (0)).get (by decide +kernel), looped aLoop, by decide +kernel⟩

theorem test_witness_KnaniCommands :
    (∃ (c : Cmd) (s : State) (n : Nat), admitted 0x0701 3 0 (some 0) c s ∧ uAt (prmOf c) 0 1 = n ∧ n < s.knani.loops.length ∧ n ≤ 15 ∧ uAt (prmOf c) 1 1 ≤ 1 ∧ uAt (prmOf c) 2 1 ≤ 1 ∧ loopCellOn s n = false ∧ noService s = false ∧ (loopOf s n).phys = [] ∧ otherChannels s n + mostChannels (tideP s) ≤ 4096) ∧
    (∃ (c : Cmd) (s : State) (n : Nat), admitted 0x0701 3 0 (some 0) c s ∧ uAt (prmOf c) 0 1 = n ∧ n < s.knani.loops.length ∧ n ≤ 15 ∧ uAt (prmOf c) 1 1 ≤ 1 ∧ uAt (prmOf c) 2 1 ≤ 1 ∧ loopCellOn s n = false ∧ noService s = false ∧ (loopOf s n).phys = [] ∧ otherChannels s n ≤ 4096 ∧ 4096 < otherChannels s n + mostChannels (tideP s)) ∧
    (∃ (c : Cmd) (s : State) (n : Nat), admitted 0x0701 3 0 (some 0) c s ∧ uAt (prmOf c) 0 1 = n ∧ n ≤ 15 ∧ uAt (prmOf c) 1 1 ≤ 1 ∧ uAt (prmOf c) 2 1 ≤ 1 ∧ loopCellOn s n = false ∧ noService s = false ∧ 4096 < otherChannels s n) ∧
    (∃ (c : Cmd) (s : State), admitted 0x0701 3 0 (some 0) c s ∧ uAt (prmOf c) 0 1 ≤ 15 ∧ uAt (prmOf c) 1 1 ≤ 1 ∧ uAt (prmOf c) 2 1 ≤ 1 ∧ loopCellOn s (uAt (prmOf c) 0 1) = true) ∧
    (∃ (c : Cmd) (s : State) (n : Nat), admitted 0x0702 1 0 (some 0) c s ∧ uAt (prmOf c) 0 1 = n ∧ n < s.knani.loops.length ∧ n ≤ 15 ∧ loopCellOn s n = false ∧ noService s = false) ∧
    (∃ (c : Cmd) (s : State) (n : Nat), admitted 0x0703 1 0 (some 0) c s ∧ uAt (prmOf c) 0 1 = n ∧ n ≤ 15 ∧ (loopOf s n).st = 3) ∧
    (∃ (c : Cmd) (s : State), admitted 0x0704 1 28 (some 0) c s ∧ uAt (prmOf c) 0 1 ≤ 15) ∧
    (∃ (c : Cmd) (s : State) (v : NodeView), admitted 0x0705 2 24 (some 0) c s ∧ uAt (prmOf c) 0 1 ≤ 15 ∧ (loopOf s (uAt (prmOf c) 0 1)).st ≠ 0 ∧ (loopOf s (uAt (prmOf c) 0 1)).nodes[uAt (prmOf c) 1 1]? = some v) ∧
    (∃ (c : Cmd) (s : State), admitted 0x0705 2 24 (some 0) c s ∧ uAt (prmOf c) 0 1 ≤ 15 ∧ ((loopOf s (uAt (prmOf c) 0 1)).st = 0 ∨ (loopOf s (uAt (prmOf c) 0 1)).nodes[uAt (prmOf c) 1 1]? = none)) ∧
    (∃ (c : Cmd) (s : State) (p : List Byte), admitted 0x0706 7 (min 128 (uAt (prmOf c) 6 1)) none c s ∧ prmOf c = p ∧ 16 ≤ uAt p 0 1 ∧ uAt p 0 1 ≤ 19 ∧ uAt p 2 1 ≤ 9 ∧ 1 ≤ uAt p 6 1 ∧ uAt p 6 1 ≤ 128) ∧
    (∃ (c : Cmd) (s : State) (p : List Byte), admitted 0x0707 (8 + min 128 (uAt (prmOf c) 6 1)) 0 none c s ∧ prmOf c = p ∧ 16 ≤ uAt p 0 1 ∧ uAt p 0 1 ≤ 19 ∧ uAt p 2 1 ≤ 9 ∧ 1 ≤ uAt p 6 1 ∧ uAt p 6 1 ≤ 128 ∧ inUserArea (s.knani.idRecs.getD (uAt p 0 1 - 16) none) (uAt p 4 2) (uAt p 6 1) = true) ∧
    (∃ (c : Cmd) (s : State) (p : List Byte), admitted 0x0707 (8 + min 128 (uAt (prmOf c) 6 1)) 0 none c s ∧ prmOf c = p ∧ 16 ≤ uAt p 0 1 ∧ uAt p 0 1 ≤ 19 ∧ uAt p 2 1 ≤ 9 ∧ 1 ≤ uAt p 6 1 ∧ uAt p 6 1 ≤ 128 ∧ inUserArea (s.knani.idRecs.getD (uAt p 0 1 - 16) none) (uAt p 4 2) (uAt p 6 1) = false) ∧
    (∃ (c : Cmd) (s : State), admitted 0x0708 1 0 (some 0) c s ∧ uAt (prmOf c) 0 1 ≤ 15 ∧ (loopOf s (uAt (prmOf c) 0 1)).st = 2) ∧
    (∃ (c : Cmd) (s : State) (n : Nat) (pos : Nat) (v : NodeView), admitted 0x0710 2 0 (some 0) c s ∧ uAt (prmOf c) 0 1 = n ∧ uAt (prmOf c) 1 1 = pos ∧ n ≤ 15 ∧ (loopOf s n).st = 2 ∧ (loopOf s n).nodes[pos]? = some v ∧ v.slotted = true ∧ v.failsafe = true) := by
  refine ⟨?_, ?_, ?_, ?_, ?_, ?_, ?_, ?_, ?_, ?_, ?_, ?_, ?_, ?_⟩
  · exact ⟨cmd 3 3 [], ready, uAt (prmOf (cmd 3 3 [])) 0 1, by unfold admitted; decide +kernel⟩
  · exact ⟨cmd 3 3 [], ({ ready with knani.loops := {} :: List.replicate 8 { st := 2, nodes := List.replicate 64 aView } } : State), uAt (prmOf (cmd 3 3 [])) 0 1, by unfold admitted; decide +kernel⟩
  · exact ⟨cmd 3 3 [], ({ ready with knani.loops := {} :: List.replicate 9 { st := 2, nodes := List.replicate 64 aView } } : State), uAt (prmOf (cmd 3 3 [])) 0 1, by unfold admitted; decide +kernel⟩
  · exact ⟨cmd 3 3 [], ({ looped aLoop with cell.cells := [(0, { aCell with modeNow := 1 })] } : State), by unfold admitted; decide +kernel⟩
  · exact ⟨cmd 1 1 [], ready, uAt (prmOf (cmd 1 1 [])) 0 1, by unfold admitted; decide +kernel⟩
  · exact ⟨cmd 1 1 [], looped { aLoop with st := 3 }, uAt (prmOf (cmd 1 1 [])) 0 1, by unfold admitted; decide +kernel⟩
  · exact ⟨cmd 1 28 [], ready, by unfold admitted; decide +kernel⟩
  · exact ⟨cmd 2 24 [], looped aLoop, ((loopOf (looped aLoop) (uAt (prmOf (cmd 2 24 [])) 0 1)).nodes[uAt (prmOf (cmd 2 24 [])) 1 1]?).get (by decide +kernel), by unfold admitted; decide +kernel⟩
  · exact ⟨cmd 2 24 [], ready, by unfold admitted; decide +kernel⟩
  · exact ⟨cmd 7 7 [(0, 1, 16), (6, 1, 1)], ready, prmOf (cmd 7 7 [(0, 1, 16), (6, 1, 1)]), by unfold admitted; decide +kernel⟩
  · exact ⟨cmd 9 9 [(0, 1, 16), (4, 2, 64), (6, 1, 1)], ({ ready with knani.idRecs := [some anId] } : State), prmOf (cmd 9 9 [(0, 1, 16), (4, 2, 64), (6, 1, 1)]), by unfold admitted; decide +kernel⟩
  · exact ⟨cmd 9 9 [(0, 1, 16), (6, 1, 1)], ready, prmOf (cmd 9 9 [(0, 1, 16), (6, 1, 1)]), by unfold admitted; decide +kernel⟩
  · exact ⟨cmd 1 1 [], looped aLoop, by unfold admitted; decide +kernel⟩
  · exact ⟨cmd 2 2 [], looped aLoop, uAt (prmOf (cmd 2 2 [])) 0 1, uAt (prmOf (cmd 2 2 [])) 1 1, ((loopOf (looped aLoop) (uAt (prmOf (cmd 2 2 [])) 0 1)).nodes[(uAt (prmOf (cmd 2 2 [])) 1 1)]?).get (by decide +kernel), by unfold admitted; decide +kernel⟩

theorem test_witness_ChannelCommands :
    (∃ (c : Cmd) (s : State) (p : List Byte) (ch : Nat), admitted 0x0709 28 0 (some 0) c s ∧ prmOf c = p ∧ uAt p 0 2 = ch ∧ channelFault' s ch = none ∧ chanCfgOk ch ((p.drop 4).take 24) = true ∧ zeros p 2 2 = true ∧ chanStrobe s ch = true ∧ bit (uAt ((p.drop 4).take 24) 0x10 1) 0 = false ∧ (∀ e ∈ s.cell.cells, e.2.channel ≠ ch)) ∧
    (∃ (c : Cmd) (s : State) (ch : Nat) (v : ChanView), admitted 0x070A 2 32 (some 0) c s ∧ uAt (prmOf c) 0 2 = ch ∧ channelFault' s ch = none ∧ viewOf s ch = some v) ∧
    (∃ (c : Cmd) (s : State) (ch : Nat) (st : Nat), admitted 0x070A 2 32 (some 0) c s ∧ uAt (prmOf c) 0 2 = ch ∧ channelFault' s ch = some st) ∧
    (∃ (c : Cmd) (s : State) (ch : Nat) (v : ChanView), admitted 0x070B 2 0 (some 0) c s ∧ uAt (prmOf c) 0 2 = ch ∧ channelFault' s ch = none ∧ viewOf s ch = some v) ∧
    (∃ (c : Cmd) (s : State) (ch : Nat) (v : NodeView), admitted 0x070C 2 0 (some 0) c s ∧ uAt (prmOf c) 0 2 = ch ∧ channelFault' s ch = none ∧ chNo ch = 0 ∧ nodeOf s ch = some v ∧ bit v.features 1 = true ∧ (∀ e ∈ s.cell.cells, e.2.channel / 8 = ch / 8 → e.2.modeNow = 0)) ∧
    (∃ (c : Cmd) (s : State) (p : List Byte), admitted 0x070D 24 0 (some 0) c s ∧ prmOf c = p ∧ uAt p 0 1 ≤ 7 ∧ zeros p 1 3 = true ∧ 1 ≤ uAt p 16 4 ∧ uAt p 16 4 ≤ 100000 ∧ dtOk p 4 = true ∧ (uAt p 20 4 = 0 ∨ uAt p 16 4 ≤ uAt p 20 4)) ∧
    (∃ (c : Cmd) (s : State) (p : List Byte), admitted 0x070D 24 0 (some 0) c s ∧ prmOf c = p ∧ uAt p 0 1 ≤ 7 ∧ zeros p 1 3 = true ∧ dtOk p 4 = true ∧ uAt p 16 4 = 0) ∧
    (∃ (c : Cmd) (s : State) (p : List Byte), admitted 0x070E 5 0 (some 0) c s ∧ prmOf c = p ∧ within 100 1000000 (uAt p 0 4) = true ∧ uAt p 4 1 ≤ 1) ∧
    (∃ (c : Cmd) (s : State) (ch : Nat) (r : List Byte) (x : Shadow), admitted 0x070F 2 38 (some 0) c s ∧ uAt (prmOf c) 0 2 = ch ∧ channelFault' s ch = none ∧ chanModule s ch = some r ∧ tget s.knani.shadow ch = some x) ∧
    (∃ (c : Cmd) (s : State) (ch : Nat), admitted 0x070F 2 38 (some 0) c s ∧ uAt (prmOf c) 0 2 = ch ∧ channelFault' s ch = none ∧ chanModule s ch = none) := by
  refine ⟨?_, ?_, ?_, ?_, ?_, ?_, ?_, ?_, ?_, ?_⟩
  · exact ⟨cmd 28 28 [(14, 1, 1), (21, 1, 40), (22, 1, 50)], looped aLoop, prmOf (cmd 28 28 [(14, 1, 1), (21, 1, 40), (22, 1, 50)]), uAt (prmOf (cmd 28 28 [(14, 1, 1), (21, 1, 40), (22, 1, 50)])) 0 2, by unfold admitted; decide +kernel⟩
  · exact ⟨cmd 2 32 [], looped aLoop, uAt (prmOf (cmd 2 32 [])) 0 2, (viewOf (looped aLoop) (uAt (prmOf (cmd 2 32 [])) 0 2)).get (by decide +kernel), by unfold admitted; decide +kernel⟩
  · exact ⟨cmd 2 32 [], ready, uAt (prmOf (cmd 2 32 [])) 0 2, (channelFault' (ready) (uAt (prmOf (cmd 2 32 [])) 0 2)).get (by decide +kernel), by unfold admitted; decide +kernel⟩
  · exact ⟨cmd 2 2 [], looped aLoop, uAt (prmOf (cmd 2 2 [])) 0 2, (viewOf (looped aLoop) (uAt (prmOf (cmd 2 2 [])) 0 2)).get (by decide +kernel), by unfold admitted; decide +kernel⟩
  · exact ⟨cmd 2 2 [], looped aLoop, uAt (prmOf (cmd 2 2 [])) 0 2, (nodeOf (looped aLoop) (uAt (prmOf (cmd 2 2 [])) 0 2)).get (by decide +kernel), by unfold admitted; decide +kernel⟩
  · exact ⟨cmd 24 24 [(16, 4, 1)], looped aLoop, prmOf (cmd 24 24 [(16, 4, 1)]), by unfold admitted; decide +kernel⟩
  · exact ⟨cmd 24 24 [], looped aLoop, prmOf (cmd 24 24 []), by unfold admitted; decide +kernel⟩
  · exact ⟨cmd 5 5 [(0, 4, 100)], looped aLoop, prmOf (cmd 5 5 [(0, 4, 100)]), by unfold admitted; decide +kernel⟩
  · exact ⟨cmd 2 38 [], ({ looped aLoop with knani.shadow := [(0, { serial := 0, type := 0 })] } : State), uAt (prmOf (cmd 2 38 [])) 0 2, (chanModule (({ looped aLoop with knani.shadow := [(0, { serial := 0, type := 0 })] } : State)) (uAt (prmOf (cmd 2 38 [])) 0 2)).get (by decide +kernel), (tget (({ looped aLoop with knani.shadow := [(0, { serial := 0, type := 0 })] } : State)).knani.shadow (uAt (prmOf (cmd 2 38 [])) 0 2)).get (by decide +kernel), by unfold admitted; decide +kernel⟩
  · exact ⟨cmd 2 38 [], looped { aLoop with phys := [] }, uAt (prmOf (cmd 2 38 [])) 0 2, by unfold admitted; decide +kernel⟩

theorem test_witness_AxisEvents :
    (∃ (n : Nat) (m : AxMove) (r : List AxMove) (s : State), n < s.axes.length ∧ (axOf s n).moves = m :: r ∧ ((axOf s n).st = AxSt.idle ∨ (axOf s n).st = AxSt.stopped) ∧ (axOf s n).pos ≠ m.target) ∧
    (∃ (n : Nat) (m : AxMove) (r : List AxMove) (s : State), n < s.axes.length ∧ (axOf s n).moves = m :: r ∧ (axOf s n).st = AxSt.moving) ∧
    (∃ (n : Nat) (off : Int) (a : Axis) (s : State), n < s.axes.length ∧ axOf s n = a ∧ a.st = AxSt.moving ∧ a.dwell = none ∧ a.home = none ∧ a.brake = none ∧ limitIn a.up a = false ∧ (nextPoint a).1 ≠ a.target) ∧
    (∃ (n : Nat) (off : Int) (a : Axis) (s : State), n < s.axes.length ∧ axOf s n = a ∧ a.st = AxSt.moving ∧ a.dwell = none ∧ a.home = none ∧ a.brake = none ∧ limitIn a.up a = false ∧ (nextPoint a).1 = a.target) ∧
    (∃ (n : Nat) (a : Axis) (s : State), n < s.axes.length ∧ axOf s n = a ∧ a.st = AxSt.moving ∧ a.dwell = none) ∧
    (∃ (n : Nat) (mV : Nat) (wb : Bool) (reach : Option Nat) (a : Axis) (s : State), n < s.axes.length ∧ axOf s n = a ∧ a.en = true ∧ (if wb then (refs (dtNow s) a).2 else (refs (dtNow s) a).1) ≠ 0 ∧ overCurrent a mV = true) ∧
    (∃ (n : Nat) (mV : Nat) (t : Nat) (a : Axis) (s : State), n < s.axes.length ∧ axOf s n = a ∧ a.en = true ∧ (refs (dtNow s) a).1 ≠ 0 ∧ overCurrent a mV = false ∧ t ≤ 1000 * a.tOnMax) ∧
    (∃ (n : Nat) (t : Nat) (a : Axis) (s : State), n < s.axes.length ∧ axOf s n = a ∧ a.still = some t ∧ a.ramp = none ∧ a.en = true) ∧
    (∃ (n : Nat) (raw : Nat) (a : Axis) (s : State), n < s.axes.length ∧ axOf s n = a ∧ a.hiEn = true ∧ a.hiHigh = true ∧ a.hiLvl = false ∧ a.st = AxSt.moving ∧ a.home = none ∧ a.up = true ∧ a.dwell = none ∧ a.hiEdges = []) ∧
    (∃ (n : Nat) (raw : Nat) (a : Axis) (s : State), n < s.axes.length ∧ axOf s n = a ∧ a.hiEn = true ∧ a.hiHigh = true ∧ a.hiLvl = false ∧ a.st = AxSt.idle ∧ (recentEdges (dtNow (runTo (raw + 2 * ms1) s)) a.hiEdges).length < 8) ∧
    (∃ (n : Nat) (t : Nat) (a : Axis) (s : State), n < s.axes.length ∧ axOf s n = a ∧ a.dwell = some t ∧ a.home = none) ∧
    (∃ (n : Nat) (h : Homing) (a : Axis) (s : State), n < s.axes.length ∧ axOf s n = a ∧ a.home = some h ∧ a.dwell = none) := by
  refine ⟨?_, ?_, ?_, ?_, ?_, ?_, ?_, ?_, ?_, ?_, ?_, ?_⟩
  · exact ⟨0, ((axOf (({ ready with axes := [{ moves := [{ start := 0, target := 5, opcode := 0x0804, mbx := 0, slot := 0, tag := 0 }], st := .idle }] } : State)) (0)).moves).head (by decide +kernel), ((axOf (({ ready with axes := [{ moves := [{ start := 0, target := 5, opcode := 0x0804, mbx := 0, slot := 0, tag := 0 }], st := .idle }] } : State)) (0)).moves).tail, ({ ready with axes := [{ moves := [{ start := 0, target := 5, opcode := 0x0804, mbx := 0, slot := 0, tag := 0 }], st := .idle }] } : State), by decide +kernel⟩
  · exact ⟨0, ((axOf (({ ready with axes := [{ moves := [{ start := 0, target := 5, opcode := 0x0804, mbx := 0, slot := 0, tag := 0 }], st := .moving }] } : State)) (0)).moves).head (by decide +kernel), ((axOf (({ ready with axes := [{ moves := [{ start := 0, target := 5, opcode := 0x0804, mbx := 0, slot := 0, tag := 0 }], st := .moving }] } : State)) (0)).moves).tail, ({ ready with axes := [{ moves := [{ start := 0, target := 5, opcode := 0x0804, mbx := 0, slot := 0, tag := 0 }], st := .moving }] } : State), by decide +kernel⟩
  · exact ⟨0, 0, axOf (({ ready with axes := [{ st := .moving, target := 1000 }] } : State)) (0), ({ ready with axes := [{ st := .moving, target := 1000 }] } : State), by decide +kernel⟩
  · exact ⟨0, 0, axOf (({ ready with axes := [{ st := .moving, target := 1 }] } : State)) (0), ({ ready with axes := [{ st := .moving, target := 1 }] } : State), by decide +kernel⟩
  · exact ⟨0, axOf (({ ready with axes := [{ st := .moving }] } : State)) (0), ({ ready with axes := [{ st := .moving }] } : State), by decide +kernel⟩
  · exact ⟨0, 10, false, none, axOf (({ ready with axes := [{ en := true, iRun := 1000, st := .moving, iOc := 1 }] } : State)) (0), ({ ready with axes := [{ en := true, iRun := 1000, st := .moving, iOc := 1 }] } : State), by decide +kernel⟩
  · exact ⟨0, 10, 0, axOf (({ ready with axes := [{ en := true, iRun := 1000, st := .moving, iOc := 1000, pos := 3 }] } : State)) (0), ({ ready with axes := [{ en := true, iRun := 1000, st := .moving, iOc := 1000, pos := 3 }] } : State), by decide +kernel⟩
  · exact ⟨0, ((axOf (({ ready with axes := [{ still := some 0, en := true }] } : State)) (0)).still).get (by decide +kernel), axOf (({ ready with axes := [{ still := some 0, en := true }] } : State)) (0), ({ ready with axes := [{ still := some 0, en := true }] } : State), by decide +kernel⟩
  · exact ⟨0, 0, axOf (({ ready with axes := [{ hiEn := true, hiHigh := true, hiLvl := false, up := true, st := .moving }] } : State)) (0), ({ ready with axes := [{ hiEn := true, hiHigh := true, hiLvl := false, up := true, st := .moving }] } : State), by decide +kernel⟩
  · exact ⟨0, 0, axOf (({ ready with axes := [{ hiEn := true, hiHigh := true, hiLvl := false, st := .idle }] } : State)) (0), ({ ready with axes := [{ hiEn := true, hiHigh := true, hiLvl := false, st := .idle }] } : State), by decide +kernel⟩
  · exact ⟨0, ((axOf (({ ready with axes := [{ dwell := some 0 }] } : State)) (0)).dwell).get (by decide +kernel), axOf (({ ready with axes := [{ dwell := some 0 }] } : State)) (0), ({ ready with axes := [{ dwell := some 0 }] } : State), by decide +kernel⟩
  · exact ⟨0, ((axOf (({ ready with axes := [{ home := some { method := 0, speed := 12800, offset := 0, park := 0, maxDist := 1, timeout := 1, ph := .seek, startAt := 0, org := 0 } }] } : State)) (0)).home).get (by decide +kernel), axOf (({ ready with axes := [{ home := some { method := 0, speed := 12800, offset := 0, park := 0, maxDist := 1, timeout := 1, ph := .seek, startAt := 0, org := 0 } }] } : State)) (0), ({ ready with axes := [{ home := some { method := 0, speed := 12800, offset := 0, park := 0, maxDist := 1, timeout := 1, ph := .seek, startAt := 0, org := 0 } }] } : State), by decide +kernel⟩

theorem test_witness_AxisCommands :
    (∃ (c : Cmd) (s : State) (p : List Byte), admitted 0x0801 40 0 none c s ∧ prmOf c = p ∧ axisConfigOk p = true ∧ axQuiet (axOf s (uAt p 0 1)) = true) ∧
    (∃ (c : Cmd) (s : State), admitted 0x0801 40 0 none c s ∧ axisConfigOk (prmOf c) = true ∧ axQuiet (axOf s (uAt (prmOf c) 0 1)) = false) ∧
    (∃ (c : Cmd) (s : State) (p : List Byte) (n : Nat), admitted 0x0802 28 0 none c s ∧ prmOf c = p ∧ uAt p 0 1 = n ∧ n < 8 ∧ n < s.axes.length ∧ axQuiet (axOf s n) = true ∧ zeros p 1 3 = true ∧ zeros p 21 1 = true ∧ 1 ≤ uAt p 4 4 ∧ uAt p 4 4 ≤ 100000 ∧ uAt p 10 2 ≤ uAt p 8 2 ∧ uAt p 12 2 ≠ 0 ∧ uAt p 14 2 ≠ 0 ∧ overScale (uAt p 8 2) (uAt p 4 4) = false ∧ overScale (uAt p 12 2) (uAt p 4 4) = false ∧ overScale (uAt p 14 2) (uAt p 4 4) = false ∧ 2 ≤ uAt p 16 1 ∧ uAt p 16 1 ≤ 40 ∧ 5 ≤ uAt p 17 1 ∧ uAt p 17 1 ≤ 40 ∧ 2 ≤ uAt p 18 1 ∧ uAt p 18 1 ≤ 200 ∧ uAt p 22 2 ≤ 10000 ∧ 1 ≤ uAt p 24 2 ∧ uAt p 24 2 ≤ 1000 ∧ 77 ≤ uAt p 26 1 ∧ uAt p 26 1 ≤ 230 ∧ 1 ≤ uAt p 27 1 ∧ uAt p 27 1 ≤ 2) ∧
    (∃ (c : Cmd) (s : State) (p : List Byte) (n : Nat), admitted 0x0803 2 0 none c s ∧ prmOf c = p ∧ uAt p 0 1 = n ∧ n < 8 ∧ n < s.axes.length ∧ uAt p 1 1 < 16 ∧ axQuiet (axOf s n) = true) ∧
    (∃ (c : Cmd) (s : State) (p : List Byte) (n : Nat) (t : Nat), admitted 0x0804 20 0 none c s ∧ prmOf c = p ∧ uAt p 0 1 = n ∧ n < 8 ∧ uAt p 1 1 = 0 ∧ dtOk p 8 = true ∧ startsHeld s = false ∧ stopInForce s = false ∧ ((axOf s n).st = AxSt.idle ∨ (axOf s n).st = AxSt.stopped ∨ (axOf s n).st = AxSt.moving) ∧ -2147483647 ≤ iAt p 4 4 ∧ iAt p 4 4 ≤ 2147483647 ∧ ((axOf s n).homed = true → (axOf s n).softLo ≤ iAt p 4 4 ∧ iAt p 4 4 ≤ (axOf s n).softHi) ∧ startOf p s = some t ∧ limitIn (towards (iAt p 4 4) (axOf s n)) (axOf s n) = false) ∧
    (∃ (c : Cmd) (s : State) (p : List Byte) (n : Nat), admitted 0x0804 20 0 none c s ∧ prmOf c = p ∧ uAt p 0 1 = n ∧ n < 8 ∧ uAt p 1 1 = 0 ∧ dtOk p 8 = true ∧ startsHeld s = false ∧ stopInForce s = false ∧ (axOf s n).st = AxSt.idle ∧ (axOf s n).homed = true ∧ (axOf s n).softHi < iAt p 4 4 ∧ -2147483647 ≤ iAt p 4 4 ∧ iAt p 4 4 ≤ 2147483647) ∧
    (∃ (c : Cmd) (s : State) (n : Nat) (a : Axis), admitted 0x0805 1 0 none c s ∧ uAt (prmOf c) 0 1 = n ∧ n < 8 ∧ n < s.axes.length ∧ axOf s n = a ∧ a.st = AxSt.moving ∧ a.dwell = none) ∧
    (∃ (c : Cmd) (s : State) (p : List Byte) (n : Nat) (t : Nat) (a : Axis), admitted 0x0806 20 0 none c s ∧ prmOf c = p ∧ uAt p 0 1 = n ∧ n < 8 ∧ axOf s n = a ∧ dtOk p 8 = true ∧ startsHeld s = false ∧ stopInForce s = false ∧ resumable a = true ∧ causePresent a s = false ∧ a.homed = false ∧ -2147483647 ≤ a.target ∧ a.target ≤ 2147483647 ∧ startOf p s = some t ∧ limitIn (towards a.target a) a = false) ∧
    (∃ (c : Cmd) (s : State) (n : Nat), admitted 0x0806 20 0 none c s ∧ uAt (prmOf c) 0 1 = n ∧ n < 8 ∧ dtOk (prmOf c) 8 = true ∧ startsHeld s = false ∧ resumable (axOf s n) = false) ∧
    (∃ (c : Cmd) (s : State) (p : List Byte) (n : Nat) (a : Axis), admitted 0x0807 22 0 none c s ∧ prmOf c = p ∧ uAt p 0 1 = n ∧ n < 8 ∧ n < s.axes.length ∧ axOf s n = a ∧ uAt p 1 1 = 3 ∧ 12800 ≤ uAt p 4 4 ∧ uAt p 4 4 ≤ 256000 ∧ uAt p 4 4 ≤ a.vMax ∧ 1 ≤ uAt p 20 2 ∧ uAt p 20 2 ≤ 600 ∧ startsHeld s = false ∧ stopInForce s = false ∧ a.st = AxSt.idle ∧ limitIn true a = false) ∧
    (∃ (c : Cmd) (s : State) (p : List Byte) (n : Nat) (a : Axis), admitted 0x0808 2 0 none c s ∧ prmOf c = p ∧ uAt p 0 1 = n ∧ n < 8 ∧ n < s.axes.length ∧ axOf s n = a ∧ uAt p 1 1 = 1 ∧ a.st = AxSt.disabled ∧ debugHold s = false ∧ noService s = false) ∧
    (∃ (c : Cmd) (s : State) (p : List Byte) (n : Nat) (a : Axis), admitted 0x0808 2 0 none c s ∧ prmOf c = p ∧ uAt p 0 1 = n ∧ n < 8 ∧ n < s.axes.length ∧ axOf s n = a ∧ uAt p 1 1 = 0 ∧ a.st = AxSt.idle) ∧
    (∃ (c : Cmd) (s : State) (p : List Byte) (n : Nat), admitted 0x0809 8 0 none c s ∧ prmOf c = p ∧ uAt p 0 1 = n ∧ n < 8 ∧ n < s.axes.length ∧ uAt p 1 1 < 2 ∧ axQuiet (axOf s n) = true) ∧
    (∃ (c : Cmd) (s : State), admitted 0x080A 1 32 none c s ∧ uAt (prmOf c) 0 1 < 8) ∧
    (∃ (c : Cmd) (s : State) (n : Nat), admitted 0x080B 1 0 none c s ∧ uAt (prmOf c) 0 1 = n ∧ n < 8 ∧ n < s.axes.length ∧ (axOf s n).st = AxSt.fault ∧ (axOf s n).cause ≠ 6) ∧
    (∃ (c : Cmd) (s : State) (n : Nat), admitted 0x080B 1 0 none c s ∧ uAt (prmOf c) 0 1 = n ∧ n < 8 ∧ (axOf s n).st ≠ AxSt.fault) := by
  refine ⟨?_, ?_, ?_, ?_, ?_, ?_, ?_, ?_, ?_, ?_, ?_, ?_, ?_, ?_, ?_, ?_⟩
  · exact ⟨cmd 40 40 [(4, 4, 1), (8, 4, 1), (12, 4, 1), (16, 4, 1), (32, 4, 1), (38, 1, 8)], ready, prmOf (cmd 40 40 [(4, 4, 1), (8, 4, 1), (12, 4, 1), (16, 4, 1), (32, 4, 1), (38, 1, 8)]), by unfold admitted; decide +kernel⟩
  · exact ⟨cmd 40 40 [(4, 4, 1), (8, 4, 1), (12, 4, 1), (16, 4, 1), (32, 4, 1), (38, 1, 8)], ({ ready with axes := [{ st := .moving }] } : State), by unfold admitted; decide +kernel⟩
  · exact ⟨cmd 28 28 [(4, 4, 1), (12, 2, 1), (14, 2, 1), (16, 1, 2), (17, 1, 5), (18, 1, 2), (24, 2, 1), (26, 1, 77), (27, 1, 1)], ready, prmOf (cmd 28 28 [(4, 4, 1), (12, 2, 1), (14, 2, 1), (16, 1, 2), (17, 1, 5), (18, 1, 2), (24, 2, 1), (26, 1, 77), (27, 1, 1)]), uAt (prmOf (cmd 28 28 [(4, 4, 1), (12, 2, 1), (14, 2, 1), (16, 1, 2), (17, 1, 5), (18, 1, 2), (24, 2, 1), (26, 1, 77), (27, 1, 1)])) 0 1, by unfold admitted; decide +kernel⟩
  · exact ⟨cmd 2 2 [], ready, prmOf (cmd 2 2 []), uAt (prmOf (cmd 2 2 [])) 0 1, by unfold admitted; decide +kernel⟩
  · exact ⟨cmd 20 20 [(4, 4, 7)], ({ ready with stop.st := .clear, axes := [{ st := .idle }] } : State), prmOf (cmd 20 20 [(4, 4, 7)]), uAt (prmOf (cmd 20 20 [(4, 4, 7)])) 0 1, (startOf (prmOf (cmd 20 20 [(4, 4, 7)])) (({ ready with stop.st := .clear, axes := [{ st := .idle }] } : State))).get (by decide +kernel), by unfold admitted; decide +kernel⟩
  · exact ⟨cmd 20 20 [(4, 4, 6)], ({ ready with stop.st := .clear, axes := [{ st := .idle, homed := true, softHi := 5 }] } : State), prmOf (cmd 20 20 [(4, 4, 6)]), uAt (prmOf (cmd 20 20 [(4, 4, 6)])) 0 1, by unfold admitted; decide +kernel⟩
  · exact ⟨cmd 1 1 [], ({ ready with axes := [{ st := .moving }] } : State), uAt (prmOf (cmd 1 1 [])) 0 1, axOf (({ ready with axes := [{ st := .moving }] } : State)) (uAt (prmOf (cmd 1 1 [])) 0 1), by unfold admitted; decide +kernel⟩
  · exact ⟨cmd 20 20 [], ({ ready with stop.st := .clear, axes := [{ st := .stopped, target := 5 }] } : State), prmOf (cmd 20 20 []), uAt (prmOf (cmd 20 20 [])) 0 1, (startOf (prmOf (cmd 20 20 [])) (({ ready with stop.st := .clear, axes := [{ st := .stopped, target := 5 }] } : State))).get (by decide +kernel), axOf (({ ready with stop.st := .clear, axes := [{ st := .stopped, target := 5 }] } : State)) (uAt (prmOf (cmd 20 20 [])) 0 1), by unfold admitted; decide +kernel⟩
  · exact ⟨cmd 20 20 [], ready, uAt (prmOf (cmd 20 20 [])) 0 1, by unfold admitted; decide +kernel⟩
  · exact ⟨cmd 22 22 [(1, 1, 3), (4, 4, 12800), (20, 2, 1)], ({ ready with stop.st := .clear, axes := [{ st := .idle }] } : State), prmOf (cmd 22 22 [(1, 1, 3), (4, 4, 12800), (20, 2, 1)]), uAt (prmOf (cmd 22 22 [(1, 1, 3), (4, 4, 12800), (20, 2, 1)])) 0 1, axOf (({ ready with stop.st := .clear, axes := [{ st := .idle }] } : State)) (uAt (prmOf (cmd 22 22 [(1, 1, 3), (4, 4, 12800), (20, 2, 1)])) 0 1), by unfold admitted; decide +kernel⟩
  · exact ⟨cmd 2 2 [(1, 1, 1)], ({ ready with axes := [{ st := .disabled }] } : State), prmOf (cmd 2 2 [(1, 1, 1)]), uAt (prmOf (cmd 2 2 [(1, 1, 1)])) 0 1, axOf (({ ready with axes := [{ st := .disabled }] } : State)) (uAt (prmOf (cmd 2 2 [(1, 1, 1)])) 0 1), by unfold admitted; decide +kernel⟩
  · exact ⟨cmd 2 2 [], ({ ready with axes := [{ st := .idle }] } : State), prmOf (cmd 2 2 []), uAt (prmOf (cmd 2 2 [])) 0 1, axOf (({ ready with axes := [{ st := .idle }] } : State)) (uAt (prmOf (cmd 2 2 [])) 0 1), by unfold admitted; decide +kernel⟩
  · exact ⟨cmd 8 8 [], ready, prmOf (cmd 8 8 []), uAt (prmOf (cmd 8 8 [])) 0 1, by unfold admitted; decide +kernel⟩
  · exact ⟨cmd 1 32 [], ready, by unfold admitted; decide +kernel⟩
  · exact ⟨cmd 1 1 [], ({ ready with axes := [{ st := .fault, cause := 1 }] } : State), uAt (prmOf (cmd 1 1 [])) 0 1, by unfold admitted; decide +kernel⟩
  · exact ⟨cmd 1 1 [], ({ ready with axes := [{ st := .idle }] } : State), uAt (prmOf (cmd 1 1 [])) 0 1, by unfold admitted; decide +kernel⟩

theorem test_witness_MeterEvents :
    (∃ (raws : List Int) (s : State), s.power.st = Power.spring ∧ domainUp s 8 = true) ∧
    (∃ (t : Nat) (s : State), s.power.st = Power.spring ∧ domainUp s 8 = true ∧ t % (4 * us1) = 0 ∧ (∀ c ∈ s.meter.src, c.sampleAt ≤ t)) ∧
    (∃ (t : Nat) (m : Nat) (x : Int) (c : MSource) (s : State), s.power.st = Power.spring ∧ domainUp s 8 = true ∧ t % (4 * us1) = 0 ∧ (∀ c ∈ s.meter.src, c.sampleAt ≤ t) ∧ m < 16 ∧ m < s.meter.src.length ∧ srcOf s m = c ∧ c.kind = 4 ∧ c.vref = 0xFF ∧ (∀ l, dueLatch s c = some l → t < l) ∧ 0 < corrected c x * c.fullScale) ∧
    (∃ (m : Nat) (start : Nat) (stop : Nat) (v : Nat) (rising : Bool) (c : MSource) (s : State), m < s.meter.src.length ∧ srcOf s m = c ∧ c.kind = 5 ∧ c.count ≠ 0 ∧ c.ac = false ∧ v = (c.sum / c.count / 2 ^ 24).toNat ∧ c.exc = none ∧ c.nominal * c.sag ≤ 100 * v ∧ 100 * v ≤ c.nominal * c.swell) ∧
    (∃ (m : Nat) (t : Nat) (t0 : Nat) (s : State), m < s.meter.src.length ∧ dueLatch s (srcOf s m) = some t ∧ (srcOf s m).start = some t0) ∧
    (∃ (m : Nat) (t0 : Nat) (t1 : Nat) (s : State), m < s.meter.src.length ∧ (srcOf s m).kind = 5 ∧ (srcOf s m).ac = true ∧ (srcOf s m).crossAt = some t0 ∧ (srcOf s m).synthAt = some t1) ∧
    (∃ (r : List Byte) (s : State), s.meter.ring = [r] ∧ s1Room r s = true) ∧
    (∃ (s : State), s.power.st = Power.spring) ∧
    (∃ (s : State), s.power.st = Power.spring) := by
  refine ⟨?_, ?_, ?_, ?_, ?_, ?_, ?_, ?_, ?_⟩
  · exact ⟨[], ready, by decide +kernel⟩
  · exact ⟨0, ready, by decide +kernel⟩
  · exact ⟨0, 0, 1, srcOf (({ ready with meter.src := List.replicate 20 { kind := 4, fullScale := 1 } } : State)) (0), ({ ready with meter.src := List.replicate 20 { kind := 4, fullScale := 1 } } : State), by decide +kernel⟩
  · exact ⟨0, 0, 0, ((srcOf (({ ready with meter.src := List.replicate 20 { kind := 5, count := 1 } } : State)) (0)).sum / (srcOf (({ ready with meter.src := List.replicate 20 { kind := 5, count := 1 } } : State)) (0)).count / 2 ^ 24).toNat, false, srcOf (({ ready with meter.src := List.replicate 20 { kind := 5, count := 1 } } : State)) (0), ({ ready with meter.src := List.replicate 20 { kind := 5, count := 1 } } : State), by decide +kernel⟩
  · exact ⟨0, (dueLatch (({ ready with meter.src := List.replicate 20 { start := some 0 } } : State)) (srcOf (({ ready with meter.src := List.replicate 20 { start := some 0 } } : State)) (0))).get (by decide +kernel), ((srcOf (({ ready with meter.src := List.replicate 20 { start := some 0 } } : State)) (0)).start).get (by decide +kernel), ({ ready with meter.src := List.replicate 20 { start := some 0 } } : State), by decide +kernel⟩
  · exact ⟨0, ((srcOf (({ ready with meter.src := List.replicate 20 { kind := 5, ac := true, crossAt := some 0, synthAt := some 1 } } : State)) (0)).crossAt).get (by decide +kernel), ((srcOf (({ ready with meter.src := List.replicate 20 { kind := 5, ac := true, crossAt := some 0, synthAt := some 1 } } : State)) (0)).synthAt).get (by decide +kernel), ({ ready with meter.src := List.replicate 20 { kind := 5, ac := true, crossAt := some 0, synthAt := some 1 } } : State), by decide +kernel⟩
  · exact ⟨[], ({ ready with meter.ring := [[]] } : State), by decide +kernel⟩
  · exact ⟨ready, by decide +kernel⟩
  · exact ⟨ready, by decide +kernel⟩

theorem test_witness_MeterCommands :
    (∃ (c : Cmd) (s : State) (p : List Byte) (m : Nat), admitted 0x0901 28 0 none c s ∧ prmOf c = p ∧ uAt p 0 1 = m ∧ m < 16 ∧ m < s.meter.src.length ∧ uAt p 1 1 = 2 ∧ uAt p 2 1 ≤ 3 ∧ uAt p 3 1 < 2 ∧ within 16384 49152 (uAt p 6 2) = true ∧ (iAt p 8 2).natAbs ≤ 8192 ∧ within 1 64 (uAt p 10 1) = true ∧ within 4 128 (uAt p 11 1) = true ∧ uAt p 20 1 = 0xFF ∧ zeros p 21 3 = true ∧ zeros p 16 4 = true ∧ billed s m = false ∧ (m % 2 = 1 → (srcOf s (m - 1)).kind ≠ 1)) ∧
    (∃ (c : Cmd) (s : State) (p : List Byte) (m : Nat), admitted 0x0901 28 0 none c s ∧ prmOf c = p ∧ uAt p 0 1 = m ∧ m < 16 ∧ uAt p 1 1 = 0 ∧ uAt p 2 1 ≤ 3 ∧ uAt p 3 1 < 2 ∧ within 16384 49152 (uAt p 6 2) = true ∧ (iAt p 8 2).natAbs ≤ 8192 ∧ within 1 64 (uAt p 10 1) = true ∧ within 4 128 (uAt p 11 1) = true ∧ uAt p 20 1 = 0xFF ∧ zeros p 21 3 = true ∧ zeros p 16 4 = true ∧ billed s m = true) ∧
    (∃ (c : Cmd) (s : State) (p : List Byte) (m : Nat), admitted 0x0902 20 0 none c s ∧ prmOf c = p ∧ uAt p 0 1 = m ∧ 16 ≤ m ∧ m < 20 ∧ m < s.meter.src.length ∧ uAt p 1 1 = 1 ∧ uAt p 2 2 = 0 ∧ uAt p 14 1 < uAt p 13 1 ∧ uAt p 13 1 < 100 ∧ 100 < uAt p 12 1 ∧ uAt p 16 1 = 0 ∧ zeros p 17 3 = true ∧ s.meter.bill = none) ∧
    (∃ (c : Cmd) (s : State) (p : List Byte), admitted 0x0903 5 0 none c s ∧ prmOf c = p ∧ uAt p 0 2 ≠ 0 ∧ uAt p 2 2 ≠ 0 ∧ 16 ≤ uAt p 4 1 ∧ uAt p 4 1 < 20 ∧ (srcOf s (uAt p 4 1)).kind = 5 ∧ (srcOf s (uAt p 4 1)).ac = true) ∧
    (∃ (c : Cmd) (s : State) (e : MSource), admitted 0x0904 1 38 none c s ∧ uAt (prmOf c) 0 1 < 20 ∧ srcOf s (uAt (prmOf c) 0 1) = e) ∧
    (∃ (c : Cmd) (s : State), admitted 0x0905 4 0 none c s ∧ uAt (prmOf c) 0 4 < 2 ^ 20) ∧
    (∃ (c : Cmd) (s : State) (p : List Byte) (m : Nat), admitted 0x0906 12 0 none c s ∧ prmOf c = p ∧ s.meter.bill = none ∧ (List.range 32).filter (fun k => bit (uAt p 8 4) k) = [m] ∧ m < 16 ∧ billable (srcOf s m) = true ∧ zeros p 5 3 = true ∧ uAt p 4 1 < 64 ∧ billKeyFault s (uAt p 4 1) = none) ∧
    (∃ (c : Cmd) (s : State), admitted 0x0906 12 0 none c s ∧ (∃ m < 16, (List.range 32).filter (fun k => bit (uAt (prmOf c) 8 4) k) = [m] ∧ billable (srcOf s m) = true) ∧ zeros (prmOf c) 5 3 = true ∧ uAt (prmOf c) 4 1 < 64 ∧ s.meter.bill.isSome = true) ∧
    (∃ (c : Cmd) (s : State) (b : Bill), admitted 0x0907 1 0 none c s ∧ s.meter.bill = some b ∧ uAt (prmOf c) 0 1 = 0xFF ∧ billKeyFault s b.slot = none) ∧
    (∃ (c : Cmd) (s : State), admitted 0x0907 1 0 none c s ∧ (uAt (prmOf c) 0 1 = 0xFF ∨ uAt (prmOf c) 0 1 < 64) ∧ s.meter.bill = none) ∧
    (∃ (c : Cmd) (s : State) (p : List Byte), admitted 0x0908 8 0 none c s ∧ prmOf c = p ∧ 1 ≤ uAt p 0 4 ∧ uAt p 0 4 ≤ 600 ∧ 2 ≤ uAt p 4 4 ∧ uAt p 4 4 ≤ 1000) ∧
    (∃ (c : Cmd) (s : State) (p : List Byte), admitted 0x0909 6 0 none c s ∧ prmOf c = p ∧ uAt p 0 1 < 20 ∧ 1 ≤ uAt p 4 2 ∧ uAt p 4 2 ≤ 4096 ∧ zeros p 1 3 = true) := by
  refine ⟨?_, ?_, ?_, ?_, ?_, ?_, ?_, ?_, ?_, ?_, ?_, ?_⟩
  · exact ⟨cmd 28 28 [(1, 1, 2), (6, 2, 16384), (10, 1, 1), (11, 1, 4), (20, 1, 255)], ready, prmOf (cmd 28 28 [(1, 1, 2), (6, 2, 16384), (10, 1, 1), (11, 1, 4), (20, 1, 255)]), uAt (prmOf (cmd 28 28 [(1, 1, 2), (6, 2, 16384), (10, 1, 1), (11, 1, 4), (20, 1, 255)])) 0 1, by unfold admitted; decide +kernel⟩
  · exact ⟨cmd 28 28 [(6, 2, 16384), (10, 1, 1), (11, 1, 4), (20, 1, 255)], ({ ready with meter.bill := some { id := 1, slot := 1, job := 0, entries := [{ source := 0 }] } } : State), prmOf (cmd 28 28 [(6, 2, 16384), (10, 1, 1), (11, 1, 4), (20, 1, 255)]), uAt (prmOf (cmd 28 28 [(6, 2, 16384), (10, 1, 1), (11, 1, 4), (20, 1, 255)])) 0 1, by unfold admitted; decide +kernel⟩
  · exact ⟨cmd 20 20 [(0, 1, 16), (1, 1, 1), (12, 1, 101), (13, 1, 1)], ready, prmOf (cmd 20 20 [(0, 1, 16), (1, 1, 1), (12, 1, 101), (13, 1, 1)]), 16, by unfold admitted; decide +kernel⟩
  · exact ⟨cmd 5 5 [(0, 2, 1), (2, 2, 1), (4, 1, 16)], ({ ready with meter.src := List.replicate 20 { kind := 5, ac := true } } : State), prmOf (cmd 5 5 [(0, 2, 1), (2, 2, 1), (4, 1, 16)]), by unfold admitted; decide +kernel⟩
  · exact ⟨cmd 1 38 [], ready, srcOf (ready) (uAt (prmOf (cmd 1 38 [])) 0 1), by unfold admitted; decide +kernel⟩
  · exact ⟨cmd 4 4 [], ready, by unfold admitted; decide +kernel⟩
  · exact ⟨cmd 12 12 [(4, 1, 1), (8, 4, 1)], ({ field with meter.src := [{ kind := 1 }] } : State), prmOf (cmd 12 12 [(4, 1, 1), (8, 4, 1)]), 0, by unfold admitted; decide +kernel⟩
  · exact ⟨cmd 12 12 [(8, 4, 1)], ({ ready with meter.bill := some { id := 1, slot := 1, job := 0, entries := [{ source := 0 }] }, meter.src := [{ kind := 1 }] } : State), by unfold admitted; decide +kernel⟩
  · exact ⟨cmd 1 1 [(0, 1, 255)], ({ field with meter.bill := some { id := 1, slot := 1, job := 0, entries := [{ source := 0 }] } } : State), ((({ field with meter.bill := some { id := 1, slot := 1, job := 0, entries := [{ source := 0 }] } } : State)).meter.bill).get (by decide +kernel), by unfold admitted; decide +kernel⟩
  · exact ⟨cmd 1 1 [], ready, by unfold admitted; decide +kernel⟩
  · exact ⟨cmd 8 8 [(0, 4, 1), (4, 4, 2)], ready, prmOf (cmd 8 8 [(0, 4, 1), (4, 4, 2)]), by unfold admitted; decide +kernel⟩
  · exact ⟨cmd 6 6 [(4, 2, 1)], ready, prmOf (cmd 6 6 [(4, 2, 1)]), by unfold admitted; decide +kernel⟩

theorem test_witness_FleetEvents :
    (∃ (slot : Nat) (k : Nat) (s : State) (s1 : State), s.fleet.st = .beaconing ∧ slot ≠ 0 ∧ slot < 79 ∧ baseSlot slot = true ∧ slotSf slot 0 s = k ∧ runTo (slotStart s k slot 0) s = s1 ∧ burstHolds k (slotStart { s1 with fleet := { s1.fleet with slotAt := some (k, 2 * slot) } } k slot 0) { s1 with fleet := { s1.fleet with slotAt := some (k, 2 * slot) } } = true) ∧
    (∃ (slot : Nat) (half : Nat) (s : State), s.fleet.st = .joined ∧ slot ≠ 0 ∧ slot < 79 ∧ half ≤ 1 ∧ addrSlot s.fleet.address ≠ (slot, half) ∧ s.fleet.contSlot = none) ∧
    (∃ (f : RadFrame) (s : State) (s1 : State), s.power.st ≠ .neap ∧ rxFrame 0 f s = (true, s1) ∧ roleOf s1 = 0 ∧ f.src = 0 ∧ 24 ≤ f.payload.length ∧ s1.fleet.st = .search) ∧
    (∃ (f : RadFrame) (s : State) (s1 : State), s.power.st = .neap ∧ s.fleet.configured = true ∧ roleOf s = 0 ∧ rxFrame 0 f { s with fleet := { s.fleet with st := .search } } = (true, s1) ∧ f.src = 0 ∧ 24 ≤ f.payload.length ∧ bit (uAt f.payload 4 2) 15 = true ∧ bit (uAt f.payload 6 1) 5 = false ∧ stopActive s1 1 = false ∧ 6 ≤ s1.stop.active.length) ∧
    (∃ (f : RadFrame) (s : State) (s1 : State), rxBroadcast 1 f s = (true, s1) ∧ 2 ≤ f.payload.length ∧ s1.fleet.st = .joined) ∧
    (∃ (f : RadFrame) (s : State) (s1 : State), rxFrame 2 f s = (true, s1) ∧ roleOf s1 = 0 ∧ f.src = 0 ∧ s1.fleet.st ≠ .search ∧ stopActive s1 2 = false ∧ 6 ≤ s1.stop.active.length) ∧
    (∃ (f : RadFrame) (s : State) (s1 : State) (s2 : State) (new : Bool), rxFrame 3 f s = (true, s1) ∧ roleOf s1 = 0 ∧ f.src = 0 ∧ s1.fleet.st = .joined ∧ f.dst = s1.fleet.address ∧ peerWin 0 f.seq (ackCovered 0 f s1) = (new, s2)) ∧
    (∃ (f : RadFrame) (s : State) (s1 : State), rxBroadcast 4 f s = (true, s1) ∧ s1.fleet.st = .joined ∧ f.payload.length = 4 ∧ uAt f.payload 0 1 = s1.fleet.address) ∧
    (∃ (f : RadFrame) (s : State) (s1 : State) (r : Rover), rxFrame 5 f s = (true, s1) ∧ tget s1.fleet.rovers f.src = some r ∧ s1.fleet.st = .beaconing ∧ roleOf s1 = 1 ∧ addrSlot f.src = (f.slot, f.half) ∧ 0 ≤ diffN 32 (sfFull s1 (dtNow s1)) r.startSf ∧ 8 ≤ halfPayload s1.fleet ∧ f.payload.length = 8 ∧ bit (uAt f.payload 0 1) 5 = false ∧ -(2 * us1 : Nat) ≤ (antennaTime f s1 : Int) - (slotStart s1 (sfFull s1 (dtNow s1)) f.slot f.half + 30 * us1 + bitsLen s1.fleet 64 : Nat) ∧ (antennaTime f s1 : Int) - (slotStart s1 (sfFull s1 (dtNow s1)) f.slot f.half + 30 * us1 + bitsLen s1.fleet 64 : Nat) ≤ (22 * us1 : Nat)) ∧
    (∃ (f : RadFrame) (s : State) (s1 : State) (a : Nat) (r : Rover), rxFrame 6 f s = (true, s1) ∧ s1.fleet.st = .beaconing ∧ f.payload.length = 20 ∧ roleOf s1 = 1 ∧ s1.fleet.rovers.find? (fun r => r.2.uid == f.payload.take 16) = some (a, r)) ∧
    (∃ (f : RadFrame) (s : State) (s1 : State), rxFrame 6 f s = (true, s1) ∧ s1.fleet.st = .beaconing ∧ f.payload.length = 20 ∧ s1.fleet.joinOpen = false ∧ (∀ r ∈ s1.fleet.rovers, r.2.uid ≠ f.payload.take 16)) ∧
    (∃ (f : RadFrame) (s : State) (s1 : State) (n : Nat) (x : Nat), rxBroadcast 7 f s = (true, s1) ∧ f.payload.length = 20 ∧ s1.fleet.st = .connecting ∧ s1.fleet.nonce = some (n, x) ∧ n = uAt f.payload 0 4 ∧ uAt f.payload 16 4 = ownOrigin ∧ uAt f.payload 4 1 = 0) ∧
    (∃ (f : RadFrame) (s : State) (s1 : State), rxFrame 8 f s = (true, s1) ∧ s1.fleet.st = .beaconing ∧ 14 ≤ f.payload.length ∧ uAt f.payload 12 1 = 1) ∧
    (∃ (f : RadFrame) (s : State) (s1 : State) (r : Nat × Nat × List Byte × Option Nat), rxFrame 9 f s = (true, s1) ∧ s1.fleet.svcReq.find? (fun r => r.2.2.2.isSome && r.1 == uAt f.payload 8 4) = some r ∧ f.payload.take 8 = uid64) ∧
    (∃ (cause : Nat) (s : State), s.power.st = .spring ∧ roleOf s = 0 ∧ s.fleet.st = .joined ∧ s.fleet.misses < 2) ∧
    (∃ (cause : Nat) (s : State), s.power.st = .spring ∧ roleOf s = 0 ∧ s.fleet.st = .joined ∧ s.fleet.misses = 2 ∧ stopActive s 4 = false ∧ 6 ≤ s.stop.active.length) ∧
    (∃ (n : Nat) (x : Nat) (s : State), s.fleet.nonce = some (n, x) ∧ s.fleet.st = .connecting ∧ s.sec.drbg = true ∧ joinAllowed s = false) ∧
    (∃ (n : Nat) (x : Nat) (k : Nat) (s : State) (v : State), s.fleet.nonce = some (x, n) ∧ s.fleet.st = .connecting ∧ s.sec.drbg = true ∧ joinAllowed s = true ∧ k = ((sfFull s (dtNow s) : Int) + diffN 32 (n + 3 + Config.freeValue s.freeCtr % 2 ^ min s.fleet.attempts 5) (sfFull s (dtNow s))).toNat ∧ runTo (slotStart s k 0 0) s = v ∧ s.fleet.contSf ≠ some (max k (sfFull v (dtNow v)) % 2 ^ 32)) ∧
    (∃ (a : Nat) (r : Rover) (s : State), tget s.fleet.rovers a = some r) ∧
    (∃ (a : Nat) (port : Nat) (id : Nat) (m : RadAsm) (s : State), (peerOf s a).asm.find? (fun m => m.port == port && m.msgId == id) = some m) ∧
    (∃ (tok : Nat) (svc : Nat) (n : Nat) (d : List Byte) (s : State), s.fleet.svcReq.find? (fun r => r.2.2.2.isSome) = some (tok, svc, d, some n)) ∧
    (∃ (s : State), s.fleet.st = .search) ∧
    (∃ (p : Packet) (b : List Byte) (s : State) (s1 : State), takeS0 3 s = some (p, s1) ∧ p.payload = b ∧ within 2 0x7F (uAt b 0 1) = true ∧ uAt b 1 1 = 0 ∧ uAt b 2 1 ≤ 1 ∧ zeros b 3 1 = true ∧ 9 ≤ b.length ∧ b.length ≤ 1032 ∧ roleOf s = 0 ∧ s.fleet.st = .joined) := by
  refine ⟨?_, ?_, ?_, ?_, ?_, ?_, ?_, ?_, ?_, ?_, ?_, ?_, ?_, ?_, ?_, ?_, ?_, ?_, ?_, ?_, ?_, ?_, ?_⟩
  · exact ⟨4, slotSf (4) 0 (({ airBase with fleet.burst := some (5, 0) } : State)), ({ airBase with fleet.burst := some (5, 0) } : State), runTo (slotStart (({ airBase with fleet.burst := some (5, 0) } : State)) (slotSf (4) 0 (({ airBase with fleet.burst := some (5, 0) } : State))) (4) 0) (({ airBase with fleet.burst := some (5, 0) } : State)), by decide +kernel⟩
  · exact ⟨5, 0, air .joined, by decide +kernel⟩
  · exact ⟨sealed 0 (runTo (({ slot := 0, payload := List.replicate 24 0 } : RadFrame)).capture (air .search)) ({ slot := 0, payload := List.replicate 24 0 } : RadFrame), (air .search), runTo (({ slot := 0, payload := List.replicate 24 0 } : RadFrame)).capture (air .search), by and_intros <;> first | exact sealed_rx 0 _ _ (by decide +kernel) (by decide +kernel) (by decide +kernel) | with_reducible rfl | decide +kernel | rfl⟩
  · exact ⟨sealed 0 (runTo (({ slot := 0, payload := bytes 24 [(4, 2, 0x8000)] } : RadFrame)).capture { (({ air .search with power.st := .neap } : State)) with fleet := { (({ air .search with power.st := .neap } : State)).fleet with st := .search } }) ({ slot := 0, payload := bytes 24 [(4, 2, 0x8000)] } : RadFrame), ({ air .search with power.st := .neap } : State), runTo (({ slot := 0, payload := bytes 24 [(4, 2, 0x8000)] } : RadFrame)).capture { (({ air .search with power.st := .neap } : State)) with fleet := { (({ air .search with power.st := .neap } : State)).fleet with st := .search } }, by and_intros <;> first | exact sealed_rx 0 _ _ (by decide +kernel) (by decide +kernel) (by decide +kernel) | with_reducible rfl | decide +kernel | rfl⟩
  · exact ⟨sealed 1 (runTo (({ slot := 4, seq := 1, payload := [0, 0] } : RadFrame)).capture (air .joined)) ({ slot := 4, seq := 1, payload := [0, 0] } : RadFrame), (air .joined), (bcastWin (({ slot := 4, seq := 1, payload := [0, 0] } : RadFrame)).seq (runTo (({ slot := 4, seq := 1, payload := [0, 0] } : RadFrame)).capture (air .joined))).2, by and_intros <;> first | exact sealed_bcast 1 _ _ (by decide +kernel) (by decide +kernel) (by decide +kernel) (by decide +kernel) rfl (by decide +kernel) | with_reducible rfl | decide +kernel | rfl⟩
  · exact ⟨sealed 2 (runTo (({ slot := 4 } : RadFrame)).capture (air .joined)) ({ slot := 4 } : RadFrame), (air .joined), runTo (({ slot := 4 } : RadFrame)).capture (air .joined), by and_intros <;> first | exact sealed_rx 2 _ _ (by decide +kernel) (by decide +kernel) (by decide +kernel) | with_reducible rfl | decide +kernel | rfl⟩
  · exact ⟨sealed 3 (runTo (({ slot := 4, seq := 1, dst := 5 } : RadFrame)).capture ({ air .joined with fleet.address := 5 } : State)) ({ slot := 4, seq := 1, dst := 5 } : RadFrame), ({ air .joined with fleet.address := 5 } : State), runTo (({ slot := 4, seq := 1, dst := 5 } : RadFrame)).capture ({ air .joined with fleet.address := 5 } : State), (peerWin 0 (sealed 3 (runTo (({ slot := 4, seq := 1, dst := 5 } : RadFrame)).capture ({ air .joined with fleet.address := 5 } : State)) ({ slot := 4, seq := 1, dst := 5 } : RadFrame)).seq (ackCovered 0 (sealed 3 (runTo (({ slot := 4, seq := 1, dst := 5 } : RadFrame)).capture ({ air .joined with fleet.address := 5 } : State)) ({ slot := 4, seq := 1, dst := 5 } : RadFrame)) (runTo (({ slot := 4, seq := 1, dst := 5 } : RadFrame)).capture ({ air .joined with fleet.address := 5 } : State)))).2, (peerWin 0 (sealed 3 (runTo (({ slot := 4, seq := 1, dst := 5 } : RadFrame)).capture ({ air .joined with fleet.address := 5 } : State)) ({ slot := 4, seq := 1, dst := 5 } : RadFrame)).seq (ackCovered 0 (sealed 3 (runTo (({ slot := 4, seq := 1, dst := 5 } : RadFrame)).capture ({ air .joined with fleet.address := 5 } : State)) ({ slot := 4, seq := 1, dst := 5 } : RadFrame)) (runTo (({ slot := 4, seq := 1, dst := 5 } : RadFrame)).capture ({ air .joined with fleet.address := 5 } : State)))).1, by and_intros <;> first | exact sealed_rx 3 _ _ (by decide +kernel) (by decide +kernel) (by decide +kernel) | with_reducible rfl | decide +kernel | rfl⟩
  · exact ⟨sealed 4 (runTo (({ slot := 4, seq := 1, payload := [5, 0, 0, 0] } : RadFrame)).capture ({ air .joined with fleet.address := 5 } : State)) ({ slot := 4, seq := 1, payload := [5, 0, 0, 0] } : RadFrame), ({ air .joined with fleet.address := 5 } : State), (bcastWin (({ slot := 4, seq := 1, payload := [5, 0, 0, 0] } : RadFrame)).seq (runTo (({ slot := 4, seq := 1, payload := [5, 0, 0, 0] } : RadFrame)).capture ({ air .joined with fleet.address := 5 } : State))).2, by and_intros <;> first | exact sealed_bcast 4 _ _ (by decide +kernel) (by decide +kernel) (by decide +kernel) (by decide +kernel) rfl (by decide +kernel) | with_reducible rfl | decide +kernel | rfl⟩
  · exact ⟨sealed 5 (runTo (({ slot := 1, src := 1, capture := slotStart airBase 0 1 0 + 30 * us1 + bitsLen airBase.fleet 64, payload := List.replicate 8 0 } : RadFrame)).capture airBase) ({ slot := 1, src := 1, capture := slotStart airBase 0 1 0 + 30 * us1 + bitsLen airBase.fleet 64, payload := List.replicate 8 0 } : RadFrame), airBase, runTo (({ slot := 1, src := 1, capture := slotStart airBase 0 1 0 + 30 * us1 + bitsLen airBase.fleet 64, payload := List.replicate 8 0 } : RadFrame)).capture airBase, (tget (runTo (({ slot := 1, src := 1, capture := slotStart airBase 0 1 0 + 30 * us1 + bitsLen airBase.fleet 64, payload := List.replicate 8 0 } : RadFrame)).capture airBase).fleet.rovers (sealed 5 (runTo (({ slot := 1, src := 1, capture := slotStart airBase 0 1 0 + 30 * us1 + bitsLen airBase.fleet 64, payload := List.replicate 8 0 } : RadFrame)).capture airBase) ({ slot := 1, src := 1, capture := slotStart airBase 0 1 0 + 30 * us1 + bitsLen airBase.fleet 64, payload := List.replicate 8 0 } : RadFrame)).src).get (by decide +kernel), by and_intros <;> first | exact sealed_rx 5 _ _ (by decide +kernel) (by decide +kernel) (by decide +kernel) | with_reducible rfl | decide +kernel | rfl⟩
  · exact ⟨sealed 6 (runTo (({ slot := 3, payload := List.replicate 20 0 } : RadFrame)).capture airBase) ({ slot := 3, payload := List.replicate 20 0 } : RadFrame), airBase, runTo (({ slot := 3, payload := List.replicate 20 0 } : RadFrame)).capture airBase, 1, { uid := List.replicate 16 0, startSf := 0, lastSf := 0 }, by and_intros <;> first | exact sealed_rx 6 _ _ (by decide +kernel) (by decide +kernel) (by decide +kernel) | with_reducible rfl | decide +kernel | rfl⟩
  · exact ⟨sealed 6 (runTo (({ slot := 3, payload := List.replicate 20 0 } : RadFrame)).capture ({ airBase with fleet.rovers := [] } : State)) ({ slot := 3, payload := List.replicate 20 0 } : RadFrame), ({ airBase with fleet.rovers := [] } : State), runTo (({ slot := 3, payload := List.replicate 20 0 } : RadFrame)).capture ({ airBase with fleet.rovers := [] } : State), by and_intros <;> first | exact sealed_rx 6 _ _ (by decide +kernel) (by decide +kernel) (by decide +kernel) | with_reducible rfl | decide +kernel | rfl⟩
  · exact ⟨sealed 7 (runTo (({ slot := 4, seq := 1, payload := List.replicate 16 0 ++ le 4 ownOrigin } : RadFrame)).capture ({ air .connecting with fleet.nonce := some (0, 1) } : State)) ({ slot := 4, seq := 1, payload := List.replicate 16 0 ++ le 4 ownOrigin } : RadFrame), ({ air .connecting with fleet.nonce := some (0, 1) } : State), (bcastWin (({ slot := 4, seq := 1, payload := List.replicate 16 0 ++ le 4 ownOrigin } : RadFrame)).seq (runTo (({ slot := 4, seq := 1, payload := List.replicate 16 0 ++ le 4 ownOrigin } : RadFrame)).capture ({ air .connecting with fleet.nonce := some (0, 1) } : State))).2, 0, 1, by and_intros <;> first | exact sealed_bcast 7 _ _ (by decide +kernel) (by decide +kernel) (by decide +kernel) (by decide +kernel) rfl (by decide +kernel) | with_reducible rfl | decide +kernel | rfl | exact (natOf_le 4 ownOrigin).trans (Nat.mod_eq_of_lt (Nat.mod_lt _ (by decide)))⟩
  · exact ⟨sealed 8 (runTo (({ slot := 3, payload := bytes 14 [(12, 1, 1)] } : RadFrame)).capture airBase) ({ slot := 3, payload := bytes 14 [(12, 1, 1)] } : RadFrame), airBase, runTo (({ slot := 3, payload := bytes 14 [(12, 1, 1)] } : RadFrame)).capture airBase, by and_intros <;> first | exact sealed_rx 8 _ _ (by decide +kernel) (by decide +kernel) (by decide +kernel) | with_reducible rfl | decide +kernel | rfl⟩
  · exact ⟨sealed 9 (runTo (({ slot := 4, payload := uid64 ++ [0, 0, 0, 0] } : RadFrame)).capture ({ air .joined with fleet.svcReq := [(0, 1, [], some 0)] } : State)) ({ slot := 4, payload := uid64 ++ [0, 0, 0, 0] } : RadFrame), ({ air .joined with fleet.svcReq := [(0, 1, [], some 0)] } : State), runTo (({ slot := 4, payload := uid64 ++ [0, 0, 0, 0] } : RadFrame)).capture ({ air .joined with fleet.svcReq := [(0, 1, [], some 0)] } : State), (0, 1, [], some 0), by and_intros <;> first | exact sealed_rx 9 _ _ (by decide +kernel) (by decide +kernel) (by decide +kernel) | with_reducible rfl | decide +kernel | rfl⟩
  · exact ⟨0, air .joined, by decide +kernel⟩
  · exact ⟨0, ({ air .joined with fleet.misses := 2 } : State), by decide +kernel⟩
  · exact ⟨(((({ air .connecting with fleet.nonce := some (1, 2) } : State)).fleet.nonce).get (by decide +kernel)).1, (((({ air .connecting with fleet.nonce := some (1, 2) } : State)).fleet.nonce).get (by decide +kernel)).2, ({ air .connecting with fleet.nonce := some (1, 2) } : State), by decide +kernel⟩
  · exact ⟨2, 1, ((sfFull (({ air .connecting with fleet.nonce := some (1, 2), fleet.beaconFlags := 1, sec.drbg := true } : State)) (dtNow (({ air .connecting with fleet.nonce := some (1, 2), fleet.beaconFlags := 1, sec.drbg := true } : State))) : Int) + diffN 32 ((2) + 3 + Config.freeValue (({ air .connecting with fleet.nonce := some (1, 2), fleet.beaconFlags := 1, sec.drbg := true } : State)).freeCtr % 2 ^ min (({ air .connecting with fleet.nonce := some (1, 2), fleet.beaconFlags := 1, sec.drbg := true } : State)).fleet.attempts 5) (sfFull (({ air .connecting with fleet.nonce := some (1, 2), fleet.beaconFlags := 1, sec.drbg := true } : State)) (dtNow (({ air .connecting with fleet.nonce := some (1, 2), fleet.beaconFlags := 1, sec.drbg := true } : State))))).toNat, ({ air .connecting with fleet.nonce := some (1, 2), fleet.beaconFlags := 1, sec.drbg := true } : State), runTo (slotStart (({ air .connecting with fleet.nonce := some (1, 2), fleet.beaconFlags := 1, sec.drbg := true } : State)) (((sfFull (({ air .connecting with fleet.nonce := some (1, 2), fleet.beaconFlags := 1, sec.drbg := true } : State)) (dtNow (({ air .connecting with fleet.nonce := some (1, 2), fleet.beaconFlags := 1, sec.drbg := true } : State))) : Int) + diffN 32 ((2) + 3 + Config.freeValue (({ air .connecting with fleet.nonce := some (1, 2), fleet.beaconFlags := 1, sec.drbg := true } : State)).freeCtr % 2 ^ min (({ air .connecting with fleet.nonce := some (1, 2), fleet.beaconFlags := 1, sec.drbg := true } : State)).fleet.attempts 5) (sfFull (({ air .connecting with fleet.nonce := some (1, 2), fleet.beaconFlags := 1, sec.drbg := true } : State)) (dtNow (({ air .connecting with fleet.nonce := some (1, 2), fleet.beaconFlags := 1, sec.drbg := true } : State))))).toNat) 0 0) (({ air .connecting with fleet.nonce := some (1, 2), fleet.beaconFlags := 1, sec.drbg := true } : State)), ⟨rfl, rfl, rfl, rfl, rfl, rfl, fun h => nomatch h⟩⟩
  · exact ⟨1, (tget (airBase).fleet.rovers (1)).get (by decide +kernel), airBase, by decide +kernel⟩
  · exact ⟨0, 0, 0, { port := 0, msgId := 0, sf := 0 }, ({ air .joined with fleet.peer.asm := [{ port := 0, msgId := 0, sf := 0 }] } : State), by decide +kernel⟩
  · exact ⟨1, 2, 0, [], ({ ready with fleet.svcReq := [(1, 2, [], some 0)] } : State), by decide +kernel⟩
  · exact ⟨air .search, by decide +kernel⟩
  · exact ⟨((takeS0 3 (gave 3 (bytes 9 [(0, 1, 2)]) (air .joined))).get (by decide +kernel)).1, (((takeS0 3 (gave 3 (bytes 9 [(0, 1, 2)]) (air .joined))).get (by decide +kernel)).1).payload, gave 3 (bytes 9 [(0, 1, 2)]) (air .joined), ((takeS0 3 (gave 3 (bytes 9 [(0, 1, 2)]) (air .joined))).get (by decide +kernel)).2, by decide +kernel⟩

theorem test_witness_FleetCommands :
    (∃ (c : Cmd) (s : State) (p : List Byte), admitted 0x0A01 32 0 none c s ∧ prmOf c = p ∧ uAt p 0 1 ≤ 6 ∧ zeros p 1 1 = true ∧ uAt p 2 2 % 10 = 0 ∧ minSf (uAt p 0 1) ≤ uAt p 2 2 ∧ uAt p 2 2 ≤ 400 ∧ ms1 * uAt p 2 2 % tideP s = 0 ∧ netIdOk (uAt p 4 4) = true ∧ 1000 * uAt p 10 2 ≤ 12500 * uAt p 2 2 - 60000 ∧ (uAt p 0 1 < 3 → zeros p 16 8 = true) ∧ uAt p 24 5 ≠ 0 ∧ uAt p 24 5 < 2 ^ 40 ∧ zeros p 29 3 = true ∧ s.fleet.st = .off) ∧
    (∃ (c : Cmd) (s : State), admitted 0x0A01 32 0 none c s ∧ 1000 * uAt (prmOf c) 10 2 > 12500 * uAt (prmOf c) 2 2 - 60000) ∧
    (∃ (c : Cmd) (s : State), admitted 0x0A01 32 0 none c s ∧ netIdOk (uAt (prmOf c) 4 4) = false) ∧
    (∃ (c : Cmd) (s : State) (p : List Byte) (k : Nat) (n : Nat), admitted 0x0A02 (4 + min 16 (uAt (prmOf c) 1 1)) 0 none c s ∧ prmOf c = p ∧ uAt p 0 1 = k ∧ (k ≤ 2 ∨ (8 ≤ k ∧ k ≤ 47)) ∧ uAt p 1 1 = n ∧ 1 ≤ n ∧ n ≤ 16 ∧ zeros p 2 2 = true ∧ s.fleet.st = .off) ∧
    (∃ (c : Cmd) (s : State) (p : List Byte), admitted 0x0A03 3 0 (some 1) c s ∧ prmOf c = p ∧ 1 ≤ uAt p 0 1 ∧ uAt p 0 1 ≤ 64 ∧ uAt p 1 1 ≤ 1 ∧ 3 ≤ uAt p 2 1 ∧ s.fleet.st = .off ∧ s.fleet.configured = true ∧ s.power.st = .spring ∧ noService s = false) ∧
    (∃ (c : Cmd) (s : State), admitted 0x0A04 1 0 (some 1) c s ∧ uAt (prmOf c) 0 1 = 0 ∧ s.fleet.st = .beaconing ∧ s.fleet.rovers = []) ∧
    (∃ (c : Cmd) (s : State), admitted 0x0A04 1 0 (some 1) c s ∧ uAt (prmOf c) 0 1 = 0 ∧ s.fleet.rovers ≠ []) ∧
    (∃ (c : Cmd) (s : State) (p : List Byte), admitted 0x0A05 3 0 (some 1) c s ∧ prmOf c = p ∧ 1 ≤ uAt p 0 1 ∧ uAt p 0 1 ≤ 64 ∧ uAt p 1 1 ≤ 3 ∧ 3 ≤ uAt p 2 1) ∧
    (∃ (c : Cmd) (s : State) (p : List Byte), admitted 0x0A06 6 0 (some 1) c s ∧ prmOf c = p ∧ uAt p 0 5 ≠ 0 ∧ uAt p 0 5 < 2 ^ 40 ∧ (uAt p 5 1 = 0 ∨ 3 ≤ uAt p 5 1) ∧ s.fleet.st = .beaconing ∧ s.fleet.pending = none) ∧
    (∃ (c : Cmd) (s : State) (r : Rover), admitted 0x0A07 1 0 (some 1) c s ∧ tget s.fleet.rovers (uAt (prmOf c) 0 1) = some r) ∧
    (∃ (c : Cmd) (s : State), admitted 0x0A07 1 0 (some 1) c s ∧ tget s.fleet.rovers (uAt (prmOf c) 0 1) = none) ∧
    (∃ (c : Cmd) (s : State) (r : Rover), admitted 0x0A08 1 32 (some 1) c s ∧ tget s.fleet.rovers (uAt (prmOf c) 0 1) = some r) ∧
    (∃ (c : Cmd) (s : State), admitted 0x0A09 0 0 (some 0) c s ∧ s.fleet.st = .off ∧ noService s = false ∧ s.fleet.configured = true) ∧
    (∃ (c : Cmd) (s : State), admitted 0x0A09 0 0 (some 0) c s ∧ s.fleet.st = .off ∧ noService s = false ∧ s.fleet.configured = false) ∧
    (∃ (c : Cmd) (s : State), admitted 0x0A0A 0 0 (some 0) c s ∧ s.fleet.st = .joined ∧ anyCellOn s = false ∧ axesMoving s = false) ∧
    (∃ (c : Cmd) (s : State), admitted 0x0A0A 0 0 (some 0) c s ∧ s.fleet.st = .joined ∧ (anyCellOn s = true ∨ axesMoving s = true)) ∧
    (∃ (c : Cmd) (s : State), admitted 0x0A0B 0 0 (some 0) c s ∧ s.fleet.st = .lost ∧ beaconFresh s = true ∧ bit s.fleet.joinedMap (s.fleet.address - 1) = true) ∧
    (∃ (c : Cmd) (s : State), admitted 0x0A0B 0 0 (some 0) c s ∧ s.fleet.st = .lost ∧ beaconFresh s = true ∧ bit s.fleet.joinedMap (s.fleet.address - 1) = false) ∧
    (∃ (c : Cmd) (s : State), admitted 0x0A0B 0 0 (some 0) c s ∧ s.fleet.st = .lost ∧ beaconFresh s = false) ∧
    (∃ (c : Cmd) (s : State), admitted 0x0A0C 0 29 none c s) ∧
    (∃ (c : Cmd) (s : State) (p : List Byte) (n : Nat), admitted 0x0A0D (12 + min 32 (uAt (prmOf c) 8 1)) 0 none c s ∧ prmOf c = p ∧ uAt p 8 1 = n ∧ 1 ≤ uAt p 0 1 ∧ uAt p 0 1 ≤ 2 ∧ zeros p 1 3 = true ∧ zeros p 9 3 = true ∧ n ≤ 32 ∧ s.fleet.st ≠ .off ∧ s.fleet.configured = true ∧ beaconFresh s = true ∧ s.fleet.svcKey ≠ 0xFF ∧ 14 + n ≤ fullPayload s.fleet) ∧
    (∃ (c : Cmd) (s : State) (p : List Byte) (n : Nat), admitted 0x0A0E (20 + min 32 (uAt (prmOf c) 17 1)) 0 (some 1) c s ∧ prmOf c = p ∧ uAt p 17 1 = n ∧ n ≤ 32 ∧ zeros p 18 2 = true ∧ 0 ≤ diffN 32 (sfNow s) (uAt p 12 4) ∧ diffN 32 (sfNow s) (uAt p 12 4) ≤ 4) ∧
    (∃ (c : Cmd) (s : State) (p : List Byte), admitted 0x0A0E (20 + min 32 (uAt (prmOf c) 17 1)) 0 (some 1) c s ∧ prmOf c = p ∧ uAt p 17 1 ≤ 32 ∧ zeros p 18 2 = true ∧ 4 < diffN 32 (sfNow s) (uAt p 12 4)) := by
  refine ⟨?_, ?_, ?_, ?_, ?_, ?_, ?_, ?_, ?_, ?_, ?_, ?_, ?_, ?_, ?_, ?_, ?_, ?_, ?_, ?_, ?_, ?_, ?_⟩
  · exact ⟨cmd 32 32 [(0, 1, 0), (2, 2, 50), (4, 4, 1431655765), (24, 5, 1)], ready, prmOf (cmd 32 32 [(0, 1, 0), (2, 2, 50), (4, 4, 1431655765), (24, 5, 1)]), by unfold admitted; decide +kernel⟩
  · exact ⟨cmd 32 32 [(10, 2, 1)], ready, by unfold admitted; decide +kernel⟩
  · exact ⟨cmd 32 32 [], ready, by unfold admitted; decide +kernel⟩
  · exact ⟨cmd 5 5 [(1, 1, 1)], ready, prmOf (cmd 5 5 [(1, 1, 1)]), uAt (prmOf (cmd 5 5 [(1, 1, 1)])) 0 1, 1, by unfold admitted; decide +kernel⟩
  · exact ⟨cmd 3 3 [(0, 1, 1), (2, 1, 3)], ({ base with fleet.configured := true } : State), prmOf (cmd 3 3 [(0, 1, 1), (2, 1, 3)]), by unfold admitted; decide +kernel⟩
  · exact ⟨cmd 1 1 [], ({ airBase with fleet.rovers := [] } : State), by unfold admitted; decide +kernel⟩
  · exact ⟨cmd 1 1 [], airBase, by unfold admitted; decide +kernel⟩
  · exact ⟨cmd 3 3 [(0, 1, 1), (2, 1, 3)], base, prmOf (cmd 3 3 [(0, 1, 1), (2, 1, 3)]), by unfold admitted; decide +kernel⟩
  · exact ⟨cmd 6 6 [(0, 5, 1)], airBase, prmOf (cmd 6 6 [(0, 5, 1)]), by unfold admitted; decide +kernel⟩
  · exact ⟨cmd 1 1 [(0, 1, 1)], airBase, (tget (airBase).fleet.rovers (uAt (prmOf (cmd 1 1 [(0, 1, 1)])) 0 1)).get (by decide +kernel), by unfold admitted; decide +kernel⟩
  · exact ⟨cmd 1 1 [], base, by unfold admitted; decide +kernel⟩
  · exact ⟨cmd 1 32 [(0, 1, 1)], airBase, (tget (airBase).fleet.rovers (uAt (prmOf (cmd 1 32 [(0, 1, 1)])) 0 1)).get (by decide +kernel), by unfold admitted; decide +kernel⟩
  · exact ⟨cmd 0 0 [], ({ ready with fleet.configured := true } : State), by unfold admitted; decide +kernel⟩
  · exact ⟨cmd 0 0 [], ready, by unfold admitted; decide +kernel⟩
  · exact ⟨cmd 0 0 [], air .joined, by unfold admitted; decide +kernel⟩
  · exact ⟨cmd 0 0 [], ({ air .joined with axes := [{ st := .moving }], cell.cells := [(0, { aCell with modeNow := 1 })] } : State), by unfold admitted; decide +kernel⟩
  · exact ⟨cmd 0 0 [], ({ air .lost with fleet.beaconAt := some 0, fleet.joinedMap := 1, fleet.address := 1 } : State), by unfold admitted; decide +kernel⟩
  · exact ⟨cmd 0 0 [], ({ air .lost with fleet.beaconAt := some 0, fleet.address := 1 } : State), by unfold admitted; decide +kernel⟩
  · exact ⟨cmd 0 0 [], air .lost, by unfold admitted; decide +kernel⟩
  · exact ⟨cmd 0 29 [], ready, by unfold admitted; decide +kernel⟩
  · exact ⟨cmd 12 12 [(0, 1, 1)], ({ air .joined with fleet.beaconAt := some 0 } : State), prmOf (cmd 12 12 [(0, 1, 1)]), uAt (prmOf (cmd 12 12 [(0, 1, 1)])) 8 1, by unfold admitted; decide +kernel⟩
  · exact ⟨cmd 20 20 [], base, prmOf (cmd 20 20 []), uAt (prmOf (cmd 20 20 [])) 17 1, by unfold admitted; decide +kernel⟩
  · exact ⟨cmd 20 20 [], ({ base with time.out := 2 ^ 23 * (500 * ms1) } : State), prmOf (cmd 20 20 []), by unfold admitted; decide +kernel⟩

theorem test_witness_CorridorEvents :
    (∃ (k : Nat) (m : CorMsg) (s : State), roleOf s = 1 ∧ s.cor.enabled = true ∧ s.fleet.st = .beaconing ∧ nextBatch s = k ∧ s.cor.msgs = [m] ∧ m.isReq = true ∧ s.cor.hosts = [] ∧ s.cor.table = [] ∧ (tget s.fleet.rovers m.addr).isSome = true) ∧
    (∃ (a : Nat) (b : List Byte) (s : State), roleOf s = 1 ∧ s.cor.enabled = true ∧ b.length = 30 ∧ uAt b 0 1 = 1) ∧
    (∃ (a : Nat) (b : List Byte) (s : State), roleOf s = 1 ∧ s.cor.enabled = true ∧ b.length = 5 ∧ uAt b 0 1 = 2) ∧
    (∃ (b : List Byte) (s : State), roleOf s = 0 ∧ s.fleet.st = .joined ∧ b.length = 24 ∧ uAt b 0 1 = 3) ∧
    (∃ (ix : Nat) (e : CorEntry) (s : State), tget s.cor.table ix = some e ∧ e.st = .pending ∧ roleOf s = 0) := by
  refine ⟨?_, ?_, ?_, ?_, ?_⟩
  · exact ⟨nextBatch (({ airBase with cor.msgs := [{ addr := 1, isReq := true, req := 1 }] } : State)), { addr := 1, isReq := true, req := 1 }, ({ airBase with cor.msgs := [{ addr := 1, isReq := true, req := 1 }] } : State), by decide +kernel⟩
  · exact ⟨0, bytes 30 [(0, 1, 1)], airBase, by decide +kernel⟩
  · exact ⟨0, bytes 5 [(0, 1, 2)], airBase, by decide +kernel⟩
  · exact ⟨bytes 24 [(0, 1, 3)], air .joined, by decide +kernel⟩
  · exact ⟨0, (tget (({ ready with cor.table := [(0, anEntry .pending)] } : State)).cor.table (0)).get (by decide +kernel), ({ ready with cor.table := [(0, anEntry .pending)] } : State), by decide +kernel⟩

theorem test_witness_CorridorCommands :
    (∃ (c : Cmd) (s : State) (s0 : State) (p : List Byte) (ix : Nat), admitted 0x0B01 26 2 (some 0) c s ∧ prmOf c = p ∧ corPurge s = s0 ∧ geoOk (entryOf .pending p) = true ∧ s.cor.rImpl < uAt p 24 2 ∧ s.fleet.st = .joined ∧ s.cor.frameSeen = true ∧ firstFree 64 s0.cor.table = some ix) ∧
    (∃ (c : Cmd) (s : State) (e : CorEntry), admitted 0x0B02 2 0 (some 0) c s ∧ tget (corLive s) (uAt (prmOf c) 0 2) = some e ∧ e.st ≠ .grant) ∧
    (∃ (c : Cmd) (s : State) (e : CorEntry), admitted 0x0B02 2 0 (some 0) c s ∧ tget (corLive s) (uAt (prmOf c) 0 2) = some e ∧ e.st = .grant) ∧
    (∃ (c : Cmd) (s : State), admitted 0x0B02 2 0 (some 0) c s ∧ tget (corLive s) (uAt (prmOf c) 0 2) = none) ∧
    (∃ (c : Cmd) (s : State) (s0 : State) (p : List Byte) (ix : Nat), admitted 0x0B03 26 2 (some 0) c s ∧ prmOf c = p ∧ corPurge s = s0 ∧ geoOk (entryOf .loc p) = true ∧ s.fleet.st ≠ .joined ∧ s.fleet.st ≠ .lost ∧ firstFree 64 s0.cor.table = some ix) ∧
    (∃ (c : Cmd) (s : State) (p : List Byte), admitted 0x0B04 5 0 (some 0) c s ∧ prmOf c = p ∧ 4 ≤ uAt p 4 1) ∧
    (∃ (c : Cmd) (s : State), admitted 0x0B05 2 32 none c s ∧ uAt (prmOf c) 0 2 < (if roleOf s = 1 then 4096 else 64)) ∧
    (∃ (c : Cmd) (s : State) (p : List Byte), admitted 0x0B06 32 0 (some 1) c s ∧ prmOf c = p ∧ uAt p 0 1 ≤ 1 ∧ zeros p 1 3 = true ∧ zeros p 27 1 = true ∧ 1 ≤ uAt p 28 4 ∧ uAt p 28 4 ≤ 1000000 ∧ (iAt p 4 8).natAbs ≤ 90000000000000 ∧ (iAt p 12 8).natAbs ≤ 180000000000000 ∧ (uAt p 0 1 = 1 → 42 ≤ fullPayload s.fleet) ∧ (∀ e ∈ s.cor.table, e.2.st ≠ .granted) ∧ s.fleet.rovers = [] ∧ (uAt p 0 1 = 0 → s.cor.hosts = []) ∧ (iAt p 4 8 ≠ s.cor.lat ∨ iAt p 12 8 ≠ s.cor.lon ∨ iAt p 20 4 ≠ s.cor.height)) ∧
    (∃ (c : Cmd) (s : State) (p : List Byte), admitted 0x0B06 32 0 (some 1) c s ∧ prmOf c = p ∧ uAt p 0 1 = 1 ∧ zeros p 1 3 = true ∧ zeros p 27 1 = true ∧ 1 ≤ uAt p 28 4 ∧ uAt p 28 4 ≤ 1000000 ∧ (iAt p 4 8).natAbs ≤ 90000000000000 ∧ (iAt p 12 8).natAbs ≤ 180000000000000 ∧ fullPayload s.fleet < 42) ∧
    (∃ (c : Cmd) (s : State) (p : List Byte), admitted 0x0B07 2 0 (some 1) c s ∧ prmOf c = p ∧ 1 ≤ uAt p 0 1 ∧ uAt p 0 1 ≤ 64 ∧ uAt p 1 1 ≠ 0) ∧
    (∃ (c : Cmd) (s : State) (p : List Byte), admitted 0x0B08 27 2 (some 1) c s ∧ prmOf c = p ∧ uAt p 26 1 ≤ 3 ∧ geoOk { entryOf .block p with openEnd := bit (uAt p 26 1) 1 } = true ∧ s.cor.enabled = true ∧ s.fleet.st = .beaconing) ∧
    (∃ (c : Cmd) (s : State) (e : CorEntry), admitted 0x0B09 2 0 (some 1) c s ∧ tget s.cor.table (uAt (prmOf c) 0 2) = some e ∧ (e.st = .granted ∨ e.st = .block) ∧ s.cor.enabled = true ∧ s.fleet.st = .beaconing) ∧
    (∃ (c : Cmd) (s : State), admitted 0x0B09 2 0 (some 1) c s ∧ tget s.cor.table (uAt (prmOf c) 0 2) = none) ∧
    (∃ (c : Cmd) (s : State), admitted 0x0B0A 0 12 none c s) := by
  refine ⟨?_, ?_, ?_, ?_, ?_, ?_, ?_, ?_, ?_, ?_, ?_, ?_, ?_, ?_⟩
  · exact ⟨cmd 26 26 [(4, 4, 10), (16, 4, 1), (20, 4, 1), (24, 2, 1)], ({ air .joined with cor.frameSeen := true } : State), corPurge (({ air .joined with cor.frameSeen := true } : State)), prmOf (cmd 26 26 [(4, 4, 10), (16, 4, 1), (20, 4, 1), (24, 2, 1)]), (firstFree 64 (corPurge (({ air .joined with cor.frameSeen := true } : State))).cor.table).get (by decide +kernel), by unfold admitted; decide +kernel⟩
  · exact ⟨cmd 2 2 [], ({ ready with cor.table := [(0, anEntry .pending)] } : State), (tget (corLive (({ ready with cor.table := [(0, anEntry .pending)] } : State))) (uAt (prmOf (cmd 2 2 [])) 0 2)).get (by decide +kernel), by unfold admitted; decide +kernel⟩
  · exact ⟨cmd 2 2 [], ({ ready with cor.table := [(0, anEntry .grant)] } : State), (tget (corLive (({ ready with cor.table := [(0, anEntry .grant)] } : State))) (uAt (prmOf (cmd 2 2 [])) 0 2)).get (by decide +kernel), by unfold admitted; decide +kernel⟩
  · exact ⟨cmd 2 2 [], ready, by unfold admitted; decide +kernel⟩
  · exact ⟨cmd 26 26 [(4, 4, 10), (16, 4, 1), (20, 4, 1), (24, 2, 1)], ready, corPurge (ready), prmOf (cmd 26 26 [(4, 4, 10), (16, 4, 1), (20, 4, 1), (24, 2, 1)]), (firstFree 64 (corPurge (ready)).cor.table).get (by decide +kernel), by unfold admitted; decide +kernel⟩
  · exact ⟨cmd 5 5 [(4, 1, 4)], ready, prmOf (cmd 5 5 [(4, 1, 4)]), by unfold admitted; decide +kernel⟩
  · exact ⟨cmd 2 32 [], ready, by unfold admitted; decide +kernel⟩
  · exact ⟨cmd 32 32 [(4, 8, 1), (28, 4, 1)], base, prmOf (cmd 32 32 [(4, 8, 1), (28, 4, 1)]), by unfold admitted; decide +kernel⟩
  · exact ⟨cmd 32 32 [(0, 1, 1), (28, 4, 1)], ({ base with fleet.mode := 6 } : State), prmOf (cmd 32 32 [(0, 1, 1), (28, 4, 1)]), by unfold admitted; decide +kernel⟩
  · exact ⟨cmd 2 2 [(0, 1, 1), (1, 1, 1)], base, prmOf (cmd 2 2 [(0, 1, 1), (1, 1, 1)]), by unfold admitted; decide +kernel⟩
  · exact ⟨cmd 27 27 [(4, 4, 10), (16, 4, 1), (20, 4, 1), (24, 2, 1)], airBase, prmOf (cmd 27 27 [(4, 4, 10), (16, 4, 1), (20, 4, 1), (24, 2, 1)]), by unfold admitted; decide +kernel⟩
  · exact ⟨cmd 2 2 [], ({ airBase with cor.table := [(0, anEntry .block)] } : State), (tget (({ airBase with cor.table := [(0, anEntry .block)] } : State)).cor.table (uAt (prmOf (cmd 2 2 [])) 0 2)).get (by decide +kernel), by unfold admitted; decide +kernel⟩
  · exact ⟨cmd 2 2 [], base, by unfold admitted; decide +kernel⟩
  · exact ⟨cmd 0 12 [], ready, by unfold admitted; decide +kernel⟩

theorem test_witness_StopRows :
    (∃ (a : Bool) (b : Bool) (s : State), (a || b) = true ∧ stopActive s 0 = false ∧ 6 ≤ s.stop.active.length) ∧
    (∃ (s : State), s.stop.discrep = false ∧ s.stop.st = .inForce ∧ 6 ≤ s.stop.active.length ∧ stopActive s 0 = true ∧ (∀ k, 1 ≤ k → k ≤ 4 → stopActive s k = false) ∧ s.stop.episode ≠ 16) ∧
    (∃ (b : Bool) (s : State), s.stop.discrep = false ∧ stopActive s 0 = false ∧ 6 ≤ s.stop.active.length) ∧
    (∃ (s : State), stopActive s 3 = true ∧ 6 ≤ s.stop.active.length) ∧
    (∃ (c : Cmd) (s : State), admitted 0x0C01 0 11 none c s) ∧
    (∃ (c : Cmd) (s : State), admitted 0x0C02 0 0 none c s ∧ s.stop.st = .latched ∧ 6 ≤ s.stop.active.length) ∧
    (∃ (c : Cmd) (s : State), admitted 0x0C02 0 0 none c s ∧ s.stop.st = .clear) ∧
    (∃ (c : Cmd) (s : State), admitted 0x0C02 0 0 none c s ∧ s.stop.st = .inForce ∧ s.stop.discrep = false) ∧
    (∃ (c : Cmd) (s : State), admitted 0x0C02 0 0 none c s ∧ s.stop.st = .inForce ∧ stopSources s = 1 ∧ s.stop.discrep = true ∧ s.stop.together = false ∧ s.stop.aLow = false ∧ s.stop.bLow = false) ∧
    (∃ (c : Cmd) (s : State) (p : List Byte), admitted 0x0C03 2 0 none c s ∧ prmOf c = p ∧ uAt p 0 1 < 8 ∧ uAt p 1 1 < 8 ∧ stopInForce s = true) ∧
    (∃ (c : Cmd) (s : State), admitted 0x0C03 2 0 none c s ∧ uAt (prmOf c) 0 1 < 8 ∧ uAt (prmOf c) 1 1 < 8 ∧ stopInForce s = false) := by
  refine ⟨?_, ?_, ?_, ?_, ?_, ?_, ?_, ?_, ?_, ?_, ?_⟩
  · exact ⟨true, false, ready, by decide +kernel⟩
  · exact ⟨({ ready with stop.st := .inForce, stop.active := [some 0, none, none, none, none, none] } : State), by refine ⟨rfl, rfl, by decide, rfl, ?_, by decide⟩; exact upto4 _ rfl rfl rfl rfl⟩
  · exact ⟨false, ready, by decide +kernel⟩
  · exact ⟨({ ready with stop.active := [none, none, none, some 0, none, none] } : State), by decide +kernel⟩
  · exact ⟨cmd 0 11 [], ready, by unfold admitted; decide +kernel⟩
  · exact ⟨cmd 0 0 [], ready, by unfold admitted; decide +kernel⟩
  · exact ⟨cmd 0 0 [], ({ ready with stop.st := .clear } : State), by unfold admitted; decide +kernel⟩
  · exact ⟨cmd 0 0 [], ({ ready with stop.st := .inForce } : State), by unfold admitted; decide +kernel⟩
  · exact ⟨cmd 0 0 [], ({ ready with stop.st := .inForce, stop.active := [some 0, none, none, none, none, none], stop.discrep := true, stop.aLow := false, stop.bLow := false } : State), by unfold admitted; decide +kernel⟩
  · exact ⟨cmd 2 2 [], ready, prmOf (cmd 2 2 []), by unfold admitted; decide +kernel⟩
  · exact ⟨cmd 2 2 [], ({ ready with stop.st := .clear } : State), by unfold admitted; decide +kernel⟩

theorem test_witness_VexlinkEvents :
    (∃ (n : Nat) (s : State), (vxOf s n).st = .training) ∧
    (∃ (n : Nat) (cause : Nat) (s : State), n < s.net.vx.length ∧ ((vxOf s n).st = .measuring ∨ (vxOf s n).st = .up)) ∧
    (∃ (n : Nat) (m : VxMsg) (s : State) (s1 : State), stopAccept s n = true ∧ vxFlood n m (stopForward s) s = (true, s1) ∧ stopActive s1 3 = false ∧ 6 ≤ s1.stop.active.length) ∧
    (∃ (n : Nat) (m : VxMsg) (s : State), stopAccept s n = false) ∧
    (∃ (n : Nat) (m : VxMsg) (s : State) (s1 : State), vxFlood n m [0, 1, 2] s = (true, s1) ∧ s1.net.group ≠ 1 ∧ isFollower s1 = true ∧ m.origin ≠ rootId s1) ∧
    (∃ (n : Nat) (m : VxMsg) (s : State) (s1 : State) (t0 : Nat), vxFlood n m [0, 1, 2] s = (true, s1) ∧ s1.net.group ≠ 1 ∧ isFollower s1 = true ∧ m.origin = rootId s1 ∧ m.body.length = 112 ∧ s1.time.lastBoundary = some t0 ∧ s1.pose.refNow = false ∧ dtNow s1 ≤ t0 + tideP s1 / 10 ∧ uAt m.body 96 4 = (if jobId s1 = 0 then 0 else s1.time.tideNo) ∧ uAt m.body 100 1 = s1.votes.tide.value ∧ uAt m.body 104 4 = jobId s1) ∧
    (∃ (n : Nat) (frac : Nat) (m : VxMsg) (s : State), (vxOf s n).st = .up ∧ n < s.net.vx.length ∧ m.origin ≠ ownOrigin ∧ s.net.group = 2 ∧ uAt m.body 16 4 ≠ rootId s) ∧
    (∃ (n : Nat) (frac : Nat) (m : VxMsg) (s : State), (vxOf s n).st = .up ∧ m.origin = ownOrigin) ∧
    (∃ (n : Nat) (frac : Nat) (m : VxMsg) (s : State), (vxOf s n).st = .up ∧ m.origin ≠ ownOrigin ∧ n < 3 ∧ n < s.net.vx.length ∧ s.net.group = 2 ∧ uAt m.body 16 4 = rootId s ∧ (vxOf s n).timeArr = none) ∧
    (∃ (n : Nat) (origin : Nat) (frac : Nat) (s : State), (vxOf s n).st ≠ .off ∧ origin ≠ ownOrigin) ∧
    (∃ (n : Nat) (frac : Nat) (t1 : Nat) (m : VxMsg) (s : State), n < s.net.vx.length ∧ (vxOf s n).st = .measuring ∧ m.origin ≠ ownOrigin ∧ (vxOf s n).t1 = some t1 ∧ (vxOf s n).exchanges = 7) ∧
    (∃ (n : Nat) (frac : Nat) (t1 : Nat) (m : VxMsg) (s : State), n < s.net.vx.length ∧ (vxOf s n).st = .training ∧ m.origin ≠ ownOrigin ∧ (vxOf s n).t1 = some t1) ∧
    (∃ (n : Nat) (o : Nat) (ty : Nat) (q : Nat) (m : VxMsg) (s : State), m.body = le 4 o ++ le 1 ty ++ [0] ++ le 2 q ∧ m.origin ≠ ownOrigin ∧ o < 2 ^ 32 ∧ ty < 256 ∧ q < 65536) ∧
    (∃ (n : Nat) (m : VxMsg) (s : State) (s1 : State), vxFlood n m (vxUp s) s = (true, s1) ∧ m.ackReq = false) ∧
    (∃ (n : Nat) (m : VxMsg) (s : State) (s1 : State), vxFlood n m (vxUp s) s = (true, s1) ∧ m.ackReq = false) ∧
    (∃ (n : Nat) (m : VxMsg) (s : State) (s1 : State) (s2 : State) (ms : List VxMsg), vxFlood n m (vxUp s) s = (true, s1) ∧ m.ackReq = true ∧ relAccept m s1 = (ms, s2)) ∧
    (∃ (n : Nat) (m : VxMsg) (s : State) (s1 : State), vxFlood n m (vxUp s) s = (true, s1)) ∧
    (∃ (n : Nat) (s : State), n < s.net.vx.length ∧ (vxOf s n).st ≠ .off) ∧
    (∃ (s : State), s.net.group = 0) ∧
    (∃ (n : Nat) (s : State) (s1 : State), s.net.group = 1 ∧ 3 ≤ s.net.vx.length ∧ n < 3 ∧ (vxOf s n).st = .up ∧ runTo (timeSendAt s) s = s1) ∧
    (∃ (n : Nat) (ix : Nat) (r : RelOut) (s : State), (s.net.relOut.filter (fun r => r.port == n))[ix]? = some r ∧ s.net.retryMax ≤ r.tries) ∧
    (∃ (n : Nat) (ix : Nat) (r : RelOut) (s : State), (s.net.relOut.filter (fun r => r.port == n))[ix]? = some r ∧ r.tries < s.net.retryMax) ∧
    (∃ (o : Nat) (ty : Nat) (c : Nat) (r : RelIn) (m : VxMsg) (s : State), ty = 8 ∧ s.net.relIn = [r] ∧ r.origin = o ∧ r.type = ty ∧ r.gapFrom = some c ∧ r.held = [m] ∧ 0 < diffN 16 m.seq r.next ∧ m.seq < 65536 ∧ r.next < 65536) ∧
    (∃ (p : Packet) (s : State) (s1 : State) (b : List Byte), takeS0 5 s = some (p, s1) ∧ p.payload.drop 4 = b ∧ uAt p.payload 0 1 ≤ 1 ∧ zeros p.payload 1 3 = true ∧ 2 ≤ uAt b 0 1 ∧ uAt b 0 1 ≤ 0x7F ∧ zeros b 1 3 = true ∧ 5 ≤ b.length ∧ b.length ≤ 1028) ∧
    (∃ (n : Nat) (b : List Byte) (s : State), (vxOf s n).st = .up ∧ n < s.net.vx.length ∧ b.length = 32 ∧ uAt b 30 2 ≠ crc16 (b.take 30)) ∧
    (∃ (n : Nat) (b : List Byte) (s : State), (vxOf s n).st = .up ∧ n < s.net.vx.length ∧ blockOk b = true ∧ 3 ≤ uAt b 0 1 / 32 ∧ bit (uAt b 0 1) 4 = true ∧ bit (uAt b 0 1) 3 = false) := by
  refine ⟨?_, ?_, ?_, ?_, ?_, ?_, ?_, ?_, ?_, ?_, ?_, ?_, ?_, ?_, ?_, ?_, ?_, ?_, ?_, ?_, ?_, ?_, ?_, ?_, ?_, ?_⟩
  · exact ⟨0, ({ ready with net.vx := [{ st := .training }, {}, {}] } : State), by decide +kernel⟩
  · exact ⟨0, 0, ({ ready with net.vx := [{ st := .up }, {}, {}] } : State), by decide +kernel⟩
  · exact ⟨0, aMsg 0 [], linked 0, flooded 0 (aMsg 0 []) (linked 0), by refine ⟨rfl, flood_aMsg 0 0 [] _, rfl, by decide +kernel⟩⟩
  · exact ⟨0, aMsg 8 [], ({ ready with votes.stopCfg := {} } : State), by decide +kernel⟩
  · exact ⟨0, aMsg 1 [], linked 2, flooded 0 (aMsg 1 []) (linked 2), by refine ⟨flood_aMsg 1 2 [] _, by decide +kernel, rfl, fun h => Nat.succ_ne_zero ownOrigin h⟩⟩
  · exact ⟨0, { aMsg 1 (bytes 112 [(100, 1, 2)]) with origin := (ownOrigin + 1) % 2 ^ 32 }, ({ linked 2 with net.root := le 4 ((ownOrigin + 1) % 2 ^ 32) ++ List.replicate 12 0 } : State), flooded 0 ({ aMsg 1 (bytes 112 [(100, 1, 2)]) with origin := (ownOrigin + 1) % 2 ^ 32 }) ({ linked 2 with net.root := le 4 ((ownOrigin + 1) % 2 ^ 32) ++ List.replicate 12 0 } : State), 0, by refine ⟨flood_last 0 _ _ _ rfl next_other rfl (Nat.le_refl 255) rfl, by decide +kernel, rfl, (natOf_mod _).symm, rfl, rfl, rfl, by decide +kernel, rfl, rfl, rfl⟩⟩
  · exact ⟨0, 0, aMsg 2 (bytes 20 [(16, 4, 1)]), linked 2, by and_intros <;> first | exact Nat.succ_ne_self _ | decide +kernel | rfl⟩
  · exact ⟨0, 0, { aMsg 2 [] with origin := ownOrigin }, linked 0, ⟨rfl, rfl⟩⟩
  · exact ⟨0, 0, aMsg 2 (bytes 20 []), linked 2, by and_intros <;> first | exact Nat.succ_ne_self _ | decide +kernel | rfl⟩
  · exact ⟨0, (ownOrigin + 1), 0, linked 0, by and_intros <;> first | exact Nat.succ_ne_self _ | decide +kernel | rfl⟩
  · exact ⟨0, 0, ((vxOf (({ ready with net.vx := [{ st := .measuring, t1 := some 0, exchanges := 7 }, {}, {}] } : State)) (0)).t1).get (by decide +kernel), aMsg 8 [], ({ ready with net.vx := [{ st := .measuring, t1 := some 0, exchanges := 7 }, {}, {}] } : State), by and_intros <;> first | exact Nat.succ_ne_self _ | decide +kernel | rfl⟩
  · exact ⟨0, 0, ((vxOf (({ ready with net.vx := [{ st := .training, t1 := some 0 }, {}, {}] } : State)) (0)).t1).get (by decide +kernel), aMsg 8 [], ({ ready with net.vx := [{ st := .training, t1 := some 0 }, {}, {}] } : State), by and_intros <;> first | exact Nat.succ_ne_self _ | decide +kernel | rfl⟩
  · exact ⟨0, 1, 2, 3, aMsg 6 (le 4 1 ++ le 1 2 ++ [0] ++ le 2 3), ready, by and_intros <;> first | exact Nat.succ_ne_self _ | decide +kernel | rfl⟩
  · exact ⟨0, aMsg 8 [], linked 0, flooded 0 (aMsg 8 []) (linked 0), ⟨flood_aMsg 8 0 [] _, rfl⟩⟩
  · exact ⟨0, aMsg 8 [], linked 0, flooded 0 (aMsg 8 []) (linked 0), ⟨flood_aMsg 8 0 [] _, rfl⟩⟩
  · exact ⟨0, { aMsg 8 [] with ackReq := true }, linked 0, (vxFlood (0) ({ aMsg 8 [] with ackReq := true }) (vxUp (linked 0)) (linked 0)).2, (relAccept ({ aMsg 8 [] with ackReq := true }) ((vxFlood (0) ({ aMsg 8 [] with ackReq := true }) (vxUp (linked 0)) (linked 0)).2)).2, (relAccept ({ aMsg 8 [] with ackReq := true }) ((vxFlood (0) ({ aMsg 8 [] with ackReq := true }) (vxUp (linked 0)) (linked 0)).2)).1, ⟨Prod.ext (flood_new 0 _ _ _ rfl other_origin rfl) rfl, rfl, rfl⟩⟩
  · exact ⟨0, aMsg 8 [], linked 0, flooded 0 (aMsg 8 []) (linked 0), flood_aMsg 8 0 [] _⟩
  · exact ⟨0, linked 0, by decide +kernel⟩
  · exact ⟨ready, by decide +kernel⟩
  · exact ⟨0, linked 1, runTo (timeSendAt (linked 1)) (linked 1), by decide +kernel⟩
  · exact ⟨0, 0, { port := 0, msg := { type := 8, origin := 0 }, cyc := 0, tries := 4 }, ({ ready with net.relOut := [{ port := 0, msg := { type := 8, origin := 0 }, cyc := 0, tries := 4 }] } : State), by decide +kernel⟩
  · exact ⟨0, 0, { port := 0, msg := { type := 8, origin := 0 }, cyc := 0 }, ({ ready with net.relOut := [{ port := 0, msg := { type := 8, origin := 0 }, cyc := 0 }] } : State), by decide +kernel⟩
  · exact ⟨1, 8, 0, { origin := 1, type := 8, next := 1, gapFrom := some 0, held := [{ type := 8, origin := 1, seq := 3 }] }, { type := 8, origin := 1, seq := 3 }, ({ ready with net.relIn := [{ origin := 1, type := 8, next := 1, gapFrom := some 0, held := [{ type := 8, origin := 1, seq := 3 }] }] } : State), by decide +kernel⟩
  · exact ⟨((takeS0 5 (gave 5 (bytes 9 [(4, 1, 2)]) ready)).get (by decide +kernel)).1, gave 5 (bytes 9 [(4, 1, 2)]) ready, ((takeS0 5 (gave 5 (bytes 9 [(4, 1, 2)]) ready)).get (by decide +kernel)).2, (((takeS0 5 (gave 5 (bytes 9 [(4, 1, 2)]) ready)).get (by decide +kernel)).1).payload.drop 4, by decide +kernel⟩
  · exact ⟨0, bytes 32 [(30, 2, 0xFFFE)], linked 0, by decide +kernel⟩
  · exact ⟨0, let b := bytes 30 [(0, 1, 0x70), (1, 1, 1)]; b ++ le 2 (crc16 b), linked 0, by decide +kernel⟩

theorem test_witness_EthernetRows :
    (∃ (n : Nat) (frac : Nat) (f : List Byte) (s : State), (ethOf s n).enabled = true ∧ (ethOf s n).link = true ∧ 60 ≤ f.length ∧ f.length ≤ 1518 ∧ ethAccepts (ethOf s n) (decide (0 < (ptpOf s n).st)) f = true ∧ (isPtp f = false ∨ (ptpOf s n).st = 0)) ∧
    (∃ (n : Nat) (frac : Nat) (f : List Byte) (s : State), (ethOf s n).enabled = true ∧ (ethOf s n).link = true ∧ 60 ≤ f.length ∧ f.length ≤ 1518 ∧ ethAccepts (ethOf s n) (decide (0 < (ptpOf s n).st)) f = false) ∧
    (∃ (n : Nat) (frac : Nat) (w : List Byte) (s : State), w.length ≤ 1522 ∧ w.drop (w.length - 4) ≠ ethFcs (w.take (w.length - 4))) ∧
    (∃ (q : Packet) (f : List Byte) (n : Nat) (s : State) (s1 : State), takeS0 6 s = some (q, s1) ∧ uAt q.payload 0 1 = n ∧ n ≤ 1 ∧ q.payload.drop 8 = f ∧ (ethOf s1 n).enabled = true ∧ (ethOf s1 n).link = true ∧ 14 ≤ f.length ∧ f.length ≤ 1518 ∧ uAt q.payload 2 1 = 1 ∧ zeros q.payload 3 1 = true ∧ fitsSomeWindow (ethOf s1 n) (classOf f) (ethTime (ethOf s1 n) f) = true) ∧
    (∃ (n : Nat) (cl : Nat) (f : EthFrame) (s : State), (ethOf s n).enabled = true ∧ (ethOf s n).link = true ∧ (ethOf s n).backoff = none ∧ (n = 1 → s.sec.drbg = true) ∧ (ethOf s n).txEnd ≤ s.time.cyc ∧ gateSweep n s = s ∧ ethNext (ethOf s n) (dtNow s) = some (cl, f) ∧ f.token = none) ∧
    (∃ (n : Nat) (e : Nat) (g : GateList) (s : State), n < s.net.eth.length ∧ (ethOf s n).gates = some g ∧ (ethOf s n).gateEnd = some e ∧ (ethOf s n).nextGates = none ∧ dtNow s ≤ e ∧ e < dtNow s + ns1 * cycleNs g.entries ∧ (ethOf s n).gateIx + 1 < g.entries.length) ∧
    (∃ (bits : Nat) (cl : Nat) (f : EthFrame) (s : State), 1 < s.net.eth.length ∧ ethNext (ethOf s 1) (dtNow s) = some (cl, f) ∧ 512 < bits) ∧
    (∃ (bits : Nat) (cl : Nat) (f : EthFrame) (s : State), 1 < s.net.eth.length ∧ ethNext (ethOf s 1) (dtNow s) = some (cl, f) ∧ bits ≤ 512 ∧ (ethOf s 1).attempts < 15 ∧ s.sec.drbg = true) ∧
    (∃ (c : Nat) (s : State), 1 < s.net.eth.length ∧ (ethOf s 1).backoff = some c) ∧
    (∃ (n : Nat) (speed : Nat) (up : Bool) (s : State), n ≤ 1 ∧ n < s.net.eth.length ∧ (ethOf s n).link ≠ up) ∧
    (∃ (c : Cmd) (s : State) (p : List Byte) (n : Nat), admitted 0x0D03 16 0 none c s ∧ prmOf c = p ∧ uAt p 0 1 = n ∧ n ≤ 1 ∧ uAt p 2 1 ≤ 7 ∧ zeros p 3 1 = true ∧ zeros p 10 2 = true ∧ (n = 0 → uAt p 1 1 = 1 ∨ uAt p 1 1 = 2) ∧ (n = 1 → uAt p 1 1 = 0)) ∧
    (∃ (c : Cmd) (s : State), admitted 0x0D03 16 0 none c s ∧ uAt (prmOf c) 0 1 = 1 ∧ uAt (prmOf c) 1 1 ≠ 0) ∧
    (∃ (c : Cmd) (s : State), admitted 0x0D04 12 0 none c s ∧ uAt (prmOf c) 0 1 ≤ 1 ∧ zeros (prmOf c) 1 3 = true) ∧
    (∃ (c : Cmd) (s : State) (p : List Byte), admitted 0x0D05 9 0 none c s ∧ prmOf c = p ∧ uAt p 0 1 ≤ 1 ∧ uAt p 2 1 = 1 ∧ zeros p 3 1 = true ∧ uAt p 1 1 ≤ 63 ∧ uAt p 5 4 ≠ 0) ∧
    (∃ (c : Cmd) (s : State), admitted 0x0D06 16 0 none c s ∧ uAt (prmOf c) 0 1 ≤ 1 ∧ uAt (prmOf c) 1 1 = 0 ∧ zeros (prmOf c) 2 2 = true ∧ dtOk (prmOf c) 4 = true) ∧
    (∃ (c : Cmd) (s : State) (p : List Byte), admitted 0x0D06 16 0 none c s ∧ prmOf c = p ∧ uAt p 0 1 ≤ 1 ∧ 1 ≤ uAt p 1 1 ∧ uAt p 1 1 ≤ 64 ∧ zeros p 2 2 = true ∧ dtOk p 4 = true ∧ 1000000000 < cycleNs ((ethOf s (uAt p 0 1)).loaded.take (uAt p 1 1))) := by
  refine ⟨?_, ?_, ?_, ?_, ?_, ?_, ?_, ?_, ?_, ?_, ?_, ?_, ?_, ?_, ?_, ?_⟩
  · exact ⟨0, 0, List.replicate 60 0, ({ ready with net.eth := [{ enabled := true, link := true, promisc := true }, { enabled := true, link := true, promisc := true }] } : State), by decide +kernel⟩
  · exact ⟨0, 0, bytes 60 [(0, 1, 2)], ({ ready with net.eth := [{ enabled := true, link := true }, { enabled := true, link := true }] } : State), by decide +kernel⟩
  · exact ⟨0, 0, [], ready, by decide +kernel⟩
  · exact ⟨((takeS0 6 (gave 6 (bytes 22 [(2, 1, 1)]) ({ ready with net.eth := [{ enabled := true, link := true }, { enabled := true, link := true }] } : State))).get (by decide +kernel)).1, (((takeS0 6 (gave 6 (bytes 22 [(2, 1, 1)]) ({ ready with net.eth := [{ enabled := true, link := true }, { enabled := true, link := true }] } : State))).get (by decide +kernel)).1).payload.drop 8, uAt (((takeS0 6 (gave 6 (bytes 22 [(2, 1, 1)]) ({ ready with net.eth := [{ enabled := true, link := true }, { enabled := true, link := true }] } : State))).get (by decide +kernel)).1).payload 0 1, gave 6 (bytes 22 [(2, 1, 1)]) ({ ready with net.eth := [{ enabled := true, link := true }, { enabled := true, link := true }] } : State), ((takeS0 6 (gave 6 (bytes 22 [(2, 1, 1)]) ({ ready with net.eth := [{ enabled := true, link := true }, { enabled := true, link := true }] } : State))).get (by decide +kernel)).2, by decide +kernel⟩
  · exact ⟨0, ((ethNext (ethOf (({ ready with net.eth := [{ enabled := true, link := true, queues := [[{ bytes := List.replicate 60 0 }]] }, { enabled := true, link := true, queues := [[{ bytes := List.replicate 60 0 }]] }] } : State)) (0)) (dtNow (({ ready with net.eth := [{ enabled := true, link := true, queues := [[{ bytes := List.replicate 60 0 }]] }, { enabled := true, link := true, queues := [[{ bytes := List.replicate 60 0 }]] }] } : State)))).get (by decide +kernel)).1, ((ethNext (ethOf (({ ready with net.eth := [{ enabled := true, link := true, queues := [[{ bytes := List.replicate 60 0 }]] }, { enabled := true, link := true, queues := [[{ bytes := List.replicate 60 0 }]] }] } : State)) (0)) (dtNow (({ ready with net.eth := [{ enabled := true, link := true, queues := [[{ bytes := List.replicate 60 0 }]] }, { enabled := true, link := true, queues := [[{ bytes := List.replicate 60 0 }]] }] } : State)))).get (by decide +kernel)).2, ({ ready with net.eth := [{ enabled := true, link := true, queues := [[{ bytes := List.replicate 60 0 }]] }, { enabled := true, link := true, queues := [[{ bytes := List.replicate 60 0 }]] }] } : State), by decide +kernel⟩
  · exact ⟨0, ((ethOf (({ ready with net.eth := [{ gates := some { entries := [(1, 100), (1, 100)], base := 0 }, gateEnd := some 0 }, { gates := some { entries := [(1, 100), (1, 100)], base := 0 }, gateEnd := some 0 }] } : State)) (0)).gateEnd).get (by decide +kernel), ((ethOf (({ ready with net.eth := [{ gates := some { entries := [(1, 100), (1, 100)], base := 0 }, gateEnd := some 0 }, { gates := some { entries := [(1, 100), (1, 100)], base := 0 }, gateEnd := some 0 }] } : State)) (0)).gates).get (by decide +kernel), ({ ready with net.eth := [{ gates := some { entries := [(1, 100), (1, 100)], base := 0 }, gateEnd := some 0 }, { gates := some { entries := [(1, 100), (1, 100)], base := 0 }, gateEnd := some 0 }] } : State), by decide +kernel⟩
  · exact ⟨513, ((ethNext (ethOf (({ ready with net.eth := [{ queues := [[{ bytes := [] }]] }, { queues := [[{ bytes := [] }]] }] } : State)) 1) (dtNow (({ ready with net.eth := [{ queues := [[{ bytes := [] }]] }, { queues := [[{ bytes := [] }]] }] } : State)))).get (by decide +kernel)).1, ((ethNext (ethOf (({ ready with net.eth := [{ queues := [[{ bytes := [] }]] }, { queues := [[{ bytes := [] }]] }] } : State)) 1) (dtNow (({ ready with net.eth := [{ queues := [[{ bytes := [] }]] }, { queues := [[{ bytes := [] }]] }] } : State)))).get (by decide +kernel)).2, ({ ready with net.eth := [{ queues := [[{ bytes := [] }]] }, { queues := [[{ bytes := [] }]] }] } : State), by decide +kernel⟩
  · exact ⟨0, ((ethNext (ethOf (({ ready with net.eth := [{ queues := [[{ bytes := [] }]] }, { queues := [[{ bytes := [] }]] }] } : State)) 1) (dtNow (({ ready with net.eth := [{ queues := [[{ bytes := [] }]] }, { queues := [[{ bytes := [] }]] }] } : State)))).get (by decide +kernel)).1, ((ethNext (ethOf (({ ready with net.eth := [{ queues := [[{ bytes := [] }]] }, { queues := [[{ bytes := [] }]] }] } : State)) 1) (dtNow (({ ready with net.eth := [{ queues := [[{ bytes := [] }]] }, { queues := [[{ bytes := [] }]] }] } : State)))).get (by decide +kernel)).2, ({ ready with net.eth := [{ queues := [[{ bytes := [] }]] }, { queues := [[{ bytes := [] }]] }] } : State), by decide +kernel⟩
  · exact ⟨((ethOf (({ ready with net.eth := [{ backoff := some 0 }, { backoff := some 0 }] } : State)) 1).backoff).get (by decide +kernel), ({ ready with net.eth := [{ backoff := some 0 }, { backoff := some 0 }] } : State), by decide +kernel⟩
  · exact ⟨0, 0, true, ready, by decide +kernel⟩
  · exact ⟨cmd 16 16 [(1, 1, 1)], ready, prmOf (cmd 16 16 [(1, 1, 1)]), uAt (prmOf (cmd 16 16 [(1, 1, 1)])) 0 1, by unfold admitted; decide +kernel⟩
  · exact ⟨cmd 16 16 [(0, 1, 1), (1, 1, 1)], ready, by unfold admitted; decide +kernel⟩
  · exact ⟨cmd 12 12 [], ready, by unfold admitted; decide +kernel⟩
  · exact ⟨cmd 9 9 [(2, 1, 1), (5, 4, 1)], ready, prmOf (cmd 9 9 [(2, 1, 1), (5, 4, 1)]), by unfold admitted; decide +kernel⟩
  · exact ⟨cmd 16 16 [], ready, by unfold admitted; decide +kernel⟩
  · exact ⟨cmd 16 16 [(1, 1, 1)], ({ ready with net.eth := [{ loaded := [(1, 1000000001)] }, { loaded := [(1, 1000000001)] }] } : State), prmOf (cmd 16 16 [(1, 1, 1)]), by unfold admitted; decide +kernel⟩

theorem test_witness_PtpRows :
    (∃ (n : Nat) (frac : Nat) (m : PtpMsg) (s : State), n ≤ 1 ∧ n < s.net.ptp.length ∧ (ptpOf s n).st = 1 ∧ m.domain = (ptpOf s n).domain ∧ m.sdoId = (ptpOf s n).sdoId ∧ m.type = 0 ∧ m.twoStep = true) ∧
    (∃ (n : Nat) (frac : Nat) (t3 : Nat) (d : Int) (m : PtpMsg) (s : State), n ≤ 1 ∧ n < s.net.ptp.length ∧ (ptpOf s n).st = 1 ∧ m.domain = (ptpOf s n).domain ∧ m.sdoId = (ptpOf s n).sdoId ∧ m.type = 9 ∧ (ptpOf s n).req = some (t3, m.seq) ∧ (ptpOf s n).toUs = some d) ∧
    (∃ (n : Nat) (frac : Nat) (m : PtpMsg) (s : State), n ≤ 1 ∧ m.domain ≠ (ptpOf s n).domain) ∧
    (∃ (n : Nat) (s : State), n < s.net.ptp.length ∧ (ptpOf s n).st = 1 ∧ (ptpOf s n).annOk = true) ∧
    (∃ (n : Nat) (s : State), n < s.net.ptp.length ∧ (ptpOf s n).st = 2) ∧
    (∃ (n : Nat) (s : State), n < s.net.ptp.length ∧ (ptpOf s n).st = 1) ∧
    (∃ (c : Cmd) (s : State) (p : List Byte) (n : Nat), admitted 0x0D07 16 0 none c s ∧ prmOf c = p ∧ uAt p 0 1 = n ∧ n ≤ 1 ∧ n < s.net.ptp.length ∧ uAt p 1 1 ≤ 2 ∧ uAt p 2 1 ≤ 1 ∧ uAt p 3 1 ≤ 127 ∧ uAt p 4 2 ≤ 0xFFF ∧ -4 ≤ iAt p 6 1 ∧ iAt p 6 1 ≤ 1 ∧ -4 ≤ iAt p 7 1 ∧ iAt p 7 1 ≤ 4 ∧ 0 ≤ iAt p 8 1 ∧ iAt p 8 1 ≤ 4 ∧ zeros p 9 3 = true ∧ uAt p 12 4 ≤ 10000 ∧ domFrom s (4 + n) = none) ∧
    (∃ (c : Cmd) (s : State) (p : List Byte) (k : Nat), admitted 0x0D07 16 0 none c s ∧ prmOf c = p ∧ uAt p 0 1 ≤ 1 ∧ uAt p 1 1 = 2 ∧ uAt p 2 1 ≤ 1 ∧ uAt p 3 1 ≤ 127 ∧ uAt p 4 2 ≤ 0xFFF ∧ -4 ≤ iAt p 6 1 ∧ iAt p 6 1 ≤ 1 ∧ -4 ≤ iAt p 7 1 ∧ iAt p 7 1 ≤ 4 ∧ 0 ≤ iAt p 8 1 ∧ iAt p 8 1 ≤ 4 ∧ zeros p 9 3 = true ∧ uAt p 12 4 ≤ 10000 ∧ domFrom s (4 + uAt p 0 1) = some k ∧ ptpKpBad (uAt p 0 1) (iAt p 6 1) s = false) := by
  refine ⟨?_, ?_, ?_, ?_, ?_, ?_, ?_, ?_⟩
  · exact ⟨0, 0, { type := 0, twoStep := true }, ({ ready with net.ptp := [{ st := 1 }] } : State), by decide +kernel⟩
  · exact ⟨0, 0, (((ptpOf (({ ready with net.ptp := [{ st := 1, req := some (5, 0), toUs := some 3 }] } : State)) (0)).req).get (by decide +kernel)).1, ((ptpOf (({ ready with net.ptp := [{ st := 1, req := some (5, 0), toUs := some 3 }] } : State)) (0)).toUs).get (by decide +kernel), { type := 9 }, ({ ready with net.ptp := [{ st := 1, req := some (5, 0), toUs := some 3 }] } : State), by decide +kernel⟩
  · exact ⟨0, 0, { type := 0, domain := 1 }, ready, by decide +kernel⟩
  · exact ⟨0, ({ ready with net.ptp := [{ st := 1, annOk := true }] } : State), by decide +kernel⟩
  · exact ⟨0, ({ ready with net.ptp := [{ st := 2 }] } : State), by decide +kernel⟩
  · exact ⟨0, ({ ready with net.ptp := [{ st := 1 }] } : State), by decide +kernel⟩
  · exact ⟨cmd 16 16 [], ready, prmOf (cmd 16 16 []), uAt (prmOf (cmd 16 16 [])) 0 1, by unfold admitted; decide +kernel⟩
  · exact ⟨cmd 16 16 [(1, 1, 2)], ({ ready with time.a.source := 4 } : State), prmOf (cmd 16 16 [(1, 1, 2)]), (domFrom (({ ready with time.a.source := 4 } : State)) (4 + uAt (prmOf (cmd 16 16 [(1, 1, 2)])) 0 1)).get (by decide +kernel), by unfold admitted; decide +kernel⟩

theorem test_witness_CanAndNetRows :
    (∃ (n : Nat) (id : Nat) (ide : Bool) (fd : Bool) (rtr : Bool) (d : List Byte) (s : State), n < s.net.can.length ∧ (canOf s n).enabled = true ∧ (canOf s n).st = 0 ∧ (canOf s n).tec = 0 ∧ (canOf s n).recv = 0 ∧ (fd = true → (canOf s n).fd = true) ∧ canAccepts (canOf s n) ide id = false) ∧
    (∃ (n : Nat) (id : Nat) (ide : Bool) (fd : Bool) (rtr : Bool) (d : List Byte) (s : State), n < s.net.can.length ∧ (canOf s n).enabled = true ∧ (canOf s n).st = 0 ∧ (canOf s n).tec = 0 ∧ (canOf s n).recv = 0 ∧ (fd = true → (canOf s n).fd = true) ∧ canAccepts (canOf s n) ide id = true ∧ (canOf s n).fifo = [] ∧ d.length ≤ 64 ∧ s1Room (canBytes n { id := id, ide := ide, fd := fd, rtr := rtr, data := d, dt := capTime 0 s }) s = false) ∧
    (∃ (n : Nat) (q : Packet) (s : State) (s1 : State), takeS0 8 s = some (q, s1) ∧ uAt q.payload 0 1 = n ∧ n ≤ 1 ∧ (canOf s1 n).enabled = true ∧ (canOf s1 n).listen = false ∧ (canOf s1 n).tx.length < 16 ∧ uAt q.payload 1 1 = 0 ∧ uAt q.payload 2 1 ≤ 8 ∧ zeros q.payload 3 1 = true ∧ uAt q.payload 4 4 < 2 ^ 11) ∧
    (∃ (n : Nat) (f : CanFrame) (s : State), n < s.net.can.length ∧ (canOf s n).enabled = true ∧ (canOf s n).listen = false ∧ (canOf s n).st = 0 ∧ (canOf s n).tec ≤ 128 ∧ (canOf s n).recv < 128 ∧ canNext (canOf s n).tx = some f ∧ f.token = none) ∧
    (∃ (n : Nat) (severe : Bool) (s : State), n < s.net.can.length ∧ (canOf s n).enabled = true ∧ (canOf s n).st = 1 ∧ 248 ≤ (canOf s n).tec) ∧
    (∃ (n : Nat) (severe : Bool) (s : State), n < s.net.can.length ∧ (canOf s n).enabled = true ∧ (canOf s n).st = 0 ∧ (canOf s n).tec < 128 ∧ (canOf s n).recv < 120) ∧
    (∃ (n : Nat) (s : State), (canOf s n).st = 2 ∧ (canOf s n).auto = true) ∧
    (∃ (n : Nat) (s : State), (canOf s n).auto = false) ∧
    (∃ (c : Cmd) (s : State) (p : List Byte), admitted 0x0D08 13 0 none c s ∧ prmOf c = p ∧ uAt p 0 1 ≤ 1 ∧ uAt p 1 1 ≤ 15 ∧ bit (uAt p 1 1) 0 = true ∧ zeros p 2 2 = true ∧ uAt p 4 1 ≠ 0 ∧ 20000 ≤ canRate p 4 ∧ canRate p 4 ≤ 1000000 ∧ bit (uAt p 1 1) 1 = false) ∧
    (∃ (c : Cmd) (s : State) (p : List Byte), admitted 0x0D09 12 0 none c s ∧ prmOf c = p ∧ uAt p 0 1 ≤ 1 ∧ uAt p 1 1 ≤ 31 ∧ uAt p 2 1 ≤ 3 ∧ zeros p 3 1 = true) ∧
    (∃ (c : Cmd) (s : State), admitted 0x0D0A 1 0 none c s ∧ uAt (prmOf c) 0 1 ≤ 1 ∧ (canOf s (uAt (prmOf c) 0 1)).st = 2) ∧
    (∃ (c : Cmd) (s : State), admitted 0x0D0A 1 0 none c s ∧ uAt (prmOf c) 0 1 ≤ 1 ∧ (canOf s (uAt (prmOf c) 0 1)).st ≠ 2) ∧
    (∃ (c : Cmd) (s : State) (s1 : State) (p : List Byte), admitted 0x0D01 20 0 none c s ∧ prmOf c = p ∧ uAt p 0 1 ≤ 7 ∧ uAt p 1 1 ≤ 2 ∧ uAt p 2 1 ≤ 15 ∧ zeros p 3 1 = true ∧ (uAt p 1 1 ≠ 2 → zeros p 4 16 = true) ∧ jobBusy s = false ∧ journalPut { type := 1, key := settingKey 3 0, payload := (p.drop 1).take 19, prio := 5, schema := s.update.schema } s = (true, s1)) ∧
    (∃ (c : Cmd) (s : State), admitted 0x0D01 20 0 none c s ∧ uAt (prmOf c) 0 1 ≤ 7 ∧ uAt (prmOf c) 1 1 = 1 ∧ uAt (prmOf c) 2 1 ≤ 15 ∧ zeros (prmOf c) 3 1 = true ∧ zeros (prmOf c) 4 16 = true ∧ jobBusy s = true) ∧
    (∃ (c : Cmd) (s : State), admitted 0x0D02 0 56 none c s) ∧
    (∃ (c : Cmd) (s : State) (d : Nat), admitted 0x0D0B 8 2 none c s ∧ (uAt (prmOf c) 0 1 = 0 ∨ uAt (prmOf c) 0 1 = 2) ∧ uAt (prmOf c) 1 1 ≤ 31 ∧ uAt (prmOf c) 2 1 ≤ 31 ∧ zeros (prmOf c) 3 1 = true ∧ uAt (prmOf c) 4 2 ≤ 31) ∧
    (∃ (c : Cmd) (s : State), admitted 0x0D0B 8 2 none c s ∧ (uAt (prmOf c) 0 1 = 0 ∨ uAt (prmOf c) 0 1 = 2) ∧ uAt (prmOf c) 1 1 ≤ 31 ∧ uAt (prmOf c) 2 1 ≤ 31 ∧ zeros (prmOf c) 3 1 = true ∧ uAt (prmOf c) 4 2 ≤ 31) ∧
    (∃ (c : Cmd) (s : State), admitted 0x0D0C 0 80 none c s) := by
  refine ⟨?_, ?_, ?_, ?_, ?_, ?_, ?_, ?_, ?_, ?_, ?_, ?_, ?_, ?_, ?_, ?_, ?_, ?_⟩
  · exact ⟨0, 0, false, false, false, [], ({ ready with net.can := [{ enabled := true }] } : State), by decide +kernel⟩
  · exact ⟨0, 0, false, false, false, [], ({ ready with net.can := [{ enabled := true, filters := [(false, true, 0, 0)] }], harbour.s1.en := false } : State), by decide +kernel⟩
  · exact ⟨uAt (((takeS0 8 (gave 8 (List.replicate 8 0) ({ ready with net.can := [{ enabled := true }] } : State))).get (by decide +kernel)).1).payload 0 1, ((takeS0 8 (gave 8 (List.replicate 8 0) ({ ready with net.can := [{ enabled := true }] } : State))).get (by decide +kernel)).1, gave 8 (List.replicate 8 0) ({ ready with net.can := [{ enabled := true }] } : State), ((takeS0 8 (gave 8 (List.replicate 8 0) ({ ready with net.can := [{ enabled := true }] } : State))).get (by decide +kernel)).2, by decide +kernel⟩
  · exact ⟨0, (canNext (canOf (({ ready with net.can := [{ enabled := true, tx := [{ id := 1 }] }] } : State)) (0)).tx).get (by decide +kernel), ({ ready with net.can := [{ enabled := true, tx := [{ id := 1 }] }] } : State), by decide +kernel⟩
  · exact ⟨0, false, ({ ready with net.can := [{ enabled := true, st := 1, tec := 248 }] } : State), by decide +kernel⟩
  · exact ⟨0, false, ({ ready with net.can := [{ enabled := true }] } : State), by decide +kernel⟩
  · exact ⟨0, ({ ready with net.can := [{ st := 2, auto := true }] } : State), by decide +kernel⟩
  · exact ⟨0, ready, by decide +kernel⟩
  · exact ⟨cmd 13 13 [(1, 1, 1), (4, 1, 80)], ready, prmOf (cmd 13 13 [(1, 1, 1), (4, 1, 80)]), by unfold admitted; decide +kernel⟩
  · exact ⟨cmd 12 12 [], ready, prmOf (cmd 12 12 []), by unfold admitted; decide +kernel⟩
  · exact ⟨cmd 1 1 [], ({ ready with net.can := [{ st := 2 }] } : State), by unfold admitted; decide +kernel⟩
  · exact ⟨cmd 1 1 [], ready, by unfold admitted; decide +kernel⟩
  · exact ⟨cmd 20 20 [], ready, (journalPut { type := 1, key := settingKey 3 0, payload := ((prmOf (cmd 20 20 [])).drop 1).take 19, prio := 5, schema := (ready).update.schema } (ready)).2, prmOf (cmd 20 20 []), by unfold admitted; decide +kernel⟩
  · exact ⟨cmd 20 20 [(1, 1, 1)], inJob, by unfold admitted; decide +kernel⟩
  · exact ⟨cmd 0 56 [], ready, by unfold admitted; decide +kernel⟩
  · exact ⟨cmd 8 8 [], ready, 0, by unfold admitted; decide +kernel⟩
  · exact ⟨cmd 8 8 [], ready, by unfold admitted; decide +kernel⟩
  · exact ⟨cmd 0 80 [], ready, by unfold admitted; decide +kernel⟩

theorem test_witness_HarbourEvents :
    (∃ (rate : Nat) (lanes : Nat) (s : State), s.harbour.quadSpi = false) ∧
    (∃ (up : Bool) (rate : Nat) (lanes : Nat) (s : State), s.harbour.quadSpi = true) ∧
    (∃ (n : Nat) (k : Nat) (p : List Byte) (s : State), s.harbour.pairPending = none ∧ n ≤ 15 ∧ n < s.harbour.mbxs.length ∧ k < 64 ∧ s.harbour.ready = true ∧ s.harbour.quadSpi = false ∧ bit (mbxOf s n).cfg.toNat 31 = true ∧ (mbxOf s n).faulted = false ∧ k < (mbxOf s n).slots ∧ (mbxOf s n).held = [] ∧ 0 < s.harbour.credit ∧ opcodeDefined (uAt p 0 2) = true) ∧
    (∃ (n : Nat) (k : Nat) (p : List Byte) (s : State), s.harbour.pairPending = none ∧ n ≤ 15 ∧ n < s.harbour.mbxs.length ∧ k < 64 ∧ s.harbour.ready = true ∧ s.harbour.quadSpi = false ∧ bit (mbxOf s n).cfg.toNat 31 = true ∧ (mbxOf s n).faulted = false ∧ k < (mbxOf s n).slots ∧ (mbxOf s n).held = [] ∧ 0 < s.harbour.credit ∧ s.harbour.credit ≤ 64 ∧ opcodeDefined (uAt p 0 2) = false) ∧
    (∃ (n : Nat) (k : Nat) (r : Option (List Byte)) (s : State), s.harbour.pairPending = none ∧ n ≤ 15 ∧ n < s.harbour.mbxs.length ∧ k < 64 ∧ s.harbour.ready = true ∧ bit (mbxOf s n).cfg.toNat 31 = true ∧ (mbxOf s n).faulted = false ∧ k < (mbxOf s n).slots ∧ holdsSlot (mbxOf s n) k = false ∧ s.harbour.credit = 0) ∧
    (∃ (n : Nat) (k : Nat) (r : Option (List Byte)) (s : State), s.harbour.pairPending = none ∧ n ≤ 15 ∧ s.harbour.ready = false) ∧
    (∃ (n : Nat) (v : Word) (s : State), s.harbour.pairPending = none ∧ s.harbour.ready = true ∧ n < s.harbour.mbxs.length) ∧
    (∃ (v : Word) (s : State), s.harbour.pairPending = none ∧ s.harbour.ready = true) ∧
    (∃ (n : Nat) (v : Word) (s : State), s.harbour.pairPending = none ∧ s.harbour.ready = true) ∧
    (∃ (v : Word) (s : State), s.harbour.pairPending = none ∧ s.harbour.ready = true ∧ s.harbour.s0.en = true ∧ s.harbour.s0.overrun = false ∧ 4 ≤ s0Free s.harbour.s0) ∧
    (∃ (v : Word) (s : State), s.harbour.pairPending = none ∧ s.harbour.ready = true ∧ s.harbour.s0.en = true ∧ s.harbour.s0.overrun = false ∧ s0Free s.harbour.s0 < 4) ∧
    (∃ (v : Word) (s : State) (b : List Byte), s.harbour.pairPending = none ∧ s.harbour.ready = true ∧ s.harbour.s0.en = true ∧ s.harbour.s0.overrun = false ∧ s.harbour.s0.words ≠ [] ∧ 4 ≤ v.toNat % 2 ^ 24 ∧ s.harbour.s0.words.length - 1 = (v.toNat % 2 ^ 24 + 3) / 4 ∧ b = ((s.harbour.s0.words.drop 1).map (fun w => le 4 w.toNat)).flatten.take (v.toNat % 2 ^ 24) ∧ s0Types.contains (uAt b 0 1) = true) ∧
    (∃ (v : Word) (s : State), s.harbour.pairPending = none ∧ s.harbour.ready = true ∧ s.harbour.s0.en = true ∧ s.harbour.s0.overrun = false ∧ s.harbour.s0.words = []) ∧
    (∃ (b : Nat) (t : Nat) (p : Packet) (r : List (Nat × Nat × Packet)) (s : State), s.harbour.s1.packets = (b, t, p) :: r ∧ 4 * (s.harbour.s1.readWords + 1) < pktSize p.payload) ∧
    (∃ (b : Nat) (t : Nat) (p : Packet) (r : List (Nat × Nat × Packet)) (s : State), s.harbour.s1.packets = (b, t, p) :: r ∧ pktSize p.payload ≤ 4 * (s.harbour.s1.readWords + 1)) ∧
    (∃ (s : State), s.harbour.s1.packets = []) ∧
    (∃ (s : State), s.harbour.pairPending = none ∧ s.harbour.ready = true ∧ s.harbour.s0.en = false) ∧
    (∃ (s : State), s.harbour.pairPending = none ∧ s.harbour.ready = true ∧ s.harbour.s0.en = true) ∧
    (∃ (s : State), s.harbour.pairPending = none ∧ s.harbour.ready = true ∧ s.harbour.s0.words ≠ []) ∧
    (∃ (s : State), s.harbour.pairPending = none ∧ s.harbour.ready = true ∧ s.harbour.s1.readWords ≠ 0) ∧
    (∃ (b : Nat) (t : Nat) (p : Packet) (r : List (Nat × Nat × Packet)) (s : State), s.harbour.s1.packets = (b, t, p) :: r) := by
  refine ⟨?_, ?_, ?_, ?_, ?_, ?_, ?_, ?_, ?_, ?_, ?_, ?_, ?_, ?_, ?_, ?_, ?_, ?_, ?_, ?_, ?_⟩
  · exact ⟨0, 0, ready, by decide +kernel⟩
  · exact ⟨false, 0, 0, ({ ready with harbour.quadSpi := true } : State), by decide +kernel⟩
  · exact ⟨0, 0, [1, 1], ({ ready with harbour.mbxs := [{ cfg := 0x80000006 }] } : State), by decide +kernel⟩
  · exact ⟨0, 0, [0, 0], ({ ready with harbour.mbxs := [{ cfg := 0x80000006 }] } : State), by decide +kernel⟩
  · exact ⟨0, 0, none, ({ ready with harbour.mbxs := [{ cfg := 0x80000006 }], harbour.credit := 0 } : State), by decide +kernel⟩
  · exact ⟨0, 0, none, State.reset, by decide +kernel⟩
  · exact ⟨0, 0, ready, by decide +kernel⟩
  · exact ⟨0, ready, by decide +kernel⟩
  · exact ⟨0, 0, ready, by decide +kernel⟩
  · exact ⟨0, ready, by decide +kernel⟩
  · exact ⟨0, ({ ready with harbour.s0.usedEbb := 65536, harbour.s0.packets := [(1, 0, { type := 1, payload := [] })] } : State), by decide +kernel⟩
  · exact ⟨(4 : Word), ({ ready with harbour.s0.words := [0, 1] } : State), le 4 1, by decide +kernel⟩
  · exact ⟨0, ready, by decide +kernel⟩
  · exact ⟨(((({ ready with harbour.s1.packets := [(0, 0, { type := 1, payload := [] })] } : State)).harbour.s1.packets).head (by decide +kernel)).1, (((({ ready with harbour.s1.packets := [(0, 0, { type := 1, payload := [] })] } : State)).harbour.s1.packets).head (by decide +kernel)).2.1, (((({ ready with harbour.s1.packets := [(0, 0, { type := 1, payload := [] })] } : State)).harbour.s1.packets).head (by decide +kernel)).2.2, ((({ ready with harbour.s1.packets := [(0, 0, { type := 1, payload := [] })] } : State)).harbour.s1.packets).tail, ({ ready with harbour.s1.packets := [(0, 0, { type := 1, payload := [] })] } : State), by decide +kernel⟩
  · exact ⟨(((({ ready with harbour.s1.packets := [(0, 0, { type := 1, payload := [] })], harbour.s1.readWords := 1 } : State)).harbour.s1.packets).head (by decide +kernel)).1, (((({ ready with harbour.s1.packets := [(0, 0, { type := 1, payload := [] })], harbour.s1.readWords := 1 } : State)).harbour.s1.packets).head (by decide +kernel)).2.1, (((({ ready with harbour.s1.packets := [(0, 0, { type := 1, payload := [] })], harbour.s1.readWords := 1 } : State)).harbour.s1.packets).head (by decide +kernel)).2.2, ((({ ready with harbour.s1.packets := [(0, 0, { type := 1, payload := [] })], harbour.s1.readWords := 1 } : State)).harbour.s1.packets).tail, ({ ready with harbour.s1.packets := [(0, 0, { type := 1, payload := [] })], harbour.s1.readWords := 1 } : State), by decide +kernel⟩
  · exact ⟨ready, by decide +kernel⟩
  · exact ⟨({ ready with harbour.s0.en := false } : State), by decide +kernel⟩
  · exact ⟨ready, by decide +kernel⟩
  · exact ⟨({ ready with harbour.s0.words := [0] } : State), by decide +kernel⟩
  · exact ⟨({ ready with harbour.s1.readWords := 1 } : State), by decide +kernel⟩
  · exact ⟨(((({ ready with harbour.s1.packets := [(0, 0, { type := 1, payload := [] })] } : State)).harbour.s1.packets).head (by decide +kernel)).1, (((({ ready with harbour.s1.packets := [(0, 0, { type := 1, payload := [] })] } : State)).harbour.s1.packets).head (by decide +kernel)).2.1, (((({ ready with harbour.s1.packets := [(0, 0, { type := 1, payload := [] })] } : State)).harbour.s1.packets).head (by decide +kernel)).2.2, ((({ ready with harbour.s1.packets := [(0, 0, { type := 1, payload := [] })] } : State)).harbour.s1.packets).tail, ({ ready with harbour.s1.packets := [(0, 0, { type := 1, payload := [] })] } : State), by decide +kernel⟩

theorem test_witness_HarbourPairsAndSys :
    (∃ (s : State), s.harbour.ready = true ∧ s.harbour.indLatch = none ∧ s.harbour.indAddr.toNat % 64 ≠ 0 ∧ s.harbour.indAddr.toNat % 4 = 0) ∧
    (∃ (s : State) (w : List Word), s.harbour.ready = true ∧ s.harbour.indAddr.toNat % 64 ≠ 0 ∧ s.harbour.indLatch = some (s.harbour.indAddr.toNat / 64, w) ∧ s.harbour.indAddr.toNat % 4 = 0) ∧
    (∃ (v : Word) (s : State), s.harbour.pairPending = none ∧ s.harbour.ready = true ∧ inMailbox s (s.harbour.indAddr.toNat / 4 * 4) = true) ∧
    (∃ (v : Word) (s : State), s.harbour.pairPending = none ∧ s.harbour.ready = true ∧ inMailbox s (s.harbour.indAddr.toNat / 4 * 4) = false) ∧
    (∃ (off : Nat) (v : Word) (s : State), (off = 0x2000 ∨ off = 0x2008 ∨ off = 0x2010) ∧ s.harbour.pairPending = none) ∧
    (∃ (off : Nat) (c : Nat) (v : Word) (s : State), s.harbour.pairPending = some (off, v, c)) ∧
    (∃ (x : Word) (v : Word) (c : Nat) (s : State) (s2 : State), s.harbour.pairPending = some (0x2000, v, c) ∧ s.time.cyc ≤ c + cycMs 1 ∧ x = ~~~ v ∧ v.toNat % 4 ≤ 1 ∧ journalPut { type := 1, key := settingKey 1 0, payload := le 1 (v.toNat % 4), prio := 5, schema := s.update.schema } { s with harbour := { s.harbour with pairPending := none } } = (true, s2)) ∧
    (∃ (x : Word) (v : Word) (c : Nat) (s : State), s.harbour.pairPending = some (0x2000, v, c) ∧ s.time.cyc ≤ c + cycMs 1 ∧ x ≠ ~~~ v) ∧
    (∃ (x : Word) (v : Word) (c : Nat) (s : State), s.harbour.pairPending = some (0x2008, v, c) ∧ s.time.cyc ≤ c + cycMs 1 ∧ x = ~~~ v ∧ v.toNat = 1) ∧
    (∃ (x : Word) (v : Word) (c : Nat) (s : State), s.harbour.pairPending = some (0x2008, v, c) ∧ s.time.cyc ≤ c + cycMs 1 ∧ x = ~~~ v ∧ v.toNat = 2) ∧
    (∃ (x : Word) (v : Word) (c : Nat) (s : State), s.harbour.pairPending = some (0x2008, v, c) ∧ s.time.cyc ≤ c + cycMs 1 ∧ x = ~~~ v ∧ v.toNat = 0) ∧
    (∃ (x : Word) (v : Word) (c : Nat) (s : State), s.harbour.pairPending = some (0x2010, v, c) ∧ s.time.cyc ≤ c + cycMs 1 ∧ x = ~~~ v ∧ domainRefused (v.toNat % 4096) s = false) ∧
    (∃ (s : State), s.harbour.resetReq = 1 ∧ engineIdle s = true ∧ jobBusy s = false) ∧
    (∃ (s : State), s.harbour.resetReq = 0) ∧
    (∃ (v : Nat) (s : State), s.harbour.domainNext = some v ∧ s.power.st = .spring ∧ s.votes.domains.value = v) ∧
    (∃ (off : Nat) (v : Word) (s : State), s.harbour.pairPending = none ∧ s.harbour.ready = true) ∧
    (∃ (off : Nat) (o : Nat) (c : Nat) (v : Word) (w : Word) (s : State), s.harbour.pairPending = some (o, w, c) ∧ s.harbour.ready = false) ∧
    (∃ (c : Cmd) (s : State), admitted 0x0101 0 32 none c s) ∧
    (∃ (c : Cmd) (s : State), admitted 0x0102 4 0 none c s ∧ uAt (prmOf c) 0 4 = 0) ∧
    (∃ (c : Cmd) (s : State), admitted 0x0102 4 0 none c s ∧ 1000000 < uAt (prmOf c) 0 4) ∧
    (∃ (c : Cmd) (s : State), admitted 0x0102 4 0 none c s ∧ 0 < uAt (prmOf c) 0 4 ∧ uAt (prmOf c) 0 4 ≤ 1000000) ∧
    (∃ (m : Nat) (k : Nat) (t : Nat) (tag : Nat) (s : State), s.harbour.nops = [(m, k, t, tag)]) ∧
    (∃ (c : Cmd) (s : State), admitted 0x0103 0 0 none c s) ∧
    (∃ (c : Cmd) (s : State), admitted 0x0104 0 20 none c s) ∧
    (∃ (c : Cmd) (s : State), admitted 0x0105 0 20 none c s) := by
  refine ⟨?_, ?_, ?_, ?_, ?_, ?_, ?_, ?_, ?_, ?_, ?_, ?_, ?_, ?_, ?_, ?_, ?_, ?_, ?_, ?_, ?_, ?_, ?_, ?_, ?_⟩
  · exact ⟨({ ready with harbour.indAddr := 4 } : State), by decide +kernel⟩
  · exact ⟨({ ready with harbour.indAddr := 4, harbour.indLatch := some (0, []) } : State), (((({ ready with harbour.indAddr := 4, harbour.indLatch := some (0, []) } : State)).harbour.indLatch).get (by decide +kernel)).2, by decide +kernel⟩
  · exact ⟨0, ({ ready with harbour.quadSpi := true, harbour.indAddr := 0x01000000 } : State), by decide +kernel⟩
  · exact ⟨0, ready, by decide +kernel⟩
  · exact ⟨0x2000, 0, ready, by decide +kernel⟩
  · exact ⟨(((({ ready with harbour.pairPending := some (0x2000, 0, 0) } : State)).harbour.pairPending).get (by decide +kernel)).1, (((({ ready with harbour.pairPending := some (0x2000, 0, 0) } : State)).harbour.pairPending).get (by decide +kernel)).2.2, (((({ ready with harbour.pairPending := some (0x2000, 0, 0) } : State)).harbour.pairPending).get (by decide +kernel)).2.1, ({ ready with harbour.pairPending := some (0x2000, 0, 0) } : State), by decide +kernel⟩
  · exact ⟨~~~ (1 : Word), (1 : Word), 0, ({ ready with harbour.pairPending := some (0x2000, 1, 0) } : State), (journalPut { type := 1, key := settingKey 1 0, payload := le 1 (((1 : Word)).toNat % 4), prio := 5, schema := (({ ready with harbour.pairPending := some (0x2000, 1, 0) } : State)).update.schema } { (({ ready with harbour.pairPending := some (0x2000, 1, 0) } : State)) with harbour := { (({ ready with harbour.pairPending := some (0x2000, 1, 0) } : State)).harbour with pairPending := none } }).2, by decide +kernel⟩
  · exact ⟨(0 : Word), (0 : Word), 0, ({ ready with harbour.pairPending := some (0x2000, 0, 0) } : State), by decide +kernel⟩
  · exact ⟨~~~ (1 : Word), (1 : Word), 0, ({ ready with harbour.pairPending := some (0x2008, 1, 0) } : State), by decide +kernel⟩
  · exact ⟨~~~ (2 : Word), (2 : Word), 0, ({ ready with harbour.pairPending := some (0x2008, 2, 0) } : State), by decide +kernel⟩
  · exact ⟨~~~ (0 : Word), (0 : Word), 0, ({ ready with harbour.pairPending := some (0x2008, 0, 0) } : State), by decide +kernel⟩
  · exact ⟨~~~ (0xFFF : Word), (0xFFF : Word), 0, ({ ready with harbour.pairPending := some (0x2010, 0xFFF, 0) } : State), by decide +kernel⟩
  · exact ⟨({ ready with harbour.resetReq := 1, cell.allOff := true } : State), by decide +kernel⟩
  · exact ⟨ready, by decide +kernel⟩
  · exact ⟨((({ ready with harbour.domainNext := some 0xFFF } : State)).harbour.domainNext).get (by decide +kernel), ({ ready with harbour.domainNext := some 0xFFF } : State), by decide +kernel⟩
  · exact ⟨0, 0, ready, by decide +kernel⟩
  · exact ⟨0, (((({ State.reset with harbour.pairPending := some (0x2000, 0, 0) } : State)).harbour.pairPending).get (by decide +kernel)).1, (((({ State.reset with harbour.pairPending := some (0x2000, 0, 0) } : State)).harbour.pairPending).get (by decide +kernel)).2.2, 0, (((({ State.reset with harbour.pairPending := some (0x2000, 0, 0) } : State)).harbour.pairPending).get (by decide +kernel)).2.1, ({ State.reset with harbour.pairPending := some (0x2000, 0, 0) } : State), by decide +kernel⟩
  · exact ⟨cmd 0 32 [], ready, by unfold admitted; decide +kernel⟩
  · exact ⟨cmd 4 4 [], ready, by unfold admitted; decide +kernel⟩
  · exact ⟨cmd 4 4 [(0, 4, 1000001)], ready, by unfold admitted; decide +kernel⟩
  · exact ⟨cmd 4 4 [(0, 4, 1)], ready, by unfold admitted; decide +kernel⟩
  · exact ⟨0, 0, 0, 0, ({ ready with harbour.nops := [(0, 0, 0, 0)] } : State), by decide +kernel⟩
  · exact ⟨cmd 0 0 [], ready, by unfold admitted; decide +kernel⟩
  · exact ⟨cmd 0 20 [], ready, by unfold admitted; decide +kernel⟩
  · exact ⟨cmd 0 20 [], ready, by unfold admitted; decide +kernel⟩

theorem test_witness_SecurityEvents :
    (∃ (n : Nat) (mv : Nat) (s : State), sensorLive n s = true ∧ coreQuiet n mv s = false ∧ alarmActs s = true ∧ s.otp.tamperEpoch ≠ 64 ∧ (s.power.st = .slack ∨ s.power.st = .neap)) ∧
    (∃ (n : Nat) (mv : Nat) (s : State), sensorLive n s = true ∧ coreQuiet n mv s = false ∧ alarmActs s = true ∧ s.otp.tamperEpoch ≠ 64 ∧ s.power.st = .spring) ∧
    (∃ (n : Nat) (mv : Nat) (s : State), sensorLive n s = true ∧ coreQuiet n mv s = false ∧ (lifeCycle s = 0 ∨ lifeCycle s = 4)) ∧
    (∃ (n : Nat) (mv : Nat) (s : State), (sensorLive n s = false ∨ coreQuiet n mv s = true)) ∧
    (∃ (t : Nat) (s : State), s.sec.alarmAt = some t ∧ axesMoving s = false) ∧
    (∃ (t : Nat) (s : State), s.sec.alarmAt = some t ∧ axesMoving s = true) ∧
    (∃ (e : Nat) (b : Nat) (s : State), s.power.st = .spring) ∧
    (∃ (e : Nat) (b : Nat) (s : State) (s1 : State), s.power.st = .spring ∧ (if s.sec.pufAsked then s else runToCyc (s.sec.pufAt + cycMs 86400000) s) = s1) ∧
    (∃ (n : Nat) (k : KeySlot) (s : State), slotOf s n = some k ∧ k.revoked = false ∧ bit k.flags 0 = false ∧ (∀ e ∈ s.sec.keys, e.2.parent ≠ n)) ∧
    (∃ (s : State), s.time.cyc ≤ s.sec.vaultAt + cycMs 10000 ∧ s.power.passLate.getD 11 false = false) ∧
    (∃ (g : Nat) (s : State), s.sec.drbg = false ∧ 1024 ≤ g) ∧
    (∃ (g : Nat) (s : State), s.sec.drbg = false ∧ g < 1024) ∧
    (∃ (g : Nat) (t : Nat) (s : State), s.sec.drbg = false) ∧
    (∃ (n : Nat) (x : SecSession) (s : State), s.sec.sessions = [x] ∧ x.id = n) ∧
    (∃ (t : Nat) (s : State), s.sec.ackFrom = some t) ∧
    (∃ (kinds : Nat) (k : Nat) (s : State), (s.power.st = .off ∨ s.power.st = .slack)) ∧
    (∃ (k : Nat) (s : State), lifeCycle s = 2 ∧ s.power.st = .spring) ∧
    (∃ (s : State), lifeCycle s = 2 ∧ s.power.st = .spring ∧ engineIdle s = true ∧ jobBusy s = false) ∧
    (∃ (s : State), lifeCycle s = 2 ∧ s.power.st = .spring ∧ engineIdle s = false) := by
  refine ⟨?_, ?_, ?_, ?_, ?_, ?_, ?_, ?_, ?_, ?_, ?_, ?_, ?_, ?_, ?_, ?_, ?_, ?_, ?_⟩
  · exact ⟨4, 0, ({ field with power.st := .slack } : State), by decide +kernel⟩
  · exact ⟨4, 0, field, by decide +kernel⟩
  · exact ⟨4, 0, ready, by decide +kernel⟩
  · exact ⟨0, 0, ready, by decide +kernel⟩
  · exact ⟨((({ ready with sec.alarmAt := some 0 } : State)).sec.alarmAt).get (by decide +kernel), ({ ready with sec.alarmAt := some 0 } : State), by decide +kernel⟩
  · exact ⟨((({ ready with sec.alarmAt := some 0, axes := [{ st := .moving }] } : State)).sec.alarmAt).get (by decide +kernel), ({ ready with sec.alarmAt := some 0, axes := [{ st := .moving }] } : State), by decide +kernel⟩
  · exact ⟨0, 0, ready, by decide +kernel⟩
  · exact ⟨0, 0, ready, (if (ready).sec.pufAsked then (ready) else runToCyc ((ready).sec.pufAt + cycMs 86400000) (ready)), by decide +kernel⟩
  · exact ⟨0, (slotOf (field) (0)).get (by decide +kernel), field, by decide +kernel⟩
  · exact ⟨ready, by decide +kernel⟩
  · exact ⟨1024, ({ ready with sec.drbg := false } : State), by decide +kernel⟩
  · exact ⟨0, ({ ready with sec.drbg := false } : State), by decide +kernel⟩
  · exact ⟨0, 0, ({ ready with sec.drbg := false } : State), by decide +kernel⟩
  · exact ⟨1, { id := 1, mbx := 0, kind := 0, slot := 0, mode := 0, flag := false, iv := [], aux := [], data := [], cyc := 0 }, ({ ready with sec.sessions := [{ id := 1, mbx := 0, kind := 0, slot := 0, mode := 0, flag := false, iv := [], aux := [], data := [], cyc := 0 }] } : State), by decide +kernel⟩
  · exact ⟨((({ ready with sec.ackFrom := some 0 } : State)).sec.ackFrom).get (by decide +kernel), ({ ready with sec.ackFrom := some 0 } : State), by decide +kernel⟩
  · exact ⟨0, 0, ({ ready with power.st := .slack } : State), by decide +kernel⟩
  · exact ⟨0, field, by decide +kernel⟩
  · exact ⟨({ field with cell.allOff := true } : State), by decide +kernel⟩
  · exact ⟨({ field with cell.allOff := false } : State), by decide +kernel⟩

theorem test_witness_SecKeyCommands :
    (∃ (c : Cmd) (s : State), admitted 0x0E01 0 23 none c s) ∧
    (∃ (c : Cmd) (s : State) (k : KeySlot), admitted 0x0E02 1 16 none c s ∧ uAt (prmOf c) 0 1 < 64 ∧ slotOf s (uAt (prmOf c) 0 1) = some k) ∧
    (∃ (c : Cmd) (s : State) (n : Nat), admitted 0x0E02 1 16 none c s ∧ uAt (prmOf c) 0 1 = n ∧ n < 64 ∧ slotOf s n = none) ∧
    (∃ (c : Cmd) (s : State) (s1 : State) (p : List Byte) (b : List Byte) (k : KeySlot) (n : Nat), admitted 0x0E03 20 1 none c s ∧ prmOf c = p ∧ attrsAt p 4 = some k ∧ creatable k.type = true ∧ targetSlot (uAt p 0 1) s = .ok n ∧ s.sec.drbg = true ∧ bit k.flags 0 = false ∧ drawBytes (keyLen k.type) s = (b, s1)) ∧
    (∃ (c : Cmd) (s : State) (p : List Byte) (k : KeySlot) (n : Nat), admitted 0x0E03 20 1 none c s ∧ prmOf c = p ∧ attrsAt p 4 = some k ∧ creatable k.type = true ∧ targetSlot (uAt p 0 1) s = .ok n ∧ s.sec.drbg = false) ∧
    (∃ (c : Cmd) (s : State) (p : List Byte) (k : KeySlot) (n : Nat), admitted 0x0E04 (importMin (prmOf c)) 1 none c s ∧ prmOf c = p ∧ attrsAt p 4 = some k ∧ uAt p 1 1 = 0 ∧ (k.type = 7 ∨ k.type = 8) ∧ targetSlot (uAt p 0 1) s = .ok n ∧ bit k.flags 0 = false) ∧
    (∃ (c : Cmd) (s : State) (p : List Byte) (k : KeySlot), admitted 0x0E04 (importMin (prmOf c)) 1 none c s ∧ prmOf c = p ∧ attrsAt p 4 = some k ∧ uAt p 1 1 = 0 ∧ creatable k.type = true) ∧
    (∃ (c : Cmd) (s : State) (p : List Byte) (k : KeySlot) (q : KeySlot) (n : Nat) (par : Nat), admitted 0x0E05 (24 + min 32 (uAt (prmOf c) 20 1)) 1 none c s ∧ prmOf c = p ∧ attrsAt p 4 = some k ∧ creatable k.type = true ∧ 1 ≤ uAt p 20 1 ∧ uAt p 20 1 ≤ 32 ∧ uAt p 0 1 = par ∧ par < 64 ∧ hostUse c par (some 7) s = none ∧ slotOf s par = some q ∧ subset k.masters q.masters = true ∧ subset k.world q.world = true ∧ subset k.lc q.lc = true ∧ q.depth ≤ 6 ∧ targetSlot (uAt p 1 1) s = .ok n ∧ bit k.flags 0 = false ∧ n ≠ par) ∧
    (∃ (c : Cmd) (s : State) (p : List Byte) (k : KeySlot) (q : KeySlot) (par : Nat), admitted 0x0E05 (24 + min 32 (uAt (prmOf c) 20 1)) 1 none c s ∧ prmOf c = p ∧ attrsAt p 4 = some k ∧ creatable k.type = true ∧ 1 ≤ uAt p 20 1 ∧ uAt p 20 1 ≤ 32 ∧ uAt p 0 1 = par ∧ par < 64 ∧ hostUse c par (some 7) s = none ∧ slotOf s par = some q ∧ subset k.masters q.masters = true ∧ subset k.world q.world = true ∧ subset k.lc q.lc = true ∧ 7 ≤ q.depth) ∧
    (∃ (c : Cmd) (s : State) (n : Nat) (k : KeySlot), admitted 0x0E06 1 8 none c s ∧ uAt (prmOf c) 0 1 = n ∧ 8 ≤ n ∧ n < 64 ∧ slotOf s n = some k ∧ k.revoked = false ∧ bit k.flags 0 = false ∧ descendants s n = []) ∧
    (∃ (c : Cmd) (s : State), admitted 0x0E06 1 8 none c s ∧ uAt (prmOf c) 0 1 < 8) ∧
    (∃ (c : Cmd) (s : State) (n : Nat), admitted 0x0E06 1 8 none c s ∧ uAt (prmOf c) 0 1 = n ∧ 8 ≤ n ∧ n < 64 ∧ slotOf s n = none) ∧
    (∃ (c : Cmd) (s : State) (n : Nat) (k : KeySlot), admitted 0x0E07 1 0 none c s ∧ uAt (prmOf c) 0 1 = n ∧ 8 ≤ n ∧ n < 64 ∧ slotOf s n = some k ∧ bit k.flags 0 = false ∧ descendants s n = []) ∧
    (∃ (c : Cmd) (s : State) (k : KeySlot) (b : List Byte) (n : Nat), admitted 0x0E08 2 0 none c s ∧ uAt (prmOf c) 0 1 = n ∧ n < 64 ∧ uAt (prmOf c) 1 1 = 0xFF ∧ hostUse c n none s = none ∧ slotOf s n = some k ∧ publicPart k = some b ∧ b.length ≤ areaOf c) ∧
    (∃ (c : Cmd) (s : State) (k : KeySlot) (n : Nat), admitted 0x0E08 2 0 none c s ∧ uAt (prmOf c) 0 1 = n ∧ n < 64 ∧ uAt (prmOf c) 1 1 = 0xFF ∧ hostUse c n none s = none ∧ slotOf s n = some k ∧ publicPart k = none) ∧
    (∃ (c : Cmd) (s : State) (p : List Byte) (k : KeySlot) (n : Nat) (t : Nat), admitted 0x0E0E 85 1 none c s ∧ prmOf c = p ∧ attrsAt p 4 = some k ∧ creatable k.type = true ∧ k.type ≠ 5 ∧ k.type ≠ 6 ∧ uAt p 0 1 = n ∧ n < 64 ∧ hostUse c n (some 6) s = none ∧ (keyType s n = 5 ∨ (keyType s n = 6 ∧ 117 ≤ p.length)) ∧ targetSlot (uAt p 1 1) s = .ok t ∧ bit k.flags 0 = false) ∧
    (∃ (c : Cmd) (s : State) (s1 : State) (p : List Byte), admitted 0x0E18 101 0 none c s ∧ prmOf c = p ∧ uAt p 0 1 = 3 ∧ zeros p 1 3 = true ∧ lifeCycle s = 1 ∧ s.otp.hash3 = none ∧ journalPut { type := 1, key := settingKey 5 3, payload := (p.drop 4).take 97, prio := 5, schema := s.update.schema } s = (true, s1)) ∧
    (∃ (c : Cmd) (s : State) (p : List Byte), admitted 0x0E18 101 0 none c s ∧ prmOf c = p ∧ (uAt p 0 1 = 3 ∨ uAt p 0 1 = 4) ∧ zeros p 1 3 = true ∧ lifeCycle s ≠ 1) := by
  refine ⟨?_, ?_, ?_, ?_, ?_, ?_, ?_, ?_, ?_, ?_, ?_, ?_, ?_, ?_, ?_, ?_, ?_, ?_⟩
  · exact ⟨cmd 0 23 [], ready, by unfold admitted; decide +kernel⟩
  · exact ⟨cmd 1 16 [], field, (slotOf (field) (uAt (prmOf (cmd 1 16 [])) 0 1)).get (by decide +kernel), by unfold admitted; decide +kernel⟩
  · exact ⟨cmd 1 16 [], ready, uAt (prmOf (cmd 1 16 [])) 0 1, by unfold admitted; decide +kernel⟩
  · exact ⟨cmd 20 20 [(0, 1, 8), (5, 1, 2)], ready, (drawBytes (keyLen ((attrsAt (prmOf (cmd 20 20 [(0, 1, 8), (5, 1, 2)])) 4).get (by decide +kernel)).type) (ready)).2, prmOf (cmd 20 20 [(0, 1, 8), (5, 1, 2)]), (drawBytes (keyLen ((attrsAt (prmOf (cmd 20 20 [(0, 1, 8), (5, 1, 2)])) 4).get (by decide +kernel)).type) (ready)).1, (attrsAt (prmOf (cmd 20 20 [(0, 1, 8), (5, 1, 2)])) 4).get (by decide +kernel), 8, by unfold admitted; and_intros <;> first | with_reducible rfl | decide +kernel | rfl⟩
  · exact ⟨cmd 20 20 [(0, 1, 8), (5, 1, 2)], ({ ready with sec.drbg := false } : State), prmOf (cmd 20 20 [(0, 1, 8), (5, 1, 2)]), (attrsAt (prmOf (cmd 20 20 [(0, 1, 8), (5, 1, 2)])) 4).get (by decide +kernel), 8, by unfold admitted; and_intros <;> first | with_reducible rfl | decide +kernel | rfl⟩
  · exact ⟨cmd 85 85 [(0, 1, 8), (5, 1, 7)], ready, prmOf (cmd 85 85 [(0, 1, 8), (5, 1, 7)]), (attrsAt (prmOf (cmd 85 85 [(0, 1, 8), (5, 1, 7)])) 4).get (by decide +kernel), 8, by unfold admitted; and_intros <;> first | with_reducible rfl | decide +kernel | rfl⟩
  · exact ⟨cmd 52 52 [(0, 1, 8), (5, 1, 2)], ready, prmOf (cmd 52 52 [(0, 1, 8), (5, 1, 2)]), (attrsAt (prmOf (cmd 52 52 [(0, 1, 8), (5, 1, 2)])) 4).get (by decide +kernel), by unfold admitted; decide +kernel⟩
  · exact ⟨cmd 25 25 [(0, 1, 8), (1, 1, 11), (5, 1, 2), (20, 1, 1)], ({ field with sec.keys := [(8, aKey 2), (9, aKey 5), (10, aKey 7)] } : State), prmOf (cmd 25 25 [(0, 1, 8), (1, 1, 11), (5, 1, 2), (20, 1, 1)]), (attrsAt (prmOf (cmd 25 25 [(0, 1, 8), (1, 1, 11), (5, 1, 2), (20, 1, 1)])) 4).get (by decide +kernel), (slotOf (({ field with sec.keys := [(8, aKey 2), (9, aKey 5), (10, aKey 7)] } : State)) (uAt (prmOf (cmd 25 25 [(0, 1, 8), (1, 1, 11), (5, 1, 2), (20, 1, 1)])) 0 1)).get (by decide +kernel), 11, uAt (prmOf (cmd 25 25 [(0, 1, 8), (1, 1, 11), (5, 1, 2), (20, 1, 1)])) 0 1, by unfold admitted; and_intros <;> first | with_reducible rfl | decide +kernel | rfl⟩
  · exact ⟨cmd 25 25 [(0, 1, 8), (1, 1, 11), (5, 1, 2), (20, 1, 1)], ({ field with sec.keys := [(8, { aKey 2 with depth := 7 })] } : State), prmOf (cmd 25 25 [(0, 1, 8), (1, 1, 11), (5, 1, 2), (20, 1, 1)]), (attrsAt (prmOf (cmd 25 25 [(0, 1, 8), (1, 1, 11), (5, 1, 2), (20, 1, 1)])) 4).get (by decide +kernel), (slotOf (({ field with sec.keys := [(8, { aKey 2 with depth := 7 })] } : State)) (uAt (prmOf (cmd 25 25 [(0, 1, 8), (1, 1, 11), (5, 1, 2), (20, 1, 1)])) 0 1)).get (by decide +kernel), uAt (prmOf (cmd 25 25 [(0, 1, 8), (1, 1, 11), (5, 1, 2), (20, 1, 1)])) 0 1, by unfold admitted; decide +kernel⟩
  · exact ⟨cmd 1 8 [(0, 1, 8)], ({ field with sec.keys := [(8, aKey 2), (9, aKey 5), (10, aKey 7)] } : State), 8, (slotOf (({ field with sec.keys := [(8, aKey 2), (9, aKey 5), (10, aKey 7)] } : State)) (8)).get (by decide +kernel), by unfold admitted; decide +kernel⟩
  · exact ⟨cmd 1 8 [], ready, by unfold admitted; decide +kernel⟩
  · exact ⟨cmd 1 8 [(0, 1, 8)], ready, 8, by unfold admitted; decide +kernel⟩
  · exact ⟨cmd 1 1 [(0, 1, 8)], ({ field with sec.keys := [(8, aKey 2), (9, aKey 5), (10, aKey 7)] } : State), 8, (slotOf (({ field with sec.keys := [(8, aKey 2), (9, aKey 5), (10, aKey 7)] } : State)) (8)).get (by decide +kernel), by unfold admitted; decide +kernel⟩
  · exact ⟨cmd 2 120 [(0, 1, 10), (1, 1, 255)], ({ field with sec.keys := [(8, aKey 2), (9, aKey 5), (10, aKey 7)] } : State), (slotOf (({ field with sec.keys := [(8, aKey 2), (9, aKey 5), (10, aKey 7)] } : State)) (uAt (prmOf (cmd 2 120 [(0, 1, 10), (1, 1, 255)])) 0 1)).get (by decide +kernel), (publicPart ((slotOf (({ field with sec.keys := [(8, aKey 2), (9, aKey 5), (10, aKey 7)] } : State)) (uAt (prmOf (cmd 2 120 [(0, 1, 10), (1, 1, 255)])) 0 1)).get (by decide +kernel))).get (by decide +kernel), uAt (prmOf (cmd 2 120 [(0, 1, 10), (1, 1, 255)])) 0 1, by unfold admitted; decide +kernel⟩
  · exact ⟨cmd 2 2 [(0, 1, 8), (1, 1, 255)], ({ field with sec.keys := [(8, aKey 2), (9, aKey 5), (10, aKey 7)] } : State), (slotOf (({ field with sec.keys := [(8, aKey 2), (9, aKey 5), (10, aKey 7)] } : State)) (uAt (prmOf (cmd 2 2 [(0, 1, 8), (1, 1, 255)])) 0 1)).get (by decide +kernel), uAt (prmOf (cmd 2 2 [(0, 1, 8), (1, 1, 255)])) 0 1, by unfold admitted; decide +kernel⟩
  · exact ⟨cmd 85 85 [(0, 1, 9), (1, 1, 11), (5, 1, 2)], ({ field with sec.keys := [(8, aKey 2), (9, aKey 5), (10, aKey 7)] } : State), prmOf (cmd 85 85 [(0, 1, 9), (1, 1, 11), (5, 1, 2)]), (attrsAt (prmOf (cmd 85 85 [(0, 1, 9), (1, 1, 11), (5, 1, 2)])) 4).get (by decide +kernel), uAt (prmOf (cmd 85 85 [(0, 1, 9), (1, 1, 11), (5, 1, 2)])) 0 1, 11, by unfold admitted; and_intros <;> first | with_reducible rfl | decide +kernel | rfl⟩
  · exact ⟨cmd 101 101 [(0, 1, 3)], ({ ready with votes.lifeCycle := { c0 := 1, c1 := 1, c2 := 1 } } : State), (journalPut { type := 1, key := settingKey 5 3, payload := ((prmOf (cmd 101 101 [(0, 1, 3)])).drop 4).take 97, prio := 5, schema := (({ ready with votes.lifeCycle := { c0 := 1, c1 := 1, c2 := 1 } } : State)).update.schema } (({ ready with votes.lifeCycle := { c0 := 1, c1 := 1, c2 := 1 } } : State))).2, prmOf (cmd 101 101 [(0, 1, 3)]), by unfold admitted; and_intros <;> first | with_reducible rfl | decide +kernel⟩
  · exact ⟨cmd 101 101 [(0, 1, 3)], ready, prmOf (cmd 101 101 [(0, 1, 3)]), by unfold admitted; decide +kernel⟩

theorem test_witness_SecEngineCommands :
    (∃ (c : Cmd) (s : State) (p : List Byte) (n : Nat) (slot : Nat) (mode : Nat), admitted 0x0E09 (40 + min 160 (uAt (prmOf c) 5 1)) (cipherMax (prmOf c)) none c s ∧ prmOf c = p ∧ uAt p 0 1 = slot ∧ slot < 64 ∧ uAt p 1 1 = mode ∧ mode ≤ 1 ∧ uAt p 2 1 = 0 ∧ uAt p 3 1 = 0 ∧ uAt p 4 1 ≤ 7 ∧ uAt p 5 1 = n ∧ n ≤ 160 ∧ n % 16 = 0 ∧ uAt p 6 1 ≤ 16 ∧ uAt p 7 1 = 0 ∧ hostUse c slot (some 0) s = none ∧ keyType s slot ≤ 2 ∧ 1 ≤ keyType s slot) ∧
    (∃ (c : Cmd) (s : State) (p : List Byte) (n : Nat) (slot : Nat) (e : Nat), admitted 0x0E09 (40 + min 160 (uAt (prmOf c) 5 1)) (cipherMax (prmOf c)) none c s ∧ prmOf c = p ∧ uAt p 0 1 = slot ∧ slot < 64 ∧ uAt p 1 1 ≤ 1 ∧ uAt p 2 1 = 0 ∧ uAt p 3 1 = 0 ∧ uAt p 4 1 ≤ 7 ∧ uAt p 5 1 = n ∧ n ≤ 160 ∧ n % 16 = 0 ∧ uAt p 6 1 ≤ 16 ∧ uAt p 7 1 = 0 ∧ hostUse c slot (some 0) s = some e) ∧
    (∃ (c : Cmd) (s : State) (p : List Byte) (n : Nat) (slot : Nat), admitted 0x0E0A (56 + min 160 (uAt (prmOf c) 5 1)) 0 none c s ∧ prmOf c = p ∧ uAt p 0 1 = slot ∧ slot < 64 ∧ uAt p 1 1 = 0 ∧ uAt p 2 1 = 0 ∧ uAt p 3 1 = 0 ∧ uAt p 4 1 ≤ 7 ∧ uAt p 5 1 = n ∧ n ≤ 160 ∧ zeros p 6 2 = true ∧ hostUse c slot (some 2) s = none ∧ keyType s slot ≤ 2) ∧
    (∃ (c : Cmd) (s : State) (p : List Byte) (n : Nat) (a : Nat), admitted 0x0E0B (8 + min 160 (uAt (prmOf c) 5 1)) 0 none c s ∧ prmOf c = p ∧ uAt p 0 1 = a ∧ a ≤ 1 ∧ zeros p 1 2 = true ∧ uAt p 3 1 = 0 ∧ uAt p 4 1 ≤ 7 ∧ uAt p 5 1 = n ∧ n ≤ 160 ∧ zeros p 6 2 = true) ∧
    (∃ (c : Cmd) (s : State) (p : List Byte) (n : Nat) (a : Nat) (id : Nat), admitted 0x0E0B (8 + min 160 (uAt (prmOf c) 5 1)) 0 none c s ∧ prmOf c = p ∧ uAt p 0 1 = a ∧ a ≤ 1 ∧ zeros p 1 2 = true ∧ uAt p 3 1 = 1 ∧ uAt p 4 1 = id ∧ id ≤ 7 ∧ uAt p 5 1 = n ∧ n ≤ 160 ∧ zeros p 6 2 = true ∧ s.sec.sessions = []) ∧
    (∃ (c : Cmd) (s : State) (p : List Byte) (id : Nat), admitted 0x0E0B (8 + min 160 (uAt (prmOf c) 5 1)) 0 none c s ∧ prmOf c = p ∧ uAt p 0 1 ≤ 1 ∧ zeros p 1 2 = true ∧ uAt p 3 1 = 2 ∧ uAt p 4 1 = id ∧ id ≤ 7 ∧ uAt p 5 1 ≤ 160 ∧ zeros p 6 2 = true ∧ sessionOf s id = none) ∧
    (∃ (c : Cmd) (s : State) (p : List Byte) (id : Nat) (x : SecSession), admitted 0x0E0B (8 + min 160 (uAt (prmOf c) 5 1)) 0 none c s ∧ prmOf c = p ∧ uAt p 0 1 ≤ 1 ∧ zeros p 1 2 = true ∧ (uAt p 3 1 = 1 ∨ x.mbx ≠ c.mbx ∧ (uAt p 3 1 = 2 ∨ uAt p 3 1 = 3)) ∧ uAt p 4 1 = id ∧ id ≤ 7 ∧ uAt p 5 1 ≤ 160 ∧ zeros p 6 2 = true ∧ sessionOf s id = some x) ∧
    (∃ (c : Cmd) (s : State) (s1 : State) (p : List Byte) (n : Nat) (k : Nat), admitted 0x0E0C 40 0 none c s ∧ prmOf c = p ∧ uAt p 0 1 = n ∧ n < 64 ∧ zeros p 1 7 = true ∧ hostUse c n (some 4) s = none ∧ keyType s n = 5 ∧ 40 ≤ p.length ∧ s.sec.drbg = true ∧ draw s = (k, s1) ∧ 64 ≤ areaOf c) ∧
    (∃ (c : Cmd) (s : State) (p : List Byte) (n : Nat) (e : Nat), admitted 0x0E0C 40 0 none c s ∧ prmOf c = p ∧ uAt p 0 1 = n ∧ n < 64 ∧ zeros p 1 7 = true ∧ hostUse c n (some 4) s = some e) ∧
    (∃ (c : Cmd) (s : State) (p : List Byte) (n : Nat) (k : KeySlot), admitted 0x0E0D 120 0 none c s ∧ prmOf c = p ∧ uAt p 0 1 = n ∧ n < 64 ∧ zeros p 1 7 = true ∧ hostUse c n (some 5) s = none ∧ slotOf s n = some k ∧ k.type = 7) ∧
    (∃ (c : Cmd) (s : State) (s1 : State) (b : List Byte) (n : Nat), admitted 0x0E0F 1 (min 128 (uAt (prmOf c) 0 1)) none c s ∧ uAt (prmOf c) 0 1 = n ∧ 1 ≤ n ∧ n ≤ 128 ∧ s.sec.drbg = true ∧ drawBytes n s = (b, s1)) ∧
    (∃ (c : Cmd) (s : State) (n : Nat), admitted 0x0E0F 1 (min 128 (uAt (prmOf c) 0 1)) none c s ∧ uAt (prmOf c) 0 1 = n ∧ 1 ≤ n ∧ n ≤ 128 ∧ s.sec.drbg = false) ∧
    (∃ (c : Cmd) (s : State) (s1 : State) (k : KeySlot) (b : List Byte) (v : Nat), admitted 0x0E15 32 88 none c s ∧ slotOf s 0 = some k ∧ s.sec.drbg = true ∧ draw s = (v, s1) ∧ uidBytes ++ le 1 (lifeCycle s) ++ [0, 0, 0] ++ le 4 s.otp.tamperEpoch = b) := by
  refine ⟨?_, ?_, ?_, ?_, ?_, ?_, ?_, ?_, ?_, ?_, ?_, ?_, ?_⟩
  · exact ⟨cmd 40 40 [], field, prmOf (cmd 40 40 []), uAt (prmOf (cmd 40 40 [])) 5 1, uAt (prmOf (cmd 40 40 [])) 0 1, uAt (prmOf (cmd 40 40 [])) 1 1, by unfold admitted; decide +kernel⟩
  · exact ⟨cmd 40 40 [], ({ ready with sec.drbg := true } : State), prmOf (cmd 40 40 []), uAt (prmOf (cmd 40 40 [])) 5 1, uAt (prmOf (cmd 40 40 [])) 0 1, 0x0E81, by unfold admitted; decide +kernel⟩
  · exact ⟨cmd 56 56 [], field, prmOf (cmd 56 56 []), uAt (prmOf (cmd 56 56 [])) 5 1, uAt (prmOf (cmd 56 56 [])) 0 1, by unfold admitted; decide +kernel⟩
  · exact ⟨cmd 8 8 [], ready, prmOf (cmd 8 8 []), uAt (prmOf (cmd 8 8 [])) 5 1, uAt (prmOf (cmd 8 8 [])) 0 1, by unfold admitted; decide +kernel⟩
  · exact ⟨cmd 8 8 [(3, 1, 1)], field, prmOf (cmd 8 8 [(3, 1, 1)]), uAt (prmOf (cmd 8 8 [(3, 1, 1)])) 5 1, uAt (prmOf (cmd 8 8 [(3, 1, 1)])) 0 1, uAt (prmOf (cmd 8 8 [(3, 1, 1)])) 4 1, by unfold admitted; decide +kernel⟩
  · exact ⟨cmd 8 8 [(3, 1, 2)], ready, prmOf (cmd 8 8 [(3, 1, 2)]), uAt (prmOf (cmd 8 8 [(3, 1, 2)])) 4 1, by unfold admitted; decide +kernel⟩
  · exact ⟨cmd 8 8 [(3, 1, 1), (4, 1, 1)], ({ field with sec.sessions := [{ id := 1, mbx := 1, kind := 2, slot := 0, mode := 0, flag := false, iv := [], aux := [], data := [], cyc := 0 }] } : State), prmOf (cmd 8 8 [(3, 1, 1), (4, 1, 1)]), 1, { id := 1, mbx := 1, kind := 2, slot := 0, mode := 0, flag := false, iv := [], aux := [], data := [], cyc := 0 }, by unfold admitted; decide +kernel⟩
  · exact ⟨cmd 40 64 [(0, 1, 1)], field, (draw (field)).2, prmOf (cmd 40 64 [(0, 1, 1)]), 1, (draw (field)).1, by unfold admitted; and_intros <;> first | with_reducible rfl | decide +kernel | rfl⟩
  · exact ⟨cmd 40 40 [], ({ ready with sec.drbg := true } : State), prmOf (cmd 40 40 []), uAt (prmOf (cmd 40 40 [])) 0 1, 0x0E81, by unfold admitted; decide +kernel⟩
  · exact ⟨cmd 120 120 [(0, 1, 2)], ({ field with sec.keys := [(0, aKey 5), (1, aKey 5), (2, aKey 7)] } : State), prmOf (cmd 120 120 [(0, 1, 2)]), 2, (slotOf (({ field with sec.keys := [(0, aKey 5), (1, aKey 5), (2, aKey 7)] } : State)) (2)).get (by decide +kernel), by unfold admitted; decide +kernel⟩
  · exact ⟨cmd 1 1 [(0, 1, 1)], ready, (drawBytes (1) (ready)).2, (drawBytes (1) (ready)).1, 1, by unfold admitted; and_intros <;> first | with_reducible rfl | decide +kernel | rfl⟩
  · exact ⟨cmd 1 1 [(0, 1, 1)], ({ ready with sec.drbg := false } : State), 1, by unfold admitted; decide +kernel⟩
  · exact ⟨cmd 32 88 [], ({ field with sec.keys := [(0, aKey 5), (1, aKey 5), (2, aKey 7)] } : State), (draw (({ field with sec.keys := [(0, aKey 5), (1, aKey 5), (2, aKey 7)] } : State))).2, (slotOf (({ field with sec.keys := [(0, aKey 5), (1, aKey 5), (2, aKey 7)] } : State)) 0).get (by decide +kernel), uidBytes ++ le 1 (lifeCycle (({ field with sec.keys := [(0, aKey 5), (1, aKey 5), (2, aKey 7)] } : State))) ++ [0, 0, 0] ++ le 4 (({ field with sec.keys := [(0, aKey 5), (1, aKey 5), (2, aKey 7)] } : State)).otp.tamperEpoch, (draw (({ field with sec.keys := [(0, aKey 5), (1, aKey 5), (2, aKey 7)] } : State))).1, by unfold admitted; and_intros <;> first | with_reducible rfl | decide +kernel | rfl⟩

theorem test_witness_SecLifeCommands :
    (∃ (c : Cmd) (s : State), admitted 0x0E10 (lifecycleMin c) 0 none c s ∧ s.power.tamperSafe = false ∧ lifeCycle s = 2 ∧ uAt (prmOf c) 0 1 = 1 ∧ s.power.restartNow = none) ∧
    (∃ (c : Cmd) (s : State), admitted 0x0E10 (lifecycleMin c) 0 none c s ∧ s.power.tamperSafe = true ∧ uAt (prmOf c) 0 1 ≠ 4 ∧ s.power.restartNow = none) ∧
    (∃ (c : Cmd) (s : State), admitted 0x0E10 (lifecycleMin c) 0 none c s ∧ lifeCycle s ≤ 3 ∧ uAt (prmOf c) 0 1 = 4 ∧ zeros (prmOf c) 1 7 = true ∧ s.update.st = .idle) ∧
    (∃ (c : Cmd) (s : State), admitted 0x0E10 (lifecycleMin c) 0 none c s ∧ s.power.tamperSafe = false ∧ lifeCycle s = 1 ∧ uAt (prmOf c) 0 1 = 2 ∧ zeros (prmOf c) 1 7 = true ∧ s.update.st = .idle ∧ s.otp.hash3 = none ∧ s.power.restartNow = none) ∧
    (∃ (c : Cmd) (s : State) (s1 : State) (b : List Byte), admitted 0x0E11 0 64 none c s ∧ s.sec.drbg = true ∧ drawBytes 32 s = (b, s1)) ∧
    (Config.ecVerify 8 (keyBytes (locked 2) 3) (hashOf 1 (List.replicate 48 0)) ((prmOf (cmd 96 96 [])).take 96) = true → ∃ (c : Cmd) (s : State) (ch : List Byte), admitted 0x0E12 96 0 none c s ∧ s.power.tamperSafe = true ∧ s.sec.cold = true ∧ s.sec.challenge = some ch ∧ s.sec.ackFrom = none ∧ lifeCycle s = 2 ∧ Config.ecVerify 8 (keyBytes s 3) (hashOf 1 ch) ((prmOf c).take 96) = true ∧ s.power.restartNow = none) ∧
    (Config.ecVerify 8 (keyBytes (locked 1) 3) (hashOf 1 (List.replicate 48 0)) ((prmOf (cmd 96 96 [])).take 96) = true → ∃ (c : Cmd) (s : State) (ch : List Byte), admitted 0x0E12 96 0 none c s ∧ s.power.tamperSafe = true ∧ s.sec.cold = true ∧ s.sec.challenge = some ch ∧ s.sec.ackFrom = none ∧ lifeCycle s = 1 ∧ Config.ecVerify 8 (keyBytes s 3) (hashOf 1 ch) ((prmOf c).take 96) = true) ∧
    (Config.ecVerify 8 (keyBytes (locked 2) 3) (hashOf 1 (List.replicate 48 0)) ((prmOf (cmd 96 96 [])).take 96) = false → ∃ (c : Cmd) (s : State) (ch : List Byte), admitted 0x0E12 96 0 none c s ∧ s.power.tamperSafe = true ∧ s.sec.cold = true ∧ s.sec.challenge = some ch ∧ s.sec.ackFrom = none ∧ lifeCycle s = 2 ∧ Config.ecVerify 8 (keyBytes s 3) (hashOf 1 ch) ((prmOf c).take 96) = false ∧ s.power.restartNow = none) ∧
    (∃ (c : Cmd) (s : State), admitted 0x0E12 96 0 none c s ∧ s.power.tamperSafe = true ∧ s.sec.cold = false ∧ s.power.restartNow = none) ∧
    (∃ (c : Cmd) (s : State) (ch : List Byte) (t : Nat), admitted 0x0E13 32 0 none c s ∧ s.sec.challenge = some ch ∧ s.sec.ackFrom = some t ∧ ch.take 32 = (prmOf c).take 32 ∧ s.time.cyc ≤ t + cycMs 60000) ∧
    (∃ (c : Cmd) (s : State), admitted 0x0E13 32 0 none c s ∧ s.sec.ackFrom = none ∧ s.power.restartNow = none) ∧
    (∃ (c : Cmd) (s : State), admitted 0x0E14 0 0 none c s) ∧
    (∃ (c : Cmd) (s : State), admitted 0x0E16 0 0 none c s ∧ s.power.st = .spring) ∧
    (∃ (c : Cmd) (s : State), admitted 0x0E17 2 0 none c s ∧ lifeCycle s = 1 ∧ s.otp.worldMap = none) ∧
    (∃ (c : Cmd) (s : State), admitted 0x0E17 2 0 none c s ∧ (lifeCycle s ≠ 1 ∨ s.otp.worldMap.isSome = true)) ∧
    (∃ (c : Cmd) (s : State), worldS s c.mbx = true ∧ s.power.restartNow = none ∧ admitted 0x0101 32 0 none c s) := by
  refine ⟨?_, ?_, ?_, ?_, ?_, ?_, ?_, ?_, ?_, ?_, ?_, ?_, ?_, ?_, ?_, ?_⟩
  · exact ⟨cmd 104 104 [(0, 1, 1)], field, by unfold admitted; decide +kernel⟩
  · exact ⟨cmd 1 1 [], ({ field with power.tamperSafe := true } : State), by unfold admitted; decide +kernel⟩
  · exact ⟨cmd 8 8 [(0, 1, 4)], field, by unfold admitted; decide +kernel⟩
  · exact ⟨cmd 8 8 [(0, 1, 2)], ({ ready with votes.lifeCycle := { c0 := 1, c1 := 1, c2 := 1 } } : State), by unfold admitted; decide +kernel⟩
  · exact ⟨cmd 0 64 [], ready, (drawBytes 32 (ready)).2, (drawBytes 32 (ready)).1, by unfold admitted; and_intros <;> first | with_reducible rfl | decide +kernel⟩
  · exact fun h => ⟨cmd 96 96 [], locked 2, List.replicate 48 0, by unfold admitted; and_intros <;> first | with_reducible rfl | decide +kernel | exact h⟩
  · exact fun h => ⟨cmd 96 96 [], locked 1, List.replicate 48 0, by unfold admitted; and_intros <;> first | with_reducible rfl | decide +kernel | exact h⟩
  · exact fun h => ⟨cmd 96 96 [], locked 2, List.replicate 48 0, by unfold admitted; and_intros <;> first | with_reducible rfl | decide +kernel | exact h⟩
  · exact ⟨cmd 96 96 [], ({ field with power.tamperSafe := true } : State), by unfold admitted; decide +kernel⟩
  · exact ⟨{ cmd 32 32 [] with mbx := 1 }, ({ field with sec.ackFrom := some 0, sec.challenge := some (List.replicate 32 0) } : State), ((({ field with sec.ackFrom := some 0, sec.challenge := some (List.replicate 32 0) } : State)).sec.challenge).get (by decide +kernel), ((({ field with sec.ackFrom := some 0, sec.challenge := some (List.replicate 32 0) } : State)).sec.ackFrom).get (by decide +kernel), by unfold admitted; decide +kernel⟩
  · exact ⟨{ cmd 32 32 [] with mbx := 1 }, field, by unfold admitted; decide +kernel⟩
  · exact ⟨cmd 0 0 [], ready, by unfold admitted; decide +kernel⟩
  · exact ⟨cmd 0 0 [], ready, by unfold admitted; decide +kernel⟩
  · exact ⟨cmd 2 2 [], ({ ready with votes.lifeCycle := { c0 := 1, c1 := 1, c2 := 1 } } : State), by unfold admitted; decide +kernel⟩
  · exact ⟨cmd 2 2 [], ready, by unfold admitted; decide +kernel⟩
  · exact ⟨cmd 32 32 [], ready, by unfold admitted; decide +kernel⟩

theorem test_witness_UpdateEvents :
    (∃ (q : Packet) (p : List Byte) (s : State) (s1 : State), takeS0 0x1C s = some (q, s1) ∧ q.payload = p ∧ s1.update.st = .loading ∧ imageCause s1.update p = none ∧ s1.update.received + uAt p 4 4 ≠ s1.update.length) ∧
    (∃ (q : Packet) (p : List Byte) (s : State) (s1 : State), takeS0 0x1C s = some (q, s1) ∧ q.payload = p ∧ s1.update.st = .loading ∧ imageCause s1.update p = none ∧ s1.update.received + uAt p 4 4 = s1.update.length) ∧
    (∃ (q : Packet) (s : State) (s1 : State) (c : Nat), takeS0 0x1C s = some (q, s1) ∧ s1.update.st = .loading ∧ imageCause s1.update q.payload = some c) ∧
    (∃ (q : Packet) (s : State) (s1 : State), takeS0 0x1C s = some (q, s1) ∧ s1.update.st ≠ .loading) ∧
    (∃ (s : State), s.update.st = .verifying ∧ verifyBank s (bankOf s (otherBank s)) = none) ∧
    (∃ (s : State) (c : Nat) (k : Nat), s.update.st = .verifying ∧ verifyBank s (bankOf s (otherBank s)) = some (c, k)) ∧
    (∃ (s : State) (f : Option Nat), s.update.st ≠ .verifying) ∧
    (∃ (s : State) (s1 : State), s.update.st = .preparing ∧ s.update.cold = false ∧ s.update.migrated = false ∧ migrate (toMigrate s (bundleField (bankOf s (otherBank s)) 44 2) (bundleField (bankOf s (otherBank s)) 42 2)) (bundleField (bankOf s (otherBank s)) 42 2) s = (none, s1)) ∧
    (∃ (s : State) (k : Nat) (sch : Nat), s.update.st = .preparing ∧ s.update.cold = false ∧ s.update.migrated = false) ∧
    (∃ (s : State), s.update.st = .preparing ∧ s.update.cold = false ∧ s.update.migrated = false) ∧
    (∃ (s : State), s.update.st = .handover ∧ s.update.reversing = none ∧ s.update.switched < 5 ∧ stopDue (runTo (switchInstant s) s) (switchInstant s) = false) ∧
    (∃ (s : State), s.update.st = .handover ∧ s.update.reversing = none ∧ s.update.switched = 5 ∧ stopDue (runTo (switchInstant s) s) (switchInstant s) = false) ∧
    (∃ (s : State), s.update.st = .handover ∧ s.update.reversing = none ∧ s.update.switched = 4 ∧ stopDue (runTo (switchInstant s) s) (switchInstant s) = false ∧ s.update.ctrlMoves < 99) ∧
    (∃ (s : State) (b : Bool), s.update.st = .handover ∧ s.update.reversing = none ∧ 1 ≤ s.update.switched ∧ s.update.switched ≤ 5 ∧ (s.update.switched = 4 → b = false) ∧ stopDue (runTo (switchInstant s) s) (switchInstant s) = false) ∧
    (∃ (s : State) (c : Nat), s.update.reversing = some c ∧ 2 ≤ s.update.switched) ∧
    (∃ (s : State), s.update.reversing = some 3 ∧ s.update.switched = 1) ∧
    (∃ (s : State), s.update.st = .trial ∧ s.update.cold = true) ∧
    (∃ (s : State), s.update.st = .trial ∧ s.update.cold = false ∧ 1 ≤ s.update.switched) ∧
    (∃ (s : State), s.update.restartWait = some none ∧ restartReady s = true) ∧
    (∃ (s : State) (c : Option Nat), s.update.restartWait = some c ∧ restartReady s = false) ∧
    (∃ (s : State), s.update.st = .trial) ∧
    (∃ (a : Bool) (b : Bool) (s : State), s.journal.compacting = false ∧ 16 ≤ s.journal.erased.length) ∧
    (∃ (a : Bool) (b : Bool) (s : State), (s.journal.compacting = true ∨ s.journal.erased.length < 16) ∧ compactTarget s = none) ∧
    (∃ (g : JSeg) (s : State), (s.journal.compacting = true ∨ s.journal.erased.length < 16) ∧ compactTarget s = some g) ∧
    (∃ (g : JSeg) (e : Bool) (s : State), (s.journal.compacting = true ∨ s.journal.erased.length < 16) ∧ compactTarget s = some g) ∧
    (∃ (g : JSeg) (s : State), (s.journal.compacting = true ∨ s.journal.erased.length < 16) ∧ compactTarget s = some g) := by
  refine ⟨?_, ?_, ?_, ?_, ?_, ?_, ?_, ?_, ?_, ?_, ?_, ?_, ?_, ?_, ?_, ?_, ?_, ?_, ?_, ?_, ?_, ?_, ?_, ?_, ?_, ?_⟩
  · exact ⟨{ type := 0x1C, payload := le 4 0 ++ le 4 4 ++ le 4 (crc32 [1, 2, 3, 4]) ++ le 4 0 ++ [1, 2, 3, 4] }, le 4 0 ++ le 4 4 ++ le 4 (crc32 [1, 2, 3, 4]) ++ le 4 0 ++ [1, 2, 3, 4], ({ ready with harbour.s0.packets := [(0, 0, { type := 0x1C, payload := le 4 0 ++ le 4 4 ++ le 4 (crc32 [1, 2, 3, 4]) ++ le 4 0 ++ [1, 2, 3, 4] })], update.st := .loading, update.length := 528 } : State), ({ ready with harbour.s0.packets := [], update.st := .loading, update.length := 528 } : State), by and_intros <;> first | with_reducible rfl | decide +kernel | rfl⟩
  · exact ⟨{ type := 0x1C, payload := le 4 0 ++ le 4 4 ++ le 4 (crc32 [1, 2, 3, 4]) ++ le 4 0 ++ [1, 2, 3, 4] }, le 4 0 ++ le 4 4 ++ le 4 (crc32 [1, 2, 3, 4]) ++ le 4 0 ++ [1, 2, 3, 4], ({ ready with harbour.s0.packets := [(0, 0, { type := 0x1C, payload := le 4 0 ++ le 4 4 ++ le 4 (crc32 [1, 2, 3, 4]) ++ le 4 0 ++ [1, 2, 3, 4] })], update.st := .loading, update.length := 4 } : State), ({ ready with harbour.s0.packets := [], update.st := .loading, update.length := 4 } : State), by and_intros <;> first | with_reducible rfl | decide +kernel | rfl⟩
  · exact ⟨{ type := 0x1C, payload := [] }, ({ ready with harbour.s0.packets := [(0, 0, { type := 0x1C, payload := [] })], update.st := .loading, update.length := 528 } : State), ({ ready with harbour.s0.packets := [], update.st := .loading, update.length := 528 } : State), 1, by and_intros <;> first | with_reducible rfl | decide +kernel | rfl⟩
  · exact ⟨{ type := 0x1C, payload := [] }, ({ ready with harbour.s0.packets := [(0, 0, { type := 0x1C, payload := [] })], update.st := .idle, update.length := 528 } : State), ({ ready with harbour.s0.packets := [], update.st := .idle, update.length := 528 } : State), by and_intros <;> first | with_reducible rfl | decide +kernel | rfl⟩
  · exact ⟨({ ready with update.st := .verifying, update.bankB := { factory := true } } : State), by decide +kernel⟩
  · exact ⟨({ ready with update.st := .verifying } : State), 0, 0, by decide +kernel⟩
  · exact ⟨ready, none, by decide +kernel⟩
  · exact ⟨({ ready with update.st := .preparing, update.bankB := { factory := true } } : State), ({ ready with update.st := .preparing, update.bankB := { factory := true } } : State), by decide +kernel⟩
  · exact ⟨({ ready with update.st := .preparing } : State), 0, 0, by decide +kernel⟩
  · exact ⟨({ ready with update.st := .preparing } : State), by decide +kernel⟩
  · exact ⟨({ ready with update.st := .handover, stop.st := .clear } : State), by decide +kernel⟩
  · exact ⟨({ ready with update.st := .handover, update.switched := 5, stop.st := .clear } : State), by decide +kernel⟩
  · exact ⟨({ ready with update.st := .handover, update.switched := 4, stop.st := .clear } : State), by decide +kernel⟩
  · exact ⟨({ ready with update.st := .handover, update.switched := 4, stop.st := .clear } : State), false, by decide +kernel⟩
  · exact ⟨({ ready with update.reversing := some 3, update.switched := 3 } : State), 3, by decide +kernel⟩
  · exact ⟨({ ready with update.reversing := some 3, update.switched := 1 } : State), by decide +kernel⟩
  · exact ⟨({ ready with update.st := .trial, update.cold := true } : State), by decide +kernel⟩
  · exact ⟨({ ready with update.st := .trial, update.switched := 6 } : State), by decide +kernel⟩
  · exact ⟨({ ready with update.restartWait := some none, axes := [], cell.allOff := true } : State), by decide +kernel⟩
  · exact ⟨({ ready with update.restartWait := some (some 0), raster.job := 4, cell.armed := true } : State), some 0, by decide +kernel⟩
  · exact ⟨({ ready with update.st := .trial } : State), by decide +kernel⟩
  · exact ⟨false, false, ready, by decide +kernel⟩
  · exact ⟨false, false, ({ ready with journal.compacting := true } : State), by decide +kernel⟩
  · exact ⟨(compactTarget (({ ready with journal.compacting := true, journal.segs := [{ idx := 0, erases := 0, segSeq := 1, recs := [{ type := 1, key := 1, seq := 1, payload := [] }, { type := 1, key := 1, seq := 2, payload := [] }] }, { idx := 1, erases := 0, segSeq := 2 }] } : State))).get (by decide +kernel), ({ ready with journal.compacting := true, journal.segs := [{ idx := 0, erases := 0, segSeq := 1, recs := [{ type := 1, key := 1, seq := 1, payload := [] }, { type := 1, key := 1, seq := 2, payload := [] }] }, { idx := 1, erases := 0, segSeq := 2 }] } : State), by decide +kernel⟩
  · exact ⟨(compactTarget (({ ready with journal.compacting := true, journal.segs := [{ idx := 0, erases := 0, segSeq := 1, recs := [{ type := 1, key := 1, seq := 1, payload := [] }, { type := 1, key := 1, seq := 2, payload := [] }] }, { idx := 1, erases := 0, segSeq := 2 }] } : State))).get (by decide +kernel), false, ({ ready with journal.compacting := true, journal.segs := [{ idx := 0, erases := 0, segSeq := 1, recs := [{ type := 1, key := 1, seq := 1, payload := [] }, { type := 1, key := 1, seq := 2, payload := [] }] }, { idx := 1, erases := 0, segSeq := 2 }] } : State), by decide +kernel⟩
  · exact ⟨(compactTarget (({ ready with journal.compacting := true, journal.segs := [{ idx := 0, erases := 0, segSeq := 1, recs := [{ type := 1, key := 1, seq := 1, payload := [] }, { type := 1, key := 1, seq := 2, payload := [] }] }, { idx := 1, erases := 0, segSeq := 2 }] } : State))).get (by decide +kernel), ({ ready with journal.compacting := true, journal.segs := [{ idx := 0, erases := 0, segSeq := 1, recs := [{ type := 1, key := 1, seq := 1, payload := [] }, { type := 1, key := 1, seq := 2, payload := [] }] }, { idx := 1, erases := 0, segSeq := 2 }] } : State), by decide +kernel⟩

theorem test_witness_UpdateCommands :
    (∃ (c : Cmd) (s : State) (s1 : State), admitted 0x0F01 8 0 none c s ∧ 528 ≤ uAt (prmOf c) 0 4 ∧ uAt (prmOf c) 0 4 ≤ 16777216 ∧ (s.update.st = .idle ∨ s.update.st = .loaded ∨ s.update.st = .verified) ∧ s.update.reversing = none ∧ s.update.restartWait = none ∧ updRec 0x50 (otherBank s) (le 4 (uAt (prmOf c) 0 4) ++ le 4 (uAt (prmOf c) 4 4)) s = (true, s1)) ∧
    (∃ (c : Cmd) (s : State), admitted 0x0F01 8 0 none c s ∧ 528 ≤ uAt (prmOf c) 0 4 ∧ uAt (prmOf c) 0 4 ≤ 16777216 ∧ (s.update.st = .preparing ∨ s.update.st = .handover ∨ s.update.st = .trial)) ∧
    (∃ (c : Cmd) (s : State), admitted 0x0F01 8 0 none c s ∧ (uAt (prmOf c) 0 4 < 528 ∨ 16777216 < uAt (prmOf c) 0 4)) ∧
    (∃ (c : Cmd) (s : State), admitted 0x0F02 0 0 none c s ∧ s.update.st = .loaded) ∧
    (∃ (c : Cmd) (s : State), admitted 0x0F02 0 0 none c s ∧ s.update.st ≠ .loaded) ∧
    (∃ (c : Cmd) (s : State) (s1 : State) (p : List Byte), admitted 0x0F03 8 0 none c s ∧ prmOf c = p ∧ uAt p 0 1 ≤ 1 ∧ zeros p 1 3 = true ∧ 10 ≤ uAt p 4 4 ∧ uAt p 4 4 ≤ 86400 ∧ updBusy s.update = false ∧ s.update.st = .verified ∧ hitlessOk s = true ∧ updRec 0x54 (otherBank s) (le 1 (otherBank s) ++ le 1 s.update.bank ++ le 1 1 ++ [0] ++ le 4 (uAt p 4 4)) s = (true, s1)) ∧
    (∃ (c : Cmd) (s : State) (p : List Byte), admitted 0x0F03 8 0 none c s ∧ prmOf c = p ∧ uAt p 0 1 = 1 ∧ zeros p 1 3 = true ∧ uAt p 4 4 = 0 ∧ updBusy s.update = false ∧ s.update.st = .verified ∧ hitlessOk s = false) ∧
    (∃ (c : Cmd) (s : State) (p : List Byte), admitted 0x0F03 8 0 none c s ∧ prmOf c = p ∧ uAt p 0 1 ≤ 2 ∧ zeros p 1 3 = true ∧ uAt p 4 4 = 0 ∧ updBusy s.update = false ∧ s.update.st ≠ .verified) ∧
    (∃ (c : Cmd) (s : State) (k : Bool), admitted 0x0F04 0 0 none c s ∧ s.update.migFailed = true) ∧
    (∃ (c : Cmd) (s : State) (k : Bool), admitted 0x0F04 0 0 none c s ∧ s.update.migFailed = false ∧ s.update.st = .trial ∧ s.update.selfTest.all id = false) ∧
    (∃ (c : Cmd) (s : State) (s1 : State) (b : Bank), admitted 0x0F04 0 0 none c s ∧ s.update.migFailed = false ∧ s.update.st = .trial ∧ s.update.selfTest.all id = true ∧ bankOf s s.update.bank = b ∧ updRec 0x57 s.update.bank (le 1 (bundleSecurity b) ++ le 4 (bundleVersion b)) s = (true, s1)) ∧
    (∃ (c : Cmd) (s : State), admitted 0x0F05 0 0 none c s ∧ s.update.st = .trial ∧ s.update.cold = false ∧ 1 ≤ s.update.switched) ∧
    (∃ (c : Cmd) (s : State), admitted 0x0F05 0 0 none c s ∧ s.update.st ≠ .trial) ∧
    (∃ (c : Cmd) (s : State), admitted 0x0F06 0 0 none c s ∧ (s.update.st = .loading ∨ s.update.st = .loaded ∨ s.update.st = .verified)) ∧
    (∃ (c : Cmd) (s : State), admitted 0x0F06 0 0 none c s ∧ s.update.st ≠ .loading ∧ s.update.st ≠ .loaded ∧ s.update.st ≠ .verified) ∧
    (∃ (c : Cmd) (s : State), admitted 0x0F07 0 16 none c s) ∧
    (∃ (c : Cmd) (s : State), admitted 0x0F08 0 20 none c s) ∧
    (∃ (c : Cmd) (s : State), admitted 0x0F09 0 0 none c s) := by
  refine ⟨?_, ?_, ?_, ?_, ?_, ?_, ?_, ?_, ?_, ?_, ?_, ?_, ?_, ?_, ?_, ?_, ?_, ?_⟩
  · exact ⟨cmd 8 8 [(0, 4, 528)], ready, (updRec 0x50 (otherBank (ready)) (le 4 (uAt (prmOf (cmd 8 8 [(0, 4, 528)])) 0 4) ++ le 4 (uAt (prmOf (cmd 8 8 [(0, 4, 528)])) 4 4)) (ready)).2, by unfold admitted; decide +kernel⟩
  · exact ⟨cmd 8 8 [(0, 4, 528)], ({ ready with update.st := .trial } : State), by unfold admitted; decide +kernel⟩
  · exact ⟨cmd 8 8 [], ready, by unfold admitted; decide +kernel⟩
  · exact ⟨cmd 0 0 [], ({ ready with update.st := .loaded } : State), by unfold admitted; decide +kernel⟩
  · exact ⟨cmd 0 0 [], ready, by unfold admitted; decide +kernel⟩
  · exact ⟨cmd 8 8 [(4, 4, 10)], ({ ready with update.st := .verified, update.bankA := {} } : State), (updRec 0x54 (otherBank (({ ready with update.st := .verified, update.bankA := {} } : State))) (le 1 (otherBank (({ ready with update.st := .verified, update.bankA := {} } : State))) ++ le 1 (({ ready with update.st := .verified, update.bankA := {} } : State)).update.bank ++ le 1 1 ++ [0] ++ le 4 (uAt (prmOf (cmd 8 8 [(4, 4, 10)])) 4 4)) (({ ready with update.st := .verified, update.bankA := {} } : State))).2, prmOf (cmd 8 8 [(4, 4, 10)]), by unfold admitted; and_intros <;> first | with_reducible rfl | decide +kernel | rfl⟩
  · exact ⟨cmd 8 8 [(0, 1, 1)], ({ ready with update.st := .verified, update.bankA := { bytes := List.replicate 64 0 } } : State), prmOf (cmd 8 8 [(0, 1, 1)]), by unfold admitted; decide +kernel⟩
  · exact ⟨cmd 8 8 [], ready, prmOf (cmd 8 8 []), by unfold admitted; decide +kernel⟩
  · exact ⟨cmd 0 0 [], ({ ready with update.migFailed := true } : State), false, by unfold admitted; decide +kernel⟩
  · exact ⟨cmd 0 0 [], ({ ready with update.st := .trial } : State), false, by unfold admitted; decide +kernel⟩
  · exact ⟨cmd 0 0 [], ({ ready with update.st := .trial, update.selfTest := List.replicate 6 true, update.bankA := {} } : State), (updRec 0x57 (({ ready with update.st := .trial, update.selfTest := List.replicate 6 true, update.bankA := {} } : State)).update.bank (le 1 (bundleSecurity ({})) ++ le 4 (bundleVersion ({}))) (({ ready with update.st := .trial, update.selfTest := List.replicate 6 true, update.bankA := {} } : State))).2, {}, by unfold admitted; and_intros <;> first | with_reducible rfl | decide +kernel | rfl⟩
  · exact ⟨cmd 0 0 [], ({ ready with update.st := .trial, update.switched := 6 } : State), by unfold admitted; decide +kernel⟩
  · exact ⟨cmd 0 0 [], ready, by unfold admitted; decide +kernel⟩
  · exact ⟨cmd 0 0 [], ({ ready with update.st := .loading } : State), by unfold admitted; decide +kernel⟩
  · exact ⟨cmd 0 0 [], ready, by unfold admitted; decide +kernel⟩
  · exact ⟨cmd 0 16 [], ready, by unfold admitted; decide +kernel⟩
  · exact ⟨cmd 0 20 [], ready, by unfold admitted; decide +kernel⟩
  · exact ⟨cmd 0 0 [], ready, by unfold admitted; decide +kernel⟩

theorem test_witness_RestartEvents :
    (∃ (s : State), s.power.rails ≠ .aonLost) ∧
    (∃ (s : State), s.power.rails = .aonLost) ∧
    (∃ (ms : Nat) (h : Bool) (s : State), s.power.rails = .aonLost) ∧
    (∃ (s : State), s.power.rails = .released ∧ s.power.st ≠ .off ∧ s.power.st ≠ .slack ∧ s.recorder.loaded = true) ∧
    (∃ (us : Nat) (b : Bool) (s : State), us ≤ 1) ∧
    (∃ (us : Nat) (b : Bool) (s : State), 10 ≤ us ∧ s.power.rails = .released) ∧
    (∃ (b : Boot) (s : State), (s.power.st ≠ .off ∨ s.power.rails ≠ .released)) ∧
    (∃ (b : Boot) (k : Nat) (s : State), s.power.st = .off ∧ s.power.rails = .released ∧ b.refIn = true ∧ lcPending { s with votes := { s.votes with lifeCycle := s.votes.lifeCycle.write s.otp.lifeCycle } } = none ∧ b.tamper = some k ∧ 1 ≤ s.otp.lifeCycle ∧ s.otp.lifeCycle ≤ 3 ∧ s.otp.tamperEpoch ≠ 64) ∧
    (∃ (b : Boot) (s : State) (s1 : State), s.power.st = .off ∧ s.power.rails = .released ∧ bootLife (bootRef b s) = (false, s1) ∧ b.tamper = none ∧ s1.otp.enrolled = false ∧ s1.otp.helperBurnt = false ∧ s1.power.st = .off ∧ (bootBank b (bootAlarm (bootJournal b (bootRing b (bootRegions b s1))))).power.st = .off) ∧
    (∃ (s : State), s.power.entering = some .neap ∧ s.power.wakeKept = none ∧ (runTo (nextBoundary s) s).power.vddFlight = none ∧ s.power.st = .spring) ∧
    (∃ (s : State), s.power.entering ≠ some .neap) ∧
    (∃ (s : State), s.power.st = .neap ∧ s.power.entering = none ∧ s.power.wakeAlarm ≠ 0 ∧ s.sec.wiped = false) ∧
    (∃ (s : State), s.power.wakeAlarm = 0) ∧
    (∃ (pin : Nat) (f : Bool) (s : State), s.power.st = .slack ∧ s.power.entering = none ∧ pin ≤ 3 ∧ bit s.power.wakeMask pin = true ∧ bit (s.power.wakeEdges / 4 ^ pin % 4) (b1 f) = true) ∧
    (∃ (pin : Nat) (f : Bool) (s : State), (4 ≤ pin ∨ bit s.power.wakeMask pin = false)) := by
  refine ⟨?_, ?_, ?_, ?_, ?_, ?_, ?_, ?_, ?_, ?_, ?_, ?_, ?_, ?_, ?_⟩
  · exact ⟨ready, by decide +kernel⟩
  · exact ⟨({ ready with power.rails := .aonLost } : State), by decide +kernel⟩
  · exact ⟨0, false, ({ ready with power.rails := .aonLost } : State), by decide +kernel⟩
  · exact ⟨ready, by decide +kernel⟩
  · exact ⟨0, false, ready, by decide +kernel⟩
  · exact ⟨10, false, ready, by decide +kernel⟩
  · exact ⟨{}, ready, by decide +kernel⟩
  · exact ⟨({ tamper := some 4 } : Boot), 4, ({ State.reset with otp.lifeCycle := 1 } : State), by decide +kernel⟩
  · exact ⟨({} : Boot), State.reset, (bootLife (bootRef {} State.reset)).2, by and_intros <;> first | with_reducible rfl | decide +kernel | rfl⟩
  · exact ⟨({ ready with power.entering := some .neap } : State), by decide +kernel⟩
  · exact ⟨ready, by decide +kernel⟩
  · exact ⟨({ ready with power.st := .neap, power.wakeAlarm := 5 } : State), by decide +kernel⟩
  · exact ⟨ready, by decide +kernel⟩
  · exact ⟨0, false, ({ ready with power.st := .slack, power.wakeMask := 15, power.wakeEdges := 255 } : State), by decide +kernel⟩
  · exact ⟨0, false, ready, by decide +kernel⟩

theorem test_witness_PowerEvents :
    (∃ (n : Nat) (s : State), s.power.pfwAt = none ∧ s.power.st = .spring) ∧
    (∃ (n : Nat) (s : State), s.power.pfwAt = none ∧ s.power.st = .neap) ∧
    (∃ (n : Nat) (s : State), s.power.pfwAt ≠ none) ∧
    (∃ (n : Nat) (t : Nat) (s : State), s.power.pfwAt = some t) ∧
    (∃ (s : State) (c : Nat) (v : Nat) (mv : Nat), s.power.vddFlight = some (c, v) ∧ mv ≤ s.power.vddReq + 10 ∧ s.power.vddReq ≤ mv + 10) ∧
    (∃ (s : State) (c : Nat) (v : Nat) (mv : Nat) (b : Bool), s.power.vddFlight = some (c, v)) ∧
    (∃ (s : State) (c : Nat) (v : Nat) (mv : Nat), s.power.vddFlight = some (c, v)) ∧
    (∃ (s : State), s.power.fatal = none) ∧
    (∃ (s : State), s.power.fatal = none) ∧
    (∃ (c : Nat) (s : State), s.power.fatal = some c) ∧
    (∃ (h : Bool) (s : State), s.power.missed = [2, 0, 0, 0] ∧ s.power.restarts = []) ∧
    (∃ (m : Nat) (p : Nat) (a : Nat) (x : Int) (y : Int) (s : State), m ≤ 5 ∧ domainUp s (scrubActivity m).2 = true ∧ s.power.passAt.length = 12) ∧
    (∃ (m : Nat) (p : Nat) (a : Nat) (x : Int) (y : Int) (s : State), m ≤ 5 ∧ domainUp s (scrubActivity m).2 = true) ∧
    (∃ (a : Nat) (p : Nat) (x : Int) (y : Int) (s : State), s.power.st = .spring ∧ domainUp s (scrubActivity 1).2 = true ∧ s.power.fatal = none) ∧
    (∃ (t : Int) (e : Nat) (p : Nat) (s : State), domainUp s 2 = true ∧ s.power.soundSub = false) ∧
    (∃ (t : Nat) (s : State) (s1 : State), s.recorder.firstDrop = some t ∧ runTo (sec1 * (s.recorder.lastDropSec + 2)) s = s1) ∧
    (∃ (s : State), s.recorder.firstDrop = none) := by
  refine ⟨?_, ?_, ?_, ?_, ?_, ?_, ?_, ?_, ?_, ?_, ?_, ?_, ?_, ?_, ?_, ?_, ?_⟩
  · exact ⟨0, ready, by decide +kernel⟩
  · exact ⟨0, ({ ready with power.st := .neap } : State), by decide +kernel⟩
  · exact ⟨0, ({ ready with power.pfwAt := some 5 } : State), by decide +kernel⟩
  · exact ⟨0, 5, ({ ready with power.pfwAt := some 5 } : State), by decide +kernel⟩
  · exact ⟨({ ready with power.vddFlight := some (0, 700) } : State), 0, 700, 950, by decide +kernel⟩
  · exact ⟨({ ready with power.vddFlight := some (0, 700) } : State), 0, 700, 950, false, by decide +kernel⟩
  · exact ⟨({ ready with power.vddFlight := some (0, 700) } : State), 0, 700, 950, by decide +kernel⟩
  · exact ⟨ready, by decide +kernel⟩
  · exact ⟨ready, by decide +kernel⟩
  · exact ⟨1, ({ ready with power.fatal := some 1 } : State), by decide +kernel⟩
  · exact ⟨false, ({ ready with power.missed := [2, 0, 0, 0] } : State), by decide +kernel⟩
  · exact ⟨0, 0, 0, 0, 0, ready, by decide +kernel⟩
  · exact ⟨0, 0, 0, 0, 0, ready, by decide +kernel⟩
  · exact ⟨0, 0, 0, 0, ready, by decide +kernel⟩
  · exact ⟨0, 0, 0, ready, by decide +kernel⟩
  · exact ⟨5, ({ ready with recorder.firstDrop := some 5 } : State), runTo (sec1 * ((({ ready with recorder.firstDrop := some 5 } : State)).recorder.lastDropSec + 2)) (({ ready with recorder.firstDrop := some 5 } : State)), by and_intros <;> first | with_reducible rfl | decide +kernel | rfl⟩
  · exact ⟨ready, by decide +kernel⟩

theorem test_witness_PowerRecorderCommands :
    (∃ (c : Cmd) (s : State), admitted 0x1001 0 24 none c s) ∧
    (∃ (c : Cmd) (s : State), admitted 0x1002 1 0 none c s ∧ uAt (prmOf c) 0 1 = 2 ∧ s.power.st = .spring ∧ leaveMask s = 0 ∧ s.power.entering = none) ∧
    (∃ (c : Cmd) (s : State), admitted 0x1002 1 0 none c s ∧ (uAt (prmOf c) 0 1 = 1 ∨ uAt (prmOf c) 0 1 = 2) ∧ s.power.st = .spring ∧ leaveMask s ≠ 0 ∧ s.power.entering = none) ∧
    (∃ (c : Cmd) (s : State), admitted 0x1002 1 0 none c s ∧ uAt (prmOf c) 0 1 = 1 ∧ (s.power.st = .neap ∨ s.power.st = .spring ∧ leaveMask s = 0) ∧ s.power.wakeKept = none) ∧
    (∃ (c : Cmd) (s : State), admitted 0x1002 1 0 none c s ∧ uAt (prmOf c) 0 1 = 3 ∧ s.power.st = .spring ∧ s.power.entering = none) ∧
    (∃ (c : Cmd) (s : State), admitted 0x1002 1 0 none c s ∧ (uAt (prmOf c) 0 1 = 0 ∨ 3 < uAt (prmOf c) 0 1) ∧ s.power.entering = none) ∧
    (∃ (c : Cmd) (s : State) (p : List Byte), admitted 0x1003 12 0 none c s ∧ prmOf c = p ∧ uAt p 0 1 ≤ 15 ∧ zeros p 2 2 = true ∧ (uAt p 4 8 = 0 ∨ dtNow s < sec1 * uAt p 4 8)) ∧
    (∃ (c : Cmd) (s : State) (p : List Byte), admitted 0x1003 12 0 none c s ∧ prmOf c = p ∧ uAt p 0 1 ≤ 15 ∧ zeros p 2 2 = true ∧ uAt p 4 8 ≠ 0 ∧ sec1 * uAt p 4 8 ≤ dtNow s) ∧
    (∃ (c : Cmd) (s : State) (n : Nat) (b : Nat), admitted 0x1004 3 0 none c s ∧ uAt (prmOf c) 0 2 = n ∧ 1 ≤ n ∧ n ≤ 3600 ∧ uAt (prmOf c) 2 1 = b ∧ b ≤ 1) ∧
    (∃ (c : Cmd) (s : State) (n : Nat), admitted 0x1005 1 (64 * min 3 (uAt (prmOf c) 0 1)) none c s ∧ uAt (prmOf c) 0 1 = n ∧ 1 ≤ n ∧ n ≤ 3) ∧
    (∃ (c : Cmd) (s : State), admitted 0x1006 0 48 none c s) ∧
    (∃ (c : Cmd) (s : State) (q : Nat) (n : Nat), admitted 0x1101 4 (min 224 (recorderReadMax c)) none c s ∧ uAt (prmOf c) 0 2 = q ∧ uAt (prmOf c) 2 1 = n ∧ 1 ≤ n ∧ n ≤ 7 ∧ uAt (prmOf c) 3 1 = 0) ∧
    (∃ (c : Cmd) (s : State) (q : Nat) (n : Nat), admitted 0x1101 4 (min 224 (recorderReadMax c)) none c s ∧ uAt (prmOf c) 0 2 = q ∧ uAt (prmOf c) 2 1 = n ∧ 1 ≤ n ∧ n ≤ 7 ∧ uAt (prmOf c) 3 1 = 1) ∧
    (∃ (c : Cmd) (s : State) (v : Nat), admitted 0x1102 1 0 none c s ∧ uAt (prmOf c) 0 1 = v ∧ (v ≤ 7 ∨ v = 0xFF)) ∧
    (∃ (c : Cmd) (s : State) (p : List Byte), admitted 0x1103 4 0 none c s ∧ prmOf c = p ∧ uAt p 2 1 ≠ 0 ∧ uAt p 3 1 ≤ 7) ∧
    (∃ (c : Cmd) (s : State) (p : List Byte), admitted 0x1103 4 0 none c s ∧ prmOf c = p ∧ (uAt p 2 1 = 0 ∨ 7 < uAt p 3 1)) ∧
    (∃ (c : Cmd) (s : State), admitted 0x1104 0 40 none c s) := by
  refine ⟨?_, ?_, ?_, ?_, ?_, ?_, ?_, ?_, ?_, ?_, ?_, ?_, ?_, ?_, ?_, ?_, ?_⟩
  · exact ⟨cmd 0 24 [], ready, by unfold admitted; decide +kernel⟩
  · exact ⟨cmd 1 1 [(0, 1, 2)], ready, by unfold admitted; decide +kernel⟩
  · exact ⟨cmd 1 1 [(0, 1, 1)], ({ ready with update.st := .loading } : State), by unfold admitted; decide +kernel⟩
  · exact ⟨cmd 1 1 [(0, 1, 1)], ready, by unfold admitted; decide +kernel⟩
  · exact ⟨cmd 1 1 [(0, 1, 3)], ready, by unfold admitted; decide +kernel⟩
  · exact ⟨cmd 1 1 [], ready, by unfold admitted; decide +kernel⟩
  · exact ⟨cmd 12 12 [], ready, prmOf (cmd 12 12 []), by unfold admitted; decide +kernel⟩
  · exact ⟨cmd 12 12 [(4, 8, 1)], ({ ready with time.out := 2 ^ 30 * sec1 } : State), prmOf (cmd 12 12 [(4, 8, 1)]), by unfold admitted; and_intros <;> first | with_reducible rfl | decide +kernel | rfl⟩
  · exact ⟨cmd 3 3 [(0, 2, 1)], ready, 1, uAt (prmOf (cmd 3 3 [(0, 2, 1)])) 2 1, by unfold admitted; decide +kernel⟩
  · exact ⟨cmd 1 64 [(0, 1, 1)], ready, 1, by unfold admitted; decide +kernel⟩
  · exact ⟨cmd 0 48 [], ready, by unfold admitted; decide +kernel⟩
  · exact ⟨cmd 4 4 [(2, 1, 1)], ready, uAt (prmOf (cmd 4 4 [(2, 1, 1)])) 0 2, 1, by unfold admitted; decide +kernel⟩
  · exact ⟨cmd 4 4 [(2, 1, 1), (3, 1, 1)], ready, uAt (prmOf (cmd 4 4 [(2, 1, 1), (3, 1, 1)])) 0 2, 1, by unfold admitted; decide +kernel⟩
  · exact ⟨cmd 1 1 [], ready, uAt (prmOf (cmd 1 1 [])) 0 1, by unfold admitted; decide +kernel⟩
  · exact ⟨cmd 4 4 [(2, 1, 1)], ready, prmOf (cmd 4 4 [(2, 1, 1)]), by unfold admitted; decide +kernel⟩
  · exact ⟨cmd 4 4 [], ready, prmOf (cmd 4 4 []), by unfold admitted; decide +kernel⟩
  · exact ⟨cmd 0 40 [], ready, by unfold admitted; decide +kernel⟩

theorem test_witness_RowFrames :
    (∃ (i : Instr) (s : State) (t : State), chapterOf i = 3 ∧ exec i s = .next t) ∧
    (∃ (i : Instr) (s : State) (t : State), chapterOf i = 4 ∧ exec i s = .next t) ∧
    (∃ (i : Instr) (s : State) (t : State), chapterOf i = 5 ∧ exec i s = .next t) ∧
    (∃ (i : Instr) (s : State) (t : State), chapterOf i = 6 ∧ exec i s = .next t) ∧
    (∃ (i : Instr) (s : State) (t : State), chapterOf i = 7 ∧ exec i s = .next t) ∧
    (∃ (i : Instr) (s : State) (t : State), chapterOf i = 8 ∧ exec i s = .next t) ∧
    (∃ (i : Instr) (s : State) (t : State), chapterOf i = 9 ∧ exec i s = .next t) ∧
    (∃ (i : Instr) (s : State) (t : State), chapterOf i = 10 ∧ exec i s = .next t) ∧
    (∃ (i : Instr) (s : State) (t : State), chapterOf i = 11 ∧ (∀ x0, i ≠ .beacon x0) ∧ exec i s = .next t) ∧
    (∃ (i : Instr) (s : State) (t : State), chapterOf i = 12 ∧ exec i s = .next t) ∧
    (∃ (i : Instr) (s : State) (t : State), chapterOf i = 13 ∧ exec i s = .next t) ∧
    (∃ (i : Instr) (s : State) (t : State), chapterOf i = 15 ∧ (∀ x0, i ≠ .tamperAlarm x0) ∧ i ≠ .tamperSafeEntry ∧ (∀ x0 x1, i ≠ .debugRequest x0 x1) ∧ (∀ x0, i ≠ .secLifecycle x0) ∧ (∀ x0, i ≠ .secUnlock x0) ∧ (∀ x0, i ≠ .secUnlockAck x0) ∧ exec i s = .next t) ∧
    (∃ (i : Instr) (s : State) (t : State), chapterOf i = 16 ∧ i ≠ .updateRestart ∧ exec i s = .next t) := by
  refine ⟨?_, ?_, ?_, ?_, ?_, ?_, ?_, ?_, ?_, ?_, ?_, ?_, ?_⟩
  · exact ⟨.gnssIfLinkLost 0 0, ready, _, rfl, rfl⟩
  · exact ⟨.poseEpochLate 0, ready, _, rfl, rfl⟩
  · exact ⟨.poseBatch 0, ready, _, rfl, rfl⟩
  · exact ⟨.rasterJobClosed, ready, _, rfl, rfl⟩
  · exact ⟨.commandFrameSend 0, ready, _, rfl, rfl⟩
  · exact ⟨.lifeCountCheck, ready, _, rfl, rfl⟩
  · exact ⟨.moveStart 0, ready, _, rfl, rfl⟩
  · exact ⟨.conversionFrame [], ready, _, rfl, rfl⟩
  · exact ⟨.slotStart 0 0, ready, _, rfl, (fun _ h => nomatch h), rfl⟩
  · exact ⟨.corridorBatch, ready, _, rfl, rfl⟩
  · exact ⟨.vxLinkDown 0 0, ready, _, rfl, rfl⟩
  · exact ⟨.entropyTestFail 0, ready, _, rfl, (fun _ h => nomatch h), (fun h => nomatch h), (fun _ _ h => nomatch h), (fun _ h => nomatch h), (fun _ h => nomatch h), (fun _ h => nomatch h), rfl⟩
  · exact ⟨.verificationDone none, ready, _, rfl, (fun h => nomatch h), rfl⟩

end Sys2Proof.Tests
end

namespace Sys2Proof.Proofs
open Sys2Proof Sys2Proof.Machine Sys2Proof.Safety

/-! ## Device Time fields and Short Time
What a field with NANOSECONDS out of range is to the checks of a command (02 R45, R46), and the period of Short Time (02 R48).
-/

/-- A Device Time field with NANOSECONDS at or above 10^9 fails the check of 02 R46. -/
theorem dtOk_eq_false {p : List Byte} {o : Nat} (h : 10 ^ 9 ≤ uAt p (o + 2) 4) : dtOk p o = false :=
  decide_eq_false (Nat.not_lt.mpr h)

theorem uAt_drop (p : List Byte) (k o n : Nat) : uAt (p.drop k) o n = uAt p (k + o) n := by
  simp [uAt, List.drop_drop]

theorem natOf_eq_zero {l : List Byte} (h : ∀ b ∈ l, b = 0) : natOf l = 0 := by
  induction l with
  | nil => rfl
  | cons b r ih =>
    obtain ⟨hb, hr⟩ := List.forall_mem_cons.mp h
    simp [natOf, hb, ih hr]

/-- A field that lies in a run of zero bytes reads 0. -/
theorem uAt_eq_zero_of_zeros {p : List Byte} {o k n m : Nat} (h : zeros p o m = true) (hm : k + n ≤ m) : uAt p (o + k) n = 0 := by
  refine natOf_eq_zero fun b hb => ?_
  have hz : ∀ x ∈ (p.drop o).take m, x = 0 := by simpa only [zeros, List.all_eq_true, beq_iff_eq] using h
  refine hz b (List.mem_of_mem_drop (i := k) ?_)
  rw [List.drop_take, List.drop_drop]
  exact (List.take_sublist_take_left (by omega)).subset hb

/-- Short Time wraps with 2^46 units of 2^-16 ns, which is 1.073741824 s (02 R48). -/
theorem stOf_add_period (t : Nat) : stOf (t + ns1 * 1073741824) = stOf t := by
  unfold stOf ns1
  omega

/-- Within its first period Short Time is 0 in the first LSB only. -/
theorem stOf_ne_zero {p : Nat} (h : 2 ^ 14 ≤ p) (h' : p < ns1 * 1073741824) : stOf p ≠ 0 := by
  unfold ns1 at h'
  unfold stOf
  omega

/-- No amount below the period leaves Short Time as it was at every instant: one of an LSB or more changes it from 0 on, a smaller one across the end of the first LSB. -/
theorem exists_stOf_add_ne {p : Nat} (h0 : 0 < p) (hp : p < ns1 * 1073741824) : ∃ t, stOf (t + p) ≠ stOf t := by
  by_cases h : 2 ^ 14 ≤ p
  · exact ⟨0, by simpa [stOf] using stOf_ne_zero h hp⟩
  · refine ⟨2 ^ 14 - p, ?_⟩
    unfold stOf
    omega

/-- Settles O14: a Device Time is seconds, nanoseconds and 2^-16 ns in one count, of which Short Time takes bits 14 to 45. -/
theorem shortTimeRule : Obligations.ShortTimeRule := by
  refine ⟨fun sec ns f _ _ => ?_, fun t => ⟨Nat.mod_lt _ (by decide), stOf_add_period t⟩, fun p h0 hp => exists_stOf_add_ne h0 hp⟩
  have h : sec1 * sec + ns1 * ns + f = (sec * 10 ^ 9 + ns) * 2 ^ 16 + f := by
    unfold sec1 ns1
    omega
  rw [h, stOf]

/-! ## Commands that carry a Device Time
The bodies of the commands that carry a Device Time, where its NANOSECONDS are out of range: each refuses with BAD_PARAM over the state it was given (02 R46).
-/

section
variable {p : List Byte} {s : State}

theorem timeMeasure_of_not_dtOk (h : dtOk p 4 = false ∨ dtOk p 16 = false) : timeMeasure p s = refuse stBadParam s := by
  rcases h with h | h <;> simp [timeMeasure, h]

theorem timeSet_of_not_dtOk (h : dtOk p 0 = false) : timeSet p s = refuse stBadParam s := by
  simp [timeSet, h]

/-- The epoch is a whole second: its lower six bytes, NANOSECONDS among them, are checked to be zero (02 R81). -/
theorem timeEpochSet_of_not_dtOk (h : 10 ^ 9 ≤ uAt p 2 4) : timeEpochSet p s = refuse stBadParam s := by
  have hz : zeros p 0 6 = false := by
    refine Bool.eq_false_iff.mpr fun hz => ?_
    have h0 : uAt p 2 4 = 0 := uAt_eq_zero_of_zeros (o := 0) (k := 2) hz (by decide)
    omega
  simp [timeEpochSet, hz]

theorem timeCompareArm_of_not_dtOk (h : dtOk p 4 = false) : timeCompareArm p s = refuse stBadParam s := by
  simp [timeCompareArm, h]

theorem timeAlarmSet_of_not_dtOk (h : dtOk p 0 = false) : timeAlarmSet p s = refuse stBadParam s := by
  simp [timeAlarmSet, h]

/-- FIRST_BIT of the unit record that follows the kind (03 R126). -/
theorem gnssAssist_of_not_dtOk (iod : Nat) (hk : uAt p 0 1 = 2 ∨ uAt p 0 1 = 3) (h : dtOk (p.drop 1) 4 = false) :
    gnssAssist iod p s = refuse stBadParam s := by
  rcases hk with hk | hk <;> simp only [gnssAssist, hk, h, Bool.not_false, if_true]

theorem poseAtBody_of_not_dtOk (h : dtOk p 0 = false) : poseAtBody p s = refuse stBadParam s := by
  simp [poseAtBody, h]

theorem channelExposureSet_of_not_dtOk (h : dtOk p 4 = false) : channelExposureSet p s = refuse stBadParam s := by
  simp [channelExposureSet, h]

theorem axisMove_of_not_dtOk (c : Cmd) (h : dtOk p 8 = false) : axisMove c p s = refuse stBadParam s := by
  simp [axisMove, h]

theorem axisResume_of_not_dtOk (c : Cmd) (h : dtOk p 8 = false) : axisResume c p s = refuse stBadParam s := by
  simp [axisResume, h]

theorem netEthGateCommit_of_not_dtOk (h : dtOk p 4 = false) : netEthGateCommit p s = refuse stBadParam s := by
  simp [netEthGateCommit, h]

end

/-- Settles O13: each command's body refuses, and a refusal completes over the state it was given. -/
theorem deviceTimeNanoseconds : Obligations.DeviceTimeNanoseconds := by
  refine ⟨?measure, ?set, ?epoch, ?compare, ?alarm, ?assist, ?pose, ?exposure, ?move, ?resume, ?gate⟩
  case measure =>
    exact fun c s ha h => answers_command rfl ha (timeMeasure_of_not_dtOk (h.imp dtOk_eq_false dtOk_eq_false))
  case set => exact fun c s ha h => answers_command rfl ha (timeSet_of_not_dtOk (dtOk_eq_false h))
  case epoch => exact fun c s ha h => answers_command rfl ha (timeEpochSet_of_not_dtOk h)
  case compare => exact fun c s ha h => answers_command rfl ha (timeCompareArm_of_not_dtOk (dtOk_eq_false h))
  case alarm => exact fun c s ha h => answers_command rfl ha (timeAlarmSet_of_not_dtOk (dtOk_eq_false h))
  case assist =>
    intro c iod s ha hk h
    have hd : dtOk ((prmOf c).drop 1) 4 = false := dtOk_eq_false (by rwa [uAt_drop])
    exact answers_command rfl ha (gnssAssist_of_not_dtOk iod hk hd)
  case pose => exact fun c s ha h => answers_command rfl ha (poseAtBody_of_not_dtOk (dtOk_eq_false h))
  case exposure => exact fun c s ha h => answers_command rfl ha (channelExposureSet_of_not_dtOk (dtOk_eq_false h))
  case move => exact fun c s ha h => answers_commandC rfl ha (axisMove_of_not_dtOk c (dtOk_eq_false h))
  case resume => exact fun c s ha h => answers_commandC rfl ha (axisResume_of_not_dtOk c (dtOk_eq_false h))
  case gate => exact fun c s ha h => answers_command rfl ha (netEthGateCommit_of_not_dtOk (dtOk_eq_false h))

/-! ## Measurements of a domain
What a measurement leaves in its domain (02 R57): the tests and selections that follow it do not write the domains, so that the domain written is the one found.
-/

@[simp] theorem domOf_setDom_same (k : Nat) (d : Domain) (s : State) : domOf (setDom k d s).time k = d := by
  simp [domOf_setDom]

@[simp] theorem domOf_reselect (s : State) (k : Nat) : domOf (reselect s).time k = domOf s.time k := by
  simp [domOf]

@[simp] theorem domOf_deferStep (s : State) (k : Nat) : domOf (deferStep s).time k = domOf s.time k := by
  obtain ⟨pend, r, j, q, h⟩ := deferStep_frame s
  rw [h]
  rfl

@[simp] theorem domOf_tqTest (s : State) (k : Nat) : domOf (tqTest s).time k = domOf s.time k := by
  unfold tqTest
  rw [raiseIf_time]
  rfl

@[simp] theorem domOf_ppsDomainStep (j old new : Nat) (s : State) (k : Nat) : domOf (ppsDomainStep j old new s).time k = domOf s.time k := by
  unfold ppsDomainStep
  rw [raises_time]
  rfl

@[simp] theorem servo_st (theta : Int) (t : Nat) (d : Domain) : (servo theta t d).st = d.st := rfl
@[simp] theorem servo_rejects (theta : Int) (t : Nat) (d : Domain) : (servo theta t d).rejects = d.rejects := rfl

section
variable {k t : Nat} {theta : Int} {u : Option Nat} {s : State} (href : s.time.refLost = false) (hst : (domOf s.time k).st = .locked)
include href hst

/-- The first and the second rejection in a row only count. -/
theorem domOf_measure_rejected (hgate : 65536 * (domOf s.time k).gateNs < theta.natAbs) (hn : (domOf s.time k).rejects < 2) :
    domOf (Machine.measure k theta t u s).time k = { domOf s.time k with rejects := (domOf s.time k).rejects + 1 } := by
  have h3 : (domOf s.time k).rejects + 1 < 3 := by omega
  simp [Machine.measure, href, hst, hgate, h3]

/-- The third rejection in a row unlocks the domain, and leaves its servo as it was. -/
theorem domOf_measure_third_rejection (hgate : 65536 * (domOf s.time k).gateNs < theta.natAbs) (hn : 2 ≤ (domOf s.time k).rejects) :
    domOf (Machine.measure k theta t u s).time k =
      { unlockDom s.time (domOf s.time k) with st := .acquire, mayAlign := true, lastCyc := s.time.cyc } := by
  have h3 : ¬ (domOf s.time k).rejects + 1 < 3 := by omega
  simp [Machine.measure, href, hst, hgate, h3]

/-- A measurement within GATE ends the row of rejections, whether it aligns the phase or moves the servo. -/
theorem measure_accepted_rejects (hgate : theta.natAbs ≤ 65536 * (domOf s.time k).gateNs) :
    (domOf (Machine.measure k theta t u s).time k).rejects = 0 := by
  have hg : ¬ 65536 * (domOf s.time k).gateNs < theta.natAbs := by omega
  unfold Machine.measure
  simp only [href, hst, hg, decide_false, Bool.and_false, Bool.false_eq_true, if_false]
  split
  · -- the phase is aligned to the source in one step (02 R58)
    simp
  · -- the servo takes the measurement (02 R56), and the domain stays LOCKED
    simp

end

/-- Settles O17: the three outcomes of a measurement of a LOCKED domain, by its place in the row of rejections. -/
theorem rejectedMeasurements : Obligations.RejectedMeasurements := by
  refine ⟨?_, ?_, ?_⟩
  · rintro k t theta u s _ - rfl href hst hgate hn
    exact domOf_measure_rejected href hst hgate hn
  · rintro k t theta u s _ - rfl href hst hgate hn
    rw [domOf_measure_third_rejection href hst hgate hn]
    exact ⟨rfl, rfl, rfl⟩
  · rintro k t theta u s _ - rfl href hst hgate
    exact measure_accepted_rejects href hst hgate

end Sys2Proof.Proofs

namespace Sys2Proof.Proofs
open Sys2Proof Sys2Proof.Machine

/-! ## The layouts of GSTAT, GFAULT and GROLE
A register word as the number that a list of flags spells, the highest bit first as in the tables of chapter 14, with the fields below the flags of GSTAT, and the copies of a voted field
(14 R505, R511 to R513).
-/

theorem beq_eq_decide_eq {α : Type} [DecidableEq α] (x y : α) : (x == y) = decide (x = y) := rfl

theorem bit_eq_testBit (v k : Nat) : bit v k = v.testBit k := by
  rw [bit, Nat.testBit_eq_decide_div_mod_eq, beq_eq_decide_eq]

/-- The number that a list of flags spells, the highest bit first. -/
def flagWord (bs : List Bool) : Nat := (BitVec.ofBoolListBE bs).toNat

theorem flagWord_nil : flagWord [] = 0 := rfl

theorem bitIf_eq_mul (b : Bool) (k : Nat) : bitIf b k = 2 ^ k * b.toNat := by
  cases b
  · exact (Nat.mul_zero _).symm
  · exact (Nat.mul_one _).symm

theorem flagWord_cons (b : Bool) (bs : List Bool) : flagWord (b :: bs) = bitIf b bs.length + flagWord bs := by
  rw [bitIf_eq_mul, Nat.mul_comm, ← Nat.shiftLeft_eq]
  exact BitVec.toNat_cons'

theorem flagWord_lt (bs : List Bool) : flagWord bs < 2 ^ bs.length :=
  (BitVec.ofBoolListBE bs).isLt

/-- A bit of a word is the flag at its place in the list that spells the word. -/
theorem bit_flagWord (bs : List Bool) (k : Nat) : bit (flagWord bs) k = (decide (k < bs.length) && bs.getD (bs.length - 1 - k) false) := by
  rw [bit_eq_testBit]
  exact BitVec.getLsbD_ofBoolListBE

/-- The bits from `n` on are those of the number that stands above `n` bits. -/
theorem bit_add_of_lt {n r : Nat} (x k : Nat) (h : r < 2 ^ n) : bit (2 ^ n * x + r) (n + k) = bit x k := by
  rw [bit, bit, Nat.pow_add, ← Nat.div_div_eq_div_mul, Nat.mul_add_div (Nat.two_pow_pos n), Nat.div_eq_of_lt h, Nat.add_zero]

/-- Where two of the three copies agree, the vote gives their value, whatever the third holds (14 R505). -/
theorem voted_value_of_two_agree {v : Voted} {x y : Nat} (h : (v.c0, v.c1, v.c2) ∈ [(x, x, x), (y, x, x), (x, y, x), (x, x, y)]) : v.value = x := by
  simp only [List.mem_cons, List.not_mem_nil, or_false, Prod.mk.injEq] at h
  unfold Voted.value
  rcases h with ⟨h0, h1, h2⟩ | ⟨h0, h1, h2⟩ | ⟨h0, h1, h2⟩ | ⟨h0, h1, h2⟩
  · simp [h0, h1]
  · by_cases hxy : y = x <;> simp [h0, h1, h2, hxy]
  · simp [h0, h2]
  · simp [h0, h1]

/-! ### What a read of the three registers returns -/

theorem barRead_gstat {s : State} (h : s.harbour.ready = true) : barRead 0x0100 s = gstat s := by
  simp [barRead, regRead, h]

theorem barRead_gstat_not_ready {s : State} (h : s.harbour.ready = false) : barRead 0x0100 s = 0 := by
  simp [barRead, regReset, h]

theorem barRead_gfault {s : State} (h : s.harbour.ready = true) : barRead 0x0104 s = gfault s := by
  simp [barRead, regRead, h]

theorem barRead_gfault_not_ready {s : State} (h : s.harbour.ready = false) : barRead 0x0104 s = 0 := by
  simp [barRead, regReset, h]

/-- GROLE reads the same before READY and after it: its reset value is the journal's (14 R510, R513). -/
theorem barRead_grole (s : State) : barRead 0x0108 s = 256 * roleSetting s + roleOf s % 4 := by
  cases h : s.harbour.ready <;> simp [barRead, regRead, regReset, h]

/-! ### GFAULT -/

/-- The causes of GFAULT, from bit 9 down to bit 0 (14 R512). -/
def gfaultCauses (s : State) : List Bool :=
  [s.axes.any (fun a => decide (a.st = .fault)), s.knani.loops.any (fun l => decide (l.st = 3)), dramOut s,
    s.journal.refusing || decide (s.journal.erased.length ≤ 2), s.power.pmbusFault, s.votes.failed, s.power.tamperSafe,
    decide (s.fleet.st = .lost), s.time.refLost, cellLateRun s]

theorem gfault_eq_flagWord (s : State) : gfault s = flagWord (gfaultCauses s) := by
  simp only [gfaultCauses, flagWord_cons, flagWord_nil, List.length_cons, List.length_nil, Nat.zero_add, Nat.reduceAdd]
  simp only [gfault, axisFault, loopBroken, fleetLost, beq_eq_decide_eq]
  omega

theorem gfault_lt (s : State) : gfault s < 2 ^ 10 := by
  rw [gfault_eq_flagWord]
  exact flagWord_lt (gfaultCauses s)

theorem bit_gfault (s : State) (k : Nat) : bit (gfault s) k = (decide (k < 10) && (gfaultCauses s).getD (9 - k) false) := by
  rw [gfault_eq_flagWord]
  exact bit_flagWord (gfaultCauses s) k

/-! ### GSTAT -/

/-- The flags of GSTAT, from bit 23 down to bit 16 (14 R511). -/
def gstatFlags (s : State) : List Bool :=
  [decide (s.harbour.resetReq ≠ 0), decide (s.update.st = .preparing ∨ s.update.st = .handover ∨ s.update.st = .trial),
    decide ((followed s).st = .holdover ∨ (followed s).st = .freerun), decide (roleOf s = 0) && integrityOk s,
    decide (2 ≤ s.raster.job), stopInForce s, s.harbour.quadSpi, s.harbour.ready]

/-- The code of POWER in GSTAT (14 R511). -/
def powerCode : Power → Nat
  | .off => 0
  | .slack => 1
  | .neap => 2
  | .spring => 3
  | .safe => 4

theorem powerCode_lt (p : Power) : powerCode p < 8 := by
  cases p <;> decide

/-- GSTAT as its flags over LIFE_CYCLE in bits 8 to 10 and POWER in bits 0 to 2. -/
theorem gstat_eq (s : State) : gstat s = 2 ^ 16 * flagWord (gstatFlags s) + (2 ^ 8 * (lifeCycle s % 8) + powerCode s.power.st) := by
  unfold gstat
  change _ + powerCode s.power.st = _
  simp only [gstatFlags, flagWord_cons, flagWord_nil, List.length_cons, List.length_nil, Nat.zero_add, Nat.reduceAdd]
  simp only [jobBusy, bitIf_eq_mul, bne, beq_eq_decide_eq, ne_eq, decide_not, Bool.decide_or, Bool.or_assoc]
  omega

theorem gstat_fields_lt (s : State) : 2 ^ 8 * (lifeCycle s % 8) + powerCode s.power.st < 2 ^ 16 := by
  have h := powerCode_lt s.power.st
  omega

theorem bit_gstat (s : State) (k : Nat) : bit (gstat s) (16 + k) = (decide (k < 8) && (gstatFlags s).getD (7 - k) false) := by
  rw [gstat_eq, bit_add_of_lt _ _ (gstat_fields_lt s)]
  exact bit_flagWord (gstatFlags s) k

theorem gstat_lt (s : State) : gstat s < 2 ^ 24 := by
  have hf : flagWord (gstatFlags s) < 2 ^ 8 := flagWord_lt (gstatFlags s)
  have hl := gstat_fields_lt s
  rw [gstat_eq]
  omega

/-- LIFE_CYCLE and POWER of GSTAT: the number below its flags. -/
theorem gstat_mod (s : State) : gstat s % 2 ^ 16 = 2 ^ 8 * (lifeCycle s % 8) + powerCode s.power.st := by
  rw [gstat_eq, Nat.mul_add_mod, Nat.mod_eq_of_lt (gstat_fields_lt s)]

/-- The fields of GSTAT below its flags, and the reserved bits between them. -/
theorem gstat_fields (s : State) :
    gstat s / 2 ^ 11 % 2 ^ 5 = 0 ∧ gstat s / 2 ^ 8 % 8 = lifeCycle s % 8 ∧ gstat s / 2 ^ 3 % 2 ^ 5 = 0 ∧ gstat s % 8 = powerCode s.power.st := by
  have hv := gstat_mod s
  have hp := powerCode_lt s.power.st
  omega

/-! ### GROLE -/

theorem roleSetting_le (s : State) : roleSetting s ≤ 3 := by
  unfold roleSetting
  split <;> omega

theorem roleSetting_of_none {s : State} (h : setting s (settingKey 1 0) = none) : roleSetting s = 3 := by
  simp [roleSetting, h]

theorem roleSetting_of_some {s : State} {r : JRec} (h : setting s (settingKey 1 0) = some r) : roleSetting s = uAt r.payload 0 1 % 4 := by
  simp [roleSetting, h]

/-- ROLE in bits 0 and 1, reserved bits, NEXT in bits 8 and 9 (14 R513). -/
theorem grole_fields (s : State) :
    barRead 0x0108 s < 2 ^ 10 ∧ barRead 0x0108 s / 4 % 2 ^ 6 = 0 ∧ barRead 0x0108 s % 4 = roleOf s % 4 ∧ barRead 0x0108 s / 2 ^ 8 = roleSetting s := by
  have hn := roleSetting_le s
  rw [barRead_grole]
  omega

/-! ### The obligation -/

/-- Settles O7: GSTAT and GFAULT are their flags over their fields, GROLE is ROLE below NEXT, and the vote outweighs one copy that differs. -/
theorem globalRegisterLayouts : Obligations.GlobalRegisterLayouts := by
  refine ⟨⟨fun s h => barRead_gstat_not_ready h, fun s h => ?_, fun s x y h hx hv => ?_⟩,
    ⟨fun s h => barRead_gfault_not_ready h, fun s h => ?_⟩, fun s => ?_, fun s x y hx hv => ?_⟩
  · obtain ⟨h11, h8, h3, hpow⟩ := gstat_fields s
    rw [barRead_gstat h]
    exact ⟨gstat_lt s, (bit_gstat s 0).trans h, bit_gstat s 7, bit_gstat s 6, bit_gstat s 5, bit_gstat s 4, bit_gstat s 3, bit_gstat s 2,
      bit_gstat s 1, h11, h8, h3, fun hn => by rw [hpow, hn]; rfl, fun hs => by rw [hpow, hs]; rfl, fun hs => by rw [hpow, hs]; rfl⟩
  · obtain ⟨-, h8, -, -⟩ := gstat_fields s
    rw [barRead_gstat h, h8, lifeCycle, voted_value_of_two_agree hv, Nat.mod_eq_of_lt (by omega)]
  · rw [barRead_gfault h]
    exact ⟨gfault_lt s, bit_gfault s 9, bit_gfault s 8, bit_gfault s 7, bit_gfault s 6, bit_gfault s 5, bit_gfault s 4, bit_gfault s 3,
      bit_gfault s 2, bit_gfault s 1, bit_gfault s 0⟩
  · obtain ⟨hlt, hres, hrole, hnext⟩ := grole_fields s
    refine ⟨hlt, hres, fun h => ?_, fun h => ?_, fun r h h1 => ?_⟩
    · rw [hrole, Nat.mod_eq_of_lt (by omega)]
    · rw [hnext, roleSetting_of_none h]
    · rw [hnext, roleSetting_of_some h, Nat.mod_eq_of_lt (by omega)]
  · obtain ⟨-, -, hrole, -⟩ := grole_fields s
    rw [hrole, roleOf, voted_value_of_two_agree hv, Nat.mod_eq_of_lt (by omega)]

end Sys2Proof.Proofs

namespace Sys2Proof.Proofs
open Sys2Proof Sys2Proof.Machine Sys2Proof.Safety

/-! ## What SAFE after a tamper alarm serves

Every mailbox command of the opcode table is one call of `commandC`, so what a failed check of 14 R653 does is said once for all of them (15 R560). -/

/-! ### The commands of the opcode table -/

/-- What a row does after its command changes nothing where no restart and no entry to SLACK is ordered. -/
def QuietWithoutOrder (finish : State → State) : Prop :=
  ∀ s, s.power.restartNow = none → s.power.entering ≠ some .slack → finish s = s

theorem obeyRestart_of_none {s : State} (h : s.power.restartNow = none) : obeyRestart s = s := by
  simp [obeyRestart, h]

theorem quietWithoutOrder_id : QuietWithoutOrder id := fun _ _ _ => rfl

theorem quietWithoutOrder_obeyRestart : QuietWithoutOrder obeyRestart := fun _ h _ => obeyRestart_of_none h

theorem quietWithoutOrder_slackNow : QuietWithoutOrder slackNow := fun _ _ h => by
  simp [slackNow, h]

/-- Four commands act on an order to restart or to enter SLACK once they have completed; the others end with their completion. -/
theorem exec_of_commandSpec {i : Instr} {k : CmdSpec} (hk : commandSpec i = some k) (s : State) :
    ∃ body finish, QuietWithoutOrder finish ∧ exec i s = done (finish (commandC k.opcode k.least k.most k.role body k.cmd s)) := by
  cases i with
  | secLifecycle c => cases hk; exact ⟨_, _, quietWithoutOrder_obeyRestart, rfl⟩
  | secUnlock c => cases hk; exact ⟨_, _, quietWithoutOrder_obeyRestart, rfl⟩
  | secUnlockAck c => cases hk; exact ⟨_, _, quietWithoutOrder_obeyRestart, rfl⟩
  | powerSetState c => cases hk; exact ⟨_, _, quietWithoutOrder_slackNow, rfl⟩
  | _ => cases hk <;> exact ⟨_, _, quietWithoutOrder_id, rfl⟩

/-- A command that fails a check completes with that check's status and does nothing else. -/
theorem answers_of_checkCmd {i : Instr} {k : CmdSpec} {s : State} {st : Nat} (hk : commandSpec i = some k) (hready : s.harbour.ready = true)
    (hfence : fenceWaits k.cmd s = false) (hrestart : s.power.restartNow = none) (hslack : s.power.entering ≠ some .slack)
    (hst : checkCmd k.opcode k.least k.most k.role k.cmd s = some st) : answers i k.cmd k.opcode st [] s s := by
  obtain ⟨body, finish, hquiet, hexec⟩ := exec_of_commandSpec hk s
  have hcmd : commandC k.opcode k.least k.most k.role body k.cmd s = complete k.cmd.mbx k.cmd.slot k.opcode k.cmd.tag.toNat st [] s := by
    simp [commandC, hready, hfence, hst]
  rw [answers, hexec, hcmd, hquiet _ (by simpa using hrestart) (by simpa using hslack), done]

/-! ### The checks of R653 -/

/-- The checks of 14 R653 after those of LENGTH, the reserved bits and the world. -/
def lateChecks (op : Nat) (role : Option Nat) (c : Cmd) (s : State) : Option Nat :=
  if s.power.tamperSafe && !servedTamper op then some stTamperLocked
  else if s.power.fatal.isSome && !servedFatal op then some stBadState
  else if role.any (fun r => roleOf s != r) then some stBadState
  else if reservedSet op (prmOf c) then some stBadParam
  else none

section
variable {k : CmdSpec} {s : State} (hl : ¬ lengthFails k s) (hr : ¬ reservedFails k) (hw : ¬ worldFails k s)
include hl hr hw

theorem checkCmd_eq_lateChecks : checkCmd k.opcode k.least k.most k.role k.cmd s = lateChecks k.opcode k.role k.cmd s := by
  simp only [lengthFails, not_or] at hl
  simp only [reservedFails, not_or, ne_eq, Decidable.not_not] at hr
  simp only [worldFails, not_or, not_and, Bool.not_eq_true, Bool.not_eq_false] at hw
  obtain ⟨harea, hleast, hmost, hslots⟩ := hl
  obtain ⟨hflags, hbyte⟩ := hr
  have hworld : ((needsWorldS k.opcode && !worldS s k.cmd.mbx) || (needsWorldN k.opcode && worldS s k.cmd.mbx)) = false := by
    simpa only [Bool.or_eq_false_iff, Bool.and_eq_false_imp, Bool.not_eq_false'] using hw
  unfold checkCmd lateChecks
  cases hheld : (heldIx s k.cmd.mbx k.cmd.slot).bind (fun ix => (mbxOf s k.cmd.mbx).held[ix]?) with
  | none =>
    have hfit : ¬ (mbxOf s k.cmd.mbx).slots < k.cmd.slot + 1 + extraOf k.cmd := by simpa only [hheld] using hslots
    simp only [harea, hleast, hmost, hfit, hflags, hbyte, hworld, decide_false, Bool.or_self, bne_self_eq_false, Bool.false_eq_true, if_false]
    cases k.role <;> rfl
  | some h =>
    have hfit : h.badLen = false := by simpa only [hheld, Bool.not_eq_true] using hslots
    simp only [harea, hleast, hmost, hfit, hflags, hbyte, hworld, decide_false, Bool.or_self, bne_self_eq_false, Bool.false_eq_true, if_false]
    cases k.role <;> rfl

theorem checkCmd_eq_tamperLocked (ht : s.power.tamperSafe = true) (hs : servedTamper k.opcode = false) :
    checkCmd k.opcode k.least k.most k.role k.cmd s = some stTamperLocked := by
  rw [checkCmd_eq_lateChecks hl hr hw]
  simp [lateChecks, ht, hs]

end

theorem servedTamper_iff (op : Nat) :
    servedTamper op = true ↔ op ∈ [0x0101, 0x0E01, 0x0E14, 0x0E11, 0x0E12, 0x0E13, 0x0E10, 0x1101, 0x1104] :=
  List.contains_iff_mem

/-- No command served after a tamper alarm has a reserved byte in its parameters that check 7 sees. -/
theorem reservedSet_of_servedTamper {op : Nat} (h : servedTamper op = true) (p : List Byte) : reservedSet op p = false := by
  have hruns : ∀ o ∈ [0x0101, 0x0E01, 0x0E14, 0x0E11, 0x0E12, 0x0E13, 0x0E10, 0x1101, 0x1104], reservedRuns o = [] := by decide
  simp [reservedSet, hruns op ((servedTamper_iff op).mp h)]

/-- Every command served after a tamper alarm serves both roles. -/
theorem role_eq_none_of_servedTamper {i : Instr} {k : CmdSpec} (hk : commandSpec i = some k) (hs : servedTamper k.opcode = true) : k.role = none := by
  have h : (k.role.isNone || !servedTamper k.opcode) = true := by cases i <;> cases hk <;> rfl
  simpa [hs] using h

/-! ### The obligation -/

theorem secLifecycle_eq_tamperLocked {p : List Byte} {s : State} (ht : s.power.tamperSafe = true) (hp : uAt p 0 1 ≠ 4) :
    secLifecycle p s = refuse stTamperLocked s := by
  simp [secLifecycle, ht, hp]

/-- Settles O12: check 5 of R653 lets through the opcodes of R560, which no later check stops, and SEC_LIFECYCLE's body refuses every target but SCRAP. -/
theorem tamperSafeServes : Obligations.TamperSafeServes := by
  refine ⟨fun i k s hk ht hop hready hfence hrestart hslack hl hr hw => ?_, fun i k s hk _ hop hfatal hl hr hw => ?_, fun c s ht hrestart hadm hp => ?_⟩
  · have hs : servedTamper k.opcode = false := Bool.eq_false_iff.mpr fun h => hop ((servedTamper_iff _).mp h)
    exact answers_of_checkCmd hk hready hfence hrestart hslack (checkCmd_eq_tamperLocked hl hr hw ht hs)
  · have hs : servedTamper k.opcode = true := (servedTamper_iff _).mpr hop
    rw [checkCmd_eq_lateChecks hl hr hw]
    simp [lateChecks, hs, hfatal, role_eq_none_of_servedTamper hk hs, reservedSet_of_servedTamper hs]
  · obtain ⟨hready, hfence, hcheck⟩ := hadm
    have hcmd : command 0x0E10 (lifecycleMin c) 0 none secLifecycle c s = complete c.mbx c.slot 0x0E10 c.tag.toNat stTamperLocked [] s := by
      simp [command, commandC, hready, hfence, hcheck, secLifecycle_eq_tamperLocked ht hp, refuse]
    have hnone : (complete c.mbx c.slot 0x0E10 c.tag.toNat stTamperLocked [] s).power.restartNow = none := by simpa using hrestart
    change done (obeyRestart (command 0x0E10 (lifecycleMin c) 0 none secLifecycle c s)) = _
    rw [hcmd, obeyRestart_of_none hnone, done]

end Sys2Proof.Proofs

namespace Sys2Proof.Proofs
open Sys2Proof Sys2Proof.Machine Sys2Proof.Safety

/-! ## TAMPER_EPOCH

One step of start-up burns a bit of TAMPER_EPOCH, and every other operation it is made of leaves the field as it was. An alarm that finds every bit burnt
orders the change to SCRAP, whose restart keeps OTP (15 R554, R559, R561). -/

/-! ### OTP over the operations that start-up uses -/

/-- A fold whose every step leaves OTP as it was does so too. -/
theorem foldl_otp {α : Type} {f : State → α → State} (hf : ∀ s a, (f s a).otp = s.otp) (l : List α) (s : State) : (l.foldl f s).otp = s.otp :=
  l.foldlRecOn (motive := fun t => t.otp = s.otp) f rfl fun t ht a _ => (hf t a).trans ht

@[simp] theorem setEn_otp (n : Nat) (b : Bool) (s : State) : (setEn n b s).otp = s.otp := by
  unfold setEn; split <;> rfl

@[simp] theorem abortMoves_otp (n : Nat) (s : State) : (abortMoves n s).otp = s.otp :=
  foldl_otp (fun _ _ => complete_otp ..) _ _

@[simp] theorem disableAxis_otp (n : Nat) (s : State) : (disableAxis n s).otp = s.otp := by
  unfold disableAxis; dsimp only; split <;> simp

@[simp] theorem disableAxes_otp (s : State) : (disableAxes s).otp = s.otp := foldl_otp (fun _ _ => disableAxis_otp ..) _ _

@[simp] theorem answerStart_otp (n st : Nat) (s : State) : (answerStart n st s).otp = s.otp := by
  unfold answerStart; split <;> simp

@[simp] theorem finishFor_otp (cmd : Option (Nat × Nat × Nat × Nat)) (status : Nat) (r : List Byte) (s : State) : (finishFor cmd status r s).otp = s.otp := by
  unfold finishFor; split <;> simp

@[simp] theorem dropManage_otp (n : Nat) (s : State) : (dropManage n s).otp = s.otp :=
  foldl_otp (fun _ _ => finishFor_otp ..) _ _

@[simp] theorem loopOff_otp (n cause : Nat) (s : State) : (loopOff n cause s).otp = s.otp := by
  simp [loopOff]

@[simp] theorem loopsHeld_otp (s : State) : (loopsHeld s).otp = s.otp := foldl_otp (fun _ _ => loopOff_otp ..) _ _

@[simp] theorem driveHeld_otp (s : State) : (driveHeld s).otp = s.otp := by simp [driveHeld]

@[simp] theorem setPower_otp (p : Power) (cause : Nat) (s : State) : (setPower p cause s).otp = s.otp := by
  unfold setPower; split <;> simp

@[simp] theorem meterStop_otp (s : State) : (meterStop s).otp = s.otp := rfl

@[simp] theorem enterSafe_otp (cause : Nat) (s : State) : (enterSafe cause s).otp = s.otp := by
  simp [enterSafe, domainOff]

@[simp] theorem enterTamperSafe_otp (s : State) : (enterTamperSafe s).otp = s.otp := by
  simp [enterTamperSafe, wipeVault]

@[simp] theorem standstill_otp (n t : Nat) (s : State) : (standstill n t s).otp = s.otp := by
  unfold standstill; dsimp only; split <;> simp

@[simp] theorem haltAxis_otp (n cause decel : Nat) (s : State) : (haltAxis n cause decel s).otp = s.otp := by
  unfold haltAxis; dsimp only; repeat' split
  all_goals simp

@[simp] theorem haltAxes_otp (cause : Nat) (s : State) : (haltAxes cause s).otp = s.otp := foldl_otp (fun _ _ => haltAxis_otp ..) _ _

@[simp] theorem fatal_otp (cause param : Nat) (s : State) : (fatal cause param s).otp = s.otp := by
  unfold fatal fatalSafe; split
  · rfl
  · dsimp only; split <;> simp

@[simp] theorem logAlarm_otp (n : Nat) (s : State) : (logAlarm n s).otp = s.otp := by
  unfold logAlarm; rfl

@[simp] theorem restart_otp (cause : Nat) (s : State) : (restart cause s).otp = s.otp := rfl

@[simp] theorem obeyRestart_otp (s : State) : (obeyRestart s).otp = s.otp := by
  unfold obeyRestart; split <;> rfl

@[simp] theorem lcTransition_otp_tamperEpoch (target : Nat) (s : State) : (lcTransition target s).otp.tamperEpoch = s.otp.tamperEpoch := by
  simp [lcTransition]

@[simp] theorem keysLost_otp (cause : Nat) (ns : List Nat) (s : State) : (keysLost cause ns s).otp = s.otp := raises_otp _ _

@[simp] theorem journalDelete_otp (type key : Nat) (s : State) : (journalDelete type key s).otp = s.otp := journalLog_otp _ _

@[simp] theorem clearRegion_otp (row : Nat) (s : State) : (clearRegion row s).otp = s.otp := by
  unfold clearRegion; split <;> rfl

@[simp] theorem updLog_otp (type bank : Nat) (body : List Byte) (s : State) : (updLog type bank body s).otp = s.otp := journalPut_otp _ _

@[simp] theorem burnCounter_otp_tamperEpoch (burnOk : Bool) (sv : Nat) (s : State) : (burnCounter burnOk sv s).otp.tamperEpoch = s.otp.tamperEpoch := by
  unfold burnCounter; repeat' split
  all_goals simp

@[simp] theorem writeGap_otp (last restart span flags : Nat) (bounds : List (Nat × Option Nat)) (s : State) :
    (writeGap last restart span flags bounds s).otp = s.otp := by
  simp [writeGap]

@[simp] theorem meterRestore_otp (intact : Bool) (tLoss : Option Nat) (rtcLost : Bool) (s : State) : (meterRestore intact tLoss rtcLost s).otp = s.otp := by
  unfold meterRestore
  exact writeGap_otp ..

@[simp] theorem meterReturn_otp (s : State) : (meterReturn s).otp = s.otp := by
  unfold meterReturn; split <;> simp

@[simp] theorem restoreFloors_otp (s : State) : (restoreFloors s).otp = s.otp :=
  foldl_otp (fun t n => by repeat' split
                           all_goals simp) _ _

@[simp] theorem loadVxGroup_otp (s : State) : (loadVxGroup s).otp = s.otp := by
  unfold loadVxGroup; split <;> rfl

@[simp] theorem loadBaseRef_otp (s : State) : (loadBaseRef s).otp = s.otp := by
  unfold loadBaseRef; repeat' split
  all_goals rfl

@[simp] theorem pushId_otp (b : Nat) (t : IdTrans) (s : State) : (pushId b t s).otp = s.otp := rfl

@[simp] theorem readIdBuses_otp (s : State) : (readIdBuses s).otp = s.otp := foldl_otp (fun _ _ => pushId_otp ..) _ _

@[simp] theorem vddSet_otp (mv : Nat) (s : State) : (vddSet mv s).otp = s.otp := rfl

@[simp] theorem pmbusOut_otp (cmd : Nat) (data : List Byte) (s : State) : (pmbusOut cmd data s).otp = s.otp := rfl

/-! ### OTP over the steps of start-up -/

@[simp] theorem bootRef_otp (b : Boot) (s : State) : (bootRef b s).otp = s.otp := by
  unfold bootRef; dsimp only; split <;> simp

@[simp] theorem lcWipe_otp_tamperEpoch (new old : Nat) (s : State) : (lcWipe new old s).otp.tamperEpoch = s.otp.tamperEpoch := by
  simp [lcWipe]

@[simp] theorem bootLife_otp_tamperEpoch (s : State) : (bootLife s).2.otp.tamperEpoch = s.otp.tamperEpoch := by
  unfold bootLife; dsimp only; repeat' split
  all_goals simp

@[simp] theorem bootTamper_otp_tamperEpoch (b : Boot) (s : State) : (bootTamper b s).otp.tamperEpoch = s.otp.tamperEpoch := by
  unfold bootTamper; dsimp only; repeat' split
  all_goals simp

@[simp] theorem bootPuf_otp (b : Boot) (s : State) : (bootPuf b s).otp = s.otp := by
  unfold bootPuf; repeat' split
  all_goals simp

@[simp] theorem bootRegions_otp (b : Boot) (s : State) : (bootRegions b s).otp = s.otp :=
  foldl_otp (fun t k => by dsimp only; repeat' split
                           all_goals simp) _ _

@[simp] theorem bootRing_otp (b : Boot) (s : State) : (bootRing b s).otp = s.otp := by
  unfold bootRing; dsimp only; repeat' split
  all_goals simp

@[simp] theorem bootJournal_otp (b : Boot) (s : State) : (bootJournal b s).otp = s.otp := by
  simp [bootJournal]

/-- The first start after an alarm burns one bit of TAMPER_EPOCH where one is left, and nothing else of OTP (15 R559, R561). -/
theorem bootAlarm_otp (s : State) :
    (bootAlarm s).otp = s.otp ∨ s.otp.tamperEpoch ≠ 64 ∧ (bootAlarm s).otp = { s.otp with tamperEpoch := s.otp.tamperEpoch + 1 } := by
  unfold bootAlarm
  lift_lets
  extract_lets x secx s1 sec1 s2 lost otp2
  have hx : x.otp = s.otp := foldl_otp (fun t k => by split <;> simp) _ _
  have h1 : s1.otp = s.otp := by
    unfold s1; split
    · rfl
    · exact hx
  split
  · exact .inl h1
  split
  · exact .inl h1
  · next hburn =>
    have hleft : s2.otp.tamperEpoch ≠ 64 := fun h => hburn (by simp [h])
    have h2 : s2.otp = s.otp := h1
    refine .inr ⟨h2 ▸ hleft, ?_⟩
    rw [keysLost_otp]
    exact congrArg (fun o : OtpSt => { o with tamperEpoch := o.tamperEpoch + 1 }) h2

theorem bootAlarm_otp_tamperEpoch_le {s : State} (h : s.otp.tamperEpoch ≤ 64) : (bootAlarm s).otp.tamperEpoch ≤ 64 := by
  obtain hkept | ⟨hleft, hburnt⟩ := bootAlarm_otp s
  · rwa [hkept]
  · rw [hburnt]
    change s.otp.tamperEpoch + 1 ≤ 64
    omega

@[simp] theorem chooseBank_otp_tamperEpoch (b : Boot) (s : State) : (chooseBank b s).2.2.otp.tamperEpoch = s.otp.tamperEpoch := by
  unfold chooseBank chooseBank.confirmedBurn; dsimp only; repeat' split
  all_goals simp

@[simp] theorem bootBank_otp_tamperEpoch (b : Boot) (s : State) : (bootBank b s).otp.tamperEpoch = s.otp.tamperEpoch := by
  unfold bootBank; dsimp only; repeat' split
  all_goals simp [runBank]

@[simp] theorem bootVerify_otp (s : State) : (bootVerify s).otp = s.otp := by
  unfold bootVerify; repeat' split
  all_goals rfl

@[simp] theorem bootFixed_otp (s : State) : (bootFixed s).otp = s.otp := rfl

@[simp] theorem bootBlobs_otp (s : State) : (bootBlobs s).otp = s.otp :=
  foldl_otp (fun t n => by dsimp only; repeat' split
                           all_goals simp) _ _

@[simp] theorem bootVolatile_otp (s : State) : (bootVolatile s).otp = s.otp := by
  simp [bootVolatile]

@[simp] theorem bootRole_otp (s : State) : (bootRole s).otp = s.otp := rfl

@[simp] theorem bootTime_otp (b : Boot) (s : State) : (bootTime b s).otp = s.otp :=
  foldl_otp (fun _ _ => raiseList_otp ..) _ _

@[simp] theorem bootMeter_otp (totalsLost : Bool) (s : State) : (bootMeter totalsLost s).otp = s.otp := by
  unfold bootMeter; dsimp only; repeat' split
  all_goals simp

@[simp] theorem bootStep9_otp (b : Boot) (totalsLost : Bool) (s : State) : (bootStep9 b totalsLost s).otp = s.otp := by
  simp [bootStep9]

@[simp] theorem bootLocked_otp (s : State) : (bootLocked s).otp = s.otp := by
  unfold bootLocked; split <;> simp

@[simp] theorem bootFinish_otp (b : Boot) (lost : Nat) (s : State) : (bootFinish b lost s).otp = s.otp := by
  unfold bootFinish; dsimp only [draw]; split <;> simp

/-- Start-up ends before the step that burns, or goes on from it (17 R615). -/
theorem doStartUp_otp_tamperEpoch_le {b : Boot} {s : State} (h : s.otp.tamperEpoch ≤ 64) : (doStartUp b s).otp.tamperEpoch ≤ 64 := by
  have hburn : (bootAlarm (bootJournal b (bootRing b (bootRegions b (bootPuf b (bootTamper b (bootLife (bootRef b s)).2)))))).otp.tamperEpoch ≤ 64 :=
    bootAlarm_otp_tamperEpoch_le (by simpa using h)
  unfold doStartUp
  dsimp only
  split
  case isTrue => exact h
  split
  case isTrue => simpa using h
  split
  case isTrue => simpa using h
  split
  case isTrue => simpa using h
  split <;> simpa using hburn

/-! ### An alarm that finds every bit burnt -/

theorem alarmActs_iff (s : State) : alarmActs s = true ↔ 1 ≤ lifeCycle s ∧ lifeCycle s ≤ 3 := by
  simp [alarmActs]

theorem lcTransition_otp_lifeCycle (target : Nat) (s : State) : (lcTransition target s).otp.lifeCycle = target := by
  simp [lcTransition]

theorem obeyRestart_lcTransition (target : Nat) (s : State) : obeyRestart (lcTransition target s) = restart 5 (lcTransition target s) := rfl

/-- What the restart after the change to SCRAP leaves (15 R554, 17 R615). -/
theorem obeyRestart_lcTransition_scrap (s : State) :
    (obeyRestart (lcTransition 4 s)).otp.lifeCycle = 4 ∧ (obeyRestart (lcTransition 4 s)).otp.tamperEpoch = s.otp.tamperEpoch ∧
    (obeyRestart (lcTransition 4 s)).power.cause = 5 ∧ (obeyRestart (lcTransition 4 s)).sec.keys = [] := by
  rw [obeyRestart_lcTransition]
  exact ⟨lcTransition_otp_lifeCycle 4 s, lcTransition_otp_tamperEpoch 4 s, rfl, rfl⟩

/-- As the alarm falls, SCRAP is ordered and obeyed over a state with the OTP that it found. -/
theorem tamperAlarm_of_exhausted {n mv : Nat} {s : State} (hlive : sensorLive n s = true) (hquiet : coreQuiet n mv s = false) (hacts : alarmActs s = true)
    (hepoch : s.otp.tamperEpoch = 64) : ∃ u, u.otp = s.otp ∧ tamperAlarm n mv s = obeyRestart (lcTransition 4 u) := by
  unfold tamperAlarm
  simp only [hlive, hquiet, hacts, hepoch]
  exact ⟨_, by simp [wipeVault], rfl⟩

/-- As start-up reads the alarm, SCRAP is ordered and obeyed once the alarm is logged. -/
theorem bootTamper_of_exhausted {b : Boot} {n : Nat} {s : State} (hsensor : b.tamper = some n) (hacts : alarmActs s = true)
    (hepoch : s.otp.tamperEpoch = 64) : bootTamper b s = obeyRestart (lcTransition 4 (logAlarm n s)) := by
  simp [bootTamper, hsensor, hacts, hepoch]

/-- The life-cycle of OTP put under the vote (15 R553). -/
def lifeCycleRead (s : State) : State := { s with votes := { s.votes with lifeCycle := s.votes.lifeCycle.write s.otp.lifeCycle } }

theorem lifeCycle_lifeCycleRead (s : State) : lifeCycle (lifeCycleRead s) = s.otp.lifeCycle := by
  simp [lifeCycleRead, lifeCycle, Voted.value, Voted.write]

theorem bootLife_of_lcPending_none {s : State} (h : lcPending s = none) : bootLife s = (false, lifeCycleRead s) := by
  have hread : lcPending (lifeCycleRead s) = none := h
  unfold lifeCycleRead at hread ⊢
  simp [bootLife, hread]

theorem lcPending_bootRef {b : Boot} (href : b.refIn = true) (s : State) : lcPending (bootRef b s) = lcPending s := by
  simp [lcPending, bootRef, href]

theorem doStartUp_of_exhausted {b : Boot} {n : Nat} {s : State} (hoff : s.power.st = .off) (hrails : s.power.rails = .released) (hpend : lcPending s = none)
    (href : b.refIn = true) (hsensor : b.tamper = some n) (h1 : 1 ≤ s.otp.lifeCycle) (h3 : s.otp.lifeCycle ≤ 3) (hepoch : s.otp.tamperEpoch = 64) :
    ∃ u, u.otp = s.otp ∧ doStartUp b s = obeyRestart (lcTransition 4 u) := by
  have hlife : bootLife (bootRef b s) = (false, lifeCycleRead (bootRef b s)) := bootLife_of_lcPending_none ((lcPending_bootRef href s).trans hpend)
  have hotp : (lifeCycleRead (bootRef b s)).otp = s.otp := bootRef_otp b s
  have hacts : alarmActs (lifeCycleRead (bootRef b s)) = true := by
    rw [alarmActs_iff, lifeCycle_lifeCycleRead, bootRef_otp]
    exact ⟨h1, h3⟩
  have htamper := bootTamper_of_exhausted hsensor hacts (by rw [hotp, hepoch])
  have hmoved : ¬ 4 = s.otp.lifeCycle := by omega
  refine ⟨logAlarm n (lifeCycleRead (bootRef b s)), (logAlarm_otp ..).trans hotp, ?_⟩
  simp [doStartUp, hoff, hrails, hlife, htamper, hotp, lcTransition_otp_lifeCycle, hmoved]

/-! ### The obligation -/

/-- Settles O6: start-up burns a bit only where one is left, and an alarm that finds none orders the change to SCRAP and the restart that completes it. -/
theorem exhaustedTamperEpochScraps : Obligations.ExhaustedTamperEpochScraps := by
  refine ⟨fun b s t h ht => ?_, fun n mv s hlive hquiet h1 h3 hepoch => ?_, fun b n s hoff hrails hpend href hsensor h1 h3 hepoch => ?_⟩
  · obtain rfl : settle (doStartUp b s) = t := Host.Outcome.next.inj ht
    rw [settle_otp]
    exact doStartUp_otp_tamperEpoch_le h
  · obtain ⟨u, hotp, halarm⟩ := tamperAlarm_of_exhausted hlive hquiet ((alarmActs_iff s).mpr ⟨h1, h3⟩) hepoch
    obtain ⟨hlc, hkept, hcause, hkeys⟩ := obeyRestart_lcTransition_scrap u
    refine ⟨settle (tamperAlarm n mv s), rfl, ?_⟩
    simp only [settle_otp, settle_power, settle_sec, halarm]
    exact ⟨hlc, by rw [hkept, hotp, hepoch], hcause, hkeys⟩
  · obtain ⟨u, hotp, hstart⟩ := doStartUp_of_exhausted hoff hrails hpend href hsensor h1 h3 hepoch
    obtain ⟨hlc, hkept, hcause, -⟩ := obeyRestart_lcTransition_scrap u
    refine ⟨settle (doStartUp b s), rfl, ?_⟩
    simp only [settle_otp, settle_power, hstart]
    exact ⟨hlc, by rw [hkept, hotp, hepoch], hcause⟩

end Sys2Proof.Proofs

namespace Sys2Proof.Proofs
open Sys2Proof Sys2Proof.Machine Sys2Proof.Safety

/-! ## REPEAT of event records

`repeats` finds a record exactly under the conditions of 17 R621; an occurrence raises that record, and where there is none it creates one as any occurrence does
(17 R620). The copies that follow go to the journal and to S_1, and leave the recorder as it was. -/

/-! ### The record whose REPEAT is raised -/

/-- The conditions of 17 R621 together with room in REPEAT: nothing of the rate enters. -/
theorem repeats_eq_some_iff {ack : Nat} {e : Ev} {r : RecorderSt} {x : EvRec} :
    repeats ack e r = some x ↔ newestOf e.code r.ring = some x ∧ x.src = e.src ∧ x.p0 = e.p0 ∧ x.p1 = e.p1 ∧ x.p2 = e.p2 ∧ 0 < diffN 16 x.seq ack ∧ x.rep < 255 := by
  unfold repeats
  cases newestOf e.code r.ring with
  | none => simp
  | some y =>
    simp only [Option.ite_none_right_eq_some, Option.some.injEq, Bool.and_eq_true, beq_iff_eq, decide_eq_true_eq]
    constructor
    · rintro ⟨⟨⟨⟨⟨⟨hsrc, hp0⟩, hp1⟩, hp2⟩, hack⟩, hrep⟩, rfl⟩
      exact ⟨rfl, hsrc, hp0, hp1, hp2, hack, hrep⟩
    · rintro ⟨rfl, hsrc, hp0, hp1, hp2, hack, hrep⟩
      exact ⟨⟨⟨⟨⟨⟨hsrc, hp0⟩, hp1⟩, hp2⟩, hack⟩, hrep⟩, rfl⟩

/-- Where the newest record of the CODE fits the occurrence only with REPEAT saturated, no record is raised. -/
theorem repeats_eq_none {ack : Nat} {e : Ev} {r : RecorderSt}
    (h : ∀ x, newestOf e.code r.ring = some x → x.src = e.src → x.p0 = e.p0 → x.p1 = e.p1 → x.p2 = e.p2 → 0 < diffN 16 x.seq ack → 255 ≤ x.rep) :
    repeats ack e r = none := by
  refine Option.eq_none_iff_forall_ne_some.mpr fun x hx => ?_
  obtain ⟨hnew, hsrc, hp0, hp1, hp2, hack, hrep⟩ := repeats_eq_some_iff.mp hx
  exact Nat.not_le.mpr hrep (h x hnew hsrc hp0 hp1 hp2 hack)

/-! ### One occurrence -/

@[simp] theorem copyRec_recorder (now : Nat) (x : EvRec) (s : State) : (copyRec now x s).1.recorder = s.recorder := by
  rw [copyRec_frame]

/-- A copy, made or put off, leaves the recorder as it was. -/
theorem ite_copyRec_recorder (b : Bool) (now : Nat) (x : EvRec) (s : State) : (if b then copyRec now x s else (s, [])).1.recorder = s.recorder := by
  cases b with
  | true => exact copyRec_recorder now x s
  | false => rfl

/-- An occurrence that repeats a record changes that record in the ring and nothing else of the recorder; the fields `againAt` and `due`
keep the account of its next copy. -/
theorem raiseOnce_recorder_of_repeats {now : Nat} {e : Ev} {x : EvRec} {s : State} (hloaded : s.recorder.loaded = true)
    (hrep : repeats s.harbour.evtAck e s.recorder = some x) :
    ∃ a d, (raiseOnce now e s).1.recorder =
      { s.recorder with ring := s.recorder.ring.map (fun z => if z.seq = x.seq ∧ z.code = x.code then { x with rep := x.rep + 1, againAt := a, due := d } else z) } := by
  simp only [raiseOnce, hloaded, hrep, Bool.not_true, Bool.false_eq_true, if_false, Bool.and_eq_true, beq_iff_eq, ite_copyRec_recorder]
  exact ⟨_, _, rfl⟩

/-- An occurrence that repeats no record leaves the recorder as `createRec` answers it. -/
theorem raiseOnce_recorder_of_not_repeats {now : Nat} {e : Ev} {s : State} (hloaded : s.recorder.loaded = true)
    (hrep : repeats s.harbour.evtAck e s.recorder = none) : (raiseOnce now e s).1.recorder = (createRec now e s.recorder).1 := by
  simp only [raiseOnce, hloaded, hrep, Bool.not_true, Bool.false_eq_true, if_false]
  split
  · rfl
  · rw [copyRec_recorder]

/-! ### The record created -/

/-- The record that an occurrence creates after SEQ `seq` (17 R620). -/
def freshRec (now seq : Nat) (e : Ev) : EvRec :=
  { code := e.code, sev := e.sev, src := e.src, first := e.first.getD now, p0 := e.p0, p1 := e.p1, p2 := e.p2, seq := (seq + 1) % 65536 }

@[simp] theorem rollSec_seq (now : Nat) (r : RecorderSt) : (rollSec now r).seq = r.seq := by
  unfold rollSec
  split <;> rfl

/-- A created record is the fresh one of its occurrence, and EVT_SEQ stands at its SEQ: in a ring with room, over a record overwritten, and for a SAFETY record
that goes to the journal only (17 R620, R623). -/
theorem createRec_eq_some {now : Nat} {e : Ev} {r r2 : RecorderSt} {x : EvRec} (h : createRec now e r = (r2, some x)) :
    x = freshRec now r.seq e ∧ r2.seq = (freshRec now r.seq e).seq := by
  simp only [createRec, rollSec_seq] at h
  split at h
  case isTrue dropped => cases h
  case isFalse =>
    split at h
    case isTrue room => cases h; exact ⟨rfl, rfl⟩
    case isFalse =>
      split at h
      case h_1 => cases h; exact ⟨rfl, rfl⟩
      case h_2 =>
        split at h
        case isTrue safety => cases h; exact ⟨rfl, rfl⟩
        case isFalse => cases h

/-! ### The obligation -/

/-- Settles O16: the conditions of 17 R621 are those under which `repeats` finds a record, and every record created is fresh. -/
theorem repeatRule : Obligations.RepeatRule := by
  refine ⟨fun now e x s hloaded hnew hsrc hp0 hp1 hp2 hack hrep => ?_, fun now e s hloaded hnone => ?_, fun now e r r2 x hcreate => ?_⟩
  · exact raiseOnce_recorder_of_repeats hloaded (repeats_eq_some_iff.mpr ⟨hnew, hsrc, hp0, hp1, hp2, hack, hrep⟩)
  · exact raiseOnce_recorder_of_not_repeats hloaded (repeats_eq_none hnone)
  · obtain ⟨rfl, hseq⟩ := createRec_eq_some hcreate
    exact ⟨rfl, rfl, hseq, rfl, rfl, rfl, rfl, rfl⟩

end Sys2Proof.Proofs
namespace Sys2Proof.Proofs
open Sys2Proof Sys2Proof.Machine Sys2Proof.Safety
-- Several hundred short proofs follow: elaborated one after the other, they hold no thread each.
set_option Elab.async false

/-! ## Lists and branches
The model and its package stand on core Lean alone, without Mathlib: what the proofs need of `getD` and of a branch beyond core stands here.
-/

theorem getD_of_length_le {α : Type} {l : List α} {n : Nat} (d : α) (h : l.length ≤ n) : l.getD n d = d := by
  rw [List.getD_eq_getElem?_getD, List.getElem?_eq_none h]
  rfl

theorem getD_map_default {α β : Type} {f : α → β} {l : List α} {n : Nat} {d : α} : (l.map f).getD n (f d) = f (l.getD n d) := by
  rw [List.getD_eq_getElem?_getD, List.getD_eq_getElem?_getD, List.getElem?_map]
  cases l[n]? <;> rfl

theorem ite_cases {α : Type} {p : Prop} [Decidable p] {a b : α} : (if p then a else b) = a ∨ (if p then a else b) = b := by
  split
  · exact .inl rfl
  · exact .inr rfl

/-! ## What an operation touches
The parts of State that an operation may change. Of the parts of which statements speak under every row, the queue is never changed, device memory keeps its
canonical form, and OTP only grows, whatever the operation.
-/

/-- The parts of State other than the queue. -/
inductive Part where
  | out | freeCtr | mem | votes | otp | time | harbour | gnss | pose | cell | raster | knani | axes | meter | fleet | cor | stop | net | sec | update | journal | power | recorder
  deriving DecidableEq

/-- Every part. -/
def Part.all : List Part :=
  [.out, .freeCtr, .mem, .votes, .otp, .time, .harbour, .gnss, .pose, .cell, .raster, .knani, .axes, .meter, .fleet, .cor, .stop, .net, .sec, .update, .journal, .power, .recorder]

theorem Part.mem_all (p : Part) : p ∈ Part.all := by
  cases p <;> decide

/-- A part is the same in two states. -/
def Part.Same (p : Part) (s t : State) : Prop :=
  match p with
  | .out => t.out = s.out
  | .freeCtr => t.freeCtr = s.freeCtr
  | .mem => t.mem = s.mem
  | .votes => t.votes = s.votes
  | .otp => t.otp = s.otp
  | .time => t.time = s.time
  | .harbour => t.harbour = s.harbour
  | .gnss => t.gnss = s.gnss
  | .pose => t.pose = s.pose
  | .cell => t.cell = s.cell
  | .raster => t.raster = s.raster
  | .knani => t.knani = s.knani
  | .axes => t.axes = s.axes
  | .meter => t.meter = s.meter
  | .fleet => t.fleet = s.fleet
  | .cor => t.cor = s.cor
  | .stop => t.stop = s.stop
  | .net => t.net = s.net
  | .sec => t.sec = s.sec
  | .update => t.update = s.update
  | .journal => t.journal = s.journal
  | .power => t.power = s.power
  | .recorder => t.recorder = s.recorder

theorem Part.Same.refl (p : Part) (s : State) : p.Same s s := by
  cases p <;> rfl

theorem Part.Same.trans {p : Part} {s t u : State} (h : p.Same s t) (h' : p.Same t u) : p.Same s u := by
  cases p <;> exact Eq.trans h' h

/-- OTP has grown: no burnt bit is lost, TAMPER_EPOCH stays within its 64 bits, and what was programmed once stands. -/
structure OtpGrown (a b : OtpSt) : Prop where
  epoch : a.tamperEpoch ≤ 64 → b.tamperEpoch ≤ 64 ∧ a.tamperEpoch ≤ b.tamperEpoch
  counter : a.counter ≤ b.counter
  worldMap : a.worldMap.isSome = true → b.worldMap = a.worldMap
  hash3 : a.hash3.isSome = true → b.hash3 = a.hash3
  hash4 : a.hash4.isSome = true → b.hash4 = a.hash4

theorem OtpGrown.refl (a : OtpSt) : OtpGrown a a := ⟨fun h => ⟨h, Nat.le_refl _⟩, Nat.le_refl _, fun _ => rfl, fun _ => rfl, fun _ => rfl⟩

/-- Changes of the life-cycle and of the helper data. -/
theorem OtpGrown.of_eq {a b : OtpSt} (hc : b.counter = a.counter) (hw : b.worldMap = a.worldMap) (h3 : b.hash3 = a.hash3) (h4 : b.hash4 = a.hash4)
    (he : b.tamperEpoch = a.tamperEpoch) : OtpGrown a b :=
  ⟨fun h => ⟨by rwa [he], Nat.le_of_eq he.symm⟩, Nat.le_of_eq hc.symm, fun _ => hw, fun _ => h3, fun _ => h4⟩

theorem OtpGrown.trans {a b c : OtpSt} (h : OtpGrown a b) (h' : OtpGrown b c) : OtpGrown a c where
  epoch ha := ⟨(h'.epoch (h.epoch ha).1).1, Nat.le_trans (h.epoch ha).2 (h'.epoch (h.epoch ha).1).2⟩
  counter := Nat.le_trans h.counter h'.counter
  worldMap ha := (h'.worldMap (by rwa [h.worldMap ha])).trans (h.worldMap ha)
  hash3 ha := (h'.hash3 (by rwa [h.hash3 ha])).trans (h.hash3 ha)
  hash4 ha := (h'.hash4 (by rwa [h.hash4 ha])).trans (h.hash4 ha)

/-- `t` comes from `s` by operations that touch the parts of `F` alone. -/
structure Touches (F : List Part) (s t : State) : Prop where
  same : ∀ p, p ∉ F → p.Same s t
  pending : t.pending = s.pending
  memory : memorySound s → memorySound t
  otpGrown : OtpGrown s.otp t.otp

namespace Touches
variable {F G : List Part} {s t u : State}

theorem refl : Touches F s s := ⟨fun p _ => .refl p s, rfl, id, .refl _⟩

/-- An operation on a state reached. -/
theorem after (h' : Touches G t u) (h : Touches F s t) (hG : G ⊆ F := by decide) : Touches F s u where
  same p hp := (h.same p hp).trans (h'.same p fun hm => hp (hG hm))
  pending := h'.pending.trans h.pending
  memory := h'.memory ∘ h.memory
  otpGrown := h.otpGrown.trans h'.otpGrown

theorem ite {c : Prop} [Decidable c] (ht : Touches F s t) (hu : Touches F s u) : Touches F s (if c then t else u) := by
  split
  · exact ht
  · exact hu

theorem iteSnd {α : Type} {c : Prop} [Decidable c] {a b : α × State} (ha : Touches F s a.2) (hb : Touches F s b.2) : Touches F s (if c then a else b).2 := by
  split
  · exact ha
  · exact hb

theorem foldl {α : Type} {f : State → α → State} {l : List α} (hf : ∀ st x, Touches F st (f st x)) (h : Touches F s t) : Touches F s (l.foldl f t) := by
  induction l generalizing t with
  | nil => exact h
  | cons x r ih => exact ih ((hf t x).after h (List.Subset.refl F))

theorem foldlFst {α β : Type} {f : State × β → α → State × β} {l : List α} {b : β} (hf : ∀ acc x, Touches G acc.1 (f acc x).1) (h : Touches F s t)
    (hG : G ⊆ F := by decide) : Touches F s (l.foldl f (t, b)).1 := by
  suffices ∀ acc : State × β, Touches F s acc.1 → Touches F s (l.foldl f acc).1 from this _ h
  induction l with
  | nil => exact fun _ h => h
  | cons x r ih => exact fun acc h => ih _ ((hf acc x).after h hG)

theorem foldlSnd {α β : Type} {f : β × State → α → β × State} {l : List α} {b : β} (hf : ∀ acc x, Touches F acc.2 (f acc x).2) (h : Touches F s t) :
    Touches F s (l.foldl f (b, t)).2 := by
  suffices ∀ acc : β × State, Touches F s acc.2 → Touches F s (l.foldl f acc).2 from this _ h
  induction l with
  | nil => exact fun _ h => h
  | cons x r ih => exact fun acc h => ih _ ((hf acc x).after h (List.Subset.refl F))

/-- A state whose memory is empty or kept, and whose OTP has grown. -/
theorem of_all (hp : t.pending = s.pending) (hm : memorySound s → memorySound t) (ho : OtpGrown s.otp t.otp) : Touches Part.all s t :=
  ⟨fun p h => absurd p.mem_all h, hp, hm, ho⟩

/-- A change of parts other than memory and OTP. -/
theorem of_same (h : ∀ p, p ∉ F → p.Same s t) (hp : t.pending = s.pending := by rfl) (hm : t.mem = s.mem := by rfl) (ho : t.otp = s.otp := by rfl) : Touches F s t where
  same := h
  pending := hp
  memory hs := by rw [memorySound, hm]; exact hs
  otpGrown := ho ▸ .refl _

theorem ofSnd {α : Type} {p : α × State} {a : α} (h : p = (a, t)) (hp : Touches F s p.2) : Touches F s t := by
  rw [h] at hp
  exact hp

/-- The answers of a body. -/
theorem snd {α : Type} {a : α} (h : Touches F s t) : Touches F s (a, t).2 := h

theorem ok (h : Touches F s t) : Touches F s (Machine.ok t).2 := h

theorem okWith {r : List Byte} (h : Touches F s t) : Touches F s (Machine.okWith r t).2 := h

/-- A choice whose second branch needs the condition to fail. -/
theorem iteSndNot {α : Type} {c : Prop} [Decidable c] {a b : α × State} (ha : Touches F s a.2) (hb : ¬ c → Touches F s b.2) :
    Touches F s (if c then a else b).2 := by
  split
  · exact ha
  · next h => exact hb h

theorem iteFst {α : Type} {c : Prop} [Decidable c] {a b : State × α} (ha : Touches F s a.1) (hb : Touches F s b.1) : Touches F s (if c then a else b).1 := by
  split
  · exact ha
  · exact hb

/-! One rule per part written, and per group of parts written at once. -/

theorem setOut {a : List Out} (h : Touches F s t) (hF : [.out] ⊆ F := by decide) : Touches F s { t with out := a } :=
  after (of_same fun p hp => by cases p <;> simp [Part.Same] at hp ⊢) h hF
theorem setFreeCtr {a : Nat} (h : Touches F s t) (hF : [.freeCtr] ⊆ F := by decide) : Touches F s { t with freeCtr := a } :=
  after (of_same fun p hp => by cases p <;> simp [Part.Same] at hp ⊢) h hF
theorem setVotes {a : VoteSt} (h : Touches F s t) (hF : [.votes] ⊆ F := by decide) : Touches F s { t with votes := a } :=
  after (of_same fun p hp => by cases p <;> simp [Part.Same] at hp ⊢) h hF
theorem setTime {a : TimeSt} (h : Touches F s t) (hF : [.time] ⊆ F := by decide) : Touches F s { t with time := a } :=
  after (of_same fun p hp => by cases p <;> simp [Part.Same] at hp ⊢) h hF
theorem setHarbour {a : HarbourSt} (h : Touches F s t) (hF : [.harbour] ⊆ F := by decide) : Touches F s { t with harbour := a } :=
  after (of_same fun p hp => by cases p <;> simp [Part.Same] at hp ⊢) h hF
theorem setGnss {a : GnssSt} (h : Touches F s t) (hF : [.gnss] ⊆ F := by decide) : Touches F s { t with gnss := a } :=
  after (of_same fun p hp => by cases p <;> simp [Part.Same] at hp ⊢) h hF
theorem setPose {a : PoseSt} (h : Touches F s t) (hF : [.pose] ⊆ F := by decide) : Touches F s { t with pose := a } :=
  after (of_same fun p hp => by cases p <;> simp [Part.Same] at hp ⊢) h hF
theorem setCell {a : CellSt} (h : Touches F s t) (hF : [.cell] ⊆ F := by decide) : Touches F s { t with cell := a } :=
  after (of_same fun p hp => by cases p <;> simp [Part.Same] at hp ⊢) h hF
theorem setRaster {a : RasterSt} (h : Touches F s t) (hF : [.raster] ⊆ F := by decide) : Touches F s { t with raster := a } :=
  after (of_same fun p hp => by cases p <;> simp [Part.Same] at hp ⊢) h hF
theorem setKnani {a : KnaniSt} (h : Touches F s t) (hF : [.knani] ⊆ F := by decide) : Touches F s { t with knani := a } :=
  after (of_same fun p hp => by cases p <;> simp [Part.Same] at hp ⊢) h hF
theorem setAxes {a : List Axis} (h : Touches F s t) (hF : [.axes] ⊆ F := by decide) : Touches F s { t with axes := a } :=
  after (of_same fun p hp => by cases p <;> simp [Part.Same] at hp ⊢) h hF
theorem setMeter {a : MeterSt} (h : Touches F s t) (hF : [.meter] ⊆ F := by decide) : Touches F s { t with meter := a } :=
  after (of_same fun p hp => by cases p <;> simp [Part.Same] at hp ⊢) h hF
theorem setFleet {a : FleetSt} (h : Touches F s t) (hF : [.fleet] ⊆ F := by decide) : Touches F s { t with fleet := a } :=
  after (of_same fun p hp => by cases p <;> simp [Part.Same] at hp ⊢) h hF
theorem setCor {a : CorSvc} (h : Touches F s t) (hF : [.cor] ⊆ F := by decide) : Touches F s { t with cor := a } :=
  after (of_same fun p hp => by cases p <;> simp [Part.Same] at hp ⊢) h hF
theorem setStop {a : StopSt} (h : Touches F s t) (hF : [.stop] ⊆ F := by decide) : Touches F s { t with stop := a } :=
  after (of_same fun p hp => by cases p <;> simp [Part.Same] at hp ⊢) h hF
theorem setNet {a : NetSt} (h : Touches F s t) (hF : [.net] ⊆ F := by decide) : Touches F s { t with net := a } :=
  after (of_same fun p hp => by cases p <;> simp [Part.Same] at hp ⊢) h hF
theorem setSec {a : SecSt} (h : Touches F s t) (hF : [.sec] ⊆ F := by decide) : Touches F s { t with sec := a } :=
  after (of_same fun p hp => by cases p <;> simp [Part.Same] at hp ⊢) h hF
theorem setUpdate {a : UpdateSt} (h : Touches F s t) (hF : [.update] ⊆ F := by decide) : Touches F s { t with update := a } :=
  after (of_same fun p hp => by cases p <;> simp [Part.Same] at hp ⊢) h hF
theorem setJournal {a : JournalSt} (h : Touches F s t) (hF : [.journal] ⊆ F := by decide) : Touches F s { t with journal := a } :=
  after (of_same fun p hp => by cases p <;> simp [Part.Same] at hp ⊢) h hF
theorem setPower {a : PowerSt} (h : Touches F s t) (hF : [.power] ⊆ F := by decide) : Touches F s { t with power := a } :=
  after (of_same fun p hp => by cases p <;> simp [Part.Same] at hp ⊢) h hF
theorem setRecorder {a : RecorderSt} (h : Touches F s t) (hF : [.recorder] ⊆ F := by decide) : Touches F s { t with recorder := a } :=
  after (of_same fun p hp => by cases p <;> simp [Part.Same] at hp ⊢) h hF

theorem setMem {m : List Host.Cell} (h : Touches F s t) (hm : memorySound t → memWf m = true) (hF : [.mem] ⊆ F := by decide) : Touches F s { t with mem := m } :=
  after (t := t) (G := [.mem]) ⟨fun p hp => by cases p <;> simp [Part.Same] at hp ⊢, rfl, hm, .refl _⟩ h hF

theorem setOtp {o : OtpSt} (h : Touches F s t) (ho : OtpGrown t.otp o) (hF : [.otp] ⊆ F := by decide) : Touches F s { t with otp := o } :=
  after (t := t) (G := [.otp]) ⟨fun p hp => by cases p <;> simp [Part.Same] at hp ⊢, rfl, id, ho⟩ h hF

theorem setVotesOtp {v : VoteSt} {o : OtpSt} (h : Touches F s t) (ho : OtpGrown t.otp o) (hF : [.votes, .otp] ⊆ F := by decide) :
    Touches F s { t with votes := v, otp := o } :=
  after (t := t) (G := [.votes, .otp]) ⟨fun p hp => by cases p <;> simp [Part.Same] at hp ⊢, rfl, id, ho⟩ h hF

theorem setOtpJournal {o : OtpSt} {a : JournalSt} (h : Touches F s t) (ho : OtpGrown t.otp o) (hF : [.otp, .journal] ⊆ F := by decide) :
    Touches F s { t with otp := o, journal := a } :=
  after (t := t) (G := [.otp, .journal]) ⟨fun p hp => by cases p <;> simp [Part.Same] at hp ⊢, rfl, id, ho⟩ h hF

theorem setOtpSec {o : OtpSt} {a : SecSt} (h : Touches F s t) (ho : OtpGrown t.otp o) (hF : [.otp, .sec] ⊆ F := by decide) :
    Touches F s { t with otp := o, sec := a } :=
  after (t := t) (G := [.otp, .sec]) ⟨fun p hp => by cases p <;> simp [Part.Same] at hp ⊢, rfl, id, ho⟩ h hF

/-- Memory is emptied as SAFE is entered after an alarm (15 R559). -/
theorem clearMemSecUpdatePower {a : SecSt} {b : UpdateSt} {c : PowerSt} (h : Touches F s t) (hF : [.mem, .sec, .update, .power] ⊆ F := by decide) :
    Touches F s { t with mem := [], sec := a, update := b, power := c } :=
  after (t := t) (G := [.mem, .sec, .update, .power]) ⟨fun p hp => by cases p <;> simp [Part.Same] at hp ⊢, rfl, fun _ => rfl, .refl _⟩ h hF

theorem setFleetCor {a : FleetSt} {b : CorSvc} (h : Touches F s t) (hF : [.fleet, .cor] ⊆ F := by decide) : Touches F s { t with fleet := a, cor := b } :=
  after (of_same fun p hp => by cases p <;> simp [Part.Same] at hp ⊢) h hF
theorem setFleetStop {a : FleetSt} {b : StopSt} (h : Touches F s t) (hF : [.fleet, .stop] ⊆ F := by decide) : Touches F s { t with fleet := a, stop := b } :=
  after (of_same fun p hp => by cases p <;> simp [Part.Same] at hp ⊢) h hF
theorem setHarbourJournal {a : HarbourSt} {b : JournalSt} (h : Touches F s t) (hF : [.harbour, .journal] ⊆ F := by decide) : Touches F s { t with harbour := a, journal := b } :=
  after (of_same fun p hp => by cases p <;> simp [Part.Same] at hp ⊢) h hF
theorem setHarbourKnani {a : HarbourSt} {b : KnaniSt} (h : Touches F s t) (hF : [.harbour, .knani] ⊆ F := by decide) : Touches F s { t with harbour := a, knani := b } :=
  after (of_same fun p hp => by cases p <;> simp [Part.Same] at hp ⊢) h hF
theorem setHarbourKnaniAxesMeterSecJournalPowerRecorder {a : HarbourSt} {b : KnaniSt} {c : List Axis} {d : MeterSt} {e : SecSt} {f : JournalSt} {g : PowerSt} {i : RecorderSt} (h : Touches F s t) (hF : [.harbour, .knani, .axes, .meter, .sec, .journal, .power, .recorder] ⊆ F := by decide) : Touches F s { t with harbour := a, knani := b, axes := c, meter := d, sec := e, journal := f, power := g, recorder := i } :=
  after (of_same fun p hp => by cases p <;> simp [Part.Same] at hp ⊢) h hF
theorem setHarbourRecorder {a : HarbourSt} {b : RecorderSt} (h : Touches F s t) (hF : [.harbour, .recorder] ⊆ F := by decide) : Touches F s { t with harbour := a, recorder := b } :=
  after (of_same fun p hp => by cases p <;> simp [Part.Same] at hp ⊢) h hF
theorem setHarbourSec {a : HarbourSt} {b : SecSt} (h : Touches F s t) (hF : [.harbour, .sec] ⊆ F := by decide) : Touches F s { t with harbour := a, sec := b } :=
  after (of_same fun p hp => by cases p <;> simp [Part.Same] at hp ⊢) h hF
theorem setJournalPower {a : JournalSt} {b : PowerSt} (h : Touches F s t) (hF : [.journal, .power] ⊆ F := by decide) : Touches F s { t with journal := a, power := b } :=
  after (of_same fun p hp => by cases p <;> simp [Part.Same] at hp ⊢) h hF
theorem setKnaniAxes {a : KnaniSt} {b : List Axis} (h : Touches F s t) (hF : [.knani, .axes] ⊆ F := by decide) : Touches F s { t with knani := a, axes := b } :=
  after (of_same fun p hp => by cases p <;> simp [Part.Same] at hp ⊢) h hF
theorem setPoseFleet {a : PoseSt} {b : FleetSt} (h : Touches F s t) (hF : [.pose, .fleet] ⊆ F := by decide) : Touches F s { t with pose := a, fleet := b } :=
  after (of_same fun p hp => by cases p <;> simp [Part.Same] at hp ⊢) h hF
theorem setSecPower {a : SecSt} {b : PowerSt} (h : Touches F s t) (hF : [.sec, .power] ⊆ F := by decide) : Touches F s { t with sec := a, power := b } :=
  after (of_same fun p hp => by cases p <;> simp [Part.Same] at hp ⊢) h hF
theorem setTimeCell {a : TimeSt} {b : CellSt} (h : Touches F s t) (hF : [.time, .cell] ⊆ F := by decide) : Touches F s { t with time := a, cell := b } :=
  after (of_same fun p hp => by cases p <;> simp [Part.Same] at hp ⊢) h hF
theorem setTimeGnss {a : TimeSt} {b : GnssSt} (h : Touches F s t) (hF : [.time, .gnss] ⊆ F := by decide) : Touches F s { t with time := a, gnss := b } :=
  after (of_same fun p hp => by cases p <;> simp [Part.Same] at hp ⊢) h hF
theorem setTimeGnssPoseAxesMeterFleetStopNet {a : TimeSt} {b : GnssSt} {c : PoseSt} {d : List Axis} {e : MeterSt} {f : FleetSt} {g : StopSt} {i : NetSt} (h : Touches F s t) (hF : [.time, .gnss, .pose, .axes, .meter, .fleet, .stop, .net] ⊆ F := by decide) : Touches F s { t with time := a, gnss := b, pose := c, axes := d, meter := e, fleet := f, stop := g, net := i } :=
  after (of_same fun p hp => by cases p <;> simp [Part.Same] at hp ⊢) h hF
theorem setTimeRecorder {a : TimeSt} {b : RecorderSt} (h : Touches F s t) (hF : [.time, .recorder] ⊆ F := by decide) : Touches F s { t with time := a, recorder := b } :=
  after (of_same fun p hp => by cases p <;> simp [Part.Same] at hp ⊢) h hF
theorem setVotesHarbour {a : VoteSt} {b : HarbourSt} (h : Touches F s t) (hF : [.votes, .harbour] ⊆ F := by decide) : Touches F s { t with votes := a, harbour := b } :=
  after (of_same fun p hp => by cases p <;> simp [Part.Same] at hp ⊢) h hF
theorem setVotesTime {a : VoteSt} {b : TimeSt} (h : Touches F s t) (hF : [.votes, .time] ⊆ F := by decide) : Touches F s { t with votes := a, time := b } :=
  after (of_same fun p hp => by cases p <;> simp [Part.Same] at hp ⊢) h hF

end Touches

end Sys2Proof.Proofs

namespace Sys2Proof.Proofs
open Sys2Proof Sys2Proof.Machine Sys2Proof.Safety
-- Several hundred short proofs follow: elaborated one after the other, they hold no thread each.
set_option Elab.async false

/-! ## What each operation touches
One lemma per operation of the model, in the model's order: the parts that it may change, each proof along the operation's branches.
-/

/-! ### Machine/Ops -/

theorem emit_touches {k : OutKind} {index rel : Nat} {data : List Byte} {s : State} : Touches [.out] s (emit k index rel data s) :=
  .setOut .refl

theorem draw_touches {s : State} : Touches [.freeCtr] s (draw s).2 :=
  .setFreeCtr .refl

theorem passDone_touches {k : Nat} {s : State} : Touches [.power] s (passDone k s) :=
  .setPower .refl

theorem copyRec_touches {now : Nat} {x : EvRec} {s : State} : Touches [.harbour, .journal] s (copyRec now x s).1 :=
  .setHarbourJournal .refl

theorem raiseOnce_touches {now : Nat} {e : Ev} {s : State} : Touches [.harbour, .journal, .recorder] s (raiseOnce now e s).1 := by
  unfold raiseOnce
  dsimp only
  refine .iteFst (.setRecorder .refl) ?_
  split
  · exact .iteFst (copyRec_touches.after (.setRecorder .refl)) (.setRecorder .refl)
  · split
    · exact .setRecorder .refl
    · exact copyRec_touches.after (.setRecorder .refl)

theorem raiseList_touches {n now : Nat} {es : List Ev} {s : State} : Touches [.harbour, .journal, .recorder] s (raiseList n now es s) := by
  induction n generalizing es s with
  | zero => exact .refl
  | succ n ih =>
    cases es with
    | nil => exact .refl
    | cons e r => exact ih.after (raiseOnce_touches.after .refl)

theorem raises_touches {es : List Ev} {s : State} : Touches [.harbour, .journal, .recorder] s (raises es s) :=
  raiseList_touches.after .refl

theorem raise_touches {e : Ev} {s : State} : Touches [.harbour, .journal, .recorder] s (raise e s) :=
  raises_touches.after .refl

theorem raiseIf_touches {b : Bool} {e : Ev} {s : State} : Touches [.harbour, .journal, .recorder] s (raiseIf b e s) :=
  .ite (raise_touches.after .refl) .refl

theorem undertowLate_touches {k dom due : Nat} {s : State} : Touches [.harbour, .journal, .power, .recorder] s (undertowLate k dom due s) :=
  .ite .refl (raiseIf_touches.after (.setPower .refl))

theorem sendS1_touches {ty : Nat} {payload : List Byte} {s : State} : Touches [.harbour, .journal, .recorder] s (sendS1 ty payload s) :=
  raises_touches.after (.setHarbour .refl)

theorem journalPut_touches {w : JWrite} {s : State} : Touches [.harbour, .journal, .recorder] s (journalPut w s).2 :=
  raises_touches.after (.setJournal .refl)

theorem journalLog_touches {w : JWrite} {s : State} : Touches [.harbour, .journal, .recorder] s (journalLog w s) :=
  journalPut_touches.after .refl

theorem setMbx_touches {m : Nat} {f : Mbx → Mbx} {s : State} : Touches [.harbour] s (setMbx m f s) :=
  .setHarbour .refl

theorem areaWrite_touches {m off : Nat} {data : List Byte} {s : State} : Touches [.out, .mem] s (areaWrite m off data s) := by
  unfold areaWrite
  exact .ite (.setMem .refl fun h => memWf_memPuts h _ _) (emit_touches.after .refl)

theorem writeCompletion_touches {m seq : Nat} {k : Completion} {s : State} : Touches [.out, .mem] s (writeCompletion m seq k s) :=
  areaWrite_touches.after (.ite .refl (areaWrite_touches.after .refl))

theorem releaseOne_touches {m : Nat} {h : Held} {s : State} : Touches [.out, .mem, .harbour] s (releaseOne m h s) := by
  unfold releaseOne
  dsimp only
  split
  · exact .setHarbour (setMbx_touches.after .refl)
  · exact .ite (.setHarbour (setMbx_touches.after .refl)) (writeCompletion_touches.after (.setHarbour (setMbx_touches.after .refl)))

theorem releaseAll_touches {m : Nat} {s : State} : Touches [.out, .mem, .harbour] s (releaseAll m s) :=
  .foldl (fun _ _ => releaseOne_touches.after .refl) (setMbx_touches.after .refl)

theorem complete_touches {m slot opcode tag status : Nat} {result : List Byte} {s : State} :
    Touches [.out, .mem, .harbour] s (complete m slot opcode tag status result s) := by
  unfold complete
  split
  · exact releaseAll_touches.after (setMbx_touches.after .refl)
  · exact releaseOne_touches.after .refl


/-! ### Machine/Status -/

theorem armCells_touches {s : State} : Touches [.cell] s (armCells s) :=
  .ite .refl (.setCell .refl)


/-! ### Machine/Flags -/

theorem sendMsi_touches {ks : List Nat} {s : State} : Touches [.out] s (sendMsi ks s) :=
  .ite .refl (.setOut .refl)

theorem settle_touches {s : State} : Touches [.out, .harbour] s (settle s) :=
  .setHarbour (sendMsi_touches.after (.setHarbour .refl))


/-! ### Machine/Operands -/

/-- A mailbox command touches what its body does, and what a completion does. -/
theorem commandC_touches {F : List Part} {op n m : Nat} {ro : Option Nat} {body : Cmd → List Byte → State → Reply × State} {c : Cmd} {s : State}
    (hb : ∀ p, Touches F s (body c p s).2) (hF : [.out, .mem, .harbour] ⊆ F := by decide) : Touches F s (commandC op n m ro body c s) := by
  unfold commandC
  refine .ite .refl ?_
  split
  · exact complete_touches.after .refl hF
  · split
    next h => exact complete_touches.after (.ofSnd h (hb _)) hF
    next h => exact .ofSnd h (hb _)

theorem command_touches {F : List Part} {op n m : Nat} {ro : Option Nat} {body : List Byte → State → Reply × State} {c : Cmd} {s : State}
    (hb : ∀ p, Touches F s (body p s).2) (hF : [.out, .mem, .harbour] ⊆ F := by decide) : Touches F s (command op n m ro body c s) :=
  commandC_touches hb hF


/-! ### Machine/Clock -/

theorem advance_touches {n : Nat} {s : State} : Touches [.time] s (advance n s) :=
  .setTime .refl

theorem runTo_touches {target : Nat} {s : State} : Touches [.time] s (runTo target s) :=
  advance_touches.after .refl

theorem runToCyc_touches {c : Nat} {s : State} : Touches [.time] s (runToCyc c s) :=
  advance_touches.after .refl

theorem setDom_touches {k : Nat} {d : Domain} {s : State} : Touches [.time] s (setDom k d s) :=
  .setTime .refl

theorem tqTest_touches {s : State} : Touches [.time, .harbour, .journal, .recorder] s (tqTest s) :=
  raiseIf_touches.after (.setTime .refl)

theorem deferStep_touches {s : State} : Touches [.time, .harbour, .journal, .recorder] s (deferStep s) :=
  raiseIf_touches.after (.setTime .refl)

theorem ppsDrive_touches {pin : Nat} {active : Bool} {rel : Nat} {s : State} : Touches [.out] s (ppsDrive pin active rel s) := by
  unfold ppsDrive
  split
  · exact .refl
  · exact emit_touches.after .refl

theorem ppsQuietOne_touches {pin : Nat} {s : State} : Touches [.out, .time] s (ppsQuietOne pin s) := by
  unfold ppsQuietOne
  split
  · exact .refl
  · exact .ite (ppsDrive_touches.after (.setTime .refl)) .refl

theorem ppsQuiet_touches {s : State} : Touches [.out, .time] s (ppsQuiet s) :=
  ppsQuietOne_touches.after (ppsQuietOne_touches.after .refl)

theorem ppsDomainStep_touches {k old new : Nat} {s : State} : Touches [.time, .harbour, .journal, .recorder] s (ppsDomainStep k old new s) :=
  raises_touches.after (.setTime .refl)

theorem follow_touches {b : Bool} {s : State} : Touches [.out, .time, .harbour, .journal, .recorder] s (follow b s) :=
  .ite .refl (ppsQuiet_touches.after (deferStep_touches.after (raise_touches.after (.setTime .refl))))

theorem reselect_touches {s : State} : Touches [.out, .time, .harbour, .journal, .recorder] s (reselect s) :=
  .ite (follow_touches.after .refl) .refl

theorem enterFreerun_touches {k cause : Nat} {s : State} : Touches [.out, .time, .harbour, .journal, .recorder] s (enterFreerun k cause s) :=
  .ite (.ite (setDom_touches.after .refl) .refl) (ppsQuiet_touches.after (reselect_touches.after (raise_touches.after (setDom_touches.after .refl))))

theorem enterHoldover_touches {k : Nat} {drift : Int} {s : State} : Touches [.out, .time, .harbour, .journal, .recorder] s (enterHoldover k drift s) :=
  reselect_touches.after (raise_touches.after (setDom_touches.after .refl))

theorem loseSource_touches {k cause : Nat} {s : State} : Touches [.out, .time, .harbour, .journal, .recorder] s (loseSource k cause s) := by
  unfold loseSource
  split
  · exact enterHoldover_touches.after .refl
  · exact enterFreerun_touches.after .refl

theorem measure_touches {k : Nat} {theta : Int} {t : Nat} {uncert : Option Nat} {s : State} :
    Touches [.out, .time, .harbour, .journal, .recorder] s (measure k theta t uncert s) := by
  have hset : ∀ {d : Domain} {c : Prop} [Decidable c] {x : TimeSt}, Touches [.out, .time, .harbour, .journal, .recorder] s (setDom k d (if c then { s with time := x } else s)) :=
    setDom_touches.after (.ite (.setTime .refl) .refl)
  unfold Machine.measure
  refine .ite .refl (.ite ?_ (.ite ?_ (.ite ?_ (.ite ?_ ?_))))
  · exact .ite (setDom_touches.after (raise_touches.after .refl)) (reselect_touches.after (setDom_touches.after (raise_touches.after .refl)))
  · exact tqTest_touches.after (ppsDomainStep_touches.after (deferStep_touches.after (reselect_touches.after hset)))
  · exact tqTest_touches.after (reselect_touches.after (raise_touches.after hset))
  · exact tqTest_touches.after hset
  · exact tqTest_touches.after hset

theorem stepDiverged_touches {s : State} : Touches [.harbour, .fleet, .journal, .recorder] s (stepDiverged s) :=
  .ite (raise_touches.after (.setFleet .refl)) .refl

theorem stepOut_touches {new : Nat} {s : State} : Touches [.time, .harbour, .gnss, .pose, .axes, .meter, .fleet, .stop, .net, .journal, .recorder] s (stepOut new s) :=
  stepDiverged_touches.after (raises_touches.after (.setTimeGnssPoseAxesMeterFleetStopNet .refl))

theorem stepAtBoundary_touches {s : State} : Touches [.time, .harbour, .gnss, .pose, .axes, .meter, .fleet, .stop, .net, .journal, .recorder] s (stepAtBoundary s) :=
  .ite (.ite (stepOut_touches.after .refl) (deferStep_touches.after .refl)) (.setTime .refl)


/-! ### Machine/Axes -/

theorem setAx_touches {n : Nat} {f : Axis → Axis} {s : State} : Touches [.axes] s (setAx n f s) :=
  .setAxes .refl

theorem emitSp_touches {n t : Nat} {s : State} : Touches [.out] s (emitSp n t s) :=
  emit_touches.after .refl

theorem setEn_touches {n : Nat} {b : Bool} {s : State} : Touches [.out, .axes] s (setEn n b s) :=
  .ite .refl (emit_touches.after (setAx_touches.after .refl))

theorem abortMoves_touches {n : Nat} {s : State} : Touches [.out, .mem, .harbour, .axes] s (abortMoves n s) :=
  .foldl (fun _ _ => complete_touches.after .refl) (setAx_touches.after .refl)

theorem standstill_touches {n t : Nat} {s : State} : Touches [.out, .harbour, .axes, .journal, .recorder] s (standstill n t s) :=
  raise_touches.after (.ite (setEn_touches.after (setAx_touches.after .refl)) (setAx_touches.after .refl))

theorem haltAxis_touches {n cause decel : Nat} {s0 : State} : Touches [.out, .mem, .harbour, .axes, .journal, .recorder] s0 (haltAxis n cause decel s0) := by
  unfold haltAxis
  lift_lets
  extract_lets s _ _ _ s2
  have hs : Touches [.out, .mem, .harbour, .axes, .journal, .recorder] s0 s := abortMoves_touches.after .refl
  have hs2 : Touches [.out, .mem, .harbour, .axes, .journal, .recorder] s0 s2 := raise_touches.after (setAx_touches.after hs)
  split
  · exact .ite (standstill_touches.after (setAx_touches.after hs)) (setAx_touches.after hs)
  · exact setAx_touches.after hs
  · exact .ite (standstill_touches.after hs2) hs2
  · exact hs
  · exact .ite (setEn_touches.after (setAx_touches.after hs)) hs

theorem haltAxes_touches {cause : Nat} {s : State} : Touches [.out, .mem, .harbour, .axes, .journal, .recorder] s (haltAxes cause s) :=
  .foldl (fun _ _ => haltAxis_touches.after .refl) .refl

theorem disableAxis_touches {n : Nat} {s0 : State} : Touches [.out, .mem, .harbour, .axes] s0 (disableAxis n s0) := by
  unfold disableAxis
  dsimp only
  split
  · exact abortMoves_touches.after .refl
  · exact setEn_touches.after (setAx_touches.after (abortMoves_touches.after .refl))

theorem disableAxes_touches {s : State} : Touches [.out, .mem, .harbour, .axes] s (disableAxes s) :=
  .foldl (fun _ _ => disableAxis_touches.after .refl) .refl

theorem driveFault_touches {n cause : Nat} {s0 : State} : Touches [.out, .mem, .harbour, .axes] s0 (driveFault n cause s0) :=
  setEn_touches.after (setAx_touches.after (abortMoves_touches.after .refl))

theorem doMoveStart_touches {n : Nat} {s0 : State} : Touches [.out, .mem, .time, .harbour, .axes, .journal, .recorder] s0 (doMoveStart n s0) := by
  unfold doMoveStart
  dsimp only
  split
  · exact .refl
  · split
    · exact .ite (complete_touches.after (raise_touches.after (setAx_touches.after (setEn_touches.after (setAx_touches.after (runTo_touches.after .refl)))))) (complete_touches.after (setAx_touches.after (setEn_touches.after (setAx_touches.after (runTo_touches.after .refl)))))
    · exact .ite (complete_touches.after (raise_touches.after (setAx_touches.after (setEn_touches.after (setAx_touches.after (runTo_touches.after .refl)))))) (complete_touches.after (setAx_touches.after (setEn_touches.after (setAx_touches.after (runTo_touches.after .refl)))))
    · exact complete_touches.after (raise_touches.after (setAx_touches.after (setAx_touches.after (runTo_touches.after .refl))))
    · exact complete_touches.after (setAx_touches.after (runTo_touches.after .refl))

theorem homeDone_touches {n t : Nat} {h : Homing} {s : State} : Touches [.harbour, .axes, .journal, .recorder] s (homeDone n t h s) :=
  raise_touches.after (setAx_touches.after .refl)

theorem homePark_touches {n t : Nat} {h : Homing} {s : State} : Touches [.harbour, .axes, .journal, .recorder] s (homePark n t h s) :=
  .ite (homeDone_touches.after .refl) (.ite (setAx_touches.after .refl) (setAx_touches.after .refl))

theorem homeFail_touches {n cause : Nat} {s : State} : Touches [.harbour, .axes, .journal, .recorder] s (homeFail n cause s) :=
  raise_touches.after (setAx_touches.after .refl)

theorem startSeek_touches {n t : Nat} {h : Homing} {s : State} : Touches [.axes] s (startSeek n t h s) :=
  setAx_touches.after .refl

theorem cliffStep_touches {n t frac : Nat} {h : Homing} {s : State} : Touches [.out, .harbour, .axes, .journal, .recorder] s (cliffStep n t frac h s) :=
  .ite .refl (.ite (setAx_touches.after .refl) (.ite (homeFail_touches.after (setAx_touches.after .refl)) (homePark_touches.after (setAx_touches.after (emitSp_touches.after (setAx_touches.after (setAx_touches.after .refl)))))))

theorem doSetPointRelease_touches {n : Nat} {off : Int} {s0 : State} :
    Touches [.out, .mem, .time, .harbour, .axes, .journal, .recorder] s0 (doSetPointRelease n off s0) := by
  unfold doSetPointRelease
  dsimp only
  refine .ite .refl ?_
  refine .ite (haltAxis_touches.after (raise_touches.after (setAx_touches.after .refl))) ?_
  split
  · refine .ite (emitSp_touches.after (setAx_touches.after (runTo_touches.after .refl))) ?_
    split
    · exact standstill_touches.after (emitSp_touches.after (setAx_touches.after (runTo_touches.after .refl)))
    · exact .ite (.ite (startSeek_touches.after (emitSp_touches.after (setAx_touches.after (runTo_touches.after .refl)))) (setAx_touches.after (emitSp_touches.after (setAx_touches.after (runTo_touches.after .refl))))) (homePark_touches.after (emitSp_touches.after (setAx_touches.after (runTo_touches.after .refl))))
    · exact .ite (raise_touches.after (setAx_touches.after (emitSp_touches.after (setAx_touches.after (runTo_touches.after .refl))))) (.ite (setAx_touches.after (emitSp_touches.after (setAx_touches.after (runTo_touches.after .refl)))) (setAx_touches.after (emitSp_touches.after (setAx_touches.after (runTo_touches.after .refl)))))
  · split
    · refine .ite (.ite (homeDone_touches.after (emitSp_touches.after (setAx_touches.after (runTo_touches.after .refl)))) (emitSp_touches.after (setAx_touches.after (runTo_touches.after .refl)))) ?_
      refine .ite ?_ (emitSp_touches.after (setAx_touches.after (runTo_touches.after .refl)))
      split
      · exact .ite (homeFail_touches.after (.ite (cliffStep_touches.after (emitSp_touches.after (setAx_touches.after (runTo_touches.after .refl)))) (emitSp_touches.after (setAx_touches.after (runTo_touches.after .refl))))) (.ite (cliffStep_touches.after (emitSp_touches.after (setAx_touches.after (runTo_touches.after .refl)))) (emitSp_touches.after (setAx_touches.after (runTo_touches.after .refl))))
      · exact .ite (cliffStep_touches.after (emitSp_touches.after (setAx_touches.after (runTo_touches.after .refl)))) (emitSp_touches.after (setAx_touches.after (runTo_touches.after .refl)))
    · exact .ite (raise_touches.after (setAx_touches.after (emitSp_touches.after (setAx_touches.after (runTo_touches.after .refl))))) (emitSp_touches.after (setAx_touches.after (runTo_touches.after .refl)))

theorem extendPlans_touches {t : Nat} {s : State} : Touches [.axes] s (extendPlans t s) :=
  .setAxes .refl

theorem doAxisPlanStarved_touches {n : Nat} {s0 : State} : Touches [.out, .mem, .time, .harbour, .axes, .journal, .recorder] s0 (doAxisPlanStarved n s0) :=
  .ite .refl (haltAxis_touches.after (raise_touches.after (runTo_touches.after .refl)))

theorem doReverseDwell_touches {n : Nat} {s : State} : Touches [.time, .axes] s (doReverseDwell n s) := by
  unfold doReverseDwell
  dsimp only
  split
  · exact .refl
  · split
    · exact .ite (setAx_touches.after (runTo_touches.after .refl)) (startSeek_touches.after (setAx_touches.after (runTo_touches.after .refl)))
    · exact setAx_touches.after (runTo_touches.after .refl)

theorem doHomeTimeout_touches {n : Nat} {s : State} : Touches [.out, .time, .harbour, .axes, .journal, .recorder] s (doHomeTimeout n s) := by
  unfold doHomeTimeout
  split
  · exact .refl
  · exact .ite (standstill_touches.after (homeFail_touches.after (runTo_touches.after .refl))) (homeFail_touches.after (runTo_touches.after .refl))

theorem doStandstillTimer_touches {n : Nat} {s : State} : Touches [.time, .axes] s (doStandstillTimer n s) := by
  unfold doStandstillTimer
  dsimp only
  split
  · exact .ite (runTo_touches.after .refl) (setAx_touches.after (runTo_touches.after .refl))
  · exact .refl

theorem doChopperCycle_touches {n : Nat} {wb : Bool} {snsMv : Nat} {reach : Option Nat} {s : State} :
    Touches [.out, .mem, .harbour, .axes, .journal, .recorder] s (doChopperCycle n wb snsMv reach s) :=
  .ite .refl (.ite (raise_touches.after (driveFault_touches.after .refl)) (.ite (raise_touches.after (driveFault_touches.after (setAx_touches.after (emit_touches.after (setAx_touches.after .refl))))) (emit_touches.after (setAx_touches.after .refl))))

theorem homingEdge_touches {n : Nat} {hi act : Bool} {raw : Nat} {h : Homing} {s : State} :
    Touches [.out, .mem, .harbour, .axes, .journal, .recorder] s (homingEdge n hi act raw h s) := by
  unfold homingEdge
  refine .ite .refl ?_
  refine .ite ?_ (.ite .refl (.ite (haltAxis_touches.after (raise_touches.after (setAx_touches.after .refl))) .refl))
  split
  · exact setAx_touches.after .refl
  · exact setAx_touches.after .refl
  · exact .refl

theorem doLimitDebouncedEdge_touches {n : Nat} {hi high : Bool} {raw : Nat} {s0 : State} :
    Touches [.out, .mem, .time, .harbour, .axes, .journal, .recorder] s0 (doLimitDebouncedEdge n hi high raw s0) := by
  unfold doLimitDebouncedEdge
  refine .ite .refl ?_
  refine .ite (setAx_touches.after (runTo_touches.after .refl)) ?_
  refine .ite (haltAxis_touches.after (raise_touches.after (setAx_touches.after (runTo_touches.after .refl)))) ?_
  split
  · exact homingEdge_touches.after (setAx_touches.after (runTo_touches.after .refl))
  · exact .ite (haltAxis_touches.after (raise_touches.after (setAx_touches.after (setAx_touches.after (runTo_touches.after .refl))))) (setAx_touches.after (runTo_touches.after .refl))
  · exact setAx_touches.after (runTo_touches.after .refl)

theorem axisConfig_touches {p : List Byte} {s : State} : Touches [.axes] s (axisConfig p s).2 :=
  .iteSnd .refl (.iteSnd .refl (setAx_touches.after .refl))

theorem axisDriveConfig_touches {p : List Byte} {s : State} : Touches [.axes] s (axisDriveConfig p s).2 :=
  .iteSnd .refl (.iteSnd .refl (setAx_touches.after .refl))

theorem axisLimitConfig_touches {p : List Byte} {s : State} : Touches [.axes] s (axisLimitConfig p s).2 :=
  .iteSnd .refl (.iteSnd .refl (setAx_touches.after .refl))

theorem planMove_touches {n op : Nat} {goal : Int} {c : Cmd} {p : List Byte} {s : State} : Touches [.axes] s (planMove n op goal c p s).2 := by
  unfold planMove
  refine .iteSnd .refl ?_
  refine .iteSnd .refl ?_
  split
  · exact .refl
  · exact .iteSnd .refl (setAx_touches.after .refl)

theorem axisMove_touches {c : Cmd} {p : List Byte} {s : State} : Touches [.axes] s (axisMove c p s).2 := by
  unfold axisMove
  refine .iteSnd .refl ?_
  refine .iteSnd .refl ?_
  split
  · exact .refl
  · exact .refl
  · exact .refl
  · exact .refl
  · exact planMove_touches.after .refl

theorem axisStop_touches {p : List Byte} {s : State} : Touches [.out, .mem, .harbour, .axes, .journal, .recorder] s (axisStop p s).2 :=
  .iteSnd (.ok (.foldl (fun _ _ => haltAxis_touches.after .refl) .refl)) (.iteSnd .refl (.ok (haltAxis_touches.after .refl)))

theorem axisResume_touches {c : Cmd} {p : List Byte} {s : State} : Touches [.axes] s (axisResume c p s).2 :=
  .iteSnd .refl (.iteSnd .refl (.iteSnd .refl (.iteSnd .refl (planMove_touches.after .refl))))

theorem axisHome_touches {p : List Byte} {s : State} : Touches [.out, .mem, .harbour, .axes] s (axisHome p s).2 :=
  .iteSnd .refl (.iteSnd .refl (.iteSnd .refl (.iteSnd (setAx_touches.after (setEn_touches.after (setAx_touches.after (abortMoves_touches.after .refl)))) (startSeek_touches.after (setEn_touches.after (setAx_touches.after (abortMoves_touches.after .refl)))))))

theorem axisEnable_touches {p : List Byte} {s : State} : Touches [.out, .mem, .harbour, .axes] s (axisEnable p s).2 := by
  unfold axisEnable
  refine .iteSnd .refl ?_
  split
  · exact .refl
  · exact .iteSnd .refl (.iteSnd .refl (emitSp_touches.after (setEn_touches.after (setAx_touches.after .refl))))
  · exact .iteSnd (disableAxis_touches.after .refl) (.iteSnd .refl (.iteSnd .refl (emitSp_touches.after (setEn_touches.after (setAx_touches.after .refl)))))
  · exact .iteSnd (disableAxis_touches.after .refl) (.iteSnd .refl (.iteSnd .refl (emitSp_touches.after (setEn_touches.after (setAx_touches.after .refl)))))
  · exact .iteSnd .refl .refl

theorem axisSetPosition_touches {p : List Byte} {s : State} : Touches [.axes] s (axisSetPosition p s).2 :=
  .iteSnd .refl (.iteSnd .refl (setAx_touches.after .refl))

theorem axisStatus_touches {p : List Byte} {s : State} : Touches [] s (axisStatus p s).2 :=
  .iteSnd .refl .refl

theorem axisFaultClear_touches {p : List Byte} {s : State} : Touches [.harbour, .axes, .journal, .recorder] s (axisFaultClear p s).2 :=
  .iteSnd .refl (.iteSnd .refl (.iteSnd .refl (raise_touches.after (setAx_touches.after .refl))))


/-! ### Machine/Time -/

theorem doRefRestored_touches {lockUs : Nat} {s : State} : Touches [.time, .harbour, .journal, .recorder] s (doRefRestored lockUs s) :=
  .ite .refl (raise_touches.after (.setTime .refl))

theorem ppsMeasure_touches {pin : Nat} {sub : Int} {s : State} : Touches [.out, .time, .harbour, .journal, .recorder] s (ppsMeasure pin sub s) := by
  unfold ppsMeasure
  split
  · exact .refl
  · exact .ite .refl (measure_touches.after .refl)

theorem captureOn_touches {k : Nat} {falling : Bool} {dt : Nat} {s : State} : Touches [.time, .harbour, .journal, .recorder] s (captureOn k falling dt s) := by
  unfold captureOn
  split
  · exact .refl
  · exact .ite (.setTime .refl) (raise_touches.after (.setTime .refl))

theorem firmwareCapture_touches {k : Nat} {falling : Bool} {dt : Nat} {s : State} : Touches [.time, .harbour, .journal, .recorder] s (firmwareCapture k falling dt s) :=
  .setTime (captureOn_touches.after .refl)

theorem doPpsInCapture_touches {pin : Nat} {falling : Bool} {frac : Nat} {s0 : State} :
    Touches [.out, .time, .harbour, .journal, .recorder] s0 (doPpsInCapture pin falling frac s0) := by
  unfold doPpsInCapture
  split
  · exact .refl
  · exact .ite .refl (.ite (raise_touches.after (firmwareCapture_touches.after .refl)) (.ite (raise_touches.after (firmwareCapture_touches.after .refl)) (ppsMeasure_touches.after (.setTime (firmwareCapture_touches.after .refl)))))

theorem doSourceTimeout_touches {dom : Nat} {s : State} : Touches [.out, .time, .harbour, .journal, .recorder] s (doSourceTimeout dom s) :=
  .ite .refl (loseSource_touches.after (runToCyc_touches.after .refl))

theorem doDomainALockHold_touches {s : State} : Touches [.out, .time, .harbour, .journal, .recorder] s (doDomainALockHold s) := by
  unfold doDomainALockHold
  split
  · exact .ite (follow_touches.after (runToCyc_touches.after .refl)) .refl
  · exact .refl

theorem doRtcWrite_touches {s : State} : Touches [.time] s (doRtcWrite s) :=
  .ite .refl (.setTime .refl)

theorem runPps_touches {p : PpsOut} {target : Nat} {s : State} : Touches [.time] s (runPps p target s) :=
  .ite (advance_touches.after .refl) (runTo_touches.after .refl)

theorem doPpsOutArm_touches {pin : Nat} {s : State} : Touches [.time] s (doPpsOutArm pin s) := by
  unfold doPpsOutArm
  split
  · exact .refl
  · exact .ite .refl (.ite (runPps_touches.after .refl) (.setTime (runPps_touches.after .refl)))

theorem doPpsOutActiveEdge_touches {pin : Nat} {s : State} : Touches [.out, .time] s (doPpsOutActiveEdge pin s) := by
  unfold doPpsOutActiveEdge
  split
  · exact .refl
  · split
    · exact .refl
    · exact .ite (.setTime (runPps_touches.after .refl)) (ppsDrive_touches.after (.setTime (runPps_touches.after .refl)))

theorem doPpsOutInactiveEdge_touches {pin : Nat} {s : State} : Touches [.out, .time] s (doPpsOutInactiveEdge pin s) := by
  unfold doPpsOutInactiveEdge
  split
  · exact .refl
  · split
    · exact .refl
    · exact ppsDrive_touches.after (.setTime (runPps_touches.after .refl))

theorem doPpsInMissing_touches {pin : Nat} {s : State} : Touches [.time, .harbour, .journal, .recorder] s (doPpsInMissing pin s) := by
  unfold doPpsInMissing
  split
  · exact .refl
  · exact .ite .refl (raise_touches.after (.setTime (runToCyc_touches.after .refl)))

theorem doCaptureEdge_touches {input : Nat} {falling : Bool} {frac : Nat} {s : State} :
    Touches [.time, .harbour, .journal, .recorder] s (doCaptureEdge input falling frac s) :=
  .foldl (fun _ _ => captureOn_touches.after .refl) .refl

theorem gpioDrive_touches {c : CmpUnit} {active : Bool} {rel : Nat} {s : State} : Touches [.out, .time] s (gpioDrive c active rel s) :=
  emit_touches.after (.setTime .refl)

theorem doCompareRelease_touches {cu : Nat} {s : State} : Touches [.out, .time] s (doCompareRelease cu s) := by
  unfold doCompareRelease
  split
  · exact .refl
  · refine .ite .refl ?_
    refine .ite (.setTime (runTo_touches.after .refl)) ?_
    split <;> exact gpioDrive_touches.after (.setTime (runTo_touches.after .refl))

theorem doComparePulseEnd_touches {cu : Nat} {s : State} : Touches [.out, .time] s (doComparePulseEnd cu s) := by
  unfold doComparePulseEnd
  split
  · exact .refl
  · split
    · exact .refl
    · exact gpioDrive_touches.after (.setTime (runTo_touches.after .refl))

theorem quietCompares_touches {s : State} : Touches [.out, .time] s (quietCompares s) := by
  unfold quietCompares
  refine .foldl (fun _ _ => ?_) .refl
  split
  · exact .ite (gpioDrive_touches.after (.setTime .refl)) .refl
  · exact .refl

theorem dlPut_touches {k full consumer token : Nat} {s : State} : Touches [.time] s (dlPut k full consumer token s).2 :=
  .iteSnd .refl (.iteSnd .refl (.setTime .refl))

theorem alarmInsert_touches {target token : Nat} {s : State} : Touches [.time] s (alarmInsert target token s) :=
  dlPut_touches.after .refl

theorem doDelayListDelivery_touches {list : Nat} {s : State} : Touches [.time, .harbour, .journal, .recorder] s (doDelayListDelivery list s) := by
  unfold doDelayListDelivery
  split
  · exact .refl
  · exact .ite (raise_touches.after (.setTime (runTo_touches.after .refl))) (.setTime (runTo_touches.after .refl))

theorem doFullTargetArm_touches {alarm : Bool} {index : Nat} {s : State} : Touches [.time] s (doFullTargetArm alarm index s) := by
  unfold doFullTargetArm
  refine .ite ?_ ?_
  · split
    · exact .refl
    · exact .ite (runTo_touches.after .refl) (alarmInsert_touches.after (.setTime (runTo_touches.after .refl)))
  · split
    · exact .refl
    · exact .ite .refl (.setTime (runTo_touches.after .refl))

theorem noSource_touches {k : Nat} {s : State} : Touches [.out, .time, .harbour, .journal, .recorder] s (noSource k s) :=
  .ite (loseSource_touches.after .refl) .refl

theorem timeDomainConfig_touches {p : List Byte} {s : State} : Touches [.out, .time, .harbour, .journal, .recorder] s (timeDomainConfig p s).2 := by
  unfold timeDomainConfig
  dsimp only
  split
  · exact .iteSnd .refl (.iteSnd .refl (.iteSnd .refl (.ite (noSource_touches.after (setDom_touches.after .refl)) (setDom_touches.after .refl))))
  · exact .refl

theorem timeSelect_touches {p : List Byte} {s : State} : Touches [.out, .time, .harbour, .journal, .recorder] s (timeSelect p s).2 :=
  .iteSnd .refl (.iteSnd (follow_touches.after (.setTime .refl)) (reselect_touches.after (.setTime .refl)))

theorem timeMeasure_touches {p : List Byte} {s : State} : Touches [.out, .time, .harbour, .journal, .recorder] s (timeMeasure p s).2 := by
  unfold timeMeasure
  refine .iteSnd .refl ?_
  refine .iteSnd .refl ?_
  refine .iteSnd .refl ?_
  split
  · exact .refl
  · exact measure_touches.after .refl

theorem timeSet_touches {p : List Byte} {s : State} :
    Touches [.time, .harbour, .gnss, .pose, .axes, .meter, .fleet, .stop, .net, .journal, .recorder] s (timeSet p s).2 :=
  .iteSnd .refl (.iteSnd .refl (tqTest_touches.after (.setTime (stepOut_touches.after (ppsDomainStep_touches.after (ppsDomainStep_touches.after .refl))))))

theorem timePpsOutConfig_touches {p : List Byte} {s : State} : Touches [.out, .time] s (timePpsOutConfig p s).2 :=
  .iteSnd .refl (.ite (ppsDrive_touches.after (.setTime .refl)) (.setTime .refl))

theorem timePpsInConfig_touches {p : List Byte} {s : State} : Touches [.time] s (timePpsInConfig p s).2 :=
  .iteSnd .refl (.setTime .refl)

theorem timeEpochSet_touches {p : List Byte} {s : State} : Touches [.time, .harbour, .journal, .recorder] s (timeEpochSet p s).2 :=
  .iteSnd .refl (.iteSnd .refl (raise_touches.after (.setTime .refl)))

theorem timeHoldoverConfig_touches {p : List Byte} {s : State} : Touches [.time, .harbour, .journal, .recorder] s (timeHoldoverConfig p s).2 := by
  unfold timeHoldoverConfig
  split
  · exact .iteSnd .refl (tqTest_touches.after (deferStep_touches.after (.setTime .refl)))
  · exact .refl

theorem timeCaptureConfig_touches {p : List Byte} {s : State} : Touches [.time] s (timeCaptureConfig p s).2 :=
  .iteSnd .refl (.setTime .refl)

theorem timeCaptureRead_touches {p : List Byte} {s : State} : Touches [.time] s (timeCaptureRead p s).2 := by
  unfold timeCaptureRead
  dsimp only
  split
  · exact .refl
  · exact .setTime .refl

theorem timeCompareArm_touches {p : List Byte} {s : State} : Touches [.out, .time] s (timeCompareArm p s).2 :=
  .iteSnd .refl (.iteSnd .refl (.iteSnd .refl (.ite (gpioDrive_touches.after (.setTime .refl)) (.setTime .refl))))

theorem timeCompareCancel_touches {p : List Byte} {s : State} : Touches [.out, .time] s (timeCompareCancel p s).2 := by
  unfold timeCompareCancel
  dsimp only
  split
  · exact .refl
  · exact .ite (gpioDrive_touches.after (.setTime .refl)) (.setTime .refl)

theorem timeAlarmSet_touches {p : List Byte} {s : State} : Touches [.time] s (timeAlarmSet p s).2 :=
  .iteSnd .refl (.iteSnd .refl (.iteSnd .refl (.iteSnd (alarmInsert_touches.after .refl) (.setTime .refl))))


/-! ### Machine/Harbour -/

theorem pairMismatch_touches {off cause : Nat} {s : State} : Touches [.harbour, .journal, .recorder] s (pairMismatch off cause s) :=
  raise_touches.after .refl

theorem pairBreak_touches {s : State} : Touches [.harbour, .journal, .recorder] s (pairBreak s) := by
  unfold pairBreak
  split
  · exact .refl
  · exact pairMismatch_touches.after (.setHarbour .refl)

theorem barWrite_touches {F : List Part} {f : State → State} {s : State} (hf : ∀ t, Touches F t (f t)) (hF : [.harbour, .journal, .recorder] ⊆ F := by decide) :
    Touches F s (barWrite f s) :=
  .ite ((hf _).after (pairBreak_touches.after .refl hF) (List.Subset.refl F)) (pairBreak_touches.after .refl hF)

theorem doPairValueWrite_touches {off : Nat} {v : Word} {s : State} : Touches [.harbour, .journal, .recorder] s (doPairValueWrite off v s) := by
  unfold doPairValueWrite
  refine .ite .refl ?_
  refine .setHarbour ?_
  split
  · exact .refl
  · exact pairMismatch_touches.after .refl

theorem doPairTimeout_touches {s : State} : Touches [.time, .harbour, .journal, .recorder] s (doPairTimeout s) := by
  unfold doPairTimeout
  split
  · exact .refl
  · exact pairMismatch_touches.after (.setHarbour (runToCyc_touches.after .refl))

theorem pairComplement_touches {off : Nat} {x : Word} {s : State} : Touches [.harbour, .journal, .recorder] s (pairComplement off x s).2 := by
  unfold pairComplement
  split
  · exact pairMismatch_touches.after .refl
  · exact .iteSnd (pairMismatch_touches.after (pairMismatch_touches.after (.setHarbour .refl))) (.iteSnd (pairMismatch_touches.after (pairMismatch_touches.after (.setHarbour .refl))) (.iteSnd (.setHarbour .refl) (pairMismatch_touches.after (.setHarbour .refl))))

theorem doRoleNext_touches {x : Word} {s : State} : Touches [.harbour, .journal, .recorder] s (doRoleNext x s) := by
  unfold doRoleNext
  split
  next h => exact .ofSnd h (pairComplement_touches.after .refl)
  next s1 h =>
    have h1 : Touches [.harbour, .journal, .recorder] s s1 := .ofSnd h (pairComplement_touches.after .refl)
    refine .ite (pairMismatch_touches.after h1) ?_
    split
    next h' => exact .ofSnd h' (journalPut_touches.after h1)
    next h' => exact pairMismatch_touches.after (.ofSnd h' (journalPut_touches.after h1))

theorem protocolError_touches {n cause slot : Nat} {s : State} : Touches [.harbour, .journal, .recorder] s (protocolError n cause slot s) :=
  .ite .refl (raise_touches.after (setMbx_touches.after .refl))

theorem doMbxDoorbell_touches {n slot : Nat} {read : Option (List Byte)} {s0 : State} :
    Touches [.out, .mem, .harbour, .journal, .recorder] s0 (doMbxDoorbell n slot read s0) := by
  unfold doMbxDoorbell
  dsimp only
  refine .ite (pairBreak_touches.after .refl) ?_
  refine .ite (protocolError_touches.after (pairBreak_touches.after .refl)) ?_
  refine .ite (protocolError_touches.after (pairBreak_touches.after .refl)) ?_
  refine .ite (protocolError_touches.after (pairBreak_touches.after .refl)) ?_
  refine .ite (protocolError_touches.after (pairBreak_touches.after .refl)) ?_
  refine .ite (releaseAll_touches.after (.setHarbour (setMbx_touches.after (pairBreak_touches.after .refl)))) ?_
  split
  · exact raise_touches.after (setMbx_touches.after (pairBreak_touches.after .refl))
  · exact releaseAll_touches.after (.setHarbour (setMbx_touches.after (pairBreak_touches.after .refl)))

theorem resend_touches {bitNo : Nat} {was s : State} : Touches [.out] s (resend bitNo was s) :=
  sendMsi_touches.after .refl

theorem doMbxAck_touches {n : Nat} {v : Word} {s : State} : Touches [.out, .harbour, .journal, .recorder] s (doMbxAck n v s) :=
  barWrite_touches fun _ => resend_touches.after (setMbx_touches.after .refl)

theorem doEvtAck_touches {v : Word} {s : State} : Touches [.out, .harbour, .journal, .recorder] s (doEvtAck v s) :=
  barWrite_touches fun _ => resend_touches.after (.setHarbour .refl)

theorem doMbxCfgWrite_touches {n : Nat} {v : Word} {s : State} : Touches [.harbour, .journal, .recorder] s (doMbxCfgWrite n v s) :=
  barWrite_touches fun _ => setMbx_touches.after .refl

theorem s0Discard_touches {cause : Nat} {s : State} : Touches [.harbour, .journal, .recorder] s (s0Discard cause s) :=
  raiseIf_touches.after (.setHarbour .refl)

theorem s0Word_touches {v : Word} {s : State} : Touches [.harbour, .journal, .recorder] s (s0Word v s) :=
  .ite .refl (.ite (.setHarbour (s0Discard_touches.after .refl)) (.setHarbour .refl))

theorem s0End_touches {v : Word} {s : State} : Touches [.harbour, .journal, .recorder] s (s0End v s) :=
  .ite .refl (.ite (.setHarbour .refl) (.ite (s0Discard_touches.after .refl) (.ite (s0Discard_touches.after .refl) (.setHarbour .refl))))

theorem takeS0_touches {ty : Nat} {p : Packet} {s u : State} (h : takeS0 ty s = some (p, u)) : Touches [.harbour] s u := by
  unfold takeS0 at h
  dsimp only at h
  split at h
  · cases h
  · split at h
    · cases h
    · cases h; exact .setHarbour .refl

theorem s0Reject_touches {s : State} : Touches [.harbour] s (s0Reject s) :=
  .setHarbour .refl

theorem s1Read_touches {s : State} : Touches [.harbour] s (s1Read s) := by
  unfold s1Read
  dsimp only
  split <;> exact .setHarbour .refl

theorem streamClear_touches {stream : Nat} {s : State} : Touches [.harbour] s (streamClear stream s) :=
  .ite (.ite .refl (.setHarbour .refl)) (.ite .refl (.setHarbour .refl))

theorem streamAbort_touches {s : State} : Touches [.harbour, .journal, .recorder] s (streamAbort s) :=
  .setHarbour (.ite .refl (s0Discard_touches.after .refl))

theorem streamDrop_touches {s : State} : Touches [.harbour] s (streamDrop s) :=
  .ite .refl (.setHarbour .refl)

theorem doPacketAge_touches {s : State} : Touches [.time] s (doPacketAge s) := by
  unfold doPacketAge
  split
  · exact .refl
  · exact runTo_touches.after .refl

theorem regWrite_touches {off : Nat} {v : Word} {s : State} : Touches [.out, .harbour, .journal, .recorder] s (regWrite off v s) :=
  .ite (.setHarbour .refl) (.ite (.setHarbour .refl) (.ite (resend_touches.after (.setHarbour .refl)) (.ite (.ite (.ite .refl (setMbx_touches.after .refl)) (.ite (.ite .refl (setMbx_touches.after .refl)) (.ite (setMbx_touches.after .refl) .refl))) (.ite (resend_touches.after (setMbx_touches.after .refl)) (.ite (.ite (streamAbort_touches.after (.ite (streamClear_touches.after (.setHarbour .refl)) (.setHarbour .refl))) (.ite (streamClear_touches.after (.setHarbour .refl)) (.setHarbour .refl))) (.ite (.ite (streamDrop_touches.after (.ite (streamClear_touches.after (.setHarbour .refl)) (.setHarbour .refl))) (.ite (streamClear_touches.after (.setHarbour .refl)) (.setHarbour .refl))) (.ite (.setHarbour .refl) (.ite (.setHarbour .refl) (.ite (.ite (.setHarbour .refl) .refl) (.ite (s0End_touches.after .refl) (.ite (s0Word_touches.after .refl) (.ite (.setHarbour .refl) (.ite (.setHarbour .refl) .refl)))))))))))))

theorem doPcieLinkChange_touches {up : Bool} {rate lanes : Nat} {s : State} : Touches [.harbour, .journal, .recorder] s (doPcieLinkChange up rate lanes s) :=
  .ite .refl (raise_touches.after (.setHarbour .refl))

theorem sysNop_touches {c : Cmd} {p : List Byte} {s : State} : Touches [.harbour] s (sysNop c p s).2 :=
  .iteSnd .refl (.iteSnd .refl (.setHarbour .refl))

theorem doSysNopDelay_touches {mbx slot : Nat} {s : State} : Touches [.out, .mem, .time, .harbour] s (doSysNopDelay mbx slot s) := by
  unfold doSysNopDelay
  split
  · exact .refl
  · exact complete_touches.after (.setHarbour (runToCyc_touches.after .refl))


/-! ### Machine/Vexlink -/

theorem setVx_touches {n : Nat} {f : VxPort → VxPort} {s : State} : Touches [.net] s (setVx n f s) :=
  .setNet .refl

theorem vxSend_touches {n : Nat} {m : VxMsg} {s : State} : Touches [.out] s (vxSend n m s) :=
  emit_touches.after .refl

theorem winCheck_touches {origin type seq : Nat} {ack : Bool} {s : State} : Touches [.net] s (winCheck origin type seq ack s).2 := by
  unfold winCheck
  split <;> exact .setNet .refl

theorem keepReliable_touches {n : Nat} {m : VxMsg} {s : State} : Touches [.net] s (keepReliable n m s) :=
  .ite (.setNet .refl) .refl

theorem vxSendOn_touches {ports : List Nat} {m : VxMsg} {s : State} : Touches [.out, .net] s (vxSendOn ports m s) :=
  .foldl (fun _ _ => keepReliable_touches.after (vxSend_touches.after .refl)) .refl

theorem vxOriginate_touches {ports : List Nat} {type : Nat} {ack : Bool} {body : List Byte} {s : State} : Touches [.out, .net] s (vxOriginate ports type ack body s) :=
  vxSendOn_touches.after (.setNet .refl)

theorem vxFlood_touches {n : Nat} {m : VxMsg} {fwd : List Nat} {s : State} : Touches [.out, .harbour, .net, .journal, .recorder] s (vxFlood n m fwd s).2 := by
  unfold vxFlood
  lift_lets
  extract_lets ackd
  have hackd : Touches [.out, .harbour, .net, .journal, .recorder] s ackd := .ite (vxSend_touches.after .refl) .refl
  exact .iteSnd .refl (.iteSnd (.iteSnd (raise_touches.after hackd) hackd) (.iteSnd (.setNet (winCheck_touches.after hackd)) (.iteSnd (.setNet (winCheck_touches.after hackd)) (vxSendOn_touches.after (.setNet (winCheck_touches.after hackd))))))

theorem relAccept_touches {m : VxMsg} {s : State} : Touches [.net] s (relAccept m s).2 := by
  unfold relAccept
  split
  · exact .setNet .refl
  · exact .iteSnd .refl (.setNet .refl)

theorem doSymbolLock_touches {n : Nat} {s : State} : Touches [.net] s (doSymbolLock n s) :=
  .ite .refl (setVx_touches.after .refl)

theorem reparent_touches {s : State} : Touches [.harbour, .net, .journal, .recorder] s (reparent s) :=
  .ite .refl (raise_touches.after (.setNet .refl))

theorem doVxLinkDown_touches {n cause : Nat} {s : State} : Touches [.harbour, .net, .journal, .recorder] s (doVxLinkDown n cause s) :=
  .ite .refl (reparent_touches.after (raise_touches.after (setVx_touches.after .refl)))

theorem doVexlinkBlock_touches {n : Nat} {b : List Byte} {s : State} : Touches [.out, .net] s (doVexlinkBlock n b s) := by
  unfold doVexlinkBlock
  lift_lets
  extract_lets _ _ _ _ _ _ _ _ _ s1 _ _ s3 _
  have hs1 : Touches [.out, .net] s s1 := .ite (.foldl (fun _ _ => emit_touches.after .refl) .refl) .refl
  have hs3 : Touches [.out, .net] s s3 := .ite (.setNet (setVx_touches.after hs1)) (setVx_touches.after hs1)
  exact .ite .refl (.ite (setVx_touches.after .refl) (.ite .refl (.ite (.setNet hs3) hs3)))

theorem idClash_touches {n : Nat} {s : State} : Touches [.harbour, .journal, .recorder] s (idClash n s) :=
  raise_touches.after .refl

theorem doDelayReqTimer_touches {n : Nat} {s : State} : Touches [.out, .time, .net] s (doDelayReqTimer n s) :=
  .ite .refl (vxSend_touches.after (setVx_touches.after (runToCyc_touches.after .refl)))

theorem doDelayReq_touches {n origin frac : Nat} {s : State} : Touches [.out, .harbour, .net, .journal, .recorder] s (doDelayReq n origin frac s) :=
  .ite .refl (.ite (idClash_touches.after .refl) (vxSend_touches.after (setVx_touches.after .refl)))

theorem doDelayResp_touches {n : Nat} {m : VxMsg} {frac : Nat} {s : State} : Touches [.harbour, .net, .journal, .recorder] s (doDelayResp n m frac s) := by
  unfold doDelayResp
  dsimp only
  split
  · exact .refl
  · exact .ite .refl (.ite (idClash_touches.after .refl) (.ite (raise_touches.after (setVx_touches.after .refl)) (setVx_touches.after .refl)))

theorem doTimeSendTimer_touches {s : State} : Touches [.out, .time, .net] s (doTimeSendTimer s) :=
  .foldl (fun _ _ => setVx_touches.after (vxSend_touches.after .refl)) (.ite (runTo_touches.after .refl) (.setNet (runTo_touches.after .refl)))

theorem rootConflict_touches {origin type n : Nat} {s : State} : Touches [.harbour, .net, .journal, .recorder] s (rootConflict origin type n s) :=
  raiseIf_touches.after (.setNet .refl)

theorem depthCheck_touches {s : State} : Touches [.harbour, .net, .journal, .recorder] s (depthCheck s) :=
  raiseIf_touches.after (.setNet .refl)

theorem doTimeMessage_touches {n : Nat} {m : VxMsg} {frac : Nat} {s : State} :
    Touches [.out, .time, .harbour, .net, .journal, .recorder] s (doTimeMessage n m frac s) := by
  unfold doTimeMessage
  dsimp only
  refine .ite .refl ?_
  refine .ite (idClash_touches.after .refl) ?_
  refine .ite (.ite (rootConflict_touches.after (.setNet .refl)) .refl) ?_
  refine .ite (.setNet .refl) ?_
  refine .ite (reparent_touches.after (.setNet (setVx_touches.after .refl))) ?_
  refine .ite (depthCheck_touches.after (reparent_touches.after (setVx_touches.after .refl))) ?_
  split
  · exact .ite (.setTime (depthCheck_touches.after (reparent_touches.after (setVx_touches.after .refl)))) (measure_touches.after (.setTime (depthCheck_touches.after (reparent_touches.after (setVx_touches.after .refl)))))
  · exact .setTime (depthCheck_touches.after (reparent_touches.after (setVx_touches.after .refl)))

theorem doAckMessage_touches {n : Nat} {m : VxMsg} {s : State} : Touches [.harbour, .net, .journal, .recorder] s (doAckMessage n m s) :=
  .ite (idClash_touches.after .refl) (.setNet .refl)

theorem doReliableRetry_touches {port index : Nat} {s : State} : Touches [.out, .time, .net] s (doReliableRetry port index s) := by
  unfold doReliableRetry
  split
  · exact .refl
  · refine .ite ?_ (setVx_touches.after (.setNet (runToCyc_touches.after .refl)))
    split
    · exact vxSend_touches.after (.setNet (runToCyc_touches.after .refl))
    · exact .setNet (runToCyc_touches.after .refl)

theorem deliverHost_touches {m : VxMsg} {s : State} : Touches [.harbour, .journal, .recorder] s (deliverHost m s) :=
  sendS1_touches.after .refl

theorem doHostMsg_touches {n : Nat} {m : VxMsg} {s : State} : Touches [.out, .harbour, .net, .journal, .recorder] s (doHostMsg n m s) :=
  .ite (vxFlood_touches.after .refl) (.ite (.foldl (fun _ _ => deliverHost_touches.after .refl) (relAccept_touches.after (vxFlood_touches.after .refl))) (deliverHost_touches.after (vxFlood_touches.after .refl)))

theorem doCorrMessage_touches {n : Nat} {m : VxMsg} {s : State} : Touches [.out, .harbour, .net, .journal, .recorder] s (doCorrMessage n m s) :=
  .ite (sendS1_touches.after (vxFlood_touches.after .refl)) (vxFlood_touches.after .refl)

theorem doVxMsgPacket_touches {s : State} : Touches [.out, .harbour, .net] s (doVxMsgPacket s) := by
  unfold doVxMsgPacket
  split
  · exact .refl
  next h =>
    have hs := takeS0_touches h
    exact .ite (s0Reject_touches.after (hs.after .refl)) (vxOriginate_touches.after (hs.after .refl))

theorem netVxConfig_touches {p : List Byte} {s : State} : Touches [.harbour, .net, .journal, .recorder] s (netVxConfig p s).2 := by
  unfold netVxConfig
  refine .iteSnd .refl ?_
  refine .iteSnd .refl ?_
  split
  next s1 h =>
    exact .ofSnd h (journalPut_touches.after .refl)
  next s1 h =>
    exact .setNet (.ofSnd h (journalPut_touches.after .refl))


/-! ### Machine/Stop -/

theorem stopOriginate_touches {s : State} : Touches [.out, .net] s (stopOriginate s) :=
  vxOriginate_touches.after .refl

theorem stopTide_touches {s : State} : Touches [.out, .net] s (stopTide s) :=
  .ite (stopOriginate_touches.after .refl) .refl

theorem startBurst_touches {s : State} : Touches [.fleet] s (startBurst s) :=
  .ite (.setFleet .refl) .refl

theorem stopEnter_touches {src : Nat} {s : State} : Touches [.stop] s (stopEnter src s) :=
  .setStop .refl

theorem stopRegister_touches {src : Nat} {s : State} : Touches [.out, .mem, .time, .harbour, .axes, .fleet, .stop, .net, .journal, .recorder] s (stopRegister src s) :=
  .ite (startBurst_touches.after (quietCompares_touches.after (haltAxes_touches.after (raise_touches.after (stopEnter_touches.after .refl))))) (stopOriginate_touches.after (startBurst_touches.after (quietCompares_touches.after (haltAxes_touches.after (raise_touches.after (stopEnter_touches.after .refl))))))

theorem stopSource_touches {src : Nat} {s : State} : Touches [.out, .mem, .time, .harbour, .axes, .fleet, .stop, .net, .journal, .recorder] s (stopSource src s) :=
  .ite .refl (stopRegister_touches.after .refl)

theorem stopToClear_touches {cause : Nat} {s : State} : Touches [.harbour, .stop, .journal, .recorder] s (stopToClear cause s) :=
  raise_touches.after (.setStop .refl)

theorem stopEnd_touches {src : Nat} {s : State} : Touches [.harbour, .stop, .journal, .recorder] s (stopEnd src s) := by
  unfold stopEnd
  split
  · exact .refl
  · exact .ite (.ite (stopToClear_touches.after (raise_touches.after (.setStop .refl))) (.setStop (raise_touches.after (.setStop .refl)))) (raise_touches.after (.setStop .refl))

theorem doStopInRegister_touches {aLow bLow : Bool} {s : State} :
    Touches [.out, .mem, .time, .harbour, .axes, .fleet, .stop, .net, .journal, .recorder] s (doStopInRegister aLow bLow s) :=
  .ite .refl (stopSource_touches.after (.ite (firmwareCapture_touches.after (.ite (firmwareCapture_touches.after (.setStop .refl)) (.setStop .refl))) (.ite (firmwareCapture_touches.after (.setStop .refl)) (.setStop .refl))))

theorem doStopInRelease_touches {s : State} : Touches [.time, .harbour, .stop, .journal, .recorder] s (doStopInRelease s) :=
  .ite (.ite (firmwareCapture_touches.after (.ite (firmwareCapture_touches.after (.setStop .refl)) (.setStop .refl))) (.ite (firmwareCapture_touches.after (.setStop .refl)) (.setStop .refl))) (stopEnd_touches.after (.setStop (.ite (firmwareCapture_touches.after (.ite (firmwareCapture_touches.after (.setStop .refl)) (.setStop .refl))) (.ite (firmwareCapture_touches.after (.setStop .refl)) (.setStop .refl)))))

theorem doStopDiscrepancy_touches {b : Bool} {s : State} :
    Touches [.out, .mem, .time, .harbour, .axes, .fleet, .stop, .net, .journal, .recorder] s (doStopDiscrepancy b s) := by
  unfold doStopDiscrepancy
  refine .ite ?_ ?_
  · split
    · exact runToCyc_touches.after .refl
    · exact .refl
  · refine stopSource_touches.after ?_
    refine raise_touches.after ?_
    refine .setStop ?_
    split
    · exact runToCyc_touches.after .refl
    · exact .refl

theorem doStopMessage_touches {n : Nat} {m : VxMsg} {s : State} :
    Touches [.out, .mem, .time, .harbour, .axes, .fleet, .stop, .net, .journal, .recorder] s (doStopMessage n m s) :=
  .ite .refl (.ite (vxFlood_touches.after .refl) (.ite (stopRegister_touches.after (.setStop (vxFlood_touches.after .refl))) (.setStop (vxFlood_touches.after .refl))))

theorem doVexlinkStopTimeout_touches {s : State} : Touches [.time, .harbour, .stop, .journal, .recorder] s (doVexlinkStopTimeout s) :=
  .ite .refl (stopEnd_touches.after (.setStop (runTo_touches.after .refl)))

theorem stopClear_touches {p : List Byte} {s : State} : Touches [.harbour, .stop, .journal, .recorder] s (stopClear p s).2 := by
  unfold stopClear
  split
  · exact .iteSnd .refl .refl
  · exact stopToClear_touches.after (stopEnd_touches.after .refl)
  · exact .refl

theorem stopConfig_touches {p : List Byte} {s : State} : Touches [.votes] s (stopConfig p s).2 :=
  .iteSnd .refl (.iteSnd .refl (.setVotes .refl))


/-! ### Machine/Vault -/

theorem countUse_touches {n : Nat} {s : State} : Touches [.sec] s (countUse n s) :=
  .setSec .refl

theorem drawBytes_touches {n : Nat} {s : State} : Touches [.freeCtr] s (drawBytes n s).2 :=
  draw_touches.after .refl

theorem writeSlot_touches {n : Nat} {k0 : KeySlot} {s : State} : Touches [.freeCtr, .harbour, .sec, .journal, .recorder] s (writeSlot n k0 s).2 := by
  unfold writeSlot
  dsimp only
  exact .iteSnd (.iteSnd (.setSec (journalPut_touches.after (drawBytes_touches.after .refl))) (journalPut_touches.after (drawBytes_touches.after .refl))) (.setSec .refl)

theorem revokeSlots_touches {ns : List Nat} {s : State} : Touches [.freeCtr, .harbour, .sec, .journal, .recorder] s (revokeSlots ns s) := by
  unfold revokeSlots
  dsimp only
  refine .foldl (fun _ _ => ?_) .refl
  split
  · exact .ite (journalLog_touches.after (drawBytes_touches.after (.setSec .refl))) (.setSec .refl)
  · exact .setSec .refl

theorem journalDelete_touches {type key : Nat} {s : State} : Touches [.harbour, .journal, .recorder] s (journalDelete type key s) :=
  journalLog_touches.after .refl

theorem wipeSlot_touches {n : Nat} {s : State} : Touches [.freeCtr, .harbour, .sec, .journal, .recorder] s (wipeSlot n s) :=
  revokeSlots_touches.after (.ite (journalDelete_touches.after (.setSec .refl)) (.setSec .refl))

theorem wipeVault_touches {s : State} : Touches [.sec] s (wipeVault s) :=
  .setSec .refl


/-! ### Machine/FleetOps -/

theorem radioSend_touches {k slot half start ty dst : Nat} {ackReq retx : Bool} {seq ackSeq ackMap : Nat} {payload : List Byte} {s : State} :
    Touches [.out] s (radioSend k slot half start ty dst ackReq retx seq ackSeq ackMap payload s) := by
  unfold radioSend
  split
  · exact .refl
  · exact emit_touches.after (emit_touches.after (emit_touches.after .refl))

theorem setPeer_touches {a : Nat} {f : Peer → Peer} {s : State} : Touches [.fleet] s (setPeer a f s) :=
  .ite (.setFleet .refl) (.setFleet .refl)

theorem msgFailed_touches {token a cause : Nat} {s : State} : Touches [.harbour, .journal, .recorder] s (msgFailed token a cause s) :=
  raise_touches.after .refl

theorem queueMsg_touches {a port : Nat} {rel : Bool} {token : Nat} {data : List Byte} {s : State} :
    Touches [.harbour, .fleet, .journal, .recorder] s (queueMsg a port rel token data s) :=
  .ite (msgFailed_touches.after .refl) (setPeer_touches.after .refl)

theorem takeFrag_touches {a sf room : Nat} {s : State} : Touches [.fleet] s (takeFrag a sf room s).2 := by
  unfold takeFrag
  dsimp only
  split
  · exact .snd (setPeer_touches.after .refl)
  · split
    · exact .refl
    · exact .iteSnd .refl (.snd (setPeer_touches.after .refl))

theorem resolve_touches {a : Nat} {late : FragOut → Bool} {count : Bool} {s : State} : Touches [.harbour, .fleet, .journal, .recorder] s (resolve a late count s) :=
  .foldl (fun _ _ => msgFailed_touches.after .refl) (setPeer_touches.after .refl)

theorem ackPeer_touches {a ackSeq ackMap sf : Nat} {count : Bool} {s : State} : Touches [.harbour, .fleet, .journal, .recorder] s (ackPeer a ackSeq ackMap sf count s) :=
  resolve_touches.after (setPeer_touches.after .refl)

theorem peerWin_touches {a seq : Nat} {s : State} : Touches [.fleet] s (peerWin a seq s).2 := by
  unfold peerWin
  dsimp only
  exact .iteSnd (.snd (setPeer_touches.after .refl)) (.setFleet (setPeer_touches.after .refl))

theorem addFrag_touches {a sf : Nat} {b : List Byte} {s : State} : Touches [.fleet] s (addFrag a sf b s).2 := by
  unfold addFrag
  dsimp only
  exact .iteSnd (.snd (setPeer_touches.after .refl)) (.snd (setPeer_touches.after .refl))

theorem radioMsgUp_touches {port a : Nat} {rel : Bool} {id sf : Nat} {data : List Byte} {s : State} :
    Touches [.harbour, .journal, .recorder] s (radioMsgUp port a rel id sf data s) :=
  sendS1_touches.after .refl

theorem corrSetReady_touches {set : Nat} {bytes : List Byte} {s : State} : Touches [.harbour, .fleet, .journal, .recorder] s (corrSetReady set bytes s) :=
  .ite .refl (raiseIf_touches.after (.setFleet .refl))


/-! ### Machine/Signals -/

theorem setStream_touches {n : Nat} {f : IfStream → IfStream} {s : State} : Touches [.gnss] s (setStream n f s) :=
  .setGnss .refl

theorem ephUnit_touches {sig sv gloK unit iod : Nat} {data : List Byte} {s : State} : Touches [.gnss] s (ephUnit sig sv gloK unit iod data s) :=
  .ite .refl (.ite (.setGnss .refl) (.setGnss .refl))


/-! ### Machine/Pose -/

theorem setIntegrity_touches {ok : Bool} {cause : Nat} {r : PoseRec} {s : State} : Touches [.harbour, .pose, .journal, .recorder] s (setIntegrity ok cause r s) :=
  .ite (.setPose .refl) (.ite (raise_touches.after (.setPose .refl)) (raise_touches.after (.setPose .refl)))

theorem masterBoundary_touches {t : Nat} {s : State} : Touches [.out, .harbour, .pose, .net, .journal, .recorder] s (masterBoundary t s) :=
  .ite (vxOriginate_touches.after (.setPose (setIntegrity_touches.after (.setPose .refl)))) (.setPose (setIntegrity_touches.after (.setPose .refl)))

theorem followerBoundary_touches {s : State} : Touches [.harbour, .pose, .journal, .recorder] s (followerBoundary s) :=
  .setPose (.ite (setIntegrity_touches.after (.setPose .refl)) (.ite (setIntegrity_touches.after (.setPose .refl)) (.setPose .refl)))

theorem poseBoundary_touches {t : Nat} {s : State} : Touches [.out, .harbour, .pose, .net, .journal, .recorder] s (poseBoundary t s) :=
  .ite .refl (.ite (followerBoundary_touches.after .refl) (masterBoundary_touches.after .refl))

theorem doPoseMessage_touches {n : Nat} {m : VxMsg} {s : State} : Touches [.out, .harbour, .pose, .cell, .net, .journal, .recorder] s (doPoseMessage n m s) := by
  unfold doPoseMessage
  dsimp only
  refine .ite (vxFlood_touches.after .refl) ?_
  refine .ite (rootConflict_touches.after (.setNet (vxFlood_touches.after .refl))) ?_
  refine .ite (.setNet (vxFlood_touches.after .refl)) ?_
  split
  · exact .setPose (vxFlood_touches.after .refl)
  · exact .ite (.setPose (vxFlood_touches.after .refl)) (.ite (raise_touches.after (.setPose (vxFlood_touches.after .refl))) (armCells_touches.after (.setPose (setIntegrity_touches.after (.setPose (vxFlood_touches.after .refl))))))

theorem doEpochLate_touches {t : Nat} {s : State} : Touches [.time, .harbour, .pose, .journal, .recorder] s (doEpochLate t s) :=
  raise_touches.after (.setPose (runTo_touches.after .refl))

theorem headingLost_touches {src : Nat} {s : State} : Touches [.harbour, .pose, .journal, .recorder] s (headingLost src s) :=
  raiseIf_touches.after (.setPose .refl)

theorem releaseFix_touches {cause : Nat} {s : State} : Touches [.harbour, .pose, .journal, .recorder] s (releaseFix cause s) :=
  raiseIf_touches.after (.setPose .refl)

theorem applyReset_touches {sol : EpochSol} {s : State} : Touches [.harbour, .pose, .journal, .recorder] s (applyReset sol s) := by
  unfold applyReset
  split
  · exact .refl
  · exact .ite (.setPose (raises_touches.after (.setPose .refl))) (raises_touches.after (.setPose .refl))

theorem holdFix_touches {resid : Nat} {ds : List DD} {s : State} : Touches [.harbour, .pose, .journal, .recorder] s (holdFix resid ds s) :=
  .ite (releaseFix_touches.after (.setPose (.setPose .refl))) (.ite (releaseFix_touches.after (.setPose (.setPose .refl))) (.setPose (.setPose .refl)))

theorem searchFix_touches {res : List SearchRes} {ds : List DD} {s : State} : Touches [.harbour, .pose, .journal, .recorder] s (searchFix res ds s) := by
  unfold searchFix
  dsimp only
  split
  · exact .setPose .refl
  · exact .ite (raise_touches.after (.setPose .refl)) (.setPose .refl)

theorem fixStep_touches {sol : EpochSol} {ds : List DD} {s : State} : Touches [.harbour, .pose, .journal, .recorder] s (fixStep sol ds s) :=
  .ite (.ite (releaseFix_touches.after (.setPose .refl)) (.setPose .refl)) (.ite (holdFix_touches.after .refl) (searchFix_touches.after .refl))

theorem noCarrier_touches {avail : Nat} {s : State} : Touches [.harbour, .pose, .journal, .recorder] s (noCarrier avail s) :=
  .setPose (.ite (releaseFix_touches.after .refl) .refl)

theorem epochMarks_touches {used : List Obs} {s : State} : Touches [.pose] s (epochMarks used s) :=
  .setPose .refl

theorem headStep_touches {sol : EpochSol} {s : State} : Touches [.harbour, .pose, .journal, .recorder] s (headStep sol s) :=
  .ite (raiseIf_touches.after (.setPose .refl)) (headingLost_touches.after .refl)

theorem fuse_touches {sol : EpochSol} {s : State} : Touches [.pose] s (fuse sol s) :=
  .setPose .refl

theorem applyEpoch_touches {sol : EpochSol} {s : State} : Touches [.harbour, .pose, .journal, .recorder] s (applyEpoch sol s) :=
  .setPose (epochMarks_touches.after (fuse_touches.after (headStep_touches.after (.setPose (.ite (fixStep_touches.after (.setPose (.setPose .refl))) (noCarrier_touches.after (.setPose .refl)))))))

theorem doEpoch_touches {sol : EpochSol} {s : State} : Touches [.time, .harbour, .pose, .journal, .recorder] s (doEpoch sol s) :=
  .ite .refl (.ite (doEpochLate_touches.after .refl) (.ite (.setPose (applyReset_touches.after .refl)) (applyEpoch_touches.after (.setPose (applyReset_touches.after .refl)))))

theorem doDrStart_touches {s : State} : Touches [.time, .harbour, .pose, .journal, .recorder] s (doDrStart s) := by
  unfold doDrStart
  split
  · exact .refl
  · exact .ite .refl (.ite (headingLost_touches.after (raise_touches.after (.setPose (runTo_touches.after .refl)))) (setIntegrity_touches.after (.setPose (headingLost_touches.after (raise_touches.after (.setPose (runTo_touches.after .refl)))))))

theorem doDrLimit_touches {s : State} : Touches [.time, .harbour, .pose, .journal, .recorder] s (doDrLimit s) := by
  unfold doDrLimit
  split
  · exact .refl
  · exact .ite .refl (raise_touches.after (.setPose (runTo_touches.after .refl)))

theorem poseEpochTick_touches {t : Nat} {s : State} : Touches [.harbour, .pose, .journal, .recorder] s (poseEpochTick t s) :=
  .ite (.ite (sendS1_touches.after (.setPose .refl)) (.setPose .refl)) (.foldl (fun _ _ => sendS1_touches.after .refl) (.ite (sendS1_touches.after (.setPose .refl)) (.setPose .refl)))

theorem baseChanged_touches {old new : Nat} {s : State} : Touches [.harbour, .pose, .journal, .recorder] s (baseChanged old new s) :=
  raise_touches.after (.setPose (releaseFix_touches.after .refl))

theorem tryLock_touches {id : Nat} {s : State} : Touches [.harbour, .pose, .journal, .recorder] s (tryLock id s) := by
  unfold tryLock
  refine .ite .refl ?_
  split
  · exact .setPose .refl
  · exact .ite (.setPose .refl) (baseChanged_touches.after (.setPose .refl))

theorem feedRtcm_touches {p : List Byte} {s : State} : Touches [.harbour, .pose, .journal, .recorder] s (feedRtcm p s) :=
  .ite (tryLock_touches.after (.ite (.ite (baseChanged_touches.after (.setPose (.setPose .refl))) (.setPose (.setPose .refl))) (.setPose .refl))) (.ite (.ite (.ite (.setPose (.ite (.setPose (tryLock_touches.after (.setPose .refl))) (tryLock_touches.after (.setPose .refl)))) (.ite (.setPose (tryLock_touches.after (.setPose .refl))) (tryLock_touches.after (.setPose .refl)))) (tryLock_touches.after (.setPose .refl))) (.ite (.setPose .refl) .refl))

theorem rtcmTake_touches {host : Bool} {f : List Byte} {s : State} : Touches [.harbour, .pose, .journal, .recorder] s (rtcmTake host f s) := by
  unfold rtcmTake
  refine .ite .refl ?_
  split
  · exact .setPose .refl
  · exact .ite (.setPose .refl) (feedRtcm_touches.after (.ite (sendS1_touches.after .refl) .refl))

theorem doRtcmFrame_touches {host : Bool} {s : State} : Touches [.harbour, .pose, .journal, .recorder] s (doRtcmFrame host s) := by
  unfold doRtcmFrame
  refine .ite .refl (.ite ?_ ?_)
  · split
    · exact .refl
    next h => exact rtcmTake_touches.after ((takeS0_touches h).after .refl)
  · split
    · exact .refl
    · exact rtcmTake_touches.after (.setPose .refl)

theorem doCorrStale_touches {s : State} : Touches [.time, .harbour, .pose, .journal, .recorder] s (doCorrStale s) := by
  unfold doCorrStale
  split
  · exact .refl
  · exact .ite .refl (raise_touches.after (.setPose (runTo_touches.after .refl)))

theorem imuTransactions_touches {c : List Byte} {s : State} : Touches [.out] s (imuTransactions c s) :=
  .foldl (fun _ _ => emit_touches.after .refl) .refl

theorem doImuSample_touches {d : List Byte} {nav : Nav} {s : State} : Touches [.out, .time, .harbour, .pose, .journal, .recorder] s (doImuSample d nav s) := by
  unfold doImuSample
  split
  · exact .refl
  · refine raiseIf_touches.after ?_
    split
    · exact .ite (.setPose (firmwareCapture_touches.after (imuTransactions_touches.after .refl))) (.setPose (.setPose (firmwareCapture_touches.after (imuTransactions_touches.after .refl))))
    · exact .setPose (firmwareCapture_touches.after (imuTransactions_touches.after .refl))

theorem doImuLost_touches {s : State} : Touches [.time, .harbour, .pose, .journal, .recorder] s (doImuLost s) := by
  unfold doImuLost
  split
  · exact .refl
  · exact .ite .refl (raise_touches.after (.setPose (runToCyc_touches.after .refl)))

theorem baseSuspect_touches {cause dMm : Nat} {s : State} : Touches [.harbour, .pose, .journal, .recorder] s (baseSuspect cause dMm s) :=
  raise_touches.after (.setPose .refl)

theorem surveyStep_touches {s : State} : Touches [.harbour, .pose, .journal, .recorder] s (surveyStep s) :=
  .ite (raise_touches.after (.setPose (journalLog_touches.after .refl))) .refl

theorem baseStandalone_touches {xyz : Int × Int × Int} {sigma : Nat} {vec : Option Nat} {s : State} :
    Touches [.harbour, .pose, .journal, .recorder] s (baseStandalone xyz sigma vec s) := by
  unfold baseStandalone
  refine .ite .refl ?_
  refine .ite (surveyStep_touches.after (.setPose (.setPose .refl))) ?_
  refine .ite (.setPose .refl) ?_
  refine .ite (baseSuspect_touches.after (.setPose (.setPose .refl))) ?_
  split
  · exact .ite (baseSuspect_touches.after (.setPose (.setPose .refl))) (.setPose (.setPose .refl))
  · exact .setPose (.setPose .refl)

theorem doSurveyFailed_touches {s : State} : Touches [.time, .harbour, .pose, .journal, .recorder] s (doSurveyFailed s) :=
  .ite .refl (raise_touches.after (.setPose (runToCyc_touches.after .refl)))

theorem emitRtcm_touches {fs : List (List Byte)} {s : State} : Touches [.out, .harbour, .net, .journal, .recorder] s (emitRtcm fs s) :=
  .foldl (fun _ _ => .ite (.ite (sendS1_touches.after .refl) .refl) (vxOriginate_touches.after (.ite (sendS1_touches.after .refl) .refl))) .refl

theorem doCorrectionInterval_touches {hdr : Nat} {s : State} : Touches [.out, .time, .harbour, .pose, .fleet, .net, .journal, .recorder] s (doCorrectionInterval hdr s) :=
  .ite .refl (corrSetReady_touches.after (emitRtcm_touches.after (.setPose (runTo_touches.after .refl))))

theorem doStationInterval_touches {biases : List Byte} {s : State} :
    Touches [.out, .time, .harbour, .pose, .net, .journal, .recorder] s (doStationInterval biases s) := by
  unfold doStationInterval
  refine .ite .refl ?_
  refine emitRtcm_touches.after ?_
  refine .setPose ?_
  split
  · exact runTo_touches.after .refl
  · exact .refl

theorem poseInstallSet_touches {p : List Byte} {s : State} : Touches [.pose] s (poseInstallSet p s).2 :=
  .iteSnd .refl (.iteSnd .refl (.setPose .refl))

theorem poseFilterConfig_touches {p : List Byte} {s : State} : Touches [.pose] s (poseFilterConfig p s).2 :=
  .iteSnd .refl (.setPose .refl)

theorem poseIntegrityConfig_touches {p : List Byte} {s : State} : Touches [.pose] s (poseIntegrityConfig p s).2 :=
  .iteSnd .refl (.setPose .refl)

theorem poseImuConfig_touches {p : List Byte} {s : State} : Touches [.pose] s (poseImuConfig p s).2 :=
  .iteSnd .refl (.iteSnd .refl (.iteSnd .refl (.setPose .refl)))

theorem poseImuReadSet_touches {p : List Byte} {s : State} : Touches [.pose] s (poseImuReadSet p s).2 :=
  .iteSnd .refl (.setPose .refl)

theorem poseCorrConfig_touches {p : List Byte} {s : State} : Touches [.harbour, .pose, .journal, .recorder] s (poseCorrConfig p s).2 :=
  .iteSnd .refl (tryLock_touches.after (.setPose .refl))

theorem poseSubscribe_touches {p : List Byte} {s : State} : Touches [.pose] s (poseSubscribe p s).2 :=
  .iteSnd .refl (.setPose .refl)

theorem poseAtBody_touches {p : List Byte} {s : State} : Touches [] s (poseAtBody p s).2 := by
  unfold poseAtBody
  refine .iteSnd .refl ?_
  split
  · exact .refl
  · exact .iteSnd .refl .refl

theorem poseReset_touches {p : List Byte} {s : State} : Touches [.pose] s (poseReset p s).2 :=
  .iteSnd .refl (.iteSnd .refl (.setPose .refl))

theorem posePcvLoad_touches {p : List Byte} {s : State} : Touches [.pose] s (posePcvLoad p s).2 :=
  .iteSnd .refl (.iteSnd .refl (.setPose .refl))

theorem baseRefSet_touches {p : List Byte} {s : State} : Touches [.harbour, .pose, .journal, .recorder] s (baseRefSet p s).2 := by
  unfold baseRefSet
  refine .iteSnd .refl ?_
  refine .iteSnd .refl ?_
  split
  next s1 h =>
    exact .ofSnd h (journalPut_touches.after .refl)
  next s1 h =>
    exact .setPose (.ofSnd h (journalPut_touches.after .refl))

theorem baseSurveyStart_touches {p : List Byte} {s : State} : Touches [.pose] s (baseSurveyStart p s).2 :=
  .iteSnd .refl (.setPose .refl)

theorem baseCorrConfig_touches {p : List Byte} {s : State} : Touches [.pose] s (baseCorrConfig p s).2 :=
  .iteSnd .refl (.setPose .refl)

theorem poseCorrSubscribe_touches {p : List Byte} {s : State} : Touches [.pose] s (poseCorrSubscribe p s).2 :=
  .iteSnd .refl (.setPose .refl)

theorem poseNmeaSubscribe_touches {p : List Byte} {s : State} : Touches [.pose] s (poseNmeaSubscribe p s).2 :=
  .iteSnd .refl (.setPose .refl)


/-! ### Machine/Corridor -/

theorem setTable_touches {t : List (Nat × CorEntry)} {s : State} : Touches [.cor] s (setTable t s) :=
  .setCor .refl

theorem toHold_touches {ix sf : Nat} {revoked : Bool} {s : State} : Touches [.cor] s (toHold ix sf revoked s) :=
  setTable_touches.after .refl

theorem publish_touches {entry addr decision req other sf : Nat} {s : State} : Touches [.cor] s (publish entry addr decision req other sf s) :=
  .setCor .refl

theorem revokeEntry_touches {ix sf : Nat} {s : State} : Touches [.cor] s (revokeEntry ix sf s) := by
  unfold revokeEntry
  split
  · exact .ite (publish_touches.after (toHold_touches.after .refl)) .refl
  · exact .refl

theorem batchReleases_touches {sf : Nat} {s : State} : Touches [.cor] s (batchReleases sf s) := by
  unfold batchReleases
  refine .foldl (fun _ _ => ?_) .refl
  split
  · exact .ite (toHold_touches.after .refl) (.setCor .refl)
  · exact .setCor .refl

theorem batchRevokes_touches {sf : Nat} {s : State} : Touches [.out, .mem, .harbour, .cor] s (batchRevokes sf s) := by
  unfold batchRevokes
  refine .foldl (fun _ _ => ?_) .refl
  split
  · exact .ite (complete_touches.after (revokeEntry_touches.after .refl)) (.ite (complete_touches.after (setTable_touches.after .refl)) (complete_touches.after .refl))
  · exact complete_touches.after .refl

theorem batchEnds_touches {sf : Nat} {s : State} : Touches [.cor] s (batchEnds sf s) :=
  setTable_touches.after (.setCor .refl)

theorem batchBlock_touches {sf : Nat} {h : CorHost} {s : State} : Touches [.out, .mem, .harbour, .cor] s (batchBlock sf h s) := by
  unfold batchBlock
  refine .ite (complete_touches.after .refl) ?_
  split
  · exact complete_touches.after .refl
  · exact complete_touches.after (setTable_touches.after (.foldl (fun _ _ => revokeEntry_touches.after .refl) .refl))

theorem batchRequest_touches {sf : Nat} {acc : State × Nat × Nat × Nat} {m : CorMsg} : Touches [.cor] acc.1 (batchRequest sf acc m).1 :=
  .iteFst .refl (.iteFst (publish_touches.after (setTable_touches.after .refl)) (.setCor (publish_touches.after (setTable_touches.after .refl))))

theorem backlogCheck_touches {sf : Nat} {s : State} : Touches [.harbour, .cor, .journal, .recorder] s (backlogCheck sf s) :=
  raiseIf_touches.after (.setCor .refl)

theorem doCorridorBatch_touches {s : State} : Touches [.out, .mem, .time, .harbour, .cor, .journal, .recorder] s (doCorridorBatch s) := by
  unfold doCorridorBatch
  refine .ite .refl (backlogCheck_touches.after (raise_touches.after (raiseIf_touches.after (.setCor (.foldlFst (fun _ _ => batchRequest_touches) ?_)))))
  exact .foldl (fun _ _ => batchBlock_touches.after .refl)
    (batchEnds_touches.after (batchRevokes_touches.after (batchReleases_touches.after (runTo_touches.after .refl))))

theorem corBlock_touches {room sf : Nat} {s : State} : Touches [.harbour, .cor, .journal, .recorder] s (corBlock room sf s).2 :=
  .iteSnd .refl (backlogCheck_touches.after (.setCor .refl))

theorem doReq_touches {a : Nat} {b : List Byte} {s : State} : Touches [.cor] s (doReq a b s) :=
  .ite .refl (.setCor .refl)

theorem doRelease_touches {a : Nat} {b : List Byte} {s : State} : Touches [.cor] s (doRelease a b s) :=
  .ite .refl (.setCor .refl)

theorem sendFrame_touches {a : Nat} {s : State} : Touches [.harbour, .fleet, .journal, .recorder] s (sendFrame a s) :=
  queueMsg_touches.after .refl

theorem mismatchCheck_touches {s : State} : Touches [.harbour, .cor, .journal, .recorder] s (mismatchCheck s) := by
  unfold mismatchCheck
  split
  · exact .setCor .refl
  · exact raiseIf_touches.after (.setCor .refl)

theorem doFrame_touches {b : List Byte} {s : State} : Touches [.harbour, .cor, .journal, .recorder] s (doFrame b s) :=
  .ite .refl (mismatchCheck_touches.after (.setCor .refl))

theorem corPurge_touches {s : State} : Touches [.cor] s (corPurge s) :=
  .ite .refl (setTable_touches.after .refl)

theorem corAbort_touches {s : State} : Touches [.out, .mem, .harbour, .cor] s (corAbort s) :=
  .foldl (fun _ _ => complete_touches.after .refl) (.setCor .refl)

theorem corDropGrants_touches {s : State} : Touches [.cor] s (corDropGrants s) :=
  setTable_touches.after .refl

theorem decisionEvent_touches {req status entry other : Nat} {s : State} : Touches [.harbour, .journal, .recorder] s (decisionEvent req status entry other s) :=
  raise_touches.after .refl

theorem sendRelease_touches {ix req : Nat} {s : State} : Touches [.harbour, .fleet, .journal, .recorder] s (sendRelease ix req s) :=
  queueMsg_touches.after .refl

theorem applyRec_touches {b : List Byte} {s : State} : Touches [.harbour, .fleet, .cor, .journal, .recorder] s (applyRec b s) := by
  unfold applyRec
  refine .ite .refl ?_
  refine .ite .refl ?_
  refine .ite ?_ ?_
  · split
    · exact .setCor .refl
    · exact raise_touches.after (setTable_touches.after (.setCor .refl))
  · refine .ite ?_ ?_
    · split
      · exact decisionEvent_touches.after (setTable_touches.after (.setCor .refl))
      · exact .ite (.setCor .refl) (sendRelease_touches.after (.setCor .refl))
    · split
      · exact .setCor .refl
      · exact decisionEvent_touches.after (setTable_touches.after (.setCor .refl))

theorem applyBlock_touches {b : List Byte} {s : State} : Touches [.harbour, .fleet, .cor, .journal, .recorder] s (applyBlock b s) :=
  .foldl (fun _ _ => applyRec_touches.after .refl) .refl

theorem doReqTimeout_touches {ix : Nat} {s : State} : Touches [.time, .harbour, .cor, .journal, .recorder] s (doReqTimeout ix s) := by
  unfold doReqTimeout
  split
  · exact .refl
  · exact .ite .refl (decisionEvent_touches.after (setTable_touches.after (runTo_touches.after .refl)))

theorem warnCheck_touches {s : State} {r : PoseRec} : Touches [.harbour, .cor, .journal, .recorder] s (warnCheck s r) := by
  unfold warnCheck
  split
  · exact .setCor .refl
  · exact raiseIf_touches.after (.setCor .refl)

theorem safeCheck_touches {t1 t2 : Nat} {s0 : State} : Touches [.out, .mem, .harbour, .axes, .cor, .journal, .recorder] s0 (safeCheck t1 t2 s0) := by
  unfold safeCheck
  lift_lets
  extract_lets s _ _
  have hs : Touches [.out, .mem, .harbour, .axes, .cor, .journal, .recorder] s0 s := mismatchCheck_touches.after (corPurge_touches.after .refl)
  refine .ite (.setCor hs) ?_
  split
  · exact haltAxes_touches.after (raiseIf_touches.after (.setCor hs))
  · split
    · exact warnCheck_touches.after (.setCor hs)
    · exact haltAxes_touches.after (raiseIf_touches.after (.setCor hs))

theorem corridorRequest_touches {p : List Byte} {s0 : State} : Touches [.harbour, .fleet, .cor, .journal, .recorder] s0 (corridorRequest p s0).2 := by
  unfold corridorRequest
  refine .iteSnd (corPurge_touches.after .refl) ?_
  refine .iteSnd (corPurge_touches.after .refl) ?_
  refine .iteSnd (corPurge_touches.after .refl) ?_
  split
  · exact corPurge_touches.after .refl
  · exact queueMsg_touches.after (.setCor (corPurge_touches.after .refl))

theorem corridorRelease_touches {p : List Byte} {s : State} : Touches [.harbour, .fleet, .cor, .journal, .recorder] s (corridorRelease p s).2 := by
  unfold corridorRelease
  dsimp only
  split
  · exact .refl
  · exact .ite (sendRelease_touches.after (setTable_touches.after .refl)) (setTable_touches.after .refl)

theorem corridorLocalSet_touches {p : List Byte} {s0 : State} : Touches [.cor] s0 (corridorLocalSet p s0).2 := by
  unfold corridorLocalSet
  refine .iteSnd (corPurge_touches.after .refl) ?_
  refine .iteSnd (corPurge_touches.after .refl) ?_
  split
  · exact corPurge_touches.after .refl
  · exact setTable_touches.after (corPurge_touches.after .refl)

theorem corridorConfig_touches {p : List Byte} {s : State} : Touches [.cor] s (corridorConfig p s).2 :=
  .iteSnd .refl (.setCor .refl)

theorem corridorRead_touches {p : List Byte} {s : State} : Touches [] s (corridorRead p s).2 :=
  .iteSnd .refl .refl

theorem corridorServiceConfig_touches {p : List Byte} {s : State} : Touches [.out, .mem, .harbour, .fleet, .cor, .journal, .recorder] s (corridorServiceConfig p s).2 :=
  .iteSnd .refl (.iteSnd .refl (.iteSnd .refl (.ite (.foldl (fun _ _ => sendFrame_touches.after .refl) (.ite (.setCor .refl) (corAbort_touches.after (.setCor .refl)))) (.ite (.setCor .refl) (corAbort_touches.after (.setCor .refl))))))

theorem corridorRankSet_touches {p : List Byte} {s : State} : Touches [.cor] s (corridorRankSet p s).2 :=
  .iteSnd .refl (.setCor .refl)

theorem corridorBlock_touches {c : Cmd} {p : List Byte} {s : State} : Touches [.cor] s (corridorBlock c p s).2 :=
  .iteSnd .refl (.iteSnd .refl (.setCor .refl))

theorem corridorRevoke_touches {c : Cmd} {p : List Byte} {s : State} : Touches [.cor] s (corridorRevoke c p s).2 :=
  .iteSnd .refl (.iteSnd .refl (.setCor .refl))


/-! ### Machine/KnaniOps -/

theorem setLoop_touches {n : Nat} {f : Loop → Loop} {s : State} : Touches [.knani] s (setLoop n f s) :=
  .setKnani .refl

theorem setView_touches {n pos : Nat} {f : NodeView → NodeView} {s : State} : Touches [.knani] s (setView n pos f s) :=
  setLoop_touches.after .refl

theorem setChanView_touches {c : Nat} {f : ChanView → ChanView} {s : State} : Touches [.knani] s (setChanView c f s) :=
  setView_touches.after .refl

theorem setPhys_touches {n pos : Nat} {f : NodeDev → NodeDev} {s : State} : Touches [.knani] s (setPhys n pos f s) :=
  setLoop_touches.after .refl

theorem sendManage_touches {n : Nat} {s : State} : Touches [.out] s (sendManage n s) := by
  unfold sendManage
  split
  · exact .refl
  · exact emit_touches.after .refl

theorem pushManage_touches {n : Nat} {m : Manage} {s : State} : Touches [.out, .knani] s (pushManage n m s) :=
  .ite (sendManage_touches.after (setLoop_touches.after .refl)) (setLoop_touches.after .refl)

theorem programFade_touches {c fadeOn fadeOff : Nat} {s : State} : Touches [.out, .knani] s (programFade c fadeOn fadeOff s) :=
  .ite .refl (pushManage_touches.after .refl)


/-! ### Machine/Raster -/

theorem setPlane_touches {layer : Nat} {tx ty : Int} {f : Plane → Plane} {s : State} : Touches [.raster] s (setPlane layer tx ty f s) :=
  .setRaster .refl

theorem poolRefuse_touches {s : State} : Touches [.harbour, .raster, .journal, .recorder] s (poolRefuse s) :=
  raiseIf_touches.after (.setRaster .refl)

theorem coverageError_touches {tx ty : Int} {word cause : Nat} {s : State} : Touches [.harbour, .raster, .journal, .recorder] s (coverageError tx ty word cause s) :=
  raise_touches.after (.setRaster (setPlane_touches.after .refl))

theorem planeUnreadable_touches {layer : Nat} {tx ty : Int} {cause : Nat} {s : State} :
    Touches [.harbour, .raster, .journal, .recorder] s (planeUnreadable layer tx ty cause s) :=
  raise_touches.after (.setRaster (setPlane_touches.after .refl))

theorem cacheError_touches {layer : Nat} {tx ty : Int} {word : Nat} {s : State} : Touches [.harbour, .raster, .journal, .recorder] s (cacheError layer tx ty word s) := by
  unfold cacheError
  split
  · exact .refl
  · exact .ite .refl (.ite (coverageError_touches.after .refl) (.setRaster (setPlane_touches.after .refl)))

theorem dramError_touches {layer : Nat} {tx ty : Int} {word cause : Nat} {s : State} :
    Touches [.harbour, .raster, .journal, .recorder] s (dramError layer tx ty word cause s) := by
  unfold dramError
  split
  · exact .refl
  · exact .ite (coverageError_touches.after .refl) (.ite .refl (.ite (.setRaster .refl) (planeUnreadable_touches.after .refl)))

theorem trimCache_touches {s : State} : Touches [.raster] s (trimCache s) :=
  .setRaster .refl

theorem makeRoom_touches {k n : Nat} {byTask : Bool} {s u : State} (h : makeRoom k n byTask s = some u) : Touches [.raster] s u := by
  induction k generalizing s with
  | zero => cases h
  | succ k ih =>
    unfold makeRoom at h
    split at h
    · cases h; exact .refl
    · split at h
      · cases h
      · exact (ih h).after (setPlane_touches.after .refl)

theorem missReport_touches {s : State} : Touches [.harbour, .raster, .journal, .recorder] s (missReport s) :=
  .ite (.setRaster .refl) (raise_touches.after (.setRaster (.setRaster .refl)))

theorem doTileFill_touches {layer : Nat} {tx ty : Int} {byTask : Bool} {wait : Nat} {bad : Option Nat} {s : State} :
    Touches [.harbour, .raster, .journal, .recorder] s (doTileFill layer tx ty byTask wait bad s) := by
  unfold doTileFill
  split
  · exact .refl
  · refine .ite .refl ?_
    split
    · exact .refl
    next s1 h =>
      have hs : Touches [.harbour, .raster, .journal, .recorder] s s1 := (makeRoom_touches h).after .refl
      refine .ite (missReport_touches.after (.setRaster (setPlane_touches.after ?_))) (setPlane_touches.after ?_) <;>
      · split
        · exact dramError_touches.after hs
        · exact hs

theorem doFlush_touches {s : State} : Touches [.time, .raster] s (doFlush s) := by
  unfold doFlush
  split
  · exact setPlane_touches.after (runToCyc_touches.after .refl)
  · exact .refl

theorem residencyAt_touches {t : Nat} {s : State} : Touches [.harbour, .raster, .journal, .recorder] s (residencyAt t s) := by
  unfold residencyAt
  split
  · exact .ite .refl (raiseIf_touches.after (.setRaster .refl))
  · exact .refl

theorem dropReport_touches {s : State} : Touches [.harbour, .raster, .journal, .recorder] s (dropReport s) :=
  .ite .refl (raise_touches.after (.setRaster .refl))

theorem dropCredits_touches {pool : Bool} {n : Nat} {s : State} : Touches [.harbour, .raster, .journal, .recorder] s (dropCredits pool n s) :=
  dropReport_touches.after (.setRaster .refl)

theorem creditTile_touches {tx ty : Int} {tide : Nat} {ks : List Nat} {s : State} : Touches [.harbour, .raster, .journal, .recorder] s (creditTile tx ty tide ks s) := by
  unfold creditTile
  refine .ite (dropCredits_touches.after .refl) (.ite (setPlane_touches.after .refl) (.ite (dropCredits_touches.after (poolRefuse_touches.after .refl)) ?_))
  split
  · exact .refl
  next h => exact setPlane_touches.after (.setRaster ((makeRoom_touches h).after .refl))

theorem sendDelta_touches {n : Nat} {tx ty : Int} {tide : Nat} {runs : List (Nat × Nat × Nat)} {s : State} : Touches [.out, .net] s (sendDelta n tx ty tide runs s) := by
  induction n generalizing runs s with
  | zero => exact .refl
  | succ n ih =>
    cases runs with
    | nil => exact .refl
    | cons => exact .ite .refl (ih.after (vxOriginate_touches.after .refl))

theorem takeDelta_touches {m : VxMsg} {s : State} : Touches [.harbour, .raster, .journal, .recorder] s (takeDelta m s) := by
  unfold takeDelta
  refine .ite .refl ?_
  split
  · exact raiseIf_touches.after (.setRaster .refl)
  · exact .setRaster .refl

theorem doCoverageDelta_touches {n : Nat} {m : VxMsg} {s : State} : Touches [.out, .harbour, .raster, .net, .journal, .recorder] s (doCoverageDelta n m s) :=
  .ite (vxFlood_touches.after .refl) (.ite (.foldl (fun _ _ => takeDelta_touches.after .refl) (relAccept_touches.after (vxFlood_touches.after .refl))) (takeDelta_touches.after (vxFlood_touches.after .refl)))

theorem doMsgLost_touches {origin type : Nat} {s : State} : Touches [.time, .harbour, .raster, .net, .journal, .recorder] s (doMsgLost origin type s) := by
  unfold doMsgLost
  split
  · exact .refl
  · split
    · exact .foldl (fun _ _ => .ite (takeDelta_touches.after .refl) (.ite (deliverHost_touches.after .refl) .refl)) (raiseIf_touches.after (raise_touches.after (.setNet (runToCyc_touches.after .refl))))
    · exact .refl

theorem doDeltaApply_touches {s : State} : Touches [.harbour, .raster, .journal, .recorder] s (doDeltaApply s) := by
  unfold doDeltaApply
  split
  · exact .ite .refl (.ite (creditTile_touches.after (.setRaster .refl)) (setPlane_touches.after (creditTile_touches.after (.setRaster .refl))))
  · exact .refl

theorem applyLoad_touches {l : LoadJob} {s : State} : Touches [.raster] s (applyLoad l s) :=
  setPlane_touches.after (.ite .refl (.setRaster .refl))

theorem loadReject_touches {cause layer : Nat} {tx ty : Int} {s : State} : Touches [.harbour, .raster, .journal, .recorder] s (loadReject cause layer tx ty s) :=
  raise_touches.after (.setRaster (.ite (poolRefuse_touches.after .refl) .refl))

theorem installPlane_touches {l : LoadJob} {s : State} : Touches [.harbour, .raster, .journal, .recorder] s (installPlane l s) :=
  .ite (loadReject_touches.after .refl) (.ite (applyLoad_touches.after (.setRaster .refl)) (.setRaster (.setRaster .refl)))

/-- What a TILE packet leaves of the parts of the packet before it. -/
theorem tileParts_touches {b : List Byte} {s : State} : Touches [.harbour, .raster, .journal, .recorder] s
    (match s.raster.parts with
      | none => (s, 0, [])
      | some (h, n, d) =>
        let clr := { s with raster := { s.raster with parts := none } }
        if continues h n b then (clr, n, d) else (loadReject 8 (uAt h 4 1) (iAt h 8 2) (iAt h 10 2) clr, 0, [])).1 := by
  split
  · exact .refl
  · exact .iteFst (.setRaster .refl) (loadReject_touches.after (.setRaster .refl))

theorem doTilePacket_touches {s : State} : Touches [.harbour, .raster, .journal, .recorder] s (doTilePacket s) := by
  unfold doTilePacket
  split
  · exact .refl
  next p s0 h =>
    have hs : Touches [.harbour, .raster, .journal, .recorder] s _ := (tileParts_touches (b := p.payload)).after ((takeS0_touches h).after .refl)
    refine .ite (s0Reject_touches.after (loadReject_touches.after hs)) (.ite (s0Reject_touches.after (loadReject_touches.after hs)) ?_)
    split
    · exact s0Reject_touches.after (loadReject_touches.after hs)
    · exact .ite (installPlane_touches.after hs) (.ite (installPlane_touches.after hs) (.setRaster hs))

theorem doLoadApply_touches {s : State} : Touches [.raster] s (doLoadApply s) := by
  unfold doLoadApply
  split
  · exact .refl
  · split
    · exact .refl
    · exact applyLoad_touches.after (.setRaster .refl)

theorem doSnapshot_touches {s : State} : Touches [.harbour, .raster, .journal, .recorder] s (doSnapshot s) := by
  unfold doSnapshot
  dsimp only
  split
  · exact .refl
  · split
    · exact .ite .refl (raise_touches.after (sendS1_touches.after (.setRaster .refl)))
    · exact .ite .refl (.ite (.setRaster .refl) (.ite (setPlane_touches.after (.setRaster (.foldl (fun _ _ => sendS1_touches.after .refl) .refl))) (.setRaster (.foldl (fun _ _ => sendS1_touches.after .refl) .refl))))

theorem doWant_touches {s : State} : Touches [.time, .harbour, .raster, .journal, .recorder] s (doWant s) := by
  unfold doWant
  dsimp only
  split
  · exact .refl
  · refine .ite .refl ?_
    split
    · refine .setRaster ?_
      split
      · exact runToCyc_touches.after .refl
      · exact .refl
    · refine .foldl (fun _ _ => sendS1_touches.after .refl) ?_
      refine .setRaster ?_
      refine .setRaster ?_
      split
      · exact runToCyc_touches.after .refl
      · exact .refl

theorem dropPlanes_touches {mask : Nat} {r : Int × Int × Int × Int} {s : State} : Touches [.raster] s (dropPlanes mask r s) :=
  .setRaster .refl

theorem doDropApply_touches {s : State} : Touches [.raster] s (doDropApply s) := by
  unfold doDropApply
  split
  · exact .ite .refl (dropPlanes_touches.after (.setRaster .refl))
  · exact .refl

theorem rasterBoundary_touches {t : Nat} {s : State} : Touches [.harbour, .raster, .journal, .recorder] s (rasterBoundary t s) :=
  .ite .refl (.ite (raise_touches.after (.setRaster (.setRaster .refl))) (.setRaster .refl))

theorem residencyBoundary_touches {t : Nat} {s : State} : Touches [.harbour, .raster, .journal, .recorder] s (residencyBoundary t s) :=
  .ite .refl (dropReport_touches.after (missReport_touches.after (trimCache_touches.after (.ite (residencyAt_touches.after .refl) .refl))))

theorem doJobClosed_touches {s : State} : Touches [.harbour, .raster, .journal, .recorder] s (doJobClosed s) :=
  .ite .refl (raise_touches.after (.setRaster (.foldl (fun _ _ => dropPlanes_touches.after .refl) (.setRaster (.foldl (fun _ _ => applyLoad_touches.after .refl) (.setRaster .refl))))))

theorem rasterJobDefine_touches {p : List Byte} {s : State} : Touches [.raster] s (rasterJobDefine p s).2 := by
  unfold rasterJobDefine
  refine .iteSnd .refl ?_
  refine .iteSnd .refl ?_
  split
  · exact .setRaster .refl
  · exact .refl

theorem rasterJobOpen_touches {s : State} : Touches [.raster] s (rasterJobOpen s).2 := by
  unfold rasterJobOpen
  refine .iteSnd .refl ?_
  refine .iteSnd .refl ?_
  split
  · exact .refl
  · exact .setRaster .refl

theorem rasterJobClose_touches {p : List Byte} {s : State} : Touches [.raster] s (rasterJobClose p s).2 :=
  .iteSnd .refl (.iteSnd .refl (.setRaster .refl))

theorem rasterJobDiscard_touches {p : List Byte} {s : State} : Touches [.raster] s (rasterJobDiscard p s).2 :=
  .iteSnd .refl (.iteSnd .refl (.iteSnd .refl (.setRaster .refl)))

theorem rasterTileSave_touches {p : List Byte} {s : State} : Touches [.raster] s (rasterTileSave p s).2 := by
  unfold rasterTileSave
  split
  · exact .refl
  · exact .iteSnd .refl (.iteSnd .refl (.setRaster .refl))

theorem rasterExport_touches {p : List Byte} {s : State} : Touches [.raster] s (rasterExport p s).2 := by
  unfold rasterExport
  dsimp only
  split
  · exact .refl
  · exact .iteSnd .refl (.iteSnd .refl (.setRaster .refl))

theorem rasterTileDrop_touches {p : List Byte} {s : State} : Touches [.raster] s (rasterTileDrop p s).2 :=
  .iteSnd .refl (.iteSnd .refl (.iteSnd .refl (.iteSnd .refl (.iteSnd (.setRaster .refl) (dropPlanes_touches.after .refl)))))

theorem rasterQuery_touches {p : List Byte} {s : State} : Touches [] s (rasterQuery p s).2 :=
  .iteSnd .refl (.iteSnd .refl .refl)

theorem rasterWantSubscribe_touches {p : List Byte} {s : State} : Touches [.raster] s (rasterWantSubscribe p s).2 :=
  .iteSnd .refl (.setRaster .refl)


/-! ### Machine/Supply -/

theorem pmbusOut_touches {cmd : Nat} {data : List Byte} {s : State} : Touches [.out] s (pmbusOut cmd data s) :=
  emit_touches.after .refl

theorem vddRequest_touches {mv cause : Nat} {s : State} : Touches [.out, .harbour, .journal, .power, .recorder] s (vddRequest mv cause s) :=
  .ite .refl (pmbusOut_touches.after (.setPower (raise_touches.after .refl)))

theorem vddSet_touches {mv : Nat} {s : State} : Touches [.out, .power] s (vddSet mv s) :=
  pmbusOut_touches.after (.setPower .refl)


/-! ### Machine/Cell -/

theorem overCapacity_touches {s : State} : Touches [.harbour, .journal, .recorder] s (overCapacity s) :=
  raiseIf_touches.after .refl

theorem cellsChanged_touches {s : State} : Touches [.harbour, .cell, .journal, .recorder] s (cellsChanged s) :=
  .ite (overCapacity_touches.after (.setCell .refl)) .refl

theorem recheckCells_touches {s : State} : Touches [.harbour, .cell, .raster, .journal, .recorder] s (recheckCells s) := by
  unfold recheckCells
  dsimp only
  refine trimCache_touches.after ?_
  refine .foldl (fun _ _ => ?_) .refl
  refine .ite .refl ?_
  split
  · exact .refl
  · exact raise_touches.after (.setCell .refl)

theorem cellEdited_touches {s : State} : Touches [.cell, .raster] s (cellEdited s) :=
  .ite (trimCache_touches.after (armCells_touches.after .refl)) (trimCache_touches.after .refl)

theorem endManual_touches {cause : Nat} {m : Manual} {s : State} : Touches [.harbour, .cell, .journal, .recorder] s (endManual cause m s) :=
  raise_touches.after (.setCell .refl)

theorem cellJobOpen_touches {s : State} : Touches [.harbour, .cell, .raster, .journal, .recorder] s (cellJobOpen s) :=
  overCapacity_touches.after (.setCell (.foldl (fun _ _ => endManual_touches.after .refl) (recheckCells_touches.after .refl)))

theorem doPoseBatch_touches {t : Nat} {s : State} : Touches [.cell] s (doPoseBatch t s) := by
  unfold doPoseBatch
  split
  · exact .refl
  · exact .ite (.setCell .refl) .refl

theorem clampReport_touches {ix : Nat} {raw : Option Int} {s : State} : Touches [.harbour, .cell, .journal, .recorder] s (clampReport ix raw s) := by
  unfold clampReport
  split
  · exact raiseIf_touches.after (.setCell .refl)
  · exact .refl

theorem suppress_touches {l : List (Nat × Nat)} {s : State} : Touches [.harbour, .cell, .journal, .recorder] s (suppress l s) := by
  unfold suppress
  refine .foldl (fun _ _ => ?_) .refl
  split
  · exact .refl
  · exact raise_touches.after (.setCell .refl)

theorem doCellEval_touches {loop pos : Nat} {errs : List (Nat × Int × Int × Nat)} {s0 : State} :
    Touches [.harbour, .cell, .raster, .journal, .recorder] s0 (doCellEval loop pos errs s0) := by
  unfold doCellEval
  split
  · exact .ite .refl (.ite (.foldl (fun _ _ => cacheError_touches.after .refl) .refl) (.foldl (fun _ _ => suppress_touches.after (clampReport_touches.after .refl)) (.setCell (.foldl (fun _ _ => cacheError_touches.after .refl) .refl))))
  · exact .refl

theorem doCommitGate_touches {s : State} : Touches [.cell] s (doCommitGate s) :=
  .ite (.setCell .refl) .refl

theorem vddPolicy_touches {less : Nat} {s : State} : Touches [.out, .harbour, .cell, .journal, .power, .recorder] s (vddPolicy less s) := by
  unfold vddPolicy
  split
  · exact .ite (.ite .refl (vddRequest_touches.after (.setCell .refl))) (.ite (vddRequest_touches.after (.setCell .refl)) (.setCell .refl))
  · exact .refl

theorem spotsAtCommit_touches {late : Bool} {b1 : Nat} {s : State} : Touches [.harbour, .cell, .journal, .recorder] s (spotsAtCommit late b1 s) :=
  .foldl (fun _ _ => raise_touches.after (.setCell .refl)) (suppress_touches.after .refl)

theorem commitAllOff_touches {step : Nat} {s : State} : Touches [.cell] s (commitAllOff step s) :=
  .setCell .refl

theorem commitEngine_touches {b1 : Nat} {s : State} : Touches [.cell] s (commitEngine b1 s) :=
  .setCell .refl

theorem commitManual_touches {b1 : Nat} {s : State} : Touches [.cell] s (commitManual b1 s) :=
  .setCell .refl

theorem lateTide_touches {s : State} : Touches [.out, .harbour, .cell, .journal, .power, .recorder] s (lateTide s) :=
  .ite (vddRequest_touches.after (raise_touches.after (.setCell (raise_touches.after (.setCell .refl))))) (vddRequest_touches.after (raise_touches.after (.setCell .refl)))

theorem onTimeTide_touches {slack : Int} {less : Nat} {s : State} : Touches [.out, .harbour, .cell, .journal, .power, .recorder] s (onTimeTide slack less s) :=
  vddPolicy_touches.after (.setCell .refl)

theorem traceTide_touches {late repeated off : Bool} {slack : Int} {work : Nat} {s : State} :
    Touches [.harbour, .cell, .journal, .recorder] s (traceTide late repeated off slack work s) :=
  .ite .refl (.ite (.setCell .refl) (sendS1_touches.after (.setCell .refl)))

theorem commitFrame_touches {late : Bool} {off : Option Nat} {b1 : Nat} {s : State} : Touches [.harbour, .cell, .journal, .recorder] s (commitFrame late off b1 s) := by
  unfold commitFrame
  split
  · exact commitAllOff_touches.after (suppress_touches.after (.ite (.foldl (fun _ _ => endManual_touches.after .refl) .refl) .refl))
  · exact .ite (.setCell .refl) (.ite (commitEngine_touches.after .refl) (commitManual_touches.after .refl))

theorem doCommitDeadline_touches {pace capacity less : Nat} {s0 : State} :
    Touches [.out, .mem, .time, .harbour, .cell, .axes, .cor, .journal, .power, .recorder] s0 (doCommitDeadline pace capacity less s0) := by
  unfold doCommitDeadline
  split
  · exact .refl
  · exact .ite .refl (traceTide_touches.after (spotsAtCommit_touches.after (commitFrame_touches.after (.setCell (.ite (safeCheck_touches.after (runTo_touches.after .refl)) (.ite (lateTide_touches.after (.setCell (safeCheck_touches.after (runTo_touches.after .refl)))) (onTimeTide_touches.after (.setCell (safeCheck_touches.after (runTo_touches.after .refl))))))))))

theorem doWriteback_touches {tx ty : Int} {s : State} : Touches [.out, .harbour, .cell, .raster, .net, .journal, .recorder] s (doWriteback tx ty s) := by
  unfold doWriteback
  split
  · exact .refl
  · exact .ite .refl (.ite (sendDelta_touches.after (creditTile_touches.after (.setCell .refl))) (creditTile_touches.after (.setCell .refl)))

theorem doManualEnd_touches {cell : Nat} {s : State} : Touches [.time, .harbour, .cell, .journal, .recorder] s (doManualEnd cell s) := by
  unfold doManualEnd
  split
  · exact .refl
  · split
    · exact .refl
    · exact endManual_touches.after (runToCyc_touches.after .refl)

theorem cellAdd_touches {p : List Byte} {s : State} : Touches [.out, .harbour, .cell, .raster, .knani, .journal, .recorder] s (cellAdd p s).2 := by
  unfold cellAdd
  refine .iteSnd .refl ?_
  split
  · exact .refl
  · split
    · exact .refl
    · exact .iteSnd .refl (cellsChanged_touches.after (programFade_touches.after (cellEdited_touches.after (.setCell .refl))))

theorem cellWrite_touches {p : List Byte} {s : State} : Touches [.out, .harbour, .cell, .raster, .knani, .journal, .recorder] s (cellWrite p s).2 := by
  unfold cellWrite
  dsimp only
  split
  · exact .refl
  · refine .iteSnd .refl ?_
    refine .iteSnd .refl ?_
    split
    · exact .refl
    · exact .iteSnd .refl (cellsChanged_touches.after (programFade_touches.after (cellEdited_touches.after (.setCell .refl))))

theorem cellRead_touches {p : List Byte} {s : State} : Touches [] s (cellRead p s).2 := by
  unfold cellRead
  split <;> exact .refl

theorem cellRemove_touches {p : List Byte} {s : State} : Touches [.harbour, .cell, .raster, .journal, .recorder] s (cellRemove p s).2 := by
  unfold cellRemove
  dsimp only
  split
  · exact .refl
  · refine .iteSnd .refl ?_
    refine cellsChanged_touches.after ?_
    refine cellEdited_touches.after ?_
    refine .setCell ?_
    split
    · exact endManual_touches.after .refl
    · exact .refl

theorem cellEngineConfig_touches {p : List Byte} {s : State} : Touches [.cell] s (cellEngineConfig p s).2 :=
  .iteSnd (.setCell .refl) .refl

theorem cellSpot_touches {p : List Byte} {s : State} : Touches [.cell] s (cellSpot p s).2 := by
  unfold cellSpot
  dsimp only
  split
  · exact .refl
  · exact .iteSnd .refl (.iteSnd .refl (.iteSnd .refl (.iteSnd .refl (.iteSnd .refl (.iteSnd .refl (.setCell .refl))))))

theorem cellSpotCancel_touches {p : List Byte} {s : State} : Touches [.cell] s (cellSpotCancel p s).2 :=
  .iteSnd (.setCell .refl) .refl

theorem cellManual_touches {p : List Byte} {s : State} : Touches [.cell] s (cellManual p s).2 := by
  unfold cellManual
  dsimp only
  split
  · exact .refl
  · exact .iteSnd .refl (.iteSnd .refl (.setCell .refl))

theorem cellTraceSubscribe_touches {p : List Byte} {s : State} : Touches [.cell] s (cellTraceSubscribe p s).2 :=
  .iteSnd .refl (.setCell .refl)

theorem cellFaultClear_touches {s : State} : Touches [.harbour, .cell, .journal, .recorder] s (cellFaultClear s).2 :=
  .iteSnd .refl (raise_touches.after (.setCell .refl))


/-! ### Machine/Search -/

theorem fillEngines_touches {s : State} : Touches [.gnss] s (fillEngines s) :=
  .ite (.setGnss .refl) (.setGnss .refl)

theorem endSearch_touches {x : Search} {sv gloK : Nat} {s : State} : Touches [.time, .gnss] s (endSearch x sv gloK s) :=
  .setGnss (runToCyc_touches.after .refl)


/-! ### Machine/Gnss -/

theorem setChan_touches {n : Nat} {f : GChan → GChan} {s : State} : Touches [.gnss] s (setChan n f s) :=
  .setGnss .refl

theorem dropChan_touches {n : Nat} {s : State} : Touches [.gnss] s (dropChan n s) :=
  .setGnss .refl

theorem putChan_touches {n : Nat} {c : GChan} {s : State} : Touches [.gnss] s (putChan n c s) :=
  .setGnss .refl

theorem assign_touches {d : Detection} {s u : State} (h : assign d s = some u) : Touches [.gnss] s u := by
  unfold assign at h
  dsimp only at h
  split at h
  · cases h; exact setChan_touches.after .refl
  · cases h; exact setChan_touches.after .refl
  · split at h
    · cases h; exact .refl
    · obtain ⟨n, -, rfl⟩ := Option.map_eq_some_iff.mp h
      exact putChan_touches.after .refl

theorem serveQueue_touches {n : Nat} {s : State} : Touches [.gnss] s (serveQueue n s) := by
  induction n generalizing s with
  | zero => exact .refl
  | succ n ih =>
    unfold serveQueue
    split
    · exact .refl
    · split
      · exact .refl
      next h => exact ih.after (.setGnss (assign_touches h))

theorem freed_touches {s : State} : Touches [.gnss] s (freed s) :=
  serveQueue_touches.after .refl

theorem toReacq_touches {n : Nat} {s : State} : Touches [.gnss] s (toReacq n s) :=
  setChan_touches.after .refl

theorem streamLost_touches {n : Nat} {s : State} : Touches [.gnss] s (streamLost n s) :=
  .foldl (fun _ _ => toReacq_touches.after .refl) .refl

theorem handover_touches {n : Nat} {s : State} : Touches [.gnss] s (handover n s) := by
  unfold handover
  split
  · exact .refl
  · refine .ite .refl (.foldl (fun st sig => .ite .refl ?_) .refl)
    dsimp only
    cases ha : assign _ st with
    | none => exact .refl
    | some u => exact assign_touches ha

theorem doCoherent_touches {n : Nat} {u : ChanUpdate} {s : State} : Touches [.gnss] s (doCoherent n u s) := by
  unfold doCoherent
  split
  · exact .refl
  · exact .ite .refl (.ite (.ite (handover_touches.after (putChan_touches.after .refl)) (putChan_touches.after .refl)) (.ite (putChan_touches.after .refl) (handover_touches.after (putChan_touches.after .refl))))

theorem doPullInTimeout_touches {n : Nat} {s : State} : Touches [.time, .gnss] s (doPullInTimeout n s) := by
  unfold doPullInTimeout
  split
  · exact .refl
  · exact .ite .refl (toReacq_touches.after (runToCyc_touches.after .refl))

theorem toIdle_touches {n : Nat} {s : State} : Touches [.gnss] s (toIdle n s) := by
  unfold toIdle
  split
  · exact .refl
  · exact .ite (setChan_touches.after .refl) (freed_touches.after (dropChan_touches.after .refl))

theorem doSatLost_touches {n : Nat} {s : State} : Touches [.time, .harbour, .gnss, .journal, .recorder] s (doSatLost n s) := by
  unfold doSatLost
  split
  · exact .refl
  · exact .ite .refl (raise_touches.after (toIdle_touches.after (runToCyc_touches.after .refl)))

theorem overflowTest_touches {n : Nat} {s : State} : Touches [.harbour, .gnss, .journal, .recorder] s (overflowTest n s) :=
  raiseIf_touches.after (setStream_touches.after .refl)

theorem assignNotches_touches {k n : Nat} {s : State} : Touches [.harbour, .gnss, .journal, .recorder] s (assignNotches k n s) := by
  induction k generalizing s with
  | zero => exact .refl
  | succ k ih =>
    unfold assignNotches
    dsimp only
    split
    · exact ih.after (raise_touches.after (setStream_touches.after .refl))
    · exact .refl

theorem doIfLost_touches {n cause : Nat} {s : State} : Touches [.time, .harbour, .gnss, .journal, .recorder] s (doIfLost n cause s) := by
  unfold doIfLost
  refine .ite .refl ?_
  refine raise_touches.after ?_
  refine streamLost_touches.after ?_
  refine setStream_touches.after ?_
  split
  · exact runTo_touches.after .refl
  · exact .refl

theorem doMarker_touches {n t : Nat} {s0 : State} : Touches [.time, .harbour, .gnss, .journal, .recorder] s0 (doMarker n t s0) :=
  .ite .refl (overflowTest_touches.after (assignNotches_touches.after (raiseIf_touches.after (setStream_touches.after (runTo_touches.after (.ite (doIfLost_touches.after .refl) .refl))))))

theorem doIfRate_touches {n : Nat} {ppb : Int} {s : State} : Touches [.harbour, .gnss, .journal, .recorder] s (doIfRate n ppb s) :=
  .ite .refl (.ite (.ite (setStream_touches.after .refl) (raise_touches.after (streamLost_touches.after (setStream_touches.after .refl)))) (.ite (setStream_touches.after .refl) .refl))

theorem doAverage_touches {n : Nat} {peaks : List (Int × Nat)} {s : State} : Touches [.harbour, .gnss, .journal, .recorder] s (doAverage n peaks s) :=
  .ite .refl (overflowTest_touches.after (setStream_touches.after .refl))

theorem doNotchRelease_touches {n i : Nat} {s : State} : Touches [.time, .harbour, .gnss, .journal, .recorder] s (doNotchRelease n i s) := by
  unfold doNotchRelease
  split
  · exact .refl
  · split
    · exact .ite .refl (overflowTest_touches.after (setStream_touches.after (runToCyc_touches.after .refl)))
    · exact .refl

theorem setJi_touches {n v warn severe prev : Nat} {s : State} : Touches [.harbour, .gnss, .journal, .recorder] s (setJi n v warn severe prev s) :=
  raiseIf_touches.after (raiseIf_touches.after (setStream_touches.after .refl))

theorem learnFloor_touches {n n0 : Nat} {s : State} : Touches [.harbour, .gnss, .journal, .recorder] s (learnFloor n n0 s) :=
  .ite (setStream_touches.after .refl) (.ite (journalLog_touches.after (setStream_touches.after .refl)) (setStream_touches.after .refl))

theorem doProbe_touches {n n0 : Nat} {s : State} : Touches [.harbour, .gnss, .journal, .power, .recorder] s (doProbe n n0 s) :=
  .ite .refl (passDone_touches.after (learnFloor_touches.after (setJi_touches.after .refl)))

theorem doJamClear_touches {n : Nat} {s : State} : Touches [.time, .harbour, .gnss, .journal, .recorder] s (doJamClear n s) := by
  unfold doJamClear
  split
  · exact raise_touches.after (setStream_touches.after (runToCyc_touches.after .refl))
  · exact .refl

theorem detect_touches {d : Detection} {s : State} : Touches [.gnss] s (detect d s) := by
  unfold detect
  split
  next h => exact assign_touches h
  · exact .ite (.setGnss .refl) (.setGnss .refl)

theorem doSearch_touches {sig sv ant gloK codePhase : Nat} {carrRate : Int} {peak dwells : Nat} {s0 : State} :
    Touches [.time, .gnss] s0 (doSearch sig sv ant gloK codePhase carrRate peak dwells s0) := by
  unfold doSearch
  dsimp only
  refine .ite .refl ?_
  split
  · exact fillEngines_touches.after .refl
  · exact fillEngines_touches.after (.ite (endSearch_touches.after (fillEngines_touches.after .refl)) (detect_touches.after (endSearch_touches.after (fillEngines_touches.after .refl))))

theorem doDiscard_touches {s : State} : Touches [.time, .gnss] s (doDiscard s) := by
  unfold doDiscard
  split
  · exact .refl
  · exact .setGnss (runToCyc_touches.after .refl)

theorem releaseRemoved_touches {s : State} : Touches [.gnss] s (releaseRemoved s) :=
  .ite .refl (freed_touches.after (.setGnss .refl))

theorem takeEph_touches {s : State} : Touches [.harbour, .gnss, .journal, .recorder] s (takeEph s) :=
  raises_touches.after (.setGnss .refl)

theorem doEpochLatch_touches {s : State} : Touches [.time, .harbour, .gnss, .pose, .journal, .recorder] s (doEpochLatch s) :=
  .ite .refl (poseEpochTick_touches.after (takeEph_touches.after (releaseRemoved_touches.after (.setGnss (runTo_touches.after .refl)))))

theorem keepObs_touches {decoded : List (Nat × Nat)} {s : State} : Touches [.gnss] s (keepObs decoded s) :=
  .setGnss .refl

theorem takeSolution_touches {v : Standalone} {s : State} : Touches [.out, .time, .harbour, .gnss, .pose, .journal, .recorder] s (takeSolution v s) := by
  unfold takeSolution
  refine .ite .refl ?_
  refine baseStandalone_touches.after ?_
  split
  · exact .setGnss .refl
  · exact .ite (.setGnss .refl) (measure_touches.after (.setGnss .refl))

theorem doRecord_touches {decoded : List (Nat × Nat)} {sol : Option Standalone} {s : State} :
    Touches [.out, .time, .harbour, .gnss, .pose, .journal, .recorder] s (doRecord decoded sol s) := by
  unfold doRecord
  lift_lets
  extract_lets s1 _ _ _ _
  have hs1 : Touches [.out, .time, .harbour, .gnss, .pose, .journal, .recorder] s s1 := by
    unfold s1
    refine keepObs_touches.after ?_
    split
    · exact .ite (takeSolution_touches.after .refl) .refl
    · exact .refl
  exact .ite .refl (.ite (sendS1_touches.after (.setGnss hs1)) (.setGnss hs1))

theorem checkFail_touches {n unitType : Nat} {s : State} : Touches [.harbour, .gnss, .journal, .recorder] s (checkFail n unitType s) := by
  unfold checkFail
  split
  · exact .refl
  · exact raiseIf_touches.after (setChan_touches.after .refl)

theorem navYield_touches {c : GChan} {unitType : Nat} {payload : List Byte} {y : NavYield} {s : State} :
    Touches [.time, .harbour, .gnss, .journal, .recorder] s (navYield c unitType payload y s) := by
  unfold navYield
  split
  · exact .refl
  · exact ephUnit_touches.after .refl
  · exact .ite .refl (.setGnss .refl)
  · exact .setTime .refl
  · exact raiseIf_touches.after (.setTime .refl)

theorem doNavUnit_touches {n unitType : Nat} {fecOk : Bool} {firstBit bits : Nat} {payload : List Byte} {y : NavYield} {s : State} :
    Touches [.time, .harbour, .gnss, .journal, .recorder] s (doNavUnit n unitType fecOk firstBit bits payload y s) := by
  unfold doNavUnit
  split
  · exact .refl
  · exact .ite .refl (.ite (sendS1_touches.after (.ite (navYield_touches.after .refl) (checkFail_touches.after .refl))) (.ite (navYield_touches.after .refl) (checkFail_touches.after .refl)))

theorem gnssNeap_touches {s : State} : Touches [.gnss] s (gnssNeap s) :=
  .setGnss .refl

theorem gnssSpring_touches {s : State} : Touches [.gnss] s (gnssSpring s) :=
  .setGnss .refl

theorem doBurstStart_touches {s : State} : Touches [.time, .gnss] s (doBurstStart s) := by
  unfold doBurstStart
  refine .ite .refl ?_
  refine .setGnss ?_
  split
  · exact runToCyc_touches.after .refl
  · exact .refl

theorem withPpsGains_touches {F : List Part} {k : Nat} {f : State → State} {s : State} (hf : ∀ t, Touches F t (f t)) (hF : [.time] ⊆ F := by decide) :
    Touches F s (withPpsGains k f s) :=
  setDom_touches.after ((hf _).after (setDom_touches.after .refl hF) (List.Subset.refl F)) hF

theorem doBurstEnd_touches {raw : List (Nat × Nat)} {sol : Option Standalone} {s : State} :
    Touches [.out, .time, .harbour, .gnss, .pose, .journal, .recorder] s (doBurstEnd raw sol s) := by
  unfold doBurstEnd
  split
  · exact .refl
  refine .ite .refl ?_
  lift_lets
  extract_lets s1 _ s2 due s2' s3 _ _
  have h1 : Touches [.out, .time, .harbour, .gnss, .pose, .journal, .recorder] s s1 := runToCyc_touches.after .refl
  have h2 : Touches [.out, .time, .harbour, .gnss, .pose, .journal, .recorder] s s2 := by
    unfold s2
    split
    · exact h1
    · exact (withPpsGains_touches (F := [.out, .time, .harbour, .gnss, .pose, .journal, .recorder]) fun _ => takeSolution_touches.after .refl).after h1
    · exact takeSolution_touches.after h1
  have h2' : Touches [.out, .time, .harbour, .gnss, .pose, .journal, .recorder] s s2' := .ite (keepObs_touches.after h2) h2
  exact .ite (.setGnss h1) (.setGnss (.ite (sendS1_touches.after h2') h2'))

theorem uncalibrated_touches {ant cause group : Nat} {s : State} : Touches [.harbour, .journal, .recorder] s (uncalibrated ant cause group s) :=
  raise_touches.after .refl

theorem frontendRead_touches {ant : Nat} {serial : List Byte} {read : Bool} {blk : Option (List Byte)} {s : State} :
    Touches [.harbour, .gnss, .journal, .recorder] s (frontendRead ant serial read blk s) := by
  unfold frontendRead
  refine .ite .refl ?_
  split
  · exact uncalibrated_touches.after (.setGnss .refl)
  · exact uncalibrated_touches.after (.setGnss .refl)
  · exact .ite (uncalibrated_touches.after (.setGnss .refl)) (.foldl (fun _ _ => uncalibrated_touches.after .refl) (.setGnss .refl))

theorem restoreFloors_touches {s : State} : Touches [.gnss] s (restoreFloors s) := by
  unfold restoreFloors
  refine .foldl (fun _ _ => ?_) .refl
  split
  · exact .ite (setStream_touches.after .refl) (setStream_touches.after .refl)
  · exact .refl

theorem gnssConfig_touches {p : List Byte} {s : State} : Touches [.gnss] s (gnssConfig p s).2 :=
  .iteSnd .refl (.setGnss .refl)

theorem gnssFrontendSet_touches {p : List Byte} {s : State} : Touches [.gnss] s (gnssFrontendSet p s).2 :=
  .iteSnd .refl (.iteSnd (.setGnss .refl) (.iteSnd .refl (.setGnss .refl)))

theorem gnssAssist_touches {iod : Nat} {p : List Byte} {s : State} : Touches [.gnss] s (gnssAssist iod p s).2 := by
  unfold gnssAssist
  split
  · exact .setGnss .refl
  · exact .setGnss .refl
  · exact .iteSnd .refl (.iteSnd .refl (.setGnss .refl))
  · exact .iteSnd .refl (.iteSnd .refl (ephUnit_touches.after (.setGnss .refl)))
  · exact .refl

theorem gnssChannelRequest_touches {p : List Byte} {s : State} : Touches [.gnss] s (gnssChannelRequest p s).2 := by
  unfold gnssChannelRequest
  refine .iteSnd .refl (.iteSnd .refl (.iteSnd .refl ?_))
  split
  · exact .refl
  · dsimp only [okWith]
    split
    · exact handover_touches.after (putChan_touches.after .refl)
    · exact putChan_touches.after .refl

theorem gnssChannelRelease_touches {p : List Byte} {s : State} : Touches [.gnss] s (gnssChannelRelease p s).2 := by
  unfold gnssChannelRelease
  split
  · exact .iteSnd (freed_touches.after (dropChan_touches.after .refl)) .refl
  · exact .refl

theorem gnssMeasSubscribe_touches {p : List Byte} {s : State} : Touches [.gnss] s (gnssMeasSubscribe p s).2 :=
  .iteSnd .refl (.setGnss .refl)

theorem gnssNavSubscribe_touches {p : List Byte} {s : State} : Touches [.gnss] s (gnssNavSubscribe p s).2 :=
  .iteSnd .refl (.setGnss .refl)

theorem gnssNotchConfig_touches {p : List Byte} {s : State} : Touches [.harbour, .gnss, .journal, .recorder] s (gnssNotchConfig p s).2 :=
  .iteSnd .refl (overflowTest_touches.after (setStream_touches.after .refl))

theorem gnssLoopConfig_touches {p : List Byte} {s : State} : Touches [.gnss] s (gnssLoopConfig p s).2 :=
  .iteSnd .refl (.setGnss .refl)

theorem gnssRestart_touches {p : List Byte} {s : State} : Touches [.gnss] s (gnssRestart p s).2 :=
  .iteSnd .refl (.iteSnd .refl (.ite (.setGnss (.setGnss .refl)) (.setGnss .refl)))

theorem gnssBurstConfig_touches {p : List Byte} {s : State} : Touches [.gnss] s (gnssBurstConfig p s).2 :=
  .iteSnd .refl (.setGnss .refl)

theorem rejudge_touches {oldW oldS warn severe : Nat} {s : State} : Touches [.harbour, .gnss, .journal, .recorder] s (rejudge oldW oldS warn severe s) :=
  .foldl (fun _ _ => raiseIf_touches.after (raiseIf_touches.after (setStream_touches.after .refl))) .refl

theorem gnssAcqConfig_touches {p : List Byte} {s : State} : Touches [.harbour, .gnss, .journal, .recorder] s (gnssAcqConfig p s).2 :=
  .iteSnd .refl (.ok (rejudge_touches.after (.setGnss .refl)))


/-! ### Machine/Knani -/

theorem finishFor_touches {cmd : Option (Nat × Nat × Nat × Nat)} {status : Nat} {r : List Byte} {s : State} :
    Touches [.out, .mem, .harbour] s (finishFor cmd status r s) := by
  unfold finishFor
  split
  · exact .refl
  · exact complete_touches.after .refl

theorem dropManage_touches {n : Nat} {s : State} : Touches [.out, .mem, .harbour, .knani] s (dropManage n s) :=
  .foldl (fun _ _ => finishFor_touches.after .refl) (setLoop_touches.after .refl)

theorem timingReport_touches {n : Nat} {s : State} : Touches [.harbour, .journal, .recorder] s (timingReport n s) :=
  raiseIf_touches.after .refl

theorem ownWrite_touches {n pos addr : Nat} {b : List Byte} {s : State} : Touches [.out, .knani] s (ownWrite n pos addr b s) :=
  pushManage_touches.after .refl

theorem writeAdvs_touches {n : Nat} {old : List NodeView} {s : State} : Touches [.out, .knani] s (writeAdvs n old s) := by
  unfold writeAdvs
  refine .foldl (fun _ _ => ?_) .refl
  split
  · exact .ite (ownWrite_touches.after (ownWrite_touches.after .refl)) .refl
  · exact .refl

theorem chanEvent_touches {ch : Nat} {e : Ev} {s : State} : Touches [.harbour, .knani, .journal, .recorder] s (chanEvent ch e s) := by
  unfold chanEvent
  split
  · exact .refl
  · exact .ite (raise_touches.after (setChanView_touches.after .refl)) .refl

theorem loadLife_touches {n pos k : Nat} {s : State} : Touches [.harbour, .knani, .journal, .recorder] s (loadLife n pos k s) := by
  unfold loadLife
  split
  · exact .refl
  · exact .ite (chanEvent_touches.after (setChanView_touches.after (setPhys_touches.after (.setKnani .refl)))) (setChanView_touches.after (setPhys_touches.after (.setKnani .refl)))

theorem missingModule_touches {n pos k : Nat} {s : State} : Touches [.harbour, .knani, .journal, .recorder] s (missingModule n pos k s) := by
  unfold missingModule
  dsimp only
  split
  · exact .refl
  · exact .ite .refl (raise_touches.after (setChanView_touches.after .refl))

theorem saveLoop_touches {n : Nat} {s : State} : Touches [.knani] s (saveLoop n s) :=
  setLoop_touches.after .refl

theorem answerStart_touches {n st : Nat} {s : State} : Touches [.out, .mem, .harbour, .knani] s (answerStart n st s) := by
  unfold answerStart
  split
  · exact .refl
  · exact complete_touches.after (setLoop_touches.after .refl)

theorem loopOff_touches {n cause : Nat} {s0 : State} : Touches [.out, .mem, .harbour, .knani] s0 (loopOff n cause s0) :=
  setLoop_touches.after (dropManage_touches.after (answerStart_touches.after .refl))

theorem enumLost_touches {n cause : Nat} {s : State} : Touches [.out, .mem, .harbour, .cell, .knani, .journal, .recorder] s (enumLost n cause s) :=
  cellsChanged_touches.after (loopOff_touches.after .refl)

theorem enumFail_touches {n cause count : Nat} {s : State} : Touches [.harbour, .journal, .recorder] s (enumFail n cause count s) :=
  raise_touches.after .refl

theorem startEnum_touches {n : Nat} {s0 : State} : Touches [.out, .mem, .harbour, .knani] s0 (startEnum n s0) :=
  emit_touches.after (setLoop_touches.after (dropManage_touches.after (answerStart_touches.after .refl)))

theorem doEnumerateAtNode_touches {n : Nat} {idRec : List Byte} {mods : List (Option (List Byte))} {s : State} :
    Touches [.knani] s (doEnumerateAtNode n idRec mods s) := by
  unfold doEnumerateAtNode
  split
  · exact .refl
  · exact .ite .refl (setLoop_touches.after .refl)

theorem idFault_touches {source word : Nat} {r : List Byte} {s : State} : Touches [.harbour, .journal, .recorder] s (idFault source word r s) := by
  unfold idFault
  dsimp only
  split
  · exact .refl
  · exact raise_touches.after .refl

theorem enumRun_touches {n : Nat} {l : Loop} {masks : List Nat} {s : State} : Touches [.harbour, .cell, .knani, .journal, .recorder] s (enumRun n l masks s) := by
  unfold enumRun
  refine cellsChanged_touches.after ?_
  refine raise_touches.after ?_
  refine raiseIf_touches.after ?_
  refine .foldl (fun _ _ => .ite .refl (chanEvent_touches.after (setPhys_touches.after .refl))) ?_
  refine .foldl (fun _ _ => ?_) (setLoop_touches.after .refl)
  refine .foldl (fun _ _ => ?_) .refl
  split
  · exact .ite (missingModule_touches.after .refl) .refl
  · exact loadLife_touches.after (idFault_touches.after .refl)

theorem doEnumerateReturn_touches {n : Nat} {rts : List Nat} {transit : Nat} {masks : List Nat} {s : State} :
    Touches [.out, .mem, .harbour, .cell, .knani, .journal, .recorder] s (doEnumerateReturn n rts transit masks s) := by
  unfold doEnumerateReturn
  dsimp only
  split
  · exact .refl
  · refine .ite .refl ?_
    refine .ite (enumLost_touches.after (answerStart_touches.after .refl)) ?_
    refine .ite (enumLost_touches.after (answerStart_touches.after .refl)) ?_
    refine .ite (enumLost_touches.after (enumFail_touches.after (timingReport_touches.after (setLoop_touches.after (.foldl (fun _ _ => idFault_touches.after .refl) (.ite (enumFail_touches.after (answerStart_touches.after .refl)) (answerStart_touches.after .refl))))))) ?_
    split
    · exact raise_touches.after (setLoop_touches.after (setLoop_touches.after (.foldl (fun _ _ => idFault_touches.after .refl) (.ite (enumFail_touches.after (answerStart_touches.after .refl)) (answerStart_touches.after .refl)))))
    · exact enumRun_touches.after (setLoop_touches.after (.foldl (fun _ _ => idFault_touches.after .refl) (.ite (enumFail_touches.after (answerStart_touches.after .refl)) (answerStart_touches.after .refl))))

theorem doEnumTimeout_touches {n : Nat} {returned : Bool} {s : State} :
    Touches [.out, .mem, .time, .harbour, .cell, .knani, .journal, .recorder] s (doEnumTimeout n returned s) := by
  unfold doEnumTimeout
  dsimp only
  split
  · exact .refl
  · exact .ite .refl (.ite (enumFail_touches.after (enumLost_touches.after (answerStart_touches.after (runToCyc_touches.after .refl)))) (enumFail_touches.after (enumLost_touches.after (answerStart_touches.after (runToCyc_touches.after .refl)))))

theorem doCommandFrame_touches {n : Nat} {s : State} : Touches [.out, .time, .knani] s (doCommandFrame n s) := by
  unfold doCommandFrame
  split
  · exact .refl
  · exact .ite .refl (emit_touches.after (setLoop_touches.after (runTo_touches.after .refl)))

theorem doNodeFrame_touches {n pos : Nat} {x : NodeSense} {s : State} : Touches [.time, .knani] s (doNodeFrame n pos x s) := by
  unfold doNodeFrame
  dsimp only
  split
  · split
    · exact .ite .refl (setLoop_touches.after (runTo_touches.after .refl))
    · exact .refl
  · exact .refl

theorem doNodeLatch_touches {n pos : Nat} {s : State} : Touches [.time, .knani] s (doNodeLatch n pos s) := by
  unfold doNodeLatch
  split
  · exact .refl
  · split
    · exact .refl
    · exact .ite .refl (setPhys_touches.after (runTo_touches.after .refl))

theorem doChannelEdge_touches {n pos k : Nat} {s : State} : Touches [.time, .knani] s (doChannelEdge n pos k s) := by
  unfold doChannelEdge
  split
  · exact .refl
  · exact setPhys_touches.after (runTo_touches.after .refl)

theorem doFailsafeCommit_touches {n pos : Nat} {s : State} : Touches [.time, .knani] s (doFailsafeCommit n pos s) := by
  unfold doFailsafeCommit
  split
  · exact .refl
  · split
    · exact .refl
    · exact .ite .refl (setPhys_touches.after (runTo_touches.after .refl))

theorem doShortLoad_touches {n pos k mA : Nat} {s : State} : Touches [.knani] s (doShortLoad n pos k mA s) := by
  unfold doShortLoad
  split
  · exact .refl
  · exact .ite (setPhys_touches.after .refl) .refl

theorem doOvertemp_touches {n pos : Nat} {temp : Int} {s : State} : Touches [.knani] s (doOvertemp n pos temp s) :=
  setPhys_touches.after .refl

theorem doBreakOriginate_touches {n pos : Nat} {s : State} : Touches [.knani] s (doBreakOriginate n pos s) :=
  .ite (setLoop_touches.after .refl) .refl

theorem doBreakForward_touches {n pos : Nat} {s : State} : Touches [.knani] s (doBreakForward n pos s) :=
  .ite (setLoop_touches.after .refl) .refl

theorem breakLoop_touches {n j : Nat} {s : State} : Touches [.out, .mem, .harbour, .knani, .journal, .recorder] s (breakLoop n j s) :=
  raise_touches.after (setLoop_touches.after (dropManage_touches.after .refl))

theorem doBreakFrame_touches {n : Nat} {s : State} : Touches [.out, .mem, .harbour, .cell, .knani, .journal, .recorder] s (doBreakFrame n s) := by
  unfold doBreakFrame
  dsimp only
  split
  · exact .refl
  · exact .ite (breakLoop_touches.after .refl) (.ite (enumFail_touches.after (enumLost_touches.after (answerStart_touches.after .refl))) (setLoop_touches.after .refl))

theorem doReturnMissing_touches {n : Nat} {silent : Bool} {s : State} :
    Touches [.out, .mem, .time, .harbour, .knani, .journal, .recorder] s (doReturnMissing n silent s) := by
  unfold doReturnMissing
  dsimp only
  split
  · exact .refl
  · exact .ite .refl (.ite (breakLoop_touches.after (raiseIf_touches.after (setLoop_touches.after (runTo_touches.after .refl)))) (raiseIf_touches.after (setLoop_touches.after (runTo_touches.after .refl))))

theorem doSegment_touches {n : Nat} {rts : List Nat} {s : State} : Touches [.out, .time, .harbour, .knani, .journal, .power, .recorder] s (doSegment n rts s) := by
  unfold doSegment
  refine .ite .refl ?_
  refine .ite (.ite .refl (timingReport_touches.after (writeAdvs_touches.after (setLoop_touches.after (passDone_touches.after .refl))))) ?_
  split
  · exact .refl
  · exact timingReport_touches.after (writeAdvs_touches.after (setLoop_touches.after (passDone_touches.after (runToCyc_touches.after .refl))))

theorem doManageAtNode_touches {n echo : Nat} {intact : Bool} {s : State} : Touches [.knani] s (doManageAtNode n echo intact s) := by
  unfold doManageAtNode
  split
  · exact .refl
  · split
    · exact .refl
    · exact .ite .refl (setLoop_touches.after .refl)

theorem resumeStep_touches {n : Nat} {m : Manage} {step : Nat} {s : State} : Touches [.out, .harbour, .knani, .journal, .recorder] s (resumeStep n m step s) := by
  unfold resumeStep
  split
  · exact .ite (pushManage_touches.after .refl) (raise_touches.after (setView_touches.after .refl))
  · exact pushManage_touches.after (ownWrite_touches.after (writeAdvs_touches.after (setLoop_touches.after .refl)))
  · exact .ite .refl (setView_touches.after .refl)

theorem manageDone_touches {n : Nat} {m : Manage} {r : List Manage} {s : State} : Touches [.out, .mem, .harbour, .knani, .journal, .recorder] s (manageDone n m r s) := by
  unfold manageDone
  lift_lets
  extract_lets s1 _
  have hs1 : Touches [.out, .mem, .harbour, .knani, .journal, .recorder] s s1 := setLoop_touches.after .refl
  split
  · exact finishFor_touches.after hs1
  · exact .ite (setLoop_touches.after .refl) (finishFor_touches.after (setLoop_touches.after .refl))
  · exact finishFor_touches.after hs1
  · exact hs1
  · exact hs1
  · refine .ite ?_ (chanEvent_touches.after hs1)
    split
    · exact setChanView_touches.after hs1
    · exact hs1
  · exact resumeStep_touches.after hs1
  · exact hs1

theorem doManageFrame_touches {n : Nat} {intact : Bool} {s : State} : Touches [.out, .mem, .harbour, .knani, .journal, .recorder] s (doManageFrame n intact s) := by
  unfold doManageFrame
  split
  · exact .refl
  · exact .ite (manageDone_touches.after .refl) (sendManage_touches.after (manageDone_touches.after .refl))

theorem doWatchdogRestore_touches {n : Nat} {s : State} : Touches [.out, .time, .knani] s (doWatchdogRestore n s) := by
  unfold doWatchdogRestore
  dsimp only
  split
  · exact .refl
  · exact .foldl (fun _ _ => .ite (ownWrite_touches.after .refl) .refl) (setLoop_touches.after (runToCyc_touches.after .refl))

theorem knaniPeriodAccepted_touches {code : Nat} {s : State} : Touches [.out, .knani] s (knaniPeriodAccepted code s) :=
  .foldl (fun _ _ => .ite .refl (.foldl (fun _ _ => .ite (ownWrite_touches.after .refl) .refl) .refl)) .refl

theorem knaniPeriodTaken_touches {s : State} : Touches [.harbour, .knani, .journal, .recorder] s (knaniPeriodTaken s) :=
  .foldl (fun _ _ => .ite .refl (raiseIf_touches.after (setLoop_touches.after .refl))) .refl

theorem knaniBoundary_touches {s : State} : Touches [.out, .mem, .harbour, .knani] s (knaniBoundary s) :=
  .foldl (fun _ _ => .ite (startEnum_touches.after (saveLoop_touches.after .refl)) .refl) .refl

theorem wearMarks_touches {ch : Nat} {s : State} : Touches [.harbour, .knani, .journal, .recorder] s (wearMarks ch s) := by
  unfold wearMarks
  split
  · exact .refl
  · exact setChanView_touches.after (raiseIf_touches.after (raiseIf_touches.after (.setKnani .refl)))

theorem lifeCheck1_touches {n pos k : Nat} {s0 : State} : Touches [.out, .harbour, .knani, .journal, .recorder] s0 (lifeCheck1 n pos k s0) := by
  unfold lifeCheck1
  dsimp only
  split
  · exact .ite (setPhys_touches.after .refl) (wearMarks_touches.after (.ite (pushManage_touches.after (setChanView_touches.after (.setKnani (setPhys_touches.after .refl)))) (setChanView_touches.after (.setKnani (setPhys_touches.after .refl)))))
  · exact setPhys_touches.after .refl

theorem overChannels_touches {F : List Part} {f : Nat → Nat → Nat → State → State} {s : State} (hf : ∀ n pos k t, Touches F t (f n pos k t)) :
    Touches F s (overChannels f s) := by
  unfold overChannels
  refine .foldl (fun _ _ => .ite .refl (.foldl (fun _ _ => ?_) .refl)) .refl
  split
  · exact .ite (.foldl (fun _ _ => hf _ _ _ _) .refl) .refl
  · exact .refl

theorem doModuleHeader_touches {n pos k : Nat} {r : Option (List Byte)} {s : State} : Touches [.harbour, .knani, .journal, .recorder] s (doModuleHeader n pos k r s) := by
  unfold doModuleHeader
  split
  · refine .ite .refl ?_
    split
    · exact .ite (missingModule_touches.after (setPhys_touches.after .refl)) (setPhys_touches.after .refl)
    · exact .ite (setPhys_touches.after .refl) (loadLife_touches.after (idFault_touches.after (setPhys_touches.after .refl)))
  · exact .refl

theorem pushId_touches {b : Nat} {t : IdTrans} {s : State} : Touches [.out, .knani] s (pushId b t s) :=
  emit_touches.after (.setKnani .refl)

theorem idOwnRead_touches {b : Nat} {r0 : Option (List Byte)} {s : State} : Touches [.harbour, .gnss, .knani, .journal, .recorder] s (idOwnRead b r0 s) := by
  unfold idOwnRead
  refine .ite ?_ ?_
  · split
    · exact .setKnani .refl
    · exact idFault_touches.after (.setKnani .refl)
  · refine frontendRead_touches.after ?_
    split
    · exact .setKnani .refl
    · exact idFault_touches.after (.setKnani .refl)

theorem idOwnStep_touches {b : Nat} {data : Option (List Byte)} {s : State} : Touches [.out, .harbour, .gnss, .knani, .journal, .recorder] s (idOwnStep b data s) := by
  unfold idOwnStep
  split
  · exact idOwnRead_touches.after .refl
  · exact .ite (emit_touches.after (.setKnani .refl)) (idOwnRead_touches.after .refl)

theorem doIdTransaction_touches {b : Nat} {answer : Option (List Byte)} {crc : Nat} {s : State} :
    Touches [.out, .mem, .harbour, .gnss, .knani, .journal, .recorder] s (doIdTransaction b answer crc s) := by
  unfold doIdTransaction
  split
  · exact .refl
  · split
    · exact idOwnRead_touches.after (.setKnani .refl)
    · exact idOwnStep_touches.after (.setKnani .refl)
    · exact finishFor_touches.after (.setKnani .refl)
    · refine .ite ?_ (finishFor_touches.after (.setKnani .refl))
      split <;> exact finishFor_touches.after (.setKnani .refl)

theorem knaniLoopStart_touches {c : Cmd} {p : List Byte} {s : State} : Touches [.out, .mem, .harbour, .knani] s (knaniLoopStart c p s).2 :=
  .iteSnd .refl (.iteSnd .refl (.iteSnd .refl (.iteSnd (startEnum_touches.after (setLoop_touches.after .refl)) (setLoop_touches.after (startEnum_touches.after (setLoop_touches.after .refl))))))

theorem knaniLoopStop_touches {p : List Byte} {s : State} : Touches [.out, .mem, .harbour, .cell, .knani, .journal, .recorder] s (knaniLoopStop p s).2 :=
  .iteSnd .refl (.iteSnd .refl (cellsChanged_touches.after (loopOff_touches.after (saveLoop_touches.after .refl))))

theorem knaniLoopRestore_touches {p : List Byte} {s : State} : Touches [.knani] s (knaniLoopRestore p s).2 :=
  .iteSnd .refl (.iteSnd .refl (setLoop_touches.after .refl))

theorem knaniLoopStatus_touches {p : List Byte} {s : State} : Touches [] s (knaniLoopStatus p s).2 :=
  .iteSnd .refl .refl

theorem knaniNodeStatus_touches {p : List Byte} {s : State} : Touches [] s (knaniNodeStatus p s).2 := by
  unfold knaniNodeStatus
  refine .iteSnd .refl ?_
  split <;> exact .refl

theorem pushTransfer_touches {n : Nat} {cmd : Option (Nat × Nat × Nat × Nat)} {l : List (List Manage)} {s : State} :
    Touches [.out, .knani] s (pushTransfer n cmd l s) := by
  unfold pushTransfer
  refine .foldl (fun _ _ => ?_) .refl
  split
  · exact pushManage_touches.after .refl
  · exact .refl

theorem knaniIdRead_touches {c : Cmd} {p : List Byte} {s : State} : Touches [.out, .knani] s (knaniIdRead c p s).2 := by
  unfold knaniIdRead
  refine .iteSnd .refl ?_
  refine .iteSnd (pushId_touches.after .refl) ?_
  refine .iteSnd .refl ?_
  split
  · exact .refl
  · exact pushTransfer_touches.after .refl

theorem knaniIdWrite_touches {c : Cmd} {p : List Byte} {s : State} : Touches [.out, .knani] s (knaniIdWrite c p s).2 := by
  unfold knaniIdWrite
  refine .iteSnd .refl ?_
  refine .iteSnd (.iteSnd .refl (pushId_touches.after .refl)) ?_
  refine .iteSnd .refl ?_
  split
  · exact .refl
  · exact .iteSnd .refl (pushTransfer_touches.after .refl)

theorem knaniTimingMeasure_touches {p : List Byte} {s : State} : Touches [.knani] s (knaniTimingMeasure p s).2 :=
  .iteSnd .refl (.iteSnd .refl (setLoop_touches.after .refl))

theorem knaniNodeResume_touches {p : List Byte} {s : State} : Touches [.out, .knani] s (knaniNodeResume p s).2 := by
  unfold knaniNodeResume
  refine .iteSnd .refl ?_
  split
  · exact .refl
  · exact .iteSnd .refl (pushManage_touches.after (pushManage_touches.after (setView_touches.after .refl)))


/-! ### Machine/Channel -/

theorem probeUnavailable_touches {ch : Nat} {s : State} : Touches [.harbour, .knani, .journal, .recorder] s (probeUnavailable ch s) := by
  unfold probeUnavailable
  split
  · exact .ite .refl (raise_touches.after (setChanView_touches.after .refl))
  · exact .refl

theorem diagEvent_touches {n pos k code tide : Nat} {s : State} : Touches [.harbour, .knani, .journal, .recorder] s (diagEvent n pos k code tide s) := by
  unfold diagEvent
  split
  · exact chanEvent_touches.after .refl
  · exact chanEvent_touches.after .refl
  · exact chanEvent_touches.after .refl
  · exact chanEvent_touches.after .refl
  · exact chanEvent_touches.after .refl
  · exact .refl

theorem takeDiag_touches {n pos k code tide : Nat} {s : State} : Touches [.harbour, .knani, .journal, .recorder] s (takeDiag n pos k code tide s) := by
  unfold takeDiag
  lift_lets
  extract_lets
  split
  · exact .refl
  lift_lets
  extract_lets _ s1 s2 s3 s4
  have h1 : Touches [.harbour, .knani, .journal, .recorder] s s1 := setChanView_touches.after .refl
  have h2 : Touches [.harbour, .knani, .journal, .recorder] s s2 := .ite h1 (diagEvent_touches.after h1)
  have h3 : Touches [.harbour, .knani, .journal, .recorder] s s3 := .ite (chanEvent_touches.after h2) h2
  have h4 : Touches [.harbour, .knani, .journal, .recorder] s s4 := .ite (probeUnavailable_touches.after h3) h3
  exact .ite (chanEvent_touches.after h4) h4

theorem takeStatus_touches {n pos w tide : Nat} {s : State} : Touches [.harbour, .knani, .journal, .recorder] s (takeStatus n pos w tide s) := by
  unfold takeStatus
  split
  · exact .refl
  lift_lets
  extract_lets _ _ _ _ _ s1 _ s3 s4 s5 _ _ s6
  have h1 : Touches [.harbour, .knani, .journal, .recorder] s s1 := setView_touches.after .refl
  have h3 : Touches [.harbour, .knani, .journal, .recorder] s s3 := raiseIf_touches.after (raiseIf_touches.after h1)
  have h4 : Touches [.harbour, .knani, .journal, .recorder] s s4 :=
    .ite (raise_touches.after (setView_touches.after h3))
      (.ite (.foldl (fun _ _ => setChanView_touches.after (loadLife_touches.after .refl)) (raise_touches.after (setView_touches.after h3))) h3)
  have h5 : Touches [.harbour, .knani, .journal, .recorder] s s5 := .foldl (fun _ _ => takeDiag_touches.after .refl) h4
  have h6 : Touches [.harbour, .knani, .journal, .recorder] s s6 := .ite (chanEvent_touches.after h5) h5
  exact .ite (chanEvent_touches.after (setView_touches.after h6)) h6

theorem doReturnedFrame_touches {n transit : Nat} {noise : List (Nat × Nat)} {s : State} :
    Touches [.out, .mem, .time, .harbour, .knani, .journal, .recorder] s (doReturnedFrame n transit noise s) := by
  unfold doReturnedFrame
  dsimp only
  split
  · exact .refl
  · refine .ite .refl ?_
    refine .ite (doReturnMissing_touches.after .refl) ?_
    refine .foldl (fun _ _ => ?_) (.ite (setLoop_touches.after (runTo_touches.after .refl)) (timingReport_touches.after (setLoop_touches.after (runTo_touches.after .refl))))
    split
    · exact takeStatus_touches.after .refl
    · exact setView_touches.after .refl

theorem packWord_touches {b : Nat} {x : CellRes} {s : State} : Touches [.harbour, .knani, .journal, .recorder] s (packWord b x s).2 := by
  unfold packWord
  split
  · exact .refl
  · split
    · exact setChanView_touches.after .refl
    · exact .iteSnd (setChanView_touches.after .refl) (chanEvent_touches.after (setChanView_touches.after .refl))

theorem doFramePack_touches {n : Nat} {s : State} : Touches [.harbour, .cell, .knani, .journal, .recorder] s (doFramePack n s) := by
  unfold doFramePack
  split
  · exact .refl
  · exact .ite .refl (.setCell (.foldlSnd (fun _ _ => packWord_touches.after .refl) .refl))

theorem channelConfig_touches {c : Cmd} {p : List Byte} {s : State} : Touches [.out, .knani] s (channelConfig c p s).2 := by
  unfold channelConfig
  dsimp only
  split
  · exact .refl
  · exact .iteSnd .refl (.iteSnd .refl (.iteSnd .refl (.iteSnd .refl (.iteSnd .refl (pushManage_touches.after .refl)))))

theorem channelStatus_touches {p : List Byte} {s : State} : Touches [] s (channelStatus p s).2 := by
  unfold channelStatus
  dsimp only
  split <;> exact .refl

theorem channelFaultClear_touches {p : List Byte} {s : State} : Touches [.out, .knani] s (channelFaultClear p s).2 := by
  unfold channelFaultClear
  dsimp only
  split
  · exact .refl
  · exact pushManage_touches.after (setChanView_touches.after .refl)

theorem channelNeighbourTest_touches {p : List Byte} {s : State} : Touches [.out, .knani] s (channelNeighbourTest p s).2 := by
  unfold channelNeighbourTest
  dsimp only
  split
  · exact .refl
  · exact .iteSnd .refl (.iteSnd .refl (.iteSnd .refl (pushManage_touches.after (setView_touches.after .refl))))

theorem channelExposureSet_touches {p : List Byte} {s : State} : Touches [.knani] s (channelExposureSet p s).2 :=
  .iteSnd .refl (.iteSnd (.setKnani .refl) (.iteSnd .refl (.setKnani .refl)))

theorem channelDiagConfig_touches {p : List Byte} {s : State} : Touches [.knani] s (channelDiagConfig p s).2 :=
  .iteSnd (.setKnani .refl) .refl

theorem channelLifeRead_touches {p : List Byte} {s : State} : Touches [] s (channelLifeRead p s).2 := by
  unfold channelLifeRead
  dsimp only
  split
  · exact .refl
  · split <;> exact .refl


/-! ### Machine/Fleet -/

theorem authFail_touches {ty src : Nat} {s : State} : Touches [.harbour, .fleet, .journal, .recorder] s (authFail ty src s) :=
  .ite (.setFleet .refl) (raise_touches.after (.setFleet (.setFleet .refl)))

theorem rxFrame_touches {ty : Nat} {f : RadFrame} {s0 : State} : Touches [.time, .harbour, .fleet, .journal, .recorder] s0 (rxFrame ty f s0).2 :=
  .iteSnd (runTo_touches.after .refl) (.iteSnd (authFail_touches.after (runTo_touches.after .refl)) (.iteSnd (.setFleet (runTo_touches.after .refl)) (runTo_touches.after .refl)))

theorem bcastWin_touches {seq : Nat} {s : State} : Touches [.fleet] s (bcastWin seq s).2 :=
  .setFleet .refl

theorem rxBroadcast_touches {ty : Nat} {f : RadFrame} {s0 : State} : Touches [.time, .harbour, .fleet, .journal, .recorder] s0 (rxBroadcast ty f s0).2 :=
  .iteSnd (rxFrame_touches.after .refl) (bcastWin_touches.after (rxFrame_touches.after .refl))

theorem runScript_touches {k : Nat} {s : State} : Touches [.out] s (runScript k s) := by
  unfold runScript
  split
  · exact emit_touches.after .refl
  · exact .refl

theorem radioOff_touches {s : State} : Touches [.out, .fleet, .cor] s (radioOff s) :=
  runScript_touches.after (corDropGrants_touches.after (.setFleet .refl))

theorem enterLost_touches {cause : Nat} {s : State} : Touches [.out, .mem, .time, .harbour, .axes, .fleet, .stop, .net, .journal, .recorder] s (enterLost cause s) :=
  stopSource_touches.after (raise_touches.after (.setFleet .refl))

theorem lostEnds_touches {s : State} : Touches [.harbour, .stop, .journal, .recorder] s (lostEnds s) :=
  stopEnd_touches.after (raise_touches.after .refl)

theorem tryJoined_touches {k : Nat} {s : State} : Touches [.harbour, .fleet, .stop, .journal, .recorder] s (tryJoined k s) :=
  .ite .refl (.ite (lostEnds_touches.after (raise_touches.after (.setFleet .refl))) (raise_touches.after (.setFleet .refl)))

theorem mapSwitch_touches {k : Nat} {s : State} : Touches [.harbour, .fleet, .journal, .recorder] s (mapSwitch k s) := by
  unfold mapSwitch
  split
  · exact .ite .refl (raise_touches.after (.setFleet .refl))
  · exact .refl

theorem drawSlot_touches {k : Nat} {s : State} : Touches [.freeCtr, .fleet] s (drawSlot k s) :=
  .ite .refl (.setFleet (draw_touches.after .refl))

theorem send_touches {k slot half ty dst : Nat} {ackReq retx : Bool} {seq ackSeq ackMap : Nat} {payload : List Byte} {s : State} :
    Touches [.out] s (send k slot half ty dst ackReq retx seq ackSeq ackMap payload s) :=
  runScript_touches.after (radioSend_touches.after (runScript_touches.after .refl))

theorem sendAll_touches {k slot ty : Nat} {payload : List Byte} {s : State} : Touches [.out, .fleet] s (sendAll k slot ty payload s) :=
  send_touches.after (.setFleet .refl)

theorem sendBeacon_touches {k : Nat} {s : State} : Touches [.out, .harbour, .fleet, .cor, .journal, .recorder] s (sendBeacon k s) := by
  have hcor : Touches [.out, .harbour, .fleet, .cor, .journal, .recorder] s (corBlock (fullPayload s.fleet - 24) (k % 2 ^ 32) s).2 := corBlock_touches.after .refl
  rw [sendBeacon]
  generalize corBlock (fullPayload s.fleet - 24) (k % 2 ^ 32) s = x at hcor ⊢
  obtain ⟨blk, s1⟩ := x
  split
  exact sendAll_touches.after hcor

theorem sendAcks_touches {k slot : Nat} {s : State} : Touches [.out, .fleet] s (sendAcks k slot s) :=
  .foldl (fun _ _ => setPeer_touches.after .refl) (sendAll_touches.after .refl)

theorem sendCorr_touches {k slot : Nat} {s : State} : Touches [.out, .fleet] s (sendCorr k slot s) := by
  unfold sendCorr
  split
  · exact .refl
  · exact sendAll_touches.after (.setFleet .refl)

theorem sendData_touches {k slot a : Nat} {s : State} : Touches [.out, .fleet] s (sendData k slot a s) := by
  unfold sendData
  dsimp only
  split
  · exact takeFrag_touches.after .refl
  · exact send_touches.after (setPeer_touches.after (takeFrag_touches.after .refl))

theorem sendJoinResp_touches {k slot : Nat} {b : List Byte} {s : State} : Touches [.out, .fleet] s (sendJoinResp k slot b s) :=
  sendAll_touches.after (.ite (.setFleet .refl) .refl)

theorem baseSlotSend_touches {k slot : Nat} {s : State} : Touches [.out, .harbour, .fleet, .cor, .journal, .recorder] s (baseSlotSend k slot s) := by
  unfold baseSlotSend
  refine .ite (sendBeacon_touches.after .refl) ?_
  refine .ite (sendAll_touches.after .refl) ?_
  refine .ite (sendAcks_touches.after .refl) ?_
  refine .ite (sendCorr_touches.after .refl) ?_
  split
  · exact sendJoinResp_touches.after (.setFleet .refl)
  · split
    · exact sendData_touches.after .refl
    · split
      · exact sendAll_touches.after (.setFleet .refl)
      · exact .refl

theorem sendUplink_touches {k slot half : Nat} {s : State} : Touches [.out, .fleet, .cor] s (sendUplink k slot half s) := by
  unfold sendUplink
  dsimp only
  have hsent : ∀ {q n top map : Nat} {ack re : Bool} {b : List Byte} {f : Peer → Peer},
      Touches [.out, .fleet, .cor] s (send k slot half 5 0 ack re q top map b (setPeer 0 f (takeFrag 0 (k % 2 ^ 32) n s).2)) :=
    send_touches.after (setPeer_touches.after (takeFrag_touches.after .refl))
  split
  · exact hsent
  · exact .ite (radioOff_touches.after hsent) (.setFleet hsent)

theorem sendContention_touches {k slot : Nat} {s : State} : Touches [.out, .freeCtr, .fleet] s (sendContention k slot s) := by
  unfold sendContention
  split
  · exact .setFleet (send_touches.after (.setFleet .refl))
  · exact .ite (.setFleet .refl) (.setFleet (send_touches.after (draw_touches.after (.setFleet .refl))))

theorem resolveAll_touches {k : Nat} {s : State} : Touches [.harbour, .fleet, .journal, .recorder] s (resolveAll k s) :=
  .ite (.foldl (fun _ _ => resolve_touches.after .refl) .refl) (resolve_touches.after .refl)

theorem doSlotStart_touches {slot half : Nat} {s : State} :
    Touches [.out, .freeCtr, .time, .harbour, .fleet, .cor, .stop, .journal, .recorder] s (doSlotStart slot half s) := by
  unfold doSlotStart
  lift_lets
  extract_lets _ s0 _ _ s2 _
  have hs0 : Touches [.out, .freeCtr, .time, .harbour, .fleet, .cor, .stop, .journal, .recorder] s s0 := runTo_touches.after .refl
  have hs2 : Touches [.out, .freeCtr, .time, .harbour, .fleet, .cor, .stop, .journal, .recorder] s s2 := .ite (resolveAll_touches.after (tryJoined_touches.after (mapSwitch_touches.after (.setFleet hs0)))) (.setFleet hs0)
  exact .ite .refl (.ite (.ite hs2 (runScript_touches.after hs2)) (.ite (.ite (baseSlotSend_touches.after hs2) hs2) (.ite (sendUplink_touches.after hs2) (.ite (sendContention_touches.after hs2) hs2))))

theorem radioUpdate_touches {eps : Int} {cap : Nat} {s : State} : Touches [.harbour, .fleet, .journal, .recorder] s (radioUpdate eps cap s) :=
  raiseIf_touches.after (.setFleet (raiseIf_touches.after (.ite (.setFleet .refl) (.setFleet .refl))))

theorem beaconMap_touches {k : Nat} {p : List Byte} {s : State} : Touches [.harbour, .fleet, .journal, .recorder] s (beaconMap k p s) :=
  .ite (.setFleet .refl) (.ite (.setFleet .refl) (mapSwitch_touches.after (.setFleet .refl)))

theorem beaconStop_touches {w : Nat} {s : State} : Touches [.out, .mem, .time, .harbour, .axes, .fleet, .stop, .net, .journal, .recorder] s (beaconStop w s) :=
  .ite (stopSource_touches.after (.setStop .refl)) (stopEnd_touches.after (stopEnd_touches.after (.setStop .refl)))

theorem doBeacon_touches {f : RadFrame} {s0 : State} :
    Touches [.out, .freeCtr, .mem, .time, .harbour, .axes, .fleet, .cor, .stop, .net, .journal, .recorder] s0 (doBeacon f s0) := by
  have h0 : Touches [.out, .freeCtr, .mem, .time, .harbour, .axes, .fleet, .cor, .stop, .net, .journal, .recorder] s0 (rxFrame 0 f s0).2 := rxFrame_touches.after .refl
  unfold doBeacon
  generalize rxFrame 0 f s0 = x at h0 ⊢
  obtain ⟨okF, s⟩ := x
  dsimp -zeta only
  lift_lets
  extract_lets _ _ _ _ _ s1 _ _ s3 s4 _ s5 _ s7
  have h3 : Touches [.out, .freeCtr, .mem, .time, .harbour, .axes, .fleet, .cor, .stop, .net, .journal, .recorder] s0 s3 :=
    beaconStop_touches.after (beaconMap_touches.after (bcastWin_touches.after (.setFleet (radioUpdate_touches.after h0))))
  have h4 : Touches [.out, .freeCtr, .mem, .time, .harbour, .axes, .fleet, .cor, .stop, .net, .journal, .recorder] s0 s4 := tryJoined_touches.after h3
  have h5 : Touches [.out, .freeCtr, .mem, .time, .harbour, .axes, .fleet, .cor, .stop, .net, .journal, .recorder] s0 s5 := .ite (enterLost_touches.after h4) h4
  have h7 : Touches [.out, .freeCtr, .mem, .time, .harbour, .axes, .fleet, .cor, .stop, .net, .journal, .recorder] s0 s7 :=
    mismatchCheck_touches.after (.ite (applyBlock_touches.after h5) h5)
  exact .ite h0 (.ite h0 (.ite (drawSlot_touches.after h7) (.ite (drawSlot_touches.after h7) h7)))

theorem doCorrFrame_touches {f : RadFrame} {s0 : State} : Touches [.time, .harbour, .pose, .fleet, .journal, .recorder] s0 (doCorrFrame f s0) :=
  .ite (rxBroadcast_touches.after .refl) (.setPoseFleet (rxBroadcast_touches.after .refl))

theorem doStopFrame_touches {f : RadFrame} {s0 : State} : Touches [.out, .mem, .time, .harbour, .axes, .fleet, .stop, .net, .journal, .recorder] s0 (doStopFrame f s0) :=
  .ite (rxFrame_touches.after .refl) (stopSource_touches.after (bcastWin_touches.after (.setStop (rxFrame_touches.after .refl))))

theorem deliverMsg_touches {a port id : Nat} {rel : Bool} {d : List Byte} {s : State} : Touches [.harbour, .cor, .journal, .recorder] s (deliverMsg a port id rel d s) :=
  .ite (.ite (.ite (doReq_touches.after .refl) (doRelease_touches.after .refl)) (doFrame_touches.after .refl)) (radioMsgUp_touches.after .refl)

theorem takeIn_touches {a : Nat} {f : RadFrame} {frag : List Byte} {s : State} : Touches [.harbour, .fleet, .cor, .journal, .recorder] s (takeIn a f frag s) := by
  have h : Touches [.harbour, .fleet, .cor, .journal, .recorder] s (addFrag a (sfNow s) frag s).2 := addFrag_touches.after .refl
  unfold takeIn
  refine .ite .refl ?_
  split
  next heq => exact deliverMsg_touches.after (.ofSnd heq h)
  next heq => exact .ofSnd heq h

theorem ackCovered_touches {a : Nat} {f : RadFrame} {s : State} : Touches [.fleet] s (ackCovered a f s) :=
  setPeer_touches.after .refl

theorem doData_touches {f : RadFrame} {s0 : State} : Touches [.time, .harbour, .fleet, .cor, .journal, .recorder] s0 (doData f s0) := by
  unfold doData
  dsimp only
  have hrx : Touches [.time, .harbour, .fleet, .cor, .journal, .recorder] s0 (rxFrame 3 f s0).2 := rxFrame_touches.after .refl
  have hwin : Touches [.time, .harbour, .fleet, .cor, .journal, .recorder] s0 (peerWin 0 f.seq (ackCovered 0 f (rxFrame 3 f s0).2)).2 :=
    peerWin_touches.after (ackCovered_touches.after hrx)
  exact .ite hrx (.ite (takeIn_touches.after hwin) hwin)

theorem doAckFrame_touches {f : RadFrame} {s0 : State} : Touches [.time, .harbour, .fleet, .journal, .recorder] s0 (doAckFrame f s0) :=
  .ite (rxBroadcast_touches.after .refl) (.foldl (fun _ _ => .ite (ackPeer_touches.after .refl) .refl) (rxBroadcast_touches.after .refl))

theorem doJoinResp_touches {f : RadFrame} {s0 : State} : Touches [.time, .harbour, .fleet, .cor, .journal, .recorder] s0 (doJoinResp f s0) :=
  .ite (rxBroadcast_touches.after .refl) (.ite (.setFleetCor (.setFleet (rxBroadcast_touches.after .refl))) (raise_touches.after (.setFleet (.setFleet (rxBroadcast_touches.after .refl)))))

theorem doServiceResp_touches {f : RadFrame} {s0 : State} : Touches [.time, .harbour, .fleet, .journal, .recorder] s0 (doServiceResp f s0) := by
  unfold doServiceResp
  dsimp only
  split
  · exact .ite (sendS1_touches.after (.setFleet (rxFrame_touches.after .refl))) (rxFrame_touches.after .refl)
  · exact rxFrame_touches.after .refl

theorem releaseRover_touches {a cause : Nat} {s : State} : Touches [.harbour, .fleet, .cor, .journal, .recorder] s (releaseRover a cause s) := by
  unfold releaseRover
  split
  · exact .refl
  · exact .foldl (fun _ _ => msgFailed_touches.after .refl) (raise_touches.after (.setFleetCor .refl))

theorem doUplink_touches {f : RadFrame} {s0 : State} : Touches [.time, .harbour, .fleet, .cor, .journal, .recorder] s0 (doUplink f s0) := by
  unfold doUplink
  dsimp only
  have hrx : Touches [.time, .harbour, .fleet, .cor, .journal, .recorder] s0 (rxFrame 5 f s0).2 := rxFrame_touches.after .refl
  split
  · exact hrx
  · refine .ite hrx ?_
    have htake : ∀ {c : Prop} [Decidable c] {frag : List Byte} {a seq : Nat} {t : State}, Touches [.time, .harbour, .fleet, .cor, .journal, .recorder] s0 t →
        Touches [.time, .harbour, .fleet, .cor, .journal, .recorder] s0 (if c then takeIn a f frag (peerWin a seq t).2 else (peerWin a seq t).2) :=
      fun ht => .ite (takeIn_touches.after (peerWin_touches.after ht)) (peerWin_touches.after ht)
    refine .ite (releaseRover_touches.after ?_) ?_ <;> exact htake (ackPeer_touches.after (.setFleet hrx))

theorem joinRover_touches {a sf : Nat} {uid : List Byte} {nonce : Nat} {s : State} : Touches [.harbour, .fleet, .journal, .recorder] s (joinRover a sf uid nonce s) :=
  .ite (sendFrame_touches.after (.setFleet .refl)) (.setFleet .refl)

theorem doJoinReq_touches {f : RadFrame} {s0 : State} : Touches [.time, .harbour, .fleet, .journal, .recorder] s0 (doJoinReq f s0) := by
  unfold doJoinReq
  dsimp only
  refine .ite (rxFrame_touches.after .refl) ?_
  split
  · exact joinRover_touches.after (rxFrame_touches.after .refl)
  · refine .ite (.setFleet (rxFrame_touches.after .refl)) ?_
    split
    · exact raise_touches.after (.setFleet (rxFrame_touches.after .refl))
    · exact raise_touches.after (joinRover_touches.after (rxFrame_touches.after .refl))

theorem doServiceReq_touches {f : RadFrame} {s0 : State} : Touches [.time, .harbour, .fleet, .journal, .recorder] s0 (doServiceReq f s0) :=
  .ite (rxFrame_touches.after .refl) (.ite (.setFleet (rxFrame_touches.after .refl)) (.ite (sendS1_touches.after (rxFrame_touches.after .refl)) (rxFrame_touches.after .refl)))

theorem doBeaconMissed_touches {cause : Nat} {s : State} :
    Touches [.out, .mem, .time, .harbour, .axes, .fleet, .stop, .net, .journal, .recorder] s (doBeaconMissed cause s) :=
  .ite (.ite .refl (raise_touches.after (.setFleet (runTo_touches.after .refl)))) (.ite .refl (.ite (.ite (enterLost_touches.after (raise_touches.after (.setFleet (runTo_touches.after .refl)))) (raise_touches.after (.setFleet (runTo_touches.after .refl)))) (.ite (.setFleet (.setFleet (runTo_touches.after .refl))) (.setFleet (runTo_touches.after .refl)))))

theorem doJoinRetry_touches {s : State} : Touches [.freeCtr, .time, .fleet] s (doJoinRetry s) := by
  unfold doJoinRetry
  split
  · exact .refl
  · exact .ite .refl (.ite (drawSlot_touches.after (runTo_touches.after (.setFleet (draw_touches.after .refl)))) (runTo_touches.after (.setFleet (draw_touches.after .refl))))

theorem doSupTimeout_touches {a : Nat} {s : State} : Touches [.time, .harbour, .fleet, .cor, .journal, .recorder] s (doSupTimeout a s) := by
  unfold doSupTimeout
  split
  · exact .refl
  · exact releaseRover_touches.after (runTo_touches.after .refl)

theorem doReassemblyTimeout_touches {a port id : Nat} {s : State} : Touches [.time, .fleet] s (doReassemblyTimeout a port id s) := by
  unfold doReassemblyTimeout
  split
  · exact .refl
  · exact setPeer_touches.after (runTo_touches.after .refl)

theorem doServiceTimeout_touches {s : State} : Touches [.time, .harbour, .fleet, .journal, .recorder] s (doServiceTimeout s) := by
  unfold doServiceTimeout
  split
  · exact raise_touches.after (.setFleet (runTo_touches.after .refl))
  · exact .refl

theorem doSearchTimeout_touches {s : State} : Touches [.out, .time, .fleet] s (doSearchTimeout s) :=
  .ite .refl (runScript_touches.after (.setFleet (runTo_touches.after .refl)))

theorem doRadioMsgPacket_touches {s : State} : Touches [.harbour, .fleet, .journal, .recorder] s (doRadioMsgPacket s) := by
  unfold doRadioMsgPacket
  split
  · exact .refl
  next h =>
    have hs := takeS0_touches h
    exact .ite (s0Reject_touches.after (hs.after .refl)) (.ite (queueMsg_touches.after (hs.after .refl)) (msgFailed_touches.after (hs.after .refl)))

theorem fleetRadioConfig_touches {p : List Byte} {s : State} : Touches [.fleet] s (fleetRadioConfig p s).2 :=
  .iteSnd .refl (.iteSnd .refl (.setFleet .refl))

theorem fleetXcvrScript_touches {p : List Byte} {s : State} : Touches [.fleet] s (fleetXcvrScript p s).2 :=
  .iteSnd .refl (.iteSnd .refl (.setFleet .refl))

theorem fleetBaseStart_touches {p : List Byte} {s : State} : Touches [.fleet] s (fleetBaseStart p s).2 :=
  .iteSnd .refl (.iteSnd .refl (.setFleet .refl))

theorem fleetBaseStop_touches {p : List Byte} {s : State} : Touches [.out, .mem, .harbour, .fleet, .cor, .journal, .recorder] s (fleetBaseStop p s).2 :=
  .iteSnd .refl (.iteSnd .refl (runScript_touches.after (.setFleet (corAbort_touches.after (.foldl (fun _ _ => releaseRover_touches.after .refl) .refl)))))

theorem fleetBaseSet_touches {p : List Byte} {s : State} : Touches [.fleet] s (fleetBaseSet p s).2 :=
  .iteSnd .refl (.setFleet .refl)

theorem fleetChannelMap_touches {p : List Byte} {s : State} : Touches [.fleet] s (fleetChannelMap p s).2 :=
  .iteSnd .refl (.iteSnd .refl (.setFleet .refl))

theorem fleetRoverRelease_touches {p : List Byte} {s : State} : Touches [.harbour, .fleet, .cor, .journal, .recorder] s (fleetRoverRelease p s).2 :=
  .iteSnd .refl (releaseRover_touches.after .refl)

theorem fleetRoverInfo_touches {p : List Byte} {s : State} : Touches [] s (fleetRoverInfo p s).2 := by
  unfold fleetRoverInfo
  split <;> exact .refl

theorem fleetJoin_touches {p : List Byte} {s : State} : Touches [.out, .fleet] s (fleetJoin p s).2 :=
  .iteSnd .refl (.iteSnd .refl (runScript_touches.after (.setFleet .refl)))

theorem fleetLeave_touches {p : List Byte} {s : State} : Touches [.fleet] s (fleetLeave p s).2 :=
  .iteSnd .refl (.iteSnd .refl (.setFleet .refl))

theorem fleetRecover_touches {p : List Byte} {s : State} : Touches [.harbour, .fleet, .cor, .stop, .journal, .recorder] s (fleetRecover p s).2 :=
  .iteSnd .refl (.iteSnd .refl (.iteSnd (lostEnds_touches.after (.setFleetStop .refl)) (corDropGrants_touches.after (.setFleet .refl))))

theorem fleetServiceSend_touches {p : List Byte} {s : State} : Touches [.fleet] s (fleetServiceSend p s).2 :=
  .iteSnd .refl (.iteSnd .refl (.iteSnd .refl (.iteSnd .refl (.setFleet .refl))))

theorem fleetServiceReply_touches {p : List Byte} {s : State} : Touches [.fleet] s (fleetServiceReply p s).2 :=
  .iteSnd .refl (.iteSnd .refl (.setFleet .refl))


/-! ### Machine/Network -/

theorem setEth_touches {n : Nat} {f : EthPort → EthPort} {s : State} : Touches [.net] s (setEth n f s) :=
  .setNet .refl

theorem setPtp_touches {n : Nat} {f : PtpPort → PtpPort} {s : State} : Touches [.net] s (setPtp n f s) :=
  .setNet .refl

theorem doEthFrameRx_touches {n : Nat} {w : List Byte} {frac : Nat} {s : State} : Touches [.harbour, .net, .journal, .recorder] s (doEthFrameRx n w frac s) :=
  .ite .refl (.ite (setEth_touches.after .refl) (.ite .refl (.ite (setEth_touches.after .refl) (.ite (setEth_touches.after .refl) (sendS1_touches.after (setEth_touches.after .refl))))))

theorem gateDrop_touches {n cl len : Nat} {s : State} : Touches [.harbour, .net, .journal, .recorder] s (gateDrop n cl len s) :=
  raise_touches.after (setEth_touches.after .refl)

theorem gateSweep_touches {n : Nat} {s : State} : Touches [.harbour, .net, .journal, .recorder] s (gateSweep n s) :=
  .foldl (fun _ _ => .foldl (fun _ _ => .ite .refl (gateDrop_touches.after (setEth_touches.after .refl))) .refl) .refl

theorem doEthPacket_touches {s : State} : Touches [.harbour, .net, .journal, .recorder] s (doEthPacket s) := by
  unfold doEthPacket
  split
  · exact .refl
  next h =>
    have hs := takeS0_touches h
    exact .ite (s0Reject_touches.after (hs.after .refl)) (.ite (gateDrop_touches.after (hs.after .refl)) (setEth_touches.after (hs.after .refl)))

theorem doEthFrameTx_touches {n : Nat} {s0 : State} : Touches [.out, .time, .harbour, .net, .journal, .recorder] s0 (doEthFrameTx n s0) := by
  unfold doEthFrameTx
  lift_lets
  extract_lets s _
  have hs : Touches [.out, .time, .harbour, .net, .journal, .recorder] s0 s := gateSweep_touches.after (.ite .refl (runToCyc_touches.after .refl))
  refine .ite hs ?_
  split
  · exact hs
  · split
    · exact emit_touches.after (setEth_touches.after hs)
    · exact sendS1_touches.after (emit_touches.after (setEth_touches.after hs))

theorem doEthGateCycle_touches {n : Nat} {s : State} : Touches [.time, .harbour, .net, .journal, .recorder] s (doEthGateCycle n s) := by
  unfold doEthGateCycle
  split
  · exact gateSweep_touches.after (setEth_touches.after (runTo_touches.after .refl))
  · exact .refl

theorem collisionReport_touches {cause : Nat} {s : State} : Touches [.harbour, .net, .journal, .recorder] s (collisionReport cause s) :=
  .ite .refl (raise_touches.after (setEth_touches.after .refl))

theorem collisionDrop_touches {cl cause : Nat} {s : State} : Touches [.harbour, .net, .journal, .recorder] s (collisionDrop cl cause s) :=
  collisionReport_touches.after (setEth_touches.after .refl)

theorem doEthCollision_touches {bits : Nat} {s : State} : Touches [.freeCtr, .harbour, .net, .journal, .recorder] s (doEthCollision bits s) := by
  unfold doEthCollision
  dsimp only
  split
  · exact .refl
  · exact .ite (collisionDrop_touches.after (setEth_touches.after .refl)) (.ite (collisionDrop_touches.after (setEth_touches.after .refl)) (.ite (setEth_touches.after (setEth_touches.after .refl)) (setEth_touches.after (draw_touches.after (setEth_touches.after .refl)))))

theorem doEthBackoffExpiry_touches {s : State} : Touches [.out, .time, .harbour, .net, .journal, .recorder] s (doEthBackoffExpiry s) := by
  unfold doEthBackoffExpiry
  split
  · exact .refl
  · exact doEthFrameTx_touches.after (setEth_touches.after (runToCyc_touches.after .refl))

theorem doEthLink_touches {n : Nat} {up : Bool} {speed : Nat} {s : State} : Touches [.harbour, .net, .journal, .recorder] s (doEthLink n up speed s) :=
  .ite .refl (raise_touches.after (setEth_touches.after .refl))

theorem netEthConfig_touches {p : List Byte} {s : State} : Touches [.net] s (netEthConfig p s).2 :=
  .iteSnd .refl (setEth_touches.after .refl)

theorem netEthHashSet_touches {p : List Byte} {s : State} : Touches [.net] s (netEthHashSet p s).2 :=
  .iteSnd .refl (setEth_touches.after .refl)

theorem netEthGateLoad_touches {p : List Byte} {s : State} : Touches [.net] s (netEthGateLoad p s).2 :=
  .iteSnd .refl (setEth_touches.after .refl)

theorem netEthGateCommit_touches {p : List Byte} {s : State} : Touches [.net] s (netEthGateCommit p s).2 :=
  .iteSnd .refl (.iteSnd (setEth_touches.after .refl) (.iteSnd .refl (setEth_touches.after .refl)))

theorem netMdio_touches {reply : Option Nat} {p : List Byte} {s : State} : Touches [.out] s (netMdio reply p s).2 := by
  unfold netMdio
  refine .iteSnd .refl ?_
  split <;> exact emit_touches.after .refl

theorem ptpSend_touches {n type seq t : Nat} {extra : List Byte} {s : State} : Touches [.out] s (ptpSend n type seq t extra s) :=
  emit_touches.after .refl

theorem ptpOffset_touches {n t2 t1 : Nat} {corr : Int} {s : State} : Touches [.out, .time, .harbour, .net, .journal, .recorder] s (ptpOffset n t2 t1 corr s) := by
  unfold ptpOffset
  refine .ite (setPtp_touches.after .refl) ?_
  split
  · exact setPtp_touches.after .refl
  · exact measure_touches.after (setPtp_touches.after .refl)

theorem ptpPdelayAnswer_touches {n seq frac : Nat} {s : State} : Touches [.out] s (ptpPdelayAnswer n seq frac s) :=
  ptpSend_touches.after (ptpSend_touches.after .refl)

theorem doPtpMessage_touches {n : Nat} {m : PtpMsg} {frac : Nat} {s : State} :
    Touches [.out, .time, .harbour, .net, .journal, .recorder] s (doPtpMessage n m frac s) := by
  unfold doPtpMessage
  refine .ite .refl ?_
  refine .ite (.ite (ptpSend_touches.after .refl) (.ite (ptpPdelayAnswer_touches.after .refl) .refl)) ?_
  split
  · exact .ite (setPtp_touches.after .refl) (ptpOffset_touches.after .refl)
  · split
    · exact .ite (ptpOffset_touches.after (setPtp_touches.after .refl)) .refl
    · exact .refl
  · split
    · exact .ite (setPtp_touches.after .refl) .refl
    · exact .refl
  · split
    · exact .ite .refl (.ite (setPtp_touches.after .refl) (setPtp_touches.after .refl))
    · exact .refl
  · split
    · exact .ite (setPtp_touches.after .refl) .refl
    · exact .refl
  · exact .ite (ptpPdelayAnswer_touches.after .refl) .refl
  · exact setPtp_touches.after .refl
  · exact .refl

theorem doPtpAnnounceTimeout_touches {n : Nat} {s : State} : Touches [.time, .net] s (doPtpAnnounceTimeout n s) :=
  .ite .refl (setPtp_touches.after (runToCyc_touches.after .refl))

theorem doPtpSyncSend_touches {n : Nat} {s : State} : Touches [.out, .time, .net] s (doPtpSyncSend n s) :=
  .ite .refl (.ite (ptpSend_touches.after (ptpSend_touches.after (ptpSend_touches.after (setPtp_touches.after (runTo_touches.after .refl))))) (ptpSend_touches.after (ptpSend_touches.after (setPtp_touches.after (runTo_touches.after .refl)))))

theorem doPtpDelayReqSend_touches {n : Nat} {s : State} : Touches [.out, .time, .net] s (doPtpDelayReqSend n s) :=
  .ite .refl (ptpSend_touches.after (setPtp_touches.after (runTo_touches.after .refl)))

theorem netPtpConfig_touches {p : List Byte} {s : State} : Touches [.net] s (netPtpConfig p s).2 :=
  .iteSnd .refl (.iteSnd .refl (setPtp_touches.after .refl))

theorem setCan_touches {n : Nat} {f : CanPort → CanPort} {s : State} : Touches [.net] s (setCan n f s) :=
  .setNet .refl

theorem canDrain_touches {k n : Nat} {s : State} : Touches [.harbour, .net, .journal, .recorder] s (canDrain k n s) := by
  induction k generalizing s with
  | zero => exact .refl
  | succ k ih =>
    unfold canDrain
    split
    · exact .refl
    · exact .ite (ih.after (sendS1_touches.after (setCan_touches.after .refl))) .refl

theorem canReport_touches {n : Nat} {s : State} : Touches [.harbour, .net, .journal, .recorder] s (canReport n s) :=
  .ite .refl (raise_touches.after (setCan_touches.after .refl))

theorem canQueue_touches {n : Nat} {f : CanFrame} {s : State} : Touches [.harbour, .net, .journal, .recorder] s (canQueue n f s) :=
  .ite (setCan_touches.after .refl) (canReport_touches.after (setCan_touches.after .refl))

theorem netTide_touches {s : State} : Touches [.harbour, .net, .journal, .recorder] s (netTide s) :=
  collisionReport_touches.after (.foldl (fun _ _ => canReport_touches.after (canDrain_touches.after .refl)) .refl)

theorem canCounters_touches {n tec recv : Nat} {s : State} : Touches [.harbour, .net, .journal, .recorder] s (canCounters n tec recv s) :=
  .ite .refl (.ite (raise_touches.after (setCan_touches.after .refl)) (raiseIf_touches.after (setCan_touches.after .refl)))

theorem doCanFrameRx_touches {n : Nat} {ide fd rtr : Bool} {id : Nat} {data : List Byte} {s : State} :
    Touches [.harbour, .net, .journal, .recorder] s (doCanFrameRx n ide fd rtr id data s) :=
  .ite .refl (.ite (canCounters_touches.after .refl) (canDrain_touches.after (canQueue_touches.after (canDrain_touches.after (canCounters_touches.after .refl)))))

theorem doCanPacket_touches {s : State} : Touches [.harbour, .net] s (doCanPacket s) := by
  unfold doCanPacket
  split
  · exact .refl
  next h =>
    have hs := takeS0_touches h
    exact .ite (s0Reject_touches.after (hs.after .refl)) (setCan_touches.after (hs.after .refl))

theorem doCanFrameTx_touches {n : Nat} {s : State} : Touches [.out, .harbour, .net, .journal, .recorder] s (doCanFrameTx n s) := by
  unfold doCanFrameTx
  refine .ite .refl ?_
  split
  · exact .refl
  · split
    · exact emit_touches.after (canCounters_touches.after (setCan_touches.after .refl))
    · exact sendS1_touches.after (emit_touches.after (canCounters_touches.after (setCan_touches.after .refl)))

theorem doCanBusError_touches {n : Nat} {transmitting severe : Bool} {s : State} :
    Touches [.harbour, .net, .journal, .recorder] s (doCanBusError n transmitting severe s) :=
  .ite .refl (.ite (canCounters_touches.after .refl) (canCounters_touches.after .refl))

theorem doCanAutoRecovery_touches {n : Nat} {s : State} : Touches [.net] s (doCanAutoRecovery n s) :=
  .ite (setCan_touches.after .refl) .refl

theorem netCanConfig_touches {p : List Byte} {s : State} : Touches [.net] s (netCanConfig p s).2 :=
  .iteSnd .refl (setCan_touches.after .refl)

theorem netCanFilterSet_touches {p : List Byte} {s : State} : Touches [.net] s (netCanFilterSet p s).2 :=
  .iteSnd .refl (setCan_touches.after .refl)

theorem netCanRecover_touches {p : List Byte} {s : State} : Touches [.net] s (netCanRecover p s).2 :=
  .iteSnd .refl (.iteSnd .refl (setCan_touches.after .refl))


/-! ### Machine/Meter -/

theorem setSrc_touches {m : Nat} {f : MSource → MSource} {s : State} : Touches [.meter] s (setSrc m f s) :=
  .setMeter .refl

theorem putRecord_touches {m : Nat} {r : List Byte} {s : State} : Touches [.harbour, .meter, .journal, .recorder] s (putRecord m r s) :=
  .ite .refl (.ite (sendS1_touches.after .refl) (.ite (.setMeter .refl) (raiseIf_touches.after (.setMeter .refl))))

theorem sendHeld_touches {n : Nat} {s : State} : Touches [.harbour, .meter, .journal, .recorder] s (sendHeld n s) := by
  induction n generalizing s with
  | zero => exact .refl
  | succ n ih =>
    unfold sendHeld
    split
    · exact .refl
    · exact .ite (ih.after (sendS1_touches.after (.setMeter .refl))) .refl

theorem billFinish_touches {s : State} : Touches [.freeCtr, .harbour, .meter, .sec, .journal, .recorder] s (billFinish s) := by
  unfold billFinish
  split
  · exact .refl
  · split
    · exact .refl
    · refine .ite .refl (.ite (.setMeter .refl) ?_)
      have hput {w : JWrite} {slot : Nat} : Touches [.freeCtr, .harbour, .meter, .sec, .journal, .recorder] s (journalPut w (countUse slot (draw s).2)).2 :=
        journalPut_touches.after (countUse_touches.after (draw_touches.after .refl))
      exact .ite (.setMeter hput) (raise_touches.after (sendS1_touches.after (.setMeter hput)))

theorem billLatch_touches {m t : Nat} {c : MSource} {s : State} : Touches [.freeCtr, .harbour, .meter, .sec, .journal, .recorder] s (billLatch m t c s) := by
  unfold billLatch
  split
  · exact .refl
  · split
    · exact .refl
    · exact .ite (journalLog_touches.after (.setMeter .refl)) (.ite .refl (billFinish_touches.after (.setMeter .refl)))

theorem latchSource_touches {m t : Nat} {isPartial : Bool} {s : State} :
    Touches [.freeCtr, .harbour, .meter, .sec, .journal, .recorder] s (latchSource m t isPartial s) := by
  unfold latchSource
  dsimp only
  split
  · exact .refl
  · exact billLatch_touches.after (putRecord_touches.after (setSrc_touches.after .refl))

theorem doIntervalLatch_touches {m : Nat} {s : State} : Touches [.freeCtr, .time, .harbour, .meter, .sec, .journal, .recorder] s (doIntervalLatch m s) := by
  unfold doIntervalLatch
  split
  · exact .refl
  · exact latchSource_touches.after (runTo_touches.after .refl)

theorem doConversion_touches {raws : List Int} {s : State} : Touches [.time, .meter] s (doConversion raws s) :=
  .ite .refl (.setMeter (runTo_touches.after .refl))

theorem autoTrim_touches {m : Nat} {a b : Int} {s : State} : Touches [.freeCtr, .meter] s (autoTrim m a b s) :=
  .ite (setSrc_touches.after .refl) (.ite (setSrc_touches.after .refl) (setSrc_touches.after (setSrc_touches.after (draw_touches.after (setSrc_touches.after .refl)))))

theorem flowSample_touches {m t : Nat} {a b : Int} {s : State} : Touches [.freeCtr, .harbour, .meter, .journal, .recorder] s (flowSample m t a b s) :=
  .ite (raiseIf_touches.after (setSrc_touches.after .refl)) (.ite (autoTrim_touches.after (.ite (raise_touches.after (setSrc_touches.after (raiseIf_touches.after (setSrc_touches.after .refl)))) (raiseIf_touches.after (setSrc_touches.after .refl)))) (.ite (raise_touches.after (setSrc_touches.after (raiseIf_touches.after (setSrc_touches.after .refl)))) (raiseIf_touches.after (setSrc_touches.after .refl))))

theorem currentSample_touches {m t : Nat} {a : Int} {s : State} : Touches [.meter] s (currentSample m t a s) :=
  setSrc_touches.after .refl

theorem rateStep_touches {m t : Nat} {s : State} : Touches [.harbour, .meter, .journal, .recorder] s (rateStep m t s) :=
  .ite .refl (raiseIf_touches.after (setSrc_touches.after .refl))

theorem sampleJob_touches {m t : Nat} {a : Int} {s : State} : Touches [.harbour, .meter, .journal, .recorder] s (sampleJob m t a s) := by
  unfold sampleJob
  split
  · exact .refl
  · exact .ite (sendS1_touches.after (.setMeter .refl)) (.setMeter .refl)

theorem sourceSample_touches {t : Nat} {vals : List (Nat × Int)} {e : Nat × Int} {s0 : State} :
    Touches [.freeCtr, .harbour, .meter, .sec, .journal, .recorder] s0 (sourceSample t vals e s0) := by
  unfold sourceSample
  lift_lets
  extract_lets _ _ s _ _ s1 _ s2
  have hs : Touches [.freeCtr, .harbour, .meter, .sec, .journal, .recorder] s0 s := by
    unfold s
    split
    · exact .ite (latchSource_touches.after .refl) .refl
    · exact .refl
  have hs1 : Touches [.freeCtr, .harbour, .meter, .sec, .journal, .recorder] s0 s1 := sampleJob_touches.after hs
  have hs2 : Touches [.freeCtr, .harbour, .meter, .sec, .journal, .recorder] s0 s2 := by
    unfold s2
    split
    · exact flowSample_touches.after hs1
    · exact flowSample_touches.after hs1
    · exact currentSample_touches.after hs1
    · exact currentSample_touches.after hs1
    · exact setSrc_touches.after hs1
    · exact hs1
  exact rateStep_touches.after (setSrc_touches.after hs2)

theorem doAligned_touches {t : Nat} {vals : List (Nat × Int)} {s : State} :
    Touches [.freeCtr, .time, .harbour, .meter, .sec, .journal, .recorder] s (doAligned t vals s) :=
  .ite .refl (.foldl (fun _ _ => sourceSample_touches.after .refl) (runTo_touches.after .refl))

theorem excursion_touches {m start v : Nat} {s : State} : Touches [.harbour, .meter, .journal, .recorder] s (excursion m start v s) := by
  unfold excursion
  dsimp only
  split
  · exact .ite (raise_touches.after (setSrc_touches.after .refl)) .refl
  · exact .ite (setSrc_touches.after .refl) (raise_touches.after (setSrc_touches.after .refl))

theorem lineCross_touches {ref t : Nat} {synthetic : Bool} {s : State} : Touches [.meter] s (lineCross ref t synthetic s) :=
  .setMeter .refl

theorem doSupplyValue_touches {m start0 stop0 : Nat} {rising : Bool} {s : State} :
    Touches [.harbour, .meter, .journal, .recorder] s (doSupplyValue m start0 stop0 rising s) :=
  .ite .refl (.ite (lineCross_touches.after (excursion_touches.after (setSrc_touches.after .refl))) (excursion_touches.after (setSrc_touches.after .refl)))

theorem doSynthetic_touches {m : Nat} {s : State} : Touches [.time, .harbour, .meter, .journal, .recorder] s (doSynthetic m s) := by
  unfold doSynthetic
  refine .ite .refl ?_
  split
  · exact .foldl (fun _ _ => lineCross_touches.after .refl) (raiseIf_touches.after (setSrc_touches.after (runTo_touches.after .refl)))
  · exact .refl

theorem saveNow_touches {s : State} : Touches [.harbour, .meter, .journal, .recorder] s (saveNow s) :=
  .setMeter (journalPut_touches.after .refl)

theorem doMeterSave_touches {s : State} : Touches [.time, .harbour, .meter, .journal, .recorder] s (doMeterSave s) :=
  .ite .refl (saveNow_touches.after (runToCyc_touches.after .refl))

theorem doMeterSaveLate_touches {s : State} : Touches [.time, .harbour, .meter, .journal, .recorder] s (doMeterSaveLate s) :=
  .ite .refl (raise_touches.after (.setMeter (runToCyc_touches.after (runToCyc_touches.after .refl))))

theorem meterFinal_touches {t : Nat} {s : State} : Touches [.harbour, .meter, .journal, .recorder] s (meterFinal t s) :=
  .setMeter (journalPut_touches.after .refl)

theorem writeGap_touches {last restart span flags : Nat} {bounds : List (Nat × Option Nat)} {s : State} :
    Touches [.harbour, .meter, .journal, .recorder] s (writeGap last restart span flags bounds s) :=
  raise_touches.after (sendS1_touches.after (.setMeter (journalLog_touches.after .refl)))

theorem meterRestore_touches {intact : Bool} {tLoss : Option Nat} {rtcLost : Bool} {s0 : State} :
    Touches [.harbour, .meter, .journal, .recorder] s0 (meterRestore intact tLoss rtcLost s0) :=
  .setMeter (writeGap_touches.after (.setMeter .refl))

theorem meterLeave_touches {s : State} : Touches [.freeCtr, .harbour, .meter, .sec, .journal, .recorder] s (meterLeave s) :=
  .setMeter (saveNow_touches.after (.foldl (fun _ _ => latchSource_touches.after .refl) .refl))

theorem meterReturn_touches {s : State} : Touches [.harbour, .meter, .journal, .recorder] s (meterReturn s) := by
  unfold meterReturn
  split
  · exact .refl
  · exact .setMeter (writeGap_touches.after .refl)

theorem meterChannelConfig_touches {p : List Byte} {s : State} : Touches [.meter] s (meterChannelConfig p s).2 :=
  .iteSnd .refl (.iteSnd .refl (.iteSnd .refl (setSrc_touches.after .refl)))

theorem meterSupplyConfig_touches {p : List Byte} {s : State} : Touches [.meter] s (meterSupplyConfig p s).2 :=
  .iteSnd .refl (.iteSnd .refl (setSrc_touches.after .refl))

theorem meterLatchConfig_touches {p : List Byte} {s : State} : Touches [.meter] s (meterLatchConfig p s).2 :=
  .iteSnd .refl (.setMeter .refl)

theorem meterRead_touches {p : List Byte} {s : State} : Touches [] s (meterRead p s).2 :=
  .iteSnd .refl .refl

theorem meterSubscribe_touches {p : List Byte} {s : State} : Touches [.meter] s (meterSubscribe p s).2 :=
  .iteSnd .refl (.setMeter .refl)

theorem meterBillOpen_touches {p : List Byte} {s : State} : Touches [.meter] s (meterBillOpen p s).2 := by
  unfold meterBillOpen
  refine .iteSnd .refl ?_
  refine .iteSnd .refl ?_
  split
  · exact .refl
  · exact .setMeter .refl

theorem meterBillClose_touches {p : List Byte} {s : State} : Touches [.meter] s (meterBillClose p s).2 := by
  unfold meterBillClose
  dsimp only
  refine .iteSnd .refl ?_
  split
  · exact .refl
  · split
    · exact .refl
    · exact .setMeter .refl

theorem meterSaveConfig_touches {p : List Byte} {s : State} : Touches [.meter] s (meterSaveConfig p s).2 :=
  .iteSnd (.setMeter .refl) .refl

theorem meterSample_touches {p : List Byte} {s : State} : Touches [.meter] s (meterSample p s).2 :=
  .iteSnd (.setMeter .refl) .refl


/-! ### Machine/Recorder -/

theorem doRecorderLoss_touches {s : State} : Touches [.time, .harbour, .journal, .recorder] s (doRecorderLoss s) := by
  unfold doRecorderLoss
  split
  · exact .refl
  · exact raise_touches.after (.setRecorder (runTo_touches.after .refl))

theorem recorderRead_touches {p : List Byte} {s : State} : Touches [] s (recorderRead p s).2 :=
  .iteSnd .refl .refl

theorem recorderSubscribe_touches {p : List Byte} {s : State} : Touches [.recorder] s (recorderSubscribe p s).2 :=
  .iteSnd (.setRecorder .refl) (.iteSnd .refl (.setRecorder .refl))

theorem recorderConfig_touches {p : List Byte} {s : State} : Touches [.recorder] s (recorderConfig p s).2 :=
  .iteSnd .refl (.setRecorder .refl)

theorem powerWakeConfig_touches {p : List Byte} {s : State} : Touches [.power] s (powerWakeConfig p s).2 :=
  .iteSnd .refl (.iteSnd .refl (.setPower .refl))

theorem powerSoundingConfig_touches {p : List Byte} {s : State} : Touches [.power] s (powerSoundingConfig p s).2 :=
  .iteSnd .refl (.setPower .refl)

theorem powerSoundingRead_touches {p : List Byte} {s : State} : Touches [] s (powerSoundingRead p s).2 :=
  .iteSnd .refl .refl


/-! ### Machine/Security -/

theorem fits_touches {c : Cmd} {r : List Byte} {s0 s x : State} {F : List Part} (h0 : Touches F s s0) (hx : Touches F s x) : Touches F s (fits c r s0 x).2 :=
  .iteSnd h0 hx

theorem putKey_touches {n : Nat} {k : KeySlot} {s : State} : Touches [.freeCtr, .harbour, .sec, .journal, .recorder] s (putKey n k s).2 := by
  unfold putKey
  split
  next s1 h =>
    exact .ofSnd h (writeSlot_touches.after .refl)
  next s1 h =>
    exact .ofSnd h (writeSlot_touches.after .refl)

theorem secKeyInfo_touches {p : List Byte} {s : State} : Touches [] s (secKeyInfo p s).2 := by
  unfold secKeyInfo
  refine .iteSnd .refl ?_
  split <;> exact .refl

theorem secKeyGenerate_touches {p : List Byte} {s : State} : Touches [.freeCtr, .harbour, .sec, .journal, .recorder] s (secKeyGenerate p s).2 := by
  unfold secKeyGenerate
  dsimp only
  split
  · exact .refl
  · refine .iteSnd .refl ?_
    split
    · exact .refl
    · exact .iteSnd .refl (putKey_touches.after (drawBytes_touches.after .refl))

theorem secKeyImport_touches {c : Cmd} {p : List Byte} {s : State} : Touches [.freeCtr, .harbour, .sec, .journal, .recorder] s (secKeyImport c p s).2 := by
  unfold secKeyImport
  dsimp only
  split
  · exact .refl
  · refine .iteSnd .refl ?_
    refine .iteSnd .refl ?_
    split
    · exact .refl
    · split
      · exact .refl
      · refine .iteSnd (putKey_touches.after .refl) ?_
        split
        · exact .refl
        · exact putKey_touches.after (.ite (countUse_touches.after .refl) .refl)

theorem secKeyDerive_touches {c : Cmd} {p : List Byte} {s : State} : Touches [.freeCtr, .harbour, .sec, .journal, .recorder] s (secKeyDerive c p s).2 := by
  unfold secKeyDerive
  split
  · exact .refl
  · refine .iteSnd .refl ?_
    split
    · exact .refl
    · split
      · exact .refl
      · refine .iteSnd .refl ?_
        refine .iteSnd .refl ?_
        split
        · exact .refl
        · exact putKey_touches.after (countUse_touches.after .refl)

theorem secKeyRevoke_touches {p : List Byte} {s : State} : Touches [.freeCtr, .harbour, .sec, .journal, .recorder] s (secKeyRevoke p s).2 := by
  unfold secKeyRevoke
  dsimp only
  split
  · exact .refl
  · exact raiseIf_touches.after (revokeSlots_touches.after .refl)

theorem secKeyDelete_touches {p : List Byte} {s : State} : Touches [.freeCtr, .harbour, .sec, .journal, .recorder] s (secKeyDelete p s).2 := by
  unfold secKeyDelete
  dsimp only
  split
  · exact .refl
  · exact raiseIf_touches.after (wipeSlot_touches.after .refl)

theorem secKeyExport_touches {c : Cmd} {p : List Byte} {s : State} : Touches [.freeCtr, .sec] s (secKeyExport c p s).2 := by
  unfold secKeyExport
  refine .iteSnd .refl ?_
  split
  · exact .refl
  split
  · exact .refl
  refine .iteSnd ?_ ?_
  · split
    · exact fits_touches .refl (countUse_touches.after .refl)
    · exact .refl
  · split
    · exact .refl
    · dsimp only
      exact fits_touches .refl (countUse_touches.after (countUse_touches.after (drawBytes_touches.after .refl)))

theorem sessionPut_touches {x : SecSession} {s : State} : Touches [.sec] s (sessionPut x s) :=
  .setSec .refl

theorem sessionDrop_touches {id : Nat} {s : State} : Touches [.sec] s (sessionDrop id s) :=
  .setSec .refl

/-- The state that a step of a session answers, whether the step is refused or taken. -/
theorem stepSession_touches {c : Cmd} {step id kind : Nat} {data : List Byte} {fresh : SecSession} {use : Nat → Option Nat} {s : State} :
    (∀ e u, stepSession c step id kind data fresh use s = .error (e, u) → Touches [.sec] s u) ∧
    (∀ x u, stepSession c step id kind data fresh use s = .ok (x, u) → Touches [.sec] s u) := by
  unfold stepSession
  split
  · exact ⟨fun _ _ h => by cases h; exact .refl, fun _ _ h => by cases h⟩
  split
  · split
    · exact ⟨fun _ _ h => by cases h; exact .refl, fun _ _ h => by cases h⟩
    · split
      · exact ⟨fun _ _ h => by cases h; exact .refl, fun _ _ h => by cases h⟩
      · exact ⟨fun _ _ h => (by cases h), fun _ _ h => by cases h; exact .refl⟩
  split
  · exact ⟨fun _ _ h => by cases h; exact .refl, fun _ _ h => by cases h⟩
  split
  · exact ⟨fun _ _ h => by cases h; exact .refl, fun _ _ h => by cases h⟩
  split
  · exact ⟨fun _ _ h => by cases h; exact .ite (sessionDrop_touches.after .refl) .refl, fun _ _ h => by cases h⟩
  · exact ⟨fun _ _ h => (by cases h), fun _ _ h => by cases h; exact .refl⟩

theorem afterStep_touches {step : Nat} {x : SecSession} {s : State} : Touches [.sec] s (afterStep step x s) :=
  .ite (sessionPut_touches.after .refl) (.ite (sessionDrop_touches.after .refl) .refl)

theorem secCipher_touches {c : Cmd} {p : List Byte} {s : State} : Touches [.sec] s (secCipher c p s).2 := by
  unfold secCipher
  dsimp only
  refine .iteSnd .refl ?_
  split
  next h => exact stepSession_touches.1 _ _ h
  next x s1 h =>
    have hs : ∀ {n k : Nat}, Touches [.sec] s (countUse n (afterStep k x s1)) := countUse_touches.after (afterStep_touches.after (stepSession_touches.2 _ _ h))
    exact .iteSnd hs (fits_touches .refl hs)

theorem secMac_touches {c : Cmd} {p : List Byte} {s : State} : Touches [.sec] s (secMac c p s).2 := by
  unfold secMac
  dsimp only
  refine .iteSnd .refl ?_
  split
  next h => exact stepSession_touches.1 _ _ h
  next x s1 h =>
    have hs : ∀ {n k : Nat}, Touches [.sec] s (countUse n (afterStep k x s1)) := countUse_touches.after (afterStep_touches.after (stepSession_touches.2 _ _ h))
    exact .iteSnd hs (.iteSnd (.iteSnd hs hs) (fits_touches .refl hs))

theorem secHash_touches {c : Cmd} {p : List Byte} {s : State} : Touches [.sec] s (secHash c p s).2 := by
  unfold secHash
  dsimp only
  refine .iteSnd .refl ?_
  split
  next h => exact stepSession_touches.1 _ _ h
  next x s1 h =>
    have hs : ∀ {k : Nat}, Touches [.sec] s (afterStep k x s1) := afterStep_touches.after (stepSession_touches.2 _ _ h)
    exact .iteSnd hs (fits_touches .refl hs)

theorem secSign_touches {c : Cmd} {p : List Byte} {s : State} : Touches [.freeCtr, .sec] s (secSign c p s).2 := by
  unfold secSign
  refine .iteSnd .refl ?_
  split
  · exact .refl
  · exact .iteSnd .refl (.iteSnd .refl (.iteSnd .refl (fits_touches .refl (countUse_touches.after (draw_touches.after .refl)))))

theorem secVerify_touches {c : Cmd} {p : List Byte} {s : State} : Touches [.sec] s (secVerify c p s).2 := by
  unfold secVerify
  refine .iteSnd .refl ?_
  split
  · exact .refl
  · split
    · exact .refl
    · exact .iteSnd .refl (.iteSnd .refl (.iteSnd (countUse_touches.after .refl) (countUse_touches.after .refl)))

theorem secEcdh_touches {c : Cmd} {p : List Byte} {s : State} : Touches [.freeCtr, .harbour, .sec, .journal, .recorder] s (secEcdh c p s).2 := by
  unfold secEcdh
  split
  · exact .refl
  · refine .iteSnd .refl ?_
    split
    · exact .refl
    · refine .iteSnd .refl ?_
      refine .iteSnd .refl ?_
      split
      · exact .refl
      · exact putKey_touches.after (countUse_touches.after .refl)

theorem secRandom_touches {c : Cmd} {p : List Byte} {s : State} : Touches [.freeCtr] s (secRandom c p s).2 := by
  unfold secRandom
  dsimp only
  exact .iteSnd .refl (.iteSnd .refl (.okWith (drawBytes_touches.after .refl)))

theorem secChallenge_touches {p : List Byte} {s : State} : Touches [.freeCtr, .sec] s (secChallenge p s).2 := by
  unfold secChallenge
  dsimp only
  exact .iteSnd .refl (.setSec (drawBytes_touches.after .refl))

theorem doUnlockAckTimeout_touches {s : State} : Touches [.time, .sec] s (doUnlockAckTimeout s) := by
  unfold doUnlockAckTimeout
  split
  · exact .refl
  · exact .setSec (runToCyc_touches.after .refl)

theorem secTamperLog_touches {c : Cmd} {p : List Byte} {s : State} : Touches [] s (secTamperLog c p s).2 :=
  .refl

theorem secAttest_touches {p : List Byte} {s : State} : Touches [.freeCtr, .sec] s (secAttest p s).2 := by
  unfold secAttest
  split
  · exact .refl
  · exact .iteSnd .refl (countUse_touches.after (draw_touches.after .refl))

theorem secPufCheck_touches {p : List Byte} {s : State} : Touches [.sec] s (secPufCheck p s).2 :=
  .iteSnd .refl (.setSec .refl)

theorem secWorldMap_touches {p : List Byte} {s : State} : Touches [.otp] s (secWorldMap p s).2 := by
  unfold secWorldMap
  split
  · exact .refl
  · next h =>
    refine .setOtp .refl { OtpGrown.refl s.otp with worldMap := fun hs => absurd ?_ h }
    simp [hs]

/-- A hash is burnt where none is. -/
theorem OtpGrown.installKey {o : OtpSt} {n : Nat} {h : List Byte} (hfree : ¬ (if n == 3 then o.hash3.isSome else o.hash4.isSome) = true) :
    OtpGrown o (if n == 3 then { o with hash3 := some h } else { o with hash4 := some h }) := by
  by_cases hn : (n == 3) = true
  · rw [if_pos hn] at hfree ⊢
    exact { OtpGrown.refl o with hash3 := fun hs => absurd hs hfree }
  · rw [if_neg hn] at hfree ⊢
    exact { OtpGrown.refl o with hash4 := fun hs => absurd hs hfree }
theorem secKeyInstall_touches {p : List Byte} {s : State} : Touches [.otp, .harbour, .sec, .journal, .recorder] s (secKeyInstall p s).2 := by
  unfold secKeyInstall
  dsimp only
  refine .iteSnd .refl (.iteSndNot .refl fun hfree => ?_)
  have hput : ∀ w, Touches [.otp, .harbour, .sec, .journal, .recorder] s (journalPut w s).2 := fun _ => journalPut_touches.after .refl
  split
  next h => exact .ofSnd h (hput _)
  next h =>
    have hotp := journalPut_otp { type := 1, key := settingKey 5 (uAt p 0 1), payload := (p.drop 4).take 97, prio := 5, schema := s.update.schema } s
    rw [h] at hotp
    refine .setOtpSec (.ofSnd h (hput _)) (OtpGrown.installKey fun hs => hfree ?_)
    rw [← hotp, hs, Bool.or_true]

theorem doPufHealthCheck_touches {pass : Bool} {errors blocks : Nat} {s : State} :
    Touches [.time, .harbour, .sec, .journal, .power, .recorder] s (doPufHealthCheck pass errors blocks s) :=
  .ite .refl (.ite (raise_touches.after (undertowLate_touches.after (passDone_touches.after (.setSec (.ite .refl (runToCyc_touches.after .refl)))))) (raiseIf_touches.after (undertowLate_touches.after (passDone_touches.after (.setSec (.ite .refl (runToCyc_touches.after .refl)))))))

theorem vaultFault_touches {n cause : Nat} {s : State} : Touches [.freeCtr, .harbour, .sec, .journal, .recorder] s (vaultFault n cause s) :=
  .ite .refl (raiseIf_touches.after (raise_touches.after (wipeSlot_touches.after .refl)))

theorem doVaultIntegrityCheck_touches {bad : List Nat} {s : State} :
    Touches [.freeCtr, .time, .harbour, .sec, .journal, .power, .recorder] s (doVaultIntegrityCheck bad s) := by
  unfold doVaultIntegrityCheck
  refine .foldl (fun _ _ => ?_) (undertowLate_touches.after (passDone_touches.after (.setSec (runToCyc_touches.after .refl))))
  split
  · exact .ite .refl (vaultFault_touches.after .refl)
  · exact .refl

theorem doEntropyTestFail_touches {test : Nat} {s : State} : Touches [.harbour, .sec, .journal, .recorder] s (doEntropyTestFail test s) :=
  raise_touches.after (.setSec .refl)

theorem doEntropyRetest_touches {good : Nat} {failed : Option Nat} {s : State} :
    Touches [.time, .harbour, .sec, .journal, .recorder] s (doEntropyRetest good failed s) := by
  unfold doEntropyRetest
  refine .ite .refl ?_
  split
  · exact raise_touches.after (.setSec (runToCyc_touches.after .refl))
  · exact .ite (.setSec (.setSec (runToCyc_touches.after .refl))) (.setSec (runToCyc_touches.after .refl))

theorem doSessionTimeout_touches {id : Nat} {s : State} : Touches [.time, .sec] s (doSessionTimeout id s) := by
  unfold doSessionTimeout
  split
  · exact .refl
  · exact sessionDrop_touches.after (runToCyc_touches.after .refl)


/-! ### Machine/Restart -/

/-- A restart keeps the queue and OTP, and memory is empty after it. -/
theorem restart_touches {cause : Nat} {s : State} : Touches Part.all s (restart cause s) := .of_all rfl (fun _ => rfl) (.refl _)

theorem obeyRestart_touches {s : State} : Touches Part.all s (obeyRestart s) := by
  unfold obeyRestart
  split
  · exact restart_touches.after .refl
  · exact .refl

theorem loopsHeld_touches {s : State} : Touches [.out, .mem, .harbour, .knani] s (loopsHeld s) :=
  .foldl (fun _ _ => loopOff_touches.after .refl) .refl

theorem driveHeld_touches {s : State} : Touches [.out, .mem, .harbour, .knani, .axes] s (driveHeld s) :=
  disableAxes_touches.after (loopsHeld_touches.after .refl)

theorem meterStop_touches {s : State} : Touches [.meter] s (meterStop s) :=
  .setMeter .refl

theorem domainOff_touches {k : Nat} {s : State} :
    Touches [.out, .freeCtr, .mem, .harbour, .gnss, .pose, .cell, .raster, .knani, .axes, .meter, .fleet, .net, .sec, .journal, .recorder] s (domainOff k s) := by
  unfold domainOff
  split
  · exact .setGnss .refl
  · exact .setPose .refl
  · exact .setCell .refl
  · exact .setRaster .refl
  · exact .setKnaniAxes (driveHeld_touches.after .refl)
  · exact meterLeave_touches.after .refl
  · exact .setNet .refl
  · exact .setFleet .refl
  · exact .refl

theorem loadBaseRef_touches {s : State} : Touches [.pose] s (loadBaseRef s) := by
  unfold loadBaseRef
  split
  · exact .ite (.setPose .refl) .refl
  · exact .refl

theorem loadVxGroup_touches {s : State} : Touches [.net] s (loadVxGroup s) := by
  unfold loadVxGroup
  split
  · exact .setNet .refl
  · exact .refl

theorem readIdBuses_touches {s : State} : Touches [.out, .knani] s (readIdBuses s) :=
  .foldl (fun _ _ => pushId_touches.after .refl) (.setKnani .refl)

theorem domainOn_touches {k : Nat} {s : State} : Touches [.out, .harbour, .gnss, .pose, .knani, .meter, .net, .journal, .recorder] s (domainOn k s) := by
  unfold domainOn
  split
  · exact restoreFloors_touches.after .refl
  · exact loadBaseRef_touches.after .refl
  · exact readIdBuses_touches.after .refl
  · exact meterReturn_touches.after .refl
  · exact loadVxGroup_touches.after .refl
  · exact .refl

theorem setPower_touches {p : Power} {cause : Nat} {s : State} : Touches [.harbour, .sec, .journal, .power, .recorder] s (setPower p cause s) :=
  .ite .refl (raise_touches.after (.setSecPower .refl))

theorem enterSafe_touches {cause : Nat} {s : State} :
    Touches [.out, .freeCtr, .mem, .harbour, .gnss, .pose, .cell, .raster, .knani, .axes, .meter, .fleet, .net, .sec, .journal, .power, .recorder] s (enterSafe cause s) :=
  setPower_touches.after (.setPower (.foldl (fun _ _ => domainOff_touches.after .refl) (driveHeld_touches.after (meterStop_touches.after .refl))))

theorem fatalSafe_touches {cause : Nat} {s : State} :
    Touches [.out, .freeCtr, .mem, .harbour, .gnss, .pose, .cell, .raster, .knani, .axes, .meter, .fleet, .net, .sec, .journal, .power, .recorder] s (fatalSafe cause s) :=
  enterSafe_touches.after (.setPower .refl)

theorem fatal_touches {cause param : Nat} {s : State} :
    Touches [.out, .freeCtr, .mem, .harbour, .gnss, .pose, .cell, .raster, .knani, .axes, .meter, .fleet, .net, .sec, .journal, .power, .recorder] s (fatal cause param s) :=
  .ite .refl (.ite (haltAxes_touches.after (.setPower (raise_touches.after .refl))) (fatalSafe_touches.after (raise_touches.after .refl)))

theorem fatalBoundary_touches {s : State} :
    Touches [.out, .freeCtr, .mem, .harbour, .gnss, .pose, .cell, .raster, .knani, .axes, .meter, .fleet, .net, .sec, .journal, .power, .recorder] s (fatalBoundary s) := by
  unfold fatalBoundary
  split
  · exact .ite (fatalSafe_touches.after .refl) .refl
  · exact .refl

theorem enterTamperSafe_touches {s : State} :
    Touches [.out, .freeCtr, .mem, .harbour, .gnss, .pose, .cell, .raster, .knani, .axes, .meter, .fleet, .net, .sec, .update, .journal, .power, .recorder] s (enterTamperSafe s) := by
  unfold enterTamperSafe
  exact enterSafe_touches.after (.clearMemSecUpdatePower (wipeVault_touches.after .refl))

theorem leaveNeap_touches {cause : Nat} {s : State} :
    Touches [.out, .freeCtr, .mem, .harbour, .gnss, .pose, .cell, .raster, .knani, .axes, .meter, .fleet, .net, .sec, .update, .journal, .power, .recorder] s (leaveNeap cause s) :=
  .ite (enterTamperSafe_touches.after .refl) (vddSet_touches.after (.setPower (.foldl (fun _ _ => domainOn_touches.after .refl) (gnssSpring_touches.after (setPower_touches.after .refl)))))


/-! ### Machine/Update -/

theorem setBank_touches {k : Nat} {b : Bank} {s : State} : Touches [.update] s (setBank k b s) :=
  .setUpdate .refl

theorem updRec_touches {type bank : Nat} {body : List Byte} {s : State} : Touches [.harbour, .journal, .recorder] s (updRec type bank body s).2 :=
  journalPut_touches.after .refl

theorem updLog_touches {type bank : Nat} {body : List Byte} {s : State} : Touches [.harbour, .journal, .recorder] s (updLog type bank body s) :=
  updRec_touches.after .refl

theorem rejectImage_touches {cause off : Nat} {s0 : State} : Touches [.harbour, .update, .journal, .recorder] s0 (rejectImage cause off s0) :=
  .ite (.ite (s0Reject_touches.after .refl) (raise_touches.after (.setUpdate (s0Reject_touches.after .refl)))) (raise_touches.after (s0Reject_touches.after .refl))

theorem doImage_touches {s0 : State} : Touches [.harbour, .update, .journal, .recorder] s0 (doImage s0) := by
  unfold doImage
  split
  · exact .refl
  next h =>
    have hs := takeS0_touches h
    refine .ite (rejectImage_touches.after (hs.after .refl)) ?_
    split
    · exact rejectImage_touches.after (hs.after .refl)
    · exact .ite (raise_touches.after (.setUpdate (updLog_touches.after (.setUpdate (setBank_touches.after (hs.after .refl))))))
        (.setUpdate (setBank_touches.after (hs.after .refl)))

theorem updateBegin_touches {p : List Byte} {s : State} : Touches [.harbour, .update, .journal, .recorder] s (updateBegin p s).2 :=
  .iteSnd .refl (.iteSnd .refl (.iteSnd (updRec_touches.after .refl) (.setUpdate (setBank_touches.after (updRec_touches.after .refl)))))

theorem updateAbort_touches {p : List Byte} {s : State} : Touches [.update] s (updateAbort p s).2 :=
  .iteSnd (.setUpdate .refl) .refl

theorem updateVerify_touches {p : List Byte} {s : State} : Touches [.update] s (updateVerify p s).2 :=
  .iteSnd (.setUpdate .refl) .refl

theorem doVerificationDone_touches {readFail : Option Nat} {s : State} : Touches [.harbour, .update, .journal, .recorder] s (doVerificationDone readFail s) := by
  unfold doVerificationDone
  dsimp only
  refine .ite .refl ?_
  split <;> exact raise_touches.after (.setUpdate (updLog_touches.after .refl))

theorem updateActivate_touches {p : List Byte} {s : State} : Touches [.harbour, .update, .journal, .recorder] s (updateActivate p s).2 :=
  .iteSnd .refl (.iteSnd .refl (.iteSnd .refl (.iteSnd .refl (.iteSnd (updRec_touches.after .refl) (.setUpdate (updRec_touches.after .refl))))))

theorem migrate_touches {rs : List JRec} {hi : Nat} {s : State} : Touches [.harbour, .journal, .recorder] s (migrate rs hi s).2 := by
  induction rs generalizing s with
  | nil => exact .refl
  | cons r rest ih =>
    unfold migrate
    exact .iteSnd (ih.after (journalPut_touches.after .refl)) (journalPut_touches.after .refl)

theorem abandon_touches {cause : Nat} {s : State} : Touches [.harbour, .update, .journal, .recorder] s (abandon cause s) :=
  .setUpdate (updLog_touches.after .refl)

theorem migrationFail_touches {cause key schema target : Nat} {s : State} :
    Touches [.harbour, .update, .journal, .recorder] s (migrationFail cause key schema target s) :=
  raise_touches.after (.setUpdate (.ite (.setUpdate (updLog_touches.after .refl)) (abandon_touches.after .refl)))

theorem doMigrated_touches {fail : Option (Nat × Nat)} {s : State} : Touches [.harbour, .update, .journal, .recorder] s (doMigrated fail s) := by
  unfold doMigrated
  refine .ite .refl ?_
  dsimp only
  split
  · exact migrationFail_touches.after .refl
  · split
    · exact migrationFail_touches.after (migrate_touches.after .refl)
    · exact .setUpdate (updLog_touches.after (migrate_touches.after .refl))

theorem doPreparingTimeout_touches {s : State} : Touches [.time, .harbour, .update, .journal, .recorder] s (doPreparingTimeout s) :=
  .ite .refl (migrationFail_touches.after (runToCyc_touches.after .refl))

theorem reversed_touches {c : Nat} {s : State} : Touches [.harbour, .update, .journal, .recorder] s (reversed c s) :=
  .ite (raise_touches.after (.setUpdate (updLog_touches.after .refl))) (raise_touches.after (abandon_touches.after .refl))

theorem reverseFrom_touches {c : Nat} {s : State} : Touches [.harbour, .update, .journal, .recorder] s (reverseFrom c s) :=
  .ite (reversed_touches.after .refl) (.setUpdate .refl)

theorem enterTrial_touches {t : Nat} {s : State} : Touches [.harbour, .update, .journal, .recorder] s (enterTrial t s) :=
  raise_touches.after (.setUpdate .refl)

theorem doHandoverSwitch_touches {accepts busy : Bool} {s0 : State} : Touches [.time, .harbour, .update, .journal, .recorder] s0 (doHandoverSwitch accepts busy s0) :=
  .ite .refl (.ite (.setUpdate (runTo_touches.after .refl)) (.ite (.ite (reverseFrom_touches.after (.setUpdate (runTo_touches.after .refl))) (.setUpdate (runTo_touches.after .refl))) (.ite (reverseFrom_touches.after (runTo_touches.after .refl)) (.ite (enterTrial_touches.after (.setUpdate (runTo_touches.after .refl))) (.setUpdate (runTo_touches.after .refl))))))

theorem doHandoverReversal_touches {s0 : State} : Touches [.time, .harbour, .update, .journal, .recorder] s0 (doHandoverReversal s0) := by
  unfold doHandoverReversal
  split
  · exact .refl
  · exact .ite (reversed_touches.after (.setUpdate (runTo_touches.after .refl))) (.setUpdate (runTo_touches.after .refl))

theorem revert_touches {c : Nat} {s : State} : Touches [.harbour, .update, .journal, .recorder] s (revert c s) :=
  .ite (raiseIf_touches.after (.setUpdate (updLog_touches.after .refl))) (reverseFrom_touches.after .refl)

theorem doConfirmWindow_touches {s : State} : Touches [.time, .harbour, .update, .journal, .recorder] s (doConfirmWindow s) :=
  .ite .refl (revert_touches.after (runToCyc_touches.after .refl))

theorem doUpdateRestart_touches {s : State} : Touches Part.all s (doUpdateRestart s) := by
  unfold doUpdateRestart
  split
  · exact .refl
  · refine .ite .refl ?_
    split
    · exact restart_touches.after (runTo_touches.after .refl)
    · exact restart_touches.after (raise_touches.after (runTo_touches.after .refl))

theorem burnCounter_touches {burnOk : Bool} {sv : Nat} {s : State} : Touches [.otp, .harbour, .journal, .recorder] s (burnCounter burnOk sv s) := by
  unfold burnCounter
  split
  · exact .refl
  · next h =>
    have hgrown : OtpGrown s.otp { s.otp with counter := sv } := { OtpGrown.refl s.otp with counter := Nat.le_of_not_le h }
    exact .ite (raise_touches.after (.setOtp .refl hgrown)) (raise_touches.after .refl)

theorem updateConfirm_touches {burnOk : Bool} {p : List Byte} {s : State} : Touches [.otp, .harbour, .update, .journal, .recorder] s (updateConfirm burnOk p s).2 :=
  .iteSnd .refl (.iteSnd .refl (.iteSnd .refl (.iteSnd (updRec_touches.after .refl) (burnCounter_touches.after (raise_touches.after (.setUpdate (updRec_touches.after .refl)))))))

theorem doSelfTestPassed_touches {s : State} : Touches [.update] s (doSelfTestPassed s) :=
  .ite (.setUpdate .refl) .refl


/-! ### Machine/Tide -/

theorem voteEvents_touches {k : Nat} {v : Voted} {r : Voted × Option Nat × Bool} {s : State} :
    Touches [.out, .freeCtr, .mem, .votes, .harbour, .gnss, .pose, .cell, .raster, .knani, .axes, .meter, .fleet, .net, .sec, .journal, .power, .recorder] s (voteEvents k v r s) := by
  unfold voteEvents
  refine .ite ?_ ?_
  · refine fatal_touches.after ?_
    refine .setVotes ?_
    refine raise_touches.after ?_
    split
    · exact raise_touches.after .refl
    · exact .refl
  · split
    · exact raise_touches.after .refl
    · exact .refl

theorem voteCompare_touches {s : State} :
    Touches [.out, .freeCtr, .mem, .votes, .harbour, .gnss, .pose, .cell, .raster, .knani, .axes, .meter, .fleet, .net, .sec, .journal, .power, .recorder] s (voteCompare s) :=
  voteEvents_touches.after (voteEvents_touches.after (voteEvents_touches.after (voteEvents_touches.after (voteEvents_touches.after (.setVotes .refl)))))

theorem countUnavailable_touches {s0 : State} : Touches [.power] s0 (countUnavailable s0) :=
  .ite (.setPower (.ite (.setPower .refl) .refl)) (.ite (.setPower .refl) .refl)

theorem openBoundary_touches {t : Nat} {s : State} : Touches [.harbour, .cell, .raster, .journal, .recorder] s (openBoundary t s) :=
  .ite (cellJobOpen_touches.after (.ite (rasterBoundary_touches.after .refl) .refl)) (.ite (rasterBoundary_touches.after .refl) .refl)

theorem workBoundary_touches {t : Nat} {s : State} : Touches [.harbour, .cell, .raster, .journal, .recorder] s (workBoundary t s) :=
  .ite (armCells_touches.after (.ite (residencyBoundary_touches.after .refl) .refl)) (.ite (residencyBoundary_touches.after .refl) .refl)

theorem eccReports_touches {s : State} : Touches [.harbour, .journal, .power, .recorder] s (eccReports s) := by
  unfold eccReports
  dsimp only
  refine .foldl (fun _ _ => ?_) .refl
  split
  · exact .ite (raise_touches.after (.setPower .refl)) .refl
  · exact .refl

theorem doTideBoundary_touches {s0 : State} :
    Touches [.out, .freeCtr, .mem, .votes, .time, .harbour, .gnss, .pose, .cell, .raster, .knani, .axes, .meter, .fleet, .stop, .net, .sec, .journal, .power, .recorder] s0
      (doTideBoundary s0) := by
  unfold doTideBoundary
  lift_lets
  extract_lets _ s _ s1 s2 s2a s3 s4 s5
  have h2a : Touches [.out, .freeCtr, .mem, .votes, .time, .harbour, .gnss, .pose, .cell, .raster, .knani, .axes, .meter, .fleet, .stop, .net, .sec, .journal, .power, .recorder] s0 s2a :=
    openBoundary_touches.after (stopTide_touches.after (voteCompare_touches.after (.setTimeCell (countUnavailable_touches.after (runTo_touches.after .refl)))))
  have h4 : Touches [.out, .freeCtr, .mem, .votes, .time, .harbour, .gnss, .pose, .cell, .raster, .knani, .axes, .meter, .fleet, .stop, .net, .sec, .journal, .power, .recorder] s0 s4 :=
    workBoundary_touches.after (.ite (poseBoundary_touches.after h2a) h2a)
  have h5 : Touches [.out, .freeCtr, .mem, .votes, .time, .harbour, .gnss, .pose, .cell, .raster, .knani, .axes, .meter, .fleet, .stop, .net, .sec, .journal, .power, .recorder] s0 s5 :=
    netTide_touches.after (.ite (knaniBoundary_touches.after h4) h4)
  exact .ite .refl (fatalBoundary_touches.after (eccReports_touches.after (stepAtBoundary_touches.after (extendPlans_touches.after h5))))

theorem doTidePeriodChange_touches {s0 : State} : Touches [.votes, .time, .harbour, .knani, .journal, .recorder] s0 (doTidePeriodChange s0) := by
  unfold doTidePeriodChange
  split
  · exact .refl
  · exact raise_touches.after (.setTime (knaniPeriodTaken_touches.after (.setVotesTime (runTo_touches.after .refl))))

theorem timeTideConfig_touches {p : List Byte} {s : State} : Touches [.out, .time, .knani] s (timeTideConfig p s).2 :=
  .iteSnd .refl (.iteSnd .refl (.ok (knaniPeriodAccepted_touches.after (.setTime .refl))))

theorem doRefLost_touches {cause : Nat} {s : State} : Touches [.out, .mem, .time, .harbour, .gnss, .axes, .journal, .recorder] s (doRefLost cause s) :=
  .ite .refl (haltAxes_touches.after (enterFreerun_touches.after (enterFreerun_touches.after (raise_touches.after (.setTimeGnss .refl)))))


/-! ### Machine/HostLate -/

theorem indRead_touches {s : State} : Touches [.harbour] s (indRead s) :=
  .ite (.setHarbour .refl) (.setHarbour .refl)

theorem indWrite_touches {v : Word} {s : State} : Touches [.mem, .harbour] s (indWrite v s) := by
  unfold indWrite
  exact .setHarbour (.ite (.setMem .refl fun h => memWf_memPuts h _ _) .refl)

theorem resetRequest_touches {v : Nat} {s : State} : Touches [.out, .mem, .harbour, .axes, .journal, .recorder] s (resetRequest v s) :=
  .ite (.setHarbour .refl) (.ite (haltAxes_touches.after (.setHarbour .refl)) (.ite (.setHarbour .refl) .refl))

theorem doResetReq_touches {x : Word} {s : State} : Touches [.out, .mem, .harbour, .axes, .journal, .recorder] s (doResetReq x s) := by
  unfold doResetReq
  split
  next s1 h =>
    exact .ofSnd h (pairComplement_touches.after .refl)
  next s1 h =>
    exact resetRequest_touches.after (.ofSnd h (pairComplement_touches.after .refl))

theorem doSysRestart_touches {s : State} : Touches Part.all s (doSysRestart s) := by
  unfold doSysRestart
  refine .ite (.ite (restart_touches.after (raise_touches.after .refl)) .refl) ?_
  refine .ite ?_ .refl
  split
  · exact .refl
  · exact .ite .refl (restart_touches.after (raise_touches.after (runTo_touches.after .refl)))

theorem doDomainEn_touches {x : Word} {s : State} : Touches [.harbour, .journal, .recorder] s (doDomainEn x s) := by
  unfold doDomainEn
  split
  next s1 h =>
    exact .ofSnd h (pairComplement_touches.after .refl)
  next s1 h =>
    exact .ite (pairMismatch_touches.after (.ofSnd h (pairComplement_touches.after .refl))) (.setHarbour (.ofSnd h (pairComplement_touches.after .refl)))

theorem domainsFollow_touches {old new : Nat} {s : State} :
    Touches [.out, .freeCtr, .mem, .harbour, .gnss, .pose, .cell, .raster, .knani, .axes, .meter, .fleet, .net, .sec, .journal, .recorder] s (domainsFollow old new s) :=
  .foldl (fun _ _ => .ite (domainOff_touches.after .refl) (.ite (domainOn_touches.after .refl) .refl)) .refl

theorem doDomainApply_touches {s : State} :
    Touches [.out, .freeCtr, .mem, .votes, .time, .harbour, .gnss, .pose, .cell, .raster, .knani, .axes, .meter, .fleet, .net, .sec, .journal, .recorder] s (doDomainApply s) := by
  unfold doDomainApply
  split
  · exact .refl
  · exact .ite .refl (domainsFollow_touches.after (.setVotesHarbour (runTo_touches.after .refl)))


/-! ### Machine/Journal -/

theorem discardBad_touches {g : JSeg} {s : State} : Touches [.harbour, .journal, .recorder] s (discardBad g s) :=
  raises_touches.after (.setJournal .refl)

theorem journalFault_touches {cause seg : Nat} {s : State} : Touches [.harbour, .journal, .recorder] s (journalFault cause seg s) :=
  raiseIf_touches.after (.setJournal .refl)

theorem doCompaction_touches {eraseOk progOk : Bool} {s : State} : Touches [.harbour, .journal, .power, .recorder] s (doCompaction eraseOk progOk s) := by
  unfold doCompaction
  lift_lets
  extract_lets _ s0 _
  have hs0 : Touches [.harbour, .journal, .power, .recorder] s s0 := passDone_touches.after (.setJournal .refl)
  refine .ite .refl ?_
  split
  · exact hs0
  · exact .ite (journalFault_touches.after hs0) (.ite (journalFault_touches.after (.foldl (fun _ _ => journalPut_touches.after .refl) (discardBad_touches.after hs0))) (raises_touches.after (.setJournal (.foldl (fun _ _ => journalPut_touches.after .refl) (discardBad_touches.after hs0)))))


/-! ### Machine/Tamper -/

theorem lcTransition_touches {target : Nat} {s : State} : Touches [.otp, .harbour, .journal, .power, .recorder] s (lcTransition target s) := by
  unfold lcTransition
  exact .setPower (raise_touches.after (.setOtp (journalLog_touches.after .refl) (.of_eq rfl rfl rfl rfl rfl)))

theorem secLifecycle_touches {p : List Byte} {s : State} : Touches [.otp, .harbour, .journal, .power, .recorder] s (secLifecycle p s).2 :=
  .iteSnd .refl (.iteSnd .refl (.iteSnd .refl (.iteSnd .refl (lcTransition_touches.after .refl))))

theorem logAlarm_touches {sensor : Nat} {s : State} : Touches [.sec] s (logAlarm sensor s) :=
  .setSec .refl

theorem wipeRetained_touches {s : State} : Touches [.harbour, .knani, .axes, .meter, .sec, .journal, .power, .recorder] s (wipeRetained s) :=
  .setHarbourKnaniAxesMeterSecJournalPowerRecorder .refl

theorem enablesTaken_touches {s : State} : Touches [.power] s (enablesTaken s) :=
  .setPower .refl

theorem tamperAlarm_touches {sensor mv : Nat} {s : State} : Touches Part.all s (tamperAlarm sensor mv s) := by
  unfold tamperAlarm
  lift_lets
  extract_lets s1 _ s2 _ _
  have hs1 : Touches Part.all s s1 := logAlarm_touches.after .refl
  have hs2 : Touches Part.all s s2 := wipeVault_touches.after (.setSec hs1)
  refine .ite .refl ?_
  refine .ite hs1 ?_
  refine .ite (obeyRestart_touches.after (lcTransition_touches.after (wipeVault_touches.after (raise_touches.after hs1)))) ?_
  split
  · exact wipeRetained_touches.after (enablesTaken_touches.after hs2)
  · exact wipeRetained_touches.after hs2
  · exact haltAxes_touches.after (.setSec (raise_touches.after hs2))
  · exact enterTamperSafe_touches.after (raise_touches.after hs2)

theorem doTamperSafeEntry_touches {s : State} :
    Touches [.out, .freeCtr, .mem, .time, .harbour, .gnss, .pose, .cell, .raster, .knani, .axes, .meter, .fleet, .net, .sec, .update, .journal, .power, .recorder] s (doTamperSafeEntry s) := by
  unfold doTamperSafeEntry
  split
  · exact .refl
  · exact enterTamperSafe_touches.after (.ite (runToCyc_touches.after .refl) .refl)

theorem unlockDone_touches {s : State} : Touches [.harbour, .sec, .journal, .power, .recorder] s (unlockDone s) :=
  .setPower (raise_touches.after (journalLog_touches.after (.setSec .refl)))

theorem secUnlock_touches {p : List Byte} {s : State} : Touches [.harbour, .sec, .journal, .power, .recorder] s (secUnlock p s).2 := by
  unfold secUnlock
  refine .iteSnd .refl ?_
  refine .iteSnd .refl ?_
  split
  · exact .iteSnd (.setSec .refl) (.iteSnd (.setSec .refl) (unlockDone_touches.after .refl))
  · exact .refl

theorem secUnlockAck_touches {p : List Byte} {s : State} : Touches [.harbour, .sec, .journal, .power, .recorder] s (secUnlockAck p s).2 := by
  unfold secUnlockAck
  split
  · exact .iteSnd (unlockDone_touches.after .refl) .refl
  · exact .refl

theorem debugGrant_touches {kinds key : Nat} {s : State} : Touches [.out, .mem, .harbour, .axes, .sec, .journal, .recorder] s (debugGrant kinds key s) :=
  .ite (disableAxes_touches.after (raise_touches.after (.setSec .refl))) (raise_touches.after (.setSec .refl))

theorem doDebugRequest_touches {kinds signer : Nat} {s : State} :
    Touches [.out, .freeCtr, .mem, .harbour, .gnss, .pose, .cell, .raster, .knani, .axes, .meter, .fleet, .net, .sec, .update, .journal, .power, .recorder] s (doDebugRequest kinds signer s) := by
  unfold doDebugRequest
  refine .ite .refl ?_
  split
  · exact raise_touches.after .refl
  · exact debugGrant_touches.after (.ite (leaveNeap_touches.after .refl) .refl)


/-! ### Machine/Power -/

theorem doVddAonLoss_touches {s : State} : Touches Part.all s (doVddAonLoss s) :=
  .ite .refl (.setSecPower (restart_touches.after .refl))

theorem doVddAonRise_touches {offMs : Nat} {resetHigh : Bool} {s : State} : Touches [.sec, .power] s (doVddAonRise offMs resetHigh s) :=
  .ite .refl (.setSecPower .refl)

theorem doVddCoreLoss_touches {s : State} : Touches Part.all s (doVddCoreLoss s) :=
  .ite .refl (.setPower (restart_touches.after (.setPower .refl)))

theorem doResetN_touches {lowUs : Nat} {taken : Bool} {s : State} : Touches Part.all s (doResetN lowUs taken s) := by
  unfold doResetN
  refine .ite .refl ?_
  split
  · exact .refl
  · exact .setPower .refl
  · exact .setPower (restart_touches.after .refl)

theorem quiesce_touches {s : State} : Touches [.out, .freeCtr, .mem, .harbour, .knani, .axes, .meter, .sec, .journal, .recorder] s (quiesce s) :=
  disableAxes_touches.after (meterLeave_touches.after (.foldl (fun _ _ => .ite .refl (loopOff_touches.after (saveLoop_touches.after .refl))) .refl))

theorem enterNeap_touches {s : State} :
    Touches [.out, .freeCtr, .mem, .harbour, .gnss, .pose, .cell, .raster, .knani, .axes, .meter, .fleet, .net, .sec, .journal, .power, .recorder] s (enterNeap s) :=
  vddSet_touches.after (setPower_touches.after (.setJournalPower (.setRaster (.foldl (fun _ _ => domainOff_touches.after .refl) (gnssNeap_touches.after (quiesce_touches.after .refl))))))

theorem enterSlack_touches {s : State} : Touches Part.all s (enterSlack s) :=
  .setPower (restart_touches.after (setPower_touches.after (.setJournal (.ite (.ite (quiesce_touches.after .refl) .refl) (doPcieLinkChange_touches.after (.ite (quiesce_touches.after .refl) .refl))))))

theorem wake_touches {source pin : Nat} {s : State} : Touches Part.all s (wake source pin s) := by
  unfold wake
  refine .ite (.setPower .refl) ?_
  split
  · exact leaveNeap_touches.after (raise_touches.after .refl)
  · exact raise_touches.after (raise_touches.after (.setSec (restart_touches.after (.setPower .refl))))
  · exact .refl

theorem wakeAfter_touches {s : State} : Touches Part.all s (wakeAfter s) := by
  unfold wakeAfter
  split
  · exact wake_touches.after (.setPower .refl)
  · exact .refl

theorem doNeapEntry_touches {s : State} : Touches Part.all s (doNeapEntry s) :=
  .ite .refl (.ite .refl (wakeAfter_touches.after (enterNeap_touches.after (runTo_touches.after .refl))))

theorem doWakeRtc_touches {s : State} : Touches Part.all s (doWakeRtc s) :=
  .ite .refl (wake_touches.after (.setPower (.ite .refl (runTo_touches.after .refl))))

theorem doWakeGpio_touches {pin : Nat} {falling : Bool} {s : State} : Touches Part.all s (doWakeGpio pin falling s) :=
  .ite .refl (wake_touches.after .refl)

theorem beaconNeap_touches {f : RadFrame} {s0 : State} : Touches Part.all s0 (beaconNeap f s0) := by
  unfold beaconNeap
  dsimp only
  exact .ite .refl (.ite (.setFleet (rxFrame_touches.after (.setFleet .refl))) (.ite (wake_touches.after (beaconStop_touches.after (.setFleet (.setFleet (rxFrame_touches.after (.setFleet .refl)))))) (beaconStop_touches.after (.setFleet (.setFleet (rxFrame_touches.after (.setFleet .refl)))))))

theorem powerSetState_touches {p : List Byte} {s : State} : Touches Part.all s (powerSetState p s).2 :=
  .iteSnd .refl (.iteSnd .refl (.iteSnd .refl (.iteSnd (.setPower .refl) (.iteSnd (.ite .refl (.setPower .refl)) (.iteSnd (wake_touches.after .refl) .refl)))))

theorem slackNow_touches {s : State} : Touches Part.all s (slackNow s) :=
  .ite (wakeAfter_touches.after (enterSlack_touches.after (.setPower .refl))) .refl

theorem doPfw_touches {finalUs : Nat} {s : State} : Touches [.out, .mem, .time, .harbour, .knani, .axes, .meter, .journal, .power, .recorder] s (doPfw finalUs s) := by
  unfold doPfw
  exact .ite .refl (.ite (raise_touches.after (.setPower .refl)) (meterFinal_touches.after (runTo_touches.after
    ((overChannels_touches fun _ _ _ _ => pushManage_touches).after (haltAxes_touches.after (raise_touches.after (.setPower .refl)))))))

theorem doPfwEnd_touches {lowUs : Nat} {s : State} : Touches [.time, .harbour, .journal, .power, .recorder] s (doPfwEnd lowUs s) := by
  unfold doPfwEnd
  split
  · exact .refl
  · exact raise_touches.after (.setPower (runTo_touches.after .refl))

theorem pmbusFail_touches {read cause : Nat} {s : State} : Touches [.harbour, .journal, .recorder] s (pmbusFail read cause s) :=
  raise_touches.after .refl

theorem doPmbusReadback_touches {ack pecOk : Bool} {mv : Nat} {s : State} :
    Touches [.out, .time, .harbour, .journal, .power, .recorder] s (doPmbusReadback ack pecOk mv s) := by
  unfold doPmbusReadback
  split
  · exact .refl
  · exact .ite (pmbusFail_touches.after (.setPower (pmbusOut_touches.after (runToCyc_touches.after .refl)))) (.ite (pmbusFail_touches.after (.setPower (pmbusOut_touches.after (runToCyc_touches.after .refl)))) (.ite (.setPower (.setPower (pmbusOut_touches.after (runToCyc_touches.after .refl)))) (.ite (pmbusFail_touches.after (.setPower (.setPower (pmbusOut_touches.after (runToCyc_touches.after .refl))))) (.setPower (pmbusOut_touches.after (runToCyc_touches.after .refl))))))

theorem doPmbAlert_touches {status : Nat} {s : State} : Touches [.out, .harbour, .journal, .power, .recorder] s (doPmbAlert status s) :=
  pmbusFail_touches.after (pmbusOut_touches.after (.setPower .refl))

theorem abortWork_touches {master : Nat} {s : State} : Touches [.out, .mem, .harbour, .knani, .sec] s (abortWork master s) :=
  .ite (.foldl (fun _ _ => finishFor_touches.after .refl) (.foldl (fun _ _ => complete_touches.after .refl) (.setHarbourKnani .refl))) (.ite (.setSec .refl) .refl)

theorem procRestart_touches {master cause : Nat} {s : State} :
    Touches [.out, .freeCtr, .mem, .harbour, .gnss, .pose, .cell, .raster, .knani, .axes, .meter, .fleet, .net, .sec, .update, .journal, .power, .recorder] s (procRestart master cause s) :=
  .ite (fatal_touches.after (.ite (reverseFrom_touches.after (raise_touches.after (abortWork_touches.after (.setPower .refl)))) (raise_touches.after (abortWork_touches.after (.setPower .refl))))) (.ite (reverseFrom_touches.after (raise_touches.after (abortWork_touches.after (.setPower .refl)))) (raise_touches.after (abortWork_touches.after (.setPower .refl))))

theorem eccBad_touches {memory address : Nat} {s : State} : Touches [.harbour, .journal, .power, .recorder] s (eccBad memory address s) :=
  raise_touches.after (.setPower .refl)

theorem doHeartbeat_touches {alive ecc : List Bool} {_hashOk : Bool} {s : State} :
    Touches [.out, .freeCtr, .mem, .harbour, .gnss, .pose, .cell, .raster, .knani, .axes, .meter, .fleet, .net, .sec, .update, .journal, .power, .recorder] s (doHeartbeat alive ecc _hashOk s) :=
  .foldl (fun _ _ => .ite (procRestart_touches.after (.setPower (eccBad_touches.after .refl))) (.ite (procRestart_touches.after (.setPower .refl)) (.setPower .refl))) .refl

theorem scrubLate_touches {memory : Nat} {passEnd : Bool} {s : State} : Touches [.harbour, .journal, .power, .recorder] s (scrubLate memory passEnd s) :=
  .ite (passDone_touches.after (undertowLate_touches.after .refl)) (undertowLate_touches.after .refl)

theorem eccCorrected_touches {memory address : Nat} {s : State} : Touches [.harbour, .journal, .power, .recorder] s (eccCorrected memory address s) :=
  raiseIf_touches.after (.setPower .refl)

theorem clearRegion_touches {row : Nat} {s : State} : Touches [.harbour, .knani, .axes, .meter, .sec, .journal, .power, .recorder] s (clearRegion row s) := by
  unfold clearRegion
  split
  · exact .setHarbourRecorder .refl
  · exact .setKnani .refl
  · exact .setMeter .refl
  · exact .setMeter .refl
  · exact .setJournal .refl
  · exact .setPower .refl
  · exact .setAxes .refl
  · exact .setSec .refl
  · exact .refl

theorem eccOwner_touches {memory part address : Nat} {tx ty : Int} {s : State} :
    Touches [.out, .freeCtr, .mem, .harbour, .gnss, .pose, .cell, .raster, .knani, .axes, .meter, .fleet, .net, .sec, .update, .journal, .power, .recorder] s (eccOwner memory part address tx ty s) := by
  unfold eccOwner
  split
  · exact cacheError_touches.after .refl
  · exact .ite (fatal_touches.after .refl) (procRestart_touches.after .refl)
  · exact .setCell .refl
  · refine .ite ?_ (.ite (raise_touches.after (clearRegion_touches.after .refl)) .refl)
    split
    · exact .setRecorder .refl
    · exact .refl
  · exact dramError_touches.after .refl
  · exact vaultFault_touches.after .refl

theorem doPatrolScrub_touches {memory part address : Nat} {correctable passEnd : Bool} {tx ty : Int} {s : State} :
    Touches [.out, .freeCtr, .mem, .harbour, .gnss, .pose, .cell, .raster, .knani, .axes, .meter, .fleet, .net, .sec, .update, .journal, .power, .recorder] s (doPatrolScrub memory part address correctable passEnd tx ty s) :=
  .ite .refl (.ite (scrubLate_touches.after .refl) (.ite (eccCorrected_touches.after (scrubLate_touches.after .refl)) (eccOwner_touches.after (eccBad_touches.after (scrubLate_touches.after .refl)))))

theorem doSounding_touches {temp : Int} {estMw pace : Nat} {s0 : State} : Touches [.time, .harbour, .journal, .power, .recorder] s0 (doSounding temp estMw pace s0) :=
  .ite .refl (.ite (sendS1_touches.after (undertowLate_touches.after (passDone_touches.after (.setPower (runToCyc_touches.after .refl))))) (undertowLate_touches.after (passDone_touches.after (.setPower (runToCyc_touches.after .refl)))))


/-! ### Machine/Startup -/

theorem bootRef_touches {b : Boot} {s0 : State} : Touches [.time, .harbour, .journal, .recorder] s0 (bootRef b s0) :=
  .ite (.setTime (.setHarbour .refl)) (raise_touches.after (.setTime (runToCyc_touches.after (.setHarbour .refl))))

theorem keysLost_touches {cause : Nat} {ns : List Nat} {s : State} : Touches [.harbour, .journal, .recorder] s (keysLost cause ns s) :=
  raises_touches.after .refl

theorem lcWipe_touches {new old : Nat} {s : State} : Touches [.otp, .harbour, .journal, .recorder] s (lcWipe new old s) := by
  unfold lcWipe
  exact keysLost_touches.after (.setOtpJournal .refl (.of_eq rfl rfl rfl rfl rfl))

theorem bootLife_touches {s : State} : Touches Part.all s (bootLife s).2 := by
  unfold bootLife
  dsimp only
  split
  · exact .setVotes .refl
  · refine .iteSnd (.snd (lcWipe_touches.after (.setVotes .refl))) (.snd (raise_touches.after (restart_touches.after ?_)))
    exact .setVotesOtp .refl (.of_eq rfl rfl rfl rfl rfl)

theorem bootTamper_touches {b : Boot} {s : State} : Touches Part.all s (bootTamper b s) := by
  unfold bootTamper
  split
  · exact .refl
  · exact .ite (logAlarm_touches.after .refl) (.ite (obeyRestart_touches.after (lcTransition_touches.after (logAlarm_touches.after .refl))) (enterTamperSafe_touches.after (raise_touches.after (.setSec (logAlarm_touches.after .refl)))))

theorem bootPuf_touches {b : Boot} {s : State} :
    Touches [.out, .freeCtr, .mem, .harbour, .gnss, .pose, .cell, .raster, .knani, .axes, .meter, .fleet, .net, .sec, .journal, .power, .recorder] s (bootPuf b s) :=
  .ite .refl (.ite (fatal_touches.after (raise_touches.after .refl)) (raiseIf_touches.after (.setSec .refl)))

theorem bootAlarm_touches {s : State} : Touches [.otp, .harbour, .sec, .journal, .recorder] s (bootAlarm s) := by
  unfold bootAlarm
  lift_lets
  extract_lets x _ s1 _ s2 _ _
  have h1 : Touches [.otp, .harbour, .sec, .journal, .recorder] s s1 := by
    refine .ite .refl (.setSec (.foldl (fun _ _ => ?_) .refl))
    split
    · exact journalLog_touches.after .refl
    · exact .refl
  split
  · exact h1
  split
  · exact .setSec h1
  · next hleft =>
    have hne : s2.otp.tamperEpoch ≠ 64 := fun h => hleft (by simp [h])
    have hgrown : OtpGrown s2.otp { s2.otp with tamperEpoch := s2.otp.tamperEpoch + 1 } :=
      { OtpGrown.refl s2.otp with epoch := fun h => ⟨Nat.lt_of_le_of_ne h hne, Nat.le_succ _⟩ }
    exact keysLost_touches.after (.setOtpJournal (.setSec h1) hgrown)

theorem bootRegions_touches {b : Boot} {s : State} : Touches [.harbour, .knani, .axes, .meter, .sec, .journal, .power, .recorder] s (bootRegions b s) :=
  .foldl (fun _ _ => .ite (raise_touches.after (.ite (.setPower (clearRegion_touches.after .refl)) (clearRegion_touches.after .refl))) .refl) .refl

theorem bootRing_touches {b : Boot} {s : State} : Touches [.harbour, .journal, .recorder] s (bootRing b s) := by
  unfold bootRing
  dsimp only
  split
  · refine .setHarbourRecorder ?_
    split
    · exact .refl
    · exact .ite .refl (raise_touches.after (.setRecorder .refl))
  · refine .setHarbour ?_
    split
    · exact .refl
    · exact .ite .refl (raise_touches.after (.setRecorder .refl))

theorem bootJournal_touches {b : Boot} {s : State} : Touches [.harbour, .journal, .recorder] s (bootJournal b s) :=
  raises_touches.after (.setJournal (raiseIf_touches.after .refl))

theorem confirmedBurn_touches {b : Boot} {s : State} : Touches [.otp, .harbour, .update, .journal, .recorder] s (chooseBank.confirmedBurn b s) := by
  unfold chooseBank.confirmedBurn
  split
  · exact burnCounter_touches.after .refl
  · exact .refl

theorem chooseBank_touches {b : Boot} {s : State} : Touches [.otp, .harbour, .update, .journal, .recorder] s (chooseBank b s).2.2 := by
  unfold chooseBank
  dsimp only
  repeat' split
  · exact .setUpdate .refl
  · exact raise_touches.after (.setUpdate (updLog_touches.after .refl))
  · exact confirmedBurn_touches
  · exact confirmedBurn_touches

theorem runBank_touches {k : Nat} {s : State} : Touches [.update] s (runBank k s) :=
  .setUpdate .refl

theorem bootBank_touches {b : Boot} {s0 : State} : Touches Part.all s0 (bootBank b s0) := by
  unfold bootBank
  dsimp only
  have h1 : ∀ {c : Prop} [Decidable c] {k : Nat}, Touches Part.all s0 (if c then updLog 0x56 k [] (chooseBank b s0).2.2 else (chooseBank b s0).2.2) :=
    .ite (updLog_touches.after (chooseBank_touches.after .refl)) (chooseBank_touches.after .refl)
  split
  · exact runBank_touches.after (.ite (.setUpdate h1) h1)
  · split
    · exact raise_touches.after (runBank_touches.after h1)
    · exact fatal_touches.after (raise_touches.after h1)

theorem bootVerify_touches {s : State} : Touches [.update] s (bootVerify s) := by
  unfold bootVerify
  split
  · exact .ite (.setUpdate .refl) .refl
  · exact .refl

theorem bootFixed_touches {s : State} : Touches [.sec] s (bootFixed s) :=
  .setSec .refl

theorem bootBlobs_touches {s : State} : Touches [.harbour, .sec, .journal, .recorder] s (bootBlobs s) := by
  unfold bootBlobs
  dsimp only
  refine .foldl (fun _ _ => ?_) .refl
  split
  · exact .refl
  · split
    · exact .setSec .refl
    · exact keysLost_touches.after (journalDelete_touches.after .refl)

theorem bootVolatile_touches {s : State} : Touches [.harbour, .sec, .journal, .recorder] s (bootVolatile s) :=
  keysLost_touches.after (.setSec .refl)

theorem bootTime_touches {b : Boot} {s : State} : Touches [.time, .harbour, .journal, .recorder] s (bootTime b s) :=
  .foldl (fun _ _ => raiseList_touches.after .refl) (.setTimeRecorder .refl)

theorem bootMeter_touches {totalsLost : Bool} {s : State} : Touches [.harbour, .meter, .journal, .power, .recorder] s (bootMeter totalsLost s) :=
  .setPower (.ite (meterRestore_touches.after .refl) (.ite (meterReturn_touches.after (.setMeter .refl)) (.setMeter (.setMeter .refl))))

theorem bootRole_touches {s : State} : Touches [.votes] s (bootRole s) :=
  .setVotes .refl

theorem bootStep9_touches {b : Boot} {totalsLost : Bool} {s : State} :
    Touches [.out, .votes, .time, .harbour, .gnss, .pose, .raster, .knani, .meter, .net, .sec, .journal, .power, .recorder] s (bootStep9 b totalsLost s) :=
  vddSet_touches.after (.setRaster (pmbusOut_touches.after (readIdBuses_touches.after (restoreFloors_touches.after (loadVxGroup_touches.after (loadBaseRef_touches.after (bootMeter_touches.after (bootTime_touches.after (bootRole_touches.after (bootVolatile_touches.after (bootBlobs_touches.after (bootFixed_touches.after .refl))))))))))))

theorem bootLocked_touches {s : State} :
    Touches [.out, .freeCtr, .mem, .harbour, .gnss, .pose, .cell, .raster, .knani, .axes, .meter, .fleet, .net, .sec, .journal, .power, .recorder] s (bootLocked s) :=
  .ite (enterSafe_touches.after (.setPower .refl)) .refl

theorem bootFinish_touches {b : Boot} {lost : Nat} {s0 : State} :
    Touches [.out, .freeCtr, .mem, .votes, .time, .harbour, .gnss, .pose, .cell, .raster, .knani, .axes, .meter, .fleet, .net, .sec, .journal, .power, .recorder] s0 (bootFinish b lost s0) :=
  raise_touches.after (.setHarbourSec (bootLocked_touches.after (bootStep9_touches.after (.ite (raise_touches.after (.setPower (draw_touches.after (runToCyc_touches.after .refl)))) (.setPower (runToCyc_touches.after .refl))))))

theorem doStartUp_touches {b : Boot} {s0 : State} : Touches Part.all s0 (doStartUp b s0) := by
  have h1 : Touches Part.all s0 (bootLife (bootRef b s0)).2 := bootLife_touches.after (bootRef_touches.after .refl)
  unfold doStartUp
  generalize bootLife (bootRef b s0) = x at h1 ⊢
  obtain ⟨again, s1⟩ := x
  dsimp -zeta only
  lift_lets
  extract_lets s2 s3 _ s4 s5
  have h2 : Touches Part.all s0 s2 := bootTamper_touches.after h1
  have h3 : Touches Part.all s0 s3 := bootPuf_touches.after h2
  have h5 : Touches Part.all s0 s5 :=
    bootBank_touches.after (bootAlarm_touches.after (bootJournal_touches.after (bootRing_touches.after (bootRegions_touches.after h3))))
  exact .ite .refl (.ite h1 (.ite h2 (.ite h3 (.ite h5 (bootFinish_touches.after (bootVerify_touches.after h5))))))

end Sys2Proof.Proofs

namespace Sys2Proof.Proofs
open Sys2Proof Sys2Proof.Machine Sys2Proof.Safety
-- Several hundred short proofs follow: elaborated one after the other, they hold no thread each.
set_option Elab.async false

/-! ## What a row touches -/

/-- The parts besides memory that the rows of a chapter change. -/
def chapterParts : Nat → List Part
  | 3 => [.out, .time, .harbour, .gnss, .pose, .journal, .power, .recorder]
  | 4 => [.out, .time, .harbour, .pose, .fleet, .net, .journal, .recorder]
  | 5 => [.out, .time, .harbour, .cell, .raster, .knani, .axes, .cor, .journal, .power, .recorder]
  | 6 => [.out, .time, .harbour, .cell, .raster, .net, .journal, .recorder]
  | 7 => [.out, .time, .harbour, .gnss, .cell, .knani, .journal, .power, .recorder]
  | 8 => [.out, .harbour, .knani, .journal, .power, .recorder]
  | 9 => [.out, .time, .harbour, .axes, .journal, .recorder]
  | 10 => [.out, .freeCtr, .time, .harbour, .meter, .sec, .journal, .recorder]
  | 11 => [.out, .freeCtr, .time, .harbour, .pose, .axes, .fleet, .cor, .stop, .net, .journal, .recorder]
  | 12 => [.out, .votes, .time, .harbour, .axes, .fleet, .cor, .stop, .net, .journal, .recorder]
  | 13 => [.out, .freeCtr, .time, .harbour, .pose, .cell, .raster, .net, .journal, .recorder]
  | 15 => [.out, .freeCtr, .otp, .time, .harbour, .sec, .journal, .power, .recorder]
  | 16 => [.out, .otp, .time, .harbour, .update, .journal, .power, .recorder]
  | _ => [.out, .freeCtr, .votes, .otp, .time, .harbour, .gnss, .pose, .cell, .raster, .knani, .axes, .meter, .fleet, .cor, .stop, .net, .sec, .update, .journal, .power, .recorder]

/-- The rows of chapters 11, 15 and 16 that can order a restart, enter SAFE or move the vehicle's modes reach further than their chapter. -/
def reachesFurther : Instr → Bool
  | .beacon _ => true
  | .tamperAlarm _ => true
  | .tamperSafeEntry => true
  | .debugRequest _ _ => true
  | .secLifecycle _ => true
  | .secUnlock _ => true
  | .secUnlockAck _ => true
  | .updateRestart => true
  | _ => false

/-- The parts of a row that stores or not, of a chapter; no chapter is numbered 0 but the rows that reach further count as its rows. -/
def partsOf (stores : Bool) (chapter : Nat) : List Part :=
  if stores then .mem :: chapterParts chapter else chapterParts chapter

/-- The parts that a row may change: memory for a command and for a row that names a store. -/
def rowParts (i : Instr) : List Part :=
  partsOf ((commandOf i).isSome || mayStore i) (if reachesFurther i then 0 else chapterOf i)

/-- A row's outcome is settled, which changes what is sent and Harbour alone. -/
theorem Touches.ofDone {F : List Part} {s t u : State} (h : done u = .next t) (hu : Touches F s u) (hF : [.out, .harbour] ⊆ F := by decide) : Touches F s t := by
  cases h
  exact settle_touches.after hu hF

/-- Every row touches the parts of its chapter alone. -/
theorem exec_touches {i : Instr} {s t : State} (h : exec i s = .next t) : Touches (rowParts i) s t := by
  cases i with
  | tideBoundary => exact .ofDone (F := partsOf true 2) h (doTideBoundary_touches.after .refl)
  | commitDeadline => exact .ofDone (F := partsOf true 5) h (doCommitDeadline_touches.after .refl)
  | vddAonRise => exact .ofDone (F := partsOf false 18) h (doVddAonRise_touches.after .refl)
  | vddAonLoss => exact .ofDone (F := partsOf true 17) h (doVddAonLoss_touches.after .refl)
  | resetN => exact .ofDone (F := partsOf true 18) h (doResetN_touches.after .refl)
  | startUp => exact .ofDone (F := partsOf true 17) h (doStartUp_touches.after .refl)
  | refLost => exact .ofDone (F := partsOf true 2) h (doRefLost_touches.after .refl)
  | refRestored => exact .ofDone (F := partsOf false 2) h (doRefRestored_touches.after .refl)
  | ppsInCapture => exact .ofDone (F := partsOf false 2) h (doPpsInCapture_touches.after .refl)
  | sourceTimeout => exact .ofDone (F := partsOf false 2) h (doSourceTimeout_touches.after .refl)
  | domainALockHold => exact .ofDone (F := partsOf false 2) h (doDomainALockHold_touches.after .refl)
  | tqTest => exact .ofDone (F := partsOf false 2) h (tqTest_touches.after .refl)
  | rtcWrite => exact .ofDone (F := partsOf false 2) h (doRtcWrite_touches.after .refl)
  | ppsOutArm => exact .ofDone (F := partsOf false 2) h (doPpsOutArm_touches.after .refl)
  | ppsOutActiveEdge => exact .ofDone (F := partsOf false 2) h (doPpsOutActiveEdge_touches.after .refl)
  | ppsOutInactiveEdge => exact .ofDone (F := partsOf false 2) h (doPpsOutInactiveEdge_touches.after .refl)
  | ppsInMissing => exact .ofDone (F := partsOf false 2) h (doPpsInMissing_touches.after .refl)
  | captureEdge => exact .ofDone (F := partsOf false 2) h (doCaptureEdge_touches.after .refl)
  | compareRelease => exact .ofDone (F := partsOf false 2) h (doCompareRelease_touches.after .refl)
  | comparePulseEnd => exact .ofDone (F := partsOf false 2) h (doComparePulseEnd_touches.after .refl)
  | delayListDelivery => exact .ofDone (F := partsOf false 2) h (doDelayListDelivery_touches.after .refl)
  | fullTargetArm => exact .ofDone (F := partsOf false 2) h (doFullTargetArm_touches.after .refl)
  | tidePeriodChange => exact .ofDone (F := partsOf false 2) h (doTidePeriodChange_touches.after .refl)
  | timeGet => exact .ofDone (F := partsOf true 2) h (command_touches fun _ => .refl)
  | timeDomainConfig => exact .ofDone (F := partsOf true 2) h (command_touches fun _ => timeDomainConfig_touches.after .refl)
  | timeSelect => exact .ofDone (F := partsOf true 2) h (command_touches fun _ => timeSelect_touches.after .refl)
  | timeMeasure => exact .ofDone (F := partsOf true 2) h (command_touches fun _ => timeMeasure_touches.after .refl)
  | timeSet => exact .ofDone (F := partsOf true 2) h (command_touches fun _ => timeSet_touches.after .refl)
  | timePpsOutConfig => exact .ofDone (F := partsOf true 2) h (command_touches fun _ => timePpsOutConfig_touches.after .refl)
  | timePpsInConfig => exact .ofDone (F := partsOf true 2) h (command_touches fun _ => timePpsInConfig_touches.after .refl)
  | timeTideConfig => exact .ofDone (F := partsOf true 2) h (command_touches fun _ => timeTideConfig_touches.after .refl)
  | timeEpochSet => exact .ofDone (F := partsOf true 2) h (command_touches fun _ => timeEpochSet_touches.after .refl)
  | timeHoldoverConfig => exact .ofDone (F := partsOf true 2) h (command_touches fun _ => timeHoldoverConfig_touches.after .refl)
  | timeCaptureConfig => exact .ofDone (F := partsOf true 2) h (command_touches fun _ => timeCaptureConfig_touches.after .refl)
  | timeCaptureRead => exact .ofDone (F := partsOf true 2) h (command_touches fun _ => timeCaptureRead_touches.after .refl)
  | timeCompareArm => exact .ofDone (F := partsOf true 2) h (command_touches fun _ => timeCompareArm_touches.after .refl)
  | timeCompareCancel => exact .ofDone (F := partsOf true 2) h (command_touches fun _ => timeCompareCancel_touches.after .refl)
  | timeAlarmSet => exact .ofDone (F := partsOf true 2) h (command_touches fun _ => timeAlarmSet_touches.after .refl)
  | ifFrameMarker => exact .ofDone (F := partsOf false 3) h (doMarker_touches.after .refl)
  | gnssIfLinkLost => exact .ofDone (F := partsOf false 3) h (doIfLost_touches.after .refl)
  | ifClockFault => exact .ofDone (F := partsOf false 3) h (doIfRate_touches.after .refl)
  | spectralAverage => exact .ofDone (F := partsOf false 3) h (doAverage_touches.after .refl)
  | notchRelease => exact .ofDone (F := partsOf false 3) h (doNotchRelease_touches.after .refl)
  | noiseProbeReading => exact .ofDone (F := partsOf false 3) h (doProbe_touches.after .refl)
  | jamClear => exact .ofDone (F := partsOf false 3) h (doJamClear_touches.after .refl)
  | acqSearchDone => exact .ofDone (F := partsOf false 3) h (doSearch_touches.after .refl)
  | detectionDiscard => exact .ofDone (F := partsOf false 3) h (doDiscard_touches.after .refl)
  | coherentIntervalEnd => exact .ofDone (F := partsOf false 3) h (doCoherent_touches.after .refl)
  | pullInTimeout => exact .ofDone (F := partsOf false 3) h (doPullInTimeout_touches.after .refl)
  | gnssSatLost => exact .ofDone (F := partsOf false 3) h (doSatLost_touches.after .refl)
  | measurementEpoch => exact .ofDone (F := partsOf false 3) h (doEpochLatch_touches.after .refl)
  | measurementRecord => exact .ofDone (F := partsOf false 3) h (doRecord_touches.after .refl)
  | navUnitDecoded => exact .ofDone (F := partsOf false 3) h (doNavUnit_touches.after .refl)
  | burstStart => exact .ofDone (F := partsOf false 3) h (doBurstStart_touches.after .refl)
  | burstEnd => exact .ofDone (F := partsOf false 3) h (doBurstEnd_touches.after .refl)
  | gnssConfig => exact .ofDone (F := partsOf true 3) h (command_touches fun _ => gnssConfig_touches.after .refl)
  | gnssStatus => exact .ofDone (F := partsOf true 3) h (command_touches fun _ => .refl)
  | gnssFrontendSet => exact .ofDone (F := partsOf true 3) h (command_touches fun _ => gnssFrontendSet_touches.after .refl)
  | gnssAssist => exact .ofDone (F := partsOf true 3) h (command_touches fun _ => gnssAssist_touches.after .refl)
  | gnssChannelRequest => exact .ofDone (F := partsOf true 3) h (command_touches fun _ => gnssChannelRequest_touches.after .refl)
  | gnssChannelRelease => exact .ofDone (F := partsOf true 3) h (command_touches fun _ => gnssChannelRelease_touches.after .refl)
  | gnssMeasSubscribe => exact .ofDone (F := partsOf true 3) h (command_touches fun _ => gnssMeasSubscribe_touches.after .refl)
  | gnssNavSubscribe => exact .ofDone (F := partsOf true 3) h (command_touches fun _ => gnssNavSubscribe_touches.after .refl)
  | gnssNotchConfig => exact .ofDone (F := partsOf true 3) h (command_touches fun _ => gnssNotchConfig_touches.after .refl)
  | gnssLoopConfig => exact .ofDone (F := partsOf true 3) h (command_touches fun _ => gnssLoopConfig_touches.after .refl)
  | gnssRestart => exact .ofDone (F := partsOf true 3) h (command_touches fun _ => gnssRestart_touches.after .refl)
  | gnssBurstConfig => exact .ofDone (F := partsOf true 3) h (command_touches fun _ => gnssBurstConfig_touches.after .refl)
  | gnssAcqConfig => exact .ofDone (F := partsOf true 3) h (command_touches fun _ => gnssAcqConfig_touches.after .refl)
  | rtkEpochSolution => exact .ofDone (F := partsOf false 4) h (doEpoch_touches.after .refl)
  | poseEpochLate => exact .ofDone (F := partsOf false 4) h (.ite (doEpochLate_touches.after .refl) .refl)
  | rtcmFrame => exact .ofDone (F := partsOf false 4) h (doRtcmFrame_touches.after .refl)
  | corrStale => exact .ofDone (F := partsOf false 4) h (doCorrStale_touches.after .refl)
  | imuSample => exact .ofDone (F := partsOf false 4) h (doImuSample_touches.after .refl)
  | imuLost => exact .ofDone (F := partsOf false 4) h (doImuLost_touches.after .refl)
  | poseDrStart => exact .ofDone (F := partsOf false 4) h (doDrStart_touches.after .refl)
  | poseDrLimit => exact .ofDone (F := partsOf false 4) h (doDrLimit_touches.after .refl)
  | baseSurveyFailed => exact .ofDone (F := partsOf false 4) h (doSurveyFailed_touches.after .refl)
  | correctionInterval => exact .ofDone (F := partsOf false 4) h (doCorrectionInterval_touches.after .refl)
  | stationIntervalDue => exact .ofDone (F := partsOf false 4) h (doStationInterval_touches.after .refl)
  | poseInstallSet => exact .ofDone (F := partsOf true 4) h (command_touches fun _ => poseInstallSet_touches.after .refl)
  | poseFilterConfig => exact .ofDone (F := partsOf true 4) h (command_touches fun _ => poseFilterConfig_touches.after .refl)
  | poseIntegrityConfig => exact .ofDone (F := partsOf true 4) h (command_touches fun _ => poseIntegrityConfig_touches.after .refl)
  | poseImuConfig => exact .ofDone (F := partsOf true 4) h (command_touches fun _ => poseImuConfig_touches.after .refl)
  | poseImuReadSet => exact .ofDone (F := partsOf true 4) h (command_touches fun _ => poseImuReadSet_touches.after .refl)
  | poseCorrConfig => exact .ofDone (F := partsOf true 4) h (command_touches fun _ => poseCorrConfig_touches.after .refl)
  | poseStatus => exact .ofDone (F := partsOf true 4) h (command_touches fun _ => .refl)
  | poseSubscribe => exact .ofDone (F := partsOf true 4) h (command_touches fun _ => poseSubscribe_touches.after .refl)
  | poseAt => exact .ofDone (F := partsOf true 4) h (command_touches fun _ => poseAtBody_touches.after .refl)
  | poseReset => exact .ofDone (F := partsOf true 4) h (command_touches fun _ => poseReset_touches.after .refl)
  | posePcvLoad => exact .ofDone (F := partsOf true 4) h (command_touches fun _ => posePcvLoad_touches.after .refl)
  | baseRefSet => exact .ofDone (F := partsOf true 4) h (command_touches fun _ => baseRefSet_touches.after .refl)
  | baseSurveyStart => exact .ofDone (F := partsOf true 4) h (command_touches fun _ => baseSurveyStart_touches.after .refl)
  | baseCorrConfig => exact .ofDone (F := partsOf true 4) h (command_touches fun _ => baseCorrConfig_touches.after .refl)
  | poseCorrSubscribe => exact .ofDone (F := partsOf true 4) h (command_touches fun _ => poseCorrSubscribe_touches.after .refl)
  | poseNmeaSubscribe => exact .ofDone (F := partsOf true 4) h (command_touches fun _ => poseNmeaSubscribe_touches.after .refl)
  | poseBatch => exact .ofDone (F := partsOf false 5) h (doPoseBatch_touches.after .refl)
  | cellEval => exact .ofDone (F := partsOf false 5) h (doCellEval_touches.after .refl)
  | framePack => exact .ofDone (F := partsOf false 5) h (doFramePack_touches.after .refl)
  | commitGate => exact .ofDone (F := partsOf false 5) h (doCommitGate_touches.after .refl)
  | writeback => exact .ofDone (F := partsOf false 6) h (doWriteback_touches.after .refl)
  | cellManualEnd => exact .ofDone (F := partsOf false 5) h (doManualEnd_touches.after .refl)
  | cellAdd => exact .ofDone (F := partsOf true 5) h (command_touches fun _ => cellAdd_touches.after .refl)
  | cellWrite => exact .ofDone (F := partsOf true 5) h (command_touches fun _ => cellWrite_touches.after .refl)
  | cellRead => exact .ofDone (F := partsOf true 5) h (command_touches fun _ => cellRead_touches.after .refl)
  | cellRemove => exact .ofDone (F := partsOf true 5) h (command_touches fun _ => cellRemove_touches.after .refl)
  | cellEngineConfig => exact .ofDone (F := partsOf true 5) h (command_touches fun _ => cellEngineConfig_touches.after .refl)
  | cellSpot => exact .ofDone (F := partsOf true 5) h (command_touches fun _ => cellSpot_touches.after .refl)
  | cellSpotCancel => exact .ofDone (F := partsOf true 5) h (command_touches fun _ => cellSpotCancel_touches.after .refl)
  | cellManual => exact .ofDone (F := partsOf true 5) h (command_touches fun _ => cellManual_touches.after .refl)
  | cellStats => exact .ofDone (F := partsOf true 5) h (command_touches fun _ => .refl)
  | cellTraceSubscribe => exact .ofDone (F := partsOf true 5) h (command_touches fun _ => cellTraceSubscribe_touches.after .refl)
  | cellFaultClear => exact .ofDone (F := partsOf true 5) h (command_touches fun _ => cellFaultClear_touches.after .refl)
  | rasterJobClosed => exact .ofDone (F := partsOf false 6) h (doJobClosed_touches.after .refl)
  | tilePacket => exact .ofDone (F := partsOf false 6) h (doTilePacket_touches.after .refl)
  | planeLoadApply => exact .ofDone (F := partsOf false 6) h (doLoadApply_touches.after .refl)
  | snapshotSend => exact .ofDone (F := partsOf false 6) h (doSnapshot_touches.after .refl)
  | wantTest => exact .ofDone (F := partsOf false 6) h (doWant_touches.after .refl)
  | tileFill => exact .ofDone (F := partsOf false 6) h (doTileFill_touches.after .refl)
  | flushInterval => exact .ofDone (F := partsOf false 6) h (doFlush_touches.after .refl)
  | deltaApply => exact .ofDone (F := partsOf false 6) h (doDeltaApply_touches.after .refl)
  | tileDropApply => exact .ofDone (F := partsOf false 6) h (doDropApply_touches.after .refl)
  | rasterJobDefine => exact .ofDone (F := partsOf true 6) h (command_touches fun _ => rasterJobDefine_touches.after .refl)
  | rasterJobOpen => exact .ofDone (F := partsOf true 6) h (command_touches fun _ => rasterJobOpen_touches.after .refl)
  | rasterJobClose => exact .ofDone (F := partsOf true 6) h (command_touches fun _ => rasterJobClose_touches.after .refl)
  | rasterJobDiscard => exact .ofDone (F := partsOf true 6) h (command_touches fun _ => rasterJobDiscard_touches.after .refl)
  | rasterJobStatus => exact .ofDone (F := partsOf true 6) h (command_touches fun _ => .refl)
  | rasterTileSave => exact .ofDone (F := partsOf true 6) h (command_touches fun _ => rasterTileSave_touches.after .refl)
  | rasterExport => exact .ofDone (F := partsOf true 6) h (command_touches fun _ => rasterExport_touches.after .refl)
  | rasterTileDrop => exact .ofDone (F := partsOf true 6) h (command_touches fun _ => rasterTileDrop_touches.after .refl)
  | rasterLoadStatus => exact .ofDone (F := partsOf true 6) h (command_touches fun _ => .refl)
  | rasterCacheStatus => exact .ofDone (F := partsOf true 6) h (command_touches fun _ => .refl)
  | rasterQuery => exact .ofDone (F := partsOf true 6) h (command_touches fun _ => rasterQuery_touches.after .refl)
  | rasterWantSubscribe => exact .ofDone (F := partsOf true 6) h (command_touches fun _ => rasterWantSubscribe_touches.after .refl)
  | commandFrameSend => exact .ofDone (F := partsOf false 7) h (doCommandFrame_touches.after .refl)
  | returnedFrame => exact .ofDone (F := partsOf true 7) h (doReturnedFrame_touches.after .refl)
  | knaniReturnMissing => exact .ofDone (F := partsOf true 7) h (doReturnMissing_touches.after .refl)
  | breakFrame => exact .ofDone (F := partsOf true 7) h (doBreakFrame_touches.after .refl)
  | manageFrame => exact .ofDone (F := partsOf true 7) h (doManageFrame_touches.after .refl)
  | segmentRemeasure => exact .ofDone (F := partsOf false 7) h (doSegment_touches.after .refl)
  | enumerateReturn => exact .ofDone (F := partsOf true 7) h (doEnumerateReturn_touches.after .refl)
  | enumTimeout => exact .ofDone (F := partsOf true 7) h (doEnumTimeout_touches.after .refl)
  | watchdogPeriodRestore => exact .ofDone (F := partsOf false 7) h (doWatchdogRestore_touches.after .refl)
  | idBusTransaction => exact .ofDone (F := partsOf true 7) h (doIdTransaction_touches.after .refl)
  | nodeCommandFrame => exact .ofDone (F := partsOf false 7) h (doNodeFrame_touches.after .refl)
  | nodeLatch => exact .ofDone (F := partsOf false 7) h (doNodeLatch_touches.after .refl)
  | failsafeCommit => exact .ofDone (F := partsOf false 7) h (doFailsafeCommit_touches.after .refl)
  | nodeBreakOriginate => exact .ofDone (F := partsOf false 7) h (doBreakOriginate_touches.after .refl)
  | lifeCountCheck => exact .ofDone (F := partsOf false 8) h ((overChannels_touches (F := [.out, .harbour, .knani, .journal, .recorder]) fun _ _ _ _ => lifeCheck1_touches.after .refl).after (passDone_touches.after .refl))
  | moduleHeaderRead => exact .ofDone (F := partsOf false 8) h (doModuleHeader_touches.after .refl)
  | knaniLoopStart => exact .ofDone (F := partsOf true 7) h (commandC_touches fun _ => knaniLoopStart_touches.after .refl)
  | knaniLoopStop => exact .ofDone (F := partsOf true 7) h (command_touches fun _ => knaniLoopStop_touches.after .refl)
  | knaniLoopRestore => exact .ofDone (F := partsOf true 7) h (command_touches fun _ => knaniLoopRestore_touches.after .refl)
  | knaniLoopStatus => exact .ofDone (F := partsOf true 7) h (command_touches fun _ => knaniLoopStatus_touches.after .refl)
  | knaniNodeStatus => exact .ofDone (F := partsOf true 7) h (command_touches fun _ => knaniNodeStatus_touches.after .refl)
  | knaniIdRead => exact .ofDone (F := partsOf true 7) h (commandC_touches fun _ => knaniIdRead_touches.after .refl)
  | knaniIdWrite => exact .ofDone (F := partsOf true 7) h (commandC_touches fun _ => knaniIdWrite_touches.after .refl)
  | knaniTimingMeasure => exact .ofDone (F := partsOf true 7) h (command_touches fun _ => knaniTimingMeasure_touches.after .refl)
  | knaniNodeResume => exact .ofDone (F := partsOf true 7) h (command_touches fun _ => knaniNodeResume_touches.after .refl)
  | channelConfig => exact .ofDone (F := partsOf true 8) h (commandC_touches fun _ => channelConfig_touches.after .refl)
  | channelStatus => exact .ofDone (F := partsOf true 8) h (command_touches fun _ => channelStatus_touches.after .refl)
  | channelFaultClear => exact .ofDone (F := partsOf true 8) h (command_touches fun _ => channelFaultClear_touches.after .refl)
  | channelNeighbourTest => exact .ofDone (F := partsOf true 8) h (command_touches fun _ => channelNeighbourTest_touches.after .refl)
  | channelExposureSet => exact .ofDone (F := partsOf true 8) h (command_touches fun _ => channelExposureSet_touches.after .refl)
  | channelDiagConfig => exact .ofDone (F := partsOf true 8) h (command_touches fun _ => channelDiagConfig_touches.after .refl)
  | channelLifeRead => exact .ofDone (F := partsOf true 8) h (command_touches fun _ => channelLifeRead_touches.after .refl)
  | moveStart => exact .ofDone (F := partsOf true 9) h (doMoveStart_touches.after .refl)
  | setPointRelease => exact .ofDone (F := partsOf true 9) h (doSetPointRelease_touches.after .refl)
  | axisPlanStarved => exact .ofDone (F := partsOf true 9) h (doAxisPlanStarved_touches.after .refl)
  | chopperCycle => exact .ofDone (F := partsOf true 9) h (doChopperCycle_touches.after .refl)
  | standstillTimer => exact .ofDone (F := partsOf false 9) h (doStandstillTimer_touches.after .refl)
  | limitDebouncedEdge => exact .ofDone (F := partsOf true 9) h (doLimitDebouncedEdge_touches.after .refl)
  | reverseDwell => exact .ofDone (F := partsOf false 9) h (doReverseDwell_touches.after .refl)
  | homeTimeout => exact .ofDone (F := partsOf false 9) h (doHomeTimeout_touches.after .refl)
  | axisConfig => exact .ofDone (F := partsOf true 9) h (command_touches fun _ => axisConfig_touches.after .refl)
  | axisDriveConfig => exact .ofDone (F := partsOf true 9) h (command_touches fun _ => axisDriveConfig_touches.after .refl)
  | axisLimitConfig => exact .ofDone (F := partsOf true 9) h (command_touches fun _ => axisLimitConfig_touches.after .refl)
  | axisMove => exact .ofDone (F := partsOf true 9) h (commandC_touches fun _ => axisMove_touches.after .refl)
  | axisStop => exact .ofDone (F := partsOf true 9) h (command_touches fun _ => axisStop_touches.after .refl)
  | axisResume => exact .ofDone (F := partsOf true 9) h (commandC_touches fun _ => axisResume_touches.after .refl)
  | axisHome => exact .ofDone (F := partsOf true 9) h (command_touches fun _ => axisHome_touches.after .refl)
  | axisEnable => exact .ofDone (F := partsOf true 9) h (command_touches fun _ => axisEnable_touches.after .refl)
  | axisSetPosition => exact .ofDone (F := partsOf true 9) h (command_touches fun _ => axisSetPosition_touches.after .refl)
  | axisStatus => exact .ofDone (F := partsOf true 9) h (command_touches fun _ => axisStatus_touches.after .refl)
  | axisFaultClear => exact .ofDone (F := partsOf true 9) h (command_touches fun _ => axisFaultClear_touches.after .refl)
  | conversionFrame => exact .ofDone (F := partsOf false 10) h (doConversion_touches.after .refl)
  | alignedSample => exact .ofDone (F := partsOf false 10) h (doAligned_touches.after .refl)
  | supplyValue => exact .ofDone (F := partsOf false 10) h (doSupplyValue_touches.after .refl)
  | intervalLatch => exact .ofDone (F := partsOf false 10) h (doIntervalLatch_touches.after .refl)
  | syntheticCrossing => exact .ofDone (F := partsOf false 10) h (doSynthetic_touches.after .refl)
  | recordRingSend => exact .ofDone (F := partsOf false 10) h (sendHeld_touches.after .refl)
  | meterSave => exact .ofDone (F := partsOf false 10) h (doMeterSave_touches.after .refl)
  | meterSaveLate => exact .ofDone (F := partsOf false 10) h (doMeterSaveLate_touches.after .refl)
  | meterChannelConfig => exact .ofDone (F := partsOf true 10) h (command_touches fun _ => meterChannelConfig_touches.after .refl)
  | meterSupplyConfig => exact .ofDone (F := partsOf true 10) h (command_touches fun _ => meterSupplyConfig_touches.after .refl)
  | meterLatchConfig => exact .ofDone (F := partsOf true 10) h (command_touches fun _ => meterLatchConfig_touches.after .refl)
  | meterRead => exact .ofDone (F := partsOf true 10) h (command_touches fun _ => meterRead_touches.after .refl)
  | meterSubscribe => exact .ofDone (F := partsOf true 10) h (command_touches fun _ => meterSubscribe_touches.after .refl)
  | meterBillOpen => exact .ofDone (F := partsOf true 10) h (command_touches fun _ => meterBillOpen_touches.after .refl)
  | meterBillClose => exact .ofDone (F := partsOf true 10) h (command_touches fun _ => meterBillClose_touches.after .refl)
  | meterSaveConfig => exact .ofDone (F := partsOf true 10) h (command_touches fun _ => meterSaveConfig_touches.after .refl)
  | meterSample => exact .ofDone (F := partsOf true 10) h (command_touches fun _ => meterSample_touches.after .refl)
  | slotStart => exact .ofDone (F := partsOf false 11) h (doSlotStart_touches.after .refl)
  | beacon => exact .ofDone (F := partsOf true 0) h (.ite (beaconNeap_touches.after .refl) (doBeacon_touches.after .refl))
  | corrFrame => exact .ofDone (F := partsOf false 11) h (doCorrFrame_touches.after .refl)
  | stopFrame => exact .ofDone (F := partsOf true 11) h (doStopFrame_touches.after .refl)
  | data => exact .ofDone (F := partsOf false 11) h (doData_touches.after .refl)
  | ackFrame => exact .ofDone (F := partsOf false 11) h (doAckFrame_touches.after .refl)
  | uplink => exact .ofDone (F := partsOf false 11) h (doUplink_touches.after .refl)
  | joinReq => exact .ofDone (F := partsOf false 11) h (doJoinReq_touches.after .refl)
  | joinResp => exact .ofDone (F := partsOf false 11) h (doJoinResp_touches.after .refl)
  | serviceReq => exact .ofDone (F := partsOf false 11) h (doServiceReq_touches.after .refl)
  | serviceResp => exact .ofDone (F := partsOf false 11) h (doServiceResp_touches.after .refl)
  | fleetBeaconMissed => exact .ofDone (F := partsOf true 11) h (doBeaconMissed_touches.after .refl)
  | joinRetry => exact .ofDone (F := partsOf false 11) h (doJoinRetry_touches.after .refl)
  | supTimeout => exact .ofDone (F := partsOf false 11) h (doSupTimeout_touches.after .refl)
  | messageReassemblyTimeout => exact .ofDone (F := partsOf false 11) h (doReassemblyTimeout_touches.after .refl)
  | fleetServiceTimeout => exact .ofDone (F := partsOf false 11) h (doServiceTimeout_touches.after .refl)
  | searchChannelTimeout => exact .ofDone (F := partsOf false 11) h (doSearchTimeout_touches.after .refl)
  | radioMsgPacket => exact .ofDone (F := partsOf false 11) h (doRadioMsgPacket_touches.after .refl)
  | fleetRadioConfig => exact .ofDone (F := partsOf true 11) h (command_touches fun _ => fleetRadioConfig_touches.after .refl)
  | fleetXcvrScript => exact .ofDone (F := partsOf true 11) h (command_touches fun _ => fleetXcvrScript_touches.after .refl)
  | fleetBaseStart => exact .ofDone (F := partsOf true 11) h (command_touches fun _ => fleetBaseStart_touches.after .refl)
  | fleetBaseStop => exact .ofDone (F := partsOf true 11) h (command_touches fun _ => fleetBaseStop_touches.after .refl)
  | fleetBaseSet => exact .ofDone (F := partsOf true 11) h (command_touches fun _ => fleetBaseSet_touches.after .refl)
  | fleetChannelMap => exact .ofDone (F := partsOf true 11) h (command_touches fun _ => fleetChannelMap_touches.after .refl)
  | fleetRoverRelease => exact .ofDone (F := partsOf true 11) h (command_touches fun _ => fleetRoverRelease_touches.after .refl)
  | fleetRoverInfo => exact .ofDone (F := partsOf true 11) h (command_touches fun _ => fleetRoverInfo_touches.after .refl)
  | fleetJoin => exact .ofDone (F := partsOf true 11) h (command_touches fun _ => fleetJoin_touches.after .refl)
  | fleetLeave => exact .ofDone (F := partsOf true 11) h (command_touches fun _ => fleetLeave_touches.after .refl)
  | fleetRecover => exact .ofDone (F := partsOf true 11) h (command_touches fun _ => fleetRecover_touches.after .refl)
  | fleetStatus => exact .ofDone (F := partsOf true 11) h (command_touches fun _ => .refl)
  | fleetServiceSend => exact .ofDone (F := partsOf true 11) h (command_touches fun _ => fleetServiceSend_touches.after .refl)
  | fleetServiceReply => exact .ofDone (F := partsOf true 11) h (command_touches fun _ => fleetServiceReply_touches.after .refl)
  | corridorBatch => exact .ofDone (F := partsOf true 12) h (doCorridorBatch_touches.after .refl)
  | req => exact .ofDone (F := partsOf false 12) h (doReq_touches.after .refl)
  | release => exact .ofDone (F := partsOf false 12) h (doRelease_touches.after .refl)
  | frame => exact .ofDone (F := partsOf false 12) h (doFrame_touches.after .refl)
  | reqTimeout => exact .ofDone (F := partsOf false 12) h (doReqTimeout_touches.after .refl)
  | corridorRequest => exact .ofDone (F := partsOf true 12) h (command_touches fun _ => corridorRequest_touches.after .refl)
  | corridorRelease => exact .ofDone (F := partsOf true 12) h (command_touches fun _ => corridorRelease_touches.after .refl)
  | corridorLocalSet => exact .ofDone (F := partsOf true 12) h (command_touches fun _ => corridorLocalSet_touches.after .refl)
  | corridorConfig => exact .ofDone (F := partsOf true 12) h (command_touches fun _ => corridorConfig_touches.after .refl)
  | corridorRead => exact .ofDone (F := partsOf true 12) h (command_touches fun _ => corridorRead_touches.after .refl)
  | corridorServiceConfig => exact .ofDone (F := partsOf true 12) h (command_touches fun _ => corridorServiceConfig_touches.after .refl)
  | corridorRankSet => exact .ofDone (F := partsOf true 12) h (command_touches fun _ => corridorRankSet_touches.after .refl)
  | corridorBlock => exact .ofDone (F := partsOf true 12) h (commandC_touches fun _ => corridorBlock_touches.after .refl)
  | corridorRevoke => exact .ofDone (F := partsOf true 12) h (commandC_touches fun _ => corridorRevoke_touches.after .refl)
  | corridorStatus => exact .ofDone (F := partsOf true 12) h (command_touches fun _ => .refl)
  | stopInRegister => exact .ofDone (F := partsOf true 12) h (doStopInRegister_touches.after .refl)
  | stopInRelease => exact .ofDone (F := partsOf false 12) h (doStopInRelease_touches.after .refl)
  | stopDiscrepancy => exact .ofDone (F := partsOf true 12) h (doStopDiscrepancy_touches.after .refl)
  | vexlinkStopTimeout => exact .ofDone (F := partsOf false 12) h (doVexlinkStopTimeout_touches.after .refl)
  | stopStatus => exact .ofDone (F := partsOf true 12) h (command_touches fun _ => .refl)
  | stopClear => exact .ofDone (F := partsOf true 12) h (command_touches fun _ => stopClear_touches.after .refl)
  | stopConfig => exact .ofDone (F := partsOf true 12) h (command_touches fun _ => stopConfig_touches.after .refl)
  | symbolLock => exact .ofDone (F := partsOf false 13) h (doSymbolLock_touches.after .refl)
  | vxLinkDown => exact .ofDone (F := partsOf false 13) h (doVxLinkDown_touches.after .refl)
  | stopMessage => exact .ofDone (F := partsOf true 12) h (doStopMessage_touches.after .refl)
  | poseMessage => exact .ofDone (F := partsOf false 13) h (doPoseMessage_touches.after .refl)
  | timeMessage => exact .ofDone (F := partsOf false 13) h (doTimeMessage_touches.after .refl)
  | delayReq => exact .ofDone (F := partsOf false 13) h (doDelayReq_touches.after .refl)
  | delayResp => exact .ofDone (F := partsOf false 13) h (doDelayResp_touches.after .refl)
  | ackMessage => exact .ofDone (F := partsOf false 13) h (doAckMessage_touches.after .refl)
  | coverageDelta => exact .ofDone (F := partsOf false 6) h (doCoverageDelta_touches.after .refl)
  | hostMsg => exact .ofDone (F := partsOf false 13) h (doHostMsg_touches.after .refl)
  | corrMessage => exact .ofDone (F := partsOf false 13) h (doCorrMessage_touches.after .refl)
  | delayReqTimer => exact .ofDone (F := partsOf false 13) h (doDelayReqTimer_touches.after .refl)
  | timeSendTimer => exact .ofDone (F := partsOf false 13) h (doTimeSendTimer_touches.after .refl)
  | reliableRetry => exact .ofDone (F := partsOf false 13) h (doReliableRetry_touches.after .refl)
  | vxMsgLost => exact .ofDone (F := partsOf false 13) h (doMsgLost_touches.after .refl)
  | vxMsgPacket => exact .ofDone (F := partsOf false 13) h (doVxMsgPacket_touches.after .refl)
  | ethFrameRx => exact .ofDone (F := partsOf false 13) h (doEthFrameRx_touches.after .refl)
  | ethPacket => exact .ofDone (F := partsOf false 13) h (doEthPacket_touches.after .refl)
  | ethFrameTx => exact .ofDone (F := partsOf false 13) h (doEthFrameTx_touches.after .refl)
  | ethGateCycle => exact .ofDone (F := partsOf false 13) h (doEthGateCycle_touches.after .refl)
  | ethCollision => exact .ofDone (F := partsOf false 13) h (doEthCollision_touches.after .refl)
  | ethBackoffExpiry => exact .ofDone (F := partsOf false 13) h (doEthBackoffExpiry_touches.after .refl)
  | ethLink => exact .ofDone (F := partsOf false 13) h (doEthLink_touches.after .refl)
  | ptpMessage => exact .ofDone (F := partsOf false 13) h (doPtpMessage_touches.after .refl)
  | ptpAnnounceTimeout => exact .ofDone (F := partsOf false 13) h (doPtpAnnounceTimeout_touches.after .refl)
  | ptpSyncSend => exact .ofDone (F := partsOf false 13) h (doPtpSyncSend_touches.after .refl)
  | canFrameRx => exact .ofDone (F := partsOf false 13) h (doCanFrameRx_touches.after .refl)
  | canPacket => exact .ofDone (F := partsOf false 13) h (doCanPacket_touches.after .refl)
  | canFrameTx => exact .ofDone (F := partsOf false 13) h (doCanFrameTx_touches.after .refl)
  | canBusError => exact .ofDone (F := partsOf false 13) h (doCanBusError_touches.after .refl)
  | canAutoRecovery => exact .ofDone (F := partsOf false 13) h (doCanAutoRecovery_touches.after .refl)
  | netVxConfig => exact .ofDone (F := partsOf true 13) h (command_touches fun _ => netVxConfig_touches.after .refl)
  | netVxStatus => exact .ofDone (F := partsOf true 13) h (command_touches fun _ => .refl)
  | netEthConfig => exact .ofDone (F := partsOf true 13) h (command_touches fun _ => netEthConfig_touches.after .refl)
  | netEthHashSet => exact .ofDone (F := partsOf true 13) h (command_touches fun _ => netEthHashSet_touches.after .refl)
  | netEthGateLoad => exact .ofDone (F := partsOf true 13) h (command_touches fun _ => netEthGateLoad_touches.after .refl)
  | netEthGateCommit => exact .ofDone (F := partsOf true 13) h (command_touches fun _ => netEthGateCommit_touches.after .refl)
  | netPtpConfig => exact .ofDone (F := partsOf true 13) h (command_touches fun _ => netPtpConfig_touches.after .refl)
  | netCanConfig => exact .ofDone (F := partsOf true 13) h (command_touches fun _ => netCanConfig_touches.after .refl)
  | netCanFilterSet => exact .ofDone (F := partsOf true 13) h (command_touches fun _ => netCanFilterSet_touches.after .refl)
  | netCanRecover => exact .ofDone (F := partsOf true 13) h (command_touches fun _ => netCanRecover_touches.after .refl)
  | netMdio => exact .ofDone (F := partsOf true 13) h (command_touches fun _ => netMdio_touches.after .refl)
  | netStatus => exact .ofDone (F := partsOf true 13) h (command_touches fun _ => .refl)
  | pcieLinkChange => exact .ofDone (F := partsOf false 14) h (doPcieLinkChange_touches.after .refl)
  | mbxDoorbell => exact .ofDone (F := partsOf true 14) h (doMbxDoorbell_touches.after .refl)
  | mbxAck => exact .ofDone (F := partsOf false 14) h (doMbxAck_touches.after .refl)
  | evtAck => exact .ofDone (F := partsOf false 14) h (doEvtAck_touches.after .refl)
  | mbxCfgWrite => exact .ofDone (F := partsOf false 14) h (doMbxCfgWrite_touches.after .refl)
  | sData0 => exact .ofDone (F := partsOf false 14) h (barWrite_touches fun _ => s0Word_touches.after .refl)
  | sEnd0 => exact .ofDone (F := partsOf false 14) h (barWrite_touches fun _ => s0End_touches.after .refl)
  | sData1 => exact .ofDone (F := partsOf false 14) h (s1Read_touches.after .refl)
  | clear => exact .ofDone (F := partsOf false 14) h (barWrite_touches fun _ => streamClear_touches.after .refl)
  | abort => exact .ofDone (F := partsOf false 14) h (barWrite_touches fun _ => streamAbort_touches.after .refl)
  | drop => exact .ofDone (F := partsOf false 14) h (barWrite_touches fun _ => streamDrop_touches.after .refl)
  | packetAge => exact .ofDone (F := partsOf false 14) h (doPacketAge_touches.after .refl)
  | indDataRead => exact .ofDone (F := partsOf false 14) h (indRead_touches.after .refl)
  | indDataWrite => exact .ofDone (F := partsOf true 14) h (barWrite_touches fun _ => indWrite_touches.after .refl)
  | pairValueWrite => exact .ofDone (F := partsOf false 14) h (doPairValueWrite_touches.after .refl)
  | pairTimeout => exact .ofDone (F := partsOf false 14) h (doPairTimeout_touches.after .refl)
  | roleNext => exact .ofDone (F := partsOf false 14) h (doRoleNext_touches.after .refl)
  | resetReqIdle => exact .ofDone (F := partsOf true 14) h (doResetReq_touches.after .refl)
  | resetReqAllOff => exact .ofDone (F := partsOf true 14) h (doResetReq_touches.after .refl)
  | resetReqCancel => exact .ofDone (F := partsOf true 14) h (doResetReq_touches.after .refl)
  | domainEn => exact .ofDone (F := partsOf false 17) h (doDomainEn_touches.after .refl)
  | sysRestart => exact .ofDone (F := partsOf true 14) h (doSysRestart_touches.after .refl)
  | domainEnApply => exact .ofDone (F := partsOf true 17) h (doDomainApply_touches.after .refl)
  | registerWrite => exact .ofDone (F := partsOf false 0) h (barWrite_touches fun _ => regWrite_touches.after .refl)
  | sysInfo => exact .ofDone (F := partsOf true 14) h (command_touches fun _ => .refl)
  | sysNop => exact .ofDone (F := partsOf true 14) h (commandC_touches fun _ => sysNop_touches.after .refl)
  | sysEcho => exact .ofDone (F := partsOf true 14) h (command_touches fun _ => .refl)
  | sysStreamStatus => exact .ofDone (F := partsOf true 14) h (command_touches fun _ => .refl)
  | sysVoteStatus => exact .ofDone (F := partsOf true 14) h (command_touches fun _ => .refl)
  | tamperAlarm => exact .ofDone (F := partsOf true 0) h (tamperAlarm_touches.after .refl)
  | tamperSafeEntry => exact .ofDone (F := partsOf true 0) h (doTamperSafeEntry_touches.after .refl)
  | pufHealthCheck => exact .ofDone (F := partsOf false 15) h (doPufHealthCheck_touches.after .refl)
  | vaultIntegrityCheck => exact .ofDone (F := partsOf false 15) h (doVaultIntegrityCheck_touches.after .refl)
  | entropyTestFail => exact .ofDone (F := partsOf false 15) h (doEntropyTestFail_touches.after .refl)
  | entropyRetest => exact .ofDone (F := partsOf false 15) h (doEntropyRetest_touches.after .refl)
  | sessionTimeout => exact .ofDone (F := partsOf false 15) h (doSessionTimeout_touches.after .refl)
  | unlockAckTimeout => exact .ofDone (F := partsOf false 15) h (doUnlockAckTimeout_touches.after .refl)
  | debugRequest => exact .ofDone (F := partsOf true 0) h (doDebugRequest_touches.after .refl)
  | dbgTrstN => exact .ofDone (F := partsOf false 15) h (.setSec .refl)
  | secStatus => exact .ofDone (F := partsOf true 15) h (command_touches fun _ => .refl)
  | secKeyInfo => exact .ofDone (F := partsOf true 15) h (command_touches fun _ => secKeyInfo_touches.after .refl)
  | secKeyGenerate => exact .ofDone (F := partsOf true 15) h (command_touches fun _ => secKeyGenerate_touches.after .refl)
  | secKeyImport => exact .ofDone (F := partsOf true 15) h (commandC_touches fun _ => secKeyImport_touches.after .refl)
  | secKeyDerive => exact .ofDone (F := partsOf true 15) h (commandC_touches fun _ => secKeyDerive_touches.after .refl)
  | secKeyRevoke => exact .ofDone (F := partsOf true 15) h (command_touches fun _ => secKeyRevoke_touches.after .refl)
  | secKeyDelete => exact .ofDone (F := partsOf true 15) h (command_touches fun _ => secKeyDelete_touches.after .refl)
  | secKeyExport => exact .ofDone (F := partsOf true 15) h (commandC_touches fun _ => secKeyExport_touches.after .refl)
  | secCipher => exact .ofDone (F := partsOf true 15) h (commandC_touches fun _ => secCipher_touches.after .refl)
  | secMac => exact .ofDone (F := partsOf true 15) h (commandC_touches fun _ => secMac_touches.after .refl)
  | secHash => exact .ofDone (F := partsOf true 15) h (commandC_touches fun _ => secHash_touches.after .refl)
  | secSign => exact .ofDone (F := partsOf true 15) h (commandC_touches fun _ => secSign_touches.after .refl)
  | secVerify => exact .ofDone (F := partsOf true 15) h (commandC_touches fun _ => secVerify_touches.after .refl)
  | secEcdh => exact .ofDone (F := partsOf true 15) h (commandC_touches fun _ => secEcdh_touches.after .refl)
  | secRandom => exact .ofDone (F := partsOf true 15) h (commandC_touches fun _ => secRandom_touches.after .refl)
  | secLifecycle => exact .ofDone (F := partsOf true 0) h (obeyRestart_touches.after (command_touches fun _ => secLifecycle_touches.after .refl))
  | secChallenge => exact .ofDone (F := partsOf true 15) h (command_touches fun _ => secChallenge_touches.after .refl)
  | secUnlock => exact .ofDone (F := partsOf true 0) h (obeyRestart_touches.after (command_touches fun _ => secUnlock_touches.after .refl))
  | secUnlockAck => exact .ofDone (F := partsOf true 0) h (obeyRestart_touches.after (command_touches fun _ => secUnlockAck_touches.after .refl))
  | secTamperLog => exact .ofDone (F := partsOf true 15) h (commandC_touches fun _ => secTamperLog_touches.after .refl)
  | secAttest => exact .ofDone (F := partsOf true 15) h (command_touches fun _ => secAttest_touches.after .refl)
  | secPufCheck => exact .ofDone (F := partsOf true 15) h (command_touches fun _ => secPufCheck_touches.after .refl)
  | secWorldMap => exact .ofDone (F := partsOf true 15) h (command_touches fun _ => secWorldMap_touches.after .refl)
  | secKeyInstall => exact .ofDone (F := partsOf true 15) h (command_touches fun _ => secKeyInstall_touches.after .refl)
  | image => exact .ofDone (F := partsOf false 16) h (doImage_touches.after .refl)
  | verificationDone => exact .ofDone (F := partsOf false 16) h (doVerificationDone_touches.after .refl)
  | migrated => exact .ofDone (F := partsOf false 16) h (doMigrated_touches.after .refl)
  | preparingTimeout => exact .ofDone (F := partsOf false 16) h (doPreparingTimeout_touches.after .refl)
  | handoverSwitch => exact .ofDone (F := partsOf false 16) h (doHandoverSwitch_touches.after .refl)
  | handoverReversal => exact .ofDone (F := partsOf false 16) h (doHandoverReversal_touches.after .refl)
  | confirmWindow => exact .ofDone (F := partsOf false 16) h (doConfirmWindow_touches.after .refl)
  | updateRestart => exact .ofDone (F := partsOf true 0) h (doUpdateRestart_touches.after .refl)
  | compaction => exact .ofDone (F := partsOf false 16) h (doCompaction_touches.after .refl)
  | updateBegin => exact .ofDone (F := partsOf true 16) h (command_touches fun _ => updateBegin_touches.after .refl)
  | updateVerify => exact .ofDone (F := partsOf true 16) h (command_touches fun _ => updateVerify_touches.after .refl)
  | updateActivate => exact .ofDone (F := partsOf true 16) h (command_touches fun _ => updateActivate_touches.after .refl)
  | updateConfirm => exact .ofDone (F := partsOf true 16) h (command_touches fun _ => updateConfirm_touches.after .refl)
  | updateRevert => exact .ofDone (F := partsOf true 16) h (command_touches fun _ => .iteSnd (revert_touches.after .refl) .refl)
  | updateAbort => exact .ofDone (F := partsOf true 16) h (command_touches fun _ => updateAbort_touches.after .refl)
  | updateStatus => exact .ofDone (F := partsOf true 16) h (command_touches fun _ => .refl)
  | journalStatus => exact .ofDone (F := partsOf true 16) h (command_touches fun _ => .refl)
  | journalCompact => exact .ofDone (F := partsOf true 16) h (command_touches fun _ => .setJournal .refl)
  | neapEntry => exact .ofDone (F := partsOf true 17) h (doNeapEntry_touches.after .refl)
  | wakeRtcAlarm => exact .ofDone (F := partsOf true 17) h (doWakeRtc_touches.after .refl)
  | wakeGpio => exact .ofDone (F := partsOf true 17) h (doWakeGpio_touches.after .refl)
  | powerPfw => exact .ofDone (F := partsOf true 17) h (doPfw_touches.after .refl)
  | powerPfwEnd => exact .ofDone (F := partsOf false 17) h (doPfwEnd_touches.after .refl)
  | pmbusReadback => exact .ofDone (F := partsOf false 17) h (doPmbusReadback_touches.after .refl)
  | pmbAlert => exact .ofDone (F := partsOf false 17) h (doPmbAlert_touches.after .refl)
  | lockstepDisagreement => exact .ofDone (F := partsOf true 17) h (fatal_touches.after .refl)
  | safeHeartbeatMiss => exact .ofDone (F := partsOf true 17) h (fatal_touches.after .refl)
  | processorHeartbeat => exact .ofDone (F := partsOf true 17) h (doHeartbeat_touches.after .refl)
  | patrolScrub => exact .ofDone (F := partsOf true 17) h (doPatrolScrub_touches.after .refl)
  | sounding => exact .ofDone (F := partsOf false 17) h (doSounding_touches.after .refl)
  | recorderLoss => exact .ofDone (F := partsOf false 17) h (doRecorderLoss_touches.after .refl)
  | powerStatus => exact .ofDone (F := partsOf true 17) h (command_touches fun _ => .refl)
  | powerSetState => exact .ofDone (F := partsOf true 17) h (slackNow_touches.after (command_touches fun _ => powerSetState_touches.after .refl))
  | powerWakeConfig => exact .ofDone (F := partsOf true 17) h (command_touches fun _ => powerWakeConfig_touches.after .refl)
  | powerSoundingConfig => exact .ofDone (F := partsOf true 17) h (command_touches fun _ => powerSoundingConfig_touches.after .refl)
  | powerSoundingRead => exact .ofDone (F := partsOf true 17) h (command_touches fun _ => powerSoundingRead_touches.after .refl)
  | powerUndertowStatus => exact .ofDone (F := partsOf true 17) h (command_touches fun _ => .refl)
  | recorderRead => exact .ofDone (F := partsOf true 17) h (command_touches fun _ => recorderRead_touches.after .refl)
  | recorderSubscribe => exact .ofDone (F := partsOf true 17) h (command_touches fun _ => recorderSubscribe_touches.after .refl)
  | recorderConfig => exact .ofDone (F := partsOf true 17) h (command_touches fun _ => recorderConfig_touches.after .refl)
  | recorderStatus => exact .ofDone (F := partsOf true 17) h (command_touches fun _ => .refl)
  | nodeWireReset => exact .ofDone (F := partsOf false 7) h (setPhys_touches.after .refl)
  | channelEdge => exact .ofDone (F := partsOf false 7) h (doChannelEdge_touches.after .refl)
  | enumerateAtNode => exact .ofDone (F := partsOf false 7) h (doEnumerateAtNode_touches.after .refl)
  | manageAtNode => exact .ofDone (F := partsOf false 7) h (doManageAtNode_touches.after .refl)
  | nodeBreakForward => exact .ofDone (F := partsOf false 7) h (doBreakForward_touches.after .refl)
  | shortLoad => exact .ofDone (F := partsOf false 8) h (doShortLoad_touches.after .refl)
  | nodeOvertemperature => exact .ofDone (F := partsOf false 8) h (doOvertemp_touches.after .refl)
  | vexlinkBlock => exact .ofDone (F := partsOf false 13) h (doVexlinkBlock_touches.after .refl)
  | vddCoreLoss => exact .ofDone (F := partsOf true 17) h (doVddCoreLoss_touches.after .refl)
  | ptpDelayReqSend => exact .ofDone (F := partsOf false 13) h (doPtpDelayReqSend_touches.after .refl)
  | sysNopDelay => exact .ofDone (F := partsOf true 14) h (doSysNopDelay_touches.after .refl)
  | selfTestPassed => exact .ofDone (F := partsOf false 16) h (doSelfTestPassed_touches.after .refl)

/-! ## What every step keeps -/

/-- A row with the queue's rest. -/
theorem step_cons_touches {i : Instr} {r : List Instr} {s t : State} (h : step { s with pending := i :: r } = .next t) : Touches (rowParts i) { s with pending := r } t :=
  exec_touches h

/-- Whatever the step, OTP grows and memory keeps its form. -/
theorem step_keeps {s t : State} (h : step s = .next t) : OtpGrown s.otp t.otp ∧ (memorySound s → memorySound t) := by
  unfold step at h
  split at h
  · cases h
    have hi : Touches [.time] s (idle s) := .ite (.setTime .refl) .refl
    exact ⟨hi.otpGrown, hi.memory⟩
  · next hp =>
    have ht := exec_touches h
    exact ⟨ht.otpGrown, ht.memory⟩

/-- Settles O3: a row rebuilds the state around the queue that the step leaves it. -/
theorem queueFirstInFirstOut : Obligations.QueueFirstInFirstOut := by
  unfold Obligations.QueueFirstInFirstOut
  intro i r s t h
  exact (step_cons_touches h).pending

/-- Settles O4: every write of OTP is a growth. -/
theorem otpOnlyGrows : Obligations.OtpOnlyGrows := by
  unfold Obligations.OtpOnlyGrows
  intro s t hle h
  have hg := (step_keeps h).1
  exact ⟨(hg.epoch hle).1, (hg.epoch hle).2, hg.counter, hg.worldMap, hg.hash3, hg.hash4⟩

/-- Settles O5: every store goes through memPuts, and what empties memory leaves the empty list. -/
theorem memoryStaysCanonical : Obligations.MemoryStaysCanonical := by
  unfold Obligations.MemoryStaysCanonical
  intro s t hm h
  exact (step_keeps h).2 hm

/-! ## Frames of the shared operations -/

@[simp] theorem mbxOf_setMbx_of_ne {m j : Nat} (hj : j ≠ m) (f : Mbx → Mbx) (s : State) : mbxOf (setMbx m f s) j = mbxOf s j := by
  have hj' : ¬ m = j := fun e => hj e.symm
  simp only [mbxOf, setMbx_mbxs, List.getD_eq_getElem?_getD]
  simp [hj']

@[simp] theorem areaWrite_mbxs (m off : Nat) (d : List Byte) (s : State) : (areaWrite m off d s).harbour.mbxs = s.harbour.mbxs := by
  unfold areaWrite emit
  split <;> rfl

@[simp] theorem writeCompletion_mbxs (m seq : Nat) (k : Completion) (s : State) : (writeCompletion m seq k s).harbour.mbxs = s.harbour.mbxs := by
  unfold writeCompletion
  dsimp only
  rw [areaWrite_mbxs]
  split
  · rfl
  · exact areaWrite_mbxs _ _ _ _

theorem mbxOf_releaseOne_of_ne {m j : Nat} (hj : j ≠ m) (h : Held) (s : State) : mbxOf (releaseOne m h s) j = mbxOf s j := by
  have hset : ∀ (f : Mbx → Mbx) (c : Nat), mbxOf { setMbx m f s with harbour := { (setMbx m f s).harbour with credit := c } } j = mbxOf s j :=
    fun f _ => mbxOf_setMbx_of_ne hj f s
  unfold releaseOne
  dsimp only
  split
  · exact hset _ _
  · split
    · exact hset _ _
    · rw [mbxOf, writeCompletion_mbxs]
      exact hset _ _

theorem mbxOf_complete_of_ne {m j : Nat} (hj : j ≠ m) (k op tag st : Nat) (r : List Byte) (s : State) : mbxOf (complete m k op tag st r s) j = mbxOf s j := by
  have hfold : ∀ (l : List Held) (u : State), mbxOf (l.foldl (fun st h => releaseOne m h st) u) j = mbxOf u j := by
    intro l
    induction l with
    | nil => exact fun _ => rfl
    | cons h l ih => exact fun u => (ih _).trans (mbxOf_releaseOne_of_ne hj h u)
  unfold complete
  dsimp only
  split
  · unfold releaseAll
    dsimp only
    rw [hfold, mbxOf_setMbx_of_ne hj, mbxOf_setMbx_of_ne hj]
  · exact mbxOf_releaseOne_of_ne hj _ _

@[simp] theorem settle_harbour_s0_packets (s : State) : (settle s).harbour.s0.packets = s.harbour.s0.packets := by
  unfold settle sendMsi
  dsimp only
  split <;> rfl

@[simp] theorem settle_harbour_s1_packets (s : State) : (settle s).harbour.s1.packets = s.harbour.s1.packets := by
  unfold settle sendMsi
  dsimp only
  split <;> rfl

/-- A row that is no command and names no store changes no byte of memory. -/
theorem exec_mem_of_no_store {i : Instr} {s t : State} (hc : commandOf i = none) (hm : mayStore i = false) (h : exec i s = .next t) : t.mem = s.mem := by
  refine (exec_touches h).same .mem ?_
  have hno : ∀ n, .mem ∉ chapterParts n := by
    intro n
    unfold chapterParts
    split <;> decide
  simpa [rowParts, partsOf, hc, hm] using hno _

/-- Settles O9, by the frame equation of each operation and by what the rows touch. -/
theorem sharedFrames : Obligations.SharedFrames := by
  unfold Obligations.SharedFrames
  refine ⟨fun s => ?_, fun e s => ?_, fun m k op tag st r s => ?_, fun i s t a hc hm h => ?_⟩
  · simp
  · obtain ⟨j, x, y, h⟩ := raise_shape e s
    simp [h]
  · obtain ⟨o, e, b, c, h⟩ := complete_shape m k op tag st r s
    exact ⟨by simp, by simp, by simp, by simp, by simp, by simp, by rw [h], fun j hj => mbxOf_complete_of_ne hj ..⟩
  · rw [exec_mem_of_no_store hc hm h]

/-! ## What the rows of a chapter never change -/

/-- A row that does not reach further keeps every part that its chapter does not change. -/
theorem Part.kept (p : Part) {n : Nat} {i : Instr} {s t : State} (hc : chapterOf i = n) (hw : reachesFurther i = false) (h : exec i s = .next t)
    (hp : p ∉ .mem :: chapterParts n := by decide) : p.Same s t := by
  refine (exec_touches h).same p fun hm => hp ?_
  rw [rowParts, partsOf, hw, hc] at hm
  split at hm
  · exact hm
  · exact List.mem_cons_of_mem _ hm

/-- The rows that reach further. -/
theorem reachesFurther_cases {i : Instr} (h : reachesFurther i = true) :
    (∃ f, i = .beacon f) ∨ i = .updateRestart ∨ (∃ x, i = .tamperAlarm x) ∨ i = .tamperSafeEntry ∨ (∃ k g, i = .debugRequest k g) ∨ (∃ c, i = .secLifecycle c) ∨
      (∃ c, i = .secUnlock c) ∨ ∃ c, i = .secUnlockAck c := by
  unfold reachesFurther at h
  split at h
  case h_9 => cases h
  all_goals simp

theorem chapterOf_of_reachesFurther {i : Instr} (h : reachesFurther i = true) : chapterOf i = 11 ∨ chapterOf i = 15 ∨ chapterOf i = 16 := by
  obtain ⟨f, rfl⟩ | rfl | ⟨x, rfl⟩ | rfl | ⟨k, g, rfl⟩ | ⟨c, rfl⟩ | ⟨c, rfl⟩ | ⟨c, rfl⟩ := reachesFurther_cases h
  · exact .inl rfl
  · exact .inr (.inr rfl)
  all_goals exact .inr (.inl rfl)

theorem not_reachesFurther {n : Nat} {i : Instr} (h : chapterOf i = n) (hn : n ≠ 11 ∧ n ≠ 15 ∧ n ≠ 16 := by decide) : reachesFurther i = false := by
  refine Decidable.byContradiction fun hw => ?_
  have := chapterOf_of_reachesFurther (eq_true_of_ne_false hw)
  omega

theorem chapter3_frame {i : Instr} {s t : State} (hc : chapterOf i = 3) (h : exec i s = .next t) :
    t.freeCtr = s.freeCtr ∧ t.votes = s.votes ∧ t.otp = s.otp ∧ t.cell = s.cell ∧ t.raster = s.raster ∧ t.knani = s.knani ∧ t.axes = s.axes ∧ t.meter = s.meter ∧ t.fleet = s.fleet ∧ t.cor = s.cor ∧ t.stop = s.stop ∧ t.net = s.net ∧ t.sec = s.sec ∧ t.update = s.update := by
  have hw := not_reachesFurther hc
  exact ⟨Part.kept .freeCtr hc hw h, Part.kept .votes hc hw h, Part.kept .otp hc hw h, Part.kept .cell hc hw h, Part.kept .raster hc hw h, Part.kept .knani hc hw h, Part.kept .axes hc hw h, Part.kept .meter hc hw h, Part.kept .fleet hc hw h, Part.kept .cor hc hw h, Part.kept .stop hc hw h, Part.kept .net hc hw h, Part.kept .sec hc hw h, Part.kept .update hc hw h⟩

theorem chapter4_frame {i : Instr} {s t : State} (hc : chapterOf i = 4) (h : exec i s = .next t) :
    t.freeCtr = s.freeCtr ∧ t.votes = s.votes ∧ t.otp = s.otp ∧ t.gnss = s.gnss ∧ t.cell = s.cell ∧ t.raster = s.raster ∧ t.knani = s.knani ∧ t.axes = s.axes ∧ t.meter = s.meter ∧ t.cor = s.cor ∧ t.stop = s.stop ∧ t.sec = s.sec ∧ t.update = s.update ∧ t.power = s.power := by
  have hw := not_reachesFurther hc
  exact ⟨Part.kept .freeCtr hc hw h, Part.kept .votes hc hw h, Part.kept .otp hc hw h, Part.kept .gnss hc hw h, Part.kept .cell hc hw h, Part.kept .raster hc hw h, Part.kept .knani hc hw h, Part.kept .axes hc hw h, Part.kept .meter hc hw h, Part.kept .cor hc hw h, Part.kept .stop hc hw h, Part.kept .sec hc hw h, Part.kept .update hc hw h, Part.kept .power hc hw h⟩

theorem chapter5_frame {i : Instr} {s t : State} (hc : chapterOf i = 5) (h : exec i s = .next t) :
    t.freeCtr = s.freeCtr ∧ t.votes = s.votes ∧ t.otp = s.otp ∧ t.gnss = s.gnss ∧ t.pose = s.pose ∧ t.meter = s.meter ∧ t.fleet = s.fleet ∧ t.stop = s.stop ∧ t.net = s.net ∧ t.sec = s.sec ∧ t.update = s.update := by
  have hw := not_reachesFurther hc
  exact ⟨Part.kept .freeCtr hc hw h, Part.kept .votes hc hw h, Part.kept .otp hc hw h, Part.kept .gnss hc hw h, Part.kept .pose hc hw h, Part.kept .meter hc hw h, Part.kept .fleet hc hw h, Part.kept .stop hc hw h, Part.kept .net hc hw h, Part.kept .sec hc hw h, Part.kept .update hc hw h⟩

theorem chapter6_frame {i : Instr} {s t : State} (hc : chapterOf i = 6) (h : exec i s = .next t) :
    t.freeCtr = s.freeCtr ∧ t.votes = s.votes ∧ t.otp = s.otp ∧ t.gnss = s.gnss ∧ t.pose = s.pose ∧ t.knani = s.knani ∧ t.axes = s.axes ∧ t.meter = s.meter ∧ t.fleet = s.fleet ∧ t.cor = s.cor ∧ t.stop = s.stop ∧ t.sec = s.sec ∧ t.update = s.update ∧ t.power = s.power := by
  have hw := not_reachesFurther hc
  exact ⟨Part.kept .freeCtr hc hw h, Part.kept .votes hc hw h, Part.kept .otp hc hw h, Part.kept .gnss hc hw h, Part.kept .pose hc hw h, Part.kept .knani hc hw h, Part.kept .axes hc hw h, Part.kept .meter hc hw h, Part.kept .fleet hc hw h, Part.kept .cor hc hw h, Part.kept .stop hc hw h, Part.kept .sec hc hw h, Part.kept .update hc hw h, Part.kept .power hc hw h⟩

theorem chapter7_frame {i : Instr} {s t : State} (hc : chapterOf i = 7) (h : exec i s = .next t) :
    t.freeCtr = s.freeCtr ∧ t.votes = s.votes ∧ t.otp = s.otp ∧ t.pose = s.pose ∧ t.raster = s.raster ∧ t.axes = s.axes ∧ t.meter = s.meter ∧ t.fleet = s.fleet ∧ t.cor = s.cor ∧ t.stop = s.stop ∧ t.net = s.net ∧ t.sec = s.sec ∧ t.update = s.update := by
  have hw := not_reachesFurther hc
  exact ⟨Part.kept .freeCtr hc hw h, Part.kept .votes hc hw h, Part.kept .otp hc hw h, Part.kept .pose hc hw h, Part.kept .raster hc hw h, Part.kept .axes hc hw h, Part.kept .meter hc hw h, Part.kept .fleet hc hw h, Part.kept .cor hc hw h, Part.kept .stop hc hw h, Part.kept .net hc hw h, Part.kept .sec hc hw h, Part.kept .update hc hw h⟩

theorem chapter8_frame {i : Instr} {s t : State} (hc : chapterOf i = 8) (h : exec i s = .next t) :
    t.freeCtr = s.freeCtr ∧ t.votes = s.votes ∧ t.otp = s.otp ∧ t.time = s.time ∧ t.gnss = s.gnss ∧ t.pose = s.pose ∧ t.cell = s.cell ∧ t.raster = s.raster ∧ t.axes = s.axes ∧ t.meter = s.meter ∧ t.fleet = s.fleet ∧ t.cor = s.cor ∧ t.stop = s.stop ∧ t.net = s.net ∧ t.sec = s.sec ∧ t.update = s.update := by
  have hw := not_reachesFurther hc
  exact ⟨Part.kept .freeCtr hc hw h, Part.kept .votes hc hw h, Part.kept .otp hc hw h, Part.kept .time hc hw h, Part.kept .gnss hc hw h, Part.kept .pose hc hw h, Part.kept .cell hc hw h, Part.kept .raster hc hw h, Part.kept .axes hc hw h, Part.kept .meter hc hw h, Part.kept .fleet hc hw h, Part.kept .cor hc hw h, Part.kept .stop hc hw h, Part.kept .net hc hw h, Part.kept .sec hc hw h, Part.kept .update hc hw h⟩

theorem chapter9_frame {i : Instr} {s t : State} (hc : chapterOf i = 9) (h : exec i s = .next t) :
    t.freeCtr = s.freeCtr ∧ t.votes = s.votes ∧ t.otp = s.otp ∧ t.gnss = s.gnss ∧ t.pose = s.pose ∧ t.cell = s.cell ∧ t.raster = s.raster ∧ t.knani = s.knani ∧ t.meter = s.meter ∧ t.fleet = s.fleet ∧ t.cor = s.cor ∧ t.stop = s.stop ∧ t.net = s.net ∧ t.sec = s.sec ∧ t.update = s.update ∧ t.power = s.power := by
  have hw := not_reachesFurther hc
  exact ⟨Part.kept .freeCtr hc hw h, Part.kept .votes hc hw h, Part.kept .otp hc hw h, Part.kept .gnss hc hw h, Part.kept .pose hc hw h, Part.kept .cell hc hw h, Part.kept .raster hc hw h, Part.kept .knani hc hw h, Part.kept .meter hc hw h, Part.kept .fleet hc hw h, Part.kept .cor hc hw h, Part.kept .stop hc hw h, Part.kept .net hc hw h, Part.kept .sec hc hw h, Part.kept .update hc hw h, Part.kept .power hc hw h⟩

theorem chapter10_frame {i : Instr} {s t : State} (hc : chapterOf i = 10) (h : exec i s = .next t) :
    t.votes = s.votes ∧ t.otp = s.otp ∧ t.gnss = s.gnss ∧ t.pose = s.pose ∧ t.cell = s.cell ∧ t.raster = s.raster ∧ t.knani = s.knani ∧ t.axes = s.axes ∧ t.fleet = s.fleet ∧ t.cor = s.cor ∧ t.stop = s.stop ∧ t.net = s.net ∧ t.update = s.update ∧ t.power = s.power := by
  have hw := not_reachesFurther hc
  exact ⟨Part.kept .votes hc hw h, Part.kept .otp hc hw h, Part.kept .gnss hc hw h, Part.kept .pose hc hw h, Part.kept .cell hc hw h, Part.kept .raster hc hw h, Part.kept .knani hc hw h, Part.kept .axes hc hw h, Part.kept .fleet hc hw h, Part.kept .cor hc hw h, Part.kept .stop hc hw h, Part.kept .net hc hw h, Part.kept .update hc hw h, Part.kept .power hc hw h⟩

theorem chapter11_frame {i : Instr} {s t : State} (hc : chapterOf i = 11) (hb : ∀ f, i ≠ .beacon f) (h : exec i s = .next t) :
    t.votes = s.votes ∧ t.otp = s.otp ∧ t.gnss = s.gnss ∧ t.cell = s.cell ∧ t.raster = s.raster ∧ t.knani = s.knani ∧ t.meter = s.meter ∧ t.sec = s.sec ∧ t.update = s.update ∧ t.power = s.power := by
  have hw : reachesFurther i = false := by
    refine Decidable.byContradiction fun hw => ?_
    obtain ⟨f, rfl⟩ | rfl | ⟨x, rfl⟩ | rfl | ⟨k, g, rfl⟩ | ⟨c, rfl⟩ | ⟨c, rfl⟩ | ⟨c, rfl⟩ := reachesFurther_cases (eq_true_of_ne_false hw)
    · exact hb f rfl
    · exact Nat.ne_of_beq_eq_false rfl hc
    · exact Nat.ne_of_beq_eq_false rfl hc
    · exact Nat.ne_of_beq_eq_false rfl hc
    · exact Nat.ne_of_beq_eq_false rfl hc
    · exact Nat.ne_of_beq_eq_false rfl hc
    · exact Nat.ne_of_beq_eq_false rfl hc
    · exact Nat.ne_of_beq_eq_false rfl hc
  exact ⟨Part.kept .votes hc hw h, Part.kept .otp hc hw h, Part.kept .gnss hc hw h, Part.kept .cell hc hw h, Part.kept .raster hc hw h, Part.kept .knani hc hw h, Part.kept .meter hc hw h, Part.kept .sec hc hw h, Part.kept .update hc hw h, Part.kept .power hc hw h⟩

theorem chapter12_frame {i : Instr} {s t : State} (hc : chapterOf i = 12) (h : exec i s = .next t) :
    t.freeCtr = s.freeCtr ∧ t.otp = s.otp ∧ t.gnss = s.gnss ∧ t.pose = s.pose ∧ t.cell = s.cell ∧ t.raster = s.raster ∧ t.knani = s.knani ∧ t.meter = s.meter ∧ t.sec = s.sec ∧ t.update = s.update ∧ t.power = s.power := by
  have hw := not_reachesFurther hc
  exact ⟨Part.kept .freeCtr hc hw h, Part.kept .otp hc hw h, Part.kept .gnss hc hw h, Part.kept .pose hc hw h, Part.kept .cell hc hw h, Part.kept .raster hc hw h, Part.kept .knani hc hw h, Part.kept .meter hc hw h, Part.kept .sec hc hw h, Part.kept .update hc hw h, Part.kept .power hc hw h⟩

theorem chapter13_frame {i : Instr} {s t : State} (hc : chapterOf i = 13) (h : exec i s = .next t) :
    t.votes = s.votes ∧ t.otp = s.otp ∧ t.gnss = s.gnss ∧ t.knani = s.knani ∧ t.axes = s.axes ∧ t.meter = s.meter ∧ t.fleet = s.fleet ∧ t.cor = s.cor ∧ t.stop = s.stop ∧ t.sec = s.sec ∧ t.update = s.update ∧ t.power = s.power := by
  have hw := not_reachesFurther hc
  exact ⟨Part.kept .votes hc hw h, Part.kept .otp hc hw h, Part.kept .gnss hc hw h, Part.kept .knani hc hw h, Part.kept .axes hc hw h, Part.kept .meter hc hw h, Part.kept .fleet hc hw h, Part.kept .cor hc hw h, Part.kept .stop hc hw h, Part.kept .sec hc hw h, Part.kept .update hc hw h, Part.kept .power hc hw h⟩

theorem chapter15_frame {i : Instr} {s t : State} (hc : chapterOf i = 15)
    (ha : ∀ x, i ≠ .tamperAlarm x) (he : i ≠ .tamperSafeEntry) (hd : ∀ k g, i ≠ .debugRequest k g) (hl : ∀ c, i ≠ .secLifecycle c) (hu : ∀ c, i ≠ .secUnlock c) (hk : ∀ c, i ≠ .secUnlockAck c) (h : exec i s = .next t) :
    t.votes = s.votes ∧ t.gnss = s.gnss ∧ t.pose = s.pose ∧ t.cell = s.cell ∧ t.raster = s.raster ∧ t.knani = s.knani ∧ t.axes = s.axes ∧ t.meter = s.meter ∧ t.fleet = s.fleet ∧ t.cor = s.cor ∧ t.stop = s.stop ∧ t.net = s.net ∧ t.update = s.update := by
  have hw : reachesFurther i = false := by
    refine Decidable.byContradiction fun hw => ?_
    obtain ⟨f, rfl⟩ | rfl | ⟨x, rfl⟩ | rfl | ⟨k, g, rfl⟩ | ⟨c, rfl⟩ | ⟨c, rfl⟩ | ⟨c, rfl⟩ := reachesFurther_cases (eq_true_of_ne_false hw)
    · exact Nat.ne_of_beq_eq_false rfl hc
    · exact Nat.ne_of_beq_eq_false rfl hc
    · exact ha x rfl
    · exact he rfl
    · exact hd k g rfl
    · exact hl c rfl
    · exact hu c rfl
    · exact hk c rfl
  exact ⟨Part.kept .votes hc hw h, Part.kept .gnss hc hw h, Part.kept .pose hc hw h, Part.kept .cell hc hw h, Part.kept .raster hc hw h, Part.kept .knani hc hw h, Part.kept .axes hc hw h, Part.kept .meter hc hw h, Part.kept .fleet hc hw h, Part.kept .cor hc hw h, Part.kept .stop hc hw h, Part.kept .net hc hw h, Part.kept .update hc hw h⟩

theorem chapter16_frame {i : Instr} {s t : State} (hc : chapterOf i = 16) (hr : i ≠ .updateRestart) (h : exec i s = .next t) :
    t.freeCtr = s.freeCtr ∧ t.votes = s.votes ∧ t.gnss = s.gnss ∧ t.pose = s.pose ∧ t.cell = s.cell ∧ t.raster = s.raster ∧ t.knani = s.knani ∧ t.axes = s.axes ∧ t.meter = s.meter ∧ t.fleet = s.fleet ∧ t.cor = s.cor ∧ t.stop = s.stop ∧ t.net = s.net ∧ t.sec = s.sec := by
  have hw : reachesFurther i = false := by
    refine Decidable.byContradiction fun hw => ?_
    obtain ⟨f, rfl⟩ | rfl | ⟨x, rfl⟩ | rfl | ⟨k, g, rfl⟩ | ⟨c, rfl⟩ | ⟨c, rfl⟩ | ⟨c, rfl⟩ := reachesFurther_cases (eq_true_of_ne_false hw)
    · exact Nat.ne_of_beq_eq_false rfl hc
    · exact hr rfl
    · exact Nat.ne_of_beq_eq_false rfl hc
    · exact Nat.ne_of_beq_eq_false rfl hc
    · exact Nat.ne_of_beq_eq_false rfl hc
    · exact Nat.ne_of_beq_eq_false rfl hc
    · exact Nat.ne_of_beq_eq_false rfl hc
    · exact Nat.ne_of_beq_eq_false rfl hc
  exact ⟨Part.kept .freeCtr hc hw h, Part.kept .votes hc hw h, Part.kept .gnss hc hw h, Part.kept .pose hc hw h, Part.kept .cell hc hw h, Part.kept .raster hc hw h, Part.kept .knani hc hw h, Part.kept .axes hc hw h, Part.kept .meter hc hw h, Part.kept .fleet hc hw h, Part.kept .cor hc hw h, Part.kept .stop hc hw h, Part.kept .net hc hw h, Part.kept .sec hc hw h⟩

/-- Settles O60, chapter by chapter. -/
theorem rowFrames : Obligations.RowFrames := by
  unfold Obligations.RowFrames
  refine ⟨⟨?_, ?_, ?_, ?_⟩, ⟨?_, ?_, ?_, ?_⟩, ?_, ?_, ?_, ?_, ?_⟩
  · exact fun _ _ _ hc h => chapter3_frame hc h
  · exact fun _ _ _ hc h => chapter4_frame hc h
  · exact fun _ _ _ hc h => chapter5_frame hc h
  · exact fun _ _ _ hc h => chapter6_frame hc h
  · exact fun _ _ _ hc h => chapter7_frame hc h
  · exact fun _ _ _ hc h => chapter8_frame hc h
  · exact fun _ _ _ hc h => chapter9_frame hc h
  · exact fun _ _ _ hc h => chapter10_frame hc h
  · exact fun _ _ _ hc hb h => chapter11_frame hc hb h
  · exact fun _ _ _ hc h => chapter12_frame hc h
  · exact fun _ _ _ hc h => chapter13_frame hc h
  · exact fun _ _ _ hc ha he hd hl hu hk h => chapter15_frame hc ha he hd hl hu hk h
  · exact fun _ _ _ hc hr h => chapter16_frame hc hr h

end Sys2Proof.Proofs

namespace Sys2Proof.Proofs
open Sys2Proof Sys2Proof.Machine Sys2Proof.Safety

/-! ## The window of received sequence numbers
`winStep` by the sign of the difference (11 R423), and the bits of its map as bits of a number.
-/

/-- A clear bit set by adding its weight leaves the other bits. -/
theorem testBit_add_two_pow_of_ne {v i j : Nat} (hv : v.testBit i = false) (hj : j ≠ i) : (v + 2 ^ i).testBit j = v.testBit j := by
  rcases Nat.lt_or_gt_of_ne hj with hlt | hgt
  · rw [Nat.add_comm, Nat.testBit_two_pow_add_gt hlt]
  · have hmod : v / 2 ^ i % 2 = 0 := by
      simpa [Nat.testBit_eq_decide_div_mod_eq] using hv
    have hdiv : (v + 2 ^ i) / 2 ^ (i + 1) = v / 2 ^ (i + 1) := by
      rw [Nat.pow_succ, ← Nat.div_div_eq_div_mul, ← Nat.div_div_eq_div_mul, Nat.add_div_right _ (Nat.two_pow_pos i)]
      omega
    obtain ⟨d, rfl⟩ := Nat.exists_eq_add_of_lt hgt
    have h : ∀ w : Nat, w.testBit (i + d + 1) = (w / 2 ^ (i + 1)).testBit d := fun w => by
      rw [Nat.testBit_div_two_pow, Nat.add_right_comm, Nat.add_comm d]
    rw [h, h, hdiv]

theorem diffN_self (bits a : Nat) : diffN bits a a = 0 := by
  simp [diffN, signed]

theorem winStep_of_newer {seq : Nat} {w : Win} (h : 0 < diffN 16 seq w.top) :
    winStep seq w = (true, { w with top := seq, map :=
      if 32 ≤ (diffN 16 seq w.top).toNat then (if (diffN 16 seq w.top).toNat == 32 then 2 ^ 31 else 0)
      else (w.map * 2 ^ (diffN 16 seq w.top).toNat + 2 ^ ((diffN 16 seq w.top).toNat - 1)) % 2 ^ 32 }) := if_pos h

theorem winStep_top (w : Win) : winStep w.top w = (false, w) := by
  simp [winStep, diffN_self]

/-- A number `k` behind the highest: delivered where its bit of the map is clear. -/
theorem winStep_of_behind {seq k : Nat} {w : Win} (hk : 1 ≤ k) (hd : diffN 16 seq w.top = -(k : Int)) :
    winStep seq w = if 32 < k ∨ bit w.map (k - 1) = true then (false, w) else (true, { w with map := w.map + 2 ^ (k - 1) }) := by
  have hneg : ¬ (0 : Int) < -(k : Int) := by omega
  have hne : (-(k : Int) == 0) = false := by simp; omega
  simp only [winStep, hd, hneg, if_false, hne, Bool.false_eq_true, Int.neg_neg, Int.toNat_natCast]
  by_cases h32 : 32 < k <;> simp [h32]

theorem winStep_of_behind_of_clear {seq k : Nat} {w : Win} (hk : 1 ≤ k) (h32 : k ≤ 32) (hd : diffN 16 seq w.top = -(k : Int)) (hb : bit w.map (k - 1) = false) :
    winStep seq w = (true, { w with map := w.map + 2 ^ (k - 1) }) := by
  rw [winStep_of_behind hk hd, if_neg (by simp [hb]; omega)]

theorem bit_add_two_pow_same {v i : Nat} (hv : bit v i = false) : bit (v + 2 ^ i) i = true := by
  rw [bit_eq_testBit] at hv ⊢
  rw [Nat.add_comm, Nat.testBit_two_pow_add_eq, hv]
  rfl

/-- The map after a number `k` ahead: the bit of the number that was the highest is set, and every other moves up. -/
theorem bit_map_shift {v k j : Nat} (hk : 1 ≤ k) (hj : j < 32) :
    bit ((v * 2 ^ k + 2 ^ (k - 1)) % 2 ^ 32) j = (if j < k - 1 then false else if j = k - 1 then true else bit v (j - k)) := by
  simp only [bit_eq_testBit, Nat.testBit_mod_two_pow, hj, decide_true, Bool.true_and]
  rw [Nat.mul_comm, Nat.testBit_two_pow_mul_add _ (Nat.pow_lt_pow_right Nat.one_lt_two (by omega)), Nat.testBit_two_pow]
  by_cases hlt : j < k
  · by_cases he : j = k - 1
    · simp [he, show k - 1 < k by omega]
    · simp [hlt, show j < k - 1 by omega, show k - 1 ≠ j by omega]
  · simp [hlt, show ¬ j < k - 1 by omega, show j ≠ k - 1 by omega]

/-- Settles O10, by the sign of the difference. -/
theorem windowCases : Obligations.WindowCases := by
  unfold Obligations.WindowCases
  refine ⟨fun seq w h => ?_, fun w => ?_, fun seq k w hk h32 hd hb => ?_, fun seq k w hk h32 hmap hd hb => ?_, fun seq w hd => ?_, fun seq k j w hk h31 hmap hd hj => ?_⟩
  · rw [winStep_of_newer h]
    exact ⟨rfl, rfl⟩
  · rw [winStep_top]
    exact ⟨rfl, rfl⟩
  · rw [winStep_of_behind hk hd, if_pos (.inr hb)]
  · rw [winStep_of_behind_of_clear hk h32 hd hb]
    refine ⟨rfl, rfl, bit_add_two_pow_same hb, fun j hj => ?_, ?_⟩
    · rw [bit_eq_testBit] at hb
      simp only [bit_eq_testBit]
      exact testBit_add_two_pow_of_ne hb hj
    · have hd' : diffN 16 seq ({ w with map := w.map + 2 ^ (k - 1) } : Win).top = -(k : Int) := hd
      rw [winStep_of_behind hk hd', if_pos (.inr (bit_add_two_pow_same hb))]
  · obtain ⟨k, hk⟩ : ∃ k : Nat, diffN 16 seq w.top = -(k : Int) := ⟨(-diffN 16 seq w.top).toNat, by omega⟩
    rw [winStep_of_behind (by omega) hk, if_pos (.inl (by omega))]
  · have hnat : (diffN 16 seq w.top).toNat = k := by rw [hd]; rfl
    rw [winStep_of_newer (by omega), hnat]
    simp only [show ¬ 32 ≤ k by omega, if_false]
    exact bit_map_shift hk hj

/-! ## A step, and the state after reset -/

/-- Settles O1: on an empty queue the step idles, and idling advances the timebase island where it runs. -/
theorem stepRunsFrontCommand : Obligations.StepRunsFrontCommand := by
  unfold Obligations.StepRunsFrontCommand
  have hempty : ∀ s : State, s.pending = [] → step s = .next (idle s) := fun s h => by rw [step, h]
  refine ⟨fun _ _ _ => rfl, fun s hq hst => ?_, fun s hq hst => ?_⟩
  · have hi : islandRuns s = false := by
      rcases hst with h | h <;> rw [islandRuns, h]
    rw [hempty s hq, idle, hi]
    rfl
  · have hi : islandRuns s = true := by
      rcases hst with h | h | h <;> rw [islandRuns, h]
    refine ⟨advance 1 s, ?_, ?_⟩
    · rw [hempty s hq, idle, hi]
      rfl
    · simp [hq]

theorem reset_mbxs : ∀ b ∈ State.reset.harbour.mbxs, b.cfg = 6 ∧ b.baseLo = 0 ∧ b.baseHi = 0 ∧ b.held = [] ∧ b.released = 0 ∧ b.ack = 0 := by
  decide

/-- Settles O2: the state is a fixed value. -/
theorem resetState : Obligations.ResetState := by
  unfold Obligations.ResetState
  exact ⟨rfl, rfl, rfl, by decide, rfl, rfl, rfl, rfl, rfl, rfl, rfl, reset_mbxs, rfl, rfl, rfl, rfl, rfl, rfl, rfl, rfl, rfl, rfl, rfl, rfl, by decide⟩

end Sys2Proof.Proofs

namespace Sys2Proof.Proofs
open Sys2Proof Sys2Proof.Machine Sys2Proof.Safety

/-! ## The order of the checks
The first check of 14 R653 that fails, for each of the three that come before the late ones; after them `checkCmd` is `lateChecks`.
-/

theorem checkCmd_eq_badLength {k : CmdSpec} {s : State} (hl : lengthFails k s) : checkCmd k.opcode k.least k.most k.role k.cmd s = some stBadLength := by
  unfold lengthFails at hl
  unfold checkCmd
  cases hheld : (heldIx s k.cmd.mbx k.cmd.slot).bind (fun ix => (mbxOf s k.cmd.mbx).held[ix]?) <;>
    · rw [hheld] at hl
      refine if_pos ?_
      simp only [Bool.or_eq_true, decide_eq_true_eq]
      rcases hl with hlen | hleast | hmost | hslots
      · exact .inl (.inl (.inl hlen))
      · exact .inl (.inl (.inr hleast))
      · exact .inr hmost
      · exact .inl (.inr hslots)

section
variable {k : CmdSpec} {s : State} (hl : ¬ lengthFails k s)
include hl

/-- With the lengths right, the checks go on with the reserved bits and the world. -/
theorem checkCmd_of_lengths :
    checkCmd k.opcode k.least k.most k.role k.cmd s =
      if decide (8 ≤ k.cmd.flags.toNat) || k.cmd.byte7 != 0 then some stBadParam
      else if (needsWorldS k.opcode && !worldS s k.cmd.mbx) || (needsWorldN k.opcode && worldS s k.cmd.mbx) then some stNotPermitted
      else lateChecks k.opcode k.role k.cmd s := by
  unfold lengthFails at hl
  unfold checkCmd lateChecks
  cases hheld : (heldIx s k.cmd.mbx k.cmd.slot).bind (fun ix => (mbxOf s k.cmd.mbx).held[ix]?) <;>
    · rw [hheld] at hl
      refine (if_neg ?_).trans ?_
      · simp only [Bool.or_eq_true, decide_eq_true_eq]
        rintro (((hlen | hleast) | hslots) | hmost)
        · exact hl (.inl hlen)
        · exact hl (.inr (.inl hleast))
        · exact hl (.inr (.inr (.inr hslots)))
        · exact hl (.inr (.inr (.inl hmost)))
      · cases k.role <;> rfl

theorem checkCmd_eq_badParam (hr : reservedFails k) : checkCmd k.opcode k.least k.most k.role k.cmd s = some stBadParam := by
  rw [checkCmd_of_lengths hl, if_pos]
  simpa [reservedFails] using hr

theorem checkCmd_eq_notPermitted (hr : ¬ reservedFails k) (hw : worldFails k s) : checkCmd k.opcode k.least k.most k.role k.cmd s = some stNotPermitted := by
  rw [checkCmd_of_lengths hl, if_neg (by simpa [reservedFails] using hr), if_pos]
  simpa [worldFails] using hw

end

/-- Settles O11: the first check that fails answers for the command. -/
theorem commandChecksInOrder : Obligations.CommandChecksInOrder := by
  unfold Obligations.CommandChecksInOrder
  intro i k s hk hready hfence hrestart hslack
  have hans : ∀ {st}, checkCmd k.opcode k.least k.most k.role k.cmd s = some st → answers i k.cmd k.opcode st [] s s :=
    answers_of_checkCmd hk hready hfence hrestart hslack
  refine ⟨fun hl => ?_, fun hl hr => ?_, fun hl hr hw => ?_, fun hl hr hw ht hs => ?_, fun hl hr hw ht hf hs => ?_, fun r hl hr hw ht hf hrole hne => ?_,
    fun hl hr hw ht hf hrole hres => ?_⟩ <;> apply hans
  · exact checkCmd_eq_badLength hl
  · exact checkCmd_eq_badParam hl hr
  · exact checkCmd_eq_notPermitted hl hr hw
  · exact checkCmd_eq_tamperLocked hl hr hw ht hs
  · rw [checkCmd_eq_lateChecks hl hr hw]
    simp [lateChecks, ht, hf, hs]
  · rw [checkCmd_eq_lateChecks hl hr hw]
    simp [lateChecks, ht, hf, hrole, hne]
  · have hany : k.role.any (fun r => roleOf s != r) = false := by
      cases hk : k.role with
      | none => rfl
      | some r => simp [hrole r hk]
    have hset : reservedSet k.opcode (prmOf k.cmd) = true := by
      obtain ⟨e, he, hz⟩ := hres
      simpa [reservedSet] using ⟨e.1, e.2, he, hz⟩
    rw [checkCmd_eq_lateChecks hl hr hw]
    simp [lateChecks, ht, hf, hany, hset]

end Sys2Proof.Proofs

namespace Sys2Proof.Proofs
open Sys2Proof Sys2Proof.Machine Sys2Proof.Safety

/-! ## Rows that settle -/

/-- A row whose outcome is settled reaches every property of the settled state. -/
theorem reaches_done {i : Instr} {s u : State} {P : State → Prop} (hx : exec i s = done u) (hP : P (settle u)) : reaches i s P := ⟨settle u, hx, hP⟩

/-! ## Sources of time -/

/-- A firmware capture writes the capture queues alone. -/
theorem captureOn_time (k : Nat) (falling : Bool) (dt : Nat) (s : State) : ∃ q, (captureOn k falling dt s).time = { s.time with caps := q } := by
  unfold captureOn
  split
  · exact ⟨_, rfl⟩
  · split
    · exact ⟨_, rfl⟩
    · exact ⟨_, raise_time _ _⟩

theorem firmwareCapture_time (k : Nat) (falling : Bool) (dt : Nat) (s : State) : ∃ q, (firmwareCapture k falling dt s).time = { s.time with caps := q } := by
  obtain ⟨q, h⟩ := captureOn_time k falling dt s
  exact ⟨_, congrArg (fun t : TimeSt => { t with caps := lmod t.caps k (fun q => { q with queue := [] }) }) h⟩

theorem dtNow_firmwareCapture (k : Nat) (falling : Bool) (dt : Nat) (s : State) : dtNow (firmwareCapture k falling dt s) = dtNow s := by
  obtain ⟨q, h⟩ := firmwareCapture_time k falling dt s
  rw [dtNow, h, dtNow]

/-- The first edge that a pin captures starts its interval; no domain of that source is measured. -/
theorem doPpsInCapture_of_first {pin frac : Nat} {falling : Bool} {s : State} {p : PpsIn} (hp : s.time.ppsIn[pin]? = some p) (he : p.edge = b1 falling)
    (hl : p.lastAcc = none) (hd : domFrom s (2 + pin) = none) :
    (doPpsInCapture pin falling frac s).time = { (firmwareCapture pin falling (capTime frac s) s).time with
      ppsIn := s.time.ppsIn.modify pin (fun q => { q with
        lastAcc := some (((1024 * (dtNow s / 1024 + frac % 128) : Nat) : Int) - 1024 * p.delay).toNat, lastCyc := s.time.cyc, missing := false }) } := by
  have hedge : (b1 falling == b1 (!falling)) = false := by cases falling <;> rfl
  obtain ⟨q, hq⟩ := firmwareCapture_time pin falling (capTime frac s) s
  have hd' : ∀ w, domFrom { firmwareCapture pin falling (capTime frac s) s with time := { s.time with caps := q, ppsIn := w } } (2 + pin) = none := fun w => hd
  have hd0 : domFrom (firmwareCapture pin falling (capTime frac s) s) (2 + pin) = none := by
    rw [domFrom, hq]
    exact hd
  have hcap : capTime frac (firmwareCapture pin falling (capTime frac s) s) = capTime frac s := by
    rw [capTime, dtNow_firmwareCapture, capTime]
  unfold doPpsInCapture
  simp only [hp, he, hedge, hd0, hl, hcap, hq, Option.isSome_none, Bool.false_and, Bool.false_eq_true, if_false, ppsMeasure, hd']
  rfl

theorem domOf_ppsQuiet (s : State) (k : Nat) : domOf (ppsQuiet s).time k = domOf s.time k := by
  obtain ⟨w, o, h⟩ := ppsQuiet_frame s
  rw [h]
  rfl

theorem domOf_enterFreerun_st (k cause : Nat) (s : State) : (domOf (enterFreerun k cause s).time k).st = .freerun := by
  unfold enterFreerun
  dsimp only
  split
  · next h =>
    split
    · simpa using h
    · simpa using h
  · simp [domOf_ppsQuiet]

theorem domOf_enterHoldover (k : Nat) (y : Int) (s : State) :
    (domOf (enterHoldover k y s).time k).st = .holdover ∧ (domOf (enterHoldover k y s).time k).y = y := by
  simp [enterHoldover]

/-- A domain that loses its source holds its learned drift, or runs free. -/
theorem domOf_loseSource (k cause : Nat) (s : State) :
    match learned s.time (domOf s.time k) with
    | none => (domOf (loseSource k cause s).time k).st = .freerun
    | some y => (domOf (loseSource k cause s).time k).st = .holdover ∧ (domOf (loseSource k cause s).time k).y = y := by
  unfold loseSource
  cases h : learned s.time (domOf s.time k) with
  | none => exact domOf_enterFreerun_st k cause s
  | some y => exact domOf_enterHoldover k y s

theorem follow_time_cyc (b : Bool) (s : State) : (follow b s).time.cyc = s.time.cyc := by
  obtain ⟨p, w, o, r, j, q, h⟩ := follow_frame b s
  rw [h]

theorem runToCyc_cyc (c : Nat) (s : State) : (runToCyc c s).time.cyc = max s.time.cyc c := by
  simp
  omega

theorem le_runToCyc_cyc (c : Nat) (s : State) : c ≤ (runToCyc c s).time.cyc := by
  rw [runToCyc_cyc]
  exact Nat.le_max_right _ _

/-- Settles O18. -/
theorem timeSourceEvents : Obligations.TimeSourceEvents := by
  unfold Obligations.TimeSourceEvents
  refine ⟨fun us s h => ?_, fun pin falling frac s p hp he hl hd => ?_, fun dom s hdom hst => ?_, fun s c hc hauto hb hst => ?_, fun s => ?_, fun s h => ?_, fun pin s p hp hm => ?_⟩
  · show done (doRefRestored us s) = _
    simp only [doRefRestored, h, Bool.not_true, Bool.false_eq_true, if_false, done]
  · refine reaches_done rfl ?_
    rw [settle_time]
    exact doPpsInCapture_of_first hp he hl hd
  · refine reaches_done rfl ?_
    have hrun : doSourceTimeout dom s = loseSource dom 0 (runToCyc ((domOf s.time dom).lastCyc + cycMs (domOf s.time dom).timeoutMs) s) := by
      refine if_neg ?_
      rcases hst with h | h <;> simp [h, hdom]
    rw [settle_time, hrun]
    exact domOf_loseSource dom 0 _
  · refine reaches_done rfl ?_
    have hrun : doDomainALockHold s = follow false (runToCyc (c + cycMs 10000) s) := by
      simp [doDomainALockHold, hc, hauto, hb, hst]
    rw [settle_time, hrun, follow_time_followB, follow_time_cyc]
    exact ⟨rfl, le_runToCyc_cyc _ _⟩
  · refine reaches_done rfl ?_
    rw [settle_time, tqTest, raiseIf_time]
  · show done (doRtcWrite s) = _
    simp only [doRtcWrite, h, Bool.false_eq_true, if_false, done]
  · refine reaches_done rfl ?_
    rw [settle_time]
    simp [doPpsInMissing, hp, hm, lmod]

end Sys2Proof.Proofs

namespace Sys2Proof.Proofs
open Sys2Proof Sys2Proof.Machine Sys2Proof.Safety

/-! ## Pulses, captures, compares and delay lists -/

/-- The element modified, where it exists. -/
theorem getElem?_lmod_same {α : Type} {l : List α} {k : Nat} {x : α} {f : α → α} (h : l[k]? = some x) : (lmod l k f)[k]? = some (f x) := by
  simp [lmod, h]

@[simp] theorem ppsDrive_time (pin : Nat) (active : Bool) (rel : Nat) (s : State) : (ppsDrive pin active rel s).time = s.time := by
  unfold ppsDrive
  split <;> rfl

theorem captureOn_caps_of_ne {j k : Nat} (h : j ≠ k) (falling : Bool) (dt : Nat) (s : State) : (captureOn j falling dt s).time.caps[k]? = s.time.caps[k]? := by
  unfold captureOn
  split
  · rfl
  · split <;> simp [lmod, h]

theorem captureOn_caps_same {k : Nat} {s : State} {q : CapUnit} (hq : s.time.caps[k]? = some q) (hn : q.queue.length < 16) (falling : Bool) (dt : Nat) :
    (captureOn k falling dt s).time.caps[k]? =
      some { q with queue := q.queue ++ [{ dt := dt, edge := b1 falling, seq := q.seq }], seq := (q.seq + 1) % 65536 } := by
  simp only [captureOn, hq, hn, if_true]
  exact getElem?_lmod_same hq

theorem foldl_captureOn_caps_of_not_mem {k : Nat} {l : List Nat} (h : k ∉ l) (falling : Bool) (dt : Nat) (s : State) :
    (l.foldl (fun st j => captureOn j falling dt st) s).time.caps[k]? = s.time.caps[k]? := by
  induction l generalizing s with
  | nil => rfl
  | cons j l ih =>
    rw [List.mem_cons, not_or] at h
    exact (ih h.2 _).trans (captureOn_caps_of_ne (Ne.symm h.1) falling dt s)

/-- Of the units that an edge reaches, each one captures it once. -/
theorem foldl_captureOn_caps {k : Nat} {l : List Nat} {s : State} {q : CapUnit} (hk : k ∈ l) (hl : l.Nodup) (hq : s.time.caps[k]? = some q) (hn : q.queue.length < 16)
    (falling : Bool) (dt : Nat) : (l.foldl (fun st j => captureOn j falling dt st) s).time.caps[k]? =
      some { q with queue := q.queue ++ [{ dt := dt, edge := b1 falling, seq := q.seq }], seq := (q.seq + 1) % 65536 } := by
  induction l generalizing s with
  | nil => cases hk
  | cons j l ih =>
    obtain ⟨hj, hl⟩ := List.nodup_cons.mp hl
    by_cases he : j = k
    · subst he
      exact (foldl_captureOn_caps_of_not_mem hj falling dt _).trans (captureOn_caps_same hq hn falling dt)
    · exact ih ((List.mem_cons.mp hk).resolve_left (Ne.symm he)) hl ((captureOn_caps_of_ne he falling dt s).trans hq)

theorem nextInstant_armed_of_single {c : CmpUnit} (h : c.periodNs = 0) : (nextInstant c).armed = false := by
  unfold nextInstant
  split <;> simp [h]

/-- Half a second lies within the reach of Short Time. -/
theorem half_second_le : 500 * ms1 ≤ 2 ^ 14 * (2 ^ 31 - 1) := by decide

theorem alarmInsert_dtNow (tgt token : Nat) (s : State) : dtNow (alarmInsert tgt token s) = dtNow s := by
  unfold alarmInsert
  rcases dlPut_cases (if (s.time.dls.getD 6 []).length < 1024 then 6 else 7) tgt 0 token s with h | h <;> rw [h]
  rfl

/-- Settles O19. -/
theorem pulseCaptureCompareEvents : Obligations.PulseCaptureCompareEvents := by
  unfold Obligations.PulseCaptureCompareEvents
  refine ⟨fun pin s p hp ha hq => ?_, fun pin s p sec w hp ha hq => ?_, fun pin s p e hp he => ?_, fun input k falling frac s q h4 h16 hq hi he hn => ?_,
    fun cu s c hc ha hact hper hg hs => ?_, fun cu s c e hc he hg => ?_, fun list s e r hl h6 h7 => ?_, fun i tgt token s ha hl hsum hnear hlen => ?_,
    fun i s c hc ha hs => ?_⟩ <;> refine reaches_done rfl ?_ <;> simp only [settle_time]
  · simp [doPpsOutArm, hp, ha, hq, lmod]
  · simp [doPpsOutActiveEdge, hp, ha, hq, lmod]
  · simp [doPpsOutInactiveEdge, hp, he, lmod]
  · refine foldl_captureOn_caps ?_ (List.nodup_range.filter _) hq hn falling _
    rw [List.mem_filter, List.mem_range]
    refine ⟨h16, ?_⟩
    rcases he with he | he <;> simp [capTakes, hq, hi, he, h4]
  · have hquiet : (c.stopQuiet && stopInForce (runTo c.target s)) = false := by
      rcases hs with h | h <;> simp [h, stopInForce]
    obtain h0 | h1 : c.action = 0 ∨ c.action = 1 := by omega
    · simp [doCompareRelease, hc, ha, hquiet, h0, gpioDrive, emit, lmod, nextInstant_armed_of_single hper, hg]
    · simp [doCompareRelease, hc, ha, hquiet, h1, gpioDrive, emit, lmod, nextInstant_armed_of_single hper, hg]
  · simp [doComparePulseEnd, hc, he, gpioDrive, emit, lmod, hg]
  · have hlist : (list == 6 || list == 7) = true := by
      obtain rfl | rfl : list = 6 ∨ list = 7 := by omega
      all_goals rfl
    simp [doDelayListDelivery, hl, hlist, lmod]
  · have hrun : doFullTargetArm true i s =
        alarmInsert tgt token { runTo (tgt - 500 * ms1) s with time := { (runTo (tgt - 500 * ms1) s).time with alarms := s.time.alarms.eraseIdx i } } := by
      have hle : ¬ 2048 ≤ (s.time.dls[6]?.getD []).length + (s.time.dls[7]?.getD []).length := by simpa using hsum
      have hfar : ¬ dtNow (runTo (tgt - 500 * ms1) s) + 500 * ms1 < tgt := by omega
      simp [doFullTargetArm, ha, hle, hfar]
    have hreach := half_second_le
    have hroom : (s.time.dls.getD 6 []).length < 1024 ∨ (s.time.dls.getD 7 []).length < 1024 := by omega
    rw [hrun, alarmInsert_alarms]
    refine ⟨rfl, ?_⟩
    obtain ⟨l, hmem, he⟩ := alarmInsert_mem tgt token { runTo (tgt - 500 * ms1) s with time := { (runTo (tgt - 500 * ms1) s).time with alarms := s.time.alarms.eraseIdx i } }
      (by simp [hl]) (by simpa using hroom) (Nat.le_trans hnear (Nat.add_le_add_left hreach _))
    refine ⟨l, hmem, ?_⟩
    rw [dtNow, settle_time, ← dtNow, alarmInsert_dtNow]
    exact he
  · simp [doFullTargetArm, hc, ha, hs, lmod]

end Sys2Proof.Proofs

namespace Sys2Proof.Proofs
open Sys2Proof Sys2Proof.Machine Sys2Proof.Safety

/-! ## The TIME commands on the domains and on Device Time -/

theorem timeDomainConfig_of_same_source {s : State} {p : List Byte} {k src kp ki gate tmo align lock : Nat} (hk : uAt p 0 1 = k) (hk1 : k ≤ 1) (hsrc : uAt p 1 1 = src)
    (h7 : src ≤ 7) (hz2 : zeros p 2 2 = true) (hz34 : zeros p 34 2 = true) (hkp : kp = (if uAt p 4 4 = 0 then kpDefault src else uAt p 4 4)) (hkp' : kp ≤ 255 * 2 ^ 24)
    (hki : ki = (if uAt p 8 4 = 0 then kiDefault src else uAt p 8 4)) (hki' : ki ≤ 255 * 2 ^ 24) (hgate : orDefault (uAt p 12 4) 10 1000000 1000 = some gate)
    (htmo : orDefault (uAt p 16 4) 100 60000 (timeoutDefault src) = some tmo) (halign : orDefault (uAt p 28 4) 10 1000000 100 = some align)
    (hlock : orDefault (uAt p 32 2) 1 10000 50 = some lock) (hother : (domOf s.time (1 - k)).source ≠ src) (hhigh : ∀ log : Int, kpTooHigh src kp log = false)
    (hserves : sourceServes src s = true) (hidle : k = b1 s.time.followB → engineIdle s = true) (h0 : 0 < src) (hsame : (domOf s.time k).source = src) :
    timeDomainConfig p s = ok (setDom k { domOf s.time k with kp := kp, ki := ki, gateNs := gate, timeoutMs := tmo, delay := iAt p 20 4, floorNs := uAt p 24 4, alignNs := align, lockNs := lock } s) := by
  have hkp0 : (if uAt p 4 4 == 0 then kpDefault src else uAt p 4 4) = kp := by simpa using hkp.symm
  have hki0 : (if uAt p 8 4 == 0 then kiDefault src else uAt p 8 4) = ki := by simpa using hki.symm
  have hbusy : ((k == b1 s.time.followB) && !engineIdle s) = false := by
    by_cases h : k = b1 s.time.followB
    · simp [hidle h]
    · simp [h]
  have hne : (src == 0) = false := by simp; omega
  have hother' : ((domOf s.time (1 - k)).source == src) = false := by simpa using hother
  have hbad : ∀ log, (decide (1 < k) || decide (7 < src) || !zeros p 2 2 || !zeros p 34 2 || decide (255 * 2 ^ 24 < kp) || decide (255 * 2 ^ 24 < ki) ||
      (src != 0 && (domOf s.time (1 - k)).source == src) || kpTooHigh src kp log) = false := by
    intro log
    simp only [hz2, hz34, hother', hhigh, show ¬ 1 < k by omega, show ¬ 7 < src by omega, show ¬ 255 * 2 ^ 24 < kp by omega, show ¬ 255 * 2 ^ 24 < ki by omega]
    simp
  unfold timeDomainConfig
  simp only [hk, hsrc, hkp0, hki0, hgate, htmo, halign, hlock, hbad, hbusy, hserves, hne, Bool.not_true, Bool.false_eq_true, if_false]
  subst hsame
  simp only [beq_self_eq_true, if_true]

theorem sourceServes_of_member {src : Nat} {s : State} (h1 : src = 1 → isMember s = false) (h6 : src = 6 → isMember s = true) : sourceServes src s = true := by
  unfold sourceServes
  by_cases e1 : src = 1
  · simp [e1, h1 e1]
  · by_cases e6 : src = 6
    · simp [e6, h6 e6]
    · simp [e1, e6]

theorem timeMeasure_of_instant {s : State} {p : List Byte} {k dom : Nat} (hk : uAt p 0 1 = k) (hk1 : k ≤ 1) (hz : zeros p 1 3 = true) (hd4 : dtOk p 4 = true)
    (hd16 : dtOk p 16 = true) (hsrc : (domOf s.time k).source = 7) (hle : dtAt p 16 ≤ dtNow s) (hge : dtNow s ≤ dtAt p 16 + 2 * sec1)
    (hdom : domAtInstant s.time k (dtAt p 16) = some dom) :
    timeMeasure p s = ok (measure k ((dom : Int) - dtAt p 4 - 1024 * (domOf s.time k).delay) dom (some (domOf s.time k).floorNs) s) := by
  unfold timeMeasure
  simp [hk, hz, hd4, hd16, hsrc, hdom, show ¬ 1 < k by omega, show ¬ dtNow s < dtAt p 16 by omega, show ¬ dtAt p 16 + 2 * sec1 < dtNow s by omega]

/-- The domains and the loss of REF_IN stay. -/
structure DomainsKept (t u : TimeSt) : Prop where
  a : u.a = t.a
  b : u.b = t.b
  refLost : u.refLost = t.refLost

/-- A step of Device Time leaves the domains, and REF_IN as it is. -/
theorem stepOut_time (new : Nat) (s : State) : (stepOut new s).time.out = 2 ^ 23 * new ∧ DomainsKept s.time (stepOut new s).time := by
  have hd : ∀ u : State, (stepDiverged u).time = u.time := fun u => stepDiverged_touches.same .time (by decide)
  unfold stepOut
  simp only [hd, raises_time]
  split <;> exact ⟨rfl, rfl, rfl, rfl⟩

theorem ppsDomainStep_time (k old new : Nat) (s : State) : DomainsKept s.time (ppsDomainStep k old new s).time := by
  unfold ppsDomainStep
  rw [raises_time]
  exact ⟨rfl, rfl, rfl⟩

@[simp] theorem afterSet_acc (t : TimeSt) (v : Nat) (d : Domain) : (afterSet t v d).acc = 2 ^ 23 * v := by
  unfold afterSet
  split <;> rfl

theorem afterSet_st (t : TimeSt) (v : Nat) (d : Domain) : (afterSet t v d).st = if d.source == 0 || t.refLost then d.st else .acquire := by
  unfold afterSet
  split <;> rfl

theorem two_pow_mul_div_self (k n : Nat) : 2 ^ k * n / 2 ^ k = n := Nat.mul_div_cancel_left n (Nat.two_pow_pos k)

@[simp] theorem knaniPeriodAccepted_time (code : Nat) (s : State) : (knaniPeriodAccepted code s).time = s.time :=
  knaniPeriodAccepted_touches.same .time (by decide)

@[simp] theorem knaniPeriodAccepted_votes (code : Nat) (s : State) : (knaniPeriodAccepted code s).votes = s.votes :=
  knaniPeriodAccepted_touches.same .votes (by decide)

/-- TIME_SET sets Device Time and both domains to the time given; a domain with a source acquires it anew unless REF_IN is lost. -/
theorem timeSet_of_idle {p : List Byte} {s : State} (hd : dtOk p 0 = true) (hidle : engineIdle s = true) :
    timeSet p s = ok (timeSet p s).2 ∧
    dtNow (timeSet p s).2 = dtAt p 0 ∧ domNow (timeSet p s).2.time.a = dtAt p 0 ∧ domNow (timeSet p s).2.time.b = dtAt p 0 ∧ (timeSet p s).2.time.timeUnset = false ∧
    (s.time.refLost = false → (s.time.a.source ≠ 0 → (timeSet p s).2.time.a.st = .acquire) ∧ (s.time.b.source ≠ 0 → (timeSet p s).2.time.b.st = .acquire)) ∧
    (s.time.refLost = true → (timeSet p s).2.time.a.st = s.time.a.st ∧ (timeSet p s).2.time.b.st = s.time.b.st) := by
  obtain ⟨ha0, hb0, hr0⟩ := ppsDomainStep_time 0 (domNow s.time.a) (dtAt p 0) s
  obtain ⟨ha1, hb1, hr1⟩ := ppsDomainStep_time 1 (domNow s.time.b) (dtAt p 0) (ppsDomainStep 0 (domNow s.time.a) (dtAt p 0) s)
  obtain ⟨hout, ha2, hb2, hr2⟩ := stepOut_time (dtAt p 0) (ppsDomainStep 1 (domNow s.time.b) (dtAt p 0) (ppsDomainStep 0 (domNow s.time.a) (dtAt p 0) s))
  have hnow : ∀ u : State, u.time.out = 2 ^ 23 * dtAt p 0 → dtNow u = dtAt p 0 := fun u h => by rw [dtNow, h, two_pow_mul_div_self]
  unfold timeSet
  simp only [hd, hidle, Bool.not_true, Bool.false_eq_true, if_false, ok, tqTest, raiseIf_time, true_and]
  refine ⟨?_, ?_, ?_, ?_, ?_⟩
  · exact hnow _ (by rw [raiseIf_time]; exact hout)
  · rw [domNow, afterSet_acc, two_pow_mul_div_self]
  · rw [domNow, afterSet_acc, two_pow_mul_div_self]
  · intro h
    simp [afterSet_st, ha2, ha1, ha0, hb2, hb1, hb0, hr2, hr1, hr0, h]
    exact ⟨fun h1 h2 => absurd h2 h1, fun h1 h2 => absurd h2 h1⟩
  · intro h
    simp [afterSet_st, ha2, ha1, ha0, hb2, hb1, hb0, hr2, hr1, hr0, h]

/-- Settles O20. -/
theorem timeDomainCommands : Obligations.TimeDomainCommands := by
  unfold Obligations.TimeDomainCommands
  refine ⟨fun c s ha => answers_command rfl ha rfl,
    fun c s p k src kp ki gate tmo align lock ha hp hk hk1 hsrc h0 h7 hz2 hz34 hkp hkp' hki hki' hgate htmo halign hlock hother hhigh hmem1 hmem6 hidle hsame => ?_,
    fun c s ha h0 h1 => ?_, fun c s ha h0 h1 => ?_, fun c s p k dom ha hp hk hk1 hz hd4 hd16 hsrc hle hge hdom => ?_,
    fun c s ha hd hidle => ?_, fun c s ha h8 hj hc hm hidle hf => ?_, fun c s ha hz hle hj => ?_, fun c s p th sl lw tq ha hp hz hage hth hsl hlw htq => ?_⟩
  · subst hp
    exact answers_command rfl ha (timeDomainConfig_of_same_source hk hk1 hsrc h7 hz2 hz34 hkp hkp' hki hki' hgate htmo halign hlock hother hhigh
      (sourceServes_of_member hmem1 hmem6) hidle h0 hsame)
  · refine answers_command rfl ha ?_
    simp only [timeSelect, h0]
    rw [if_neg (by simp; omega)]
    rfl
  · refine answers_command rfl ha ?_
    simp only [timeSelect, h0]
    rw [if_neg (by simp; omega)]
    rfl
  · subst hp
    exact answers_command rfl ha (timeMeasure_of_instant hk hk1 hz hd4 hd16 hsrc hle hge hdom)
  · exact oks_command rfl ha (congrArg Prod.fst (timeSet_of_idle hd hidle).1) (timeSet_of_idle hd hidle).2
  · have hax : axesMoving s = false := by
      simp only [engineIdle, Bool.and_eq_true, Bool.not_eq_true'] at hidle
      exact hidle.1.2
    have hrun : timeTideConfig (prmOf c) s =
        ok (knaniPeriodAccepted (uAt (prmOf c) 0 1) { s with time := { s.time with newPeriod := some (uAt (prmOf c) 0 1, dtNow s / sec1 + 1) } }) := by
      simp [timeTideConfig, show ¬ 8 < uAt (prmOf c) 0 1 by omega, hj, hc, hm, hidle, hf, hax]
    refine oks_command rfl ha (congrArg Prod.fst hrun) ?_
    simp [hrun, ok]
  · have hrun : (timeEpochSet (prmOf c) s).1 = .now stOk [] ∧ (timeEpochSet (prmOf c) s).2.time = { s.time with epoch := some (uAt (prmOf c) 6 6) } := by
      have hnow : decide (sec1 * uAt (prmOf c) 6 6 + 2 ^ 32 * tideP s < dtNow s) = false := decide_eq_false (Nat.not_lt.mpr hle)
      simp only [timeEpochSet, hz, hj, hnow, Bool.not_true, Bool.or_self, Bool.false_eq_true, if_false, ok, raise_time, and_self]
    exact oks_command rfl ha hrun.1 hrun.2
  · refine answers_command rfl ha ?_
    simp [timeHoldoverConfig, hp, hz, hth, hsl, hlw, htq, ok, show ¬ 18446744 < uAt p 12 4 by omega]

end Sys2Proof.Proofs

namespace Sys2Proof.Proofs
open Sys2Proof Sys2Proof.Machine Sys2Proof.Safety

/-! ## The TIME commands on pins, captures, compares and alarms -/

theorem gpioDrive_cmps (u : CmpUnit) (active : Bool) (rel : Nat) (s : State) : (gpioDrive u active rel s).time.cmps = s.time.cmps := rfl

/-- The unit that takes a GPIO stands at its own place and drives it. -/
theorem getElem?_cmpTakes {k : Nat} {u : CmpUnit} {l : List CmpUnit} (h : k < l.length) : (cmpTakes k u l)[k]? = some { u with drives := true } := by
  simp [cmpTakes, h]

/-- The compare unit as TIME_COMPARE_ARM leaves it (02 R85). -/
def armedUnit (p : List Byte) (s : State) : CmpUnit where
  armed := true
  action := uAt p 1 1
  gpio := uAt p 3 1
  stopQuiet := bit (uAt p 2 1) 0
  activeLow := bit (uAt p 2 1) 1
  target := dtAt p 4
  shortArmed := decide (dtAt p 4 ≤ dtNow s + 500 * ms1)
  widthNs := uAt p 16 4
  periodNs := uAt p 20 8
  left := if uAt p 28 4 == 0 then none else some (uAt p 28 4)

/-- Settles O21. -/
theorem timePinCommands : Obligations.TimePinCommands := by
  unfold Obligations.TimePinCommands
  refine ⟨fun c s p pin q ha hp hpin h1 hq ht hf hz hw hw' ho => ?_, fun c s p ha hp h0 h1 hz hw hw' => ?_, fun c s p ha hp h4 h15 hi he => ?_,
    fun c s k q ha hk hq => ?_, fun c s p k act g per ha hp hk hk16 hact hact3 hfl hg hg16 hd hper hperOk hwid hlen hfree hgpio hnow => ?_,
    fun c s k q ha hk hq hdr hlev => ?_, fun c s ha hd hfar hroom => ?_, fun c s ha hd hpast => ?_⟩
  · subst hp
    have hb : timePpsOutConfig (prmOf c) s = ok (timePpsOutConfig (prmOf c) s).2 ∧
        (timePpsOutConfig (prmOf c) s).2.time.ppsOut = (lmod s.time.ppsOut pin (fun q => { q with
          time := uAt (prmOf c) 1 1, activeLow := bit (uAt (prmOf c) 2 1) 0, coding := bit (uAt (prmOf c) 2 1) 1, quiet := bit (uAt (prmOf c) 2 1) 2,
          widthUs := uAt (prmOf c) 4 4, offset := iAt (prmOf c) 8 4, armed := none })) := by
      unfold timePpsOutConfig
      rw [if_neg (by simp [hz]; omega), hpin]
      refine ⟨rfl, ?_⟩
      dsimp only [ok]
      split
      · rw [ppsDrive_time]
      · rfl
    refine oks_command rfl ha (congrArg Prod.fst hb.1) ?_
    rw [hb.2]
    exact getElem?_lmod_same hq
  · subst hp
    refine answers_command rfl ha ?_
    unfold timePpsInConfig
    rw [if_neg (by simp [hz]; omega)]
    rfl
  · subst hp
    refine answers_command rfl ha ?_
    unfold timeCaptureConfig
    rw [if_neg (by simp; omega)]
    rfl
  · refine answers_command rfl ha ?_
    simp only [timeCaptureRead, hk, hq]
    rfl
  · subst hp
    have hb : timeCompareArm (prmOf c) s = ok (timeCompareArm (prmOf c) s).2 ∧ (timeCompareArm (prmOf c) s).2.time.cmps = cmpTakes k (armedUnit (prmOf c) s) s.time.cmps := by
      unfold timeCompareArm
      rw [if_neg (by simp [hd]; omega), if_neg (by rw [hk, hg, hfree, hgpio]; decide), if_neg (by simpa using hnow)]
      rw [← hk]
      refine ⟨rfl, ?_⟩
      dsimp only [ok]
      split
      · exact gpioDrive_cmps ..
      · rfl
    refine oks_command rfl ha (congrArg Prod.fst hb.1) ?_
    rw [hb.2, getElem?_cmpTakes (by omega)]
    exact ⟨_, rfl, rfl, hact, hg, rfl, rfl, hper, rfl, by simp [armedUnit]⟩
  · have hb : timeCompareCancel (prmOf c) s = ok (gpioDrive q false 0 { s with time := { s.time with
        cmps := lmod s.time.cmps k (fun q => { q with armed := false, pulseEnd := none, shortArmed := false }) } }) := by
      simp [timeCompareCancel, hk, hq, hdr, hlev]
    refine oks_command rfl ha (congrArg Prod.fst hb) ?_
    rw [hb]
    have hlen : q.gpio < s.time.gpio.length := (List.getElem?_eq_some_iff.mp hlev).1
    exact ⟨getElem?_lmod_same hq, by simp [gpioDrive, ok, hlen]⟩
  · refine answers_command rfl ha ?_
    simp [timeAlarmSet, hd, show ¬ dtAt (prmOf c) 0 < dtNow s by omega, show ¬ 2048 ≤ alarmsPending s by omega, show ¬ dtAt (prmOf c) 0 ≤ dtNow s + 500 * ms1 by omega, ok]
  · refine answers_command rfl ha ?_
    simp [timeAlarmSet, hd, hpast, refuse]

end Sys2Proof.Proofs

namespace Sys2Proof.Proofs
open Sys2Proof Sys2Proof.Machine Sys2Proof.Safety

/-! ## The boundary of a tide -/

/-- What a boundary does before it steps Device Time (02 R53, R62). -/
def beforeBoundaryStep (s0 : State) : State :=
  let t := nextBoundary s0
  let s := countUnavailable (runTo t s0)
  let s1 : State := { s with time := { s.time with lastBoundary := some t, tideNo := (tideAt s t).getD 0, pointers := advancePointers s.time.pointers }, cell := cellTide s.cell }
  let s2 := openBoundary t (stopTide (voteCompare s1))
  let s3 := workBoundary t (if domainUp s2 4 then poseBoundary t s2 else s2)
  extendPlans t (netTide (if domainUp s3 7 then knaniBoundary s3 else s3))

theorem doTideBoundary_eq {s : State} (h : (s.power.st == .spring || s.power.st == .neap || s.power.st == .safe) = true) :
    doTideBoundary s = fatalBoundary (eccReports (stepAtBoundary (beforeBoundaryStep s))) := by
  unfold doTideBoundary
  rw [if_neg (by simp [h])]
  rfl

theorem of_reaches_done {i : Instr} {s v : State} {P : State → Prop} (hx : exec i s = done v) (h : reaches i s P) : P (settle v) := by
  obtain ⟨u, hu, hP⟩ := h
  rw [hx] at hu
  cases hu
  exact hP

/-- Device Time stands 2^57 ns ahead of the domain it follows, no domain is enabled and no job is open. -/
def aheadOfDomain : State :=
  { State.reset with time := { State.reset.time with out := 2 ^ 80 }, power := { State.reset.power with st := .spring }, votes := { State.reset.votes with domains := {} } }

/-- The boundary steps Device Time back, and with no job open the boundary just passed is forgotten. -/
theorem aheadOfDomain_lastBoundary : (stepAtBoundary (beforeBoundaryStep aheadOfDomain)).time.lastBoundary = none := by decide

/-- Refutes O22: Device Time that stands ahead of the domain it follows, the engine idle, is stepped back at the boundary itself, and such a step leaves no last
boundary (a forward step one that its new time gives), not the boundary that has just passed. -/
theorem not_tideEvents : ¬ Obligations.TideEvents := by
  unfold Obligations.TideEvents
  rintro ⟨h, -⟩
  have hlast := (of_reaches_done (v := doTideBoundary aheadOfDomain) rfl (h aheadOfDomain (Or.inl rfl))).1
  rw [settle_time, doTideBoundary_eq rfl, fatalBoundary_touches.same .time (by decide), eccReports_touches.same .time (by decide), aheadOfDomain_lastBoundary] at hlast
  cases hlast

end Sys2Proof.Proofs

namespace Sys2Proof.Proofs
open Sys2Proof Sys2Proof.Machine Sys2Proof.Safety

/-! ## IF streams, notches and the jamming indicator -/

theorem applyNext_keeps (st : IfStream) : (applyNext st).st = st.st ∧ (applyNext st).good = st.good ∧ (applyNext st).lastMarker = st.lastMarker := ⟨rfl, rfl, rfl⟩

/-- The eighth good marker brings a LOST stream UP. -/
theorem markerState_of_lost {cyc : Nat} {st : IfStream} (h0 : st.st = 0) (h8 : 8 ≤ st.good) : markerState cyc st = ({ st with st := 1 }, true) := by
  simp [markerState, h0, h8]

theorem length_of_getElem? {α : Type} {l : List α} {n : Nat} {x : α} (h : l[n]? = some x) : n < l.length := (List.getElem?_eq_some_iff.mp h).1

/-- Losing a stream leaves the streams, and takes its tracking channels to reacquisition. -/
theorem streamLost_chan {n ch : Nat} {c : GChan} {s : State} (hc : tget s.gnss.chans ch = some c) (hn : gStream c.signal c.ant = n) (ht : c.st = .track) :
    (tget (streamLost n s).gnss.chans ch).map (·.st) = some .reacq := by
  unfold streamLost
  refine (foldReacq _ s ch).2.2 (by simp [hc, ht]) ⟨c, List.mem_filter.mpr ⟨tget_mem hc, by simp [hn]⟩⟩

@[simp] theorem streamLost_streams (n : Nat) (s : State) : (streamLost n s).gnss.streams = s.gnss.streams := (foldReacq _ s 0).1

@[simp] theorem streamLost_streamOf (n m : Nat) (s : State) : streamOf (streamLost n s) m = streamOf s m := by simp [streamOf]

theorem le_foldl_max (a : Nat) (l : List Nat) : a ≤ l.foldl max a := by
  induction l generalizing a with
  | nil => exact Nat.le_refl a
  | cons b l ih => exact Nat.le_trans (Nat.le_max_left a b) (ih _)

theorem setJi_ji {n v w v' p : Nat} {s : State} (h : n < s.gnss.streams.length) : (streamOf (setJi n v w v' p s) n).ji = v := by
  unfold setJi
  dsimp only
  rw [raiseIf_streamOf, raiseIf_streamOf, streamOf_setStream _ h]

theorem learnFloor_ji {n n0 : Nat} {s : State} (h : n < s.gnss.streams.length) : (streamOf (learnFloor n n0 s) n).ji = (streamOf s n).ji := by
  unfold learnFloor
  dsimp only
  split
  · rw [streamOf_setStream _ h]
  · split
    · rw [streamOf_congr (journalLog_gnss ..), streamOf_setStream _ h]
    · rw [streamOf_setStream _ h]

/-- The link lost event of a stream that is not LOST already (03 R99). -/
theorem doIfLost_of_up {n cause : Nat} {s : State} (hn : n ≤ 7) (hup : navUp s = true) (h0 : (streamOf s n).st ≠ 0) :
    ∃ e s1, s1.gnss = s.gnss ∧ doIfLost n cause s = raise e (streamLost n (setStream n (fun x => { x with st := 0, good := 0, lastMarker := none, rateOkFrom := none }) s1)) := by
  unfold doIfLost
  rw [if_neg (by simp [hup, h0]; omega)]
  refine ⟨_, _, ?_, rfl⟩
  split
  · exact runTo_gnss ..
  · rfl

/-- Settles O23. -/
theorem gnssStreamEvents : Obligations.GnssStreamEvents := by
  unfold Obligations.GnssStreamEvents
  refine ⟨fun n t l s st hn hup hs hl hd h0 hg => ?_, fun n cause s st hn hup hs h0 => ?_, fun n ppb s st hn hup hs hl hp => ?_,
    fun n peaks s st hn hup hs h1 => ?_, fun n i s st x a c hup hs hx hm ha hc hnx => ?_, fun n n0 s st hn hup hs h1 => ?_, fun n j b s hj hb => ?_⟩
  · refine reaches_done rfl ?_
    have hlen := length_of_getElem? hs
    have hmiss : markersMissed n t s = false := by simp [markersMissed, streamOf_some hs, h0]
    have hmark : streamOf (doMarker n t s) n = streamOf (overflowTest n (assignNotches 4 n (raiseIf true { code := 0x0301, sev := 1, src := 2, p0 := n }
        (setStream n (fun _ => applyNext { st with good := 8, lastMarker := some t, st := 1 }) (runTo t s))))) n := by
      have hgood : min (st.good + 1) 8 = 8 := by omega
      have hrun : streamOf (runTo t s) n = st := (streamOf_congr (runTo_gnss ..) n).trans (streamOf_some hs)
      simp [doMarker, show ¬ 7 < n by omega, hup, hmiss, hrun, hl, hd, hgood, markerState_of_lost, h0]
    obtain ⟨hlen', hst, hgd, hlm⟩ := assignNotches_stream 4 n (raiseIf true { code := 0x0301, sev := 1, src := 2, p0 := n }
      (setStream n (fun _ => applyNext { st with good := 8, lastMarker := some t, st := 1 }) (runTo t s))) (by simpa using hlen)
    rw [settle_streamOf, hmark, overflowTest_stream _ _ (by rw [hlen']; simpa using hlen)]
    dsimp only
    rw [hst, hgd, hlm, raiseIf_streamOf, streamOf_setStream _ (by simpa using hlen)]
    exact ⟨rfl, rfl, rfl⟩
  · refine reaches_done rfl ?_
    have hlen := length_of_getElem? hs
    obtain ⟨e, s1, hg, heq⟩ := doIfLost_of_up (cause := cause) hn hup (by rwa [streamOf_some hs])
    rw [settle_streamOf, settle_gnss, heq, raise_streamOf, raise_gnss, streamLost_streamOf, streamOf_setStream _ (by rwa [hg])]
    refine ⟨rfl, rfl, fun ch c hc hch ht => streamLost_chan ?_ hch ht⟩
    rw [setStream_chans, hg]
    exact hc
  · refine reaches_done rfl ?_
    have hlen := length_of_getElem? hs
    rw [settle_streamOf, doIfRate, if_neg (by simp [hup, streamOf_some hs, Option.isNone_eq_false_iff.mpr hl]; omega), if_pos hp]
    dsimp only
    have hset : streamOf (setStream n (fun x => { x with st := 2, rateOkFrom := none }) s) n = { streamOf s n with st := 2, rateOkFrom := none } := streamOf_setStream _ hlen
    split
    · rw [hset]
      exact ⟨rfl, rfl⟩
    · rw [raise_streamOf, streamLost_streamOf, hset]
      exact ⟨rfl, rfl⟩
  · refine reaches_done rfl ?_
    have hlen := length_of_getElem? hs
    rw [settle_streamOf, doAverage, if_neg (by simp [hup, streamOf_some hs, h1]; omega), overflowTest_stream _ _ (by simpa using hlen), streamOf_setStream _ hlen]
    intro p hp hth
    refine ⟨_, le_foldl_max 1 _, List.mem_map_of_mem (List.mem_filter.mpr ⟨hp, ?_⟩)⟩
    simpa [streamOf_some hs] using hth
  · refine reaches_done rfl ?_
    have hlen := length_of_getElem? hs
    have hx' : (streamOf s n).notches[i]? = some x := by rwa [streamOf_some hs]
    simp only [settle_streamOf, settle_time, doNotchRelease, hx', hm, ha, hc, hnx, hup]
    refine ⟨?_, ?_⟩
    · rw [if_neg (by decide), overflowTest_stream _ _ (by simpa using hlen), streamOf_setStream _ (by simpa using hlen)]
      rw [streamOf_congr (runToCyc_gnss ..)]
      simp [getElem?_lmod_same hx', hm, ha, hc]
    · rw [if_neg (by decide), overflowTest_time]
      exact le_runToCyc_cyc ..
  · refine reaches_done rfl ?_
    have hlen := length_of_getElem? hs
    rw [settle_streamOf, doProbe, if_neg (by simp [hup, streamOf_some hs, h1]; omega)]
    have hji : ∀ v w v' p, (streamOf (passDone 5 (learnFloor n n0 (setJi n v w v' p s))) n).ji = v := fun v w v' p => by
      rw [streamOf_congr (passDone_gnss ..), learnFloor_ji (by simpa [setJi] using hlen), setJi_ji hlen]
    obtain rfl := streamOf_some hs
    exact hji _ _ _ _
  · show done (doJamClear n s) = _
    simp only [doJamClear, hj, hb, done]

end Sys2Proof.Proofs

namespace Sys2Proof.Proofs
open Sys2Proof Sys2Proof.Machine Sys2Proof.Safety

/-! ## Acquisition, tracking channels, measurement epochs, navigation units and bursts -/

/-- Filling the search engines changes nothing but the engines and the round. -/
theorem fillEngines_frame (s : State) : ∃ e r, fillEngines s = { s with gnss := { s.gnss with engines := e, round := r } } := by
  unfold fillEngines
  dsimp only
  split <;> exact ⟨_, _, rfl⟩

@[simp] theorem fillEngines_chans (s : State) : (fillEngines s).gnss.chans = s.gnss.chans := by
  obtain ⟨e, r, h⟩ := fillEngines_frame s
  rw [h]

/-- The end of a search changes nothing but the time, the engines and the round. -/
theorem endSearch_frame (x : Search) (sv k : Nat) (s : State) :
    ∃ t e r, endSearch x sv k s = { s with time := t, gnss := { s.gnss with engines := e, round := r } } := by
  unfold endSearch
  obtain ⟨n, h⟩ := runTo_runs 0 s
  exact ⟨_, _, _, rfl⟩

/-- A detection without a channel of its signal takes the free channel. -/
theorem assign_of_new {d : Detection} {s : State} {n : Nat} (hno : ∀ e ∈ s.gnss.chans, sameSignal d.signal d.sv d.ant e.2 = false) (hon : signalOn s d.signal d.ant = true)
    (hlim : belowLimit s d.signal d.sv d.ant = true) (hfree : freeChan s = some n) :
    assign d s = some (putChan n (GChan.start { signal := d.signal, sv := d.sv, ant := d.ant, gloK := d.gloK, loop := s.gnss.loops.getD d.signal [] } d.codePhase d.carrRate s.time.cyc) s) := by
  have hmine : s.gnss.chans.filter (fun e => sameSignal d.signal d.sv d.ant e.2) = [] := List.filter_eq_nil_iff.mpr (fun e he => by simp [hno e he])
  simp [assign, hmine, hon, hlim, hfree]

/-- Handing out detections changes nothing but channels and queue. -/
theorem assign_frame {d : Detection} {s u : State} (h : assign d s = some u) : ∃ c, u = { s with gnss := { s.gnss with chans := c } } := by
  unfold assign at h
  dsimp only at h
  split at h
  · cases h; exact ⟨_, rfl⟩
  · cases h; exact ⟨_, rfl⟩
  · split at h
    · cases h; exact ⟨_, rfl⟩
    · obtain ⟨n, -, hn⟩ := Option.map_eq_some_iff.mp h
      exact ⟨_, hn.symm⟩

theorem serveQueue_frame (n : Nat) (s : State) : ∃ c q, serveQueue n s = { s with gnss := { s.gnss with chans := c, queue := q } } := by
  induction n generalizing s with
  | zero => exact ⟨_, _, rfl⟩
  | succ n ih =>
    unfold serveQueue
    split
    · exact ⟨_, _, rfl⟩
    · split
      · exact ⟨_, _, rfl⟩
      next s1 ha =>
        obtain ⟨c, rfl⟩ := assign_frame ha
        obtain ⟨c', q, h⟩ := ih { s with gnss := { s.gnss with chans := c, queue := _ } }
        exact ⟨c', q, h⟩

theorem releaseRemoved_frame (s : State) : ∃ c q r, releaseRemoved s = { s with gnss := { s.gnss with chans := c, queue := q, relPending := r } } := by
  unfold releaseRemoved freed
  split
  · exact ⟨_, _, _, rfl⟩
  · obtain ⟨c, q, h⟩ := serveQueue_frame 32 { s with gnss := { s.gnss with relPending := false, chans := s.gnss.chans.filter (fun e => e.2.hostHeld || signalOn s e.2.signal e.2.ant) } }
    exact ⟨c, q, _, h⟩

/-- The detection that a confirmed peak gives (03 R111). -/
def foundDetection (sig sv ant k ph : Nat) (rate : Int) (cyc : Nat) : Detection where
  signal := sig
  sv := sv
  ant := ant
  gloK := if gSystem sig == 2 then k else 0
  codePhase := ph % (65536 * (gCode sig).1)
  carrRate := rate
  at_ := cyc

/-- A search whose peak is confirmed hands its detection over (03 R111). -/
theorem doSearch_of_found {sig sv ant k ph peak dw : Nat} {rate : Int} {x : Search} {s : State} (hup : navUp s = true) (ha : ant ≤ 1) (hk : k ≤ 13)
    (hsv : gSvOk (gSystem sig) sv = true) (hsig : sig ∈ gSearched) (hx : searchOf (fillEngines s) sig sv ant k = some x)
    (hin : inSearch (fillEngines s) sig sv ant k ph rate = true) (hpk : s.gnss.acqThresh < peak) (hdw : 2 ≤ dw) :
    doSearch sig sv ant k ph rate peak dw s = 
      fillEngines (detect (foundDetection sig sv ant k ph rate (endSearch x sv k (fillEngines s)).time.cyc) (endSearch x sv k (fillEngines s))) := by
  have hpk' : (fillEngines s).gnss.acqThresh < peak := by
    obtain ⟨e, r, h⟩ := fillEngines_frame s
    rwa [h]
  unfold doSearch
  rw [if_neg (by simp [hup, hsv, hsig]; omega)]
  simp [hx, hin, hpk', hdw, foundDetection]

/-- The latch of a measurement epoch, before the host's releases and the new ephemerides take effect (03 R115). -/
def epochLatched (s : State) : State :=
  let t := nextEpoch s
  let s1 := runTo t s
  let latched := s1.gnss.chans.map (fun e => (e.1, latchChan s1 e.2))
  { s1 with gnss := { s1.gnss with
    chans := latched, latches := latched.map (fun e => (e.1, e.2.latched))
    streams := s1.gnss.streams.map (fun x => { x with notchMoves := [] })
    epoch := some t, epochNo := s1.gnss.epochNo + 1, recordDue := !s1.time.refLost
    stepFlag := s1.gnss.clockStep, clockStep := s1.gnss.clockStep && s1.time.refLost } }

theorem doEpochLatch_eq {s : State} (h : navUp s = true) : doEpochLatch s = poseEpochTick (nextEpoch s) (takeEph (releaseRemoved (epochLatched s))) := by
  unfold doEpochLatch
  rw [if_neg (by simp [h])]
  rfl

theorem measRecord_noted (raw : List (Nat × Nat)) (neap : Bool) (o : List Obs) (a : Option Nat) (b r : Bool) (m : Nat) (s : State) :
    measRecord raw neap { s with gnss := { s.gnss with obs := o, obsAt := a, obsStep := b, recordDue := r, measCount := m } } = measRecord raw neap s := rfl

theorem doRecord_of_due {raw : List (Nat × Nat)} {s : State} (hup : navUp s = true) (hdue : s.gnss.recordDue = true) (href : s.time.refLost = false) (hp : s.power.st ≠ .neap)
    (hsub : s.gnss.measSub = 1) : doRecord raw none s =
      sendS1 0x10 (measRecord raw false { s with gnss := { s.gnss with obs := observations raw s, obsAt := s.gnss.epoch, obsStep := s.gnss.stepFlag, recordDue := false, measCount := 0 } })
        { s with gnss := { (keepObs raw s).gnss with recordDue := false, measCount := 0 } } := by
  unfold doRecord
  rw [if_neg (by simp [hup, hdue, href, hp])]
  have h : (keepObs raw s).gnss.measSub = 1 := hsub
  simp [h]
  rfl

theorem doNavUnit_of_track {n ty fb bits : Nat} {fec : Bool} {pl : List Byte} {y : NavYield} {s : State} {c : GChan} (hc : tget s.gnss.chans n = some c) (hup : navUp s = true)
    (hb : c.bitSync = true) (hst : c.st = .track) : doNavUnit n ty fec fb bits pl y s =
      (let check := unitCheck (gMessage c.signal) fec (bits % 65536) (bitsOnly (bits % 65536) pl)
       let s1 := if check == 0 then navYield c (ty % 256) (bitsOnly (bits % 65536) pl) y s else checkFail n (ty % 256) s
       if bit s1.gnss.navSub (gSystem c.signal) && (check == 0 || s1.gnss.navFailed) then sendS1 0x11 (navRecord c (ty % 256) check fb (bits % 65536) pl) s1
       else s1) := by
  unfold doNavUnit
  simp only [hc]
  rw [if_neg (by simp [hup, hb, hst])]

theorem checkFail_frame (n unit : Nat) (s : State) : (checkFail n unit s).gnss.eph = s.gnss.eph ∧ (checkFail n unit s).gnss.ephNext = s.gnss.ephNext ∧
    (checkFail n unit s).gnss.ephParts = s.gnss.ephParts ∧ (checkFail n unit s).time = s.time := by
  unfold checkFail
  split
  · exact ⟨rfl, rfl, rfl, rfl⟩
  · dsimp only
    rw [raiseIf_gnss, raiseIf_time]
    exact ⟨rfl, rfl, rfl, rfl⟩

/-- The units held once one more has come (03 R123). -/
def partsWith (sig sv unit iod : Nat) (data : List Byte) (s : State) : List EphPart :=
  s.gnss.ephParts.filter (fun x => !(x.signal == sig && x.sv == sv && x.unit == unit)) ++ [{ signal := sig, sv := sv, unit := unit, iod := iod, data := data }]

/-- The last missing unit of an issue completes its ephemeris (03 R123, R125). -/
theorem ephUnit_complete {sig sv gloK unit iod : Nat} {data : List Byte} {s : State} (hu : unit ∈ ephUnitsOf (gMessage sig))
    (hnew : ∀ e ∈ s.gnss.eph ++ s.gnss.ephNext, ¬ (e.sys = gSystem sig ∧ e.sv = sv ∧ e.iod = iod))
    (hparts : ∀ k ∈ ephUnitsOf (gMessage sig), k ≠ unit → ∃ q ∈ s.gnss.ephParts, q.signal = sig ∧ q.sv = sv ∧ q.unit = k ∧ q.iod = iod) :
    (ephUnit sig sv gloK unit iod data s).gnss.eph = s.gnss.eph ∧
    ∃ e ∈ (ephUnit sig sv gloK unit iod data s).gnss.ephNext, e.sys = gSystem sig ∧ e.sv = sv ∧ e.iod = iod := by
  have hfound : ∀ k ∈ ephUnitsOf (gMessage sig),
      ((partsWith sig sv unit iod data s).find? (fun x => x.signal == sig && x.sv == sv && x.unit == k && x.iod == iod)).isSome = true := by
    intro k hk
    rw [List.find?_isSome]
    by_cases hku : k = unit
    · exact ⟨_, List.mem_append_right _ (List.mem_singleton_self _), by simp [hku]⟩
    · obtain ⟨q, hq, h1, h2, h3, h4⟩ := hparts k hk hku
      exact ⟨q, List.mem_append_left _ (List.mem_filter.mpr ⟨hq, by simp [h3, hku]⟩), by simp [h1, h2, h3, h4]⟩
  have hany : ((s.gnss.eph ++ s.gnss.ephNext).any (fun e => e.sys == gSystem sig && e.sv == sv && e.iod == iod)) = false :=
    List.any_eq_false.mpr (fun e he => by simpa [and_assoc] using hnew e he)
  unfold ephUnit
  dsimp only
  rw [if_neg (by simp [hu, hany]), if_neg]
  · exact ⟨rfl, _, List.mem_append_right _ (List.mem_singleton_self _), rfl, rfl, rfl⟩
  · rw [Bool.not_eq_true, List.any_eq_false]
    intro o ho
    obtain ⟨k, hk, rfl⟩ := List.mem_map.mp ho
    exact Bool.eq_false_iff.mp (Option.isNone_eq_false_iff.mpr (hfound k hk))

theorem doBurstEnd_of_few {raw : List (Nat × Nat)} {sol : Option Standalone} {s : State} {c : Nat} (hp : s.power.st = .neap) (hb : s.gnss.burstAt = some c) (ht : trackedSats s < 4)
    (hx : s.gnss.burstExt = false) : doBurstEnd raw sol s =
      { runToCyc (c + cycMs s.gnss.burstOn) s with gnss := { (runToCyc (c + cycMs s.gnss.burstOn) s).gnss with burstExt := true } } := by
  have ht' : ∀ c, trackedSats (runToCyc c s) < 4 := fun c => by rwa [trackedSats, runToCyc_gnss]
  simp [doBurstEnd, hb, hp, hx, ht']

/-- A detection is handed out by the channels and the configuration alone. -/
theorem detect_chan_of_new {d : Detection} {s u : State} {n : Nat} (hg : ∃ e r, u.gnss = { s.gnss with engines := e, round := r }) (hp : u.power = s.power)
    (hno : ∀ e ∈ s.gnss.chans, sameSignal d.signal d.sv d.ant e.2 = false) (hon : signalOn s d.signal d.ant = true)
    (hlim : belowLimit s d.signal d.sv d.ant = true) (hfree : freeChan s = some n) :
    ∃ c, tget (detect d u).gnss.chans n = some c ∧ c.signal = d.signal ∧ c.sv = d.sv ∧ c.ant = d.ant ∧ c.st = .pullIn ∧ c.carrRate = d.carrRate := by
  obtain ⟨e, r, hg⟩ := hg
  have h : assign d u = some (putChan n (GChan.start { signal := d.signal, sv := d.sv, ant := d.ant, gloK := d.gloK, loop := u.gnss.loops.getD d.signal [] } d.codePhase d.carrRate u.time.cyc) u) := by
    refine assign_of_new ?_ ?_ ?_ ?_
    · rw [hg]; exact hno
    · rw [signalOn, hg]; exact hon
    · rw [belowLimit, tracked, hg]; exact hlim
    · rw [freeChan, liveChans, hp, hg]; exact hfree
  unfold detect
  rw [h]
  exact ⟨_, (putChan_tget ..).trans (if_pos rfl), rfl, rfl, rfl, rfl, rfl⟩

/-- The end of a burst: every channel to reacquisition, those missed in three bursts dropped (03 R127). -/
def burstClosed (s : State) : State :=
  let chans := s.gnss.chans.filterMap (fun e =>
    let m := if e.2.st == ChSt.track || e.2.st == ChSt.pullIn then 0 else e.2.burstMiss + 1
    if 3 ≤ m then none else some (e.1, { e.2.enter .reacq s.time.cyc with burstMiss := m }))
  { s with gnss := { s.gnss with
    chans := chans, engines := List.replicate 32 none, round := [], burstAt := none, burstExt := false, recordDue := false
    streams := s.gnss.streams.map (fun x => { x with st := 0, good := 0, lastMarker := none }) } }

theorem burstClosed_chans {s : State} {e : Nat × GChan} (he : e ∈ (burstClosed s).gnss.chans) : e.2.st = .reacq ∧ e.2.burstMiss < 3 := by
  obtain ⟨x, -, hx⟩ := List.mem_filterMap.mp he
  dsimp only at hx
  by_cases h : 3 ≤ (if x.2.st == ChSt.track || x.2.st == ChSt.pullIn then 0 else x.2.burstMiss + 1)
  · rw [if_pos h] at hx
    cases hx
  · rw [if_neg h] at hx
    obtain rfl := Option.some.inj hx
    exact ⟨rfl, Nat.lt_of_not_le h⟩

theorem doBurstEnd_of_tracked {raw : List (Nat × Nat)} {s : State} {c : Nat} (hp : s.power.st = .neap) (hb : s.gnss.burstAt = some c) (ht : 4 ≤ trackedSats s) :
    ∃ u, doBurstEnd raw none s = burstClosed u := by
  have ht' : ∀ c, (decide (trackedSats (runToCyc c s) < 4) && !(runToCyc c s).gnss.burstExt) = false := fun c => by
    rw [decide_eq_false (by rw [trackedSats, runToCyc_gnss]; exact Nat.not_lt.mpr ht)]
    rfl
  unfold doBurstEnd
  rw [hb]
  exact ⟨_, (if_neg (by simp [hp])).trans ((if_neg (by rw [ht']; decide)).trans rfl)⟩

/-- Settles O24. -/
theorem gnssChannelEvents : Obligations.GnssChannelEvents := by
  unfold Obligations.GnssChannelEvents
  refine ⟨fun sig sv ant k ph peak dw n rate x s hup ha hk hsv hsig hx hin hpk hdw hno hon hlim hfree => ?_, fun s d r hq => ?_, fun n x v s c hup hc hst hv hl hx => ?_,
    fun n s c hc hst => ?_, fun n s c hc hst hp => ?_, fun s hup => ?_, fun raw s hup hdue href hp hsub => ?_, fun n ty fb bits iod fec pl s c hup hc hb hst hck hty hnew hparts => ?_,
    fun n ty fb bits fec pl y s c hup hc hb hst hck => ?_, fun s hp hb => ?_, fun raw sol s c hp hb ht hx => ?_, fun raw s c hp hb ht => ?_⟩
  · refine reaches_done rfl ?_
    rw [settle_gnss, doSearch_of_found hup ha hk hsv hsig hx hin hpk hdw, fillEngines_chans]
    obtain ⟨t, e, r, he⟩ := endSearch_frame x sv k (fillEngines s)
    obtain ⟨e', r', hf⟩ := fillEngines_frame s
    exact detect_chan_of_new (s := s) ⟨e, r, by rw [he, hf]⟩ (by rw [he, hf]) hno hon hlim hfree
  · refine reaches_done rfl ?_
    simp only [settle_gnss, settle_time, doDiscard, hq]
    exact ⟨by rw [runToCyc_gnss], le_runToCyc_cyc ..⟩
  · refine reaches_done rfl ?_
    rw [settle_gnss, doCoherent]
    simp [hc, hup, hst, hl, hv, hx, GChan.enter]
  · refine reaches_done rfl ?_
    simp only [settle_gnss, settle_time, doPullInTimeout, hc, hst]
    rw [if_neg (by decide), toReacq_time, toReacq_st]
    exact ⟨by simp [hc, hst], le_runToCyc_cyc ..⟩
  · show done (doSatLost n s) = _
    simp [doSatLost, hc, hst, hp, done]
  · refine reaches_done rfl ?_
    obtain ⟨c, q, r, hr⟩ := releaseRemoved_frame (epochLatched s)
    rw [settle_gnss, doEpochLatch_eq hup, poseEpochTick_touches.same .gnss (by decide), takeEph]
    rw [raises_gnss, hr]
    exact ⟨rfl, by simp [epochLatched], by simp [epochLatched]⟩
  · show done (doRecord raw none s) = _
    rw [doRecord_of_due hup hdue href hp hsub, measRecord_noted]
    rfl
  · refine reaches_done rfl ?_
    have hy := ephUnit_complete (gloK := c.gloK) (data := bitsOnly (bits % 65536) pl) hty hnew hparts
    rw [settle_gnss, doNavUnit_of_track hc hup hb hst]
    simp only [hck, beq_self_eq_true, if_true, navYield]
    split
    · rw [sendS1_gnss]
      exact hy
    · exact hy
  · refine reaches_done rfl ?_
    have hf := checkFail_frame n (ty % 256) s
    rw [settle_gnss, settle_time, doNavUnit_of_track hc hup hb hst]
    simp only [beq_eq_false_iff_ne.mpr hck, Bool.false_eq_true, if_false]
    split
    · rw [sendS1_gnss, sendS1_time]
      exact hf
    · exact hf
  · refine reaches_done rfl ?_
    rw [settle_gnss, settle_time, doBurstStart, if_neg (by simp [hp, hb])]
    refine ⟨rfl, rfl, fun c hc => ?_⟩
    simp only [hc]
    exact le_runToCyc_cyc ..
  · refine reaches_done rfl ?_
    rw [settle_gnss, settle_time, doBurstEnd_of_few hp hb ht hx]
    exact ⟨by rw [runToCyc_gnss], le_runToCyc_cyc ..⟩
  · refine reaches_done rfl ?_
    rw [settle_gnss]
    obtain ⟨u, hu⟩ := doBurstEnd_of_tracked (raw := raw) hp hb ht
    rw [hu]
    exact ⟨rfl, fun e he => burstClosed_chans he⟩

end Sys2Proof.Proofs

namespace Sys2Proof.Proofs
open Sys2Proof Sys2Proof.Machine Sys2Proof.Safety

/-! ## The GNSS commands -/

theorem within_of_le {lo hi x : Nat} (h : lo ≤ x) (h' : x ≤ hi) : within lo hi x = true := by simp [within, h, h']

theorem mem_tset {α : Type} {t : Tab α} {j : Nat} {x : α} {e : Nat × α} (h : e ∈ tset t j x) : e = (j, x) ∨ e ∈ t := by
  induction t with
  | nil => exact Or.inl (by simpa [tset] using h)
  | cons a r ih =>
    obtain ⟨k, v⟩ := a
    unfold tset at h
    split at h
    · rcases List.mem_cons.mp h with h | h
      · exact Or.inl h
      · exact Or.inr h
    · split at h
      · rcases List.mem_cons.mp h with h | h
        · exact Or.inl h
        · exact Or.inr (List.mem_cons_of_mem _ h)
      · rcases List.mem_cons.mp h with h | h
        · exact Or.inr (h ▸ List.mem_cons_self ..)
        · exact (ih h).imp_right (List.mem_cons_of_mem _)

/-- Judging the jamming thresholds anew changes the streams alone of the receiver. -/
theorem rejudge_gnss (oldW oldS warn severe : Nat) (s : State) : ∃ x, (rejudge oldW oldS warn severe s).gnss = { s.gnss with streams := x } := by
  unfold rejudge
  refine List.foldlRecOn (motive := fun (st : State) => ∃ x, st.gnss = { s.gnss with streams := x }) _ _ ⟨_, rfl⟩ fun st ⟨x, hx⟩ n _ => ?_
  rw [raiseIf_gnss, raiseIf_gnss, setStream, hx]
  exact ⟨_, rfl⟩

/-- GNSS_RESTART of everything keeps no more than the host's channels, each IDLE (03 R116). -/
theorem gnssRestart_of_all {p : List Byte} {s : State} (h0 : uAt p 0 1 = 0) (hoff : roleOf s = 0 → anyCellOn s = false) :
    (gnssRestart p s).1 = .now stOk [] ∧ (gnssRestart p s).2.gnss.eph = [] ∧ (gnssRestart p s).2.gnss.almanac = [] ∧ (gnssRestart p s).2.gnss.queue = [] ∧
    ∀ e ∈ (gnssRestart p s).2.gnss.chans, e.2.hostHeld = true ∧ e.2.st = .idle := by
  unfold gnssRestart
  rw [if_neg (by omega), if_neg (by simpa using hoff), h0]
  refine ⟨rfl, rfl, rfl, rfl, fun e he => ?_⟩
  obtain ⟨x, -, rfl⟩ := List.mem_map.mp he
  exact ⟨rfl, rfl⟩

/-- A request that no tracked channel serves waits in IDLE on the lowest free channel (03 R114). -/
theorem gnssChannelRequest_of_up {s : State} {p : List Byte} {sig sv ant n : Nat} (hsig : uAt p 0 1 = sig) (h10 : sig ≤ 10) (hsv : uAt p 1 1 = sv)
    (hok : gSvOk (gSystem sig) sv = true) (hant : uAt p 2 1 = ant) (h1 : ant ≤ 1) (hk : gSystem sig = 2 → uAt p 3 1 ≤ 13) (hup : signalUp s sig ant = true)
    (hfree : firstFree 384 s.gnss.chans = some n) (hno : ∀ e ∈ s.gnss.chans, e.2.st ≠ .track) :
    gnssChannelRequest p s = okWith (le 2 n) (putChan n { signal := sig, sv := sv, ant := ant, gloK := if gSystem sig == 2 then uAt p 3 1 else 0, hostHeld := true,
                                                          since := s.time.cyc, loop := s.gnss.loops.getD sig [] } s) := by
  have hk' : (if gSystem sig = 2 then uAt p 3 1 else 0) ≤ 13 := by
    split
    · exact hk ‹_›
    · omega
  unfold gnssChannelRequest
  rw [hsig, hsv, hant]
  dsimp only
  rw [if_neg (by simp [hok, h10]), if_neg (by simp [hk', h1]), if_neg (by simp [hup]), hfree]
  dsimp only
  rw [List.find?_eq_none.mpr]
  intro e he
  have hst : e.2.st ≠ .track := by
    rcases mem_tset he with rfl | he
    · exact ChSt.noConfusion
    · exact hno e he
  simp [hst]

theorem gnssNotchConfig_of_manual {s : State} {p : List Byte} (h7 : uAt p 0 1 ≤ 7) (h3 : uAt p 1 1 ≤ 3) (h1 : uAt p 2 1 = 1) (hz : zeros p 3 1 = true) (h6 : 6 ≤ uAt p 12 1)
    (h40 : uAt p 12 1 ≤ 40) (hw : 20000 ≤ uAt p 8 4) (hw' : uAt p 8 4 ≤ 2000000) (hm : (iAt p 4 4).natAbs ≤ 16000000) :
    gnssNotchConfig p s = ok (overflowTest (uAt p 0 1) (setStream (uAt p 0 1) (fun x => { x with
      thresh := uAt p 12 1, notches := lmod x.notches (uAt p 1 1) (fun y => { y with next := some (1, iAt p 4 4, uAt p 8 4) }) }) s)) := by
  have hhalf : (iAt p 4 4).natAbs ≤ (if uAt p 0 1 % 4 = 0 then 32000000 else 16000000) := by
    split <;> omega
  unfold gnssNotchConfig
  dsimp only
  rw [if_neg (by simp [hz, within_of_le, h1, h7, h3, h6, h40, hw, hw']; exact hhalf), h1]
  rfl

theorem gnssAcqConfig_of_ordered {s : State} {p : List Byte} (h8 : 8 ≤ uAt p 0 1) (h20 : uAt p 0 1 ≤ 20) (hz : zeros p 1 3 = true) (h5 : 5 ≤ uAt p 4 4)
    (h1000 : uAt p 4 4 ≤ 1000) (h500 : 500 ≤ uAt p 8 4) (h10000 : uAt p 8 4 ≤ 10000) (h4 : 4 ≤ uAt p 12 1) (hlt : uAt p 12 1 < uAt p 13 1) (h160 : uAt p 13 1 ≤ 160) :
    gnssAcqConfig p s = ok (rejudge s.gnss.jamWarn s.gnss.jamSevere (uAt p 12 1) (uAt p 13 1) { s with gnss := { s.gnss with
      acqThresh := uAt p 0 1, refUnc := uAt p 4 4, reacqMs := uAt p 8 4, jamWarn := uAt p 12 1, jamSevere := uAt p 13 1 } }) := by
  unfold gnssAcqConfig
  dsimp only
  rw [if_neg (by simp [hz, within_of_le, h8, h20, h5, h1000, h500, h10000, h4, hlt, h160, show 4 ≤ uAt p 13 1 by omega, show uAt p 12 1 ≤ 160 by omega])]

/-- Settles O25. -/
theorem gnssCommands : Obligations.GnssCommands := by
  unfold Obligations.GnssCommands
  refine ⟨fun c s p ha hp h1 hz h2 h3 h4 => ?_, fun c s ha => answers_command rfl ha rfl, fun c s p ha hp h1 hz h0 hz9 => ?_, fun c iod s ha h0 => ?_, fun c iod s ha h3 hd hbad => ?_,
    fun c iod s ha h hd => ?_, fun c s p sig sv ant n ha hp hsig h10 hsv hok hant h1 hk hup hfree hno => ?_, fun c s ha h => ?_, fun c s d ha hd hheld => ?_, fun c s ha h => ?_,
    fun c s ha h h' => ?_, fun c s p st x ha hp h7 h3 h1 hz h6 h40 hw hw' hm hst hx => ?_, fun c s p ha hp h10 hz h4 h4' h8 h8' h12 h12' h16 h16' h17 h17' => ?_,
    fun c s ha h0 hoff => ?_, fun c s p ha hp hper hper' hon hon' hA hB => ?_, fun c s p ha hp h8 h20 hz h5 h1000 h500 h10000 h4 hlt h160 => ?_⟩
  · subst hp
    refine answers_command rfl ha ?_
    unfold gnssConfig
    rw [if_neg (by simp [hz]; omega)]
    rfl
  · subst hp
    have hx : exec (.gnssFrontendSet c) s = done (command 0x0303 9 0 none gnssFrontendSet c s) := by
      show done (command 0x0303 (if uAt (prmOf c) 8 1 == 1 then 80 else 9) 0 none gnssFrontendSet c s) = _
      rw [h0]
      rfl
    refine answers_command hx ha ?_
    unfold gnssFrontendSet
    dsimp only
    rw [if_neg (by simp [hz, hz9, h0]; omega), if_pos (by rw [h0]; rfl)]
    rfl
  · refine answers_command rfl ha ?_
    simp [gnssAssist, h0, ok]
  · refine answers_command rfl ha ?_
    simp [gnssAssist, h3, hd, hbad, refuse, -List.drop_one]
  · refine answers_command rfl ha ?_
    rcases h with h | h <;> simp [gnssAssist, h, hd, refuse, -List.drop_one]
  · subst hp
    have hb := gnssChannelRequest_of_up hsig h10 hsv hok hant h1 hk hup hfree hno
    refine oks_command rfl ha (congrArg Prod.fst hb) ?_
    rw [hb]
    exact ⟨_, (putChan_tget ..).trans (if_pos rfl), rfl, rfl, rfl, rfl, rfl⟩
  · refine answers_command rfl ha ?_
    unfold gnssChannelRequest
    dsimp only
    rw [if_pos (by simpa using h)]
    rfl
  · refine answers_command rfl ha ?_
    simp [gnssChannelRelease, hd, hheld, ok]
  · refine answers_command rfl ha ?_
    rw [gnssMeasSubscribe, if_neg (by omega)]
    rfl
  · refine answers_command rfl ha ?_
    rw [gnssNavSubscribe, if_neg (by simp; omega)]
    rfl
  · subst hp
    have hlen := length_of_getElem? hst
    have hb := gnssNotchConfig_of_manual (s := s) h7 h3 h1 hz h6 h40 hw hw' hm
    refine oks_command rfl ha (congrArg Prod.fst hb) ?_
    rw [hb]
    dsimp only [ok]
    rw [overflowTest_stream _ _ (by simpa using hlen), streamOf_setStream _ hlen, streamOf_some hst]
    exact ⟨rfl, getElem?_lmod_same hx⟩
  · subst hp
    refine answers_command rfl ha ?_
    rw [gnssLoopConfig, if_neg (by simp [within_of_le, *])]
    rfl
  · obtain ⟨hb, h⟩ := gnssRestart_of_all h0 hoff
    exact oks_command rfl ha hb h
  · subst hp
    refine answers_command rfl ha ?_
    unfold gnssBurstConfig
    dsimp only
    rw [if_neg (by simpa [within_of_le, *] using ⟨hA, hB⟩)]
    rfl
  · subst hp
    have hb := gnssAcqConfig_of_ordered (s := s) h8 h20 hz h5 h1000 h500 h10000 h4 hlt h160
    refine oks_command rfl ha (congrArg Prod.fst hb) ?_
    rw [hb]
    obtain ⟨x, hx⟩ := rejudge_gnss s.gnss.jamWarn s.gnss.jamSevere (uAt (prmOf c) 12 1) (uAt (prmOf c) 13 1) { s with gnss := { s.gnss with
      acqThresh := uAt (prmOf c) 0 1, refUnc := uAt (prmOf c) 4 4, reacqMs := uAt (prmOf c) 8 4, jamWarn := uAt (prmOf c) 12 1, jamSevere := uAt (prmOf c) 13 1 } }
    dsimp only [ok]
    rw [hx]
    exact ⟨rfl, rfl, rfl, rfl, rfl⟩

end Sys2Proof.Proofs

namespace Sys2Proof.Proofs
open Sys2Proof Sys2Proof.Machine Sys2Proof.Safety

/-! ## The pose engine and a base's reference -/

theorem dtNow_congr {s t : State} (h : t.time = s.time) : dtNow t = dtNow s := by rw [dtNow, dtNow, h]

/-- The heading of an epoch changes nothing of the pose but its source. -/
theorem headStep_frame (sol : EpochSol) (s : State) : ∃ h, (headStep sol s).pose = { s.pose with headingSrc := h } ∧ (headStep sol s).time = s.time := by
  unfold headStep headingLost
  dsimp only
  split
  · exact ⟨1, by rw [raiseIf_pose], by rw [raiseIf_time]⟩
  · exact ⟨_, by rw [raiseIf_pose], by rw [raiseIf_time]⟩

theorem noCarrier_of_unfixed {avail : Nat} {s : State} (h : s.pose.fixed = false) :
    noCarrier avail s = { s with pose := { s.pose with hold := 0, holdInts := [], solution := avail } } := by
  simp [noCarrier, h]

/-- The end of an epoch, once its ambiguities are settled: heading, filter and marks (04 R147, R151, R154). -/
def finishEpoch (sol : EpochSol) (ds dv : List DD) (s s2 : State) : State :=
  let s3 := headStep sol { s2 with pose := { s2.pose with vecAim := vecAimOf sol s2.pose } }
  let s4 := epochMarks (usedObs sol ds dv s) (fuse sol s3)
  { s4 with pose := { s4.pose with lastEpoch := some sol.t, drLimited := false } }

/-- Without usable corrections an epoch is SINGLE (04 R146). -/
theorem applyEpoch_of_single {sol : EpochSol} {s : State} (ha : sol.avail ≠ 0) (hc : corrUsable s = false) :
    ∃ dv, applyEpoch sol s = finishEpoch sol [] dv s (noCarrier 1 { s with pose := { s.pose with dds := [], ddVec := dv } }) := by
  have hd : epochDds sol s = [] := by simp [epochDds, hc]
  have h1 : formed sol [] = 1 := by simp [formed]; omega
  refine ⟨if s.pose.ant1 then ddOf (againstAnt0 sol.excl sol.t s) else [], ?_⟩
  unfold applyEpoch
  simp only [hd, h1]
  rfl

/-- The filter takes the epoch where attitude stands (04 R148, R151). -/
theorem finishEpoch_pose {sol : EpochSol} {ds dv : List DD} {s s2 : State} (hn : s2.pose.nav.isSome = true) :
    (finishEpoch sol ds dv s s2).pose.lastEpoch = some sol.t ∧ (finishEpoch sol ds dv s s2).pose.navAt = dtNow s2 ∧ (finishEpoch sol ds dv s s2).pose.solution = s2.pose.solution ∧
    (finishEpoch sol ds dv s s2).pose.nav = some (if (finishEpoch sol ds dv s s2).pose.headingSrc = 3 then { sol.nav with sigPsi := courseSigma sol } else sol.nav) := by
  obtain ⟨h, hp, ht⟩ := headStep_frame sol { s2 with pose := { s2.pose with vecAim := vecAimOf sol s2.pose } }
  unfold finishEpoch epochMarks fuse
  simp only [dtNow_congr ht, hp]
  rw [if_pos (by simp [hn])]
  refine ⟨trivial, rfl, rfl, ?_⟩
  by_cases h3 : h = 3 <;> simp [h3, setNav]

theorem sourceTakes_rtcmIn (host : Bool) (r : List (List Byte)) (s : State) : sourceTakes host { s with pose := { s.pose with rtcmIn := r } } = sourceTakes host s := rfl

theorem rtcmTake_of_feed {host : Bool} {f p : List Byte} {s : State} (hsrc : sourceTakes host s = true) (hp : rtcmPayload f = some p)
    (hno : isMsm (rtcmNo p) = true ∨ rtcmNo p = 1005 ∨ rtcmNo p = 1006 ∨ rtcmNo p = 1230) :
    rtcmTake host f s = feedRtcm p (if s.pose.corrSub then sendS1 0x02 f s else s) := by
  unfold rtcmTake
  rw [if_neg (by simp [hsrc]), hp]
  dsimp only
  rw [if_neg]
  rcases hno with h | h | h | h <;> simp [h]

theorem doRtcmFrame_of_feed {s : State} {f p : List Byte} {r : List (List Byte)} (hr : roleOf s = 0) (hin : s.pose.rtcmIn = f :: r) (hsrc : sourceTakes false s = true)
    (hp : rtcmPayload f = some p) (hno : isMsm (rtcmNo p) = true ∨ rtcmNo p = 1005 ∨ rtcmNo p = 1006 ∨ rtcmNo p = 1230) :
    doRtcmFrame false s = feedRtcm p (if s.pose.corrSub then sendS1 0x02 f { s with pose := { s.pose with rtcmIn := r } } else { s with pose := { s.pose with rtcmIn := r } }) := by
  simp only [doRtcmFrame, hr, hin]
  exact rtcmTake_of_feed hsrc hp hno

theorem doRtcmFrame_of_radio {s : State} {f : List Byte} {r : List (List Byte)} (hr : roleOf s = 0) (hin : s.pose.rtcmIn = f :: r) :
    doRtcmFrame false s = rtcmTake false f { s with pose := { s.pose with rtcmIn := r } } := by
  simp [doRtcmFrame, hr, hin]

/-- The waiting frames, the stations seen and their coordinates stay. -/
structure RtcmKept (s t : State) : Prop where
  rtcmIn : t.pose.rtcmIn = s.pose.rtcmIn
  seenStation : t.pose.seenStation = s.pose.seenStation
  arps : t.pose.arps = s.pose.arps

theorem RtcmKept.ite {b : Prop} [Decidable b] {s t u : State} (ht : RtcmKept s t) (hu : RtcmKept s u) : RtcmKept s (if b then t else u) := by
  split
  · exact ht
  · exact hu

theorem RtcmKept.after {s t u : State} (h : RtcmKept t u) (h' : RtcmKept s t) : RtcmKept s u := by
  obtain ⟨h1, h2, h3⟩ := h
  obtain ⟨h1', h2', h3'⟩ := h'
  exact ⟨h1.trans h1', h2.trans h2', h3.trans h3'⟩

theorem baseChanged_kept (old new : Nat) (s : State) : RtcmKept s (baseChanged old new s) := by
  unfold baseChanged releaseFix
  dsimp only
  constructor <;> rw [raise_pose, raiseIf_pose]

theorem tryLock_kept (id : Nat) (s : State) : RtcmKept s (tryLock id s) := by
  unfold tryLock
  refine .ite ⟨rfl, rfl, rfl⟩ ?_
  cases s.pose.station with
  | none => exact ⟨rfl, rfl, rfl⟩
  | some old => exact .ite ⟨rfl, rfl, rfl⟩ ((baseChanged_kept ..).after ⟨rfl, rfl, rfl⟩)

theorem tryLock_of_locked {id : Nat} {s : State} (h : s.pose.locked = true) : tryLock id s = s := by simp [tryLock, h]

/-- The station of a station message has been seen, with its coordinates (04 R139). -/
def stationSeen (p : List Byte) (s : State) : State :=
  { s with pose := { s.pose with
    seenStation := if s.pose.seenStation.contains (rtcmStation p) then s.pose.seenStation else rtcmStation p :: s.pose.seenStation
    arps := tset s.pose.arps (rtcmStation p) (stationArp p) } }

/-- The station of a message has been seen, with its coordinates, and the waiting frames stay. -/
def StationFed (p : List Byte) (s t : State) : Prop :=
  t.pose.rtcmIn = s.pose.rtcmIn ∧ rtcmStation p ∈ t.pose.seenStation ∧ tget t.pose.arps (rtcmStation p) = some (stationArp p)

/-- A station message makes its station seen and gives its coordinates (04 R139). -/
theorem feedRtcm_of_station {p : List Byte} {s : State} (hno : rtcmNo p = 1005 ∨ rtcmNo p = 1006) : StationFed p s (feedRtcm p s) := by
  have hseen : ∀ (l : List Nat) (x : Nat), x ∈ (if l.contains x then l else x :: l) := fun l x => by
    split
    · simpa using ‹l.contains x = true›
    · exact List.mem_cons_self ..
  unfold feedRtcm
  dsimp only
  rw [if_pos (by simpa using hno)]
  have hkept : ∀ s1 t : State, RtcmKept s1 t → StationFed p s s1 → StationFed p s t :=
    fun s1 t ⟨k1, k2, k3⟩ ⟨h1, h2, h3⟩ => ⟨k1.trans h1, k2 ▸ h2, k3 ▸ h3⟩
  refine hkept _ _ (tryLock_kept ..) (hkept (stationSeen p s) _ ?_ ⟨rfl, hseen _ _, (tget_tset ..).trans (if_pos rfl)⟩)
  exact .ite (.ite ((baseChanged_kept ..).after ⟨rfl, rfl, rfl⟩) ⟨rfl, rfl, rfl⟩) ⟨rfl, rfl, rfl⟩

theorem msmEpoch_congr {s t : State} (h : t.time = s.time) (p : List Byte) : msmEpoch t p = msmEpoch s p := by
  rw [msmEpoch, msmEpoch, dtNow_congr h, h]

/-- An MSM of epoch `e` taken from the locked station (04 R139, R140). -/
def msmTaken (p : List Byte) (e : Nat) (s : State) : State :=
  { s with pose := { s.pose with
    seenMsm := if s.pose.seenMsm.contains (rtcmStation p) then s.pose.seenMsm else rtcmStation p :: s.pose.seenMsm
    baseObs := joinObs (msmObs e p) s.pose.baseObs, corrAt := some e, corrStale := false } }

/-- An MSM of the locked station brings its observations and renews the corrections (04 R139, R140). -/
theorem feedRtcm_of_msm {p : List Byte} {s : State} (hm : isMsm (rtcmNo p) = true) (hl : s.pose.locked = true) (hst : s.pose.station = some (rtcmStation p))
    (hage : dtNow s ≤ msmEpoch s p + ms1 * s.pose.corrAgeMs) (hnew : ∀ c, s.pose.corrAt = some c → c < msmEpoch s p) :
    (feedRtcm p s).pose.rtcmIn = s.pose.rtcmIn ∧ (feedRtcm p s).pose.corrAt = some (msmEpoch s p) ∧ (feedRtcm p s).pose.corrStale = false ∧
    (feedRtcm p s).pose.baseObs = joinObs (msmObs (msmEpoch s p) p) s.pose.baseObs := by
  have hno : (rtcmNo p == 1005 || rtcmNo p == 1006) = false := by
    rw [Bool.or_eq_false_iff, beq_eq_false_iff_ne, beq_eq_false_iff_ne]
    constructor <;> intro h <;> rw [h] at hm <;> exact absurd hm (by decide)
  have heq : feedRtcm p s = msmTaken p (msmEpoch s p) s := by
    unfold feedRtcm
    refine (if_neg (by simp [hno])).trans ((if_pos hm).trans ?_)
    extract_lets _ s1 e newer usable _ s2
    have h1 : s1 = { s with pose := { s.pose with seenMsm := if s.pose.seenMsm.contains (rtcmStation p) then s.pose.seenMsm else rtcmStation p :: s.pose.seenMsm } } :=
      tryLock_of_locked hl
    have he : e = msmEpoch s p := msmEpoch_congr (congrArg State.time h1) p
    have husable : usable = true := by
      refine decide_eq_true ?_
      rw [he, h1]
      exact hage
    have hnewer : newer = true := by
      cases hc : s1.pose.corrAt with
      | none => simp only [newer, hc]
      | some a => simp only [newer, hc, he, hnew a (by rw [h1] at hc; exact hc), decide_true]
    have hs : (s1.pose.locked && s1.pose.station == some (rtcmStation p)) = true := by
      rw [h1]
      simp [hl, hst]
    refine (if_pos hs).trans ((if_pos (by rw [hnewer, husable]; rfl)).trans ?_)
    have h2 : s2 = { s1 with pose := { s1.pose with baseObs := joinObs (msmObs e p) s1.pose.baseObs } } := if_pos husable
    show { s2 with pose := { s2.pose with corrAt := some e, corrStale := false } } = _
    rw [h2, he, h1]
    rfl
  rw [heq]
  exact ⟨rfl, rfl, rfl, rfl⟩

theorem feedRtcm_of_bias {p : List Byte} {s : State} (hno : rtcmNo p = 1230) (hl : s.pose.locked = true) (hst : s.pose.station = some (rtcmStation p)) :
    feedRtcm p s = { s with pose := { s.pose with gloBias := gloBiases p } } := by
  unfold feedRtcm
  simp only [hno, hl, hst]
  rw [if_neg (by decide), if_neg (by decide), if_pos (by simp)]

/-- The copy to the subscriber changes neither pose nor time. -/
theorem copied_frame (b : Bool) (f : List Byte) (s : State) : (if b then sendS1 0x02 f s else s).pose = s.pose ∧ (if b then sendS1 0x02 f s else s).time = s.time := by
  split
  · exact ⟨sendS1_pose .., sendS1_time ..⟩
  · exact ⟨rfl, rfl⟩

theorem takeS0_frame {ty : Nat} {p : Packet} {s t : State} (h : takeS0 ty s = some (p, t)) : ∃ x, t = { s with harbour := x } := by
  unfold takeS0 at h
  dsimp only at h
  split at h
  · cases h
  · split at h
    · cases h
    · cases h
      exact ⟨_, rfl⟩

theorem setIntegrity_pose (ok : Bool) (cause : Nat) (r : PoseRec) (s : State) : (setIntegrity ok cause r s).pose = { s.pose with integrity := ok } := by
  unfold setIntegrity
  dsimp only
  split
  · rfl
  · split <;> rw [raise_pose]

theorem emitRtcm_of_unsubscribed {fs : List (List Byte)} {s : State} (hsub : s.pose.corrSub = false) (hg : s.net.group = 0) : emitRtcm fs s = s := by
  unfold emitRtcm
  induction fs with
  | nil => rfl
  | cons f fs ih => simpa [hsub, hg] using ih

@[simp] theorem corrSetReady_pose (n : Nat) (b : List Byte) (s : State) : (corrSetReady n b s).pose = s.pose := corrSetReady_touches.same .pose (by decide)

/-- A sample that is not at full scale is taken, and the filter takes it (04 R149 to R151). -/
theorem imuSample_of_present {d : List Byte} {nav v : Nav} {s : State} {c : List Byte} (hc : s.pose.imuCfg = some c) (hl : s.pose.imuLost = false) (hn : s.pose.nav = some v)
    (hfull : ∀ k < 6, fullScale c (imuRaw c d k) = false) :
    let u := settle (doImuSample d nav s)
    u.pose.imuSample = imuBody c d ∧ u.pose.imuAt = some ((capTime 0 s : Int) - ns1 * iAt c 8 4).toNat ∧
      u.pose.imuCyc = s.time.cyc ∧ u.pose.imuSat = false ∧ u.pose.nav = some (imuNav v nav (dtNow s) s.pose) := by
  have hp' : (imuTransactions c s).pose = s.pose := imuTransactions_touches.same .pose (by decide)
  have hp : (firmwareCapture 2 false (capTime 0 s) (imuTransactions c s)).pose = s.pose := by
    rw [← hp']
    exact firmwareCapture_touches.same .pose (by decide)
  have ht : (imuTransactions c s).time = s.time := imuTransactions_touches.same .time (by decide)
  have hcyc : (firmwareCapture 2 false (capTime 0 s) (imuTransactions c s)).time.cyc = s.time.cyc := by
    obtain ⟨q, h⟩ := firmwareCapture_time 2 false (capTime 0 s) (imuTransactions c s)
    rw [h, ht]
  have hdt : dtNow (firmwareCapture 2 false (capTime 0 s) (imuTransactions c s)) = dtNow s := (dtNow_firmwareCapture ..).trans (dtNow_congr ht)
  have hsat : (List.range 6).any (fun k => fullScale c (imuRaw c d k)) = false :=
    List.any_eq_false.mpr (fun k hk => by simp [hfull k (List.mem_range.mp hk)])
  dsimp only
  simp only [settle_pose, doImuSample, hc, raiseIf_pose, hp, hn, hsat, hl, hcyc, hdt]
  exact ⟨rfl, rfl, rfl, rfl, rfl⟩

theorem headingLost_pose (h : Nat) (s : State) : (headingLost h s).pose = { s.pose with headingSrc := h } := by rw [headingLost, raiseIf_pose]

/-- What the engine sets as it enters DR (04 R161). -/
def drEntered (e : Nat) (s : State) : State :=
  raise { code := 0x0405, sev := 3, src := 2, p0 := stOf e } { runTo (e + 30 * ms1) s with pose := { (runTo (e + 30 * ms1) s).pose with solution := 5, drLimited := false } }

theorem drEntered_pose (e : Nat) (s : State) : (drEntered e s).pose = { s.pose with solution := 5, drLimited := false } := by rw [drEntered, raise_pose, runTo_pose]

theorem doDrStart_of_solved {s : State} {e : Nat} (he : s.pose.lastEpoch = some e) (hr : roleOf s = 0) (hfo : isFollower s = false) (hn : s.pose.nav.isSome = true)
    (h5 : s.pose.solution ≠ 5) (h0 : s.pose.solution ≠ 0) :
    doDrStart s = (let s2 := headingLost (if s.pose.headingSrc == 0 then 0 else if imuOk s.pose then 2 else 0) (drEntered e s)
      if imuOk s2.pose then s2 else setIntegrity false 2 (recAt s2 (dtNow s2)) { s2 with pose := { s2.pose with condFrom := none } }) := by
  unfold doDrStart
  simp only [he]
  rw [if_neg (by simp [hr, hfo, h5, h0, Option.isNone_eq_false_iff.mpr hn]), runTo_pose]
  rfl

theorem drStart_of_solved {s : State} {e : Nat} (he : s.pose.lastEpoch = some e) (hr : roleOf s = 0) (hfo : isFollower s = false) (hn : s.pose.nav.isSome = true)
    (h5 : s.pose.solution ≠ 5) (h0 : s.pose.solution ≠ 0) :
    let u := settle (doDrStart s)
    u.pose.solution = 5 ∧ (imuOk s.pose = false → u.pose.integrity = false) ∧ (imuOk s.pose = true → u.pose.integrity = s.pose.integrity) ∧
      u.pose.headingSrc = if s.pose.headingSrc ≠ 0 ∧ imuOk s.pose = true then 2 else 0 := by
  have hok : ∀ h : Nat, imuOk (headingLost h (drEntered e s)).pose = imuOk s.pose := fun h => by
    rw [headingLost_pose, drEntered_pose]
    rfl
  dsimp only
  rw [settle_pose, doDrStart_of_solved he hr hfo hn h5 h0]
  dsimp only
  rw [hok]
  cases hi : imuOk s.pose
  · rw [if_neg (by decide), setIntegrity_pose, headingLost_pose, drEntered_pose]
    simp
  · rw [if_pos rfl, headingLost_pose, drEntered_pose]
    simp

/-- The frames of a station interval (04 R167). -/
def stationSent (biases : List Byte) (v : State) : State :=
  let glo := if systemOn v 1 then [rtcmWrap (packBits [(12, (1230 : Int)), (12, (v.pose.baseStation : Int))] ++ biases)] else []
  let fs := rtcmWrap (stationMessage v) :: glo
  emitRtcm fs { v with pose := { v.pose with stationAt := some (dtNow v), stationOut := v.pose.stationOut ++ fs.flatten } }

theorem doStationInterval_of_set {b : List Byte} {s : State} (hr : roleOf s = 1) (h2 : s.pose.baseSt = 2) :
    ∃ v : State, (v.pose = s.pose ∧ v.gnss = s.gnss ∧ v.net = s.net) ∧ doStationInterval b s = stationSent b v := by
  unfold doStationInterval
  rw [if_neg (by simp [hr, h2])]
  cases s.pose.stationAt with
  | none => exact ⟨s, ⟨rfl, rfl, rfl⟩, rfl⟩
  | some t => exact ⟨_, ⟨runTo_pose .., runTo_gnss .., runTo_net ..⟩, rfl⟩

theorem stationInterval_of_unsubscribed {b : List Byte} {s : State} (hr : roleOf s = 1) (h2 : s.pose.baseSt = 2) (hsub : s.pose.corrSub = false) (hg : s.net.group = 0)
    (hsys : systemOn s 1 = false) :
    let u := settle (doStationInterval b s)
    ∃ v : State, v.pose = s.pose ∧ u.pose.stationOut = s.pose.stationOut ++ rtcmWrap (stationMessage v) ∧ u.pose.stationAt.isSome = true := by
  obtain ⟨v, ⟨hp, hgn, hnet⟩, hv⟩ := doStationInterval_of_set (b := b) hr h2
  have hsys' : systemOn v 1 = false := by rwa [systemOn, hgn, ← systemOn]
  refine ⟨v, hp, ?_⟩
  rw [settle_pose, hv, stationSent, hsys', emitRtcm_of_unsubscribed]
  · rw [← hp]
    exact ⟨by simp, rfl⟩
  · rw [← hp] at hsub
    exact hsub
  · rw [← hnet] at hg
    exact hg

/-- Settles O26. -/
theorem poseEvents : Obligations.PoseEvents := by
  unfold Obligations.PoseEvents
  refine ⟨fun sol s hok href hle hr hfa hex hav hcu hfx hn => ?_, fun sol s hok href hle hr h => ?_, fun t s hok => ?_, fun s f r hr hin hsrc hp => ?_,
    fun s f p r hr hin hsrc hp hm h5 h6 h30 => ?_, fun s f p r hr hin hsrc hp hno => ?_, fun s f p r hr hin hsrc hp hm hl hst hage hnew => ?_, fun s f p r hr hin hsrc hp hno hl hst => ?_,
    fun s t k p hr hk hsrc hp hno => ?_, fun s h hr => ?_, fun s a hc hst hr hsol => ?_, fun d nav v s c hc hl hn hfull => ?_, fun s c hc hl => ?_,
    fun s e he hr hfo hn h5 h0 => ?_, fun s e he h5 hl => ?_, fun s h1 hr => ?_, fun hdr s hr h2 hsub hg hsf => ?_, fun b s hr h2 hsub hg hsys => ?_⟩
  · refine reaches_done rfl ?_
    have hreset : applyReset sol s = s := by simp [applyReset, hr]
    obtain ⟨dv, happ⟩ := applyEpoch_of_single (s := { s with pose := { s.pose with excluded := (s.pose.excluded + min 2 sol.excl.length) % 2 ^ 32 } }) hav hcu
    have heq : doEpoch sol s = applyEpoch sol { s with pose := { s.pose with excluded := (s.pose.excluded + min 2 sol.excl.length) % 2 ^ 32 } } := by
      rw [doEpoch, if_neg (by simp [hok, href]), if_neg (by simpa using hle), hreset]
      dsimp only
      rw [if_neg (by simp [hfa, hav]; omega)]
    rw [settle_pose, heq, happ, noCarrier_of_unfixed]
    · exact finishEpoch_pose hn
    · exact hfx
  · show done (doEpoch sol s) = _
    have hreset : applyReset sol s = s := by simp [applyReset, hr]
    rw [doEpoch, if_neg (by simp [hok, href]), if_neg (by simpa using hle), hreset]
    dsimp only
    rw [if_pos (by rcases h with h | h <;> simp [h])]
    rfl
  · refine reaches_done (u := doEpochLate t s) ?_ ?_
    · show done (if epochOk t s then doEpochLate t s else s) = _
      rw [if_pos hok]
    · simp [doEpochLate]
  · show done (doRtcmFrame false s) = _
    rw [doRtcmFrame_of_radio hr hin, rtcmTake, if_neg (by rw [sourceTakes_rtcmIn, hsrc]; decide), hp]
    rfl
  · show done (doRtcmFrame false s) = _
    rw [doRtcmFrame_of_radio hr hin, rtcmTake, if_neg (by rw [sourceTakes_rtcmIn, hsrc]; decide), hp]
    dsimp only
    rw [if_pos (by simp [hm, h5, h6, h30])]
    rfl
  · refine reaches_done rfl ?_
    rw [settle_pose, doRtcmFrame_of_feed hr hin hsrc hp (Or.inr (hno.imp_right Or.inl))]
    obtain ⟨h1, h2, h3⟩ := feedRtcm_of_station hno
    rw [h1, (copied_frame ..).1]
    exact ⟨rfl, h2, h3⟩
  · refine reaches_done rfl ?_
    rw [settle_pose, doRtcmFrame_of_feed hr hin hsrc hp (Or.inl hm)]
    obtain ⟨hcp, hct⟩ := copied_frame s.pose.corrSub f { s with pose := { s.pose with rtcmIn := r } }
    have he := msmEpoch_congr hct p
    obtain ⟨h1, h2, h3, h4⟩ := feedRtcm_of_msm (s := if s.pose.corrSub then sendS1 0x02 f { s with pose := { s.pose with rtcmIn := r } } else { s with pose := { s.pose with rtcmIn := r } })
      hm (by rw [hcp]; exact hl) (by rw [hcp]; exact hst) (by rw [he, hcp, dtNow_congr hct]; exact hage) (by rw [he, hcp]; exact hnew)
    rw [he] at h2 h4
    rw [hcp] at h1 h4
    exact ⟨h1, h2, h3, h4⟩
  · refine reaches_done rfl ?_
    rw [settle_pose, doRtcmFrame_of_feed hr hin hsrc hp (Or.inr (Or.inr (Or.inr hno)))]
    have hcp := (copied_frame s.pose.corrSub f { s with pose := { s.pose with rtcmIn := r } }).1
    rw [feedRtcm_of_bias hno (by rw [hcp]; exact hl) (by rw [hcp]; exact hst)]
    exact ⟨congrArg PoseSt.rtcmIn hcp, rfl⟩
  · refine reaches_done rfl ?_
    obtain ⟨x, rfl⟩ := takeS0_frame hk
    have heq : doRtcmFrame true s = rtcmTake true k.payload { s with harbour := x } := by simp [doRtcmFrame, hr, hk]
    rw [settle_pose, heq, rtcmTake_of_feed (s := { s with harbour := x }) hsrc hp (Or.inr (hno.imp_right Or.inl))]
    exact (feedRtcm_of_station hno).2
  · show done (doRtcmFrame h s) = _
    simp [doRtcmFrame, hr, done]
  · refine reaches_done rfl ?_
    simp only [settle_pose, doCorrStale, hc]
    rw [if_neg (by simp [hst, hr])]
    simp [hsol]
  · refine reaches_done rfl ?_
    exact imuSample_of_present hc hl hn hfull
  · refine reaches_done rfl ?_
    simp only [settle_pose, settle_time, doImuLost, hc, hl]
    rw [if_neg (by decide), raise_pose, raise_time]
    exact ⟨rfl, le_runToCyc_cyc ..⟩
  · refine reaches_done rfl ?_
    exact drStart_of_solved he hr hfo hn h5 h0
  · refine reaches_done rfl ?_
    simp [doDrLimit, he, h5, hl]
  · refine reaches_done rfl ?_
    rw [settle_pose, settle_time, doSurveyFailed, if_neg (by simp [h1, hr])]
    dsimp only
    rw [raise_pose, raise_time]
    exact ⟨by rw [runToCyc_pose], le_runToCyc_cyc ..⟩
  · refine reaches_done rfl ?_
    rw [settle_pose, doCorrectionInterval, if_neg (by simp [hr, h2]), hsf]
    dsimp only
    rw [corrSetReady_pose, emitRtcm_of_unsubscribed (by simpa using hsub) (by simpa using hg), runTo_pose, runTo_gnss]
  · refine reaches_done rfl ?_
    exact stationInterval_of_unsubscribed hr h2 hsub hg hsys

end Sys2Proof.Proofs

namespace Sys2Proof.Proofs
open Sys2Proof Sys2Proof.Machine Sys2Proof.Safety

/-! ## The POSE and BASE commands -/

theorem leastErased_isSome {l : List (Nat × Nat)} (h : l ≠ []) : ∃ e, leastErased l = some e := by
  cases l with
  | nil => exact absurd rfl h
  | cons a r =>
    unfold leastErased
    split
    · exact ⟨_, rfl⟩
    · exact ⟨_, rfl⟩

/-- A record is written while an erased segment stands beyond the reserve, without a power-fail warning or a program fault (16 R583, R586). -/
theorem journalPut_of_room {w : JWrite} {s : State} (hp : s.power.pfwAt = none) (he : 3 ≤ s.journal.erased.length) (hf : s.journal.progFault = false) : (journalPut w s).1 = true := by
  obtain ⟨e, hl⟩ := leastErased_isSome (l := s.journal.erased) (by rintro h; rw [h] at he; simp at he)
  have hroom : ∀ r : JRec, ∃ j, jAppend r s.journal = some j := fun r => by
    unfold jAppend
    dsimp only
    split
    · split
      · exact ⟨_, rfl⟩
      · rw [hl]
        exact ⟨_, rfl⟩
    · rw [hl]
      exact ⟨_, rfl⟩
  obtain ⟨j, hj⟩ := hroom { type := w.type, key := w.key, schema := w.schema, seq := s.journal.nextSeq, payload := w.payload, tagLc := lifeCycle s, prio := w.prio }
  simp [journalPut, jWrite, hp, hf, hj, show ¬ s.journal.erased.length ≤ 2 by omega]

/-- POSE_IMU_CONFIG with its parameters in range turns on the installation alone (04 R149, R150). -/
theorem poseImuConfig_of_ranges {p : List Byte} {s : State} (h0 : uAt p 0 1 = 0 ∨ uAt p 0 1 = 3) (h1 : within 1 100 (uAt p 1 1) = true) (h2 : uAt p 2 1 ≤ 2)
    (h3 : within 1 4 (uAt p 3 1) = true) (h4 : within 100 2000 (uAt p 4 2) = true) (hz6 : zeros p 6 2 = true) (h18 : uAt p 18 1 ≤ 2) (h19 : uAt p 19 1 ≤ 1)
    (h28 : uAt p 28 1 < 64) (h29 : uAt p 29 1 < 8) (hz30 : zeros p 30 2 = true) (hax : ∀ k < 3, uAt p 28 1 / 4 ^ k % 4 < 3) :
    poseImuConfig p s = if s.pose.install.isNone then refuse 0x0480 s else if !s.pose.imuPresent then refuse 0x0481 s
      else ok { s with pose := { s.pose with imuCfg := some (p.take 44), imuCyc := s.time.cyc, imuAt := none, imuRun := 0, imuLost := false } } := by
  have hmap : ([0, 1, 2].all fun k => decide (uAt p 28 1 / 4 ^ k % 4 < 3)) = true :=
    List.all_eq_true.mpr (fun k hk => decide_eq_true (hax k (by simp at hk; omega)))
  have hbus : (uAt p 0 1 == 0 || uAt p 0 1 == 3) = true := by simpa using h0
  rw [poseImuConfig, if_neg]
  simp only [hbus, hmap, h1, h2, h3, h4, hz6, h18, h19, h28, h29, hz30]
  decide

/-- The selection of the correction source stays. -/
structure SourceKept (s t : State) : Prop where
  corrSource : t.pose.corrSource = s.pose.corrSource
  corrAgeMs : t.pose.corrAgeMs = s.pose.corrAgeMs
  corrStation : t.pose.corrStation = s.pose.corrStation

theorem SourceKept.ite {b : Prop} [Decidable b] {s t u : State} (ht : SourceKept s t) (hu : SourceKept s u) : SourceKept s (if b then t else u) := by
  split
  · exact ht
  · exact hu

theorem SourceKept.after {s t u : State} (h : SourceKept t u) (h' : SourceKept s t) : SourceKept s u := by
  obtain ⟨h1, h2, h3⟩ := h
  obtain ⟨h1', h2', h3'⟩ := h'
  exact ⟨h1.trans h1', h2.trans h2', h3.trans h3'⟩

theorem baseChanged_source (old new : Nat) (s : State) : SourceKept s (baseChanged old new s) := by
  unfold baseChanged releaseFix
  dsimp only
  constructor <;> rw [raise_pose, raiseIf_pose]

theorem tryLock_source (id : Nat) (s : State) : SourceKept s (tryLock id s) := by
  unfold tryLock
  refine .ite ⟨rfl, rfl, rfl⟩ ?_
  cases s.pose.station with
  | none => exact ⟨rfl, rfl, rfl⟩
  | some old => exact .ite ⟨rfl, rfl, rfl⟩ ((baseChanged_source ..).after ⟨rfl, rfl, rfl⟩)

/-- BASE_REF_SET takes the reference where the journal has room and no solution contradicts it (04 R164). -/
theorem baseRefSet_of_room {p : List Byte} {s : State} (h26 : uAt p 26 2 ≤ 4095) (hst : s.pose.standalone = none) (hp : s.power.pfwAt = none)
    (he : 3 ≤ s.journal.erased.length) (hf : s.journal.progFault = false) :
    (baseRefSet p s).1 = .now stOk [] ∧ (baseRefSet p s).2.pose.baseSt = 2 ∧ (baseRefSet p s).2.pose.baseXyz = (iAt p 0 8, iAt p 8 8, iAt p 16 8) ∧
    (baseRefSet p s).2.pose.baseHeight = uAt p 24 2 ∧ (baseRefSet p s).2.pose.baseStation = uAt p 26 2 := by
  have hj := journalPut_of_room (w := { type := 1, key := settingKey 2 0, payload := p.take 28, prio := 5, schema := s.update.schema }) hp he hf
  unfold baseRefSet
  rw [hst]
  dsimp only
  rw [if_neg (by omega), if_neg (by decide)]
  split
  next h => rw [h] at hj; cases hj
  next h => exact ⟨rfl, rfl, rfl, rfl, rfl⟩

/-- Settles O27. -/
theorem poseAndBaseCommands : Obligations.PoseAndBaseCommands := by
  unfold Obligations.PoseAndBaseCommands
  refine ⟨⟨fun c s p ha hp h15 h3 hoff hv => ?_, fun c s p ha hp h1 h2 h3 h4 h5 h6 h7 => ?_, fun c s p ha hp h1 h2 h3 h4 h5 h6 h7 => ?_,
    fun c s p ha hp h0 h1 h2 h3 h4 hz6 h18 h19 h28 h29 hz30 hax hi him => ?_, fun c s p ha hp h0 h1 h2 h3 h4 hz6 h18 h19 h28 h29 hz30 hax hi => ?_,
    fun c s p ha hp h0 h1 h6 => ?_, fun c s p ha hp h0 hz h4 h8 => ?_, fun c s ha => answers_command rfl ha rfl, fun c s ha h => ?_, fun c s p r ha hp hd hr hin => ?_,
    fun c s p r ha hp hd hr hin => ?_, fun c s ha h1 hoff => ?_, fun c s p ha hp h4 hz hpcv => ?_, fun c s ha h => ?_, fun c s ha h h' => ?_⟩,
    fun c s p ha hp h26 hst hpf her hpr => ?_, fun c s p q ha hp h26 hst hfar => ?_, fun c s p ha hp h0 h4 h8 => ?_, fun c s p ha hp h0 h1 h2 => ?_⟩
  · subst hp
    refine answers_command rfl ha ?_
    have hvec : bit (uAt (prmOf c) 37 1) 0 = true → vecAllowed ((List.range 9).map (fun k => iAt (prmOf c) (4 * k) 4)) = true := fun h1 => by
      obtain ⟨hlo, hhi⟩ := hv _ _ _ rfl rfl rfl h1
      simp [vecAllowed, vecOf]
      omega
    rw [poseInstallSet, if_neg, if_neg (by simp [hoff])]
    · rfl
    · rw [Bool.not_eq_true, Bool.or_eq_false_iff, Bool.or_eq_false_iff]
      refine ⟨⟨decide_eq_false (by omega), decide_eq_false (by omega)⟩, ?_⟩
      cases hb : bit (uAt (prmOf c) 37 1) 0 with
      | false => rfl
      | true => simp [hvec hb]
  · subst hp
    refine answers_command rfl ha ?_
    rw [poseFilterConfig, if_neg (by simp [h1, h2, h3, h4, h5, h6, h7])]
    rfl
  · subst hp
    refine answers_command rfl ha ?_
    rw [poseIntegrityConfig, if_neg (by simp [h1, h2, h3, h4, h5, h6, h7])]
    rfl
  · subst hp
    refine answers_command rfl ha ?_
    rw [poseImuConfig_of_ranges h0 h1 h2 h3 h4 hz6 h18 h19 h28 h29 hz30 hax, if_neg (by simp [Option.isNone_eq_false_iff.mpr hi]), if_neg (by simp [him])]
    rfl
  · subst hp
    refine answers_command rfl ha ?_
    rw [poseImuConfig_of_ranges h0 h1 h2 h3 h4 hz6 h18 h19 h28 h29 hz30 hax]
    cases hins : s.pose.install with
    | none => rfl
    | some l =>
      have him : s.pose.imuPresent = false := by simpa [hins] using hi
      rw [him]
      rfl
  · subst hp
    refine answers_command rfl ha ?_
    rw [poseImuReadSet, if_neg (by simp [h1, h6]; omega)]
    rfl
  · subst hp
    have hb : poseCorrConfig (prmOf c) s = ok (tryLock (uAt (prmOf c) 8 2) { s with pose := { s.pose with
        corrSource := uAt (prmOf c) 0 1, corrAgeMs := uAt (prmOf c) 4 4, corrStation := uAt (prmOf c) 8 2,
        locked := s.pose.locked && (uAt (prmOf c) 8 2 == 0xFFFF || s.pose.station == some (uAt (prmOf c) 8 2)) } }) := by
      unfold poseCorrConfig
      dsimp only
      rw [if_neg (by rcases h8 with h8 | h8 <;> simp [hz, h4, h0, h8])]
    refine oks_command rfl ha (congrArg Prod.fst hb) ?_
    rw [hb]
    obtain ⟨hsource, hage, hstation⟩ := tryLock_source (uAt (prmOf c) 8 2) _
    exact ⟨hsource, hage, hstation⟩
  · refine answers_command rfl ha ?_
    rw [poseSubscribe, if_neg (by omega)]
    rfl
  · subst hp
    refine answers_command rfl ha ?_
    simp [poseAtBody, hd, hr, hin]
    rfl
  · subst hp
    refine answers_command rfl ha ?_
    simp [poseAtBody, hd, hr, hin, refuse]
  · refine answers_command rfl ha ?_
    rw [poseReset, if_neg (by omega), if_neg (by simp [hoff])]
    rfl
  · subst hp
    refine answers_command rfl ha ?_
    unfold posePcvLoad
    dsimp only
    rw [if_neg (by simp [hz, h4]), if_neg (by simp [hpcv]), hpcv]
    rfl
  · refine answers_command rfl ha ?_
    rw [poseCorrSubscribe, if_neg (by omega)]
    rfl
  · refine answers_command rfl ha ?_
    rw [poseNmeaSubscribe, if_neg (by simp [h, h'])]
    rfl
  · subst hp
    obtain ⟨hb, h⟩ := baseRefSet_of_room h26 hst hpf her hpr
    exact oks_command rfl ha hb h
  · subst hp
    refine answers_command rfl ha ?_
    simp [baseRefSet, hst, hfar, refuse]
    omega
  · subst hp
    refine answers_command rfl ha ?_
    rw [baseSurveyStart, if_neg (by simp [h0, h4, h8])]
    rfl
  · subst hp
    refine answers_command rfl ha ?_
    rw [baseCorrConfig, if_neg (by simp [h0, h1, h2])]
    rfl

end Sys2Proof.Proofs

namespace Sys2Proof.Proofs
open Sys2Proof Sys2Proof.Machine Sys2Proof.Safety

/-! ## The tasks of a tide -/

/-- Suppressing spots marks the spots alone. -/
theorem suppress_cell (l : List (Nat × Nat)) (s : State) : ∃ x, (suppress l s).cell = { s.cell with spots := x } := by
  unfold suppress
  refine List.foldlRecOn (motive := fun (st : State) => ∃ x, st.cell = { s.cell with spots := x }) _ _ ⟨_, rfl⟩ fun st ⟨x, hx⟩ e _ => ?_
  split
  · exact ⟨x, hx⟩
  · rw [raise_cell, hx]
    exact ⟨_, rfl⟩

theorem spotsAtCommit_cell (late : Bool) (b : Nat) (s : State) : ∃ x, (spotsAtCommit late b s).cell = { s.cell with spots := x } := by
  unfold spotsAtCommit
  dsimp only
  refine List.foldlRecOn (motive := fun (st : State) => ∃ x, st.cell = { s.cell with spots := x }) _ _ (suppress_cell ..) fun st ⟨x, hx⟩ e _ => ?_
  rw [raise_cell, hx]
  exact ⟨_, rfl⟩

theorem traceTide_cell (late rep off : Bool) (slack : Int) (work : Nat) (s : State) : ∃ x, (traceTide late rep off slack work s).cell = { s.cell with traceN := x } := by
  unfold traceTide
  split
  · exact ⟨_, rfl⟩
  · dsimp only
    split
    · exact ⟨_, rfl⟩
    · rw [sendS1_cell]
      exact ⟨_, rfl⟩

theorem endManuals_cell (cause : Nat) (l : List Manual) (s : State) : ∃ x, (l.foldl (fun st m => endManual cause m st) s).cell = { s.cell with manuals := x } := by
  refine List.foldlRecOn (motive := fun (st : State) => ∃ x, st.cell = { s.cell with manuals := x }) _ _ ⟨_, rfl⟩ fun st ⟨x, hx⟩ m _ => ?_
  rw [endManual, raise_cell, hx]
  exact ⟨_, rfl⟩

/-- What an all-off commit leaves of the cells. -/
structure AllOff (s : State) : Prop where
  decided : s.cell.decided = true
  frame : s.cell.frame = []
  nextOn : s.cell.nextOn = false
  cellsOn : s.cell.cellsOn = 0
  cells : anyCellOn s = false

/-- The spot cells and the trace do not matter to it. -/
theorem AllOff.of_cell {s t : State} {x : CellSt} (ht : t.cell = x) (h : AllOff { s with cell := x }) : AllOff t := by
  obtain ⟨hd, hf, hn, hc, hoff⟩ := h
  subst ht
  exact ⟨hd, hf, hn, hc, hoff⟩

theorem AllOff.of_spots {s t : State} (ht : ∃ x, t.cell = { s.cell with spots := x }) (h : AllOff s) : AllOff t := by
  obtain ⟨x, ht⟩ := ht
  exact .of_cell (s := s) ht ⟨h.decided, h.frame, h.nextOn, h.cellsOn, h.cells⟩

theorem AllOff.of_trace {s t : State} (h : AllOff s) (ht : ∃ x, t.cell = { s.cell with traceN := x }) : AllOff t := by
  obtain ⟨x, ht⟩ := ht
  exact .of_cell (s := s) ht ⟨h.decided, h.frame, h.nextOn, h.cellsOn, h.cells⟩

theorem commitFrame_of_off {late : Bool} {k b : Nat} {s : State} (hd : s.cell.decided = true) : AllOff (commitFrame late (some k) b s) := by
  have hdec : ∀ (l : List (Nat × Nat)) (v : State), v.cell.decided = true → (suppress l v).cell.decided = true := fun l v hv => by
    obtain ⟨x, hx⟩ := suppress_cell l v
    rw [hx]
    exact hv
  unfold commitFrame commitAllOff
  refine ⟨hdec _ _ ?_, rfl, rfl, rfl, ?_⟩
  · split
    · obtain ⟨x, hx⟩ := endManuals_cell 1 s.cell.manuals s
      rw [hx]
      exact hd
    · exact hd
  · rw [anyCellOn, List.any_eq_false]
    intro e he
    obtain ⟨y, -, rfl⟩ := List.mem_map.mp he
    simp

/-- The commit under a stop is the all-off frame (05 R175). -/
theorem doCommitDeadline_of_stop {pace cap less b : Nat} {s : State} (hb : s.time.lastBoundary = some b) (hd : s.cell.decided = false) (hr : roleOf s = 0)
    (hp : s.power.st = .spring) (hstop : stopInForce s = true) : AllOff (doCommitDeadline pace cap less s) := by
  unfold doCommitDeadline
  rw [hb]
  refine iteInduction (fun h => ?_) fun _ => ?_
  · simp [hd, hr, hp] at h
  extract_lets p tcd s1 late slack _ c s2 off _ s3
  have hs1 : s1.stop = s.stop := (show s1.stop = (runTo tcd s).stop from safeCheck_touches.same .stop (by decide)).trans (runTo_stop ..)
  have hs2 : s2.stop = s.stop := by
    have h : Touches [.out, .harbour, .cell, .journal, .power, .recorder] s1 s2 :=
      .ite .refl (.ite (lateTide_touches.after (.setCell .refl)) (onTimeTide_touches.after (.setCell .refl)))
    exact (show s2.stop = s1.stop from h.same .stop (by decide)).trans hs1
  have hoff : off = some 1 := by
    have hstop2 : stopInForce s2 = true := by rwa [stopInForce, hs2, ← stopInForce]
    simp only [off, allOffCause, hstop2, if_true, Option.some_or]
  have h3 : AllOff s3 := by
    refine AllOff.of_spots (spotsAtCommit_cell ..) ?_
    rw [hoff]
    exact commitFrame_of_off rfl
  exact h3.of_trace (traceTide_cell ..)

/-- Reporting a clamped rate changes the table alone. -/
theorem clampReport_cell (ix : Nat) (raw : Option Int) (s : State) : ∃ x, (clampReport ix raw s).cell = { s.cell with cells := x } := by
  unfold clampReport
  split
  · dsimp only
    rw [raiseIf_cell]
    exact ⟨_, rfl⟩
  · exact ⟨_, rfl⟩

theorem doCellEval_of_one {loop pos b ix : Nat} {c : Cell} {r : PoseRec} {s : State} (hb : nextB s = some b) (hr : s.pose.ref = some r) (ht : tasksRun s = true)
    (hev : s.cell.evaled.contains (64 * loop + pos) = false)
    (hcs : s.cell.snap.filter (fun e => bit e.2.flags 0 && e.2.channel / 8 % 1024 == 64 * loop + pos) = [(ix, c)]) (hbat : (poseInstants s b c).all (batchDone s) = true)
    (hrd : readsReady s r b c = true) :
    doCellEval loop pos [] s = (let x := evalCell s r b ix c
      suppress x.2.1 (clampReport x.1.cell x.2.2 { s with cell := { s.cell with evaled := s.cell.evaled ++ [64 * loop + pos], results := s.cell.results ++ [x.1] } })) := by
  unfold doCellEval
  simp only [hb, hr, hcs]
  rw [if_neg (by simp only [ht, hev, List.isEmpty_cons, List.all_cons, hbat, List.all_nil]; decide), List.foldl_nil, if_neg (by simp [hrd])]
  rfl

/-- The words of results packed into a frame (05 R202). -/
def packWords (b : Nat) (l : List CellRes) (acc : Tab Nat × State) : Tab Nat × State :=
  l.foldl (fun acc x => (tset acc.1 x.channel (packWord b x acc.2).1, (packWord b x acc.2).2)) acc

/-- A loop's frame packed (05 R202). -/
def framePacked (n : Nat) (r : Tab Nat × State) : State := { r.2 with cell := { r.2.cell with packed := r.2.cell.packed ++ [(n, r.1)] } }

/-- Packing the words of some results gives each of them a word, and keeps those packed before; the cells stay. -/
theorem packWords_isSome (b : Nat) (l : List CellRes) (acc : Tab Nat × State) :
    (packWords b l acc).2.cell = acc.2.cell ∧ ∀ k, ((tget acc.1 k).isSome = true ∨ ∃ x ∈ l, x.channel = k) → (tget (packWords b l acc).1 k).isSome = true := by
  induction l generalizing acc with
  | nil => exact ⟨rfl, fun k h => h.resolve_right (by simp)⟩
  | cons x l ih =>
    obtain ⟨hc, hk⟩ := ih (tset acc.1 x.channel (packWord b x acc.2).1, (packWord b x acc.2).2)
    refine ⟨hc.trans (packWord_touches.same .cell (by decide)), fun k h => hk k ?_⟩
    rw [tget_tset]
    by_cases hx : x.channel = k
    · simp [hx]
    · rw [if_neg hx]
      rcases h with h | ⟨y, hy, hyk⟩
      · exact Or.inl h
      · rcases List.mem_cons.mp hy with rfl | hy
        · exact absurd hyk hx
        · exact Or.inr ⟨y, hy, hyk⟩

theorem sendDelta_of_alone {n : Nat} {tx ty : Int} {tide : Nat} {runs : List (Nat × Nat × Nat)} {s : State} (hg : s.net.group = 0) : sendDelta n tx ty tide runs s = s := by
  cases n with
  | zero => rfl
  | succ n =>
    cases runs with
    | nil => rfl
    | cons r rs => simp [sendDelta, hg]

/-- A plane with the credits of a tide (05 R203). -/
def credited (ks : List Nat) (tide cyc : Nat) (p : Plane) : Plane :=
  { p with cache := some (creditData ks p.newest), dirtyFrom := some (p.dirtyFrom.getD cyc), dirtyExp := true, lastCredit := tide }

theorem creditTile_of_present {tx ty : Int} {tide : Nat} {ks : List Nat} {s : State} (hin : inExtent s tx ty = true) (hp : (planeOf s 0 tx ty).isSome = true) :
    creditTile tx ty tide ks s = setPlane 0 tx ty (credited ks tide s.time.cyc) s := by
  unfold creditTile
  rw [if_neg (by simp [hin])]
  dsimp only
  rw [if_pos hp]
  rfl

theorem planeOf_setPlane {layer : Nat} {tx ty : Int} {f : Plane → Plane} (hf : ∀ p, (f p).at_ layer tx ty = p.at_ layer tx ty) (s : State) :
    planeOf (setPlane layer tx ty f s) layer tx ty = (planeOf s layer tx ty).map f := by
  unfold planeOf setPlane
  dsimp only
  rw [List.find?_map]
  have hfun : ((fun p : Plane => p.at_ layer tx ty) ∘ fun p => if p.at_ layer tx ty then f p else p) = fun p => p.at_ layer tx ty := by
    funext p
    dsimp only [Function.comp]
    split
    · exact hf p
    · rfl
  rw [hfun]
  cases h : s.raster.planes.find? (fun p => p.at_ layer tx ty) with
  | none => rfl
  | some p => simp [show p.at_ layer tx ty = true from List.find?_some (p := fun p : Plane => p.at_ layer tx ty) h]

/-- Settles O28. -/
theorem cellTaskEvents : Obligations.CellTaskEvents := by
  unfold Obligations.CellTaskEvents
  refine ⟨fun t b s ht hb hask => ?_, fun loop pos b ix c r s hb hr ht hev hcs hbat hrd => ?_, fun n b s hb ht hne hall hpk => ?_, fun s ht hg hall => ?_,
    fun pace cap less b s hb hd hr hp hstop => ?_, fun tx ty tide ks s hw hin hg hpl => ?_, fun m k s hm hk => ?_⟩
  · show done (doPoseBatch t s) = _
    simp only [doPoseBatch, hb, ht, hask, done]
    rfl
  · refine reaches_done rfl ?_
    obtain ⟨x, hx⟩ := suppress_cell (evalCell s r b ix c).2.1 (clampReport (evalCell s r b ix c).1.cell (evalCell s r b ix c).2.2
      { s with cell := { s.cell with evaled := s.cell.evaled ++ [64 * loop + pos], results := s.cell.results ++ [(evalCell s r b ix c).1] } })
    obtain ⟨y, hy⟩ := clampReport_cell (evalCell s r b ix c).1.cell (evalCell s r b ix c).2.2
      { s with cell := { s.cell with evaled := s.cell.evaled ++ [64 * loop + pos], results := s.cell.results ++ [(evalCell s r b ix c).1] } }
    rw [settle_cell, doCellEval_of_one hb hr ht hev hcs hbat hrd]
    dsimp only
    rw [hx, hy]
    exact ⟨rfl, rfl⟩
  · refine reaches_done rfl ?_
    have hall' : ((cellNodes s.cell.snap).filter (fun k => k / 64 == n)).all (fun k => s.cell.evaled.contains k) = true :=
      List.all_eq_true.mpr (fun k hk => by
        obtain ⟨h1, h2⟩ := List.mem_filter.mp hk
        simpa using hall k h1 (by simpa using h2))
    obtain ⟨hc, hk⟩ := packWords_isSome b (s.cell.results.filter (fun x => chLoop x.channel == n)) ([], s)
    have heq : doFramePack n s = framePacked n (packWords b (s.cell.results.filter (fun x => chLoop x.channel == n)) ([], s)) := by
      unfold doFramePack
      simp only [hb]
      rw [if_neg (by rw [ht, hpk, hall', List.isEmpty_eq_false_iff.mpr hne]; decide)]
      rfl
    rw [settle_cell, heq, framePacked]
    dsimp only
    rw [hc]
    exact ⟨_, rfl, fun x hx hn => hk _ (Or.inr ⟨x, List.mem_filter.mpr ⟨hx, by simp [hn]⟩, rfl⟩)⟩
  · show done (doCommitGate s) = _
    have hall' : (cellLoops s.cell.snap).all (fun n => s.cell.packed.any (·.1 == n)) = true := List.all_eq_true.mpr hall
    rw [doCommitGate, if_pos (by rw [ht, hg, hall']; rfl)]
    rfl
  · refine reaches_done rfl ?_
    obtain ⟨hdecided, hframe, hnext, hon, hoff⟩ := doCommitDeadline_of_stop (pace := pace) (cap := cap) (less := less) hb hd hr hp hstop
    rw [anyCellOn] at hoff
    rw [anyCellOn, settle_cell]
    exact ⟨hdecided, hframe, hnext, hon, hoff⟩
  · refine reaches_done rfl ?_
    obtain ⟨p, hp, hcache⟩ := hpl
    have hready : creditReady tx ty s = true := by simp only [creditReady, hp, hcache]
    have heq : doWriteback tx ty s = setPlane 0 tx ty (credited ks tide s.time.cyc) { s with cell := { s.cell with writes := s.cell.writes.erase (tx, ty, tide, ks) } } := by
      unfold doWriteback
      rw [hw]
      dsimp only
      rw [if_neg (by simp [hready]), creditTile_of_present]
      · split
        · exact sendDelta_of_alone hg
        · rfl
      · exact hin
      · exact congrArg Option.isSome hp
    have hplane : planeOf (settle (doWriteback tx ty s)) 0 tx ty = (planeOf s 0 tx ty).map (credited ks tide s.time.cyc) := by
      rw [planeOf, settle_raster, heq]
      exact planeOf_setPlane (f := credited ks tide s.time.cyc) (fun _ => rfl) _
    rw [hplane, settle_cell, heq, hp]
    exact ⟨rfl, rfl, rfl⟩
  · refine reaches_done rfl ?_
    have heq : doManualEnd m.cell s = endManual 0 m (runToCyc (k + cycMs m.ms) s) := by simp only [doManualEnd, hm, hk]
    rw [settle_cell, settle_time, heq, endManual, raise_cell, raise_time]
    exact ⟨by rw [runToCyc_cell], le_runToCyc_cyc ..⟩

end Sys2Proof.Proofs

namespace Sys2Proof.Proofs
open Sys2Proof Sys2Proof.Machine Sys2Proof.Safety

/-! ## The CELL commands -/

@[simp] theorem leI_length (n : Nat) (v : Int) : (leI n v).length = n := by simp [leI]

theorem tget_tdel {α : Type} (t : Tab α) (j k : Nat) : tget (tdel t j) k = if k = j then none else tget t k := by
  induction t with
  | nil => simp [tdel, tget]
  | cons e r ih =>
    obtain ⟨a, v⟩ := e
    rw [tdel] at ih ⊢
    by_cases ha : a = j
    · subst ha
      rw [List.filter_cons_of_neg (by simp), ih]
      by_cases hk : k = a
      · simp [hk]
      · simp [hk, tget, Ne.symm hk]
    · rw [List.filter_cons_of_pos (by simpa using ha)]
      by_cases hk : a = k
      · subst hk
        simp [tget, ha]
      · simp only [tget, beq_eq_false_iff_ne.mpr hk]
        exact ih

theorem trimCache_jobOpen (s : State) : jobOpen (trimCache s) = jobOpen s := rfl

theorem cellEdited_frame (s : State) : ∃ a n h, (cellEdited s).cell = { s.cell with armed := a, snap := n, held := h } ∧ jobOpen (cellEdited s) = jobOpen s := by
  unfold cellEdited armCells
  split
  · split
    · exact ⟨_, _, _, rfl, rfl⟩
    · exact ⟨_, _, _, rfl, rfl⟩
  · exact ⟨_, _, _, rfl, rfl⟩

theorem cellsChanged_cell (s : State) : ∃ l, (cellsChanged s).cell = { s.cell with leadNext := l } ∧ (jobOpen s = false → l = s.cell.leadNext) := by
  unfold cellsChanged overCapacity
  split
  next h => exact ⟨_, by rw [raiseIf_cell], fun h' => by rw [h] at h'; cases h'⟩
  · exact ⟨_, rfl, fun _ => rfl⟩

/-- A change of the table leaves the entries as written, and FRAME_LEAD where no job is open (05 R171, R180). -/
theorem cellWritten_cell (c x y : Nat) (s : State) : ∃ a n h l, (cellsChanged (programFade c x y (cellEdited s))).cell = { s.cell with armed := a, snap := n, held := h, leadNext := l } ∧
    (jobOpen s = false → l = s.cell.leadNext) := by
  obtain ⟨a, n, h, hc, hj⟩ := cellEdited_frame s
  obtain ⟨l, hl, hno⟩ := cellsChanged_cell (programFade c x y (cellEdited s))
  have hpc : (programFade c x y (cellEdited s)).cell = (cellEdited s).cell := programFade_touches.same .cell (by decide)
  have hpr : (programFade c x y (cellEdited s)).raster = (cellEdited s).raster := programFade_touches.same .raster (by decide)
  refine ⟨a, n, h, l, by rw [hl, hpc, hc], fun hs => ?_⟩
  rw [hno (by rw [← hs, ← hj, jobOpen, jobOpen, hpr]), hpc, hc]

theorem append_six {α : Type} (h a b c d e f : List α) : h ++ a ++ b ++ c ++ d ++ e ++ f = h ++ (a ++ b ++ c ++ d ++ e ++ f) := by
  simp only [List.append_assoc]

/-- The bytes of an entry that the host writes (05 R176). -/
def hostBytes (c : Cell) : List Byte :=
  le 1 c.kind ++ le 1 c.flags ++ le 2 c.channel ++ leI 4 c.lx ++ leI 4 c.ly ++ leI 4 c.lz ++ le 2 c.width ++ le 2 c.length ++
  le 2 c.latOn ++ le 2 c.latOff ++ le 1 c.thresh ++ le 1 c.hyst ++ le 1 c.rxLayer ++ le 1 c.bmask ++ le 1 c.rxConst ++ [0] ++
  leI 2 c.rxBias ++ le 4 c.rxGain ++ le 2 c.dutyMin ++ le 2 c.dutyMax ++ le 2 c.fadeOn ++ le 2 c.fadeOff ++ [0, 0, 0, 0]

/-- The bytes of an entry that the device writes (05 R176). -/
def deviceBytes (c : Cell) : List Byte :=
  le 1 (c.modeNow + bitIf c.runOpen 7) ++ le 1 c.lastOff ++ le 2 c.dutyNow ++ le 4 (stOf c.runStart) ++ le 4 (stOf c.segEnd) ++ le 4 c.tidesOn

theorem cellBytes_eq (c : Cell) : cellBytes c = hostBytes c ++ deviceBytes c :=
  append_six (hostBytes c) (le 1 (c.modeNow + bitIf c.runOpen 7)) (le 1 c.lastOff) (le 2 c.dutyNow) (le 4 (stOf c.runStart)) (le 4 (stOf c.segEnd)) (le 4 c.tidesOn)

theorem hostBytes_length (c : Cell) : (hostBytes c).length = 48 := by
  unfold hostBytes
  repeat rw [List.length_append]
  repeat rw [le_length]
  repeat rw [leI_length]
  rfl

/-- An entry written anew: the host's bytes of the one, the device's of the other (05 R176, R180). -/
theorem cellBytes_take_drop (c o : Cell) : (cellBytes c).take 48 ++ (cellBytes o).drop 48 = hostBytes c ++ deviceBytes o := by
  rw [cellBytes_eq, cellBytes_eq, List.take_left' (hostBytes_length c), List.drop_left' (hostBytes_length o)]

/-- The entry that CELL_WRITE leaves over an old one (05 R180). -/
def overEntry (c o : Cell) : Cell :=
  { c with
    modeNow := o.modeNow, runOpen := o.runOpen, lastOff := o.lastOff, dutyNow := o.dutyNow, tidesOn := o.tidesOn, runStart := o.runStart
    segEnd := o.segEnd, pulse := o.pulse, noCredit := o.noCredit, clampAt := o.clampAt, clamps := o.clamps }

theorem cellBytes_overEntry (c o : Cell) : cellBytes (overEntry c o) = (cellBytes c).take 48 ++ (cellBytes o).drop 48 := by
  rw [cellBytes_take_drop, cellBytes_eq]
  rfl

theorem cellAdd_of_free {p : List Byte} {s : State} {ix : Nat} (hok : cellOk p = true) (hfree : firstFree 4096 s.cell.cells = some ix)
    (hch : bit (cellOf p).flags 0 = true → channelFault s none (cellOf p) = none) (hon : (cellOf p).fadeOn = 0) (hoff : (cellOf p).fadeOff = 0) :
    cellAdd p s = okWith (le 2 ix) (cellsChanged (programFade (cellOf p).channel (cellOf p).fadeOn (cellOf p).fadeOff
      (cellEdited { s with cell := { s.cell with cells := tset s.cell.cells ix (cellOf p) } }))) := by
  have hfault : (if bit (cellOf p).flags 0 then channelFault s none (cellOf p) else none) = none := by
    split
    · exact hch ‹_›
    · rfl
  unfold cellAdd
  dsimp only
  rw [if_neg (by simp [hok]), hfree, hfault]
  dsimp only
  rw [if_neg (by simp [hon, hoff])]

theorem cellWrite_of_off {p : List Byte} {s : State} {o : Cell} (hget : tget s.cell.cells (uAt p 0 2) = some o) (hok : cellOk (p.drop 4) = true) (hz : zeros p 2 2 = true)
    (hm : o.modeNow = 0) (hch : bit (cellOf (p.drop 4)).flags 0 = true → channelFault s (some (uAt p 0 2)) (cellOf (p.drop 4)) = none)
    (hon : (cellOf (p.drop 4)).fadeOn = 0) (hoff : (cellOf (p.drop 4)).fadeOff = 0) :
    cellWrite p s = ok (cellsChanged (programFade (cellOf (p.drop 4)).channel (cellOf (p.drop 4)).fadeOn (cellOf (p.drop 4)).fadeOff
      (cellEdited { s with cell := { s.cell with cells := tset s.cell.cells (uAt p 0 2) (overEntry (cellOf (p.drop 4)) o) } }))) := by
  have hfault : (if bit (cellOf (p.drop 4)).flags 0 then channelFault s (some (uAt p 0 2)) (cellOf (p.drop 4)) else none) = none := by
    split
    · exact hch ‹_›
    · rfl
  unfold cellWrite
  dsimp only
  rw [hget]
  dsimp only
  rw [if_neg (by simp [hok, hz]), if_neg (by simp [hm]), hfault]
  dsimp only
  rw [if_neg (by simp [hon, hoff])]
  rfl

/-- Removing a cell that is OFF takes its entry and its spots (05 R180). -/
theorem cellRemove_of_off {p : List Byte} {s : State} {o : Cell} (hget : tget s.cell.cells (uAt p 0 2) = some o) (hm : o.modeNow = 0) :
    (cellRemove p s).1 = .now stOk [] ∧ (cellRemove p s).2.cell.cells = tdel s.cell.cells (uAt p 0 2) ∧
    (cellRemove p s).2.cell.spots = s.cell.spots.filter (fun x => x.cell != uAt p 0 2) := by
  have hdone : ∀ u : State, u.cell.cells = s.cell.cells → u.cell.spots = s.cell.spots →
      let t := cellsChanged (cellEdited { u with cell := { u.cell with cells := tdel u.cell.cells (uAt p 0 2), spots := u.cell.spots.filter (fun x => x.cell != uAt p 0 2) } })
      t.cell.cells = tdel s.cell.cells (uAt p 0 2) ∧ t.cell.spots = s.cell.spots.filter (fun x => x.cell != uAt p 0 2) := fun u hc hs => by
    obtain ⟨a, n, h, he, -⟩ := cellEdited_frame { u with cell := { u.cell with cells := tdel u.cell.cells (uAt p 0 2), spots := u.cell.spots.filter (fun x => x.cell != uAt p 0 2) } }
    obtain ⟨l, hl, -⟩ := cellsChanged_cell (cellEdited { u with cell := { u.cell with cells := tdel u.cell.cells (uAt p 0 2), spots := u.cell.spots.filter (fun x => x.cell != uAt p 0 2) } })
    dsimp only
    rw [hl, he, hc, hs]
    exact ⟨rfl, rfl⟩
  unfold cellRemove
  dsimp only
  rw [hget]
  dsimp only
  rw [if_neg (by simp [hm])]
  cases s.cell.manuals.find? (fun m => m.cell == uAt p 0 2) with
  | none => exact ⟨rfl, hdone s rfl rfl⟩
  | some m => exact ⟨rfl, hdone (endManual 0 m s) (by rw [endManual, raise_cell]) (by rw [endManual, raise_cell])⟩

/-- CELL_SPOT takes a spot that lies ahead, crosses a boundary and meets no other of its cell (05 R198 to R200). -/
theorem cellSpot_of_free {p : List Byte} {s : State} {e : Cell} {b g0 g1 : Nat} (hget : tget s.cell.cells (uAt p 0 2) = some e) (hb : b = boundaryOf s (uAt p 4 4))
    (hg0 : g0 = b + uAt p 8 2 * edgeU s) (hg1 : g1 = g0 + uAt p 12 4 * edgeU s) (hfl : uAt p 2 1 < 4) (hkind : e.kind ≠ 4) (hoff : uAt p 8 2 < edgesPerTide s)
    (hduty : uAt p 10 2 < 4096) (hdur : uAt p 12 4 ≠ 0) (hlt : spotOn s e g0 < spotOff s e g1) (hdbg : debugHold s = false)
    (hspan : spotOn s e g0 / tideP s ≠ spotOff s e g1 / tideP s) (hlead : dtNow s + ns1 * s.cell.lead ≤ spotOn s e g0 / tideP s * tideP s) (hlat : us1 * e.latOn ≤ g0)
    (hfree : ∀ x ∈ s.cell.spots, x.cell = uAt p 0 2 → x.g1 ≤ g0 ∨ g1 ≤ x.g0) (hlen : s.cell.spots.length < 1024)
    (hlen8 : (s.cell.spots.filter (·.cell == uAt p 0 2)).length < 8) :
    cellSpot p s = ok { s with cell := { s.cell with spots := s.cell.spots ++ [
      { cell := uAt p 0 2, ignoreCov := bit (uAt p 2 1) 0, noCredit := bit (uAt p 2 1) 1, mode := uAt p 3 1, tide := uAt p 4 4, offset := uAt p 8 2
        duty := uAt p 10 2, duration := uAt p 12 4, token := uAt p 16 4, g0 := g0, g1 := g1 }] } } := by
  have hmeet : s.cell.spots.any (fun x => x.cell == uAt p 0 2 && decide (x.g0 < g1) && decide (g0 < x.g1)) = false := by
    rw [List.any_eq_false]
    intro x hx
    by_cases hc : x.cell = uAt p 0 2
    · rcases hfree x hx hc with h | h <;> simp [hc] <;> omega
    · simp [hc]
  subst hg1 hg0 hb
  unfold cellSpot
  dsimp only
  rw [hget]
  dsimp only
  rw [if_neg (by simp [hkind, hdur]; omega), if_neg (by simp [hdbg]), if_neg (by simp [hspan]), if_neg (by simp; omega), if_neg (by rw [hmeet]; decide), if_neg (by simp; omega)]

/-- Settles O29. -/
theorem cellCommands : Obligations.CellCommands := by
  unfold Obligations.CellCommands
  refine ⟨fun c s p ix ha hp hok hfree hch hon hoff => ?_, fun c s p ha hp hok hfull => ?_, fun c s p o ha hp hget hok hz hm hch hon hoff => ?_, fun c s e ha hget => ?_,
    fun c s p o ha hp hget hm => ?_, fun c s p ha hp h0 h2 h3 h4 hlh hz h6 h8 hfc hz10 => ?_,
    fun c s p e b g0 g1 ha hp hget hb hg0 hg1 hfl hkind hoff hduty hdur hlt hdbg hspan hlead hlat hfree hlen hlen8 => ?_, fun c s x ha hx ht => ?_,
    fun c s p e ha hp hget h2 hz hd hz6 hms hj hen hst => ?_, fun c s ha => answers_command rfl ha rfl, fun c s ha h => ?_, fun c s ha hl hsh => ?_, fun c s ha hl hsh => ?_⟩
  · subst hp
    obtain ⟨a, n, h, l, hcell, hno⟩ := cellWritten_cell (cellOf (prmOf c)).channel (cellOf (prmOf c)).fadeOn (cellOf (prmOf c)).fadeOff
      { s with cell := { s.cell with cells := tset s.cell.cells ix (cellOf (prmOf c)) } }
    refine ⟨_, answers_command rfl ha (cellAdd_of_free hok hfree hch hon hoff), ?_⟩
    rw [hcell]
    exact ⟨rfl, hno⟩
  · subst hp
    refine answers_command rfl ha ?_
    simp [cellAdd, hok, hfull, refuse]
  · subst hp
    have hb := cellWrite_of_off hget hok hz hm hch hon hoff
    refine oks_command rfl ha (congrArg Prod.fst hb) ?_
    rw [hb]
    obtain ⟨a, n, h, l, hcell, -⟩ := cellWritten_cell (cellOf ((prmOf c).drop 4)).channel (cellOf ((prmOf c).drop 4)).fadeOn (cellOf ((prmOf c).drop 4)).fadeOff
      { s with cell := { s.cell with cells := tset s.cell.cells (uAt (prmOf c) 0 2) (overEntry (cellOf ((prmOf c).drop 4)) o) } }
    dsimp only [ok]
    rw [hcell]
    dsimp only
    rw [tget_tset, if_pos rfl, Option.map_some, cellBytes_overEntry]
  · refine answers_command rfl ha ?_
    rw [cellRead, hget]
    rfl
  · subst hp
    obtain ⟨hb, hc, hs⟩ := cellRemove_of_off hget hm
    refine oks_command rfl ha hb ?_
    rw [hc, hs]
    exact ⟨(tget_tdel ..).trans (if_pos rfl), fun k hk => (tget_tdel ..).trans (if_neg hk), rfl⟩
  · subst hp
    refine answers_command rfl ha ?_
    unfold cellEngineConfig
    dsimp only
    rw [if_pos (by simp [h0, h2, h3, h4, hlh, hz, h6, h8, hfc, hz10])]
    rfl
  · subst hp
    have hb := cellSpot_of_free hget hb hg0 hg1 hfl hkind hoff hduty hdur hlt hdbg hspan hlead hlat hfree hlen hlen8
    refine oks_command rfl ha (congrArg Prod.fst hb) ?_
    rw [hb]
    exact ⟨_, rfl, rfl, rfl, rfl, rfl, rfl, rfl⟩
  · refine answers_command rfl ha ?_
    have hany : s.cell.spots.any (fun x => x.token == uAt (prmOf c) 0 4) = true := List.any_eq_true.mpr ⟨x, hx, by simp [ht]⟩
    rw [cellSpotCancel, if_pos hany]
    rfl
  · subst hp
    refine answers_command rfl ha ?_
    unfold cellManual
    dsimp only
    rw [hget]
    dsimp only
    rw [if_neg (by simp [hz, hz6, hms, h2, hd]), if_neg (by simp [hj, hen, hst])]
    rfl
  · refine answers_command rfl ha ?_
    rw [cellTraceSubscribe, if_neg (by omega)]
    rfl
  · have hb : cellFaultClear s = ok (cellFaultClear s).2 := by
      rw [cellFaultClear, if_neg (by omega)]
      rfl
    refine oks_command rfl ha (congrArg Prod.fst hb) ?_
    rw [cellFaultClear, if_neg (by omega)]
    exact raise_cell ..
  · refine answers_command rfl ha ?_
    rw [cellFaultClear, if_pos hsh]
    rfl

end Sys2Proof.Proofs

namespace Sys2Proof.Proofs
open Sys2Proof Sys2Proof.Machine Sys2Proof.Safety

/-! ## The raster events -/

/-- A load taking effect changes the planes alone. -/
theorem applyLoad_frame (l : LoadJob) (s : State) : ∃ x, applyLoad l s = { s with raster := { s.raster with planes := x } } := by
  have hplane : ∀ f (u : State), (∃ x, u = { s with raster := { s.raster with planes := x } }) →
      ∃ x, setPlane l.layer l.tx l.ty f u = { s with raster := { s.raster with planes := x } } := fun f u ⟨x, hx⟩ => by
    subst hx
    exact ⟨_, rfl⟩
  refine hplane _ _ ?_
  split <;> exact ⟨_, rfl⟩

/-- The plane that a load leaves (06 R236, R237). -/
def loadedPlane (l : LoadJob) (p : Plane) : Plane :=
  let d := if l.mode == 1 then mergeData max p.newest l.data else if l.mode == 2 then mergeData (fun a b => min 3 (a + b)) p.newest l.data else l.data
  { p with st := 1, dram := d, cache := p.cache.map (fun _ => d), dirtyFrom := none, dirtyExp := if l.mode == 0 then false else p.dirtyExp }

theorem at_self (l : Nat) (tx ty : Int) (p : Plane) (hl : p.layer = l) (hx : p.tx = tx) (hy : p.ty = ty) : p.at_ l tx ty = true := by
  simp [Plane.at_, hl, hx, hy]

/-- A load leaves its plane VALID, a new one where none was (06 R236). -/
theorem planeOf_applyLoad (l : LoadJob) (s : State) : ∃ p, planeOf (applyLoad l s) l.layer l.tx l.ty = some (loadedPlane l p) ∧ ∀ q, planeOf s l.layer l.tx l.ty = some q → p = q := by
  have heq : applyLoad l s = setPlane l.layer l.tx l.ty (loadedPlane l)
    (if (planeOf s l.layer l.tx l.ty).isSome then s else { s with raster := { s.raster with planes := s.raster.planes ++ [{ layer := l.layer, tx := l.tx, ty := l.ty }] } }) := rfl
  rw [heq, planeOf_setPlane (f := loadedPlane l) (fun _ => rfl)]
  cases h : planeOf s l.layer l.tx l.ty with
  | some q =>
    rw [if_pos (show (some q).isSome = true from rfl), h]
    exact ⟨q, rfl, fun _ h => Option.some.inj h⟩
  | none =>
    rw [if_neg (by simp), planeOf, List.find?_append, show s.raster.planes.find? (fun p => p.at_ l.layer l.tx l.ty) = none from h, Option.none_or,
      List.find?_cons_of_pos (p := fun p : Plane => p.at_ l.layer l.tx l.ty) (at_self l.layer l.tx l.ty _ rfl rfl rfl)]
    exact ⟨_, rfl, fun _ h => nomatch h⟩

theorem applyLoads_frame (ls : List (LoadJob × Bool)) (s : State) : ∃ x, ls.foldl (fun st l => applyLoad l.1 st) s = { s with raster := { s.raster with planes := x } } := by
  refine List.foldlRecOn (motive := fun (st : State) => ∃ x, st = { s with raster := { s.raster with planes := x } }) _ _ ⟨_, rfl⟩ fun st ⟨x, hx⟩ l _ => ?_
  obtain ⟨y, hy⟩ := applyLoad_frame l.1 st
  rw [hy, hx]
  exact ⟨y, rfl⟩

theorem dropAll_frame (ds : List (Nat × (Int × Int × Int × Int) × Bool)) (s : State) :
    ∃ x n, ds.foldl (fun st d => dropPlanes d.1 d.2.1 st) s = { s with raster := { s.raster with planes := x, poolRun := n } } := by
  refine List.foldlRecOn (motive := fun (st : State) => ∃ x n, st = { s with raster := { s.raster with planes := x, poolRun := n } }) _ _ ⟨_, _, rfl⟩
    fun st ⟨x, n, hx⟩ d _ => ?_
  rw [hx]
  exact ⟨_, _, rfl⟩

theorem flushPlane_dirtyFrom (p : Plane) : (flushPlane p).dirtyFrom = none := by
  unfold flushPlane
  split
  · rfl
  next h => simpa using h

/-- A CLOSING job that has ended: its loads and drops have taken effect, its dirty planes are in DRAM (06 R220, R247). -/
theorem doJobClosed_raster {s : State} (hj : s.raster.job = 4) (hon : anyCellOn s = false) (hn : s.cell.nextOn = false) (hoff : s.cell.allOff = true) (hw : s.cell.writes = []) :
    ∃ (x : List Plane) (n : Nat), (doJobClosed s).raster = { s.raster with
      job := 1, loads := [], drops := [], planes := x.map flushPlane, poolRun := n, lastTide := s.time.tideNo, residency := [], slotsNeeded := 0, workingRun := false, forceOff := false } := by
  unfold doJobClosed
  rw [if_neg (by simp [hj, hon, hn, hoff, hw])]
  dsimp only
  obtain ⟨x, hx⟩ := applyLoads_frame s.raster.loads { s with raster := { s.raster with loads := [] } }
  rw [hx, raise_raster]
  obtain ⟨y, n, hy⟩ := dropAll_frame s.raster.drops { s with raster := { s.raster with loads := [], drops := [], planes := x } }
  dsimp only
  rw [hy]
  exact ⟨y, n, rfl⟩

theorem takeS0_raster {n : Nat} {p : Packet} {s t : State} (h : takeS0 n s = some (p, t)) : t.raster = s.raster := by
  obtain ⟨x, rfl⟩ := takeS0_frame h
  rfl

/-- A UNIFORM TILE packet that nothing speaks against is installed (06 R235, R236). -/
theorem doTilePacket_of_uniform {s s0 : State} {p : Packet} (ht : takeS0 1 s = some (p, s0)) (hparts : s0.raster.parts = none) (hj : s0.raster.job = 1)
    (hlen : 48 ≤ p.payload.length) (hc : loadCause p.payload 0 s0 = none) (huni : bit (uAt p.payload 7 1) 0 = true) :
    doTilePacket s = installPlane { layer := uAt p.payload 4 1, tx := iAt p.payload 8 2, ty := iAt p.payload 10 2, mode := uAt p.payload 6 1, data := { fill := uAt p.payload 13 1 } } s0 := by
  unfold doTilePacket
  rw [ht]
  dsimp only
  rw [hparts]
  dsimp only
  rw [if_neg (by simp [hj]), if_neg (by omega), hc]
  dsimp only
  rw [if_pos huni]

/-- Loads are refused while no job is defined, or one is ARMED (06 R238 cause 0). -/
theorem doTilePacket_of_notReady {s s0 : State} {p : Packet} (ht : takeS0 1 s = some (p, s0)) (hparts : s0.raster.parts = none) (hj : s0.raster.job = 0 ∨ s0.raster.job = 2) :
    doTilePacket s = s0Reject (loadReject 0 (uAt p.payload 4 1) (iAt p.payload 8 2) (iAt p.payload 10 2) s0) := by
  unfold doTilePacket
  rw [ht]
  dsimp only
  rw [hparts]
  dsimp only
  rw [if_pos (by simpa using hj)]

theorem installPlane_of_present {l : LoadJob} {s : State} {q : Plane} (hq : planeOf s l.layer l.tx l.ty = some q) (hj : s.raster.job = 1) :
    installPlane l s = applyLoad l { s with raster := { s.raster with installed := (s.raster.installed + 1) % 2 ^ 32, poolRun := 0 } } := by
  unfold installPlane
  rw [if_neg (by simp [hq])]
  dsimp only
  rw [if_pos (by simp [hj])]

theorem doLoadApply_of_first {l : LoadJob} {r : List (LoadJob × Bool)} {s : State} (hl : s.raster.loads = (l, true) :: r) (hw : l.layer ≠ 0 ∨ writePending s l.tx l.ty = false) :
    doLoadApply s = applyLoad l { s with raster := { s.raster with loads := r } } := by
  have hready : (!(l.layer == 0 && writePending s l.tx l.ty)) = true := by
    rcases hw with h | h <;> simp [h]
  unfold doLoadApply
  rw [hl, List.findIdx?_cons, if_pos (by rw [hready]; rfl)]
  rfl

theorem doSnapshot_of_last {x : SaveJob} {s : State} (hs : s.raster.save = some x) (hq : x.queue = []) (hroom : s1RoomAll [lastPacket s x] s = true) :
    doSnapshot s = raise { code := 0x0609, sev := 1, p0 := x.sent, p1 := x.tide, p2 := b1 x.isExport } (sendS1 1 (lastPacket s x) { s with raster := { s.raster with save := none } }) := by
  unfold doSnapshot
  rw [hs]
  dsimp only
  rw [hq]
  dsimp only
  rw [if_neg (by simp [hroom])]

theorem sendAll_raster (k : Nat) (ps : List (List Byte)) (s : State) : (ps.foldl (fun st p => sendS1 k p st) s).raster = s.raster :=
  List.foldlRecOn (motive := fun (st : State) => st.raster = s.raster) _ _ rfl fun st h p _ => by rw [sendS1_raster, h]

/-- A snapshot that may be taken, while no job is OPEN (06 R239, R240). -/
theorem doSnapshot_of_next {x : SaveJob} {l : Nat} {tx ty : Int} {r : List (Nat × Int × Int)} {s : State} (hs : s.raster.save = some x) (hq : x.queue = (l, tx, ty) :: r)
    (hj : s.raster.job ≠ 3) (hroom : s1RoomAll (tilePackets s x.isExport 0 l tx ty) s = true) (hw : l ≠ 0 ∨ writePending s tx ty = false) :
    doSnapshot s = if x.isExport && notExported s l tx ty then { s with raster := { s.raster with save := some { x with queue := r } } } else
      let s1 := (tilePackets s x.isExport 0 l tx ty).foldl (fun st p => sendS1 1 p st) s
      let s2 := { s1 with raster := { s1.raster with save := some { x with queue := r, sent := x.sent + 1 } } }
      if l == 0 then setPlane l tx ty (fun p => { p with dirtyExp := false }) s2 else s2 := by
  have hw' : (l == 0 && writePending s tx ty) = false := by
    rcases hw with h | h <;> simp [h]
  unfold doSnapshot
  rw [hs]
  dsimp only
  rw [hq]
  dsimp only
  rw [if_neg (show ¬ ((s.raster.job == 3) = true) by simpa using hj), if_neg (by simp [hroom, hw', hj])]

/-- Asking for absent planes sends requests and remembers them. -/
theorem doWant_of_subscribed {d : JobDef} {k : Nat} {s : State} (hd : s.raster.jdef = some d) (hw : s.raster.want = true) (hr : roleOf s = 0) (hk : s.raster.wantAt = some k) :
    (doWant s).time = (runToCyc (k + cycMs 100) s).time ∧ ∃ x, (doWant s).raster = { s.raster with wantAt := some (runToCyc (k + cycMs 100) s).time.cyc, wanted := x } := by
  have hframe : ∀ (f : State → Int × Int → List Byte) (l : List (Int × Int)) (u : State),
      (l.foldl (fun st t => sendS1 0x15 (f st t) st) u).time = u.time ∧ (l.foldl (fun st t => sendS1 0x15 (f st t) st) u).raster = u.raster := fun f l u =>
    List.foldlRecOn (motive := fun (st : State) => st.time = u.time ∧ st.raster = u.raster) _ _ ⟨rfl, rfl⟩ fun st h t _ => by
      rw [sendS1_time, sendS1_raster]
      exact h
  unfold doWant
  rw [hd]
  dsimp only
  rw [if_neg (by simp [hw, hr]), hk]
  dsimp only
  split
  · exact ⟨rfl, s.raster.wanted, by rw [runToCyc_raster]⟩
  · obtain ⟨ht, hra⟩ := hframe (fun st t => le 4 d.id ++ leI 2 t.1 ++ leI 2 t.2 ++ le 1 (wantMask st t.1 t.2) ++ [0] ++ le 2 _ ++ le 4 (if st.raster.job == 3 then st.time.tideNo else 0)) _ _
    exact ⟨ht, _, hra.trans (by rw [runToCyc_raster])⟩

theorem missReport_planes (s : State) : (missReport s).raster.planes = s.raster.planes := by
  unfold missReport
  refine iteInduction (motive := fun (t : State) => t.raster.planes = s.raster.planes) (fun _ => rfl) fun _ => ?_
  rw [raise_raster]

/-- A fill for which the cache has room (06 R245, R246). -/
theorem planeOf_doTileFill {l : Nat} {tx ty : Int} {byTask : Bool} {wait : Nat} {p : Plane} {s : State} (hp : planeOf s l tx ty = some p) (hst : p.st ≠ 3)
    (hc : p.cache = none) (hl : (cachedLayers s).contains l = true) (hnext : byTask = true ∨ prefetchNext s p = true) (hroom : slotsUsed s + slotsOf l ≤ 1536) :
    planeOf (doTileFill l tx ty byTask wait none s) l tx ty = some { p with cache := some p.dram } := by
  have hfill : planeOf (setPlane l tx ty (fun p => if p.st == 3 then p else { p with cache := some p.dram }) s) l tx ty = some { p with cache := some p.dram } := by
    rw [planeOf_setPlane (fun q => by split <;> rfl), hp, Option.map_some, if_neg (by simpa using hst)]
  have hmake : makeRoom 1536 (slotsOf l) byTask s = some s := by rw [makeRoom, if_pos hroom]
  have hgo : (!byTask && !prefetchNext s p) = false := by
    rcases hnext with h | h <;> simp [h]
  unfold doTileFill
  rw [hp]
  dsimp only
  rw [if_neg (by rw [hc, hl, hgo, beq_eq_false_iff_ne.mpr hst]; decide), hmake]
  dsimp only
  split
  · rw [← hfill, planeOf, missReport_planes]
    rfl
  · exact hfill

theorem setPlane_of_mem {l : Nat} {tx ty : Int} {f : Plane → Plane} {s : State} {P : Plane → Prop} (hP : ∀ p, P (f p)) :
    ∀ q ∈ (setPlane l tx ty f s).raster.planes, q.at_ l tx ty = true → P q := by
  intro q hq hat
  obtain ⟨p, -, rfl⟩ := List.mem_map.mp hq
  by_cases h : p.at_ l tx ty = true
  · rw [if_pos h]
    exact hP p
  · rw [if_neg h] at hat
    exact absurd hat h

theorem flushPlane_at (p : Plane) (l : Nat) (tx ty : Int) : (flushPlane p).at_ l tx ty = p.at_ l tx ty := by
  unfold flushPlane
  split <;> rfl

/-- A delta outside an open job credits its plane and writes it to DRAM at once (06 R250). -/
theorem doDeltaApply_of_closed {o : Nat} {b : List Byte} {r : List (Nat × List Byte × Bool)} {p : Plane} {s : State} (hd : s.raster.deltas = (o, b, true) :: r)
    (hw : writePending s (iAt b 12 2) (iAt b 14 2) = false) (hj : jobOpen s = false) (hin : inExtent s (iAt b 12 2) (iAt b 14 2) = true)
    (hp : planeOf s 0 (iAt b 12 2) (iAt b 14 2) = some p) :
    doDeltaApply s = setPlane 0 (iAt b 12 2) (iAt b 14 2) (fun p => { flushPlane p with cache := none })
      (setPlane 0 (iAt b 12 2) (iAt b 14 2) (credited (deltaCells b).eraseDups (uAt b 8 4) s.time.cyc) { s with raster := { s.raster with deltas := r } }) := by
  unfold doDeltaApply
  rw [hd]
  dsimp only
  rw [if_neg (by simp [hw, hj, hp]), if_neg (by simp [hj]), creditTile_of_present (by exact hin) (by exact congrArg Option.isSome hp)]

/-- Settles O30: each event's effect on the planes. -/
theorem rasterEvents : Obligations.RasterEvents := by
  unfold Obligations.RasterEvents
  refine ⟨fun s hj hon hn hoff hw => ?_, fun s s0 p q ht hparts hj hlen hc huni hmode hq => ?_, fun s s0 p ht hparts hj => ?_, fun l r s hl hw => ?_, fun x s hs hq hroom => ?_,
    fun x l tx ty r s hs hq hj hroom hw hex => ?_, fun x l tx ty r s hs hq hj hroom hw hex hnot => ?_, fun d k s hd hw hr hk => ?_,
    fun l tx ty byTask wait p s hp hst hc hl hnext hroom => ?_, fun k p d s hk hd => ?_, fun o b r p s hd hw hj hin hp => ?_, fun m q t s hd hm => ?_⟩
  · refine reaches_done rfl ?_
    obtain ⟨x, n, hx⟩ := doJobClosed_raster hj hon hn hoff hw
    rw [settle_raster, hx]
    refine ⟨rfl, rfl, rfl, rfl, fun p hp => ?_⟩
    obtain ⟨y, -, rfl⟩ := List.mem_map.mp hp
    exact flushPlane_dirtyFrom y
  · refine reaches_done rfl ?_
    have h0 := takeS0_raster ht
    have hq0 : planeOf s0 (uAt p.payload 4 1) (iAt p.payload 8 2) (iAt p.payload 10 2) = some q := by rw [planeOf, h0]; exact hq
    have heq := (doTilePacket_of_uniform ht (h0 ▸ hparts) (h0 ▸ hj) hlen hc huni).trans (installPlane_of_present hq0 (h0 ▸ hj))
    obtain ⟨x, hx⟩ := applyLoad_frame { layer := uAt p.payload 4 1, tx := iAt p.payload 8 2, ty := iAt p.payload 10 2, mode := uAt p.payload 6 1, data := { fill := uAt p.payload 13 1 } }
      { s0 with raster := { s0.raster with installed := (s0.raster.installed + 1) % 2 ^ 32, poolRun := 0 } }
    obtain ⟨y, hy, hyq⟩ := planeOf_applyLoad { layer := uAt p.payload 4 1, tx := iAt p.payload 8 2, ty := iAt p.payload 10 2, mode := uAt p.payload 6 1, data := { fill := uAt p.payload 13 1 } }
      { s0 with raster := { s0.raster with installed := (s0.raster.installed + 1) % 2 ^ 32, poolRun := 0 } }
    rw [planeOf, settle_raster, heq]
    refine ⟨by rw [hx, h0], by rw [hx, h0], ?_⟩
    refine (congrArg (Option.map _) hy).trans ?_
    rw [Option.map_some, loadedPlane, hmode]
    cases y.cache <;> rfl
  · refine reaches_done rfl ?_
    have h0 := takeS0_raster ht
    have hs0 : ∀ u : State, (s0Reject u).raster = u.raster := fun u => rfl
    rw [settle_raster, doTilePacket_of_notReady ht (h0 ▸ hparts) (h0 ▸ hj), hs0, loadReject, raise_raster, if_neg (by decide), h0]
    exact ⟨rfl, rfl, rfl, rfl⟩
  · refine reaches_done rfl ?_
    obtain ⟨x, hx⟩ := applyLoad_frame l { s with raster := { s.raster with loads := r } }
    obtain ⟨y, hy, -⟩ := planeOf_applyLoad l { s with raster := { s.raster with loads := r } }
    rw [planeOf, settle_raster, doLoadApply_of_first hl hw]
    exact ⟨by rw [hx], congrArg (Option.map _) hy⟩
  · refine reaches_done rfl ?_
    rw [settle_raster, doSnapshot_of_last hs hq hroom, raise_raster, sendS1_raster]
  · refine reaches_done rfl ?_
    have hsend : (x.isExport && notExported s l tx ty) = false := by
      rcases hex with h | h <;> simp [h]
    rw [settle_raster, doSnapshot_of_next hs hq hj hroom hw, if_neg (by simp [hsend])]
    dsimp only
    by_cases hl : l = 0
    · subst hl
      rw [if_pos (by rfl)]
      exact ⟨by rw [setPlane, sendAll_raster], fun _ => setPlane_of_mem (P := fun q => q.dirtyExp = false) (fun _ => rfl), fun h => absurd rfl h⟩
    · rw [if_neg (by simpa using hl)]
      exact ⟨rfl, fun h => absurd h hl, fun _ => by rw [sendAll_raster]⟩
  · show done (doSnapshot s) = _
    rw [doSnapshot_of_next hs hq hj hroom hw, if_pos (by rw [hex, hnot]; rfl)]
    rfl
  · refine reaches_done rfl ?_
    obtain ⟨ht, x, hx⟩ := doWant_of_subscribed hd hw hr hk
    rw [settle_raster, settle_time, hx, ht]
    exact ⟨rfl, le_runToCyc_cyc .., rfl⟩
  · refine reaches_done rfl ?_
    rw [planeOf, settle_raster]
    exact planeOf_doTileFill hp hst hc hl hnext hroom
  · refine reaches_done rfl ?_
    have heq : doFlush s = setPlane p.layer p.tx p.ty flushPlane (runToCyc (k + cycMs d.flush) s) := by simp only [doFlush, hk, hd]
    rw [settle_raster, settle_time, heq]
    exact ⟨le_runToCyc_cyc .., setPlane_of_mem (P := fun q => q.dirtyFrom = none) flushPlane_dirtyFrom⟩
  · refine reaches_done rfl ?_
    rw [planeOf, settle_raster, doDeltaApply_of_closed hd hw hj hin hp]
    refine ⟨rfl, ?_⟩
    refine (congrArg (Option.map _) (planeOf_setPlane (f := fun p => { flushPlane p with cache := none }) (fun q => flushPlane_at q ..) _)).trans ?_
    rw [planeOf_setPlane (f := credited _ _ _) (fun _ => rfl)]
    rw [show planeOf { s with raster := { s.raster with deltas := r } } 0 (iAt b 12 2) (iAt b 14 2) = some p from hp]
    rfl
  · show done (doDropApply s) = _
    rw [doDropApply, hd]
    dsimp only
    rw [if_neg (by simp [hm])]
    rfl

end Sys2Proof.Proofs

namespace Sys2Proof.Proofs
open Sys2Proof Sys2Proof.Machine Sys2Proof.Safety

/-! ## The RASTER commands -/

theorem orDefault_of_within {v lo hi d : Nat} (h : within lo hi v = true) (hlo : 0 < lo) : orDefault v lo hi d = some v := by
  simp only [within, Bool.and_eq_true, decide_eq_true_eq] at h
  rw [orDefault, if_neg (by simp; omega), if_pos (by simp; omega)]

/-- The job that RASTER_JOB_DEFINE's parameters spell (06 R221, R253). -/
def definedJob (p : List Byte) (tpf fl hz : Nat) : JobDef :=
  { id := uAt p 0 4, grid := uAt p 4 1, layers := uAt p 5 1, uncovered := uAt p 6 1 == 1, lat := iAt p 8 8, lon := iAt p 16 8, height := iAt p 24 4
    tx0 := iAt p 28 2, ty0 := iAt p 30 2, tx1 := iAt p 32 2, ty1 := iAt p 34 2, fallback := (List.range 6).map (fun k => uAt p (36 + k) 1), tpf := tpf, flush := fl, horizon := hz }

/-- The parameters of RASTER_JOB_DEFINE are in range: the tiles lie within 25 km of the reference, at most 1,048,576 of them (06 R221, R253). -/
structure JobParams (p : List Byte) : Prop where
  named : uAt p 0 4 ≠ 0
  grid : uAt p 4 1 ≤ 4
  layers : uAt p 5 1 % 4 = 3
  ordered : iAt p 28 2 ≤ iAt p 32 2 ∧ iAt p 30 2 ≤ iAt p 34 2
  tiles : (iAt p 32 2 - iAt p 28 2 + 1) * (iAt p 34 2 - iAt p 30 2 + 1) ≤ 1048576
  west : -25000000 ≤ iAt p 28 2 * (256 * gridMm (uAt p 4 1))
  south : -25000000 ≤ iAt p 30 2 * (256 * gridMm (uAt p 4 1))
  east : (iAt p 32 2 + 1) * (256 * gridMm (uAt p 4 1)) ≤ 25000000
  north : (iAt p 34 2 + 1) * (256 * gridMm (uAt p 4 1)) ≤ 25000000
  uncovered : uAt p 6 1 ≤ 1
  reserved : zeros p 7 1 = true ∧ zeros p 42 2 = true ∧ zeros p 50 2 = true
  tpf : within 100 2000 (uAt p 44 2) = true
  flush : within 100 10000 (uAt p 46 2) = true
  horizon : within 20 5000 (uAt p 48 2) = true

theorem rasterJobDefine_of_ranges {p : List Byte} {s : State} (hj : s.raster.job = 0) (h : JobParams p) :
    rasterJobDefine p s = ok { s with raster := { clearJob s.raster with job := 1, jdef := some (definedJob p (uAt p 44 2) (uAt p 46 2) (uAt p 48 2)) } } := by
  obtain ⟨hid, hg, hl, ⟨hx, hy⟩, htiles, hw, hs, he, hn, h6, ⟨hz7, hz42, hz50⟩, htpf, hfl, hhz⟩ := h
  have hnear : (decide (iAt p 28 2 * (256 * gridMm (uAt p 4 1)) < -25000000) || decide (iAt p 30 2 * (256 * gridMm (uAt p 4 1)) < -25000000) ||
      decide (25000000 < (iAt p 32 2 + 1) * (256 * gridMm (uAt p 4 1))) || decide (25000000 < (iAt p 34 2 + 1) * (256 * gridMm (uAt p 4 1)))) = false := by
    simp only [Bool.or_eq_false_iff, decide_eq_false_iff_not, Int.not_lt]
    exact ⟨⟨⟨hw, hs⟩, he⟩, hn⟩
  have hcount : decide (1048576 < ((iAt p 32 2 - iAt p 28 2 + 1) * (iAt p 34 2 - iAt p 30 2 + 1)).toNat) = false := by
    simp only [decide_eq_false_iff_not, Nat.not_lt, Int.toNat_le]
    exact htiles
  have hrect : rectOk (rectAt p 28) = true := by simp [rectOk, rectAt, hx, hy]
  unfold rasterJobDefine
  dsimp only
  rw [orDefault_of_within htpf (by decide), orDefault_of_within hfl (by decide), orDefault_of_within hhz (by decide), if_neg (by simp [hj]), if_neg]
  · rfl
  · rw [hrect, rectAt, hnear, hcount, hz7, hz42, hz50]
    simp [hid, hl]
    omega

theorem mem_rectTiles {d : JobDef} {r : Int × Int × Int × Int} {tx ty : Int} :
    (tx, ty) ∈ rectTiles d r ↔ (r.1 ≤ tx ∧ tx ≤ r.2.2.1 ∧ r.2.1 ≤ ty ∧ ty ≤ r.2.2.2) ∧ (d.tx0 ≤ tx ∧ tx ≤ d.tx1 ∧ d.ty0 ≤ ty ∧ ty ≤ d.ty1) := by
  simp only [rectTiles, ← List.flatMap_def, List.mem_flatMap, List.mem_map, List.mem_range, Prod.mk.injEq]
  constructor
  · rintro ⟨j, hj, i, hi, rfl, rfl⟩
    omega
  · rintro ⟨h, h'⟩
    exact ⟨(ty - max r.2.1 d.ty0).toNat, by omega, (tx - max r.1 d.tx0).toNat, by omega, by omega, by omega⟩

theorem dirtyChosen_of_clean {s : State} {f : Plane → Bool} (h : ∀ p ∈ s.raster.planes, p.layer = 0 → p.dirtyExp = false) : dirtyChosen s f = false := by
  rw [dirtyChosen, List.any_eq_false]
  intro p hp
  by_cases hl : p.layer = 0
  · simp [h p hp hl]
  · simp [hl]

/-- The planes of the layers chosen, tile by tile (06 R239). -/
theorem mem_saveQueue {d : JobDef} {m : Nat} {r : Int × Int × Int × Int} {k : Nat} {tx ty : Int} :
    (k, tx, ty) ∈ ((rectTiles d r).map (fun t => ((List.range 8).filter (fun l => bit m l && bit d.layers l)).map (fun l => (l, t.1, t.2)))).flatten ↔
      (k < 8 ∧ bit m k = true ∧ bit d.layers k = true) ∧ (tx, ty) ∈ rectTiles d r := by
  simp only [← List.flatMap_def, List.mem_flatMap, List.mem_map, List.mem_filter, List.mem_range, Bool.and_eq_true, Prod.mk.injEq]
  constructor
  · rintro ⟨⟨x, y⟩, ht, l, hl, rfl, rfl, rfl⟩
    exact ⟨hl, ht⟩
  · rintro ⟨hk, ht⟩
    exact ⟨(tx, ty), ht, k, hk, rfl, rfl, rfl⟩

/-- The planes that RASTER_EXPORT takes when it asks for what is dirty (06 R239, R240). -/
def exportPlanes (s : State) : List (Nat × Int × Int) := (s.raster.planes.filter (fun q => q.st != 3 && (q.layer == 0 && q.dirtyExp))).map (fun q => (q.layer, q.tx, q.ty))
/-- The planes that RASTER_EXPORT takes, and those with a write-back pending that are not among them. -/
def exportQueue (s : State) : List (Nat × Int × Int) :=
  exportPlanes s ++ ((pendingTiles s).map (fun t => (0, t.1, t.2))).filter (fun q => !(exportPlanes s).contains q)

/-- The save that RASTER_TILE_SAVE starts (06 R239). -/
def tileSave (d : JobDef) (p : List Byte) (s : State) : SaveJob :=
  { isExport := false, tide := if jobOpen s then s.time.tideNo else 0
    queue := ((rectTiles d (rectAt p 4)).map (fun t => ((List.range 8).filter (fun l => bit (uAt p 0 1) l && bit d.layers l)).map (fun l => (l, t.1, t.2)))).flatten }

theorem rasterTileSave_of_idle {d : JobDef} {p : List Byte} {s : State} (hd : s.raster.jdef = some d) (hr : rectOk (rectAt p 4) = true) (hz : zeros p 1 3 = true)
    (hs : s.raster.save = none) : rasterTileSave p s = accepted { s with raster := { s.raster with save := some (tileSave d p s) } } := by
  unfold rasterTileSave
  rw [hd]
  dsimp only
  rw [if_neg (by simp [hr, hz]), if_neg (by simp [hs])]
  rfl

theorem mem_pendingTiles {s : State} {tx ty : Int} : (tx, ty) ∈ pendingTiles s ↔ writePending s tx ty = true ∧ inExtent s tx ty = true := by
  rw [pendingTiles, List.mem_eraseDups, List.mem_filter]
  refine and_congr_left fun _ => ?_
  simp [writePending]

theorem mem_exportQueue {s : State} {k : Nat} {tx ty : Int} : (k, tx, ty) ∈ exportQueue s ↔ k = 0 ∧
    ((∃ q ∈ s.raster.planes, q.layer = 0 ∧ q.tx = tx ∧ q.ty = ty ∧ q.st ≠ 3 ∧ q.dirtyExp = true) ∨ (writePending s tx ty = true ∧ inExtent s tx ty = true)) := by
  have hplanes : (k, tx, ty) ∈ exportPlanes s ↔ k = 0 ∧ ∃ q ∈ s.raster.planes, q.layer = 0 ∧ q.tx = tx ∧ q.ty = ty ∧ q.st ≠ 3 ∧ q.dirtyExp = true := by
    simp only [exportPlanes, List.mem_map, List.mem_filter, Bool.and_eq_true, bne_iff_ne, beq_iff_eq, Prod.mk.injEq]
    constructor
    · rintro ⟨q, ⟨hq, hst, hl, hd⟩, rfl, rfl, rfl⟩
      exact ⟨hl, q, hq, hl, rfl, rfl, hst, hd⟩
    · rintro ⟨rfl, q, hq, hl, rfl, rfl, hst, hd⟩
      exact ⟨q, ⟨hq, hst, hl, hd⟩, hl, rfl, rfl⟩
  have hmore : (k, tx, ty) ∈ (pendingTiles s).map (fun t => (0, t.1, t.2)) ↔ k = 0 ∧ (tx, ty) ∈ pendingTiles s := by
    simp only [List.mem_map, Prod.mk.injEq]
    constructor
    · rintro ⟨⟨x, y⟩, ht, rfl, rfl, rfl⟩
      exact ⟨rfl, ht⟩
    · rintro ⟨rfl, ht⟩
      exact ⟨(tx, ty), ht, rfl, rfl, rfl⟩
  rw [exportQueue, List.mem_append, List.mem_filter, hmore, mem_pendingTiles, Bool.not_eq_true', List.contains_eq_mem, decide_eq_false_iff_not, and_or_left, ← hplanes]
  by_cases h : (k, tx, ty) ∈ exportPlanes s <;> simp [h]

theorem rasterExport_of_dirty {p : List Byte} {s : State} (hd : s.raster.jdef.isSome = true) (h1 : uAt p 1 1 = 1) (hs : s.raster.save = none) :
    rasterExport p s = accepted { s with raster := { s.raster with save := some { isExport := true, queue := exportQueue s, tide := if jobOpen s then s.time.tideNo else 0 } } } := by
  obtain ⟨d, hd⟩ := Option.isSome_iff_exists.mp hd
  unfold rasterExport
  rw [hd]
  dsimp only
  rw [if_neg (by omega), if_neg (by simp [hs]), h1]
  rfl

/-- Settles O31: each command's answer and what it leaves. -/
theorem rasterCommands : Obligations.RasterCommands := by
  unfold Obligations.RasterCommands
  refine ⟨fun c s p x0 y0 x1 y1 ha hp hj hid hg hl h0 h1 h2 h3 hx hy ht hw hs he hn h6 hz7 hz42 hz50 htpf hfl hhz => ?_, fun c s ha hj => ?_,
    fun c s e ha hj hh hn hen he => ?_, fun c s st ha hj hen => ?_, fun c s ha hj => ?_, fun c s ha h1 hj h => ?_, fun c s ha h1 hj hs h => ?_,
    fun c s ha => answers_command rfl ha rfl, fun c s p d ha hp hd hr hz hs => ?_, fun c s p ha hp hd h1 hs => ?_, fun c s p ha hp hj hno hr h1 hz => ?_,
    fun c s ha => answers_command rfl ha rfl, fun c s ha => answers_command rfl ha rfl, fun c s p gx gy ha hp h0 hz hj hgx hgy => ?_, fun c s ha h1 => ?_⟩
  · subst hp h0 h1 h2 h3
    have hb := rasterJobDefine_of_ranges hj ⟨hid, hg, hl, ⟨hx, hy⟩, ht, hw, hs, he, hn, h6, ⟨hz7, hz42, hz50⟩, htpf, hfl, hhz⟩
    refine oks_command rfl ha (congrArg Prod.fst hb) ?_
    rw [hb]
    exact ⟨rfl, rfl, _, rfl, rfl, rfl, rfl, rfl, rfl, rfl, rfl, rfl, rfl, rfl, rfl⟩
  · refine answers_command rfl ha ?_
    rw [rasterJobDefine, if_pos (by simpa using hj)]
    rfl
  · refine answers_command rfl ha ?_
    rw [rasterJobOpen, if_neg (by simp [hj]), if_neg (by simp [hj, hh, hn, hen]), he]
    rfl
  · refine answers_command rfl ha ?_
    rw [rasterJobOpen, if_neg (by simp [hj]), if_pos (by simp [hen])]
    rfl
  · refine answers_command rfl ha ?_
    rw [rasterJobOpen, if_pos (by simp [hj])]
    rfl
  · have hb : (uAt (prmOf c) 0 1 == 0 && (anyCellOn s || !s.cell.allOff)) = false := by
      rcases h with h | ⟨h, h'⟩
      · simp [h]
      · simp [h, h']
    refine ⟨_, answers_command rfl ha ?_, s.cell.batches.isEmpty && s.cell.evaled.isEmpty, rfl⟩
    rw [rasterJobClose, if_neg (by omega), if_neg (by simp [hj, hb])]
    rfl
  · have hb : rasterJobDiscard (prmOf c) s = ok { s with raster := clearJob s.raster } := by
      rw [rasterJobDiscard, if_neg (by omega), if_neg (by simp [hj, hs]), if_neg]
      rcases h with h | h
      · simp [h]
      · simp [dirtyChosen_of_clean h]
    refine oks_command rfl ha (congrArg Prod.fst hb) ?_
    rw [hb]
    exact ⟨rfl, rfl, rfl⟩
  · subst hp
    refine ⟨_, answers_command rfl ha (rasterTileSave_of_idle hd hr hz hs), _, rfl, rfl, rfl, rfl, fun k tx ty => ?_⟩
    rw [tileSave, mem_saveQueue, mem_rectTiles]
    simp [inRect, inExtent, hd, and_assoc]
  · subst hp
    exact ⟨_, answers_command rfl ha (rasterExport_of_dirty hd h1 hs), _, rfl, rfl, rfl, fun k tx ty => mem_exportQueue⟩
  · subst hp
    refine answers_command rfl ha ?_
    unfold rasterTileDrop
    dsimp only
    rw [if_neg (by simpa using hj), if_neg (by simp [hr, h1, hz]), if_neg (by simp [hno]), if_neg (by simp [h1]), if_neg (by simp [hno])]
    rfl
  · subst hp hgx hgy
    refine answers_command rfl ha ?_
    unfold rasterQuery
    rw [if_neg (by simp [h0, hz]), if_neg (by simpa using hj), h0]
    rfl
  · have hb : rasterWantSubscribe (prmOf c) s = ok (rasterWantSubscribe (prmOf c) s).2 := by
      rw [rasterWantSubscribe, if_neg (by omega)]
      rfl
    refine oks_command rfl ha (congrArg Prod.fst hb) ?_
    rw [rasterWantSubscribe, if_neg (by omega)]
    exact ⟨rfl, rfl, rfl⟩

end Sys2Proof.Proofs

namespace Sys2Proof.Proofs
open Sys2Proof Sys2Proof.Machine Sys2Proof.Safety

/-! ## What the Knani operations keep of the loops -/

/-- What `g` sees of each loop is kept. -/
def LoopsKept (g : Loop → Loop) (s t : State) : Prop := t.knani.loops.map g = s.knani.loops.map g

/-- A loop without its MANAGE line. -/
def loopLess (l : Loop) : Loop := { l with manage := [] }
/-- A loop without its nodes, its MANAGE line, and the command that waits for it. -/
def loopCore (l : Loop) : Loop := { l with nodes := [], phys := [], manage := [], startCmd := none }

namespace LoopsKept
variable {g : Loop → Loop} {s t u : State}

theorem refl : LoopsKept g s s := rfl
theorem after (h : LoopsKept g t u) (h' : LoopsKept g s t) : LoopsKept g s u := h.trans h'
theorem of_knani (h : t.knani = s.knani) : LoopsKept g s t := by rw [LoopsKept, h]
theorem of_touches {F : List Part} (h : Touches F s t) (hF : Part.knani ∉ F := by decide) : LoopsKept g s t := of_knani (h.same .knani hF)

theorem ite {b : Prop} [Decidable b] (ht : LoopsKept g s t) (hu : LoopsKept g s u) : LoopsKept g s (if b then t else u) := by
  split
  · exact ht
  · exact hu

theorem foldl {α : Type} {l : List α} {f : State → α → State} (hf : ∀ u a, LoopsKept g u (f u a)) (h : LoopsKept g s t) : LoopsKept g s (l.foldl f t) :=
  List.foldlRecOn (motive := LoopsKept g s) _ _ h fun u hu a _ => (hf u a).after hu

theorem length (h : LoopsKept g s t) : t.knani.loops.length = s.knani.loops.length := by
  have h' := congrArg List.length h
  rwa [List.length_map, List.length_map] at h'

theorem loopOf (h : LoopsKept g s t) (n : Nat) : g (Machine.loopOf t n) = g (Machine.loopOf s n) := by
  rw [Machine.loopOf, Machine.loopOf, ← getD_map_default (f := g), ← getD_map_default (f := g), h]

end LoopsKept

theorem setLoop_kept {g : Loop → Loop} {n : Nat} {f : Loop → Loop} {s : State} (hf : ∀ l, g (f l) = g l) : LoopsKept g s (setLoop n f s) := by
  unfold LoopsKept setLoop lmod
  dsimp only
  refine List.ext_getElem? fun k => ?_
  rw [List.getElem?_map, List.getElem?_map, List.getElem?_modify]
  cases s.knani.loops[k]? with
  | none => rfl
  | some l =>
    simp only [Option.map_some, Option.map_eq_map]
    split
    · rw [hf]
    · rfl

theorem loopOf_congr {s t : State} (h : t.knani = s.knani) {n : Nat} : loopOf t n = loopOf s n := by rw [loopOf, h, ← loopOf]

theorem setLoop_length {n : Nat} {f : Loop → Loop} {s : State} : (setLoop n f s).knani.loops.length = s.knani.loops.length := List.length_modify ..

theorem loopOf_setLoop_same {n : Nat} {f : Loop → Loop} {s : State} (h : n < s.knani.loops.length) : loopOf (setLoop n f s) n = f (loopOf s n) := by
  unfold loopOf setLoop
  dsimp only
  rw [List.getD_eq_getElem?_getD, getElem?_lmod_same (List.getElem?_eq_getElem h), List.getD_eq_getElem?_getD, List.getElem?_eq_getElem h]
  rfl

theorem pushManage_kept {n : Nat} {m : Manage} {s : State} : LoopsKept loopLess s (pushManage n m s) :=
  .ite (.after (.of_touches sendManage_touches) (setLoop_kept fun _ => rfl)) (setLoop_kept fun _ => rfl)

theorem ownWrite_kept {n pos addr : Nat} {b : List Byte} {s : State} : LoopsKept loopLess s (ownWrite n pos addr b s) := pushManage_kept

theorem writeAdvs_kept {n : Nat} {old : List NodeView} {s : State} : LoopsKept loopLess s (writeAdvs n old s) := by
  unfold writeAdvs
  refine .foldl (fun _ _ => ?_) .refl
  split
  · exact .ite (ownWrite_kept.after ownWrite_kept) .refl
  · exact .refl

theorem finishFor_kept {g : Loop → Loop} {cmd : Option (Nat × Nat × Nat × Nat)} {st : Nat} {r : List Byte} {s : State} : LoopsKept g s (finishFor cmd st r s) :=
  .of_touches finishFor_touches

theorem dropManage_kept {n : Nat} {s : State} : LoopsKept loopLess s (dropManage n s) := .foldl (fun _ _ => finishFor_kept) (setLoop_kept fun _ => rfl)

theorem loopCore_of_less {s t : State} (h : LoopsKept loopLess s t) : LoopsKept loopCore s t := by
  have h' := congrArg (List.map loopCore) h
  rw [List.map_map, List.map_map] at h'
  exact h'

theorem setView_kept {n pos : Nat} {f : NodeView → NodeView} {s : State} : LoopsKept loopCore s (setView n pos f s) := setLoop_kept fun _ => rfl
theorem setPhys_kept {n pos : Nat} {f : NodeDev → NodeDev} {s : State} : LoopsKept loopCore s (setPhys n pos f s) := setLoop_kept fun _ => rfl
theorem setChanView_kept {c : Nat} {f : ChanView → ChanView} {s : State} : LoopsKept loopCore s (setChanView c f s) := setView_kept
theorem raise_kept {g : Loop → Loop} {e : Ev} {s : State} : LoopsKept g s (raise e s) := .of_knani (raise_knani ..)
theorem raiseIf_kept {g : Loop → Loop} {b : Bool} {e : Ev} {s : State} : LoopsKept g s (raiseIf b e s) := .of_knani (raiseIf_knani ..)

theorem answerStart_kept {n st : Nat} {s : State} : LoopsKept loopCore s (answerStart n st s) := by
  unfold answerStart
  split
  · exact .refl
  · exact .after (.of_knani (complete_knani ..)) (setLoop_kept fun _ => rfl)

theorem chanEvent_kept {ch : Nat} {e : Ev} {s : State} : LoopsKept loopCore s (chanEvent ch e s) := by
  unfold chanEvent
  split
  · exact .refl
  · exact .ite (raise_kept.after setChanView_kept) .refl

theorem loadLife_kept {n pos k : Nat} {s : State} : LoopsKept loopCore s (loadLife n pos k s) := by
  unfold loadLife
  split
  · exact .refl
  · have h : ∀ a : KnaniSt, a.loops = s.knani.loops → LoopsKept loopCore s { s with knani := a } := fun a ha => by rw [LoopsKept, ha]
    exact .ite (chanEvent_kept.after (setChanView_kept.after (setPhys_kept.after (h _ rfl)))) (setChanView_kept.after (setPhys_kept.after (h _ rfl)))

theorem missingModule_kept {n pos k : Nat} {s : State} : LoopsKept loopCore s (missingModule n pos k s) := by
  unfold missingModule
  dsimp only
  split
  · exact .refl
  · exact .ite .refl (raise_kept.after setChanView_kept)

theorem probeUnavailable_kept {ch : Nat} {s : State} : LoopsKept loopCore s (probeUnavailable ch s) := by
  unfold probeUnavailable
  split
  · exact .ite .refl (raise_kept.after setChanView_kept)
  · exact .refl

theorem diagEvent_kept {n pos k code tide : Nat} {s : State} : LoopsKept loopCore s (diagEvent n pos k code tide s) := by
  unfold diagEvent
  split
  · exact chanEvent_kept
  · exact chanEvent_kept
  · exact chanEvent_kept
  · exact chanEvent_kept
  · exact chanEvent_kept
  · exact .refl

theorem takeDiag_kept {n pos k code tide : Nat} {s : State} : LoopsKept loopCore s (takeDiag n pos k code tide s) := by
  unfold takeDiag
  lift_lets
  extract_lets
  split
  · exact .refl
  lift_lets
  extract_lets _ s1 s2 s3 s4
  have h1 : LoopsKept loopCore s s1 := setChanView_kept
  have h2 : LoopsKept loopCore s s2 := .ite h1 (diagEvent_kept.after h1)
  have h3 : LoopsKept loopCore s s3 := .ite (chanEvent_kept.after h2) h2
  have h4 : LoopsKept loopCore s s4 := .ite (probeUnavailable_kept.after h3) h3
  exact .ite (chanEvent_kept.after h4) h4

theorem takeStatus_kept {n pos w tide : Nat} {s : State} : LoopsKept loopCore s (takeStatus n pos w tide s) := by
  unfold takeStatus
  split
  · exact .refl
  lift_lets
  extract_lets _ _ _ _ _ s1 _ s3 s4 s5 _ _ s6
  have h3 : LoopsKept loopCore s s3 := raiseIf_kept.after (raiseIf_kept.after setView_kept)
  have h4 : LoopsKept loopCore s s4 :=
    .ite (raise_kept.after (setView_kept.after h3)) (.ite (.foldl (fun _ _ => setChanView_kept.after loadLife_kept) (raise_kept.after (setView_kept.after h3))) h3)
  have h5 : LoopsKept loopCore s s5 := .foldl (fun _ _ => takeDiag_kept) h4
  have h6 : LoopsKept loopCore s s6 := .ite (chanEvent_kept.after h5) h5
  exact .ite (chanEvent_kept.after (setView_kept.after h6)) h6

theorem cellsChanged_kept {g : Loop → Loop} {s : State} : LoopsKept g s (cellsChanged s) := .of_touches cellsChanged_touches

/-- A loop that goes to OFF (07 R276, R285, R289). -/
theorem loopOff_core {n cause : Nat} {s : State} (h : n < s.knani.loops.length) :
    (loopOf (loopOff n cause s) n).st = 0 ∧ (loopOf (loopOff n cause s) n).cause = cause ∧ (loopOf (loopOff n cause s) n).enum = none := by
  have hlen : n < (dropManage n (answerStart n stAborted s)).knani.loops.length := by rwa [dropManage_kept.length, answerStart_kept.length]
  unfold loopOff
  rw [loopOf_setLoop_same hlen]
  exact ⟨rfl, rfl, rfl⟩

theorem enumLost_core {n cause : Nat} {s : State} (h : n < s.knani.loops.length) :
    (loopOf (enumLost n cause s) n).st = 0 ∧ (loopOf (enumLost n cause s) n).cause = cause ∧ (loopOf (enumLost n cause s) n).enum = none := by
  rw [show loopOf (enumLost n cause s) n = loopOf (loopOff n cause s) n from cellsChanged_kept.loopOf (g := id) n]
  exact loopOff_core h

/-- A loop that enumeration leaves in RUN (07 R276 steps 5 and 6). -/
theorem enumRun_core {n : Nat} {l : Loop} {masks : List Nat} {s : State} (h : n < s.knani.loops.length) :
    (loopOf (enumRun n l masks s) n).st = 2 ∧ (loopOf (enumRun n l masks s) n).count = l.count ∧ (loopOf (enumRun n l masks s) n).transit = l.transit ∧
    (loopOf (enumRun n l masks s) n).enum = none := by
  unfold enumRun
  extract_lets l1 s1 poss s2 s3 without s4
  have h1 : loopOf s1 n = l1 := loopOf_setLoop_same h
  have h2 : LoopsKept loopCore s1 s2 := .foldl (fun _ _ => .foldl (fun x k => by
    split
    · exact .ite missingModule_kept .refl
    · exact loadLife_kept.after (.of_touches idFault_touches)) .refl) .refl
  have h3 : LoopsKept loopCore s1 s3 := .foldl (fun _ _ => .ite .refl (chanEvent_kept.after setPhys_kept)) h2
  have hcore : ∀ u, LoopsKept loopCore s1 u → (loopOf u n).st = 2 ∧ (loopOf u n).count = l.count ∧ (loopOf u n).transit = l.transit ∧ (loopOf u n).enum = none := fun u hu => by
    have hl := hu.loopOf n
    rw [h1] at hl
    exact ⟨(congrArg Loop.st hl).trans rfl, (congrArg Loop.count hl).trans rfl, (congrArg Loop.transit hl).trans rfl, (congrArg Loop.enum hl).trans rfl⟩
  exact hcore _ (cellsChanged_kept.after (raise_kept.after (raiseIf_kept.after h3)))

/-! ## Segments -/

theorem delays_c (d : Nat) (l : List NodeView) (k : Nat) : ((delays d l)[k]?).map (·.c) = (l[k]?).map (·.c) := by
  induction l generalizing d k with
  | nil => rfl
  | cons v r ih =>
    cases k with
    | zero => rfl
    | succ k => exact ih _ k

/-- The delay that a segment's echo gives; 0 where none was measured (07 R272). -/
theorem getD_segDelays (phys : List NodeDev) (rts : List Nat) (k : Nat) :
    ((List.range rts.length).map (fun k => segDelay phys k (rts.getD k 0))).getD k 0 = segDelay phys k (rts.getD k 0) := by
  rw [List.getD_eq_getElem?_getD, List.getElem?_map]
  by_cases hk : k < rts.length
  · rw [List.getElem?_range hk]
    rfl
  · rw [List.getElem?_eq_none (by simpa using hk), getD_of_length_le _ (by omega), segDelay, Nat.zero_sub]
    rfl

/-- A loop with its next segment measured (07 R272, R275). -/
def measured (l : Loop) (rt cyc : Nat) : Loop :=
  rederive { l with
    nodes := lmod l.nodes l.segNext (fun v => { v with c := segDelay l.phys l.segNext rt }), cLast := if l.segNext == l.nodes.length then segDelay l.phys l.segNext rt else l.cLast
    segNext := (l.segNext + 1) % (l.nodes.length + 1), segAt := cyc + cycMs 100 }

theorem measured_c {l : Loop} (rt cyc : Nat) (hk : l.segNext < l.nodes.length) : ((measured l rt cyc).nodes[l.segNext]?).map (·.c) = some (segDelay l.phys l.segNext rt) := by
  refine (delays_c ..).trans ?_
  rw [getElem?_lmod_same (List.getElem?_eq_getElem hk)]
  rfl

theorem doSegment_of_one {n rt : Nat} {r : List Nat} {s : State} (hst : (loopOf s n).st = 2) (hf : (loopOf s n).full = false) :
    doSegment n (rt :: r) s = timingReport n (writeAdvs n (loopOf s n).nodes (setLoop n (fun _ => measured (loopOf s n) rt (runToCyc (loopOf s n).segAt s).time.cyc)
      (passDone 6 (runToCyc (loopOf s n).segAt s)))) := by
  unfold doSegment
  dsimp only
  rw [if_neg (by simp [hst]), if_neg (by simp [hf])]
  rfl

/-- One segment measured again: the loop but for its MANAGE line, and when it is measured (07 R275). -/
theorem doSegment_core {n rt : Nat} {r : List Nat} {s : State} (hn : n < s.knani.loops.length) (hst : (loopOf s n).st = 2) (hf : (loopOf s n).full = false) :
    loopLess (loopOf (doSegment n (rt :: r) s) n) = loopLess (measured (loopOf s n) rt (runToCyc (loopOf s n).segAt s).time.cyc) ∧
    (doSegment n (rt :: r) s).time = (runToCyc (loopOf s n).segAt s).time := by
  have hlen : n < (passDone 6 (runToCyc (loopOf s n).segAt s)).knani.loops.length := by
    rwa [show (passDone 6 (runToCyc (loopOf s n).segAt s)).knani = s.knani from runToCyc_knani (loopOf s n).segAt s]
  have htouch : ∀ {l : List NodeView} {f : Loop → Loop} {u : State}, Touches [.out, .harbour, .knani, .journal, .recorder] u (timingReport n (writeAdvs n l (setLoop n f u))) :=
    timingReport_touches.after (writeAdvs_touches.after (setLoop_touches.after .refl))
  rw [doSegment_of_one hst hf]
  refine ⟨?_, htouch.same .time (by decide)⟩
  have hkept : ∀ {l : List NodeView} {u : State}, LoopsKept loopLess u (timingReport n (writeAdvs n l u)) := .after (.of_touches timingReport_touches) writeAdvs_kept
  rw [hkept.loopOf n, loopOf_setLoop_same hlen]

/-! ## The Knani events at the device -/

/-- The last frame of a host's transfer has returned (07 R277). -/
theorem doManageFrame_of_host {n mb slot op tag : Nat} {intact : Bool} {m x : Manage} {r : List Manage} {s : State} (hm : (loopOf s n).manage = m :: r)
    (hx : (if intact || m.result != 1 then m else { m with result := 3 }) = x) (hw : x.why = Mgmt.host) (hc : x.cmd = some (mb, slot, op, tag)) :
    doManageFrame n intact s = (fun u => if r.isEmpty then u else sendManage n u)
      (complete mb slot op tag (resultStatus x.result) (if x.result == 1 then x.got ++ x.data else []) (setLoop n (fun l => { l with manage := r }) s)) := by
  have hdone : manageDone n x r s = complete mb slot op tag (resultStatus x.result) (if x.result == 1 then x.got ++ x.data else []) (setLoop n (fun l => { l with manage := r }) s) := by
    unfold manageDone
    rw [hw, hc]
    rfl
  unfold doManageFrame
  rw [hm]
  dsimp only
  rw [hx, hdone]

theorem doCommandFrame_of_due {n b : Nat} {s : State} (hb : nextB s = some b) (hr : roleOf s = 0) (hd : s.cell.decided = true) (hst : (loopOf s n).st = 2 ∨ (loopOf s n).st = 3)
    (hf : (loopOf s n).flight = none) :
    ∃ t : Tab (List Nat) × List Byte, doCommandFrame n s = emit .knani n (b - ns1 * frameNs (loopOf s n)) t.2 (setLoop n (fun l => { l with flight := some { tide := s.time.tideNo, boundary := b, slots := t.1 } })
      (runTo (b - ns1 * frameNs (loopOf s n)) s)) ∧ ∀ k v, (loopOf s n).nodes[k]? = some v → v.slotted = true → (k, slotOf' s n k v) ∈ t.1 := by
  have hserves : ((loopOf s n).st == 2 || (loopOf s n).st == 3) = true := by simpa using hst
  unfold doCommandFrame
  rw [hb]
  dsimp only
  rw [if_neg (by simp [hr, hd, hserves, hf])]
  refine ⟨(_, _), rfl, fun k v hv hs => ?_⟩
  rw [List.mem_filterMap]
  refine ⟨k, List.mem_range.mpr (length_of_getElem? hv), ?_⟩
  rw [hv]
  exact if_pos hs

/-- A missing return counts, whatever else it leads to (07 R286). -/
theorem doReturnMissing_of_run {n : Nat} {silent : Bool} {f : Flight} {s : State} (hn : n < s.knani.loops.length) (hf : (loopOf s n).flight = some f) (hst : (loopOf s n).st = 2) :
    ∃ t, doReturnMissing n silent s = (if silent && decide (2 ≤ (loopOf s n).silent) then breakLoop n (loopOf s n).count t else t) ∧
      t.knani.loops.length = s.knani.loops.length ∧
      (loopOf t n).flight = none ∧ (loopOf t n).missRun = (loopOf s n).missRun + 1 ∧ (loopOf t n).silent = (if silent then (loopOf s n).silent + 1 else 0) ∧
      (loopOf t n).st = 2 ∧ (loopOf t n).nodes = (loopOf s n).nodes := by
  unfold doReturnMissing
  dsimp only
  rw [hf]
  dsimp only
  rw [if_neg (by simp [hst])]
  refine ⟨_, rfl, ?_⟩
  rw [loopOf_congr (raiseIf_knani ..), loopOf_setLoop_same (by rwa [runTo_knani]), loopOf_congr (runTo_knani ..), raiseIf_knani, setLoop_length, runTo_knani]
  exact ⟨rfl, rfl, rfl, rfl, hst, rfl⟩

/-- A returned frame within 1 us of the measured transit (07 R272, R286). -/
theorem doReturnedFrame_core {n transit : Nat} {noise : List (Nat × Nat)} {f : Flight} {s : State} (hn : n < s.knani.loops.length) (hf : (loopOf s n).flight = some f)
    (hst : (loopOf s n).st = 2) (ht : ((transit : Int) - (loopOf s n).transit).natAbs ≤ 1000) :
    (loopOf (doReturnedFrame n transit noise s) n).flight = none ∧ (loopOf (doReturnedFrame n transit noise s) n).transit = transit ∧
    (loopOf (doReturnedFrame n transit noise s) n).missRun = 0 ∧ (loopOf (doReturnedFrame n transit noise s) n).silent = 0 ∧ (loopOf (doReturnedFrame n transit noise s) n).st = 2 := by
  obtain ⟨s2, h2, hu⟩ : ∃ s2, (loopOf s2 n = { loopOf s n with
      flight := none, missRun := 0, silent := 0, transit := transit, full := (loopOf s n).full || decide (50 < ((transit : Int) - (loopOf s n).transitFull).natAbs) }) ∧
      LoopsKept loopCore s2 (doReturnedFrame n transit noise s) := by
    unfold doReturnedFrame
    dsimp only
    rw [hf]
    dsimp only
    rw [if_neg (by simp [hst]), if_neg (by omega)]
    refine ⟨_, ?_, .foldl (fun st e => ?_) (.ite .refl (.of_touches timingReport_touches))⟩
    · rw [loopOf_setLoop_same (by rwa [runTo_knani]), loopOf_congr (runTo_knani ..)]
    · split
      · exact takeStatus_kept
      · exact setView_kept
  have hl := hu.loopOf n
  rw [h2] at hl
  exact ⟨(congrArg Loop.flight hl).trans rfl, (congrArg Loop.transit hl).trans rfl, (congrArg Loop.missRun hl).trans rfl, (congrArg Loop.silent hl).trans rfl,
    (congrArg Loop.st hl).trans hst⟩

/-- A loop that is BROKEN before a position (07 R286, R289). -/
theorem breakLoop_core {n j : Nat} {s : State} (h : n < s.knani.loops.length) :
    (loopOf (breakLoop n j s) n).st = 3 ∧ (loopOf (breakLoop n j s) n).breakPos = some j ∧ (loopOf (breakLoop n j s) n).manage = [] := by
  have hdrop : LoopsKept id (setLoop n (fun l => { l with manage := [] }) s) (dropManage n s) := .foldl (fun _ _ => finishFor_kept) .refl
  have hloop : loopOf (dropManage n s) n = { loopOf s n with manage := [] } := (hdrop.loopOf n).trans (loopOf_setLoop_same h)
  unfold breakLoop
  rw [loopOf_congr (raise_knani ..), loopOf_setLoop_same (by rwa [dropManage_kept.length]), hloop]
  exact ⟨rfl, rfl, rfl⟩

/-! ## Identity buses -/

theorem getD_lmod_const {α : Type} {l : List α} {b : Nat} {x d : α} (h : b < l.length) : (lmod l b (fun _ => x)).getD b d = x := by
  rw [List.getD_eq_getElem?_getD, getElem?_lmod_same (List.getElem?_eq_getElem h)]
  rfl

theorem lt_length_of_getD_cons {α : Type} {l : List (List α)} {b : Nat} {t : α} {r : List α} (h : l.getD b [] = t :: r) : b < l.length := by
  refine Decidable.byContradiction fun hb => ?_
  rw [getD_of_length_le _ (by omega)] at h
  cases h

/-- The device's own reading of a record ends (07 R284). -/
theorem idOwnRead_knani (b : Nat) (r0 : Option (List Byte)) (s : State) :
    (idOwnRead b r0 s).knani = { s.knani with idRecs := lmod s.knani.idRecs b (fun _ => r0), idPart := lmod s.knani.idPart b (fun _ => []) } := by
  have hid : ∀ (t : State), (match r0 with | none => t | some r => idFault (16 + b) 1 r t).knani = t.knani := fun t => by
    cases r0 with
    | none => rfl
    | some r => exact idFault_touches.same .knani (by decide)
  have hfe : ∀ {serial read blk} (t : State), (frontendRead b serial read blk t).knani = t.knani := fun t => frontendRead_touches.same .knani (by decide)
  unfold idOwnRead
  refine iteInduction (motive := fun (t : State) => t.knani = _) (fun _ => ?_) fun _ => ?_
  · cases r0 with
    | none => rfl
    | some r => exact idFault_touches.same .knani (by decide)
  · refine (hfe _).trans ?_
    cases r0 with
    | none => rfl
    | some r => exact idFault_touches.same .knani (by decide)

/-- The last part of a record has been read: the record is whole (07 R280, R284). -/
theorem idOwnStep_of_whole {b : Nat} {d : List Byte} {s : State} (h64 : 64 ≤ (s.knani.idPart.getD b [] ++ d).length)
    (hw : recOk (s.knani.idPart.getD b [] ++ d) = true → uAt (s.knani.idPart.getD b [] ++ d) 2 2 ≤ (s.knani.idPart.getD b [] ++ d).length) :
    idOwnStep b (some d) s = idOwnRead b (some (s.knani.idPart.getD b [] ++ d)) s := by
  unfold idOwnStep
  dsimp only
  rw [if_neg]
  split
  next h =>
    have := hw h
    omega
  · omega

/-- More of a record is to be read (07 R280, R284). -/
theorem idOwnStep_of_part {b : Nat} {d : List Byte} {s : State} (hr : recOk (s.knani.idPart.getD b [] ++ d) = true)
    (hlt : (s.knani.idPart.getD b [] ++ d).length < min 4096 (uAt (s.knani.idPart.getD b [] ++ d) 2 2)) :
    ∃ x : IdTrans, (idOwnStep b (some d) s).knani = { s.knani with
        idPart := lmod s.knani.idPart b (fun _ => s.knani.idPart.getD b [] ++ d), idQ := lmod s.knani.idQ b (fun q => x :: q) } ∧
      x.op = 1 ∧ x.addr = (s.knani.idPart.getD b [] ++ d).length ∧ x.len ≤ 128 ∧ x.cmd = none := by
  unfold idOwnStep
  dsimp only
  rw [if_pos (by rw [if_pos hr]; omega), emit_knani]
  exact ⟨_, rfl, rfl, rfl, Nat.min_le_left .., rfl⟩

theorem doIdTransaction_of_own {b crc : Nat} {t : IdTrans} {r : List IdTrans} {a d : List Byte} {s : State} (hq : s.knani.idQ.getD b [] = t :: r) (hc : t.cmd = none)
    (hd : idData t a crc = some d) :
    doIdTransaction b (some a) crc s = idOwnStep b (some d) { s with knani := { s.knani with idQ := lmod s.knani.idQ b (fun _ => r) } } := by
  unfold doIdTransaction
  rw [hq]
  dsimp only
  rw [hc]
  dsimp only
  rw [hd]

/-- A host's transaction on an identity bus is answered (07 R284, R292). -/
theorem doIdTransaction_of_answer {b crc mb slot op tag : Nat} {t : IdTrans} {r : List IdTrans} {a : List Byte} {s : State} (hq : s.knani.idQ.getD b [] = t :: r)
    (hc : t.cmd = some (mb, slot, op, tag)) :
    doIdTransaction b (some a) crc s = complete mb slot op tag (if t.op ≠ 1 then resultStatus (uAt a 0 1) else if (idData t a crc).isSome then stOk else 0x0782)
      (if t.op ≠ 1 then [] else (idData t a crc).getD []) { s with knani := { s.knani with idQ := lmod s.knani.idQ b (fun _ => r) } } := by
  unfold doIdTransaction
  rw [hq]
  dsimp only
  rw [hc]
  dsimp only
  by_cases hop : t.op = 1
  · rw [if_pos (show (t.op == 1) = true from beq_iff_eq.mpr hop), if_neg (Decidable.not_not.mpr hop), if_neg (Decidable.not_not.mpr hop)]
    cases idData t a crc <;> rfl
  · rw [if_neg (show ¬ (t.op == 1) = true by simpa using hop), if_pos hop, if_pos hop]
    rfl

/-- A loop whose enumeration returns with a sound population (07 R276). -/
theorem doEnumerateReturn_of_sound {n transit cnt : Nat} {rts masks : List Nat} {l : Loop} {s : State} (he : (loopOf s n).enum = some cnt)
    (hst : (loopOf s n).st = 1) (h1 : 1 ≤ cnt) (h64 : cnt ≤ 64) (hbefore : (loopOf s n).before = []) (hphys : (loopOf s n).phys.length = cnt)
    (hl : l = rederive { loopOf s n with
      count := cnt, transit := transit, transitFull := transit, cLast := segDelay (loopOf s n).phys cnt (rts.getD cnt 0)
      nodes := giveSlots (bitBudget (tideP s)) ((List.range cnt).filterMap (fun k => ((loopOf s n).phys[k]?).map (fun d => nodeViewOf (segDelay (loopOf s n).phys k (rts.getD k 0)) d.idRec))) })
    (hbad : timingBad l = false) (hroom : otherChannels s n + loopChannels l ≤ 4096) :
    ∃ t, t.knani.loops.length = s.knani.loops.length ∧ doEnumerateReturn n rts transit masks s = enumRun n l masks t := by
  have hlen : ((List.range cnt).filterMap (fun k => ((loopOf s n).phys[k]?).map (fun d => nodeViewOf (segDelay (loopOf s n).phys k (rts.getD k 0)) d.idRec))).length = cnt := by
    rw [List.filterMap_length_eq_length.mpr, List.length_range]
    intro k hk
    rw [List.getElem?_eq_getElem (by rw [hphys]; exact List.mem_range.mp hk)]
    rfl
  unfold doEnumerateReturn
  dsimp only
  rw [he]
  dsimp only
  rw [if_neg (by simp [hst]), if_neg (by simp; omega)]
  simp only [getD_segDelays, hphys, Nat.min_eq_right h64, hlen]
  have hb : l.before = [] := by
    rw [hl]
    exact hbefore
  dsimp only at hl
  rw [he] at hl
  rw [← hl, if_neg (by simpa using hroom), if_neg (by simp [hbad]), hb]
  refine ⟨_, ?_, rfl⟩
  rw [setLoop_length]
  exact (LoopsKept.foldl (g := loopCore) (fun _ _ => .of_touches idFault_touches) (.ite (.after (.of_touches enumFail_touches) answerStart_kept) answerStart_kept)).length

/-- An enumeration that does not end in time leaves the loop in OFF (07 R276). -/
theorem doEnumTimeout_of_enum {n k : Nat} {returned : Bool} {s : State} (he : (loopOf s n).enum = some k) (hst : (loopOf s n).st = 1) :
    (doEnumTimeout n returned s).knani =
      (enumLost n (if returned then 3 else 2) (answerStart n stAccepted (runToCyc ((loopOf s n).enumAt + (if returned then cycMs 10000 else cycMs 1)) s))).knani ∧
    (doEnumTimeout n returned s).time = (runToCyc ((loopOf s n).enumAt + (if returned then cycMs 10000 else cycMs 1)) s).time := by
  have htime : ∀ {cause : Nat} {u : State}, (enumLost n cause (answerStart n stAccepted u)).time = u.time := fun {cause u} =>
    (show Touches [.out, .mem, .harbour, .cell, .knani, .journal, .recorder] u (enumLost n cause (answerStart n stAccepted u)) from
      enumLost_touches.after (answerStart_touches.after .refl)).same .time (by decide)
  unfold doEnumTimeout
  dsimp only
  rw [he]
  dsimp only
  rw [if_neg (by simp [hst])]
  cases returned
  · exact ⟨raise_knani .., (raise_time ..).trans htime⟩
  · exact ⟨raise_knani .., (raise_time ..).trans htime⟩

/-- Settles O32: each event's effect on its loop. -/
theorem knaniLoopEvents : Obligations.KnaniLoopEvents := by
  unfold Obligations.KnaniLoopEvents
  refine ⟨fun n b s hn hb hr hd hst hf => ?_, fun n transit noise f s hn hf hst ht => ?_, fun n transit noise f s hn hf hst ht => ?_, fun n f s hn hf hst => ?_,
    fun n f s hn hf hst hs => ?_, fun n h s hn hh hst => ?_, fun n mb slot op tag m r s hm hw hc => ?_, fun n mb slot op tag m s hm hw hc hres => ?_,
    fun n rt r s hn hst hf hk => ?_, fun n transit cnt rts masks l s hn he hst h1 h64 hb hp hl hbad hroom => ?_, fun n transit rts masks s hn he hst => ?_,
    fun n k returned s hn he hst => ?_, fun n k s hn hk => ?_, fun b crc t r mb slot op tag s hq hc => ?_, fun b crc t r mb slot op tag a s hq hc => ?_,
    fun b crc t r a d s hq hc hb hd h64 hw => ?_, fun b crc t r a d s hq hc hb hd hr hlt => ?_⟩
  · refine reaches_done rfl ?_
    obtain ⟨t, heq, hslots⟩ := doCommandFrame_of_due hb hr hd hst hf
    rw [loopOf_congr (settle_knani _), heq, loopOf_congr (emit_knani ..), loopOf_setLoop_same (by rwa [runTo_knani])]
    exact ⟨_, rfl, rfl, rfl, hslots⟩
  · refine reaches_done rfl ?_
    rw [loopOf_congr (settle_knani _)]
    exact doReturnedFrame_core hn hf hst ht
  · show done (doReturnedFrame n transit noise s) = done (doReturnMissing n false s)
    unfold doReturnedFrame
    dsimp only
    rw [hf]
    dsimp only
    rw [if_neg (by simp [hst]), if_pos ht]
  · refine reaches_done rfl ?_
    obtain ⟨t, heq, -, hflight, hmiss, hsil, hrun, hnodes⟩ := doReturnMissing_of_run (silent := false) hn hf hst
    rw [loopOf_congr (settle_knani _), heq]
    exact ⟨hflight, hmiss, hsil, hrun, hnodes⟩
  · refine reaches_done rfl ?_
    obtain ⟨t, heq, hlen, -⟩ := doReturnMissing_of_run (silent := true) hn hf hst
    rw [loopOf_congr (settle_knani _), heq, if_pos (by simpa using hs)]
    obtain ⟨hst', hpos, -⟩ := breakLoop_core (j := (loopOf s n).count) (hlen ▸ hn)
    exact ⟨hst', hpos⟩
  · refine reaches_done rfl ?_
    have heq : doBreakFrame n s = breakLoop n ((loopOf s n).count - h) s := by simp [doBreakFrame, hh, hst]
    rw [loopOf_congr (settle_knani _), heq]
    exact breakLoop_core hn
  · show done (doManageFrame n true s) = _
    rw [doManageFrame_of_host (x := m) hm rfl hw hc]
    rfl
  · show done (doManageFrame n false s) = _
    rw [doManageFrame_of_host (x := { m with result := 3 }) hm (by rw [hres]; rfl) hw hc]
    rfl
  · refine reaches_done rfl ?_
    obtain ⟨hl, htime⟩ := doSegment_core (rt := rt) (r := r) hn hst hf
    have hnodes : (loopOf (doSegment n (rt :: r) s) n).nodes = (measured (loopOf s n) rt (runToCyc (loopOf s n).segAt s).time.cyc).nodes := (congrArg Loop.nodes hl).trans rfl
    rw [loopOf_congr (settle_knani _), settle_time, htime, hnodes]
    exact ⟨(congrArg Loop.segNext hl).trans rfl, measured_c _ _ hk, (congrArg Loop.segAt hl).trans rfl, le_runToCyc_cyc ..⟩
  · refine reaches_done rfl ?_
    obtain ⟨t, hlen, heq⟩ := doEnumerateReturn_of_sound (rts := rts) (masks := masks) (transit := transit) he hst h1 h64 hb hp hl hbad hroom
    obtain ⟨hst', hcnt, htr, hen⟩ := enumRun_core (l := l) (masks := masks) (hlen ▸ hn)
    rw [loopOf_congr (settle_knani _), heq, hst', hcnt, htr, hen, hl]
    exact ⟨rfl, rfl, rfl, rfl⟩
  · refine reaches_done rfl ?_
    have heq : doEnumerateReturn n rts transit masks s = enumLost n 1 (answerStart n stAccepted s) := by
      unfold doEnumerateReturn
      dsimp only
      rw [he]
      dsimp only
      rw [if_neg (by simp [hst]), if_pos (by rfl)]
    rw [loopOf_congr (settle_knani _), heq]
    exact enumLost_core (by rwa [answerStart_kept.length])
  · refine reaches_done rfl ?_
    obtain ⟨heq, htime⟩ := doEnumTimeout_of_enum (returned := returned) he hst
    rw [loopOf_congr (settle_knani _), settle_time, htime, loopOf_congr heq]
    obtain ⟨hst', hcause, hen⟩ := enumLost_core (cause := if returned then 3 else 2)
      (s := answerStart n stAccepted (runToCyc ((loopOf s n).enumAt + (if returned then cycMs 10000 else cycMs 1)) s)) (by rwa [answerStart_kept.length, runToCyc_knani])
    exact ⟨hst', hcause, le_runToCyc_cyc ..⟩
  · refine reaches_done rfl ?_
    have heq : doWatchdogRestore n s = (List.range (loopOf s n).nodes.length).foldl (fun st k =>
      if (((loopOf s n).nodes[k]?).map (·.slotted)).getD false then ownWrite n k 7 (le 1 s.votes.tide.value) st else st) (setLoop n (fun l => { l with dogAt := none }) (runToCyc k s)) := by
      unfold doWatchdogRestore
      dsimp only
      rw [hk]
    have hkept : LoopsKept loopLess (setLoop n (fun l => { l with dogAt := none }) (runToCyc k s)) (doWatchdogRestore n s) := by
      rw [heq]
      exact .foldl (fun _ _ => .ite ownWrite_kept .refl) .refl
    have htime : Touches [.out, .knani] (runToCyc k s) (doWatchdogRestore n s) := by
      rw [heq]
      exact .foldl (fun _ _ => .ite (ownWrite_touches.after .refl) .refl) (setLoop_touches.after .refl)
    have hl := hkept.loopOf n
    rw [loopOf_setLoop_same (by rwa [runToCyc_knani])] at hl
    rw [loopOf_congr (settle_knani _), settle_time, htime.same .time (by decide)]
    exact ⟨congrArg Loop.dogAt hl, le_runToCyc_cyc ..⟩
  · show done (doIdTransaction b none crc s) = _
    unfold doIdTransaction
    rw [hq]
    dsimp only
    rw [hc]
    rfl
  · show done (doIdTransaction b (some a) crc s) = _
    rw [doIdTransaction_of_answer hq hc]
    rfl
  · refine reaches_done rfl ?_
    rw [settle_knani, doIdTransaction_of_own hq hc hd, idOwnStep_of_whole (by exact h64) (by exact hw), idOwnRead_knani]
    exact ⟨getD_lmod_const hb, getD_lmod_const (lt_length_of_getD_cons hq)⟩
  · refine reaches_done rfl ?_
    obtain ⟨x, hx, hop, haddr, hlen, hcmd⟩ := idOwnStep_of_part (b := b) (d := d) (s := { s with knani := { s.knani with idQ := lmod s.knani.idQ b (fun _ => r) } }) hr hlt
    rw [settle_knani, doIdTransaction_of_own hq hc hd, hx]
    refine ⟨getD_lmod_const hb, rfl, x, ?_, hop, haddr, hlen, hcmd⟩
    show (lmod (lmod s.knani.idQ b fun _ => r) b fun q => x :: q).getD b [] = x :: r
    rw [List.getD_eq_getElem?_getD, getElem?_lmod_same (getElem?_lmod_same (List.getElem?_eq_getElem (lt_length_of_getD_cons hq)))]
    rfl

end Sys2Proof.Proofs

namespace Sys2Proof.Proofs
open Sys2Proof Sys2Proof.Machine Sys2Proof.Safety

/-! ## What the channels of a node keep -/

theorem map_lmod_of_eq {α β : Type} {l : List α} {k : Nat} {f : α → α} {g : α → β} (h : ∀ x, g (f x) = g x) : (lmod l k f).map g = l.map g := by
  unfold lmod
  refine List.ext_getElem? fun j => ?_
  rw [List.getElem?_map, List.getElem?_map, List.getElem?_modify]
  cases l[j]? with
  | none => rfl
  | some x =>
    simp only [Option.map_some, Option.map_eq_map]
    split
    · rw [h]
    · rfl

/-- A node's state and the latched faults of its channels are kept. -/
structure FaultsKept (d e : NodeDev) : Prop where
  st : e.st = d.st
  latched : e.chans.map (·.fault) = d.chans.map (·.fault)

namespace FaultsKept
variable {d e x : NodeDev}

theorem refl : FaultsKept d d := ⟨rfl, rfl⟩
theorem after (h : FaultsKept e x) (h' : FaultsKept d e) : FaultsKept d x := ⟨h.st.trans h'.st, h.latched.trans h'.latched⟩

theorem ite {b : Prop} [Decidable b] (he : FaultsKept d e) (hx : FaultsKept d x) : FaultsKept d (if b then e else x) := by
  split
  · exact he
  · exact hx

theorem modChan {k : Nat} {f : NChan → NChan} (h : FaultsKept d e) (hf : ∀ c, (f c).fault = c.fault) : FaultsKept d (modChan k f e) :=
  ⟨h.st, (map_lmod_of_eq hf).trans h.latched⟩

theorem length (h : FaultsKept d e) : e.chans.length = d.chans.length := by
  have h' := congrArg List.length h.latched
  rwa [List.length_map, List.length_map] at h'

theorem fault (h : FaultsKept d e) (k : Nat) : (chanOf e k).fault = (chanOf d k).fault := by
  rw [chanOf, chanOf, ← getD_map_default (f := fun c : NChan => c.fault), ← getD_map_default (f := fun c : NChan => c.fault), h.latched]

end FaultsKept

theorem addLife_kept {k n0 n1 : Nat} {d : NodeDev} : FaultsKept d (addLife k n0 n1 d) := ⟨rfl, rfl⟩

theorem countPulse_fault (thr on : Nat) (c : NChan) : (countPulse thr on c).fault = c.fault := by
  unfold countPulse
  split <;> rfl

theorem countPulse_next (thr on : Nat) (c : NChan) : (countPulse thr on c).next = c.next := by
  unfold countPulse
  split <;> rfl

theorem countPulses_fault (thr : Nat) (ons : List Nat) (c : NChan) : (ons.foldl (fun c on => countPulse thr on c) c).fault = c.fault :=
  List.foldlRecOn (motive := fun (x : NChan) => x.fault = c.fault) _ _ rfl fun _ h _ _ => (countPulse_fault ..).trans h

theorem spill_kept {k : Nat} {d : NodeDev} : FaultsKept d (spill k d) := .ite (addLife_kept.after (.modChan .refl fun _ => rfl)) .refl

theorem holdPulses_kept {t k : Nat} {d : NodeDev} : FaultsKept d (holdPulses t k d) :=
  .ite (.modChan .refl fun _ => rfl) (.ite .refl (.modChan .refl fun _ => rfl))

theorem holdStart_kept {k duty : Nat} {d : NodeDev} : FaultsKept d (holdStart k duty d) :=
  .ite (.modChan .refl fun _ => rfl) (.modChan .refl fun _ => countPulse_fault ..)

/-- Counting the pulses of a channel latches no fault (08 R301, R323). -/
theorem countTo_kept {t k : Nat} {d : NodeDev} : FaultsKept d (countTo t k d) := by
  unfold countTo
  extract_lets c per n0 n excess fin thr ons on
  have hfin : ∀ {x}, FaultsKept d x → FaultsKept d (fin x) := fun h => spill_kept.after (.modChan h fun _ => rfl)
  refine .ite .refl (.ite (hfin holdPulses_kept) (.ite (hfin .refl) (.ite ?_ (.ite (hfin .refl) ?_))))
  · exact hfin (addLife_kept.after (.modChan .refl fun _ => countPulses_fault ..))
  · exact hfin (addLife_kept.after (.modChan .refl fun _ => rfl))

theorem applyProbe_kept {k e us : Nat} {d : NodeDev} : FaultsKept d (applyProbe k e us d) := by
  have h : FaultsKept d (countTo e k d) := countTo_kept
  have hset : ∀ o v, FaultsKept d (setCfg o v (countTo e k d)) := fun _ _ => ⟨h.st, h.latched⟩
  exact .ite (.modChan (hset _ _) fun _ => rfl) (addLife_kept.after (.modChan (hset _ _) fun _ => rfl))

theorem applyEdge_kept {k e mode duty : Nat} {d0 : NodeDev} : FaultsKept d0 (applyEdge k e mode duty d0) := by
  unfold applyEdge
  extract_lets d c per dr fadeOn fadeOff set f0
  have hset : ∀ {f : NChan → NChan}, (∀ c, (f c).fault = c.fault) → FaultsKept d0 (set f) := fun h => .modChan countTo_kept h
  split
  · exact .ite (hset fun _ => rfl) (hset fun _ => rfl)
  · exact .ite (hset fun _ => rfl) (hset fun _ => rfl)
  · exact .ite (hset fun _ => rfl) (addLife_kept.after (holdStart_kept.after (hset fun _ => rfl)))

theorem releaseEdge_kept {k : Nat} {d : NodeDev} : FaultsKept d (releaseEdge k d) := by
  unfold releaseEdge
  split
  · exact .refl
  · exact .ite applyProbe_kept applyEdge_kept

theorem latchWord_kept {b u w k : Nat} {d : NodeDev} : FaultsKept d (latchWord b u w k d) := .modChan releaseEdge_kept fun _ => rfl

theorem chanOf_modChan {k : Nat} {f : NChan → NChan} {d : NodeDev} (h : k < d.chans.length) : chanOf (modChan k f d) k = f (chanOf d k) := by
  unfold chanOf modChan
  dsimp only
  rw [List.getD_eq_getElem?_getD, getElem?_lmod_same (List.getElem?_eq_getElem h), List.getD_eq_getElem?_getD, List.getElem?_eq_getElem h]
  rfl

theorem addLife_chanOf (k n0 n1 j : Nat) (d : NodeDev) : chanOf (addLife k n0 n1 d) j = chanOf d j := rfl

/-- An edge that takes place no longer waits (07 R268). -/
theorem applyEdge_next {k e mode duty : Nat} {d0 : NodeDev} (h : k < d0.chans.length) : (chanOf (applyEdge k e mode duty d0) k).next = none := by
  unfold applyEdge
  extract_lets d c per dr fadeOn fadeOff set f0
  have hd : k < d.chans.length := by rwa [countTo_kept.length]
  have hset : ∀ {f : NChan → NChan}, (chanOf (set f) k).next = none := congrArg NChan.next (chanOf_modChan hd)
  have hlen : ∀ {f : NChan → NChan}, k < (set f).chans.length := by
    intro f
    rwa [show (set f).chans.length = d.chans.length from List.length_modify ..]
  split
  · split <;> exact hset
  · split <;> exact hset
  · split
    · exact hset
    · rw [addLife_chanOf, holdStart]
      split
      · rw [chanOf_modChan hlen]
        exact hset
      · rw [chanOf_modChan hlen, countPulse_next]
        exact hset

theorem applyProbe_next {k e us : Nat} {d : NodeDev} (h : k < d.chans.length) : (chanOf (applyProbe k e us d) k).next = none := by
  have hd : k < (countTo e k d).chans.length := by rwa [countTo_kept.length]
  have hmod : ∀ {f : NChan → NChan} {a : Nat} {b : List Byte}, chanOf (modChan k f (setCfg a b (countTo e k d))) k = f (chanOf (countTo e k d) k) := chanOf_modChan hd
  unfold applyProbe
  dsimp only
  split
  · rw [hmod]
  · rw [addLife_chanOf, hmod]

theorem releaseEdge_next {k w e : Nat} {d : NodeDev} (h : (chanOf d k).next = some (w, e)) : (chanOf (releaseEdge k d) k).next = none := by
  have hk : k < d.chans.length := by
    refine Decidable.byContradiction fun hk => ?_
    rw [chanOf, getD_of_length_le _ (by omega)] at h
    cases h
  unfold releaseEdge
  rw [h]
  dsimp only
  split
  · exact applyProbe_next hk
  · exact applyEdge_next hk

/-! ## Nodes and channels of a loop -/

theorem length_of_physOf {n pos : Nat} {d : NodeDev} {s : State} (h : physOf s n pos = some d) : n < s.knani.loops.length := by
  refine Decidable.byContradiction fun hn => ?_
  rw [physOf, loopOf, getD_of_length_le _ (by omega)] at h
  cases h

theorem physOf_setLoop {n pos : Nat} {f : Loop → Loop} {s : State} (hn : n < s.knani.loops.length) : physOf (setLoop n f s) n pos = (f (loopOf s n)).phys[pos]? := by
  rw [physOf, loopOf_setLoop_same hn]

theorem physOf_setPhys {n pos : Nat} {f : NodeDev → NodeDev} {d : NodeDev} {s : State} (h : physOf s n pos = some d) : physOf (setPhys n pos f s) n pos = some (f d) := by
  rw [setPhys, physOf_setLoop (length_of_physOf h)]
  exact getElem?_lmod_same h

theorem physOf_congr {s t : State} (h : t.knani = s.knani) {n pos : Nat} : physOf t n pos = physOf s n pos := by rw [physOf, loopOf_congr h, ← physOf]

/-- A loop without its physical nodes. -/
def loopViews (l : Loop) : Loop := { l with phys := [] }
/-- A loop without the device's records of its nodes. -/
def loopPhys (l : Loop) : Loop := { l with nodes := [] }

theorem nodeOf_of_kept {s t : State} (h : LoopsKept loopViews s t) (c : Nat) : nodeOf t c = nodeOf s c := by
  have hn : (loopOf t (chLoop c)).nodes = (loopOf s (chLoop c)).nodes := (congrArg Loop.nodes (h.loopOf (chLoop c))).trans rfl
  rw [nodeOf, nodeOf, hn]

theorem viewOf_of_kept {s t : State} (h : LoopsKept loopViews s t) (c : Nat) : viewOf t c = viewOf s c := by rw [viewOf, viewOf, nodeOf_of_kept h]

theorem physOf_of_kept {s t : State} (h : LoopsKept loopPhys s t) (n pos : Nat) : physOf t n pos = physOf s n pos := by
  have hn : (loopOf t n).phys = (loopOf s n).phys := (congrArg Loop.phys (h.loopOf n)).trans rfl
  rw [physOf, physOf, hn]

theorem setPhys_views {n pos : Nat} {f : NodeDev → NodeDev} {s : State} : LoopsKept loopViews s (setPhys n pos f s) := setLoop_kept fun _ => rfl
theorem setChanView_phys {c : Nat} {f : ChanView → ChanView} {s : State} : LoopsKept loopPhys s (setChanView c f s) := setLoop_kept fun _ => rfl

theorem viewOf_setChanView {c : Nat} {f : ChanView → ChanView} {w : ChanView} {s : State} (h : viewOf s c = some w) : viewOf (setChanView c f s) c = some (f w) := by
  obtain ⟨v, hv, hw⟩ := Option.bind_eq_some_iff.mp h
  have hn : chLoop c < s.knani.loops.length := by
    refine Decidable.byContradiction fun hn => ?_
    rw [nodeOf, loopOf, getD_of_length_le _ (by omega)] at hv
    cases hv
  have hnode : nodeOf (setChanView c f s) c = some { v with chans := lmod v.chans (chNo c) f } := by
    rw [nodeOf, setChanView, setView, loopOf_setLoop_same hn]
    exact getElem?_lmod_same hv
  rw [viewOf, hnode, Option.bind_some]
  split at hw
  next hc => exact (if_pos hc).trans (getElem?_lmod_same hw)
  · cases hw

theorem chanCode_parts {n pos k : Nat} (hn : n < 16) (hp : pos < 64) (hk : k < 8) :
    chLoop (chanCode n pos k) = n ∧ chPos (chanCode n pos k) = pos ∧ chNo (chanCode n pos k) = k := by
  unfold chLoop chPos chNo chanCode
  omega

theorem chanEvent_phys {ch : Nat} {e : Ev} {s : State} : LoopsKept loopPhys s (chanEvent ch e s) := by
  unfold chanEvent
  split
  · exact .refl
  · exact .ite (raise_kept.after setChanView_phys) .refl

theorem chanEvent_missing (ch : Nat) (e : Ev) (s : State) : (viewOf (chanEvent ch e s) ch).map (·.missing) = (viewOf s ch).map (·.missing) := by
  have hset : ∀ (f : ChanView → ChanView) (v : ChanView), viewOf s ch = some v → (f v).missing = v.missing →
      (viewOf (raise e (setChanView ch f s)) ch).map (·.missing) = (viewOf s ch).map (·.missing) := fun f v hv hf => by
    rw [viewOf_of_kept raise_kept, viewOf_setChanView hv, hv]
    exact congrArg some hf
  unfold chanEvent
  split
  · rfl
  next v hv =>
    refine iteInduction (motive := fun t => (viewOf t ch).map (·.missing) = (viewOf s ch).map (·.missing)) (fun _ => hset _ v hv rfl) fun _ => rfl

/-! ## Life counts -/

/-- SERIAL and TYPE in the shadow of each module are kept. -/
def ShadowKept (s t : State) : Prop := ∀ ch, (tget t.knani.shadow ch).map (fun x => (x.serial, x.type)) = (tget s.knani.shadow ch).map (fun x => (x.serial, x.type))

theorem ShadowKept.of_eq {s t : State} (h : t.knani.shadow = s.knani.shadow) : ShadowKept s t := fun ch => by rw [h]
theorem ShadowKept.after {s t u : State} (h : ShadowKept t u) (h' : ShadowKept s t) : ShadowKept s u := fun ch => (h ch).trans (h' ch)
theorem ShadowKept.foldl {α : Type} {l : List α} {f : State → α → State} {s t : State} (hf : ∀ u a, ShadowKept u (f u a)) (h : ShadowKept s t) : ShadowKept s (l.foldl f t) :=
  List.foldlRecOn (motive := ShadowKept s) _ _ h fun u hu a _ => (hf u a).after hu

theorem shadow_tset {ch : Nat} {x y : Shadow} {s t : State} (hx : tget s.knani.shadow ch = some x) (hs : y.serial = x.serial) (ht : y.type = x.type)
    (h : t.knani.shadow = tset s.knani.shadow ch y) : ShadowKept s t := fun j => by
  rw [h, tget_tset]
  split
  next hj =>
    subst hj
    rw [hx, Option.map_some, Option.map_some, hs, ht]
  · rfl

theorem pushManage_shadow (n : Nat) (m : Manage) (s : State) : (pushManage n m s).knani.shadow = s.knani.shadow := by
  unfold pushManage
  dsimp only
  split
  · rw [show (sendManage n (setLoop n (fun l => { l with manage := l.manage ++ [m] }) s)).knani = (setLoop n (fun l => { l with manage := l.manage ++ [m] }) s).knani from
      sendManage_touches.same .knani (by decide)]
    rfl
  · rfl

theorem chanEvent_shadow (ch : Nat) (e : Ev) (s : State) : (chanEvent ch e s).knani.shadow = s.knani.shadow := by
  unfold chanEvent
  split
  · rfl
  · refine iteInduction (motive := fun t : State => t.knani.shadow = s.knani.shadow) (fun _ => ?_) fun _ => rfl
    rw [raise_knani]
    rfl

theorem wearMarks_shadow {ch : Nat} {s : State} : ShadowKept s (wearMarks ch s) := by
  unfold wearMarks
  split
  · exact .of_eq rfl
  next x hx =>
    refine shadow_tset hx (y := { x with near := x.near || decide (900 ≤ usedMille x), worn := x.worn || decide (1000 ≤ usedMille x) }) rfl rfl ?_
    dsimp only [setChanView, setView, setLoop]
    rw [raiseIf_knani, raiseIf_knani]

theorem lifeCheck1_shadow {n pos k : Nat} {s : State} : ShadowKept s (lifeCheck1 n pos k s) := by
  unfold lifeCheck1
  extract_lets s0 ch
  have h0 : ShadowKept s s0 := .of_eq rfl
  split
  next d x hd hx =>
    split
    · exact h0
    · extract_lets c0 c1 s1 s2 due s3
      have h1 : ShadowKept s0 s1 := shadow_tset hx (y := { x with c0 := c0, c1 := c1 }) rfl rfl rfl
      have h3 : ShadowKept s2 s3 := iteInduction (fun _ => .of_eq (pushManage_shadow ..)) fun _ => .of_eq rfl
      exact wearMarks_shadow.after (h3.after ((ShadowKept.of_eq rfl).after (h1.after h0)))
  · exact h0

theorem overChannels_shadow (s : State) : ShadowKept s (overChannels lifeCheck1 s) := by
  unfold overChannels
  refine .foldl (fun u n => ?_) (.of_eq rfl)
  dsimp only
  split
  · exact .of_eq rfl
  · refine .foldl (fun x pos => ?_) (.of_eq rfl)
    split
    · split
      · exact .foldl (fun y k => lifeCheck1_shadow) (.of_eq rfl)
      · exact .of_eq rfl
    · exact .of_eq rfl

/-! ## Modules -/

/-- A module's record as it is found in its place (08 R327). -/
theorem patchOpt_getElem? (l : List (Option (List Byte))) (k : Nat) (r : Option (List Byte)) : (doModuleHeader.patchOpt l k r)[k]? = some r := by
  have hlen : (l.take k ++ List.replicate (k - l.length) none).length = k := by
    rw [List.length_append, List.length_take, List.length_replicate]
    omega
  rw [doModuleHeader.patchOpt, List.append_assoc, List.getElem?_append_right (by omega), hlen, Nat.sub_self]
  rfl

theorem modOf_patched {d : NodeDev} {k : Nat} {r : List Byte} (h : recOk r = true) : modOf { d with mods := doModuleHeader.patchOpt d.mods k (some r) } k = some r := by
  simp [modOf, patchOpt_getElem?, h]

/-- The module of a channel enters RUN: its record stays in its place, it is no longer missing, the shadow holds it (08 R324, R327). -/
theorem loadLife_of_module {n pos k : Nat} {r : List Byte} {d : NodeDev} {w : ChanView} {s : State} (hd : physOf s n pos = some d) (hm : modOf d k = some r)
    (hw : viewOf s (chanCode n pos k) = some w) :
    (physOf (loadLife n pos k s) n pos).bind (fun x => modOf x k) = some r ∧ (viewOf (loadLife n pos k s) (chanCode n pos k)).map (·.missing) = some false ∧
    (tget (loadLife n pos k s).knani.shadow (chanCode n pos k)).map (fun x => (x.serial, x.type)) = some (recSerial r, recType r) := by
  unfold loadLife
  rw [hd, Option.bind_some, hm]
  extract_lets ch old _
  dsimp -zeta only
  extract_lets now known sh c0 c1 changed s1 s2 s3
  have hsh : sh.serial = recSerial r ∧ sh.type = recType r := by
    cases hk : known with
    | false => simp only [sh, hk]; exact ⟨rfl, rfl⟩
    | true =>
      cases ho : old with
      | none => simp only [sh, hk, ho]; exact ⟨rfl, rfl⟩
      | some x =>
        have hmatch : x.serial = recSerial r ∧ x.type = recType r := by simpa [known, ho] using hk
        simp only [sh, hk, ho]
        exact hmatch
  have h2 : physOf s2 n pos = some (setCfg (chanBase k + 0x20) (le 4 c1) (setCfg (chanBase k + 0x18) (le 8 c0) d)) := physOf_setPhys (s := s1) hd
  have h3 : physOf s3 n pos = physOf s2 n pos := physOf_of_kept setChanView_phys n pos
  have hv : viewOf s3 ch = some _ := viewOf_setChanView ((viewOf_of_kept setPhys_views ch).trans hw)
  have hshadow : s3.knani.shadow = tset s.knani.shadow ch { sh with c0 := c0, c1 := c1 } := rfl
  have hs : ∀ u : State, LoopsKept loopPhys s3 u → (viewOf u ch).map (·.missing) = (viewOf s3 ch).map (·.missing) → u.knani.shadow = s3.knani.shadow →
      (physOf u n pos).bind (fun x => modOf x k) = some r ∧ (viewOf u ch).map (·.missing) = some false ∧
      (tget u.knani.shadow ch).map (fun x => (x.serial, x.type)) = some (recSerial r, recType r) := fun u hu hvu hsu => by
    rw [physOf_of_kept hu, h3, h2, hvu, hv, hsu, hshadow, tget_tset, if_pos rfl, Option.map_some, hsh.1, hsh.2]
    exact ⟨hm, rfl, rfl⟩
  refine iteInduction (motive := fun u : State => (physOf u n pos).bind (fun x => modOf x k) = some r ∧ (viewOf u ch).map (·.missing) = some false ∧
      (tget u.knani.shadow ch).map (fun x => (x.serial, x.type)) = some (recSerial r, recType r)) (fun _ => hs _ chanEvent_phys (chanEvent_missing ..) (chanEvent_shadow ..)) fun _ => hs _ .refl rfl rfl

theorem doNodeFrame_of_slot {n pos q : Nat} {x : NodeSense} {f : Flight} {d : NodeDev} {words : List Nat} {s : State} (hf : (loopOf s n).flight = some f) (hd : physOf s n pos = some d)
    (hq : d.pos = some q) (hw : tget f.slots pos = some words) (hst : tget f.status pos = none) :
    ∃ t, doNodeFrame n pos x s = setLoop n (fun l => { l with
      flight := l.flight.map (fun g => { g with status := tset g.status pos (frameAtNode (dtNow (runTo t s)) f.boundary words x d).1 })
      phys := lmod l.phys pos (fun _ => (frameAtNode (dtNow (runTo t s)) f.boundary words x d).2) }) (runTo t s) := by
  unfold doNodeFrame
  dsimp only
  rw [hf, hd]
  dsimp only
  rw [hw, hq]
  dsimp only
  rw [if_neg (by simp [hst])]
  exact ⟨_, rfl⟩

theorem missingModule_missing {n pos k : Nat} {w : ChanView} {s : State} (h : viewOf s (chanCode n pos k) = some w) :
    (viewOf (missingModule n pos k s) (chanCode n pos k)).map (·.missing) = some true := by
  unfold missingModule
  dsimp only
  rw [h]
  dsimp only
  split
  next hm => rw [h, Option.map_some, hm]
  · rw [viewOf_of_kept raise_kept, viewOf_setChanView h]
    rfl

/-- A header read on a slotted node's channel (08 R327). -/
theorem doModuleHeader_none {n pos k : Nat} {v : NodeView} {w : ChanView} {s : State} (hw : viewOf s (chanCode n pos k) = some w) (hv : nodeOf s (chanCode n pos k) = some v)
    (hst : (loopOf s n).st = 2) (hs : v.slotted = true) (hb : bit v.features 2 = true) :
    doModuleHeader n pos k none s = missingModule n pos k (setPhys n pos (fun d => { d with mods := doModuleHeader.patchOpt d.mods k none }) s) := by
  unfold doModuleHeader
  rw [hw, hv]
  dsimp only
  rw [if_neg (by simp [hst, hs]), if_pos hb]

theorem doModuleHeader_of_other {n pos k : Nat} {r : List Byte} {v : NodeView} {w : ChanView} {d : NodeDev} {s : State} (hw : viewOf s (chanCode n pos k) = some w)
    (hv : nodeOf s (chanCode n pos k) = some v) (hst : (loopOf s n).st = 2) (hs : v.slotted = true) (hd : physOf s n pos = some d)
    (hne : ∀ x, modOf d k = some x → recSerial x ≠ recSerial r ∨ recType x ≠ recType r) :
    doModuleHeader n pos k (some r) s = loadLife n pos k (idFault n (256 * pos + 2 + k) r (setPhys n pos (fun d => { d with mods := doModuleHeader.patchOpt d.mods k (some r) }) s)) := by
  unfold doModuleHeader
  rw [hw, hv]
  dsimp only
  rw [if_neg (by simp [hst, hs]), hd, Option.bind_some]
  cases hm : modOf d k with
  | none => rfl
  | some x =>
    dsimp only
    have hno : (recSerial x == recSerial r && recType x == recType r) = false := by
      rcases hne x hm with h | h <;> simp [h]
    rw [if_neg (by simp [hno])]

/-- Settles O33: each event's effect on its node. -/
theorem knaniNodeEvents : Obligations.KnaniNodeEvents := by
  unfold Obligations.KnaniNodeEvents
  refine ⟨fun n pos x f d q words s hn hf hd hq hw hst => ?_, fun n pos b d s hn hd hb hst => ?_, fun n pos k d s hn hd hk hst => ?_, fun n pos s hp => ?_, fun n pos s hp => ?_,
    fun s => ?_, fun n pos k v w s hn hw hv hn16 hp hk hst hs hb => ?_, fun n pos k r d v w s hn hn16 hp hk hd hw hv hst hs hr hne => ?_, fun n pos d s hn hd => ?_,
    fun n pos k w e d s hn hd hnext => ?_, fun n k idRec mods s he hst => ?_, fun n echo q intact m r d s hm hd hq hres => ?_,
    fun n pos k mA d s hn hd hk hmA hmode hfault => ?_, fun n pos temp d s hn hd hshut => ?_⟩
  · refine reaches_done rfl ?_
    obtain ⟨t, heq⟩ := doNodeFrame_of_slot (x := x) hf hd hq hw hst
    have hn' : n < (runTo t s).knani.loops.length := by rwa [runTo_knani]
    have htime : dtNow (settle (doNodeFrame n pos x s)) = dtNow (runTo t s) := dtNow_congr (by rw [settle_time, heq]; rfl)
    have hd' := (physOf_congr (runTo_knani t s)).trans hd
    rw [htime, physOf_congr (settle_knani _), loopOf_congr (settle_knani _), heq, physOf_setLoop hn', loopOf_setLoop_same hn', loopOf_congr (runTo_knani ..), hf]
    rw [physOf, loopOf_congr (runTo_knani ..)] at hd'
    exact ⟨getElem?_lmod_same hd', rfl⟩
  · refine reaches_done rfl ?_
    have heq : doNodeLatch n pos s = setPhys n pos (fun d' => { (List.range (min 8 (d.slot.getD []).length)).foldl
        (fun x k => latchWord b (max us1 (nodeP d / 1000)) ((d.slot.getD []).getD k 0) k x) d' with slot := none, latchAt := none }) (runTo b s) := by
      unfold doNodeLatch
      rw [hd]
      dsimp only
      rw [hb]
      dsimp only
      rw [if_neg (by simp [hst])]
    rw [physOf_congr (settle_knani _), heq, physOf_setPhys ((physOf_congr (runTo_knani ..)).trans hd), Option.map_some]
    have hkept : FaultsKept d ((List.range (min 8 (d.slot.getD []).length)).foldl (fun x k => latchWord b (max us1 (nodeP d / 1000)) ((d.slot.getD []).getD k 0) k x) d) :=
      List.foldlRecOn (motive := FaultsKept d) _ _ .refl fun _ h _ _ => latchWord_kept.after h
    dsimp only
    rw [hkept.1, hst]
  · refine reaches_done rfl ?_
    obtain ⟨t, heq⟩ : ∃ t, doFailsafeCommit n pos s = setPhys n pos (enterFailsafe (dtNow (runTo t s)) 2) (runTo t s) := by
      unfold doFailsafeCommit
      rw [hd]
      dsimp only
      rw [hk]
      dsimp only
      rw [if_neg (by simp; omega)]
      exact ⟨_, rfl⟩
    rw [physOf_congr (settle_knani _), heq, physOf_setPhys ((physOf_congr (runTo_knani ..)).trans hd)]
    rfl
  · show done (doBreakOriginate n pos s) = _
    rw [doBreakOriginate, if_pos hp]
    rfl
  · show done (doBreakForward n pos s) = _
    rw [doBreakForward, if_pos hp]
    rfl
  · refine reaches_done rfl ?_
    have htouch : Touches [.out, .harbour, .knani, .journal, .power, .recorder] s (overChannels lifeCheck1 (passDone 7 s)) :=
      (overChannels_touches (F := [.out, .harbour, .knani, .journal, .power, .recorder]) fun _ _ _ _ => lifeCheck1_touches.after .refl).after (passDone_touches.after .refl)
    rw [settle_time, settle_cell, settle_knani]
    exact ⟨htouch.same .time (by decide), htouch.same .cell (by decide), overChannels_shadow (passDone 7 s)⟩
  · refine reaches_done rfl ?_
    rw [viewOf_of_kept (.of_knani (settle_knani _)), doModuleHeader_none hw hv hst hs hb]
    exact missingModule_missing ((viewOf_of_kept setPhys_views _).trans hw)
  · refine reaches_done rfl ?_
    have hid : ∀ u : State, (idFault n (256 * pos + 2 + k) r u).knani = u.knani := fun u => idFault_touches.same .knani (by decide)
    rw [physOf_congr (settle_knani _), viewOf_of_kept (.of_knani (settle_knani _)), settle_knani, doModuleHeader_of_other hw hv hst hs hd hne]
    refine loadLife_of_module (w := w) ((physOf_congr (hid _)).trans (physOf_setPhys hd)) (modOf_patched hr) ?_
    exact (viewOf_of_kept (.of_knani (hid _)) _).trans ((viewOf_of_kept setPhys_views _).trans hw)
  · refine reaches_done rfl ?_
    rw [physOf_congr (settle_knani _), physOf_setPhys hd]
    rfl
  · refine reaches_done rfl ?_
    have heq : doChannelEdge n pos k s = setPhys n pos (releaseEdge k) (runTo e s) := by simp [doChannelEdge, hd, hnext]
    rw [physOf_congr (settle_knani _), heq, physOf_setPhys ((physOf_congr (runTo_knani ..)).trans hd), Option.map_some, releaseEdge_next hnext]
  · show done (doEnumerateAtNode n idRec mods s) = _
    unfold doEnumerateAtNode
    rw [he]
    dsimp only
    rw [if_neg (by simp [hst])]
    rfl
  · show done (doManageAtNode n echo intact s) = _
    unfold doManageAtNode
    rw [hm]
    dsimp only
    rw [hd]
    dsimp only
    rw [if_neg (by simp [hq, hres])]
    rfl
  · refine reaches_done rfl ?_
    have heq : doShortLoad n pos k mA s = setPhys n pos (fun d => modChan k (fun c => { c with amps := mA, fault := if c.fault == 4 then 4 else 3 }) (countTo (dtNow s) k d)) s := by
      unfold doShortLoad
      rw [hd]
      dsimp only
      rw [if_pos ⟨hmA, by simp [hmode]⟩]
    have hfault' : (chanOf (countTo (dtNow s) k d) k).fault ≠ 4 := by rwa [countTo_kept.fault]
    rw [physOf_congr (settle_knani _), heq, physOf_setPhys hd, Option.map_some, chanOf_modChan (by rwa [countTo_kept.length])]
    dsimp only
    rw [if_neg (by simpa using hfault')]
  · refine reaches_done rfl ?_
    rw [physOf_congr (settle_knani _), doOvertemp, physOf_setPhys hd, Option.map_some]
    dsimp only
    rw [if_pos hshut]

end Sys2Proof.Proofs

namespace Sys2Proof.Proofs
open Sys2Proof Sys2Proof.Machine Sys2Proof.Safety

/-! ## The KNANI loop commands -/

/-- A loop whose line of MANAGE transfers has been dropped (07 R289). -/
theorem loopOf_dropManage {n : Nat} {s : State} (h : n < s.knani.loops.length) : loopOf (dropManage n s) n = { loopOf s n with manage := [] } := by
  have hdrop : LoopsKept id (setLoop n (fun l => { l with manage := [] }) s) (dropManage n s) := .foldl (fun _ _ => finishFor_kept) .refl
  exact (hdrop.loopOf n).trans (loopOf_setLoop_same h)

/-- Enumeration starts anew: nothing is known of the population, what the host chose stays (07 R276). -/
theorem startEnum_core {n : Nat} {s : State} (h : n < s.knani.loops.length) :
    (loopOf (startEnum n s) n).st = 1 ∧ (loopOf (startEnum n s) n).enum = some 0 ∧ (loopOf (startEnum n s) n).allOff = (loopOf s n).allOff ∧ (loopOf (startEnum n s) n).manage = [] := by
  have hlen : n < (answerStart n stAborted s).knani.loops.length := by rwa [answerStart_kept.length]
  have hall : (loopOf (answerStart n stAborted s) n).allOff = (loopOf s n).allOff := (congrArg Loop.allOff (answerStart_kept.loopOf n)).trans rfl
  unfold startEnum
  dsimp only
  rw [loopOf_congr (emit_knani ..), loopOf_setLoop_same (by rwa [dropManage_kept.length]), loopOf_dropManage hlen]
  exact ⟨rfl, rfl, hall, rfl⟩

/-- What KNANI_LOOP_START sets of its loop before enumeration (07 R287, R288). -/
def startChosen (accept allOff : Bool) (l : Loop) : Loop :=
  { l with acceptNew := accept, allOff := allOff, restoring := false, before := if accept then [] else if l.mismatch then l.before else [], mismatch := l.mismatch && !accept }

/-- KNANI_LOOP_START on a loop whose nodes are not known (07 R265, R276, R289). -/
theorem knaniLoopStart_of_unknown {c : Cmd} {p : List Byte} {n : Nat} {s : State} (hn : uAt p 0 1 = n) (h15 : n ≤ 15) (h1 : uAt p 1 1 ≤ 1) (h2 : uAt p 2 1 ≤ 1)
    (hon : loopCellOn s n = false) (hns : noService s = false) (hphys : (loopOf s n).phys = []) (hroom : otherChannels s n ≤ 4096) :
    knaniLoopStart c p s = let s1 := startEnum n (setLoop n (startChosen (uAt p 1 1 == 1) (uAt p 2 1 == 1)) s)
      if otherChannels s n + mostChannels (tideP s) ≤ 4096 then accepted s1 else (.later, setLoop n (fun l => { l with startCmd := waiting 0x0701 c }) s1) := by
  subst hn
  unfold knaniLoopStart
  dsimp only
  rw [if_neg (by omega), if_neg (by simp [hon, hns]), hphys, if_neg]
  · rfl
  · exact Nat.not_lt.mpr hroom

theorem cellsChanged_loopOf (s : State) (n : Nat) : loopOf (cellsChanged s) n = loopOf s n := cellsChanged_kept.loopOf (g := id) n

/-- A loop that has gone to OFF: no node has a slot, none knows its position (07 R269, R276). -/
theorem loopOff_nodes {n cause : Nat} {s : State} (h : n < s.knani.loops.length) :
    (∀ v ∈ (loopOf (loopOff n cause s) n).nodes, v.slotted = false) ∧ ∀ d ∈ (loopOf (loopOff n cause s) n).phys, d.pos = none := by
  have hlen : n < (dropManage n (answerStart n stAborted s)).knani.loops.length := by rwa [dropManage_kept.length, answerStart_kept.length]
  unfold loopOff
  rw [loopOf_setLoop_same hlen]
  refine ⟨fun v hv => ?_, fun d hd => ?_⟩
  · obtain ⟨x, -, rfl⟩ := List.mem_map.mp hv
    rfl
  · obtain ⟨x, -, rfl⟩ := List.mem_map.mp hd
    rfl

theorem nodeLost_of_run {l : Loop} (h : l.st = 2) (pos : Nat) : nodeLost l pos = false := by
  unfold nodeLost
  cases l.breakPos with
  | none => rfl
  | some j => simp [h]

/-- Settles O34: each command's answer and what it leaves. -/
theorem knaniCommands : Obligations.KnaniCommands := by
  unfold Obligations.KnaniCommands
  refine ⟨fun c s n ha hn hlen h15 h1 h2 hon hns hp hroom => ?_, fun c s n ha hn hlen h15 h1 h2 hon hns hp hroom hmost => ?_, fun c s n ha hn h15 h1 h2 hon hns hroom => ?_,
    fun c s ha h15 h1 h2 hon => ?_, fun c s n ha hn hlen h15 hon hns => ?_, fun c s n ha hn h15 hst => ?_, fun c s ha h15 => ?_, fun c s v ha h15 hst hv => ?_,
    fun c s ha h15 h => ?_, fun c s p ha hp h16 h19 h9 h1 h128 => ?_, fun c s p ha hp h16 h19 h9 h1 h128 hu => ?_, fun c s p ha hp h16 h19 h9 h1 h128 hu => ?_,
    fun c s ha h15 hst => ?_, fun c s n pos v ha hn hpos h15 hst hv hs hf => ?_⟩
  · have hb := knaniLoopStart_of_unknown (c := c) hn h15 h1 h2 hon hns hp (by omega)
    have hlen' : n < (setLoop n (startChosen (uAt (prmOf c) 1 1 == 1) (uAt (prmOf c) 2 1 == 1)) s).knani.loops.length := by rwa [setLoop_length]
    obtain ⟨hst, hen, hall, hman⟩ := startEnum_core hlen'
    dsimp only at hb
    rw [if_pos hroom] at hb
    refine ⟨_, answers_commandC rfl ha hb, hst, hen, hall.trans ?_, hman⟩
    rw [loopOf_setLoop_same hlen]
    rfl
  · have hb := knaniLoopStart_of_unknown (c := c) hn h15 h1 h2 hon hns hp hroom
    have hlen' : n < (setLoop n (startChosen (uAt (prmOf c) 1 1 == 1) (uAt (prmOf c) 2 1 == 1)) s).knani.loops.length := by rwa [setLoop_length]
    obtain ⟨hst, hen, -, -⟩ := startEnum_core hlen'
    dsimp only at hb
    rw [if_neg (Nat.not_le.mpr hmost)] at hb
    refine ⟨_, later_commandC rfl ha hb, ?_⟩
    have hlen2 : n < (startEnum n (setLoop n (startChosen (uAt (prmOf c) 1 1 == 1) (uAt (prmOf c) 2 1 == 1)) s)).knani.loops.length := by
      unfold startEnum
      dsimp only
      rw [emit_knani, setLoop_length, dropManage_kept.length, answerStart_kept.length]
      exact hlen'
    dsimp only
    rw [loopOf_congr (settle_knani _), loopOf_setLoop_same hlen2]
    exact ⟨hst, hen, rfl⟩
  · subst hn
    refine answers_commandC rfl ha ?_
    unfold knaniLoopStart
    dsimp only
    rw [if_neg (by omega), if_neg (by simp [hon, hns]), if_pos (by omega)]
    rfl
  · refine answers_commandC rfl ha ?_
    unfold knaniLoopStart
    dsimp only
    rw [if_neg (by omega), if_pos (by simp [hon])]
    rfl
  · have hb : knaniLoopStop (prmOf c) s = ok (cellsChanged (loopOff n 0 (saveLoop n s))) := by
      subst hn
      rw [knaniLoopStop, if_neg (by omega), if_neg (by simp [hon, hns])]
    have hlen' : n < (saveLoop n s).knani.loops.length := by rwa [saveLoop, setLoop_length]
    refine oks_command rfl ha (congrArg Prod.fst hb) ?_
    rw [hb, show (ok (cellsChanged (loopOff n 0 (saveLoop n s)))).2 = cellsChanged (loopOff n 0 (saveLoop n s)) from rfl, cellsChanged_loopOf]
    obtain ⟨hst, hcause, -⟩ := loopOff_core (cause := 0) hlen'
    obtain ⟨hnodes, hphys⟩ := loopOff_nodes (cause := 0) hlen'
    exact ⟨hst, hcause, hnodes, hphys⟩
  · subst hn
    refine answers_command rfl ha ?_
    rw [knaniLoopRestore, if_neg (by omega), if_neg (by simp [hst])]
    rfl
  · refine answers_command rfl ha ?_
    rw [knaniLoopStatus, if_neg (by omega)]
    rfl
  · refine answers_command rfl ha ?_
    unfold knaniNodeStatus
    dsimp only
    rw [if_neg (by omega), if_neg (by simpa using hst), hv]
    rfl
  · refine answers_command rfl ha ?_
    have hnone : (if (loopOf s (uAt (prmOf c) 0 1)).st == 0 then none else (loopOf s (uAt (prmOf c) 0 1)).nodes[uAt (prmOf c) 1 1]?) = none := by
      rcases h with h | h
      · rw [if_pos (by simp [h])]
      · rw [h, ite_self]
    unfold knaniNodeStatus
    dsimp only
    rw [if_neg (by omega), hnone]
    rfl
  · subst hp
    refine later_commandC (n := 7) (m := min 128 (uAt (prmOf c) 6 1)) (ro := none) (body := knaniIdRead) rfl ha ?_
    unfold knaniIdRead
    dsimp only
    rw [if_neg (by omega), if_pos h16]
  · subst hp
    refine later_commandC (n := 8 + min 128 (uAt (prmOf c) 6 1)) (m := 0) (ro := none) (body := knaniIdWrite) rfl ha ?_
    unfold knaniIdWrite
    dsimp only
    rw [if_neg (by omega), if_pos h16, if_neg (by rw [hu]; decide)]
  · subst hp
    refine answers_commandC (n := 8 + min 128 (uAt (prmOf c) 6 1)) (m := 0) (ro := none) (body := knaniIdWrite) rfl ha ?_
    unfold knaniIdWrite
    dsimp only
    rw [if_neg (by omega), if_pos h16, if_pos (by rw [hu]; rfl)]
    rfl
  · refine answers_command rfl ha ?_
    rw [knaniTimingMeasure, if_neg (by omega), if_neg (by simp [hst])]
    rfl
  · subst hn hpos
    refine answers_command rfl ha ?_
    have hnode : nodeFault s (uAt (prmOf c) 0 1) (uAt (prmOf c) 1 1) = none := by
      rw [nodeFault, if_neg (by simp [hst]), hv]
      exact if_pos hs
    unfold knaniNodeResume
    dsimp only
    rw [if_neg (by omega), hnode]
    dsimp only
    rw [if_neg]
    · rfl
    · rw [List.getD_eq_getElem?_getD, hv, nodeLost_of_run hst]
      simp [hf]

end Sys2Proof.Proofs

namespace Sys2Proof.Proofs
open Sys2Proof Sys2Proof.Machine Sys2Proof.Safety

/-! ## The channel commands -/

/-- Settles O35: each command's answer and what it leaves. -/
theorem channelCommands : Obligations.ChannelCommands := by
  unfold Obligations.ChannelCommands
  refine ⟨fun c s p ch ha hp hch hf hok hz hst hpair hno => ?_, fun c s ch v ha hch hf hv => ?_, fun c s ch st ha hch hf => ?_, fun c s ch v ha hch hf hv => ?_,
    fun c s ch v ha hch hf hk hv hb hoff => ?_, fun c s p ha hp h7 hz h1 h2 hdt hper => ?_, fun c s p ha hp h7 hz hdt hw => ?_, fun c s p ha hp hst h4 => ?_,
    fun c s ch r x ha hch hf hm hx => ?_, fun c s ch ha hch hf hm => ?_⟩
  · subst hp hch
    refine later_commandC rfl ha ?_
    have hcells : s.cell.cells.filter (fun e => e.2.channel == uAt (prmOf c) 0 2) = [] := List.filter_eq_nil_iff.mpr (fun e he => by simpa using hno e he)
    unfold channelConfig
    dsimp only
    rw [hf, hcells, hpair]
    dsimp only
    rw [if_neg (by simp [hok, hz]), if_neg (by simp [hst]), if_neg (by simp), if_neg (by simp), if_neg (by decide)]
  · subst hch
    refine answers_command rfl ha ?_
    unfold channelStatus
    dsimp only
    rw [hf, hv]
    rfl
  · subst hch
    refine answers_command rfl ha ?_
    unfold channelStatus
    dsimp only
    rw [hf]
    rfl
  · subst hch
    refine answers_command rfl ha ?_
    unfold channelFaultClear
    dsimp only
    rw [hf, hv]
    rfl
  · subst hch
    refine answers_command rfl ha ?_
    have hquiet : s.cell.cells.any (fun e => e.2.channel / 8 == uAt (prmOf c) 0 2 / 8 && e.2.modeNow != 0) = false := by
      rw [List.any_eq_false]
      intro e he
      by_cases h : e.2.channel / 8 = uAt (prmOf c) 0 2 / 8
      · simp [h, hoff e he h]
      · simp [h]
    unfold channelNeighbourTest
    dsimp only
    rw [hf, hv]
    dsimp only
    rw [if_neg (by simp [hk]), if_neg (by simp [hb]), if_neg (by rw [hquiet]; decide)]
    rfl
  · subst hp
    refine answers_command rfl ha ?_
    unfold channelExposureSet
    dsimp only
    rw [if_neg (by simp [hz, hdt]; omega), if_neg (by simp; omega), if_neg (by simp; omega)]
    rfl
  · subst hp
    refine answers_command rfl ha ?_
    unfold channelExposureSet
    dsimp only
    rw [if_neg (by simp [hz, hdt]; omega), if_pos (by simp [hw])]
    rfl
  · subst hp
    refine answers_command rfl ha ?_
    rw [channelDiagConfig, if_pos (by simp [hst, h4])]
    rfl
  · subst hch
    refine answers_command rfl ha ?_
    unfold channelLifeRead
    dsimp only
    rw [hf, hm, hx]
    rfl
  · subst hch
    refine answers_command rfl ha ?_
    unfold channelLifeRead
    dsimp only
    rw [hf, hm]
    rfl

end Sys2Proof.Proofs

namespace Sys2Proof.Proofs
open Sys2Proof Sys2Proof.Machine Sys2Proof.Safety

/-! ## What the axis operations leave of an axis -/

theorem axOf_congr {s t : State} (h : t.axes = s.axes) {n : Nat} : axOf t n = axOf s n := by rw [axOf, h, ← axOf]

theorem setAx_length {n : Nat} {f : Axis → Axis} {s : State} : (setAx n f s).axes.length = s.axes.length := List.length_modify ..

theorem axOf_setAx_same {n : Nat} {f : Axis → Axis} {s : State} (h : n < s.axes.length) : axOf (setAx n f s) n = f (axOf s n) := by
  unfold axOf setAx
  dsimp only
  rw [List.getD_eq_getElem?_getD, getElem?_lmod_same (List.getElem?_eq_getElem h), List.getD_eq_getElem?_getD, List.getElem?_eq_getElem h]
  rfl

/-- An axis once its waiting moves are discarded (09 R358). -/
theorem axOf_abortMoves {n : Nat} {s : State} (h : n < s.axes.length) : axOf (abortMoves n s) n = { axOf s n with moves := [] } := by
  have hfold : (abortMoves n s).axes = (setAx n (fun a => { a with moves := [] }) s).axes :=
    List.foldlRecOn (motive := fun (t : State) => t.axes = (setAx n (fun a => { a with moves := [] }) s).axes) _ _ rfl fun t ht m _ => by rw [complete_axes, ht]
  rw [axOf_congr hfold, axOf_setAx_same h]

theorem abortMoves_length {n : Nat} {s : State} : (abortMoves n s).axes.length = s.axes.length :=
  List.foldlRecOn (motive := fun (t : State) => t.axes.length = s.axes.length) _ _ setAx_length fun t ht m _ => by rw [complete_axes, ht]

/-- An axis whose EN takes a level (09 R333). -/
theorem axOf_setEn {n : Nat} {b : Bool} {s : State} (h : n < s.axes.length) : axOf (setEn n b s) n = { axOf s n with en := b } := by
  unfold setEn
  split
  next he => rw [← beq_iff_eq.mp he]
  · rw [axOf_congr (emit_axes ..), axOf_setAx_same h]

theorem setEn_length {n : Nat} {b : Bool} {s : State} : (setEn n b s).axes.length = s.axes.length := by
  unfold setEn
  split
  · rfl
  · rw [emit_axes, setAx_length]

/-- A moving axis that a stop source halts (09 R343). -/
theorem axOf_haltAxis_of_moving {n cause decel : Nat} {s : State} (h : n < s.axes.length) (hst : (axOf s n).st = AxSt.moving) (hd : (axOf s n).dwell = none) :
    axOf (haltAxis n cause decel s) n =
      { axOf s n with st := .stopping, cause := cause, turn := false, brake := some decel, homed := (axOf s n).homed && cause != 6, moves := [] } := by
  have hab := axOf_abortMoves h
  have heq : haltAxis n cause decel s = setAx n (fun a => { a with st := .stopping, cause := cause, turn := false, brake := some decel, homed := a.homed && cause != 6 }) (abortMoves n s) := by
    unfold haltAxis
    dsimp only
    rw [hab]
    dsimp only
    rw [hst]
    dsimp only
    rw [hd]
    rfl
  rw [heq, axOf_setAx_same (by rwa [abortMoves_length]), hab]

/-- An axis with a drive fault (09 R348, R350). -/
theorem axOf_driveFault {n cause : Nat} {s : State} (h : n < s.axes.length) :
    (axOf (driveFault n cause s) n).st = .fault ∧ (axOf (driveFault n cause s) n).cause = cause ∧ (axOf (driveFault n cause s) n).en = false ∧
    (axOf (driveFault n cause s) n).homed = false ∧ (axOf (driveFault n cause s) n).pos = (axOf s n).pos := by
  have hlen : n < (abortMoves n s).axes.length := by rwa [abortMoves_length]
  unfold driveFault
  dsimp only
  rw [axOf_setEn (by rwa [setAx_length]), axOf_setAx_same hlen, axOf_abortMoves h]
  exact ⟨rfl, rfl, rfl, rfl, rfl⟩

/-! ## The axis events -/

/-- The state in which a move takes effect: it no longer waits (09 R340). -/
def moveTaken (n start : Nat) (r : List AxMove) (s : State) : State := setAx n (fun a => { a with moves := r }) (runTo start s)

theorem moveTaken_length {n t : Nat} {r : List AxMove} {s : State} : (moveTaken n t r s).axes.length = s.axes.length := by rw [moveTaken, setAx_length, runTo_axes]

theorem axOf_moveTaken {n t : Nat} {r : List AxMove} {s : State} (h : n < s.axes.length) : axOf (moveTaken n t r s) n = { axOf s n with moves := r } := by
  rw [moveTaken, axOf_setAx_same (by rwa [runTo_axes]), axOf_congr (runTo_axes ..)]

/-- A move that takes effect at standstill (09 R340). -/
theorem axOf_doMoveStart_of_rest {n : Nat} {m : AxMove} {r : List AxMove} {s : State} (h : n < s.axes.length) (hm : (axOf s n).moves = m :: r)
    (hst : (axOf s n).st = AxSt.idle ∨ (axOf s n).st = AxSt.stopped) (hp : (axOf s n).pos ≠ m.target) :
    ∃ t, axOf (doMoveStart n s) n = { launch m.start m.target (axOf s n).vMax { axOf s n with moves := r, en := true } with st := .moving, planTo := t } := by
  have hax := axOf_moveTaken (t := m.start) (r := r) h
  have heq : doMoveStart n s = complete m.mbx m.slot m.opcode m.tag stOk [] (setAx n (fun a =>
      { launch m.start m.target a.vMax a with st := .moving, planTo := m.start + 2 * tideP (moveTaken n m.start r s) }) (setEn n true (moveTaken n m.start r s))) := by
    unfold doMoveStart
    rw [hm]
    dsimp only
    rw [← moveTaken, hax]
    rcases hst with h | h
    · rw [h]
      exact if_neg (by simp [hp])
    · rw [h]
      exact if_neg (by simp [hp])
  rw [heq, axOf_congr (complete_axes ..), axOf_setAx_same (by rwa [setEn_length, moveTaken_length]), axOf_setEn (by rwa [moveTaken_length]), hax]
  exact ⟨_, rfl⟩

/-- A re-plan of a move in progress (09 R341, R342). -/
theorem axOf_doMoveStart_of_moving {n : Nat} {m : AxMove} {r : List AxMove} {s : State} (h : n < s.axes.length) (hm : (axOf s n).moves = m :: r) (hst : (axOf s n).st = AxSt.moving) :
    ∃ b t, axOf (doMoveStart n s) n = { axOf s n with moves := r, target := m.target, overshoot := overshootOf m.target { axOf s n with moves := r }, brake := b, turn := t } := by
  have hax := axOf_moveTaken (t := m.start) (r := r) h
  have heq : ∃ (b : Axis → Option Nat) (t : Axis → Bool) (e : Ev), doMoveStart n s = complete m.mbx m.slot m.opcode m.tag stOk [] (raise e (setAx n (fun a =>
      { a with target := m.target, overshoot := overshootOf m.target { axOf s n with moves := r }, brake := b a, turn := t a }) (moveTaken n m.start r s))) := by
    unfold doMoveStart
    rw [hm]
    dsimp only
    rw [← moveTaken, hax, hst]
    exact ⟨_, _, _, rfl⟩
  obtain ⟨b, t, e, heq⟩ := heq
  rw [heq, axOf_congr (complete_axes ..), axOf_congr (raise_axes ..), axOf_setAx_same (by rwa [moveTaken_length]), hax]
  exact ⟨_, _, rfl⟩

theorem emitSp_axes (n t : Nat) (s : State) : (emitSp n t s).axes = s.axes := rfl

/-- An axis after a set-point, before what the end of the profile makes of it (09 R339). -/
def released (now t : Nat) (a : Axis) : Axis :=
  let full := fullStep a.pos (nextPoint a).1 a.up
  { a with
    frac := if full then fracOf t a else a.frac, onAcc := if full then 0 else a.onAcc, stepAt := if full then t else a.stepAt
    pos := (nextPoint a).1, v2 := (nextPoint a).2.1, spAt := max (a.spAt + (nextPoint a).2.2) now, res := resAt (isqrt (nextPoint a).2.1) a.msRate a.res
    hist := (t, (nextPoint a).1) :: a.hist.takeWhile (fun e => decide (t ≤ e.1 + 3 * ms1)) }

/-- A set-point of a move that meets no limit and does not brake (09 R337, R339). -/
theorem doSetPointRelease_of_moving {n : Nat} {off : Int} {a : Axis} {s : State} (ha : axOf s n = a) (hst : a.st = AxSt.moving) (hd : a.dwell = none)
    (hb : a.brake = none) (hl : limitIn a.up a = false) (hh : a.home = none) (h : n < s.axes.length) :
    ∃ u t, axOf u n = released (dtNow s) t a ∧ u.axes.length = s.axes.length ∧ doSetPointRelease n off s =
      if (nextPoint a).1 == a.target then raise { code := 0x0801, sev := 1, p0 := n, p1 := w32 (nextPoint a).1 } (setAx n (fun x => { x with st := .idle, v2 := 0, still := some t, ramp := none }) u)
      else u := by
  subst ha
  unfold doSetPointRelease
  extract_lets a0
  rw [if_neg (by simp [a0, hst, hd]), if_neg (by simp [a0, hl])]
  cases hnp : nextPoint a0 with | mk pos rest =>
  cases rest with | mk v2 dt =>
  dsimp -zeta only
  extract_lets s1 t full frac s2 s3 a
  have hlen : s3.axes.length = s.axes.length := by rw [emitSp_axes, setAx_length, runTo_axes]
  have hs3 : axOf s3 n = released (dtNow s) t a0 := by
    rw [axOf_congr (emitSp_axes ..), axOf_setAx_same (by rwa [runTo_axes]), axOf_congr (runTo_axes ..), released, hnp]
  have htarget : a.target = (axOf s n).target := (congrArg Axis.target hs3).trans rfl
  have hhome : a.home = none := (congrArg Axis.home hs3).trans hh
  refine ⟨s3, t, hs3, hlen, ?_⟩
  rw [show a0.brake = none from hb]
  dsimp only
  rw [hhome, htarget]

/-- An axis whose upper limit switch has closed (09 R352 to R354). -/
def upperClosed (edges : List Nat) (a : Axis) : Axis := { a with hiLvl := true, hiEdges := edges }

/-- The upper limit switch closes, not too often of late (09 R352 to R354). -/
theorem doLimitDebouncedEdge_of_upper {n raw : Nat} {s : State} (hn : n < s.axes.length) (he : (axOf s n).hiEn = true) (hh : (axOf s n).hiHigh = true) (hl : (axOf s n).hiLvl = false)
    (hfew : (recentEdges (dtNow (runTo (raw + 2 * ms1) s)) (axOf s n).hiEdges).length < 8) :
    ∃ u edges, axOf u n = upperClosed edges (axOf s n) ∧ u.axes.length = s.axes.length ∧
      ((axOf s n).st = AxSt.idle → doLimitDebouncedEdge n true true raw s = u) ∧
      ((axOf s n).st = AxSt.moving → (axOf s n).up = true → (axOf s n).dwell = none → ∃ e, doLimitDebouncedEdge n true true raw s =
        haltAxis n 4 (axOf s n).decStop (raise e (setAx n (fun a => { a with side := true }) u))) := by
  unfold doLimitDebouncedEdge
  extract_lets a0 act s1 now edges u a
  have hax : axOf u n = upperClosed edges (axOf s n) := by
    rw [axOf_setAx_same (by rwa [runTo_axes]), axOf_congr (runTo_axes ..)]
    rfl
  have hlen : u.axes.length = s.axes.length := by rw [setAx_length, runTo_axes]
  have hedges : ¬ 8 < edges.length := by
    rw [show edges.length = (recentEdges (dtNow (runTo (raw + 2 * ms1) s)) (axOf s n).hiEdges).length + 1 from rfl]
    omega
  refine ⟨u, edges, hax, hlen, fun hst => ?_, fun hst hup hd => ?_⟩
  · rw [if_neg (by simp [a0, hl]), if_neg (by simp [a0, he]), if_neg (by simp [hedges]), show a.st = .idle by simp [a, hax, upperClosed, hst]]
  · have hact : (act && a.up == true && a.dwell.isNone) = true := by simp [a, hax, upperClosed, act, a0, hh, hup, hd]
    rw [if_neg (by simp [a0, hl]), if_neg (by simp [a0, he]), if_neg (by simp [hedges]), show a.st = .moving by simp [a, hax, upperClosed, hst]]
    dsimp only
    rw [if_pos hact, show a.decStop = (axOf s n).decStop by simp [a, hax, upperClosed]]
    exact ⟨_, rfl⟩

/-- Settles O36: each event's effect on its axis. -/
theorem axisEvents : Obligations.AxisEvents := by
  unfold Obligations.AxisEvents
  refine ⟨fun n m r s hn hm hst hp => ?_, fun n m r s hn hm hst => ?_, fun n off a s hn ha hst hd hh hb hl hne => ?_, fun n off a s hn ha hst hd hh hb hl heq => ?_,
    fun n a s hn ha hst hd => ?_, fun n mV wb reach a s hn ha hen href hoc => ?_, fun n mV t a s hn ha hen href hoc ht => ?_, fun n t a s hn ha hs hr hen => ?_,
    fun n raw a s hn ha he hh hl hst hhome hup hd hedge => ?_, fun n raw a s hn ha he hh hl hst hedge => ?_, fun n t a s hn ha hd hh => ?_, fun n h a s hn ha hh hd => ?_⟩
  · refine reaches_done rfl ?_
    obtain ⟨t, ht⟩ := axOf_doMoveStart_of_rest hn hm hst hp
    rw [axOf_congr (settle_axes _), ht]
    exact ⟨rfl, rfl, rfl, rfl, rfl, rfl, rfl⟩
  · refine reaches_done rfl ?_
    obtain ⟨b, t, ht⟩ := axOf_doMoveStart_of_moving hn hm hst
    rw [axOf_congr (settle_axes _), ht]
    exact ⟨hst, rfl, rfl, rfl, rfl⟩
  · refine reaches_done rfl ?_
    obtain ⟨u, t, hu, -, hrel⟩ := doSetPointRelease_of_moving (off := off) ha hst hd hb hl hh hn
    rw [if_neg (by simpa using hne)] at hrel
    rw [axOf_congr (settle_axes _), hrel, hu]
    exact ⟨rfl, rfl, rfl, hst, rfl⟩
  · refine reaches_done rfl ?_
    obtain ⟨u, t, hu, hlen, hrel⟩ := doSetPointRelease_of_moving (off := off) ha hst hd hb hl hh hn
    rw [if_pos (by simpa using heq)] at hrel
    rw [axOf_congr (settle_axes _), hrel, axOf_congr (raise_axes ..), axOf_setAx_same (by rwa [hlen]), hu]
    exact ⟨heq, rfl, rfl⟩
  · refine reaches_done rfl ?_
    subst ha
    obtain ⟨e, heq⟩ : ∃ e, doAxisPlanStarved n s = haltAxis n 5 (axOf s n).decStop (raise e (runTo (axOf s n).planTo s)) := by
      unfold doAxisPlanStarved
      dsimp only
      rw [if_neg (by simp [hst])]
      exact ⟨_, rfl⟩
    have hax : (raise e (runTo (axOf s n).planTo s)).axes = s.axes := by rw [raise_axes, runTo_axes]
    rw [axOf_congr (settle_axes _), heq, axOf_haltAxis_of_moving (by rwa [hax]) (by rwa [axOf_congr hax]) (by rwa [axOf_congr hax]), axOf_congr hax]
    exact ⟨rfl, rfl, rfl, rfl, rfl⟩
  · refine reaches_done rfl ?_
    subst ha
    have heq : doChopperCycle n wb mV reach s = raise { code := 0x080A, sev := 5, p0 := n, p1 := b1 wb, p2 := mV } (driveFault n 8 s) := by
      unfold doChopperCycle
      dsimp only
      rw [if_neg (by simp [hen]; exact href), if_pos hoc]
    rw [axOf_congr (settle_axes _), heq, axOf_congr (raise_axes ..)]
    exact axOf_driveFault hn
  · refine reaches_done rfl ?_
    subst ha
    obtain ⟨t0, x, heq⟩ : ∃ t0 x, doChopperCycle n false mV (some t) s = emit .pin (80 + 2 * n + b1 false) t0 x
        (setAx n (fun _ => { axOf s n with openA := 0, onAcc := (axOf s n).onAcc + ns1 * min (1000 * (axOf s n).tOnMax) (max (100 * (axOf s n).tBlank) t) }) s) := by
      unfold doChopperCycle
      dsimp only
      rw [if_neg (by simp [hen]; exact href), if_neg (by simp [hoc]), if_neg (by simp [ht])]
      simp only [ht, decide_true, Bool.true_or, if_true]
      exact ⟨_, _, rfl⟩
    rw [axOf_congr (settle_axes _), heq, axOf_congr (emit_axes ..), axOf_setAx_same hn]
  · refine reaches_done rfl ?_
    subst ha
    have heq : doStandstillTimer n s = setAx n (fun a => { a with ramp := some (t + ms1 * a.tStand, a.iRun) }) (runTo (t + ms1 * (axOf s n).tStand) s) := by
      unfold doStandstillTimer
      dsimp only
      rw [hs, hr]
      dsimp only
      rw [if_neg (by simp [hen])]
    rw [axOf_congr (settle_axes _), heq, axOf_setAx_same (by rwa [runTo_axes]), axOf_congr (runTo_axes ..)]
  · refine reaches_done rfl ?_
    subst ha
    obtain ⟨u, edges, hax, hlen, -, hmov⟩ := doLimitDebouncedEdge_of_upper (raw := raw) hn he hh hl (by simp [hedge, recentEdges])
    obtain ⟨e, heq⟩ := hmov hst hup hd
    have hax' : axOf (raise e (setAx n (fun a => { a with side := true }) u)) n = { upperClosed edges (axOf s n) with side := true } := by
      rw [axOf_congr (raise_axes ..), axOf_setAx_same (by rwa [hlen]), hax]
    rw [axOf_congr (settle_axes _), heq, axOf_haltAxis_of_moving (by rwa [raise_axes, setAx_length, hlen]) (by rw [hax']; exact hst) (by rw [hax']; exact hd), hax']
    exact ⟨by simp [limitIn, upperClosed, he, hh], rfl, rfl, rfl⟩
  · refine reaches_done rfl ?_
    subst ha
    obtain ⟨u, edges, hax, hlen, hidle, -⟩ := doLimitDebouncedEdge_of_upper (raw := raw) hn he hh hl hedge
    rw [axOf_congr (settle_axes _), hidle hst, hax]
    exact ⟨by simp [limitIn, upperClosed, he, hh], hst, rfl⟩
  · refine reaches_done rfl ?_
    subst ha
    have heq : doReverseDwell n s = setAx n (fun a => launch t a.target a.vMax a) (runTo t s) := by
      unfold doReverseDwell
      dsimp only
      rw [hd, hh]
    rw [axOf_congr (settle_axes _), heq, axOf_setAx_same (by rwa [runTo_axes]), axOf_congr (runTo_axes ..)]
  · refine reaches_done rfl ?_
    subst ha
    obtain ⟨t, heq⟩ : ∃ t, doHomeTimeout n s = homeFail n 1 (runTo t s) := by
      unfold doHomeTimeout
      rw [hh]
      dsimp only
      rw [hd]
      exact ⟨_, rfl⟩
    rw [axOf_congr (settle_axes _), heq, homeFail, axOf_congr (raise_axes ..), axOf_setAx_same (by rwa [runTo_axes])]
    exact ⟨rfl, rfl, rfl, rfl⟩

end Sys2Proof.Proofs

namespace Sys2Proof.Proofs
open Sys2Proof Sys2Proof.Machine Sys2Proof.Safety

/-! ## The AXIS commands -/

theorem setAx_congr {n : Nat} {f g : Axis → Axis} {s : State} (h : f (axOf s n) = g (axOf s n)) : setAx n f s = setAx n g s := by
  have hmod : s.axes.modify n f = s.axes.modify n g := by
    refine List.ext_getElem? fun i => ?_
    rw [List.getElem?_modify, List.getElem?_modify]
    by_cases hi : n = i
    · subst hi
      cases ha : s.axes[n]? with
      | none => rfl
      | some x =>
        have hx : axOf s n = x := by rw [axOf, List.getD_eq_getElem?_getD, ha]; rfl
        rw [hx] at h
        simp [h]
    · simp [hi]
  rw [setAx, setAx, lmod, lmod, hmod]

/-- A move that nothing speaks against waits for its START (09 R340). -/
theorem planMove_of_free {n op t : Nat} {goal : Int} {c : Cmd} {p : List Byte} {s : State} (hlo : -2147483647 ≤ goal) (hhi : goal ≤ 2147483647)
    (hsoft : (axOf s n).homed = true → (axOf s n).softLo ≤ goal ∧ goal ≤ (axOf s n).softHi) (ht : startOf p s = some t)
    (hlim : limitIn (towards goal (axOf s n)) (axOf s n) = false) :
    planMove n op goal c p s =
      (.later, setAx n (fun a => { a with moves := insertMove { start := t, target := goal, opcode := op, mbx := c.mbx, slot := c.slot, tag := c.tag.toNat } a.moves }) s) := by
  have hin : ((axOf s n).homed && (decide (goal < (axOf s n).softLo) || decide ((axOf s n).softHi < goal))) = false := by
    cases hh : (axOf s n).homed with
    | false => rfl
    | true =>
      obtain ⟨h1, h2⟩ := hsoft hh
      simp [h1, h2]
  unfold planMove
  dsimp only
  rw [if_neg (by simp; omega), if_neg (by simp [hin]), ht]
  dsimp only
  rw [if_neg (by simp [hlim])]

/-- AXIS_DRIVE_CONFIG with parameters in range (09 R334, R361). -/
theorem axisDriveConfig_of_ranges {p : List Byte} {s : State} (hn : uAt p 0 1 < 8) (hq : axQuiet (axOf s (uAt p 0 1)) = true) (hz1 : zeros p 1 3 = true) (hz21 : zeros p 21 1 = true)
    (hsc : 1 ≤ uAt p 4 4) (hsc' : uAt p 4 4 ≤ 100000) (hhold : uAt p 10 2 ≤ uAt p 8 2) (hhome : uAt p 12 2 ≠ 0) (hoc : uAt p 14 2 ≠ 0) (ho8 : overScale (uAt p 8 2) (uAt p 4 4) = false)
    (ho12 : overScale (uAt p 12 2) (uAt p 4 4) = false) (ho14 : overScale (uAt p 14 2) (uAt p 4 4) = false) (h16 : 2 ≤ uAt p 16 1) (h16' : uAt p 16 1 ≤ 40) (h17 : 5 ≤ uAt p 17 1)
    (h17' : uAt p 17 1 ≤ 40) (h18 : 2 ≤ uAt p 18 1) (h18' : uAt p 18 1 ≤ 200) (h22 : uAt p 22 2 ≤ 10000) (h24 : 1 ≤ uAt p 24 2) (h24' : uAt p 24 2 ≤ 1000) (h26 : 77 ≤ uAt p 26 1)
    (h26' : uAt p 26 1 ≤ 230) (h27 : 1 ≤ uAt p 27 1) (h27' : uAt p 27 1 ≤ 2) :
    axisDriveConfig p s = ok (setAx (uAt p 0 1) (fun a => { a with
      scale := uAt p 4 4, iRun := uAt p 8 2, iHold := uAt p 10 2, iHome := uAt p 12 2, iOc := uAt p 14 2, tOff := uAt p 16 1, tBlank := uAt p 17 1, tOnMax := uAt p 18 1
      fastRise := uAt p 19 1, fastFall := uAt p 20 1, tStand := uAt p 22 2, tRamp := uAt p 24 2, stallRatio := uAt p 26 1, stallSteps := uAt p 27 1 }) s) := by
  unfold axisDriveConfig
  dsimp only
  rw [if_neg (show ¬ (uAt p 12 2 == 0) = true by simpa using hhome), if_neg (show ¬ (uAt p 14 2 == 0) = true by simpa using hoc), if_neg, if_neg (by simp [hq])]
  simp only [hn, hz1, hz21, hsc, hsc', hhold, ho8, ho12, ho14, h16, h16', h17, h17', h18, h18', h22, h24, h24', h26, h26', h27, h27', decide_true, Bool.not_false, Bool.and_self, Bool.not_true]
  decide

/-- A homing sequence that starts its seek (09 R355, R356). -/
theorem axisHome_of_cliff {p : List Byte} {s : State} (hn : uAt p 0 1 < 8) (hm : uAt p 1 1 = 3) (hv : 12800 ≤ uAt p 4 4) (hv' : uAt p 4 4 ≤ 256000)
    (hmax : uAt p 4 4 ≤ (axOf s (uAt p 0 1)).vMax) (ht : 1 ≤ uAt p 20 2) (ht' : uAt p 20 2 ≤ 600) (hh : startsHeld s = false) (hstop : stopInForce s = false)
    (hst : (axOf s (uAt p 0 1)).st = AxSt.idle) (hl : limitIn true (axOf s (uAt p 0 1)) = false) :
    ∃ (h : Homing) (t b : Nat), h.method = 3 ∧ h.speed = uAt p 4 4 ∧ h.maxDist = uAt p 16 4 ∧ axisHome p s = accepted (startSeek (uAt p 0 1) t h
      (setEn (uAt p 0 1) true (setAx (uAt p 0 1) (fun a => { a with st := .homing, home := some h, planTo := b }) (abortMoves (uAt p 0 1) s)))) := by
  unfold axisHome
  dsimp only
  rw [hm, if_neg (by simp; omega), if_neg (by simp [hh, hstop, hst]), if_neg (by simp [hl, seekUp]), if_neg (by simp)]
  exact ⟨_, _, _, rfl, rfl, rfl, rfl⟩

/-- Settles O37: each command's answer and what it leaves of its axis. -/
theorem axisCommands : Obligations.AxisCommands := by
  unfold Obligations.AxisCommands
  refine ⟨fun c s p ha hp hok hq => ?_, fun c s ha hok hq => ?_,
    fun c s p n ha hp hn h8 hlen hq hz1 hz21 hsc hsc' hhold hhome hoc ho8 ho12 ho14 h16 h16' h17 h17' h18 h18' h22 h24 h24' h26 h26' h27 h27' => ?_,
    fun c s p n ha hp hn h8 hlen h1 hq => ?_, fun c s p n t ha hp hn h8 h1 hdt hh hstop hst hlo hhi hsoft ht hlim => ?_,
    fun c s p n ha hp hn h8 h1 hdt hh hstop hst hhomed hsoft hlo hhi => ?_, fun c s n a ha hn h8 hlen hax hst hd => ?_,
    fun c s p n t a ha hp hn h8 hax hdt hh hstop hres hcause hhomed hlo hhi ht hlim => ?_, fun c s n ha hn h8 hdt hh hres => ?_,
    fun c s p n a ha hp hn h8 hlen hax hm hv hv' hmax ht ht' hh hstop hst hl => ?_, fun c s p n a ha hp hn h8 hlen hax h1 hst hdbg hns => ?_,
    fun c s p n a ha hp hn h8 hlen hax h1 hst => ?_, fun c s p n ha hp hn h8 hlen h1 hq => ?_, fun c s ha h8 => ?_, fun c s n ha hn h8 hlen hst hcause => ?_,
    fun c s n ha hn h8 hst => ?_⟩
  · subst hp
    refine answers_command rfl ha ?_
    unfold axisConfig
    dsimp only
    rw [if_neg (by simp [hok]), if_neg (by simp [hq])]
    rfl
  · refine answers_command rfl ha ?_
    unfold axisConfig
    dsimp only
    rw [if_neg (by simp [hok]), if_pos (by simp [hq])]
    rfl
  · subst hp hn
    have hb := axisDriveConfig_of_ranges h8 hq hz1 hz21 hsc hsc' hhold hhome hoc ho8 ho12 ho14 h16 h16' h17 h17' h18 h18' h22 h24 h24' h26 h26' h27 h27'
    refine oks_command rfl ha (congrArg Prod.fst hb) ?_
    rw [hb]
    exact axOf_setAx_same hlen
  · subst hp hn
    have hb : axisLimitConfig (prmOf c) s = ok (setAx (uAt (prmOf c) 0 1) (fun a => { a with
        loEn := bit (uAt (prmOf c) 1 1) 0, hiEn := bit (uAt (prmOf c) 1 1) 1, loHigh := bit (uAt (prmOf c) 1 1) 2, hiHigh := bit (uAt (prmOf c) 1 1) 3 }) s) := by
      unfold axisLimitConfig
      dsimp only
      rw [if_neg (by simp; omega), if_neg (by simp [hq])]
    refine oks_command rfl ha (congrArg Prod.fst hb) ?_
    rw [hb]
    dsimp only [ok]
    rw [axOf_setAx_same hlen]
    exact ⟨rfl, rfl, rfl, rfl, rfl, rfl⟩
  · subst hp hn
    refine later_commandC rfl ha ?_
    have hplan := planMove_of_free (op := 0x0804) (c := c) hlo hhi hsoft ht hlim
    unfold axisMove
    dsimp only
    rw [h1, if_neg (show ¬ ((0 : Nat) == 1) = true by decide), if_neg (by simp [hdt]; omega), if_neg (by simp [hh, hstop])]
    rcases hst with h | h | h
    · rw [h]
      exact hplan
    · rw [h]
      exact hplan
    · rw [h]
      exact hplan
  · subst hp hn
    refine answers_commandC rfl ha ?_
    unfold axisMove planMove
    dsimp only
    rw [h1, if_neg (show ¬ ((0 : Nat) == 1) = true by decide), if_neg (by simp [hdt]; omega), if_neg (by simp [hh, hstop]), hst]
    dsimp only
    rw [if_neg (by simp; omega), if_pos (by simp [hhomed, hsoft])]
    rfl
  · subst hn hax
    have hb : axisStop (prmOf c) s = ok (haltAxis (uAt (prmOf c) 0 1) 0 (axOf s (uAt (prmOf c) 0 1)).dec s) := by
      unfold axisStop
      dsimp only
      rw [if_neg (by simp; omega), if_neg (by omega)]
    refine oks_command rfl ha (congrArg Prod.fst hb) ?_
    rw [hb]
    dsimp only [ok]
    rw [axOf_haltAxis_of_moving hlen hst hd]
    exact ⟨rfl, rfl, rfl, rfl, rfl⟩
  · subst hp hn hax
    refine later_commandC rfl ha ?_
    unfold axisResume
    dsimp only
    rw [if_neg (by simp [hdt]; omega), if_neg (by simp [hh]), if_neg (by simp [hres]), if_neg (by simp [hcause, hstop])]
    rw [planMove_of_free (op := 0x0806) (c := c) hlo hhi (fun h => by simp [hhomed] at h) ht hlim]
    exact congrArg _ (setAx_congr rfl)
  · subst hn
    refine answers_commandC rfl ha ?_
    unfold axisResume
    dsimp only
    rw [if_neg (by simp [hdt]; omega), if_neg (by simp [hh]), if_pos (by simp [hres])]
    rfl
  · subst hp hn hax
    obtain ⟨h, t, b, hmeth, hspeed, hdist, hb⟩ := axisHome_of_cliff h8 hm hv hv' hmax ht ht' hh hstop hst hl
    have hlen' : uAt (prmOf c) 0 1 < (abortMoves (uAt (prmOf c) 0 1) s).axes.length := by rwa [abortMoves_length]
    refine ⟨_, answers_command rfl ha hb, ?_⟩
    dsimp only
    rw [startSeek, axOf_setAx_same (by rwa [setEn_length, setAx_length]), axOf_setEn (by rwa [setAx_length]), axOf_setAx_same hlen', axOf_abortMoves hlen, hmeth, hspeed, hdist]
    exact ⟨rfl, rfl, rfl, rfl, rfl, rfl⟩
  · subst hp hn hax
    have hb : axisEnable (prmOf c) s = ok (emitSp (uAt (prmOf c) 0 1) (dtNow s) (setEn (uAt (prmOf c) 0 1) true (setAx (uAt (prmOf c) 0 1)
        (fun a => { a with st := .idle, target := a.pos, ramp := some (dtNow s, 0), still := some (dtNow s) }) s))) := by
      unfold axisEnable
      dsimp only
      rw [if_neg (by simp; omega), hst]
      dsimp only
      rw [if_neg (by simp [h1]), if_neg (by simp [hdbg, hns])]
    refine oks_command rfl ha (congrArg Prod.fst hb) ?_
    rw [hb]
    dsimp only [ok]
    rw [axOf_congr (emitSp_axes ..), axOf_setEn (by rwa [setAx_length]), axOf_setAx_same hlen]
    exact ⟨rfl, rfl, rfl, rfl, rfl⟩
  · subst hp hn hax
    have hb : axisEnable (prmOf c) s = ok (disableAxis (uAt (prmOf c) 0 1) s) := by
      unfold axisEnable
      dsimp only
      rw [if_neg (by simp; omega), hst]
      dsimp only
      rw [if_pos (by simp [h1])]
    have hdis : disableAxis (uAt (prmOf c) 0 1) s = setEn (uAt (prmOf c) 0 1) false (setAx (uAt (prmOf c) 0 1) (fun a => { a with
        st := .disabled, v2 := 0, brake := none, turn := false, dwell := none, home := none, homed := a.homed && !a.clearHomed, still := none, ramp := none })
        (abortMoves (uAt (prmOf c) 0 1) s)) := by
      unfold disableAxis
      dsimp only
      rw [axOf_abortMoves hlen]
      dsimp only
      rw [hst]
    have hlen' : uAt (prmOf c) 0 1 < (abortMoves (uAt (prmOf c) 0 1) s).axes.length := by rwa [abortMoves_length]
    refine oks_command rfl ha (congrArg Prod.fst hb) ?_
    rw [hb]
    dsimp only [ok]
    rw [hdis, axOf_setEn (by rwa [setAx_length]), axOf_setAx_same hlen', axOf_abortMoves hlen]
    exact ⟨rfl, rfl, rfl, rfl⟩
  · subst hp hn
    have hb : axisSetPosition (prmOf c) s = ok (axisSetPosition (prmOf c) s).2 := by
      unfold axisSetPosition
      dsimp only
      rw [if_neg (by simp; omega), if_neg (by simp [hq])]
      rfl
    refine oks_command rfl ha (congrArg Prod.fst hb) ?_
    unfold axisSetPosition
    dsimp only
    rw [if_neg (by simp; omega), if_neg (by simp [hq])]
    dsimp only [ok]
    rw [axOf_setAx_same hlen]
    exact ⟨rfl, rfl, rfl⟩
  · refine answers_command rfl ha ?_
    rw [axisStatus, if_neg (by omega)]
    rfl
  · subst hn
    have hb : axisFaultClear (prmOf c) s = ok (raise { code := 0x080C, sev := 2, p0 := uAt (prmOf c) 0 1, p1 := (axOf s (uAt (prmOf c) 0 1)).cause }
        (setAx (uAt (prmOf c) 0 1) (fun a => { a with st := .disabled, still := none, ramp := none, openA := 0, openB := 0 }) s)) := by
      unfold axisFaultClear
      dsimp only
      rw [if_neg (by omega), if_neg (by simp [hst]), if_neg (by simp [hcause])]
    refine oks_command rfl ha (congrArg Prod.fst hb) ?_
    rw [hb]
    dsimp only [ok]
    rw [axOf_congr (raise_axes ..), axOf_setAx_same hlen]
    exact ⟨rfl, rfl⟩
  · subst hn
    refine answers_command rfl ha ?_
    unfold axisFaultClear
    dsimp only
    rw [if_neg (by omega), if_pos (by simpa using hst)]
    rfl

end Sys2Proof.Proofs

namespace Sys2Proof.Proofs
open Sys2Proof Sys2Proof.Machine Sys2Proof.Safety

/-! ## Metering: the sources and what leaves them alone -/

theorem srcOf_congr {s t : State} (h : t.meter.src = s.meter.src) {m : Nat} : srcOf t m = srcOf s m := by rw [srcOf, h, ← srcOf]

theorem setSrc_length {m : Nat} {f : MSource → MSource} {s : State} : (setSrc m f s).meter.src.length = s.meter.src.length := List.length_modify ..

theorem srcOf_setSrc_same {m : Nat} {f : MSource → MSource} {s : State} (h : m < s.meter.src.length) : srcOf (setSrc m f s) m = f (srcOf s m) := by
  unfold srcOf setSrc
  dsimp only
  rw [List.getD_eq_getElem?_getD, getElem?_lmod_same (List.getElem?_eq_getElem h), List.getD_eq_getElem?_getD, List.getElem?_eq_getElem h]
  rfl

/-- Every source stands as it did. -/
def SrcKept (s t : State) : Prop := t.meter.src = s.meter.src

theorem SrcKept.refl {s : State} : SrcKept s s := rfl

theorem SrcKept.after {s t u : State} (h : SrcKept t u) (h' : SrcKept s t) : SrcKept s u := h.trans h'

theorem SrcKept.ite {c : Prop} [Decidable c] {s a b : State} (ha : SrcKept s a) (hb : SrcKept s b) : SrcKept s (if c then a else b) := by
  split
  · exact ha
  · exact hb

theorem SrcKept.of_meter {s t : State} (h : t.meter = s.meter) : SrcKept s t := congrArg MeterSt.src h

theorem runTo_srcKept {t : Nat} {s : State} : SrcKept s (runTo t s) := .of_meter (runTo_touches.same .meter (by decide))

theorem raise_srcKept {e : Ev} {s : State} : SrcKept s (raise e s) := .of_meter (raise_touches.same .meter (by decide))

theorem raiseIf_srcKept {b : Bool} {e : Ev} {s : State} : SrcKept s (raiseIf b e s) := .of_meter (raiseIf_touches.same .meter (by decide))

theorem sendS1_srcKept {ty : Nat} {r : List Byte} {s : State} : SrcKept s (sendS1 ty r s) := .of_meter (sendS1_touches.same .meter (by decide))

theorem journalLog_srcKept {w : JWrite} {s : State} : SrcKept s (journalLog w s) := .of_meter (journalLog_touches.same .meter (by decide))

theorem putRecord_srcKept {m : Nat} {r : List Byte} {s : State} : SrcKept s (putRecord m r s) :=
  .ite .refl (.ite sendS1_srcKept (.ite .refl (raiseIf_srcKept.after .refl)))

theorem billFinish_srcKept {s : State} : SrcKept s (billFinish s) := by
  unfold billFinish
  split
  · exact .refl
  · split
    · exact .refl
    · refine .ite .refl (.ite .refl (.ite .refl (raise_srcKept.after (sendS1_srcKept.after ?_))))
      have hput : ∀ w n, Touches [.freeCtr, .sec, .harbour, .journal, .recorder] s (journalPut w (countUse n (draw s).2)).2 :=
        fun _ _ => journalPut_touches.after (countUse_touches.after (draw_touches.after .refl))
      exact SrcKept.after (t := (journalPut _ (countUse _ (draw s).2)).2) .refl (.of_meter ((hput _ _).same .meter (by decide)))

theorem billLatch_srcKept {m t : Nat} {c : MSource} {s : State} : SrcKept s (billLatch m t c s) := by
  unfold billLatch
  split
  · exact .refl
  · split
    · exact .refl
    · exact .ite (journalLog_srcKept.after .refl) (.ite .refl (billFinish_srcKept.after .refl))

theorem sampleJob_srcKept {m t : Nat} {a : Int} {s : State} : SrcKept s (sampleJob m t a s) := by
  unfold sampleJob
  split
  · exact .refl
  · exact .ite (sendS1_srcKept.after .refl) .refl

/-- A source's interval closed and the next one opened (10 R378). -/
theorem srcOf_latchSource {m t t0 : Nat} {b : Bool} {s : State} (hm : m < s.meter.src.length) (h : (srcOf s m).start = some t0) :
    srcOf (latchSource m t b s) m = { openInterval s t b (srcOf s m) with seq := ((srcOf s m).seq + 1) % 65536 } := by
  unfold latchSource
  dsimp only
  rw [h]
  dsimp only
  rw [srcOf_congr (billLatch_srcKept.after putRecord_srcKept), srcOf_setSrc_same hm]

/-- The mean rate's window changes no total (10 R374). -/
theorem srcOf_rateStep {m t : Nat} {s : State} (hm : m < s.meter.src.length) :
    (srcOf (rateStep m t s) m).fwd = (srcOf s m).fwd ∧ (srcOf (rateStep m t s) m).rev = (srcOf s m).rev ∧ (srcOf (rateStep m t s) m).sampleAt = (srcOf s m).sampleAt := by
  unfold rateStep
  dsimp only
  split
  · exact ⟨rfl, rfl, rfl⟩
  · rw [srcOf_congr raiseIf_srcKept, srcOf_setSrc_same hm]
    exact ⟨rfl, rfl, rfl⟩

/-- A current sample of positive power enters FORWARD (10 R374). -/
theorem srcOf_currentSample_forward {m t : Nat} {a : Int} {s : State} (hm : m < s.meter.src.length) (hv : (srcOf s m).vref = 0xFF) (hp : 0 < a * (srcOf s m).fullScale) :
    srcOf (currentSample m t a s) m = { srcOf s m with fwd := (srcOf s m).fwd + (a * (srcOf s m).fullScale * 4).natAbs } := by
  unfold currentSample
  dsimp only
  rw [srcOf_setSrc_same hm, hv, if_pos (show ((0xFF : Nat) == 0xFF) = true by decide), Int.mul_one, if_pos (by omega)]
  simp [addMove, hv]

theorem currentSample_length {m t : Nat} {a : Int} {s : State} : (currentSample m t a s).meter.src.length = s.meter.src.length := setSrc_length

/-- A sample of a charge channel, before its next latch (10 R367, R374). -/
theorem srcOf_sourceSample_charge {t m : Nat} {x : Int} {vals : List (Nat × Int)} {s : State} (hm : m < s.meter.src.length) (hk : (srcOf s m).kind = 4)
    (hv : (srcOf s m).vref = 0xFF) (hl : ∀ l, dueLatch s (srcOf s m) = some l → t < l) (hp : 0 < corrected (srcOf s m) x * (srcOf s m).fullScale) :
    (srcOf (sourceSample t vals (m, x) s) m).fwd = (srcOf s m).fwd + (corrected (srcOf s m) x * (srcOf s m).fullScale * 4).natAbs ∧
      (srcOf (sourceSample t vals (m, x) s) m).rev = (srcOf s m).rev ∧ (srcOf (sourceSample t vals (m, x) s) m).sampleAt = t := by
  have hno : (match dueLatch s (srcOf s m) with | some l => if l ≤ t then latchSource m l false s else s | none => s) = s := by
    cases hd : dueLatch s (srcOf s m) with
    | none => rfl
    | some l => exact if_neg (by have := hl l hd; omega)
  unfold sourceSample
  extract_lets m' c0 s' c a s1 v s2
  have hs : s' = s := hno
  have hc : c = srcOf s m := by rw [show c = srcOf s' m from rfl, hs]
  have ha : a = corrected (srcOf s m) x := by rw [show a = corrected c x from rfl, hc]
  have hs1 : SrcKept s s1 := by
    rw [show s1 = sampleJob m t (if 16 ≤ m then x else a) s' from rfl, hs]
    exact sampleJob_srcKept
  have hs2 : s2 = currentSample m t (corrected (srcOf s m) x) s1 := by
    have hk' : c.kind = 4 := by rw [hc, hk]
    simp only [s2, hk', ha]
    rfl
  have hlen : m < s1.meter.src.length := by rwa [show s1.meter.src = s.meter.src from hs1]
  have hlen2 : m < s2.meter.src.length := by rwa [hs2, currentSample_length]
  obtain ⟨hf, hr, ht⟩ := srcOf_rateStep (m := m) (t := t) (s := setSrc m (fun c => { c with sampleAt := t }) s2) (by rwa [setSrc_length])
  have hsrc := srcOf_congr hs1 (m := m)
  rw [hf, hr, ht, srcOf_setSrc_same hlen2, hs2, srcOf_currentSample_forward hlen (by rw [hsrc, hv]) (by rw [hsrc]; exact hp), hsrc]
  exact ⟨rfl, rfl, rfl⟩

/-- A DC value within SWELL and SAG (10 R375, R376). -/
theorem srcOf_doSupplyValue_within {m start stop v : Nat} {rising : Bool} {s : State} (hm : m < s.meter.src.length) (hk : (srcOf s m).kind = 5) (hn : (srcOf s m).count ≠ 0)
    (hac : (srcOf s m).ac = false) (hv : v = ((srcOf s m).sum / (srcOf s m).count / 2 ^ 24).toNat) (hexc : (srcOf s m).exc = none)
    (hsag : (srcOf s m).nominal * (srcOf s m).sag ≤ 100 * v) (hswell : 100 * v ≤ (srcOf s m).nominal * (srcOf s m).swell) :
    (srcOf (doSupplyValue m start stop rising s) m).vCount = (srcOf s m).vCount + 1 ∧ (srcOf (doSupplyValue m start stop rising s) m).vSum = (srcOf s m).vSum + v ∧
      (srcOf (doSupplyValue m start stop rising s) m).vMax = max (srcOf s m).vMax v ∧ (srcOf (doSupplyValue m start stop rising s) m).count = 0 ∧
      (srcOf (doSupplyValue m start stop rising s) m).exc = none := by
  unfold doSupplyValue
  dsimp only
  rw [if_neg (by simp [hk, hn]), if_neg (by simp [hac]), if_neg (c := (srcOf s m).ac = true) (by simp [hac]), if_neg (by simp [hac])]
  unfold excursion
  dsimp only
  rw [srcOf_setSrc_same hm]
  dsimp only
  rw [hexc]
  dsimp only
  rw [← hv, if_neg (by omega), srcOf_setSrc_same hm]
  exact ⟨rfl, rfl, rfl, rfl, hexc⟩

/-! ## Synthetic crossings and saves -/

/-- A crossing changes neither what was last seen of the line nor that it is lost (10 R377). -/
theorem lineCross_srcViews {ref t : Nat} {b : Bool} {s : State} :
    (lineCross ref t b s).meter.src.map (fun c => (c.lineLost, c.crossAt)) = s.meter.src.map (fun c => (c.lineLost, c.crossAt)) := by
  unfold lineCross
  dsimp only
  rw [List.map_map]
  refine List.map_congr_left fun c _ => ?_
  dsimp only [Function.comp]
  split
  · rfl
  · split <;> rfl

theorem foldl_lineCross_srcViews {ref : Nat} {at_ : Nat → Nat} {l : List Nat} {s : State} :
    (l.foldl (fun st k => lineCross ref (at_ k) true st) s).meter.src.map (fun c => (c.lineLost, c.crossAt)) = s.meter.src.map (fun c => (c.lineLost, c.crossAt)) := by
  induction l generalizing s with
  | nil => rfl
  | cons k l ih => rw [List.foldl_cons, ih, lineCross_srcViews]

theorem srcOf_view_congr {s t : State} {m : Nat} (h : t.meter.src.map (fun c => (c.lineLost, c.crossAt)) = s.meter.src.map (fun c => (c.lineLost, c.crossAt))) :
    (srcOf t m).lineLost = (srcOf s m).lineLost ∧ (srcOf t m).crossAt = (srcOf s m).crossAt := by
  have hm := congrArg (fun l => l.getD m (({} : MSource).lineLost, ({} : MSource).crossAt)) h
  have hg : ∀ l : List MSource, (l.map (fun c => (c.lineLost, c.crossAt))).getD m (({} : MSource).lineLost, ({} : MSource).crossAt) =
      ((l.getD m {}).lineLost, (l.getD m {}).crossAt) := fun l => getD_map_default (f := fun c : MSource => (c.lineLost, c.crossAt)) ..
  dsimp only at hm
  rw [hg, hg] at hm
  exact ⟨congrArg Prod.fst hm, congrArg Prod.snd hm⟩

/-- Synthetic crossings stand in for a lost line (10 R377). -/
theorem srcOf_doSynthetic {m t0 t1 : Nat} {s : State} (hm : m < s.meter.src.length) (hk : (srcOf s m).kind = 5) (hac : (srcOf s m).ac = true) (h0 : (srcOf s m).crossAt = some t0)
    (h1 : (srcOf s m).synthAt = some t1) : (srcOf (doSynthetic m s) m).lineLost = true ∧ (srcOf (doSynthetic m s) m).crossAt = some t0 := by
  unfold doSynthetic
  dsimp only
  rw [if_neg (by simp [hk, hac]), h0, h1]
  dsimp only
  obtain ⟨hl, hc⟩ := srcOf_view_congr (m := m) (foldl_lineCross_srcViews (ref := m) (at_ := fun k => t1 + (k + 1) * (sec1 / max 1 (srcOf s m).freq))
    (l := List.range ((max (t1 + sec1 / max 1 (srcOf s m).freq) (if (t1 == t0) = true then t0 + 2 * (sec1 / max 1 (srcOf s m).freq) else 0) - t1) / (sec1 / max 1 (srcOf s m).freq)))
    (s := raiseIf (!(srcOf s m).lineLost) { code := 0x0907, sev := 4, p0 := m } (setSrc m (fun c => { c with
      synthAt := some (max (t1 + sec1 / max 1 (srcOf s m).freq) (if (t1 == t0) = true then t0 + 2 * (sec1 / max 1 (srcOf s m).freq) else 0)), lineLost := true })
      (runTo (max (t1 + sec1 / max 1 (srcOf s m).freq) (if (t1 == t0) = true then t0 + 2 * (sec1 / max 1 (srcOf s m).freq) else 0)) s))))
  have hrun : SrcKept s (runTo (max (t1 + sec1 / max 1 (srcOf s m).freq) (if (t1 == t0) = true then t0 + 2 * (sec1 / max 1 (srcOf s m).freq) else 0)) s) := runTo_srcKept
  have hlen : m < (runTo (max (t1 + sec1 / max 1 (srcOf s m).freq) (if (t1 == t0) = true then t0 + 2 * (sec1 / max 1 (srcOf s m).freq) else 0)) s).meter.src.length := by
    rwa [show _ = s.meter.src from hrun]
  rw [srcOf_congr raiseIf_srcKept, srcOf_setSrc_same hlen] at hl hc
  exact ⟨hl, hc.trans ((congrArg MSource.crossAt (srcOf_congr hrun)).trans h0)⟩

/-- A save keeps every total (10 R386). -/
theorem saveNow_totals {s : State} : (saveNow s).meter.src.map (fun c => (c.fwd, c.rev)) = s.meter.src.map (fun c => (c.fwd, c.rev)) := by
  have hj : (journalPut { type := 0x20, key := 0, payload := saveBytes s (dtNow s), prio := 4 } s).2.meter = s.meter := journalPut_touches.same .meter (by decide)
  unfold saveNow
  dsimp only
  rw [hj]
  split
  · rw [List.map_map]
    rfl
  · rfl

/-- The held records leave with their room in S_1 (10 R382). -/
theorem sendHeld_one {n : Nat} {r : List Byte} {s : State} (hr : s.meter.ring = [r]) (hroom : s1Room r s = true) :
    sendHeld (n + 1) s = sendS1 0x16 r { s with meter := { s.meter with ring := [], lost := 0 } } := by
  have hnil : ∀ k (t : State), t.meter.ring = [] → sendHeld k t = t := by
    intro k t h
    cases k with
    | zero => rfl
    | succ k => unfold sendHeld; rw [h]
  unfold sendHeld
  rw [hr]
  dsimp only
  rw [if_pos hroom, hnil]
  exact congrArg MeterSt.ring (sendS1_touches.same .meter (by decide))

/-- Settles O38: each event's change of its source, by the lemmas of this section. -/
theorem meterEvents : Obligations.MeterEvents := by
  unfold Obligations.MeterEvents
  refine ⟨fun raws s hp hd => ?_, fun t s hp hd ht hsrc => ?_, fun t m x c s hp hd ht hsrc h16 hm hc hk hv hl hpos => ?_,
    fun m start stop v rising c s hm hc hk hn hac hv hexc hsag hswell => ?_, fun m t t0 s hm hdue hst => ?_, fun m t0 t1 s hm hk hac h0 h1 => ?_, fun r s hr hroom => ?_,
    fun s hp => ?_, fun s hp => ?_⟩
  · refine reaches_done rfl ?_
    have hrun : (runTo (padTo (4 * us1) (dtNow s + 1)) s).meter = s.meter := runTo_touches.same .meter (by decide)
    rw [(settle_touches.same .meter (by decide) : _ = _), doConversion, if_neg (by simp [hp, hd])]
    dsimp only
    rw [hrun]
  · show done (doAligned t [] s) = _
    rw [doAligned, if_neg (by simpa [hp, hd, ht] using hsrc)]
    rfl
  · subst hc
    refine reaches_done rfl ?_
    have hrun : SrcKept s (runTo (t + 80 * us1) s) := runTo_srcKept
    have hvotes : (runTo (t + 80 * us1) s).votes = s.votes := runTo_touches.same .votes (by decide)
    have heq : doAligned t [(m, x)] s = sourceSample t [(m, x)] (m, x) (runTo (t + 80 * us1) s) := by
      have hno : ¬ 16 ≤ m := by omega
      rw [doAligned, if_neg (by simpa [hp, hd, ht] using hsrc)]
      simp [hno, h16]
    have hs := srcOf_congr hrun (m := m)
    have hset : ∀ u : State, srcOf (settle u) m = srcOf u m := fun u => srcOf_congr (congrArg MeterSt.src (settle_touches.same .meter (by decide)))
    have hkey := srcOf_sourceSample_charge (t := t) (m := m) (x := x) (vals := [(m, x)]) (s := runTo (t + 80 * us1) s) (by rwa [show _ = s.meter.src from hrun])
      (by rw [hs, hk]) (by rw [hs, hv]) (fun l h => hl l (by rw [← h, hs]; simp only [dueLatch, tideLatch, tideP, hvotes])) (by rw [hs]; exact hpos)
    rw [hs] at hkey
    rwa [hset, heq]
  · subst hc
    refine reaches_done rfl ?_
    rw [srcOf_congr (congrArg MeterSt.src (settle_touches.same .meter (by decide)))]
    exact srcOf_doSupplyValue_within hm hk hn hac hv hexc hsag hswell
  · refine reaches_done rfl ?_
    have hrun : SrcKept s (runTo (t + 76 * us1) s) := runTo_srcKept
    have hs := srcOf_congr hrun (m := m)
    have heq : doIntervalLatch m s = latchSource m t false (runTo (t + 76 * us1) s) := by rw [doIntervalLatch, hdue]
    rw [srcOf_congr (congrArg MeterSt.src (settle_touches.same .meter (by decide))), heq, srcOf_latchSource (by rwa [show _ = s.meter.src from hrun]) (by rw [hs, hst]), hs]
    exact ⟨rfl, rfl, rfl, rfl, rfl⟩
  · refine reaches_done rfl ?_
    rw [srcOf_congr (congrArg MeterSt.src (settle_touches.same .meter (by decide)))]
    exact srcOf_doSynthetic hm hk hac h0 h1
  · show done (sendHeld 512 s) = _
    rw [sendHeld_one hr hroom]
    rfl
  · refine reaches_done rfl ?_
    have heq : doMeterSave s = saveNow (runToCyc (s.meter.saveAt + cycMs (1000 * s.meter.saveEvery)) s) := by rw [doMeterSave, if_neg (by simp [hp])]
    have htime : (saveNow (runToCyc (s.meter.saveAt + cycMs (1000 * s.meter.saveEvery)) s)).time = (runToCyc (s.meter.saveAt + cycMs (1000 * s.meter.saveEvery)) s).time :=
      saveNow_touches.same .time (by decide)
    have hrun : (runToCyc (s.meter.saveAt + cycMs (1000 * s.meter.saveEvery)) s).meter = s.meter := runToCyc_touches.same .meter (by decide)
    rw [(settle_touches.same .meter (by decide) : _ = _), (settle_touches.same .time (by decide) : _ = _), heq, saveNow_totals, htime, hrun]
    exact ⟨rfl, le_runToCyc_cyc .., rfl⟩
  · refine reaches_done rfl ?_
    have hrun : ∀ x y, (runToCyc x (runToCyc y s)).meter = s.meter := fun x y => (runToCyc_touches.same .meter (by decide)).trans (runToCyc_touches.same .meter (by decide))
    rw [(settle_touches.same .meter (by decide) : _ = _), (settle_touches.same .time (by decide) : _ = _), doMeterSaveLate, if_neg (by simp [hp])]
    dsimp only
    rw [(raise_touches.same .meter (by decide) : _ = _), (raise_touches.same .time (by decide) : _ = _)]
    dsimp only
    rw [hrun]
    exact ⟨rfl, le_runToCyc_cyc ..⟩

end Sys2Proof.Proofs

namespace Sys2Proof.Proofs
open Sys2Proof Sys2Proof.Machine Sys2Proof.Safety

/-! ## The METER commands -/

theorem bit_one_of_lt_two {v : Nat} (h : v < 2) : bit v 1 = false := by
  unfold bit
  rw [Nat.div_eq_of_lt (by omega)]
  decide

theorem billed_of_none {s : State} {m : Nat} (h : s.meter.bill = none) : billed s m = false := by rw [billed, h]

/-- METER_CHANNEL_CONFIG of a source of an open billing period (10 R383). -/
theorem meterChannelConfig_of_billed {p : List Byte} {s : State} (hm : uAt p 0 1 < 16) (hmode : uAt p 1 1 = 0) (hr : uAt p 2 1 ≤ 3) (hf : uAt p 3 1 < 2)
    (hg : within 16384 49152 (uAt p 6 2) = true) (hd : (iAt p 8 2).natAbs ≤ 8192) (hh : within 1 64 (uAt p 10 1) = true) (ht : within 4 128 (uAt p 11 1) = true) (hv : uAt p 20 1 = 0xFF)
    (hz : zeros p 21 3 = true) (hz' : zeros p 16 4 = true) (hb : billed s (uAt p 0 1) = true) : meterChannelConfig p s = refuse 0x0980 s := by
  simp only [within, Bool.and_eq_true, decide_eq_true_eq] at hg hh ht
  unfold meterChannelConfig
  dsimp only
  rw [hmode, hv, if_neg, if_pos hb]
  simp [hm, hr, hd, hz, hz', hg, hh, ht, bit_one_of_lt_two hf]
  omega

/-- METER_CHANNEL_CONFIG of a pulse channel (10 R368, R372). -/
theorem meterChannelConfig_of_pulse {p : List Byte} {s : State} (hm : uAt p 0 1 < 16) (hmode : uAt p 1 1 = 2) (hr : uAt p 2 1 ≤ 3) (hf : uAt p 3 1 < 2)
    (hg : within 16384 49152 (uAt p 6 2) = true) (hd : (iAt p 8 2).natAbs ≤ 8192) (hh : within 1 64 (uAt p 10 1) = true) (ht : within 4 128 (uAt p 11 1) = true) (hv : uAt p 20 1 = 0xFF)
    (hz : zeros p 21 3 = true) (hz' : zeros p 16 4 = true) (hb : billed s (uAt p 0 1) = false) (hodd : uAt p 0 1 % 2 = 1 → (srcOf s (uAt p 0 1 - 1)).kind ≠ 1) :
    meterChannelConfig p s = ok (setSrc (uAt p 0 1) (fun _ => openInterval s (dtNow s) true {
      kind := 2, range := uAt p 2 1, autoTrim := bit (uAt p 3 1) 0, line := bit (uAt p 3 1) 1, offset := iAt p 4 2, gain := uAt p 6 2, delay := iAt p 8 2, hyst := uAt p 10 1, thresh := uAt p 11 1
      kFactor := uAt p 12 4, fullScale := uAt p 16 4, vref := uAt p 20 1, maxRate := uAt p 24 4, seq := (srcOf s (uAt p 0 1)).seq }) s) := by
  simp only [within, Bool.and_eq_true, decide_eq_true_eq] at hg hh ht
  unfold meterChannelConfig
  dsimp only
  rw [hmode, hv, if_neg, if_neg (by simp [hb]), if_neg]
  · rfl
  · simpa using hodd
  · simp [hm, hr, hd, hz, hz', hg, hh, ht, bit_one_of_lt_two hf]
    omega

/-- METER_SUPPLY_CONFIG of a DC supply (10 R375). -/
theorem meterSupplyConfig_of_dc {p : List Byte} {s : State} (hm : 16 ≤ uAt p 0 1) (hm' : uAt p 0 1 < 20) (ht : uAt p 1 1 = 1) (hf : uAt p 2 2 = 0) (h14 : uAt p 14 1 < uAt p 13 1)
    (h13 : uAt p 13 1 < 100) (h12 : 100 < uAt p 12 1) (h16 : uAt p 16 1 = 0) (hz : zeros p 17 3 = true) (hb : s.meter.bill = none) :
    meterSupplyConfig p s = ok (setSrc (uAt p 0 1) (fun _ => openInterval s (dtNow s) true {
      kind := 5, line := uAt p 16 1 == 1, ac := uAt p 1 1 == 2, freq := uAt p 2 2, divider := uAt p 4 4, nominal := uAt p 8 4, swell := uAt p 12 1, sag := uAt p 13 1
      interrupt := uAt p 14 1, shyst := uAt p 15 1, seq := (srcOf s (uAt p 0 1)).seq }) s) := by
  unfold meterSupplyConfig
  dsimp only
  rw [if_neg (by simp [hm, hm', ht, hf, h14, h13, h12, h16, hz]), hb, if_neg (by simp [billed_of_none hb]), ht]
  rfl

/-- Settles O39: each command's answer and what it leaves of its source. -/
theorem meterCommands : Obligations.MeterCommands := by
  unfold Obligations.MeterCommands
  refine ⟨fun c s p m ha hp hn hm hlen hmode hr hf hg hd hh ht hv hz hz' hb hodd => ?_, fun c s p m ha hp hn hm hmode hr hf hg hd hh ht hv hz hz' hb => ?_,
    fun c s p m ha hp hn hm hm' hlen ht hf h14 h13 h12 h16 hz hb => ?_, fun c s p ha hp h0 h2 h4 h4' hk hac => ?_, fun c s e ha hm he => ?_, fun c s ha h => ?_,
    fun c s p m ha hp hb hms hm hbill hz h64 hkey => ?_, fun c s ha hms hz h64 hb => ?_, fun c s b ha hb hff hkey => ?_, fun c s ha h0 hb => ?_,
    fun c s p ha hp h1 h2 h3 h4 => ?_, fun c s p ha hp h0 h4 h4' hz => ?_⟩
  · subst hp hn
    have heq := meterChannelConfig_of_pulse hm hmode hr hf hg hd hh ht hv hz hz' hb hodd
    refine oks_command rfl ha (congrArg Prod.fst heq) ?_
    rw [heq]
    dsimp only [ok]
    rw [srcOf_setSrc_same hlen]
    exact ⟨rfl, rfl, rfl, rfl, rfl, rfl, rfl, rfl, rfl⟩
  · subst hp hn
    exact answers_command rfl ha (meterChannelConfig_of_billed hm hmode hr hf hg hd hh ht hv hz hz' hb)
  · subst hp hn
    have heq := meterSupplyConfig_of_dc hm hm' ht hf h14 h13 h12 h16 hz hb
    refine oks_command rfl ha (congrArg Prod.fst heq) ?_
    rw [heq]
    dsimp only [ok]
    rw [srcOf_setSrc_same hlen, ht]
    exact ⟨rfl, rfl, rfl, rfl, rfl, rfl, rfl, rfl⟩
  · subst hp
    refine answers_command rfl ha ?_
    unfold meterLatchConfig
    dsimp only
    rw [if_neg (by simp [h0, h2, h4, h4', hk, hac])]
    rfl
  · subst he
    refine answers_command rfl ha ?_
    unfold meterRead
    dsimp only
    rw [if_neg (by omega)]
    rfl
  · refine answers_command rfl ha ?_
    unfold meterSubscribe
    rw [if_neg (by omega)]
    rfl
  · subst hp
    refine answers_command rfl ha ?_
    unfold meterBillOpen
    dsimp only
    rw [hms, if_neg (by simp [hm, hbill, hz, h64]), if_neg (by simp [hb]), hkey]
    rfl
  · obtain ⟨m, hm, hms, hbill⟩ := hms
    refine answers_command rfl ha ?_
    unfold meterBillOpen
    dsimp only
    rw [hms, if_neg (by simp [hm, hbill, hz, h64]), if_pos hb]
    rfl
  · refine answers_command rfl ha ?_
    unfold meterBillClose
    dsimp only
    rw [if_neg (by simp [hff]), hb]
    dsimp only
    rw [hff, if_pos (by decide), hkey]
    rfl
  · refine answers_command rfl ha ?_
    unfold meterBillClose
    rw [if_neg (by simp; omega), hb]
    rfl
  · subst hp
    refine answers_command rfl ha ?_
    unfold meterSaveConfig
    dsimp only
    rw [if_pos (by simp [h1, h2, h3, h4])]
    rfl
  · subst hp
    refine answers_command rfl ha ?_
    unfold meterSample
    dsimp only
    rw [if_pos (by simp [h0, h4, h4', hz])]
    rfl

end Sys2Proof.Proofs

namespace Sys2Proof.Proofs
open Sys2Proof Sys2Proof.Machine Sys2Proof.Safety

/-! ## Frames with a good tag -/

/-- A frame with the tag of a key and its CRC (11 R400, R403). -/
def sealed (ty : Nat) (key : List Byte) (s : State) (f : RadFrame) : RadFrame :=
  { f with tag := frameTag ty key s f, crc := frameCrc ty { f with tag := frameTag ty key s f } }

theorem sealed_frameSound {ty : Nat} {key : List Byte} {s : State} {f : RadFrame} (h : radKey s (keySlotOf s.fleet ty) = some key) : frameSound ty s (sealed ty key s f) = true := by
  have htag : (sealed ty key s f).tag = frameTag ty key s (sealed ty key s f) := rfl
  have hcrc : (sealed ty key s f).crc = frameCrc ty (sealed ty key s f) := rfl
  unfold frameSound
  rw [h, hcrc]
  dsimp only
  rw [← htag, beq_self_eq_true, beq_self_eq_true]
  rfl

/-! ## A beacon in SEARCH -/

/-- A production device in SEARCH whose network key is usable, with a grant still standing. -/
def searchingGranted : State :=
  { State.reset with
    power := { State.reset.power with st := .spring }
    votes := { State.reset.votes with lifeCycle := Voted.write {} 1 }
    sec := { State.reset.sec with keys := [(0, { type := 0, uses := 4, masters := 8, world := 3, lc := 3, flags := 0, gen := 0, key := [] })] }
    fleet := { State.reset.fleet with st := .search, granted := true } }

/-- The beacon of superframe 0 that shows address 1 joined and nothing else. -/
def plainBeacon : RadFrame := { slot := 0, payload := List.replicate 16 0 ++ [1] ++ List.replicate 7 0 }

/-- That beacon as the base sends it under the network key. -/
def soundBeacon : RadFrame := sealed 0 [] searchingGranted plainBeacon

theorem soundBeacon_received : rxFrame 0 soundBeacon searchingGranted = (true, searchingGranted) := by
  have hsound : frameSound 0 searchingGranted soundBeacon = true := sealed_frameSound (by decide)
  have hrun : runTo soundBeacon.capture searchingGranted = searchingGranted := rfl
  unfold rxFrame
  rw [hrun]
  dsimp only
  rw [if_neg (by decide), if_neg (by simp [hsound]), if_neg (by decide)]

/-- The grant makes the rover join with the beacon itself. -/
theorem soundBeacon_joins : (doBeacon soundBeacon searchingGranted).fleet.st = .joined := by
  unfold doBeacon
  rw [soundBeacon_received]
  decide

theorem exec_soundBeacon : exec (.beacon soundBeacon) searchingGranted = done (doBeacon soundBeacon searchingGranted) := by
  have hneap : ¬ (searchingGranted.power.st == .neap) = true := by decide
  show done (if searchingGranted.power.st == .neap then _ else _) = _
  rw [if_neg hneap]

/-- Refutes O40: a rover in SEARCH that still holds a grant is JOINED at the beacon that takes it out of SEARCH, and does not stay in CONNECTING. -/
theorem not_fleetEvents : ¬ Obligations.FleetEvents := by
  unfold Obligations.FleetEvents
  rintro ⟨-, -, h, -⟩
  have hst := (of_reaches_done exec_soundBeacon
    (h soundBeacon searchingGranted searchingGranted (by decide) soundBeacon_received (by decide) rfl (by decide) rfl)).1
  rw [settle_touches.same .fleet (by decide), soundBeacon_joins] at hst
  cases hst

end Sys2Proof.Proofs

namespace Sys2Proof.Proofs
open Sys2Proof Sys2Proof.Machine Sys2Proof.Safety

/-! ## The FLEET commands -/

/-- FLEET_RADIO_CONFIG with parameters in range (11 R430). -/
theorem fleetRadioConfig_of_ranges {p : List Byte} {s : State} (h0 : uAt p 0 1 ≤ 6) (hz : zeros p 1 1 = true) (hsf : uAt p 2 2 % 10 = 0) (hlo : minSf (uAt p 0 1) ≤ uAt p 2 2) (hhi : uAt p 2 2 ≤ 400)
    (ht : ms1 * uAt p 2 2 % tideP s = 0) (hid : netIdOk (uAt p 4 4) = true) (hset : 1000 * uAt p 10 2 ≤ 12500 * uAt p 2 2 - 60000) (hsub : uAt p 0 1 < 3 → zeros p 16 8 = true)
    (hm : uAt p 24 5 ≠ 0) (hm' : uAt p 24 5 < 2 ^ 40) (hz29 : zeros p 29 3 = true) (hst : s.fleet.st = .off) :
    fleetRadioConfig p s = ok { s with fleet := { s.fleet with
      configured := true, mode := uAt p 0 1, sfMs := uAt p 2 2, netId := uAt p 4 4, netKey := uAt p 8 1, svcKey := uAt p 9 1, settle := uAt p 10 2
      txDelay := uAt p 12 2, rxDelay := uAt p 14 2, f0 := uAt p 16 4, spacing := uAt p 20 4, cfgMap := uAt p 24 5 } } := by
  have hsub' : (!decide (3 ≤ uAt p 0 1) && !zeros p 16 8) = false := by
    by_cases h : uAt p 0 1 < 3
    · simp [hsub h]
    · simp [show 3 ≤ uAt p 0 1 by omega]
  unfold fleetRadioConfig
  dsimp only
  rw [hsub', if_neg (by simp [within, hz, hsf, hlo, hhi, ht, hid, hm, hz29]; omega), if_neg (by simp [hst])]

/-- A rover released: its address is free and no other rover changes (11 R419). -/
theorem tget_releaseRover {a b cause : Nat} {r : Rover} {s : State} (h : tget s.fleet.rovers a = some r) :
    tget (releaseRover a cause s).fleet.rovers b = if b = a then none else tget s.fleet.rovers b := by
  have hfold : ∀ (l : List Nat) (t : State), (l.foldl (fun st k => msgFailed k a 2 st) t).fleet = t.fleet := fun l t => by
    have h : Touches [.harbour, .journal, .recorder] t (l.foldl (fun st k => msgFailed k a 2 st) t) := .foldl (fun _ _ => msgFailed_touches) .refl
    exact h.same .fleet (by decide)
  unfold releaseRover
  rw [h]
  dsimp only
  rw [hfold, raise_touches.same .fleet (by decide)]
  exact tget_tdel ..

/-- Settles O41: each command's answer and what it leaves of the radio. -/
theorem fleetCommands : Obligations.FleetCommands := by
  unfold Obligations.FleetCommands
  refine ⟨fun c s p ha hp h0 hz hsf hlo hhi ht hid hset hsub hm hm' hz29 hst => ?_, fun c s ha hset => ?_, fun c s ha hid => ?_, fun c s p k n ha hp hk hk' hn hn1 hn16 hz hst => ?_,
    fun c s p ha hp h1 h64 hf h3 hst hcfg hpow hns => ?_, fun c s ha h0 hst hr => ?_, fun c s ha h0 hr => ?_, fun c s p ha hp h1 h64 hf h3 => ?_, fun c s p ha hp hm hm' hcd hst hpend => ?_,
    fun c s r ha hr => ?_, fun c s ha hr => ?_, fun c s r ha hr => ?_, fun c s ha hst hns hcfg => ?_, fun c s ha hst hns hcfg => ?_, fun c s ha hst hcell hax => ?_,
    fun c s ha hst hbusy => ?_, fun c s ha hst hfresh hbit => ?_, fun c s ha hst hfresh hbit => ?_, fun c s ha hst hfresh => ?_, fun c s ha => ?_,
    fun c s p n ha hp hn h1 h2 hz hz' hn32 hst hcfg hfresh hkey hlen => ?_, fun c s p n ha hp hn hn32 hz h0 h4 => ?_, fun c s p ha hp hn hz h4 => ?_⟩
  · subst hp
    exact answers_command rfl ha (fleetRadioConfig_of_ranges h0 hz hsf hlo hhi ht hid hset hsub hm hm' hz29 hst)
  · refine answers_command rfl ha ?_
    unfold fleetRadioConfig
    dsimp only
    rw [if_pos (by simp [show 12500 * uAt (prmOf c) 2 2 - 60000 < 1000 * uAt (prmOf c) 10 2 from hset])]
    rfl
  · refine answers_command rfl ha ?_
    unfold fleetRadioConfig
    dsimp only
    rw [if_pos (by simp [hid])]
    rfl
  · subst hp hk hn
    have hb : fleetXcvrScript (prmOf c) s = ok { s with fleet := { s.fleet with scripts := tset s.fleet.scripts (uAt (prmOf c) 0 1) (((prmOf c).drop 4).take (uAt (prmOf c) 1 1)) } } := by
      unfold fleetXcvrScript
      dsimp only
      rw [if_neg (by simp [within, hn1, hn16, hz]; omega), if_neg (by simp [hst])]
    refine oks_command rfl ha (congrArg Prod.fst hb) ?_
    rw [hb]
    dsimp only [ok]
    exact ⟨by rw [tget_tset, if_pos rfl], fun j hj => by rw [tget_tset, if_neg (Ne.symm hj)]⟩
  · subst hp
    refine oks_command (r := []) rfl ha ?_ ?_ <;> unfold fleetBaseStart <;> rw [if_neg (by simp [within, h1, h64, h3]; omega), if_neg (by simp [hst, hcfg, hpow, hns])]
    · rfl
    · exact ⟨rfl, rfl, rfl, rfl, rfl, rfl, rfl⟩
  · have hb : fleetBaseStop (prmOf c) s = ok (runScript 0 { corAbort s with fleet := { (corAbort s).fleet with
        st := .off, pending := none, burst := none, corrOut := none, joinOut := [], svcOut := [] } }) := by
      unfold fleetBaseStop
      rw [if_neg (by omega), if_neg (by simp [hst, hr]), hr]
      rfl
    refine oks_command rfl ha (congrArg Prod.fst hb) ?_
    rw [hb]
    dsimp only [ok]
    rw [runScript_touches.same .fleet (by decide)]
    exact ⟨rfl, rfl, rfl⟩
  · refine answers_command rfl ha ?_
    unfold fleetBaseStop
    rw [if_neg (by omega), if_pos (by simp [hr, h0])]
    rfl
  · subst hp
    refine answers_command rfl ha ?_
    unfold fleetBaseSet
    rw [if_neg (by simp [within, h1, h64, h3]; omega)]
    rfl
  · subst hp
    refine answers_command rfl ha ?_
    unfold fleetChannelMap
    dsimp only
    rw [if_neg, if_neg (by simp [hst, hpend])]
    · simp only [beq_iff_eq]
      rfl
    · rcases hcd with hcd | hcd
      · simp [hm, hcd]
        omega
      · rw [if_neg (by simp; omega)]
        simp [hm]
        omega
  · have hb : fleetRoverRelease (prmOf c) s = ok (releaseRover (uAt (prmOf c) 0 1) 1 s) := by
      unfold fleetRoverRelease
      rw [if_neg (by simp [hr])]
    refine oks_command rfl ha (congrArg Prod.fst hb) ?_
    rw [hb]
    exact ⟨(tget_releaseRover hr).trans (if_pos rfl), fun b hb => (tget_releaseRover hr).trans (if_neg hb)⟩
  · refine answers_command rfl ha ?_
    unfold fleetRoverRelease
    rw [if_pos (by simp [hr])]
    rfl
  · refine answers_command rfl ha ?_
    unfold fleetRoverInfo
    rw [hr]
    rfl
  · have hb : fleetJoin (prmOf c) s = accepted (runScript (8 + (mapChannels s.fleet.cfgMap).getD 0 0) { s with fleet := { s.fleet with
        st := .search, searchIx := 0, searchSf := sfNow s, attempts := 0, nonce := none, granted := false, refused := false, contSlot := none
        beaconAt := none, offO := 0, driftY := 0, misses := 0, map := s.fleet.cfgMap, pending := none, rejoin := false, testedSf := none } }) := by
      unfold fleetJoin
      rw [if_neg (by simp [hst, hns]), if_neg (by simp [hcfg])]
    refine ⟨_, answers_command rfl ha hb, ?_⟩
    dsimp only
    rw [runScript_touches.same .fleet (by decide)]
    exact ⟨rfl, rfl, rfl, rfl, rfl⟩
  · refine answers_command rfl ha ?_
    unfold fleetJoin
    rw [if_neg (by simp [hst, hns]), if_pos (by simp [hcfg])]
    rfl
  · have hb : fleetLeave (prmOf c) s = accepted { s with fleet := { s.fleet with leaving := some 3 } } := by
      unfold fleetLeave
      rw [if_neg (by simp [hst]), if_neg (by simp [hcell, hax])]
    exact ⟨_, answers_command rfl ha hb, rfl⟩
  · refine answers_command rfl ha ?_
    unfold fleetLeave
    rw [if_neg (by simp [hst]), if_pos (by simpa using hbusy)]
    rfl
  · have hb : fleetRecover (prmOf c) s = ok (lostEnds { s with
        fleet := { s.fleet with st := .joined, misses := 0, startSf := (sfNow s + 1) % 2 ^ 32 }, stop := { s.stop with recovered := true } }) := by
      unfold fleetRecover
      rw [if_neg (by simp [hst]), if_neg (by simp [hfresh]), if_pos hbit]
    refine oks_command rfl ha (congrArg Prod.fst hb) ?_
    rw [hb]
    dsimp only [ok]
    rw [lostEnds_touches.same .fleet (by decide), lostEnds_touches.same .cor (by decide)]
    exact ⟨rfl, rfl, rfl⟩
  · have hb : fleetRecover (prmOf c) s = accepted (corDropGrants { s with fleet := { s.fleet with
        st := .connecting, rejoin := true, granted := false, nonce := none, contSlot := none, attempts := 0 } }) := by
      unfold fleetRecover
      rw [if_neg (by simp [hst]), if_neg (by simp [hfresh]), if_neg (by simp [hbit])]
    refine ⟨_, answers_command rfl ha hb, ?_⟩
    dsimp only
    rw [corDropGrants_touches.same .fleet (by decide), corDropGrants_touches.same .stop (by decide)]
    exact ⟨rfl, fun e he => by simpa using (List.mem_filter.mp he).2, rfl⟩
  · refine answers_command rfl ha ?_
    unfold fleetRecover
    rw [if_neg (by simp [hst]), if_pos (by simp [hfresh])]
    rfl
  · exact answers_command rfl ha rfl
  · subst hp hn
    have hb : fleetServiceSend (prmOf c) s = accepted { s with fleet := { s.fleet with
        svcReq := s.fleet.svcReq ++ [(uAt (prmOf c) 4 4, uAt (prmOf c) 0 1, ((prmOf c).drop 12).take (uAt (prmOf c) 8 1), none)] } } := by
      unfold fleetServiceSend
      dsimp only
      rw [if_neg (by simp [within, h1, h2, hz, hz']; omega), if_neg (by simp [hst, hcfg]), if_neg (by simp [hfresh]), if_neg (by simp [hkey]; omega)]
    exact ⟨_, answers_command rfl ha hb, rfl⟩
  · subst hp hn
    refine answers_command rfl ha ?_
    unfold fleetServiceReply
    dsimp only
    rw [if_neg (by simp [hz]; omega), if_neg (by simp; omega)]
    rfl
  · subst hp
    refine answers_command rfl ha ?_
    unfold fleetServiceReply
    dsimp only
    rw [if_neg (by simp [hz]; omega), if_pos (by simp [h4])]
    rfl

end Sys2Proof.Proofs

namespace Sys2Proof.Proofs
open Sys2Proof Sys2Proof.Machine Sys2Proof.Safety

/-! ## Corridors -/

/-- The end of a batch that reports its backlog changes the run of that report alone (12 R446). -/
theorem backlogCheck_cor {sf : Nat} {s : State} : ∃ b, (backlogCheck sf s).cor = { s.cor with backlogRun := b } :=
  ⟨_, raiseIf_touches.same .cor (by decide)⟩

theorem mismatchCheck_cor {s : State} : ∃ b, (mismatchCheck s).cor = { s.cor with mismatchRun := b } := by
  unfold mismatchCheck
  split
  · exact ⟨_, rfl⟩
  · exact ⟨_, raiseIf_touches.same .cor (by decide)⟩

/-- The batch of an idle service with one request of a joined rover (12 R440 to R442). -/
theorem batchRequest_cor {sf : Nat} {m : CorMsg} {s : State} {g r f : Nat} (h : (tget s.fleet.rovers m.addr).isSome = true) :
    ∃ n, (batchRequest sf (s, g, r, f) m).1.cor = { s.cor with
      table := (decide1 sf m s.cor).2.2.2
      recs := s.cor.recs ++ [{ entry := (decide1 sf m s.cor).2.1, addr := m.addr, decision := (decide1 sf m s.cor).1, req := m.req, other := (decide1 sf m s.cor).2.2.1, sf := sf }]
      refusals := n } := by
  have hno : ¬ (tget s.fleet.rovers m.addr).isNone = true := by
    rw [Option.isNone_iff_eq_none]
    intro hn
    rw [hn] at h
    cases h
  unfold batchRequest
  dsimp only
  rw [if_neg hno]
  split
  · exact ⟨_, rfl⟩
  · exact ⟨_, rfl⟩

/-- The first steps of a batch with nothing but a request before it (12 R444). -/
theorem batchEnds_of_request {sf : Nat} {m : CorMsg} {s : State} (hm : s.cor.msgs = [m]) (hr : m.isReq = true) (hh : s.cor.hosts = []) (ht : s.cor.table = []) :
    (batchEnds sf (batchRevokes sf (batchReleases sf s))).cor = { s.cor with gone := [] } ∧ (batchEnds sf (batchRevokes sf (batchReleases sf s))).fleet = s.fleet := by
  have h1 : batchReleases sf s = s := by
    unfold batchReleases
    rw [hm, List.filter_cons_of_neg (by simp [hr])]
    rfl
  have h2 : batchRevokes sf s = s := by
    unfold batchRevokes
    rw [hh]
    rfl
  rw [h1, h2]
  unfold batchEnds
  dsimp only
  rw [ht]
  refine ⟨?_, rfl⟩
  dsimp only [setTable]
  rw [List.filter_nil, List.map_nil, ← ht]

/-- CORRIDOR_BATCH with one request (12 R440 to R442, R445). -/
theorem doCorridorBatch_of_request {m : CorMsg} {s : State} (hrole : roleOf s = 1) (hen : s.cor.enabled = true) (hst : s.fleet.st = .beaconing) (hm : s.cor.msgs = [m]) (hr : m.isReq = true)
    (hh : s.cor.hosts = []) (ht : s.cor.table = []) (hrov : (tget s.fleet.rovers m.addr).isSome = true) :
    (doCorridorBatch s).cor.msgs = [] ∧ (doCorridorBatch s).cor.batchSf = some (nextBatch s % 2 ^ 32) ∧
      (doCorridorBatch s).cor.table = (decide1 (nextBatch s % 2 ^ 32) m { s.cor with gone := [] }).2.2.2 ∧
      (doCorridorBatch s).cor.recs = s.cor.recs ++ [{ entry := (decide1 (nextBatch s % 2 ^ 32) m { s.cor with gone := [] }).2.1, addr := m.addr, decision := (decide1 (nextBatch s % 2 ^ 32) m { s.cor with gone := [] }).1, req := m.req, other := (decide1 (nextBatch s % 2 ^ 32) m { s.cor with gone := [] }).2.2.1, sf := nextBatch s % 2 ^ 32 }] := by
  unfold doCorridorBatch
  rw [if_neg (by simp [hrole, hen, hst])]
  extract_lets k s0 sf s1 s2
  have hc0 : s0.cor = s.cor := runTo_touches.same .cor (by decide)
  have hf0 : s0.fleet = s.fleet := runTo_touches.same .fleet (by decide)
  obtain ⟨hc1, hf1⟩ := batchEnds_of_request (sf := sf) (s := s0) (by rw [hc0, hm]) hr (by rw [hc0, hh]) (by rw [hc0, ht])
  have hc1' : s1.cor = { s.cor with gone := [] } := by rw [← hc0]; exact hc1
  have h2 : s2 = s1 := by
    show (s1.cor.hosts.filter _).foldl _ s1 = s1
    rw [hc1']
    dsimp only
    rw [hh]
    rfl
  have hord : requestOrder s2 (s2.cor.msgs.filter (·.isReq)) = [m] := by
    rw [h2, hc1']
    dsimp only
    rw [hm, List.filter_cons_of_pos hr]
    rfl
  rw [hord, List.foldl_cons, List.foldl_nil]
  obtain ⟨n, hreq⟩ := batchRequest_cor (sf := sf) (m := m) (s := s2) (g := 0) (r := 0) (f := 0) (by rw [h2, show s1.fleet = s.fleet from hf1.trans hf0]; exact hrov)
  rw [h2, hc1'] at hreq
  rw [h2]
  cases hb : batchRequest sf (s1, 0, 0, 0) m with
  | mk s3 c =>
    obtain ⟨g, r, f⟩ := c
    rw [hb] at hreq
    dsimp only at hreq ⊢
    obtain ⟨b, hbk⟩ := backlogCheck_cor (sf := sf) (s := raise { code := 0x0B07, sev := 0, src := 3, p0 := sf, p1 := g, p2 := r }
      (raiseIf (f != 0 && !s.cor.fullRun) { code := 0x0B06, sev := 3, src := 3, p0 := f, p1 := sf } { s3 with cor := { s3.cor with msgs := [], hosts := [], batchSf := some sf, fullRun := f != 0 } }))
    rw [hbk, raise_touches.same .cor (by decide), raiseIf_touches.same .cor (by decide)]
    dsimp only
    rw [hreq]
    exact ⟨rfl, rfl, rfl, rfl⟩

/-- Settles O42: each event's change of the corridor service. -/
theorem corridorEvents : Obligations.CorridorEvents := by
  unfold Obligations.CorridorEvents
  refine ⟨fun k m s hrole hen hst hk hm hr hh ht hrov => ?_, fun a b s hrole hen hlen h0 => ?_, fun a b s hrole hen hlen h0 => ?_, fun b s hrole hst hlen h0 => ?_, fun ix e s he hst hrole => ?_⟩
  · subst hk
    refine reaches_done rfl ?_
    rw [settle_touches.same .cor (by decide)]
    exact doCorridorBatch_of_request hrole hen hst hm hr hh ht hrov
  · show done (doReq a b s) = _
    rw [doReq, if_neg (by simp [hrole, hen, hlen, h0])]
    rfl
  · show done (doRelease a b s) = _
    rw [doRelease, if_neg (by simp [hrole, hen, hlen, h0])]
    rfl
  · refine reaches_done rfl ?_
    rw [settle_touches.same .cor (by decide), doFrame, if_neg (by simp [hrole, inFleet, hst, hlen, h0])]
    obtain ⟨x, hx⟩ := mismatchCheck_cor (s := { s with cor := { s.cor with frameRev := uAt b 1 1 % 16, lat := iAt b 4 8, lon := iAt b 12 8, height := iAt b 20 4, frameSeen := true } })
    rw [hx]
    exact ⟨rfl, rfl, rfl, rfl, rfl, rfl⟩
  · refine reaches_done rfl ?_
    rw [settle_touches.same .cor (by decide), doReqTimeout, he]
    dsimp only
    rw [if_neg (by simp [hst, hrole])]
    refine (congrArg CorSvc.table (raise_touches.same .cor (by decide))).trans ?_
    show tdel (runTo _ s).cor.table ix = _
    rw [runTo_touches.same .cor (by decide)]

end Sys2Proof.Proofs

namespace Sys2Proof.Proofs
open Sys2Proof Sys2Proof.Machine Sys2Proof.Safety

/-! ## The CORRIDOR commands -/

/-- With no block or revocation of the host there is nothing to abort (12 R443). -/
theorem corAbort_of_none {s : State} (h : s.cor.hosts = []) : corAbort s = s := by
  have heq : { s with cor := { s.cor with hosts := [] } } = s := by rw [← h]
  rw [corAbort, h, heq]
  rfl

/-- CORRIDOR_SERVICE_CONFIG that moves the origin of a service without grants and rovers (12 R438). -/
theorem corridorServiceConfig_of_moved {p : List Byte} {s : State} (h0 : uAt p 0 1 ≤ 1) (hz : zeros p 1 3 = true) (hz27 : zeros p 27 1 = true) (h28 : 1 ≤ uAt p 28 4) (h28' : uAt p 28 4 ≤ 1000000)
    (hla : (iAt p 4 8).natAbs ≤ 90000000000000) (hlo : (iAt p 12 8).natAbs ≤ 180000000000000) (hpay : uAt p 0 1 = 1 → 42 ≤ fullPayload s.fleet) (hg : ∀ e ∈ s.cor.table, e.2.st ≠ .granted)
    (hrov : s.fleet.rovers = []) (hh : uAt p 0 1 = 0 → s.cor.hosts = []) (hmoved : iAt p 4 8 ≠ s.cor.lat ∨ iAt p 12 8 ≠ s.cor.lon ∨ iAt p 20 4 ≠ s.cor.height) :
    corridorServiceConfig p s = ok { s with cor := { s.cor with
      enabled := uAt p 0 1 == 1, lat := iAt p 4 8, lon := iAt p 12 8, height := iAt p 20 4, separation := uAt p 24 2, guard := uAt p 26 1, maxDuration := uAt p 28 4
      frameRev := (s.cor.frameRev + 1) % 16 } } := by
  have hmv : (iAt p 4 8 != s.cor.lat || iAt p 12 8 != s.cor.lon || iAt p 20 4 != s.cor.height) = true := by simpa [or_assoc] using hmoved
  unfold corridorServiceConfig
  dsimp only
  rw [hmv, if_neg (by simp [within, hz, hz27, h28, h28']; omega), if_neg (by simpa using fun h => hpay h), if_neg (by simpa using fun a e he => hg (a, e) he), if_pos rfl, if_pos (by simp)]
  by_cases h1 : uAt p 0 1 = 1
  · rw [if_pos (by simp [h1])]
    dsimp only
    rw [hrov]
    rfl
  · rw [if_neg (by simp [h1]), corAbort_of_none]
    · dsimp only
      rw [hrov]
      rfl
    · exact hh (by omega)

/-- Settles O43: each command's answer and what it leaves of the corridor service. -/
theorem corridorCommands : Obligations.CorridorCommands := by
  unfold Obligations.CorridorCommands
  refine ⟨fun c s s0 p ix ha hp hs0 hgeo hw hst hseen hfree => ?_, fun c s e ha he hst => ?_, fun c s e ha he hst => ?_, fun c s ha he => ?_, fun c s s0 p ix ha hp hs0 hgeo hst hst' hfree => ?_,
    fun c s p ha hp h4 => ?_, fun c s ha hix => ?_, fun c s p ha hp h0 hz hz27 h28 h28' hla hlo hpay hg hrov hh hmoved => ?_, fun c s p ha hp h0 hz hz27 h28 h28' hla hlo hpay => ?_,
    fun c s p ha hp h1 h64 hr => ?_, fun c s p ha hp h26 hgeo hen hst => ?_, fun c s e ha he hst hen hfl => ?_, fun c s ha he => ?_, fun c s ha => ?_⟩
  · subst hp hs0
    have hfl : (corPurge s).fleet = s.fleet := corPurge_touches.same .fleet (by decide)
    have hcor : (corPurge s).cor.rImpl = s.cor.rImpl ∧ (corPurge s).cor.frameSeen = s.cor.frameSeen ∧ (corPurge s).cor.reqId = s.cor.reqId := by
      unfold corPurge
      split
      · exact ⟨rfl, rfl, rfl⟩
      · exact ⟨rfl, rfl, rfl⟩
    have hnow : sfNow (corPurge s) = sfNow s := by
      have ht : (corPurge s).time = s.time := corPurge_touches.same .time (by decide)
      rw [sfNow, sfNow, sfFull, sfFull, hfl, dtNow_congr ht]
    obtain ⟨himpl, hsn, hid⟩ := hcor
    have hgood : ¬ (!geoOk (entryOf .pending (prmOf c)) || decide ((entryOf .pending (prmOf c)).hw ≤ (corPurge s).cor.rImpl)) = true := by
      rw [himpl, hgeo]
      show ¬ (!true || decide (uAt (prmOf c) 24 2 ≤ s.cor.rImpl)) = true
      simpa using hw
    have hb : corridorRequest (prmOf c) s = (.now stAccepted (le 2 ((s.cor.reqId + 1) % 65536)),
        queueMsg 0 1 true 0 (le 1 1 ++ le 2 ((s.cor.reqId + 1) % 65536) ++ [0] ++ (prmOf c).take 26) { corPurge s with cor := { (corPurge s).cor with
          reqId := (s.cor.reqId + 1) % 65536
          table := tset (corPurge s).cor.table ix { entryOf .pending (prmOf c) with owner := 0xFF, rank := 0xFF, req := (s.cor.reqId + 1) % 65536, since := sfNow (corPurge s) } } }) := by
      unfold corridorRequest
      dsimp only
      rw [if_neg hgood, if_neg (by simp [hfl, hst]), if_neg (by simp [hsn, hseen]), hfree]
      dsimp only
      rw [hid]
    refine ⟨_, answers_command rfl ha hb, ?_⟩
    rw [queueMsg_touches.same .cor (by decide), hnow]
    exact ⟨rfl, rfl⟩
  · refine answers_command rfl ha ?_
    unfold corridorRelease
    dsimp only
    rw [he]
    dsimp only
    rw [if_neg (by simp [hst])]
    rfl
  · refine answers_command rfl ha ?_
    unfold corridorRelease
    dsimp only
    rw [he]
    dsimp only
    rw [if_pos (by simp [hst])]
    rfl
  · refine answers_command rfl ha ?_
    unfold corridorRelease
    dsimp only
    rw [he]
    rfl
  · subst hp hs0
    have hfl : (corPurge s).fleet = s.fleet := corPurge_touches.same .fleet (by decide)
    refine answers_command rfl ha ?_
    unfold corridorLocalSet
    dsimp only
    rw [if_neg (by simp [hgeo]), if_neg (by simp [inFleet, hfl, hst, hst']), hfree]
    rfl
  · subst hp
    refine answers_command rfl ha ?_
    unfold corridorConfig
    rw [if_neg (by omega)]
    rfl
  · refine answers_command rfl ha ?_
    unfold corridorRead
    dsimp only
    rw [if_neg (by simpa using hix)]
    rfl
  · subst hp
    exact answers_command rfl ha (corridorServiceConfig_of_moved h0 hz hz27 h28 h28' hla hlo hpay hg hrov hh hmoved)
  · subst hp
    refine answers_command rfl ha ?_
    unfold corridorServiceConfig
    dsimp only
    rw [if_neg (by simp [within, hz, hz27, h28, h28', h0]; omega), if_pos (by simp [h0, hpay])]
    rfl
  · subst hp
    refine answers_command rfl ha ?_
    unfold corridorRankSet
    rw [if_neg (by simp [within, h1, h64, hr])]
    rfl
  · subst hp
    refine later_commandC rfl ha ?_
    unfold corridorBlock
    dsimp only
    rw [if_neg (by simp [hgeo]; omega), if_neg (by simp [batchRuns, hen, hst])]
  · refine later_commandC rfl ha ?_
    unfold corridorRevoke
    dsimp only
    rw [he, if_neg (by simpa [Decidable.or_iff_not_imp_left] using hst), if_neg (by simp [batchRuns, hen, hfl])]
  · refine answers_commandC rfl ha ?_
    unfold corridorRevoke
    dsimp only
    rw [he, if_pos (by simp)]
    rfl
  · exact answers_command rfl ha rfl

end Sys2Proof.Proofs

namespace Sys2Proof.Proofs
open Sys2Proof Sys2Proof.Machine Sys2Proof.Safety

/-! ## The stop chain -/

theorem stopActive_congr {s t : State} (h : t.stop.active = s.stop.active) {k : Nat} : stopActive t k = stopActive s k := by rw [stopActive, h, ← stopActive]

theorem stopActive_of_set_same {s t : State} {k : Nat} {v : Option Nat} (h : t.stop.active = s.stop.active.set k v) (hk : k < s.stop.active.length) : stopActive t k = v.isSome := by
  rw [stopActive, h, List.getD_eq_getElem?_getD, List.getElem?_set_self hk]
  rfl

theorem stopActive_of_set_ne {s t : State} {j k : Nat} {v : Option Nat} (h : t.stop.active = s.stop.active.set k v) (hk : j ≠ k) : stopActive t j = stopActive s j := by
  rw [stopActive, h, List.getD_eq_getElem?_getD, List.getElem?_set_ne (Ne.symm hk), ← List.getD_eq_getElem?_getD, ← stopActive]

/-- A source registered: the stop is in force with it, and an entry counts EPOCH and names the source (12 R453, R455). -/
theorem stopRegister_stop {src : Nat} {s : State} : ∃ at_ ep rec cl reg, (stopRegister src s).stop = { s.stop with
    st := .inForce, active := s.stop.active.set src (some at_), episode := ep, recovered := rec, clearAt := cl, regSt := reg
    epoch := if s.stop.st != .inForce then (s.stop.epoch + 1) % 16 else s.stop.epoch, entry := if s.stop.st != .inForce then src else s.stop.entry } := by
  have hkeep : ∀ e, (startBurst (quietCompares (haltAxes 1 (raise e (stopEnter src s))))).stop = (stopEnter src s).stop := fun e => by
    have h : Touches [.out, .mem, .time, .harbour, .axes, .fleet, .journal, .recorder] (stopEnter src s) (startBurst (quietCompares (haltAxes 1 (raise e (stopEnter src s))))) :=
      startBurst_touches.after (quietCompares_touches.after (haltAxes_touches.after (raise_touches.after .refl)))
    exact h.same .stop (by decide)
  have hreg : (stopRegister src s).stop = (stopEnter src s).stop := by
    unfold stopRegister
    dsimp only
    split
    · exact hkeep _
    · rw [stopOriginate_touches.same .stop (by decide)]
      exact hkeep _
  rw [hreg]
  exact ⟨_, _, _, _, _, rfl⟩

/-- A source that was active ends (12 R452): whatever the stop becomes, the other sources stand as they did. -/
theorem stopEnd_stop {src c : Nat} {s : State} (h : s.stop.active.getD src none = some c) :
    ∃ st, (stopEnd src s).stop = { s.stop with active := s.stop.active.set src none, st := st } := by
  have hr : ∀ e t, (raise e t).stop = t.stop := fun e t => raise_touches.same .stop (by decide)
  unfold stopEnd
  rw [h]
  dsimp only
  split
  · split
    · rw [stopToClear, hr]
      dsimp only
      rw [hr]
      exact ⟨_, rfl⟩
    · dsimp only
      rw [hr]
      exact ⟨_, rfl⟩
  · rw [hr]
    exact ⟨_, rfl⟩

/-- The last source but source 5 ends in an episode that is not that of FLEET_LOST alone: LATCHED (12 R453). -/
theorem stopEnd_latches {src c : Nat} {s : State} (h : s.stop.active.getD src none = some c) (hst : s.stop.st = .inForce) (hep : s.stop.episode ≠ 16)
    (hlast : ∀ t : State, t.stop.active = s.stop.active.set src none → stopSources t % 32 = 0) :
    (stopEnd src s).stop = { s.stop with active := s.stop.active.set src none, st := .latched } := by
  have hr : ∀ e t, (raise e t).stop = t.stop := fun e t => raise_touches.same .stop (by decide)
  unfold stopEnd
  rw [h]
  dsimp only
  rw [if_pos (by rw [hr, hlast _ (congrArg StopSt.active (hr ..))]; simp [hst]), if_neg (by rw [hr]; simp [hep])]
  dsimp only
  rw [hr]

theorem stopEnd_of_inactive {src : Nat} {s : State} (h : stopActive s src = false) : stopEnd src s = s := by
  have hn : s.stop.active.getD src none = none := by simpa [stopActive] using h
  rw [stopEnd, hn]

/-- With sources 0 to 4 ended, at most source 5 is left (12 R463). -/
theorem stopSources_mod_of_ended {s : State} (h : ∀ k, k ≤ 4 → stopActive s k = false) : stopSources s % 32 = 0 := by
  have h5 : stopSources s = bitIf (stopActive s 5) 5 := by
    unfold stopSources
    rw [show List.range 6 = [0, 1, 2, 3, 4, 5] from rfl]
    simp [h 0, h 1, h 2, h 3, h 4, bitIf]
  rw [h5]
  cases stopActive s 5 <;> rfl

theorem edge_stop {c : Bool} {k : Nat} {falling : Bool} {dt : Nat} {s : State} : (if c then firmwareCapture k falling dt s else s).stop = s.stop := by
  split
  · exact firmwareCapture_touches.same .stop (by decide)
  · rfl

/-- STOP_IN_REGISTER: what goes to source 0 (12 R452). -/
theorem doStopInRegister_eq {a b : Bool} {s : State} (h : (a || b) = true) : ∃ d t, doStopInRegister a b s = stopSource 0 t ∧
    t.stop = { s.stop with aLow := a, bLow := b, together := s.stop.together || (a && b), disagree := d } := by
  unfold doStopInRegister
  rw [if_neg (by cases a <;> cases b <;> simp_all)]
  dsimp only
  exact ⟨_, _, rfl, edge_stop.trans edge_stop⟩

/-- STOP_IN_RELEASE without a discrepancy (12 R452). -/
theorem doStopInRelease_eq {s : State} (h : s.stop.discrep = false) : ∃ t, doStopInRelease s = stopEnd 0 t ∧
    t.stop = { s.stop with aLow := false, bLow := false, disagree := none, discrep := false, together := false } := by
  unfold doStopInRelease
  dsimp only
  rw [if_neg (by simp [h])]
  refine ⟨_, rfl, ?_⟩
  dsimp only
  rw [edge_stop, edge_stop]

/-- A first discrepancy (12 R452). -/
theorem doStopDiscrepancy_eq {b : Bool} {s : State} (h : s.stop.discrep = false) : ∃ d t, doStopDiscrepancy b s = stopSource 0 t ∧
    t.stop = { s.stop with discrep := true, together := false, aLow := !b, bLow := b, disagree := d } := by
  have hrun : ∀ c, (runToCyc c s).stop = s.stop := fun c => runToCyc_touches.same .stop (by decide)
  unfold doStopDiscrepancy
  extract_lets s1 ms s2
  have h1 : s1.stop = s.stop := by
    dsimp only [s1]
    cases s.stop.disagree with
    | none => rfl
    | some c => exact hrun _
  rw [if_neg (by simp [h1, h])]
  refine ⟨some (s1.stop.disagree.getD (s1.time.cyc - cycMs 1)), _, rfl, ?_⟩
  rw [raise_touches.same .stop (by decide)]
  show { s1.stop with discrep := true, together := false, aLow := !b, bLow := b, disagree := some (s1.stop.disagree.getD (s1.time.cyc - cycMs 1)) } = _
  rw [h1]

/-- STOP_IN_REGISTER with source 0 not yet active (12 R452). -/
theorem doStopInRegister_stop {a b : Bool} {s : State} (h : (a || b) = true) (hact : stopActive s 0 = false) : ∃ t, t.stop.active = s.stop.active ∧ t.stop.st = s.stop.st ∧
    t.stop.epoch = s.stop.epoch ∧ t.stop.entry = s.stop.entry ∧ t.stop.aLow = a ∧ t.stop.bLow = b ∧ doStopInRegister a b s = stopRegister 0 t := by
  obtain ⟨d, t, heq, ht⟩ := doStopInRegister_eq (s := s) h
  have hact' : stopActive t 0 = false := (stopActive_congr (by rw [ht])).trans hact
  refine ⟨t, ?_⟩
  rw [heq, stopSource, if_neg (by simp [hact']), ht]
  exact ⟨rfl, rfl, rfl, rfl, rfl, rfl, rfl⟩

/-- Settles O44: each row's change of the stop, by what a registration and an end leave. -/
theorem stopRows : Obligations.StopRows := by
  unfold Obligations.StopRows
  have hset : ∀ u : State, (settle u).stop = u.stop := fun u => settle_touches.same .stop (by decide)
  refine ⟨fun a b s hab hact hlen => ?_, fun s hdis hst hlen hact hoff hep => ?_, fun b s hdis hact hlen => ?_, fun s hact hlen => ?_, fun c s ha => ?_, fun c s ha hst hlen => ?_,
    fun c s ha hst => ?_, fun c s ha hst hdis => ?_, fun c s ha hst hsrc hdis htog hal hbl => ?_, fun c s p ha hp h0 h1 hst => ?_, fun c s ha h0 h1 hst => ?_⟩
  · refine reaches_done rfl ?_
    obtain ⟨t, hta, htst, hte, htn, htal, htbl, heq⟩ := doStopInRegister_stop hab hact
    obtain ⟨at_, ep, rec, cl, reg, hreg⟩ := stopRegister_stop (src := 0) (s := t)
    have hstop := (hset (doStopInRegister a b s)).trans (by rw [heq, hreg])
    have hactive : stopActive (settle (doStopInRegister a b s)) 0 = true := stopActive_of_set_same (s := s) (by rw [hstop, hta]) (by omega)
    refine ⟨by rw [hstop], hactive, by rw [hstop]; exact htal, by rw [hstop]; exact htbl, ?_, fun hne => ?_, fun heq => ?_⟩
    · have hin : stopInForce (settle (doStopInRegister a b s)) = true := by rw [stopInForce, hstop]; rfl
      rw [stopOutLow, hin]
      simp
    · rw [hstop]
      dsimp only
      rw [htst, hte, if_pos (by simp [hne]), if_pos (by simp [hne])]
      exact ⟨rfl, rfl⟩
    · rw [hstop]
      dsimp only
      rw [htst, hte, htn, heq]
      exact ⟨rfl, rfl⟩
  · refine reaches_done rfl ?_
    obtain ⟨t, heq, ht⟩ := doStopInRelease_eq hdis
    obtain ⟨c, hc⟩ := Option.isSome_iff_exists.mp hact
    have hend := stopEnd_latches (src := 0) (c := c) (s := t) (by rw [ht]; exact hc) (by rw [ht]; exact hst) (by rw [ht]; exact hep) fun v hv => stopSources_mod_of_ended fun k hk => by
      have hv' : v.stop.active = s.stop.active.set 0 none := by rw [hv, ht]
      by_cases h0 : k = 0
      · rw [h0, stopActive_of_set_same hv' (by omega)]
        rfl
      · rw [stopActive_of_set_ne hv' h0, hoff k (by omega) hk]
    have hstop := (hset (doStopInRelease s)).trans (by rw [heq, hend, ht])
    have hactive : stopActive (settle (doStopInRelease s)) 0 = false := stopActive_of_set_same (s := s) (by rw [hstop]) (by omega)
    exact ⟨by rw [hstop], hactive, by rw [hstop], by rw [hstop], by rw [hstop]⟩
  · refine reaches_done rfl ?_
    obtain ⟨d, t, heq, ht⟩ := doStopDiscrepancy_eq (b := b) hdis
    have hact' : stopActive t 0 = false := (stopActive_congr (by rw [ht])).trans hact
    obtain ⟨at_, ep, rec, cl, reg, hreg⟩ := stopRegister_stop (src := 0) (s := t)
    have hstop := (hset (doStopDiscrepancy b s)).trans (by rw [heq, stopSource, if_neg (by simp [hact']), hreg, ht])
    have hactive : stopActive (settle (doStopDiscrepancy b s)) 0 = true := stopActive_of_set_same (s := s) (by rw [hstop]) (by omega)
    exact ⟨by rw [hstop], by rw [hstop], by rw [hstop], hactive, by rw [hstop], by rw [hstop]⟩
  · refine reaches_done rfl ?_
    obtain ⟨c, hc⟩ := Option.isSome_iff_exists.mp hact
    have hrun : (runTo (s.stop.vexAt + 3 * tideP s) s).stop = s.stop := runTo_touches.same .stop (by decide)
    have heq : doVexlinkStopTimeout s = stopEnd 3 { runTo (s.stop.vexAt + 3 * tideP s) s with stop := { (runTo (s.stop.vexAt + 3 * tideP s) s).stop with epochs := [] } } := by
      rw [doVexlinkStopTimeout, if_neg (by simp [hact])]
    obtain ⟨st, hend⟩ := stopEnd_stop (src := 3) (c := c) (s := { runTo (s.stop.vexAt + 3 * tideP s) s with stop := { (runTo (s.stop.vexAt + 3 * tideP s) s).stop with epochs := [] } })
      (by dsimp only; rw [hrun]; exact hc)
    have hstop := (hset (doVexlinkStopTimeout s)).trans (by rw [heq, hend, hrun])
    have hset3 : (settle (doVexlinkStopTimeout s)).stop.active = s.stop.active.set 3 none := by rw [hstop]
    exact ⟨stopActive_of_set_same hset3 (by omega), by rw [hstop], fun k hk => stopActive_of_set_ne hset3 hk⟩
  · exact answers_command rfl ha rfl
  · have hb : stopClear (prmOf c) s = ok (stopToClear 0 (stopEnd 5 s)) := by
      unfold stopClear
      rw [hst]
    refine oks_command rfl ha (congrArg Prod.fst hb) ?_
    rw [hb]
    dsimp only [ok]
    have hclear : (stopToClear 0 (stopEnd 5 s)).stop = { (stopEnd 5 s).stop with st := .clear } := raise_touches.same .stop (by decide)
    cases h5 : s.stop.active.getD 5 none with
    | none =>
      have hin : stopActive s 5 = false := by rw [stopActive, h5]; rfl
      have hstop := hclear.trans (by rw [stopEnd_of_inactive hin])
      exact ⟨by rw [hstop], (stopActive_congr (by rw [hstop])).trans hin, by rw [hstop]⟩
    | some k =>
      obtain ⟨st, hend⟩ := stopEnd_stop h5
      have hstop := hclear.trans (by rw [hend])
      exact ⟨by rw [hstop], stopActive_of_set_same (s := s) (by rw [hstop]) (by omega), by rw [hstop]⟩
  · refine answers_command rfl ha ?_
    unfold stopClear
    rw [hst]
    rfl
  · refine answers_command rfl ha ?_
    unfold stopClear
    rw [hst]
    dsimp only
    rw [if_neg (by simp [hdis])]
    rfl
  · refine answers_command rfl ha ?_
    unfold stopClear
    rw [hst]
    dsimp only
    rw [if_pos (by simp [hsrc, hdis, htog, hal, hbl])]
    rfl
  · subst hp
    refine answers_command rfl ha ?_
    unfold stopConfig
    rw [if_neg (by simp; omega), if_neg (by simp [hst])]
    rfl
  · refine answers_command rfl ha ?_
    unfold stopConfig
    rw [if_neg (by simp; omega), if_pos (by simp [hst])]
    rfl

end Sys2Proof.Proofs

namespace Sys2Proof.Proofs
open Sys2Proof Sys2Proof.Machine Sys2Proof.Safety

/-! ## Vexlink: ports -/

theorem vxOf_congr {s t : State} (h : t.net.vx = s.net.vx) {n : Nat} : vxOf t n = vxOf s n := by rw [vxOf, h, ← vxOf]

theorem setVx_length {n : Nat} {f : VxPort → VxPort} {s : State} : (setVx n f s).net.vx.length = s.net.vx.length := List.length_modify ..

theorem vxOf_setVx_same {n : Nat} {f : VxPort → VxPort} {s : State} (h : n < s.net.vx.length) : vxOf (setVx n f s) n = f (vxOf s n) := by
  unfold vxOf setVx
  dsimp only
  rw [List.getD_eq_getElem?_getD, getElem?_lmod_same (List.getElem?_eq_getElem h), List.getD_eq_getElem?_getD, List.getElem?_eq_getElem h]
  rfl

theorem vxOf_setVx_ne {n k : Nat} {f : VxPort → VxPort} {s : State} (h : k ≠ n) : vxOf (setVx n f s) k = vxOf s k := by
  unfold vxOf setVx
  dsimp only [lmod]
  rw [List.getD_eq_getElem?_getD, List.getElem?_modify, List.getD_eq_getElem?_getD]
  simp [Ne.symm h]

/-- Choosing the upstream port again changes nothing else of the network. -/
theorem reparent_net {s : State} : ∃ b, (reparent s).net = { s.net with upstream := b } := by
  unfold reparent
  dsimp only
  split
  · exact ⟨_, rfl⟩
  · exact ⟨_, raise_touches.same .net (by decide)⟩

theorem depthCheck_net {s : State} : ∃ b, (depthCheck s).net = { s.net with depthRun := b } := ⟨_, raiseIf_touches.same .net (by decide)⟩

theorem vxOf_reparent {s : State} {n : Nat} : vxOf (reparent s) n = vxOf s n := by
  obtain ⟨b, hb⟩ := reparent_net (s := s)
  exact vxOf_congr (by rw [hb])

theorem vxOf_depthCheck {s : State} {n : Nat} : vxOf (depthCheck s) n = vxOf s n := by
  obtain ⟨b, hb⟩ := depthCheck_net (s := s)
  exact vxOf_congr (by rw [hb])

/-- A port that loses its link returns to TRAINING (13 R468). -/
theorem vxOf_doVxLinkDown {n cause : Nat} {s : State} (hn : n < s.net.vx.length) (hst : (vxOf s n).st = .measuring ∨ (vxOf s n).st = .up) :
    (vxOf (doVxLinkDown n cause s) n).st = .training ∧ (vxOf (doVxLinkDown n cause s) n).hops = none ∧ (∀ k, k ≠ n → vxOf (doVxLinkDown n cause s) k = vxOf s k) := by
  have hnot : ¬ ((vxOf s n).st != .measuring && (vxOf s n).st != .up) = true := by
    rcases hst with h | h
    · rw [h]; decide
    · rw [h]; decide
  have hr : ∀ e t k, vxOf (raise e t) k = vxOf t k := fun e t k => vxOf_congr (congrArg NetSt.vx (raise_touches.same .net (by decide)))
  unfold doVxLinkDown
  dsimp only
  rw [if_neg hnot, vxOf_reparent, hr, vxOf_setVx_same hn]
  refine ⟨rfl, rfl, fun k hk => ?_⟩
  rw [vxOf_reparent, hr, vxOf_setVx_ne hk]

/-! ## Time over Vexlink -/

/-- A TIME message of another root (13 R479). -/
theorem doTimeMessage_of_other {n frac : Nat} {m : VxMsg} {s : State} (hst : (vxOf s n).st = .up) (hn : n < s.net.vx.length) (ho : m.origin ≠ ownOrigin) (hg : s.net.group = 2)
    (hroot : uAt m.body 16 4 ≠ rootId s) : (doTimeMessage n m frac s).net.timeDiscarded = s.net.timeDiscarded + 1 ∧ (vxOf (doTimeMessage n m frac s) n).hops = none ∧
      (doTimeMessage n m frac s).time = s.time := by
  unfold doTimeMessage
  dsimp only
  rw [if_neg (by simp [hst]), if_neg (by simp [ho]), hg, if_neg (by decide), if_neg (by decide), if_pos (by simp [hroot])]
  obtain ⟨b, hb⟩ := reparent_net (s := { setVx n (fun p => { p with hops := none, timeArr := none }) s with
    net := { (setVx n (fun p => { p with hops := none, timeArr := none }) s).net with timeDiscarded := (setVx n (fun p => { p with hops := none, timeArr := none }) s).net.timeDiscarded + 1 } })
  refine ⟨by rw [hb]; rfl, ?_, reparent_touches.same .time (by decide)⟩
  exact (congrArg VxPort.hops vxOf_reparent).trans (congrArg VxPort.hops (vxOf_setVx_same (f := fun p => { p with hops := none, timeArr := none }) hn))

/-- The first TIME message of the root on a port: no offset is measured yet (13 R478, R479). -/
theorem doTimeMessage_of_first {n frac : Nat} {m : VxMsg} {s : State} (hst : (vxOf s n).st = .up) (hn : n < s.net.vx.length) (ho : m.origin ≠ ownOrigin) (hg : s.net.group = 2)
    (hroot : uAt m.body 16 4 = rootId s) (harr : (vxOf s n).timeArr = none) :
    (vxOf (doTimeMessage n m frac s) n).hops = some (uAt m.body 20 1) ∧ (doTimeMessage n m frac s).net.timeDiscarded = s.net.timeDiscarded ∧
      (doTimeMessage n m frac s).time.a.theta = s.time.a.theta ∧ ((doTimeMessage n m frac s).net.upstream = some n →
        (doTimeMessage n m frac s).time.taiUtc = uAt m.body 22 1 ∧ (doTimeMessage n m frac s).time.leapPending = bit (uAt m.body 23 1) 0) := by
  unfold doTimeMessage
  extract_lets b cap drop prev s1 s2 t3 s3
  rw [if_neg (by simp [hst]), if_neg (by simp [ho]), hg, if_neg (by decide), if_neg (by decide), if_neg (by simp [b, hroot])]
  have hprev : prev = none := harr
  obtain ⟨x, hx⟩ := depthCheck_net (s := reparent s1)
  obtain ⟨y, hy⟩ := reparent_net (s := s1)
  have hport : vxOf s2 n = { vxOf s n with hops := some (uAt b 20 1), timeArr := some (cap s.time.a, cap s.time.b) } := by
    rw [show vxOf s2 n = vxOf (depthCheck (reparent s1)) n from rfl, vxOf_depthCheck, vxOf_reparent, vxOf_setVx_same hn]
  have hdisc : s2.net.timeDiscarded = s.net.timeDiscarded := by
    rw [show s2.net = (depthCheck (reparent s1)).net from rfl, hx, hy]
    rfl
  have htime : s2.time = s.time := ((reparent_touches (s := s1)).same .time (by decide)).trans (depthCheck_touches.same .time (by decide))
  split
  · next hup => exact ⟨by rw [hport], hdisc, by rw [htime], fun h => absurd h (by simpa using hup)⟩
  · rw [hprev]
    dsimp -zeta only
    exact ⟨by rw [show vxOf s3 n = vxOf s2 n from rfl, hport], hdisc, by rw [show s3.time.a = s2.time.a from rfl, htime], fun _ => ⟨rfl, rfl⟩⟩

/-- TIME leaves an UP port of the root at the capture instant of the timer (13 R478). -/
theorem timeSend_foldl {a n : Nat} {g : Nat → State → VxMsg} {l : List Nat} {s : State} (h : n < s.net.vx.length) :
    (n ∈ l → (vxOf (l.foldl (fun st k => setVx k (fun p => { p with timeDep := a }) (vxSend k (g k st) st)) s) n).timeDep = a) ∧
      ((vxOf s n).timeDep = a → (vxOf (l.foldl (fun st k => setVx k (fun p => { p with timeDep := a }) (vxSend k (g k st) st)) s) n).timeDep = a) ∧
      (l.foldl (fun st k => setVx k (fun p => { p with timeDep := a }) (vxSend k (g k st) st)) s).net.upstream = s.net.upstream := by
  induction l generalizing s with
  | nil => exact ⟨fun h => absurd h List.not_mem_nil, id, rfl⟩
  | cons k l ih =>
    have hsend : (vxSend k (g k s) s).net = s.net := vxSend_touches.same .net (by decide)
    have hlen : n < (vxSend k (g k s) s).net.vx.length := by rwa [hsend]
    obtain ⟨_, hkeep, hup⟩ := ih (s := setVx k (fun p => { p with timeDep := a }) (vxSend k (g k s) s)) (by rwa [setVx_length])
    obtain ⟨hmem, -, -⟩ := ih (s := setVx k (fun p => { p with timeDep := a }) (vxSend k (g k s) s)) (by rwa [setVx_length])
    rw [List.foldl_cons]
    refine ⟨fun hin => ?_, fun ha => hkeep ?_, by rw [hup]; exact (congrArg NetSt.upstream hsend :)⟩
    · by_cases hk : n = k
      · subst hk
        exact hkeep (by rw [vxOf_setVx_same hlen])
      · exact hmem ((List.mem_cons.mp hin).resolve_left hk)
    · by_cases hk : n = k
      · subst hk
        rw [vxOf_setVx_same hlen]
      · rw [vxOf_setVx_ne hk, vxOf_congr (congrArg NetSt.vx hsend), ha]

/-- The root sends TIME on each UP port (13 R478). -/
theorem doTimeSendTimer_of_root {n : Nat} {s : State} (hg : s.net.group = 1) (hlen : 3 ≤ s.net.vx.length) (hn : n < 3) (hst : (vxOf s n).st = .up) :
    (vxOf (doTimeSendTimer s) n).timeDep = captureAt 0 (runTo (timeSendAt s) s) ∧ (doTimeSendTimer s).net.upstream = s.net.upstream := by
  have hrun : (runTo (timeSendAt s) s).net = s.net := runTo_touches.same .net (by decide)
  have hvx := vxOf_congr (n := n) (congrArg NetSt.vx hrun)
  unfold doTimeSendTimer
  extract_lets s0 q s1 ports
  have hg0 : s0.net.group = 1 := by rw [show s0.net = s.net from hrun, hg]
  have hs1 : s1 = { s0 with net := { s0.net with timeAt := some (dtNow s0 / (10 * ms1) * (10 * ms1)) } } := if_neg (by simp [hg0])
  have hports : ports = vxUp s1 := if_pos (by rw [hs1]; simp [hg0])
  have hmem : n ∈ vxUp s1 := List.mem_filter.mpr ⟨List.mem_range.mpr hn, by rw [hs1]; exact beq_iff_eq.mpr ((congrArg VxPort.st hvx).trans hst)⟩
  have hcap : captureAt 0 s1 = captureAt 0 (runTo (timeSendAt s) s) := by rw [hs1]; rfl
  obtain ⟨hdep, -, hup⟩ := timeSend_foldl (a := captureAt 0 s1) (n := n) (g := fun k st => { type := 3, origin := ownOrigin, body := timeBody k st }) (l := ports) (s := s1)
    (by rw [hs1]; show n < s0.net.vx.length; rw [show s0.net = s.net from hrun]; omega)
  rw [← hcap]
  exact ⟨hdep (by rw [hports]; exact hmem), hup.trans (by rw [hs1]; exact (congrArg NetSt.upstream hrun :))⟩

theorem le_runTo_cyc {t : Nat} {s : State} : s.time.cyc ≤ (runTo t s).time.cyc := by
  simp

/-! ## Delay, acknowledgements and repeats -/

/-- The eighth exchange brings a port in MEASURING up (13 R468, R477). -/
theorem vxOf_doDelayResp_eighth {n frac t1 : Nat} {m : VxMsg} {s : State} (hn : n < s.net.vx.length) (hst : (vxOf s n).st = .measuring) (ho : m.origin ≠ ownOrigin)
    (ht : (vxOf s n).t1 = some t1) (he : (vxOf s n).exchanges = 7) :
    (vxOf (doDelayResp n m frac s) n).st = .up ∧ (vxOf (doDelayResp n m frac s) n).exchanges = 8 ∧ (vxOf (doDelayResp n m frac s) n).neighbour = some m.origin ∧
      (vxOf (doDelayResp n m frac s) n).t1 = none := by
  unfold doDelayResp
  dsimp only
  rw [ht]
  dsimp only
  rw [if_neg (by simp [hst]), if_neg (by simp [ho]), if_pos (by simp [hst, he]), vxOf_congr (congrArg NetSt.vx (raise_touches.same .net (by decide))), vxOf_setVx_same hn, he]
  exact ⟨rfl, rfl, rfl, rfl⟩

/-- In TRAINING every delay value is taken (13 R477). -/
theorem vxOf_doDelayResp_training {n frac t1 : Nat} {m : VxMsg} {s : State} (hn : n < s.net.vx.length) (hst : (vxOf s n).st = .training) (ho : m.origin ≠ ownOrigin)
    (ht : (vxOf s n).t1 = some t1) : (vxOf (doDelayResp n m frac s) n).st = .training ∧ (vxOf (doDelayResp n m frac s) n).delays =
      (((((captureAt frac s : Int) - t1) - ((dtAt m.body 12 : Int) - dtAt m.body 0)) / 2 - s.net.asym.getD n 0) :: (vxOf s n).delays).take 8 := by
  unfold doDelayResp
  dsimp only
  rw [ht]
  dsimp only
  rw [if_neg (by simp [hst]), if_neg (by simp [ho]), if_neg (by simp [hst]), vxOf_setVx_same hn, hst]
  exact ⟨rfl, rfl⟩

theorem uAt_of_parts {a b c : List Byte} {o n : Nat} (ha : a.length = o) (hb : b.length = n) : uAt (a ++ b ++ c) o n = natOf b := by
  subst ha hb
  rw [uAt, List.append_assoc, List.drop_left, List.take_left]

/-- What an ACK with one entry names (13 R476). -/
theorem ackNames_of_body {b : List Byte} {o ty q : Nat} (h : b = le 4 o ++ le 1 ty ++ [0] ++ le 2 q) (ho : o < 2 ^ 32) (ht : ty < 256) (hq : q < 65536) :
    b.length / 8 = 1 ∧ uAt b 0 4 = o ∧ uAt b 4 1 = ty ∧ uAt b 6 2 = q := by
  subst h
  refine ⟨by simp, ?_, ?_, ?_⟩
  · have hu := uAt_of_parts (a := []) (b := le 4 o) (c := le 1 ty ++ [0] ++ le 2 q) (o := 0) (n := 4) rfl (le_length ..)
    rw [natOf_le, Nat.mod_eq_of_lt (show o < 256 ^ 4 from ho)] at hu
    simpa using hu
  · have hu := uAt_of_parts (a := le 4 o) (b := le 1 ty) (c := [0] ++ le 2 q) (o := 4) (n := 1) (le_length ..) (le_length ..)
    rw [natOf_le, Nat.mod_eq_of_lt (show ty < 256 ^ 1 from ht)] at hu
    simpa using hu
  · have hu := uAt_of_parts (a := le 4 o ++ le 1 ty ++ [0]) (b := le 2 q) (c := []) (o := 6) (n := 2) (by simp) (le_length ..)
    rw [natOf_le, List.append_nil] at hu
    rwa [Nat.mod_eq_of_lt (show q < 256 ^ 2 from hq)] at hu

theorem mem_doAckMessage {n o ty q : Nat} {m : VxMsg} {s : State} (h : m.body = le 4 o ++ le 1 ty ++ [0] ++ le 2 q) (hown : m.origin ≠ ownOrigin) (ho : o < 2 ^ 32) (ht : ty < 256) (hq : q < 65536)
    (r : RelOut) : r ∈ (doAckMessage n m s).net.relOut ↔ r ∈ s.net.relOut ∧ ¬ (r.port = n ∧ r.msg.origin = o ∧ r.msg.type = ty ∧ r.msg.seq = q) := by
  obtain ⟨hlen, h0, h4, h6⟩ := ackNames_of_body h ho ht hq
  unfold doAckMessage
  rw [if_neg (by simp [hown])]
  dsimp only
  rw [hlen, List.mem_filter]
  simp [List.range_succ, h0, h4, h6]
  intro _
  omega

/-- A message whose retries are used up is abandoned (13 R476). -/
theorem doReliableRetry_abandons {n ix : Nat} {r : RelOut} {s : State} (h : (s.net.relOut.filter (fun r => r.port == n))[ix]? = some r) (ht : s.net.retryMax ≤ r.tries) :
    (doReliableRetry n ix s).net.relOut = s.net.relOut.filter (fun x => x != r) := by
  have hrun : ∀ c, (runToCyc c s).net = s.net := fun c => runToCyc_touches.same .net (by decide)
  unfold doReliableRetry
  rw [h]
  dsimp only
  rw [if_neg (by rw [hrun]; omega)]
  dsimp only [setVx]
  rw [hrun]

/-- A message sent again counts the attempt (13 R476). -/
theorem doReliableRetry_repeats {n ix : Nat} {r : RelOut} {s : State} (h : (s.net.relOut.filter (fun r => r.port == n))[ix]? = some r) (ht : r.tries < s.net.retryMax) :
    (doReliableRetry n ix s).net.relOut = s.net.relOut.map (fun x => if x == r then { r with tries := r.tries + 1, cyc := (doReliableRetry n ix s).time.cyc } else x) := by
  have hrun : ∀ c, (runToCyc c s).net = s.net := fun c => runToCyc_touches.same .net (by decide)
  have hsend : ∀ (b : Bool) (m : VxMsg) (u : State), ((if b then vxSend n m else id) u).net = u.net ∧ ((if b then vxSend n m else id) u).time = u.time := fun b m u => by
    cases b
    · exact ⟨rfl, rfl⟩
    · exact ⟨rfl, rfl⟩
  unfold doReliableRetry
  rw [h]
  dsimp only
  rw [if_pos (by rw [hrun]; exact ht), (hsend ..).1, (hsend ..).2]
  dsimp only
  rw [hrun]

/-- The gap before one held message is given up: it is delivered and nothing is held (13 R476). -/
theorem relRun_of_next {m : VxMsg} {e : Nat} (h : m.seq = e) : relRun 1 e [m] = ([m], (e + 1) % 65536) := by
  subst h
  simp [relRun]

/-- A 16-bit number that lies ahead of another is reached by adding the difference. -/
theorem add_diffN_mod {a b : Nat} (ha : a < 65536) (h : 0 < diffN 16 a b) : (b + (diffN 16 a b).toNat) % 65536 = a := by
  unfold diffN signed at *
  simp only [Nat.reducePow, Nat.reduceSub, Int.cast_ofNat_Int] at *
  omega

theorem diffN_succ_neg {a : Nat} : diffN 16 a ((a + 1) % 65536) < 0 := by
  unfold diffN signed
  simp only [Nat.reducePow, Nat.reduceSub, Int.cast_ofNat_Int]
  omega

theorem doMsgLost_relIn {c : Nat} {r : RelIn} {m : VxMsg} {s : State} (hin : s.net.relIn = [r]) (ht : r.type = 8) (hg : r.gapFrom = some c) (hh : r.held = [m])
    (hd : 0 < diffN 16 m.seq r.next) (hm : m.seq < 65536) :
    (doMsgLost r.origin 8 s).net.relIn.map (fun x => (x.next, x.held.length, x.gapFrom)) = [((m.seq + 1) % 65536, 0, none)] := by
  have hdel : ∀ (l : List VxMsg) (t : State), (l.foldl (fun st x => if (8 : Nat) == 7 then takeDelta x st else if (8 : Nat) == 8 then deliverHost x st else st) t).net = t.net := fun l t => by
    have h : Touches [.harbour, .journal, .recorder] t (l.foldl (fun st x => if (8 : Nat) == 7 then takeDelta x st else if (8 : Nat) == 8 then deliverHost x st else st) t) :=
      .foldl (fun _ _ => deliverHost_touches.after .refl) .refl
    exact h.same .net (by decide)
  have hrun : ∀ c, (runToCyc c s).net = s.net := fun c => runToCyc_touches.same .net (by decide)
  have hneg : decide (0 ≤ diffN 16 m.seq ((m.seq + 1) % 65536)) = false := by
    have := diffN_succ_neg (a := m.seq)
    simpa using this
  have hkey : (r.origin == r.origin && r.type == 8) = true := by simp [ht]
  have hfind : [r].find? (fun x => x.origin == r.origin && x.type == 8) = some r := by simp [ht]
  have hr : relRun ([m] : List VxMsg).length ((r.next + (([] : List VxMsg).map (fun m => (diffN 16 m.seq r.next).toNat)).foldl min (diffN 16 m.seq r.next).toNat) % 65536) [m] =
      ([m], (m.seq + 1) % 65536) := by
    show relRun 1 ((r.next + (diffN 16 m.seq r.next).toNat) % 65536) [m] = _
    rw [add_diffN_mod hm hd, relRun_of_next rfl]
  unfold doMsgLost
  rw [hin, hfind]
  dsimp only
  rw [hg, hh]
  dsimp only
  rw [hr]
  dsimp only
  rw [List.filter_cons_of_neg (by rw [hneg]; decide), List.filter_nil, hdel, raiseIf_touches.same .net (by decide), raise_touches.same .net (by decide)]
  dsimp only
  rw [hrun, hin, List.map_cons, List.map_cons, if_pos hkey]
  rfl

/-! ## Blocks and poses -/

/-- A block that fails discards the message of its priority (13 R470). -/
theorem doVexlinkBlock_of_bad {n : Nat} {b : List Byte} {s : State} (hst : (vxOf s n).st = .up) (h : uAt b 30 2 ≠ crc16 (b.take 30)) :
    doVexlinkBlock n b s = setVx n (fun p => { p with discarded := (p.discarded + 1) % 2 ^ 32, rx := if uAt b 0 1 / 32 == 0 then p.rx else p.rx.set (uAt b 0 1 / 32 - 1) none }) s := by
  have hbad : blockOk b = false := by simp [blockOk, h]
  unfold doVexlinkBlock
  dsimp only
  rw [if_neg (by simp [hst]), if_pos (by simp [hbad])]

/-- The first block of a message of a priority that is not forwarded, more following (13 R470). -/
theorem doVexlinkBlock_of_first {n : Nat} {b : List Byte} {s : State} (hst : (vxOf s n).st = .up) (hok : blockOk b = true) (hpr : 3 ≤ uAt b 0 1 / 32) (h4 : bit (uAt b 0 1) 4 = true)
    (h3 : bit (uAt b 0 1) 3 = false) :
    doVexlinkBlock n b s = setVx n (fun p => { p with rx := p.rx.set (uAt b 0 1 / 32 - 1) (some { bytes := (b.drop 2).take (uAt b 1 1), fwd := false }) }) s := by
  have hno : decide (uAt b 0 1 / 32 ≤ 2) = false := by simp; omega
  unfold doVexlinkBlock
  dsimp only
  rw [if_neg (by simp [hst]), if_neg (by simp [hok]), if_neg (by simp [h4]), h4, h3, hno]
  rfl

/-- A pose of another root is counted and discarded (13 R480). -/
theorem doPoseMessage_of_other {n : Nat} {m : VxMsg} {s s1 : State} (h : vxFlood n m [0, 1, 2] s = (true, s1)) (hg : s1.net.group ≠ 1) (ho : m.origin ≠ rootId s1) :
    doPoseMessage n m s = { s1 with net := { s1.net with poseDiscarded := s1.net.poseDiscarded + 1 } } := by
  unfold doPoseMessage
  rw [h]
  dsimp only
  rw [if_neg (by decide), if_neg (by simp [hg]), if_pos (by simp [ho])]

/-- A pose of the root for this tide in time is the reference (04 R173, 13 R480). -/
theorem doPoseMessage_of_good {n t0 : Nat} {m : VxMsg} {s s1 : State} (h : vxFlood n m [0, 1, 2] s = (true, s1)) (hg : s1.net.group ≠ 1) (hf : isFollower s1 = true) (ho : m.origin = rootId s1)
    (hlen : m.body.length = 112) (hb : s1.time.lastBoundary = some t0) (hnow : s1.pose.refNow = false) (hdt : dtNow s1 ≤ t0 + tideP s1 / 10)
    (htide : uAt m.body 96 4 = (if jobId s1 = 0 then 0 else s1.time.tideNo)) (hper : uAt m.body 100 1 = s1.votes.tide.value) (hjob : uAt m.body 104 4 = jobId s1) :
    (doPoseMessage n m s).pose.refNow = true ∧ (doPoseMessage n m s).pose.ref.map (·.tRef) = some (refOf m.body).tRef ∧ (doPoseMessage n m s).net.poseDiscarded = s1.net.poseDiscarded := by
  have hset : ∀ ok cause r t, (setIntegrity ok cause r t).net = t.net := fun ok cause r t => setIntegrity_touches.same .net (by decide)
  have hmatch : (uAt m.body 96 4 != (if jobId s1 == 0 then 0 else s1.time.tideNo) || uAt m.body 100 1 != s1.votes.tide.value || uAt m.body 104 4 != jobId s1) = false := by
    simp [htide, hper, hjob]
  unfold doPoseMessage
  rw [h]
  dsimp only
  rw [if_neg (by decide), if_neg (by simp [hg]), if_neg (by simp [hf, ho, hlen]), hb]
  dsimp only
  rw [if_neg, if_neg]
  · rw [armCells_touches.same .pose (by decide), armCells_touches.same .net (by decide)]
    dsimp only
    rw [hset]
    exact ⟨rfl, rfl, rfl⟩
  · exact Bool.eq_false_iff.mp hmatch
  · simp only [hnow, Bool.false_or, decide_eq_true_eq, Nat.not_lt]
    exact hdt

/-- A stop message that begins an activation of source 3 (12 R456). -/
theorem doStopMessage_of_new {n : Nat} {m : VxMsg} {s s1 : State} (hacc : stopAccept s n = true) (h : vxFlood n m (stopForward s) s = (true, s1)) (hact : stopActive s1 3 = false)
    (hlen : 6 ≤ s1.stop.active.length) : (doStopMessage n m s).stop.st = .inForce ∧ stopActive (doStopMessage n m s) 3 = true ∧ (doStopMessage n m s).stop.vexAt = dtNow s1 ∧
      (doStopMessage n m s).net.relOut = s1.net.relOut := by
  have heq : doStopMessage n m s = stopRegister 3 { s1 with stop := { s1.stop with vexAt := dtNow s1, epochs := tset s1.stop.epochs m.origin (uAt m.body 0 1 % 16) } } := by
    unfold doStopMessage
    rw [if_neg (by simp [hacc]), h]
    dsimp only
    rw [if_neg (by decide), if_pos (by simp [hact])]
  obtain ⟨at_, ep, rec, cl, reg, hreg⟩ := stopRegister_stop (src := 3)
    (s := { s1 with stop := { s1.stop with vexAt := dtNow s1, epochs := tset s1.stop.epochs m.origin (uAt m.body 0 1 % 16) } })
  have hnet : ∀ t : State, (stopRegister 3 t).net = t.net := fun t => by
    have h : ∀ e, Touches [.out, .mem, .time, .harbour, .axes, .fleet, .stop, .journal, .recorder] t (startBurst (quietCompares (haltAxes 1 (raise e (stopEnter 3 t))))) := fun e =>
      startBurst_touches.after (quietCompares_touches.after (haltAxes_touches.after (raise_touches.after (stopEnter_touches.after .refl))))
    unfold stopRegister
    dsimp only
    rw [if_pos (by decide)]
    exact (h _).same .net (by decide)
  rw [heq]
  refine ⟨by rw [hreg], stopActive_of_set_same (s := s1) (by rw [hreg]) (by omega), by rw [hreg], by rw [hnet]⟩

/-- Settles O45: each event's change of the ports, the windows and what waits. -/
theorem vexlinkEvents : Obligations.VexlinkEvents := by
  unfold Obligations.VexlinkEvents
  have hset : ∀ u : State, (settle u).net = u.net := fun u => settle_touches.same .net (by decide)
  have hport : ∀ (u : State) (n : Nat), vxOf (settle u) n = vxOf u n := fun u n => vxOf_congr (congrArg NetSt.vx (hset u))
  refine ⟨fun n s hst => ?_, fun n cause s hn hst => ?_, fun n m s s1 hacc h hact hlen => ?_, fun n m s hacc => ?_, fun n m s s1 h hg hf ho => ?_,
    fun n m s s1 t0 h hg hf ho hlen hb hnow hdt htide hper hjob => ?_, fun n frac m s hst hn ho hg hroot => ?_, fun n frac m s hst ho => ?_, fun n frac m s hst ho h3 hn hg hroot harr => ?_,
    fun n origin frac s hst ho => ?_, fun n frac t1 m s hn hst ho ht he => ?_, fun n frac t1 m s hn hst ho ht => ?_, fun n o ty q m s hbody hown ho ht hq => ?_, fun n m s s1 h hack => ?_,
    fun n m s s1 h hack => ?_, fun n m s s1 s2 ms h hack hrel => ?_, fun n m s s1 h => ?_, fun n s hn hst => ?_, fun s hg => ?_, fun n s s1 hg hlen hn hst hrun => ?_,
    fun n ix r s h ht => ?_, fun n ix r s h ht => ?_, fun o ty c r m s hty hin ho ht hg hh hd hm hnx => ?_, fun p s s1 b h hb h0 hz h2 h7f hz' h5 hlen => ?_, fun n b s hst hn hlen hcrc => ?_,
    fun n b s hst hn hok hpr h4 h3 => ?_⟩
  · show done (doSymbolLock n s) = _
    rw [doSymbolLock, if_neg (by simp [hst])]
    rfl
  · refine reaches_done rfl ?_
    simp only [hport]
    exact vxOf_doVxLinkDown hn hst
  · refine reaches_done rfl ?_
    rw [settle_touches.same .stop (by decide), hset, stopActive_congr (congrArg StopSt.active (settle_touches.same .stop (by decide)))]
    exact doStopMessage_of_new hacc h hact hlen
  · show done (doStopMessage n m s) = _
    rw [doStopMessage, if_pos (by simp [hacc])]
    rfl
  · refine reaches_done rfl ?_
    rw [hset, settle_touches.same .pose (by decide), settle_touches.same .cell (by decide), doPoseMessage_of_other h hg ho]
    exact ⟨rfl, rfl, rfl⟩
  · refine reaches_done rfl ?_
    rw [hset, settle_touches.same .pose (by decide)]
    exact doPoseMessage_of_good h hg hf ho hlen hb hnow hdt htide hper hjob
  · refine reaches_done rfl ?_
    rw [hset, hport, settle_touches.same .time (by decide)]
    exact doTimeMessage_of_other hst hn ho hg hroot
  · show done (doTimeMessage n m frac s) = _
    unfold doTimeMessage
    dsimp only
    rw [if_neg (by simp [hst]), if_pos (by simp [ho])]
    rfl
  · refine reaches_done rfl ?_
    rw [hset, hport, settle_touches.same .time (by decide)]
    exact doTimeMessage_of_first hst hn ho hg hroot harr
  · show done (doDelayReq n origin frac s) = _
    rw [doDelayReq, if_neg (by simp [hst]), if_neg (by simp [ho])]
    rfl
  · refine reaches_done rfl ?_
    rw [hport]
    exact vxOf_doDelayResp_eighth hn hst ho ht he
  · refine reaches_done rfl ?_
    rw [hport]
    exact vxOf_doDelayResp_training hn hst ho ht
  · refine reaches_done rfl fun r => ?_
    rw [hset]
    exact mem_doAckMessage hbody hown ho ht hq r
  · show done (doCoverageDelta n m s) = _
    unfold doCoverageDelta
    rw [h]
    dsimp only
    rw [if_neg (by decide), if_neg (by simp [hack])]
    rfl
  · show done (doHostMsg n m s) = _
    unfold doHostMsg
    rw [h]
    dsimp only
    rw [if_neg (by decide), if_neg (by simp [hack])]
    rfl
  · show done (doHostMsg n m s) = _
    unfold doHostMsg
    rw [h]
    dsimp only
    rw [if_neg (by decide), if_pos hack, hrel]
    rfl
  · show done (doCorrMessage n m s) = _
    unfold doCorrMessage
    rw [h]
    rfl
  · refine reaches_done rfl ?_
    have heq : doDelayReqTimer n s = vxSend n { type := 4, origin := ownOrigin } (setVx n (fun p => { p with
        t1 := some (captureAt 0 (runToCyc ((vxOf s n).reqCyc + cycMs 100) s)), reqCyc := (runToCyc ((vxOf s n).reqCyc + cycMs 100) s).time.cyc })
        (runToCyc ((vxOf s n).reqCyc + cycMs 100) s)) := by
      rw [doDelayReqTimer, if_neg (by simp [hst])]
    have hrun : (runToCyc ((vxOf s n).reqCyc + cycMs 100) s).net = s.net := runToCyc_touches.same .net (by decide)
    have hp := vxOf_congr (n := n) (congrArg NetSt.vx hrun)
    have ht : (settle (doDelayReqTimer n s)).time = (runToCyc ((vxOf s n).reqCyc + cycMs 100) s).time := by
      rw [settle_touches.same .time (by decide), heq, vxSend_touches.same .time (by decide)]
      rfl
    have hc : captureAt 0 (settle (doDelayReqTimer n s)) = captureAt 0 (runToCyc ((vxOf s n).reqCyc + cycMs 100) s) := by rw [captureAt, dtNow_congr ht, ← captureAt]
    rw [hport, hc, ht, heq, vxOf_congr (congrArg NetSt.vx (vxSend_touches.same .net (by decide))), vxOf_setVx_same (by rwa [hrun]), hp]
    exact ⟨rfl, rfl, le_runToCyc_cyc .., rfl⟩
  · refine reaches_done rfl ?_
    have hrun : (runTo (timeSendAt s) s).net = s.net := runTo_touches.same .net (by decide)
    have heq : doTimeSendTimer s = runTo (timeSendAt s) s := by
      unfold doTimeSendTimer
      dsimp only
      rw [hrun, hg, if_pos (by decide), hrun, hg]
      rfl
    rw [hset, settle_touches.same .time (by decide), heq, hrun]
    exact ⟨rfl, le_runTo_cyc⟩
  · subst hrun
    refine reaches_done rfl ?_
    rw [hport, hset]
    exact doTimeSendTimer_of_root hg hlen hn hst
  · refine reaches_done rfl ?_
    rw [hset, doReliableRetry_abandons h ht]
    exact ⟨fun hr => by simpa using (List.mem_filter.mp hr).2, fun x hx => (List.mem_filter.mp hx).1⟩
  · refine reaches_done rfl ?_
    have hmem : r ∈ s.net.relOut := (List.mem_filter.mp (List.mem_of_getElem? h)).1
    rw [hset, settle_touches.same .time (by decide), doReliableRetry_repeats h ht, List.length_map]
    exact ⟨List.mem_map.mpr ⟨r, hmem, by rw [if_pos (by simp)]⟩, rfl⟩
  · subst hty ho
    refine reaches_done rfl ?_
    rw [hset]
    exact doMsgLost_relIn hin ht hg hh hd hm
  · subst hb
    show done (doVxMsgPacket s) = _
    unfold doVxMsgPacket
    rw [h]
    dsimp only
    simp only [List.length_drop] at h5 hlen
    rw [if_neg (by simp [hz, hz']; omega)]
    rfl
  · refine reaches_done rfl ?_
    rw [hport, hset, doVexlinkBlock_of_bad hst hcrc, vxOf_setVx_same hn]
    exact ⟨rfl, by simp only [beq_iff_eq], rfl⟩
  · show done (doVexlinkBlock n b s) = _
    rw [doVexlinkBlock_of_first hst hok hpr h4 h3]
    rfl

end Sys2Proof.Proofs

namespace Sys2Proof.Proofs
open Sys2Proof Sys2Proof.Machine Sys2Proof.Safety

/-! ## Ethernet ports -/

theorem ethOf_congr {s t : State} (h : t.net.eth = s.net.eth) {n : Nat} : ethOf t n = ethOf s n := by rw [ethOf, h, ← ethOf]

theorem setEth_length {n : Nat} {f : EthPort → EthPort} {s : State} : (setEth n f s).net.eth.length = s.net.eth.length := List.length_modify ..

theorem ethOf_setEth_same {n : Nat} {f : EthPort → EthPort} {s : State} (h : n < s.net.eth.length) : ethOf (setEth n f s) n = f (ethOf s n) := by
  unfold ethOf setEth
  dsimp only
  rw [List.getD_eq_getElem?_getD, getElem?_lmod_same (List.getElem?_eq_getElem h), List.getD_eq_getElem?_getD, List.getElem?_eq_getElem h]
  rfl

theorem ethOf_raise {e : Ev} {s : State} {n : Nat} : ethOf (raise e s) n = ethOf s n := ethOf_congr (congrArg NetSt.eth (raise_touches.same .net (by decide)))

/-- What the gate sweep and a transmission leave of a port: its gates, their place and its back-off. -/
def gateViews (p : EthPort) : Option GateList × Option Nat × Nat × Option GateList × Option Nat := (p.gates, p.gateEnd, p.gateIx, p.nextGates, p.backoff)

theorem backoff_of_gateViews {p q : EthPort} (h : gateViews p = gateViews q) : p.backoff = q.backoff := congrArg (fun v => v.2.2.2.2) h

/-- Every port keeps its gates. -/
def GatesKept (s t : State) : Prop := t.net.eth.map gateViews = s.net.eth.map gateViews

theorem GatesKept.refl {s : State} : GatesKept s s := rfl

theorem GatesKept.after {s t u : State} (h : GatesKept t u) (h' : GatesKept s t) : GatesKept s u := h.trans h'

theorem GatesKept.of_net {s t : State} (h : t.net = s.net) : GatesKept s t := congrArg (fun x : NetSt => x.eth.map gateViews) h

theorem GatesKept.foldl {α : Type} {f : State → α → State} (h : ∀ t a, GatesKept t (f t a)) {l : List α} {s : State} : GatesKept s (l.foldl f s) := by
  induction l generalizing s with
  | nil => exact .refl
  | cons a l ih => exact ih.after (h s a)

theorem GatesKept.setEth {n : Nat} {f : EthPort → EthPort} (h : ∀ p, gateViews (f p) = gateViews p) {s : State} : GatesKept s (setEth n f s) := map_lmod_of_eq h

theorem GatesKept.views {s t : State} (h : GatesKept s t) (n : Nat) : gateViews (ethOf t n) = gateViews (ethOf s n) := by
  have hg : ∀ l : List EthPort, (l.map gateViews).getD n (gateViews {}) = gateViews (l.getD n {}) := fun l => getD_map_default (f := gateViews) ..
  rw [ethOf, ← hg, h, hg, ← ethOf]

theorem GatesKept.length {s t : State} (h : GatesKept s t) : t.net.eth.length = s.net.eth.length := by
  have := congrArg List.length h
  simpa using this

theorem gateDrop_kept {n cl len : Nat} {s : State} : GatesKept s (gateDrop n cl len s) := by
  refine GatesKept.after (.of_net (raise_touches.same .net (by decide))) (.setEth ?_)
  exact fun _ => rfl

theorem gateSweep_kept {n : Nat} {s : State} : GatesKept s (gateSweep n s) := by
  refine .foldl fun t cl => .foldl fun u f => ?_
  split
  · exact .refl
  · refine gateDrop_kept.after (.setEth ?_)
    exact fun _ => rfl

theorem doEthFrameTx_kept {n : Nat} {s : State} : GatesKept s (doEthFrameTx n s) := by
  unfold doEthFrameTx
  extract_lets t p
  have ht : GatesKept s t := by
    refine gateSweep_kept.after ?_
    split
    · exact .refl
    · exact .of_net (runToCyc_touches.same .net (by decide))
  clear_value t
  split
  · exact ht
  · split
    · exact ht
    · next cl f _ =>
      extract_lets u v
      have hu : GatesKept s v := by
        refine GatesKept.after (t := u) (.of_net rfl) (GatesKept.after (.setEth ?_) ht)
        exact fun _ => rfl
      clear_value v
      split
      · exact hu
      · exact GatesKept.after (.of_net (sendS1_touches.same .net (by decide))) hu

/-- A transmission never goes back in time. -/
theorem le_doEthFrameTx_cyc {n : Nat} {s : State} : s.time.cyc ≤ (doEthFrameTx n s).time.cyc := by
  unfold doEthFrameTx
  extract_lets t p
  have ht : s.time.cyc ≤ t.time.cyc := by
    rw [show t.time = _ from gateSweep_touches.same .time (by decide)]
    split
    · exact Nat.le_refl _
    · rw [runToCyc_cyc]
      exact Nat.le_max_left ..
  clear_value t
  split
  · exact ht
  · split
    · exact ht
    · extract_lets u v
      have hv : v.time = t.time := rfl
      clear_value v
      split
      · rwa [hv]
      · rwa [sendS1_touches.same .time (by decide), hv]

/-! ## Frames, gates and collisions -/

/-- What is left of a frame on the wire once its FCS is taken (13 R485). -/
theorem wire_parts {f : List Byte} : (f ++ ethFcs f).length = f.length + 4 ∧ (f ++ ethFcs f).take ((f ++ ethFcs f).length - 4) = f ∧
    (f ++ ethFcs f).drop ((f ++ ethFcs f).length - 4) = ethFcs f := by
  have hlen : (f ++ ethFcs f).length - 4 = f.length := by simp [ethFcs]
  exact ⟨by simp [ethFcs], by rw [hlen, List.take_left], by rw [hlen, List.drop_left]⟩

/-- A sound frame, before the destination filter (13 R489). -/
theorem doEthFrameRx_of_sound {n frac : Nat} {f : List Byte} {s : State} (hen : (ethOf s n).enabled = true) (hl : (ethOf s n).link = true) (h60 : 60 ≤ f.length) (hmax : f.length ≤ 1518) :
    doEthFrameRx n (f ++ ethFcs f) frac s = if !ethAccepts (ethOf s n) (decide (0 < (ptpOf s n).st)) f then setEth n (fun p => { p with rejects := p.rejects + 1 }) s
      else if decide (0 < (ptpOf s n).st) && isPtp f then setEth n (fun p => { p with received := p.received + 1 }) s
      else sendS1 0x06 (le 1 n ++ le 1 (classOf f) ++ [0, 0] ++ dtBytes ((1024 * (dtNow s / 1024 + frac % 128) - ns1 * (ethOf s n).rxLat) / 2 ^ 14 * 2 ^ 14) ++ f)
        (setEth n (fun p => { p with received := p.received + 1 }) s) := by
  obtain ⟨hlen, htake, hdrop⟩ := wire_parts (f := f)
  unfold doEthFrameRx
  dsimp only
  rw [htake, hdrop, hlen, if_neg (by simp [hen, hl]), if_neg (by simp; omega), if_neg (by simp; omega)]

/-- The change of gates with no list waiting (13 R487). -/
theorem doEthGateCycle_views {n e : Nat} {g : GateList} {s : State} (hn : n < s.net.eth.length) (hg : (ethOf s n).gates = some g) (he : (ethOf s n).gateEnd = some e)
    (hnext : (ethOf s n).nextGates = none) (hix : (ethOf s n).gateIx + 1 < g.entries.length) :
    gateViews (ethOf (doEthGateCycle n s) n) = (some g, some (e + ns1 * (g.entries.getD ((ethOf s n).gateIx + 1) (0, 0)).2), (ethOf s n).gateIx + 1, none, (ethOf s n).backoff) := by
  have hrun : (runTo e s).net = s.net := runTo_touches.same .net (by decide)
  unfold doEthGateCycle
  rw [hg, he]
  dsimp only
  rw [gateSweep_kept.views, ethOf_setEth_same (by rwa [hrun]), ethOf_congr (congrArg NetSt.eth hrun), hnext]
  dsimp only
  rw [if_neg (by simp; omega)]
  unfold gateViews
  dsimp only
  rw [hg]

/-- Reporting collision drops changes the run and second of the report alone (13 R486). -/
theorem ethOf_collisionReport {cause : Nat} {s : State} (h : 1 < s.net.eth.length) : ∃ r d, ethOf (collisionReport cause s) 1 = { ethOf s 1 with dropRun := r, dropSec := d } := by
  unfold collisionReport
  dsimp only
  split
  · exact ⟨_, _, rfl⟩
  · exact ⟨_, _, ethOf_raise.trans (ethOf_setEth_same h)⟩

/-- A late collision drops the frame (13 R486). -/
theorem ethOf_doEthCollision_late {bits cl : Nat} {f : EthFrame} {s : State} (h : 1 < s.net.eth.length) (hnext : ethNext (ethOf s 1) (dtNow s) = some (cl, f)) (hb : 512 < bits) :
    ∃ r d, ethOf (doEthCollision bits s) 1 = { ethOf s 1 with
      collisions := (ethOf s 1).collisions + 1, queues := lmod (ethOf s 1).queues cl (·.drop 1), attempts := 0, late := (ethOf s 1).late + 1, dropRun := r, dropCause := 1, dropSec := d } := by
  unfold doEthCollision
  dsimp only
  rw [hnext]
  dsimp only
  rw [if_pos (by simpa using hb), collisionDrop]
  obtain ⟨r, d, hr⟩ := ethOf_collisionReport (cause := 1) (s := setEth 1 (fun p => { p with
    queues := lmod p.queues cl (·.drop 1), attempts := 0, excessive := if (1 : Nat) == 0 then p.excessive + 1 else p.excessive,
    late := if (1 : Nat) == 1 then p.late + 1 else p.late, dropRun := p.dropRun + 1, dropCause := 1 }) (setEth 1 (fun p => { p with collisions := p.collisions + 1 }) s))
    (by rwa [setEth_length, setEth_length])
  rw [hr, ethOf_setEth_same (by rwa [setEth_length]), ethOf_setEth_same h]
  exact ⟨r, d, rfl⟩

/-- A collision before the 16th attempt starts a back-off (13 R486). -/
theorem ethOf_doEthCollision_backoff {bits cl : Nat} {f : EthFrame} {s : State} (h : 1 < s.net.eth.length) (hnext : ethNext (ethOf s 1) (dtNow s) = some (cl, f)) (hb : bits ≤ 512)
    (ha : (ethOf s 1).attempts < 15) (hd : s.sec.drbg = true) :
    ∃ r, r < 2 ^ min ((ethOf s 1).attempts + 1) 10 ∧ ethOf (doEthCollision bits s) 1 = { ethOf s 1 with
      collisions := (ethOf s 1).collisions + 1, attempts := (ethOf s 1).attempts + 1, backoff := some (s.time.cyc + 25600 * r) } := by
  refine ⟨(draw (setEth 1 (fun p => { p with collisions := p.collisions + 1 }) s)).1 % 2 ^ min ((ethOf s 1).attempts + 1) 10, Nat.mod_lt _ (Nat.two_pow_pos _), ?_⟩
  unfold doEthCollision
  dsimp only
  rw [hnext]
  dsimp only
  rw [if_neg (by simpa using hb), if_neg (by omega), if_neg (by simp [hd]), ethOf_setEth_same (by show 1 < (setEth 1 _ s).net.eth.length; rwa [setEth_length])]
  rw [ethOf_congr (t := (draw (setEth 1 (fun p => { p with collisions := p.collisions + 1 }) s)).2) (s := setEth 1 (fun p => { p with collisions := p.collisions + 1 }) s) rfl, ethOf_setEth_same h]
  rfl

/-- The end of a back-off, at its instant (13 R486). -/
theorem doEthBackoffExpiry_ends {c : Nat} {s : State} (h : 1 < s.net.eth.length) (hb : (ethOf s 1).backoff = some c) :
    (ethOf (doEthBackoffExpiry s) 1).backoff = none ∧ c ≤ (doEthBackoffExpiry s).time.cyc := by
  have hrun : (runToCyc c s).net = s.net := runToCyc_touches.same .net (by decide)
  have hcyc := le_runToCyc_cyc c s
  unfold doEthBackoffExpiry
  rw [hb]
  dsimp only
  generalize runToCyc c s = t at hrun hcyc
  have hset : (ethOf (setEth 1 (fun p => { p with backoff := none }) t) 1).backoff = none := congrArg EthPort.backoff (ethOf_setEth_same (by rwa [hrun]))
  have ht : (setEth 1 (fun p => { p with backoff := none }) t).time = t.time := rfl
  generalize setEth 1 (fun p => { p with backoff := none }) t = v at hset ht
  rw [backoff_of_gateViews (doEthFrameTx_kept.views 1)]
  exact ⟨hset, Nat.le_trans (Nat.le_trans hcyc (Nat.le_of_eq (congrArg TimeSt.cyc ht).symm)) le_doEthFrameTx_cyc⟩

/-- Settles O46: each row's change of its port, or the command's answer. -/
theorem ethernetRows : Obligations.EthernetRows := by
  unfold Obligations.EthernetRows
  have hset : ∀ (u : State) (n : Nat), ethOf (settle u) n = ethOf u n := fun u n => ethOf_congr (congrArg NetSt.eth (settle_touches.same .net (by decide)))
  refine ⟨fun n frac f s hen hl h60 hmax hacc hptp => ?_, fun n frac f s hen hl h60 hmax hacc => ?_, fun n frac w s hlen hfcs => ?_, fun q f n s s1 h hn hn1 hf hen hl h14 hmax h2 hz hfit => ?_,
    fun n cl f s hen hl hb hd htx hsw hnext htok => ?_, fun n e g s hn hg he hnx hle hlt hix => ?_, fun bits cl f s h1 hnext hb => ?_, fun bits cl f s h1 hnext hb ha hd => ?_,
    fun c s h1 hb => ?_, fun n speed up s hn1 hn hl => ?_, fun c s p n ha hp hn hn1 h2 hz hz10 hs0 hs1 => ?_, fun c s ha h0 h1 => ?_, fun c s ha h0 hz => ?_,
    fun c s p ha hp h0 h2 hz h1 h5 => ?_, fun c s ha h0 h1 hz hdt => ?_, fun c s p ha hp h0 h1 h64 hz hdt hcyc => ?_⟩
  · show done (doEthFrameRx n (f ++ ethFcs f) frac s) = _
    rw [doEthFrameRx_of_sound hen hl h60 hmax, if_neg (by simp [hacc]), if_neg]
    · rfl
    · rcases hptp with hp | hp
      · simp [hp]
      · simp [hp]
  · show done (doEthFrameRx n (f ++ ethFcs f) frac s) = _
    rw [doEthFrameRx_of_sound hen hl h60 hmax, if_pos (by simp [hacc])]
    rfl
  · have heq : doEthFrameRx n w frac s = s := by
      unfold doEthFrameRx
      dsimp only
      split
      · rfl
      · rw [if_neg (by simpa using hlen), if_pos (by simp [hfcs])]
    show done (doEthFrameRx n w frac s) = _
    rw [heq]
    rfl
  · subst hf hn
    show done (doEthPacket s) = _
    unfold doEthPacket
    rw [h]
    dsimp only
    rw [if_neg (by simp only [hen, hl, hz, h2]; simp at h14 hmax ⊢; omega), if_neg (by simp [hfit]), if_pos (by simp [h2])]
    rfl
  · show done (doEthFrameTx n s) = _
    have hnow : (if decide ((ethOf s n).txEnd ≤ s.time.cyc) = true then s else runToCyc (ethOf s n).txEnd s) = s := if_pos (by simpa using htx)
    unfold doEthFrameTx
    rw [hnow, hsw]
    dsimp only
    rw [if_neg (by simpa [hen, hl, hb] using hd), hnext]
    dsimp only
    rw [htok]
    rfl
  · refine reaches_done rfl ?_
    have hv := doEthGateCycle_views hn hg he hnx hix
    rw [hset]
    exact ⟨congrArg (fun v => v.2.2.1) hv, congrArg (fun v => v.2.1) hv, congrArg (fun v => v.1) hv⟩
  · refine reaches_done rfl ?_
    obtain ⟨r, d, heq⟩ := ethOf_doEthCollision_late h1 hnext hb
    rw [hset, heq]
    exact ⟨rfl, rfl, rfl, rfl, rfl⟩
  · refine reaches_done rfl ?_
    obtain ⟨r, hr, heq⟩ := ethOf_doEthCollision_backoff h1 hnext hb ha hd
    rw [hset, heq]
    exact ⟨rfl, rfl, r, hr, rfl⟩
  · refine reaches_done rfl ?_
    rw [hset, settle_touches.same .time (by decide)]
    exact doEthBackoffExpiry_ends h1 hb
  · refine reaches_done rfl ?_
    rw [hset, doEthLink, if_neg (by simp [hl]; omega), ethOf_raise, ethOf_setEth_same hn]
  · subst hp hn
    refine answers_command rfl ha ?_
    unfold netEthConfig
    dsimp only
    rw [if_neg]
    · rfl
    · simp [hz, hz10]
      omega
  · refine answers_command rfl ha ?_
    unfold netEthConfig
    dsimp only
    rw [if_pos (by simp [h0, h1])]
    rfl
  · refine answers_command rfl ha ?_
    unfold netEthHashSet
    rw [if_neg (by simp [hz]; omega)]
    rfl
  · subst hp
    refine answers_command (n := 4 + 5 * min 8 (uAt (prmOf c) 2 1)) rfl (by rw [h2]; exact ha) ?_
    unfold netEthGateLoad
    dsimp only
    rw [h2, if_neg (by simp [hz, h5, List.range_succ]; omega)]
    rfl
  · refine answers_command rfl ha ?_
    unfold netEthGateCommit
    dsimp only
    rw [if_neg (by simp [hz, hdt, h1]; omega), if_pos (by simp [h1])]
    rfl
  · subst hp
    refine answers_command rfl ha ?_
    unfold netEthGateCommit
    dsimp only
    rw [if_neg (by simp [hz, hdt]; omega), if_neg (by simp; omega), if_pos (by simp [hcyc])]
    rfl

end Sys2Proof.Proofs

namespace Sys2Proof.Proofs
open Sys2Proof Sys2Proof.Machine Sys2Proof.Safety

/-! ## IEEE 1588 instances -/

theorem ptpOf_congr {s t : State} (h : t.net.ptp = s.net.ptp) {n : Nat} : ptpOf t n = ptpOf s n := by rw [ptpOf, h, ← ptpOf]

theorem ptpOf_setPtp_same {n : Nat} {f : PtpPort → PtpPort} {s : State} (h : n < s.net.ptp.length) : ptpOf (setPtp n f s) n = f (ptpOf s n) := by
  unfold ptpOf setPtp
  dsimp only
  rw [List.getD_eq_getElem?_getD, getElem?_lmod_same (List.getElem?_eq_getElem h), List.getD_eq_getElem?_getD, List.getElem?_eq_getElem h]
  rfl

theorem ptpOf_ptpSend {n k ty q t : Nat} {x : List Byte} {s : State} : ptpOf (ptpSend k ty q t x s) n = ptpOf s n := rfl

theorem ptpClock_congr {n frac : Nat} {s t : State} (h : t.time = s.time) : ptpClock n frac t = ptpClock n frac s := by
  unfold ptpClock domFrom
  rw [dtNow_congr h, h]

/-- A message of the port's own domain and sdoId at a TIME_RECEIVER is looked at (13 R490). -/
theorem ptpMessage_taken {n : Nat} {m : PtpMsg} {p : PtpPort} (hn : n ≤ 1) (hst : p.st = 1) (hd : m.domain = p.domain) (hs : m.sdoId = p.sdoId) :
    ¬ (decide (1 < n) || p.st == 0 || m.domain != p.domain || m.sdoId != p.sdoId) = true := by
  simp [hst, hd, hs]
  omega

/-- What a TIME_TRANSMITTER leaves of its PTP record with a Sync (13 R493). -/
theorem ptpOf_doPtpSyncSend {n : Nat} {s : State} (hn : n < s.net.ptp.length) (hst : (ptpOf s n).st = 2) :
    ∃ a, ptpOf (doPtpSyncSend n s) n = { ptpOf s n with seq := ((ptpOf s n).seq + 1) % 65536, syncAt := dtNow (runTo ((ptpOf s n).syncAt + log2Dt (ptpOf s n).logSync) s), annAt := a } ∧
      (doPtpSyncSend n s).time = (runTo ((ptpOf s n).syncAt + log2Dt (ptpOf s n).logSync) s).time := by
  have hrun : (runTo ((ptpOf s n).syncAt + log2Dt (ptpOf s n).logSync) s).net = s.net := runTo_touches.same .net (by decide)
  unfold doPtpSyncSend
  extract_lets p s1 now q ann s2
  rw [if_neg (by simp [p, hst])]
  have hs2 : ptpOf s2 n = { ptpOf s n with seq := ((ptpOf s n).seq + 1) % 65536, syncAt := now, annAt := if ann then now else (ptpOf s n).annAt } := by
    dsimp only [s2]
    rw [ptpOf_ptpSend, ptpOf_ptpSend, ptpOf_setPtp_same (by rwa [show s1.net = s.net from hrun]), ptpOf_congr (congrArg NetSt.ptp hrun)]
  split
  · exact ⟨_, hs2, rfl⟩
  · exact ⟨_, hs2, rfl⟩

/-- What a TIME_RECEIVER leaves of its PTP record with a request (13 R492). -/
theorem ptpOf_doPtpDelayReqSend {n : Nat} {s : State} (hn : n < s.net.ptp.length) (hst : (ptpOf s n).st = 1) :
    ptpOf (doPtpDelayReqSend n s) n = { ptpOf s n with
      seq := ((ptpOf s n).seq + 1) % 65536, reqAt := dtNow (doPtpDelayReqSend n s), req := some (ptpClock n 0 (doPtpDelayReqSend n s), ((ptpOf s n).seq + 1) % 65536), pdelay := none } := by
  have hrun : (runTo ((ptpOf s n).reqAt + log2Dt (ptpOf s n).logDelay) s).net = s.net := runTo_touches.same .net (by decide)
  have htime : (doPtpDelayReqSend n s).time = (runTo ((ptpOf s n).reqAt + log2Dt (ptpOf s n).logDelay) s).time := by
    unfold doPtpDelayReqSend
    dsimp only
    rw [if_neg (by simp [hst])]
    rfl
  rw [dtNow_congr htime, ptpClock_congr htime]
  unfold doPtpDelayReqSend
  dsimp only
  rw [if_neg (by simp [hst]), ptpOf_ptpSend, ptpOf_setPtp_same (by rwa [hrun]), ptpOf_congr (congrArg NetSt.ptp hrun)]

/-- The parameters of NET_PTP_CONFIG lie in range (13 R491, R493). -/
theorem netPtpConfig_of_ranges {p : List Byte} {s : State} (h0 : uAt p 0 1 ≤ 1) (h1 : uAt p 1 1 ≤ 2) (h2 : uAt p 2 1 ≤ 1) (h3 : uAt p 3 1 ≤ 127) (h4 : uAt p 4 2 ≤ 0xFFF)
    (h6 : -4 ≤ iAt p 6 1) (h6' : iAt p 6 1 ≤ 1) (h7 : -4 ≤ iAt p 7 1) (h7' : iAt p 7 1 ≤ 4) (h8 : 0 ≤ iAt p 8 1) (h8' : iAt p 8 1 ≤ 4) (hz : zeros p 9 3 = true) (h12 : uAt p 12 4 ≤ 10000)
    (hkp : ptpKpBad (uAt p 0 1) (iAt p 6 1) s = false) :
    netPtpConfig p s = if uAt p 1 1 == 2 && (domFrom s (4 + uAt p 0 1)).isSome then refuse stBadState s
      else ok (setPtp (uAt p 0 1) (fun _ => {
        configured := true, st := uAt p 1 1, p2p := uAt p 2 1 == 1, domain := uAt p 3 1, sdoId := uAt p 4 2, logSync := iAt p 6 1, logDelay := iAt p 7 1, logAnn := iAt p 8 1
        linkBound := uAt p 12 4, annCyc := s.time.cyc, syncAt := dtNow s, annAt := dtNow s, reqAt := dtNow s }) s) := by
  unfold netPtpConfig
  dsimp only
  rw [hkp, if_neg]
  simp [hz]
  omega

/-- Settles O47: each row's change of its PTP record, or the command's answer. -/
theorem ptpRows : Obligations.PtpRows := by
  unfold Obligations.PtpRows
  have hset : ∀ (u : State) (n : Nat), ptpOf (settle u) n = ptpOf u n := fun u n => ptpOf_congr (congrArg NetSt.ptp (settle_touches.same .net (by decide)))
  refine ⟨fun n frac m s hn1 hn hst hd hs hty htwo => ?_, fun n frac t3 d m s hn1 hn hst hd hs hty hreq hto => ?_, fun n frac m s hn1 hd => ?_, fun n s hn hst hann => ?_, fun n s hn hst => ?_,
    fun n s hn hst => ?_, fun c s p n ha hp hp0 h0 hn h1 h2 h3 h4 h6 h6' h7 h7' h8 h8' hz h12 hdom => ?_, fun c s p k ha hp h0 h1 h2 h3 h4 h6 h6' h7 h7' h8 h8' hz h12 hdom hkp => ?_⟩
  · refine reaches_done rfl ?_
    have heq : doPtpMessage n m frac s = setPtp n (fun p => { p with sync := some (m.seq, ptpClock n frac s, dtNow s, m.correction) }) s := by
      unfold doPtpMessage
      dsimp only
      rw [if_neg (ptpMessage_taken hn1 hst hd hs), if_neg (by simp [hst]), hty]
      exact if_pos htwo
    rw [hset, settle_touches.same .time (by decide), heq, ptpOf_setPtp_same hn]
    exact ⟨rfl, rfl⟩
  · refine reaches_done rfl ?_
    have heq : doPtpMessage n m frac s = setPtp n (fun p => { p with req := none, mpd := (d + ((m.time : Int) - t3 - m.correction)) / 2 }) s := by
      unfold doPtpMessage
      dsimp only
      rw [if_neg (ptpMessage_taken hn1 hst hd hs), if_neg (by simp [hst]), hty, hreq, hto]
      exact if_pos (beq_self_eq_true _)
    rw [hset, heq, ptpOf_setPtp_same hn]
    exact ⟨rfl, rfl⟩
  · have heq : doPtpMessage n m frac s = s := by
      unfold doPtpMessage
      dsimp only
      rw [if_pos (by simp [hd])]
    show done (doPtpMessage n m frac s) = _
    rw [heq]
    rfl
  · refine reaches_done rfl ?_
    have heq : doPtpAnnounceTimeout n s = setPtp n (fun p => { p with annOk := false }) (runToCyc ((ptpOf s n).annCyc + 3 * log2Cyc (ptpOf s n).logAnn) s) := by
      rw [doPtpAnnounceTimeout, if_neg (by simp [hst, hann])]
    have hrun : (runToCyc ((ptpOf s n).annCyc + 3 * log2Cyc (ptpOf s n).logAnn) s).net = s.net := runToCyc_touches.same .net (by decide)
    rw [hset, settle_touches.same .time (by decide), heq, ptpOf_setPtp_same (by rwa [hrun]), ptpOf_congr (congrArg NetSt.ptp hrun)]
    exact ⟨rfl, le_runToCyc_cyc ..⟩
  · refine reaches_done rfl ?_
    obtain ⟨a, hp, ht⟩ := ptpOf_doPtpSyncSend hn hst
    have hnow : dtNow (settle (doPtpSyncSend n s)) = dtNow (runTo ((ptpOf s n).syncAt + log2Dt (ptpOf s n).logSync) s) := dtNow_congr (by rw [settle_touches.same .time (by decide), ht])
    rw [hset, hp, hnow]
    exact ⟨rfl, rfl, hst⟩
  · refine reaches_done rfl ?_
    have ht : (settle (doPtpDelayReqSend n s)).time = (doPtpDelayReqSend n s).time := settle_touches.same .time (by decide)
    rw [hset, dtNow_congr ht, ptpClock_congr ht, ptpOf_doPtpDelayReqSend hn hst]
    exact ⟨rfl, rfl, rfl, rfl⟩
  · subst hp hp0
    have hb := netPtpConfig_of_ranges h0 h1 h2 h3 h4 h6 h6' h7 h7' h8 h8' hz h12 (s := s) (by rw [ptpKpBad, hdom])
    rw [hdom, if_neg (by simp)] at hb
    refine oks_command rfl ha (congrArg Prod.fst hb) ?_
    rw [hb]
    dsimp only [ok]
    rw [ptpOf_setPtp_same hn]
    exact ⟨rfl, rfl, rfl, rfl, rfl, rfl, rfl, rfl, rfl⟩
  · subst hp
    refine answers_command rfl ha ?_
    rw [netPtpConfig_of_ranges h0 (by omega) h2 h3 h4 h6 h6' h7 h7' h8 h8' hz h12 hkp, if_pos (by simp [h1, hdom])]
    rfl

end Sys2Proof.Proofs

namespace Sys2Proof.Proofs
open Sys2Proof Sys2Proof.Machine Sys2Proof.Safety

/-! ## CAN controllers -/

theorem canOf_congr {s t : State} (h : t.net.can = s.net.can) {n : Nat} : canOf t n = canOf s n := by rw [canOf, h, ← canOf]

theorem setCan_length {n : Nat} {f : CanPort → CanPort} {s : State} : (setCan n f s).net.can.length = s.net.can.length := List.length_modify ..

theorem canOf_setCan_same {n : Nat} {f : CanPort → CanPort} {s : State} (h : n < s.net.can.length) : canOf (setCan n f s) n = f (canOf s n) := by
  unfold canOf setCan
  dsimp only
  rw [List.getD_eq_getElem?_getD, getElem?_lmod_same (List.getElem?_eq_getElem h), List.getD_eq_getElem?_getD, List.getElem?_eq_getElem h]
  rfl

/-- Counters of a controller that is not bus-off (13 R496). -/
theorem canOf_canCounters {n t r : Nat} {s : State} (h : n < s.net.can.length) (hst : (canOf s n).st ≠ 2) :
    canOf (canCounters n t r s) n = { canOf s n with tec := min t 256, recv := min r 255, st := canState t r } := by
  have hraise : ∀ e u, canOf (raise e u) n = canOf u n := fun e u => canOf_congr (congrArg NetSt.can (raise_touches.same .net (by decide)))
  have hraiseIf : ∀ b e u, canOf (raiseIf b e u) n = canOf u n := fun b e u => canOf_congr (congrArg NetSt.can (raiseIf_touches.same .net (by decide)))
  have hnew : ∀ u, u = setCan n (fun q => { q with tec := min t 256, recv := min r 255, st := if q.st == 2 then 2 else canState t r, tx := q.tx }) s →
      canOf u n = { canOf s n with tec := min t 256, recv := min r 255, st := canState t r } := fun u hu => by
    rw [hu, canOf_setCan_same h]
    dsimp only
    rw [if_neg (by simpa using hst)]
  unfold canCounters
  dsimp only
  rw [if_neg (by simpa using hst)]
  split
  · rw [hraise]
    exact hnew _ rfl
  · rw [hraiseIf]
    exact hnew _ rfl

/-- Counters that stay in the error-active state raise nothing (13 R496). -/
theorem canCounters_harbour {n t r : Nat} {s : State} (hst : (canOf s n).st = 0) (h : canState t r = 0) : (canCounters n t r s).harbour = s.harbour := by
  unfold canCounters
  dsimp only
  rw [h, if_neg (by simp [hst]), if_neg (by decide), hst]
  rfl

theorem canCounters_length {n t r : Nat} {s : State} : (canCounters n t r s).net.can.length = s.net.can.length := by
  have hr : ∀ e u, (raise e u).net = u.net := fun e u => raise_touches.same .net (by decide)
  have hr' : ∀ b e u, (raiseIf b e u).net = u.net := fun b e u => raiseIf_touches.same .net (by decide)
  unfold canCounters
  dsimp only
  split
  · rfl
  · split
    · rw [hr]
      exact setCan_length
    · rw [hr']
      exact setCan_length

theorem canState_of_small {t r : Nat} (ht : t < 128) (hr : r < 128) : canState t r = 0 := by
  rw [canState, if_neg (by omega), if_neg (by simp; omega)]

theorem canDrain_of_empty {k n : Nat} {s : State} (h : (canOf s n).fifo = []) : canDrain k n s = s := by
  cases k with
  | zero => rfl
  | succ k => rw [canDrain, h]

theorem canDrain_of_full {k n : Nat} {f : CanFrame} {r : List CanFrame} {s : State} (h : (canOf s n).fifo = f :: r) (hroom : s1Room (canBytes n f) s = false) : canDrain k n s = s := by
  cases k with
  | zero => rfl
  | succ k => rw [canDrain, h]; exact if_neg (by simp [hroom])

/-- A sound frame at an error-active controller with clear counters, before the filters (13 R495). -/
theorem doCanFrameRx_of_active {n id : Nat} {ide fd rtr : Bool} {d : List Byte} {s : State} (hen : (canOf s n).enabled = true) (hst : (canOf s n).st = 0) (htec : (canOf s n).tec = 0)
    (hrecv : (canOf s n).recv = 0) (hfd : fd = true → (canOf s n).fd = true) :
    doCanFrameRx n ide fd rtr id d s = if !canAccepts (canOf s n) ide id then canCounters n 0 0 s
      else canDrain 65 n (canQueue n { id := id, ide := ide, fd := fd, rtr := rtr, data := d.take 64, dt := capTime 0 s } (canDrain 65 n (canCounters n 0 0 s))) := by
  unfold doCanFrameRx
  dsimp only
  rw [if_neg (by simpa [hen, hst] using hfd), htec, hrecv]
  rfl

theorem canOf_canCounters_clear {n : Nat} {s : State} (h : n < s.net.can.length) (hst : (canOf s n).st = 0) (htec : (canOf s n).tec = 0) (hrecv : (canOf s n).recv = 0) :
    canOf (canCounters n 0 0 s) n = canOf s n := by
  rw [canOf_canCounters h (by omega)]
  generalize canOf s n = p at hst htec hrecv
  obtain ⟨⟩ := p
  dsimp only at hst htec hrecv
  subst hst htec hrecv
  rfl

/-- A CAN packet with no flags set (13 R495). -/
theorem doCanPacket_of_plain {q : Packet} {s s1 : State} (h : takeS0 8 s = some (q, s1)) (hn : uAt q.payload 0 1 ≤ 1) (hen : (canOf s1 (uAt q.payload 0 1)).enabled = true)
    (hl : (canOf s1 (uAt q.payload 0 1)).listen = false) (htx : (canOf s1 (uAt q.payload 0 1)).tx.length < 16) (h1 : uAt q.payload 1 1 = 0) (h2 : uAt q.payload 2 1 ≤ 8)
    (hz : zeros q.payload 3 1 = true) (hid : uAt q.payload 4 4 < 2 ^ 11) :
    doCanPacket s = setCan (uAt q.payload 0 1) (fun c => { c with
      tx := c.tx ++ [{ id := uAt q.payload 4 4, ide := false, fd := false, rtr := false, data := (q.payload.drop 12).take (uAt q.payload 2 1), token := none }] }) s1 := by
  have hb : ∀ k, bit 0 k = false := fun k => by simp [bit]
  unfold doCanPacket
  rw [h]
  dsimp only
  rw [h1, hb, hb, hb, hb, if_neg (by simp [hen, hl, hz]; omega)]
  rfl

/-- A frame without a token transmitted (13 R495, R496). -/
theorem doCanFrameTx_of_next {n : Nat} {f : CanFrame} {s : State} (hen : (canOf s n).enabled = true) (hl : (canOf s n).listen = false) (hst : (canOf s n).st = 0)
    (hnext : canNext (canOf s n).tx = some f) (htok : f.token = none) :
    doCanFrameTx n s = emit .can n (dtNow s) (le 4 f.id ++ le 1 (bitIf f.ide 0 + bitIf f.fd 1 + bitIf f.rtr 2) ++ f.data)
      (canCounters n ((canOf s n).tec - 1) (canOf s n).recv (setCan n (fun q => { q with tx := q.tx.erase f }) s)) := by
  unfold doCanFrameTx
  dsimp only
  rw [if_neg (by simp [hen, hl, hst]), hnext]
  dsimp only
  rw [htok]

/-- NET_VX_CONFIG once its setting is in the journal (13 R474). -/
theorem netVxConfig_of_saved {p : List Byte} {s s1 : State} (h0 : uAt p 0 1 ≤ 7) (h1 : uAt p 1 1 ≤ 2) (h2 : uAt p 2 1 ≤ 15) (hz : zeros p 3 1 = true) (hroot : uAt p 1 1 ≠ 2 → zeros p 4 16 = true)
    (hjob : jobBusy s = false) (hj : journalPut { type := 1, key := settingKey 3 0, payload := (p.drop 1).take 19, prio := 5, schema := s.update.schema } s = (true, s1)) :
    netVxConfig p s = ok { s1 with net := { s1.net with
      vx := (List.range 3).map (fun n => if bit (uAt p 0 1) n then (if (vxOf s1 n).st == .off then { ({} : VxPort) with st := .training, reqCyc := s1.time.cyc } else vxOf s1 n) else ({} : VxPort))
      group := uAt p 1 1, retryMax := uAt p 2 1, root := (p.drop 4).take 16, upstream := none, conflictRun := false, depthRun := false } } := by
  have hbad : ¬ (decide (7 < uAt p 0 1) || decide (2 < uAt p 1 1) || decide (15 < uAt p 2 1) || !zeros p 3 1 || (uAt p 1 1 != 2 && !zeros p 4 16)) = true := by
    by_cases h : uAt p 1 1 = 2
    · simp [h, hz]
      omega
    · simp [hroot h, hz]
      omega
  unfold netVxConfig
  dsimp only
  rw [if_neg hbad, if_neg (by simp [hjob]), hj]

/-- NET_MDIO with an operation of clause 22 (13 R485). -/
theorem netMdio_of_ranges {p : List Byte} (h0 : uAt p 0 1 = 0 ∨ uAt p 0 1 = 2) (h1 : uAt p 1 1 ≤ 31) (h2 : uAt p 2 1 ≤ 31) (hz : zeros p 3 1 = true) (h4 : uAt p 4 2 ≤ 31) :
    ¬ (decide (3 < uAt p 0 1) || decide (31 < uAt p 1 1) || decide (31 < uAt p 2 1) || !zeros p 3 1 || (decide (uAt p 0 1 ≤ 1) && decide (31 < uAt p 4 2))) = true ∧ uAt p 0 1 % 2 = 0 := by
  refine ⟨?_, by omega⟩
  simp [hz]
  omega

/-- Settles O48: each row's change of its controller or port, or the command's answer. -/
theorem canAndNetRows : Obligations.CanAndNetRows := by
  unfold Obligations.CanAndNetRows
  have hset : ∀ (u : State) (n : Nat), canOf (settle u) n = canOf u n := fun u n => canOf_congr (congrArg NetSt.can (settle_touches.same .net (by decide)))
  refine ⟨⟨fun n id ide fd rtr d s hn hen hst htec hrecv hfd hacc => ?_, fun n id ide fd rtr d s hn hen hst htec hrecv hfd hacc hfifo hd hroom => ?_,
    fun n q s s1 h hq hn hen hl htx h1 h2 hz hid => ?_, fun n f s hn hen hl hst htec hrecv hnext htok => ?_, fun n severe s hn hen hst htec => ?_, fun n severe s hn hen hst htec hrecv => ?_,
    fun n s hst hau => ?_, fun n s hau => ?_, fun c s p ha hp h0 h1 hb hz h4 hlo hhi hfd => ?_, fun c s p ha hp h0 h1 h2 hz => ?_, fun c s ha h0 hst => ?_, fun c s ha h0 hst => ?_⟩,
    fun c s s1 p ha hp h0 h1 h2 hz hroot hjob hj => ?_, fun c s ha h0 h1 h2 hz hz' hjob => ?_, fun c s ha => ?_, fun c s d ha h0 h1 h2 hz h4 => ?_, fun c s ha h0 h1 h2 hz h4 => ?_, fun c s ha => ?_⟩
  · refine reaches_done rfl ?_
    rw [hset, settle_harbour_s1_packets, doCanFrameRx_of_active hen hst htec hrecv hfd, if_pos (by simp [hacc]), canOf_canCounters_clear hn hst htec hrecv, canCounters_harbour hst (by decide)]
    exact ⟨rfl, rfl⟩
  · refine reaches_done rfl ?_
    have hclear := canOf_canCounters_clear hn hst htec hrecv
    have hh := canCounters_harbour (t := 0) (r := 0) hst (by decide)
    have hlen : n < (canCounters n 0 0 s).net.can.length := by rwa [canCounters_length]
    have heq : doCanFrameRx n ide fd rtr id d s = setCan n (fun q => { q with fifo := q.fifo ++ [{ id := id, ide := ide, fd := fd, rtr := rtr, data := d, dt := capTime 0 s }] }) (canCounters n 0 0 s) := by
      rw [doCanFrameRx_of_active hen hst htec hrecv hfd, if_neg (by simp [hacc]), canDrain_of_empty (s := canCounters n 0 0 s) (by rw [hclear, hfifo]), canQueue, if_pos (by rw [hclear, hfifo]; decide), List.take_of_length_le hd]
      refine canDrain_of_full (f := { id := id, ide := ide, fd := fd, rtr := rtr, data := d, dt := capTime 0 s }) (r := []) ?_ ?_
      · rw [canOf_setCan_same hlen, hclear, hfifo]
        rfl
      · rw [s1Room] at hroom ⊢
        rwa [show (setCan n _ (canCounters n 0 0 s)).harbour = s.harbour from hh]
    rw [hset, settle_harbour_s1_packets, heq, canOf_setCan_same hlen, hclear, hfifo]
    exact ⟨rfl, congrArg (fun h => h.s1.packets) hh⟩
  · subst hq
    show done (doCanPacket s) = _
    rw [doCanPacket_of_plain h hn hen hl htx h1 h2 hz hid]
    rfl
  · refine reaches_done rfl ?_
    have hsame := canOf_setCan_same (f := fun q => { q with tx := q.tx.erase f }) hn
    rw [hset, doCanFrameTx_of_next hen hl hst hnext htok, canOf_congr (congrArg NetSt.can (emit_touches.same .net (by decide))),
      canOf_canCounters (by rwa [setCan_length]) (by rw [hsame]; dsimp only; omega), hsame, canState_of_small (by omega) hrecv]
    exact ⟨rfl, Nat.min_eq_left (by omega), rfl⟩
  · refine reaches_done rfl ?_
    have heq : doCanBusError n true severe s = canCounters n ((canOf s n).tec + 8) (canOf s n).recv s := by
      unfold doCanBusError
      dsimp only
      rw [if_neg (by simp [hen, hst]), if_pos rfl]
    rw [hset, heq, canOf_canCounters hn (by omega), canState, if_pos (by omega)]
    exact ⟨rfl, Nat.min_eq_right (by omega)⟩
  · refine reaches_done rfl ?_
    have heq : doCanBusError n false severe s = canCounters n (canOf s n).tec (min 255 ((canOf s n).recv + (if severe then 8 else 1))) s := by
      unfold doCanBusError
      dsimp only
      rw [if_neg (by simp [hen, hst]), if_neg (by decide)]
    have hle : (canOf s n).recv + (if severe then 8 else 1) < 128 := by
      split
      · omega
      · omega
    rw [hset, heq, canOf_canCounters hn (by omega), canState_of_small htec (by omega)]
    exact ⟨rfl, show min (min 255 _) 255 = _ by omega, Nat.min_eq_left (by omega)⟩
  · show done (doCanAutoRecovery n s) = _
    unfold doCanAutoRecovery
    dsimp only
    rw [if_pos (by simp [hst, hau])]
    rfl
  · show done (doCanAutoRecovery n s) = _
    unfold doCanAutoRecovery
    dsimp only
    rw [if_neg (by simp [hau])]
    rfl
  · subst hp
    refine answers_command rfl ha ?_
    unfold netCanConfig
    dsimp only
    rw [hb, hfd, if_neg (by simp [hz, h4]; omega)]
    rfl
  · subst hp
    refine answers_command rfl ha ?_
    unfold netCanFilterSet
    dsimp only
    rw [if_neg (by simp [hz]; omega)]
    rfl
  · refine answers_command rfl ha ?_
    unfold netCanRecover
    dsimp only
    rw [if_neg (by simp; omega), if_neg (by simp [hst])]
    rfl
  · refine answers_command rfl ha ?_
    unfold netCanRecover
    dsimp only
    rw [if_neg (by simp; omega), if_pos (by simp [hst])]
    rfl
  · subst hp
    have hb := netVxConfig_of_saved h0 h1 h2 hz hroot hjob hj
    refine oks_command rfl ha (congrArg Prod.fst hb) ?_
    rw [hb]
    dsimp only [ok]
    refine ⟨rfl, rfl, rfl, rfl, fun n hn => ?_⟩
    have hport : ∀ f : Nat → VxPort, ((List.range 3).map f).getD n {} = f n := fun f => by
      rw [List.getD_eq_getElem?_getD, List.getElem?_map, List.getElem?_range hn]
      rfl
    rw [vxOf, hport]
    exact ⟨fun h => by rw [h]; rfl, fun h hoff => by rw [h, hoff]; rfl⟩
  · refine answers_command rfl ha ?_
    unfold netVxConfig
    dsimp only
    rw [if_neg (by simp [hz, hz', h1]; omega), if_pos hjob]
    rfl
  · exact answers_command rfl ha rfl
  · refine answers_command rfl ha ?_
    obtain ⟨hok, heven⟩ := netMdio_of_ranges (p := prmOf c) h0 h1 h2 hz h4
    unfold netMdio
    dsimp only
    rw [if_neg hok, heven]
    rfl
  · refine answers_command rfl ha ?_
    obtain ⟨hok, -⟩ := netMdio_of_ranges (p := prmOf c) h0 h1 h2 hz h4
    unfold netMdio
    dsimp only
    rw [if_neg hok]
  · exact answers_command rfl ha rfl

end Sys2Proof.Proofs

namespace Sys2Proof.Proofs
open Sys2Proof Sys2Proof.Machine Sys2Proof.Safety

/-! ## Harbour: mailboxes and streams -/

/-- Settling writes what is sent, the causes and the two ready pins alone. -/
theorem settle_pins (s : State) : ∃ o r0 r1 c, settle s =
    { s with out := o, harbour := { s.harbour with s0 := { s.harbour.s0 with rdy := r0 }, s1 := { s.harbour.s1 with rdy := r1 }, cause := c } } := by
  unfold settle sendMsi
  dsimp only
  split
  · exact ⟨_, _, _, _, rfl⟩
  · exact ⟨_, _, _, _, rfl⟩

theorem mbxOf_congr {s t : State} (h : t.harbour.mbxs = s.harbour.mbxs) (n : Nat) : mbxOf t n = mbxOf s n := by
  rw [mbxOf, h, ← mbxOf]

theorem mbxOf_settle (s : State) (n : Nat) : mbxOf (settle s) n = mbxOf s n := mbxOf_congr (settle_harbour_mbxs s) n

theorem mbxOf_raise (e : Ev) (s : State) (n : Nat) : mbxOf (raise e s) n = mbxOf s n := mbxOf_congr (raise_harbour_mbxs e s) n

theorem mbxOf_setMbx_same {n : Nat} {f : Mbx → Mbx} {s : State} (h : n < s.harbour.mbxs.length) : mbxOf (setMbx n f s) n = f (mbxOf s n) := by
  rw [mbxOf_setMbx n n f s h, if_pos rfl]

/-- A change of the mailbox that leaves a field alone leaves it alone for every mailbox number. -/
theorem mbxOf_setMbx_field {α : Type} (g : Mbx → α) {f : Mbx → Mbx} (hf : ∀ b, g (f b) = g b) (n : Nat) (s : State) :
    g (mbxOf (setMbx n f s) n) = g (mbxOf s n) := by
  rcases Nat.lt_or_ge n s.harbour.mbxs.length with h | h
  · rw [mbxOf_setMbx_same h, hf]
  · have hl : (setMbx n f s).harbour.mbxs.length = s.harbour.mbxs.length := List.length_modify ..
    unfold mbxOf
    rw [getD_of_length_le _ h, getD_of_length_le _ (hl ▸ h)]

theorem pairBreak_of_none {s : State} (h : s.harbour.pairPending = none) : pairBreak s = s := by
  unfold pairBreak
  rw [h]

theorem barWrite_of_ready {s : State} (h : s.harbour.pairPending = none) (hr : s.harbour.ready = true) (f : State → State) : barWrite f s = f s := by
  unfold barWrite
  dsimp only
  rw [pairBreak_of_none h, if_pos hr]

/-- While the oldest command waits for its completion, nothing is released (14 R520). -/
theorem releaseAll_of_waiting {n : Nat} {h : Held} {r : List Held} {s : State} (hh : (mbxOf s n).held = h :: r) (hd : h.done = none) :
    releaseAll n s = setMbx n (fun b => { b with held := h :: r }) s := by
  unfold releaseAll
  rw [hh, finished, if_neg (by simp [hd])]
  rfl

/-- The only command held is released once it has its completion (14 R520). -/
theorem releaseAll_of_done {n : Nat} {h : Held} {s : State} (hh : (mbxOf s n).held = [h]) (hd : h.done.isSome = true) :
    releaseAll n s = releaseOne n h (setMbx n (fun b => { b with held := [] }) s) := by
  unfold releaseAll
  rw [hh, finished, if_pos hd]
  rfl

/-- A release that is not discarded counts in RELEASED and returns its credit (14 R514, R518). -/
theorem releaseOne_effect {n : Nat} {h : Held} {k : Completion} {s : State} (hn : n < s.harbour.mbxs.length) (hd : h.done = some k) (hs : h.discard = false) :
    mbxOf (releaseOne n h s) n = { mbxOf s n with released := ((mbxOf s n).released + 1) % 65536 } ∧
      (releaseOne n h s).harbour.credit = if h.credit then min 64 (s.harbour.credit + 1) else s.harbour.credit := by
  unfold releaseOne
  rw [hd, hs]
  dsimp only
  rw [if_neg (by simp), if_neg (by simp), writeCompletion_frame]
  exact ⟨mbxOf_setMbx_same hn, rfl⟩

/-- SYS_PROTOCOL leaves the credits, the counters and the commands held alone. -/
theorem protocolError_kept {n cause k : Nat} {s : State} :
    (protocolError n cause k s).harbour.credit = s.harbour.credit ∧ (protocolError n cause k s).harbour.refused = s.harbour.refused ∧
      (mbxOf (protocolError n cause k s) n).held = (mbxOf s n).held ∧ (protocolError n cause k s).mem = s.mem := by
  unfold protocolError
  dsimp only
  split
  · exact ⟨rfl, rfl, rfl, rfl⟩
  · rw [mbxOf_raise]
    exact ⟨by simp, by simp, mbxOf_setMbx_field Mbx.held (f := fun b => { b with protoSec := some _ }) (fun b => rfl) n s, by simp⟩

/-- CREDIT_MAX is at least one. -/
theorem creditMax_pos (b : Mbx) : 0 < creditMax b := by
  unfold creditMax
  dsimp only
  split
  · decide
  · rename_i h
    simp only [beq_iff_eq] at h
    omega

/-- A doorbell that passes every check holds the command that it reads (14 R518). -/
theorem doMbxDoorbell_of_accepted {n k : Nat} {p : List Byte} {s : State} (hp : s.harbour.pairPending = none) (hn : n ≤ 15) (hk : k < 64)
    (hr : s.harbour.ready = true) (hq : s.harbour.quadSpi = false) (hen : bit (mbxOf s n).cfg.toNat 31 = true) (hf : (mbxOf s n).faulted = false)
    (hsl : k < (mbxOf s n).slots) (hh : (mbxOf s n).held = []) (hc : 0 < s.harbour.credit) (hl : n < s.harbour.mbxs.length) :
    ∃ t, doMbxDoorbell n k (some p) s = releaseAll n t ∧ mbxOf t n = { mbxOf s n with held := [holdCommand (mbxOf s n) k p] } ∧
      n < t.harbour.mbxs.length ∧ t.harbour.credit = s.harbour.credit - 1 ∧ t.mem = s.mem := by
  have hnone : holdsSlot (mbxOf s n) k = false := by simp [holdsSlot, hh]
  have hmax : ¬ creditMax (mbxOf s n) ≤ heldCredits (mbxOf s n) := by
    have := creditMax_pos (mbxOf s n)
    simp [heldCredits, hh]
    omega
  unfold doMbxDoorbell
  dsimp only
  rw [pairBreak_of_none hp, Nat.mod_eq_of_lt hk, if_neg (by simpa using hn), if_neg (by simp [hr]), if_neg (by simp [hen, hf]),
    if_neg (by omega), if_neg (by simp [hnone]), if_neg (by simp [hmax]; omega), if_neg (by simp [hq])]
  refine ⟨_, rfl, ?_, ?_, rfl, rfl⟩
  · refine (mbxOf_congr (s := setMbx n (fun b => { b with held := b.held ++ [holdCommand b k p] }) s) rfl n).trans ?_
    rw [mbxOf_setMbx_same hl, hh, List.nil_append]
  · exact (List.length_modify ..).symm ▸ hl

theorem mbxDoorbell_defined {n k : Nat} {p : List Byte} {s : State} (hp : s.harbour.pairPending = none) (hn : n ≤ 15) (hl : n < s.harbour.mbxs.length)
    (hk : k < 64) (hr : s.harbour.ready = true) (hq : s.harbour.quadSpi = false) (hen : bit (mbxOf s n).cfg.toNat 31 = true)
    (hf : (mbxOf s n).faulted = false) (hsl : k < (mbxOf s n).slots) (hh : (mbxOf s n).held = []) (hc : 0 < s.harbour.credit)
    (hop : opcodeDefined (uAt p 0 2) = true) :
    reaches (.mbxDoorbell n k (some p)) s (fun u => (mbxOf u n).held = [holdCommand (mbxOf s n) k p] ∧ u.harbour.credit = s.harbour.credit - 1 ∧
      (mbxOf u n).released = (mbxOf s n).released ∧ u.mem = s.mem) := by
  refine reaches_done rfl ?_
  obtain ⟨t, hdo, hm, htl, htc, hmem⟩ := doMbxDoorbell_of_accepted (p := p) hp hn hk hr hq hen hf hsl hh hc hl
  have hd : (holdCommand (mbxOf s n) k p).done = none := if_pos hop
  have hrel : releaseAll n t = setMbx n (fun b => { b with held := [holdCommand (mbxOf s n) k p] }) t := releaseAll_of_waiting (congrArg Mbx.held hm) hd
  rw [mbxOf_settle, settle_harbour_credit, settle_mem, hdo, hrel, mbxOf_setMbx_same htl, hm]
  exact ⟨rfl, htc, rfl, hmem⟩

theorem mbxDoorbell_undefined {n k : Nat} {p : List Byte} {s : State} (hp : s.harbour.pairPending = none) (hn : n ≤ 15) (hl : n < s.harbour.mbxs.length)
    (hk : k < 64) (hr : s.harbour.ready = true) (hq : s.harbour.quadSpi = false) (hen : bit (mbxOf s n).cfg.toNat 31 = true)
    (hf : (mbxOf s n).faulted = false) (hsl : k < (mbxOf s n).slots) (hh : (mbxOf s n).held = []) (hc : 0 < s.harbour.credit) (hc64 : s.harbour.credit ≤ 64)
    (hop : opcodeDefined (uAt p 0 2) = false) :
    reaches (.mbxDoorbell n k (some p)) s (fun u => (mbxOf u n).held = [] ∧ u.harbour.credit = s.harbour.credit ∧
      (mbxOf u n).released = ((mbxOf s n).released + 1) % 65536) := by
  refine reaches_done rfl ?_
  obtain ⟨t, hdo, hm, htl, htc, hmem⟩ := doMbxDoorbell_of_accepted (p := p) hp hn hk hr hq hen hf hsl hh hc hl
  have hd : (holdCommand (mbxOf s n) k p).done = some { opcode := uAt p 0 2, status := stBadOpcode, tag := uAt p 4 2, slot := k, result := [] } :=
    if_neg (by simp [hop])
  have hrel : releaseAll n t = releaseOne n (holdCommand (mbxOf s n) k p) (setMbx n (fun b => { b with held := [] }) t) :=
    releaseAll_of_done (congrArg Mbx.held hm) (congrArg Option.isSome hd)
  obtain ⟨hmbx, hcr⟩ := releaseOne_effect (s := setMbx n (fun b => { b with held := [] }) t) (h := holdCommand (mbxOf s n) k p)
    (by exact (List.length_modify ..).symm ▸ htl) hd rfl
  have hcredit : (if (holdCommand (mbxOf s n) k p).credit then min 64 (t.harbour.credit + 1) else t.harbour.credit) = s.harbour.credit := by
    rw [if_pos (by rfl), htc]
    omega
  rw [mbxOf_settle, settle_harbour_credit, hdo, hrel, hmbx, mbxOf_setMbx_same htl, hm]
  exact ⟨rfl, hcr.trans hcredit, rfl⟩

/-- A doorbell without a free credit counts among the refused (14 R518). -/
theorem mbxDoorbell_refused {n k : Nat} {r : Option (List Byte)} {s : State} (hp : s.harbour.pairPending = none) (hn : n ≤ 15) (hk : k < 64)
    (hr : s.harbour.ready = true) (hen : bit (mbxOf s n).cfg.toNat 31 = true) (hf : (mbxOf s n).faulted = false)
    (hsl : k < (mbxOf s n).slots) (hh : holdsSlot (mbxOf s n) k = false) (hc : s.harbour.credit = 0) :
    reaches (.mbxDoorbell n k r) s (fun u => u.harbour.refused = (s.harbour.refused + 1) % 2 ^ 32 ∧ u.harbour.refusedTotal = (s.harbour.refusedTotal + 1) % 2 ^ 32) := by
  refine reaches_done rfl ?_
  rw [settle_harbour_refused, settle_harbour_refusedTotal]
  unfold doMbxDoorbell
  dsimp only
  rw [pairBreak_of_none hp, Nat.mod_eq_of_lt hk, if_neg (by simpa using hn), if_neg (by simp [hr]), if_neg (by simp [hen, hf]),
    if_neg (by omega), if_neg (by simp [hh]), if_pos (by simp [hc])]
  obtain ⟨o, e, b, c, hrel⟩ := releaseAll_frame n { (setMbx n (fun b => { b with held := b.held ++ [{ slot := k, credit := false, done := some { opcode := 0, status := stNoCredit, tag := 0, slot := k, result := [] } }] }) s) with
    harbour := { (setMbx n (fun b => { b with held := b.held ++ [{ slot := k, credit := false, done := some { opcode := 0, status := stNoCredit, tag := 0, slot := k, result := [] } }] }) s).harbour with
      refused := (s.harbour.refused + 1) % 2 ^ 32, refusedTotal := (s.harbour.refusedTotal + 1) % 2 ^ 32 } }
  exact hrel ▸ ⟨rfl, rfl⟩

theorem mbxDoorbell_notReady {n k : Nat} {r : Option (List Byte)} {s : State} (hp : s.harbour.pairPending = none) (hn : n ≤ 15) (hr : s.harbour.ready = false) :
    reaches (.mbxDoorbell n k r) s (fun u => u.harbour.credit = s.harbour.credit ∧ u.harbour.refused = s.harbour.refused ∧
      (mbxOf u n).held = (mbxOf s n).held ∧ u.mem = s.mem) := by
  refine reaches_done rfl ?_
  have hdo : doMbxDoorbell n k r s = protocolError n 0 (k % 64) s := by
    unfold doMbxDoorbell
    dsimp only
    rw [pairBreak_of_none hp, if_neg (by simpa using hn), if_pos (by simp [hr])]
  rw [mbxOf_settle, settle_harbour_credit, settle_harbour_refused, settle_mem, hdo]
  exact protocolError_kept

/-- The link goes down: the mailboxes start over, completions of the commands held are discarded (14 R502). -/
theorem pcieLinkChange_down {rate lanes : Nat} {s : State} (hq : s.harbour.quadSpi = false) :
    reaches (.pcieLinkChange false rate lanes) s (fun u => u.harbour.linkUp = false ∧ u.harbour.intMask = 0xFFFFFFFF ∧ u.harbour.s0.words = [] ∧
      u.harbour.s0.packets = s.harbour.s0.packets ∧ u.harbour.credit = s.harbour.credit ∧ u.harbour.mbxs.length = s.harbour.mbxs.length ∧
      (∀ b ∈ u.harbour.mbxs, b.cfg = 6 ∧ ∀ h ∈ b.held, h.discard = true)) := by
  refine reaches_done rfl ?_
  have hdo : doPcieLinkChange false rate lanes s = raise { code := 0x0104, sev := 2, p0 := 0, p1 := rate % 2 ^ 32, p2 := lanes % 2 ^ 32 }
      { s with harbour := { linkReset s.recorder.ring s.harbour with linkUp := false, linkRate := rate, linkLanes := lanes } } := by
    unfold doPcieLinkChange
    rw [if_neg (by simp [hq])]
    rfl
  have hm : ∀ b ∈ (linkReset s.recorder.ring s.harbour).mbxs, b.cfg = 6 ∧ ∀ h ∈ b.held, h.discard = true := by
    intro b hb
    obtain ⟨b0, -, rfl⟩ := List.mem_map.1 hb
    refine ⟨rfl, fun h hh => ?_⟩
    obtain ⟨h0, -, rfl⟩ := List.mem_map.1 hh
    rfl
  rw [hdo]
  obtain ⟨r, j, q, hr⟩ := raise_shape { code := 0x0104, sev := 2, p0 := 0, p1 := rate % 2 ^ 32, p2 := lanes % 2 ^ 32 }
    { s with harbour := { linkReset s.recorder.ring s.harbour with linkUp := false, linkRate := rate, linkLanes := lanes } }
  rw [hr]
  obtain ⟨o, r0, r1, c, hs⟩ := settle_pins { s with recorder := r, journal := j, harbour := { linkReset s.recorder.ring s.harbour with linkUp := false, linkRate := rate, linkLanes := lanes, s1 := q } }
  rw [hs]
  exact ⟨rfl, rfl, rfl, rfl, rfl, List.length_map .., hm⟩

theorem sendMsi_harbour (ks : List Nat) (s : State) : (sendMsi ks s).harbour = s.harbour := sendMsi_touches.same .harbour (by decide)

theorem mbxAck_mbx {n : Nat} {v : Word} {s : State} (hp : s.harbour.pairPending = none) (hr : s.harbour.ready = true) (hn : n < s.harbour.mbxs.length) :
    reaches (.mbxAck n v) s (fun u => mbxOf u n = { mbxOf s n with ack := v.toNat % 65536 } ∧ u.mem = s.mem) := by
  refine reaches_done rfl ?_
  rw [mbxOf_settle, settle_mem, doMbxAck, barWrite_of_ready hp hr, resend]
  refine ⟨?_, sendMsi_touches.same .mem (by decide)⟩
  rw [mbxOf_congr (congrArg HarbourSt.mbxs (sendMsi_harbour _ _)), mbxOf_setMbx_same hn]

theorem evtAck_set {v : Word} {s : State} (hp : s.harbour.pairPending = none) (hr : s.harbour.ready = true) :
    reaches (.evtAck v) s (fun u => u.harbour.evtAck = v.toNat % 65536 ∧ u.recorder = s.recorder) := by
  refine reaches_done rfl ?_
  rw [settle_harbour_evtAck, settle_recorder, doEvtAck, barWrite_of_ready hp hr, resend, sendMsi_harbour]
  exact ⟨rfl, sendMsi_touches.same .recorder (by decide)⟩

/-- A discarded packet leaves S_0 empty of words and counts twice (14 R525, R533). -/
theorem s0Discard_s0 (cause : Nat) (s : State) : ∃ o c, (s0Discard cause s).harbour.s0 = { s.harbour.s0 with
    words := [], drops := (s.harbour.s0.drops + 1) % 2 ^ 32, discarded := (s.harbour.s0.discarded + 1) % 2 ^ 32, ovrSec := o, ovrCount := c } := by
  unfold s0Discard raiseIf
  dsimp only
  split
  · rw [raise_harbour_s0]
    exact ⟨_, _, rfl⟩
  · exact ⟨_, _, rfl⟩

/-- The streams of a settled state are the state's, up to the ready pins. -/
theorem settle_streams (s : State) : ∃ r0 r1, (settle s).harbour.s0 = { s.harbour.s0 with rdy := r0 } ∧ (settle s).harbour.s1 = { s.harbour.s1 with rdy := r1 } := by
  obtain ⟨o, r0, r1, c, h⟩ := settle_pins s
  exact ⟨r0, r1, by rw [h], by rw [h]⟩

theorem sData0_room {v : Word} {s : State} (hp : s.harbour.pairPending = none) (hr : s.harbour.ready = true) (hen : s.harbour.s0.en = true)
    (ho : s.harbour.s0.overrun = false) (hfree : 4 ≤ s0Free s.harbour.s0) :
    reaches (.sData0 v) s (fun u => u.harbour.s0.words = s.harbour.s0.words ++ [v] ∧ u.harbour.s0.packets = s.harbour.s0.packets ∧ u.harbour.s0.drops = s.harbour.s0.drops) := by
  refine reaches_done rfl ?_
  have hw : s0Word v s = { s with harbour := { s.harbour with s0 := { s.harbour.s0 with words := s.harbour.s0.words ++ [v] } } } := by
    unfold s0Word
    dsimp only
    rw [if_neg (by simp [hen, ho]), if_neg (by omega)]
  obtain ⟨r0, r1, h0, -⟩ := settle_streams (barWrite (s0Word v) s)
  rw [h0, barWrite_of_ready hp hr, hw]
  exact ⟨rfl, rfl, rfl⟩

theorem sData0_full {v : Word} {s : State} (hp : s.harbour.pairPending = none) (hr : s.harbour.ready = true) (hen : s.harbour.s0.en = true)
    (ho : s.harbour.s0.overrun = false) (hfree : s0Free s.harbour.s0 < 4) :
    reaches (.sData0 v) s (fun u => u.harbour.s0.words = [] ∧ u.harbour.s0.overrun = true ∧ u.harbour.s0.drops = (s.harbour.s0.drops + 1) % 2 ^ 32 ∧
      u.harbour.s0.packets = s.harbour.s0.packets) := by
  refine reaches_done rfl ?_
  have hw : s0Word v s = { s0Discard 0 s with harbour := { (s0Discard 0 s).harbour with s0 := { (s0Discard 0 s).harbour.s0 with overrun := true } } } := by
    unfold s0Word
    dsimp only
    rw [if_neg (by simp [hen, ho]), if_pos hfree]
  obtain ⟨r0, r1, h0, -⟩ := settle_streams (barWrite (s0Word v) s)
  obtain ⟨o, c, hd⟩ := s0Discard_s0 0 s
  rw [h0, barWrite_of_ready hp hr, hw, hd]
  exact ⟨rfl, rfl, rfl, rfl⟩

theorem s0Store_kept (p : Packet) (x : Stream0) :
    (s0Store p x).packets.map (·.2.2) = x.packets.map (·.2.2) ++ [p] ∧ (s0Store p x).words = [] ∧ (s0Store p x).accepted = (x.accepted + 1) % 2 ^ 32 := by
  refine ⟨?_, rfl, rfl⟩
  unfold s0Store
  simp

theorem sEnd0_packet {v : Word} {s : State} {b : List Byte} (hp : s.harbour.pairPending = none) (hr : s.harbour.ready = true) (hen : s.harbour.s0.en = true)
    (ho : s.harbour.s0.overrun = false) (hw : s.harbour.s0.words ≠ []) (hlen : 4 ≤ v.toNat % 2 ^ 24)
    (hcount : s.harbour.s0.words.length - 1 = (v.toNat % 2 ^ 24 + 3) / 4)
    (hb : b = ((s.harbour.s0.words.drop 1).map (fun w => le 4 w.toNat)).flatten.take (v.toNat % 2 ^ 24)) (hty : s0Types.contains (uAt b 0 1) = true) :
    reaches (.sEnd0 v) s (fun u => u.harbour.s0.packets.map (·.2.2) = s.harbour.s0.packets.map (·.2.2) ++ [{ type := uAt b 0 1, flags := uAt b 1 1, seq := uAt b 2 2, payload := b.drop 4 }] ∧
      u.harbour.s0.words = [] ∧ u.harbour.s0.accepted = (s.harbour.s0.accepted + 1) % 2 ^ 32) := by
  refine reaches_done rfl ?_
  have he : s0End v s = { s with harbour := { s.harbour with
      s0 := s0Store { type := uAt b 0 1, flags := uAt b 1 1, seq := uAt b 2 2, payload := b.drop 4 } s.harbour.s0 } } := by
    unfold s0End
    dsimp only
    rw [if_neg (by simp [hen]), if_neg (by simp [ho]), if_neg (by simp [hw, hcount]; omega), ← hb, if_neg (by simpa using hty)]
  obtain ⟨r0, r1, h0, -⟩ := settle_streams (barWrite (s0End v) s)
  rw [h0, barWrite_of_ready hp hr, he]
  exact s0Store_kept _ _

theorem sEnd0_empty {v : Word} {s : State} (hp : s.harbour.pairPending = none) (hr : s.harbour.ready = true) (hen : s.harbour.s0.en = true)
    (ho : s.harbour.s0.overrun = false) (hw : s.harbour.s0.words = []) :
    reaches (.sEnd0 v) s (fun u => u.harbour.s0.drops = (s.harbour.s0.drops + 1) % 2 ^ 32 ∧ u.harbour.s0.discarded = (s.harbour.s0.discarded + 1) % 2 ^ 32 ∧
      u.harbour.s0.packets = s.harbour.s0.packets) := by
  refine reaches_done rfl ?_
  have he : s0End v s = s0Discard 1 s := by
    unfold s0End
    dsimp only
    rw [if_neg (by simp [hen]), if_neg (by simp [ho]), if_pos (by simp [hw])]
  obtain ⟨r0, r1, h0, -⟩ := settle_streams (barWrite (s0End v) s)
  obtain ⟨o, c, hd⟩ := s0Discard_s0 1 s
  rw [h0, barWrite_of_ready hp hr, he, hd]
  exact ⟨rfl, rfl, rfl⟩

theorem sData1_word {b t : Nat} {p : Packet} {r : List (Nat × Nat × Packet)} {s : State} (hp : s.harbour.s1.packets = (b, t, p) :: r) :
    reaches .sData1 s (fun u => u.harbour.readData = BitVec.ofNat 32 (uAt (pktBytes p) (4 * s.harbour.s1.readWords) 4) ∧
      u.harbour.s1.readWords = (if pktSize p.payload ≤ 4 * (s.harbour.s1.readWords + 1) then 0 else s.harbour.s1.readWords + 1) ∧
      u.harbour.s1.packets = if pktSize p.payload ≤ 4 * (s.harbour.s1.readWords + 1) then r else s.harbour.s1.packets) := by
  refine reaches_done rfl ?_
  obtain ⟨r0, r1, -, h1⟩ := settle_streams (s1Read s)
  rw [h1, settle_harbour_readData]
  unfold s1Read
  dsimp only
  simp only [hp, decide_eq_true_eq, and_self]

theorem sData1_empty {s : State} (hp : s.harbour.s1.packets = []) :
    reaches .sData1 s (fun u => u.harbour.readData = 0 ∧ u.harbour.s1.packets = [] ∧ u.harbour.s1.readWords = s.harbour.s1.readWords) := by
  refine reaches_done rfl ?_
  obtain ⟨r0, r1, -, h1⟩ := settle_streams (s1Read s)
  rw [h1, settle_harbour_readData]
  unfold s1Read
  dsimp only
  simp only [hp, and_self]

theorem clear_s0 {s : State} (hp : s.harbour.pairPending = none) (hr : s.harbour.ready = true) (hen : s.harbour.s0.en = false) :
    reaches (.clear 0) s (fun u => u.harbour.s0.packets = [] ∧ u.harbour.s0.words = [] ∧ u.harbour.s1.packets = s.harbour.s1.packets) := by
  refine reaches_done rfl ?_
  obtain ⟨r0, r1, h0, h1⟩ := settle_streams (barWrite (streamClear 0) s)
  rw [h0, h1, barWrite_of_ready hp hr, streamClear, if_pos (by rfl), if_neg (by simp [hen])]
  exact ⟨rfl, rfl, rfl⟩

theorem clear_enabled {s : State} (hp : s.harbour.pairPending = none) (hr : s.harbour.ready = true) (hen : s.harbour.s0.en = true) :
    exec (.clear 0) s = .next (settle s) := by
  show done (barWrite (streamClear 0) s) = done s
  rw [barWrite_of_ready hp hr, streamClear, if_pos (by rfl), if_pos hen]

theorem abort_packet {s : State} (hp : s.harbour.pairPending = none) (hr : s.harbour.ready = true) (hw : s.harbour.s0.words ≠ []) :
    reaches .abort s (fun u => u.harbour.s0.words = [] ∧ u.harbour.s0.drops = (s.harbour.s0.drops + 1) % 2 ^ 32 ∧ u.harbour.s0.packets = s.harbour.s0.packets) := by
  refine reaches_done rfl ?_
  obtain ⟨r0, r1, h0, -⟩ := settle_streams (barWrite streamAbort s)
  obtain ⟨o, c, hd⟩ := s0Discard_s0 2 s
  rw [h0, barWrite_of_ready hp hr, streamAbort]
  dsimp only
  rw [if_neg (by simpa using hw), hd]
  exact ⟨rfl, rfl, rfl⟩

theorem drop_packet {s : State} (hp : s.harbour.pairPending = none) (hr : s.harbour.ready = true) (hw : s.harbour.s1.readWords ≠ 0) :
    reaches .drop s (fun u => u.harbour.s1.packets = s.harbour.s1.packets.drop 1 ∧ u.harbour.s1.readWords = 0) := by
  refine reaches_done rfl ?_
  obtain ⟨r0, r1, -, h1⟩ := settle_streams (barWrite streamDrop s)
  rw [h1, barWrite_of_ready hp hr, streamDrop, if_neg (by simpa using hw)]
  exact ⟨rfl, rfl⟩

/-- Settles O49: a mailbox's rows through `releaseAll`, the streams' through what settling leaves of them. -/
theorem harbourEvents : Obligations.HarbourEvents := by
  unfold Obligations.HarbourEvents
  refine ⟨fun rate lanes s hq => pcieLinkChange_down hq, fun up rate lanes s hq => ?_,
    fun n k p s hp hn hl hk hr hq hen hf hsl hh hc hop => mbxDoorbell_defined hp hn hl hk hr hq hen hf hsl hh hc hop,
    fun n k p s hp hn hl hk hr hq hen hf hsl hh hc hc64 hop => mbxDoorbell_undefined hp hn hl hk hr hq hen hf hsl hh hc hc64 hop,
    fun n k r s hp hn _ hk hr hen hf hsl hh hc => mbxDoorbell_refused hp hn hk hr hen hf hsl hh hc,
    fun n k r s hp hn hr => mbxDoorbell_notReady hp hn hr, fun n v s hp hr hn => mbxAck_mbx hp hr hn, fun v s hp hr => evtAck_set hp hr,
    fun n v s hp hr => ?_, fun v s hp hr hen ho hfree => sData0_room hp hr hen ho hfree, fun v s hp hr hen ho hfree => sData0_full hp hr hen ho hfree,
    fun v s b hp hr hen ho hw hlen hcount hb hty => sEnd0_packet hp hr hen ho hw hlen hcount hb hty,
    fun v s hp hr hen ho hw => sEnd0_empty hp hr hen ho hw, fun b t p r s hp hlt => ?_, fun b t p r s hp hle => ?_, fun s hp => sData1_empty hp,
    fun s hp hr hen => clear_s0 hp hr hen, fun s hp hr hen => clear_enabled hp hr hen, fun s hp hr hw => abort_packet hp hr hw,
    fun s hp hr hw => drop_packet hp hr hw, fun b t p r s hp => ?_⟩
  case refine_1 =>
    show done (doPcieLinkChange up rate lanes s) = done s
    rw [doPcieLinkChange, if_pos hq]
  case refine_2 =>
    show done (doMbxCfgWrite n v s) = done _
    rw [doMbxCfgWrite, barWrite_of_ready hp hr]
  case refine_3 =>
    obtain ⟨u, hu, hdata, hread, hpk⟩ := sData1_word (s := s) hp
    rw [if_neg (by omega)] at hread hpk
    exact ⟨u, hu, hdata, hread, hpk⟩
  case refine_4 =>
    obtain ⟨u, hu, -, hread, hpk⟩ := sData1_word (s := s) hp
    rw [if_pos hle] at hread hpk
    exact ⟨u, hu, hread, hpk⟩
  case refine_5 =>
    show done (doPacketAge s) = done _
    unfold doPacketAge
    rw [hp]

end Sys2Proof.Proofs

namespace Sys2Proof.Proofs
open Sys2Proof Sys2Proof.Machine Sys2Proof.Safety

/-! ## Harbour: what halting the axes leaves of it -/

/-- Harbour is the same but for the mailboxes, the free credits and the stream to the host. -/
def RegistersKept (s t : State) : Prop := ∃ b c q, t.harbour = { s.harbour with mbxs := b, credit := c, s1 := q }

theorem RegistersKept.of_eq {s t : State} (h : t.harbour = s.harbour) : RegistersKept s t := ⟨s.harbour.mbxs, s.harbour.credit, s.harbour.s1, h⟩

theorem RegistersKept.trans {s t u : State} (h : RegistersKept s t) (h' : RegistersKept t u) : RegistersKept s u := by
  obtain ⟨b, c, q, h⟩ := h
  obtain ⟨b', c', q', h'⟩ := h'
  exact ⟨b', c', q', by rw [h', h]⟩

theorem RegistersKept.foldl {α : Type} {f : State → α → State} (hf : ∀ u a, RegistersKept u (f u a)) (l : List α) (s : State) : RegistersKept s (l.foldl f s) := by
  induction l generalizing s with
  | nil => exact .of_eq rfl
  | cons a l ih => exact (hf s a).trans (ih _)

theorem complete_registersKept {m k op tag st : Nat} {r : List Byte} {s : State} : RegistersKept s (complete m k op tag st r s) := by
  obtain ⟨o, e, b, c, h⟩ := complete_shape m k op tag st r s
  exact ⟨b, c, s.harbour.s1, by rw [h]⟩

theorem raise_registersKept {e : Ev} {s : State} : RegistersKept s (raise e s) := by
  obtain ⟨r, j, q, h⟩ := raise_shape e s
  exact ⟨s.harbour.mbxs, s.harbour.credit, q, by rw [h]⟩

theorem setEn_registersKept {n : Nat} {b : Bool} {s : State} : RegistersKept s (setEn n b s) := .of_eq (setEn_touches.same .harbour (by decide))

theorem setAx_registersKept {n : Nat} {f : Axis → Axis} {s : State} : RegistersKept s (setAx n f s) := .of_eq rfl

theorem standstill_registersKept {n t : Nat} {s : State} : RegistersKept s (standstill n t s) := by
  refine .trans ?_ raise_registersKept
  split
  · exact setAx_registersKept.trans setEn_registersKept
  · exact setAx_registersKept

theorem abortMoves_registersKept {n : Nat} {s : State} : RegistersKept s (abortMoves n s) :=
  setAx_registersKept.trans (.foldl (fun _ _ => complete_registersKept) _ _)

theorem haltAxis_registersKept {n cause decel : Nat} {s : State} : RegistersKept s (haltAxis n cause decel s) := by
  unfold haltAxis
  extract_lets t a s1 s2 s3
  have ht : RegistersKept s t := abortMoves_registersKept
  have hset : ∀ f, RegistersKept s (setAx n f t) := fun f => ht.trans setAx_registersKept
  have h3 : RegistersKept s s3 := (hset _).trans raise_registersKept
  split
  · split
    · exact (hset _).trans standstill_registersKept
    · exact hset _
  · exact hset _
  · split
    · exact h3.trans standstill_registersKept
    · exact h3
  · exact ht
  · split
    · exact (hset _).trans setEn_registersKept
    · exact ht

theorem haltAxes_registersKept {cause : Nat} {s : State} : RegistersKept s (haltAxes cause s) := .foldl (fun _ _ => haltAxis_registersKept) _ _

/-! ## The indirect window -/

theorem indDataRead_unlatched {s : State} (hr : s.harbour.ready = true) (hl : s.harbour.indLatch = none) (h64 : s.harbour.indAddr.toNat % 64 ≠ 0)
    (h4 : s.harbour.indAddr.toNat % 4 = 0) :
    reaches .indDataRead s (fun u => u.harbour.readData = BitVec.ofNat 32 (indWord s s.harbour.indAddr.toNat) ∧
      u.harbour.indAddr = (if s.harbour.autoInc then s.harbour.indAddr + 4 else s.harbour.indAddr) ∧ u.mem = s.mem) := by
  refine reaches_done rfl ?_
  have ha : s.harbour.indAddr.toNat / 4 * 4 = s.harbour.indAddr.toNat := by omega
  have hread : indRead s = { s with harbour := indNext { s.harbour with readData := BitVec.ofNat 32 (indWord s s.harbour.indAddr.toNat) } } := by
    unfold indRead latchAt
    rw [if_neg (by simp [hr])]
    dsimp only
    rw [ha, if_neg (by simpa using h64), hl]
  rw [settle_harbour_readData, settle_harbour_indAddr, settle_mem, hread]
  unfold indNext
  dsimp only
  split
  · exact ⟨rfl, rfl, rfl⟩
  · exact ⟨rfl, rfl, rfl⟩

theorem indDataRead_latched {s : State} {w : List Word} (hr : s.harbour.ready = true) (h64 : s.harbour.indAddr.toNat % 64 ≠ 0)
    (hl : s.harbour.indLatch = some (s.harbour.indAddr.toNat / 64, w)) (h4 : s.harbour.indAddr.toNat % 4 = 0) :
    reaches .indDataRead s (fun u => u.harbour.readData = w.getD (s.harbour.indAddr.toNat % 64 / 4) 0 ∧ u.harbour.indLatch = s.harbour.indLatch) := by
  refine reaches_done rfl ?_
  have ha : s.harbour.indAddr.toNat / 4 * 4 = s.harbour.indAddr.toNat := by omega
  have hread : indRead s = { s with harbour := indNext { s.harbour with indLatch := some (s.harbour.indAddr.toNat / 64, w), readData := w.getD (s.harbour.indAddr.toNat % 64 / 4) 0 } } := by
    unfold indRead latchAt
    rw [if_neg (by simp [hr])]
    dsimp only
    rw [ha, if_neg (by simpa using h64), hl]
    dsimp only
    rw [if_pos (by simp)]
  rw [settle_harbour_readData, settle_harbour_indLatch, hread, hl]
  unfold indNext
  dsimp only
  split
  · exact ⟨rfl, rfl⟩
  · exact ⟨rfl, rfl⟩

/-- A write through the window changes memory in the mailbox areas alone (14 R508, R509). -/
theorem indWrite_effect (v : Word) (s : State) :
    (indWrite v s).mem = (if inMailbox s (s.harbour.indAddr.toNat / 4 * 4) then memPuts s.mem (s.harbour.indAddr.toNat / 4 * 4) (le 4 v.toNat) else s.mem) ∧
      (indWrite v s).harbour.indAddr = (if s.harbour.autoInc then s.harbour.indAddr + 4 else s.harbour.indAddr) := by
  unfold indWrite indNext
  dsimp only
  by_cases hm : inMailbox s (s.harbour.indAddr.toNat / 4 * 4) = true <;> by_cases hi : s.harbour.autoInc = true <;> simp [hm, hi]

theorem indDataWrite_mailbox {v : Word} {s : State} (hp : s.harbour.pairPending = none) (hr : s.harbour.ready = true)
    (hm : inMailbox s (s.harbour.indAddr.toNat / 4 * 4) = true) :
    reaches (.indDataWrite v) s (fun u => u.mem = memPuts s.mem (s.harbour.indAddr.toNat / 4 * 4) (le 4 v.toNat) ∧
      u.harbour.indAddr = (if s.harbour.autoInc then s.harbour.indAddr + 4 else s.harbour.indAddr)) := by
  refine reaches_done rfl ?_
  obtain ⟨hmem, haddr⟩ := indWrite_effect v s
  rw [if_pos hm] at hmem
  rw [settle_mem, settle_harbour_indAddr, barWrite_of_ready hp hr]
  exact ⟨hmem, haddr⟩

theorem indDataWrite_elsewhere {v : Word} {s : State} (hp : s.harbour.pairPending = none) (hr : s.harbour.ready = true)
    (hm : inMailbox s (s.harbour.indAddr.toNat / 4 * 4) = false) : reaches (.indDataWrite v) s (fun u => u.mem = s.mem) := by
  refine reaches_done rfl ?_
  obtain ⟨hmem, -⟩ := indWrite_effect v s
  rw [if_neg (by simp [hm])] at hmem
  rw [settle_mem, barWrite_of_ready hp hr]
  exact hmem

/-! ## Protected pairs, restarts and DOMAIN_EN -/

theorem pairMismatch_votes {off cause : Nat} {s : State} : (pairMismatch off cause s).votes = s.votes := pairMismatch_touches.same .votes (by decide)

theorem pairValueWrite_first {off : Nat} {v : Word} {s : State} (ho : off = 0x2000 ∨ off = 0x2008 ∨ off = 0x2010) (hp : s.harbour.pairPending = none) :
    reaches (.pairValueWrite off v) s (fun u => u.harbour.pairPending = some (off, v, s.time.cyc) ∧ u.harbour.resetReq = s.harbour.resetReq ∧ u.votes = s.votes) := by
  refine reaches_done rfl ?_
  have hdo : doPairValueWrite off v s = { s with harbour := { s.harbour with pairPending := some (off, v, s.time.cyc) } } := by
    unfold doPairValueWrite
    rw [if_neg (by rcases ho with rfl | rfl | rfl <;> decide), hp]
  rw [settle_harbour_pairPending, settle_harbour_resetReq, settle_votes, hdo]
  exact ⟨rfl, rfl, rfl⟩

theorem pairTimeout_drops {off c : Nat} {v : Word} {s : State} (hp : s.harbour.pairPending = some (off, v, c)) :
    reaches .pairTimeout s (fun u => u.harbour.pairPending = none ∧ c + cycMs 1 ≤ u.time.cyc ∧ u.harbour.resetReq = s.harbour.resetReq ∧ u.votes = s.votes) := by
  refine reaches_done rfl ?_
  have hdo : doPairTimeout s = pairMismatch off 3 { runToCyc (c + cycMs 1) s with harbour := { (runToCyc (c + cycMs 1) s).harbour with pairPending := none } } := by
    unfold doPairTimeout
    rw [hp]
  have hh : (runToCyc (c + cycMs 1) s).harbour = s.harbour := runToCyc_touches.same .harbour (by decide)
  have hv : (runToCyc (c + cycMs 1) s).votes = s.votes := runToCyc_touches.same .votes (by decide)
  rw [settle_harbour_pairPending, settle_harbour_resetReq, settle_votes, settle_time, hdo, pairMismatch_votes]
  unfold pairMismatch
  rw [raise_harbour_pairPending, raise_harbour_resetReq, raise_time]
  exact ⟨rfl, le_runToCyc_cyc _ _, (congrArg HarbourSt.resetReq hh :), hv⟩

/-- The complement of the pending value within 1 ms makes the value take effect (14 R506). -/
theorem pairComplement_match {off c : Nat} {x v : Word} {s : State} (hp : s.harbour.pairPending = some (off, v, c)) (ht : s.time.cyc ≤ c + cycMs 1) (hx : x = ~~~ v) :
    pairComplement off x s = (some v, { s with harbour := { s.harbour with pairPending := none } }) := by
  unfold pairComplement
  rw [hp]
  dsimp only
  rw [if_neg (by simp), if_neg (by simpa using ht), if_pos (by simp [hx])]

theorem pairComplement_mismatch {off c : Nat} {x v : Word} {s : State} (hp : s.harbour.pairPending = some (off, v, c)) (ht : s.time.cyc ≤ c + cycMs 1) (hx : x ≠ ~~~ v) :
    pairComplement off x s = (none, pairMismatch off 0 { s with harbour := { s.harbour with pairPending := none } }) := by
  unfold pairComplement
  rw [hp]
  dsimp only
  rw [if_neg (by simp), if_neg (by simpa using ht), if_neg (by simpa using hx)]

theorem roleNext_match {c : Nat} {x v : Word} {s t : State} (hp : s.harbour.pairPending = some (0x2000, v, c)) (ht : s.time.cyc ≤ c + cycMs 1) (hx : x = ~~~ v)
    (hv : v.toNat % 4 ≤ 1)
    (hj : journalPut { type := 1, key := settingKey 1 0, payload := le 1 (v.toNat % 4), prio := 5, schema := s.update.schema } { s with harbour := { s.harbour with pairPending := none } } = (true, t)) :
    exec (.roleNext x) s = .next (settle t) := by
  show done (doRoleNext x s) = done t
  unfold doRoleNext
  rw [pairComplement_match hp ht hx]
  dsimp only
  rw [if_neg (by omega), hj]

theorem roleNext_mismatch {c : Nat} {x v : Word} {s : State} (hp : s.harbour.pairPending = some (0x2000, v, c)) (ht : s.time.cyc ≤ c + cycMs 1) (hx : x ≠ ~~~ v) :
    reaches (.roleNext x) s (fun u => u.harbour.pairPending = none ∧ u.votes = s.votes) := by
  refine reaches_done rfl ?_
  have hdo : doRoleNext x s = pairMismatch 0x2000 0 { s with harbour := { s.harbour with pairPending := none } } := by
    unfold doRoleNext
    rw [pairComplement_mismatch hp ht hx]
  rw [settle_harbour_pairPending, settle_votes, hdo, pairMismatch_votes, pairMismatch, raise_harbour_pairPending]
  exact ⟨rfl, rfl⟩

theorem doResetReq_match {c : Nat} {x v : Word} {s : State} (hp : s.harbour.pairPending = some (0x2008, v, c)) (ht : s.time.cyc ≤ c + cycMs 1) (hx : x = ~~~ v) :
    doResetReq x s = resetRequest v.toNat { s with harbour := { s.harbour with pairPending := none } } := by
  unfold doResetReq
  rw [pairComplement_match hp ht hx]

theorem resetReqIdle_set {c : Nat} {x v : Word} {s : State} (hp : s.harbour.pairPending = some (0x2008, v, c)) (ht : s.time.cyc ≤ c + cycMs 1) (hx : x = ~~~ v)
    (hv : v.toNat = 1) : reaches (.resetReqIdle x) s (fun u => u.harbour.resetReq = 1 ∧ u.harbour.resetLatchAt = none ∧ u.harbour.pairPending = none) := by
  refine reaches_done rfl ?_
  rw [settle_harbour_resetReq, settle_harbour_resetLatchAt, settle_harbour_pairPending, doResetReq_match hp ht hx, hv]
  exact ⟨rfl, rfl, rfl⟩

theorem resetReqAllOff_set {c : Nat} {x v : Word} {s : State} (hp : s.harbour.pairPending = some (0x2008, v, c)) (ht : s.time.cyc ≤ c + cycMs 1) (hx : x = ~~~ v)
    (hv : v.toNat = 2) :
    reaches (.resetReqAllOff x) s (fun u => u.harbour.resetReq = 2 ∧ u.harbour.resetLatchAt = some (latchBoundary s) ∧ u.harbour.pairPending = none) := by
  refine reaches_done rfl ?_
  rw [settle_harbour_resetReq, settle_harbour_resetLatchAt, settle_harbour_pairPending, doResetReq_match hp ht hx, hv]
  obtain ⟨b, k, q, hk⟩ := haltAxes_registersKept (cause := 0)
    (s := { s with harbour := { s.harbour with resetReq := 2, resetLatchAt := some (latchBoundary s), pairPending := none } })
  have hreq : resetRequest 2 { s with harbour := { s.harbour with pairPending := none } } =
      haltAxes 0 { s with harbour := { s.harbour with resetReq := 2, resetLatchAt := some (latchBoundary s), pairPending := none } } := rfl
  rw [hreq, hk]
  exact ⟨rfl, rfl, rfl⟩

theorem resetReqCancel_set {c : Nat} {x v : Word} {s : State} (hp : s.harbour.pairPending = some (0x2008, v, c)) (ht : s.time.cyc ≤ c + cycMs 1) (hx : x = ~~~ v)
    (hv : v.toNat = 0) : reaches (.resetReqCancel x) s (fun u => u.harbour.resetReq = 0 ∧ u.harbour.resetLatchAt = none) := by
  refine reaches_done rfl ?_
  rw [settle_harbour_resetReq, settle_harbour_resetLatchAt, doResetReq_match hp ht hx, hv]
  exact ⟨rfl, rfl⟩

theorem domainEn_accepted {c : Nat} {x v : Word} {s : State} (hp : s.harbour.pairPending = some (0x2010, v, c)) (ht : s.time.cyc ≤ c + cycMs 1) (hx : x = ~~~ v)
    (hv : domainRefused (v.toNat % 4096) s = false) :
    reaches (.domainEn x) s (fun u => u.harbour.domainNext = some (v.toNat % 4096) ∧ u.votes = s.votes) := by
  refine reaches_done rfl ?_
  have hsame : domainRefused (v.toNat % 4096) { s with harbour := { s.harbour with pairPending := none } } = domainRefused (v.toNat % 4096) s := rfl
  have hdo : doDomainEn x s = { s with harbour := { s.harbour with pairPending := none, domainNext := some (v.toNat % 4096) } } := by
    unfold doDomainEn
    rw [pairComplement_match hp ht hx]
    dsimp only
    rw [hsame, hv, if_neg (by simp)]
  rw [settle_harbour_domainNext, settle_votes, hdo]
  exact ⟨rfl, rfl⟩

/-- Domains follow an unchanged value by staying as they are (17 R605). -/
theorem domainsFollow_same (v : Nat) (s : State) : domainsFollow v v s = s := by
  have hfold : ∀ (l : List Nat), l.foldl (fun (st : State) k =>
      if bit v k && !bit v k then domainOff k st else if !bit v k && bit v k then domainOn k st else st) s = s := by
    intro l
    induction l with
    | nil => rfl
    | cons k l ih => rwa [List.foldl_cons, if_neg (by simp), if_neg (by simp)]
  exact hfold _

theorem domainEnApply_same {v : Nat} {s : State} (hn : s.harbour.domainNext = some v) (hst : s.power.st = .spring) (hv : s.votes.domains.value = v) :
    reaches .domainEnApply s (fun u => u.harbour.domainNext = none ∧ u.votes.domains = s.votes.domains.write v ∧ u.time = (runTo (nextBoundary s) s).time) := by
  refine reaches_done rfl ?_
  have hvotes : (runTo (nextBoundary s) s).votes = s.votes := runTo_touches.same .votes (by decide)
  have hdo : doDomainApply s = { runTo (nextBoundary s) s with
      votes := { s.votes with domains := s.votes.domains.write v }, harbour := { (runTo (nextBoundary s) s).harbour with domainNext := none } } := by
    unfold doDomainApply
    rw [hn]
    dsimp only
    rw [if_neg (by simp [hst]), hvotes, hv, domainsFollow_same]
  rw [settle_harbour_domainNext, settle_votes, settle_time, hdo]
  exact ⟨rfl, rfl, rfl⟩

theorem sysRestart_idle {s : State} (hr : s.harbour.resetReq = 1) (hi : engineIdle s = true) (hj : jobBusy s = false) :
    exec .sysRestart s = .next (settle (restart 2 (raise { code := 0x0109, sev := 2, src := 4, p0 := 1 } s))) := by
  show done (doSysRestart s) = done _
  unfold doSysRestart
  dsimp only
  rw [hr, if_pos (by rfl), if_pos (by simp [hi, hj])]

theorem sysRestart_nothing {s : State} (hr : s.harbour.resetReq = 0) : exec .sysRestart s = .next (settle s) := by
  show done (doSysRestart s) = done _
  unfold doSysRestart
  dsimp only
  rw [hr, if_neg (by decide), if_neg (by decide)]

/-- Before READY a register write breaks a pending pair and does nothing else (14 R501, R506). -/
theorem registerWrite_notReady {off o c : Nat} {v w : Word} {s : State} (hp : s.harbour.pairPending = some (o, w, c)) (hr : s.harbour.ready = false) :
    reaches (.registerWrite off v) s (fun u => u.harbour.pairPending = none ∧ u.harbour.intMask = s.harbour.intMask) := by
  refine reaches_done rfl ?_
  have hb : pairBreak s = pairMismatch o 4 { s with harbour := { s.harbour with pairPending := none } } := by
    unfold pairBreak
    rw [hp]
  have hnr : (pairMismatch o 4 { s with harbour := { s.harbour with pairPending := none } }).harbour.ready = false := by
    rw [pairMismatch, raise_harbour_ready, hr]
  have hw : barWrite (regWrite off v) s = pairMismatch o 4 { s with harbour := { s.harbour with pairPending := none } } := by
    unfold barWrite
    dsimp only
    rw [hb, if_neg (by simp [hnr])]
  rw [settle_harbour_pairPending, settle_harbour_intMask, hw, pairMismatch, raise_harbour_pairPending, raise_harbour_intMask]
  exact ⟨rfl, rfl⟩

/-! ## SYS commands -/

theorem sysNop_delay_zero {c : Cmd} {p : List Byte} {s : State} (h : uAt p 0 4 = 0) : sysNop c p s = ok s := by
  unfold sysNop
  dsimp only
  rw [if_neg (by simp [h]), if_pos (by simp [h])]

theorem sysNop_too_long {c : Cmd} {p : List Byte} {s : State} (h : 1000000 < uAt p 0 4) : sysNop c p s = refuse stBadParam s := by
  unfold sysNop
  dsimp only
  rw [if_pos (by simpa using h)]

theorem sysNop_waits {c : Cmd} {p : List Byte} {s : State} (h0 : 0 < uAt p 0 4) (h : uAt p 0 4 ≤ 1000000) :
    sysNop c p s = (.later, { s with harbour := { s.harbour with nops := s.harbour.nops ++ [(c.mbx, c.slot, s.time.cyc + cycUs (uAt p 0 4), c.tag.toNat)] } }) := by
  unfold sysNop
  dsimp only
  rw [if_neg (by simpa using h), if_neg (by simp; omega)]

theorem sysNopDelay_only {m k t tag : Nat} {s : State} (h : s.harbour.nops = [(m, k, t, tag)]) :
    exec (.sysNopDelay m k) s = .next (settle (complete m k 0x0102 tag stOk [] { runToCyc t s with harbour := { (runToCyc t s).harbour with nops := [] } })) := by
  show done (doSysNopDelay m k s) = done _
  have hrun : (runToCyc t s).harbour.nops = [(m, k, t, tag)] := (congrArg HarbourSt.nops (runToCyc_touches.same (s := s) .harbour (by decide))).trans h
  unfold doSysNopDelay
  rw [h, List.find?_cons_of_pos (by simp)]
  dsimp only
  rw [hrun, List.filter_cons_of_neg (by simp), List.filter_nil]

/-- Settles O50: a pair by `pairComplement_match`, the window by its word, the SYS commands by their bodies. -/
theorem harbourPairsAndSys : Obligations.HarbourPairsAndSys := by
  unfold Obligations.HarbourPairsAndSys
  refine ⟨⟨fun s hr hl h64 h4 => indDataRead_unlatched hr hl h64 h4, fun s w hr h64 hl h4 => indDataRead_latched hr h64 hl h4,
    fun v s hp hr hm => indDataWrite_mailbox hp hr hm, fun v s hp hr hm => indDataWrite_elsewhere hp hr hm,
    fun off v s ho hp => pairValueWrite_first ho hp, fun off c v s hp => pairTimeout_drops hp,
    fun x v c s t hp ht hx hv hj => roleNext_match hp ht hx hv hj, fun x v c s hp ht hx => roleNext_mismatch hp ht hx,
    fun x v c s hp ht hx hv => resetReqIdle_set hp ht hx hv, fun x v c s hp ht hx hv => resetReqAllOff_set hp ht hx hv,
    fun x v c s hp ht hx hv => resetReqCancel_set hp ht hx hv, fun x v c s hp ht hx hv => domainEn_accepted hp ht hx hv,
    fun s hr hi hj => sysRestart_idle hr hi hj, fun s hr => sysRestart_nothing hr, fun v s hn hst hv => domainEnApply_same hn hst hv,
    fun off v s hp hr => congrArg done (barWrite_of_ready hp hr (regWrite off v)), fun off o c v w s hp hr => registerWrite_notReady hp hr⟩,
    fun c s ha => answers_command rfl ha rfl, fun c s ha h => answers_commandC rfl ha (sysNop_delay_zero h), fun c s ha h => answers_commandC rfl ha (sysNop_too_long h),
    fun c s ha h0 h => later_commandC rfl ha (sysNop_waits h0 h), fun m k t tag s h => sysNopDelay_only h,
    fun c s ha => answers_command rfl ha rfl, fun c s ha => answers_command rfl ha rfl, fun c s ha => answers_command rfl ha rfl⟩

end Sys2Proof.Proofs

namespace Sys2Proof.Proofs
open Sys2Proof Sys2Proof.Machine Sys2Proof.Safety

/-! ## Records of the journal -/

/-- The journal holds no key blob that it did not hold before. -/
def NoNewBlob (s t : State) : Prop := ∀ r ∈ jRecs t.journal, r.type = 0x10 → r ∈ jRecs s.journal

theorem NoNewBlob.of_eq {s t : State} (h : t.journal = s.journal) : NoNewBlob s t := fun _ hr _ => h ▸ hr

theorem NoNewBlob.trans {s t u : State} (h : NoNewBlob s t) (h' : NoNewBlob t u) : NoNewBlob s u := fun r hr ht => h r (h' r hr ht) ht

theorem jCondition_recs (p : Nat) (j : JournalSt) : jRecs (jCondition p j).1 = jRecs j := rfl

/-- A record appended is the only new one (16 R590). -/
theorem jAppend_recs {r : JRec} {j j' : JournalSt} (h : jAppend r j = some j') : jRecs j' = jRecs j ++ [r] := by
  unfold jAppend at h
  dsimp only at h
  split at h
  next seg hlast =>
    split at h
    · obtain rfl := Option.some.inj h
      obtain ⟨l, hl⟩ := List.getLast?_eq_some_iff.1 hlast
      simp [jRecs, hl]
    · split at h
      · cases h
      · obtain rfl := Option.some.inj h
        simp [jRecs]
  next hlast =>
    split at h
    · cases h
    · obtain rfl := Option.some.inj h
      simp [jRecs, List.getLast?_eq_none_iff.1 hlast]

theorem jWrite_new {lc : Nat} {pfw : Bool} {w : JWrite} {j : JournalSt} {r : JRec} (hr : r ∈ jRecs (jWrite lc pfw w j).1) : r ∈ jRecs j ∨ r.type = w.type := by
  unfold jWrite at hr
  split at hr
  · exact .inl hr
  · split at hr
    · exact .inl hr
    · split at hr
      · exact .inl hr
      next hj =>
        rw [jCondition_recs, jAppend_recs hj, List.mem_append, List.mem_singleton] at hr
        exact hr.imp id (fun h => by rw [h])

section
variable {R : JournalSt → JournalSt → Prop} (hrefl : ∀ j, R j j) (htrans : ∀ {j k l}, R j k → R k l → R j l)
  (hw : ∀ lc pfw w j, w.type = 0x30 → R j (jWrite lc pfw w j).1)
include hrefl hw

theorem copyRec_journal (now : Nat) (x : EvRec) (s : State) : R s.journal (copyRec now x s).1.journal := by
  unfold copyRec
  dsimp only
  split
  · exact hrefl _
  · exact hw _ _ _ _ rfl

theorem raiseOnce_journal (now : Nat) (e : Ev) (s : State) : R s.journal (raiseOnce now e s).1.journal := by
  unfold raiseOnce
  split
  · exact hrefl _
  · split
    · extract_lets again y _ s1
      split
      · exact copyRec_journal hrefl hw now y s1
      · exact hrefl _
    · split
      next r x hx =>
        split
        · exact hrefl _
        · exact copyRec_journal hrefl hw now _ { s with recorder := r }

include htrans

/-- What every EVENT record keeps of the journal, raising events keeps (17 R620). -/
theorem raiseList_journal (n now : Nat) (es : List Ev) (s : State) : R s.journal (raiseList n now es s).journal := by
  induction n generalizing es s with
  | zero => exact hrefl _
  | succ n ih =>
    cases es with
    | nil => exact hrefl _
    | cons e r => exact htrans (raiseOnce_journal hrefl hw now e s) (ih _ _)

end

theorem raise_noNewBlob {e : Ev} {s : State} : NoNewBlob s (raise e s) := by
  refine raiseList_journal (R := fun j j' => ∀ r ∈ jRecs j', r.type = 0x10 → r ∈ jRecs j) (fun _ _ h _ => h) (fun h h' r hr ht => h r (h' r hr ht) ht) ?_ _ _ _ _
  intro lc pfw w j hw r hr ht
  refine (jWrite_new hr).resolve_right fun h => ?_
  omega

theorem undertowLate_noNewBlob {k dom due : Nat} {s : State} : NoNewBlob s (undertowLate k dom due s) := by
  unfold undertowLate raiseIf
  dsimp only
  split
  · exact .of_eq rfl
  · split
    · exact raise_noNewBlob (s := { s with power := _ })
    · exact .of_eq rfl

/-! ## Tamper alarms -/

/-- A wipe of retained SRAM keeps the tamper log and OTP (15 R558). -/
theorem wipeRetained_effect (s : State) : (wipeRetained s).sec = { s.sec with wiped := true } ∧ (wipeRetained s).recorder.ring = [] ∧
    (wipeRetained s).meter.ring = [] ∧ (wipeRetained s).knani.shadow = [] ∧ (wipeRetained s).otp = s.otp := ⟨rfl, rfl, rfl, rfl, rfl⟩

/-- An alarm that acts while the tamper epoch can still rise (15 R557, R558). -/
theorem tamperAlarm_acts {n mv : Nat} {s : State} (hl : sensorLive n s = true) (hq : coreQuiet n mv s = false) (ha : alarmActs s = true) (he : s.otp.tamperEpoch ≠ 64) :
    ∀ t, t = wipeVault { logAlarm n s with sec := { (logAlarm n s).sec with alarmed := true, debug := 0, debugKey := 0 } } →
      (s.power.st = .slack → tamperAlarm n mv s = wipeRetained (enablesTaken t)) ∧ (s.power.st = .neap → tamperAlarm n mv s = wipeRetained t) ∧
      (s.power.st = .spring → ∀ u, u = raise { code := 0x0E01, sev := 7, src := 5, p0 := n, p1 := 3, p2 := lifeCycle s } t →
        tamperAlarm n mv s = haltAxes 1 { u with sec := { u.sec with alarmAt := some (s.sec.alarmAt.getD s.time.cyc) } }) := by
  intro t ht
  unfold tamperAlarm
  rw [if_neg (by simp [hl, hq])]
  dsimp only
  rw [if_neg (by simp [ha]), if_neg (by simpa using he), ← ht]
  refine ⟨fun h => ?_, fun h => ?_, fun h u hu => ?_⟩
  · rw [h]
  · rw [h]
  · rw [h, hu]

theorem tamperAlarm_asleep {n mv : Nat} {s : State} (hl : sensorLive n s = true) (hq : coreQuiet n mv s = false) (ha : alarmActs s = true)
    (he : s.otp.tamperEpoch ≠ 64) (hst : s.power.st = .slack ∨ s.power.st = .neap) :
    reaches (.tamperAlarm ⟨n, mv⟩) s (fun u => u.sec.keys = [] ∧ u.sec.sessions = [] ∧ u.sec.alarmed = true ∧ u.sec.wiped = true ∧
      u.sec.log = (logAlarm n s).sec.log ∧ u.recorder.ring = [] ∧ u.meter.ring = [] ∧ u.knani.shadow = [] ∧ u.otp = s.otp) := by
  refine reaches_done rfl ?_
  rw [settle_sec, settle_recorder, settle_meter, settle_knani, settle_otp]
  obtain ⟨hslack, hneap, -⟩ := tamperAlarm_acts hl hq ha he _ rfl
  have hwipe : ∃ t, tamperAlarm n mv s = wipeRetained t ∧ t.sec = { (logAlarm n s).sec with keys := [], sessions := [], alarmed := true, debug := 0, debugKey := 0 } ∧
      t.otp = s.otp := by
    rcases hst with h | h
    · exact ⟨_, hslack h, rfl, rfl⟩
    · exact ⟨_, hneap h, rfl, rfl⟩
  obtain ⟨t, ht, hsec, hotp⟩ := hwipe
  obtain ⟨hwsec, hring, hmeter, hshadow, hwotp⟩ := wipeRetained_effect t
  rw [ht, hwsec, hsec]
  exact ⟨rfl, rfl, rfl, rfl, rfl, hring, hmeter, hshadow, hwotp.trans hotp⟩

theorem tamperAlarm_awake {n mv : Nat} {s : State} (hl : sensorLive n s = true) (hq : coreQuiet n mv s = false) (ha : alarmActs s = true)
    (he : s.otp.tamperEpoch ≠ 64) (hst : s.power.st = .spring) :
    reaches (.tamperAlarm ⟨n, mv⟩) s (fun u => u.sec.keys = [] ∧ u.sec.sessions = [] ∧ u.sec.alarmed = true ∧ u.sec.debug = 0 ∧
      u.sec.alarmAt = some (s.sec.alarmAt.getD s.time.cyc) ∧ u.sec.log = (logAlarm n s).sec.log ∧ u.otp = s.otp) := by
  refine reaches_done rfl ?_
  obtain ⟨-, -, hspring⟩ := tamperAlarm_acts hl hq ha he _ rfl
  rw [settle_sec, settle_otp, hspring hst _ rfl, haltAxes_touches.same .sec (by decide), haltAxes_otp]
  dsimp only
  rw [raise_sec, raise_otp]
  exact ⟨rfl, rfl, rfl, rfl, rfl, rfl, rfl⟩

theorem tamperAlarm_logged {n mv : Nat} {s : State} (hl : sensorLive n s = true) (hq : coreQuiet n mv s = false) (hlc : lifeCycle s = 0 ∨ lifeCycle s = 4) :
    exec (.tamperAlarm ⟨n, mv⟩) s = .next (settle (logAlarm n s)) := by
  show done (tamperAlarm n mv s) = done _
  have ha : alarmActs s = false := by rcases hlc with h | h <;> simp [alarmActs, h]
  unfold tamperAlarm
  rw [if_neg (by simp [hl, hq])]
  dsimp only
  rw [if_pos (by simp [ha])]

theorem tamperAlarm_none {n mv : Nat} {s : State} (h : sensorLive n s = false ∨ coreQuiet n mv s = true) :
    exec (.tamperAlarm ⟨n, mv⟩) s = .next (settle s) := by
  show done (tamperAlarm n mv s) = done s
  unfold tamperAlarm
  rw [if_pos (by simpa using h)]

/-! ## SAFE after a tamper alarm -/

/-- A domain that SAFE switches off holds nothing of the vault, of time or of power (17 R612). -/
theorem domainOff_kept {k : Nat} (hk : k ∈ [3, 4, 5, 6, 9, 10]) (s : State) :
    (domainOff k s).sec = s.sec ∧ (domainOff k s).time = s.time ∧ (domainOff k s).power = s.power := by
  simp only [List.mem_cons, List.not_mem_nil, or_false] at hk
  rcases hk with rfl | rfl | rfl | rfl | rfl | rfl
  all_goals exact ⟨rfl, rfl, rfl⟩

theorem domainsOff_kept {l : List Nat} (hl : ∀ k ∈ l, k ∈ [3, 4, 5, 6, 9, 10]) (s : State) : ∀ t, t = l.foldl (fun st k => domainOff k st) s →
    t.sec = s.sec ∧ t.time = s.time ∧ t.power = s.power := by
  rintro t rfl
  induction l generalizing s with
  | nil => exact ⟨rfl, rfl, rfl⟩
  | cons k l ih =>
    obtain ⟨hsec, htime, hpower⟩ := domainOff_kept (hl k List.mem_cons_self) s
    obtain ⟨hsec', htime', hpower'⟩ := ih (fun j hj => hl j (List.mem_cons_of_mem _ hj)) (domainOff k s)
    exact ⟨hsec'.trans hsec, htime'.trans htime, hpower'.trans hpower⟩

theorem setPower_effect (p : Power) (cause : Nat) (s : State) :
    (setPower p cause s).power = { s.power with st := p } ∧
      ∃ d k, (setPower p cause s).sec = { s.sec with debug := d, debugKey := k } ∧ (setPower p cause s).time = s.time := by
  unfold setPower
  split
  next h =>
    rw [beq_iff_eq] at h
    exact ⟨by rw [← h], s.sec.debug, s.sec.debugKey, rfl, rfl⟩
  next h =>
    rw [raise_power, raise_sec, raise_time]
    exact ⟨rfl, 0, 0, rfl, rfl⟩

theorem enterSafe_effect (cause : Nat) (s : State) :
    (enterSafe cause s).power = { s.power with entering := none, st := .safe } ∧
      ∃ d k, (enterSafe cause s).sec = { s.sec with debug := d, debugKey := k } ∧ (enterSafe cause s).time = s.time := by
  unfold enterSafe
  extract_lets a b
  have ha : Touches [.out, .mem, .harbour, .knani, .axes, .meter] s a := driveHeld_touches.after (meterStop_touches.after .refl)
  have hsec : a.sec = s.sec := ha.same .sec (by decide)
  have htime : a.time = s.time := ha.same .time (by decide)
  have hpower : a.power = s.power := ha.same .power (by decide)
  obtain ⟨hbsec, hbtime, hbpower⟩ := domainsOff_kept (fun _ h => h) a b rfl
  clear_value a b
  obtain ⟨hp, d, k, hs, ht⟩ := setPower_effect .safe cause { b with power := { b.power with entering := none } }
  refine ⟨hp.trans ?_, d, k, hs.trans ?_, ht.trans (hbtime.trans htime)⟩
  · dsimp only
    rw [hbpower, hpower]
  · dsimp only
    rw [hbsec, hsec]

/-- SAFE after an alarm: the vault is empty and the alarm is over (15 R558). -/
theorem enterTamperSafe_effect (s : State) : (enterTamperSafe s).power.tamperSafe = true ∧ (enterTamperSafe s).power.st = .safe ∧ (enterTamperSafe s).sec.keys = [] ∧
    (enterTamperSafe s).sec.alarmAt = none ∧ (enterTamperSafe s).time = s.time ∧ (enterTamperSafe s).sec.log = s.sec.log := by
  unfold enterTamperSafe
  extract_lets s1
  obtain ⟨hp, d, k, hs, ht⟩ := enterSafe_effect 2 { s1 with mem := [], update := { s1.update with st := .idle, reversing := none, switched := 0, restartWait := none }, power := { s1.power with tamperSafe := true }, sec := { s1.sec with alarmAt := none, challenge := none, ackFrom := none } }
  rw [hp, hs, ht]
  exact ⟨rfl, rfl, rfl, rfl, rfl, rfl⟩

theorem tamperSafeEntry_still {t : Nat} {s : State} (ha : s.sec.alarmAt = some t) (hm : axesMoving s = false) :
    reaches .tamperSafeEntry s (fun u => u.power.tamperSafe = true ∧ u.power.st = .safe ∧ u.sec.keys = [] ∧ u.sec.alarmAt = none ∧ u.time.cyc = s.time.cyc ∧ u.sec.log = s.sec.log) := by
  refine reaches_done rfl ?_
  have hdo : doTamperSafeEntry s = enterTamperSafe s := by
    unfold doTamperSafeEntry
    rw [ha]
    dsimp only
    rw [if_neg (by simp [hm])]
  obtain ⟨hts, hst, hkeys, hat, htime, hlog⟩ := enterTamperSafe_effect s
  rw [settle_power, settle_sec, settle_time, hdo]
  exact ⟨hts, hst, hkeys, hat, congrArg TimeSt.cyc htime, hlog⟩

theorem tamperSafeEntry_moving {t : Nat} {s : State} (ha : s.sec.alarmAt = some t) (hm : axesMoving s = true) :
    reaches .tamperSafeEntry s (fun u => u.power.tamperSafe = true ∧ u.power.st = .safe ∧ u.sec.keys = [] ∧ t + cycMs 2000 ≤ u.time.cyc) := by
  refine reaches_done rfl ?_
  have hdo : doTamperSafeEntry s = enterTamperSafe (runToCyc (t + cycMs 2000) s) := by
    unfold doTamperSafeEntry
    rw [ha]
    dsimp only
    rw [if_pos hm]
  obtain ⟨hts, hst, hkeys, -, htime, -⟩ := enterTamperSafe_effect (runToCyc (t + cycMs 2000) s)
  rw [settle_power, settle_sec, settle_time, hdo, htime]
  exact ⟨hts, hst, hkeys, le_runToCyc_cyc _ _⟩

/-! ## Periodic checks -/

theorem undertowLate_sec {k dom due : Nat} {s : State} : (undertowLate k dom due s).sec = s.sec := undertowLate_touches.same .sec (by decide)

theorem raiseIf_sec {b : Bool} {e : Ev} {s : State} : (raiseIf b e s).sec = s.sec := raiseIf_touches.same .sec (by decide)

theorem pufHealthCheck_passes {e b : Nat} {s : State} (hst : s.power.st = .spring) :
    reaches (.pufHealthCheck true e b) s (fun u => u.sec.pufWorst = min 100 (100 * e / 255) ∧ u.sec.pufAsked = false ∧ u.sec.keys = s.sec.keys ∧ u.otp = s.otp) := by
  refine reaches_done rfl ?_
  rw [settle_sec, settle_otp]
  unfold doPufHealthCheck
  rw [if_neg (by simp [hst])]
  extract_lets s1 s2
  have h1 : Touches [.time] s s1 := .ite .refl (runToCyc_touches.after .refl)
  have hsec : s1.sec = s.sec := h1.same .sec (by decide)
  have hotp : s1.otp = s.otp := h1.same .otp (by decide)
  rw [if_neg (by simp), raiseIf_sec, raiseIf_touches.same .otp (by decide), undertowLate_sec, undertowLate_touches.same .otp (by decide)]
  exact ⟨rfl, rfl, (congrArg SecSt.keys hsec :), hotp⟩

theorem pufHealthCheck_fails {e b : Nat} {s s1 : State} (hst : s.power.st = .spring) (h1 : (if s.sec.pufAsked then s else runToCyc (s.sec.pufAt + cycMs 86400000) s) = s1) :
    exec (.pufHealthCheck false e b) s = .next (settle (raise { code := 0x0E02, sev := 7, src := 5, p0 := e, p1 := 1 }
      (undertowLate 10 1 (if s.sec.pufAsked then s1.time.cyc else s.sec.pufAt + cycMs 86400000) (passDone 10
        { s1 with sec := { s1.sec with pufAsked := false, pufAt := s1.time.cyc, pufWorst := min 100 (100 * e / 255) } })))) := by
  show done (doPufHealthCheck false e b s) = done _
  unfold doPufHealthCheck
  rw [if_neg (by simp [hst]), h1]
  dsimp only
  rw [if_pos (by rfl)]
  rfl

/-- No slot derives from a slot that no key names as its parent (15 R545). -/
theorem descendants_of_no_child {n : Nat} {s : State} (h : ∀ e ∈ s.sec.keys, e.2.parent ≠ n) : descendants s n = [] := by
  have hk : s.sec.keys.filter (fun e => [n].contains e.2.parent) = [] := List.filter_eq_nil_iff.2 fun e he => by simpa using h e he
  unfold descendants descend
  rw [hk]
  rfl

/-- A volatile slot without descendants is wiped alone (15 R547). -/
theorem wipeSlot_of_volatile {n : Nat} {k : KeySlot} {s : State} (hk : slotOf s n = some k) (hf : bit k.flags 0 = false) (hd : descendants s n = []) :
    wipeSlot n s = { s with sec := { s.sec with keys := tdel s.sec.keys n } } := by
  unfold wipeSlot
  rw [hd, hk]
  dsimp only
  rw [if_neg (by simp [hf])]
  rfl

/-- The vault's check is due at an instant: it runs there and looks late or in time (15 R551). -/
def vaultCheckAt (due : Nat) (s : State) : State :=
  undertowLate 11 1 due (passDone 11 { runToCyc due s with sec := { (runToCyc due s).sec with vaultAt := (runToCyc due s).time.cyc } })

theorem doVaultIntegrityCheck_eq (bad : List Nat) (s : State) : doVaultIntegrityCheck bad s =
    bad.foldl (fun st n => match slotOf st n with | some k => if k.revoked then st else vaultFault n 0 st | none => st) (vaultCheckAt (s.sec.vaultAt + cycMs 10000) s) := rfl

theorem vaultCheckAt_effect (due : Nat) (s : State) : (vaultCheckAt due s).sec = { s.sec with vaultAt := (vaultCheckAt due s).time.cyc } ∧
    due ≤ (vaultCheckAt due s).time.cyc ∧ NoNewBlob s (vaultCheckAt due s) := by
  have hsec : (runToCyc due s).sec = s.sec := runToCyc_touches.same .sec (by decide)
  have hjournal : (runToCyc due s).journal = s.journal := runToCyc_touches.same .journal (by decide)
  have hcyc := le_runToCyc_cyc due s
  unfold vaultCheckAt
  generalize runToCyc due s = u at hsec hjournal hcyc
  rw [undertowLate_sec, undertowLate_touches.same .time (by decide)]
  refine ⟨?_, hcyc, NoNewBlob.trans (.of_eq hjournal) undertowLate_noNewBlob⟩
  rw [← hsec]
  rfl

/-- A check in time, when none was late before, raises nothing (17 R629). -/
theorem vaultCheckAt_recorder {due : Nat} {s : State} (ht : s.time.cyc ≤ due) (hl : s.power.passLate.getD 11 false = false) :
    (vaultCheckAt due s).recorder = s.recorder := by
  have hrec : (runToCyc due s).recorder = s.recorder := runToCyc_touches.same .recorder (by decide)
  have hpower : (runToCyc due s).power = s.power := runToCyc_touches.same .power (by decide)
  have hcyc : (runToCyc due s).time.cyc = due := by rw [runToCyc_cyc]; omega
  unfold vaultCheckAt
  generalize runToCyc due s = u at hrec hpower hcyc
  unfold undertowLate passDone
  dsimp only
  rw [hcyc, hpower, hl, if_pos (by simp)]
  exact hrec

/-- A fault of a volatile slot without descendants wipes it and raises SEC_VAULT_FAULT alone (15 R551). -/
theorem vaultFault_of_volatile {n : Nat} {k : KeySlot} {s : State} (hk : slotOf s n = some k) (hf : bit k.flags 0 = false)
    (hc : ∀ e ∈ s.sec.keys, e.2.parent ≠ n) : vaultFault n 0 s =
      raise { code := 0x0E06, sev := 4, src := 5, p0 := n, p1 := 0, p2 := 0 } { s with sec := { s.sec with keys := tdel s.sec.keys n } } := by
  have hd : descendants s n = [] := descendants_of_no_child hc
  unfold vaultFault
  dsimp only
  rw [if_neg (by simp [hk]), hd, wipeSlot_of_volatile hk hf hd]
  rfl

theorem doVaultIntegrityCheck_one {n : Nat} {k : KeySlot} {s : State} (hk : slotOf s n = some k) (hr : k.revoked = false) :
    doVaultIntegrityCheck [n] s = vaultFault n 0 (vaultCheckAt (s.sec.vaultAt + cycMs 10000) s) := by
  rw [doVaultIntegrityCheck_eq]
  generalize s.sec.vaultAt + cycMs 10000 = due
  have hkt : slotOf (vaultCheckAt due s) n = some k := by
    rw [slotOf, (vaultCheckAt_effect due s).1]
    exact hk
  rw [List.foldl_cons, List.foldl_nil, hkt]
  dsimp only
  rw [if_neg (by simp [hr])]

/-- The check with one bad slot: the slot goes, and no key blob joins the journal (15 R551). -/
theorem vaultFault_after_check {n due : Nat} {k : KeySlot} {s : State} (hk : slotOf s n = some k) (hf : bit k.flags 0 = false) (hc : ∀ e ∈ s.sec.keys, e.2.parent ≠ n) :
    ∀ u, u = vaultFault n 0 (vaultCheckAt due s) → u.sec.keys = tdel s.sec.keys n ∧ due ≤ u.time.cyc ∧ u.sec.vaultAt = u.time.cyc ∧ NoNewBlob s u := by
  rintro u rfl
  obtain ⟨hsec, htime, hblob⟩ := vaultCheckAt_effect due s
  generalize vaultCheckAt due s = t at hsec htime hblob
  have hkt : slotOf t n = some k := by
    rw [slotOf, hsec]
    exact hk
  rw [vaultFault_of_volatile hkt hf (by rw [hsec]; exact hc)]
  refine ⟨?_, ?_, ?_, hblob.trans (NoNewBlob.trans (.of_eq rfl) raise_noNewBlob)⟩
  · rw [raise_sec, hsec]
  · rw [raise_time]
    exact htime
  · rw [raise_sec, raise_time, hsec]

theorem vaultIntegrityCheck_one {n : Nat} {k : KeySlot} {s : State} (hk : slotOf s n = some k) (hr : k.revoked = false) (hf : bit k.flags 0 = false)
    (hc : ∀ e ∈ s.sec.keys, e.2.parent ≠ n) :
    reaches (.vaultIntegrityCheck [n]) s (fun u => u.sec.keys = tdel s.sec.keys n ∧ s.sec.vaultAt + cycMs 10000 ≤ u.time.cyc ∧ u.sec.vaultAt = u.time.cyc ∧
      (∀ r ∈ jRecs u.journal, r.type = 0x10 → r ∈ jRecs s.journal)) := by
  refine reaches_done rfl ?_
  obtain ⟨hkeys, htime, hat, hblob⟩ := vaultFault_after_check hk hf hc _ (doVaultIntegrityCheck_one hk hr)
  rw [settle_sec, settle_time, settle_journal]
  exact ⟨hkeys, htime, hat, hblob⟩

theorem vaultIntegrityCheck_in_time {s : State} (ht : s.time.cyc ≤ s.sec.vaultAt + cycMs 10000) (hl : s.power.passLate.getD 11 false = false) :
    reaches (.vaultIntegrityCheck []) s (fun u => u.sec.keys = s.sec.keys ∧ u.sec.gens = s.sec.gens ∧ u.recorder = s.recorder) := by
  refine reaches_done rfl ?_
  obtain ⟨hsec, -, -⟩ := vaultCheckAt_effect (s.sec.vaultAt + cycMs 10000) s
  have hrec := vaultCheckAt_recorder ht hl
  rw [settle_sec, settle_recorder, doVaultIntegrityCheck_eq, List.foldl_nil, hsec]
  exact ⟨rfl, rfl, hrec⟩

theorem entropyTestFail_stops {t : Nat} {s : State} :
    reaches (.entropyTestFail t) s (fun u => u.sec.drbg = false ∧ u.sec.retestAt = s.time.cyc ∧ u.sec.keys = s.sec.keys) := by
  refine reaches_done rfl ?_
  rw [settle_sec, doEntropyTestFail, raise_sec]
  exact ⟨rfl, rfl, rfl⟩

/-- The retest runs to its second and answers by its samples (15 R550). -/
theorem doEntropyRetest_effect {g : Nat} {f : Option Nat} {s : State} (hd : s.sec.drbg = false) :
    (doEntropyRetest g f s).sec = { s.sec with retestAt := (doEntropyRetest g f s).time.cyc, drbg := f.isNone && decide (1024 ≤ g) } ∧
      s.sec.retestAt + cycMs 1000 ≤ (doEntropyRetest g f s).time.cyc := by
  have hsec : (runToCyc (s.sec.retestAt + cycMs 1000) s).sec = s.sec := runToCyc_touches.same .sec (by decide)
  have hcyc := le_runToCyc_cyc (s.sec.retestAt + cycMs 1000) s
  unfold doEntropyRetest
  rw [if_neg (by simp [hd])]
  generalize runToCyc (s.sec.retestAt + cycMs 1000) s = u at hsec hcyc
  cases f with
  | some t =>
    dsimp only
    rw [raise_sec, raise_time, hsec]
    exact ⟨by simp [hd], hcyc⟩
  | none =>
    dsimp only
    split
    next h => exact ⟨by simp [hsec, h], hcyc⟩
    next h => exact ⟨by simp [hsec, h, hd], hcyc⟩

theorem entropyRetest_drbg {g : Nat} {f : Option Nat} {s : State} (hd : s.sec.drbg = false) :
    reaches (.entropyRetest g f) s (fun u => u.sec.drbg = (f.isNone && decide (1024 ≤ g)) ∧ s.sec.retestAt + cycMs 1000 ≤ u.time.cyc ∧ u.sec.keys = s.sec.keys) := by
  refine reaches_done rfl ?_
  obtain ⟨hsec, hcyc⟩ := doEntropyRetest_effect (g := g) (f := f) hd
  rw [settle_sec, settle_time, hsec]
  exact ⟨rfl, hcyc, rfl⟩

theorem sessionTimeout_only {n : Nat} {x : SecSession} {s : State} (hs : s.sec.sessions = [x]) (hn : x.id = n) :
    reaches (.sessionTimeout n) s (fun u => u.sec.sessions = [] ∧ x.cyc + cycMs 10000 ≤ u.time.cyc ∧ u.sec.keys = s.sec.keys) := by
  refine reaches_done rfl ?_
  have hsec : (runToCyc (x.cyc + cycMs 10000) s).sec = s.sec := runToCyc_touches.same .sec (by decide)
  have hof : sessionOf s n = some x := by
    rw [sessionOf, hs]
    exact List.find?_cons_of_pos (by simp [hn])
  have hdo : doSessionTimeout n s = sessionDrop n (runToCyc (x.cyc + cycMs 10000) s) := by
    unfold doSessionTimeout
    rw [hof]
  rw [settle_sec, settle_time, hdo]
  refine ⟨?_, le_runToCyc_cyc _ _, (congrArg SecSt.keys hsec :)⟩
  show (runToCyc (x.cyc + cycMs 10000) s).sec.sessions.filter (fun y => y.id != n) = []
  rw [hsec, hs, List.filter_cons_of_neg (by simp [hn]), List.filter_nil]

theorem unlockAckTimeout_lapses {t : Nat} {s : State} (ha : s.sec.ackFrom = some t) :
    reaches .unlockAckTimeout s (fun u => u.sec.challenge = none ∧ u.sec.ackFrom = none ∧ t + cycMs 60000 ≤ u.time.cyc ∧ u.power = s.power) := by
  refine reaches_done rfl ?_
  have hpower : (runToCyc (t + cycMs 60000) s).power = s.power := runToCyc_touches.same .power (by decide)
  rw [settle_sec, settle_time, settle_power]
  unfold doUnlockAckTimeout
  rw [ha]
  exact ⟨rfl, rfl, le_runToCyc_cyc _ _, hpower⟩

/-! ## The debug port -/

theorem debugRequest_silent {kinds k : Nat} {s : State} (h : s.power.st = .off ∨ s.power.st = .slack) : exec (.debugRequest kinds k) s = .next (settle s) := by
  show done (doDebugRequest kinds k s) = done s
  unfold doDebugRequest
  dsimp only
  rw [if_pos (by rcases h with h | h <;> simp [h])]

/-- A request for one kind that its rule refuses raises the refusal alone (15 R566, R570). -/
theorem doDebugRequest_refused {kinds j k c : Nat} {s : State} (hst : s.power.st = .spring) (hk : (List.range 4).filter (bit kinds) = [j]) (h16 : kinds < 16)
    (hc : debugRefusal k j s = some c) :
    doDebugRequest kinds k s = raise { code := 0x0E0B, sev := 3, src := 5, p0 := kinds, p1 := c, p2 := powerCode s.power.st } s := by
  unfold doDebugRequest
  rw [hk]
  dsimp only
  rw [if_neg (by simp [hst]; omega), List.findSome?_cons, hc]
  rfl

theorem debugRequest_refused {kinds j k c : Nat} {s : State} (hst : s.power.st = .spring) (hk : (List.range 4).filter (bit kinds) = [j]) (h16 : kinds < 16)
    (hc : debugRefusal k j s = some c) :
    reaches (.debugRequest kinds k) s (fun u => u.sec = s.sec ∧ u.axes = s.axes) := by
  refine reaches_done rfl ?_
  rw [settle_sec, settle_axes, doDebugRequest_refused hst hk h16 hc]
  exact ⟨raise_sec _ _, raise_axes _ _⟩

/-- In FIELD and SPRING the kind SECURE is refused by the matrix (15 R566). -/
theorem debugRefusal_secure {k : Nat} {s : State} (hlc : lifeCycle s = 2) (hst : s.power.st = .spring) : debugRefusal k 2 s = some 0 := by
  unfold debugRefusal
  rw [hlc, hst]
  rfl

/-- In FIELD and SPRING the kind CORE needs DEBUG_PUB, an idle engine and no job (15 R566). -/
theorem debugRule_core {s : State} (hlc : lifeCycle s = 2) (hst : s.power.st = .spring) : debugRule (lifeCycle s) s.power.st 1 = (.signed [4], true, true) := by
  rw [hlc, hst]
  rfl

theorem debugRefusal_core {s : State} (hlc : lifeCycle s = 2) (hst : s.power.st = .spring) :
    debugRefusal 4 1 s = if !engineIdle s || jobBusy s then some 2 else none := by
  unfold debugRefusal
  rw [debugRule_core hlc hst]
  rfl

theorem debugGrant_effect (kinds key : Nat) (s : State) :
    (debugGrant kinds key s).sec = { s.sec with debug := s.sec.debug ||| kinds, debugKey := key } ∧ (debugGrant kinds key s).otp = s.otp := by
  unfold debugGrant
  extract_lets _ s1
  have hsec : s1.sec = { s.sec with debug := s.sec.debug ||| kinds, debugKey := key } := raise_sec _ _
  have hotp : s1.otp = s.otp := raise_otp _ _
  have hsec' : (disableAxes s1).sec = s1.sec := disableAxes_touches.same .sec (by decide)
  have hotp' : (disableAxes s1).otp = s1.otp := disableAxes_touches.same .otp (by decide)
  rw [← hsec, ← hotp]
  clear_value s1
  split
  · exact ⟨hsec', hotp'⟩
  · exact ⟨rfl, rfl⟩

theorem debugRequest_core {s : State} (hlc : lifeCycle s = 2) (hst : s.power.st = .spring) (hi : engineIdle s = true) (hj : jobBusy s = false) :
    reaches (.debugRequest 2 4) s (fun u => u.sec.debug = s.sec.debug ||| 2 ∧ u.sec.debugKey = 4 ∧ u.otp = s.otp) := by
  refine reaches_done rfl ?_
  have hk : (List.range 4).filter (bit 2) = [1] := by decide
  have hr : debugRefusal 4 1 s = none := by
    rw [debugRefusal_core hlc hst, if_neg (by simp [hi, hj])]
  have hdo : doDebugRequest 2 4 s = debugGrant 2 4 s := by
    unfold doDebugRequest
    rw [hk]
    dsimp only
    rw [if_neg (by simp [hst]), List.findSome?_cons, hr]
    dsimp only [List.findSome?_nil]
    rw [List.any_cons, debugRule_core hlc hst, hst]
    rfl
  obtain ⟨hsec, hotp⟩ := debugGrant_effect 2 4 s
  rw [settle_sec, settle_otp, hdo, hsec]
  exact ⟨rfl, rfl, hotp⟩

/-- Settles O51: an alarm by its power state, the checks at their instants, the debug port by its matrix. -/
theorem securityEvents : Obligations.SecurityEvents := by
  unfold Obligations.SecurityEvents
  refine ⟨fun n mv s hl hq ha he hst => tamperAlarm_asleep hl hq ha he hst, fun n mv s hl hq ha he hst => tamperAlarm_awake hl hq ha he hst,
    fun n mv s hl hq hlc => tamperAlarm_logged hl hq hlc, fun n mv s h => tamperAlarm_none h, fun t s ha hm => tamperSafeEntry_still ha hm,
    fun t s ha hm => tamperSafeEntry_moving ha hm, fun e b s hst => pufHealthCheck_passes hst, fun e b s s1 hst h1 => pufHealthCheck_fails hst h1,
    fun n k s hk hr hf hc => vaultIntegrityCheck_one hk hr hf hc, fun s ht hl => vaultIntegrityCheck_in_time ht hl, fun t s => entropyTestFail_stops,
    fun g s hd hg => ?_, fun g s hd hg => ?_, fun g t s hd => ?_, fun n x s hs hn => sessionTimeout_only hs hn, fun t s ha => unlockAckTimeout_lapses ha,
    fun kinds k s h => debugRequest_silent h, fun k s hlc hst => ?_, fun s hlc hst hi hj => debugRequest_core hlc hst hi hj, fun s hlc hst hi => ?_, fun s => rfl⟩
  case refine_1 =>
    obtain ⟨u, hu, hdrbg, hcyc, hkeys⟩ := entropyRetest_drbg (g := g) (f := none) hd
    exact ⟨u, hu, by simp [hdrbg, hg], hcyc, hkeys⟩
  case refine_2 =>
    obtain ⟨u, hu, hdrbg, -⟩ := entropyRetest_drbg (g := g) (f := none) hd
    exact ⟨u, hu, by simp [hdrbg, hg]⟩
  case refine_3 =>
    obtain ⟨u, hu, hdrbg, -⟩ := entropyRetest_drbg (g := g) (f := some t) hd
    exact ⟨u, hu, hdrbg⟩
  case refine_4 =>
    obtain ⟨u, hu, hsec, haxes⟩ := debugRequest_refused (kinds := 4) (j := 2) hst (by decide) (by omega) (debugRefusal_secure (k := k) hlc hst)
    exact ⟨u, hu, by rw [hsec], by rw [hsec], haxes⟩
  case refine_5 =>
    have hr : debugRefusal 4 1 s = some 2 := by rw [debugRefusal_core hlc hst, if_pos (by simp [hi])]
    obtain ⟨u, hu, hsec, haxes⟩ := debugRequest_refused (kinds := 2) (j := 1) hst (by decide) (by omega) hr
    exact ⟨u, hu, by rw [hsec], haxes⟩

end Sys2Proof.Proofs

namespace Sys2Proof.Proofs
open Sys2Proof Sys2Proof.Machine Sys2Proof.Safety

/-! ## The key vault -/

/-- A key in a volatile slot enters it with the slot's next GENERATION (15 R543, R544). -/
theorem putKey_of_volatile {n : Nat} {k : KeySlot} (hf : bit k.flags 0 = false) (s : State) :
    ∃ u, putKey n k s = (.now stOk (le 1 n), u) ∧ slotOf u n = some { k with gen := ((tget s.sec.gens n).getD 0 + 1) % 65536 } ∧
      (∀ j, j ≠ n → slotOf u j = slotOf s j) ∧ u.journal = s.journal := by
  have hw : writeSlot n k s = (true, { s with sec := { s.sec with
      keys := tset s.sec.keys n { k with gen := ((tget s.sec.gens n).getD 0 + 1) % 65536 }, gens := tset s.sec.gens n (((tget s.sec.gens n).getD 0 + 1) % 65536) } }) := by
    unfold writeSlot
    dsimp only
    rw [if_neg (by simp [hf])]
  unfold putKey
  rw [hw]
  refine ⟨_, rfl, ?_, fun j hj => ?_, rfl⟩
  · rw [slotOf, tget_tset, if_pos rfl]
  · rw [slotOf, tget_tset, if_neg (Ne.symm hj), ← slotOf]

/-- Drawing bytes changes the free values' counter alone. -/
theorem drawBytes_kept {n : Nat} {b : List Byte} {s t : State} (h : drawBytes n s = (b, t)) : t.sec = s.sec ∧ t.journal = s.journal := by
  cases h
  exact ⟨rfl, rfl⟩

theorem bit_zero_add_four {v : Nat} (h : bit v 0 = false) : bit (v + 4) 0 = false := by
  simp only [bit, Nat.pow_zero, Nat.div_one, beq_eq_false_iff_ne] at h ⊢
  omega

/-- A counted use changes the slot's USE_COUNT alone (15 R543). -/
theorem slotOf_countUse (n j : Nat) (s : State) :
    slotOf (countUse n s) j = if j = n then (slotOf s j).map (fun k => { k with uses0 := satN 0xFFFFFFFF (k.uses0 + 1) }) else slotOf s j :=
  tget_tmod s.sec.keys n j (fun k => { k with uses0 := satN 0xFFFFFFFF (k.uses0 + 1) })

theorem secKeyInfo_of_key {p : List Byte} {k : KeySlot} {s : State} (hn : uAt p 0 1 < 64) (hk : slotOf s (uAt p 0 1) = some k) :
    secKeyInfo p s = okWith (slotAttrs (if k.revoked then 2 else 1) k) s := by
  unfold secKeyInfo
  dsimp only
  rw [if_neg (by omega), hk]

theorem secKeyInfo_of_empty {p : List Byte} {n : Nat} {s : State} (hn : uAt p 0 1 = n) (h64 : n < 64) (hk : slotOf s n = none) :
    secKeyInfo p s = okWith (List.replicate 10 0 ++ le 2 ((tget s.sec.gens n).getD 0) ++ [0, 0, 0, 0]) s := by
  unfold secKeyInfo
  rw [hn]
  dsimp only
  rw [if_neg (by omega), hk]

theorem secKeyGenerate_fresh {c : Cmd} {s t : State} {b : List Byte} {k : KeySlot} {n : Nat} (ha : admitted 0x0E03 20 1 none c s)
    (hk : attrsAt (prmOf c) 4 = some k) (hc : creatable k.type = true) (ht : targetSlot (uAt (prmOf c) 0 1) s = .ok n) (hd : s.sec.drbg = true)
    (hf : bit k.flags 0 = false) (hdraw : drawBytes (keyLen k.type) s = (b, t)) :
    ∃ u, answers (.secKeyGenerate c) c 0x0E03 stOk (le 1 n) s u ∧
      slotOf u n = some { k with key := b, flags := k.flags + 4, gen := ((tget s.sec.gens n).getD 0 + 1) % 65536 } ∧ (∀ j, j ≠ n → slotOf u j = slotOf s j) ∧ u.journal = s.journal := by
  obtain ⟨hsec, hjournal⟩ := drawBytes_kept hdraw
  obtain ⟨u, hput, hslot, hother, hj⟩ := putKey_of_volatile (n := n) (k := { k with key := b, flags := k.flags + 4 }) (bit_zero_add_four hf) t
  refine ⟨u, answers_command rfl ha ?_, ?_, fun j hjn => ?_, hj.trans hjournal⟩
  · unfold secKeyGenerate
    rw [hk]
    dsimp only
    rw [if_neg (by simp [hc]), ht]
    dsimp only
    rw [if_neg (by simp [hd]), hdraw]
    exact hput
  · rw [hslot, hsec]
  · rw [hother j hjn, slotOf, hsec, ← slotOf]

theorem secKeyGenerate_no_noise {p : List Byte} {k : KeySlot} {n : Nat} {s : State} (hk : attrsAt p 4 = some k) (hc : creatable k.type = true)
    (ht : targetSlot (uAt p 0 1) s = .ok n) (hd : s.sec.drbg = false) : secKeyGenerate p s = refuse 0x0E83 s := by
  unfold secKeyGenerate
  rw [hk]
  dsimp only
  rw [if_neg (by simp [hc]), ht]
  dsimp only
  rw [if_pos (by simp [hd])]

theorem secKeyImport_public {c : Cmd} {s : State} {k : KeySlot} {n : Nat} (ha : admitted 0x0E04 (importMin (prmOf c)) 1 none c s)
    (hk : attrsAt (prmOf c) 4 = some k) (hform : uAt (prmOf c) 1 1 = 0) (hty : k.type = 7 ∨ k.type = 8) (ht : targetSlot (uAt (prmOf c) 0 1) s = .ok n)
    (hf : bit k.flags 0 = false) :
    ∃ u, answers (.secKeyImport c) c 0x0E04 stOk (le 1 n) s u ∧
      slotOf u n = some { k with key := ((prmOf c).drop 20).take (keyLen k.type), gen := ((tget s.sec.gens n).getD 0 + 1) % 65536 } ∧ (∀ j, j ≠ n → slotOf u j = slotOf s j) := by
  have hc : creatable k.type = false := by rcases hty with h | h <;> rw [h] <;> rfl
  obtain ⟨u, hput, hslot, hother, -⟩ := putKey_of_volatile (n := n) (k := { k with key := ((prmOf c).drop 20).take (keyLen k.type) }) hf s
  refine ⟨u, answers_commandC rfl ha ?_, hslot, hother⟩
  unfold secKeyImport
  rw [hk, hform]
  dsimp only
  rw [if_neg (show ¬ ((0 == 2) = true) by decide), if_neg (by decide), if_neg (by simp [hc]), if_neg (by decide)]
  dsimp only
  rw [ht]
  exact hput

theorem secKeyImport_secret_in_clear {c : Cmd} {p : List Byte} {k : KeySlot} {s : State} (hk : attrsAt p 4 = some k) (hform : uAt p 1 1 = 0) (hc : creatable k.type = true) :
    secKeyImport c p s = refuse stNotPermitted s := by
  unfold secKeyImport
  rw [hk, hform]
  dsimp only
  rw [if_neg (by decide), if_pos (by simp [hc])]

/-- The attributes ask for a key that a parent may derive (15 R545). -/
structure Derivable (c : Cmd) (p : List Byte) (k q : KeySlot) (par : Nat) (s : State) : Prop where
  attrs : attrsAt p 4 = some k
  creates : creatable k.type = true
  labelled : 1 ≤ uAt p 20 1
  labelFits : uAt p 20 1 ≤ 32
  parent : uAt p 0 1 = par
  inVault : par < 64
  usable : hostUse c par (some 7) s = none
  held : slotOf s par = some q
  masters : subset k.masters q.masters = true
  world : subset k.world q.world = true
  lc : subset k.lc q.lc = true

theorem secKeyDerive_of_derivable {c : Cmd} {p : List Byte} {k q : KeySlot} {n par : Nat} {s : State} (h : Derivable c p k q par s) (hdepth : q.depth ≤ 6)
    (ht : targetSlot (uAt p 1 1) s = .ok n) : ∃ key, secKeyDerive c p s = putKey n { k with key := key, parent := par, depth := q.depth + 1 } (countUse par s) := by
  obtain ⟨hk, hc, hn1, hn32, hpar, h64, huse, hq, hm, hw, hl⟩ := h
  unfold secKeyDerive
  rw [hk, hpar]
  dsimp only
  rw [if_neg (by simp [hc]; omega), huse]
  dsimp only
  rw [hq]
  dsimp only
  rw [if_neg (by simp [hm, hw, hl]), if_neg (by omega), ht]
  exact ⟨_, rfl⟩

theorem secKeyDerive_too_deep {c : Cmd} {p : List Byte} {k q : KeySlot} {par : Nat} {s : State} (h : Derivable c p k q par s) (hdepth : 7 ≤ q.depth) :
    secKeyDerive c p s = refuse 0x0E82 s := by
  obtain ⟨hk, hc, hn1, hn32, hpar, h64, huse, hq, hm, hw, hl⟩ := h
  unfold secKeyDerive
  rw [hk, hpar]
  dsimp only
  rw [if_neg (by simp [hc]; omega), huse]
  dsimp only
  rw [hq]
  dsimp only
  rw [if_neg (by simp [hm, hw, hl]), if_pos (by omega)]

theorem secKeyDerive_child {c : Cmd} {s : State} {k q : KeySlot} {n par : Nat} (ha : admitted 0x0E05 (24 + min 32 (uAt (prmOf c) 20 1)) 1 none c s)
    (h : Derivable c (prmOf c) k q par s) (hdepth : q.depth ≤ 6) (ht : targetSlot (uAt (prmOf c) 1 1) s = .ok n) (hf : bit k.flags 0 = false) (hne : n ≠ par) :
    ∃ u x, answers (.secKeyDerive c) c 0x0E05 stOk (le 1 n) s u ∧ slotOf u n = some x ∧ x.type = k.type ∧ x.uses = k.uses ∧ x.masters = k.masters ∧ x.world = k.world ∧
      x.lc = k.lc ∧ x.parent = par ∧ x.depth = q.depth + 1 ∧ x.revoked = k.revoked ∧ slotOf u par = some { q with uses0 := min 0xFFFFFFFF (q.uses0 + 1) } := by
  have hq := h.held
  obtain ⟨key, hd⟩ := secKeyDerive_of_derivable h hdepth ht
  obtain ⟨u, hput, hslot, hother, -⟩ := putKey_of_volatile (n := n) (k := { k with key := key, parent := par, depth := q.depth + 1 }) hf (countUse par s)
  refine ⟨u, _, answers_commandC (n := 24 + min 32 (uAt (prmOf c) 20 1)) rfl ha (hd.trans hput), hslot, rfl, rfl, rfl, rfl, rfl, rfl, rfl, rfl, ?_⟩
  rw [hother par (Ne.symm hne), slotOf_countUse, if_pos rfl, hq]
  rfl

/-- A host slot that holds a key may be revoked and deleted (15 R542). -/
theorem hostSlot_of_key {n : Nat} {k : KeySlot} {s : State} (h8 : 8 ≤ n) (h64 : n < 64) (hk : slotOf s n = some k) : hostSlot n s = none := by
  unfold hostSlot
  rw [if_neg (by omega), if_neg (by omega), if_neg (by simp [hk])]

theorem hostSlot_of_fixed {n : Nat} {s : State} (h8 : n < 8) : hostSlot n s = some stNotPermitted := by
  unfold hostSlot
  rw [if_neg (by omega), if_pos h8]

theorem hostSlot_of_empty {n : Nat} {s : State} (h8 : 8 ≤ n) (h64 : n < 64) (hk : slotOf s n = none) : hostSlot n s = some 0x0E81 := by
  unfold hostSlot
  rw [if_neg (by omega), if_neg (by omega), if_pos (by simp [hk])]

theorem secKeyRevoke_refused {p : List Byte} {e : Nat} {s : State} (h : hostSlot (uAt p 0 1) s = some e) : secKeyRevoke p s = refuse e s := by
  unfold secKeyRevoke
  dsimp only
  rw [h]

theorem revokeSlots_of_volatile {n : Nat} {k : KeySlot} {s : State} (hk : slotOf s n = some k) (hf : bit k.flags 0 = false) :
    revokeSlots [n] s = { s with sec := { s.sec with keys := tmod s.sec.keys n (fun x => { x with revoked := true }) } } := by
  have hm : slotOf { s with sec := { s.sec with keys := tmod s.sec.keys n (fun x => { x with revoked := true }) } } n = some { k with revoked := true } := by
    rw [slotOf, tget_tmod, if_pos rfl, ← slotOf, hk]
    rfl
  unfold revokeSlots
  rw [List.foldl_cons, List.foldl_nil]
  dsimp only
  rw [hm]
  dsimp only
  rw [if_neg (by simp [hf])]

theorem secKeyRevoke_volatile {p : List Byte} {n : Nat} {k : KeySlot} {s : State} (hn : uAt p 0 1 = n) (h8 : 8 ≤ n) (h64 : n < 64) (hk : slotOf s n = some k)
    (hr : k.revoked = false) (hf : bit k.flags 0 = false) (hd : descendants s n = []) :
    secKeyRevoke p s = okWith (le 8 (2 ^ n)) (raise { code := 0x0E04, sev := 2, src := 5, p0 := n, p1 := 1, p2 := 0 }
      { s with sec := { s.sec with keys := tmod s.sec.keys n (fun x => { x with revoked := true }) } }) := by
  unfold secKeyRevoke
  rw [hn]
  dsimp only
  rw [hostSlot_of_key h8 h64 hk, hk, hd]
  dsimp only
  rw [if_neg (by simp [hr]), List.append_nil, revokeSlots_of_volatile hk hf]
  rfl

theorem secKeyDelete_volatile {p : List Byte} {n : Nat} {k : KeySlot} {s : State} (hn : uAt p 0 1 = n) (h8 : 8 ≤ n) (h64 : n < 64) (hk : slotOf s n = some k)
    (hf : bit k.flags 0 = false) (hd : descendants s n = []) : secKeyDelete p s = ok { s with sec := { s.sec with keys := tdel s.sec.keys n } } := by
  unfold secKeyDelete
  rw [hn]
  dsimp only
  rw [hostSlot_of_key h8 h64 hk, hd, wipeSlot_of_volatile hk hf hd]
  rfl

/-- A parameter area holds a short result (14 R516). -/
theorem fits_of_le {c : Cmd} {r : List Byte} (h : r.length ≤ areaOf c) (s t : State) : fits c r s t = okWith r t := if_neg (by omega)

theorem secKeyExport_public {c : Cmd} {p : List Byte} {n : Nat} {k : KeySlot} {s : State} (hn : uAt p 0 1 = n) (h64 : n < 64) (hw : uAt p 1 1 = 0xFF)
    (hu : hostUse c n none s = none) (hk : slotOf s n = some k) :
    (∀ b, publicPart k = some b → b.length ≤ areaOf c → secKeyExport c p s = okWith b (countUse n s)) ∧
      (publicPart k = none → secKeyExport c p s = refuse stNotPermitted s) := by
  unfold secKeyExport
  rw [hn, hw]
  dsimp only
  rw [if_neg (by simp; omega), if_pos (by rfl), hu]
  dsimp only
  rw [hk]
  dsimp only
  rw [if_pos (by rfl)]
  refine ⟨fun b hb hl => ?_, fun hb => ?_⟩
  · rw [hb]
    exact fits_of_le hl _ _
  · rw [hb]

theorem secEcdh_agreed {c : Cmd} {s : State} {k : KeySlot} {n t : Nat} (ha : admitted 0x0E0E 85 1 none c s) (hk : attrsAt (prmOf c) 4 = some k)
    (hc : creatable k.type = true) (h5 : k.type ≠ 5) (h6 : k.type ≠ 6) (hn : uAt (prmOf c) 0 1 = n) (h64 : n < 64) (hu : hostUse c n (some 6) s = none)
    (hty : keyType s n = 5 ∨ (keyType s n = 6 ∧ 117 ≤ (prmOf c).length)) (ht : targetSlot (uAt (prmOf c) 1 1) s = .ok t) (hf : bit k.flags 0 = false) :
    ∃ u x, answers (.secEcdh c) c 0x0E0E stOk (le 1 t) s u ∧ slotOf u t = some x ∧ x.type = k.type ∧ x.uses = k.uses ∧ x.gen = ((tget s.sec.gens t).getD 0 + 1) % 65536 := by
  obtain ⟨u, hput, hslot, -⟩ := putKey_of_volatile (n := t)
    (k := { k with key := (sharedOf (keyBytes s n) (((prmOf c).drop 20).take 97)).take (keyLen k.type) }) hf (countUse n s)
  refine ⟨u, _, answers_commandC rfl ha ?_, hslot, rfl, rfl, rfl⟩
  unfold secEcdh
  rw [hk, hn]
  dsimp only
  rw [if_neg (by simp [hc, h5, h6, h64]), hu]
  dsimp only
  rw [if_neg (by rcases hty with h | ⟨h, -⟩ <;> simp [h]), if_neg (by rcases hty with h | ⟨h, hl⟩ <;> simp [h]; omega), ht]
  exact hput

theorem secKeyInstall_first {c : Cmd} {s t : State} (ha : admitted 0x0E18 101 0 none c s) (hn : uAt (prmOf c) 0 1 = 3) (hz : zeros (prmOf c) 1 3 = true)
    (hlc : lifeCycle s = 1) (hh : s.otp.hash3 = none)
    (hj : journalPut { type := 1, key := settingKey 5 3, payload := ((prmOf c).drop 4).take 97, prio := 5, schema := s.update.schema } s = (true, t)) :
    oks (.secKeyInstall c) c 0x0E18 s (fun u => u.otp = { t.otp with hash3 := some (hashOf 1 (((prmOf c).drop 4).take 97)) } ∧
      slotOf u 3 = some (publicSlot (((prmOf c).drop 4).take 97))) := by
  have hb : secKeyInstall (prmOf c) s = ok { t with
      otp := { t.otp with hash3 := some (hashOf 1 (((prmOf c).drop 4).take 97)) }
      sec := { t.sec with keys := tset t.sec.keys 3 (publicSlot (((prmOf c).drop 4).take 97)) } } := by
    unfold secKeyInstall
    rw [hn]
    dsimp only
    rw [if_neg (by simp [hz]), if_neg (by simp [hlc, hh]), hj]
    rfl
  refine oks_command rfl ha (congrArg Prod.fst hb) ?_
  rw [hb]
  refine ⟨rfl, ?_⟩
  show tget (tset t.sec.keys 3 _) 3 = _
  rw [tget_tset, if_pos rfl]

theorem secKeyInstall_late {p : List Byte} {s : State} (hn : uAt p 0 1 = 3 ∨ uAt p 0 1 = 4) (hz : zeros p 1 3 = true) (hlc : lifeCycle s ≠ 1) :
    secKeyInstall p s = refuse stBadState s := by
  unfold secKeyInstall
  dsimp only
  rw [if_neg (by rcases hn with h | h <;> simp [h, hz]), if_pos (by simp [hlc])]

/-- Settles O52: a key enters a volatile slot by `putKey_of_volatile`; revocation and deletion take a slot without descendants. -/
theorem secKeyCommands : Obligations.SecKeyCommands := by
  unfold Obligations.SecKeyCommands
  refine ⟨fun c s ha => answers_command rfl ha rfl, fun c s k ha hn hk => answers_command rfl ha (secKeyInfo_of_key hn hk),
    fun c s n ha hn h64 hk => answers_command rfl ha (secKeyInfo_of_empty hn h64 hk), ?_,
    fun c s p k n ha hp hk hc ht hd => answers_command rfl ha (secKeyGenerate_no_noise (hp ▸ hk) hc (hp ▸ ht) hd), ?_,
    fun c s p k ha hp hk hform hc => answers_commandC (n := importMin (prmOf c)) rfl ha (secKeyImport_secret_in_clear (hp ▸ hk) (hp ▸ hform) hc), ?_, ?_,
    fun c s n k ha hn h8 h64 hk hr hf hd => answers_command rfl ha (secKeyRevoke_volatile hn h8 h64 hk hr hf hd),
    fun c s ha h8 => answers_command rfl ha (secKeyRevoke_refused (hostSlot_of_fixed h8)),
    fun c s n ha hn h8 h64 hk => answers_command rfl ha (secKeyRevoke_refused (hn ▸ hostSlot_of_empty h8 h64 hk)),
    fun c s n k ha hn h8 h64 hk hf hd => answers_command rfl ha (secKeyDelete_volatile hn h8 h64 hk hf hd),
    fun c s k b n ha hn h64 hw hu hk hb hl => answers_commandC rfl ha ((secKeyExport_public hn h64 hw hu hk).1 b hb hl),
    fun c s k n ha hn h64 hw hu hk hb => answers_commandC rfl ha ((secKeyExport_public hn h64 hw hu hk).2 hb), ?_, ?_,
    fun c s p ha hp hn hz hlc => answers_command rfl ha (secKeyInstall_late (hp ▸ hn) (hp ▸ hz) hlc)⟩
  · rintro c s t _ b k n ha rfl hk hc ht hd hf hdraw
    exact secKeyGenerate_fresh ha hk hc ht hd hf hdraw
  · rintro c s _ k n ha rfl hk hform hty ht hf
    exact secKeyImport_public ha hk hform hty ht hf
  · rintro c s _ k q n par ha rfl hk hc hn1 hn32 hpar h64 huse hq hm hw hl hdepth ht hf hne
    exact secKeyDerive_child ha ⟨hk, hc, hn1, hn32, hpar, h64, huse, hq, hm, hw, hl⟩ hdepth ht hf hne
  · rintro c s _ k q par ha rfl hk hc hn1 hn32 hpar h64 huse hq hm hw hl hdepth
    exact answers_commandC (n := 24 + min 32 (uAt (prmOf c) 20 1)) rfl ha (secKeyDerive_too_deep ⟨hk, hc, hn1, hn32, hpar, h64, huse, hq, hm, hw, hl⟩ hdepth)
  · rintro c s _ k n t ha rfl hk hc h5 h6 hn h64 hu hty ht hf
    exact secEcdh_agreed ha hk hc h5 h6 hn h64 hu hty ht hf
  · rintro c s t _ ha rfl hn hz hlc hh hj
    exact secKeyInstall_first ha hn hz hlc hh hj

end Sys2Proof.Proofs

namespace Sys2Proof.Proofs
open Sys2Proof Sys2Proof.Machine Sys2Proof.Safety

/-! ## The engines -/

theorem length_sized (n : Nat) (b : List Byte) : (sized n b).length = n := by simp [sized]

/-- A digest fits the smallest parameter area (14 R516). -/
theorem le_areaOf (c : Cmd) : 56 ≤ areaOf c := Nat.le_add_right ..

/-- An admitted command's parameter area holds its largest result (14 R653). -/
theorem maxRes_le_areaOf {op minLen maxRes : Nat} {role : Option Nat} {c : Cmd} {s : State} (h : admitted op minLen maxRes role c s) : maxRes ≤ areaOf c := by
  obtain ⟨-, -, hcheck⟩ := h
  refine Nat.le_of_not_lt fun hlt => ?_
  unfold checkCmd at hcheck
  dsimp only at hcheck
  rw [if_pos (by simp [hlt])] at hcheck
  cases hcheck

/-- A one-shot works on the data of its own command where the use is allowed (15 R552). -/
theorem stepSession_oneShot {c : Cmd} {id kind : Nat} {data : List Byte} {fresh : SecSession} {use : Nat → Option Nat} {s : State} (hid : id ≤ 7)
    (hu : use fresh.slot = none) : stepSession c 0 id kind data fresh use s = .ok ({ fresh with data := data }, s) := by
  unfold stepSession
  rw [if_neg (by simpa using hid), if_pos (by decide), if_neg (by simp), hu]

theorem stepSession_oneShot_refused {c : Cmd} {id kind e : Nat} {data : List Byte} {fresh : SecSession} {use : Nat → Option Nat} {s : State} (hid : id ≤ 7)
    (hu : use fresh.slot = some e) : stepSession c 0 id kind data fresh use s = .error (e, s) := by
  unfold stepSession
  rw [if_neg (by simpa using hid), if_pos (by decide), if_neg (by simp), hu]

theorem stepSession_init {c : Cmd} {id kind : Nat} {data : List Byte} {fresh : SecSession} {use : Nat → Option Nat} {s : State} (hid : id ≤ 7)
    (hs : sessionOf s id = none) (hu : use fresh.slot = none) : stepSession c 1 id kind data fresh use s = .ok ({ fresh with data := data }, s) := by
  unfold stepSession
  rw [if_neg (by simpa using hid), if_pos (by decide), if_neg (by simp [hs]), hu]

theorem stepSession_unknown {c : Cmd} {id kind : Nat} {data : List Byte} {fresh : SecSession} {use : Nat → Option Nat} {s : State} (hid : id ≤ 7)
    (hs : sessionOf s id = none) : stepSession c 2 id kind data fresh use s = .error (stBadState, s) := by
  unfold stepSession
  rw [if_neg (by simpa using hid), if_neg (by decide), hs]

/-- A session that is in use, or another mailbox's, refuses the step (15 R552). -/
theorem stepSession_taken {c : Cmd} {step id kind : Nat} {data : List Byte} {fresh x : SecSession} {use : Nat → Option Nat} {s : State} (hid : id ≤ 7)
    (hs : sessionOf s id = some x) (hstep : step = 1 ∨ x.mbx ≠ c.mbx ∧ (step = 2 ∨ step = 3)) :
    stepSession c step id kind data fresh use s = .error (0x0E80, s) := by
  unfold stepSession
  rcases hstep with rfl | ⟨hm, rfl | rfl⟩
  · rw [if_neg (by simpa using hid), if_pos (by decide), if_pos (by simp [hs])]
  · rw [if_neg (by simpa using hid), if_neg (by decide), hs]
    dsimp only
    rw [if_pos (by simp [hm])]
  · rw [if_neg (by simpa using hid), if_neg (by decide), hs]
    dsimp only
    rw [if_pos (by simp [hm])]

/-- The parameters of SEC_CIPHER ask for a one-shot encryption without a tag (15 R568). -/
structure CipherOneShot (p : List Byte) (n slot : Nat) : Prop where
  names : uAt p 0 1 = slot
  inVault : slot < 64
  mode : uAt p 1 1 ≤ 1
  encrypts : uAt p 2 1 = 0
  oneShot : uAt p 3 1 = 0
  session : uAt p 4 1 ≤ 7
  size : uAt p 5 1 = n
  fits : n ≤ 160
  whole : n % 16 = 0
  aux : uAt p 6 1 ≤ 16
  reserved : uAt p 7 1 = 0

theorem secCipher_encrypts {c : Cmd} {p : List Byte} {n slot : Nat} {s : State} (h : CipherOneShot p n slot) (hu : hostUse c slot (some 0) s = none)
    (ht2 : keyType s slot ≤ 2) (ht1 : 1 ≤ keyType s slot) (ha : n ≤ areaOf c) :
    secCipher c p s = okWith (aesOf (uAt p 1 1) false (keyBytes s slot) ((p.drop 8).take 16) ((p.drop 40).take n)) (countUse slot s) := by
  obtain ⟨hslot, h64, hmode, hdec, hstep, hid, hn, h160, h16, haux, h7⟩ := h
  have huse : (if keyType s slot == 1 || keyType s slot == 2 then (none : Option Nat) else some stBadParam) = none := if_pos (by simp; omega)
  have hlen : ((p.drop 40).take n).length - n = 0 := by have := List.length_take_le n (p.drop 40); omega
  have hout : (aesOf (uAt p 1 1) false (keyBytes s slot) ((p.drop 8).take 16) ((p.drop 40).take n)).length ≤ areaOf c := by
    rw [aesOf, length_sized]
    exact Nat.le_trans (List.length_take_le _ _) ha
  unfold secCipher
  rw [hslot, hdec, hstep, hn]
  dsimp only
  rw [if_neg (by simp [h7, h16]; omega), stepSession_oneShot hid (by dsimp only; rw [show b1 (bit 0 0) = 0 from rfl, hu]; exact huse)]
  dsimp only
  rw [if_neg (by simp; omega), hlen, List.drop_zero, if_neg (by simp; omega), if_neg (by simp; omega), List.append_nil]
  exact fits_of_le hout _ _

theorem secCipher_refused {c : Cmd} {p : List Byte} {n slot e : Nat} {s : State} (h : CipherOneShot p n slot) (hu : hostUse c slot (some 0) s = some e) :
    secCipher c p s = (.now e [], s) := by
  obtain ⟨hslot, h64, hmode, hdec, hstep, hid, hn, h160, h16, haux, h7⟩ := h
  unfold secCipher
  rw [hslot, hdec, hstep, hn]
  dsimp only
  rw [if_neg (by simp [h7, h16]; omega), stepSession_oneShot_refused hid (by dsimp only; rw [show b1 (bit 0 0) = 0 from rfl, hu])]

theorem secMac_cmac {c : Cmd} {p : List Byte} {n slot : Nat} {s : State} (hslot : uAt p 0 1 = slot) (h64 : slot < 64) (hkind : uAt p 1 1 = 0) (hver : uAt p 2 1 = 0)
    (hstep : uAt p 3 1 = 0) (hid : uAt p 4 1 ≤ 7) (hn : uAt p 5 1 = n) (h160 : n ≤ 160) (hz : zeros p 6 2 = true) (hu : hostUse c slot (some 2) s = none)
    (hty : keyType s slot ≤ 2) : secMac c p s = okWith (cmacOf (keyBytes s slot) ((p.drop 56).take n)) (countUse slot s) := by
  have huse : (if (0 == 0) == decide (keyType s slot ≤ 2) && decide (keyType s slot ≤ 4) then (none : Option Nat) else some stBadParam) = none := if_pos (by simp; omega)
  have hout : (cmacOf (keyBytes s slot) ((p.drop 56).take n)).length ≤ areaOf c := by
    rw [cmacOf, length_sized]
    exact Nat.le_trans (by decide) (le_areaOf c)
  unfold secMac
  rw [hslot, hkind, hver, hstep, hn]
  dsimp only
  rw [if_neg (by simp [hz]; omega), stepSession_oneShot hid (by dsimp only; rw [if_neg (by decide), hu]; exact huse)]
  dsimp only
  rw [if_neg (by decide), if_neg (by decide)]
  exact fits_of_le hout _ _

/-- The parameters of SEC_HASH are in range (15 R568). -/
structure HashParams (p : List Byte) (n id : Nat) : Prop where
  algorithm : uAt p 0 1 ≤ 1
  reserved : zeros p 1 2 = true
  session : uAt p 4 1 = id
  sessionExists : id ≤ 7
  size : uAt p 5 1 = n
  fits : n ≤ 160
  reservedToo : zeros p 6 2 = true

theorem secHash_guard {p : List Byte} {n id : Nat} (h : HashParams p n id) : ¬ (decide (1 < uAt p 0 1) || !zeros p 1 2 || decide (160 < n) || !zeros p 6 2) = true := by
  obtain ⟨ha, hz, -, -, -, hn, hz6⟩ := h
  simp [hz, hz6]
  omega

theorem secHash_oneShot {c : Cmd} {p : List Byte} {n id : Nat} {s : State} (h : HashParams p n id) (hstep : uAt p 3 1 = 0) :
    secHash c p s = okWith (hashOf (uAt p 0 1) ((p.drop 8).take n)) s := by
  have hg := secHash_guard h
  obtain ⟨-, -, hid, h7, hn, -, -⟩ := h
  have hout : (hashOf (uAt p 0 1) ((p.drop 8).take n)).length ≤ areaOf c := by
    rw [hashOf, length_sized]
    have := le_areaOf c
    split <;> omega
  unfold secHash
  rw [hstep, hn, hid]
  dsimp only
  rw [if_neg hg, stepSession_oneShot h7 rfl]
  dsimp only
  rw [if_neg (by decide)]
  exact fits_of_le hout _ _

theorem secHash_init {c : Cmd} {p : List Byte} {n id : Nat} {s : State} (h : HashParams p n id) (hstep : uAt p 3 1 = 1) (hs : s.sec.sessions = []) :
    ∃ u x, secHash c p s = ok u ∧ sessionOf u id = some x ∧ x.mbx = c.mbx ∧ x.kind = 2 ∧ x.mode = uAt p 0 1 ∧ x.data = (p.drop 8).take n ∧ x.cyc = s.time.cyc ∧
      u.sec.keys = s.sec.keys := by
  have hg := secHash_guard h
  obtain ⟨-, -, hid, h7, hn, -, -⟩ := h
  have hof : sessionOf s id = none := by rw [sessionOf, hs]; rfl
  unfold secHash
  rw [hstep, hn, hid]
  dsimp only
  rw [if_neg hg, stepSession_init h7 hof rfl]
  dsimp only
  rw [if_pos (by decide)]
  refine ⟨_, _, rfl, List.find?_cons_of_pos (by simp), ?_⟩
  exact ⟨rfl, rfl, rfl, rfl, rfl, rfl⟩

theorem secHash_unknown {c : Cmd} {p : List Byte} {n id : Nat} {s : State} (h : HashParams p n id) (hstep : uAt p 3 1 = 2) (hs : sessionOf s id = none) :
    secHash c p s = refuse stBadState s := by
  have hg := secHash_guard h
  obtain ⟨-, -, hid, h7, hn, -, -⟩ := h
  unfold secHash
  rw [hstep, hn, hid]
  dsimp only
  rw [if_neg hg, stepSession_unknown h7 hs]
  rfl

theorem secHash_taken {c : Cmd} {p : List Byte} {n id : Nat} {x : SecSession} {s : State} (h : HashParams p n id) (hs : sessionOf s id = some x)
    (hstep : uAt p 3 1 = 1 ∨ x.mbx ≠ c.mbx ∧ (uAt p 3 1 = 2 ∨ uAt p 3 1 = 3)) : secHash c p s = refuse 0x0E80 s := by
  have hg := secHash_guard h
  obtain ⟨-, -, hid, h7, hn, -, -⟩ := h
  unfold secHash
  rw [hn, hid]
  dsimp only
  rw [if_neg hg, stepSession_taken h7 hs hstep]
  rfl

theorem secSign_p256 {c : Cmd} {p : List Byte} {n k : Nat} {s t : State} (hn : uAt p 0 1 = n) (h64 : n < 64) (hz : zeros p 1 7 = true)
    (hu : hostUse c n (some 4) s = none) (hty : keyType s n = 5) (hl : 40 ≤ p.length) (hd : s.sec.drbg = true) (hdraw : draw s = (k, t)) (ha : 64 ≤ areaOf c) :
    secSign c p s = okWith (signOf 5 (keyBytes s n) ((p.drop 8).take 32) k) (countUse n t) := by
  unfold secSign
  rw [hn]
  dsimp only
  rw [if_neg (by simp [hz]; omega), hu]
  dsimp only
  rw [hty, if_neg (by decide), if_neg (show ¬ p.length < 8 + digestLen 5 by exact Nat.not_lt.2 hl), if_neg (by simp [hd]), hdraw]
  exact fits_of_le (by rw [signOf, length_sized]; exact ha) _ _

theorem secSign_refused {c : Cmd} {p : List Byte} {n e : Nat} {s : State} (hn : uAt p 0 1 = n) (h64 : n < 64) (hz : zeros p 1 7 = true)
    (hu : hostUse c n (some 4) s = some e) : secSign c p s = refuse e s := by
  unfold secSign
  rw [hn]
  dsimp only
  rw [if_neg (by simp [hz]; omega), hu]

theorem secVerify_p256 {c : Cmd} {p : List Byte} {n : Nat} {k : KeySlot} {s : State} (hn : uAt p 0 1 = n) (h64 : n < 64) (hz : zeros p 1 7 = true)
    (hu : hostUse c n (some 5) s = none) (hk : slotOf s n = some k) (hty : k.type = 7) :
    secVerify c p s = (.now (if Config.ecVerify 7 k.key ((p.drop 8).take 32) ((p.drop 56).take 64) then stOk else stVerifyFail) [], countUse n s) := by
  have hv : verifyKey k = (7, k.key) := by simp [verifyKey, publicPart, hty]
  unfold secVerify
  rw [hn]
  dsimp only
  rw [if_neg (by simp [hz]; omega), hu]
  dsimp only
  rw [hk]
  dsimp only
  rw [hty, if_neg (by decide), if_neg (by simp [digestLen]), hv]
  show (if Config.ecVerify 7 k.key ((p.drop 8).take 32) ((p.drop 56).take 64) then ok (countUse n s) else (.now stVerifyFail [], countUse n s)) = _
  split
  · rfl
  · rfl

theorem secRandom_drawn {c : Cmd} {p b : List Byte} {n : Nat} {s t : State} (hn : uAt p 0 1 = n) (h1 : 1 ≤ n) (h128 : n ≤ 128) (hd : s.sec.drbg = true)
    (hdraw : drawBytes n s = (b, t)) : secRandom c p s = okWith b t := by
  unfold secRandom
  rw [hn]
  dsimp only
  rw [if_neg (by simp; omega), if_neg (by simp [hd]), hdraw]

theorem secRandom_no_noise {c : Cmd} {p : List Byte} {n : Nat} {s : State} (hn : uAt p 0 1 = n) (h1 : 1 ≤ n) (h128 : n ≤ 128) (hd : s.sec.drbg = false) :
    secRandom c p s = refuse 0x0E83 s := by
  unfold secRandom
  rw [hn]
  dsimp only
  rw [if_neg (by simp; omega), if_pos (by simp [hd])]

theorem secAttest_signed {p b : List Byte} {k : KeySlot} {v : Nat} {s t : State} (hk : slotOf s 0 = some k) (hd : s.sec.drbg = true) (hdraw : draw s = (v, t))
    (hb : uidBytes ++ le 1 (lifeCycle s) ++ [0, 0, 0] ++ le 4 s.otp.tamperEpoch = b) :
    secAttest p s = okWith (b ++ signOf 5 k.key (hashOf 0 (p.take 32 ++ b)) v) (countUse 0 t) := by
  unfold secAttest
  rw [hk]
  dsimp only
  rw [if_neg (by simp [hd]), hb, hdraw]

/-- Settles O53: an engine's command by its step of the session and the use of its slot. -/
theorem secEngineCommands : Obligations.SecEngineCommands := by
  unfold Obligations.SecEngineCommands
  refine ⟨?_, ?_, ?_, ?_, ?_, ?_, ?_, ?_, ?_, ?_, fun c s t b n ha hn h1 h128 hd hdraw => ?_, fun c s n ha hn h1 h128 hd => ?_,
    fun c s t k b v ha hk hd hdraw hb => answers_command rfl ha (secAttest_signed hk hd hdraw hb)⟩
  · rintro c s _ n slot mode ha rfl hslot h64 rfl hmode hdec hstep hid hn h160 h16 haux h7 hu ht2 ht1
    have harea := maxRes_le_areaOf ha
    refine answers_commandC (n := 40 + min 160 (uAt (prmOf c) 5 1)) rfl ha (secCipher_encrypts ⟨hslot, h64, hmode, hdec, hstep, hid, hn, h160, h16, haux, h7⟩ hu ht2 ht1 ?_)
    unfold cipherMax at harea
    omega
  · rintro c s _ n slot e ha rfl hslot h64 hmode hdec hstep hid hn h160 h16 haux h7 hu
    exact answers_commandC (n := 40 + min 160 (uAt (prmOf c) 5 1)) rfl ha (secCipher_refused ⟨hslot, h64, hmode, hdec, hstep, hid, hn, h160, h16, haux, h7⟩ hu)
  · rintro c s _ n slot ha rfl hslot h64 hkind hver hstep hid hn h160 hz hu hty
    exact answers_commandC (n := 56 + min 160 (uAt (prmOf c) 5 1)) rfl ha (secMac_cmac hslot h64 hkind hver hstep hid hn h160 hz hu hty)
  · rintro c s _ n a ha rfl rfl h1 hz hstep hid hn h160 hz6
    exact answers_commandC (n := 8 + min 160 (uAt (prmOf c) 5 1)) rfl ha (secHash_oneShot ⟨h1, hz, rfl, hid, hn, h160, hz6⟩ hstep)
  · rintro c s _ n a id ha rfl rfl h1 hz hstep hid h7 hn h160 hz6 hs
    obtain ⟨u, x, hb, hx⟩ := secHash_init (c := c) ⟨h1, hz, hid, h7, hn, h160, hz6⟩ hstep hs
    exact ⟨[], u, answers_commandC (n := 8 + min 160 (uAt (prmOf c) 5 1)) rfl ha hb, x, hx⟩
  · rintro c s _ id ha rfl h1 hz hstep hid h7 h160 hz6 hs
    exact answers_commandC (n := 8 + min 160 (uAt (prmOf c) 5 1)) rfl ha (secHash_unknown ⟨h1, hz, hid, h7, rfl, h160, hz6⟩ hstep hs)
  · rintro c s _ id x ha rfl h1 hz hstep hid h7 h160 hz6 hs
    exact answers_commandC (n := 8 + min 160 (uAt (prmOf c) 5 1)) rfl ha (secHash_taken ⟨h1, hz, hid, h7, rfl, h160, hz6⟩ hs hstep)
  · rintro c s t _ n k ha rfl hn h64 hz hu hty hl hd hdraw harea
    exact answers_commandC rfl ha (secSign_p256 hn h64 hz hu hty hl hd hdraw harea)
  · rintro c s _ n e ha rfl hn h64 hz hu
    exact answers_commandC rfl ha (secSign_refused hn h64 hz hu)
  · rintro c s _ n k ha rfl hn h64 hz hu hk hty
    exact answers_commandC rfl ha (secVerify_p256 hn h64 hz hu hk hty)
  · exact answers_commandC (m := min 128 (uAt (prmOf c) 0 1)) rfl ha (secRandom_drawn hn h1 h128 hd hdraw)
  · exact answers_commandC (m := min 128 (uAt (prmOf c) 0 1)) rfl ha (secRandom_no_noise hn h1 h128 hd)

end Sys2Proof.Proofs

namespace Sys2Proof.Proofs
open Sys2Proof Sys2Proof.Machine Sys2Proof.Safety

/-! ## Commands that may order a restart -/

section
variable {i : Instr} {c : Cmd} {s u : State} {op n m st : Nat} {ro : Option Nat} {r : List Byte} {body : List Byte → State → Reply × State}

/-- An admitted command completes with its body's status. -/
theorem command_of_admitted (h : admitted op n m ro c s) (hb : body (prmOf c) s = (.now st r, u)) :
    command op n m ro body c s = complete c.mbx c.slot op c.tag.toNat st r u := by
  obtain ⟨hready, hfence, hcheck⟩ := h
  simp [command, commandC, hready, hfence, hcheck, hb]

/-- A command whose body orders no restart answers as any other (17 R605). -/
theorem answers_obeyRestart (hx : exec i s = done (obeyRestart (command op n m ro body c s))) (h : admitted op n m ro c s)
    (hb : body (prmOf c) s = (.now st r, u)) (hr : u.power.restartNow = none) : answers i c op st r s u := by
  unfold answers
  rw [hx, command_of_admitted h hb, obeyRestart_of_none (by rw [complete_power, hr])]
  rfl

/-- A restart that the body orders follows the completion (17 R605). -/
theorem exec_obeyRestart {k : Nat} (hx : exec i s = done (obeyRestart (command op n m ro body c s))) (h : admitted op n m ro c s)
    (hb : body (prmOf c) s = (.now st r, u)) (hr : u.power.restartNow = some k) :
    exec i s = .next (settle (restart k (complete c.mbx c.slot op c.tag.toNat st r u))) := by
  have ho : obeyRestart (complete c.mbx c.slot op c.tag.toNat st r u) = restart k (complete c.mbx c.slot op c.tag.toNat st r u) := by
    unfold obeyRestart
    rw [complete_power, hr]
  rw [hx, command_of_admitted h hb, ho]
  rfl

end

/-! ## Life-cycle -/

theorem secLifecycle_illegal {p : List Byte} {s : State} (ht : s.power.tamperSafe = false) (hlc : lifeCycle s = 2) (hn : uAt p 0 1 = 1) :
    secLifecycle p s = refuse stBadParam s := by
  unfold secLifecycle
  dsimp only
  rw [hlc, hn, if_neg (by simp [ht]), if_pos (by rfl)]

theorem secLifecycle_tamper {p : List Byte} {s : State} (ht : s.power.tamperSafe = true) (hn : uAt p 0 1 ≠ 4) : secLifecycle p s = refuse stTamperLocked s := by
  unfold secLifecycle
  dsimp only
  rw [if_pos (by simp [ht, hn])]

theorem secLifecycle_scrap {p : List Byte} {s : State} (hlc : lifeCycle s ≤ 3) (hn : uAt p 0 1 = 4) (hz : zeros p 1 7 = true) (hu : s.update.st = .idle) :
    secLifecycle p s = accepted (lcTransition 4 s) := by
  unfold secLifecycle
  dsimp only
  rw [hn, if_neg (by simp), if_neg (by simp [hz]; omega), if_neg (by simp [hu]), if_neg (by simp)]

theorem secLifecycle_field_without_key {p : List Byte} {s : State} (ht : s.power.tamperSafe = false) (hlc : lifeCycle s = 1) (hn : uAt p 0 1 = 2)
    (hz : zeros p 1 7 = true) (hh : s.otp.hash3 = none) : secLifecycle p s = refuse stBadState s := by
  unfold secLifecycle
  dsimp only
  rw [hlc, hn, if_neg (by simp [ht]), if_neg (by simp [hz]), if_pos (by simp [hh])]

theorem lcTransition_otp (target : Nat) (s : State) :
    (lcTransition target s).otp.lifeCycle = target ∧ (lcTransition target s).otp.tamperEpoch = s.otp.tamperEpoch := by
  unfold lcTransition
  dsimp only
  rw [raise_otp]
  dsimp only
  rw [journalLog_otp]
  exact ⟨rfl, rfl⟩

theorem secLifecycle_to_scrap {c : Cmd} {s : State} (ha : admitted 0x0E10 (lifecycleMin c) 0 none c s) (hlc : lifeCycle s ≤ 3) (hn : uAt (prmOf c) 0 1 = 4)
    (hz : zeros (prmOf c) 1 7 = true) (hu : s.update.st = .idle) :
    exec (.secLifecycle c) s = .next (settle (restart 5 (complete c.mbx c.slot 0x0E10 c.tag.toNat stAccepted [] (lcTransition 4 s)))) ∧
      reaches (.secLifecycle c) s (fun u => u.otp.lifeCycle = 4 ∧ u.otp.tamperEpoch = s.otp.tamperEpoch) := by
  have hx := exec_obeyRestart (i := .secLifecycle c) (n := lifecycleMin c) rfl ha (secLifecycle_scrap hlc hn hz hu) rfl
  refine ⟨hx, _, hx, ?_⟩
  dsimp only
  rw [settle_otp, restart_otp, complete_otp]
  exact lcTransition_otp 4 s

/-! ## Challenge and unlock -/

theorem secChallenge_drawn {p b : List Byte} {s t : State} (hd : s.sec.drbg = true) (hdraw : drawBytes 32 s = (b, t)) :
    secChallenge p s = okWith (b ++ challengeTail s) { t with sec := { t.sec with challenge := some (b ++ challengeTail s), ackFrom := none } } := by
  unfold secChallenge
  rw [if_neg (by simp [hd]), hdraw]

theorem secUnlock_field {p ch : List Byte} {s : State} (ht : s.power.tamperSafe = true) (hc : s.sec.cold = true) (hch : s.sec.challenge = some ch)
    (hack : s.sec.ackFrom = none) (hlc : lifeCycle s = 2) (hv : Config.ecVerify 8 (keyBytes s 3) (hashOf 1 ch) (p.take 96) = true) :
    secUnlock p s = accepted { s with sec := { s.sec with ackFrom := some s.time.cyc } } := by
  unfold secUnlock
  rw [if_neg (by simp [ht]), if_neg (by simp [hc]), hch, hack]
  dsimp only
  rw [hlc, if_neg (show ¬ ((2 == 3) = true) by decide), if_neg (by simp [hv]), if_pos (by rfl)]

theorem secUnlock_provision {p ch : List Byte} {s : State} (ht : s.power.tamperSafe = true) (hc : s.sec.cold = true) (hch : s.sec.challenge = some ch)
    (hack : s.sec.ackFrom = none) (hlc : lifeCycle s = 1) (hv : Config.ecVerify 8 (keyBytes s 3) (hashOf 1 ch) (p.take 96) = true) :
    secUnlock p s = ok (unlockDone s) := by
  unfold secUnlock
  rw [if_neg (by simp [ht]), if_neg (by simp [hc]), hch, hack]
  dsimp only
  rw [hlc, if_neg (show ¬ ((1 == 3) = true) by decide), if_neg (by simp [hv]), if_neg (by decide)]

theorem secUnlock_bad_signature {p ch : List Byte} {s : State} (ht : s.power.tamperSafe = true) (hc : s.sec.cold = true) (hch : s.sec.challenge = some ch)
    (hack : s.sec.ackFrom = none) (hlc : lifeCycle s = 2) (hv : Config.ecVerify 8 (keyBytes s 3) (hashOf 1 ch) (p.take 96) = false) :
    secUnlock p s = (.now stVerifyFail [], { s with sec := { s.sec with challenge := none } }) := by
  unfold secUnlock
  rw [if_neg (by simp [ht]), if_neg (by simp [hc]), hch, hack]
  dsimp only
  rw [hlc, if_neg (show ¬ ((2 == 3) = true) by decide), if_pos (by simp [hv])]

theorem secUnlock_warm {p : List Byte} {s : State} (ht : s.power.tamperSafe = true) (hc : s.sec.cold = false) : secUnlock p s = refuse 0x0E84 s := by
  unfold secUnlock
  rw [if_neg (by simp [ht]), if_pos (by simp [hc])]

theorem secUnlockAck_in_time {p ch : List Byte} {t : Nat} {s : State} (hch : s.sec.challenge = some ch) (hack : s.sec.ackFrom = some t)
    (hn : ch.take 32 = p.take 32) (ht : s.time.cyc ≤ t + cycMs 60000) : secUnlockAck p s = ok (unlockDone s) := by
  unfold secUnlockAck
  rw [hch, hack]
  dsimp only
  rw [if_pos (by rw [hn, decide_eq_true ht]; simp)]

theorem secUnlockAck_unasked {p : List Byte} {s : State} (hack : s.sec.ackFrom = none) : secUnlockAck p s = refuse stStale s := by
  unfold secUnlockAck
  rw [hack]
  cases s.sec.challenge with
  | none => rfl
  | some ch => rfl

/-- Where a chain of checks refuses nothing, its first two pass. -/
theorem first_checks_pass {p q : Prop} [Decidable p] [Decidable q] {a b : Nat} {r : Option Nat} (h : (if p then some a else if q then some b else r) = none) :
    ¬ p ∧ ¬ q := by
  refine ⟨fun hp => ?_, fun hq => ?_⟩
  · rw [if_pos hp] at h
    cases h
  · by_cases hp : p
    · rw [if_pos hp] at h
      cases h
    · rw [if_neg hp, if_pos hq] at h
      cases h

/-- SEC_UNLOCK_ACK belongs to world N: world S is refused it before any other ground (15 R535, R563). -/
theorem checkCmd_unlockAck_world {c : Cmd} {s : State} (hw : worldS s c.mbx = true) (h : checkCmd 0x0101 32 0 none c s = none) :
    checkCmd 0x0E13 32 0 none c s = some stNotPermitted := by
  unfold checkCmd at h ⊢
  dsimp only at h ⊢
  obtain ⟨hlen, hbits⟩ := first_checks_pass h
  rw [if_neg hlen, if_neg hbits, if_pos (by simp [needsWorldN, hw])]

theorem secUnlockAck_secure_world {c : Cmd} {s : State} (hw : worldS s c.mbx = true) (hr : s.power.restartNow = none) (ha : admitted 0x0101 32 0 none c s) :
    answers (.secUnlockAck c) c 0x0E13 stNotPermitted [] s s := by
  obtain ⟨hready, hfence, hcheck⟩ := ha
  have hcmd : command 0x0E13 32 0 none secUnlockAck c s = complete c.mbx c.slot 0x0E13 c.tag.toNat stNotPermitted [] s := by
    simp [command, commandC, hready, hfence, checkCmd_unlockAck_world hw hcheck]
  show done (obeyRestart (command 0x0E13 32 0 none secUnlockAck c s)) = done _
  rw [hcmd, obeyRestart_of_none (by rw [complete_power, hr])]

/-! ## PUF and worlds -/

theorem secPufCheck_asked {p : List Byte} {s : State} (hst : s.power.st = .spring) : secPufCheck p s = accepted { s with sec := { s.sec with pufAsked := true } } := by
  unfold secPufCheck
  rw [if_neg (by simp [hst])]

theorem secWorldMap_first {p : List Byte} {s : State} (hlc : lifeCycle s = 1) (hw : s.otp.worldMap = none) :
    secWorldMap p s = ok { s with otp := { s.otp with worldMap := some (uAt p 0 2) } } := by
  unfold secWorldMap
  rw [if_neg (by simp [hlc, hw])]

theorem secWorldMap_refused {p : List Byte} {s : State} (h : lifeCycle s ≠ 1 ∨ s.otp.worldMap.isSome = true) : secWorldMap p s = refuse stBadState s := by
  unfold secWorldMap
  rw [if_pos (by simpa using h)]

/-- Settles O54: each body, and then the restart that it orders, or none. -/
theorem secLifeCommands : Obligations.SecLifeCommands := by
  unfold Obligations.SecLifeCommands
  exact ⟨fun c s ha ht hlc hn hr => answers_obeyRestart (n := lifecycleMin c) rfl ha (secLifecycle_illegal ht hlc hn) hr,
    fun c s ha ht hn hr => answers_obeyRestart (n := lifecycleMin c) rfl ha (secLifecycle_tamper ht hn) hr,
    fun c s ha hlc hn hz hu => secLifecycle_to_scrap ha hlc hn hz hu,
    fun c s ha ht hlc hn hz _ hh hr => answers_obeyRestart (n := lifecycleMin c) rfl ha (secLifecycle_field_without_key ht hlc hn hz hh) hr,
    fun c s t b ha hd hdraw => answers_command rfl ha (secChallenge_drawn hd hdraw),
    fun c s ch ha ht hc hch hack hlc hv hr => answers_obeyRestart rfl ha (secUnlock_field ht hc hch hack hlc hv) hr,
    fun c s ch ha ht hc hch hack hlc hv => exec_obeyRestart rfl ha (secUnlock_provision ht hc hch hack hlc hv) rfl,
    fun c s ch ha ht hc hch hack hlc hv hr => answers_obeyRestart rfl ha (secUnlock_bad_signature ht hc hch hack hlc hv) hr,
    fun c s ha ht hc hr => answers_obeyRestart rfl ha (secUnlock_warm ht hc) hr,
    fun c s ch t ha hch hack hn ht => exec_obeyRestart rfl ha (secUnlockAck_in_time hch hack hn ht) rfl,
    fun c s ha hack hr => answers_obeyRestart rfl ha (secUnlockAck_unasked hack) hr, fun c s ha => answers_commandC rfl ha rfl,
    fun c s ha hst => answers_command rfl ha (secPufCheck_asked hst), fun c s ha hlc hw => answers_command rfl ha (secWorldMap_first hlc hw),
    fun c s ha h => answers_command rfl ha (secWorldMap_refused h), fun c s hw hr ha => secUnlockAck_secure_world hw hr ha⟩

end Sys2Proof.Proofs

namespace Sys2Proof.Proofs
open Sys2Proof Sys2Proof.Machine Sys2Proof.Safety

/-! ## Banks -/

theorem updLog_update {ty k : Nat} {b : List Byte} {s : State} : (updLog ty k b s).update = s.update := journalPut_touches.same .update (by decide)

theorem bankOf_congr {s t : State} (ha : t.update.bankA = s.update.bankA) (hb : t.update.bankB = s.update.bankB) (k : Nat) : bankOf t k = bankOf s k := by
  rw [bankOf, ha, hb, ← bankOf]

theorem bankOf_setBank_same (k : Nat) (b : Bank) (s : State) : bankOf (setBank k b s) k = b := by
  unfold bankOf setBank
  by_cases hk : k = 0 <;> simp [hk]

/-- The running bank is not the one that an update writes. -/
theorem bankOf_setBank_other (b : Bank) (s : State) : bankOf (setBank (otherBank s) b s) s.update.bank = bankOf s s.update.bank := by
  unfold bankOf setBank otherBank
  by_cases hk : s.update.bank = 0
  · simp [hk]
  · have h1 : 1 - s.update.bank = 0 := by omega
    simp [hk, h1]

theorem setBank_kept (k : Nat) (b : Bank) (s : State) :
    ∃ x y, (setBank k b s).update = { s.update with bankA := x, bankB := y } := by
  unfold setBank
  split
  · exact ⟨_, _, rfl⟩
  · exact ⟨_, _, rfl⟩

/-! ## Download and verification -/

/-- A packet that nobody waits for is counted, and reported at most once in a second (16 R577). -/
theorem rejectImage_four (off : Nat) (s : State) : rejectImage 4 off s = s0Reject s ∨
    rejectImage 4 off s = raise (evRejected 4 off s.update.received) { s0Reject s with update := { s.update with rejAt := some s.time.cyc } } := by
  unfold rejectImage
  dsimp only
  rw [if_pos (by rfl)]
  exact ite_cases

section
variable {q : Packet} {s t : State} (hq : takeS0 0x1C s = some (q, t))
include hq

theorem doImage_part (hst : t.update.st = .loading) (hc : imageCause t.update q.payload = none) (hn : t.update.received + uAt q.payload 4 4 ≠ t.update.length) :
    doImage s = { setBank (otherBank t) { bytes := (bankOf t (otherBank t)).bytes ++ q.payload.drop 16 } t with
      update := { (setBank (otherBank t) { bytes := (bankOf t (otherBank t)).bytes ++ q.payload.drop 16 } t).update with received := t.update.received + uAt q.payload 4 4 } } := by
  unfold doImage
  rw [hq]
  dsimp only
  rw [if_neg (by simp [hst]), hc]
  dsimp only
  rw [if_neg (by simpa using hn)]

/-- The last packet makes the image LOADED, in the bank that does not run (16 R577). -/
theorem doImage_last (hst : t.update.st = .loading) (hc : imageCause t.update q.payload = none) (hn : t.update.received + uAt q.payload 4 4 = t.update.length) :
    (doImage s).update = { (setBank (otherBank t) { bytes := (bankOf t (otherBank t)).bytes ++ q.payload.drop 16 } t).update with
      received := t.update.length, st := .loaded } := by
  unfold doImage
  rw [hq]
  dsimp only
  rw [if_neg (by simp [hst]), hc]
  dsimp only
  rw [if_pos (by simp [hn]), raise_update, hn]
  dsimp only
  rw [updLog_update]

theorem image_loaded (hst : t.update.st = .loading) (hc : imageCause t.update q.payload = none) (hn : t.update.received + uAt q.payload 4 4 = t.update.length) :
    reaches .image s (fun u => u.update.st = .loaded ∧ u.update.received = t.update.length ∧
      (bankOf u (otherBank u)).bytes = (bankOf t (otherBank t)).bytes ++ q.payload.drop 16 ∧ bankOf u u.update.bank = bankOf t t.update.bank) := by
  refine reaches_done rfl ?_
  have hu := (settle_update (doImage s)).trans (doImage_last hq hst hc hn)
  obtain ⟨b, hb⟩ : ∃ b : Bank, b = { bytes := (bankOf t (otherBank t)).bytes ++ q.payload.drop 16 } := ⟨_, rfl⟩
  rw [← hb] at hu
  obtain ⟨x, y, hset⟩ := setBank_kept (otherBank t) b t
  have hbank : (settle (doImage s)).update.bank = t.update.bank := by rw [hu, hset]
  have hother : otherBank (settle (doImage s)) = otherBank t := by rw [otherBank, hbank, ← otherBank]
  have hof : ∀ k, bankOf (settle (doImage s)) k = bankOf (setBank (otherBank t) b t) k := bankOf_congr (by rw [hu]) (by rw [hu])
  refine ⟨by rw [hu], by rw [hu], ?_, ?_⟩
  · rw [hother, hof, bankOf_setBank_same, hb]
  · rw [hbank, hof, bankOf_setBank_other]

theorem image_rejected {c : Nat} (hst : t.update.st = .loading) (hc : imageCause t.update q.payload = some c) :
    reaches .image s (fun u => u.update = t.update ∧ u.harbour.s0.discarded = (t.harbour.s0.discarded + 1) % 2 ^ 32) := by
  refine reaches_done rfl ?_
  have hc4 : c ≠ 4 := by
    unfold imageCause at hc
    dsimp only at hc
    split at hc
    · cases hc; decide
    · split at hc
      · cases hc; decide
      · split at hc
        · cases hc; decide
        · split at hc
          · cases hc; decide
          · cases hc
  have hdo : doImage s = raise (evRejected c (uAt q.payload 0 4) t.update.received) (s0Reject t) := by
    unfold doImage
    rw [hq]
    dsimp only
    rw [if_neg (by simp [hst]), hc]
    dsimp only
    unfold rejectImage
    dsimp only
    rw [if_neg (by simpa using hc4)]
    rfl
  obtain ⟨r0, r1, h0, -⟩ := settle_streams (doImage s)
  rw [settle_update, h0, hdo, raise_update, raise_harbour_s0]
  exact ⟨rfl, rfl⟩

theorem image_unasked (hst : t.update.st ≠ .loading) :
    reaches .image s (fun u => u.update.st = t.update.st ∧ u.update.bankA = t.update.bankA ∧ u.update.bankB = t.update.bankB ∧
      u.harbour.s0.discarded = (t.harbour.s0.discarded + 1) % 2 ^ 32) := by
  refine reaches_done rfl ?_
  have hdo : doImage s = rejectImage 4 (uAt q.payload 0 4) t := by
    unfold doImage
    rw [hq]
    dsimp only
    rw [if_pos (by simpa using hst)]
  obtain ⟨r0, r1, h0, -⟩ := settle_streams (doImage s)
  rw [settle_update, h0, hdo]
  rcases rejectImage_four (uAt q.payload 0 4) t with h | h
  · rw [h]
    exact ⟨rfl, rfl, rfl, rfl⟩
  · rw [h, raise_update, raise_harbour_s0]
    exact ⟨rfl, rfl, rfl, rfl⟩

end

theorem verificationDone_passed {s : State} (hst : s.update.st = .verifying) (hv : verifyBank s (bankOf s (otherBank s)) = none) :
    reaches (.verificationDone none) s (fun u => u.update = { s.update with st := .verified } ∧ u.otp = s.otp) := by
  refine reaches_done rfl ?_
  rw [settle_update, settle_otp]
  unfold doVerificationDone
  dsimp only
  rw [if_neg (by simp [hst]), hv]
  dsimp only
  rw [raise_update, raise_otp]
  dsimp only
  rw [updLog_update, updLog_otp]
  exact ⟨rfl, rfl⟩

theorem verificationDone_failed {s : State} {c k : Nat} (hst : s.update.st = .verifying) (hv : verifyBank s (bankOf s (otherBank s)) = some (c, k)) :
    reaches (.verificationDone none) s (fun u => u.update = { s.update with st := .loaded, cause := c } ∧ u.otp = s.otp) := by
  refine reaches_done rfl ?_
  rw [settle_update, settle_otp]
  unfold doVerificationDone
  dsimp only
  rw [if_neg (by simp [hst]), hv]
  dsimp only
  rw [raise_update, raise_otp]
  dsimp only
  rw [updLog_update, updLog_otp]
  exact ⟨rfl, rfl⟩

theorem verificationDone_unasked {s : State} {f : Option Nat} (hst : s.update.st ≠ .verifying) : exec (.verificationDone f) s = .next (settle s) := by
  show done (doVerificationDone f s) = done s
  unfold doVerificationDone
  rw [if_pos (by simpa using hst)]

/-! ## Migration -/

theorem migrated_hot {s t : State} (hst : s.update.st = .preparing) (hc : s.update.cold = false) (hm : s.update.migrated = false)
    (h : migrate (toMigrate s (bundleField (bankOf s (otherBank s)) 44 2) (bundleField (bankOf s (otherBank s)) 42 2)) (bundleField (bankOf s (otherBank s)) 42 2) s = (none, t)) :
    reaches (.migrated none) s (fun u => u.update.st = .handover ∧ u.update.migrated = true ∧ u.update.switched = 0 ∧ u.update.bank = t.update.bank ∧ u.otp = t.otp) := by
  refine reaches_done rfl ?_
  have hhot : (s.update.st == .preparing && !s.update.cold && !s.update.migrated) = true := by simp [hst, hc, hm]
  rw [settle_update, settle_otp]
  unfold doMigrated
  dsimp only
  rw [hhot, if_neg (by simp), if_pos rfl, h]
  dsimp only
  rw [if_pos rfl, updLog_update, updLog_otp]
  exact ⟨rfl, rfl, rfl, rfl, rfl⟩

theorem abandon_update (c : Nat) (s : State) : (abandon c s).update = { s.update with st := .idle, cause := c, reversing := none, switched := 0 } := by
  unfold abandon
  dsimp only
  rw [updLog_update]

/-- Before the trial, a failed migration abandons the update (16 R581). -/
theorem migrationFail_update {c key sch target : Nat} {s : State} (hst : s.update.st ≠ .trial) :
    (migrationFail c key sch target s).update = { s.update with st := .idle, cause := c, reversing := none, switched := 0, migFailed := true } := by
  unfold migrationFail
  dsimp only
  rw [raise_update, if_neg (by simpa using hst)]
  dsimp only
  rw [abandon_update]

theorem migrationFail_time {c key sch target : Nat} {s : State} (hst : s.update.st ≠ .trial) : (migrationFail c key sch target s).time = s.time := by
  unfold migrationFail abandon
  dsimp only
  rw [raise_time, if_neg (by simpa using hst)]
  exact journalPut_touches.same .time (by decide)

theorem migrated_failed {s : State} {k sch : Nat} (hst : s.update.st = .preparing) (hc : s.update.cold = false) (hm : s.update.migrated = false) :
    reaches (.migrated (some (k, sch))) s (fun u => u.update.st = .idle ∧ u.update.cause = 5 ∧ u.update.migFailed = true ∧ u.update.bank = s.update.bank ∧
      u.update.schema = s.update.schema) := by
  refine reaches_done rfl ?_
  have hhot : (s.update.st == .preparing && !s.update.cold && !s.update.migrated) = true := by simp [hst, hc, hm]
  rw [settle_update]
  unfold doMigrated
  dsimp only
  rw [hhot, if_neg (by simp), migrationFail_update (by simp [hst])]
  exact ⟨rfl, rfl, rfl, rfl, rfl⟩

theorem preparingTimeout_abandons {s : State} (hst : s.update.st = .preparing) (hc : s.update.cold = false) (hm : s.update.migrated = false) :
    reaches .preparingTimeout s (fun u => u.update.st = .idle ∧ u.update.cause = 6 ∧ u.update.migFailed = true ∧ s.update.since + cycMs 30000 ≤ u.time.cyc) := by
  refine reaches_done rfl ?_
  have hupd : (runToCyc (s.update.since + cycMs 30000) s).update = s.update := runToCyc_touches.same .update (by decide)
  have hcyc := le_runToCyc_cyc (s.update.since + cycMs 30000) s
  have hdo : doPreparingTimeout s =
      migrationFail 6 0 0 (bundleField (bankOf s (otherBank s)) 42 2) (runToCyc (s.update.since + cycMs 30000) s) := by
    unfold doPreparingTimeout
    dsimp only
    rw [if_neg (by simp [hst, hc, hm])]
  rw [settle_update, settle_time, hdo]
  generalize runToCyc (s.update.since + cycMs 30000) s = t at hupd hcyc
  have hnt : t.update.st ≠ .trial := by rw [hupd, hst]; decide
  rw [migrationFail_update hnt, migrationFail_time hnt]
  exact ⟨rfl, rfl, rfl, hcyc⟩

/-! ## Handover -/

theorem runTo_update (t : Nat) (s : State) : (runTo t s).update = s.update := runTo_touches.same .update (by decide)

/-- One more processor has switched to its new image (16 R583). -/
def switchedOn (s : State) : State :=
  { runTo (switchInstant s) s with
    update := { s.update with
      switched := s.update.switched + 1
      switchAt := switchInstant s
      handFrom := if s.update.switched == 0 then switchInstant s else s.update.handFrom } }

section
variable {s : State} (hst : s.update.st = .handover) (hrev : s.update.reversing = none)
  (hstop : stopDue (runTo (switchInstant s) s) (switchInstant s) = false)
include hst hrev hstop

/-- A processor that accepts, and is not kept by a motion, switches at its instant (16 R583). -/
theorem doHandoverSwitch_accepts (hle : s.update.switched ≤ 5) :
    doHandoverSwitch true false s = if s.update.switched == 5 then enterTrial (switchInstant s) (switchedOn s) else switchedOn s := by
  unfold doHandoverSwitch switchedOn
  dsimp only
  rw [if_neg (by simp [hst, hrev]; omega), if_neg (by simp [hstop]), if_neg (by simp), if_neg (by simp)]

theorem doHandoverSwitch_busy (h4 : s.update.switched = 4) (hm : s.update.ctrlMoves < 99) : doHandoverSwitch true true s =
    { runTo (switchInstant s) s with update := { s.update with switchAt := switchInstant s, ctrlMoves := s.update.ctrlMoves + 1 } } := by
  unfold doHandoverSwitch
  dsimp only
  rw [if_neg (by simp [hst, hrev]; omega), if_neg (by simp [hstop]), if_pos (by simp [h4]), if_neg (by omega)]

theorem doHandoverSwitch_refuses {b : Bool} (hle : s.update.switched ≤ 5) (hb : s.update.switched = 4 → b = false) : doHandoverSwitch false b s = reverseFrom 3 (runTo (switchInstant s) s) := by
  unfold doHandoverSwitch
  dsimp only
  rw [if_neg (by simp [hst, hrev]; omega), if_neg (by simp [hstop]), if_neg (by simpa using hb), if_pos (by rfl)]

end

theorem handoverSwitch_next {s : State} (hst : s.update.st = .handover) (hrev : s.update.reversing = none) (hlt : s.update.switched < 5)
    (hstop : stopDue (runTo (switchInstant s) s) (switchInstant s) = false) :
    reaches (.handoverSwitch true false) s (fun u => u.update.switched = s.update.switched + 1 ∧ u.update.switchAt = switchInstant s ∧ u.update.st = .handover ∧
      u.update.bank = s.update.bank ∧ u.time.cyc = (runTo (switchInstant s) s).time.cyc) := by
  refine reaches_done rfl ?_
  rw [settle_update, settle_time, doHandoverSwitch_accepts hst hrev hstop (by omega), if_neg (by simp; omega)]
  exact ⟨rfl, rfl, hst, rfl, rfl⟩

theorem enterTrial_update (t : Nat) (s : State) : (enterTrial t s).update = { s.update with
    st := .trial, bank := otherBank s, since := s.time.cyc, schema := bundleField (bankOf s (otherBank s)) 42 2, schemaMin := bundleField (bankOf s (otherBank s)) 44 2 } := by
  unfold enterTrial
  dsimp only
  rw [raise_update]

theorem handoverSwitch_trial {s : State} (hst : s.update.st = .handover) (hrev : s.update.reversing = none) (h5 : s.update.switched = 5)
    (hstop : stopDue (runTo (switchInstant s) s) (switchInstant s) = false) :
    reaches (.handoverSwitch true false) s (fun u => u.update.st = .trial ∧ u.update.bank = otherBank s ∧ u.update.schema = bundleField (bankOf s (otherBank s)) 42 2) := by
  refine reaches_done rfl ?_
  rw [settle_update, doHandoverSwitch_accepts hst hrev hstop (by omega), if_pos (by simp [h5]), enterTrial_update]
  exact ⟨rfl, rfl, rfl⟩

theorem handoverSwitch_moves {s : State} (hst : s.update.st = .handover) (hrev : s.update.reversing = none) (h4 : s.update.switched = 4)
    (hstop : stopDue (runTo (switchInstant s) s) (switchInstant s) = false) (hm : s.update.ctrlMoves < 99) :
    reaches (.handoverSwitch true true) s (fun u => u.update.switched = 4 ∧ u.update.ctrlMoves = s.update.ctrlMoves + 1 ∧ u.update.st = .handover ∧ u.update.reversing = none) := by
  refine reaches_done rfl ?_
  rw [settle_update, doHandoverSwitch_busy hst hrev hstop h4 hm]
  exact ⟨h4, rfl, hst, hrev⟩

theorem reverseFrom_of_switched {c : Nat} {s : State} (h : 1 ≤ s.update.switched) :
    reverseFrom c s = { s with update := { s.update with st := .handover, reversing := some c, switchAt := dtNow s } } := by
  unfold reverseFrom
  rw [if_neg (by simp; omega)]

theorem handoverSwitch_reverses {s : State} {b : Bool} (hst : s.update.st = .handover) (hrev : s.update.reversing = none) (h1 : 1 ≤ s.update.switched)
    (hle : s.update.switched ≤ 5) (hb : s.update.switched = 4 → b = false) (hstop : stopDue (runTo (switchInstant s) s) (switchInstant s) = false) :
    reaches (.handoverSwitch false b) s (fun u => u.update.reversing = some 3 ∧ u.update.switched = s.update.switched ∧ u.update.bank = s.update.bank) := by
  refine reaches_done rfl ?_
  have hu := runTo_update (switchInstant s) s
  rw [settle_update, doHandoverSwitch_refuses hst hrev hstop hle hb, reverseFrom_of_switched (by rw [hu]; exact h1), hu]
  exact ⟨rfl, rfl, rfl⟩

/-- One processor has gone back to its old image (16 R586). -/
def switchedBack (s : State) : State :=
  { runTo (boundaryAfter s s.update.switchAt) s with update := { s.update with switched := s.update.switched - 1, switchAt := boundaryAfter s s.update.switchAt } }

theorem doHandoverReversal_eq {c : Nat} {s : State} (h : s.update.reversing = some c) :
    doHandoverReversal s = if s.update.switched - 1 == 0 then reversed c (switchedBack s) else switchedBack s := by
  unfold doHandoverReversal switchedBack
  rw [h]
  dsimp only
  rw [runTo_update]

theorem handoverReversal_step {s : State} {c : Nat} (hrev : s.update.reversing = some c) (h2 : 2 ≤ s.update.switched) :
    reaches .handoverReversal s (fun u => u.update.switched = s.update.switched - 1 ∧ u.update.reversing = some c ∧ u.update.switchAt = boundaryAfter s s.update.switchAt) := by
  refine reaches_done rfl ?_
  rw [settle_update, doHandoverReversal_eq hrev, if_neg (by simp; omega)]
  exact ⟨rfl, hrev, rfl⟩

theorem handoverReversal_ends {s : State} (hrev : s.update.reversing = some 3) (h1 : s.update.switched = 1) :
    reaches .handoverReversal s (fun u => u.update.st = .idle ∧ u.update.reversing = none ∧ u.update.cause = 3 ∧ u.update.bank = s.update.bank) := by
  refine reaches_done rfl ?_
  have hr : (reversed 3 (switchedBack s)).update = (abandon 3 (switchedBack s)).update := by
    unfold reversed
    dsimp only
    rw [if_neg (by decide), raise_update]
  rw [settle_update, doHandoverReversal_eq hrev, if_pos (by simp [h1]), hr, abandon_update]
  exact ⟨rfl, rfl, rfl, rfl⟩

/-! ## Confirmation, revert and restart -/

/-- A cold trial reverts by a restart that it waits for (16 R588). -/
theorem revert_cold {c : Nat} {s : State} (hc : s.update.cold = true) :
    (revert c s).update = { s.update with st := .idle, cause := c, restartWait := some (some c) } ∧ (revert c s).time = s.time ∧ (revert c s).otp = s.otp := by
  unfold revert
  rw [if_pos hc]
  dsimp only
  rw [raiseIf_touches.same .update (by decide), raiseIf_touches.same .time (by decide), raiseIf_touches.same .otp (by decide)]
  dsimp only
  rw [updLog_update, updLog_otp]
  exact ⟨rfl, journalPut_touches.same .time (by decide), rfl⟩

theorem confirmWindow_cold {s : State} (hst : s.update.st = .trial) (hc : s.update.cold = true) :
    reaches .confirmWindow s (fun u => u.update.st = .idle ∧ u.update.cause = 0 ∧ u.update.restartWait = some (some 0) ∧
      s.update.since + cycMs (1000 * s.update.window) ≤ u.time.cyc ∧ u.otp = s.otp) := by
  refine reaches_done rfl ?_
  have hdo : doConfirmWindow s = revert 0 (runToCyc (s.update.since + cycMs (1000 * s.update.window)) s) := by
    unfold doConfirmWindow
    dsimp only
    rw [if_neg (by simp [hst])]
  have hupd : (runToCyc (s.update.since + cycMs (1000 * s.update.window)) s).update = s.update := runToCyc_touches.same .update (by decide)
  have hotp : (runToCyc (s.update.since + cycMs (1000 * s.update.window)) s).otp = s.otp := runToCyc_touches.same .otp (by decide)
  have hcyc := le_runToCyc_cyc (s.update.since + cycMs (1000 * s.update.window)) s
  rw [settle_update, settle_time, settle_otp, hdo]
  generalize runToCyc (s.update.since + cycMs (1000 * s.update.window)) s = t at hupd hotp hcyc
  obtain ⟨hru, hrt, hro⟩ := revert_cold (c := 0) (s := t) (by rw [hupd]; exact hc)
  rw [hru, hrt, hro]
  exact ⟨rfl, rfl, rfl, hcyc, hotp⟩

theorem confirmWindow_hot {s : State} (hst : s.update.st = .trial) (hc : s.update.cold = false) (h1 : 1 ≤ s.update.switched) :
    reaches .confirmWindow s (fun u => u.update.st = .handover ∧ u.update.reversing = some 0 ∧ u.otp = s.otp) := by
  refine reaches_done rfl ?_
  have hdo : doConfirmWindow s = revert 0 (runToCyc (s.update.since + cycMs (1000 * s.update.window)) s) := by
    unfold doConfirmWindow
    dsimp only
    rw [if_neg (by simp [hst])]
  have hupd : (runToCyc (s.update.since + cycMs (1000 * s.update.window)) s).update = s.update := runToCyc_touches.same .update (by decide)
  have hotp : (runToCyc (s.update.since + cycMs (1000 * s.update.window)) s).otp = s.otp := runToCyc_touches.same .otp (by decide)
  rw [settle_update, settle_otp, hdo]
  generalize runToCyc (s.update.since + cycMs (1000 * s.update.window)) s = t at hupd hotp
  have hrev : revert 0 t = reverseFrom 0 t := if_neg (by simp [hupd, hc])
  rw [hrev, reverseFrom_of_switched (by rw [hupd]; exact h1)]
  exact ⟨rfl, rfl, hotp⟩

theorem updateRestart_ready {s : State} (hw : s.update.restartWait = some none) (hr : restartReady s = true) :
    exec .updateRestart s = .next (settle (restart 4 (runTo (nextBoundary s) s))) := by
  show done (doUpdateRestart s) = done _
  unfold doUpdateRestart
  rw [hw]
  dsimp only
  rw [if_neg (by simp [hr])]

theorem updateRestart_waits {s : State} {c : Option Nat} (hw : s.update.restartWait = some c) (hr : restartReady s = false) :
    exec .updateRestart s = .next (settle s) := by
  show done (doUpdateRestart s) = done _
  unfold doUpdateRestart
  rw [hw]
  dsimp only
  rw [if_pos (by simp [hr])]

theorem selfTestPassed_trial {s : State} (hst : s.update.st = .trial) :
    exec .selfTestPassed s = .next (settle { s with update := { s.update with selfTest := List.replicate 6 true } }) := by
  show done (doSelfTestPassed s) = done _
  rw [doSelfTestPassed, if_pos (by simp [hst])]

/-! ## Compaction -/

/-- The journal keeps its order to compact, and a refusal that a fault keeps up. -/
def FlagsKept (j k : JournalSt) : Prop :=
  k.compacting = j.compacting ∧ k.progFault = j.progFault ∧ (j.progFault = true → j.refusing = true → k.refusing = true)

theorem FlagsKept.refl (j : JournalSt) : FlagsKept j j := ⟨rfl, rfl, fun _ h => h⟩

theorem FlagsKept.trans {j k l : JournalSt} (h : FlagsKept j k) (h' : FlagsKept k l) : FlagsKept j l := by
  obtain ⟨hc, hp, hr⟩ := h
  obtain ⟨hc', hp', hr'⟩ := h'
  exact ⟨hc'.trans hc, hp'.trans hp, fun hj h => hr' (hp.trans hj) (hr hj h)⟩

theorem jCondition_flagsKept (p : Nat) (j : JournalSt) : FlagsKept j (jCondition p j).1 :=
  ⟨rfl, rfl, fun hp _ => by simp [jCondition, hp]⟩

theorem jAppend_flagsKept {r : JRec} {j k : JournalSt} (h : jAppend r j = some k) : FlagsKept j k := by
  unfold jAppend at h
  dsimp only at h
  split at h
  · split at h
    · obtain rfl := Option.some.inj h
      exact ⟨rfl, rfl, fun _ h => h⟩
    · split at h
      · cases h
      · obtain rfl := Option.some.inj h
        exact ⟨rfl, rfl, fun _ h => h⟩
  · split at h
    · cases h
    · obtain rfl := Option.some.inj h
      exact ⟨rfl, rfl, fun _ h => h⟩

theorem jWrite_flagsKept (lc : Nat) (pfw : Bool) (w : JWrite) (j : JournalSt) : FlagsKept j (jWrite lc pfw w j).1 := by
  unfold jWrite
  split
  · exact .refl j
  · split
    · exact jCondition_flagsKept w.prio j
    · split
      · exact jCondition_flagsKept w.prio j
      next hj => exact (jAppend_flagsKept hj).trans (jCondition_flagsKept 5 _)

theorem raises_flagsKept (es : List Ev) (s : State) : FlagsKept s.journal (raises es s).journal :=
  raiseList_journal FlagsKept.refl FlagsKept.trans (fun lc pfw w j _ => jWrite_flagsKept lc pfw w j) _ _ _ _

theorem journalPut_flagsKept (w : JWrite) (s : State) : FlagsKept s.journal (journalPut w s).2.journal :=
  (jWrite_flagsKept (lifeCycle s) s.power.pfwAt.isSome w s.journal).trans (raises_flagsKept _ _)

/-- A fault of the journal holds until it is mended (16 R600). -/
theorem journalFault_flags (c g : Nat) (s : State) : (journalFault c g s).journal.refusing = true ∧ (journalFault c g s).journal.progFault = true ∧
    (journalFault c g s).update = s.update := by
  unfold journalFault raiseIf
  split
  · obtain ⟨-, hp, hr⟩ := raises_flagsKept [{ code := 0x0F10, sev := 4, p0 := c, p1 := g, p2 := 6 }] { s with journal := { s.journal with refusing := true, progFault := true } }
    exact ⟨hr rfl rfl, hp, raise_update _ _⟩
  · exact ⟨rfl, rfl, rfl⟩

/-- Compaction has begun: its order is taken (16 R597). -/
def compactionTaken (s : State) : State := passDone 8 { s with journal := { s.journal with compacting := false } }

section
variable {s : State} (hasked : s.journal.compacting = true ∨ s.journal.erased.length < 16)
include hasked

theorem compactionGuard : ¬ (!(s.journal.compacting || decide (s.journal.erased.length < 16))) = true := by
  rcases hasked with h | h
  · simp [h]
  · simp [h]

theorem compaction_nothing {a b : Bool} (ht : compactTarget s = none) :
    reaches (.compaction a b) s (fun u => u.journal.compacting = false ∧ u.journal.segs = s.journal.segs ∧ u.journal.erased = s.journal.erased) := by
  refine reaches_done rfl ?_
  have hdo : doCompaction a b s = compactionTaken s := by
    unfold doCompaction
    rw [if_neg (compactionGuard hasked), ht]
    rfl
  rw [settle_journal, hdo]
  exact ⟨rfl, rfl, rfl⟩

theorem doCompaction_program_fault {e : Bool} {g : JSeg} (ht : compactTarget s = some g) :
    doCompaction e false s = journalFault 1 ((s.journal.segs.getLast?.map (·.idx)).getD 0) (compactionTaken s) := by
  unfold doCompaction
  rw [if_neg (compactionGuard hasked), ht]
  rfl

theorem compaction_program_fault {e : Bool} {g : JSeg} (ht : compactTarget s = some g) :
    reaches (.compaction e false) s (fun u => u.journal.refusing = true ∧ u.journal.progFault = true ∧ u.update = s.update) := by
  refine reaches_done rfl ?_
  rw [settle_journal, settle_update, doCompaction_program_fault hasked ht]
  exact journalFault_flags _ _ _

theorem compaction_erase_fault {g : JSeg} (ht : compactTarget s = some g) :
    reaches (.compaction false true) s (fun u => u.journal.refusing = true ∧ u.journal.progFault = true) := by
  refine reaches_done rfl ?_
  have hdo : ∃ t, doCompaction false true s = journalFault 2 g.idx t := by
    unfold doCompaction
    rw [if_neg (compactionGuard hasked), ht]
    exact ⟨_, rfl⟩
  obtain ⟨t, ht⟩ := hdo
  obtain ⟨hr, hp, -⟩ := journalFault_flags 2 g.idx t
  rw [settle_journal, ht]
  exact ⟨hr, hp⟩

/-- A segment compacted is erased, its count one higher, and gone from the journal (16 R591, R597). -/
theorem compaction_erases {g : JSeg} (ht : compactTarget s = some g) :
    ∃ v es, exec (.compaction true true) s = .next (settle (raises es v)) ∧ (g.idx, g.erases + 1) ∈ v.journal.erased ∧ (∀ x ∈ v.journal.segs, x.idx ≠ g.idx) ∧
      v.journal.compacting = false ∧ v.journal.progFault = false := by
  obtain ⟨u, hu⟩ : ∃ u, u = (g.recs.filter (fun r => (liveRecs s).contains r)).foldl (fun (st : State) r =>
      (journalPut { type := r.type, key := r.key, schema := r.schema, payload := r.payload, prio := r.prio, exempt := true } st).2) (discardBad g (compactionTaken s)) := ⟨_, rfl⟩
  have hkept : FlagsKept (compactionTaken s).journal u.journal := by
    rw [hu]
    have hfold : ∀ (l : List JRec) (t : State), FlagsKept t.journal (l.foldl (fun (st : State) r =>
        (journalPut { type := r.type, key := r.key, schema := r.schema, payload := r.payload, prio := r.prio, exempt := true } st).2) t).journal := by
      intro l
      induction l with
      | nil => exact fun t => .refl _
      | cons r l ih => exact fun t => (journalPut_flagsKept _ t).trans (ih _)
    have hbad : FlagsKept (compactionTaken s).journal (discardBad g (compactionTaken s)).journal :=
      FlagsKept.trans ⟨rfl, rfl, fun _ h => h⟩ (raises_flagsKept _ _)
    exact hbad.trans (hfold _ _)
  have hdo : ∃ es, doCompaction true true s = raises es { u with journal := { u.journal with
      segs := u.journal.segs.filter (fun x => x.idx != g.idx), erased := u.journal.erased ++ [(g.idx, g.erases + 1)], progFault := false
      refusing := decide ((u.journal.erased ++ [(g.idx, g.erases + 1)]).length ≤ 2) || false } } := by
    unfold doCompaction
    rw [if_neg (compactionGuard hasked), ht, hu]
    exact ⟨_, rfl⟩
  obtain ⟨es, hdo⟩ := hdo
  refine ⟨_, es, congrArg done hdo, by simp, fun x hx => ?_, hkept.1, rfl⟩
  obtain ⟨-, hne⟩ := List.mem_filter.1 hx
  simpa using hne

end

theorem compaction_unasked {a b : Bool} {s : State} (hc : s.journal.compacting = false) (he : 16 ≤ s.journal.erased.length) :
    exec (.compaction a b) s = .next (settle s) := by
  show done (doCompaction a b s) = done s
  unfold doCompaction
  rw [if_pos (by simp [hc, he])]

/-- Settles O55: each row by the state of the update; compaction by what every record keeps of the journal's flags. -/
theorem updateEvents : Obligations.UpdateEvents := by
  unfold Obligations.UpdateEvents
  refine ⟨?_, ?_, fun q s t c hq hst hc => image_rejected hq hst hc, fun q s t hq hst => image_unasked hq hst,
    fun s hst hv => verificationDone_passed hst hv, fun s c k hst hv => verificationDone_failed hst hv, fun s f hst => verificationDone_unasked hst,
    fun s t hst hc hm h => migrated_hot hst hc hm h, fun s k sch hst hc hm => migrated_failed hst hc hm, fun s hst hc hm => preparingTimeout_abandons hst hc hm,
    fun s hst hrev hlt hstop => handoverSwitch_next hst hrev hlt hstop, fun s hst hrev h5 hstop => handoverSwitch_trial hst hrev h5 hstop,
    fun s hst hrev h4 hstop hm => handoverSwitch_moves hst hrev h4 hstop hm, fun s b hst hrev h1 hle hb hstop => handoverSwitch_reverses hst hrev h1 hle hb hstop,
    fun s c hrev h2 => handoverReversal_step hrev h2, fun s hrev h1 => handoverReversal_ends hrev h1, fun s hst hc => confirmWindow_cold hst hc,
    fun s hst hc h1 => confirmWindow_hot hst hc h1, fun s hw hr => updateRestart_ready hw hr, fun s c hw hr => updateRestart_waits hw hr,
    fun s hst => selfTestPassed_trial hst, fun a b s hc he => compaction_unasked hc he, fun a b s ha ht => compaction_nothing ha ht,
    fun g s ha ht => compaction_erases ha ht, fun g e s ha ht => compaction_program_fault ha ht, fun g s ha ht => compaction_erase_fault ha ht⟩
  · rintro q _ s t hq rfl hst hc hn
    exact congrArg done (doImage_part hq hst hc hn)
  · rintro q _ s t hq rfl hst hc hn
    exact image_loaded hq hst hc hn

end Sys2Proof.Proofs

namespace Sys2Proof.Proofs
open Sys2Proof Sys2Proof.Machine Sys2Proof.Safety

/-! ## UPDATE commands -/

theorem updRec_update {ty k : Nat} {b : List Byte} {ok : Bool} {s t : State} (h : updRec ty k b s = (ok, t)) : t.update = s.update := by
  have ht : t = (updRec ty k b s).2 := by rw [h]
  rw [ht]
  exact journalPut_touches.same .update (by decide)

theorem updateBegin_ok {p : List Byte} {s t : State} (h528 : 528 ≤ uAt p 0 4) (hmax : uAt p 0 4 ≤ 16777216)
    (hst : s.update.st = .idle ∨ s.update.st = .loaded ∨ s.update.st = .verified) (hrev : s.update.reversing = none) (hwait : s.update.restartWait = none)
    (hrec : updRec 0x50 (otherBank s) (le 4 (uAt p 0 4) ++ le 4 (uAt p 4 4)) s = (true, t)) :
    updateBegin p s = ok { setBank (otherBank s) {} t with update := { (setBank (otherBank s) {} t).update with
      st := .loading, length := uAt p 0 4, declared := uAt p 4 4, received := 0, proven := (setBank (otherBank s) {} t).update.proven.set (otherBank s) false
      selfTest := List.replicate 6 false, migFailed := false, migrated := false } } := by
  unfold updateBegin
  dsimp only
  rw [if_neg (by simp [within, h528, hmax]), if_neg (by rcases hst with h | h | h <;> simp [h, updBusy, hrev, hwait]), hrec]
  rfl

theorem updateBegin_loading {c : Cmd} {s t : State} (ha : admitted 0x0F01 8 0 none c s) (h528 : 528 ≤ uAt (prmOf c) 0 4) (hmax : uAt (prmOf c) 0 4 ≤ 16777216)
    (hst : s.update.st = .idle ∨ s.update.st = .loaded ∨ s.update.st = .verified) (hrev : s.update.reversing = none) (hwait : s.update.restartWait = none)
    (hrec : updRec 0x50 (otherBank s) (le 4 (uAt (prmOf c) 0 4) ++ le 4 (uAt (prmOf c) 4 4)) s = (true, t)) :
    oks (.updateBegin c) c 0x0F01 s (fun u => u.update.st = .loading ∧ u.update.length = uAt (prmOf c) 0 4 ∧ u.update.declared = uAt (prmOf c) 4 4 ∧ u.update.received = 0 ∧
      (bankOf u (otherBank u)).bytes = [] ∧ bankOf u u.update.bank = bankOf s s.update.bank) := by
  have hupd := updRec_update hrec
  have hother : otherBank t = otherBank s := by rw [otherBank, hupd, ← otherBank]
  obtain ⟨x, y, hset⟩ := setBank_kept (otherBank t) {} t
  refine ⟨[], _, answers_command rfl ha (updateBegin_ok h528 hmax hst hrev hwait hrec), rfl, rfl, rfl, rfl, ?_, ?_⟩
  all_goals rw [← hother]
  · have hbank : (setBank (otherBank t) {} t).update.bank = t.update.bank := by rw [hset]
    refine (congrArg (fun k => (bankOf (setBank (otherBank t) {} t) k).bytes) (show 1 - (setBank (otherBank t) {} t).update.bank = otherBank t by rw [hbank]; rfl)).trans ?_
    rw [bankOf_setBank_same]
  · have hbank : (setBank (otherBank t) {} t).update.bank = t.update.bank := by rw [hset]
    refine (congrArg (bankOf (setBank (otherBank t) {} t)) hbank).trans ((bankOf_setBank_other {} t).trans ?_)
    rw [hupd]
    exact bankOf_congr (by rw [hupd]) (by rw [hupd]) _

theorem updateBegin_busy {p : List Byte} {s : State} (h528 : 528 ≤ uAt p 0 4) (hmax : uAt p 0 4 ≤ 16777216)
    (hst : s.update.st = .preparing ∨ s.update.st = .handover ∨ s.update.st = .trial) : updateBegin p s = refuse stBadState s := by
  unfold updateBegin
  dsimp only
  rw [if_neg (by simp [within, h528, hmax]), if_pos (by rcases hst with h | h | h <;> simp [h])]

theorem updateBegin_bad_length {p : List Byte} {s : State} (h : uAt p 0 4 < 528 ∨ 16777216 < uAt p 0 4) : updateBegin p s = refuse stBadParam s := by
  unfold updateBegin
  dsimp only
  rw [if_pos (by simp [within]; omega)]

theorem updateVerify_loaded {p : List Byte} {s : State} (hst : s.update.st = .loaded) :
    updateVerify p s = accepted { s with update := { s.update with st := .verifying } } := if_pos (by simp [hst])

theorem updateVerify_refused {p : List Byte} {s : State} (hst : s.update.st ≠ .loaded) : updateVerify p s = refuse stBadState s := if_neg (by simpa using hst)

theorem updateActivate_hitless {c : Cmd} {s t : State} (ha : admitted 0x0F03 8 0 none c s) (hmode : uAt (prmOf c) 0 1 ≤ 1) (hz : zeros (prmOf c) 1 3 = true)
    (hw10 : 10 ≤ uAt (prmOf c) 4 4) (hwmax : uAt (prmOf c) 4 4 ≤ 86400) (hb : updBusy s.update = false) (hst : s.update.st = .verified) (hh : hitlessOk s = true)
    (hrec : updRec 0x54 (otherBank s) (le 1 (otherBank s) ++ le 1 s.update.bank ++ le 1 1 ++ [0] ++ le 4 (uAt (prmOf c) 4 4)) s = (true, t)) :
    accepts (.updateActivate c) c 0x0F03 s (fun u => u.update.st = .preparing ∧ u.update.cold = false ∧ u.update.window = uAt (prmOf c) 4 4 ∧
      u.update.restartWait = none ∧ u.update.bank = t.update.bank) := by
  have hcold : (uAt (prmOf c) 0 1 == 2 || (uAt (prmOf c) 0 1 == 0 && !hitlessOk s)) = false := by simp [hh]; omega
  have hwin : (if uAt (prmOf c) 4 4 == 0 then 600 else uAt (prmOf c) 4 4) = uAt (prmOf c) 4 4 := if_neg (by simp; omega)
  have hbody : updateActivate (prmOf c) s = accepted { t with update := { t.update with
      st := .preparing, cold := false, window := uAt (prmOf c) 4 4, since := s.time.cyc, migrated := false, migFailed := false, switched := 0, reversing := none
      ctrlMoves := 0, selfTest := List.replicate 6 false, restartWait := none } } := by
    unfold updateActivate
    dsimp only
    rw [if_neg (by simp [hz, within, hw10, hwmax]; omega), if_neg (by simp [hb]), if_neg (by simp [hst]), if_neg (by simp [hh]), hcold, hwin,
      if_neg (show ¬ (false = true) by decide), hrec]
    rfl
  exact ⟨_, answers_command rfl ha hbody, rfl, rfl, rfl, rfl, rfl⟩

theorem updateActivate_not_hitless {p : List Byte} {s : State} (hmode : uAt p 0 1 = 1) (hz : zeros p 1 3 = true) (hw : uAt p 4 4 = 0)
    (hb : updBusy s.update = false) (hst : s.update.st = .verified) (hh : hitlessOk s = false) : updateActivate p s = refuse 0x0F81 s := by
  unfold updateActivate
  dsimp only
  rw [if_neg (by simp [hz, hmode, hw]), if_neg (by simp [hb]), if_neg (by simp [hst]), if_pos (by simp [hh, hmode])]

theorem updateActivate_not_verified {p : List Byte} {s : State} (hmode : uAt p 0 1 ≤ 2) (hz : zeros p 1 3 = true) (hw : uAt p 4 4 = 0)
    (hb : updBusy s.update = false) (hst : s.update.st ≠ .verified) : updateActivate p s = refuse 0x0F80 s := by
  unfold updateActivate
  dsimp only
  rw [if_neg (by simp [hz, hw]; omega), if_neg (by simp [hb]), if_pos (by simpa using hst)]

theorem updateConfirm_migration_failed {k : Bool} {p : List Byte} {s : State} (h : s.update.migFailed = true) : updateConfirm k p s = refuse stMigrationFail s := by
  unfold updateConfirm
  dsimp only
  rw [if_pos h]

theorem updateConfirm_untested {k : Bool} {p : List Byte} {s : State} (hm : s.update.migFailed = false) (hst : s.update.st = .trial)
    (ht : s.update.selfTest.all id = false) : updateConfirm k p s = refuse 0x0F82 s := by
  unfold updateConfirm
  dsimp only
  rw [if_neg (by simp [hm]), if_neg (by simp [hst]), if_pos (by simp [ht])]

/-- The counter is burnt up to a version that it has not reached (16 R574). -/
theorem burnCounter_effect (sv : Nat) (s : State) : (burnCounter true sv s).otp.counter = max s.otp.counter sv ∧ (burnCounter true sv s).update = s.update := by
  unfold burnCounter
  split
  next h => exact ⟨(Nat.max_eq_left h).symm, rfl⟩
  next h =>
    rw [if_pos rfl, raise_otp, raise_update]
    exact ⟨(Nat.max_eq_right (Nat.le_of_not_le h)).symm, rfl⟩

theorem updateConfirm_ok {c : Cmd} {s t : State} {b : Bank} (ha : admitted 0x0F04 0 0 none c s) (hm : s.update.migFailed = false) (hst : s.update.st = .trial)
    (ht : s.update.selfTest.all id = true) (hb : bankOf s s.update.bank = b)
    (hrec : updRec 0x57 s.update.bank (le 1 (bundleSecurity b) ++ le 4 (bundleVersion b)) s = (true, t)) :
    oks (.updateConfirm true c) c 0x0F04 s (fun u => u.update.st = .idle ∧ u.update.bank = t.update.bank ∧ u.otp.counter = max t.otp.counter (bundleSecurity b) ∧
      u.update.restartWait = none) := by
  have hbody : ∃ e, updateConfirm true (prmOf c) s = ok (burnCounter true (bundleSecurity b)
      (raise e { t with update := { t.update with st := .idle, proven := t.update.proven.set s.update.bank true, restartWait := none } })) := by
    unfold updateConfirm
    dsimp only
    rw [if_neg (by simp [hm]), if_neg (by simp [hst]), if_neg (by simp [ht]), hb, hrec]
    exact ⟨_, rfl⟩
  obtain ⟨e, hbody⟩ := hbody
  refine ⟨[], _, answers_command rfl ha hbody, ?_⟩
  obtain ⟨hcounter, hupd⟩ := burnCounter_effect (bundleSecurity b)
    (raise e { t with update := { t.update with st := .idle, proven := t.update.proven.set s.update.bank true, restartWait := none } })
  rw [hupd, hcounter, raise_update, raise_otp]
  exact ⟨rfl, rfl, rfl, rfl⟩

theorem updateAbort_download {p : List Byte} {s : State} (hst : s.update.st = .loading ∨ s.update.st = .loaded ∨ s.update.st = .verified) :
    updateAbort p s = ok { s with update := { s.update with st := .idle } } := if_pos (by rcases hst with h | h | h <;> simp [h])

theorem updateAbort_refused {p : List Byte} {s : State} (h1 : s.update.st ≠ .loading) (h2 : s.update.st ≠ .loaded) (h3 : s.update.st ≠ .verified) :
    updateAbort p s = refuse stBadState s := if_neg (by simp [h1, h2, h3])

theorem updateRevert_trial {c : Cmd} {s : State} (ha : admitted 0x0F05 0 0 none c s) (hst : s.update.st = .trial) (hc : s.update.cold = false)
    (h1 : 1 ≤ s.update.switched) :
    answers (.updateRevert c) c 0x0F05 stAccepted [] s { s with update := { s.update with st := .handover, reversing := some 2, switchAt := dtNow s } } := by
  refine answers_command rfl ha ?_
  dsimp only
  have hrev : revert 2 s = reverseFrom 2 s := if_neg (by simp [hc])
  rw [if_pos (by simp [hst]), hrev, reverseFrom_of_switched h1]
  rfl

/-- Settles O56: each command by the state of the update and its checks in order. -/
theorem updateCommands : Obligations.UpdateCommands := by
  unfold Obligations.UpdateCommands
  refine ⟨fun c s t ha h528 hmax hst hrev hwait hrec => updateBegin_loading ha h528 hmax hst hrev hwait hrec,
    fun c s ha h528 hmax hst => answers_command rfl ha (updateBegin_busy h528 hmax hst), fun c s ha h => answers_command rfl ha (updateBegin_bad_length h),
    fun c s ha hst => answers_command rfl ha (updateVerify_loaded hst), fun c s ha hst => answers_command rfl ha (updateVerify_refused hst), ?_,
    fun c s p ha hp hmode hz hw hb hst hh => answers_command rfl ha (updateActivate_not_hitless (hp ▸ hmode) (hp ▸ hz) (hp ▸ hw) hb hst hh),
    fun c s p ha hp hmode hz hw hb hst => answers_command rfl ha (updateActivate_not_verified (hp ▸ hmode) (hp ▸ hz) (hp ▸ hw) hb hst),
    fun c s k ha h => answers_command rfl ha (updateConfirm_migration_failed h),
    fun c s k ha hm hst ht => answers_command rfl ha (updateConfirm_untested hm hst ht),
    fun c s t b ha hm hst ht hb hrec => updateConfirm_ok ha hm hst ht hb hrec, fun c s ha hst hc h1 => updateRevert_trial ha hst hc h1,
    fun c s ha hst => answers_command rfl ha (if_neg (by simpa using hst)), fun c s ha hst => answers_command rfl ha (updateAbort_download hst),
    fun c s ha h1 h2 h3 => answers_command rfl ha (updateAbort_refused h1 h2 h3), fun c s ha => answers_command rfl ha rfl,
    fun c s ha => answers_command rfl ha rfl, fun c s ha => answers_command rfl ha rfl⟩
  rintro c s t _ ha rfl hmode hz hw10 hwmax hb hst hh hrec
  exact updateActivate_hitless ha hmode hz hw10 hwmax hb hst hh hrec

end Sys2Proof.Proofs

namespace Sys2Proof.Proofs
open Sys2Proof Sys2Proof.Machine Sys2Proof.Safety

/-! ## The rise of VDD_AON -/

/-- The device that loses VDD_AON right after reset: no PWR_EN is up (18 R636). -/
def withoutAon : State := doVddAonLoss State.reset

theorem withoutAon_rails : withoutAon.power.rails = .aonLost := by decide

/-- Refutes O57: VDD_AON_RISE releases PWR_EN_0 to PWR_EN_3 too (18 R636), which the statement's next state leaves low. -/
theorem not_restartEvents : ¬ Obligations.RestartEvents := by
  unfold Obligations.RestartEvents
  rintro ⟨-, -, hrise, -⟩
  have hx : exec (.vddAonRise 0 true) withoutAon = .next (settle (doVddAonRise 0 true withoutAon)) := rfl
  have h := Host.Outcome.next.inj (hx.symm.trans (hrise 0 true withoutAon withoutAon_rails))
  have hpower := congrArg (fun u => u.power.pwrEn) h
  dsimp only at hpower
  rw [settle_power, settle_power] at hpower
  exact absurd hpower (by decide)

end Sys2Proof.Proofs

namespace Sys2Proof.Proofs
open Sys2Proof Sys2Proof.Machine Sys2Proof.Safety

/-! ## Power-fail warning -/

/-- What the warning sets going in SPRING leaves power, OTP and the update alone (17 R611). -/
theorem pfwWork_touches {t d : Nat} {f : Nat → Nat → Nat → Manage} {s : State} :
    Touches [.out, .mem, .harbour, .knani, .axes, .journal, .recorder, .time, .meter] s
      (meterFinal t (runTo d (overChannels (fun n pos k st => pushManage n (f n pos k) st) (haltAxes 1 s)))) :=
  meterFinal_touches.after (runTo_touches.after ((overChannels_touches (F := [.out, .knani]) fun _ _ _ _ => pushManage_touches).after (haltAxes_touches.after .refl)))

theorem powerPfw_spring {n : Nat} {s : State} (hp : s.power.pfwAt = none) (hst : s.power.st = .spring) :
    reaches (.powerPfw n) s (fun u => u.power.pfwAt = some (dtNow s) ∧ u.otp = s.otp ∧ u.update = s.update) := by
  refine reaches_done rfl ?_
  rw [settle_power, settle_otp, settle_update]
  unfold doPfw
  rw [if_neg (by simp [hp, hst])]
  dsimp only
  rw [if_neg (by simp [hst]), pfwWork_touches.same .power (by decide), pfwWork_touches.same .otp (by decide), pfwWork_touches.same .update (by decide),
    raise_power, raise_otp, raise_update]
  exact ⟨rfl, rfl, rfl⟩

theorem powerPfw_neap {n : Nat} {s : State} (hp : s.power.pfwAt = none) (hst : s.power.st = .neap) : exec (.powerPfw n) s =
    .next (settle (raise { code := 0x1003, sev := 3, src := 4, p0 := stOf (dtNow s), p1 := n % 2 ^ 32 } { s with power := { s.power with pfwAt := some (dtNow s) } })) := by
  show done (doPfw n s) = done _
  unfold doPfw
  rw [if_neg (by simp [hp, hst])]
  dsimp only
  rw [if_pos (by simp [hst])]

theorem powerPfw_again {n : Nat} {s : State} (hp : s.power.pfwAt ≠ none) : exec (.powerPfw n) s = .next (settle s) := by
  show done (doPfw n s) = done s
  unfold doPfw
  rw [if_pos (by simp [Option.isSome_iff_ne_none.2 hp])]

theorem powerPfwEnd_high {n t : Nat} {s : State} (hp : s.power.pfwAt = some t) :
    reaches (.powerPfwEnd n) s (fun u => u.power.pfwAt = none ∧ u.time.cyc = (runTo (t + us1 * n + 10 * ms1) s).time.cyc) := by
  refine reaches_done rfl ?_
  rw [settle_power, settle_time]
  unfold doPfwEnd
  rw [hp]
  dsimp only
  rw [raise_power, raise_time]
  exact ⟨rfl, rfl⟩

/-! ## PMBus -/

theorem pmbusFail_power (read cause : Nat) (s : State) : (pmbusFail read cause s).power = s.power := raise_power _ _

theorem pmbusOut_power (cmd : Nat) (d : List Byte) (s : State) : (pmbusOut cmd d s).power = s.power := pmbusOut_touches.same .power (by decide)

theorem runToCyc_power (c : Nat) (s : State) : (runToCyc c s).power = s.power := runToCyc_touches.same .power (by decide)

section
variable {s : State} {c v mv : Nat} (hf : s.power.vddFlight = some (c, v))
include hf

theorem pmbusReadback_settled (hhi : mv ≤ s.power.vddReq + 10) (hlo : s.power.vddReq ≤ mv + 10) :
    reaches (.pmbusReadback true true mv) s (fun u => u.power.vddFlight = none ∧ u.power.pmbusFault = false ∧ u.power.vddRead = some mv ∧ u.power.vddReq = s.power.vddReq) := by
  refine reaches_done rfl ?_
  rw [settle_power]
  unfold doPmbusReadback
  rw [hf]
  dsimp only
  rw [if_neg (by decide), if_neg (by decide), if_pos ⟨hhi, hlo⟩]
  dsimp only
  rw [pmbusOut_power, runToCyc_power]
  exact ⟨rfl, rfl, rfl, rfl⟩

theorem pmbusReadback_unanswered {ack pec : Bool} (h : ack = false ∨ pec = false) :
    reaches (.pmbusReadback ack pec mv) s (fun u => u.power.vddFlight = none ∧ u.power.pmbusFault = true ∧ u.power.vddRead = s.power.vddRead) := by
  refine reaches_done rfl ?_
  rw [settle_power]
  unfold doPmbusReadback
  rw [hf]
  dsimp only
  by_cases ha : ack = false
  · rw [if_pos (by simp [ha]), pmbusFail_power]
    dsimp only
    rw [pmbusOut_power, runToCyc_power]
    exact ⟨rfl, rfl, rfl⟩
  · rw [if_neg (by simpa using ha), if_pos (by simpa using h.resolve_left ha), pmbusFail_power]
    dsimp only
    rw [pmbusOut_power, runToCyc_power]
    exact ⟨rfl, rfl, rfl⟩

end

theorem pmbAlert_read {v : Nat} {s : State} :
    reaches (.pmbAlert v) s (fun u => u.power.statusWord = v % 65536 ∧ u.power.vddReq = s.power.vddReq ∧ u.power.st = s.power.st) := by
  refine reaches_done rfl ?_
  rw [settle_power, doPmbAlert, pmbusFail_power, pmbusOut_power]
  exact ⟨rfl, rfl, rfl⟩

/-! ## Fatal faults -/

/-- SAFE leaves radio and Vexlink without memory (17 R604, R610). -/
theorem enterSafe_off (cause : Nat) (s : State) : (enterSafe cause s).fleet = ({} : FleetSt) ∧ (enterSafe cause s).net = ({} : NetSt) := by
  have hset : ∀ t, (setPower .safe cause t).fleet = t.fleet ∧ (setPower .safe cause t).net = t.net := fun t =>
    And.intro (setPower_touches.same .fleet (by decide)) (setPower_touches.same .net (by decide))
  obtain ⟨t, ht⟩ : ∃ t, enterSafe cause s = setPower .safe cause { domainOff 10 (domainOff 9 t) with
      power := { (domainOff 10 (domainOff 9 t)).power with entering := none } } := by
    unfold enterSafe
    simp only [List.foldl_cons, List.foldl_nil]
    exact ⟨_, rfl⟩
  obtain ⟨hfleet, hnet⟩ := hset { domainOff 10 (domainOff 9 t) with power := { (domainOff 10 (domainOff 9 t)).power with entering := none } }
  rw [ht]
  exact ⟨hfleet.trans rfl, hnet.trans rfl⟩

/-- A fatal fault of a cause that waits for nothing is SAFE at once (17 R610). -/
theorem fatal_at_once {cause param : Nat} {s : State} (hf : s.power.fatal = none) (h3 : cause ≠ 3) (h4 : cause ≠ 4) :
    (fatal cause param s).power.fatal = some cause ∧ (fatal cause param s).power.st = .safe ∧ (fatal cause param s).fleet = {} ∧ (fatal cause param s).net = {} := by
  obtain ⟨t, ht⟩ : ∃ t : State, fatal cause param s = enterSafe 3 { t with power := { t.power with fatal := some cause, fatalNext := none } } := by
    unfold fatal
    rw [if_neg (by simp [hf])]
    dsimp only
    rw [if_neg (by simp [h3, h4])]
    exact ⟨raise { code := 0x1009, sev := 7, src := 4, p0 := cause, p1 := param } s, rfl⟩
  obtain ⟨hp, -⟩ := enterSafe_effect 3 { t with power := { t.power with fatal := some cause, fatalNext := none } }
  obtain ⟨hfleet, hnet⟩ := enterSafe_off 3 { t with power := { t.power with fatal := some cause, fatalNext := none } }
  rw [ht, hp]
  exact ⟨rfl, rfl, hfleet, hnet⟩

theorem stopOutLow_of_safe {s : State} (h : s.power.st = .safe) : stopOutLow s = true := by simp [stopOutLow, h]

theorem lockstepDisagreement_safe {s : State} (hf : s.power.fatal = none) :
    reaches .lockstepDisagreement s (fun u => u.power.fatal = some 0 ∧ u.power.st = .safe ∧ stopOutLow u = true ∧ u.fleet = {} ∧ u.net = {}) := by
  refine reaches_done rfl ?_
  obtain ⟨hfatal, hst, hfleet, hnet⟩ := fatal_at_once (cause := 0) (param := 0) hf (by decide) (by decide)
  refine ⟨?_, ?_, stopOutLow_of_safe ?_, ?_, ?_⟩
  · rw [settle_power, hfatal]
  · rw [settle_power, hst]
  · rw [settle_power, hst]
  · rw [settle_fleet, hfleet]
  · rw [settle_net, hnet]

theorem safeHeartbeatMiss_safe {s : State} (hf : s.power.fatal = none) :
    reaches .safeHeartbeatMiss s (fun u => u.power.fatal = some 1 ∧ u.power.st = .safe ∧ stopOutLow u = true) := by
  refine reaches_done rfl ?_
  obtain ⟨hfatal, hst, -⟩ := fatal_at_once (cause := 1) (param := 0) hf (by decide) (by decide)
  refine ⟨?_, ?_, stopOutLow_of_safe ?_⟩
  · rw [settle_power, hfatal]
  · rw [settle_power, hst]
  · rw [settle_power, hst]

theorem fatal_again {cause param c : Nat} {s : State} (hf : s.power.fatal = some c) : fatal cause param s = s := if_pos (by simp [hf])

/-! ## Heartbeats -/

/-- The count of missed heartbeats of a processor becomes a value. -/
def setMissed (k v : Nat) (s : State) : State := { s with power := { s.power with missed := lmod s.power.missed k (fun _ => v) } }

/-- SAFE's check of one processor, `k` from 0 (17 R616). -/
def checkProcessor (alive ecc : List Bool) (st : State) (k : Nat) : State :=
  let master := [1, 2, 3, 5].getD k 1
  let n := if alive.getD k true then 0 else st.power.missed.getD k 0 + 1
  if ecc.getD k false then procRestart master 1 (setMissed k 0 (eccBad 1 0 st))
  else if 3 ≤ n then procRestart master 0 (setMissed k 0 st)
  else setMissed k n st

theorem doHeartbeat_eq (alive ecc : List Bool) (h : Bool) (s : State) : doHeartbeat alive ecc h s = [0, 1, 2, 3].foldl (checkProcessor alive ecc) s := rfl

theorem checkProcessor_alive {alive ecc : List Bool} {k : Nat} (ha : alive.getD k true = true) (he : ecc.getD k false = false) (s : State) :
    checkProcessor alive ecc s k = setMissed k 0 s := by
  unfold checkProcessor
  rw [if_pos ha, he]
  rfl

/-- A check in which every processor answers clears every count (17 R616). -/
theorem doHeartbeat_alive (h : Bool) (s : State) : doHeartbeat [true, true, true, true] [false, false, false, false] h s =
    setMissed 3 0 (setMissed 2 0 (setMissed 1 0 (setMissed 0 0 s))) := by
  rw [doHeartbeat_eq, List.foldl_cons, List.foldl_cons, List.foldl_cons, List.foldl_cons, List.foldl_nil, checkProcessor_alive rfl rfl, checkProcessor_alive rfl rfl,
    checkProcessor_alive rfl rfl, checkProcessor_alive rfl rfl]

theorem getD_lmod_zero {l : List Nat} {j : Nat} (k : Nat) (h : l.getD k 0 = 0 ∨ k = j) : (lmod l j (fun _ => 0)).getD k 0 = 0 := by
  rw [List.getD_eq_getElem?_getD, lmod, List.getElem?_modify]
  rw [List.getD_eq_getElem?_getD] at h
  cases hk : l[k]? with
  | none => rfl
  | some v => rcases h with h | h <;> simp_all

theorem processorHeartbeat_alive {h : Bool} {s : State} :
    reaches (.processorHeartbeat [true, true, true, true] [false, false, false, false] h) s
      (fun u => (∀ k, k < 4 → k < s.power.missed.length → u.power.missed.getD k 0 = 0) ∧ u.power.restarts = s.power.restarts ∧ u.recorder = s.recorder) := by
  refine reaches_done rfl ?_
  have hrec : ∀ k t, (setMissed k 0 t).recorder = t.recorder := fun _ _ => rfl
  have hres : ∀ k t, (setMissed k 0 t).power.restarts = t.power.restarts := fun _ _ => rfl
  rw [settle_power, settle_recorder, doHeartbeat_alive]
  refine ⟨fun k hk _ => ?_, by rw [hres, hres, hres, hres], by rw [hrec, hrec, hrec, hrec]⟩
  have h4 : k = 0 ∨ k = 1 ∨ k = 2 ∨ k = 3 := by omega
  rcases h4 with rfl | rfl | rfl | rfl
  · exact getD_lmod_zero _ (.inl (getD_lmod_zero _ (.inl (getD_lmod_zero _ (.inl (getD_lmod_zero _ (.inr rfl)))))))
  · exact getD_lmod_zero _ (.inl (getD_lmod_zero _ (.inl (getD_lmod_zero _ (.inr rfl)))))
  · exact getD_lmod_zero _ (.inl (getD_lmod_zero _ (.inr rfl)))
  · exact getD_lmod_zero _ (.inr rfl)

/-- A processor that misses its third heartbeat is restarted (17 R616). -/
theorem checkProcessor_third {alive ecc : List Bool} {k : Nat} {s : State} (ha : alive.getD k true = false) (he : ecc.getD k false = false)
    (hm : s.power.missed.getD k 0 = 2) : checkProcessor alive ecc s k = procRestart ([1, 2, 3, 5].getD k 1) 0 (setMissed k 0 s) := by
  unfold checkProcessor
  rw [ha, he, hm]
  rfl

theorem finishFor_registersKept {cmd : Option (Nat × Nat × Nat × Nat)} {st : Nat} {r : List Byte} {s : State} : RegistersKept s (finishFor cmd st r s) := by
  unfold finishFor
  split
  · exact .of_eq rfl
  · exact complete_registersKept

theorem journalPut_registersKept {w : JWrite} {s : State} : RegistersKept s (journalPut w s).2 := by
  obtain ⟨r, j, q, h⟩ := raiseList_shape ((jWrite (lifeCycle s) s.power.pfwAt.isSome w s.journal).2.2.length + 8) (dtNow s) (jWrite (lifeCycle s) s.power.pfwAt.isSome w s.journal).2.2
    { s with journal := (jWrite (lifeCycle s) s.power.pfwAt.isSome w s.journal).1 }
  exact ⟨s.harbour.mbxs, s.harbour.credit, q, congrArg State.harbour h⟩

theorem reverseFrom_registersKept {c : Nat} {s : State} : RegistersKept s (reverseFrom c s) := by
  have hlog : ∀ ty k b u, RegistersKept u (updLog ty k b u) := fun ty k b u => journalPut_registersKept
  have habandon : ∀ c u, RegistersKept u (abandon c u) := fun c u => (hlog _ _ _ u).trans (.of_eq rfl)
  unfold reverseFrom
  split
  · unfold reversed
    dsimp only
    split
    · exact ((hlog _ _ _ s).trans (.of_eq rfl)).trans raise_registersKept
    · exact (habandon c s).trans raise_registersKept
  · exact .of_eq rfl

/-- CTRL's work is aborted: no delay of SYS_NOP remains (17 R616). -/
theorem abortWork_ctrl_nops (s : State) : (abortWork 1 s).harbour.nops = [] := by
  have hkept : ∀ t, RegistersKept t (abortWork 1 s) → (abortWork 1 s).harbour.nops = t.harbour.nops := by
    rintro t ⟨b, c, q, h⟩
    rw [h]
  refine hkept { s with harbour := { s.harbour with nops := [] } } ?_
  unfold abortWork
  rw [if_pos (by rfl)]
  dsimp only
  refine RegistersKept.trans ?_ (.foldl (fun _ _ => finishFor_registersKept) _ _)
  exact RegistersKept.trans (.of_eq rfl) (.foldl (fun _ _ => complete_registersKept) _ _)

/-- The first restart of CTRL within 60 s (17 R616). -/
theorem procRestart_first {s : State} (hr : s.power.restarts = []) : ∀ t, t = procRestart 1 0 s →
    t.power = { s.power with restarts := [(1, s.time.cyc)], restartTotal := (s.power.restartTotal + 1) % 2 ^ 32 } ∧ t.harbour.nops = [] := by
  rintro t rfl
  obtain ⟨u, hu⟩ : ∃ u, u = abortWork 1 { s with power := { s.power with restarts := [(1, s.time.cyc)], restartTotal := (s.power.restartTotal + 1) % 2 ^ 32 } } := ⟨_, rfl⟩
  have hpower : u.power = { s.power with restarts := [(1, s.time.cyc)], restartTotal := (s.power.restartTotal + 1) % 2 ^ 32 } := by
    rw [hu, abortWork_touches.same .power (by decide)]
  have hnops : u.harbour.nops = [] := by rw [hu, abortWork_ctrl_nops]
  have hdo : ∃ v e, procRestart 1 0 s = v ∧ (v = raise e u ∨ v = reverseFrom 3 (raise e u)) := by
    unfold procRestart
    rw [hr, List.filter_nil, List.nil_append]
    dsimp only
    rw [← hu, if_neg (by simp)]
    exact ⟨_, _, rfl, ite_cases.symm⟩
  obtain ⟨v, e, hv, hcase⟩ := hdo
  rw [hv]
  rcases hcase with rfl | rfl
  · rw [raise_power, raise_harbour_nops]
    exact ⟨hpower, hnops⟩
  · obtain ⟨b, c, q, hk⟩ := reverseFrom_registersKept (c := 3) (s := raise e u)
    rw [reverseFrom_touches.same .power (by decide), hk, raise_power]
    exact ⟨hpower, (raise_harbour_nops e u).trans hnops⟩

theorem processorHeartbeat_restart {h : Bool} {s : State} (hm : s.power.missed = [2, 0, 0, 0]) (hr : s.power.restarts = []) :
    reaches (.processorHeartbeat [false, true, true, true] [false, false, false, false] h) s (fun u => u.power.restarts = [(1, s.time.cyc)] ∧
      u.power.restartTotal = (s.power.restartTotal + 1) % 2 ^ 32 ∧ u.power.missed = [0, 0, 0, 0] ∧ u.harbour.nops = []) := by
  refine reaches_done rfl ?_
  obtain ⟨t, ht⟩ : ∃ t, t = procRestart 1 0 (setMissed 0 0 s) := ⟨_, rfl⟩
  obtain ⟨hpower, hnops⟩ := procRestart_first (s := setMissed 0 0 s) hr t ht
  have hthird : checkProcessor [false, true, true, true] [false, false, false, false] s 0 = t :=
    (checkProcessor_third rfl rfl (by rw [hm]; rfl)).trans ht.symm
  have hset : ∀ k u, (setMissed k 0 u).power = { u.power with missed := lmod u.power.missed k (fun _ => 0) } ∧ (setMissed k 0 u).harbour = u.harbour := fun _ _ => And.intro rfl rfl
  have hdo : doHeartbeat [false, true, true, true] [false, false, false, false] h s = setMissed 3 0 (setMissed 2 0 (setMissed 1 0 t)) := by
    rw [doHeartbeat_eq, List.foldl_cons, List.foldl_cons, List.foldl_cons, List.foldl_cons, List.foldl_nil, hthird, checkProcessor_alive rfl rfl, checkProcessor_alive rfl rfl,
      checkProcessor_alive rfl rfl]
  have hmissed : t.power.missed = [0, 0, 0, 0] := by
    rw [hpower]
    show lmod s.power.missed 0 (fun _ => 0) = _
    rw [hm]
    rfl
  rw [settle_power, settle_harbour_nops, hdo, (hset _ _).1, (hset _ _).2, (hset _ _).1, (hset _ _).2, (hset _ _).1, (hset _ _).2]
  refine ⟨?_, ?_, ?_, hnops⟩
  · exact congrArg PowerSt.restarts hpower
  · exact congrArg PowerSt.restartTotal hpower
  · dsimp only
    rw [hmissed]
    rfl

/-! ## Patrol scrub -/

/-- A scrub of a memory that ends its pass records the pass (17 R617). -/
theorem undertowLate_power (k dom due : Nat) (s : State) : ∃ l, (undertowLate k dom due s).power = { s.power with passLate := l } := by
  unfold undertowLate raiseIf
  dsimp only
  split
  · exact ⟨_, rfl⟩
  · split
    · rw [raise_power]
      exact ⟨_, rfl⟩
    · exact ⟨_, rfl⟩

theorem scrubActivity_lt (m : Nat) : (scrubActivity m).1 < 12 := by
  unfold scrubActivity
  repeat' split
  all_goals decide

theorem doPatrolScrub_of_up {m p a : Nat} {corr pass : Bool} {x y : Int} {s : State} (hm : m ≤ 5) (hd : domainUp s (scrubActivity m).2 = true) :
    doPatrolScrub m p a corr pass x y s = if pass then scrubLate m pass s else if corr then eccCorrected m a (scrubLate m pass s)
      else eccOwner m p a x y (eccBad m a (scrubLate m pass s)) := by
  unfold doPatrolScrub
  rw [if_neg (by simp [hd]; omega)]

/-- The late check of a scrub is an undertow check at some instant; the end of a pass is recorded after it (17 R617, R618). -/
theorem scrubLate_eq (m : Nat) (s : State) : ∃ due, ∀ pass, scrubLate m pass s =
    if pass then passDone (scrubActivity m).1 (undertowLate (scrubActivity m).1 (scrubActivity m).2 due s) else undertowLate (scrubActivity m).1 (scrubActivity m).2 due s := by
  unfold scrubLate
  exact ⟨_, fun _ => rfl⟩

theorem patrolScrub_pass {m p a : Nat} {x y : Int} {s : State} (hm : m ≤ 5) (hd : domainUp s (scrubActivity m).2 = true) (hl : s.power.passAt.length = 12) :
    reaches (.patrolScrub m p a true true x y) s (fun u => u.power.passAt.getD (scrubActivity m).1 0 = s.time.cyc ∧ u.power.eccFatal = s.power.eccFatal ∧
      u.power.eccCorr = s.power.eccCorr) := by
  refine reaches_done rfl ?_
  obtain ⟨due, hlate⟩ := scrubLate_eq m s
  rw [settle_power, doPatrolScrub_of_up hm hd, if_pos rfl, hlate, if_pos rfl]
  obtain ⟨l, hp⟩ := undertowLate_power (scrubActivity m).1 (scrubActivity m).2 due s
  have ht : (undertowLate (scrubActivity m).1 (scrubActivity m).2 due s).time = s.time := undertowLate_touches.same .time (by decide)
  unfold passDone
  dsimp only
  rw [hp, ht]
  exact ⟨getD_lmod_const (by rw [hl]; exact scrubActivity_lt m), rfl, rfl⟩

theorem scrubLate_effect (m : Nat) (s : State) : ∃ l, (scrubLate m false s).power = { s.power with passLate := l } ∧
    (scrubLate m false s).raster = s.raster ∧ (scrubLate m false s).sec = s.sec := by
  obtain ⟨due, hlate⟩ := scrubLate_eq m s
  rw [hlate, if_neg (by decide)]
  obtain ⟨l, hp⟩ := undertowLate_power (scrubActivity m).1 (scrubActivity m).2 due s
  exact ⟨l, hp, undertowLate_touches.same .raster (by decide), undertowLate_touches.same .sec (by decide)⟩

theorem eccCorrected_effect (m a : Nat) (s : State) : (eccCorrected m a s).power.eccCorr = lmod s.power.eccCorr m (fun v => (v + 1) % 2 ^ 32) ∧
    (eccCorrected m a s).power.eccFatal = s.power.eccFatal ∧ (eccCorrected m a s).raster = s.raster ∧ (eccCorrected m a s).sec = s.sec := by
  unfold eccCorrected
  dsimp only
  rw [raiseIf_touches.same .power (by decide), raiseIf_touches.same .raster (by decide), raiseIf_sec]
  exact ⟨rfl, rfl, rfl, rfl⟩

theorem patrolScrub_corrected {m p a : Nat} {x y : Int} {s : State} (hm : m ≤ 5) (hd : domainUp s (scrubActivity m).2 = true) :
    reaches (.patrolScrub m p a true false x y) s (fun u => u.power.eccCorr = lmod s.power.eccCorr m (fun v => (v + 1) % 2 ^ 32) ∧ u.power.eccFatal = s.power.eccFatal ∧
      u.raster = s.raster ∧ u.sec = s.sec) := by
  refine reaches_done rfl ?_
  obtain ⟨l, hp, hraster, hsec⟩ := scrubLate_effect m s
  obtain ⟨hcorr, hfatal, hr, hs⟩ := eccCorrected_effect m a (scrubLate m false s)
  rw [settle_power, settle_raster, settle_sec, doPatrolScrub_of_up hm hd, if_neg (by decide), if_pos rfl, hcorr, hfatal, hr, hs, hp]
  exact ⟨rfl, rfl, hraster, hsec⟩

theorem eccBad_fatal (m a : Nat) (s : State) : (eccBad m a s).power.fatal = s.power.fatal := by
  rw [eccBad, raise_power]

theorem doPatrolScrub_uncorrectable {m p a : Nat} {x y : Int} {s : State} (hm : m ≤ 5) (hd : domainUp s (scrubActivity m).2 = true) :
    ∃ u, doPatrolScrub m p a false false x y s = eccOwner m p a x y u ∧ u.power.fatal = s.power.fatal := by
  obtain ⟨l, hp, -, -⟩ := scrubLate_effect m s
  refine ⟨eccBad m a (scrubLate m false s), ?_, ?_⟩
  · rw [doPatrolScrub_of_up hm hd, if_neg (by decide), if_neg (by decide)]
  · rw [eccBad_fatal, hp]

theorem eccOwner_island (a : Nat) (x y : Int) (s : State) : eccOwner 1 4 a x y s = fatal 2 a s := rfl

theorem patrolScrub_island {a : Nat} {x y : Int} {s : State} (hd : domainUp s (scrubActivity 1).2 = true) (hf : s.power.fatal = none) :
    reaches (.patrolScrub 1 4 a false false x y) s (fun u => u.power.fatal = some 2 ∧ u.power.st = .safe) := by
  refine reaches_done rfl ?_
  obtain ⟨u, hdo, hkept⟩ := doPatrolScrub_uncorrectable (p := 4) (a := a) (x := x) (y := y) (show 1 ≤ 5 by decide) hd
  obtain ⟨hfatal, hst, -⟩ := fatal_at_once (param := a) (hkept.trans hf) (show 2 ≠ 3 by decide) (by decide)
  rw [settle_power, hdo, eccOwner_island]
  exact ⟨hfatal, hst⟩

/-! ## Soundings and RECORDER_LOSS -/

/-- The sounding that is due at an instant (17 R619). -/
def soundingAt (due : Nat) (t : Int) (e p : Nat) (s : State) : State :=
  undertowLate 9 2 due (passDone 9 { runToCyc due s with power := { (runToCyc due s).power with
    soundings := ((runToCyc due s).power.soundings ++ [soundingBytes t e p (runToCyc due s)]).drop
      (((runToCyc due s).power.soundings ++ [soundingBytes t e p (runToCyc due s)]).length - 64)
    soundSeq := ((runToCyc due s).power.soundSeq + 1) % 65536
    soundAt := (runToCyc due s).time.cyc } })

theorem doSounding_unsubscribed {t : Int} {e p : Nat} {s : State} (hd : domainUp s 2 = true) (hs : s.power.soundSub = false) :
    doSounding t e p s = soundingAt (s.power.soundAt + cycMs (1000 * s.power.soundPeriod)) t e p s := by
  unfold doSounding
  rw [if_neg (by simp [hd])]
  dsimp only
  rw [runToCyc_power, if_neg (by simp [hs])]
  unfold soundingAt
  rw [runToCyc_power]

theorem soundingAt_power (due : Nat) (t : Int) (e p : Nat) (s : State) :
    (soundingAt due t e p s).power.soundings = (s.power.soundings ++ [soundingBytes t e p (runToCyc due s)]).drop (s.power.soundings.length + 1 - 64) ∧
      (soundingAt due t e p s).power.soundSeq = (s.power.soundSeq + 1) % 65536 ∧ (soundingAt due t e p s).power.soundAt = (runToCyc due s).time.cyc := by
  have hpower := runToCyc_power due s
  unfold soundingAt
  generalize runToCyc due s = u at hpower
  obtain ⟨l, hp⟩ := undertowLate_power 9 2 due (passDone 9 { u with power := { u.power with
    soundings := (u.power.soundings ++ [soundingBytes t e p u]).drop ((u.power.soundings ++ [soundingBytes t e p u]).length - 64)
    soundSeq := (u.power.soundSeq + 1) % 65536, soundAt := u.time.cyc } })
  rw [hp, ← hpower]
  refine ⟨?_, rfl, rfl⟩
  show (u.power.soundings ++ [soundingBytes t e p u]).drop ((u.power.soundings ++ [soundingBytes t e p u]).length - 64) = _
  rw [List.length_append, List.length_singleton]

theorem sounding_kept {t : Int} {e p : Nat} {s : State} (hd : domainUp s 2 = true) (hs : s.power.soundSub = false) :
    reaches (.sounding t e p) s (fun u => let r := runToCyc (s.power.soundAt + cycMs (1000 * s.power.soundPeriod)) s
      u.power.soundings = (s.power.soundings ++ [soundingBytes t e p r]).drop (s.power.soundings.length + 1 - 64) ∧ u.power.soundSeq = (s.power.soundSeq + 1) % 65536 ∧
      u.power.soundAt = r.time.cyc) := by
  refine reaches_done rfl ?_
  rw [settle_power, doSounding_unsubscribed hd hs]
  exact soundingAt_power _ t e p s

theorem recorderLoss_written {t : Nat} {s s1 : State} (hf : s.recorder.firstDrop = some t) (hrun : runTo (sec1 * (s.recorder.lastDropSec + 2)) s = s1) :
    exec .recorderLoss s = .next (settle (raise { code := 0x1101, sev := max 2 (highestDrop s.recorder.lossDrops), p0 := packDrops s.recorder.lossDrops 0, p1 := packDrops s.recorder.lossDrops 4, p2 := min 0xFFFFFFFF s.recorder.lossDrops.sum, first := some t }
      { s1 with recorder := { s1.recorder with lossDrops := List.replicate 8 0, firstDrop := none } })) := by
  have hrec : s1.recorder = s.recorder := hrun ▸ runTo_touches.same .recorder (by decide)
  show done (doRecorderLoss s) = done _
  unfold doRecorderLoss
  rw [hf]
  dsimp only
  rw [hrun, hrec]
  rfl

theorem recorderLoss_none {s : State} (hf : s.recorder.firstDrop = none) : exec .recorderLoss s = .next (settle s) := by
  show done (doRecorderLoss s) = done s
  unfold doRecorderLoss
  rw [hf]

/-- Settles O58: the warning, PMBus, the fatal faults and the checks, each by what it leaves of the power part. -/
theorem powerEvents : Obligations.PowerEvents := by
  unfold Obligations.PowerEvents
  refine ⟨fun n s hp hst => powerPfw_spring hp hst, fun n s hp hst => powerPfw_neap hp hst, fun n s hp => powerPfw_again hp, fun n t s hp => powerPfwEnd_high hp,
    fun s c v mv hf hhi hlo => pmbusReadback_settled hf hhi hlo, fun s c v mv b hf => pmbusReadback_unanswered hf (.inl rfl),
    fun s c v mv hf => pmbusReadback_unanswered hf (.inr rfl), fun v s => pmbAlert_read, fun s hf => lockstepDisagreement_safe hf, fun s hf => safeHeartbeatMiss_safe hf,
    fun c s hf => ⟨congrArg done (fatal_again hf), congrArg done (fatal_again hf)⟩, fun h s => processorHeartbeat_alive,
    fun h s hm hr => processorHeartbeat_restart hm hr, fun m p a x y s hm hd hl => patrolScrub_pass hm hd hl, fun m p a x y s hm hd => patrolScrub_corrected hm hd, ?_,
    fun t e p s hd hs => sounding_kept hd hs, fun t s s1 hf hrun => recorderLoss_written hf hrun, fun s hf => recorderLoss_none hf⟩
  rintro a p x y s - hd hf rfl
  exact patrolScrub_island hd hf

end Sys2Proof.Proofs

namespace Sys2Proof.Proofs
open Sys2Proof Sys2Proof.Machine Sys2Proof.Safety

/-! ## POWER_SET_STATE -/

/-- What follows the completion of POWER_SET_STATE: SLACK is entered only when the command ordered it (17 R607). -/
theorem slackNow_other {s : State} (h : s.power.entering ≠ some .slack) : slackNow s = s := by
  unfold slackNow
  rw [if_neg (by simpa using h)]

theorem powerSetState_answers {c : Cmd} {s u : State} {st : Nat} {r : List Byte} (ha : admitted 0x1002 1 0 none c s)
    (hb : powerSetState (prmOf c) s = (.now st r, u)) (hu : u.power.entering ≠ some .slack) : answers (.powerSetState c) c 0x1002 st r s u := by
  show done (slackNow (command 0x1002 1 0 none powerSetState c s)) = _
  rw [command_of_admitted ha hb, slackNow_other (by rw [complete_power]; exact hu)]
  rfl

theorem powerSetState_neap {p : List Byte} {s : State} (h2 : uAt p 0 1 = 2) (hst : s.power.st = .spring) (hm : leaveMask s = 0) :
    powerSetState p s = accepted { s with power := { s.power with entering := some .neap } } := by
  unfold powerSetState
  rw [h2, hst, hm]
  rfl

theorem powerSetState_busy {p : List Byte} {s : State} (ht : uAt p 0 1 = 1 ∨ uAt p 0 1 = 2) (hst : s.power.st = .spring) (hm : leaveMask s ≠ 0) :
    powerSetState p s = (.now stBadState (le 4 (leaveMask s)), s) := by
  unfold powerSetState
  dsimp only
  rw [if_neg (by rcases ht with h | h <;> simp [h]), if_pos (by rcases ht with h | h <;> simp [h, hst, hm])]

theorem powerSetState_slack {p : List Byte} {s : State} (h1 : uAt p 0 1 = 1) (hst : s.power.st = .neap ∨ s.power.st = .spring ∧ leaveMask s = 0) :
    powerSetState p s = accepted { s with power := { s.power with entering := some .slack } } := by
  unfold powerSetState
  rw [h1]
  rcases hst with hst | ⟨hst, hm⟩
  · rw [hst]
    rfl
  · rw [hst, hm]
    rfl

theorem powerSetState_spring {p : List Byte} {s : State} (h3 : uAt p 0 1 = 3) (hst : s.power.st = .spring) (he : s.power.entering = none) :
    powerSetState p s = accepted s := by
  unfold powerSetState
  rw [h3, hst, he]
  rfl

theorem powerSetState_unknown {p : List Byte} {s : State} (h : uAt p 0 1 = 0 ∨ 3 < uAt p 0 1) : powerSetState p s = refuse stBadParam s := by
  unfold powerSetState
  rw [if_pos (by simpa using h)]

/-- SLACK is a restart of a state with the OTP of the one before: what comes ahead of it leaves OTP alone (17 R607). -/
theorem enterSlack_otp (s : State) : (enterSlack s).otp = s.otp := by
  obtain ⟨w, hw, hotp⟩ : ∃ w, Touches [.out, .freeCtr, .mem, .harbour, .knani, .axes, .meter, .sec, .journal, .power, .recorder] s w ∧ (enterSlack s).otp = w.otp :=
    ⟨_, setPower_touches.after (.setJournal (.ite (.ite (quiesce_touches.after .refl) .refl) (doPcieLinkChange_touches.after (.ite (quiesce_touches.after .refl) .refl)))), rfl⟩
  exact hotp.trans (hw.same .otp (by decide))

/-- What SLACK leaves: the state of a restart, with the wake that was kept, and OTP (17 R604). -/
theorem enterSlack_effect (s : State) : (enterSlack s).power.st = .slack ∧ (enterSlack s).power.wakeKept = s.power.wakeKept ∧ (enterSlack s).sec.keys = [] ∧
    (enterSlack s).otp = s.otp :=
  ⟨rfl, rfl, rfl, enterSlack_otp s⟩

theorem wakeAfter_none {s : State} (h : s.power.wakeKept = none) : wakeAfter s = s := by
  unfold wakeAfter
  rw [h]

theorem powerSetState_enters {c : Cmd} {s : State} (ha : admitted 0x1002 1 0 none c s) (h1 : uAt (prmOf c) 0 1 = 1)
    (hst : s.power.st = .neap ∨ s.power.st = .spring ∧ leaveMask s = 0) (hw : s.power.wakeKept = none) :
    exec (.powerSetState c) s = .next (settle (enterSlack { complete c.mbx c.slot 0x1002 c.tag.toNat stAccepted [] { s with power := { s.power with entering := some .slack } } with
      power := { s.power with entering := none } })) := by
  have hpower := complete_power c.mbx c.slot 0x1002 c.tag.toNat stAccepted [] { s with power := { s.power with entering := some .slack } }
  show done (slackNow (command 0x1002 1 0 none powerSetState c s)) = _
  rw [command_of_admitted ha (powerSetState_slack h1 hst)]
  generalize complete c.mbx c.slot 0x1002 c.tag.toNat stAccepted [] { s with power := { s.power with entering := some .slack } } = v at hpower
  unfold slackNow
  rw [hpower, if_pos (by rfl), wakeAfter_none]
  · rfl
  · exact (enterSlack_effect _).2.1.trans hw

theorem powerSetState_slack_reached {c : Cmd} {s : State} (ha : admitted 0x1002 1 0 none c s) (h1 : uAt (prmOf c) 0 1 = 1)
    (hst : s.power.st = .neap ∨ s.power.st = .spring ∧ leaveMask s = 0) (hw : s.power.wakeKept = none) :
    reaches (.powerSetState c) s (fun u => u.power.st = .slack ∧ u.sec.keys = [] ∧ u.otp = s.otp) := by
  refine reaches_done (powerSetState_enters ha h1 hst hw) ?_
  obtain ⟨hslack, -, hkeys, hotp⟩ := enterSlack_effect { complete c.mbx c.slot 0x1002 c.tag.toNat stAccepted [] { s with power := { s.power with entering := some .slack } } with
    power := { s.power with entering := none } }
  rw [settle_power, settle_sec, settle_otp]
  exact ⟨hslack, hkeys, hotp.trans (complete_otp _ _ _ _ _ _ _)⟩

/-! ## Wake sources and soundings -/

theorem powerWakeConfig_set {p : List Byte} {s : State} (hm : uAt p 0 1 ≤ 15) (hz : zeros p 2 2 = true) (halarm : uAt p 4 8 = 0 ∨ dtNow s < sec1 * uAt p 4 8) :
    powerWakeConfig p s = ok { s with power := { s.power with wakeMask := uAt p 0 1, wakeEdges := uAt p 1 1, wakeAlarm := uAt p 4 8 } } := by
  unfold powerWakeConfig
  dsimp only
  rw [if_neg (by simp [hz]; omega), if_neg (by simp; omega)]

theorem powerWakeConfig_stale {p : List Byte} {s : State} (hm : uAt p 0 1 ≤ 15) (hz : zeros p 2 2 = true) (hset : uAt p 4 8 ≠ 0) (hpast : sec1 * uAt p 4 8 ≤ dtNow s) :
    powerWakeConfig p s = refuse stStale s := by
  unfold powerWakeConfig
  dsimp only
  rw [if_neg (by simp [hz]; omega), if_pos (by simp [hset, hpast])]

theorem powerSoundingConfig_set {p : List Byte} {n b : Nat} {s : State} (hn : uAt p 0 2 = n) (h1 : 1 ≤ n) (h3600 : n ≤ 3600) (hb : uAt p 2 1 = b) (hb1 : b ≤ 1) :
    powerSoundingConfig p s = ok { s with power := { s.power with soundPeriod := n, soundSub := b == 1 } } := by
  unfold powerSoundingConfig
  rw [hn, hb]
  dsimp only
  rw [if_neg (by simp; omega)]

theorem powerSoundingRead_newest {p : List Byte} {n : Nat} {s : State} (hn : uAt p 0 1 = n) (h1 : 1 ≤ n) (h3 : n ≤ 3) :
    powerSoundingRead p s = okWith ((s.power.soundings.reverse.take n).flatten) s := by
  unfold powerSoundingRead
  rw [hn]
  dsimp only
  rw [if_neg (by simp; omega)]

/-! ## RECORDER_READ and its configuration -/

theorem recorderRead_ring {p : List Byte} {q n : Nat} {s : State} (hq : uAt p 0 2 = q) (hn : uAt p 2 1 = n) (h1 : 1 ≤ n) (h7 : n ≤ 7) (hf : uAt p 3 1 = 0) :
    recorderRead p s = okWith (((s.recorder.ring.filter (fun r => decide (0 ≤ diffN 16 r.seq q))).map evBytes).take n).flatten s := by
  unfold recorderRead
  rw [hq, hn, hf]
  dsimp only
  rw [if_neg (by simp; omega), if_neg (by decide)]

theorem recorderRead_journal {p : List Byte} {q n : Nat} {s : State} (hq : uAt p 0 2 = q) (hn : uAt p 2 1 = n) (h1 : 1 ≤ n) (h7 : n ≤ 7) (hf : uAt p 3 1 = 1) :
    recorderRead p s = okWith (((journalEvents s).filter (fun b => decide (0 ≤ diffN 16 (uAt b 28 2) q))).take n).flatten s := by
  unfold recorderRead
  rw [hq, hn, hf]
  dsimp only
  rw [if_neg (by simp; omega), if_pos (by decide)]

theorem recorderSubscribe_set {p : List Byte} {v : Nat} {s : State} (hv : uAt p 0 1 = v) (h : v ≤ 7 ∨ v = 0xFF) :
    recorderSubscribe p s = ok { s with recorder := { s.recorder with subscribe := if v = 0xFF then none else some v } } := by
  unfold recorderSubscribe
  rw [hv]
  dsimp only
  rcases h with h | rfl
  · rw [if_neg (by simp; omega), if_neg (by omega), if_neg (by omega)]
  · rfl

theorem recorderConfig_set {p : List Byte} {s : State} (hrate : uAt p 2 1 ≠ 0) (hmin : uAt p 3 1 ≤ 7) :
    recorderConfig p s = ok { s with recorder := if uAt p 0 2 == 0 then { s.recorder with mirrorMin := uAt p 3 1, rate := uAt p 2 1, rates := [] }
      else { s.recorder with mirrorMin := uAt p 3 1, rates := tset s.recorder.rates (uAt p 0 2) (uAt p 2 1) } } := by
  unfold recorderConfig
  dsimp only
  rw [if_neg (by simp [hrate]; omega)]

theorem recorderConfig_refused {p : List Byte} {s : State} (h : uAt p 2 1 = 0 ∨ 7 < uAt p 3 1) : recorderConfig p s = refuse stBadParam s := by
  unfold recorderConfig
  dsimp only
  rw [if_pos (by simpa using h)]

/-- Settles O59: POWER_SET_STATE by what follows its completion, the other commands each by its body. -/
theorem powerRecorderCommands : Obligations.PowerRecorderCommands := by
  unfold Obligations.PowerRecorderCommands
  refine ⟨fun c s ha => answers_command rfl ha rfl, fun c s ha h2 hst hm he => powerSetState_answers ha (powerSetState_neap h2 hst hm) (by simp),
    fun c s ha ht hst hm he => powerSetState_answers ha (powerSetState_busy ht hst hm) (by simp [he]),
    fun c s ha h1 hst hw => ⟨powerSetState_enters ha h1 hst hw, powerSetState_slack_reached ha h1 hst hw⟩,
    fun c s ha h3 hst he => powerSetState_answers ha (powerSetState_spring h3 hst he) (by simp [he]),
    fun c s ha ht he => powerSetState_answers ha (powerSetState_unknown ht) (by simp [he]),
    fun c s p ha hp hm hz hal => answers_command rfl ha (by rw [hp]; exact powerWakeConfig_set hm hz hal),
    fun c s p ha hp hm hz h0 hpast => answers_command rfl ha (by rw [hp]; exact powerWakeConfig_stale hm hz h0 hpast),
    fun c s n b ha hn h1 h3600 hb hb1 => answers_command rfl ha (powerSoundingConfig_set hn h1 h3600 hb hb1),
    fun c s n ha hn h1 h3 => answers_command (m := 64 * min 3 (uAt (prmOf c) 0 1)) rfl ha (powerSoundingRead_newest hn h1 h3),
    fun c s ha => answers_command rfl ha rfl,
    fun c s q n ha hq hn h1 h7 hf => answers_command (m := min 224 (recorderReadMax c)) rfl ha (recorderRead_ring hq hn h1 h7 hf),
    fun c s q n ha hq hn h1 h7 hf => answers_command (m := min 224 (recorderReadMax c)) rfl ha (recorderRead_journal hq hn h1 h7 hf),
    fun c s v ha hv h => answers_command rfl ha (recorderSubscribe_set hv h),
    fun c s p ha hp hrate hmin => answers_command rfl ha (by rw [hp]; exact recorderConfig_set hrate hmin),
    fun c s p ha hp h => answers_command rfl ha (by rw [hp]; exact recorderConfig_refused h), fun c s ha => answers_command rfl ha rfl⟩

end Sys2Proof.Proofs
